-- ==== Sys2Proof/Word.lean ====
section
/-! DEFINITION. The word types of the module, bytes, and the two container types of the state: a
sparse table of like units (`Tbl`) and a queue-like list. Hexadecimal and bit numbering follow the
reading conventions of 00_scope.md: bits from 0 at the least significant, little-endian. -/

namespace Sys2Proof

abbrev Byte := BitVec 8
/-- A register or instruction word (R47, R82). -/
abbrev Word := BitVec 32
/-- A data register of the Arithmetic Unit, Q15 (03, "Arithmetic Unit"). -/
abbrev Half := BitVec 16
/-- An accumulator of 40 bits (03, "Arithmetic Unit"). -/
abbrev Acc := BitVec 40
/-- A completion status or Service Channel code (R311). -/
abbrev Code := BitVec 16

/-- A table of like units, keyed by unit number. A key that no row lists reads as `dflt`, the value
of a unit nothing has touched. Rows are kept in rising key order by `Tbl.set`. -/
structure Tbl (α : Type) where
  dflt : α
  rows : List (Nat × α) := []
  deriving DecidableEq, Repr

end Sys2Proof
end

