-- ==== Sys2Proof/Config.lean ====
section
/-! DEFINITION. What an implementation fixes and what the manual leaves open: the variants, the free
values (opaque constants, no body), and the data that reaches the module from outside and is named by
commands: configuration packages, images, tokens, descriptors, frames and records. -/

namespace Sys2Proof

/-! ## Free values: nothing is known of them (log 4) -/

/-- A word the manual leaves open; the argument is the state's counter of free values. -/
opaque Config.freeWord : Nat → BitVec 64
/-- The keyed hash of R244: bucket index of bank `b` for key `k` of address and VLAN. -/
opaque Config.hashIndex : (b k addr vlan : Nat) → Nat
/-- The result of the fractional-delay interpolation of R144 on input samples. -/
opaque Config.interpolate : (delayNs rate : Nat) → List Int → Nat → Int
/-- A digest named by an outside standard (SHA3-512, KMAC256) of a list of bytes. -/
opaque Config.digest : List Byte → BitVec 512
/-- The 8-byte digest of a dataset in a publisher record (R162). -/
opaque Config.dataDigest : List Byte → BitVec 64
/-- Number of the Event Recorder channel of an event or alarm of the firmware, by its place in `Ev` (R385). -/
opaque Config.evChannel : Nat → Nat
/-- The image of a histogram and of a persistence map that PER_READ copies (R382). -/
opaque Config.histImage : List Nat → List Byte
opaque Config.pmapImage : List (Nat × Nat) → List Byte
/-- The content of a section of a crash dump, by the dump's number, its stage and the section's KIND (R395). -/
opaque Config.dumpSection : (no stage kind : Nat) → List Byte
/-- The names, detail formats and severities of the firmware's channels (R385). -/
opaque Config.channelTable : List Byte
/-- KMAC256 of R407: parent key, context, length in bytes. -/
opaque Config.kmac : List Byte → List Byte → Nat → List Byte
/-- The identity key pair that a random value generates, the public key in it, and a hedged ML-DSA-87 signature of
4,627 bytes by a key pair (R69, R408, R413). -/
opaque Config.keyPair : BitVec 64 → List Byte
opaque Config.publicKey : List Byte → List Byte
opaque Config.sign : List Byte → List Byte → BitVec 64 → List Byte
/-- PHASE of the entry of a reset report for the completion of this SEQ (R301, R328). -/
opaque Config.reportPhase : Nat → Bool
/-- The clock identity of a module by its MODNUM, and the time inaccuracy that a grandmaster tells (R261). -/
opaque Config.clockId : Nat → Nat
opaque Config.inaccuracy : Nat → Nat
/-- The SHA3-512 digest of the boot ROM (R413). -/
opaque Config.romDigest : BitVec 512
/-- Byte `n` of the package with a digest, as body items carry it (R355). -/
opaque Config.packageByte : BitVec 512 → Nat → Byte

/-! ## Names of 00_scope.md and 02_bringup_and_life_cycle.md -/

/-- The three variants (00, "Variants"). -/
inductive Variant | gn9410 | gn9420 | gn9430
  deriving DecidableEq, Repr

/-- The variant of the modelled module. GLB_ID.PART has reset "Variant": DESIGN CHOICE, log 2. -/
def Config.variant : Variant := .gn9410

/-- Life-cycle states, coded as GLB_STAT.LCS (R59). -/
inductive Lcs | manufacture | provisioned | operational | service | decommissioned
  deriving DecidableEq, Repr

/-- PHASE of GLB_STAT (R59). -/
inductive Phase
  | kaStart | boot | mmStart | selfTest | setup | running | held | bootFailed | safe
  deriving DecidableEq, Repr

/-- KA_RSTCAUSE.CAUSE (R62). -/
inductive RstCause
  | powerOn | powerReturn | cmdWarm | cmdCold | lcTransition | kaWatchdog | bistSafe
  deriving DecidableEq, Repr

/-- BANK_x_RESULT of KA_BOOT (R62). -/
inductive BankResult | notTried | good | bad | rollback
  deriving DecidableEq, Repr

/-- A switchable unit (R75): ports, lenses, arms, PWM channels, field-bus controllers, Focus chains,
beam lanes and slices. -/
inductive UnitId
  | port (p : Nat) | lens (n : Nat) | arm (a : Nat) | pwm (n : Nat) | fbc (b : Nat)
  | chain (l c : Nat) | beam (l : Nat) | slice (s : Nat)
  deriving DecidableEq, Repr

/-- Facet roles, coded as LNSn_FSTAT.ROLE (R107). -/
inductive Role | spare | protection | logic | loop | focusAssist
  deriving DecidableEq, Repr

/-- Lens power policy (R34, R106). -/
inductive Policy | pinRun | allowIdle | allowRetain
  deriving DecidableEq, Repr

/-! ## The configuration package: what it declares for each unit -/

/-- A span of bytes: offset and length. -/
structure Span where
  off : Nat
  len : Nat
  deriving DecidableEq, Repr

/-- An instance of the state map of an exchange (R134, R135): kind 0 timer, 1 counter, 2 edge
detector; the identity and the index. -/
structure Instance where
  kind : Nat
  ident : Nat
  index : Nat
  deriving DecidableEq, Repr

/-- One facet of a package (R10, R13, R16, R77, R98). `lanes` are the trip lanes it may drive. -/
structure FacetCfg where
  role : Role := .spare
  progId : Nat := 0
  code : List Word := []
  data : List (Nat × Byte) := []
  input : Span := ⟨0x2500, 0⟩
  output : Span := ⟨0x2500, 0⟩
  sealArea : Span := ⟨0x2500, 0⟩
  /-- Span of the input window copied to image I (03, "Windows, wake and output"). -/
  imageI : Span := ⟨0, 0⟩
  /-- Where the window loader's stream mode shows stream records (R79, log 60). -/
  streamArea : Span := ⟨0x2500, 0⟩
  /-- Receive queues 0 to 3 that the package declares (R96). -/
  queues : List Nat := []
  lanes : List Nat := []
  ownerSlice : Nat := 0
  /-- Declared state of a loop program, carried over an exchange (R134, R135). -/
  retain : List (Nat × Span) := []
  instances : List Instance := []
  deriving DecidableEq, Repr

structure LensCfg where
  policy : Policy := .pinRun
  /-- The declared spare facets (R11). -/
  spares : List Nat := []
  isSpareLens : Bool := false
  deriving DecidableEq, Repr

/-- A part of a logic program's output image that goes to a station (R109, R126). -/
structure OutPart where
  station : Nat
  span : Span
  deriving DecidableEq, Repr

structure LogicCfg where
  present : Bool := false
  lens : Nat := 0
  facet : Nat := 0
  minPeriodUs : Nat := 100
  watchdogUs : Nat := 10000
  wcetKnown : Bool := false
  declaredRunning : Bool := true
  stations : List Nat := []
  outputs : List OutPart := []
  initialImage : List Byte := []
  safeImage : List Byte := []
  /-- RETAIN items: persistent identity and span of facet data memory inside the seal area (R118). -/
  retain : List (Nat × Span) := []
  instances : List Instance := []
  deriving DecidableEq, Repr

/-- FBC_STN_CFG and the outputs of one station (R128, R133). -/
structure StnCfg where
  en : Bool := false
  inLen : Nat := 0
  outLen : Nat := 0
  k : Nat := 3
  txid : Nat := 0
  initial : List Byte := []
  deriving DecidableEq, Repr

/-- FBC_COND(j) (R133). -/
structure CondCfg where
  en : Bool := false
  station : Nat := 0
  bit : Nat := 0
  debounce : Nat := 0
  chatterN : Nat := 0
  chatterW : Nat := 0
  quiet : Nat := 0
  stuck : Nat := 0
  deriving DecidableEq, Repr

/-- SWC_SV_SUB, SWC_SV_CFG, SWC_SV_AUTH of a subscription (R141) and what the package holds besides. -/
structure SvCfg where
  en : Bool := false
  appid : Nat := 0
  vlan : Nat := 0
  rate : Nat := 0
  authReq : Bool := false
  maxAgeUs : Nat := 2000
  lensMask : BitVec 16 := 0
  keyCur : Nat := 0
  alg : Nat := 0
  svid : Nat := 0
  confRev : Nat := 0
  nomlatNs : Nat := 0
  deriving DecidableEq, Repr

/-- LNSn_FCH_CFG and the bank of one chain (R142, R143, R151). -/
structure ChainCfg where
  present : Bool := false
  preset : Nat := 0
  rate : Nat := 0
  taps : List Int := []
  gd : Nat := 0
  ownerSlice : Nat := 0
  deriving DecidableEq, Repr

/-- LNSn_FSLOT_CFG and DLY (R151). -/
structure SlotCfg where
  en : Bool := false
  stream : Nat := 0
  chan : Nat := 0
  chain : Nat := 0
  delay : Nat := 0
  deriving DecidableEq, Repr

/-- One setting in a function's range table (R156): where it lies, its size in bytes, whether it is signed, and its
bounds. -/
structure SettingRange where
  off : Nat := 0
  len : Nat := 1
  signed : Bool := false
  lo : Int := 0
  hi : Int := 0
  deriving DecidableEq, Repr

/-- A protection slice: its facets and chains (R152, R153, R317), and the range table of each function's settings
(R156), by facet * 32 + function. -/
structure ProtCfg where
  present : Bool := false
  lens : Nat := 0
  facets : List Nat := []
  chains : List Nat := []
  svLatUs : Nat := 100
  ranges : List (Nat × List SettingRange) := []
  deriving DecidableEq, Repr

/-- GLB_TO_MASK and GLB_TO_CFG (R159). -/
structure ToCfg where
  mask : BitVec 64 := 0
  minonMs : Nat := 100
  latch : Bool := false
  deriving DecidableEq, Repr

/-- Types of the members of a GOOSE dataset (R160). -/
inductive GooseKind | boolean | bitString (bits : Nat) | int32 | quality | timestamp
  deriving DecidableEq, Repr

/-- A value of a dataset member (R160). -/
inductive GooseVal
  | boolean (b : Bool) | bits (n v : Nat) | int32 (v : Int) | quality (v : Nat) | timestamp (v : Nat)
  deriving DecidableEq, Repr

/-- A member that ISSUE takes from an output window: its type and its offset there (R153, R161, log 14). -/
structure GooseMember where
  kind : GooseKind := .int32
  off : Nat := 0
  deriving DecidableEq, Repr

/-- SWC_GP_CFG and the binding of a GOOSE publisher (R160 to R163). The lane members come first in the dataset. -/
structure GpCfg where
  en : Bool := false
  command : Bool := false
  t1 : Nat := 5
  t0 : Nat := 100
  lanes : BitVec 64 := 0
  key : Nat := 0
  alg : Nat := 0
  /-- Slice whose mode and keys it uses. -/
  slice : Nat := 0
  /-- The facet whose ISSUE gives the members that are no lane members (R153, R161). -/
  lens : Nat := 0
  facet : Nat := 0
  members : List GooseMember := []
  /-- How its frames leave: egress ports, destination, VLAN, PCP and length (log 81). -/
  ports : BitVec 24 := 0
  dst : BitVec 48 := 0x010CCD010000
  vlan : Option Nat := none
  pcp : Nat := 4
  len : Nat := 200
  deriving DecidableEq, Repr

structure GsCfg where
  en : Bool := false
  authReq : Bool := false
  /-- Slice whose mode and keys it uses. -/
  slice : Nat := 0
  key : Nat := 0
  alg : Nat := 0
  deriving DecidableEq, Repr

/-- A published sampled-value stream (R137, R164). A channel lies in the output window as an INT32 value and its
32-bit quality, at the offset given. -/
structure SvPubCfg where
  en : Bool := false
  tp : Nat := 0
  rate : Nat := 0
  lens : Nat := 0
  facet : Nat := 0
  command : Bool := false
  appid : Nat := 0
  svid : Nat := 0
  confRev : Nat := 0
  channels : List Nat := []
  asdus : Nat := 1
  /-- Slice whose simulation mode and key it uses. -/
  slice : Nat := 0
  key : Nat := 0
  alg : Nat := 0
  /-- How its frames leave (log 81). -/
  ports : BitVec 24 := 0
  dst : BitVec 48 := 0x010CCD040000
  vlan : Option Nat := none
  pcp : Nat := 4
  len : Nat := 128
  deriving DecidableEq, Repr

/-- CNV_ARM_MAP, CNV_ARM_LIM, CNV_ARM_IHYST, BLN_ARM_EDGE and block mask of an arm (R194, R226), with
the engine settings of PRM_CFG, PRM_TOL, PRM_BUDGET (R195). -/
structure ArmCfg where
  present : Bool := false
  firstLane : Nat := 0
  lanes : Nat := 1
  smCount : Nat := 1
  psc : Bool := false
  carriers : Nat := 1
  pscM : Nat := 1
  isrc : Nat := 0
  deblockFrames : Nat := 16
  staleLimit : Nat := 2
  holdLimit : Nat := 3
  lens : Nat := 0
  lead : Nat := 0
  outOff : Nat := 0
  ihyst : Nat := 0
  dead : Nat := 0
  minp : Nat := 0
  mask : BitVec 64 := 0
  dirMode : Nat := 0
  tol : Nat := 0
  rate : Nat := 0
  depth : Nat := 1
  deriving DecidableEq, Repr

/-- The converter section (R168, R170, R193). -/
structure CnvCfg where
  present : Bool := false
  cf : Nat := 10000
  tp : Nat := 0
  delta : Nat := 2000
  calIntervalS : Nat := 60
  deriving DecidableEq, Repr

/-- A local PWM channel (R206, R210, R223). -/
structure PwmCfg where
  present : Bool := false
  srcFacet : Bool := false
  latched : Bool := false
  sync : Nat := 0
  tp : Nat := 0
  lens : Nat := 0
  facet : Nat := 0
  recOff : Nat := 0
  period : Nat := 1000
  phase : Nat := 0
  dead : Nat := 0
  minp : Nat := 0
  cmpA : Nat := 0
  cmpB : Nat := 0
  form : Nat := 0
  mask : BitVec 64 := 0
  stuckN : Nat := 100
  deriving DecidableEq, Repr

/-- PWM_TI_CFG and lanes (R224). -/
structure TiCfg where
  en : Bool := false
  filt : Nat := 5
  darkActive : Bool := false
  stuckLim : Nat := 50
  toggleN : Nat := 20
  lanes : BitVec 64 := 0
  deriving DecidableEq, Repr

/-- SWC_CAM(i) (R252). -/
structure CamEntry where
  en : Bool := false
  addr : BitVec 48 := 0
  vlan : Nat := 0
  anyVlan : Bool := false
  ports : BitVec 24 := 0
  cls : Nat := 0
  clsEn : Bool := false
  police : Nat := 0
  burst : Nat := 1
  deriving DecidableEq, Repr

/-- SWC_RSV of a port, in units of 4 KiB (R232, R251). -/
structure Rsv where
  tc4 : Nat := 0
  tc5 : Nat := 4
  tc6 : Nat := 16
  tc7 : Nat := 4
  deriving DecidableEq, Repr

/-- Per switch port: MAC_CFG (R253), VLAN membership (R241), the reservations where the package sets them (R232). -/
structure PortCfg where
  configured : Bool := false
  speed : Nat := 0
  fec : Bool := false
  maxLen : Nat := 1522
  vlans : List Nat := []
  rsv : Option Rsv := none
  deriving DecidableEq, Repr

structure SwcCfg where
  ageS : Nat := 300
  beAlpha : Nat := 3
  pcpMap : List Nat := [3, 3, 3, 3, 3, 3, 3, 3]
  deriving DecidableEq, Repr

/-- COL_CTRL, COL_HOLD, COL_PPS, GLB_TPO (R267, R475). -/
structure ColCfg where
  ptpMode : Nat := 0
  gmCapable : Bool := false
  domain : Nat := 0
  maxSlew : Nat := 10
  holdLimit : Nat := 240
  ppsTp : Nat := 0
  ppsEn : Bool := false
  tpo : List (Nat × Bool) := []
  asym : List Int := []
  deriving DecidableEq, Repr

/-- Modes of a time pulse generator (R263). -/
inductive TpMode | off | once | periodic | perSecond
  deriving DecidableEq, Repr

/-- COL_TP of a generator (R269). START is in ns of TAI; OFFSET for PER_SECOND. -/
structure TpCfg where
  mode : TpMode := .off
  startNs : Nat := 0
  period : Nat := 100
  width : Nat := 0
  deriving DecidableEq, Repr

inductive CellType | free | exclOut (stn : Nat) | exclIn (stn : Nat) | arbitration
  deriving DecidableEq, Repr

inductive FltKind | range | dual | mask
  deriving DecidableEq, Repr

inductive FltAction | reject | station (s : Nat) | slice (s : Nat) | mm
  deriving DecidableEq, Repr

/-- FBC_FLT(b, j) (R290). -/
structure Filter where
  en : Bool := true
  kind : FltKind := .range
  ide : Bool := false
  action : FltAction := .reject
  id1 : BitVec 29 := 0
  id2 : BitVec 29 := 0
  deriving DecidableEq, Repr

/-- Field-bus controller (R273, R289, R290). `cells` lists (basic cycle, column, type). -/
structure FbcCfg where
  present : Bool := false
  dataRate : Nat := 3
  spNom : Nat := 80
  spData : Nat := 80
  autoRecover : Bool := true
  schedEn : Bool := false
  bcCount : Nat := 1
  tp : Nat := 0
  cols : List Nat := []
  refLen : Nat := 0
  filters : List Filter := []
  cells : List (Nat × Nat × CellType) := []
  deriving DecidableEq, Repr

/-- MLK_CFG, MLK_PARTNER (R374). -/
structure MlkCfg where
  paired : Bool := false
  orphanClaim : Bool := false
  tp : Nat := 0
  soloWait : Nat := 10
  orphanWait : Nat := 20
  partner : Nat := 0
  deriving DecidableEq, Repr

/-- PER_TRIG(g, c) (R398). -/
structure PerTrig where
  type : Nat := 0
  dir : Nat := 0
  channel : Nat := 0
  sel : Nat := 0
  bit : Nat := 0
  thresh : Int := 0
  w : Nat := 1
  deriving DecidableEq, Repr

/-- PER_GRP_CFG, LEN, HOLD and the group's triggers and channels (R398). -/
structure PerGrpCfg where
  present : Bool := false
  clock : Nat := 0
  src : Nat := 0
  chain : Nat := 0
  holdByEvents : Bool := false
  protect : Bool := false
  measPost : Bool := false
  owner : Nat := 0
  pre : Nat := 0
  post : Nat := 1
  hold : Nat := 1
  run : Bool := false
  trigs : List PerTrig := []
  channels : List Nat := []
  slots : Nat := 2
  deriving DecidableEq, Repr

/-- PER_CH(i) (R377, R398). -/
structure PerChCfg where
  kind : Nat := 0
  unitSel : Nat := 0
  index : Nat := 0
  /-- UNIT, SCALE and OFFSET of a record's channel table (R380). -/
  unit : Nat := 0
  scale : Nat := 0
  offset : Nat := 0
  deriving DecidableEq, Repr

/-- PER_HIST and PER_PMAP (R382, R398). -/
structure HistCfg where
  en : Bool := false
  group : Nat := 0
  channel : Nat := 0
  meas : Nat := 0
  lo : Int := 0
  hi : Int := 0
  deriving DecidableEq, Repr

/-- Source of a VALUE channel of the Event Recorder (R385): a sensor of the Module Manager, a 16-bit word of a facet's output
window by its byte offset, or VALUE of a Focus slot record. -/
inductive EvrSrc
  | sensor
  | facetWord (lens facet off : Nat)
  | slot (lens index : Nat)
  deriving DecidableEq, Repr

/-- EVR_CH_CFG(i) (R399), the bounds of R387 and the source of a VALUE channel (R385). -/
structure EvrCfg where
  en : Bool := false
  event : Bool := true
  severity : Nat := 0
  tai : Bool := false
  flush : Bool := false
  interval : Nat := 0
  owner : Nat := 0
  lo : Int := 0
  hi : Int := 0
  src : EvrSrc := .sensor
  deriving DecidableEq, Repr

/-- GLB_IOCFG, PWM_QUAL, PWM_SYNC (R224, R475). -/
structure IoCfg where
  ioCfg : BitVec 8 := 0
  qual : Nat := 25
  syncOutEn : Bool := false
  deriving DecidableEq, Repr

/-- The body of a configuration package: what it declares. A table's default is a unit the package
does not configure. `en` lists the declared EN of every unit it configures (R479). -/
structure Package where
  ident : Nat := 0
  en : List (UnitId × Bool) := []
  facets : Tbl FacetCfg := ⟨{}, []⟩
  lenses : Tbl LensCfg := ⟨{}, []⟩
  logic : Tbl LogicCfg := ⟨{}, []⟩
  stns : Tbl StnCfg := ⟨{}, []⟩
  conds : Tbl CondCfg := ⟨{}, []⟩
  svs : Tbl SvCfg := ⟨{}, []⟩
  /-- Slices in simulation mode (R140). -/
  simSlices : List Nat := []
  chains : Tbl ChainCfg := ⟨{}, []⟩
  slots : Tbl SlotCfg := ⟨{}, []⟩
  prots : Tbl ProtCfg := ⟨{}, []⟩
  tos : Tbl ToCfg := ⟨{}, []⟩
  gps : Tbl GpCfg := ⟨{}, []⟩
  gss : Tbl GsCfg := ⟨{}, []⟩
  svPubs : Tbl SvPubCfg := ⟨{}, []⟩
  cnv : CnvCfg := {}
  arms : Tbl ArmCfg := ⟨{}, []⟩
  beamAsym : Tbl Int := ⟨0, []⟩
  pwms : Tbl PwmCfg := ⟨{}, []⟩
  tis : Tbl TiCfg := ⟨{}, []⟩
  swc : SwcCfg := {}
  cam : Tbl CamEntry := ⟨{}, []⟩
  ports : Tbl PortCfg := ⟨{}, []⟩
  col : ColCfg := {}
  tps : Tbl TpCfg := ⟨{}, []⟩
  fbcs : Tbl FbcCfg := ⟨{}, []⟩
  mlk : MlkCfg := {}
  perGrps : Tbl PerGrpCfg := ⟨{}, []⟩
  perChs : Tbl PerChCfg := ⟨{}, []⟩
  hists : Tbl HistCfg := ⟨{}, []⟩
  pmaps : Tbl HistCfg := ⟨{}, []⟩
  evr : Tbl EvrCfg := ⟨{}, []⟩
  io : IoCfg := {}
  deriving DecidableEq, Repr

/-! ## Images, tokens and parameter blocks (15) -/

/-- KIND of an image header (R409). -/
inductive ImageKind | firmware | mfgFirmware | package | testPackage
  deriving DecidableEq, Repr

/-- A signed image as the module reads it (R409). `wellFormed`: MAGIC right and reserved fields 0.
`sigGood`: the ML-DSA-87 signature verifies under the key KEY_ID names; `deviceOk`: DEVICE is 0 or
names this module. Verdicts come with the command, since the algorithms are outside standards (log 7). -/
structure Image where
  wellFormed : Bool := true
  kind : ImageKind := .firmware
  keyId : Nat := 0
  raiseFloor : Bool := false
  revoke0 : Bool := false
  secver : Nat := 0
  variants : BitVec 3 := 7
  deviceOk : Bool := true
  sigGood : Bool := true
  digest : BitVec 512 := 0
  /-- BODY_LEN. -/
  bodyLen : Nat := 0
  body : Package := {}
  deriving DecidableEq, Repr

/-- An LC_TRANSITION token (R412). -/
structure Token where
  wellFormed : Bool := true
  sigGood : Bool := true
  frm : Lcs := .manufacture
  dest : Lcs := .provisioned
  count : Nat := 0
  deviceZero : Bool := false
  deviceOk : Bool := true
  deriving DecidableEq, Repr

/-- A submission ring as RING_CREATE gives it (R310). -/
structure SqParams where
  ring : Nat := 0
  service : Bool := false
  cq : Nat := 0
  depth : Nat := 16
  base : Nat := 0
  firstSeq : Nat := 1
  deriving DecidableEq, Repr

/-- A completion or receive ring as RING_CREATE gives it (R310). -/
structure CqParams where
  ring : Nat := 0
  receive : Bool := false
  vector : Nat := 0
  depth : Nat := 16
  base : Nat := 0
  es : Nat := 0
  coalN : Nat := 1
  coalT : Nat := 0
  sources : Nat := 0
  deriving DecidableEq, Repr

/-- The SLICE_CREATE parameter block (R319); `reservedZero` says its reserved bytes are 0. -/
structure SliceBlock where
  reservedZero : Bool := true
  slice : Nat := 0
  port : Nat := 0
  minUs : Nat := 1
  pasid : Nat := 0
  doorbell : Nat := 0
  status : Nat := 0
  mac : BitVec 48 := 0
  vlans : List Nat := []
  unexecLimit : Nat := 16
  weight : Nat := 1
  descRate : Nat := 0
  descBurst : Nat := 1
  byteRate : Nat := 0
  byteBurst : Nat := 4096
  cq0 : CqParams := {}
  sq0 : SqParams := {}
  deriving DecidableEq, Repr

/-- The KEY_WRITE parameter block (R405). `rotSigGood`: a ROT_SIG follows and verifies (R406). -/
structure KeyBlock where
  reservedZero : Bool := true
  subop : Nat := 0
  slot : Nat := 0
  len : Nat := 0
  attr : Word := 0
  parent : Nat := 0
  ctxLen : Nat := 0
  data : List Byte := []
  rotSigGood : Bool := false
  deriving DecidableEq, Repr

/-- Which door a Service Channel operation came through (R70, R314): the mailbox, with the host port
of its DMA, or the service ring of slice 0. -/
inductive Door | mailbox | ring
  deriving DecidableEq, Repr

/-! ## Host memory records (11) -/

/-- A descriptor of 64 bytes (R307): common fields and bytes 32 to 63 as one little-endian number. -/
structure Desc where
  seq : Nat := 1
  opcode : Nat := 0
  flags : BitVec 16 := 0
  length : Nat := 0
  bufAddr : Nat := 0
  aux : Nat := 0
  spec : BitVec 256 := 0
  deriving DecidableEq, Repr

/-- A doorbell record (R294). -/
structure Doorbell where
  tail : List Nat := []
  gen : Nat := 0
  cqHead : List Nat := []
  deriving DecidableEq, Repr

/-! ## Frames and records on the wires (05, 07, 08, 10, 13) -/

/-- A CAN frame seen on a bus (R270, R282). `crcOk` and `remote` say what was received. -/
structure CanFrame where
  ide : Bool := false
  id : BitVec 29 := 0
  fd : Bool := true
  brs : Bool := true
  esi : Bool := false
  remote : Bool := false
  crcOk : Bool := true
  data : List Byte := []
  deriving DecidableEq, Repr

/-- An error on a bus as fault confinement counts it (R270; the cases of ISO 11898-1, PRESUMED, log 109): of this node's
own frame; of its own frame but not counted, which are the missing acknowledgement of an error-passive node and a stuff
error in arbitration; of another's frame; and one after which this receiver saw a dominant bit behind its error flag. -/
inductive CanError | transmit | exempt | receive | flagged
  deriving DecidableEq, Repr

/-- How a transmission attempt ended (R278). `exempt`: an error that fault confinement does not count. -/
inductive TxResult | acked | lostArbitration | error (exempt : Bool)
  deriving DecidableEq, Repr

/-- One ASDU of a sampled-value frame: smpCnt and its channel entries, value and quality (R137). -/
structure SvAsdu where
  smpCnt : Nat := 0
  channels : List (Int × Word) := []
  deriving DecidableEq, Repr

/-- A sampled-value frame, decoded by fields (R137 to R140). `tag`: the result of the
IEC 62351-6 check against KEY_CUR and KEY_NEXT. -/
structure SvFrame where
  appid : Nat := 0
  vlan : Nat := 0
  svid : Nat := 0
  confRev : Nat := 0
  smpSynch : Nat := 2
  simulated : Bool := false
  tagCur : Bool := false
  tagNext : Bool := false
  asdus : List SvAsdu := []
  deriving DecidableEq, Repr

/-- A GOOSE frame of a subscription (R160). -/
structure GooseFrame where
  stNum : Nat := 0
  sqNum : Nat := 0
  talMs : Nat := 0
  tagCur : Bool := false
  tagNext : Bool := false
  simulated : Bool := false
  members : List GooseVal := []
  deriving DecidableEq, Repr

/-- A GOOSE frame that the module publishes (R160): its test and simulation flags, and the key slot and algorithm of its
IEC 62351-6 tag. -/
structure GooseOut where
  pub : Nat := 0
  stNum : Nat := 0
  sqNum : Nat := 0
  talMs : Nat := 0
  test : Bool := false
  simulated : Bool := false
  tag : Option (Nat × Nat) := none
  members : List GooseVal := []
  deriving DecidableEq, Repr

/-- A sampled-value frame that the module publishes (R164), with the key slot and algorithm of its tag. -/
structure SvOut where
  stream : Nat := 0
  frame : SvFrame := {}
  tag : Option (Nat × Nat) := none
  deriving DecidableEq, Repr

/-- What a frame built in the module carries: a GOOSE frame, sampled values, or a facet message to a queue of a facet of
the lens at the port (R160, R164, R239). -/
inductive AppData
  | goose (f : GooseOut)
  | sv (f : SvOut)
  | message (facet queue : Nat) (slot : List Byte)
  deriving DecidableEq, Repr

/-- The bytes of a GOOSE or sampled-value frame after its Ethertype, which an outside standard gives (log 81). -/
opaque Config.appBytes : AppData → List Byte

/-- One entry of an uplink frame (R217). -/
structure UpEntry where
  vcap : Nat := 0
  fresh : Bool := true
  failed : Bool := false
  status : Nat := 0
  temp : Int := 0
  applied : Nat := 0
  deriving DecidableEq, Repr

/-- An uplink frame (R217, R218). -/
structure UplinkFrame where
  crcOk : Bool := true
  syncOk : Bool := true
  lane : Nat := 0
  regular : Bool := true
  concBlocked : Bool := false
  timeOk : Bool := true
  fnum : Nat := 0
  iarm : Int := 0
  /-- CSTAT; bits [15:8] are the concentrator's own fault code. -/
  cstat : Nat := 0
  cfEcho : Nat := 0
  deltaEcho : Nat := 0
  entries : List UpEntry := []
  deriving DecidableEq, Repr

/-- An Ethernet frame at a switch port (R230, R231). `len` is its length in bytes, FCS included. -/
structure EthFrame where
  fcsOk : Bool := true
  len : Nat := 64
  dst : BitVec 48 := 0
  src : BitVec 48 := 0
  ethertype : BitVec 16 := 0x0800
  /-- Tag control of an outer S-tag. -/
  sTag : Option Nat := none
  vlan : Option Nat := none
  pcp : Nat := 0
  payload : List Byte := []
  /-- What it carries, where the module has built it; its own bytes are those of an outside standard (log 81). -/
  app : Option AppData := none
  /-- Codewords that RS-FEC corrected and could not correct while it was received (R253). -/
  fecCorr : Nat := 0
  fecUncorr : Nat := 0
  deriving DecidableEq, Repr

/-- A front port at a change of its link: loss of signal, and a transmitter fault from the cage (R249, R253). -/
structure PortLink where
  port : Fin 5 := 0
  los : Bool := false
  txFault : Bool := false
  deriving DecidableEq, Repr

/-- A mirror link at a change: loss of signal, FEC alignment (R361, R374). -/
structure MirrorLink where
  link : Fin 2 := 0
  los : Bool := false
  fec : Bool := true
  deriving DecidableEq, Repr

/-- An Announce as the BMCA judged it (R258, R261): `selected`, the BMCA selects its sender as master;
`gm`, the BMCA makes this module grandmaster. -/
structure Announce where
  domain : Nat := 0
  source : Nat := 0
  selected : Bool := true
  gm : Bool := false
  /-- The BMCA makes the port PASSIVE. -/
  passive : Bool := false
  utc : Int := 0
  leap61 : Bool := false
  leap59 : Bool := false
  deriving DecidableEq, Repr

/-- A peer-delay message, or a delay request or response, which are discarded (R261). -/
inductive PdelayMsg | measured (ns : Nat) | delayReq | delayResp
  deriving DecidableEq, Repr

/-- A health report of the partner (R370). -/
structure Health where
  modnum : Nat := 0
  role : Nat := 0
  ready : Bool := false
  strapPrimary : Bool := false
  interlockFault : Bool := false
  resync : Bool := false
  stale : Nat := 0
  reportNo : Nat := 0
  epoch : Nat := 0
  pkg : BitVec 128 := 0
  link0 : Bool := false
  link1 : Bool := false
  lcs : Nat := 2
  phase : Nat := 5
  ts : Nat := 0
  rotationMs : Nat := 0
  stFails : Nat := 0
  spares : Nat := 0
  crcOk : Bool := true
  deriving DecidableEq, Repr

/-- A seal record (R98). Its length L is that of the data; `crc` is none until the seal writer has written it. -/
structure SealRec where
  cycle : Nat := 0
  home : Nat := 0
  role : Role := .spare
  progId : Nat := 0
  data : List Byte := []
  crc : Option Word := none
  deriving DecidableEq, Repr

/-- The arm record of R191. -/
structure ArmRec where
  frame : Nat := 0
  opstate : Nat := 0
  cause : Nat := 0
  dir : Bool := false
  held : Bool := false
  clamped : Bool := false
  tolHold : Bool := false
  psc : Bool := false
  nOn : Nat := 0
  frac : Nat := 0
  carrier0 : Option Nat := none
  carrier1 : Option Nat := none
  avail : Nat := 0
  inserted : List Nat := []
  duties : List Nat := []
  deriving DecidableEq, Repr

/-- Journal entry states (R305). -/
inductive JState | accepted | started | completed
  deriving DecidableEq, Repr

/-- A journal entry (R305): the descriptor as read and the completion once known. `pend` marks a
completion that is known and not yet written. -/
structure JEntry where
  jseq : Nat := 0
  slice : Nat := 0
  ring : Nat := 0
  dup : Bool := false
  state : JState := .accepted
  ts : Nat := 0
  desc : Desc := {}
  sealed : Bool := false
  accepted : Bool := false
  status : Code := 0
  result : BitVec 128 := 0
  endTs : Nat := 0
  resumed : Bool := false
  /-- Epoch that carries the entry's last change of STATE (R356, R359); 0 when none has been closed. -/
  epoch : Nat := 0
  /-- The completion may stand in the ring already: it is written again at its position (R366). -/
  rewrite : Bool := false
  /-- Its place in its completion ring, in entries since the ring was created (R300, R366, log 85). -/
  place : Option Nat := none
  deriving DecidableEq, Repr

/-- Items of an epoch (R355). -/
inductive Item
  | facetSeal (lens facet : Nat) (r : SealRec)
  | arm (a : Nat) (r : ArmRec)
  | logicOut (prog : Nat) (image : List Byte)
  | journal (e : JEntry)
  | journalFree (jseq : Nat)
  /-- `written`: write count of each completion or receive ring, and the PHASE of its next entry. -/
  | ring (slice : Nat) (nextSeq accepted head : List Nat) (written : List (Nat × Bool))
  | slice (s : Nat) (step : Nat)
  /-- A change of a slice's share, as an APERTURE_SET carries it (R325). -/
  | share (s value : Nat)
  | newSlice (b : SliceBlock)
  /-- A slice as a snapshot carries it (R360): its block, its rings, whether it is paused, and whether it waits in
  RESET_DONE. -/
  | sliceImage (b : SliceBlock) (sqs : List (Option SqParams)) (cqs : List (Option CqParams)) (paused done : Bool)
  | publisher (g stNum sqNum : Nat) (digest : BitVec 64)
  | fbGseq (i gseq : Nat)
  | settings (lens facet fn bank : Nat) (bytes : List Byte)
  | bank (lens chain gd : Nat) (taps : List Int)
  | packageBody (off len : Nat) (img : Image)
  | packageCommit (digest : BitVec 512) (cycle : Nat)
  | effect (code unit value : Nat)
  | resyncEnd (epoch : Nat)
  deriving DecidableEq, Repr

/-- The payload of a SLICE or EFFECT item, which the spec does not lay out (R355). -/
opaque Config.itemPayload : Item → List Byte

/-- KIND of an epoch (R354). -/
inductive EpochKind | converter | protection | logic | record
  deriving DecidableEq, Repr

/-- An epoch (R354). `crcOk`: trailer and CRC agree with the header (R358). -/
structure Epoch where
  kind : EpochKind := .record
  lens : Nat := 0xFF
  modnum : Nat := 0
  num : Nat := 0
  cycle : Nat := 0
  ts : Nat := 0
  source : Nat := 0
  resync : Bool := false
  items : List Item := []
  crcOk : Bool := true
  deriving DecidableEq, Repr

/-! ## Boot and self-test outcomes (02, 15) -/

/-- Straps read at keep-alive start (R451): the GA pins, GA_PAR, and whether ROLE_PREF is tied to GND. -/
structure Straps where
  ga : BitVec 10 := 0
  gaPar : Bool := true
  primary : Bool := false
  deriving DecidableEq, Repr

/-- What start-up BIST found (R415, R417). -/
structure StartupResult where
  lensPass : BitVec 16 := 0xFFFF
  serdesPass : Bool := true
  pllPass : Bool := true
  vrefPass : Bool := true
  deriving DecidableEq, Repr

/-- What a BIST region test found (R415): the value that the region measures or counts, `lanes` the receive power of
each optical lane in 0.1 dBm (R460), and `pass` the outcome of what no value judges: the lock time of the PLLs and the
known-answer tests. -/
structure BistOutcome where
  pass : Bool := true
  lanes : List Int := []
  /-- Fenced facets of the lens that the test has found good (R481). -/
  facets : List Nat := []
  restoreOk : Bool := true
  sig : BitVec 64 := 0
  gold : BitVec 64 := 0
  meas : Int := 0
  deriving DecidableEq, Repr

/-- Ports whose time latch is separate (R255). -/
inductive TimePort | h0 | h1 | mm
  deriving DecidableEq, Repr

/-- What a rolling self-test tests (R369): a facet of the lens, or a region of R415. -/
inductive RollTarget
  | facet (f : Fin 64)
  | region (r : Nat)
  deriving DecidableEq, Repr

/-- Where a register access goes: the set-up window through a port (R46), or BAR2 of a host port, which holds its MSI-X
table and pending bits (R291). -/
inductive BusPort
  | win (p : TimePort)
  | vec (h : Fin 2)
  deriving DecidableEq, Repr

/-- Which loop of the interlock (R343). -/
inductive Loop | a | b
  deriving DecidableEq, Repr

/-- A sensor of R442. -/
inductive Sensor | core | coldPlate | inputStage
  deriving DecidableEq, Repr

/-- An error that SECDED finds in facet SRAM (R101): corrected, by a read or by the scrub; uncorrectable; or
uncorrectable and met by the seal writer, so that the facet fails during SEAL (R105). -/
inductive SramError | corrected | uncorrectable | inSeal
  deriving DecidableEq, Repr

/-- Where SECDED finds an error in facet SRAM, and what it is (R101). -/
structure SramHit where
  facet : Fin 64
  found : SramError
  deriving DecidableEq, Repr

/-- An error that SECDED finds in the memory of a lens: corrected, or uncorrectable (R101, R104, R106). -/
structure MemHit where
  lens : Fin 16
  corrected : Bool
  deriving DecidableEq, Repr

/-- Causes of a wake (R78). -/
inductive WakeCause | tick | stream | message
  deriving DecidableEq, Repr

end Sys2Proof
end

