-- ==== Sys2Proof/Syntax.lean ====
section
/-! DEFINITION. The commands of the module: one constructor per row of spec/opcode_table.json, in its
order, with what the sender names: the unit, and what reaches the module from outside. `w` of a facet
instruction holds bits [25:0] of its word (R82); `t` is the instant of an arrival (log 3). -/

namespace Sys2Proof

inductive Instr
  /-- NOP, R86: a whole word, since an unassigned opcode has no row of its own (R82). -/
  | nop (l : Fin 16) (f : Fin 64) (w : Word)
  /-- LD, R86. -/
  | ld (l : Fin 16) (f : Fin 64) (w : BitVec 26)
  /-- AND, R86. -/
  | and_ (l : Fin 16) (f : Fin 64) (w : BitVec 26)
  /-- OR, R86. -/
  | or_ (l : Fin 16) (f : Fin 64) (w : BitVec 26)
  /-- XOR, R86. -/
  | xor_ (l : Fin 16) (f : Fin 64) (w : BitVec 26)
  /-- ST, R86. -/
  | st (l : Fin 16) (f : Fin 64) (w : BitVec 26)
  /-- SET, R86. -/
  | set_ (l : Fin 16) (f : Fin 64) (w : BitVec 26)
  /-- RST, R86. -/
  | rst (l : Fin 16) (f : Fin 64) (w : BitVec 26)
  /-- NOT, R86. -/
  | not_ (l : Fin 16) (f : Fin 64) (w : BitVec 26)
  /-- LA1, R86. -/
  | la1 (l : Fin 16) (f : Fin 64) (w : BitVec 26)
  /-- LA0, R86. -/
  | la0 (l : Fin 16) (f : Fin 64) (w : BitVec 26)
  /-- AND_NEST, R86. -/
  | andNest (l : Fin 16) (f : Fin 64) (w : BitVec 26)
  /-- OR_NEST, R86. -/
  | orNest (l : Fin 16) (f : Fin 64) (w : BitVec 26)
  /-- XOR_NEST, R86. -/
  | xorNest (l : Fin 16) (f : Fin 64) (w : BitVec 26)
  /-- NEST_CLOSE, R86. -/
  | nestClose (l : Fin 16) (f : Fin 64) (w : BitVec 26)
  /-- FP, R86. -/
  | fp (l : Fin 16) (f : Fin 64) (w : BitVec 26)
  /-- FN, R86. -/
  | fn (l : Fin 16) (f : Fin 64) (w : BitVec 26)
  /-- TON, R88. -/
  | ton (l : Fin 16) (f : Fin 64) (w : BitVec 26)
  /-- TOF, R88. -/
  | tof (l : Fin 16) (f : Fin 64) (w : BitVec 26)
  /-- TP, R88. -/
  | tp (l : Fin 16) (f : Fin 64) (w : BitVec 26)
  /-- CTU, R89. -/
  | ctu (l : Fin 16) (f : Fin 64) (w : BitVec 26)
  /-- CTD, R89. -/
  | ctd (l : Fin 16) (f : Fin 64) (w : BitVec 26)
  /-- CRS, R86. -/
  | crs (l : Fin 16) (f : Fin 64) (w : BitVec 26)
  /-- CLD, R86. -/
  | cld (l : Fin 16) (f : Fin 64) (w : BitVec 26)
  /-- JU, R86. -/
  | ju (l : Fin 16) (f : Fin 64) (w : BitVec 26)
  /-- JC, R86. -/
  | jc (l : Fin 16) (f : Fin 64) (w : BitVec 26)
  /-- JCN, R86. -/
  | jcn (l : Fin 16) (f : Fin 64) (w : BitVec 26)
  /-- CMP, R86. -/
  | cmp (l : Fin 16) (f : Fin 64) (w : BitVec 26)
  /-- MPY, R90. -/
  | mpy (l : Fin 16) (f : Fin 64) (w : BitVec 26)
  /-- MAC, R91. -/
  | mac (l : Fin 16) (f : Fin 64) (w : BitVec 26)
  /-- MSU, R91. -/
  | msu (l : Fin 16) (f : Fin 64) (w : BitVec 26)
  /-- MAC2, R93. -/
  | mac2 (l : Fin 16) (f : Fin 64) (w : BitVec 26)
  /-- ADDA, R93. -/
  | adda (l : Fin 16) (f : Fin 64) (w : BitVec 26)
  /-- SUBA, R93. -/
  | suba (l : Fin 16) (f : Fin 64) (w : BitVec 26)
  /-- CLRA, R93. -/
  | clra (l : Fin 16) (f : Fin 64) (w : BitVec 26)
  /-- ASH, R93. -/
  | ash (l : Fin 16) (f : Fin 64) (w : BitVec 26)
  /-- STH, R92. -/
  | sth (l : Fin 16) (f : Fin 64) (w : BitVec 26)
  /-- ADD, R93. -/
  | add (l : Fin 16) (f : Fin 64) (w : BitVec 26)
  /-- SUB, R93. -/
  | sub (l : Fin 16) (f : Fin 64) (w : BitVec 26)
  /-- NEG, R93. -/
  | neg (l : Fin 16) (f : Fin 64) (w : BitVec 26)
  /-- ABS, R93. -/
  | abs (l : Fin 16) (f : Fin 64) (w : BitVec 26)
  /-- MIN, R93. -/
  | min (l : Fin 16) (f : Fin 64) (w : BitVec 26)
  /-- MAX, R93. -/
  | max (l : Fin 16) (f : Fin 64) (w : BitVec 26)
  /-- LSH, R93. -/
  | lsh (l : Fin 16) (f : Fin 64) (w : BitVec 26)
  /-- LDW, R93. `ecc`: the read met a single-bit error, corrected (R101). -/
  | ldw (l : Fin 16) (f : Fin 64) (w : BitVec 26) (ecc : Bool)
  /-- STW, R94. -/
  | stw (l : Fin 16) (f : Fin 64) (w : BitVec 26)
  /-- LDI, R93. -/
  | ldi (l : Fin 16) (f : Fin 64) (w : BitVec 26)
  /-- ADDP, R93. -/
  | addp (l : Fin 16) (f : Fin 64) (w : BitVec 26)
  /-- LDP, R83. -/
  | ldp (l : Fin 16) (f : Fin 64) (w : BitVec 26)
  /-- STP, R93. -/
  | stp (l : Fin 16) (f : Fin 64) (w : BitVec 26)
  /-- LDIH, R93. -/
  | ldih (l : Fin 16) (f : Fin 64) (w : BitVec 26)
  /-- WAIT, R81. -/
  | wait_ (l : Fin 16) (f : Fin 64) (w : BitVec 26)
  /-- SEAL, R98. -/
  | seal_ (l : Fin 16) (f : Fin 64) (w : BitVec 26)
  /-- SEND, R97. -/
  | send (l : Fin 16) (f : Fin 64) (w : BitVec 26)
  /-- RECV, R95. -/
  | recv (l : Fin 16) (f : Fin 64) (w : BitVec 26)
  /-- LANE, R16. -/
  | lane (l : Fin 16) (f : Fin 64) (w : BitVec 26)
  /-- OUTW, R80. -/
  | outw (l : Fin 16) (f : Fin 64) (w : BitVec 26)
  /-- END, R87. -/
  | end_ (l : Fin 16) (f : Fin 64) (w : BitVec 26)
  /-- FACET_WAKE, R81. -/
  | facetWake (l : Fin 16) (f : Fin 64) (cause : WakeCause)
  /-- SRAM_UNCORR, R101. `f`: the facet, and what SECDED found. -/
  | sramUncorr (l : Fin 16) (f : SramHit)
  /-- FETCH_PARITY, R101. -/
  | fetchParity (l : Fin 16) (f : Fin 64)
  /-- WAKE_FAIL, R101. -/
  | wakeFail (l : Fin 16) (f : Fin 64)
  /-- SELFTEST_FAIL, R101. -/
  | selftestFail (l : Fin 16) (f : Fin 64)
  /-- REPAIR_LOAD_DONE, R102. -/
  | repairLoadDone (l : Fin 16)
  /-- REPAIR_TIMEOUT, R104. -/
  | repairTimeout (l : Fin 16)
  /-- LENS_FAILURE, R104. -/
  | lensFailure (l : Fin 16)
  /-- LENS_RELOCATION_DONE, R436. -/
  | lensRelocationDone (l : Fin 16) (readable : Bool)
  /-- LENS_MEM_UNCORR, R104. `l`: the lens, and whether it is a single-bit error, corrected (R101, R106). -/
  | lensMemUncorr (l : MemHit)
  /-- LENS_STEWARD_FAIL, R15. -/
  | lensStewardFail (l : Fin 16)
  /-- LENS_PRETICK_WAKE, R34. -/
  | lensPretickWake (l : Fin 16)
  /-- LENS_WAKE_TIMEOUT, R34. -/
  | lensWakeTimeout (l : Fin 16)
  /-- STREAM_RECORD_ARRIVAL, R79. -/
  | streamRecordArrival (l : Fin 16) (f : Fin 64) (bytes : List Byte)
  /-- MESSAGE_ARRIVAL, R97. -/
  | messageArrival (l : Fin 16)
  /-- LOGIC_SNAPSHOT_START, R110. -/
  | logicSnapshotStart (p : Fin 64)
  /-- LOGIC_SNAPSHOT_DONE, R109. -/
  | logicSnapshotDone (p : Fin 64)
  /-- LOGIC_COMMIT_START, R112. -/
  | logicCommitStart (p : Fin 64)
  /-- LOGIC_COMMIT_DONE, R109. -/
  | logicCommitDone (p : Fin 64)
  /-- LOGIC_WATCHDOG_EXPIRY, R114. -/
  | logicWatchdogExpiry (p : Fin 64)
  /-- LOGIC_RESTORE_DONE, R114. -/
  | logicRestoreDone (p : Fin 64)
  /-- LOGIC_EXCHANGE_DONE, R134. -/
  | logicExchangeDone (p : Fin 64)
  /-- LOGIC_EXCHANGE_TIMEOUT, R136. -/
  | logicExchangeTimeout (p : Fin 64)
  /-- CAN_FRAME_RX, R282. -/
  | canFrameRx (b : Fin 2) (fr : CanFrame) (t : Nat)
  /-- STATION_PRESENCE_CHECK, R128. -/
  | stationPresenceCheck (i : Fin 128)
  /-- FB_BASIC_CYCLE_START, R273. -/
  | fbBasicCycleStart (b : Fin 2)
  /-- FB_REF_TIMEOUT, R276. -/
  | fbRefTimeout (b : Fin 2)
  /-- FB_CELL_START, R277. -/
  | fbCellStart (b : Fin 2) (c : Fin 64)
  /-- FB_FRAME_TX_DONE, R278. -/
  | fbFrameTxDone (b : Fin 2) (res : TxResult)
  /-- FB_ERROR_FRAME, R270. -/
  | fbErrorFrame (b : Fin 2) (e : CanError)
  /-- FB_RECOVERY_DONE, R272. -/
  | fbRecoveryDone (b : Fin 2)
  /-- FB_SUPERVISION_TICK, R128. -/
  | fbSupervisionTick (b : Fin 2)
  /-- FBC_SEND_EXPIRY, R280. -/
  | fbcSendExpiry (b : Fin 2)
  /-- SV_FRAME_RX, R140. -/
  | svFrameRx (fr : SvFrame) (t : Nat)
  /-- SV_KEY_SWITCH, R139. -/
  | svKeySwitch (k : Fin 512)
  /-- FOCUS_CHAIN_OUTPUT, R145. -/
  | focusChainOutput (l : Fin 16) (c : Fin 32)
  /-- PROT_CYCLE_TICK, R153. -/
  | protCycleTick (s : Fin 64)
  /-- PROT_DEADLINE, R152. -/
  | protDeadline (s : Fin 64)
  /-- SETTINGS_LOAD_DEFERRED, R157. -/
  | settingsLoadDeferred (s : Fin 64) (r : Fin 8) (buf : Option (List Byte))
  /-- TO_MINON_EXPIRY, R158. -/
  | toMinonExpiry (m : Fin 4)
  /-- TO_OVERLOAD, R466. -/
  | toOverload (m : Fin 4)
  /-- TO_NOLOAD, R466. -/
  | toNoload (m : Fin 4) (offv : Nat)
  /-- GOOSE_RETRANSMIT, R160. -/
  | gooseRetransmit (g : Fin 64)
  /-- GOOSE_RX, R160. -/
  | gooseRx (k : Fin 256) (fr : GooseFrame) (t : Nat)
  /-- GOOSE_TAL_EXPIRY, R160. -/
  | gooseTalExpiry (k : Fin 256)
  /-- TI_FILTER_CHANGE, R204. -/
  | tiFilterChange (i : Fin 8) (active : Bool) (t : Nat)
  /-- TI_STUCK, R205. -/
  | tiStuck (i : Fin 8)
  /-- TI_LOW, R461. -/
  | tiLow (i : Fin 8) (low : Bool)
  /-- CF_FRAME_TICK, R168. -/
  | cfFrameTick
  /-- CF_TICK_MISSING, R215. -/
  | cfTickMissing
  /-- CF_COMPUTE_START, R168. -/
  | cfComputeStart
  /-- PRISM_RANK_DONE, R169. -/
  | prismRankDone (e : Fin 8)
  /-- CF_EMIT_START, R177. -/
  | cfEmitStart
  /-- ARM_HOLD_LIMIT, R190. -/
  | armHoldLimit (a : Fin 8)
  /-- UPLINK_FRAME_RX, R218. -/
  | uplinkFrameRx (l : Fin 64) (fr : UplinkFrame) (t : Nat)
  /-- BEAM_LOCK_LOST, R222. -/
  | beamLockLost (l : Fin 64)
  /-- BEAM_CAL_DUE, R219. -/
  | beamCalDue (l : Fin 64)
  /-- CALIBRATE_REPLY_RX, R220. -/
  | calibrateReplyRx (l : Fin 64) (t turn : Nat)
  /-- BEAM_CAL_FAIL, R219. -/
  | beamCalFail (l : Fin 64)
  /-- DEBLOCK_TIMEOUT, R187. -/
  | deblockTimeout (a : Fin 8)
  /-- PWM_PERIOD_START, R198. -/
  | pwmPeriodStart (n : Fin 32)
  /-- PWM_STUCK, R202. -/
  | pwmStuck (n : Fin 32)
  /-- PWM_SYNC_PULSE, R211. -/
  | pwmSyncPulse (n : Fin 32) (t : Nat)
  /-- PWM_SYNC_LOST, R211. -/
  | pwmSyncLost (n : Fin 32)
  /-- PWM_TRIP_CLEAR, R201. -/
  | pwmTripClear (n : Fin 32)
  /-- ARM_TRIP_CLEAR, R201. -/
  | armTripClear (a : Fin 8)
  /-- SWC_FRAME_RX, R230. -/
  | swcFrameRx (p : Fin 24) (fr : EthFrame) (t : Nat)
  /-- LOSSLESS_ADMIT, R236. -/
  | losslessAdmit (p : Fin 24) (c : Fin 8)
  /-- MC_REFUSED, R236. -/
  | mcRefused (p : Fin 24) (c : Fin 8)
  /-- SWC_FRAME_TX, R233. -/
  | swcFrameTx (p : Fin 24)
  /-- ADDRESS_AGE_OUT, R242. -/
  | addressAgeOut
  /-- LINK_DOWN, R249. -/
  | linkDown (x : PortLink)
  /-- LINK_UP, R249. -/
  | linkUp (x : PortLink)
  /-- PTP_SYNC_RX, R258. -/
  | ptpSyncRx (p : Fin 5) (offset : Int)
  /-- PTP_ANNOUNCE_RX, R261. -/
  | ptpAnnounceRx (p : Fin 5) (ann : Announce)
  /-- PTP_PDELAY_RX, R261. -/
  | ptpPdelayRx (p : Fin 5) (m : PdelayMsg)
  /-- ANNOUNCE_TIMEOUT, R258. -/
  | announceTimeout
  /-- HOLDOVER_END, R258. -/
  | holdoverEnd (byTemp : Bool)
  /-- REF_FAULT, R258. -/
  | refFault
  /-- TP_PULSE, R264. -/
  | tpPulse (t : Fin 16)
  /-- COL_TIME_READ, R255. -/
  | colTimeRead (port : TimePort)
  /-- COL_SET_GO, R266. -/
  | colSetGo (v : Word)
  /-- COL_SET_NS_WRITE, R266. -/
  | colSetNsWrite (v : Word)
  /-- DOORBELL_POLL, R303. -/
  | doorbellPoll (s : Fin 64)
  /-- DOORBELL_READ_DONE, R306. -/
  | doorbellReadDone (s : Fin 64) (rec : Option Doorbell)
  /-- DESCRIPTOR_READ_DONE, R298. -/
  | descriptorReadDone (s : Fin 64) (r : Fin 8) (d : Option Desc)
  /-- COMPLETION_WRITE, R299. -/
  | completionWrite (s : Fin 64) (r : Fin 8)
  /-- MSIX_COAL_TIMEOUT, R313. -/
  | msixCoalTimeout (s : Fin 64) (c : Fin 8)
  /-- HOST_LINK_DOWN, R292. -/
  | hostLinkDown (h : Fin 2)
  /-- HOST_LINK_UP, R306. -/
  | hostLinkUp (h : Fin 2) (speed width : Nat)
  /-- NOP_DESC, R309. -/
  | nopDesc (s : Fin 64) (r : Fin 8)
  /-- RING_CREATE, R310. -/
  | ringCreate (s : Fin 64) (r : Fin 8)
  /-- RING_DESTROY, R310. -/
  | ringDestroy (s : Fin 64) (r : Fin 8)
  /-- RING_DESTROY_DONE, R310. -/
  | ringDestroyDone (s : Fin 64) (r : Fin 8)
  /-- SVC, R314. -/
  | svc (s : Fin 64) (r : Fin 8)
  /-- UNIT_CTRL, R310. -/
  | unitCtrl (s : Fin 64) (r : Fin 8)
  /-- FRAME_TX, R310. -/
  | frameTx (s : Fin 64) (r : Fin 8) (buf : Option EthFrame)
  /-- GLINT_SUB, R246. -/
  | glintSub (s : Fin 64) (r : Fin 8)
  /-- LOAD_BANK, R147. -/
  | loadBank (s : Fin 64) (r : Fin 8) (buf : Option (List Int))
  /-- SWITCH_CONSUMERS, R148. -/
  | switchConsumers (s : Fin 64) (r : Fin 8)
  /-- SET_DELAY, R149. -/
  | setDelay (s : Fin 64) (r : Fin 8)
  /-- SETTINGS_LOAD, R156. -/
  | settingsLoad (s : Fin 64) (r : Fin 8) (buf : Option (List Byte))
  /-- SETTINGS_SWITCH, R156. -/
  | settingsSwitch (s : Fin 64) (r : Fin 8)
  /-- TRIP_RESET, R158. -/
  | tripReset (s : Fin 64) (r : Fin 8)
  /-- KEY_ROTATE, R139. -/
  | keyRotate (s : Fin 64) (r : Fin 8)
  /-- LOGIC_START, R115. -/
  | logicStart (s : Fin 64) (r : Fin 8)
  /-- LOGIC_STOP, R116. -/
  | logicStop (s : Fin 64) (r : Fin 8)
  /-- DEBLOCK, R187. -/
  | deblock (s : Fin 64) (r : Fin 8)
  /-- BLOCK, R186. -/
  | block (s : Fin 64) (r : Fin 8)
  /-- BEAM_CAL, R227. -/
  | beamCal (s : Fin 64) (r : Fin 8)
  /-- FBC_ARRIVAL, R272. -/
  | fbcArrival (s : Fin 64) (r : Fin 8)
  /-- FBC_SCHEDULE, R272. -/
  | fbcSchedule (s : Fin 64) (r : Fin 8)
  /-- FBC_LISTEN, R272. -/
  | fbcListen (s : Fin 64) (r : Fin 8)
  /-- FBC_RECOVER, R272. -/
  | fbcRecover (s : Fin 64) (r : Fin 8)
  /-- FBC_SEND, R287. -/
  | fbcSend (s : Fin 64) (r : Fin 8) (buf : Option (List Byte))
  /-- TP_ARM, R266. -/
  | tpArm (s : Fin 64) (r : Fin 8)
  /-- READ_EVR_LIVE, R391. -/
  | readEvrLive (s : Fin 64) (r : Fin 8)
  /-- READ_EVR_LOG, R396. -/
  | readEvrLog (s : Fin 64) (r : Fin 8)
  /-- READ_LOUPE, R394. -/
  | readLoupe (s : Fin 64) (r : Fin 8)
  /-- READ_DUMP, R395. -/
  | readDump (s : Fin 64) (r : Fin 8)
  /-- READ_CHANNEL_TABLE, R385. -/
  | readChannelTable (s : Fin 64) (r : Fin 8)
  /-- PER_READ_RECORD, R396. -/
  | perReadRecord (s : Fin 64) (r : Fin 8)
  /-- PER_READ_HIST, R382. -/
  | perReadHist (s : Fin 64) (r : Fin 8)
  /-- PER_READ_PMAP, R382. -/
  | perReadPmap (s : Fin 64) (r : Fin 8)
  /-- PER_READ_INDEX, R396. -/
  | perReadIndex (s : Fin 64) (r : Fin 8)
  /-- EVR_FLUSH, R389. -/
  | evrFlush (s : Fin 64) (r : Fin 8)
  /-- LOG_FLUSH, R337. -/
  | logFlush (s : Fin 64) (r : Fin 8)
  /-- DIRTY_LOG_START, R337. -/
  | dirtyLogStart (s : Fin 64) (r : Fin 8)
  /-- DIRTY_LOG_STOP, R337. -/
  | dirtyLogStop (s : Fin 64) (r : Fin 8)
  /-- CLEAR_FILTER, R337. -/
  | clearFilter (s : Fin 64) (r : Fin 8)
  /-- SLICE_RESET_RESET, R328. -/
  | sliceResetReset (s : Fin 64) (r : Fin 8)
  /-- SLICE_REMOVE, R330. -/
  | sliceRemove (s : Fin 64) (r : Fin 8)
  /-- SLICE_PAUSE, R331. -/
  | slicePause (s : Fin 64) (r : Fin 8)
  /-- SLICE_RESUME, R332. -/
  | sliceResume (s : Fin 64) (r : Fin 8)
  /-- RESET_DONE, R328. -/
  | resetDone (s : Fin 64)
  /-- PAUSE_EFFECT, R331. -/
  | pauseEffect (s : Fin 64)
  /-- PAUSE_TIMEOUT, R331. -/
  | pauseTimeout (s : Fin 64)
  /-- APERTURE_SET, R326. -/
  | apertureSet (s : Fin 64) (r : Fin 8)
  /-- UNIT_EN_WRITE, R75. -/
  | unitEnWrite (u : UnitId) (en : Bool)
  /-- UNIT_START_DONE, R76. -/
  | unitStartDone (u : UnitId)
  /-- UNIT_STOP_DONE, R76. -/
  | unitStopDone (u : UnitId)
  /-- UNIT_START_FAILED, R76. -/
  | unitStartFailed (u : UnitId)
  /-- UNIT_FENCED, R76. -/
  | unitFenced (u : UnitId)
  /-- POWER_GOOD, R49. -/
  | powerGood (st : Straps)
  /-- KA_START_DONE, R49. -/
  | kaStartDone
  /-- BOOT_VERIFY_DONE, R52. -/
  | bootVerifyDone (readOk : Bool)
  /-- MM_START_DONE, R49. -/
  | mmStartDone
  /-- STARTUP_BIST_DONE, R417. -/
  | startupBistDone (res : StartupResult)
  /-- WARM_RESTART_DONE, R66. -/
  | warmRestartDone
  /-- HOLDUP_CHARGED, R455. -/
  | holdupCharged (energy vstore : Nat)
  /-- HOLDUP_TIMEOUT, R52. -/
  | holdupTimeout
  /-- RUN_SET, R51. -/
  | runSet
  /-- RUN_CLEAR, R58. -/
  | runClear
  /-- RUN_CLEAR_DONE, R58. -/
  | runClearDone
  /-- RESTART_WARM, R63. -/
  | restartWarm (sealOk : Bool)
  /-- RESTART_COLD, R63. -/
  | restartCold
  /-- MM_WATCHDOG_EXPIRY, R371. -/
  | mmWatchdogExpiry
  /-- MM_LOCKSTEP_FAIL, R371. -/
  | mmLockstepFail
  /-- MM_RESTART_DONE, R395. -/
  | mmRestartDone
  /-- FIRMWARE_FATAL, R395. -/
  | firmwareFatal
  /-- DUMP_FLASH_COPY_DONE, R395. -/
  | dumpFlashCopyDone
  /-- KA_WATCHDOG, R372. -/
  | kaWatchdog
  /-- SUPPLY_WARN, R438. -/
  | supplyWarn (vin : BitVec 12)
  /-- SUPPLY_BELOW_PFAIL, R438. -/
  | supplyBelowPfail (vin : BitVec 12)
  /-- PFAIL_QUALIFIED, R438. -/
  | pfailQualified
  /-- PFAIL_BLOCK_FRAMES_SENT, R438. -/
  | pfailBlockFramesSent
  /-- PFAIL_FLUSH_DONE, R438. -/
  | pfailFlushDone
  /-- STORE_EXHAUSTED, R439. -/
  | storeExhausted
  /-- SUPPLY_RETURN, R439. -/
  | supplyReturn (vin : BitVec 12) (sealOk : Bool)
  /-- SLOT_PRESENT_OPEN, R473. -/
  | slotPresentOpen
  /-- LATCH_OPEN, R474. -/
  | latchOpen
  /-- LATCH_CLOSE, R474. -/
  | latchClose
  /-- XCVR_INSERT, R445. -/
  | xcvrInsert (k : Fin 6) (powerOk qualified : Bool)
  /-- XCVR_REMOVE, R474. -/
  | xcvrRemove (k : Fin 6)
  /-- TEMP_WARN, R442. -/
  | tempWarn (sensor : Sensor) (temp : Int)
  /-- TEMP_CRIT, R442. -/
  | tempCrit (temp : Int)
  /-- THERMAL_TRIP, R442. -/
  | thermalTrip
  /-- FW_COMMIT, R55. -/
  | fwCommit (bank : Bool) (img : Option Image)
  /-- FW_COMMIT_DONE, R55. -/
  | fwCommitDone (flashOk : Bool)
  /-- KEY_WRITE_WRITE, R406. -/
  | keyWriteWrite (blk : Option KeyBlock)
  /-- KEY_WRITE_DERIVE, R407. -/
  | keyWriteDerive (blk : Option KeyBlock)
  /-- KEY_WRITE_ERASE, R405. -/
  | keyWriteErase (blk : Option KeyBlock)
  /-- KEY_WRITE_EXPORT, R405. -/
  | keyWriteExport (blk : Option KeyBlock)
  /-- KEY_WRITE_LOCK, R405. -/
  | keyWriteLock (blk : Option KeyBlock)
  /-- KEY_WRITE_DONE, R403. -/
  | keyWriteDone
  /-- ATTEST, R414. -/
  | attest (nonce : Option (List Byte)) (hostOk : Bool)
  /-- ATTEST_DONE, R414. -/
  | attestDone
  /-- BIST, R416. -/
  | bist (region : Option Nat) (reservedZero goldenKnown : Bool)
  /-- BIST_DONE, R419. -/
  | bistDone (o : BistOutcome)
  /-- LC_TRANSITION, R69. -/
  | lcTransition (tok : Option Token)
  /-- SLICE_CREATE, R320. -/
  | sliceCreate (blk : Option SliceBlock)
  /-- PKG_COMMIT, R56. -/
  | pkgCommit (img : Option Image)
  /-- PKG_COMMIT_DONE, R429. -/
  | pkgCommitDone (flashOk : Bool)
  /-- HASH_REKEY, R244. -/
  | hashRekey
  /-- HASH_REKEY_DONE, R244. -/
  | hashRekeyDone
  /-- REGISTER_WRITE, R7. -/
  | registerWrite (port : BusPort) (addr : BitVec 24) (v : Word) (width : Nat)
  /-- ILK_LOOP_RELEASED, R344. -/
  | ilkLoopReleased (x : Loop) (noCur : Bool)
  /-- ILK_DISAGREE, R345. -/
  | ilkDisagree
  /-- ILK_AGREE_RESTORED, R345. -/
  | ilkAgreeRestored
  /-- OWN_OPEN, R346. -/
  | ownOpen (x : Loop)
  /-- CLAIM_START, R349. -/
  | claimStart
  /-- CLAIM_COLLISION, R347. -/
  | claimCollision
  /-- CLAIM_WINDOW_END, R347. -/
  | claimWindowEnd
  /-- TAKEOVER_BOUNDARY, R351. -/
  | takeoverBoundary
  /-- YIELD, R352. -/
  | yield
  /-- SOLO_WAIT_EXPIRY, R349. -/
  | soloWaitExpiry
  /-- ORPHAN_WAIT_EXPIRY, R349. -/
  | orphanWaitExpiry
  /-- HEALTH_REPORT_SEND, R370. -/
  | healthReportSend
  /-- HEALTH_REPORT_RX, R370. -/
  | healthReportRx (k : Fin 2) (h : Health)
  /-- PARTNER_SERVICE_TIMEOUT, R359. -/
  | partnerServiceTimeout
  /-- RECORD_EPOCH_CLOSE, R356. -/
  | recordEpochClose
  /-- EPOCH_RX, R358. -/
  | epochRx (k : Fin 2) (e : Epoch)
  /-- EPOCH_ACK_RX, R359. -/
  | epochAckRx (k : Fin 2) (epoch : Nat) (crcOk : Bool)
  /-- EPOCH_NACK_RX, R359. -/
  | epochNackRx (k : Fin 2) (epoch : Nat) (crcOk : Bool)
  /-- EPOCH_ACK_TIMEOUT, R359. -/
  | epochAckTimeout (epoch : Nat)
  /-- RESYNC_REQ_RX, R360. -/
  | resyncReqRx (k : Fin 2) (epoch : Nat) (crcOk : Bool)
  /-- MIRROR_LINK_DOWN, R361. -/
  | mirrorLinkDown (x : MirrorLink)
  /-- MIRROR_LINK_UP, R361. -/
  | mirrorLinkUp (x : MirrorLink)
  /-- ROLLING_SELFTEST_DONE, R369. -/
  | rollingSelftestDone (l : Fin 16) (x : RollTarget) (pass : Bool)
  /-- PER_GROUP_TICK, R379. -/
  | perGroupTick (g : Fin 16)
  /-- PER_RECORD_COMPLETE, R381. -/
  | perRecordComplete (g : Fin 16)
  /-- HOLDOFF_END, R379. -/
  | holdoffEnd (g : Fin 16)
  /-- PER_FLASH_COPY_DONE, R383. -/
  | perFlashCopyDone (rnum : Nat)
  /-- PER_RUN_WRITE, R379. -/
  | perRunWrite (g : Fin 16) (run : Bool)
  /-- PER_FORCE, R378. -/
  | perForce (g : Fin 16)
  /-- EVR_CHANNEL_UPDATE, R385. -/
  | evrChannelUpdate (i : Fin 4096) (v : Int)
  /-- EVR_INTERVAL_CLOSE, R387. -/
  | evrIntervalClose (i : Fin 4096)
  /-- EVR_FLASH_FLUSH_DONE, R389. -/
  | evrFlashFlushDone
  /-- LOUPE_ARM, R393. -/
  | loupeArm (l : Fin 16) (b : Fin 4)
  /-- LOUPE_FORCE, R393. -/
  | loupeForce (l : Fin 16) (b : Fin 4)
  /-- REGISTER_READ, R3. -/
  | registerRead (port : BusPort) (addr : BitVec 24)
  /-- LC_TRANSITION_DONE, R69. -/
  | lcTransitionDone
  /-- BEAM_LOCK_ACQUIRED, R225. -/
  | beamLockAcquired (l : Fin 64)
  /-- ILK_LOOP_CLAIMED, R344. -/
  | ilkLoopClaimed (x : Loop)
  /-- OWN_OPEN_CLEAR, R346. -/
  | ownOpenClear (x : Loop)
  /-- SUPPLY_WARN_CLEAR, R454. -/
  | supplyWarnClear (vin : BitVec 12)
  /-- DESC_BUCKET_REFILL, R322. -/
  | descBucketRefill (s : Fin 64)
  /-- BYTE_BUCKET_REFILL, R322. -/
  | byteBucketRefill (s : Fin 64)
  /-- KA_HOURS_TICK, R62. -/
  | kaHoursTick
  /-- SV_SAMPLE_TIMEOUT, R140. -/
  | svSampleTimeout (k : Fin 512)
  /-- LENS_WAKE_DONE, R34. -/
  | lensWakeDone (l : Fin 16)
  deriving DecidableEq, Repr

end Sys2Proof
end

