-- ==== Sys2Proof/WellFormed.lean ====
section
/-! DEFINITION. Which commands are well formed: what a frame, a record or a unit number may hold on the
wires and in the tables of the spec. The meanings answer for every command, well formed or not. -/

namespace Sys2Proof

/-- A unit number within its kind (R166, R196, R316 and the variants of 00). -/
def unitOk : UnitId → Bool
  | .port p => p < 5
  | .lens n => n < 16
  | .arm a => a < 8
  | .pwm n => n < 32
  | .fbc b => b < 2
  | .chain l c => l < 16 && c < 32
  | .beam l => l < 64
  | .slice s => s < 64

/-- Data lengths of a CAN or CAN FD frame (R270). -/
def canLenOk (n : Nat) : Bool := n ≤ 8 || [12, 16, 20, 24, 32, 48, 64].contains n

/-- A CAN frame: an 11-bit identifier without IDE, a data length of the standard, 8 bytes without FD. -/
def canOk (f : CanFrame) : Bool :=
  (f.ide || f.id.toNat < 2048) && canLenOk f.data.length && (f.fd || f.data.length ≤ 8)

/-- A sampled-value frame within the limits of R137. -/
def svOk (f : SvFrame) : Bool :=
  f.appid < 65536 && f.vlan < 4096 && f.smpSynch ≤ 2 && 1 ≤ f.asdus.length && f.asdus.length ≤ 8
    && f.asdus.all fun a => a.smpCnt < 65536 && 1 ≤ a.channels.length && a.channels.length ≤ 24

/-- A GOOSE frame within the limits of R160. -/
def gooseOk (f : GooseFrame) : Bool :=
  f.stNum < 2 ^ 32 && f.sqNum < 2 ^ 32 && f.members.length ≤ 64

/-- An uplink frame (R217): lane number and at most 128 entries. -/
def uplinkOk (f : UplinkFrame) : Bool :=
  f.lane < 64 && f.fnum < 2 ^ 32 && f.cstat < 2 ^ 16 && f.entries.length ≤ 128

/-- A frame at a switch port: VLAN and priority within their fields. -/
def ethOk (f : EthFrame) : Bool :=
  f.pcp < 8 && (match f.vlan with | none => true | some v => v < 4096)

/-- Below a bound. -/
def lt (n x : Nat) : Bool := decide (x < n)

/-- A value that may be absent: a read that failed has nothing to check. -/
def opt {α : Type} (p : α → Bool) : Option α → Bool
  | none => true
  | some x => p x

/-- A temperature in signed 8 bits (R475). -/
def int8Ok (v : Int) : Bool := -128 ≤ v && v ≤ 127

/-- A value of a VALUE channel, or a detail word (R385). -/
def valueOk (v : Int) : Bool := -(2 ^ 63) ≤ v && v < 2 ^ 64

/-- An Announce: 8 bits of domain, 16 bits of currentUtcOffset (R261, R267). -/
def announceOk (a : Announce) : Bool := a.domain < 256 && -32768 ≤ a.utc && a.utc < 32768

/-- A peer delay of 32 bits (R268). -/
def pdelayOk : PdelayMsg → Bool
  | .measured ns => ns < 2 ^ 32
  | _ => true

/-- A doorbell record: eight TAILs of 32 bits and eight CQ_HEADs of 16 (R294). -/
def doorbellOk (d : Doorbell) : Bool :=
  d.tail.length = 8 && d.cqHead.length = 8 && d.gen < 2 ^ 32 && d.tail.all (lt (2 ^ 32)) && d.cqHead.all (lt 65536)

/-- A descriptor: the widths of its common fields (R307). -/
def descOk (d : Desc) : Bool :=
  d.seq < 2 ^ 64 && d.opcode < 65536 && d.length < 2 ^ 32 && d.bufAddr < 2 ^ 64 && d.aux < 2 ^ 64

/-- An image header: the widths of its fields (R409). -/
def imageOk (i : Image) : Bool := i.keyId < 256 && i.secver < 65536 && i.bodyLen < 2 ^ 32

/-- A KEY_WRITE block: the widths of its fields (R405). -/
def keyOk (b : KeyBlock) : Bool :=
  b.subop < 256 && b.slot < 256 && b.len < 65536 && b.parent < 256 && b.ctxLen < 65536

/-- A token: COUNT has 32 bits (R412). -/
def tokenOk (t : Token) : Bool := t.count < 2 ^ 32

/-- A SLICE_CREATE block: bytes for the slice and its port, 20 bits of PASID, eight VLANs at most (R319). -/
def sliceOk (b : SliceBlock) : Bool := b.slice < 256 && b.port < 256 && b.pasid < 2 ^ 32 && b.vlans.length ≤ 8

/-- A health report: the widths of its fields (R370). -/
def healthOk (h : Health) : Bool :=
  h.modnum < 65536 && h.role < 256 && h.stale < 256 && h.reportNo < 2 ^ 32 && h.epoch < 2 ^ 64

/-- An epoch header: the widths of its fields (R354). -/
def epochOk (e : Epoch) : Bool :=
  e.lens < 256 && e.modnum < 65536 && e.num < 2 ^ 64 && e.cycle < 2 ^ 64 && e.ts < 2 ^ 32 && e.source < 65536
    && e.items.length < 65536

/-- A register access is of whole words, and one of BAR2 lies in its 64 KiB (R46, R291). -/
def busOk (p : BusPort) (a : BitVec 24) : Bool :=
  match p with
  | .win _ => true
  | .vec _ => decide (a.toNat < 0x10000) && a.toNat % 4 = 0

/-- The well-formed commands. -/
def wellFormed : Instr → Bool
  | .nop _ _ _ => true
  | .ld _ _ _ => true
  | .and_ _ _ _ => true
  | .or_ _ _ _ => true
  | .xor_ _ _ _ => true
  | .st _ _ _ => true
  | .set_ _ _ _ => true
  | .rst _ _ _ => true
  | .not_ _ _ _ => true
  | .la1 _ _ _ => true
  | .la0 _ _ _ => true
  | .andNest _ _ _ => true
  | .orNest _ _ _ => true
  | .xorNest _ _ _ => true
  | .nestClose _ _ _ => true
  | .fp _ _ _ => true
  | .fn _ _ _ => true
  | .ton _ _ _ => true
  | .tof _ _ _ => true
  | .tp _ _ _ => true
  | .ctu _ _ _ => true
  | .ctd _ _ _ => true
  | .crs _ _ _ => true
  | .cld _ _ _ => true
  | .ju _ _ _ => true
  | .jc _ _ _ => true
  | .jcn _ _ _ => true
  | .cmp _ _ _ => true
  | .mpy _ _ _ => true
  | .mac _ _ _ => true
  | .msu _ _ _ => true
  | .mac2 _ _ _ => true
  | .adda _ _ _ => true
  | .suba _ _ _ => true
  | .clra _ _ _ => true
  | .ash _ _ _ => true
  | .sth _ _ _ => true
  | .add _ _ _ => true
  | .sub _ _ _ => true
  | .neg _ _ _ => true
  | .abs _ _ _ => true
  | .min _ _ _ => true
  | .max _ _ _ => true
  | .lsh _ _ _ => true
  | .ldw _ _ _ _ => true
  | .stw _ _ _ => true
  | .ldi _ _ _ => true
  | .addp _ _ _ => true
  | .ldp _ _ _ => true
  | .stp _ _ _ => true
  | .ldih _ _ _ => true
  | .wait_ _ _ _ => true
  | .seal_ _ _ _ => true
  | .send _ _ _ => true
  | .recv _ _ _ => true
  | .lane _ _ _ => true
  | .outw _ _ _ => true
  | .end_ _ _ _ => true
  | .facetWake _ _ _ => true
  | .sramUncorr _ _ => true
  | .fetchParity _ _ => true
  | .wakeFail _ _ => true
  | .selftestFail _ _ => true
  | .repairLoadDone _ => true
  | .repairTimeout _ => true
  | .lensFailure _ => true
  | .lensRelocationDone _ _ => true
  | .lensMemUncorr _ => true
  | .lensStewardFail _ => true
  | .lensPretickWake _ => true
  | .lensWakeTimeout _ => true
  | .streamRecordArrival _ _ _ => true
  | .messageArrival _ => true
  | .logicSnapshotStart _ => true
  | .logicSnapshotDone _ => true
  | .logicCommitStart _ => true
  | .logicCommitDone _ => true
  | .logicWatchdogExpiry _ => true
  | .logicRestoreDone _ => true
  | .logicExchangeDone _ => true
  | .logicExchangeTimeout _ => true
  | .canFrameRx _ x _ => canOk x
  | .stationPresenceCheck _ => true
  | .fbBasicCycleStart _ => true
  | .fbRefTimeout _ => true
  | .fbCellStart _ _ => true
  | .fbFrameTxDone _ _ => true
  | .fbErrorFrame _ _ => true
  | .fbRecoveryDone _ => true
  | .fbSupervisionTick _ => true
  | .fbcSendExpiry _ => true
  | .svFrameRx x _ => svOk x
  | .svKeySwitch _ => true
  | .focusChainOutput _ _ => true
  | .protCycleTick _ => true
  | .protDeadline _ => true
  | .settingsLoadDeferred _ _ _ => true
  | .toMinonExpiry _ => true
  | .toOverload _ => true
  | .toNoload _ x => lt 256 x
  | .gooseRetransmit _ => true
  | .gooseRx _ x _ => gooseOk x
  | .gooseTalExpiry _ => true
  | .tiFilterChange _ _ _ => true
  | .tiStuck _ => true
  | .tiLow _ _ => true
  | .cfFrameTick => true
  | .cfTickMissing => true
  | .cfComputeStart => true
  | .prismRankDone _ => true
  | .cfEmitStart => true
  | .armHoldLimit _ => true
  | .uplinkFrameRx _ x _ => uplinkOk x
  | .beamLockLost _ => true
  | .beamCalDue _ => true
  | .calibrateReplyRx _ _ y => lt (2 ^ 32) y
  | .beamCalFail _ => true
  | .deblockTimeout _ => true
  | .pwmPeriodStart _ => true
  | .pwmStuck _ => true
  | .pwmSyncPulse _ _ => true
  | .pwmSyncLost _ => true
  | .pwmTripClear _ => true
  | .armTripClear _ => true
  | .swcFrameRx _ x _ => ethOk x
  | .losslessAdmit _ _ => true
  | .mcRefused _ _ => true
  | .swcFrameTx _ => true
  | .addressAgeOut => true
  | .linkDown _ => true
  | .linkUp _ => true
  | .ptpSyncRx _ _ => true
  | .ptpAnnounceRx _ x => announceOk x
  | .ptpPdelayRx _ x => pdelayOk x
  | .announceTimeout => true
  | .holdoverEnd _ => true
  | .refFault => true
  | .tpPulse _ => true
  | .colTimeRead _ => true
  | .colSetGo _ => true
  | .colSetNsWrite _ => true
  | .doorbellPoll _ => true
  | .doorbellReadDone _ x => opt doorbellOk x
  | .descriptorReadDone _ _ x => opt descOk x
  | .completionWrite _ _ => true
  | .msixCoalTimeout _ _ => true
  | .hostLinkDown _ => true
  | .hostLinkUp _ x y => (1 ≤ x && x ≤ 4) && [1, 2, 4, 8].contains y
  | .nopDesc _ _ => true
  | .ringCreate _ _ => true
  | .ringDestroy _ _ => true
  | .ringDestroyDone _ _ => true
  | .svc _ _ => true
  | .unitCtrl _ _ => true
  | .frameTx _ _ x => opt ethOk x
  | .glintSub _ _ => true
  | .loadBank _ _ _ => true
  | .switchConsumers _ _ => true
  | .setDelay _ _ => true
  | .settingsLoad _ _ _ => true
  | .settingsSwitch _ _ => true
  | .tripReset _ _ => true
  | .keyRotate _ _ => true
  | .logicStart _ _ => true
  | .logicStop _ _ => true
  | .deblock _ _ => true
  | .block _ _ => true
  | .beamCal _ _ => true
  | .fbcArrival _ _ => true
  | .fbcSchedule _ _ => true
  | .fbcListen _ _ => true
  | .fbcRecover _ _ => true
  | .fbcSend _ _ _ => true
  | .tpArm _ _ => true
  | .readEvrLive _ _ => true
  | .readEvrLog _ _ => true
  | .readLoupe _ _ => true
  | .readDump _ _ => true
  | .readChannelTable _ _ => true
  | .perReadRecord _ _ => true
  | .perReadHist _ _ => true
  | .perReadPmap _ _ => true
  | .perReadIndex _ _ => true
  | .evrFlush _ _ => true
  | .logFlush _ _ => true
  | .dirtyLogStart _ _ => true
  | .dirtyLogStop _ _ => true
  | .clearFilter _ _ => true
  | .sliceResetReset _ _ => true
  | .sliceRemove _ _ => true
  | .slicePause _ _ => true
  | .sliceResume _ _ => true
  | .resetDone _ => true
  | .pauseEffect _ => true
  | .pauseTimeout _ => true
  | .apertureSet _ _ => true
  | .unitEnWrite x _ => unitOk x
  | .unitStartDone x => unitOk x
  | .unitStopDone x => unitOk x
  | .unitStartFailed x => unitOk x
  | .unitFenced x => unitOk x
  | .powerGood _ => true
  | .kaStartDone => true
  | .bootVerifyDone _ => true
  | .mmStartDone => true
  | .startupBistDone _ => true
  | .warmRestartDone => true
  | .holdupCharged x y => lt 65536 x && lt 4096 y
  | .holdupTimeout => true
  | .runSet => true
  | .runClear => true
  | .runClearDone => true
  | .restartWarm _ => true
  | .restartCold => true
  | .mmWatchdogExpiry => true
  | .mmLockstepFail => true
  | .mmRestartDone => true
  | .firmwareFatal => true
  | .dumpFlashCopyDone => true
  | .kaWatchdog => true
  | .supplyWarn _ => true
  | .supplyBelowPfail _ => true
  | .pfailQualified => true
  | .pfailBlockFramesSent => true
  | .pfailFlushDone => true
  | .storeExhausted => true
  | .supplyReturn _ _ => true
  | .slotPresentOpen => true
  | .latchOpen => true
  | .latchClose => true
  | .xcvrInsert _ _ _ => true
  | .xcvrRemove _ => true
  | .tempWarn _ x => int8Ok x
  | .tempCrit x => int8Ok x
  | .thermalTrip => true
  | .fwCommit _ x => opt imageOk x
  | .fwCommitDone _ => true
  | .keyWriteWrite x => opt keyOk x
  | .keyWriteDerive x => opt keyOk x
  | .keyWriteErase x => opt keyOk x
  | .keyWriteExport x => opt keyOk x
  | .keyWriteLock x => opt keyOk x
  | .keyWriteDone => true
  | .attest x _ => opt (fun n => n.length = 32) x
  | .attestDone => true
  | .bist x _ _ => opt (lt 65536) x
  | .bistDone _ => true
  | .lcTransition x => opt tokenOk x
  | .sliceCreate x => opt sliceOk x
  | .pkgCommit x => opt imageOk x
  | .pkgCommitDone _ => true
  | .hashRekey => true
  | .hashRekeyDone => true
  | .registerWrite p a _ x => busOk p a && (x = 8 || x = 16 || x = 32)
  | .ilkLoopReleased _ _ => true
  | .ilkDisagree => true
  | .ilkAgreeRestored => true
  | .ownOpen _ => true
  | .claimStart => true
  | .claimCollision => true
  | .claimWindowEnd => true
  | .takeoverBoundary => true
  | .yield => true
  | .soloWaitExpiry => true
  | .orphanWaitExpiry => true
  | .healthReportSend => true
  | .healthReportRx _ x => healthOk x
  | .partnerServiceTimeout => true
  | .recordEpochClose => true
  | .epochRx _ x => epochOk x
  | .epochAckRx _ x _ => lt (2 ^ 64) x
  | .epochNackRx _ x _ => lt (2 ^ 64) x
  | .epochAckTimeout x => lt (2 ^ 64) x
  | .resyncReqRx _ x _ => lt (2 ^ 64) x
  | .mirrorLinkDown _ => true
  | .mirrorLinkUp _ => true
  | .rollingSelftestDone _ x _ => match x with | .facet _ => true | .region r => r < 65536
  | .perGroupTick _ => true
  | .perRecordComplete _ => true
  | .holdoffEnd _ => true
  | .perFlashCopyDone x => lt (2 ^ 32) x
  | .perRunWrite _ _ => true
  | .perForce _ => true
  | .evrChannelUpdate _ x => valueOk x
  | .evrIntervalClose _ => true
  | .evrFlashFlushDone => true
  | .loupeArm _ _ => true
  | .loupeForce _ _ => true
  | .registerRead p a => busOk p a
  | .lcTransitionDone => true
  | .beamLockAcquired _ => true
  | .ilkLoopClaimed _ => true
  | .ownOpenClear _ => true
  | .supplyWarnClear _ => true
  | .descBucketRefill _ => true
  | .byteBucketRefill _ => true
  | .kaHoursTick => true
  | .svSampleTimeout _ => true
  | .lensWakeDone _ => true

end Sys2Proof
end

