-- ==== Sys2Proof/Decode.lean ====
section
/-! DEFINITION. Words: those of the opcode table, and the instruction words of a facet (R82, R86, R93, R95). -/

namespace Sys2Proof

/-- The command that a word spells by the opcode table's bits: none, since the table gives none of its rows any bits; a
command reaches the module as itself. -/
def decodeTableWord (_nbits _w : Nat) : Option Instr := none

/-- The row whose instruction a facet's word encodes: its opcode is in bits [31:26] (R82), by the Encoding columns of R86,
R93 and R95. NOP's row takes the word 0 and every word that no row encodes. -/
def facetInstr (l : Fin 16) (f : Fin 64) (w : Word) : Instr :=
  match (w >>> 26).toNat with
  | 0x01 => .ld l f (w.setWidth 26)
  | 0x02 => .and_ l f (w.setWidth 26)
  | 0x03 => .or_ l f (w.setWidth 26)
  | 0x04 => .xor_ l f (w.setWidth 26)
  | 0x05 => .st l f (w.setWidth 26)
  | 0x06 => .set_ l f (w.setWidth 26)
  | 0x07 => .rst l f (w.setWidth 26)
  | 0x08 => .not_ l f (w.setWidth 26)
  | 0x09 => .la1 l f (w.setWidth 26)
  | 0x0A => .la0 l f (w.setWidth 26)
  | 0x0B => .andNest l f (w.setWidth 26)
  | 0x0C => .orNest l f (w.setWidth 26)
  | 0x0D => .xorNest l f (w.setWidth 26)
  | 0x0E => .nestClose l f (w.setWidth 26)
  | 0x10 => .fp l f (w.setWidth 26)
  | 0x11 => .fn l f (w.setWidth 26)
  | 0x12 => .ton l f (w.setWidth 26)
  | 0x13 => .tof l f (w.setWidth 26)
  | 0x14 => .tp l f (w.setWidth 26)
  | 0x15 => .ctu l f (w.setWidth 26)
  | 0x16 => .ctd l f (w.setWidth 26)
  | 0x17 => .crs l f (w.setWidth 26)
  | 0x18 => .cld l f (w.setWidth 26)
  | 0x19 => .ju l f (w.setWidth 26)
  | 0x1A => .jc l f (w.setWidth 26)
  | 0x1B => .jcn l f (w.setWidth 26)
  | 0x1C => .cmp l f (w.setWidth 26)
  | 0x20 => .mpy l f (w.setWidth 26)
  | 0x21 => .mac l f (w.setWidth 26)
  | 0x22 => .msu l f (w.setWidth 26)
  | 0x23 => .mac2 l f (w.setWidth 26)
  | 0x24 => .adda l f (w.setWidth 26)
  | 0x25 => .suba l f (w.setWidth 26)
  | 0x26 => .clra l f (w.setWidth 26)
  | 0x27 => .ash l f (w.setWidth 26)
  | 0x28 => .sth l f (w.setWidth 26)
  | 0x29 => .add l f (w.setWidth 26)
  | 0x2A => .sub l f (w.setWidth 26)
  | 0x2B => .neg l f (w.setWidth 26)
  | 0x2C => .abs l f (w.setWidth 26)
  | 0x2D => .min l f (w.setWidth 26)
  | 0x2E => .max l f (w.setWidth 26)
  | 0x2F => .lsh l f (w.setWidth 26)
  | 0x30 => .ldw l f (w.setWidth 26) false
  | 0x31 => .stw l f (w.setWidth 26)
  | 0x32 => .ldi l f (w.setWidth 26)
  | 0x33 => .addp l f (w.setWidth 26)
  | 0x34 => .ldp l f (w.setWidth 26)
  | 0x35 => .stp l f (w.setWidth 26)
  | 0x36 => .ldih l f (w.setWidth 26)
  | 0x38 => .wait_ l f (w.setWidth 26)
  | 0x39 => .seal_ l f (w.setWidth 26)
  | 0x3A => .send l f (w.setWidth 26)
  | 0x3B => .recv l f (w.setWidth 26)
  | 0x3C => .lane l f (w.setWidth 26)
  | 0x3D => .outw l f (w.setWidth 26)
  | 0x3E => .end_ l f (w.setWidth 26)
  | _ => .nop l f w

end Sys2Proof
end

