-- ==== Sys2Proof/Machine/State.lean ====
section
/-! DEFINITION. The state of the module as plain data: every register, queue, buffer, counter and mode
the spec gives it, by chapter, the outcomes, and the state after reset. Reset values with no statement
in the spec are those of log 2. -/

namespace Sys2Proof.Machine

/-! ## Outcomes -/

/-- Reasons for which the machine stops. No command of this model stops the module: every fault of the
spec is an effect on State (R440), so this type has no constructor that a meaning raises. -/
inductive Fault
  /-- Raised by no meaning. Safe: it stops nothing. -/
  | none
  deriving DecidableEq, Repr

/-- Reasons for which a command has no meaning. -/
inductive Refusal
  /-- Raised only by an arm of `exec` whose command has no meaning yet, by its mnemonic. Safe. -/
  | notModelled (mnemonic : String)
  deriving DecidableEq, Repr

/-! ## Set-up window units GLB, KA and SVC (02) -/

/-- GLB registers (R57, R59, R60, R61, R475). -/
structure Glb where
  phase : Phase := .kaStart
  lcs : Lcs := .operational
  restartWarm : Bool := false
  holdupReady : Bool := false
  fwBank : Bool := false
  fwFallback : Bool := false
  run : Bool := false
  /-- RUN is being cleared, and its step 3 has begun (R58). -/
  clearing : Bool := false
  halting : Bool := false
  absent : Bool := false
  lockedWrite : Bool := false
  notReady : Bool := false
  runRefused : Bool := false
  modnum : BitVec 10 := 0
  deriving DecidableEq, Repr

/-- Keep-alive registers (R62) and the keep-alive domain's power. -/
structure Ka where
  /-- The input stage has reported power good (R49). -/
  powerGood : Bool := false
  powerGoodAt : Nat := 0
  retentionValid : Bool := false
  retSrc : Bool := false
  journalSealOk : Bool := false
  flushFailed : Bool := false
  svcCut : Bool := false
  warmAllowed : Bool := true
  claimDrop : Bool := true
  nextBank : Bool := false
  runningBank : Bool := false
  resultA : BankResult := .notTried
  resultB : BankResult := .notTried
  cause : RstCause := .powerOn
  count : Nat := 0
  vin : BitVec 12 := 0
  warn : Bool := false
  pfail : Bool := false
  hours : Word := 0
  pwrcyc : Word := 0
  /-- The copies of KA_HOURS and KA_PWRCYC in flash (R62). -/
  hoursFlash : Word := 0
  pwrcycFlash : Word := 0
  /-- The bank that the boot ROM verifies. -/
  tryBank : Bool := false
  /-- The Module Manager has been restarted from the other bank during start-up (R52). -/
  bootRetried : Bool := false
  /-- The instant from which the current 0.01 h counts. -/
  hoursAt : Nat := 0
  deriving DecidableEq, Repr

/-- What an operation of the Service Channel works on, once its parameter block has been read (R72). -/
inductive SvcWork
  /-- SVC_CMD or the service ring has named the operation; its block is still being read. -/
  | awaiting
  | fwCommit (bank : Bool) (img : Image)
  | keyWrite (b : KeyBlock) (shadow : List Byte)
  | attest (ims : List Byte) (entries : Nat)
  | bist (region : Nat)
  | lcTransition (t : Token)
  | sliceCreate (b : SliceBlock)
  | pkgCommit (img : Image)
  | hashRekey
  deriving DecidableEq, Repr

/-- The operation that runs on the channel (R70, R74): its code, tag and door; `host` is the host port
of a mailbox operation; `jseq` the journal entry of a service-ring operation. -/
structure SvcOp where
  op : Nat := 0
  tag : Byte := 0
  door : Door := .mailbox
  host : Nat := 0
  jseq : Nat := 0
  since : Nat := 0
  work : SvcWork := .awaiting
  deriving DecidableEq, Repr

/-- The Service Channel, the firmware and configuration banks (R54 to R56, R70). -/
structure Svc where
  op : Byte := 0
  cmdTag : Byte := 0
  args : Vector Word 8 := Vector.replicate 8 0
  running : Option SvcOp := none
  done : Bool := false
  tag : Byte := 0
  code : Code := 0
  ignored : Nat := 0
  /-- A service-ring operation that waits for the channel (R74). -/
  waiting : Option SvcOp := none
  bankA : Option Image := none
  bankB : Option Image := none
  cfg0 : Option Image := none
  cfg1 : Option Image := none
  /-- The active configuration bank pointer: false bank 0, true bank 1. -/
  active : Bool := false
  /-- The configuration package that is loaded. -/
  pkg : Package := {}
  /-- A package whose on-line exchange is under way (R134), and the loop programs, as lens * 64 + facet,
  that wait for their converter frame boundary. -/
  staged : Option Image := none
  exchLoops : List Nat := []
  /-- The staged package is the old one again: an exchange has not finished in time (R136, log 74). -/
  undoing : Bool := false
  /-- The instant from which the programs of a package staged in a pair are exchanged (R429). -/
  exchAt : Nat := 0
  /-- The package's body goes to the partner, and its exchange waits for the ACK of every body epoch (R429). -/
  sharing : Bool := false
  /-- A package has been committed since the restart (R51, R58). -/
  committed : Bool := false
  /-- The configuration package that the retained data names (R63). -/
  retainedPkg : Nat := 0
  deriving DecidableEq, Repr

/-- STATE of a unit (R75). -/
inductive UState | off | starting | on | stopping
  deriving DecidableEq, Repr

/-- The state field of a switchable unit (R75). `since` is the start of the transition under way. -/
structure UnitSt where
  st : UState := .off
  startFailed : Bool := false
  fenced : Bool := false
  en : Bool := false
  since : Nat := 0
  deriving DecidableEq, Repr

/-! ## Facets and lenses (03) -/

/-- RUN of LNSn_FSTAT (R107). -/
inductive FRun | stopped | active | gated | fenced
  deriving DecidableEq, Repr

/-- Facet fault causes (R101). -/
inductive FFault
  | none | sramUncorr | fetchParity | wakeFail | selftestFail | illegalOp | nestFault | addrRange
  deriving DecidableEq, Repr

/-- Pending combination of a nesting entry (R86). -/
inductive Comb | and | or | xor
  deriving DecidableEq, Repr

/-- How a gated facet waits: after END for any event, after WAIT for an event of its mask (R81). -/
inductive Gate | ended | waiting (mask : BitVec 3)
  deriving DecidableEq, Repr

/-- One facet: status (R107), registers (03, "Logic Unit" and "Arithmetic Unit"), memories (R77) and
wake controller (R81). -/
structure FacetSt where
  role : Role := .spare
  run : FRun := .stopped
  fault : FFault := .none
  /-- Home facet of the program run here when it is another's: HOST_OF with SUBST = 1. -/
  hostOf : Option Nat := none
  la : Bool := false
  stack : List (Bool × Comb) := []
  pc : BitVec 13 := 0
  d : Vector Half 8 := Vector.replicate 8 0
  a : Vector Acc 4 := Vector.replicate 4 0
  p : Vector Word 8 := Vector.replicate 8 0
  /-- Data memory, 96 KiB: the bytes that are not zero, by rising address. -/
  dmem : List Host.Cell := []
  /-- Instruction memory from word 0; a word beyond the list is 0. -/
  imem : List Word := []
  firstCycle : Bool := false
  psat : Bool := false
  aovf : Bool := false
  ssat : Bool := false
  replayed : Bool := false
  restored : Bool := false
  gate : Gate := .ended
  qTick : Bool := false
  qStream : Bool := false
  qMessage : Bool := false
  /-- Instants of the queued events, in ns of TAI, the last one where several have merged (R78, log 12). -/
  tickAt : Nat := 0
  streamAt : Nat := 0
  messageAt : Nat := 0
  /-- The work item has taken its cycle tick, at its start or at a WAIT; and it began with one (R81, R392). -/
  ticked : Bool := false
  began : Bool := false
  /-- Stream records that the window loader has put into the stream area for this work item (R79). -/
  loaded : Nat := 0
  /-- A rolling self-test mismatch waits for the cycle boundary (R101). -/
  testFailed : Bool := false
  deriving DecidableEq, Repr

/-- The image staging region of a lens (R13): the image that the Lens Steward last wrote there, by home facet. -/
structure Staging where
  home : Nat := 0
  code : List Word := []
  data : List (Nat × Byte) := []
  deriving DecidableEq, Repr

/-- A seal buffer: the record and whether it has been invalidated (R98, R99, R114). -/
structure SealBuf where
  record : Option SealRec := none
  invalid : Bool := false
  deriving DecidableEq, Repr

/-- The lens memory regions of one program, kept under its home facet (R13, R96, R98). Pairs of fields
are the two buffers of parity 0 and 1. -/
structure ProgSt where
  inWin0 : List Byte := []
  inWin1 : List Byte := []
  outWin0 : Option (Nat × List Byte) := none
  outWin1 : Option (Nat × List Byte) := none
  seal0 : SealBuf := {}
  seal1 : SealBuf := {}
  /-- Receive queues 0 to 3, oldest message first (R96). -/
  rxq : Vector (List (List Byte)) 4 := Vector.replicate 4 []
  /-- Sequence numbers by destination queue, keyed (lens * 64 + facet) * 4 + queue (R96). -/
  txSeq : List (Nat × Nat) := []
  /-- Stream window records not yet consumed, oldest first, and the write index (R79). -/
  stream : List (List Byte) := []
  writeIndex : Nat := 0
  /-- The program's cycle: its number, whether its computing phase is open, whether an OUTW has ended
  in time and whether it has sealed (R80, R26). -/
  cycle : Nat := 0
  computing : Bool := false
  outDone : Bool := false
  sealed : Bool := false
  /-- The next scheduled tick, once one is scheduled (R34). -/
  nextTick : Option Nat := none
  /-- A repaired protection program runs the cycles it has missed, back to back (R103). -/
  catchUp : Bool := false
  deriving DecidableEq, Repr

/-- PSTATE of a lens (R33). -/
inductive PState | run | idle | retain | off
  deriving DecidableEq, Repr

/-- A repair under way (R102): failed facet, home facet of its program, the spare, the start of T_R; the
cycle in which it failed and whether its computing phase was open (R103); `behind`: it has waited behind another, so that
T_R counts from its own step 3. -/
structure Repair where
  failed : Nat := 0
  home : Nat := 0
  spare : Nat := 0
  start : Nat := 0
  cycle : Nat := 0
  opened : Bool := false
  behind : Bool := false
  deriving DecidableEq, Repr

/-- Cases of a lens failure report (R104). -/
inductive LensFault | noSpare | noCheckpoint | repairTime | memUncorr | wakeTime | steward
  deriving DecidableEq, Repr

/-- One lens (R33, R106). -/
structure LensSt where
  pstate : PState := .off
  /-- A wake under way and its start (R34). -/
  waking : Option Nat := none
  free : List Nat := []
  repairs : Nat := 0
  fltWriter : Nat := 0
  fltLane : Nat := 0
  fltMsgFull : Nat := 0
  eccCorr : Nat := 0
  eccUncorr : Nat := 0
  repairGap : Nat := 0
  lateOut : Nat := 0
  repair : Option Repair := none
  /-- Failed facets that wait for their repair, in order of detection (R102); only `start` and `spare`
  are still to be filled in. -/
  waitRepair : List Repair := []
  failure : Option LensFault := none
  stewardFailed : Bool := false
  /-- The image staging region: written by the Lens Steward, read by the facet control port (R13). -/
  staging : Option Staging := none
  /-- A relocation of the lens's programs is under way to this lens (R436). -/
  relocTo : Option Nat := none
  /-- The lens has been fenced by R437. -/
  fenced : Bool := false
  /-- A changed configuration or a failed rolling self-test since the last full test (R66). -/
  needsTest : Bool := false
  /-- The facet under a rolling self-test; its program has moved to a spare (R369). -/
  testing : Option Nat := none
  /-- Messages from other lenses under way to this lens: facet, queue, message (R97). -/
  inbound : List (Nat × Nat × List Byte) := []
  deriving DecidableEq, Repr

/-! ## Cyclic logic and remote I/O (04) -/

/-- STATE of LNSn_LC_STAT (R117). -/
inductive LState | none | stopped | running | stoppedOverrun | stoppedFault | exchanging
  deriving DecidableEq, Repr

/-- Where the cycle of a logic program stands (R109, R114); `ready` waits for an exchange (R134). -/
inductive LPhase | idle | snapshot | ready | execute | restore | ended
  deriving DecidableEq, Repr

/-- A logic program (R109 to R117, R134). -/
structure LogicSt where
  st : LState := .none
  consec : Nat := 0
  overrun : Bool := false
  exchDone : Bool := false
  last : Nat := 0
  max : Nat := 0
  ovr : Nat := 0
  phase : LPhase := .idle
  cycle : Nat := 0
  snapStart : Nat := 0
  execEnd : Nat := 0
  commitStart : Nat := 0
  /-- A COMMIT is in progress, from its start to the write of the last mailbox (R109). -/
  committing : Bool := false
  /-- EXECUTE has ended and its COMMIT waits for the one in progress (R112). -/
  commitDue : Bool := false
  /-- The next COMMIT is the final one, of the safe output image; the state it leaves. -/
  safeDue : Option LState := Option.none
  stopAsked : Bool := false
  startAsked : Bool := false
  /-- Extension of this cycle's watchdog in ns (R116, R134). -/
  wdogExt : Nat := 0
  /-- Input images copied so far for the cycle in SNAPSHOT, in declared order. -/
  copied : List Byte := []
  copiedImgs : List Byte := []
  copiedQual : List Byte := []
  copiedN : Nat := 0
  /-- The committed output image (R109). -/
  image : List Byte := []
  /-- The seal of the last committed cycle (R114, R119). -/
  commitSeal : Option SealRec := Option.none
  exchPending : Bool := false
  exchStart : Option Nat := Option.none
  /-- The staged package removes the program (R136). -/
  removeAsked : Bool := false
  /-- The program starts from its retained slot (R120), and its restored timers take TIME_US of the first
  cycle. -/
  warm : Bool := false
  retime : Bool := false
  /-- LOGIC_CTRL descriptors that wait for the stop and for the start, by journal number. -/
  stopBy : List Nat := []
  startBy : List Nat := []
  /-- TS of the cycle tick. -/
  tickTs : Nat := 0
  deriving DecidableEq, Repr

/-- A retained slot of R118. -/
structure RetSlot where
  record : Option SealRec := none
  image : List Byte := []
  st : LState := .none
  deriving DecidableEq, Repr

inductive StnState | present | missing | absent | unused
  deriving DecidableEq, Repr

/-- An input group being received (R123): its GSEQ, the next INDEX, the data so far. -/
structure Group where
  gseq : Nat := 0
  next : Nat := 0
  data : List Byte := []
  deriving DecidableEq, Repr

/-- A remote station (R122 to R130, R133). -/
structure StnSt where
  st : StnState := .unused
  missed : Nat := 0
  gseq : Nat := 0
  image : List Byte := []
  /-- Receive time of the image, in ns of TAI; none before the first. -/
  rxTime : Option Nat := none
  group : Option Group := none
  /-- A complete group has come since presence was last judged. -/
  got : Bool := false
  mailbox : List Byte := []
  unsent : Bool := false
  /-- The image waits for the next COMMIT after a bus-off (R285). -/
  heldBack : Bool := false
  outGseq : Nat := 0
  discard : Nat := 0
  grpBad : Nat := 0
  /-- End of the interval for which presence was last judged. -/
  judged : Nat := 0
  deriving DecidableEq, Repr

inductive Quality | good | invalid | oscillatory
  deriving DecidableEq, Repr

/-- An input conditioner (R131 to R133). Changes are kept as instant and the value before. -/
structure CondSt where
  quality : Quality := .invalid
  value : Bool := false
  stuck : Bool := false
  raw : Bool := false
  rawSince : Nat := 0
  deb : Bool := false
  changes : List (Nat × Bool) := []
  lastChange : Nat := 0
  frozen : Bool := false
  oneSince : Option Nat := none
  deriving DecidableEq, Repr

/-! ## Sampled values, Focus chains, protection, trip outputs, GOOSE (05) -/

inductive SvState | idle | receiving | lost
  deriving DecidableEq, Repr

/-- One sequence of samples of a subscription (R138, R140): the last accepted sample, its instant in units of 2⁻¹⁶ ns,
and the samples found missing since. -/
structure SvSeq where
  st : SvState := .idle
  unsync : Bool := false
  lastSmp : Nat := 0
  have_ : Bool := false
  lastVals : List (Int × Word) := []
  lastAt : Nat := 0
  missRun : Nat := 0
  deriving DecidableEq, Repr

/-- A sampled-value subscription (R138 to R141). Frames with the simulation bit are a sequence of their own, since each
slice honours the bit for itself (R137, log 77); `shown`: the last accepted sample was a simulated one. -/
structure SvSt where
  real : SvSeq := {}
  sim : SvSeq := {}
  shown : Bool := false
  unsync : Bool := false
  miss : Nat := 0
  authfail : Nat := 0
  seqerr : Nat := 0
  late : Nat := 0
  keyCur : Nat := 0
  keyNext : Nat := 0
  /-- Consecutive frames that passed with KEY_NEXT (R139). -/
  nextPass : Nat := 0
  lastCfgEvent : Option Nat := none
  deriving DecidableEq, Repr

/-- One Focus chain (R143, R147, R151). -/
structure ChainSt where
  taps : List Int := []
  gd : Nat := 0
  late : Nat := 0
  consumed : Bool := false
  deriving DecidableEq, Repr

/-- An input of a slot: value, quality word with SUBST and UNSYNC, smpCnt, instant in units of 2⁻¹⁶ ns (R138, R145),
and its number among the slot's inputs. -/
structure SlotIn where
  value : Int := 0
  quality : Word := 0
  smpCnt : Nat := 0
  tin : Nat := 0
  n : Nat := 0
  /-- Valid inputs up to this one, since the chain started or its stream returned (R146). -/
  valid : Nat := 0
  deriving DecidableEq, Repr

/-- The last output record of a slot (R145). -/
structure SlotRec where
  value : Int := 0
  quality : Word := 0
  ts : Word := 0
  smpCnt : Nat := 0
  deriving DecidableEq, Repr

/-- One channel slot (R144 to R146, R151). `hist` holds the inputs of the filter, newest first. -/
structure SlotSt where
  delay : Nat := 0
  out : SlotRec := {}
  /-- The record before `out` (R152). -/
  prev : SlotRec := {}
  hist : List SlotIn := []
  /-- Valid inputs since the chain started or its stream returned (R146). -/
  valid : Nat := 0
  /-- The input whose output the slot has produced for the tick to come: smpCnt and instant (R152). -/
  ready : Option (Nat × Nat) := none
  /-- Inputs so far, and the number of the last input whose output was made. -/
  count : Nat := 0
  doneTo : Nat := 0
  deriving DecidableEq, Repr

/-- One protection function of a facet (R156, R157). `active`: false A, true B. -/
structure FnSt where
  bankA : List Byte := []
  bankB : List Byte := []
  active : Bool := false
  /-- A SETTINGS_SWITCH that waits: its cycle and its journal number. -/
  pending : Option (Nat × Nat) := none
  /-- SETTINGS_LOAD descriptors that found a switch pending, by journal number (R157). -/
  refused : List Nat := []
  /-- Cycle in which the inactive bank became inactive. -/
  inactiveAt : Nat := 0
  switched : Bool := false
  deriving DecidableEq, Repr

/-- The protection cycle of a slice (R152 to R155). -/
structure ProtSt where
  cycle : Nat := 0
  /-- The input k of the last tick: its smpCnt and t_in(k), in units of 2⁻¹⁶ ns. -/
  last : Option (Nat × Nat) := none
  evaluating : Bool := false
  evalStart : Nat := 0
  /-- TAI of the cycle's tick. -/
  evalTai : Nat := 0
  consecOvr : Nat := 0
  /-- A consumer switch from one chain to another, waiting for the tick (R148). -/
  switch : List (Nat × Nat × Nat) := []
  /-- Chains that the consumers take their records from (R148). -/
  chains : List Nat := []
  loaded : Bool := false
  deriving DecidableEq, Repr

/-- A trip output (R158, R159, R466). `closed` holds until the opening rule is met; DRIVEN is
`closed` under the grant. -/
structure ToSt where
  latched : Bool := false
  closed : Bool := false
  lastEdge : Nat := 0
  /-- A TRIP_RESET has executed since the last edge. -/
  resetDone : Bool := false
  overload : Bool := false
  noload : Bool := false
  deriving DecidableEq, Repr

/-- A GOOSE publisher (R160 to R163). -/
structure GpSt where
  stNum : Nat := 0
  sqNum : Nat := 0
  /-- Interval under way and the instant of the next frame, in ns. -/
  interval : Nat := 0
  nextSend : Option Nat := none
  keyCur : Nat := 0
  /-- Members of the last ISSUE, and the dataset of the last frame, which retransmissions repeat (R161). -/
  members : List GooseVal := []
  data : List GooseVal := []
  /-- The publisher record held for it (R162): stNum, sqNum, digest. -/
  record : Option (Nat × Nat × BitVec 64) := none
  deriving DecidableEq, Repr

/-- A GOOSE subscription record (R160). -/
structure GsSt where
  stNum : Nat := 0
  sqNum : Nat := 0
  valid : Bool := false
  expiry : Option Nat := none
  members : List GooseVal := []
  keyCur : Nat := 0
  keyNext : Nat := 0
  /-- Consecutive frames that passed with KEY_NEXT (R139, R160). -/
  nextPass : Nat := 0
  authfail : Nat := 0
  deriving DecidableEq, Repr

/-- A published sampled-value stream (R164): the output window last committed by ISSUE, whether it has been renewed
since it was published, and the ASDUs gathered for the next frame. -/
structure SvPubSt where
  values : List Byte := []
  renewed : Bool := false
  asdus : List SvAsdu := []
  deriving DecidableEq, Repr

/-! ## Converter, Prism, edges, PWM, trip inputs, beam lanes (06, 07) -/

/-- Level of a channel (07, "Levels, forms and dead time"). -/
inductive Level | block | zero | one
  deriving DecidableEq, Repr

/-- Forms of R196. -/
inductive Form | block | bypass | insert | pulse | notch
  deriving DecidableEq, Repr

/-- A command of one channel for one period (R196, R214). -/
structure Command where
  form : Form := .block
  a : Nat := 0
  b : Nat := 0
  carrier : Bool := false
  excluded : Bool := false
  /-- DEAD: the arm's DT in ns; 0 in a slot without a sub-module, and ignored in a PWM record (R206, R214). -/
  dead : Nat := 0
  deriving DecidableEq, Repr

/-- The header of a downlink frame and LAUNCH of its start block (R212, R213). TYPE is the body's. -/
structure BeamHdr where
  lane : Nat := 0
  active : Bool := false
  fnum : Nat := 0
  tick : Nat := 0
  modnum : Nat := 0
  launch : Nat := 0
  deriving DecidableEq, Repr

/-- What a downlink frame carries after its header (R213, R216, R219). -/
inductive BeamBody
  | regular (cmds : List Command)
  | tripBlock
  | calibrate (cf delta dDown ul : Nat)
  deriving DecidableEq, Repr

/-- A frame that waits for its lane: its TICK, its number where it has one of its own, the instant before which it does
not start, its length on the line in ns, and the start of the lane's next REGULAR frame, which a CALIBRATE frame may not
reach (R216, R219). -/
structure BeamItem where
  body : BeamBody
  tick : Nat
  fnum : Option Nat := none
  start : Nat
  len : Nat
  limit : Option Nat := none
  deriving DecidableEq, Repr

/-- One sub-module channel of an arm (R173, R174, R181). `fresh` is the usable entry gathered for the
current frame; the credit is in units of 1/65,536 switching. -/
structure SmSt where
  vcap : Nat := 0
  status : Nat := 0
  failed : Bool := false
  temp : Int := 0
  applied : Nat := 0
  age : Nat := 255
  valid : Bool := false
  stale : Bool := false
  excluded : Bool := true
  streak : Nat := 0
  rank : Nat := 0xFFFF
  /-- Fresh entries taken, modulo 2³²: which one VCAP comes from (R376). -/
  taken : Nat := 0
  credit : Nat := 0
  inserted : Bool := false
  carrier : Bool := false
  cur : Level := .block
  /-- Level and credit before the last frame's command (R191). -/
  cur0 : Level := .block
  credit0 : Nat := 0
  fresh : Option UpEntry := none
  deriving DecidableEq, Repr

/-- OPSTATE of an arm (R194). -/
inductive ArmOp | blocked | pending | deblocked | tripped
  deriving DecidableEq, Repr

/-- CAUSE of an arm (R194). -/
inductive ArmCause | none | restart | lane | cmd | noOutput | prismFault | disabled
  deriving DecidableEq, Repr

/-- The arm output record of R176. -/
structure ArmOut where
  nOn : Nat := 0
  frac : Nat := 0
  iarmEst : Int := 0
  duties : List Nat := []
  deriving DecidableEq, Repr

/-- One arm (R186, R194, R226). -/
structure ArmSt where
  op : ArmOp := .blocked
  cause : ArmCause := .restart
  dir : Bool := false
  held : Bool := false
  clamped : Bool := false
  nOn : Nat := 0
  frac : Nat := 0
  avail : Nat := 0
  excluded : Nat := 0
  iarm : Int := 0
  holdCnt : Nat := 0
  clampCnt : Nat := 0
  staleCnt : Nat := 0
  blockCnt : Nat := 0
  heldRun : Nat := 0
  /-- The next frame ranks afresh (R180). -/
  rankAfresh : Bool := true
  /-- Prism order of the last frame ranked and whether this frame's ranking is complete. -/
  order : List Nat := []
  ranked : Bool := false
  /-- Rank under way for the current frame (R169). -/
  ranking : Bool := false
  tolHeld : Bool := false
  /-- The arm current word of the uplink of FIRST_LANE, gathered for the frame (R175). -/
  iarmUp : Option Int := Option.none
  iarmEst : Int := 0
  /-- The header of the arm window written last; none before the first (R173). -/
  header : List Byte := []
  vsum : Nat := 0
  vmin : Nat := 0
  vmax : Nat := 0
  stale : Nat := 0
  out : Option ArmOut := Option.none
  lastOut : ArmOut := {}
  duties : List Nat := []
  leadRun : Nat := 0
  firstDeblocked : Bool := false
  /-- The last frame whose commands the arm has compiled. -/
  emitted : Option Nat := Option.none
  /-- A deblock that waits (R187): journal number, start, earliest frame. -/
  pend : Option (Nat × Nat × Nat) := Option.none
  /-- CNV_CTRL BLOCK descriptors that take effect at a frame (R186, R188): journal number, earliest frame. -/
  blockAt : List (Nat × Nat) := []
  carrier0 : Option Nat := Option.none
  carrier1 : Option Nat := Option.none
  trip : Bool := false
  clearRefused : Bool := false
  shortP : Nat := 0
  shortG : Nat := 0
  /-- Changes of the block input, newest first, as far back as two samples reach (R201). -/
  maskHist : List (Nat × Bool) := []
  deriving DecidableEq, Repr

/-- One rank engine (R195). -/
structure EngineSt where
  arm : Nat := 0
  spread : Nat := 0
  hold : Bool := false
  dir : Bool := false
  rankTime : Nat := 0
  swaps : Nat := 0
  budgetOvr : Nat := 0
  noCarrier : Nat := 0
  tolHold : Nat := 0
  faulty : Bool := false
  deriving DecidableEq, Repr

/-- Phases of a converter frame (R168). -/
inductive CfPhase | idle | gather | compute | emit
  deriving DecidableEq, Repr

/-- Converter-wide state (R168, R193, R215, R226). -/
structure CnvSt where
  fnum : Nat := 0
  phase : CfPhase := .idle
  tickAt : Nat := 0
  /-- TAI of the frame tick. -/
  tickTai : Nat := 0
  /-- Number of the last pulse of CNV_FRAME.TP taken as a frame tick or found missing (R168, R215). -/
  lastPulse : Option Nat := none
  tickMiss : Nat := 0
  /-- The arms' records of the frame have been sealed (R191). -/
  sealDue : Bool := false
  deriving DecidableEq, Repr

/-- One local PWM channel (R196 to R211, R223). -/
structure PwmSt where
  lastForm : Form := .block
  trip : Bool := false
  clearRefused : Bool := false
  stuck : Bool := false
  /-- A lane block is in force. -/
  blocked : Bool := false
  gated : Bool := false
  held : Bool := false
  syncLost : Bool := false
  shortP : Nat := 0
  shortG : Nat := 0
  cut : Nat := 0
  heldCnt : Nat := 0
  cur : Level := .block
  /-- The switching of the period: instant after the period start, HI on, LO on (R197). -/
  outs : List (Nat × Bool × Bool) := []
  blockStart : Nat := 0
  /-- Changes of the block input, newest first, as far back as two samples reach (R201). -/
  maskHist : List (Nat × Bool) := []
  /-- The instant at which the outputs went off for want of the grant (R203). -/
  gatedAt : Nat := 0
  cutRun : Nat := 0
  /-- The period timer runs (R206), its current period's start, and the start fixed by a pulse. -/
  running : Bool := false
  periodStart : Nat := 0
  nextStart : Option Nat := none
  /-- The instant at which the last sync pulse arrived, or of the commit (R211). -/
  lastSync : Nat := 0
  /-- Records of the source facet's OUTWs, newest first: instant, command, whether its form code is
  above 0x04 (R207). -/
  outws : List (Nat × Command × Bool) := []
  startReady : Bool := false
  deriving DecidableEq, Repr

/-- One optical trip input (R204, R205, R224, R461). -/
structure TiSt where
  active : Bool := false
  stuck : Bool := false
  toggling : Bool := false
  acts : Nat := 0
  actTimes : List Nat := []
  activeSince : Nat := 0
  toggleEvent : Option Nat := none
  low : Bool := false
  deriving DecidableEq, Repr

/-- One beam lane (R215 to R225). -/
structure BeamSt where
  locked : Bool := false
  calValid : Bool := false
  paramOk : Bool := false
  delayMargin : Bool := false
  concBlocked : Bool := false
  timeOk : Bool := false
  dDown : Nat := 0
  dUp : Nat := 0
  ul : Nat := 0
  rtt : Nat := 0
  turn : Nat := 0
  crcErr : Nat := 0
  hdrErr : Nat := 0
  late : Nat := 0
  /-- A calibration is due; the CALIBRATE frame on its way and its LAUNCH; the interval's start. -/
  calDue : Bool := false
  calSent : Option Nat := none
  calStart : Nat := 0
  /-- First frame that may carry the CALIBRATE frame that is due (R222). -/
  calFrom : Nat := 0
  /-- Frames that have not started on the lane, in the order in which they go, and the instant at which the line is
  free (R216). -/
  out : List BeamItem := []
  busyTo : Nat := 0
  /-- The concentrator's own fault code in the last uplink (R217). -/
  cfault : Nat := 0
  /-- BEAM_CAL descriptors that wait for this lane: journal number, and how its calibration ended. -/
  calJobs : List (Nat × Option Bool) := []
  lastReg : Nat := 0
  used : Bool := false
  streak : Nat := 0
  /-- The excess over δ held in the calibration record (R25). -/
  excess : Nat := 0
  deriving DecidableEq, Repr

/-! ## Switch core and ports (08) -/

/-- A frame in the shared buffer (R234): stored once, in cells of these banks, with the class that R231 gives it, whether
it was flooded, and whether it is a command output. -/
structure Stored where
  id : Nat := 0
  frame : EthFrame := {}
  banks : List Nat := []
  cls : Nat := 0
  flooded : Bool := false
  command : Bool := false
  /-- The port it came in at, and when. -/
  ingress : Nat := 0
  at_ : Nat := 0
  deriving DecidableEq, Repr

/-- A queued copy of a stored frame at an egress port (R233, R234): the number of the frame, its cells, whether the copy
is charged to the shared pool, and the slice of a host port's queue. -/
structure QEntry where
  id : Nat := 0
  cells : Nat := 1
  pool : Bool := false
  slice : Nat := 0
  deriving DecidableEq, Repr

/-- A stored lossless frame that waits for admission (R236). -/
structure Waiting where
  id : Nat := 0
  ingress : Nat := 0
  cls : Nat := 0
  cells : Nat := 1
  ports : List Nat := []
  since : Nat := 0
  deriving DecidableEq, Repr

/-- A learned address (R242, R243). `bucket` is bank * 4,096 + index, none for the stash. -/
structure Learned where
  addr : BitVec 48 := 0
  vlan : Nat := 0
  port : Nat := 0
  seen : Nat := 0
  bucket : Option Nat := none
  deriving DecidableEq, Repr

/-- A Glint sampler (R246, R251). `dir` 0 off, 1 ingress, 2 egress. -/
structure GlintSt where
  n : Nat := 0
  dir : Nat := 0
  toMM : Bool := false
  slice : Nat := 0
  ring : Nat := 0
  count : Nat := 0
  /-- Records taken since the sampler was enabled (SAMPLE_NO, R247), and in all. -/
  sampleNo : Nat := 0
  seen : Nat := 0
  drop : Nat := 0
  skipped : Nat := 0
  deriving DecidableEq, Repr

/-- A token bucket in units of 1/10⁹ token (R238, R322): `tokens` at instant `at_`. A bucket nothing
has taken from is full. -/
structure Bucket where
  tokens : Option Int := none
  at_ : Nat := 0
  deriving DecidableEq, Repr

/-- Front and backplane port registers (R253). -/
structure PortSt where
  link : Bool := false
  fecLock : Bool := false
  rxLos : Bool := false
  txFault : Bool := false
  modPresent : Bool := false
  rxFrames : Nat := 0
  fcsErr : Nat := 0
  oversize : Nat := 0
  runt : Nat := 0
  pause : Nat := 0
  txFrames : Nat := 0
  linkDown : Nat := 0
  fecCorr : Nat := 0
  fecUncorr : Nat := 0
  deriving DecidableEq, Repr

/-- A deficit round robin (R323): the slices not yet served in this round, the one whose turn it is first, and the credits
of the slices with work, in bytes. -/
structure Round where
  todo : List Nat := []
  credit : List (Nat × Nat) := []
  deriving DecidableEq, Repr

/-- The switch core (R232 to R251). -/
structure SwcSt where
  nextId : Nat := 0
  queues : Tbl (List QEntry) := ⟨[], []⟩
  /-- Frames stored in the shared buffer, and the bank that the free list gives next (R234). -/
  stored : List Stored := []
  bank : Nat := 0
  /-- The instant at which the switch core started, from which policers count (R238). -/
  startAt : Nat := 0
  waiting : List Waiting := []
  /-- Frames of FRAME_TX whose STARTED item is not sealed yet: journal number, slice, frame (R365). -/
  unsealed : List (Nat × Nat × EthFrame) := []
  learned : List Learned := []
  learnBlocked : Bool := false
  rekeying : Bool := false
  hashKey : Nat := 0
  hashEpoch : Nat := 0
  buckets : Tbl Bucket := ⟨{}, []⟩
  glint : Tbl GlintSt := ⟨{}, []⟩
  /-- Second of the last Glint record and records delivered in it (R246). -/
  glintRate : Nat × Nat := (0, 0)
  ports : Tbl PortSt := ⟨{}, []⟩
  mcRefused : Nat := 0
  learnFail : Nat := 0
  flood : Nat := 0
  unkMc : Nat := 0
  staticMove : Nat := 0
  spoof : Nat := 0
  qdrop : Tbl Nat := ⟨0, []⟩
  holdDrop : Tbl Nat := ⟨0, []⟩
  police : Tbl Nat := ⟨0, []⟩
  /-- Instants of the last rate-limited events: MC_REFUSED by port, POLICE_DROP by entry, the last
  LEARN_TABLE_FULL (R236, R238, R243). -/
  mcEvent : Tbl (Option Nat) := ⟨none, []⟩
  policeEvent : Tbl (Option Nat) := ⟨none, []⟩
  learnEvent : Option Nat := none
  /-- Deficit round robin of a host port's class queues (R233, R323), by queue. -/
  rounds : Tbl Round := ⟨{}, []⟩
  /-- Round robin of waiting lossless frames by ingress port, per class (R236). -/
  rr : Tbl Nat := ⟨0, []⟩
  deriving DecidableEq, Repr

/-! ## Time base (09) -/

inductive ColState | freerun | acquiring | locked | holdover
  deriving DecidableEq, Repr

inductive PtpState | disabled | listening | master | slave | passive | faulty
  deriving DecidableEq, Repr

structure PtpPort where
  st : PtpState := .disabled
  pdelay : Nat := 0
  rxErr : Nat := 0
  /-- Sequence number of the messages sent next. -/
  seq : Nat := 0
  deriving DecidableEq, Repr

/-- Shadow registers of one access port (R255). -/
structure TimeLatch where
  s : Nat := 0
  frac : Nat := 0
  deriving DecidableEq, Repr

/-- A time pulse generator (R263 to R269). -/
structure TpSt where
  armed : Bool := false
  count : Nat := 0
  /-- START of a ONCE generator given by TP_ARM, in ns of TAI. -/
  start : Option Nat := none
  /-- The time of the base at the last commit or step, and the instant of the last pulse after it. -/
  since : Nat := 0
  doneTo : Nat := 0
  /-- Spans of instants, open below and closed above, whose pulses fired before an earlier step (R265). -/
  fired : List (Nat × Nat) := []
  /-- COUNT at the last backward step, below which it does not fall (R265). -/
  top : Nat := 0
  deriving DecidableEq, Repr

/-- The Collimator (R254 to R269). `frac` counts units of 2⁻⁴⁸ ns; `rem` is the time of the reference past the whole
nanosecond of `now`, in the same units. -/
structure ColSt where
  sec : Nat := 0
  ns : Nat := 0
  frac : Nat := 0
  rem : Nat := 0
  /-- The reference has failed: the time base stands (R258). -/
  stopped : Bool := false
  latchH0 : TimeLatch := {}
  latchH1 : TimeLatch := {}
  latchMM : TimeLatch := {}
  st : ColState := .freerun
  slewing : Bool := false
  far : Bool := false
  gm : Bool := false
  refOk : Bool := false
  slavePort : Nat := 0xF
  offset : Int := 0
  rate : Int := 0
  /-- RATE over the last 10 s, newest first: the instant from which each value held (R258). -/
  rates : List (Nat × Int) := [(0, 0)]
  /-- Cold-plate temperature when the holdover began (R258). -/
  holdTemp : Int := 0
  holdElapsedNs : Nat := 0
  holdFrom : Option Nat := none
  utcOffset : Int := 0
  utcValid : Bool := false
  leap61 : Bool := false
  leap59 : Bool := false
  setNs : Nat := 0
  setSlo : Word := 0
  setShi : Half := 0
  tpSkip : Nat := 0
  master : Option Nat := none
  smallRun : Nat := 0
  largeRun : Nat := 0
  /-- The servo has seen no offset since a master was selected (HOLDOVER rows of R258). -/
  first : Bool := true
  lastSync : Nat := 0
  lockedSince : Nat := 0
  ports : Tbl PtpPort := ⟨{}, []⟩
  /-- When the ports send next (R261). -/
  ptpAt : Nat := 0
  tps : Tbl TpSt := ⟨{}, []⟩
  deriving DecidableEq, Repr

/-! ## Field bus (10) -/

inductive FbMode | arrival | schedule | listen | busOff
  deriving DecidableEq, Repr

/-- What a transmit queue entry sends (R280): the output group of a station, an FBC_SEND frame with its
journal number, or a reference message (R275). -/
inductive TxWhat
  | group (stn : Nat)
  | send (jseq : Nat) (frame : CanFrame) (command : Bool)
  | reference (backup : Bool)
  deriving DecidableEq, Repr

/-- A transmit queue entry or retry (R278 to R280). `content` is taken when the first frame starts. -/
structure TxItem where
  what : TxWhat := .group 0
  ident : Nat := 0
  ide : Bool := false
  order : Nat := 0
  deadline : Option Nat := none
  attempted : Bool := false
  /-- Index of the next frame of a group, its GSEQ and its content once started. -/
  index : Nat := 0
  gseq : Nat := 0
  content : Option (List Byte) := none
  retry : Bool := false
  deriving DecidableEq, Repr

/-- Which cell is running (R274). -/
inductive CellNow | window | cell (c : CellType) | outside
  deriving DecidableEq, Repr

/-- A field-bus controller (R272 to R290). -/
structure FbcSt where
  mode : FbMode := .arrival
  timeMaster : Bool := false
  backupSent : Bool := false
  bc : Nat := 0
  col : Nat := 0
  cell : CellNow := .outside
  cellEnd : Nat := 0
  pulseAt : Nat := 0
  /-- TAI of the pulse that started the basic cycle. -/
  pulseTai : Nat := 0
  /-- A reference message has started in this basic cycle. -/
  refSeen : Bool := false
  tec : Nat := 0
  recCnt : Nat := 0
  queue : List TxItem := []
  retries : List TxItem := []
  onWire : Option TxItem := none
  /-- FBC_SEND frames whose STARTED item is not sealed yet (R365). -/
  unsealed : List TxItem := []
  /-- What the window or the cell under way starts as soon as the bus is free of this controller's frame (R276, R277). -/
  due : Option TxItem := none
  wireStart : Nat := 0
  highWater : Nat := 0
  nextOrder : Nat := 0
  arbLost : Nat := 0
  errFrm : Nat := 0
  busOffs : Nat := 0
  txDiscard : Nat := 0
  rxNomatch : Nat := 0
  freeViol : Nat := 0
  refMiss : Nat := 0
  superseded : Nat := 0
  /-- FBC_CTRL ARRIVAL holds the controller in ARRIVAL until FBC_CTRL SCHEDULE (R272). -/
  holdArrival : Bool := false
  /-- A change to ARRIVAL at the end of the basic cycle; the schedule was lost (R272). -/
  toArrival : Bool := false
  recoverAsked : Bool := false
  /-- Start of the bus-off recovery, and of the current supervision interval. -/
  offAt : Nat := 0
  supervise : Nat := 0
  /-- The recovery sequence has completed and waits for FBC_CTRL RECOVER (R272). -/
  seqDone : Bool := false
  /-- Number of the last schedule pulse taken (R273). -/
  lastPulse : Option Nat := none
  deriving DecidableEq, Repr

/-! ## Host interface and slices (11, 12) -/

/-- RING_STATE of a submission ring (R295). -/
inductive SqState | off | running | seqWait | limit | svcBusy | cqFull | hostFault | destroying
  deriving DecidableEq, Repr

/-- A submission ring (R297, R298, R306, R310). -/
structure SqSt where
  st : SqState := .off
  service : Bool := false
  cq : Nat := 0
  depth : Nat := 16
  base : Nat := 0
  nextSeq : Nat := 1
  acceptedSeq : Nat := 0
  head : Nat := 0
  tail : Nat := 0
  /-- The slot at the head holds a SEQ above NEXT_SEQ, and a poll whose GEN has changed lets it be read
  again (R298). -/
  gapSeen : Bool := false
  reread : Bool := false
  /-- The last read of the doorbell record or of a descriptor failed (R306). -/
  fault : Bool := false
  /-- Journal numbers of the RING_DESTROY descriptors that wait for this ring. -/
  destroyBy : List Nat := []
  deriving DecidableEq, Repr

/-- A completion or receive ring (R300, R310, R313). -/
structure CqSt where
  on : Bool := false
  receive : Bool := false
  vector : Nat := 0
  depth : Nat := 16
  base : Nat := 0
  es : Nat := 0
  coalN : Nat := 1
  coalT : Nat := 0
  sources : Nat := 0
  written : Nat := 0
  /-- Places given to completions, whether they are written yet or not (R366, log 85). -/
  placed : Nat := 0
  cqHead : Nat := 0
  /-- FULL as the status block last showed it. -/
  full : Bool := false
  sinceMsg : Nat := 0
  firstAt : Option Nat := none
  deriving DecidableEq, Repr

/-- SLICE_STATE (R295). -/
inductive SliceState | off | active | resetting | resetDone
  deriving DecidableEq, Repr

/-- MODE of a SLICE_RESET in progress (R327). -/
inductive ResetMode | reset | remove | pause
  deriving DecidableEq, Repr

/-- A SLICE_RESET that works on a slice (R328, R331): journal number, mode, steps done, report and
counts. -/
structure ResetWork where
  jseq : Nat := 0
  mode : ResetMode := .reset
  step : Nat := 1
  since : Nat := 0
  limitMs : Nat := 0
  aborted : Nat := 0
  partial_ : Nat := 0
  notIn : Nat := 0
  /-- The slice's host port link has been down (R333). -/
  noHost : Bool := false
  deriving DecidableEq, Repr

/-- A receive record that waits for the byte bucket (R322): ring, time stamp, source, port and content. -/
structure RecvItem where
  c : Nat
  ts : Nat
  source : Nat
  port : Nat
  bytes : List Byte
  deriving DecidableEq, Repr

/-- The dirty log of a slice (R334 to R337). -/
structure DirtySt where
  on : Bool := false
  depth : Nat := 1024
  base : Nat := 0
  consumedAddr : Nat := 0
  produced : Nat := 0
  consumed : Nat := 0
  overflow : Bool := false
  filter : List (Nat × Nat) := []
  filtered : Nat := 0
  deriving DecidableEq, Repr

/-- A slice (R316 to R339). -/
structure SliceSt where
  st : SliceState := .off
  port : Nat := 0
  pasid : Nat := 0
  minUs : Nat := 0
  curUs : Nat := 0
  empty : Nat := 0
  doorbell : Nat := 0
  status : Nat := 0
  mac : BitVec 48 := 0
  vlans : List Nat := []
  unexecLimit : Nat := 0
  weight : Nat := 0
  descRate : Nat := 0
  descBurst : Nat := 0
  byteRate : Nat := 0
  byteBurst : Nat := 0
  descBkt : Bucket := {}
  byteBkt : Bucket := {}
  sqs : Vector SqSt 8 := Vector.replicate 8 {}
  cqs : Vector CqSt 8 := Vector.replicate 8 {}
  /-- Instant of the last poll, whether a read is out, and whether it has led to a taking (R303). -/
  lastPoll : Nat := 0
  pollOut : Bool := false
  pollNow : Option Nat := none
  took : Bool := false
  /-- The poll has been counted as empty (R303). -/
  counted : Bool := false
  /-- The last read of the doorbell record failed (R306). -/
  dbFault : Bool := false
  /-- The module writes nothing: from RESET_DONE to the first taking (R329). -/
  silent : Bool := false
  lastGen : Nat := 0
  paused : Bool := false
  /-- Fetching is stopped by a reset, removal or pause. -/
  stopped : Bool := false
  work : Option ResetWork := none
  /-- SLICE_RESET operations that wait for the one in progress, by journal number (R333). -/
  workQueue : List Nat := []
  limited : Nat := 0
  dirty : DirtySt := {}
  /-- Records that wait for the byte bucket, oldest first (R322). -/
  late : List RecvItem := []
  deriving DecidableEq, Repr

/-- What one write to a slice's memory carries (R293, R295, R301, R302, R334). -/
inductive HostWrite
  | acceptedSeq (r v : Nat)
  | head (r v : Nat)
  | ringState (r : Nat) (st : SqState)
  | cqState (c : Nat) (on full : Bool)
  | sliceState (st : SliceState)
  | pollUs (us : Nat)
  | completion (c index : Nat) (phase : Bool) (seq : Nat) (status : Code) (resumed : Bool) (ring : Nat)
      (ts : Nat) (result : BitVec 128)
  /-- The payload of a receive entry, then its header (R293, R302). -/
  | payload (c index : Nat) (bytes : List Byte)
  | receive (c index : Nat) (phase trunc : Bool) (ts len source port : Nat)
  | buffer (addr : Nat) (bytes : List Byte)
  | dirty (slice index : Nat) (phase : Bool) (page : Nat)
  | report (addr seq : Nat) (status : Code) (resumed : Bool) (ring ts : Nat) (result : BitVec 128)
  | svcResult (addr : Nat) (bytes : List Byte)
  deriving DecidableEq, Repr

/-- A mirror segment other than epoch data (R353). -/
inductive Segment
  | ack (epoch : Nat) | nack (epoch : Nat) | resyncReq (epoch : Nat) | health (h : Health)
  deriving DecidableEq, Repr

/-- PTP messages that the module sends (R261): Ethernet, Ethertype 0x88F7, untagged, two-step. -/
inductive PtpOut
  | sync (seq : Nat)
  /-- The instant of the Sync, in ns of TAI. -/
  | followUp (seq origin : Nat)
  /-- The grandmaster's identity and UTC data; the profile TLVs carry its identity and time inaccuracy when this module is
  the grandmaster. -/
  | announce (seq gmId : Nat) (utc : Int) (leap61 leap59 : Bool) (tlv : Option (Nat × Nat))
  | pdelayReq (seq : Nat)
  deriving DecidableEq, Repr


/-- What leaves the module or changes at its boundary, in order (log 5). -/
inductive Emission
  | host (slice : Nat) (w : HostWrite)
  /-- A write of a mailbox operation: through a host port, without PASID (R71). -/
  | mailWrite (port addr : Nat) (bytes : List Byte)
  | msix (port entry addr data : Nat)
  | pollRead (slice : Nat)
  | descRead (slice ring slot : Nat)
  /-- A downlink frame on a beam lane (R212, R213). -/
  | beam (hdr : BeamHdr) (body : BeamBody)
  | can (bus : Nat) (ident : Nat) (ide fd brs : Bool) (data : List Byte)
  /-- The acknowledgement of a received frame (R282). -/
  | canAck (bus : Nat)
  | eth (port : Nat) (f : EthFrame)
  /-- The reports that ISSUE assembles from a facet's output window (R153, log 79). -/
  | report (lens facet cycle : Nat) (window : List Byte)
  | epoch (e : Epoch)
  | segment (s : Segment)
  | tripOut (m : Nat) (driven : Bool)
  | pwmPeriod (n : Nat) (outs : List (Nat × Bool × Bool))
  | pwmOff (n : Nat)
  | syncOut
  /-- PPS_OUT or TPOk rises at instant `at_` and is high for `width` ns (R264, R467). -/
  | pps (at_ width : Nat)
  | tpo (k at_ width : Nat)
  /-- A PTP message leaves at a front port (R261). -/
  | ptp (port : Nat) (m : PtpOut)
  | claim (on : Bool)
  /-- A Glint record of 160 bytes for the Module Manager (R247). -/
  | glint (record : List Byte)
  /-- A received frame for the Module Manager, as the 80-byte record of R282. -/
  | toMM (bus : Nat) (record : List Byte)
  deriving DecidableEq, Repr

/-- A host port (R304, R306, R315). Writes held for it are kept in order. -/
structure HostPortSt where
  up : Bool := false
  speed : Nat := 0
  width : Nat := 0
  pollCap : Nat := 2000
  polls : Nat := 0
  pollLate : Nat := 0
  hostErr : Nat := 0
  ringErr : Nat := 0
  held : List Emission := []
  /-- The next instant at which the cap lets a poll go (R304). -/
  nextPoll : Nat := 0
  /-- Its fraction, in 1/CAP ns. -/
  pollRem : Nat := 0
  deriving DecidableEq, Repr

/-- What a vector of the MSI-X table sends; vector k of port h has number 512 h + k (R291, R313). -/
structure MsixEntry where
  addr : Nat := 0
  data : Nat := 0
  deriving DecidableEq, Repr

/-- Host interface, journal and MSI-X (R305, R313, R315). Every vector is masked at reset (PRESUMED, log 111). -/
structure HifSt where
  ports : Tbl HostPortSt := ⟨{}, []⟩
  slices : Tbl SliceSt := ⟨{}, []⟩
  journal : List JEntry := []
  /-- Entries that are freed here and that no JOURNAL_FREE item covers yet (R355, R366). -/
  uncovered : List JEntry := []
  /-- The copy of the journal in flash, kept for diagnosis (R43, R65). -/
  journalFlash : List JEntry := []
  /-- JSEQ of the last journal entry (R305). -/
  jseq : Nat := 0
  dup : Nat := 0
  expired : Nat := 0
  vecs : Tbl MsixEntry := ⟨{}, []⟩
  maskedVec : Tbl Bool := ⟨true, []⟩
  pendingVec : Tbl Bool := ⟨false, []⟩
  /-- Deficit round robin of the engines that slices share (R323): DMA of H0 and H1, Periscope and Event Recorder read-out. -/
  rounds : Tbl Round := ⟨{}, []⟩
  /-- LOG_FLUSH and CLEAR_FILTER (true) that wait until held records are visible: journal number and slice (R337). -/
  flushes : List (Nat × Nat × Bool) := []
  /-- RUN is being cleared, or the supply has failed: nothing is fetched (R58, R438). -/
  fetchStopped : Bool := false
  deriving DecidableEq, Repr

/-! ## Redundant pair (13) -/

inductive MlkRole | offline | standby | claiming | active
  deriving DecidableEq, Repr

inductive Partner | none | inService | notReady | resync
  deriving DecidableEq, Repr

/-- One loop of the interlock (R344 to R346). -/
structure LoopSt where
  claimed : Bool := false
  noCur : Bool := false
  ownOpen : Bool := false
  /-- Instant of the last partner edge. -/
  lastEdge : Nat := 0
  deriving DecidableEq, Repr

/-- One mirror link (R374). -/
structure LinkSt where
  up : Bool := false
  fecLock : Bool := false
  rxLos : Bool := false
  modPresent : Bool := false
  bad : Nat := 0
  downs : Nat := 0
  deriving DecidableEq, Repr

/-- The pair: interlock, grant and mirror (R340 to R374). -/
structure MlkSt where
  role : MlkRole := .offline
  grant : Bool := false
  inhibit : Bool := false
  partner : Partner := .none
  stale : Nat := 0
  strapPrimary : Bool := false
  ilkFault : Bool := false
  prefConflict : Bool := false
  orphan : Bool := false
  yieldRefused : Bool := false
  partnerClaim : Bool := false
  loopA : LoopSt := {}
  loopB : LoopSt := {}
  link0 : LinkSt := {}
  link1 : LinkSt := {}
  /-- Start of a disagreement of the loops, and of their agreement during a fault (R345). -/
  differSince : Option Nat := none
  agreeSince : Option Nat := none
  /-- The partner's last agreed reading and the instant it was released. -/
  partnerClaiming : Bool := false
  releasedSince : Nat := 0
  claimStart : Nat := 0
  windowEnded : Bool := false
  orphanClaim : Bool := false
  /-- A claim is forbidden until the partner has read released this long (R348). -/
  withdrawn : Bool := false
  yieldAt : Bool := false
  yieldedAt : Option Nat := none
  runningSince : Nat := 0
  soloPassed : Bool := false
  orphanPassed : Bool := false
  healthSeen : Bool := false
  partnerGoodSeen : Bool := false
  lastHealth : Option (Nat × Health) := none
  reportNo : Nat := 0
  lastReport : Nat := 0
  complete : Bool := false
  resyncOut : Bool := false
  /-- A good epoch, and one of the snapshot, has been committed since the RESYNC_REQ (R360, R435). -/
  synced : Bool := false
  resyncing : Bool := false
  resyncEnd : Option Nat := none
  packageStaged : Bool := true
  selfTestFailed : Bool := false
  epoch : Nat := 0
  sealedTo : Nat := 0
  sealedOrCommitted : Nat := 0
  /-- Epochs sent and kept for resending, oldest first, with their sending instant (R359). -/
  sent : List (Nat × Epoch) := []
  staged : List Epoch := []
  /-- Dynamic items that wait for an epoch, with the instant they were queued (R356). -/
  items : List (Nat × Item) := []
  takeovers : Nat := 0
  collisions : Nat := 0
  ilkFaults : Nat := 0
  resend : Nat := 0
  resync : Nat := 0
  adoptLate : Nat := 0
  inDoubt : Nat := 0
  /-- Copies that have failed their checks, by epoch and link, and the failures of an epoch (R360, R361). -/
  failedCopies : List (Nat × Nat) := []
  fails : List (Nat × Nat) := []
  /-- The partner's RESYNC_REQ is open until its ACK of this epoch, which RESYNC_END named (R359). -/
  reqEnd : Option Nat := none
  /-- Link and EPOCH of a RESYNC_REQ whose other copy has not come. -/
  reqCopy : Option (Nat × Nat) := none
  /-- Start of the self-test rotation under way and the facets tested in it, as lens * 64 + facet (R369). -/
  rotStart : Nat := 0
  rotDone : List Nat := []
  rotationMs : Nat := 0
  stFails : Nat := 0
  /-- Partner state committed at a standby: recorded decisions not held elsewhere. -/
  pubs : List (Nat × Nat × Nat × BitVec 64) := []
  gseqs : List (Nat × Nat) := []
  arms : List (Nat × ArmRec) := []
  seals : List (Nat × SealRec) := []
  outs : List (Nat × List Byte) := []
  exchangeCycle : Option Nat := none
  /-- The program by whose cycles the exchange cycle counts; none where it counts converter frames. -/
  exchangeOf : Option Nat := none
  /-- A standby has received this package's body, up to this length (R429). -/
  body : Option (Image × Nat) := none
  mmDown : Bool := false
  deriving DecidableEq, Repr

/-! ## Recording (14) -/

inductive GrpState | stopped | filling | armed | recording | holdoff
  deriving DecidableEq, Repr

/-- A sample of a Periscope group: its instant in ns of TAI and one value with its quality byte per channel
(R377). -/
structure Sample where
  ts : Nat := 0
  vals : List (Int × Nat) := []
  deriving DecidableEq, Repr

/-- A Periscope record (R380, R381). `chans` describes its channels: number, KIND, UNIT, SCALE, OFFSET; `meas`
holds VALID and the six measurements of each. -/
structure PerRec where
  rnum : Nat := 0
  group : Nat := 0
  flags : Nat := 0
  pre : Nat := 0
  trigIndex : Nat := 0
  trigTs : Nat := 0
  trigCond : Nat := 0
  list : List (Nat × Nat) := []
  rate : Nat := 0
  modnum : Nat := 0
  chans : List (Nat × Nat × Nat × Nat × Nat) := []
  samples : List Sample := []
  meas : List (List Int) := []
  inFlash : Bool := false
  inSlot : Bool := true
  /-- The flash partition held only protected records when its copy was due (R383). -/
  skipped : Bool := false
  deriving DecidableEq, Repr

/-- A Periscope group (R378, R379, R398). -/
structure PerGrpSt where
  run : Bool := false
  st : GrpState := .stopped
  records : Nat := 0
  prefSup : Nat := 0
  holdSup : Nat := 0
  ringSup : Nat := 0
  /-- Samples kept, newest first; samples taken since sampling started or the last record ended. -/
  samples : List Sample := []
  taken : Nat := 0
  cur : Option PerRec := none
  /-- Samples still to take for the record. -/
  left : Nat := 0
  /-- Instant of the last sample on the reference clock. -/
  lastAt : Nat := 0
  holdStart : Nat := 0
  holdCount : Nat := 0
  /-- Events of types 4 to 6 and FORCE that no sample has met: condition (0xFF for FORCE) and instant in ns of TAI. -/
  events : List (Nat × Nat) := []
  freeSlots : Nat := 2
  /-- Which value of its source each channel took at the last tick (R376). -/
  marks : List Nat := []
  /-- Number of the last tick taken. -/
  lastTick : Option Nat := none
  deriving DecidableEq, Repr

structure HistSt where
  bins : List Nat := List.replicate 64 0
  records : Nat := 0
  deriving DecidableEq, Repr

structure PmapSt where
  /-- Count of column * 64 + row, those not zero. -/
  cells : List (Nat × Nat) := []
  records : Nat := 0
  deriving DecidableEq, Repr

/-- The live window of an Event Recorder channel (R385 to R387). -/
structure EvrWin where
  cseq : Nat := 0
  hoursOpen : Nat := 0
  count : Nat := 0
  sum : Int := 0
  min : Int := 0
  max : Int := 0
  minStamp : Nat := 0
  maxStamp : Nat := 0
  bins : List Nat := []
  detail : Nat := 0
  lastAt : Option Nat := none
  /-- Intervals between occurrences measured in the window. -/
  spans : Nat := 0
  alarmActive : Bool := false
  deriving DecidableEq, Repr

/-- A closed record (R387). -/
structure EvrRec where
  rseq : Nat := 0
  channel : Nat := 0
  severity : Nat := 0
  partial_ : Bool := false
  tai : Bool := false
  event : Bool := false
  hoursClose : Nat := 0
  pwrcyc : Nat := 0
  taiClose : Nat := 0
  lo : Int := 0
  hi : Int := 0
  win : EvrWin := {}
  deriving DecidableEq, Repr

/-- Names of the events and alarms of the manual; each is an EVENT channel (R385). -/
inductive Ev
  | fwFallback | holdup | unitStartFailed | unitFenced | programFault | lensFailure | lensRelocated
  | lensFenced | overrun | logicStopped | logicNoOutput | stationMissing | stationAbsent | inputStuck
  | svConfig | protOverrun | protDegraded | delayMargin | beamLink | beamParam | beamConcBlocked
  | beamLaneInUse | beamCalFail | beamDelayStep | concStatus | pwmStuck | pwmSyncLost | tiStuck
  | tiToggling | tiLow | toOverload | toNoload | mcRefused | policeDrop | learnTableFull | linkDown
  | timeLocked | timeUnlock | timeMasterChange | holdoverEnd | refFault | timeFar | fbSchedLost
  | fbBusoff | seqGap | ringOverrun | dirtyLogOverflow | interlockFault | rolePrefConflict | takeover
  | mirrorLink | mirrorPeer | orphanTakeover | evrBufHigh | bistFail | tempWarn | tempCrit
  | xcvrUnqualified | gaParity | latchOpen
  deriving DecidableEq, Repr

/-- The Event Recorder (R385 to R391, R399). -/
structure EvrSt where
  bufHigh : Bool := false
  flushing : Bool := false
  flushAgain : Bool := false
  /-- Records of the flush under way, and those pending that it does not take. -/
  flushN : Nat := 0
  useq : Nat := 0
  stored : Nat := 0
  bufDrop : Nat := 0
  logDrop : Nat := 0
  logOverwrite : Nat := 0
  rseq : Nat := 0
  flushes : Nat := 0
  winSel : Nat := 0
  wins : Tbl EvrWin := ⟨{}, []⟩
  buffer : List EvrRec := []
  log : List EvrRec := []
  /-- EVR_FLUSH descriptors that wait: journal number, records they still need, writes and drops so far. -/
  waits : List (Nat × Nat × Nat × Nat) := []
  /-- RSEQ of the last record written to flash. -/
  lastRseq : Nat := 0
  /-- Headers of the flush blocks in flash, oldest first: EVR_LOG_OVERWRITE and EVR_LOG_DROP (R390). -/
  blocks : List (Nat × Nat) := []
  /-- Events and alarms written, oldest first: name, detail word, instant. -/
  events : List (Ev × Nat × Nat) := []
  /-- Alarms that are active: name and detail word. -/
  alarms : List (Ev × Nat) := []
  deriving DecidableEq, Repr

inductive LoupeState | idle | filling | armed | capturing | done
  deriving DecidableEq, Repr

/-- A Loupe buffer (R392, R393, R400). -/
structure LoupeSt where
  facet : Nat := 0
  pre : Nat := 0
  div : Nat := 1
  nodes : Vector Half 8 := Vector.replicate 8 0
  type : Nat := 0
  dir : Nat := 0
  node : Nat := 0
  sel : Nat := 0
  thresh : Half := 0
  st : LoupeState := .idle
  trigIndex : Nat := 0
  prefillSupp : Bool := false
  ts : Nat := 0
  divCount : Nat := 0
  /-- Samples, newest first; samples left to take while CAPTURING. -/
  samples : List (List Half) := []
  left : Nat := 0
  forced : Bool := false
  deriving DecidableEq, Repr

/-- A crash dump (R395): stage 1 REDUCED or 2 COMPLETE, cause, and the header's stamps. -/
structure Dump where
  stage : Nat := 1
  cause : Nat := 1
  dumpNo : Nat := 0
  tai : Nat := 0
  hours : Nat := 0
  pwrcyc : Nat := 0
  fwBank : Bool := false
  modnum : Nat := 0
  jseq : Nat := 0
  epoch : Nat := 0
  deriving DecidableEq, Repr

/-- All recording units. Loupe buffers are keyed lens * 4 + buffer. -/
structure RecSt where
  groups : Tbl PerGrpSt := ⟨{}, []⟩
  records : List PerRec := []
  rnum : Nat := 0
  flashFull : Nat := 0
  copyPaused : Bool := false
  hists : Tbl HistSt := ⟨{}, []⟩
  pmaps : Tbl PmapSt := ⟨{}, []⟩
  evr : EvrSt := {}
  loupes : Tbl LoupeSt := ⟨{}, []⟩
  dump : Option Dump := none
  dumpCopied : Bool := true
  dumpNo : Nat := 0
  dumpSlots : List (Nat × Dump) := []
  nextDumpSlot : Nat := 0
  deriving DecidableEq, Repr

/-! ## Obscura and BIST (15), hardware (17) -/

/-- A key slot (R404, R421). -/
structure KeySlot where
  attr : Word := 0
  key : List Byte := []
  deriving DecidableEq, Repr

structure ObsSt where
  slots : Tbl KeySlot := ⟨{}, []⟩
  katOk : Bool := false
  scramble : Nat := 0
  fwFloor : Nat := 0
  pkgFloor : Nat := 0
  key0Revoked : Bool := false
  key1Revoked : Bool := false
  lcCount : Nat := 0
  deny : Nat := 0
  attestNo : Nat := 0
  deriving DecidableEq, Repr

inductive BstResult | none | pass | fail | aborted
  deriving DecidableEq, Repr

structure BstSt where
  busy : Bool := false
  result : BstResult := .none
  region : Nat := 0
  sig : BitVec 64 := 0
  gold : BitVec 64 := 0
  lensPass : BitVec 16 := 0
  serdesPass : Bool := false
  pllPass : Bool := false
  vrefPass : Bool := false
  runs : Nat := 0
  fails : Nat := 0
  aborts : Nat := 0
  meas : Int := 0
  deriving DecidableEq, Repr

/-- Stages of the power-fail sequence (R438). -/
inductive PfStage | none | below | qualified | blocked | flushed
  deriving DecidableEq, Repr

/-- Module hardware (R438 to R475). -/
structure HwSt where
  gaParErr : Bool := false
  latchOpen : Bool := false
  /-- The core and the cold plate are at their warning thresholds; TEMP_WARN shows either (R442). -/
  hotCore : Bool := false
  hotPlate : Bool := false
  tempCrit : Bool := false
  /-- The thermal trip holds the module in reset until the supply is removed and restored. -/
  thermalTrip : Bool := false
  coreTemp : Int := 0
  coldTemp : Int := 0
  inputTemp : Int := 0
  xcvrUnqual : BitVec 6 := 0
  xcvrNoPwr : BitVec 6 := 0
  energy : Nat := 0
  vstore : Nat := 0
  charging : Bool := false
  toOffv : Tbl Nat := ⟨0, []⟩
  /-- Clock domains whose spread is disabled (R31, log 69). -/
  spreadOff : List Nat := []
  /-- The GA pins as read at keep-alive start (R451). -/
  pins : BitVec 10 := 0
  pf : PfStage := .none
  belowAt : Nat := 0
  /-- The instant at which power-fail was qualified. -/
  qualAt : Nat := 0
  /-- SLOT_PRESENT has opened, so the supply does not return. -/
  slotOpen : Bool := false
  /-- The supply has returned during the flush, and whether the journal seal will check good (R439). -/
  returned : Option Bool := Option.none
  deriving DecidableEq, Repr

/-! ## The state -/

/-- Trip lanes: the drivers that assert each lane, facets as lens * 64 + facet, TIt as 2048 + t. -/
abbrev Lanes := Tbl (List Nat)

/-- The module. Every register, buffer, counter and mode the spec gives it, and the queue of commands. -/
structure State where
  /-- Module time in ns of reference time (log 3). -/
  now : Nat
  /-- Counter of free values, the model's own (log 4). -/
  freeIdx : Nat
  glb : Glb
  ka : Ka
  svc : Svc
  units : Tbl UnitSt
  facets : Tbl FacetSt
  progs : Tbl ProgSt
  lenses : Tbl LensSt
  /-- Facets recorded in flash as fenced, as lens * 64 + facet (R481). -/
  fencedFlash : List Nat
  lanes : Lanes
  logic : Tbl LogicSt
  slots64 : Tbl RetSlot
  stns : Tbl StnSt
  conds : Tbl CondSt
  svs : Tbl SvSt
  chains : Tbl ChainSt
  chSlots : Tbl SlotSt
  fns : Tbl FnSt
  pcOvr : Tbl Nat
  pcDeadline : Tbl Nat
  prots : Tbl ProtSt
  tos : Tbl ToSt
  gps : Tbl GpSt
  gss : Tbl GsSt
  svPubs : Tbl SvPubSt
  cnv : CnvSt
  arms : Tbl ArmSt
  sms : Tbl SmSt
  engines : Tbl EngineSt
  beams : Tbl BeamSt
  pwms : Tbl PwmSt
  tis : Tbl TiSt
  swc : SwcSt
  col : ColSt
  fbcs : Tbl FbcSt
  hif : HifSt
  mlk : MlkSt
  recs : RecSt
  obs : ObsSt
  bst : BstSt
  hw : HwSt
  /-- What has left the module, oldest first (log 5). -/
  outputs : List Emission
  /-- The value the last REGISTER_READ returned (log 6). -/
  lastRead : Word
  pending : List Instr
  deriving DecidableEq, Repr

/-- The module right after reset: before power good, every field at the value the spec states for reset
or, where it states none, at the value log 2 names; nothing queued. -/
def State.reset : State where
  now := 0
  freeIdx := 0
  glb := {}
  ka := {}
  svc := {}
  units := ⟨{}, []⟩
  facets := ⟨{}, []⟩
  progs := ⟨{}, []⟩
  lenses := ⟨{}, []⟩
  fencedFlash := []
  lanes := ⟨[], []⟩
  logic := ⟨{}, []⟩
  slots64 := ⟨{}, []⟩
  stns := ⟨{}, []⟩
  conds := ⟨{}, []⟩
  svs := ⟨{}, []⟩
  chains := ⟨{}, []⟩
  chSlots := ⟨{}, []⟩
  fns := ⟨{}, []⟩
  pcOvr := ⟨0, []⟩
  pcDeadline := ⟨0, []⟩
  prots := ⟨{}, []⟩
  tos := ⟨{}, []⟩
  gps := ⟨{}, []⟩
  gss := ⟨{}, []⟩
  svPubs := ⟨{}, []⟩
  cnv := {}
  arms := ⟨{}, []⟩
  sms := ⟨{}, []⟩
  engines := ⟨{}, (List.range 8).map fun e => (e, { arm := e })⟩
  beams := ⟨{}, []⟩
  pwms := ⟨{}, []⟩
  tis := ⟨{}, []⟩
  swc := {}
  col := {}
  fbcs := ⟨{}, []⟩
  hif := {}
  mlk := {}
  recs := {}
  obs := {}
  bst := {}
  hw := {}
  outputs := []
  lastRead := 0
  pending := []

end Sys2Proof.Machine
end

