-- ==== Sys2Proof/Machine/Ops.lean ====
section
/-! DEFINITION. The operations every chapter shares: tables, saturating counters, time, events and
alarms, what leaves the module, units, the journal and the mirror queue. -/

namespace Sys2Proof

/-! ## Tables -/

/-- The row of key `k`, where one is listed. -/
def findRow {α : Type} : List (Nat × α) → Nat → Option α
  | [], _ => none
  | (j, a) :: r, k => if j = k then some a else findRow r k

/-- Puts `a` at key `k`, keeping the keys rising. -/
def putRow {α : Type} : List (Nat × α) → Nat → α → List (Nat × α)
  | [], k, a => [(k, a)]
  | (j, b) :: r, k, a =>
    if k < j then (k, a) :: (j, b) :: r
    else if k = j then (k, a) :: r
    else (j, b) :: putRow r k a

/-- Reads unit `k` of a table; a unit no row lists reads as the default. -/
def Tbl.get {α : Type} (t : Tbl α) (k : Nat) : α := (findRow t.rows k).getD t.dflt

/-- Writes unit `k` of a table. -/
def Tbl.set {α : Type} (t : Tbl α) (k : Nat) (a : α) : Tbl α := { t with rows := putRow t.rows k a }

/-- Changes unit `k` of a table. -/
def Tbl.upd {α : Type} (t : Tbl α) (k : Nat) (f : α → α) : Tbl α := t.set k (f (t.get k))

/-- Changes every listed unit of a table. -/
def Tbl.mapRows {α : Type} (t : Tbl α) (f : Nat → α → α) : Tbl α :=
  { t with rows := t.rows.map fun p => (p.1, f p.1 p.2) }

/-- The keys a table lists. -/
def Tbl.keys {α : Type} (t : Tbl α) : List Nat := t.rows.map (·.1)

/-! ## Counters and bytes -/

/-- A counter of 32 bits, saturating (R141, R151 and others). -/
def sat32 (n d : Nat) : Nat := Nat.min (n + d) 0xFFFFFFFF
/-- A counter of 16 bits, saturating. -/
def sat16 (n d : Nat) : Nat := Nat.min (n + d) 0xFFFF
/-- A counter of 8 bits, saturating. -/
def sat8 (n d : Nat) : Nat := Nat.min (n + d) 0xFF

/-- The little-endian bytes of a number (00, "Reading conventions"). -/
def leBytes : Nat → Nat → List Byte
  | 0, _ => []
  | k + 1, v => BitVec.ofNat 8 v :: leBytes k (v / 256)

/-- The number a little-endian byte string holds. -/
def leNat : List Byte → Nat
  | [] => 0
  | b :: r => b.toNat + 256 * leNat r

/-- Bytes [off, off+len) of a list; bytes beyond its end read 0. -/
def bytesAt (bs : List Byte) (off len : Nat) : List Byte :=
  let r := (bs.drop off).take len
  r ++ List.replicate (len - r.length) 0

/-- Overwrites a list of bytes from `off`. -/
def overlay (bs : List Byte) (off : Nat) (d : List Byte) : List Byte :=
  bytesAt bs 0 off ++ d ++ bs.drop (off + d.length)

/-- One bit of CRC-32 with the IEEE 802.3 polynomial, least significant bit first. -/
def crcBit (c : Word) : Word := if c.getLsbD 0 then (c >>> 1) ^^^ 0xEDB88320#32 else c >>> 1

/-- One byte of CRC-32. -/
def crcByte (c : Word) (b : Byte) : Word :=
  crcBit (crcBit (crcBit (crcBit (crcBit (crcBit (crcBit (crcBit (c ^^^ b.setWidth 32))))))))

/-- CRC-32 of a list of bytes (R98); the start and the final inversion are those of IEEE 802.3 (log 61). -/
def crc32 (bs : List Byte) : Word := ~~~ bs.foldl crcByte 0xFFFFFFFF#32

/-- ROLE of LNSn_FSTAT (R107). -/
def roleBits : Role → Nat | .spare => 0 | .protection => 1 | .logic => 2 | .loop => 3 | .focusAssist => 4

/-- Bytes 0 to 15 + L of a seal record (R98). -/
def sealBytes (r : SealRec) : List Byte :=
  leBytes 8 r.cycle ++ leBytes 2 r.data.length ++ leBytes 1 r.home ++ leBytes 1 (roleBits r.role) ++ leBytes 4 r.progId
    ++ r.data

/-- A record is good only if its CRC checks (R98). -/
def sealGood (r : SealRec) : Bool := r.crc = some (crc32 (sealBytes r))

/-- The record once the seal writer has written CRC, last (R98). -/
def sealClose (r : SealRec) : SealRec := { r with crc := some (crc32 (sealBytes r)) }

/-- Lowest element of a list of naturals. -/
def minList : List Nat → Option Nat
  | [] => none
  | a :: r => match minList r with
    | none => some a
    | some b => some (Nat.min a b)

/-- A signed value of `w` bits from its bits. -/
def signed (w v : Nat) : Int := if v < 2 ^ (w - 1) then v else (v : Int) - 2 ^ w
/-- The bits of a signed value of `w` bits. -/
def unsigned (w : Nat) (v : Int) : Nat := (v % (2 ^ w : Int)).toNat
/-- Saturates to `w` signed bits. -/
def satInt (w : Nat) (v : Int) : Int := max (-(2 ^ (w - 1) : Int)) (min v (2 ^ (w - 1) - 1))
/-- Division rounding up. -/
def ceilDiv (a b : Nat) : Nat := (a + b - 1) / b

/-- Bytes [off, off+n) of a descriptor as a number, for off from 32 to 63. -/
def Desc.num (d : Desc) (off n : Nat) : Nat := d.spec.toNat / 2 ^ (8 * (off - 32)) % 2 ^ (8 * n)

namespace Machine

/-- The outcome of a command. -/
abbrev Res := Host.Outcome State Fault Refusal

/-- The configuration package in force. -/
def State.pkg (s : State) : Package := s.svc.pkg

/-! ## Free values (log 4) -/

/-- Takes a free value of 64 bits. -/
def State.free (s : State) : BitVec 64 × State :=
  (Config.freeWord s.freeIdx, { s with freeIdx := s.freeIdx + 1 })

/-! ## Presence (R1 to R3) -/

def lensCount : Nat := match Config.variant with | .gn9430 => 8 | _ => 16
def cnvPresent : Bool := match Config.variant with | .gn9410 => true | _ => false
def perPresent : Bool := match Config.variant with | .gn9430 => false | _ => true
def pwmCount : Nat := match Config.variant with | .gn9410 => 32 | _ => 8

/-- GLB_ID (R2). -/
def glbId : Nat :=
  (match Config.variant with | .gn9410 => 0x9410 | .gn9420 => 0x9420 | .gn9430 => 0x9430) + 0x010000

/-- GLB_CAP (R2). -/
def glbCap : Nat :=
  lensCount + (if cnvPresent then 0x20 else 0) + (if perPresent then 0x40 else 0)
    + pwmCount * 0x100 + 64 * 0x10000

/-! ## Time (R254, R256, log 3) -/

/-- Whole TAI nanoseconds of the time base. -/
def State.tai (s : State) : Nat := s.col.sec * 1000000000 + s.col.ns
/-- TAI of an instant of module time near the present one, at the present RATE (R254). -/
def State.taiOf (s : State) (t : Nat) : Nat :=
  if s.col.stopped then s.tai
  else
    let d : Int := (t : Int) - s.now
    (((s.tai * 2 ^ 48 + s.col.frac : Nat) + d * 2 ^ 48 + d * s.col.rate * 2 ^ 40 / 1000000000) / 2 ^ 48).toNat
/-- TS of an instant (R256). -/
def tsOf (t : Nat) : Nat := t % 2 ^ 32
/-- TIME_US of an instant (R256). -/
def usOf (t : Nat) : Nat := t / 1000 % 2 ^ 32
/-- TS of this instant (R256). -/
def State.ts (s : State) : Nat := tsOf s.tai
/-- TIME_US (R256). -/
def State.timeUs (s : State) : Nat := usOf s.tai

/-- The time base at the whole nanosecond `d` ns of the reference on, with COL_RATE in units of 1/256 ppb and the sum kept
with 48 bits below the nanosecond (R254). -/
def colAdvance (c : ColSt) (d : Nat) : ColSt :=
  if c.stopped then { c with rem := 0 }
  else
    let e : Int := (d : Int) * 2 ^ 48 - c.rem
    let sum := (((c.sec * 1000000000 + c.ns) * 2 ^ 48 + c.frac : Nat) + e + e * c.rate / 256000000000).toNat
    let ns := sum / 2 ^ 48
    { c with sec := ns / 1000000000 % 2 ^ 48, ns := ns % 1000000000, frac := sum % 2 ^ 48, rem := 0 }

/-- Advances module time by `d` ns. -/
def State.after (s : State) (d : Nat) : State :=
  if d = 0 then s else { s with now := s.now + d, col := colAdvance s.col d }

/-- Advances module time to instant `t`, if it has not been reached. -/
def State.upTo (s : State) (t : Nat) : State := s.after (t - s.now)

/-- The time base will read `t` ns of TAI, or does: it runs. -/
def State.reaches (s : State) (t : Nat) : Bool := !s.col.stopped || decide (t ≤ s.tai)

/-- Advances to the instant at which the time base, at its RATE, reads `t` ns of TAI, if it has not been reached; the time
base then reads exactly `t`. -/
def State.upToTai (s : State) (t : Nat) : State :=
  if t ≤ s.tai ∨ s.col.stopped then s
  else
    let need : Int := t * 2 ^ 48 - (s.tai * 2 ^ 48 + s.col.frac : Nat)
    let k : Int := 256000000000 + s.col.rate
    let d := s.col.rem + ((need * 256000000000 + k - 1) / k).toNat
    { s with now := s.now + d / 2 ^ 48,
             col := { s.col with sec := t / 1000000000 % 2 ^ 48, ns := t % 1000000000, frac := 0, rem := d % 2 ^ 48 } }

/-! ## Events, alarms and what leaves the module -/

/-! ### Live windows of the Event Recorder (R385 to R387) -/

/-- Bin of a value among `n`: bin 0 below `lo`, the last at or above `hi`, the others of equal width (R382, R385). -/
def binOf (n : Nat) (lo hi v : Int) : Nat :=
  if v < lo then 0 else if hi ≤ v then n - 1 else 1 + ((v - lo) * (n - 2 : Nat) / (hi - lo)).toNat

/-- Bin of an interval in ns: bin j counts 2^(j-1) µs up to 2^j µs (R385). -/
def spanBin (ns : Nat) : Nat := if ns < 1000 then 0 else Nat.min 31 ((ns / 1000).log2 + 1)

/-- Adds one to a bin, saturating at 32 bits. -/
def bump (bins : List Nat) (k n : Nat) : List Nat :=
  ((List.range n).map fun i => (bins[i]?).getD 0).zipIdx.map fun p => if p.2 = k then sat32 p.1 1 else p.1

/-- A new value in a window's extremes, with the stamp of the first occurrence of each. -/
def extremes (w : EvrWin) (first : Bool) (v : Int) (stamp : Nat) : EvrWin :=
  { w with min := if first ∨ v < w.min then v else w.min, minStamp := if first ∨ v < w.min then stamp else w.minStamp
           max := if first ∨ w.max < v then v else w.max, maxStamp := if first ∨ w.max < v then stamp else w.maxStamp }

/-- One occurrence on an EVENT channel, with its detail word (R385). -/
def evrOccur (now stamp d : Nat) (w : EvrWin) : EvrWin :=
  let w := { w with cseq := w.cseq + 1, count := sat32 w.count 1, detail := d % 2 ^ 64 }
  let w := match w.lastAt with
    | none => { w with bins := bump w.bins 0 32 }
    | some t =>
      let w := { w with bins := bump w.bins (spanBin (now - t)) 32, spans := w.spans + 1 }
      extremes w (w.spans = 1) (Nat.min ((now - t) / 1000) 0xFFFFFFFF : Nat) stamp
  { w with lastAt := some now }

/-- One value on a VALUE channel (R385). -/
def evrValue (lo hi : Int) (stamp : Nat) (v : Int) (w : EvrWin) : EvrWin :=
  let w := extremes w (w.count = 0) v stamp
  { w with cseq := w.cseq + 1, count := sat32 w.count 1, sum := satInt 64 (w.sum + v), bins := bump w.bins (binOf 32 lo hi v) 32
           detail := unsigned 64 v }

/-- Stamp of a channel: TAI, or hours and power cycles (R386). -/
def State.evrStamp (s : State) (tai : Bool) : Nat :=
  if tai then s.tai else s.ka.hours.toNat + s.ka.pwrcyc.toNat * 2 ^ 32

/-- A flush of the buffer is asked for: it starts, or waits for the one under way (R389). -/
def evrAskFlush (ask : Bool) (r : EvrSt) : EvrSt :=
  { r with flushing := r.flushing || ask, flushN := if r.flushing then r.flushN else if ask then r.buffer.length else r.flushN
           flushAgain := r.flushAgain || (r.flushing && ask) }

/-- KIND of a channel: EVENT for the firmware's own, as the package declares for the others (R385). -/
def evrEvent (i : Nat) (c : EvrCfg) : Bool := decide (i < 1024) || c.event

/-- One update of a channel counts in the module-wide sequence; an occurrence on an EVENT channel with FLUSH asks for a
flush (R389). -/
def State.evrTouch (s : State) (i : Nat) (f : EvrWin → EvrWin) : State :=
  let r := s.recs.evr
  let c := s.pkg.evr.get i
  let r := evrAskFlush (evrEvent i c && c.flush) { r with useq := r.useq + 1, wins := r.wins.upd i f }
  { s with recs.evr := r }

/-- The channel of an event or alarm of the firmware: one of 0 to 1,023 (R385). -/
def evChan (e : Ev) : Nat := Config.evChannel e.ctorIdx % 1024

/-- An occurrence on an EVENT channel of the firmware (R385): its name and detail word. -/
def State.event (s : State) (e : Ev) (d : Nat) : State :=
  let s := { s with recs.evr.events := s.recs.evr.events ++ [(e, d, s.now)] }
  s.evrTouch (evChan e) (evrOccur s.now (s.evrStamp (s.pkg.evr.get (evChan e)).tai) d)

/-- ALARM_ACTIVE of a firmware channel follows its alarms. -/
def State.markAlarm (s : State) (e : Ev) : State :=
  let on : Bool := s.recs.evr.alarms.any fun a => a.1 = e
  { s with recs.evr.wins := s.recs.evr.wins.upd (evChan e) fun w => { w with alarmActive := on } }

/-- Raises an alarm: it becomes active, and raising it is one occurrence (R385). -/
def State.alarm (s : State) (e : Ev) (d : Nat) : State :=
  if (e, d) ∈ s.recs.evr.alarms then s
  else ({ s with recs.evr.alarms := s.recs.evr.alarms ++ [(e, d)] }.event e d).markAlarm e

/-- An alarm ends. -/
def State.clearAlarm (s : State) (e : Ev) (d : Nat) : State :=
  if (e, d) ∈ s.recs.evr.alarms then
    { s with recs.evr.alarms := s.recs.evr.alarms.filter (· ≠ (e, d)) }.markAlarm e
  else s

/-- Something leaves the module. -/
def State.emit (s : State) (x : Emission) : State := { s with outputs := s.outputs ++ [x] }
/-- Several things leave the module, in order. -/
def State.emits (s : State) (xs : List Emission) : State := { s with outputs := s.outputs ++ xs }

/-! ## Keys -/

def fKey (l f : Nat) : Nat := l * 64 + f
def chainKey (l c : Nat) : Nat := l * 32 + c
def slotKey (l i : Nat) : Nat := l * 256 + i
def fnKey (l f i : Nat) : Nat := (l * 64 + f) * 32 + i
def smKey (a i : Nat) : Nat := a * 2048 + i

/-- Key of a switchable unit; also the detail word that names it (R76). -/
def unitKey : UnitId → Nat
  | .port p => p
  | .lens n => 16 + n
  | .arm a => 64 + a
  | .pwm n => 128 + n
  | .fbc b => 192 + b
  | .beam l => 256 + l
  | .slice s => 384 + s
  | .chain l c => 1024 + chainKey l c

def State.unit (s : State) (u : UnitId) : UnitSt := s.units.get (unitKey u)
def State.unitOn (s : State) (u : UnitId) : Bool := (s.unit u).st = .on
def State.updUnit (s : State) (u : UnitId) (f : UnitSt → UnitSt) : State :=
  { s with units := s.units.upd (unitKey u) f }

/-! ## Updates of one unit's own state -/

def State.updFacet (s : State) (l f : Nat) (g : FacetSt → FacetSt) : State :=
  { s with facets := s.facets.upd (fKey l f) g }
def State.updProg (s : State) (l f : Nat) (g : ProgSt → ProgSt) : State :=
  { s with progs := s.progs.upd (fKey l f) g }
def State.updLens (s : State) (l : Nat) (g : LensSt → LensSt) : State :=
  { s with lenses := s.lenses.upd l g }
def State.updLogic (s : State) (p : Nat) (g : LogicSt → LogicSt) : State :=
  { s with logic := s.logic.upd p g }
def State.updStn (s : State) (i : Nat) (g : StnSt → StnSt) : State := { s with stns := s.stns.upd i g }
def State.updCond (s : State) (j : Nat) (g : CondSt → CondSt) : State :=
  { s with conds := s.conds.upd j g }
def State.updArm (s : State) (a : Nat) (g : ArmSt → ArmSt) : State := { s with arms := s.arms.upd a g }
def State.updSm (s : State) (a i : Nat) (g : SmSt → SmSt) : State :=
  { s with sms := s.sms.upd (smKey a i) g }
def State.updEngine (s : State) (e : Nat) (g : EngineSt → EngineSt) : State :=
  { s with engines := s.engines.upd e g }
def State.updBeam (s : State) (l : Nat) (g : BeamSt → BeamSt) : State :=
  { s with beams := s.beams.upd l g }
def State.updPwm (s : State) (n : Nat) (g : PwmSt → PwmSt) : State := { s with pwms := s.pwms.upd n g }
def State.updTi (s : State) (i : Nat) (g : TiSt → TiSt) : State := { s with tis := s.tis.upd i g }
def State.updTo (s : State) (m : Nat) (g : ToSt → ToSt) : State := { s with tos := s.tos.upd m g }
def State.updGp (s : State) (g : Nat) (h : GpSt → GpSt) : State := { s with gps := s.gps.upd g h }
def State.updGs (s : State) (k : Nat) (h : GsSt → GsSt) : State := { s with gss := s.gss.upd k h }
def State.updSv (s : State) (k : Nat) (g : SvSt → SvSt) : State := { s with svs := s.svs.upd k g }
def State.updChain (s : State) (l c : Nat) (g : ChainSt → ChainSt) : State :=
  { s with chains := s.chains.upd (chainKey l c) g }
def State.updSlot (s : State) (l i : Nat) (g : SlotSt → SlotSt) : State :=
  { s with chSlots := s.chSlots.upd (slotKey l i) g }
def State.updProt (s : State) (p : Nat) (g : ProtSt → ProtSt) : State :=
  { s with prots := s.prots.upd p g }
def State.updFn (s : State) (k : Nat) (g : FnSt → FnSt) : State := { s with fns := s.fns.upd k g }
def State.updFbc (s : State) (b : Nat) (g : FbcSt → FbcSt) : State := { s with fbcs := s.fbcs.upd b g }
def State.updSwc (s : State) (g : SwcSt → SwcSt) : State := { s with swc := g s.swc }
def State.updPort (s : State) (p : Nat) (g : PortSt → PortSt) : State :=
  { s with swc.ports := s.swc.ports.upd p g }
def State.updCol (s : State) (g : ColSt → ColSt) : State := { s with col := g s.col }
def State.updTp (s : State) (t : Nat) (g : TpSt → TpSt) : State :=
  { s with col.tps := s.col.tps.upd t g }
def State.updHif (s : State) (g : HifSt → HifSt) : State := { s with hif := g s.hif }
def State.slice (s : State) (i : Nat) : SliceSt := s.hif.slices.get i
def State.updSlice (s : State) (i : Nat) (g : SliceSt → SliceSt) : State :=
  { s with hif.slices := s.hif.slices.upd i g }
def State.updHostPort (s : State) (h : Nat) (g : HostPortSt → HostPortSt) : State :=
  { s with hif.ports := s.hif.ports.upd h g }
def State.updMlk (s : State) (g : MlkSt → MlkSt) : State := { s with mlk := g s.mlk }
def State.updGrp (s : State) (i : Nat) (g : PerGrpSt → PerGrpSt) : State :=
  { s with recs.groups := s.recs.groups.upd i g }
def State.updLoupe (s : State) (l b : Nat) (g : LoupeSt → LoupeSt) : State :=
  { s with recs.loupes := s.recs.loupes.upd (l * 4 + b) g }
def State.updRecs (s : State) (g : RecSt → RecSt) : State := { s with recs := g s.recs }
/-- The 64 retention slots are empty again. -/
def State.emptySlots (s : State) : State := { s with slots64 := ⟨{}, []⟩ }
def State.updEvr (s : State) (g : EvrSt → EvrSt) : State := { s with recs.evr := g s.recs.evr }
def State.updSvc (s : State) (g : Svc → Svc) : State := { s with svc := g s.svc }
def State.updGlb (s : State) (g : Glb → Glb) : State := { s with glb := g s.glb }
def State.updKa (s : State) (g : Ka → Ka) : State := { s with ka := g s.ka }
def State.updHw (s : State) (g : HwSt → HwSt) : State := { s with hw := g s.hw }
def State.updObs (s : State) (g : ObsSt → ObsSt) : State := { s with obs := g s.obs }
def State.updBst (s : State) (g : BstSt → BstSt) : State := { s with bst := g s.bst }
def State.updCnv (s : State) (g : CnvSt → CnvSt) : State := { s with cnv := g s.cnv }

/-- Folds an effect over a list. -/
def State.each {α : Type} (s : State) (xs : List α) (f : State → α → State) : State := xs.foldl f s

/-- The firmware runs. -/
def State.mmRuns (s : State) : Bool :=
  s.ka.powerGood && !s.mlk.mmDown &&
    (match s.glb.phase with | .kaStart | .boot | .mmStart | .bootFailed => false | _ => true)

/-! ## The mirror queue (R356) -/

/-- The partner is in service (R359). -/
def State.paired (s : State) : Bool := s.mlk.partner = .inService

/-- Queues a dynamic item for the next epoch of the ACTIVE module (R356). -/
def State.mirror (s : State) (it : Item) : State :=
  if s.mlk.role = .active then s.updMlk fun m => { m with items := m.items ++ [(s.now, it)] } else s

/-! ## The journal (R305) -/

def findJ : List JEntry → Nat → Option JEntry
  | [], _ => none
  | e :: r, j => if e.jseq = j then some e else findJ r j

def State.jEntry (s : State) (j : Nat) : Option JEntry := findJ s.hif.journal j

/-- The last item of entry `j` is sealed (R359). -/
def State.jSealed (s : State) (j : Nat) : Bool := match s.jEntry j with | some e => e.sealed | none => true

/-- Changes journal entry `j` and queues it for the partner; without a partner in service it counts as
sealed at once (R41, R305). -/
def State.updJ (s : State) (j : Nat) (f : JEntry → JEntry) : State :=
  match s.jEntry j with
  | none => s
  | some e =>
    let e' := { f e with sealed := !s.paired, epoch := 0 }
    ({ s with hif.journal := s.hif.journal.map fun (x : JEntry) => if x.jseq = j then e' else x }).mirror (.journal e')

/-- A RING_DESTROY that has started on the ring it names completes last (R310). -/
def lastOfRing (e : JEntry) : Bool :=
  e.state = .started && e.desc.opcode = 2 && e.desc.num 32 1 = 0 && e.desc.num 33 1 = e.ring

/-- Completions of submission ring `r` that nothing in its SEQ order holds back get the next places of its completion ring
(R299). Both modules of a pair give them from the same items, in their order (R366, DEDUCED, log 85). -/
def State.placeRing (s : State) (i r : Nat) : State :=
  let c := ((((s.slice i).sqs.toList)[r]?).getD {}).cq
  let es := s.hif.journal.filter fun e => e.slice = i && e.ring = r && !lastOfRing e
  s.each ((es.takeWhile fun e => e.state = .completed).filter fun e => e.place = none) fun s e =>
    let n := ((((s.slice i).cqs.toList)[c]?).getD {}).placed
    let s := s.updHif fun h => { h with journal := h.journal.map fun (x : JEntry) =>
      if x.jseq = e.jseq then { x with place := some n } else x }
    s.updSlice i fun x => { x with cqs := x.cqs.setIfInBounds c { ((x.cqs.toList)[c]?).getD {} with placed := n + 1 } }

/-- Ends descriptor `j` with a status and a result; one that has ended stays as it is (R299). -/
def State.complete (s : State) (j : Nat) (st : Code) (res : Nat) : State :=
  match s.jEntry j with
  | none => s
  | some e =>
    if e.state = .completed then s
    else (s.updJ j fun e => { e with state := .completed, status := st, result := BitVec.ofNat 128 res,
                                     endTs := s.ts }).placeRing e.slice e.ring

/-- Descriptor `j` starts to execute and goes on (R305). -/
def State.start (s : State) (j : Nat) : State := s.updJ j fun e => { e with state := .started }

/-! ## Completion codes -/

def cOk : Code := 0x0000
def cExpired : Code := 0x0002
def cUnsupported : Code := 0x0003
def cInvalid : Code := 0x0004
def cDenied : Code := 0x0005
def cAbortedReset : Code := 0x0006
def cNotActive : Code := 0x0007
def cDuplicate : Code := 0x0009

/-- Every code this manual gives for a request that is not done as asked; no other is returned (R311). -/
def givenCodes : List Code :=
  [0x0002, 0x0003, 0x0004, 0x0005, 0x0006, 0x0007, 0x0009, 0x0100, 0x0101, 0x0102, 0x0103, 0x0200, 0x0201, 0x0202,
   0x0300, 0x0301, 0x0302, 0x0303, 0x0304, 0x0305, 0x0306, 0x0307, 0x0308, 0x0309, 0x030A, 0x0500, 0x0501, 0x0502,
   0x0503, 0x0504, 0x0505, 0x0600, 0x0601, 0x0602, 0x0603, 0x0700, 0x0701, 0x0800, 0x0900, 0x0901, 0x0A00, 0x0A01,
   0x0A02, 0x0A03, 0x0B00, 0x0B01, 0x0B02, 0x0C00, 0x0C01, 0x0C02, 0x0C03, 0x0C04, 0x0C05, 0x0C06, 0x0D00, 0x0D01,
   0x0D02, 0x0D03, 0x0D04, 0x0E00]

/-- A code that the manual leaves open: some code it gives (log 4). -/
def State.freeCode (s : State) : Code × State :=
  let (v, s) := s.free
  ((givenCodes[v.toNat % givenCodes.length]?).getD cInvalid, s)

/-! ## Writes through the set-up window (R3, R47, R48, R50) -/

/-- The windows of the units other than GLB and KA are open (R50, R419): to the Module Manager as to the hosts. -/
def State.windowOpen (s : State) (_p : TimePort) : Bool := s.glb.phase = .setup || s.glb.phase = .running

/-- A refused write (R47, R48). -/
def State.lockedWrite (s : State) : State := s.updGlb fun g => { g with lockedWrite := true }
/-- An access before SETUP (R50). -/
def State.notReadyWrite (s : State) : State := s.updGlb fun g => { g with notReady := true }
/-- An access to an absent unit (R3). -/
def State.setAbsent (s : State) : State := s.updGlb fun g => { g with absent := true }

/-- A write to a register of a unit that is there or not. -/
def State.unitWrite (s : State) (present : Bool) (f : State → State) : State :=
  if ¬ s.windowOpen .h0 then s.notReadyWrite else if present then f s else s.setAbsent

/-! ## Trip lanes (R16) -/

def State.laneOn (s : State) (n : Nat) : Bool := s.lanes.get n ≠ []

/-- Some lane of a mask is asserted. -/
def State.maskOn (s : State) (m : BitVec 64) : Bool :=
  (List.range 64).any fun i => m.getLsbD i && s.laneOn i

/-- Some lane of a list lies in a mask. -/
def hitsMask (m : BitVec 64) (ls : List Nat) : Bool := ls.any fun i => m.getLsbD i

end Machine
end Sys2Proof
end

