-- ==== Sys2Proof/Machine/Beam.lean ====
section
/-! DEFINITION. Downlink frames of the beam lanes: their bytes (R212 to R216, R219) and the order in which they leave a
lane (R215, R216, R219, log 82). -/

namespace Sys2Proof.Machine

/-! ## Bytes on the line -/

/-- FORM of R196. -/
def formCode : Form → Nat | .block => 0 | .bypass => 1 | .insert => 2 | .pulse => 3 | .notch => 4

/-- A beam command (R214). -/
def cmdBytes (c : Command) : List Byte :=
  leBytes 1 (formCode c.form) ++ leBytes 1 ((if c.carrier then 1 else 0) + (if c.excluded then 2 else 0)) ++ leBytes 2 c.a
    ++ leBytes 2 c.b ++ leBytes 2 c.dead

/-- TYPE of a downlink frame (R213). -/
def BeamBody.type : BeamBody → Nat | .regular _ => 0 | .tripBlock => 1 | .calibrate .. => 2

/-- The 16-byte header (R213). -/
def headerBytes (h : BeamHdr) (type : Nat) : List Byte :=
  leBytes 2 0xC35A ++ leBytes 1 (h.lane % 64) ++ leBytes 1 ((if h.active then 1 else 0) + 2 * type) ++ leBytes 4 h.fnum
    ++ leBytes 6 h.tick ++ leBytes 2 (h.modnum % 1024)

/-- The bytes between the header and the CRC: 128 commands, nothing, or the parameters of R219 and zeros. -/
def bodyBytes : BeamBody → List Byte
  | .regular cmds => bytesAt (cmds.flatMap cmdBytes) 0 1024
  | .tripBlock => []
  | .calibrate cf delta dDown ul =>
    bytesAt (leBytes 4 cf ++ leBytes 4 delta ++ leBytes 4 dDown ++ leBytes 4 ul) 0 1024

/-- A frame's bytes, closed by a CRC-32 over all of them (R213, R216, R219). -/
def beamBytes (h : BeamHdr) (b : BeamBody) : List Byte :=
  let bs := headerBytes h b.type ++ bodyBytes b
  bs ++ leBytes 4 (crc32 bs).toNat

/-- The seven octets of the start block: LAUNCH in TS format (R212). -/
def startOctets (h : BeamHdr) : List Byte := [0x55, 0x55, 0x55] ++ leBytes 4 h.launch

/-! ## The lanes -/

/-- From the start of a frame on the wire to the same bit at the optical connector, in ns, at most (R169). -/
def opticNs : Nat := 200

/-- Line time of a REGULAR or CALIBRATE frame in ns (R212). -/
def frameNs : Nat := 1750

def isCalibrate (i : BeamItem) : Bool := i.body.type = 2

/-- A calibration of the lane is due, waits for the line, or has no reply yet. -/
def calBusy (b : BeamSt) : Bool := b.calDue || b.calSent.isSome || b.out.any isCalibrate

/-- A frame that starts at `t` would not end at the connector before the lane's next REGULAR frame is due (R219). -/
def overruns (i : BeamItem) (t : Nat) : Bool :=
  match i.limit with | some u => decide (u < t + i.len + opticNs) | none => false

/-- A frame starts on lane `l` at instant `t`: ACTIVE is the grant at that instant (R215), LAUNCH the instant at which
its start block passes the connector (R212). The delay up to there is free within its bound (R476, log 82). -/
def State.launchFrame (s : State) (l : Nat) (i : BeamItem) (t : Nat) : State :=
  let (v, s) := s.free
  let o := v.toNat % (opticNs + 1)
  let f := i.fnum.getD (s.beams.get l).lastReg
  (s.updBeam l fun b =>
    { b with lastReg := f, busyTo := t + i.len
             calSent := if isCalibrate i then some (t + o) else b.calSent }).emit
    (.beam { lane := l, active := s.mlk.grant, fnum := f, tick := i.tick, modnum := s.glb.modnum.toNat
             launch := tsOf (s.taiOf (t + o)) } i.body)

/-- The frames that wait for lane `l` start in order, each once its instant has come and the line is free; a CALIBRATE
frame that no longer fits is due again. -/
def State.sendBeam (s : State) (l : Nat) : List BeamItem → State
  | [] => s.updBeam l fun b => { b with out := [] }
  | i :: r =>
    let t := Nat.max i.start (s.beams.get l).busyTo
    if s.now < t then s.updBeam l fun b => { b with out := i :: r }
    else if overruns i t then (s.updBeam l fun b => { b with calDue := true }).sendBeam l r
    else (s.launchFrame l i t).sendBeam l r

def State.flushBeam (s : State) (l : Nat) : State := s.sendBeam l (s.beams.get l).out

/-- Every lane's frames that have started by now have left (log 82). -/
def State.flushBeams (s : State) : State :=
  s.each ((List.range 64).filter fun l => (s.beams.get l).out ≠ []) fun s l => s.flushBeam l

/-- Puts frames at the end of a lane's queue. -/
def State.queueBeam (s : State) (l : Nat) (is : List BeamItem) : State :=
  s.updBeam l fun b => { b with out := b.out ++ is }

/-- The instant by which every frame that waits has started. -/
def lastStart (b : BeamSt) : Nat := b.out.foldl (fun t i => Nat.max t i.start + i.len) b.busyTo

/-- The three copies of a TRIP_BLOCK frame from instant `t`; they take 178 ns (R216). -/
def tripItems (t tick : Nat) : List BeamItem :=
  [59, 60, 59].map fun n => { body := .tripBlock, tick := tick, start := t, len := n }

/-- A REGULAR frame not yet started carries BLOCK once its arm has tripped (R203). -/
def blockItem (i : BeamItem) : BeamItem :=
  match i.body with
  | .regular cmds => { i with body := .regular (cmds.map fun c => { excluded := c.excluded, dead := c.dead }) }
  | _ => i

/-- TICK of an instant (R213). -/
def State.beamTick (s : State) (t : Nat) : Nat := s.taiOf t % 2 ^ 48

end Sys2Proof.Machine
end

