-- ==== Sys2Proof/Machine/ObsOps.lean ====
section
/-! DEFINITION. Uses of Obscura key slots (R404): what a naming or a use of a slot is checked for. -/

namespace Sys2Proof.Machine

/-- OBS_SLOT of a slot (R421). -/
def State.slotAttr (s : State) (i : Nat) : Word := (s.obs.slots.get i).attr
def attrValid (a : Word) : Bool := a.getLsbD 0
def attrExportable (a : Word) : Bool := a.getLsbD 1
def attrLocked (a : Word) : Bool := a.getLsbD 2
def attrLen (a : Word) : Nat := a.toNat / 2 ^ 16
def attrOwner (a : Word) : Nat := a.toNat / 2 ^ 8 % 64
def attrAny (a : Word) : Bool := a.getLsbD 14

/-- USE bit of an algorithm of R141: MAC for HMAC-SHA256, AEAD for AES-256-GMAC. -/
def algBit (alg : Nat) : Nat := if alg < 3 then 3 else 4

/-- LEN fits a USE in a slot of this number (R404). -/
def lenFits (slot bit len : Nat) : Bool :=
  match bit with
  | 3 => decide (4 ≤ slot ∧ 16 ≤ len ∧ len ≤ 64)
  | 4 => decide (4 ≤ slot ∧ len = 32)
  | 5 => decide (slot = 0 ∧ len = 7488)
  | 6 => decide (1 ≤ slot ∧ slot ≤ 3 ∧ len = 2592)
  | 7 => decide (4 ≤ slot ∧ 32 ≤ len ∧ len ≤ 64)
  | _ => false

/-- Checks of R404 in order; the first that fails gives its code of R423. -/
def State.keyCheck (s : State) (slot bit : Nat) (owners : List Nat) : Option Code :=
  let a := s.slotAttr slot
  if !attrValid a then some 0x0C05
  else if !a.getLsbD bit then some 0x0C01
  else if !lenFits slot bit (attrLen a) then some 0x0C03
  else if !attrAny a && !owners.all (· = attrOwner a) then some 0x0C02
  else none

/-- Owner slices of the chains that take a stream (R404, R317). -/
def State.svOwners (s : State) (k : Nat) : List Nat :=
  (s.pkg.slots.rows.filter fun r => r.2.en && r.2.stream = k).map fun r =>
    (s.pkg.chains.get (r.1 / 256 * 32 + r.2.chain)).ownerSlice

/-- A frame's tag passes with a slot: the slot's use is allowed, and the tag verified; a refused use is
counted in OBS_DENY. -/
def State.useKey (s : State) (slot alg : Nat) (owners : List Nat) (good : Bool) : Bool × State :=
  if slot = 0 then (false, s)
  else match s.keyCheck slot (algBit alg) owners with
    | none => (good, s)
    | some _ => (false, s.updObs fun o => { o with deny := sat32 o.deny 1 })

/-! ## Signed images (R402, R409, R410) -/

/-- The bit of VARIANTS that names this module's variant (R409). -/
def variantBit : Nat := match Config.variant with | .gn9410 => 0 | .gn9420 => 1 | .gn9430 => 2

/-- KIND and KEY_ID of a firmware image are allowed in a life-cycle state; the boot ROM still boots a FIRMWARE image
in DECOMMISSIONED (R410). -/
def firmwareKind (lcs : Lcs) (boot : Bool) (i : Image) : Bool :=
  match i.kind with
  | .firmware => (i.keyId = 0 || i.keyId = 1) && (boot || lcs ≠ .decommissioned)
  | .mfgFirmware => i.keyId = 2 && lcs = .manufacture
  | _ => false

/-- KIND and KEY_ID of a package are allowed in a life-cycle state (R410). -/
def packageKind (lcs : Lcs) (i : Image) : Bool :=
  match i.kind with
  | .package => (i.keyId = 0x10 || i.keyId = 0x11) && (lcs = .operational || lcs = .service)
  | .testPackage => i.keyId = 2 && lcs = .manufacture
  | _ => false

/-- The slot of an owner key (R402). -/
def ownerSlot (keyId : Nat) : Option Nat := if keyId = 0x10 then some 1 else if keyId = 0x11 then some 3 else none

/-- The key that KEY_ID names is present and not revoked (R402). -/
def State.keyPresent (s : State) (keyId : Nat) : Bool :=
  match ownerSlot keyId with
  | some k => (s.keyCheck k 6 []).isNone
  | none => if keyId = 0 then !s.obs.key0Revoked else if keyId = 1 then !s.obs.key1Revoked else keyId = 2

/-- The first check of R410 that an image fails gives its code. -/
def State.imageCode (s : State) (pkg boot : Bool) (i : Image) : Option Code :=
  let floor := if pkg then s.obs.pkgFloor else s.obs.fwFloor
  if !i.wellFormed then some cInvalid
  else if !(if pkg then packageKind s.glb.lcs i else firmwareKind s.glb.lcs boot i) then some cDenied
  else if !i.variants.getLsbD variantBit || !i.deviceOk then some cUnsupported
  else if !s.keyPresent i.keyId || !i.sigGood then some 0x0100
  else if i.secver < floor then some 0x0101
  else none

end Sys2Proof.Machine
end

