-- ==== Sys2Proof/Machine/Buffer.lean ====
section
/-! DEFINITION. The shared buffer of the switch core: ports (R228), reservations (R232), cells, banks and queues (R233,
R234), and the admission of a copy set (R235 to R237, R239). Frames from a port and frames built in the module go
through the same operations. -/

namespace Sys2Proof.Machine

/-! ## Ports and frames -/

def portCount : Nat := 8 + lensCount
def State.portCfg (s : State) (p : Nat) : PortCfg := s.pkg.ports.get p

/-- A copy may be queued for this port: its unit is ON and its link is up (R235). The host ports have their
PCI Express link, the Module Manager's port is up while it runs, a lens port while its lens is ON. -/
def State.portUp (s : State) (p : Nat) : Bool :=
  if p < 5 then s.unitOn (.port p) && (s.swc.ports.get p).link
  else if p < 7 then (s.hif.ports.get (p - 5)).up
  else if p = 7 then !s.mlk.mmDown
  else decide (p < portCount) && s.unitOn (.lens (p - 8))

def State.qdrop (s : State) (p c : Nat) : State :=
  s.updSwc fun w => { w with qdrop := w.qdrop.upd (8 * p + c) fun n => sat32 n 1 }

def groupAddr (a : BitVec 48) : Bool := a.getLsbD 0
def broadcast : BitVec 48 := 0xFFFFFFFFFFFF
def vlanOf (fr : EthFrame) : Nat := fr.vlan.getD 0
def cellsOf (fr : EthFrame) : Nat := Nat.max 1 (ceilDiv fr.len 256)

/-- Bytes of a frame from the destination address to the end of the payload; a facet message is its slot, and the bytes of
other built content are those of an outside standard (log 81). -/
def ethBytes (fr : EthFrame) : List Byte :=
  let be (v : Nat) : List Byte := [BitVec.ofNat 8 (v / 256), BitVec.ofNat 8 v]
  leBytes 6 fr.dst.toNat ++ leBytes 6 fr.src.toNat
    ++ (match fr.sTag with | some t => be 0x88A8 ++ be t | none => [])
    ++ (match fr.vlan with | some v => be 0x8100 ++ be (fr.pcp * 8192 + v) | none => [])
    ++ be fr.ethertype.toNat ++ fr.payload
    ++ (match fr.app with | some (.message _ _ slot) => slot | some a => Config.appBytes a | none => [])

/-! ## Reservations (R232) -/

/-- The reservations of an egress port: those of the package, or the defaults. -/
def State.rsvOf (s : State) (p : Nat) : Rsv :=
  match (s.portCfg p).rsv with
  | some r => r
  | none => { tc4 := if p < 4 ∨ 8 ≤ p then 8 else 0 }

/-- Cells of the reservation of a class at an egress port; 16 cells of 256 B to a unit of 4 KiB. -/
def State.rsvCells (s : State) (p c : Nat) : Nat :=
  let r := s.rsvOf p
  match c with
  | 4 => r.tc4 * 16
  | 5 => r.tc5 * 16
  | 6 => r.tc6 * 16
  | 7 => r.tc7 * 16
  | _ => 0

/-- Cells of the shared pool: what the reservations leave (R234). -/
def State.poolSize (s : State) : Nat :=
  98304 - (List.range portCount).foldl (fun n p =>
    n + s.rsvCells p 4 + s.rsvCells p 5 + s.rsvCells p 6 + s.rsvCells p 7) 0

/-! ## Queues and occupancy (R233, R234, R237) -/

def State.queue (s : State) (p c : Nat) : List QEntry := s.swc.queues.get (8 * p + c)
def allEntries (s : State) : List QEntry := s.swc.queues.rows.flatMap (·.2)

/-- The stored frame of a number. -/
def State.storedAt (s : State) (i : Nat) : Stored := (s.swc.stored.find? fun f => f.id = i).getD {}

/-- Cells of the pool in use: each frame once that has a pool copy or waits at ingress. -/
def State.poolUsed (s : State) : Nat :=
  let es := (allEntries s).filter (·.pool)
  let ids := (es.map (·.id)).eraseDups
  ids.foldl (fun n i => n + (match es.find? fun e => e.id = i with | some e => e.cells | none => 0)) 0
    + (s.swc.waiting.filter fun w => !ids.contains w.id).foldl (fun n w => n + w.cells) 0
/-- FREE_CELLS (R251). -/
def State.freeCells (s : State) : Nat := s.poolSize - s.poolUsed

/-- Cells charged to a reservation: the copies of that port and class that are not in the pool. -/
def State.rsvUsed (s : State) (p c : Nat) : Nat :=
  ((s.queue p c).filter fun e => !e.pool).foldl (fun n e => n + e.cells) 0
def State.rsvRoom (s : State) (p c n : Nat) : Bool := decide (s.rsvUsed p c + n ≤ s.rsvCells p c)

/-- Pool cells that a port's best-effort queues, TC0 to TC3, hold (R237). -/
def State.portPool (s : State) (p : Nat) : Nat :=
  (List.range 4).foldl (fun n c => n + (((s.queue p c).filter (·.pool)).foldl (fun n e => n + e.cells) 0)) 0

/-- The pool admits a copy of `n` cells for port `p` (R237); `held` says that the frame's cells are taken. -/
def State.poolRoom (s : State) (p n : Nat) (held : Bool) : Bool :=
  let free := s.freeCells
  decide (s.portPool p * 8 < 2 ^ s.pkg.swc.beAlpha * free) && (held || decide (n ≤ free))

/-! ## The cells of a frame (R234) -/

/-- Cells in use in a bank, of its 3,072. -/
def State.bankUsed (s : State) (b : Nat) : Nat :=
  s.swc.stored.foldl (fun n f => n + (f.banks.filter (· = b)).length) 0

/-- Banks of the next `n` cells of the free list, which rotates across the banks. -/
def State.nextBanks (s : State) (n : Nat) : List Nat :=
  ((List.range 32).map fun k => (s.swc.bank + k) % 32).filter (fun b => decide (s.bankUsed b < 3072)) |>.take n

/-- Stores a frame once, in cells of consecutive banks (R234). Answers its number. -/
def State.store (s : State) (f : Stored) : State × Nat :=
  let bs := s.nextBanks (cellsOf f.frame)
  let i := s.swc.nextId
  (s.updSwc fun w => { w with nextId := i + 1, bank := (match bs.getLast? with | some b => (b + 1) % 32 | none => w.bank)
                              stored := w.stored ++ [{ f with id := i, banks := bs }] }, i)

/-- Frees the cells of the frames whose last copy has left (R234). -/
def State.sweep (s : State) : State :=
  let used (i : Nat) : Bool := ((allEntries s).any fun e => e.id = i) || s.swc.waiting.any fun w => w.id = i
  s.updSwc fun w => { w with stored := w.stored.filter fun f => used f.id }

def State.push (s : State) (p c : Nat) (e : QEntry) : State :=
  s.updSwc fun w => { w with queues := w.queues.upd (8 * p + c) fun q => q ++ [e] }

/-- Removes the queued copies and waiting frames of the stored frames that `out` names. -/
def State.dropStored (s : State) (out : Stored → Bool) : State :=
  let ids := (s.swc.stored.filter out).map (·.id)
  if ids = [] then s
  else (s.updSwc fun w => { w with queues := w.queues.mapRows fun _ q => q.filter fun e => !ids.contains e.id
                                   waiting := w.waiting.filter fun x => !ids.contains x.id }).sweep

/-- Queued frames that are command outputs do not leave once the grant is lost (R44, R163, R164). -/
def State.dropCommands (s : State) : State := s.dropStored (·.command)

/-! ## Admission (R235 to R237) -/

/-- Slices on host port `h` that a frame is for: the one with its address, else every one of its VLAN
(R245). -/
def State.slicesFor (s : State) (h : Nat) (fr : EthFrame) : List Nat :=
  let on := s.hif.slices.rows.filter fun r => r.2.port = h && s.unitOn (.slice r.1)
  match on.find? fun r => r.2.mac = fr.dst with
  | some r => [r.1]
  | none => if groupAddr fr.dst then
      (on.filter fun r => (vlanOf fr = 0 || r.2.vlans.contains (vlanOf fr)) && r.2.mac ≠ fr.src).map (·.1)
    else []

/-- Queue entries of one copy: one per slice at a host port. -/
def State.copies (s : State) (p : Nat) (fr : EthFrame) (e : QEntry) : List QEntry :=
  if p = 5 ∨ p = 6 then (s.slicesFor (p - 5) fr).map fun i => { e with slice := i } else [e]

/-- Admits or drops the best-effort and TC4 copies of a frame, port by port (R237); answers how many were
admitted. -/
def State.admitBest (s : State) (c : Nat) (fr : EthFrame) (e : QEntry) : List Nat → Nat → State × Nat
  | [], n => (s, n)
  | p :: ps, n =>
    let held := (allEntries s).any fun x => x.id = e.id && x.pool
    if c = 4 ∧ s.rsvRoom p 4 e.cells then
      (s.each (s.copies p fr e) fun s x => s.push p c x).admitBest c fr e ps (n + 1)
    else if s.poolRoom p e.cells held then
      (s.each (s.copies p fr { e with pool := true }) fun s x => s.push p c x).admitBest c fr e ps (n + 1)
    else (s.qdrop p c).admitBest c fr e ps n

/-- Every port of a lossless copy set has room (R236). -/
def State.losslessFits (s : State) (c n : Nat) (ps : List Nat) : Bool := ps.all fun p => s.rsvRoom p c n

/-- Queues every copy of an admitted lossless frame. -/
def State.admitLossless (s : State) (c : Nat) (e : QEntry) (ps : List Nat) : State :=
  s.each ps fun s p => s.push p c e

/-- What became of a frame, for its Glint record. -/
structure Fate where
  policed : Bool := false
  flooded : Bool := false
  cls : Nat := 0
  admitted : Nat := 0
  waits : Bool := false
  deriving DecidableEq, Repr

/-- Cells that frames of an ingress port and class hold while they wait (R236). -/
def State.heldCells (s : State) (p c : Nat) : Nat :=
  (s.swc.waiting.filter fun w => w.ingress = p && w.cls = c).foldl (fun n w => n + w.cells) 0

/-- Lossless copies: admitted at once, or the frame waits behind its class at its ingress port, or it is
beyond the hold limit (R236). -/
def State.lossless (s : State) (p c : Nat) (e : QEntry) (ps : List Nat) (f : Fate) : State × Fate :=
  if ps = [] then (s, f)
  else if s.losslessFits c e.cells ps ∧ ¬ s.swc.waiting.any fun w => w.ingress = p && w.cls = c then
    (s.admitLossless c e ps, { f with admitted := f.admitted + ps.length })
  else if 256 < s.heldCells p c + e.cells then
    (s.updSwc fun w => { w with holdDrop := w.holdDrop.upd p fun n => sat32 n 1 }, f)
  else
    (s.updSwc fun w => { w with waiting := w.waiting ++
      [{ id := e.id, ingress := p, cls := c, cells := e.cells, ports := ps, since := s.now }] },
     { f with waits := true })

/-- A frame of class `c` from ingress port `p` with a known copy set: the set is reduced (R235), the frame stored, and
its copies admitted. A lossless copy to H0, H1 or MM is demoted to TC3. -/
def State.admitCopies (s : State) (p c : Nat) (fr : EthFrame) (command : Bool) (ps : List Nat) (f : Fate) : State × Fate :=
  let ps := ps.filter (· ≠ p)
  let s := s.each (ps.filter fun k => !s.portUp k) fun s k => s.qdrop k c
  let ps := ps.filter fun k => s.portUp k
  let (s, i) := s.store { frame := fr, cls := f.cls, flooded := f.flooded, command := command, ingress := p, at_ := s.now }
  let e : QEntry := { id := i, cells := cellsOf fr }
  let (s, f) :=
    if c < 5 then
      let (s, n) := s.admitBest c fr e ps 0
      (s, { f with admitted := n })
    else
      let (s, n) := s.admitBest 3 fr e (ps.filter fun k => 5 ≤ k && k ≤ 7) 0
      s.lossless p c e (ps.filter fun k => !(5 ≤ k && k ≤ 7)) { f with admitted := n }
  (s.sweep, f)

/-- Queued copies of a port are discarded and counted, and waiting frames lose it from their copy sets (R248, R249). -/
def State.flushPort (s : State) (p : Nat) : State :=
  let s := s.each (List.range 8) fun s c =>
    s.updSwc fun w => { w with qdrop := w.qdrop.upd (8 * p + c) (fun n => sat32 n (s.queue p c).length),
                               queues := w.queues.set (8 * p + c) [] }
  (s.updSwc fun w =>
    let ws := w.waiting.map fun x => { x with ports := x.ports.filter (· ≠ p) }
    { w with waiting := ws.filter fun x => decide (x.ports ≠ []) }).sweep

/-! ## Facet messages under way (R239) -/

/-- Messages to queue `q` of facet `h` that are on their way to lens `l` in the switch core. -/
def State.lensWay (s : State) (l h q : Nat) : Nat :=
  ((s.queue (8 + l) 4).filter fun e => match (s.storedAt e.id).frame.app with
    | some (.message f k _) => f = h && k = q
    | _ => false).length

/-- Messages on their way to lens `l` are lost with the queues they are for. -/
def State.dropLens (s : State) (l : Nat) : State :=
  let out (e : QEntry) : Bool := match (s.storedAt e.id).frame.app with | some (.message _ _ _) => true | _ => false
  (s.updSwc fun w => { w with queues := w.queues.upd (8 * (8 + l) + 4) fun q => q.filter fun e => !out e }).sweep

end Sys2Proof.Machine
end

