-- ==== Sys2Proof/Machine/HostOps.lean ====
section
/-! DEFINITION. Host memory, rings and the journal: writes to a slice's memory and their dirty log (R293,
R334 to R336), token buckets (R322), ring states (R295, R299, R303), MSI-X (R313), acceptance (R305),
and the start and end of descriptors (R299, R307, R308). -/

namespace Sys2Proof

namespace Machine

/-- No slice: only the counters that a cold restart clears are left (R339). -/
def noSlice (x : SliceSt) : SliceSt := { limited := x.limited, dirty := { filtered := x.dirty.filtered } }

/-! ## Token buckets (R322) -/

/-- Level of a bucket at instant `now`, in 10⁻⁹ token: `rate` tokens per second, at most `burst`; a bucket
nothing has taken from is full. -/
def level (b : Bucket) (rate burst now : Nat) : Int :=
  match b.tokens with
  | none => (burst * 1000000000 : Nat)
  | some t => min ((burst * 1000000000 : Nat) : Int) (t + (rate * (now - b.at_) : Nat))

/-- Descriptor tokens of a slice, in 10⁻⁹. -/
def State.descLevel (s : State) (i : Nat) : Int :=
  let x := s.slice i
  level x.descBkt x.descRate x.descBurst s.now
/-- Byte tokens of a slice, in 10⁻⁹; BYTE_RATE is in MB/s. -/
def State.byteLevel (s : State) (i : Nat) : Int :=
  let x := s.slice i
  level x.byteBkt (x.byteRate * 1000000) x.byteBurst s.now

/-- The descriptor bucket lets a descriptor be taken. -/
def State.descOpen (s : State) (i : Nat) : Bool :=
  (s.slice i).descRate = 0 || decide (1000000000 ≤ s.descLevel i)
/-- The byte bucket lets a transfer start. -/
def State.byteOpen (s : State) (i : Nat) : Bool :=
  (s.slice i).byteRate = 0 || decide (0 ≤ s.byteLevel i)

/-- Taking a descriptor costs one token. -/
def State.payDesc (s : State) (i : Nat) : State :=
  if (s.slice i).descRate = 0 then s
  else s.updSlice i fun x => { x with descBkt := { tokens := some (s.descLevel i - 1000000000), at_ := s.now } }
/-- A transfer charges its whole length at once. -/
def State.payBytes (s : State) (i n : Nat) : State :=
  if (s.slice i).byteRate = 0 then s
  else s.updSlice i fun x =>
    { x with byteBkt := { tokens := some (s.byteLevel i - (n * 1000000000 : Nat)), at_ := s.now } }

/-! ## Writes to host memory (R292, R293, R306, R329, R331) -/

/-- A record of the slice's dirty log is held for the link of slice 0's port. -/
def State.recordHeld (s : State) (i : Nat) : Bool :=
  (s.hif.ports.get (s.slice 0).port).held.any fun e => match e with | .host _ (.dirty k ..) => k = i | _ => false

/-- The port whose link must return before a write of slice `i` leaves: its own, or slice 0's while a record of a page it
has written is held there (R306, R334). -/
def State.heldAt (s : State) (i : Nat) : Option Nat :=
  let own := (s.slice i).port
  if ¬ (s.hif.ports.get own).up then some own
  else if s.recordHeld i then some (s.slice 0).port
  else none

/-- A write of slice `i` leaves through its host port, or is held. -/
def State.hostEmit (s : State) (i : Nat) (e : Emission) : State :=
  match s.heldAt i with
  | none => s.emit e
  | some h => s.updHostPort h fun p => { p with held := p.held ++ [e] }

/-- Held writes of slice `i` are discarded (R333). -/
def State.dropHost (s : State) (i : Nat) : State :=
  let keep (e : Emission) : Bool := match e with | .host k _ => k ≠ i | _ => true
  s.updHif fun h => { h with ports := h.ports.mapRows fun _ p => { p with held := p.held.filter keep } }

/-- Where a write of a slice's memory lies: address and length. -/
def writeAt (x : SliceSt) : HostWrite → Nat × Nat
  | .acceptedSeq r _ => (x.status + 8 * r, 8)
  | .head r _ => (x.status + 0x40 + 4 * r, 4)
  | .ringState r _ => (x.status + 0x60 + r, 1)
  | .cqState c _ _ => (x.status + 0x68 + c, 1)
  | .sliceState _ => (x.status + 0x70, 4)
  | .pollUs _ => (x.status + 0x74, 4)
  | .completion c k .. => ((((x.cqs.toList)[c]?).getD {}).base + 32 * k, 32)
  | .payload c k bs => let q := ((x.cqs.toList)[c]?).getD {}; (q.base + q.es * k + 32, bs.length)
  | .receive c k .. => let q := ((x.cqs.toList)[c]?).getD {}; (q.base + q.es * k, 32)
  | .buffer a b => (a, b.length)
  | .dirty .. => (0, 0)
  | .report a .. => (a, 32)
  | .svcResult a b => (a, b.length)

/-- One page written (R334 to R336): a record, unless the filter holds the page. When the ring is full the
module reads CONSUMED, which is the driver's, so a free value between the count known and PRODUCED. -/
def State.dirtyPage (s : State) (i p : Nat) : State :=
  let d := (s.slice i).dirty
  if findRow d.filter (p % 4096) = some p then
    s.updSlice i fun x => { x with dirty.filtered := sat32 x.dirty.filtered 1 }
  else if d.overflow then s
  else
    let (s, d) :=
      if d.depth ≤ d.produced - d.consumed then
        let (v, s) := s.free
        (s, { d with consumed := d.consumed + v.toNat % (d.produced - d.consumed + 1) })
      else (s, d)
    let s := s.updSlice i fun x => { x with dirty := d }
    if d.depth ≤ d.produced - d.consumed then
      (s.updSlice i fun x => { x with dirty.overflow := true }).event .dirtyLogOverflow i
    else
      let s := s.updSlice i fun x =>
        { x with dirty := { d with produced := d.produced + 1, filter := putRow d.filter (p % 4096) p } }
      s.hostEmit 0 (.host 0 (.dirty i (d.produced % d.depth) (d.produced / d.depth % 2 = 0) p))

/-- The module writes a slice's memory: its pages are logged first, and nothing is written while the slice
is paused or silent (R329, R331, R334). -/
def State.hostWrite (s : State) (i : Nat) (w : HostWrite) : State :=
  let x := s.slice i
  if x.paused ∨ x.silent then s
  else
    let (a, n) := writeAt x w
    let s := if x.dirty.on ∧ 0 < n then
        s.each ((List.range ((a + n - 1) / 4096 + 1 - a / 4096)).map (a / 4096 + ·)) fun s p => s.dirtyPage i p
      else s
    s.hostEmit i (.host i w)

/-! ## Rings -/

def State.sq (s : State) (i r : Nat) : SqSt := (((s.slice i).sqs.toList)[r]?).getD {}
def State.cq (s : State) (i c : Nat) : CqSt := (((s.slice i).cqs.toList)[c]?).getD {}
def State.updSq (s : State) (i r : Nat) (f : SqSt → SqSt) : State :=
  s.updSlice i fun x => { x with sqs := x.sqs.setIfInBounds r (f (((x.sqs.toList)[r]?).getD {})) }
def State.updCq (s : State) (i c : Nat) (f : CqSt → CqSt) : State :=
  s.updSlice i fun x => { x with cqs := x.cqs.setIfInBounds c (f (((x.cqs.toList)[c]?).getD {})) }

/-- Free entries of a completion or receive ring (R300). -/
def cqFree (q : CqSt) : Nat := q.depth - (q.written + 65536 - q.cqHead % 65536) % 65536

/-- Sends entry `k` of a host port's MSI-X table, after the writes of its slice that are held (R293). -/
def State.vecSend (s : State) (h k : Nat) : State :=
  let e := s.hif.vecs.get (512 * h + k)
  s.hostEmit (k / 8) (.msix h k e.addr e.data)

/-- Sends vector `v` of a slice, or sets its pending bit while it is masked (R313). -/
def State.msix (s : State) (i v : Nat) : State :=
  let h := (s.slice i).port
  let k := 8 * i + v
  if s.hif.maskedVec.get (512 * h + k) then
    s.updHif fun x => { x with pendingVec := x.pendingVec.set (512 * h + k) true }
  else s.vecSend h k

/-- A vector is masked or unmasked; one that is unmasked with its pending bit set is sent (R313). -/
def State.setMask (s : State) (h k : Nat) (m : Bool) : State :=
  let n := 512 * h + k
  let s := s.updHif fun x => { x with maskedVec := x.maskedVec.set n m }
  if !m && s.hif.pendingVec.get n then
    (s.updHif fun x => { x with pendingVec := x.pendingVec.set n false }).vecSend h k
  else s

/-- The vector of completion ring 0 reports a change of a state (R313). -/
def State.stateIrq (s : State) (i : Nat) : State := s.msix i (s.cq i 0).vector

/-- An entry has been written to a ring: its message is sent when COAL_N is reached or at once (R313). -/
def State.ringMsg (s : State) (i c : Nat) (now_ : Bool) : State :=
  let q := s.cq i c
  if now_ ∨ q.coalN ≤ q.sinceMsg + 1 then
    (s.updCq i c fun q => { q with sinceMsg := 0, firstAt := none }).msix i q.vector
  else s.updCq i c fun q => { q with sinceMsg := q.sinceMsg + 1, firstAt := some (q.firstAt.getD s.now) }

/-- Journal entries of a ring, oldest first. -/
def State.ringJ (s : State) (i r : Nat) : List JEntry :=
  s.hif.journal.filter fun e => e.slice = i && e.ring = r

/-- Accepted descriptors of a slice without a completion (R324, R339). -/
def State.unexec (s : State) (i : Nat) : Nat :=
  (s.hif.journal.filter fun e => e.slice = i && !e.dup && e.accepted).length

/-- Descriptors of a slice that are taken: accepted now or once their seal commits. -/
def State.takenBy (s : State) (i : Nat) : Nat := (s.hif.journal.filter fun e => e.slice = i && !e.dup).length

/-- Free journal entries (R305). -/
def State.jFree (s : State) : Nat := 65536 - s.hif.journal.length

/-- Completions owed to a completion ring: operations started or ended whose entry is not written. -/
def State.owed (s : State) (i c : Nat) : Nat :=
  (s.hif.journal.filter fun e =>
    e.slice = i && e.state ≠ .accepted && (s.sq i e.ring).cq = c).length

/-- RING_STATE of a ring as it is now (R295, R298, R299, R305, R314, R322, R324). -/
def State.ringState (s : State) (i r : Nat) : SqState :=
  let q := s.sq i r
  if q.st = .off then .off
  else if q.st = .destroying then .destroying
  else if q.fault then .hostFault
  else if q.service ∧ s.svc.running.isSome then .svcBusy
  else if s.jFree < 1024 ∨ (s.slice i).unexecLimit ≤ s.takenBy i ∨ ¬ s.descOpen i then .limit
  else if cqFree (s.cq i q.cq) ≤ s.owed i q.cq then .cqFull
  else if q.gapSeen then .seqWait
  else .running

/-- The polling interval of a slice becomes `us` with no empty polls; POLL_US shows a change (R295, R303). -/
def State.setPoll (s : State) (i us : Nat) : State :=
  let old := (s.slice i).curUs
  let s := s.updSlice i fun x => { x with curUs := us, empty := 0 }
  if old = us then s else s.hostWrite i (.pollUs us)

/-- Who polls and executes: with the grant, or in MANUFACTURE and SERVICE with RUN set (R303). -/
def State.hostActive (s : State) : Bool :=
  s.glb.phase = .running && !s.hif.fetchStopped && !s.mlk.mmDown &&
    (s.mlk.grant || ((s.glb.lcs = .manufacture || s.glb.lcs = .service) && s.glb.run))

/-- The slice is polled: its unit ON, SLICE_STATE ACTIVE or RESET_DONE, its port up, nothing stopped. -/
def State.polls (s : State) (i : Nat) : Bool :=
  let x := s.slice i
  s.hostActive && s.unitOn (.slice i) && (x.st = .active || x.st = .resetDone) && !x.paused && !x.stopped
    && (s.hif.ports.get x.port).up

/-- Instant at which the next poll of a slice falls due: a failed read is retried after 1,000 µs (R306). -/
def State.pollDue (s : State) (i : Nat) : Nat :=
  let x := s.slice i
  match x.pollNow with
  | some t => t
  | none => x.lastPoll + (if x.dbFault then 1000 else x.curUs) * 1000

/-- A poll of the slice falls due now, unless one is due already. -/
def State.pollAtOnce (s : State) (i : Nat) : State :=
  let t := if s.polls i ∧ ¬ (s.slice i).pollOut then Nat.min s.now (s.pollDue i) else s.now
  s.updSlice i fun x => { x with pollNow := some t }

/-- Writes a ring's state where it has changed, with the vector of completion ring 0; a ring that can take
again is polled at once at MIN_US (R303, R313). Taking stopped by R322 or R324 is counted once. -/
def State.syncRing (s : State) (i r : Nat) : State :=
  let old := (s.sq i r).st
  let new := s.ringState i r
  if old = new then s
  else
    let s := (s.updSq i r fun q => { q with st := new }).hostWrite i (.ringState r new)
    let s := s.stateIrq i
    if (old = .svcBusy ∨ old = .limit ∨ old = .cqFull) ∧ new = .running then
      (s.pollAtOnce i).setPoll i (s.slice i).minUs
    else s

/-- Writes CQ_STATE where FULL has changed. -/
def State.syncCq (s : State) (i c : Nat) : State :=
  let q := s.cq i c
  let full := q.on && cqFree q = 0
  if q.full = full then s
  else ((s.updCq i c fun q => { q with full := full }).hostWrite i (.cqState c q.on full)).stateIrq i

/-- Brings the ring states of a slice up to date. -/
def State.syncSlice (s : State) (i : Nat) : State :=
  let lim (s : State) : Bool := (List.range 8).any fun r => (s.sq i r).st = .limit
  let was := lim s
  let s := s.each (List.range 8) fun s c => s.syncCq i c
  let s := s.each (List.range 8) fun s r => s.syncRing i r
  if ¬ was ∧ lim s ∧ 1024 ≤ s.jFree then
    s.updSlice i fun x => { x with limited := sat32 x.limited 1 }
  else s

/-- Brings the ring states of every slice up to date. -/
def State.syncRings (s : State) : State := s.each s.hif.slices.keys fun s i => s.syncSlice i

/-- Brings ring states up to date after a change at slice `i`: those of every slice where the journal, which had `was` free
entries, has passed the limit of R305. -/
def State.syncFree (s : State) (was i : Nat) : State :=
  if (was < 1024) ↔ (s.jFree < 1024) then s.syncSlice i else s.syncRings

/-! ## Receive records (R302) -/

/-- The slice takes receive records: ON and active, not paused, resetting or before its first taking
(R329, R331). -/
def State.takesRecords (s : State) (i : Nat) : Bool :=
  let x := s.slice i
  s.unitOn (.slice i) && x.st = .active && !x.stopped && !x.paused && !x.silent

/-- Writes a record to a receive ring, or tells that it found no room (R302). It waits while the byte bucket is below 0
(R322). -/
def State.putRecord (s : State) (i c ts source port : Nat) (bytes : List Byte) : State × Bool :=
  let q := s.cq i c
  if ¬ (s.takesRecords i ∧ q.on ∧ q.receive) then (s, false)
  else if ¬ s.byteOpen i ∨ (s.slice i).late ≠ [] then
    (s.updSlice i fun x => { x with late := x.late ++ [{ c := c, ts := ts, source := source, port := port, bytes := bytes }] },
      true)
  else if cqFree q = 0 then (s, false)
  else
    let n := Nat.min bytes.length (q.es - 32)
    let k := q.written
    let s := s.payBytes i n
    let s := if n = 0 then s else s.hostWrite i (.payload c (k % q.depth) (bytes.take n))
    let s := s.hostWrite i (.receive c (k % q.depth) (k / q.depth % 2 = 0) (n < bytes.length) ts bytes.length source port)
    let s := s.updCq i c fun q => { q with written := q.written + 1 }
    ((s.ringMsg i c false).syncCq i c, true)

/-- A record that found no room is counted by its source (R246, R282). -/
def State.recordLost (s : State) (source port : Nat) : State :=
  match source with
  | 1 => s.updFbc port fun f => { f with rxNomatch := sat32 f.rxNomatch 1 }
  | 2 => s.updSwc fun w => { w with glint := w.glint.upd port fun g =>
      { g with drop := sat32 g.drop 1, skipped := g.skipped + 1 } }
  | _ => s

/-- Records that waited for the byte bucket are written, dropped, or wait on. -/
def State.lateRecords (s : State) (i : Nat) : State :=
  let xs := (s.slice i).late
  (s.updSlice i fun x => { x with late := [] }).each xs fun s x =>
    let (t, ok) := s.putRecord i x.c x.ts x.source x.port x.bytes
    if ok then t else s.recordLost x.source x.port

/-- The lowest-numbered receive ring whose SOURCES includes bit `b` (R302). -/
def State.recvRing (s : State) (i b : Nat) : Option Nat :=
  (List.range 8).find? fun c => let q := s.cq i c; q.on && q.receive && q.sources.testBit b

/-! ## Acceptance (R305) -/

/-- Entries whose seal has committed become accepted: ACCEPTED_SEQ, then HEAD, in the status block. -/
def State.acceptSealed (s : State) : State :=
  s.each (s.hif.journal.filter fun e => e.sealed && !e.accepted) fun s e =>
    let s := s.updHif fun h => { h with journal := h.journal.map fun (x : JEntry) =>
      if x.jseq = e.jseq then { x with accepted := true } else x }
    let s := if e.dup then s else
      (s.updSq e.slice e.ring fun q => { q with acceptedSeq := Nat.max q.acceptedSeq e.desc.seq }).hostWrite
        e.slice (.acceptedSeq e.ring e.desc.seq)
    s.hostWrite e.slice (.head e.ring (s.sq e.slice e.ring).head)

/-! ## Who executes (R303, R306) -/

/-- The module executes descriptors: also while RUN is being cleared (R58). A failed Module Manager
executes none (R15). -/
def State.executes (s : State) : Bool :=
  !s.mlk.mmDown && s.glb.phase = .running &&
    (s.mlk.grant || s.glb.lcs = .manufacture || s.glb.lcs = .service)

/-! ## Starting descriptors (R299, R307, R308) -/

def dIrq (d : Desc) : Bool := d.flags.getLsbD 0
def dDeadline (d : Desc) : Bool := d.flags.getLsbD 1
def dFence (d : Desc) : Bool := d.flags.getLsbD 2

/-- FRAME_TX, READ_SNAPSHOT and PER_READ may overlap (R299). -/
def overlaps (d : Desc) : Bool := d.opcode = 0x10 || d.opcode = 0x70 || d.opcode = 0x71

/-- Bytes of buffer data that a descriptor moves (R322, R323). -/
def moved (d : Desc) : Nat :=
  match d.opcode with
  | 0x03 | 0x10 | 0x21 | 0x51 | 0x70 | 0x71 => d.length
  | 0x20 => if d.num 32 1 = 1 then d.length else 0
  | _ => 0

/-- The first entry of a ring that has not started, where it may start but for the turns of R323: everything before it has
ended, or R299 lets it overlap; its completion has room; the byte bucket lets it move its data. -/
def State.readyStart (s : State) (i r : Nat) : Option JEntry :=
  let es := (s.ringJ i r).filter fun e => !e.dup
  match es.find? fun e => e.state = .accepted with
  | none => none
  | some e =>
    let busy := es.filter fun x => x.state = .started && !lastOfRing x
    let may := busy = [] || (overlaps e.desc && !dFence e.desc && busy.all fun x =>
      overlaps x.desc && !dFence x.desc)
    if s.executes ∧ e.accepted ∧ may ∧ s.owed i (s.sq i r).cq < cqFree (s.cq i (s.sq i r).cq) ∧
        (moved e.desc = 0 ∨ s.byteOpen i)
    then some e else none

/-! ## Turns at the shared engines (R323) -/

/-- A decision of a deficit round robin: of the slices with work, in ascending order, each with the size of its next item,
the one served next, and the round after it. A slice gains `gain` when a round begins; rounds in which none can be served
pass. Credit of a slice without work is dropped. -/
def drr (gain : Nat → Nat) (work : List (Nat × Nat)) (rd : Round) : Option (Nat × Round) :=
  let has (i : Nat) : Bool := work.any fun w => w.1 = i
  let cr := rd.credit.filter fun c => has c.1
  let credit (cr : List (Nat × Nat)) (i : Nat) : Nat := (findRow cr i).getD 0
  let serve (cr : List (Nat × Nat)) (todo : List Nat) : Option (Nat × Round) :=
    let todo := todo.dropWhile fun i => work.all fun w => w.1 ≠ i || decide (credit cr i < w.2)
    todo.head?.map fun i =>
      (i, { todo := todo, credit := putRow cr i (credit cr i - ((findRow work i).getD 0)) })
  match serve cr rd.todo with
  | some x => some x
  | none =>
    let n := Nat.max 1 ((minList (work.map fun w => ceilDiv (w.2 - credit cr w.1) (Nat.max 1 (gain w.1)))).getD 1)
    serve (work.map fun w => (w.1, credit cr w.1 + n * gain w.1)) (work.map (·.1))

/-- The read-out that a descriptor uses: Periscope (2) or Event Recorder (3). -/
def readOut (d : Desc) : Option Nat :=
  if d.opcode = 0x71 then some 2 else if d.opcode = 0x70 ∧ d.num 32 1 < 2 then some 3 else none

/-- What the slices wait to do at an engine: the smallest transfer among each one's ready descriptors that `uses` it; for
slice `i` the transfer of `n` bytes that asks. -/
def State.waiting (s : State) (i n : Nat) (uses : Nat → Desc → Bool) : List (Nat × Nat) :=
  (List.range 64).filterMap fun k =>
    if k = i then some (k, n)
    else if s.hif.journal.all fun e => e.slice ≠ k then none
    else (minList ((List.range 8).filterMap fun r => match s.readyStart k r with
      | some e => if uses k e.desc then some (moved e.desc) else none
      | none => none)).map fun m => (k, m)

/-- The turn of slice `i` for `n` bytes at read-out `g`: the round after it, if it is its turn. -/
def State.readTurn (s : State) (g i n : Nat) : Option Round :=
  match drr (fun k => (s.slice k).weight * 1024) (s.waiting i n fun _ d => readOut d = some g) (s.hif.rounds.get g) with
  | some (k, rd) => if k = i then some rd else none
  | none => none

/-- The turn of slice `i` for `n` bytes at the DMA engine of its port, among descriptors that have their read-out's turn. -/
def State.dmaTurn (s : State) (i n : Nat) : Option Round :=
  let h := (s.slice i).port
  let uses (k : Nat) (d : Desc) : Bool := (s.slice k).port = h && moved d ≠ 0 &&
    (match readOut d with | some g => (s.readTurn g k (moved d)).isSome | none => true)
  match drr (fun k => (s.slice k).weight * 256) (s.waiting i n uses) (s.hif.rounds.get h) with
  | some (k, rd) => if k = i then some rd else none
  | none => none

/-- Slice `i` may move the data of this descriptor now: the state with its turns taken. One that moves none needs no turn. -/
def State.turns (s : State) (i : Nat) (d : Desc) : Option State :=
  let n := moved d
  if n = 0 then some s
  else match s.dmaTurn i n with
  | none => none
  | some rd =>
    let h := (s.slice i).port
    match readOut d with
    | none => some (s.updHif fun x => { x with rounds := x.rounds.set h rd })
    | some g => (s.readTurn g i n).map fun rg =>
      s.updHif fun x => { x with rounds := (x.rounds.set h rd).set g rg }

/-- The first entry of a ring that has not started, where it may start and its slice has the turn (R299, R323). -/
def State.nextStart (s : State) (i r : Nat) : Option JEntry :=
  match s.readyStart i r with
  | some e => if (s.turns i e.desc).isSome then some e else none
  | none => none

/-- Reserved bits and bytes of a descriptor are 0 (R307, R308 check 1): FLAGS above bit 2, AUX without a
deadline, LENGTH and BUF_ADDR of an opcode that names no buffer, and every opcode-specific byte that
`used` does not list. -/
def reservedZero (d : Desc) (used : List (Nat × Nat)) (buf : Bool) : Bool :=
  decide (d.flags.toNat < 8) && (dDeadline d || d.aux = 0) && (buf || (d.length = 0 && d.bufAddr = 0)) &&
    (List.range 32).all fun k =>
      (used.any fun u => decide (u.1 ≤ k + 32 ∧ k + 32 < u.1 + u.2)) || d.num (k + 32) 1 = 0

/-- What a descriptor row checks before its own checks (R308). -/
structure DescForm where
  /-- Opcode, and the sub-command that this row means, if it means one. -/
  opcode : Nat
  sub : Option (Nat × Nat) := none
  used : List (Nat × Nat) := []
  buf : Bool := false
  service : Bool := false
  may : Desc → Bool := fun _ => true
  present : Desc → Bool := fun _ => true

/-- The row means this descriptor. -/
def DescForm.means (f : DescForm) (d : Desc) : Bool :=
  d.opcode = f.opcode && (match f.sub with | some (off, v) => d.num off 1 = v | none => true)

/-- An EXPIRED completion is counted (R315). -/
def State.expire (s : State) (j : Nat) : State :=
  (s.complete j cExpired 0).updHif fun h => { h with expired := sat32 h.expired 1 }

/-- Executes the descriptor at the front of a ring, where it is the one the row means: the checks of R308
in order, then STARTED, then `body`. -/
def State.runDesc (s : State) (i r : Nat) (f : DescForm) (body : State → Nat → Desc → State) : State :=
  match s.nextStart i r with
  | none => s
  | some e =>
    let d := e.desc
    if ¬ f.means d then s
    else
      let s := if !reservedZero d f.used f.buf then s.complete e.jseq cInvalid 0
        else if (s.sq i r).service ≠ f.service then s.complete e.jseq cInvalid 0
        else if !f.may d then s.complete e.jseq cDenied 0
        else if !f.present d then s.complete e.jseq cUnsupported 0
        else if dDeadline d && decide (d.aux < s.tai) then s.expire e.jseq
        else body (((((s.turns i d).getD s).payBytes i (moved d))).start e.jseq) e.jseq d
      s.syncSlice i

/-- An opcode that R309 does not give completes with INVALID (R308, check 1). -/
def unassigned (d : Desc) : Bool :=
  !([0x00, 0x01, 0x02, 0x03, 0x04, 0x10, 0x11, 0x20, 0x21, 0x22, 0x23, 0x24, 0x30, 0x40, 0x41, 0x50, 0x51, 0x60, 0x70,
    0x71, 0x72, 0x80, 0x81, 0x82, 0x83] : List Nat).contains d.opcode

/-! ## Writing completions (R299, R301) -/

/-- The state of a slice's rings goes into the next epoch (R355). -/
def State.mirrorRing (s : State) (i : Nat) : State :=
  let qs := (s.slice i).sqs.toList
  s.mirror (.ring i (qs.map (·.nextSeq)) (qs.map (·.acceptedSeq)) (qs.map (·.head))
    ((s.slice i).cqs.toList.map fun q => (q.written, q.written / q.depth % 2 = 0)))

/-- Completions of a submission ring that has gone OFF are not written again (R310, R366). -/
def State.forgetRing (s : State) (i r : Nat) : State :=
  s.updHif fun h => { h with uncovered := h.uncovered.filter fun e => !(e.slice = i && e.ring = r) }

/-- Entries in JSEQ order, `e` among them. -/
def insertJ (e : JEntry) : List JEntry → List JEntry
  | [] => [e]
  | x :: r => if e.jseq < x.jseq then e :: x :: r else x :: insertJ e r

/-- A module that gives up the grant holds the completions that its partner would write again, at their places (R366). -/
def State.recover (s : State) : State :=
  s.updHif fun h => { h with journal := h.uncovered.foldl (fun l e => insertJ e l) h.journal, uncovered := [] }

/-- The entry is freed; a JOURNAL_FREE item names the JSEQ up to which every entry is, with the write counts that go
with it (R305, R355, R366). -/
def State.freeEntry (s : State) (j : Nat) : State :=
  let left := s.hif.journal.filter fun e => e.jseq ≠ j
  let low := match minList (left.map (·.jseq)) with | some k => k - 1 | none => s.hif.jseq
  let gone := s.hif.uncovered ++ s.hif.journal.filter fun e => e.jseq = j
  let s := s.updHif fun h => { h with journal := left, uncovered := gone.filter fun e => decide (low < e.jseq) }
  let s := s.each ((gone.map (·.slice)).eraseDups) fun s i => s.mirrorRing i
  s.mirror (.journalFree low)

/-- Writes the completion of entry `e` to its place in its ring, with its message; the entry is freed. -/
def State.writeCompletion (s : State) (e : JEntry) : State :=
  let c := (s.sq e.slice e.ring).cq
  let q := s.cq e.slice c
  let k := e.place.getD q.written
  let s := s.hostWrite e.slice (.completion c (k % q.depth) (k / q.depth % 2 = 0) e.desc.seq e.status e.resumed
    e.ring e.endTs e.result)
  let s := s.updCq e.slice c fun q => { q with written := Nat.max q.written (k + 1) }
  let s := s.ringMsg e.slice c (dIrq e.desc)
  (s.freeEntry e.jseq).syncFree s.jFree e.slice

/-- No completion has an earlier place in the completion ring that entry `e` goes to. -/
def State.firstPlace (s : State) (e : JEntry) : Bool :=
  s.hif.journal.all fun x => match x.place, e.place with
    | some p, some q => x.slice ≠ e.slice || (s.sq x.slice x.ring).cq ≠ (s.sq e.slice e.ring).cq || decide (q ≤ p)
    | _, _ => true

/-- The next completion of a ring: its oldest entry, once ended, sealed and with room, in its turn in the completion ring
(R299); one that is written again after a takeover has its room already (R366). -/
def State.nextCompletion (s : State) (i r : Nat) : Option JEntry :=
  match (s.ringJ i r).filter fun e => !lastOfRing e with
  | e :: _ =>
    if e.state = .completed ∧ e.sealed ∧ e.accepted ∧ s.firstPlace e ∧ (e.rewrite ∨ 0 < cqFree (s.cq i (s.sq i r).cq))
    then some e
    else none
  | [] => none

/-- A reset or removal of the slice has cancelled its descriptors and writes their completions itself (R328). -/
def State.resetting (s : State) (i : Nat) : Bool :=
  match (s.slice i).work with
  | some w => w.mode ≠ .pause && decide (2 ≤ w.step)
  | none => false

/-- A buffer of the slice could not be read (R306): the descriptor ends with HOST_ACCESS, and the failed read is counted at
the slice's port (R315). -/
def State.hostFail (s : State) (j : Nat) : State :=
  let i := match s.jEntry j with | some e => e.slice | none => 0
  (s.updHostPort (s.slice i).port fun p => { p with hostErr := sat32 p.hostErr 1 }).complete j 0x0200 0

/-! ## The end of LOG_FLUSH and CLEAR_FILTER (R336, R337) -/

/-- Result of DIRTY_LOG_CTRL and LOG_FLUSH. -/
def dirtyResult (d : DirtySt) : Nat := d.produced % 2 ^ 64 + (if d.overflow then 2 ^ 64 else 0)

/-- Every record is visible: CLEAR_FILTER empties the filter, and reports and clears an overflow. -/
def State.flushEnd (s : State) (j k : Nat) (clear : Bool) : State :=
  let x := (s.slice k).dirty
  let s := if clear then s.updSlice k fun x => { x with dirty.filter := [], dirty.overflow := false } else s
  s.complete j (if clear ∧ x.overflow then 0x0307 else cOk) (dirtyResult x)

/-- A LOG_FLUSH or CLEAR_FILTER of slice `k`: it ends at once unless records are held. -/
def State.flushLog (s : State) (j k : Nat) (clear : Bool) : State :=
  if s.recordHeld k then s.updHif fun h => { h with flushes := h.flushes ++ [(j, k, clear)] }
  else s.flushEnd j k clear

/-- Those that waited end once nothing is held. -/
def State.flushHeld (s : State) : State :=
  let (go, stay) := s.hif.flushes.partition fun x => !s.recordHeld x.2.1
  (s.updHif fun h => { h with flushes := stay }).each go fun s x =>
    if (s.jEntry x.1).any fun e => e.state = .started then s.flushEnd x.1 x.2.1 x.2.2 else s

/-! ## The Service Channel's end (R70, R74, R314) -/

/-- The running operation ends with a code: a mailbox operation sets DONE, a ring operation completes its
descriptor with TAG and DATA; the operation that waited takes the channel (R74). -/
def State.svcEnd (s : State) (c : Code) (data : Nat) : State :=
  match s.svc.running with
  | none => s
  | some o =>
    let s := s.updSvc fun v => { v with running := v.waiting, waiting := none, tag := o.tag, code := c,
                                        done := v.done || o.door = .mailbox }
    let s := if o.door = .ring then s.complete o.jseq c (o.tag.toNat + data * 2 ^ 32) else s
    s.syncSlice 0

end Machine
end Sys2Proof
end

