-- ==== Sys2Proof/Machine/SwitchOps.lean ====
section
/-! DEFINITION. The switch core's parts: classes (R231), tables (R241 to R244), policers (R238), Glint (R246, R247), and
the forwarding of one frame. -/

namespace Sys2Proof.Machine

/-! ## VLANs -/

/-- A port is a member of a VLAN; an untagged frame, VLAN 0, is admitted on every configured port (log 18). -/
def State.vlanMember (s : State) (p v : Nat) : Bool :=
  (s.portCfg p).configured && (v = 0 || (s.portCfg p).vlans.contains v)

/-! ## Tables (R241 to R244) -/

/-- The lowest-numbered static entry that matches (R241). -/
def State.camMatch (s : State) (a : BitVec 48) (v : Nat) : Option (Nat × CamEntry) :=
  s.pkg.cam.rows.find? fun r => r.2.en && r.2.addr = a && (r.2.anyVlan || r.2.vlan = v)

/-- The learned entry of an address and VLAN. -/
def State.learnedAt (s : State) (a : BitVec 48) (v : Nat) : Option Learned :=
  if s.swc.rekeying then none else s.swc.learned.find? fun e => e.addr = a && e.vlan = v

/-- Bucket number of an address in bank `b` (R244). -/
def State.bucket (s : State) (b : Nat) (a : BitVec 48) (v : Nat) : Nat :=
  b * 4096 + Config.hashIndex b s.swc.hashKey a.toNat v % 4096

/-- A free bucket of an address, in bank order. -/
def State.freeBucket (s : State) (ls : List Learned) (a : BitVec 48) (v : Nat) : Option Nat :=
  ((List.range 4).map fun b => s.bucket b a v).find? fun k => !(ls.any fun e => e.bucket = some k)

def stashUsed (ls : List Learned) : Nat := (ls.filter fun e => e.bucket = none).length

/-- Inserts an entry with at most `fuel` displacements; the entry that stays without a bucket, if any. Which
bank's entry is displaced at each step is the model's choice (log 19). -/
def State.cuckoo (s : State) : Nat → List Learned → Learned → List Learned × Option Learned
  | fuel, ls, e =>
    match s.freeBucket ls e.addr e.vlan with
    | some k => (ls ++ [{ e with bucket := some k }], none)
    | none => match fuel with
      | 0 => (ls, some e)
      | n + 1 =>
        let k := s.bucket (n % 4) e.addr e.vlan
        match ls.find? fun x => x.bucket = some k with
        | some v => s.cuckoo n ((ls.filter fun x => x.bucket ≠ some k) ++ [{ e with bucket := some k }]) v
        | none => (ls ++ [{ e with bucket := some k }], none)

/-- The address was not learned (R243). -/
def State.learnFail (s : State) : State :=
  let quiet : Bool := match s.swc.learnEvent with | some t => decide (s.now < t + 1000000000) | none => false
  let s := s.updSwc fun w => { w with learnFail := sat32 w.learnFail 1, learnBlocked := true }
  if quiet then s
  else (s.updSwc fun w => { w with learnEvent := some s.now }).event .learnTableFull 0

/-- Learns a source seen on port `p` (R242, R243). -/
def State.learn (s : State) (p : Nat) (a : BitVec 48) (v : Nat) : State :=
  match s.camMatch a v with
  | some (_, c) =>
    if c.ports.getLsbD p then s else s.updSwc fun w => { w with staticMove := sat32 w.staticMove 1 }
  | none =>
    if s.swc.rekeying then s
    else match s.learnedAt a v with
      | some _ => s.updSwc fun w => { w with learned := w.learned.map fun e =>
          if e.addr = a ∧ e.vlan = v then { e with port := p, seen := s.now } else e }
      | none =>
        let (ls, left) := s.cuckoo 8 s.swc.learned { addr := a, vlan := v, port := p, seen := s.now }
        match left with
        | none => s.updSwc fun w => { w with learned := ls }
        | some e =>
          if stashUsed s.swc.learned < 64 then
            s.updSwc fun w => { w with learned := ls ++ [{ e with bucket := none }] }
          else s.learnFail

/-! ## Classes (R231) -/

/-- Class of a frame by its PCP. -/
def State.pcpClass (s : State) (fr : EthFrame) : Nat :=
  let c := (s.pkg.swc.pcpMap[if fr.vlan.isSome then fr.pcp else 0]?).getD 3
  if 4 ≤ c then 3 else c

/-- Traffic class of a frame (R231). -/
def State.frameClass (s : State) (host : Bool) (fr : EthFrame) : Nat :=
  let m := s.camMatch fr.dst (vlanOf fr)
  if host then s.pcpClass fr
  else match m with
    | some (_, c) => if c.clsEn then c.cls
        else if fr.ethertype = 0x88BA then 6 else if fr.ethertype = 0x88F7 then 5
        else if fr.ethertype = 0x88B5 then 4 else s.pcpClass fr
    | none => if fr.ethertype = 0x88BA then 6 else if fr.ethertype = 0x88F7 then 5 else s.pcpClass fr

/-! ## Policers (R238) -/

/-- Tokens that a policer of `rate` frames per second has gained from the start of the switch core to instant `t`: they
come on a grid from that start (R238 and its worked example). -/
def State.policeGain (s : State) (rate t : Nat) : Nat := (t - s.swc.startAt) * rate / 1000000000

/-- Whole tokens in the bucket of entry `i` for an ingress port. -/
def State.policeLevel (s : State) (i p : Nat) (c : CamEntry) : Nat :=
  let b := s.swc.buckets.get (32 * i + p)
  match b.tokens with
  | none => c.burst
  | some t => Nat.min c.burst (t.toNat + (s.policeGain c.police s.now - s.policeGain c.police b.at_))

/-- A policed entry takes a token for this ingress port, or the frame is discarded. -/
def State.police (s : State) (i p : Nat) (c : CamEntry) : State × Bool :=
  if c.police = 0 then (s, true)
  else
    let n := s.policeLevel i p c
    if 0 < n then
      (s.updSwc fun w =>
        { w with buckets := w.buckets.set (32 * i + p) { tokens := some ((n - 1 : Nat) : Int), at_ := s.now } }, true)
    else
      let quiet : Bool := match s.swc.policeEvent.get i with
        | some t => decide (s.now < t + 1000000000) | none => false
      let s := s.updSwc fun w => { w with police := w.police.upd i fun n => sat32 n 1 }
      let s := if quiet then s
        else (s.updSwc fun w => { w with policeEvent := w.policeEvent.set i (some s.now) }).event .policeDrop i
      (s, false)

/-! ## Glint (R246, R247) -/

/-- A Glint record (R247). -/
def glintRecord (ts p dir : Nat) (fr : EthFrame) (f : Fate) (no skipped : Nat) : List Byte :=
  let b (v : Bool) (n : Nat) : Nat := if v then 2 ^ n else 0
  leBytes 4 ts ++ leBytes 1 p
    ++ leBytes 1 (dir + b (!fr.fcsOk) 1 + b f.policed 2 + b f.flooded 3
        + b (dir = 0 && f.admitted = 0 && !f.waits) 4 + b (128 < fr.len) 5)
    ++ leBytes 2 fr.len ++ leBytes 1 f.cls ++ [0, 0, 0] ++ leBytes 4 no ++ leBytes 4 skipped
    ++ List.replicate 12 0 ++ bytesAt (ethBytes fr) 0 128

/-- The record path has room: 10,000,000 records in a second. -/
def State.glintRoom (s : State) : Bool :=
  s.swc.glintRate.1 ≠ s.now / 1000000000 || decide (s.swc.glintRate.2 < 10000000)

/-- A frame passes the sampler of a port: the N-th gives a record (R246). -/
def State.glintSee (s : State) (p dir : Nat) (fr : EthFrame) (f : Fate) : State :=
  let g := s.swc.glint.get p
  if g.dir ≠ dir + 1 ∨ g.n = 0 then s
  else if g.count + 1 < g.n then
    s.updSwc fun w => { w with glint := w.glint.upd p fun g => { g with count := g.count + 1 } }
  else
    let no := (g.sampleNo + 1) % 2 ^ 32
    let rec_ := glintRecord s.ts p dir fr f no g.skipped
    let (s', ok) : State × Bool :=
      if ¬ s.glintRoom then (s, false)
      else if g.toMM then (if s.mlk.mmDown then (s, false) else (s.emit (.glint rec_), true))
      else s.putRecord g.slice g.ring s.ts 2 p rec_
    let sec := s.now / 1000000000
    s'.updSwc fun w =>
      { w with
        glint := w.glint.upd p fun g =>
          { g with count := 0, sampleNo := no, seen := sat32 g.seen 1,
                   drop := if ok then g.drop else sat32 g.drop 1, skipped := if ok then 0 else g.skipped + 1 }
        glintRate := if ok then (sec, if w.glintRate.1 = sec then w.glintRate.2 + 1 else 1) else w.glintRate }

/-! ## Frames built in the module (R160, R164, R239) -/

/-- A frame built for lens `l` enters at that lens's port, past its sampler, in its class, to the ports the package gives
(DESIGN CHOICE, log 81). -/
def State.sendBuilt (s : State) (l c : Nat) (ports : BitVec 24) (command : Bool) (fr : EthFrame) : State :=
  let (s, f) := s.admitCopies (8 + l) c fr command ((List.range portCount).filter fun k => ports.getLsbD k) { cls := c }
  s.glintSee (8 + l) 0 fr f

/-- A facet message of lens `l` travels in TC4 to the port of its lens (R239). It holds a credit, so it is never dropped:
what the reservation cannot take goes to the pool. -/
def State.sendLens (s : State) (l dl df q : Nat) (slot : List Byte) : State :=
  let fr : EthFrame := { ethertype := 0x88B5, len := 18 + slot.length, app := some (.message df q slot) }
  let (s, i) := s.store { frame := fr, cls := 4, ingress := 8 + l, at_ := s.now }
  (s.push (8 + dl) 4 { id := i, pool := !s.rsvRoom (8 + dl) 4 1 }).glintSee (8 + l) 0 fr { cls := 4, admitted := 1 }

/-! ## Forwarding (R241) -/

/-- Ports that a frame floods to. -/
def State.floodSet (s : State) (p v : Nat) : List Nat :=
  (List.range portCount).filter fun k => k ≠ p && s.vlanMember k v

/-- The host port of the slice with an address (R242, R245). -/
def State.slicePort (s : State) (a : BitVec 48) (v : Nat) : Option Nat :=
  (s.hif.slices.rows.find? fun r => s.unitOn (.slice r.1) && r.2.mac = a && (v = 0 || r.2.vlans.contains v)).map
    fun r => 5 + r.2.port

/-- The copy set of a frame: its ports, flooded, counted as flooded; none when it is discarded as an unknown
lossless group (R241). -/
def State.copySet (s : State) (p c : Nat) (fr : EthFrame) : Option (List Nat × Bool × Bool) :=
  let v := vlanOf fr
  match s.camMatch fr.dst v with
  | some (_, e) => some ((List.range portCount).filter (fun k => e.ports.getLsbD k), false, false)
  | none =>
    if fr.dst = broadcast then some (s.floodSet p v, true, false)
    else if groupAddr fr.dst then if c < 5 then some (s.floodSet p v, true, true) else none
    else match s.slicePort fr.dst v with
      | some k => some ([k], false, false)
      | none => match s.learnedAt fr.dst v with
        | some e => some ([e.port], false, false)
        | none => some (s.floodSet p v, true, true)

/-- Forwards a frame that has passed its checks, in class `c`. -/
def State.forwardAs (s : State) (p c : Nat) (fr : EthFrame) : State × Fate :=
  let v := vlanOf fr
  let f : Fate := { cls := c }
  let s := if p < 5 then s.learn p fr.src v else s
  if ¬ s.vlanMember p v then (s.qdrop p c, f)
  else
    let (s, ok) := match s.camMatch fr.dst v with
      | some (i, e) => s.police i p e
      | none => (s, true)
    if ¬ ok then (s, { f with policed := true })
    else match s.copySet p c fr with
      | none => (s.updSwc fun w => { w with unkMc := sat32 w.unkMc 1 }, f)
      | some (ps, flooded, counted) =>
        let f := { f with flooded := flooded }
        let s := if counted then s.updSwc fun w => { w with flood := sat32 w.flood 1 } else s
        s.admitCopies p c fr false ps f

/-- Forwards a frame that has passed its checks, in the class of R231. -/
def State.forward (s : State) (p : Nat) (host : Bool) (fr : EthFrame) : State × Fate :=
  s.forwardAs p (s.frameClass host fr) fr

end Sys2Proof.Machine
end

