-- ==== Sys2Proof/Machine/Lanes.lean ====
section
/-! DEFINITION. Trip lanes and what a rising edge does at each target: arm trips and trip block frames,
local PWM blocks, trip outputs, fast GOOSE publishers, Periscope and Loupe triggers (R16 to R20, R158,
R161, R186, R200, R216, R378, R393). -/

namespace Sys2Proof.Machine

/-! ## Recording triggers -/

/-- An event of TYPE 4 LANE, 5 LOGIC or 6 TP meets the conditions that name it (R378): kept with its instant until a
sample whose tick lies at or after it. -/
def State.perEvent (s : State) (type sel bit : Nat) : State :=
  s.each (List.range 16) fun s g =>
    if (s.recs.groups.get g).st = .stopped then s
    else
      let hits := ((s.pkg.perGrps.get g).trigs.zipIdx.filter fun p =>
        p.1.type = type && p.1.sel = sel && (type != 5 || p.1.bit = bit)).map fun p => (p.2, s.tai)
      if hits = [] then s else s.updGrp g fun r => { r with events := r.events ++ hits }

/-- A trigger reaches a Loupe buffer (R393). In FILLING it is not honoured; in ARMED the next sample is
the trigger sample. -/
def loupeHit (b : LoupeSt) : LoupeSt :=
  match b.st with
  | .filling => { b with prefillSupp := true }
  | .armed => { b with st := .capturing, left := 4096 - b.pre, trigIndex := b.pre, forced := true }
  | _ => b

/-- A lane edge (TYPE 1) or a time pulse (TYPE 3) reaches the Loupe buffers that name it (R393). -/
def State.loupeEvent (s : State) (type sel : Nat) : State :=
  { s with recs.loupes := s.recs.loupes.mapRows fun _ b =>
      if b.type = type ∧ b.sel = sel then loupeHit b else b }

/-! ## The history of a block input (R201) -/

/-- Level of a block input just before instant `x`. -/
def levelBefore : List (Nat × Bool) → Nat → Bool
  | [], _ => false
  | (t, v) :: r, x => if t < x then v else levelBefore r x

/-- Keeps the changes at or after `lim` and the newest one before it. -/
def trimHist : List (Nat × Bool) → Nat → List (Nat × Bool)
  | [], _ => []
  | (t, v) :: r, lim => if t < lim then [(t, v)] else (t, v) :: trimHist r lim

/-- Qualification sample interval in ns (R201, R224). -/
def State.qualNs (s : State) : Nat := s.pkg.io.qual * 40

/-- Records the level of a block input at this instant. -/
def pushHist (now q : Nat) (v : Bool) (h : List (Nat × Bool)) : List (Nat × Bool) :=
  match h with
  | (_, w) :: _ => if w = v then h else (now, v) :: trimHist h (now - 3 * q)
  | [] => if v then [(now, v)] else []

/-- The block input was inactive at the last 2 qualification samples before instant `x`; a change on
the instant of a sample is seen by the next one (R201). -/
def quietAt (h : List (Nat × Bool)) (q x : Nat) : Bool :=
  let s1 := (x - 1) / q * q
  !levelBefore h s1 && !levelBefore h (s1 - q)

/-! ## Arms -/

/-- Result of CNV_CTRL (R188). -/
def cnvResult (frame arms failed : Nat) : Nat := frame + arms * 2 ^ 64 + failed * 2 ^ 72

/-- Lanes of an arm (R166). -/
def State.armLanes (s : State) (a : Nat) : List Nat :=
  let c := s.pkg.arms.get a
  (List.range c.lanes).map (c.firstLane + ·)

/-- The sub-modules of the `k`-th lane of an arm are commanded BLOCK after all. -/
def State.uncommand (s : State) (a k : Nat) : State :=
  s.each ((List.range 128).filter fun i => decide (k * 128 + i < (s.pkg.arms.get a).smCount)) fun s i =>
    s.updSm a (k * 128 + i) fun x => { x with inserted := false, carrier := false }

/-- Three TRIP_BLOCK copies on every lane of the arm that is ON, ahead of every frame that has not started; a REGULAR
frame among these carries BLOCK (R203, R216). FNUM is the last REGULAR number that left on the lane, TICK the instant of
the lane assertion. The block sets cur of every sub-module to BLOCK (R200). -/
def State.tripFrames (s : State) (a : Nat) : State :=
  let s := s.flushBeams
  let s := { s with sms := s.sms.mapRows fun k x => if k / 2048 = a then { x with cur := .block } else x }
  s.each ((s.armLanes a).filter fun l => s.unitOn (.beam l)) fun s l =>
    let s := if (s.beams.get l).out.any fun i => i.body.type = 0 then s.uncommand a (l - (s.pkg.arms.get a).firstLane)
      else s
    (s.updBeam l fun b => { b with out := tripItems s.now (s.beamTick s.now) ++ b.out.map blockItem }).flushBeam l

/-- Ends a pending deblock: the arms still pending return to BLOCKED (R187). -/
def State.endDeblock (s : State) (j : Nat) (st : Code) (failed : Nat) : State :=
  let back (a : ArmSt) : ArmSt :=
    match a.pend with
    | some (k, _, _) =>
      if k = j then { a with pend := none, op := if a.op = .pending then .blocked else a.op } else a
    | none => a
  ({ s with arms := s.arms.mapRows fun _ a => back a }).complete j st (cnvResult 0 0 failed)

/-- A transition into TRIPPED (R186): cause, TRIP, the count, the trip block frames, and the end of a
pending deblock with ARM_TRIPPED. -/
def State.tripArm (s : State) (a : Nat) (c : ArmCause) : State :=
  let p := if (s.arms.get a).op = .pending then (s.arms.get a).pend else none
  let s := (s.updArm a fun x => { x with op := .tripped, cause := c, trip := true,
                                         blockCnt := sat32 x.blockCnt 1 }).tripFrames a
  match p with
  | some (j, _, _) => s.endDeblock j 0x0603 0
  | none => s

/-- A lane of the arm's block mask rises (R186, R201, R216): TRIP is set in every operating state, the
TRIP_BLOCK frames are sent, and a DEBLOCKED or DEBLOCK_PENDING arm trips. -/
def State.armEdge (s : State) (a : Nat) : State :=
  match (s.arms.get a).op with
  | .deblocked => s.tripArm a .lane
  | .pending => s.tripArm a .lane
  | _ => (s.updArm a fun x => { x with trip := true }).tripFrames a

/-! ## Local PWM -/

/-- The outputs of a channel go off at once (R200, R208): a pending turn-on is cancelled and cur becomes
BLOCK. -/
def State.pwmOff (s : State) (n : Nat) : State :=
  (s.updPwm n fun p => { p with cur := .block, outs := [] }).emit (.pwmOff n)

/-- A block of the channel begins (R200). -/
def State.pwmBlock (s : State) (n : Nat) : State :=
  (s.updPwm n fun p => { p with blocked := true, blockStart := s.now }).pwmOff n

/-- A lane of the channel's block mask rises: TRIP is set at each edge; a block begins unless one is in
force (R200, R203). -/
def State.pwmEdge (s : State) (n : Nat) : State :=
  let s := if (s.pwms.get n).blocked then s else s.pwmBlock n
  s.updPwm n fun p => { p with trip := true }

/-! ## Trip outputs (R158) -/

/-- Changes a trip output and drives its pin where DRIVEN changes: closed, under the grant. -/
def State.setTo (s : State) (m : Nat) (f : ToSt → ToSt) : State :=
  let old := (s.tos.get m).closed && s.mlk.grant
  let s := s.updTo m f
  let new := (s.tos.get m).closed && s.mlk.grant
  if old = new then s else s.emit (.tripOut m new)

/-- A mapped lane of a trip output rises: it closes, latches, and MINON restarts. -/
def State.toEdge (s : State) (m : Nat) : State :=
  s.setTo m fun t => { t with closed := true, latched := true, lastEdge := s.now, resetDone := false }

/-- A closed output opens when every mapped lane is released, MINON has elapsed, and LATCH is 0 or a
TRIP_RESET has executed after the last edge. -/
def State.toOpen (s : State) (m : Nat) : State :=
  let c := s.pkg.tos.get m
  let t := s.tos.get m
  if t.closed ∧ ¬ s.maskOn c.mask ∧ t.lastEdge + c.minonMs * 1000000 ≤ s.now ∧ (c.latch = false ∨ t.resetDone)
  then s.setTo m fun t => { t with closed := false, latched := false }
  else s

/-! ## GOOSE publishers (R160 to R162) -/

/-- The dataset of a publisher as it stands: its lane members, then the members of the last ISSUE (R161). -/
def State.dataset (s : State) (g : Nat) : List GooseVal :=
  (((List.range 64).filter fun i => (s.pkg.gps.get g).lanes.getLsbD i).map fun i => .boolean (s.laneOn i))
    ++ (s.gps.get g).members

/-- Eight bytes of a member's value. -/
def gooseBytes : GooseVal → List Byte
  | .boolean b => leBytes 8 (if b then 1 else 0)
  | .bits _ v => leBytes 8 v
  | .int32 v => leBytes 8 (unsigned 64 v)
  | .quality v => leBytes 8 v
  | .timestamp v => leBytes 8 v

/-- Digest of a dataset in a publisher record (R162). -/
def dataDigest (d : List GooseVal) : BitVec 64 := Config.dataDigest (d.flatMap gooseBytes)

/-- stNum and sqNum run from 1 and wrap from 0xFFFF_FFFF to 1 (R161). -/
def wrapNum (n : Nat) : Nat := if 0xFFFFFFFF ≤ n then 1 else n + 1

/-- timeAllowedToLive: twice the interval to the next frame, in whole milliseconds (R160). -/
def talMs (ivNs : Nat) : Nat := ceilDiv (2 * ivNs) 1000000

/-- The tag of a published frame (R139, R160): the key slot and algorithm, where a key is named and its use is allowed;
a refused use is counted, and the frame goes without a tag (DESIGN CHOICE, log 81). -/
def State.pubTag (s : State) (key alg slice : Nat) : Option (Nat × Nat) × State :=
  if key = 0 then (none, s)
  else
    let (ok, s) := s.useKey key alg [slice] true
    (if ok then some (key, alg) else none, s)

/-- Sends a frame of publisher `g` with these numbers and this dataset; the next one follows `iv` ns later. A command
publisher sends only under the grant (R163), and places its publisher record first (R162). The frame enters the switch
core in TC7 for a publisher bound to lanes and in TC3 otherwise; both its flags follow the slice's mode (R160). -/
def State.gpSend (s : State) (g st sq iv : Nat) (d : List GooseVal) : State :=
  let c := s.pkg.gps.get g
  if !c.en || (c.command && !s.mlk.grant) then s
  else
    let s := if c.command then
        ((s.mirror (.publisher g st sq (dataDigest d))).updGp g fun p =>
          { p with record := some (st, sq, dataDigest d) }).updMlk fun m =>
            { m with pubs := putRow m.pubs g (st, sq, dataDigest d) }
      else s
    let s := s.updGp g fun p => { p with stNum := st, sqNum := sq, interval := iv, nextSend := some (s.now + iv), data := d }
    let (tag, s) := s.pubTag (s.gps.get g).keyCur c.alg c.slice
    let sim := s.pkg.simSlices.contains c.slice
    s.sendBuilt c.lens (if c.lanes = 0 then 3 else 7) c.ports c.command
      { len := c.len, dst := c.dst, ethertype := 0x88B8, vlan := c.vlan, pcp := c.pcp
        app := some (.goose { pub := g, stNum := st, sqNum := sq, talMs := talMs iv, test := sim, simulated := sim,
                              tag := tag, members := d }) }

/-- T1 of a publisher in ns (R163). -/
def State.gpT1 (s : State) (g : Nat) : Nat := (s.pkg.gps.get g).t1 * 100000
/-- T0 of a publisher in ns (R163). -/
def State.gpT0 (s : State) (g : Nat) : Nat := (s.pkg.gps.get g).t0 * 10000000

/-- The dataset has changed: stNum + 1, sqNum 1, and the interval restarts at T1 (R160, R161). -/
def State.gpChange (s : State) (g : Nat) : State :=
  s.gpSend g (wrapNum (s.gps.get g).stNum) 1 (s.gpT1 g) (s.dataset g)

/-! ## Driving lanes (R16 to R19) -/

/-- Configured channels of the variant. -/
def State.pwmList (s : State) : List Nat :=
  (List.range pwmCount).filter fun n => (s.pkg.pwms.get n).present
/-- Configured arms. -/
def State.armList (s : State) : List Nat :=
  (List.range 8).filter fun a => (s.pkg.arms.get a).present

/-- The lane levels have changed: every block input keeps its history (R201). -/
def State.noteMasks (s : State) : State :=
  let s := s.each s.armList fun s a => s.updArm a fun x =>
    { x with maskHist := pushHist s.now s.qualNs (s.maskOn (s.pkg.arms.get a).mask) x.maskHist }
  s.each s.pwmList fun s n => s.updPwm n fun p =>
    { p with maskHist := pushHist s.now s.qualNs (s.maskOn (s.pkg.pwms.get n).mask) p.maskHist }

/-- Lanes `rs` have risen: every target with one of them in its mask reacts once (R18, R19). -/
def State.lanesRise (s : State) (rs : List Nat) : State :=
  let s := s.each (s.armList.filter fun a => hitsMask (s.pkg.arms.get a).mask rs) fun s a => s.armEdge a
  let s := s.each (s.pwmList.filter fun n => hitsMask (s.pkg.pwms.get n).mask rs) fun s n => s.pwmEdge n
  let s := s.each ((List.range 4).filter fun m => hitsMask (s.pkg.tos.get m).mask rs) fun s m => s.toEdge m
  let s := s.each ((List.range 64).filter fun g => hitsMask (s.pkg.gps.get g).lanes rs) fun s g =>
    s.gpChange g
  s.each rs fun s n => (s.perEvent 4 n 0).loupeEvent 1 n

/-- Driver `d` asserts the lanes of `on` and releases those of `off`. A lane is the wired-OR of its
drivers (R16); only a rise of the lane acts (R18), and a released lane may let a trip output open. -/
def State.drive (s : State) (d : Nat) (on off : List Nat) : State :=
  let old := s.lanes
  let l1 := off.foldl (fun (t : Lanes) n => t.set n ((t.get n).filter (· ≠ d))) old
  let l2 := on.foldl (fun (t : Lanes) n => if d ∈ t.get n then t else t.set n (t.get n ++ [d])) l1
  let s := { s with lanes := l2 }
  let s := s.noteMasks
  let s := s.lanesRise ((on.eraseDups).filter fun n => old.get n = [])
  s.each (if off = [] then [] else List.range 4) fun s m => s.toOpen m

/-- Releases every lane that driver `d` drives (R17). -/
def State.releaseAll (s : State) (d : Nat) : State :=
  s.drive d [] ((List.range 64).filter fun n => d ∈ s.lanes.get n)

/-- Driver number of a trip input. -/
def tiDriver (i : Nat) : Nat := 2048 + i

end Sys2Proof.Machine
end

