-- ==== Sys2Proof/Machine/Edges.lean ====
section
/-! DEFINITION. Edges of one actuation period (R196 to R199), the same for a beam command and for a local PWM
channel. -/

namespace Sys2Proof.Machine

/-- The non-empty intervals of a command over a period of length `T`: start, end, level (R196). A PULSE or
NOTCH with CMP_A ≥ CMP_B or CMP_B > T is taken as level 0. -/
def cmdIntervals (T : Nat) (c : Command) : List (Nat × Nat × Bool) :=
  let bad := decide (c.b ≤ c.a) || decide (T < c.b)
  let xs : List (Nat × Nat × Bool) := match c.form with
    | .block => []
    | .bypass => [(0, T, false)]
    | .insert => [(0, T, true)]
    | .pulse => if bad then [(0, T, false)] else [(0, c.a, false), (c.a, c.b, true), (c.b, T, false)]
    | .notch => if bad then [(0, T, false)] else [(0, c.a, true), (c.a, c.b, false), (c.b, T, true)]
  xs.filter fun x => x.1 < x.2.1

/-- A PULSE or NOTCH that R196 does not allow; it is counted as a dropped short pulse. -/
def badForm (T : Nat) (c : Command) : Bool :=
  (c.form = .pulse || c.form = .notch) && (decide (c.b ≤ c.a) || decide (T < c.b))

def levelOf (b : Bool) : Level := if b then .one else .zero

/-- What a period becomes: its edges, the drops, and the level it ends at. -/
structure Edges where
  edges : List (Nat × Bool) := []
  shortP : Nat := 0
  shortG : Nat := 0
  cur : Level := .block
  deriving DecidableEq, Repr

/-- The loop of R198: an interval at the running level goes on, one shorter than `g` is dropped and counted,
any other begins with an edge. -/
def runEdges (g : Nat) : List (Nat × Nat × Bool) → Edges → Edges
  | [], r => r
  | (s, e, lvl) :: xs, r =>
    if levelOf lvl = r.cur then runEdges g xs r
    else if e - s < g then
      runEdges g xs (if lvl then { r with shortP := r.shortP + 1 } else { r with shortG := r.shortG + 1 })
    else runEdges g xs { r with edges := r.edges ++ [(s, lvl)], cur := levelOf lvl }

/-- The edges of a command after level `cur` (R198). A BLOCK form is applied throughout. -/
def compileEdges (T g : Nat) (cur : Level) (c : Command) : Edges :=
  match c.form with
  | .block => { cur := .block }
  | _ => runEdges g (cmdIntervals T c) { cur := cur, shortP := if badForm T c then 1 else 0 }

/-- Nanoseconds at level 1 in a period, from the level at its start and its edges. -/
def onTime (T : Nat) : Level → Nat → List (Nat × Bool) → Nat
  | l, t, [] => if l = .one then T - t else 0
  | l, t, (e, v) :: r => (if l = .one then e - t else 0) + onTime T (levelOf v) e r

/-- Level changes, BLOCK counting as level 0 (R181). -/
def levelChanges : Bool → List (Nat × Bool) → Nat
  | _, [] => 0
  | b, (_, v) :: r => (if b = v then 0 else 1) + levelChanges v r

/-- The command that says what the edges are (R214). Where the level before the first edge would be BLOCK, the
level of that edge is taken from the period start, since no form leaves a part at BLOCK (log 15). -/
def recompose (T : Nat) (cur : Level) (c : Command) (es : List (Nat × Bool)) : Command :=
  let (l0, rest) : Level × List (Nat × Bool) := match cur, es with
    | _, (0, v) :: r => (levelOf v, r)
    | .block, (_, v) :: r => (levelOf v, r)
    | l, r => (l, r)
  let whole (f : Form) : Command := { c with form := f, a := 0, b := 0 }
  match l0, rest with
  | .block, _ => whole .block
  | .zero, [] => whole .bypass
  | .one, [] => whole .insert
  | .zero, [(a, _)] => { c with form := .pulse, a := a, b := T }
  | .zero, (a, _) :: (b, _) :: _ => { c with form := .pulse, a := a, b := b }
  | .one, [(a, _)] => { c with form := .pulse, a := 0, b := a }
  | .one, (a, _) :: (b, _) :: _ => { c with form := .notch, a := a, b := b }

/-- The command that is applied after R198: the one asked for where nothing was dropped, else the one that says what the
edges are. -/
def realForm (T : Nat) (cur : Level) (c : Command) (e : Edges) : Command :=
  if e.shortP = 0 ∧ e.shortG = 0 then c else recompose T cur c e.edges

end Sys2Proof.Machine
end

