-- ==== Sys2Proof/Machine/FbOps.lean ====
section
/-! DEFINITION. Field-bus controllers: frame times, the transmit queue, what is started when, bus-off,
and the stations' presence (04 R122 to R132, 10 R270 to R286). -/

namespace Sys2Proof.Machine

/-! ## Worst-case frame times (R271) -/

/-- Data rate in Mbit/s. -/
def fbRate (c : FbcCfg) : Nat := match c.dataRate with | 0 => 1 | 1 => 2 | 2 => 4 | _ => 5

/-- Data-phase bits of an FD frame at maximum stuffing: ESI, DLC and data with a stuff bit in four, the
stuff count, the CRC of that length and its fixed stuff bits. -/
def fdDataBits (p : Nat) : Nat :=
  5 + 8 * p + (5 + 8 * p) / 4 + 4 + (if p ≤ 16 then 17 + 6 else 21 + 7)

/-- Worst-case time of a frame in µs (R271): FD with or without bit-rate switching, or classical. -/
def fbTime (rate : Nat) (fd brs ide passive : Bool) (p : Nat) : Nat :=
  (if fd then 34 + (if brs then ceilDiv (fdDataBits p) rate else fdDataBits p) + (if ide then 25 else 0)
   else if ide then 67 + 8 * p + (53 + 8 * p) / 4 else 47 + 8 * p + (33 + 8 * p) / 4)
  + (if passive then 8 else 0)

/-! ## Station configuration -/

def State.stnCfg (s : State) (i : Nat) : StnCfg := s.pkg.stns.get i
def stnFrames (len : Nat) : Nat := ceilDiv len 63
/-- Enabled stations of a bus. -/
def State.busStns (s : State) (b : Nat) : List Nat :=
  ((List.range 64).map (b * 64 + ·)).filter fun i => (s.stnCfg i).en

/-! ## The queue (R280) -/

/-- Frames an item still has to send. -/
def State.itemFrames (s : State) (x : TxItem) : Nat :=
  match x.what with
  | .group i => stnFrames (s.stnCfg i).outLen - x.index
  | .send .. => 1
  | .reference _ => 0

/-- Frames queued (DEPTH). In ARRIVAL mode the frame offered is the head of the queue until it is sent. -/
def State.fbDepth (s : State) (b : Nat) : Nat :=
  let f := s.fbcs.get b
  (f.queue ++ (if f.mode = .arrival then f.onWire.toList else [])).foldl (fun n x => n + s.itemFrames x) 0

/-- An item is a command output (R281). -/
def itemCommand (x : TxItem) : Bool :=
  match x.what with | .group _ => true | .send _ _ c => c | .reference _ => false

/-- A group item of station `i` whose first frame has not started. -/
def itemWaits (i : Nat) (x : TxItem) : Bool := x.what = .group i && x.content = none

/-- Puts an item at the end of the queue and keeps HIGH_WATER. -/
def State.fbEnqueue (s : State) (b : Nat) (x : TxItem) : State :=
  let s := s.updFbc b fun f => { f with queue := f.queue ++ [{ x with order := f.nextOrder }],
                                        nextOrder := f.nextOrder + 1 }
  s.updFbc b fun f => { f with highWater := Nat.max f.highWater (s.fbDepth b) }

/-! ## Starting frames (R277 to R281) -/

/-- The bytes of frame `idx` of a group: header (R122) and 63 image bytes. -/
def groupFrame (gseq idx total : Nat) (content : List Byte) : List Byte :=
  BitVec.ofNat 8 (gseq + 16 * idx + (if idx + 1 = total then 128 else 0)) :: bytesAt content (63 * idx) 63

/-- The reference message (R275). -/
def State.refBytes (s : State) (b : Nat) (backup : Bool) : List Byte :=
  let f := s.fbcs.get b
  leBytes 1 (f.bc + if backup then 128 else 0) ++ [0] ++ leBytes 2 s.glb.modnum.toNat
    ++ leBytes 4 (tsOf f.pulseTai)

/-- The frame an item offers: its format and data. -/
def State.itemFrame (s : State) (b : Nat) (x : TxItem) : Bool × Bool × List Byte :=
  match x.what with
  | .group i => (true, true, groupFrame x.gseq x.index (stnFrames (s.stnCfg i).outLen) (x.content.getD []))
  | .send _ fr _ => (fr.fd, fr.brs, fr.data)
  | .reference k => (true, true, s.refBytes b k)

/-- Error passive: a counter above 127 (R289, ISO 11898-1). -/
def fbPassive (f : FbcSt) : Bool := decide (127 < f.tec) || decide (127 < f.recCnt)

/-- Worst-case time of the next frame of an item, in ns. -/
def State.itemNs (s : State) (b : Nat) (x : TxItem) : Nat :=
  let (fd, brs, d) := s.itemFrame b x
  1000 * fbTime (fbRate (s.pkg.fbcs.get b)) fd brs x.ide (fbPassive (s.fbcs.get b)) d.length

/-- Time that what is left of an item takes back to back, in ns. -/
def State.spanNs (s : State) (b : Nat) (x : TxItem) : Nat :=
  match x.what with | .group _ => s.itemFrames x * s.itemNs b x | _ => s.itemNs b x

/-- The next frame of an item may start now by mode and cell (R274 to R278): in ARRIVAL always; a reference inside its
window; a group in its station's EXCLUSIVE output cell or in an ARBITRATION cell, any other frame in an ARBITRATION cell,
where it can end within the cell. -/
def State.fbMay (s : State) (b : Nat) (x : TxItem) : Bool :=
  let f := s.fbcs.get b
  let fits := decide (s.now + s.itemNs b x ≤ f.cellEnd)
  match f.mode with
  | .arrival => true
  | .schedule =>
    (match x.what with
     | .reference _ => f.cell = .window && decide (s.now < f.cellEnd)
     | .group i => (f.cell = .cell (.exclOut (i % 64)) || f.cell = .cell .arbitration) && fits
     | .send .. => f.cell = .cell .arbitration && fits)
  | _ => false

/-- GSEQ of a station's output group, as sent: it is mirrored, and a takeover goes on from it (R281, R364). -/
def State.noteGseq (s : State) (i q : Nat) : State :=
  (s.mirror (.fbGseq i q)).updMlk fun m => { m with gseqs := putRow m.gseqs i q }

/-- Starts an item on the wire. The content of a group is taken, its GSEQ is fixed and mirrored, and the
image counts as sent when its first frame starts (R126, R281). A group that is resent from INDEX 0 keeps its content and
its GSEQ, which is mirrored again (R278, R281). -/
def State.fbBegin (s : State) (b : Nat) (x : TxItem) : State :=
  match x.what with
  | .group i =>
    if x.index = 0 ∧ x.content = none then
      let st := s.stns.get i
      let q := st.outGseq
      let s := s.noteGseq i q
      let s := s.updStn i fun t => { t with unsent := false, outGseq := (q + 1) % 16 }
      s.updFbc b fun f => { f with
        onWire := some { x with content := some st.mailbox, gseq := q, attempted := true },
        wireStart := s.now }
    else if x.index = 0 ∧ x.retry then
      (s.noteGseq i x.gseq).updFbc b fun f => { f with onWire := some { x with attempted := true }, wireStart := s.now }
    else s.updFbc b fun f => { f with onWire := some { x with attempted := true }, wireStart := s.now }
  | _ => s.updFbc b fun f => { f with onWire := some { x with attempted := true }, wireStart := s.now }

/-- A command item may start only under the grant (R281). -/
def State.mayStart (s : State) (x : TxItem) : Bool := s.mlk.grant || !itemCommand x

/-- Rank of an identifier in arbitration: the 11 base bits, then the base format before the extended one, then the 18 bits
of the extension. -/
def arbRank (x : TxItem) : Nat :=
  if x.ide then x.ident / 2 ^ 18 * 2 ^ 19 + 2 ^ 18 + x.ident % 2 ^ 18 else x.ident * 2 ^ 19

/-- The item that an ARBITRATION cell offers first: ascending identifier, then the older (R279). -/
def firstItem : List TxItem → Option TxItem
  | [] => none
  | x :: r =>
    match firstItem r with
    | none => some x
    | some y => if arbRank y < arbRank x ∨ (arbRank y = arbRank x ∧ y.order < x.order) then some y else some x

/-- Offers the next frame where none is on the wire: in ARRIVAL the head of the queue (R280); in the schedule what its
window or cell was to start, if it still can (R276, R277), and in an ARBITRATION cell what fits it, a group as a whole
(R278, R279, DEDUCED, log 110). -/
def State.fbOffer (s : State) (b : Nat) : State :=
  let f := s.fbcs.get b
  if f.onWire ≠ none ∨ ¬ s.unitOn (.fbc b) then s
  else match f.mode with
  | .arrival =>
    match f.queue with
    | x :: r => if s.mayStart x then (s.updFbc b fun f => { f with queue := r }).fbBegin b x else s
    | [] => s
  | .schedule =>
    match f.due with
    | some x =>
      let s := s.updFbc b fun f => { f with due := none }
      if s.mayStart x ∧ s.fbMay b x then s.fbBegin b x else s
    | none =>
    if f.cell = .cell .arbitration then
      let fits := (f.retries ++ f.queue).filter fun x =>
        s.mayStart x && s.fbMay b x && s.now + s.spanNs b x ≤ f.cellEnd
      match firstItem fits with
      | some x => (s.updFbc b fun f => { f with queue := f.queue.filter (· ≠ x),
                                                retries := f.retries.filter (· ≠ x) }).fbBegin b x
      | none => s
    else s
  | _ => s

/-- Enqueues the output group of station `i` in ARRIVAL mode, when its frames fit (R280, R281). -/
def State.fbQueueGroup (s : State) (i : Nat) : State :=
  let b := i / 64
  let f := s.fbcs.get b
  let g := stnFrames (s.stnCfg i).outLen
  if s.unitOn (.fbc b) ∧ f.mode = .arrival ∧ s.mlk.grant ∧ (s.stns.get i).unsent ∧
      ¬ (s.stns.get i).heldBack ∧ 0 < g
      ∧ ¬ f.queue.any (itemWaits i) ∧ s.fbDepth b + g ≤ 64 then
    (s.fbEnqueue b { what := .group i, ident := (s.stnCfg i).txid }).fbOffer b
  else s

/-- Retries left from SCHEDULE mode enter the queue of 64 in ARRIVAL mode as places come free (R280, log 110). -/
def State.fbRequeue (s : State) (b : Nat) : State :=
  s.each (s.fbcs.get b).retries fun s x =>
    if (s.fbcs.get b).mode = .arrival ∧ s.fbDepth b + s.itemFrames x ≤ 64 then
      let s := s.updFbc b fun f => { f with queue := f.queue ++ [x], retries := f.retries.filter (· ≠ x) }
      s.updFbc b fun f => { f with highWater := Nat.max f.highWater (s.fbDepth b) }
    else s

/-- What waits for room or for the grant: retries, then unsent mailbox images in ascending station order (R281). -/
def State.fbQueueAll (s : State) (b : Nat) : State := (s.fbRequeue b).each (s.busStns b) fun s i => s.fbQueueGroup i

/-- Places an output image in a station's mailbox at COMMIT (R126), or discards it when the station is
not PRESENT (R130). An image placed during BUS_OFF waits for the next COMMIT after it (R285). -/
def State.placeOutput (s : State) (i : Nat) (image : List Byte) : State :=
  if (s.stns.get i).st = .present then
    (s.updStn i fun t => { t with mailbox := image, unsent := true,
                                  heldBack := (s.fbcs.get (i / 64)).mode = .busOff }).fbQueueGroup i
  else s.updStn i fun t => { t with discard := sat32 t.discard 1 }

/-! ## Discarding -/

/-- Ends the FBC_SEND descriptors of a list of items. -/
def State.endSends (s : State) (xs : List TxItem) (c : Code) : State :=
  s.each xs fun s x => match x.what with
    | .send j _ _ => s.complete j c 0
    | _ => s

/-- Frames counted in FBC_TX_DISCARD. -/
def State.fbLost (s : State) (b n : Nat) : State := s.updFbc b fun f => { f with txDiscard := sat32 f.txDiscard n }

/-- Discards items of the queue and of the retries, counted in FBC_TX_DISCARD; pending FBC_SEND descriptors, those whose
STARTED item is not sealed among them, end with the code. -/
def State.fbDiscard (s : State) (b : Nat) (p : TxItem → Bool) (c : Code) : State :=
  let f := s.fbcs.get b
  let out := (f.retries ++ f.queue).filter p
  let n := out.foldl (fun n x => n + s.itemFrames x) 0
  ((s.updFbc b fun f => { f with queue := f.queue.filter fun x => !p x,
                                 retries := f.retries.filter fun x => !p x,
                                 unsealed := f.unsealed.filter fun x => !p x }).fbLost b n).endSends
    (out ++ f.unsealed.filter p) c

/-- The controller is isolated with a frame on the wire: nothing of it is left (R76, R272). -/
def State.fbCut (s : State) (b : Nat) : State :=
  let w := (s.fbcs.get b).onWire.toList
  (s.updFbc b fun f => { f with onWire := none, retries := w ++ f.retries }).fbDiscard b (fun _ => true) cNotActive

/-- Stations that send no input group follow their controller: PRESENT while it is ON in ARRIVAL or
SCHEDULE, else ABSENT (R129). -/
def State.silentStns (s : State) (b : Nat) : State :=
  let f := s.fbcs.get b
  let up := s.unitOn (.fbc b) && (f.mode = .arrival || f.mode = .schedule)
  s.each ((s.busStns b).filter fun i => (s.stnCfg i).inLen = 0) fun s i =>
    s.updStn i fun t => { t with st := if up then .present else .absent, missed := 0 }

/-- Sets the mode of a controller and what follows from it for silent stations; outside the schedule the 1 ms supervision
interval begins (R128). -/
def State.fbMode (s : State) (b : Nat) (m : FbMode) : State :=
  (s.updFbc b fun f => { f with mode := m, due := none,
                                supervise := if f.mode = .schedule ∧ m ≠ .schedule then s.now else f.supervise,
                                cell := if m = .schedule then f.cell else .outside,
                                timeMaster := if m = .schedule then f.timeMaster else false }).silentStns b

/-- Entry into BUS_OFF (R285). -/
def State.fbBusOff (s : State) (b : Nat) : State :=
  let w := (s.fbcs.get b).onWire.toList
  let s := s.updFbc b fun f => { f with onWire := none, retries := w ++ f.retries }
  let s := s.fbDiscard b (fun _ => true) 0x0A00
  let s := s.updFbc b fun f => { f with busOffs := sat32 f.busOffs 1, offAt := s.now, seqDone := false,
                                        recoverAsked := false, toArrival := false }
  let s := s.each (s.busStns b) fun s i => s.updStn i fun t => { t with heldBack := t.unsent }
  (s.fbMode b .busOff).alarm .fbBusoff b

/-- An error on the bus (R270, log 109): the transmit counter by 8 for this node's own frame, else the receive counter by 1,
or by 8; above 255 the controller goes to BUS_OFF, unless it is in LISTEN (R272). -/
def State.fbError (s : State) (b : Nat) (e : CanError) : State :=
  let f := s.fbcs.get b
  if f.mode = .busOff then s
  else
    let s := s.updFbc b fun f => { f with errFrm := sat32 f.errFrm 1 }
    if f.mode = .listen then s
    else match e with
    | .transmit =>
      let s := s.updFbc b fun f => { f with tec := f.tec + 8 }
      if 255 < f.tec + 8 then s.fbBusOff b else s
    | .exempt => s
    | .receive => s.updFbc b fun f => { f with recCnt := Nat.min (f.recCnt + 1) 128 }
    | .flagged => s.updFbc b fun f => { f with recCnt := Nat.min (f.recCnt + 8) 128 }

/-- A frame has been received: the receive counter goes down by 1; from above 127 to a value of 119 to 127, which is free
(R270, log 109). -/
def State.fbReceived (s : State) (b : Nat) : State :=
  if (s.fbcs.get b).recCnt ≤ 127 then s.updFbc b fun f => { f with recCnt := f.recCnt - 1 }
  else
    let (v, s) := s.free
    s.updFbc b fun f => { f with recCnt := 119 + v.toNat % 9 }

/-! ## The grant (R281) -/

/-- The grant is lost: command items that are not on the wire are discarded. -/
def State.fbGrantLost (s : State) (b : Nat) : State :=
  (s.updFbc b fun f => { f with due := f.due.filter fun x => !itemCommand x }).fbDiscard b itemCommand 0x0A03

/-- The grant returns: unsent mailbox images are enqueued in ARRIVAL mode (R281, R286). -/
def State.fbGrantGained (s : State) (b : Nat) : State := s.fbQueueAll b

/-! ## Presence (R128) -/

/-- The inputs of a station turn INVALID and hold (R128, R132). -/
def State.condsInvalid (s : State) (i : Nat) : State :=
  s.each (s.pkg.conds.keys.filter fun j => (s.pkg.conds.get j).en && (s.pkg.conds.get j).station = i)
    fun s j => s.updCond j fun c => { c with quality := .invalid }

/-- A station leaves PRESENT: inputs INVALID, the unsent mailbox image discarded and counted, its queued group and a
resend that waits removed, the latter counted too (R128, R130, R286), STATION_MISSING; what waits takes their places in the
queue (R280). -/
def State.stnDrop (s : State) (i : Nat) : State :=
  let t := s.stns.get i
  let f := s.fbcs.get (i / 64)
  let resend := ((f.queue ++ f.retries).filter fun x => x.what = .group i && x.content ≠ none).length
  let s := s.condsInvalid i
  let s := s.updStn i fun t => { t with unsent := false,
                                        discard := sat32 t.discard ((if t.unsent then 1 else 0) + resend) }
  let s := s.updFbc (i / 64) fun f =>
    { f with queue := f.queue.filter fun x => x.what ≠ .group i, retries := f.retries.filter fun x => x.what ≠ .group i
             due := f.due.filter fun x => x.what ≠ .group i }
  (if t.st = .present then s.event .stationMissing i else s).fbQueueAll (i / 64)

/-- Judges the presence of a station at the end of an interval that ends at `due` (R128). -/
def State.stnJudge (s : State) (i due : Nat) : State :=
  let c := s.stnCfg i
  let t := s.stns.get i
  if c.en ∧ 0 < c.inLen ∧ t.judged < due ∧ t.st ≠ .unused then
    let s := s.updStn i fun t => { t with judged := due, got := false }
    if t.got then s.updStn i fun t => { t with missed := if t.st = .present then 0 else t.missed }
    else match t.st with
    | .present =>
      let s := s.stnDrop i
      if 1 < c.k then s.updStn i fun t => { t with st := .missing, missed := 1 }
      else (s.updStn i fun t => { t with st := .absent, missed := 1 }).alarm .stationAbsent i
    | .missing =>
      if t.missed + 1 < c.k then s.updStn i fun t => { t with missed := t.missed + 1 }
      else (s.updStn i fun t => { t with st := .absent, missed := c.k }).alarm .stationAbsent i
    | _ => s
  else s

end Sys2Proof.Machine
end

