-- ==== Sys2Proof/Machine/Operands.lean ====
section
/-! DEFINITION. Operands of facet instructions: data memory (R77), the bit areas of format L (R84), the
instances of format K, and the fields of the instruction formats (R83). -/

namespace Sys2Proof.Machine

/-! ## Data memory: bytes that are not zero, by rising address -/

/-- Reads a byte; an unlisted byte is 0. -/
def memGet : List Host.Cell → Nat → Byte
  | [], _ => 0
  | (k, v) :: r, a => if k = a then v else memGet r a

/-- Removes the entry of an address. -/
def memDel : List Host.Cell → Nat → List Host.Cell
  | [], _ => []
  | (k, v) :: r, a => if k = a then r else (k, v) :: memDel r a

/-- Puts a byte that is not zero at its place. -/
def memPut1 : List Host.Cell → Nat → Byte → List Host.Cell
  | [], a, b => [(a, b)]
  | (k, v) :: r, a, b =>
    if a < k then (a, b) :: (k, v) :: r
    else if a = k then (a, b) :: r
    else (k, v) :: memPut1 r a b

/-- Writes a byte, keeping the canonical form. -/
def memSet (m : List Host.Cell) (a : Nat) (b : Byte) : List Host.Cell :=
  if b = 0 then memDel m a else memPut1 m a b

/-- The canonical form: addresses rising from `lo`, no zero byte listed. -/
def memWfFrom : Nat → List Host.Cell → Bool
  | _, [] => true
  | lo, (k, v) :: r => decide (lo ≤ k) && decide (v ≠ 0) && memWfFrom (k + 1) r

/-- The canonical form of a data memory. -/
def Memory.wf (m : List Host.Cell) : Bool := memWfFrom 0 m

/-- Bytes [a, a+n) of data memory. -/
def memBytes (m : List Host.Cell) (a : Nat) : Nat → List Byte
  | 0 => []
  | n + 1 => memGet m a :: memBytes m (a + 1) n

/-- Writes bytes from address `a`. -/
def memPut (m : List Host.Cell) : Nat → List Byte → List Host.Cell
  | _, [] => m
  | a, b :: r => memPut (memSet m a b) (a + 1) r

/-- The little-endian number at `a`. -/
def memNat (m : List Host.Cell) (a n : Nat) : Nat := leNat (memBytes m a n)

/-- Writes a little-endian number of `n` bytes at `a`. -/
def memPutNat (m : List Host.Cell) (a n v : Nat) : List Host.Cell := memPut m a (leBytes n v)

/-- Bit `n` of an image area: bit n mod 8 of byte n div 8 (R77). -/
def memBit (m : List Host.Cell) (base n : Nat) : Bool := (memGet m (base + n / 8)).getLsbD (n % 8)

/-- Writes bit `n` of an image area. -/
def memSetBit (m : List Host.Cell) (base n : Nat) (v : Bool) : List Host.Cell :=
  let b := memGet m (base + n / 8)
  let k := BitVec.ofNat 8 (2 ^ (n % 8))
  memSet m (base + n / 8) (if v then b ||| k else b &&& ~~~k)

/-! ## Areas of data memory (R77) -/

def aI : Nat := 0x0
def aQ : Nat := 0x200
def aM : Nat := 0x400
def aTimer : Nat := 0xC00
def aCounter : Nat := 0x1C00
def aEdge : Nat := 0x2400
def aStatus : Nat := 0x2440
def aReserved : Nat := 0x2480
def aPackage : Nat := 0x2500
def memEnd : Nat := 0x18000

/-- A store into the reserved area changes nothing (R77). -/
def memStore (m : List Host.Cell) (a : Nat) (bs : List Byte) : List Host.Cell :=
  if aReserved ≤ a ∧ a < aPackage then m else memPut m a bs

/-! ## Results of a facet instruction -/

/-- What an instruction leaves: the facet, or a program fault. -/
abbrev FRes := Except FFault FacetSt

/-! ## Fields of the formats (R83) -/

/-- Bits [hi:lo] of the 26 operand bits, as a number. -/
def fld (w : BitVec 26) (hi lo : Nat) : Nat := w.toNat / 2 ^ lo % 2 ^ (hi + 1 - lo)

def fArea (w : BitVec 26) : Nat := fld w 25 23
def fNeg (w : BitVec 26) : Bool := fld w 22 22 = 1
def fIndex (w : BitVec 26) : Nat := fld w 13 0
def fX (w : BitVec 26) : Nat := fld w 25 23
def fY (w : BitVec 26) : Nat := fld w 22 20
def fAcc (w : BitVec 26) : Nat := fld w 19 18
def fRnd (w : BitVec 26) : Nat := fld w 17 16
def fCond (w : BitVec 26) : Nat := fld w 15 13
def fShift (w : BitVec 26) : Int := signed 6 (fld w 7 2)
def fReg (w : BitVec 26) : Nat := fld w 25 22
def fPtr (w : BitVec 26) : Nat := fld w 21 19
def fPost (w : BitVec 26) : Bool := fld w 18 18 = 1
def fOff (w : BitVec 26) : Int := signed 16 (fld w 15 0)

/-! ## Format L: the bit operand (R84, R85) -/

/-- The status bits of area S (R85). -/
def statusBit (f : FacetSt) (n : Nat) : Bool :=
  match n with
  | 0 => f.firstCycle
  | 1 => memBit f.dmem aStatus 0
  | 2 => f.psat
  | 3 => f.aovf
  | 4 => f.ssat
  | 5 => f.replayed
  | 6 => f.restored
  | _ => false

/-- Bits of an area. -/
def areaBits (area : Nat) : Nat :=
  match area with
  | 0 => 4096 | 1 => 4096 | 2 => 16384 | 3 => 256 | 4 => 128 | _ => 8

/-- Reserved bits and area codes that raise ILLEGAL_OP, and the range of BIT (R83, R84). -/
def bitCheck (w : BitVec 26) : Option FFault :=
  if fld w 21 14 ≠ 0 ∨ 6 ≤ fArea w then some .illegalOp
  else if areaBits (fArea w) ≤ fIndex w then some .addrRange
  else none

/-- Reads the bit an L operand names. Area C shows QD while DOWN is 1 and QU otherwise (R89). -/
def readBit (f : FacetSt) (area n : Nat) : Bool :=
  match area with
  | 0 => memBit f.dmem aI n
  | 1 => memBit f.dmem aQ n
  | 2 => memBit f.dmem aM n
  | 3 => memBit f.dmem (aTimer + 16 * n + 12) 1
  | 4 => memBit f.dmem (aCounter + 16 * n + 8)
      (if memBit f.dmem (aCounter + 16 * n + 8) 4 then 3 else 2)
  | _ => statusBit f n

/-- The operand of a reading L instruction, inverted when NEG is 1 (R86). -/
def bitOperand (f : FacetSt) (w : BitVec 26) : Bool := readBit f (fArea w) (fIndex w) != fNeg w

/-- ST, SET and RST write Q and M; RST also clears bits 2 to 4 of S (R84). -/
def writableBit (w : BitVec 26) (isRst : Bool) : Bool :=
  fArea w = 1 || fArea w = 2 || (isRst && fArea w = 5 && 2 ≤ fIndex w && fIndex w ≤ 4)

/-- Writes the bit an L operand names. -/
def writeBit (f : FacetSt) (area n : Nat) (v : Bool) : FacetSt :=
  match area with
  | 1 => { f with dmem := memSetBit f.dmem aQ n v }
  | 2 => { f with dmem := memSetBit f.dmem aM n v }
  | 5 => if n = 2 then { f with psat := v } else if n = 3 then { f with aovf := v }
      else if n = 4 then { f with ssat := v } else f
  | _ => f

/-! ## Format K: instances (R84, R88, R89) -/

/-- Reserved bits and the number of instances of the kind. -/
def instCheck (w : BitVec 26) (n : Nat) : Option FFault :=
  if fld w 25 14 ≠ 0 then some .illegalOp else if n ≤ fIndex w then some .addrRange else none

/-! ## Registers -/

def dReg (f : FacetSt) (i : Nat) : Half := (f.d.toList[i]?).getD 0
def pReg (f : FacetSt) (i : Nat) : Word := (f.p.toList[i]?).getD 0
def aReg (f : FacetSt) (i : Nat) : Acc := (f.a.toList[i]?).getD 0
def setD (f : FacetSt) (i : Nat) (v : Half) : FacetSt := { f with d := f.d.setIfInBounds i v }
def setP (f : FacetSt) (i : Nat) (v : Word) : FacetSt := { f with p := f.p.setIfInBounds i v }
def setA (f : FacetSt) (i : Nat) (v : Acc) : FacetSt := { f with a := f.a.setIfInBounds i v }

/-! ## Format M: the memory operand (R83, R94) -/

/-- The address of an M operand: P, or P + OFFSET when POST is 0. -/
def memAddr (f : FacetSt) (w : BitVec 26) : Nat :=
  let p := pReg f (fPtr w)
  if fPost w then p.toNat else (p + BitVec.ofInt 32 (fOff w)).toNat

/-- P := P + OFFSET when POST is 1. -/
def postInc (f : FacetSt) (w : BitVec 26) : FacetSt :=
  if fPost w then setP f (fPtr w) (pReg f (fPtr w) + BitVec.ofInt 32 (fOff w)) else f

/-- An access of `size` bytes that raises ADDR_RANGE (R94). -/
def badAccess (a size : Nat) (write : Bool) : Bool :=
  memEnd ≤ a || (write && (a < aQ || (aStatus ≤ a && a < aReserved))) || a % size ≠ 0

end Sys2Proof.Machine
end

