-- ==== Sys2Proof/Machine/Flags.lean ====
section
/-! DEFINITION. The arithmetic of the Arithmetic Unit and its sticky bits: saturated products (R90),
accumulator saturation (R91), rounding (R92), 16-bit saturation (R93), timers and counters (R88, R89). -/

namespace Sys2Proof.Machine

/-- A product in Q31: (Dx * Dy) shifted left by one; (-1) * (-1) saturates and sets PSAT (R90). -/
def product (x y : Half) : Int × Bool :=
  if x = 0x8000 ∧ y = 0x8000 then (0x7FFFFFFF, true) else (2 * (x.toInt * y.toInt), false)

/-- Writes an accumulator result, saturated to 40 bits; AOVF when it saturates (R91). -/
def putAcc (f : FacetSt) (i : Nat) (v : Int) : FacetSt :=
  let r := satInt 40 v
  { setA f i (BitVec.ofInt 40 r) with aovf := f.aovf || decide (r ≠ v) }

/-- Writes a data register, saturated to 16 bits; SSAT when it saturates (R92, R93). -/
def putD (f : FacetSt) (i : Nat) (v : Int) : FacetSt :=
  let r := satInt 16 v
  { setD f i (BitVec.ofInt 16 r) with ssat := f.ssat || decide (r ≠ v) }

/-- PSAT is sticky (R85). -/
def notePsat (f : FacetSt) (b : Bool) : FacetSt := { f with psat := f.psat || b }

/-- Rounds `v` at bit `k`: the exact value is v / 2^k; RND 0 TRUNC, 1 RHU, 2 RNE (R92). -/
def roundAt (v : Int) (k : Nat) (rnd : Nat) : Int :=
  let u : Int := 2 ^ k
  let t := v / u
  let low := v % u
  match rnd with
  | 0 => t
  | 1 => (2 * v + u) / (2 * u)
  | _ => if 2 * low > u then t + 1 else if 2 * low < u then t else if t % 2 = 0 then t else t + 1

/-- STH: A * 2^SHIFT taken exactly and rounded at bit 16 (R92). -/
def sthValue (a : Int) (sh : Int) (rnd : Nat) : Int :=
  if 0 ≤ sh then roundAt (a * 2 ^ sh.toNat) 16 rnd else roundAt a (16 + (-sh).toNat) rnd

/-- ASH: left, or arithmetic right with rounding at the bit shifted out last (R92, R93). -/
def ashValue (a : Int) (sh : Int) (rnd : Nat) : Int :=
  if 0 ≤ sh then a * 2 ^ sh.toNat else roundAt a (-sh).toNat rnd

/-- LSH: logical shift; 16 or more in either direction gives 0 (R93). -/
def lshValue (v : Half) (sh : Int) : Half :=
  if 16 ≤ sh ∨ sh ≤ -16 then 0 else if 0 ≤ sh then v <<< sh.toNat else v >>> (-sh).toNat

/-- The condition of CMP (R86). -/
def cmpHolds (x y : Int) (c : Nat) : Bool :=
  match c with
  | 0 => x = y | 1 => x ≠ y | 2 => x < y | 3 => x ≤ y | 4 => x > y | _ => x ≥ y

/-! ## Timers (R88) -/

inductive TimerKind | ton | tof | tp
  deriving DecidableEq, Repr

/-- The fields of a timer. -/
structure Timer where
  preset : Nat
  elapsed : Nat
  last : Nat
  inPrev : Bool
  q : Bool
  deriving DecidableEq, Repr

/-- One update of a timer at microsecond count `us` with input `la` (R88). ELAPSED of a TOF whose Q is 0 goes on up to
PRESET while IN is 0 (DESIGN CHOICE, log 97). -/
def timerStep (k : TimerKind) (us : Nat) (la : Bool) (t : Timer) : Timer :=
  let gap := Nat.min ((us + 2 ^ 32 - t.last) % 2 ^ 32) (2 ^ 31)
  let add := Nat.min (t.elapsed + gap) t.preset
  let t := { t with last := us }
  match k with
  | .ton =>
    if la then
      let e := if t.inPrev then add else 0
      { t with elapsed := e, q := decide (t.preset ≤ e), inPrev := la }
    else { t with elapsed := 0, q := false, inPrev := la }
  | .tof =>
    if la then { t with elapsed := 0, q := true, inPrev := la }
    else
      let e := if t.inPrev then 0 else add
      { t with elapsed := e, q := t.q && decide (e < t.preset), inPrev := la }
  | .tp =>
    if t.q then { t with elapsed := add, q := decide (add < t.preset), inPrev := la }
    else if la && !t.inPrev then { t with elapsed := 0, q := decide (0 < t.preset), inPrev := la }
    else if la then { t with inPrev := la }
    else { t with elapsed := 0, inPrev := la }

/-- Reads timer `i` from data memory. -/
def readTimer (m : List Host.Cell) (i : Nat) : Timer :=
  let a := aTimer + 16 * i
  { preset := memNat m a 4, elapsed := memNat m (a + 4) 4, last := memNat m (a + 8) 4,
    inPrev := memBit m (a + 12) 0, q := memBit m (a + 12) 1 }

/-- Writes a timer's ELAPSED, LAST_US, IN_PREV and Q. -/
def writeTimer (m : List Host.Cell) (i : Nat) (t : Timer) : List Host.Cell :=
  let a := aTimer + 16 * i
  let m := memPutNat (memPutNat m (a + 4) 4 t.elapsed) (a + 8) 4 t.last
  memSetBit (memSetBit m (a + 12) 0 t.inPrev) (a + 12) 1 t.q

/-- TIME_US of the facet status block (R78). -/
def facetUs (f : FacetSt) : Nat := memNat f.dmem (aStatus + 0xC) 4

/-! ## Counters (R89) -/

/-- The fields of a counter. -/
structure Counter where
  count : Int
  preset : Int
  cuPrev : Bool
  cdPrev : Bool
  deriving DecidableEq, Repr

/-- Reads counter `i` from data memory. -/
def readCounter (m : List Host.Cell) (i : Nat) : Counter :=
  let a := aCounter + 16 * i
  { count := signed 32 (memNat m a 4), preset := signed 32 (memNat m (a + 4) 4),
    cuPrev := memBit m (a + 8) 0, cdPrev := memBit m (a + 8) 1 }

/-- Writes COUNT. -/
def writeCount (m : List Host.Cell) (i : Nat) (v : Int) : List Host.Cell :=
  memPutNat m (aCounter + 16 * i) 4 (unsigned 32 v)

/-- CTU adds and CTD subtracts 1 on a rising LA, saturating; QU, QD and DOWN follow (R89). -/
def countStep (m : List Host.Cell) (i : Nat) (down la : Bool) : List Host.Cell × Bool × Bool :=
  let c := readCounter m i
  let a := aCounter + 16 * i + 8
  let v := if down then (if la && !c.cdPrev then max (c.count - 1) (-0x80000000) else c.count)
    else (if la && !c.cuPrev then min (c.count + 1) 0x7FFFFFFF else c.count)
  let qu := decide (c.preset ≤ v)
  let qd := decide (v ≤ 0)
  let m := writeCount m i v
  let m := memSetBit m a (if down then 1 else 0) la
  let m := memSetBit (memSetBit (memSetBit m a 2 qu) a 3 qd) a 4 down
  (m, qu, qd)

end Sys2Proof.Machine
end

