-- ==== Sys2Proof/Machine/FacetCtl.lean ====
section
/-! DEFINITION. What surrounds a facet's instructions: epochs that close a cycle (R354 to R356), wakes and
gating (R78 to R81), lens power (R33, R34), program stops and faults (R101), logic cycles (R109 to R116),
seals (R98, R99), outputs (R80, R176) and Loupe samples (R392). -/

namespace Sys2Proof.Machine

/-! ## Epochs -/

/-- Closes an epoch: it takes the queued dynamic items and the next number, and leaves on both links (R353 to
R356). Without a partner in service it counts as sealed at once (R359). The last 64 are kept for resending. -/
def State.sendEpoch (s : State) (kind : EpochKind) (lens cycle ts source : Nat) (resync : Bool) (its : List Item) :
    State :=
  let n := s.mlk.epoch + 1
  let dyn := s.mlk.items.map (·.2)
  let e : Epoch := { kind := kind, lens := lens, modnum := s.glb.modnum.toNat, num := n, cycle := cycle,
                     ts := ts, source := source, resync := resync, items := its ++ dyn }
  let js := dyn.filterMap fun x => match x with | .journal j => some j.jseq | _ => none
  let sent := s.mlk.sent ++ [(s.now, e)]
  ({ s with
      mlk := { s.mlk with epoch := n, items := [], sent := sent.drop (sent.length - 64)
                          sealedOrCommitted := if s.paired then s.mlk.sealedOrCommitted else n }
      hif.journal := s.hif.journal.map fun (x : JEntry) =>
        if js.contains x.jseq ∧ ¬ x.sealed then { x with epoch := n } else x }).emit (.epoch e)

/-- An epoch of the ACTIVE module closes (R353). -/
def State.closeEpoch (s : State) (kind : EpochKind) (lens cycle ts source : Nat) (its : List Item) : State :=
  if s.mlk.role = .active then s.sendEpoch kind lens cycle ts source false its else s

/-! ## Which facet runs which program -/

/-- The facet that holds the program of home facet `h`: the spare that took it, or `h` itself (R102). -/
def State.host (s : State) (l h : Nat) : Nat :=
  match (List.range 64).find? fun f =>
    let x := s.facets.get (fKey l f)
    x.hostOf = some h && x.run ≠ .fenced with
  | some f => f
  | none => h

/-- Home facet of the program that facet `f` runs. -/
def State.home (s : State) (l f : Nat) : Nat := ((s.facets.get (fKey l f)).hostOf).getD f

/-- Package entry of a program by its home facet. -/
def State.fCfg (s : State) (l h : Nat) : FacetCfg := s.pkg.facets.get (fKey l h)

/-- Number of the logic program whose home facet is (l, h). -/
def State.logicAt (s : State) (l h : Nat) : Option Nat :=
  (List.range 64).find? fun p =>
    let c := s.pkg.logic.get p
    c.present && c.lens = l && c.facet = h

/-- Arms whose lead facet is (l, h). -/
def State.leads (s : State) (l h : Nat) : List Nat :=
  s.armList.filter fun a => (s.pkg.arms.get a).lens = l && (s.pkg.arms.get a).lead = h

/-! ## Lens power -/

/-- A sleeping lens starts to wake (R34). -/
def State.wakeLens (s : State) (l : Nat) : State :=
  s.updLens l fun x =>
    if (x.pstate = .idle ∨ x.pstate = .retain) ∧ x.waking = none then { x with waking := some s.now } else x

/-- Next scheduled tick of a lens: the earliest of its programs' (R34). -/
def State.nextTick (s : State) (l : Nat) : Option Nat :=
  minList ((List.range 64).filterMap fun f => (s.progs.get (fKey l f)).nextTick)

/-- The lens enters IDLE or RETAIN when every facet is gated or holds no program and the next tick is far
enough, within its policy (R34, R35). A lens that holds a loop facet stays in RUN while an arm of it is not OFF. -/
def State.lensRest (s : State) (l : Nat) : State :=
  let x := s.lenses.get l
  let looped := (List.range 64).any (fun f => (s.fCfg l f).role = .loop) &&
    s.armList.any fun a => (s.pkg.arms.get a).lens = l && (s.unit (.arm a)).st ≠ .off
  let pol := if looped then .pinRun else (s.pkg.lenses.get l).policy
  let awake := (List.range 64).any fun f => (s.facets.get (fKey l f)).run = .active
  let far (d : Nat) : Bool := match s.nextTick l with | none => true | some t => s.now + d ≤ t
  if x.pstate ≠ .run ∨ awake ∨ pol = .pinRun then s
  else if pol = .allowRetain ∧ far 80000 then s.updLens l fun x => { x with pstate := .retain, waking := none }
  else if far 400 then s.updLens l fun x => { x with pstate := .idle, waking := none }
  else s

/-- Number of a lens failure case in its event's detail word (log 13). -/
def lensCase : LensFault → Nat
  | .noSpare => 1 | .noCheckpoint => 2 | .repairTime => 3 | .memUncorr => 4 | .wakeTime => 5 | .steward => 6

/-- A lens failure is reported: LENS_FAILURE names the lens and the case (R104). -/
def State.lensFail (s : State) (l : Nat) (c : LensFault) : State :=
  (s.updLens l fun x => { x with failure := some (x.failure.getD c) }).event .lensFailure (l + 256 * lensCase c)

/-! ## Wakes (R78 to R81) -/

/-- The queued event of a cause came at this instant of TAI (R78). -/
def queuedAt (x : FacetSt) : WakeCause → Nat
  | .tick => x.tickAt | .stream => x.streamAt | .message => x.messageAt

def causeBit : WakeCause → Nat | .tick => 1 | .stream => 2 | .message => 4
def causeEntry : WakeCause → BitVec 13 | .tick => 0 | .stream => 1 | .message => 2

/-- A gated facet takes an event of this cause: any after END, one of its mask after WAIT (R81). -/
def gateAdmits (x : FacetSt) (c : WakeCause) : Bool :=
  match x.gate with
  | .ended => true
  | .waiting m => m.getLsbD (match c with | .tick => 0 | .stream => 1 | .message => 2)

def setQueued (x : FacetSt) (c : WakeCause) (v : Bool) : FacetSt :=
  match c with
  | .tick => { x with qTick := v } | .stream => { x with qStream := v } | .message => { x with qMessage := v }
/-- An event of a cause is queued; one that is queued already merges with it (R81), and the later instant stands
(log 12). -/
def queueEvent (x : FacetSt) (c : WakeCause) (tai : Nat) : FacetSt :=
  match c with
  | .tick => { x with qTick := true, tickAt := tai }
  | .stream => { x with qStream := true, streamAt := tai }
  | .message => { x with qMessage := true, messageAt := tai }
def isQueued (x : FacetSt) : WakeCause → Bool
  | .tick => x.qTick | .stream => x.qStream | .message => x.qMessage

/-- The window loader (03, "Windows, wake and output"): the input window of buffer n mod 2 goes into the
local input area, and the span mapped onto image I into image I. -/
def loadWindow (c : FacetCfg) (p : ProgSt) (x : FacetSt) : FacetSt :=
  let w := if p.cycle % 2 = 0 then p.inWin0 else p.inWin1
  let m := memPut x.dmem c.input.off (bytesAt w 0 c.input.len)
  { x with dmem := memPut m aI (bytesAt w c.imageI.off (Nat.min c.imageI.len 512)) }

/-- Records of a stream window, oldest first, as many as fit into `room` bytes. -/
def fitting : Nat → List (List Byte) → List (List Byte)
  | _, [] => []
  | room, r :: rs => if r.length ≤ room then r :: fitting (room - r.length) rs else []

/-- The stream mode of the window loader (R79, log 60): the oldest records that the stream area holds, one after
another. -/
def loadStream (c : FacetCfg) (p : ProgSt) (x : FacetSt) : FacetSt :=
  let rs := fitting c.streamArea.len p.stream
  { x with dmem := memPut x.dmem c.streamArea.off rs.flatten, loaded := rs.length }

/-- The status block of a wake by an event at instant `tai` (R78): TS, TIME_US and WAKE, and at a tick CYCLE. -/
def statusBlock (tai : Nat) (c : WakeCause) (n : Nat) (x : FacetSt) : FacetSt :=
  let m := if c = .tick then memPutNat x.dmem aStatus 8 n else x.dmem
  let m := memPutNat m (aStatus + 8) 4 (tsOf tai)
  let m := memPutNat m (aStatus + 0xC) 4 (usOf tai)
  { x with dmem := memPutNat m (aStatus + 0x10) 4 (causeBit c) }

/-- Records that a work item has read are consumed (R79, log 60). -/
def State.consume (s : State) (l f : Nat) : State :=
  let n := (s.facets.get (fKey l f)).loaded
  if n = 0 then s
  else (s.updProg l (s.home l f) fun p => { p with stream := p.stream.drop n }).updFacet l f fun x =>
    { x with loaded := 0 }

/-- The facet wakes for an event at instant `tai`: it becomes ACTIVE at the entry word of the cause, or goes on after
a WAIT (R81); a tick that resumes a work item which has had its own begins the next cycle, without the status bits of the
one before (R85). No computing phase is stated for a Focus assistant: its own opens at each wake and stays open, so each
of its OUTWs is in time (R80, DESIGN CHOICE, log 62). -/
def State.wakeNow (s : State) (l f : Nat) (c : WakeCause) (tai : Nat) : State :=
  let h := s.home l f
  let s := if c = .stream then s.consume l f else s
  let p := s.progs.get (fKey l h)
  let s := s.updFacet l f fun x =>
    let x := setQueued x c false
    let fresh : Bool := x.gate = .ended
    let next : Bool := c = .tick && x.ticked
    let x := { x with firstCycle := x.firstCycle && !next, replayed := x.replayed && !next,
                      restored := x.restored && !next }
    let x := { x with run := .active, gate := .ended, pc := if fresh then causeEntry c else x.pc,
                      ticked := c = .tick || (!fresh && x.ticked), began := if fresh then c = .tick else x.began }
    let x := statusBlock tai c p.cycle x
    match c with
    | .tick => loadWindow (s.fCfg l h) p x
    | .stream => loadStream (s.fCfg l h) p x
    | .message => x
  if (s.fCfg l h).role = .focusAssist then
    s.updProg l h fun p => { p with computing := true, outDone := false }
  else s

/-- A wake event reaches the program of home facet `h`: a gated facet of a lens in RUN wakes at once;
otherwise the event is queued, one per cause (R81), and a sleeping lens wakes (R34). A stream arrival or a message
for a program whose facet has failed waits for its spare, and wakes the lens (R105). -/
def State.raise (s : State) (l h : Nat) (c : WakeCause) : State :=
  let f := s.host l h
  let x := s.facets.get (fKey l f)
  match x.run with
  | .gated =>
    if (s.lenses.get l).pstate = .run ∧ gateAdmits x c then s.wakeNow l f c s.tai
    else (s.updFacet l f fun x => queueEvent x c s.tai).wakeLens l
  | .active => s.updFacet l f fun x => queueEvent x c s.tai
  | .fenced => if c = .tick then s else (s.updFacet l f fun x => queueEvent x c s.tai).wakeLens l
  | .stopped => s

/-- A queued event that the gate admits takes effect, in the order tick, stream, message (R81); it waits while its lens
is not in RUN. -/
def State.takeQueued (s : State) (l f : Nat) : State :=
  let x := s.facets.get (fKey l f)
  match [WakeCause.tick, .stream, .message].find? fun c => isQueued x c && gateAdmits x c with
  | some c =>
    if x.run = .gated ∧ (s.lenses.get l).pstate = .run then s.wakeNow l f c (queuedAt x c) else s
  | none => s

/-! ## Seals (R98, R99) -/

/-- The record of a seal buffer, if it is good and not invalidated. -/
def SealBuf.valid (b : SealBuf) : Option SealRec := b.record.filter fun r => sealGood r && !b.invalid

/-- The checkpoint: the good record with the highest cycle number that is not invalidated (R99). Of two such records
of one cycle, written by two SEALs in it, the one in buffer 0 is taken (DESIGN CHOICE, log 63). -/
def checkpoint (p : ProgSt) : Option SealRec :=
  match p.seal0.valid, p.seal1.valid with
  | some a, some b => if a.cycle < b.cycle then some b else some a
  | some a, none => some a
  | none, o => o

/-- Writes a seal record into the buffer that does not hold the checkpoint (R99); with no checkpoint, into the one of
the cycle's parity (R13). -/
def putSeal (p : ProgSt) (r : SealRec) : ProgSt :=
  let k := checkpoint p
  if (if k = none then r.cycle % 2 = 0 else p.seal0.valid ≠ k)
  then { p with seal0 := { record := some r, invalid := false } }
  else { p with seal1 := { record := some r, invalid := false } }

/-- Invalidates the seal of cycle `n` (R99, R114). -/
def dropSeal (p : ProgSt) (n : Nat) : ProgSt :=
  let f (b : SealBuf) : SealBuf :=
    match b.record with | some r => if r.cycle = n then { b with invalid := true } else b | none => b
  { p with seal0 := f p.seal0, seal1 := f p.seal1 }

/-- The seal of cycle `n` is invalidated, and SEAL_CYCLE shows the last good seal that is left, or 0 (R78, R99). -/
def State.loseSeal (s : State) (l h n : Nat) : State :=
  let s := s.updProg l h fun q => dropSeal q n
  let c := match checkpoint (s.progs.get (fKey l h)) with | some r => r.cycle % 2 ^ 32 | none => 0
  s.updFacet l (s.host l h) fun x => { x with dmem := memPutNat x.dmem (aStatus + 0x14) 4 c }

/-- CYCLE of a facet's status block: the cycle of its current work (R78). -/
def facetCycle (x : FacetSt) : Nat := memNat x.dmem aStatus 8

/-- The facet works in the program's present cycle and the computing phase of that cycle is open (R23, R80). A loop
program that runs on past a tick still works in the cycle it began in (R22, R477). -/
def State.inPhase (s : State) (l f : Nat) : Bool :=
  let p := s.progs.get (fKey l (s.home l f))
  p.computing && facetCycle (s.facets.get (fKey l f)) = p.cycle % 2 ^ 64

/-- The record that a SEAL of facet `f` writes, its CRC not yet written (R98). -/
def State.sealRec (s : State) (l f : Nat) : SealRec :=
  let c := s.fCfg l (s.home l f)
  let x := s.facets.get (fKey l f)
  { cycle := facetCycle x, home := s.home l f, role := x.role, progId := c.progId,
    data := memBytes x.dmem c.sealArea.off (Nat.min c.sealArea.len 4096) }

/-- SEAL: the local seal area becomes the record of this cycle, its CRC written last (R98); SEAL_CYCLE of the status
block follows it (R78). Outside the computing phase of the facet's cycle the buffer is read-only (R23): nothing is
written, and the write counts as one of a unit that is not the writer (R14, DEDUCED, log 64). -/
def State.sealNow (s : State) (l f : Nat) : State :=
  if s.inPhase l f then
    let r := sealClose (s.sealRec l f)
    let s := s.updProg l (s.home l f) fun p => { putSeal p r with sealed := true }
    s.updFacet l f fun x => { x with dmem := memPutNat x.dmem (aStatus + 0x14) 4 (r.cycle % 2 ^ 32) }
  else s.updLens l fun y => { y with fltWriter := sat32 y.fltWriter 1 }

/-- A facet fails during SEAL: the record stays without a good CRC (R105). -/
def State.sealCut (s : State) (l f : Nat) : State :=
  if s.inPhase l f then s.updProg l (s.home l f) fun p => putSeal p (s.sealRec l f) else s

/-- Restores the local seal area of a facet from a seal record, which is then its last good seal (R78). -/
def restoreArea (c : FacetCfg) (r : SealRec) (x : FacetSt) : FacetSt :=
  { x with dmem := memPutNat (memPut x.dmem c.sealArea.off r.data) (aStatus + 0x14) 4 (r.cycle % 2 ^ 32) }

/-- Writes the initialised data of an image into data memory. -/
def initData (c : FacetCfg) (m : List Host.Cell) : List Host.Cell :=
  c.data.foldl (fun m p => memSet m p.1 p.2) m

/-- The program's initialised data again, as for a cold start of it alone: the next cycle runs with FIRST_CYCLE (R114
step 2). The status block is the wake controller's. -/
def freshData (c : FacetCfg) (x : FacetSt) : FacetSt :=
  { x with dmem := initData c (memPut [] aStatus (memBytes x.dmem aStatus 64)), firstCycle := true }

/-! ## Outputs (R80, R176, R207) -/

/-- The output window of a program: the local output area, then image Q (R80). -/
def outputBytes (c : FacetCfg) (x : FacetSt) : List Byte :=
  memBytes x.dmem c.output.off c.output.len ++ memBytes x.dmem aQ 512

/-- The output window a program last wrote, of the buffer of cycle `n`. -/
def outWindow (p : ProgSt) (n : Nat) : List Byte :=
  match (if n % 2 = 0 then p.outWin0 else p.outWin1) with | some (_, b) => b | none => []

/-- A form code of R196. -/
def formOf (n : Nat) : Option Form :=
  match n with
  | 0 => some .block | 1 => some .bypass | 2 => some .insert | 3 => some .pulse | 4 => some .notch | _ => none

/-- The channel record of R214 at byte offset `off` of an output window; a form code above 0x04 is taken
as BLOCK and marked (R207). -/
def pwmRecord (w : List Byte) (off : Nat) : Command × Bool :=
  let r := bytesAt w off 8
  let v (i n : Nat) := leNat (bytesAt r i n)
  match formOf (v 0 1) with
  | some f => ({ form := f, a := v 2 2, b := v 4 2 }, false)
  | none => ({ form := .block }, true)

/-- The arm output record of R176 at byte offset `off`. -/
def armRecord (w : List Byte) (off n : Nat) (psc : Bool) : ArmOut :=
  let v (i k : Nat) := leNat (bytesAt w (off + i) k)
  { nOn := v 0 2, frac := v 2 2, iarmEst := signed 16 (v 4 2),
    duties := if psc then (List.range n).map fun i => v (8 + 2 * i) 2 % 32768 else [] }

/-- An OUTW that ends in time: the output window of buffer n mod 2, and what hardware takes from it at
once: arm output records of a lead facet and the records of local PWM channels. -/
def State.outwInTime (s : State) (l f : Nat) : State :=
  let h := s.home l f
  let c := s.fCfg l h
  let n := (s.progs.get (fKey l h)).cycle
  let w := outputBytes c (s.facets.get (fKey l f))
  let s := s.updProg l h fun p =>
    if n % 2 = 0 then { p with outWin0 := some (n, w), outDone := true }
    else { p with outWin1 := some (n, w), outDone := true }
  let s := s.each (s.leads l h) fun s a =>
    let ac := s.pkg.arms.get a
    s.updArm a fun x => { x with out := some (armRecord w ac.outOff ac.smCount ac.psc) }
  s.each (s.pwmList.filter fun i =>
      let pc := s.pkg.pwms.get i
      pc.srcFacet && pc.lens = l && pc.facet = h) fun s i =>
    let (cmd, bad) := pwmRecord w (8 * (s.pkg.pwms.get i).recOff)
    s.updPwm i fun p => { p with outws := (s.now, cmd, bad) :: p.outws }

/-- OUTW (R80): in time while the computing phase of the facet's cycle is open, else dropped and counted. -/
def State.outwNow (s : State) (l f : Nat) : State :=
  if s.inPhase l f then s.outwInTime l f
  else s.updLens l fun x => { x with lateOut := sat32 x.lateOut 1 }

/-! ## Loading and stopping programs -/

/-- Loads the program of home facet `h` into facet `f` and starts it cold: instruction words, initialised
data, FIRST_CYCLE, gated until its first wake. The Lens Steward writes the image into the staging region and the facet
control port reads it there (R13); a loop program's comes from the repair store, which holds the same image (R100). -/
def State.loadFacet (s : State) (l f h : Nat) : State :=
  let c := s.fCfg l h
  let s := s.updLens l fun y => { y with staging := some { home := h, code := c.code, data := c.data } }
  s.updFacet l f fun x =>
    { role := c.role, run := if c.role = .spare then .stopped else .gated, fault := x.fault, testFailed := x.testFailed,
      hostOf := if f = h then none else some h, dmem := initData c [], imem := c.code, firstCycle := true }

/-- Loads the program of home facet `h` where it belongs: on the facet that holds it, or on the lowest-numbered free
spare when that one is fenced; without a spare the lens fails (R11, R104, R481). -/
def State.loadAt (s : State) (l h : Nat) : State :=
  let f := s.host l h
  if (s.facets.get (fKey l f)).run = .fenced then
    match minList (s.lenses.get l).free with
    | some k => (s.loadFacet l k h).updLens l fun x => { x with free := x.free.filter (· ≠ k) }
    | none => s.lensFail l .noSpare
  else s.loadFacet l f h

/-- The declared spares of a lens that hold no program, are not fenced and are not being loaded by a repair (R11, R106,
R481). -/
def State.freeSpares (s : State) (l : Nat) : List Nat :=
  (s.pkg.lenses.get l).spares.filter fun f =>
    let x := s.facets.get (fKey l f)
    x.role = .spare && x.run ≠ .fenced && !s.fencedFlash.contains (fKey l f) &&
      (match (s.lenses.get l).repair with | some r => r.spare ≠ f | none => true)

/-- The free spares of a lens are judged again. -/
def State.fillFree (s : State) (l : Nat) : State := s.updLens l fun y => { y with free := s.freeSpares l }

/-- Forgets the seals and windows of a program that starts (R99); both output buffers start from an
image. -/
def State.resetProg (s : State) (l h : Nat) (img : List Byte) : State :=
  s.updProg l h fun p => { p with seal0 := {}, seal1 := {}, outWin0 := some (0, img), outWin1 := some (0, img),
                                  computing := false, outDone := false, sealed := false, nextTick := none,
                                  catchUp := false }

/-- The image changes: every bit that rises is a LOGIC trigger event (R378). -/
def risingBits (old new : List Byte) : List Nat :=
  (List.range (8 * new.length)).filter fun b =>
    ((new[b / 8]?).getD 0).getLsbD (b % 8) && !((old[b / 8]?).getD 0).getLsbD (b % 8)

/-- The committed output image of a program becomes `img`: station parts go to their mailboxes (R109,
R126), and rising bits are trigger events. -/
def State.commitImage (s : State) (p : Nat) (img : List Byte) : State :=
  let old := (s.logic.get p).image
  let s := s.updLogic p fun x => { x with image := img, committing := true, commitStart := s.now }
  let s := s.each (s.pkg.logic.get p).outputs fun s o =>
    s.placeOutput o.station (bytesAt img o.span.off o.span.len)
  s.each (risingBits old img) fun s b => s.perEvent 5 p b

/-! ## Hardware faults and repair (R101 to R105) -/

/-- Starts the repair of a failed facet: the lowest-numbered free spare and a checkpoint are needed (R102 step 2,
R104). With neither, the case reported is that no free spare remains (DESIGN CHOICE, log 65). The image of a program
other than a loop program goes into the staging region (R13, R102 step 3). -/
def State.beginRepair (s : State) (l : Nat) (r : Repair) : State :=
  match minList (s.lenses.get l).free with
  | none => s.lensFail l .noSpare
  | some sp =>
    if checkpoint (s.progs.get (fKey l r.home)) = none then s.lensFail l .noCheckpoint
    else s.updLens l fun x => { x with repair := some { r with spare := sp }, free := x.free.filter (· ≠ sp) }

/-- A repair that has been asked for: it begins, or waits for the one under way or for the Module Manager's return;
a failed Lens Steward repairs nothing (R15, R102). -/
def State.askRepair (s : State) (l : Nat) (r : Repair) : State :=
  let y := s.lenses.get l
  if y.stewardFailed then s
  else if y.repair.isSome ∨ s.mlk.mmDown then
    let r := { r with behind := r.behind || y.repair.isSome || y.waitRepair ≠ [] }
    s.updLens l fun y => { y with waitRepair := y.waitRepair ++ [r] }
  else s.beginRepair l r

/-- The repairs that wait begin in order of detection, one at a time; T_R of one that has waited behind another counts
from its own step 3, of any other from detection (R102). -/
def State.nextRepair (s : State) (l : Nat) : State :=
  let rs := (s.lenses.get l).waitRepair
  (s.updLens l fun x => { x with waitRepair := [] }).each rs fun s r =>
    s.askRepair l { r with start := if r.behind then s.now else r.start }

/-- A spare that is being loaded fails: step 2 is done again with the next one (R105); where none is left, the repairs
that wait behind this one begin. -/
def State.respare (s : State) (l : Nat) (r : Repair) : State :=
  let s := (s.updLens l fun x => { x with repair := none }).beginRepair l r
  if (s.lenses.get l).repair.isSome then s else s.nextRepair l

/-- A hardware fault of a facet (R101): it is halted and fenced; a free spare leaves the pool; a running
program is repaired, after the repair under way if there is one. A loop frame that has no result yet is counted
(R103). -/
def State.hwFault (s : State) (l f : Nat) (c : FFault) : State :=
  let x := s.facets.get (fKey l f)
  if x.run = .fenced then s
  else
    let h := s.home l f
    let q := s.progs.get (fKey l h)
    let runs := x.role ≠ .spare && (x.run = .active || x.run = .gated)
    let s := s.updFacet l f fun x => { x with run := .fenced, fault := c, testFailed := false }
    let s := { s with fencedFlash := if s.fencedFlash.contains (fKey l f) then s.fencedFlash
                                     else s.fencedFlash ++ [fKey l f] }
    let s := s.updLens l fun y => { y with free := y.free.filter (· ≠ f) }
    if runs then
      let s := if x.role = .loop ∧ q.computing ∧ ¬ q.outDone then
          s.updLens l fun y => { y with repairGap := sat32 y.repairGap 1 }
        else s
      s.askRepair l { failed := f, home := h, start := s.now, cycle := q.cycle, opened := q.computing }
    else match (s.lenses.get l).repair with
      | some r => if r.spare = f then s.respare l r else s
      | none => s

/-- A rolling self-test mismatch of an active facet: at the cycle boundary it is fenced and its program repaired
(R101, DEDUCED, log 66). -/
def State.atBoundary (s : State) (l f : Nat) : State :=
  if (s.facets.get (fKey l f)).testFailed then s.hwFault l f .selftestFail else s

/-- A facet that runs a program, between two of its cycles (R101). -/
def betweenCycles (x : FacetSt) : Bool := x.run = .gated && x.gate = .ended && !x.ticked

/-- The program of facet `f` stops, and it releases every lane it drives at that moment (R17). -/
def State.stopFacet (s : State) (l f : Nat) : State :=
  let h := s.home l f
  let s := s.updFacet l f fun x =>
    { x with run := if x.run = .fenced then .fenced else .stopped, stack := [], qTick := false, qStream := false,
             qMessage := false, ticked := false, began := false }
  let s := s.updProg l h fun q => { q with computing := false, nextTick := none, catchUp := false }
  (s.releaseAll (fKey l h)).atBoundary l f

/-- The program of home facet `h` is gone from the package: it stops, its facet holds no program, and a spare that ran
it is free again (R10, R11). -/
def State.clearFacet (s : State) (l h : Nat) : State :=
  let f := s.host l h
  let s := s.stopFacet l f
  if (s.facets.get (fKey l f)).run = .fenced then s
  else
    let s := s.updFacet l f fun _ => {}
    if f = h then s else s.updLens l fun y => { y with free := y.free ++ [f] }

/-- Lenses whose configuration changes need a test before a warm restart ends (R66). -/
def State.markChanged (s : State) (b : Package) : State :=
  let a := s.pkg
  let of_ (p : Package) (l : Nat) : List (Nat × FacetCfg) := p.facets.rows.filter fun r => r.1 / 64 = l
  let chains (p : Package) (l : Nat) : List (Nat × ChainCfg) := p.chains.rows.filter fun r => r.1 / 32 = l
  let slots (p : Package) (l : Nat) : List (Nat × SlotCfg) := p.slots.rows.filter fun r => r.1 / 256 = l
  s.each ((List.range lensCount).filter fun l =>
      of_ a l ≠ of_ b l || a.lenses.get l ≠ b.lenses.get l || chains a l ≠ chains b l || slots a l ≠ slots b l) fun s l =>
    s.updLens l fun y => { y with needsTest := true }

/-! ## On-line exchange of programs (R134, R136, R411) -/

/-- A package image whose FLAGS has RAISE_FLOOR raises the package floor (R411). -/
def State.raisePkgFloor (s : State) (i : Image) : State :=
  if i.raiseFloor then s.updObs fun o => { o with pkgFloor := Nat.max o.pkgFloor (Nat.min i.secver 127) } else s

/-- Once every exchange and removal has ended, the staged package is in force and PKG_COMMIT completes
with OK (R134, R429). -/
def State.exchFinish (s : State) : State :=
  match s.svc.staged with
  | none => s
  | some i =>
    let busy := (List.range 64).any fun p =>
      let x := s.logic.get p
      x.exchPending || x.exchStart.isSome || x.removeAsked ||
        ((i.body.logic.get p).present && !(s.pkg.logic.get p).present)
    if busy ∨ s.svc.exchLoops ≠ [] then s
    else
      let s := s.updSvc fun v => { v with pkg := i.body, staged := none }
      let s := s.updMlk fun m => { m with exchangeCycle := none, exchangeOf := none }
      let s := s.each ((List.range 16).filter fun l => s.unitOn (.lens l)) fun s l => s.fillFree l
      if s.svc.undoing then s.updSvc fun v => { v with undoing := false } else (s.raisePkgFloor i).svcEnd cOk 0

/-- The staged package's entries of program `p` come into force. -/
def State.swapLogic (s : State) (p : Nat) : State :=
  match s.svc.staged with
  | none => s
  | some i =>
    let c := i.body.logic.get p
    let k := fKey c.lens c.facet
    s.updSvc fun v => { v with pkg := { v.pkg with logic := v.pkg.logic.set p c,
                                                   facets := v.pkg.facets.set k (i.body.facets.get k) } }

/-- Package entry of program `p` in the staged package. -/
def State.stagedLogic (s : State) (p : Nat) : LogicCfg :=
  match s.svc.staged with | some i => i.body.logic.get p | none => s.pkg.logic.get p

/-- The home facet of `c` is that of no logic program but `p`. -/
def State.vacantFor (s : State) (p : Nat) (c : LogicCfg) : Bool :=
  match s.logicAt c.lens c.facet with | none => true | some q => q = p

/-- The instant of the exchange has come at the boundary before cycle `n` of program `p`, or before frame `n`: in a pair
both modules exchange at the recorded cycle (R136, R429); what is counted by no recorded cycle waits for the instant of the
plan. -/
def State.exchDue (s : State) (p : Option Nat) (n : Nat) : Bool :=
  !s.svc.sharing && (match s.mlk.exchangeCycle with
    | some k => if s.mlk.exchangeOf = p then decide (k ≤ n) else decide (s.svc.exchAt ≤ s.now)
    | none => decide (s.svc.exchAt ≤ s.now))

/-- The exchange of a program starts at its cycle boundary, once no repair runs in its lens (R134, R136) and the facet
that the staged package makes its home holds no other program (DEDUCED, log 91). -/
def State.startExch (s : State) (p : Nat) : State :=
  let x := s.logic.get p
  if x.exchPending ∧ s.exchDue (some p) (x.cycle + 1) ∧ (s.lenses.get (s.pkg.logic.get p).lens).repair = none ∧
      s.vacantFor p (s.stagedLogic p) then
    s.updLogic p fun x => { x with exchPending := false, exchStart := some s.now, st := .exchanging }
  else s

/-- STATE of LNSn_LC_STAT (R117). -/
def lstateCode : LState → Nat
  | .none => 0 | .stopped => 1 | .running => 2 | .stoppedOverrun => 3 | .stoppedFault => 4 | .exchanging => 5

/-- The local output area and image Q, from which OUTW copies, take an output image: outputs that the program does not
write keep their values (R80, R120, DEDUCED, log 75). -/
def putOutputs (c : FacetCfg) (img : List Byte) (x : FacetSt) : FacetSt :=
  let m := memPut x.dmem c.output.off (bytesAt img 0 c.output.len)
  { x with dmem := memPut m aQ (bytesAt img c.output.len 512) }

/-- A cold start of one logic program (R115, R121); the alarms of its stop end, and nothing is retained of it. Its output
window, and the area from which OUTW writes it, start from the declared initial image (R120). Its first SNAPSHOT starts at
once. -/
def State.logicColdStart (s : State) (p : Nat) : State :=
  let c := s.pkg.logic.get p
  let f := s.host c.lens c.facet
  let fc := s.fCfg c.lens c.facet
  let now := s.now
  let s := { s with slots64 := s.slots64.set p {} }
  let s := s.clearAlarm .logicStopped p
  let s := s.each (s.recs.evr.alarms.filter fun a => a.1 = Ev.programFault ∧ a.2 % 65536 = fKey c.lens f) fun s a =>
    s.clearAlarm a.1 a.2
  let s := (s.loadAt c.lens c.facet).resetProg c.lens c.facet c.initialImage
  let s := s.updFacet c.lens (s.host c.lens c.facet) fun x => putOutputs fc c.initialImage x
  let s := s.updProg c.lens c.facet fun q => { q with nextTick := some now }
  let s := s.each (s.logic.get p).startBy fun s j => s.complete j cOk (lstateCode .running)
  s.updLogic p fun x => { x with startBy := [], st := .running, phase := .idle, consec := 0, commitSeal := none,
                                 startAsked := false, stopAsked := false, safeDue := none, warm := false,
                                 commitDue := false, wdogExt := 0, image := c.initialImage }

/-- A program that the staged package adds, or whose home it moves while the program is stopped, comes onto its facet, which
no other program has: it starts cold where the package declares it running (R136), and one that was stopped stays so. -/
def State.startAdded (s : State) (p : Nat) : State :=
  let c := s.stagedLogic p
  let st := (s.logic.get p).st
  let s := (s.clearFacet c.lens c.facet).swapLogic p
  let s := s.updLens c.lens fun y => { y with free := y.free.filter (· ≠ s.host c.lens c.facet) }
  if ¬ s.unitOn (.lens c.lens) then s
  else if st = .none ∧ c.declaredRunning then s.logicColdStart p
  else
    let s := (s.loadAt c.lens c.facet).resetProg c.lens c.facet c.initialImage
    (s.stopFacet c.lens (s.host c.lens c.facet)).updLogic p fun x =>
      { x with st := if st = .none then .stopped else st, phase := .idle, commitSeal := none
               image := if st = .none then c.initialImage else x.image }

/-- A facet that no logic program has any more takes what the staged package puts there: an added logic program, or a
loop program (R10, R136). -/
def State.settle (s : State) (l h : Nat) : State :=
  match s.svc.staged with
  | none => s
  | some i =>
    let here (p : Nat) : Bool :=
      let c := i.body.logic.get p
      c.present && c.lens = l && c.facet = h && !(s.pkg.logic.get p).present
    match (List.range 64).find? here with
    | some p => s.startAdded p
    | none =>
      let c := i.body.facets.get (fKey l h)
      if c.role = .loop then
        let s := s.updSvc fun v => { v with pkg := { v.pkg with facets := v.pkg.facets.set (fKey l h) c } }
        if s.unitOn (.lens l) then (s.resetProg l h []).loadAt l h else s
      else s

/-- The program's package entries are gone, and its facet holds none (R10). -/
def State.leaveHome (s : State) (p : Nat) : State :=
  let c := s.pkg.logic.get p
  let s := s.clearFacet c.lens c.facet
  let s := { s with progs := s.progs.set (fKey c.lens c.facet) {} }
  s.updSvc fun v => { v with pkg := { v.pkg with logic := v.pkg.logic.set p {}
                                                 facets := v.pkg.facets.set (fKey c.lens c.facet) {} } }

/-- A removed program is gone: its facet holds none, or what the staged package puts there (R10, R136). -/
def State.dropLogic (s : State) (p : Nat) : State :=
  let c := s.pkg.logic.get p
  (s.leaveHome p).settle c.lens c.facet

/-- The staged package makes another facet the home of program `p`: what the program has in lens memory and what waits
for it moves with it, and it lies on its new home, or on a spare where that is fenced (R10, R481, DEDUCED, log 91). -/
def State.moveHome (s : State) (p : Nat) : State :=
  let oc := s.pkg.logic.get p
  let nc := s.stagedLogic p
  let q := s.progs.get (fKey oc.lens oc.facet)
  let x := s.facets.get (fKey oc.lens (s.host oc.lens oc.facet))
  let s := (((s.leaveHome p).clearFacet nc.lens nc.facet).swapLogic p).settle oc.lens oc.facet
  if ¬ s.unitOn (.lens nc.lens) then s
  else
    let s := s.loadAt nc.lens nc.facet
    let f := s.host nc.lens nc.facet
    let s := s.updFacet nc.lens f fun y =>
      { y with qStream := x.qStream, streamAt := x.streamAt, qMessage := x.qMessage, messageAt := x.messageAt }
    (s.updLens nc.lens fun y => { y with free := y.free.filter (· ≠ f) }).updProg nc.lens nc.facet fun _ => q

/-- A stopped program has its image replaced at once, and stays stopped (R136). -/
def State.replaceStopped (s : State) (p : Nat) : State :=
  let oc := s.pkg.logic.get p
  let nc := s.stagedLogic p
  if oc.lens = nc.lens ∧ oc.facet = nc.facet then
    let s := s.swapLogic p
    if ¬ s.unitOn (.lens nc.lens) then s
    else
      let s := s.loadAt nc.lens nc.facet
      s.stopFacet nc.lens (s.host nc.lens nc.facet)
  else
    let s := s.dropLogic p
    if s.vacantFor p nc ∧ ¬ (s.pkg.logic.get p).present then s.startAdded p else s

/-- The final COMMIT of the safe output image, and the state it leaves (R115, R116). CONSEC_OVR keeps the value at which
the program stopped (DESIGN CHOICE, log 72). A stopped program's image is replaced at once, and a removed program is
gone (R136). -/
def State.finalCommit (s : State) (p : Nat) (st : LState) : State :=
  let old := s.logic.get p
  let s := s.updLogic p fun x =>
    { x with st := if x.removeAsked then .none else st, phase := .idle, safeDue := none, commitDue := false,
             stopAsked := false, removeAsked := false, exchPending := false, exchStart := none }
  let s := s.commitImage p (s.pkg.logic.get p).safeImage
  let s := s.each old.stopBy fun s j => s.complete j cOk (lstateCode (s.logic.get p).st)
  let s := s.updLogic p fun x => { x with stopBy := [] }
  let s := if st = .stopped then s else s.alarm .logicStopped p
  if old.removeAsked then
    let s := s.each old.startBy fun s j => s.complete j cInvalid 0
    let s := s.updLogic p fun x => { x with startBy := [], startAsked := false }
    (s.dropLogic p).exchFinish
  else if old.exchPending ∨ old.exchStart.isSome then (s.replaceStopped p).exchFinish
  else s

/-- Stops a logic program: its facet holds no running program, its lanes are released, and the safe image
is committed once no COMMIT is in progress (R112, R115); the lens may rest (R34). -/
def State.logicStop (s : State) (p : Nat) (st : LState) : State :=
  let c := s.pkg.logic.get p
  let s := s.stopFacet c.lens (s.host c.lens c.facet)
  let s := if (s.logic.get p).committing then
      s.updLogic p fun x => { x with safeDue := some st, phase := .ended, commitDue := false }
    else s.finalCommit p st
  s.lensRest c.lens

def faultCode : FFault → Nat
  | .none => 0 | .sramUncorr => 1 | .fetchParity => 2 | .wakeFail => 3 | .selftestFail => 4
  | .illegalOp => 8 | .nestFault => 9 | .addrRange => 0xA

/-- A program fault (R101): the program stops and releases its lanes (R17); PROGRAM_FAULT names the facet
and the cause; a logic program commits its safe image (R116). -/
def State.programFault (s : State) (l f : Nat) (c : FFault) : State :=
  let h := s.home l f
  let s := (s.updFacet l f fun x => { x with fault := c }).stopFacet l f
  let s := s.alarm .programFault (fKey l f + 65536 * faultCode c)
  let s := match s.logicAt l h with
    | some p => s.logicStop p .stoppedFault
    | none => s
  s.lensRest l

/-! ## Running one instruction -/

/-- The facet can execute: ACTIVE in a lens in RUN. -/
def State.running (s : State) (l f : Nat) : Bool :=
  (s.facets.get (fKey l f)).run = .active && (s.lenses.get l).pstate = .run

/-- Runs an instruction that touches only its facet: the program counter moves to the next word (R82), or
the program faults. A facet that is not executing takes nothing. -/
def State.facetOp (s : State) (l f : Nat) (g : FacetSt → FRes) : State :=
  if s.running l f then
    match g (s.facets.get (fKey l f)) with
    | .ok x => s.updFacet l f fun y => { x with pc := y.pc + 1 }
    | .error e => s.programFault l f e
  else s

/-- As `facetOp`, for a jump that sets the program counter itself. -/
def State.facetJump (s : State) (l f : Nat) (g : FacetSt → FRes) : State :=
  if s.running l f then
    match g (s.facets.get (fKey l f)) with
    | .ok x => s.updFacet l f fun _ => x
    | .error e => s.programFault l f e
  else s

/-- Runs a system instruction: `bad` names its program fault; else the program counter moves on and the
module does `g`. -/
def State.facetSys (s : State) (l f : Nat) (bad : Option FFault) (g : State → State) : State :=
  if s.running l f then
    match bad with
    | some e => s.programFault l f e
    | none => g (s.updFacet l f fun x => { x with pc := x.pc + 1 })
  else s

/-! ## End of a work item -/

/-- The output window that a facet's program wrote last, and its cycle. -/
def lastWindow (p : ProgSt) : Nat × List Byte :=
  match p.outWin0, p.outWin1 with
  | some a, some b => if a.1 < b.1 then b else a
  | some a, none => a
  | none, some b => b
  | none, none => (0, [])

/-- A Loupe sample: the 8 nodes of the program's data memory (R392). -/
def loupeNodes (b : LoupeSt) (x : FacetSt) : List Half :=
  b.nodes.toList.map fun k => BitVec.ofNat 16 (memNat x.dmem (2 * k.toNat) 2)

/-- A node crosses the threshold in direction DIR between two samples (R378, R393). -/
def crosses (dir : Nat) (th a b : Int) : Bool :=
  let up := decide (a < th ∧ th ≤ b)
  let down := decide (a > th ∧ th ≥ b)
  match dir with | 0 => up | 1 => down | _ => up || down

/-- Takes a sample into a Loupe buffer (R393). -/
def loupeTake (ts : Nat) (nodes : List Half) (b : LoupeSt) : LoupeSt :=
  let val (v : List Half) : Int := ((v[b.node]?).getD 0).toInt
  let hit := b.type = 2 && (match b.samples with
    | p :: _ => crosses b.dir b.thresh.toInt (val p) (val nodes) | [] => false)
  let b := { b with samples := (nodes :: b.samples).take 4096 }
  match b.st with
  | .filling =>
    let b := if hit then { b with prefillSupp := true } else b
    if b.pre ≤ b.samples.length then { b with st := .armed } else b
  | .armed =>
    if hit then
      let n := 4096 - b.pre - 1
      { b with st := if n = 0 then .done else .capturing, left := n, trigIndex := b.pre, ts := ts,
               samples := b.samples.take (b.pre + 1) }
    else b
  | .capturing =>
    let first := b.forced
    let n := b.left - 1
    { b with left := n, st := if n = 0 then .done else .capturing, forced := false,
             ts := if first then ts else b.ts,
             samples := if first then b.samples.take (b.pre + 1) else b.samples }
  | _ => { b with samples := [] }

/-- Samples the Loupe buffers that follow the program of home facet `h`, at the END of every DIV-th work
item that began with a cycle tick (R392). -/
def State.loupeSample (s : State) (l f h : Nat) : State :=
  let x := s.facets.get (fKey l f)
  s.each (List.range 4) fun s b =>
    let u := s.recs.loupes.get (l * 4 + b)
    if u.facet = h ∧ (u.st = .filling ∨ u.st = .armed ∨ u.st = .capturing) then
      let n := u.divCount + 1
      if Nat.max u.div 1 ≤ n then
        s.updLoupe l b fun u => loupeTake s.ts (loupeNodes u x) { u with divCount := 0 }
      else s.updLoupe l b fun u => { u with divCount := n }
    else s

/-- The local seal area returns to the last committed cycle, or the image's initialised data with
FIRST_CYCLE when no cycle has committed; any seal of the cycle is invalidated (R114 steps 1 to 3). The next cycle is the
first after a restore (R85), and its SNAPSHOT starts when the restore ends (R110). -/
def State.logicRestore (s : State) (p : Nat) : State :=
  let c := s.pkg.logic.get p
  let f := s.host c.lens c.facet
  let fc := s.fCfg c.lens c.facet
  let x := s.logic.get p
  let s := (s.loseSeal c.lens c.facet x.cycle).updProg c.lens c.facet fun q =>
    { q with computing := false, outDone := false, nextTick := some s.now }
  let s := s.updFacet c.lens f fun y =>
    let y := { y with run := if y.run = .active then .gated else y.run, gate := .ended, stack := [], ticked := false,
                      firstCycle := false, replayed := false, restored := x.commitSeal.isSome }
    match x.commitSeal with
    | some r => restoreArea fc r y
    | none => freshData fc y
  (s.updLogic p fun x => { x with phase := .restore, commitDue := false }).atBoundary c.lens f

/-- Cycle time of the last cycle in 0.1 µs units, rounded up (R117). -/
def State.noteLast (s : State) (p ns : Nat) : State :=
  s.updLogic p fun x => { x with last := ceilDiv ns 100, max := Nat.max x.max (ceilDiv ns 100) }

/-- EXECUTE of a logic cycle ends (R109, R111, R116): with an output in time its COMMIT is due; without
one the cycle is skipped with LOGIC_NO_OUTPUT. A program that LOGIC_CTRL has asked to stop during EXECUTE stops then too:
the spec does not say what a stop does whose cycle makes no COMMIT (DESIGN CHOICE, log 92). -/
def State.logicEnd (s : State) (p : Nat) : State :=
  let c := s.pkg.logic.get p
  let x := s.logic.get p
  let q := s.progs.get (fKey c.lens c.facet)
  if x.phase ≠ .execute then s
  else
    let s := (s.noteLast p (s.now - x.snapStart)).updLogic p fun x => { x with execEnd := s.now, wdogExt := 0 }
    let s := s.updProg c.lens c.facet fun q =>
      { q with computing := false, nextTick := some (x.snapStart + c.minPeriodUs * 1000) }
    if q.outDone then (s.updLogic p fun x => { x with phase := .ended, commitDue := true }).startExch p
    else
      let s := (s.logicRestore p).event .logicNoOutput p
      if x.stopBy ≠ [] then s.logicStop p .stopped else s

/-- Protection slice whose facets include (l, h). -/
def State.protAt (s : State) (l h : Nat) : Option Nat :=
  (List.range 64).find? fun i =>
    let c := s.pkg.prots.get i
    c.present && c.lens = l && c.facets.contains h

/-- A member's value in an output window (R160, log 14). -/
def memberVal (w : List Byte) (m : GooseMember) : GooseVal :=
  match m.kind with
  | .boolean => .boolean (leNat (bytesAt w m.off 1) ≠ 0)
  | .bitString n => .bits n (leNat (bytesAt w m.off 8) % 2 ^ n)
  | .int32 => .int32 (signed 32 (leNat (bytesAt w m.off 4)))
  | .quality => .quality (leNat (bytesAt w m.off 2) % 2 ^ 13)
  | .timestamp => .timestamp (leNat (bytesAt w m.off 8))

/-- ISSUE takes the members of a GOOSE dataset (R153). A dataset that differs from the one last sent has changed: new
members, or a lane released since the frame of its rise, goes out under a further stNum (R160, R161, log 81). -/
def State.issueGoose (s : State) (g n : Nat) : State :=
  let c := s.pkg.gps.get g
  let w := outWindow (s.progs.get (fKey c.lens c.facet)) n
  let s := s.updGp g fun p => { p with members := c.members.map (memberVal w) }
  if s.dataset g = (s.gps.get g).data then s else s.gpChange g

/-- ISSUE and SEAL of a protection cycle, once EVALUATE has ended on every facet of the slice (R153):
reports, ordinary GOOSE datasets and published values come from the output window, and the epoch closes. A cycle
without an output in time is a missed phase: no ISSUE and no epoch (R26, R80). -/
def State.protIssue (s : State) (i : Nat) : State :=
  let c := s.pkg.prots.get i
  let p := s.prots.get i
  let missed := c.facets.any fun f => !(s.progs.get (fKey c.lens f)).outDone
  let s := s.updProt i fun p => { p with evaluating := false, consecOvr := 0 }
  let s := s.clearAlarm .protDegraded i
  if missed then s.each c.facets fun s f => s.loseSeal c.lens f p.cycle
  else
    let its := c.facets.filterMap fun f => (checkpoint (s.progs.get (fKey c.lens f))).map fun r =>
      Item.facetSeal c.lens f r
    let s := s.emits (c.facets.map fun f =>
      .report c.lens f p.cycle (outWindow (s.progs.get (fKey c.lens f)) p.cycle))
    let s := s.each ((List.range 64).filter fun g =>
        let gc := s.pkg.gps.get g
        gc.en && gc.lens = c.lens && c.facets.contains gc.facet) fun s g => s.issueGoose g p.cycle
    let s := s.each (List.range 128) fun s k =>
      let v := s.pkg.svPubs.get k
      if v.en ∧ v.lens = c.lens ∧ c.facets.contains v.facet then
        let w := outWindow (s.progs.get (fKey v.lens v.facet)) p.cycle
        { s with svPubs := s.svPubs.upd k fun x => { x with values := w, renewed := true } }
      else s
    s.closeEpoch .protection c.lens p.cycle (tsOf p.evalTai) i its

/-- EVALUATE of cycle `n` begins on a protection facet: its cycle tick (R152, R153). While RUN is being cleared no further
cycle begins: the program stops at this boundary (R58). -/
def State.protBegin (s : State) (l h n : Nat) : State :=
  if s.glb.halting then (s.stopFacet l (s.host l h)).updProg l h fun q => { q with outDone := false }
  else (s.updProg l h fun q => { q with cycle := n, computing := true, outDone := false, sealed := false }).raise
    l h .tick

/-- EVALUATE ends on a protection facet. A spare that replays an earlier cycle goes on with the next one,
back to back, until it has caught up; where the input buffer of that one has been reused, the cycles that cannot be run
are counted and the facet goes on at the next tick (R103). -/
def State.protEnd (s : State) (i h : Nat) : State :=
  let c := s.pkg.prots.get i
  let p := s.prots.get i
  let n := (s.progs.get (fKey c.lens h)).cycle
  let s := s.updProg c.lens h fun q => { q with computing := false }
  if n + 2 < p.cycle then
    (s.updProg c.lens h fun q => { q with cycle := p.cycle, catchUp := false }).updLens c.lens fun x =>
      { x with repairGap := sat32 x.repairGap (p.cycle - n) }
  else if n < p.cycle then s.protBegin c.lens h (n + 1)
  else
    let s := s.updProg c.lens h fun q => { q with catchUp := false }
    let busy := c.facets.any fun f => f ≠ h && (s.progs.get (fKey c.lens f)).computing
    if p.evaluating ∧ ¬ busy then s.protIssue i else s

/-- END (R81, R87): the Loupe samples, the status bits of the cycle end, the role's phase ends with the work item that
took its tick, the facet gates, a queued event wakes it again, and the lens may rest. FIRST_CYCLE, REPLAYED and
RESTORED last for one cycle (R85): a Focus assistant, which has no tick, ends its own with each work item (log 62). -/
def State.endNow (s : State) (l f : Nat) : State :=
  let h := s.home l f
  let x := s.facets.get (fKey l f)
  let s := if x.began then s.loupeSample l f h else s
  let last : Bool := x.ticked || decide (x.role = .focusAssist)
  let s := (s.consume l f).updFacet l f fun x =>
    { x with run := .gated, gate := .ended, ticked := false, began := false,
             firstCycle := x.firstCycle && !last, replayed := x.replayed && !last, restored := x.restored && !last }
  let s := if x.ticked then
      match s.logicAt l h with
      | some p => s.logicEnd p
      | none => match s.protAt l h with
        | some i => s.protEnd i h
        | none => s
    else s
  ((s.atBoundary l f).takeQueued l f).lensRest l

end Sys2Proof.Machine
end

