-- ==== Sys2Proof/Machine/Logic.lean ====
section
/-! DEFINITION. The cycle of a logic program: SNAPSHOT, COMMIT, watchdog, restore and on-line exchange
(R108 to R116, R124, R125, R134 to R136, R480). -/

namespace Sys2Proof.Machine

/-! ## SNAPSHOT (R109, R124, R125, R480) -/

/-- AGE_US of a station's image (R125, R129). The receive time of a station that has sent no group is not
stated, so its age is then a free value. -/
def State.stnAge (s : State) (i : Nat) : Nat × State :=
  if (s.stnCfg i).inLen = 0 then (0xFFFFFFFF, s)
  else match (s.stns.get i).rxTime with
    | some t => (Nat.min (s.tai / 1000 - t / 1000) 0xFFFFFFFF, s)
    | none => let (v, s) := s.free; (v.toNat % 2 ^ 32, s)

/-- STATE of a station status record and of FBC_STN_STAT. -/
def stnCode : StnState → Nat | .present => 0 | .missing => 1 | .absent => 2 | .unused => 3

/-- The status record of a station (R125). -/
def State.stnRecord (s : State) (i age : Nat) : List Byte :=
  let t := s.stns.get i
  leBytes 4 age ++ [BitVec.ofNat 8 (stnCode t.st), BitVec.ofNat 8 t.missed,
    BitVec.ofNat 8 (if (s.stnCfg i).inLen = 0 then 0 else t.gseq), 0]

/-- The enabled conditioner of an input bit. -/
def State.condOf (s : State) (i b : Nat) : Option Nat :=
  s.pkg.conds.keys.find? fun j =>
    let c := s.pkg.conds.get j
    c.en && c.station = i && c.bit = b

def qualCode : Quality → Nat | .good => 0 | .invalid => 1 | .oscillatory => 2

/-- The image of a station as SNAPSHOT copies it: conditioned bits carry their delivered value. -/
def State.stnImage (s : State) (i : Nat) : List Byte :=
  let im := bytesAt (s.stns.get i).image 0 (s.stnCfg i).inLen
  (s.pkg.conds.keys.filter fun j => (s.pkg.conds.get j).en && (s.pkg.conds.get j).station = i).foldl
    (fun im j =>
      let b := (s.pkg.conds.get j).bit
      im.modify (b / 8) fun x =>
        if (s.conds.get j).value then x ||| (1#8 <<< (b % 8)) else x &&& ~~~(1#8 <<< (b % 8))) im

/-- Quality of input bit `b` of station `i` (R480). -/
def State.bitQuality (s : State) (i b : Nat) : Nat :=
  match s.condOf i b with
  | some j => qualCode (s.conds.get j).quality
  | none => if (s.stns.get i).st = .present then 0 else 1

/-- The part of a station in the quality image: 2 bits per input bit (R480). -/
def State.stnQuality (s : State) (i : Nat) : List Byte :=
  (List.range (2 * (s.stnCfg i).inLen)).map fun k =>
    BitVec.ofNat 8 (s.bitQuality i (4 * k) + 4 * s.bitQuality i (4 * k + 1) + 16 * s.bitQuality i (4 * k + 2)
      + 64 * s.bitQuality i (4 * k + 3))

/-- Copies one station into the cycle's snapshot. -/
def State.copyStn (s : State) (p i : Nat) : State :=
  let (age, s) := s.stnAge i
  let r := s.stnRecord i age
  let im := s.stnImage i
  let q := s.stnQuality i
  s.updLogic p fun x => { x with copied := x.copied ++ r, copiedImgs := x.copiedImgs ++ im,
                                 copiedQual := x.copiedQual ++ q, copiedN := x.copiedN + 1 }

/-- SNAPSHOT of the next cycle starts; its first station is copied at once (R124). -/
def State.snapStart (s : State) (p : Nat) : State :=
  let c := s.pkg.logic.get p
  let s := s.updLogic p fun x =>
    { x with phase := .snapshot, cycle := x.cycle + 1, snapStart := s.now, copied := [], copiedImgs := [],
             copiedQual := [], copiedN := 0 }
  match c.stations with
  | i :: _ => s.copyStn p i
  | [] => s

/-- A logic program cycles while it is RUNNING or EXCHANGING and its lens is ON (R478); a standby runs none
(R362). -/
def State.cycles (s : State) (p : Nat) : Bool :=
  let c := s.pkg.logic.get p
  let x := s.logic.get p
  c.present && (x.st = .running || x.st = .exchanging) && s.unitOn (.lens c.lens) && s.glb.phase = .running
    && (s.mlk.role = .active || s.mlk.role = .offline) && !(s.glb.halting && x.phase = .idle)

/-- LOGIC_SNAPSHOT_START (R110): at the later of the minimum period after the last SNAPSHOT and the start
of COMMIT; at once for the first cycle. -/
def execLogicSnapshotStart (p : Fin 64) (s : State) : Res :=
  let x := s.logic.get p
  .next (if ¬ s.cycles p then s
    else match x.phase with
    | .idle => s.snapStart p
    | .ended =>
      if x.commitDue ∨ x.safeDue.isSome then s
      else (s.upTo (x.snapStart + (s.pkg.logic.get p).minPeriodUs * 1000)).snapStart p
    | _ => s)

/-- LAST_US of every timer that a warm restart restored becomes TIME_US of the first cycle (R120). -/
def State.retimeTimers (s : State) (p : Nat) : State :=
  let c := s.pkg.logic.get p
  if (s.logic.get p).retime then
    let own (i : Nat) : Bool := c.retain.any fun r =>
      decide (r.2.off ≤ aTimer + 16 * i + 8 ∧ aTimer + 16 * i + 12 ≤ r.2.off + r.2.len)
    let t := s.timeUs
    let s := s.updFacet c.lens (s.host c.lens c.facet) fun x =>
      { x with dmem := ((List.range 256).filter own).foldl (fun m i => memPutNat m (aTimer + 16 * i + 8) 4 t) x.dmem }
    s.updLogic p fun x => { x with retime := false }
  else s

/-- EXECUTE begins: the home facet receives its cycle tick (R109). -/
def State.execBegin (s : State) (p : Nat) : State :=
  let c := s.pkg.logic.get p
  let s := (s.retimeTimers p).updLogic p fun x => { x with phase := .execute, tickTs := s.ts }
  let s := s.updProg c.lens c.facet fun q =>
    { q with cycle := (s.logic.get p).cycle, computing := true, outDone := false, sealed := false }
  s.raise c.lens c.facet .tick

/-- LOGIC_SNAPSHOT_DONE (R109, R125): the remaining stations are copied, all at this instant, since no row gives the
instants at which their copies start (R124, DESIGN CHOICE, log 71); the input buffer n mod 2 holds the records, the images
and the quality image. EXECUTE waits for an exchange under way (R134). -/
def execLogicSnapshotDone (p : Fin 64) (s : State) : Res :=
  let c := s.pkg.logic.get p
  .next (if (s.logic.get p).phase ≠ .snapshot ∨ ¬ s.cycles p then s
    else
      let s := s.each (c.stations.drop (s.logic.get p).copiedN) fun s i => s.copyStn p i
      let x := s.logic.get p
      let w := x.copied ++ x.copiedImgs ++ x.copiedQual
      let s := s.updProg c.lens c.facet fun q =>
        if x.cycle % 2 = 0 then { q with inWin0 := w } else { q with inWin1 := w }
      if x.exchStart.isSome then s.updLogic p fun x => { x with phase := .ready } else s.execBegin p)

/-! ## COMMIT (R109, R112, R126) -/

/-- COMMIT of a cycle starts: the output image is frozen, CONSEC_OVR is 0, and the cycle's epoch closes
(R109, R115, R356). -/
def State.commitCycle (s : State) (p : Nat) : State :=
  let c := s.pkg.logic.get p
  let x := s.logic.get p
  let q := s.progs.get (fKey c.lens c.facet)
  let k := checkpoint q
  let img := outWindow q x.cycle
  let s := s.updLogic p fun x => { x with commitDue := false, consec := 0, commitSeal := k }
  let s := s.commitImage p img
  let its := (if q.sealed then k.toList.map (Item.facetSeal c.lens c.facet) else []) ++ [Item.logicOut p img]
  let s := if q.sealed then s.closeEpoch .logic c.lens x.cycle x.tickTs p its else s
  if (s.logic.get p).stopAsked then s.logicStop p .stopped else s

/-- LOGIC_COMMIT_START (R112): once the prior COMMIT has ended, of the cycle that has ended or of the safe
output image. -/
def execLogicCommitStart (p : Fin 64) (s : State) : Res :=
  let x := s.logic.get p
  .next (if x.committing then s
    else if x.commitDue then s.commitCycle p
    else match x.safeDue with
    | some st => s.finalCommit p st
    | none => s)

/-- LOGIC_COMMIT_DONE (R109, R116): every mailbox is written; a start asked for during the final COMMIT
begins now. -/
def execLogicCommitDone (p : Fin 64) (s : State) : Res :=
  .next (if ¬ (s.logic.get p).committing then s
    else
      let s := s.updLogic p fun x => { x with committing := false }
      let x := s.logic.get p
      if x.startAsked ∧ x.safeDue = none ∧ x.st ≠ .running ∧ (s.pkg.logic.get p).present then s.logicColdStart p else s)

/-! ## Watchdog (R113, R114) -/

/-- A repair of the program's facet is under way or waits. -/
def State.inRepair (s : State) (l h : Nat) : Bool :=
  (match (s.lenses.get l).repair with | some r => r.home = h | none => false) ||
    (s.lenses.get l).waitRepair.any fun r => r.home = h

/-- LOGIC_WATCHDOG_EXPIRY (R114, R115, R117): the cycle overruns; the facet is halted and restored, no COMMIT
is made, and the 8th overrun in a row stops the program. A repair or an exchange extends the watchdog. A program that
LOGIC_CTRL has asked to stop during this EXECUTE stops (DESIGN CHOICE, log 92); one that the package removes, or that
stops since RUN is cleared, waits for its next COMMIT (R58, R136). -/
def execLogicWatchdogExpiry (p : Fin 64) (s : State) : Res :=
  let c := s.pkg.logic.get p
  let x := s.logic.get p
  .next (if ¬ s.cycles p ∨ ¬ (x.phase = .snapshot ∨ x.phase = .ready ∨ x.phase = .execute) ∨
      s.inRepair c.lens c.facet ∨ (x.phase = .ready ∧ x.exchStart.isSome) then s
    else
      let s := s.upTo (x.snapStart + c.watchdogUs * 1000 + x.wdogExt)
      let s := s.logicRestore p
      let s := s.updLogic p fun x =>
        { x with overrun := true, consec := x.consec + 1, ovr := sat32 x.ovr 1, last := c.watchdogUs * 10,
                 max := Nat.max x.max (c.watchdogUs * 10), wdogExt := 0, execEnd := s.now }
      let s := s.event .overrun p
      if 8 ≤ x.consec + 1 then s.logicStop p .stoppedOverrun
      else if x.stopBy ≠ [] then s.logicStop p .stopped
      else s.lensRest c.lens)

/-- LOGIC_RESTORE_DONE (R114 step 5, R116): the restore ends; an exchange that waits starts, and the next
SNAPSHOT starts. -/
def execLogicRestoreDone (p : Fin 64) (s : State) : Res :=
  .next (if (s.logic.get p).phase ≠ .restore ∨ ¬ s.cycles p then s else (s.startExch p).snapStart p)

/-! ## On-line exchange (R134 to R136) -/

/-- Bytes of a data memory copied from one address of `old` to another of `new`. -/
def carry (old new : List Host.Cell) (src dst n : Nat) : List Host.Cell := memPut new dst (memBytes old src n)

/-- Carries one instance of the state map (R135): everything but PRESET. -/
def carryInstance (old new : List Host.Cell) (kind src dst : Nat) : List Host.Cell :=
  match kind with
  | 0 => carry old new (aTimer + 16 * src + 4) (aTimer + 16 * dst + 4) 12
  | 1 => carry old (carry old new (aCounter + 16 * src) (aCounter + 16 * dst) 4)
      (aCounter + 16 * src + 8) (aCounter + 16 * dst + 8) 8
  | _ => memSetBit new aEdge dst (memBit old aEdge src)

/-- Empties one instance that only the new program has: all fields 0 except PRESET (R135). -/
def clearInstance (m : List Host.Cell) (kind dst : Nat) : List Host.Cell :=
  match kind with
  | 0 => memPut m (aTimer + 16 * dst + 4) (List.replicate 12 0)
  | 1 => memPut (memPut m (aCounter + 16 * dst) (List.replicate 4 0)) (aCounter + 16 * dst + 8)
      (List.replicate 8 0)
  | _ => memSetBit m aEdge dst false

/-- PRESET of an instance as another memory holds it (R135). -/
def carryPreset (src m : List Host.Cell) (kind i : Nat) : List Host.Cell :=
  match kind with
  | 0 => carry src m (aTimer + 16 * i) (aTimer + 16 * i) 4
  | 1 => carry src m (aCounter + 16 * i + 4) (aCounter + 16 * i + 4) 4
  | _ => m

/-- The data memory of the new program: its initialised data, with RETAIN variables of the same identity and size kept
and the state map applied (R135); PRESET is always the new program's. The image I and the status block stay. -/
def exchangeData (old : List Host.Cell) (oc nc : LogicCfg) (fc : FacetCfg) : List Host.Cell :=
  let new := initData fc []
  let m := carry old new aI aI 512
  let m := carry old m aStatus aStatus 64
  let m := nc.retain.foldl (fun m r =>
    match oc.retain.find? fun o => o.1 = r.1 && o.2.len = r.2.len with
    | some o => carry old m o.2.off r.2.off r.2.len
    | none => m) m
  nc.instances.foldl (fun m n =>
    let m := carryPreset new m n.kind n.index
    match oc.instances.find? fun o => o.kind = n.kind && o.ident = n.ident with
    | some o => carryInstance old m n.kind o.index n.index
    | none => clearInstance m n.kind n.index) m

/-- LOGIC_EXCHANGE_DONE (R134, R135): the Lens Steward has staged the new image (R13), the new instructions and data are
in place, FIRST_CYCLE is set, and the watchdog of the next cycle is extended by the exchange time. The seal that the
program would be restored from becomes that of the exchanged state. A program whose home the package moves goes on
there. -/
def execLogicExchangeDone (p : Fin 64) (s : State) : Res :=
  .next (match (s.logic.get p).exchStart, s.svc.staged with
  | some t, some img =>
    let oc := s.pkg.logic.get p
    let nc := img.body.logic.get p
    let fc := img.body.facets.get (fKey nc.lens nc.facet)
    let old := (s.facets.get (fKey oc.lens (s.host oc.lens oc.facet))).dmem
    let x := s.logic.get p
    let s := if oc.lens = nc.lens ∧ oc.facet = nc.facet then s.swapLogic p else s.moveHome p
    let f := s.host nc.lens nc.facet
    let s := s.updLens nc.lens fun y => { y with staging := some { home := nc.facet, code := fc.code, data := fc.data } }
    let s := s.updFacet nc.lens f fun y =>
      { y with dmem := exchangeData old oc nc fc, imem := fc.code, firstCycle := true }
    let area := memBytes (s.facets.get (fKey nc.lens f)).dmem fc.sealArea.off (Nat.min fc.sealArea.len 4096)
    let fresh (r : SealRec) : SealRec := sealClose { r with data := area, progId := fc.progId }
    let s := s.updProg nc.lens nc.facet fun q =>
      { q with seal0 := { q.seal0 with record := q.seal0.record.map fresh },
               seal1 := { q.seal1 with record := q.seal1.record.map fresh } }
    let s := s.updLogic p fun y =>
      { y with exchStart := none, exchDone := true, st := .running, commitSeal := y.commitSeal.map fresh,
               wdogExt := y.wdogExt + (s.now - t) }
    let s := s.updLens nc.lens fun y => { y with needsTest := true }
    let s := if x.phase = .ready then s.execBegin p else s
    s.exchFinish
  | _, _ => s)

end Sys2Proof.Machine
end

