-- ==== Sys2Proof/Machine/ConvOps.lean ====
section
/-! DEFINITION. The converter frame's parts: classes of sub-modules and the arm window (R172 to R175), ranking
(R178 to R180), N_on and fraction (R177), selection and carriers (R181 to R183), phase-shifted carriers
(R185), commands and beam frames (R213 to R215), and arm records (R191). -/

namespace Sys2Proof.Machine

/-! ## Phases (R168) -/

def State.cf (s : State) : Nat := s.pkg.cnv.cf
def gatherEnd (cf : Nat) : Nat := cf * 3 / 10
def emitStart (cf : Nat) : Nat := cf * 7 / 10
def emitEnd (cf : Nat) : Nat := cf + 1000
def sealEnd (cf : Nat) : Nat := cf + Nat.min 1500 (cf * 3 / 10 - 200)

/-- The converter section is there and the module runs (R3, R49). -/
def State.cnvRuns (s : State) : Bool :=
  cnvPresent && s.pkg.cnv.present && (s.glb.phase = .setup || s.glb.phase = .running)

/-- Loop facets of the package: lens and home facet. -/
def State.loopFacets (s : State) : List (Nat × Nat) :=
  (s.pkg.facets.rows.filter fun r => r.2.role = .loop).map fun r => (r.1 / 64, r.1 % 64)

def State.sm (s : State) (a i : Nat) : SmSt := s.sms.get (smKey a i)
/-- Sub-modules of an arm. -/
def State.smList (s : State) (a : Nat) : List Nat := List.range (s.pkg.arms.get a).smCount
/-- Changes every sub-module of an arm. -/
def State.eachSm (s : State) (a : Nat) (f : Nat → SmSt → SmSt) : State :=
  s.each (s.smList a) fun s i => s.updSm a i (f i)

/-! ## The Hub's classes (R174) -/

/-- Class of a sub-module for the frame. One that returns is ranked again from the frame after its
DEBLOCK_FRAMES-th fresh, good entry in a row. -/
def hubClass (c : ArmCfg) (x : SmSt) : SmSt :=
  let exc := x.excluded && decide (x.streak < c.deblockFrames)
  match x.fresh with
  | some e =>
    let y := { x with vcap := e.vcap, status := e.status, temp := e.temp, applied := e.applied, age := 0,
                      valid := true, stale := false, fresh := none, failed := e.failed,
                      taken := (x.taken + 1) % 2 ^ 32 }
    if e.failed then { y with excluded := true, streak := 0 }
    else if exc then { y with excluded := true, streak := x.streak + 1 }
    else { y with excluded := false, streak := 0 }
  | none =>
    let k := sat8 x.age 1
    if exc ∨ c.staleLimit < k then
      { x with age := k, valid := false, stale := false, excluded := true, streak := 0 }
    else { x with age := k, valid := false, stale := true, excluded := false, streak := 0 }

/-- The arm summary of the frame (R173, R175, R179). With no ranked sub-module VMIN and VMAX have no stated
value: free values. -/
def State.armSummary (s : State) (a : Nat) : State :=
  let c := s.pkg.arms.get a
  let xs := ((s.smList a).map fun i => s.sm a i).filter fun x => !x.excluded
  let vs := xs.map (·.vcap)
  let st := (xs.filter (·.stale)).length
  let (lo, hi, s) : Nat × Nat × State := match vs with
    | [] => let (v, s) := s.free; (v.toNat % 65536, v.toNat / 65536 % 65536, s)
    | v :: r => (r.foldl Nat.min v, r.foldl Nat.max v, s)
  s.updArm a fun x =>
    let i := if c.isrc = 1 then x.iarmEst else x.iarmUp.getD x.iarmEst
    { x with avail := xs.length, excluded := c.smCount - xs.length, vsum := vs.foldl (· + ·) 0, vmin := lo,
             vmax := hi, stale := st, staleCnt := sat32 x.staleCnt st, iarm := i,
             dir := match c.dirMode with
               | 1 => false
               | 2 => true
               | _ => if (c.ihyst : Int) ≤ i then false else if i ≤ -(c.ihyst : Int) then true else x.dir }

def opCode : ArmOp → Nat | .blocked => 0 | .pending => 1 | .deblocked => 2 | .tripped => 3
def armCauseCode : ArmCause → Nat
  | .none => 0 | .restart => 1 | .lane => 2 | .cmd => 3 | .noOutput => 4 | .prismFault => 5 | .disabled => 6

/-- A sub-module record of the arm window (R173). -/
def smRecord (x : SmSt) : List Byte :=
  let b (v : Bool) (n : Nat) : Nat := if v then 2 ^ n else 0
  leBytes 2 x.vcap ++ leBytes 1 (b x.valid 0 + b x.stale 1 + b x.failed 2 + b x.inserted 3 + b x.carrier 4
      + x.status % 8 * 32)
    ++ leBytes 1 (unsigned 8 x.temp) ++ leBytes 2 x.rank ++ leBytes 1 x.age ++ [0]

/-- The header of the arm window (R173). -/
def State.armHeader (s : State) (a : Nat) : List Byte :=
  let x := s.arms.get a
  let b (v : Bool) (n : Nat) : Nat := if v then 2 ^ n else 0
  leBytes 8 s.cnv.fnum ++ leBytes 4 (tsOf s.cnv.tickTai) ++ leBytes 2 (s.pkg.arms.get a).smCount
    ++ leBytes 2 x.avail ++ leBytes 4 x.vsum ++ leBytes 2 x.vmin ++ leBytes 2 x.vmax
    ++ leBytes 2 (unsigned 16 x.iarm)
    ++ leBytes 2 (b x.dir 0 + b x.tolHeld 1 + b (x.op = .deblocked) 2 + b x.firstDeblocked 3
        + b (x.op = .tripped) 4 + b x.held 5)
    ++ leBytes 2 x.stale ++ leBytes 2 x.excluded ++ leBytes 2 x.nOn ++ leBytes 2 x.frac
    ++ List.replicate 28 0

/-- The arm window of the frame, with the header as it has been written (R173). -/
def State.armWindow (s : State) (a : Nat) : List Byte :=
  (s.arms.get a).header ++ (s.smList a).flatMap fun i => smRecord (s.sm a i)

/-- The converter input of a lens: the windows of its arms in ascending order (log 16). -/
def State.lensWindow (s : State) (l : Nat) : List Byte :=
  (s.armList.filter fun a => (s.pkg.arms.get a).lens = l).flatMap fun a => s.armWindow a

/-! ## Prism (R178 to R180) -/

/-- Rank key of sub-module `i` (R178). -/
def rankKey (n : Nat) (dir : Bool) (i : Nat) (x : SmSt) : Nat :=
  (if dir then 0xFFFF - x.vcap else x.vcap) * 256 + (if x.inserted then 0 else 128) + (i + n) % 128

/-- Inserts by key, equal keys by ascending sub-module. -/
def rankInsert (p : Nat × Nat) : List (Nat × Nat) → List (Nat × Nat)
  | [] => [p]
  | q :: r => if p.1 < q.1 ∨ (p.1 = q.1 ∧ p.2 < q.2) then p :: q :: r else q :: rankInsert p r

/-- Sub-modules in key order. -/
def rankSort (ps : List (Nat × Nat)) : List Nat := (ps.foldr rankInsert []).map (·.2)

/-- The order of the frame: in key order, or the held order with the newly ranked after it (R180). -/
def State.prismOrder (s : State) (a : Nat) (hold : Bool) : List Nat :=
  let x := s.arms.get a
  let ok := (s.smList a).filter fun i => !(s.sm a i).excluded
  let key := rankSort (ok.map fun i => (rankKey s.cnv.fnum x.dir i (s.sm a i), i))
  if hold then (x.order.filter fun i => ok.contains i) ++ (key.filter fun i => !x.order.contains i) else key

/-- The rank engine that serves an arm. -/
def State.engineOf (s : State) (a : Nat) : Option Nat :=
  (List.range 8).find? fun e => (s.engines.get e).arm = a && !(s.engines.get e).faulty

/-! ## Credits and carriers (R181 to R183) -/

/-- Credit of a sub-module at this frame, in 1/65,536 switching. -/
def State.creditNow (s : State) (a : Nat) (x : SmSt) : Nat :=
  let c := s.pkg.arms.get a
  Nat.min (c.depth * 65536) (x.credit + c.rate * s.cf * 65536 / 1000000000)

/-- A member that may not switch in this frame. -/
def State.pinned (s : State) (a : Nat) (x : SmSt) : Bool :=
  (s.pkg.arms.get a).rate ≠ 0 && decide (s.creditNow a x < 65536)

/-- The command of carrier `j` of `c` carriers for fraction `f` / 65,536 (R183). -/
def carrierCmd (T f c j : Nat) : Command :=
  let w := if c = 2 then (f * T + 65536) / 131072 else (f * T + 32768) / 65536
  let m := if c = 2 then (if j = 0 then T / 4 else 3 * T / 4) else T / 2
  if w = 0 then { form := .bypass } else { form := .pulse, a := m - w / 2, b := m - w / 2 + w, carrier := true }

def State.armG (s : State) (a : Nat) : Nat := (s.pkg.arms.get a).dead + (s.pkg.arms.get a).minp

/-- Cost of a command in switchings (R181). -/
def smCost (T g : Nat) (x : SmSt) (c : Command) : Nat :=
  levelChanges (x.cur = .one) (compileEdges T g x.cur c).edges

/-- The first `c` members of `o` with the credit for their pulse, of `c` carriers. -/
def State.pickCarriers (s : State) (a f c : Nat) : Nat → List Nat → List (Nat × Command)
  | _, [] => []
  | j, i :: r =>
    if c ≤ j then []
    else
      let x := s.sm a i
      let k := carrierCmd s.cf f c j
      if (s.pkg.arms.get a).rate = 0 ∨ smCost s.cf (s.armG a) x k * 65536 ≤ s.creditNow a x then
        (i, k) :: s.pickCarriers a f c (j + 1) r
      else s.pickCarriers a f c j r

/-- What R182 selects: inserted members, carriers with their commands, forced changes, the fraction dropped. -/
structure Selection where
  ins : List Nat := []
  cars : List (Nat × Command) := []
  forced : Nat := 0
  dropped : Bool := false
  deriving DecidableEq, Repr

/-- The selection of R182 for `k` inserted sub-modules and fraction `f`, with `c` carriers. Where only one of
two carriers has the credit, it carries the whole fraction (log 17). -/
def State.select (s : State) (a k f c : Nat) : Selection :=
  let o := (s.arms.get a).order
  let pin i := s.pinned a (s.sm a i)
  let pinIn := o.filter fun i => pin i && (s.sm a i).inserted
  let pinOut := o.filter fun i => pin i && !(s.sm a i).inserted
  let o := pinIn ++ (o.filter fun i => !pin i) ++ pinOut
  let ins := o.take k
  let car2 := s.pickCarriers a f c 0 (o.drop k)
  let cars := if f = 0 then [] else if car2.length < c then s.pickCarriers a f 1 0 (o.drop k) else car2
  { ins := ins, cars := cars, forced := (pinIn.drop k).length + (pinOut.filter fun i => ins.contains i).length,
    dropped := f ≠ 0 && cars = [] }

/-! ## Phase-shifted carriers (R185) -/

/-- Level-1 parts of a pulse that wraps in the carrier period, inside one actuation period [a, b). -/
def pscParts (tc a b p w : Nat) : List (Nat × Nat) :=
  let xs := if p + w ≤ tc then [(p, p + w)] else [(0, p + w - tc), (p, tc)]
  (xs.map fun x => (Nat.max x.1 a - a, Nat.min x.2 b - a)).filter fun x => x.1 < x.2

/-- The command that is at level 1 in these parts of a period. -/
def partsCmd (T : Nat) : List (Nat × Nat) → Command
  | [] => { form := .bypass }
  | [(a, b)] => if a = 0 ∧ b = T then { form := .insert } else { form := .pulse, a := a, b := b }
  | (_, b) :: (c, _) :: _ => if b = c then { form := .insert } else { form := .notch, a := b, b := c }

/-- Command of sub-module `j` of a PSC arm in frame `n` with these duties (R185). -/
def State.pscCmd (s : State) (a n : Nat) (duties : List Nat) (j : Nat) : Command :=
  let c := s.pkg.arms.get a
  let T := s.cf
  let tc := c.pscM * T
  let r := n % Nat.max c.pscM 1
  let w := ((duties[j]?).getD 0 * tc + 16384) / 32768
  let m := j * tc / Nat.max c.smCount 1
  partsCmd T (pscParts tc (r * T) (r * T + T) ((m + tc - w / 2) % Nat.max tc 1) w)

/-- A pinned sub-module keeps its level (R185). -/
def heldCmd (x : SmSt) : Command := if x.cur = .one then { form := .insert } else { form := .bypass }

/-! ## N_on and fraction (R177) -/

/-- N_on, fraction, CLAMPED and number of carriers for a record. -/
def clampOut (avail carriers nOn frac : Nat) : Nat × Nat × Bool × Nat :=
  if nOn + 1 ≤ avail then (nOn, frac, false, if carriers = 2 ∧ avail < nOn + 2 ∧ 0 < frac then 1 else carriers)
  else (avail, 0, !(decide (nOn = avail) && decide (frac = 0)), carriers)

/-! ## Applying commands -/

/-- A sub-module after its command of the frame. -/
def State.applyCmd (s : State) (a : Nat) (x : SmSt) (c : Command) : SmSt × Edges × Command :=
  let T := s.cf
  let e := compileEdges T (s.armG a) x.cur c
  let k := realForm T x.cur c e
  let cost := levelChanges (x.cur = .one) e.edges
  ({ x with cur := e.cur, cur0 := x.cur, credit0 := x.credit, inserted := c.form = .insert, carrier := c.carrier,
            credit := if (s.pkg.arms.get a).rate = 0 then x.credit else s.creditNow a x - cost * 65536 }, e, k)

/-- A sub-module at the start of the last frame that its arm has compiled. -/
def smBefore (x : SmSt) : SmSt := { x with cur := x.cur0, credit := x.credit0 }

/-- A sub-module whose command of the frame is BLOCK; it costs nothing (R181, R186). -/
def State.blockSm (s : State) (a : Nat) (x : SmSt) : SmSt :=
  { x with cur := .block, cur0 := x.cur, credit0 := x.credit, inserted := false, carrier := false,
           credit := if (s.pkg.arms.get a).rate = 0 then x.credit else s.creditNow a x }

/-- Commands of an arm for this frame, by sub-module. -/
def State.wishes (s : State) (a : Nat) : List (Nat × Command) × Nat × Bool × Nat × Nat × Bool :=
  let c := s.pkg.arms.get a
  let x := s.arms.get a
  let out := x.out.getD x.lastOut
  if c.psc then
    let ws := (s.smList a).map fun i =>
      let y := s.sm a i
      let k := s.pscCmd a s.cnv.fnum x.duties i
      if y.excluded then (i, { form := Form.bypass, excluded := true })
      else if s.pinned a y ∧ smCost s.cf (s.armG a) y k ≠ 0 then (i, heldCmd y)
      else (i, k)
    let forced := ((s.smList a).filter fun i =>
      let y := s.sm a i
      !y.excluded && s.pinned a y && smCost s.cf (s.armG a) y (s.pscCmd a s.cnv.fnum x.duties i) ≠ 0).length
    (ws, forced, false, 0, 0, false)
  else
    let (n, f, cl, k) := clampOut x.avail c.carriers out.nOn out.frac
    let sel := s.select a n f k
    let ws := (s.smList a).map fun i =>
      if (s.sm a i).excluded then (i, { form := Form.bypass, excluded := true })
      else match findRow sel.cars i with
        | some q => (i, q)
        | none => (i, { form := if sel.ins.contains i then Form.insert else Form.bypass })
    (ws, sel.forced, sel.dropped, n, if sel.dropped then 0 else f, cl)

/-- The arm record of R191 for this frame. -/
def State.armRec (s : State) (a : Nat) : ArmRec :=
  let c := s.pkg.arms.get a
  let x := s.arms.get a
  { frame := s.cnv.fnum, opstate := opCode x.op, cause := armCauseCode x.cause, dir := x.dir, held := x.held,
    clamped := x.clamped, tolHold := x.tolHeld, psc := c.psc, nOn := x.nOn, frac := x.frac, carrier0 := x.carrier0,
    carrier1 := x.carrier1, avail := x.avail,
    inserted := if c.psc then [] else (s.smList a).filter fun i => (s.sm a i).inserted,
    duties := if c.psc then x.duties else [] }

/-- The 128 commands of a lane's REGULAR frame (R214). -/
def State.laneCmds (s : State) (a l : Nat) (ks : List (Nat × Command)) : List Command :=
  (List.range 128).map fun k => match findRow ks ((l - (s.pkg.arms.get a).firstLane) * 128 + k) with
    | some c => { c with dead := (s.pkg.arms.get a).dead }
    | none => {}

end Sys2Proof.Machine
end

