-- ==== Sys2Proof/Machine/Sampled.lean ====
section
/-! DEFINITION. Subscribed sampled values and Focus chains: checks, sample instants, missing samples, slot
histories and chain outputs (R137 to R146, R152). -/

namespace Sys2Proof.Machine

/-! ## Rates (R137, R143) -/

/-- Samples per second of a RATE code (R141). -/
def svRate (c : Nat) : Nat := match c with | 0 => 4800 | 1 => 14400 | _ => 96000
/-- Length of a smpCnt interval in ns, and its samples: a second, or half a second at 96,000 samples/s. -/
def svSpan (c : Nat) : Nat := if c < 2 then 1000000000 else 500000000
def svCounts (c : Nat) : Nat := svRate c * svSpan c / 1000000000
/-- Decimation ratio of a preset at a rate (R143). -/
def decim (preset rate : Nat) : Nat :=
  match preset with
  | 0 => 1
  | 1 => if rate < 2 then 3 else 4
  | _ => if rate < 2 then 12 else 16

/-- Length of a smpCnt interval in units of 2⁻¹⁶ ns, the unit of sample instants (R138). -/
def svFine (c : Nat) : Nat := svSpan c * 65536

/-- Offset of sample `c` in its interval, with the 16-bit sub-nanosecond fraction (R138). -/
def svOffset (rate c : Nat) : Nat := c * 1000000000 * 65536 / svRate rate

/-- The sample instant of smpCnt `c` for an arrival in ns: S is the latest interval start that puts the sample at
or before the arrival (R138). Where none puts it less than 500 ms before the arrival, S lies up to a second back, and the
sample counts as repeated or late (DESIGN CHOICE, log 101). -/
def svInstant (rate c arrival : Nat) : Nat :=
  let o := svOffset rate c
  if arrival * 65536 < o then o else (arrival * 65536 - o) / svFine rate * svFine rate + o

/-- The input that follows input (c, t) after `r` samples. -/
def gridNext (rate r c t : Nat) : Nat × Nat :=
  let s := t - svOffset rate c
  if c + r < svCounts rate then (c + r, s + svOffset rate (c + r))
  else
    let d := (c + r) % svCounts rate
    (d, s + svFine rate + svOffset rate d)

/-- smpCnt `c` is at or before `k`: the way from it to `k` is less than half a smpCnt interval (DESIGN CHOICE, log 78). -/
def atOrBefore (rate c k : Nat) : Bool := decide (2 * ((k + svCounts rate - c) % svCounts rate) < svCounts rate)

/-! ## Slot inputs -/

def qSubst : Word := 0x10000000
def qUnsync : Word := 0x20000000
def qFilling : Word := 0x40000000
def qMissing : Word := 0x80000000
/-- Replaces the validity bits [1:0] of a quality word: 1 invalid, 3 questionable. -/
def withValidity (q : Word) (v : Word) : Word := (q &&& 0xFFFFFFFC) ||| v

/-- Enabled slots of a lens that take a stream through a chain that is ON. -/
def State.svSlots (s : State) (l k : Nat) : List Nat :=
  ((s.pkg.slots.rows.filter fun r => r.1 / 256 = l && r.2.en && r.2.stream = k).map fun r => r.1 % 256).filter
    fun i => s.unitOn (.chain l (s.pkg.slots.get (slotKey l i)).chain)

/-- The last tick of a protection slice that consumes a chain was that of smpCnt `c` or of a later input (R152). -/
def State.tickPassed (s : State) (l ch c : Nat) : Bool :=
  s.prots.rows.any fun r => (s.pkg.prots.get r.1).lens = l && r.2.chains.contains ch &&
    (match r.2.last with
     | some (k, _) => atOrBefore (s.pkg.chains.get (chainKey l ch)).rate c k
     | none => false)

/-- One sample enters a slot's history (R146, R152). An input that arrives after its output's tick is counted. An input
is valid if it is no substitute and its source validity is not invalid (DESIGN CHOICE, log 78). -/
def State.slotInput (s : State) (l i : Nat) (x : SlotIn) : State :=
  let c := (s.pkg.slots.get (slotKey l i)).chain
  let own := x.quality &&& qSubst = 0
  let s := if own ∧ s.tickPassed l c x.smpCnt then s.updChain l c fun y => { y with late := sat32 y.late 1 } else s
  s.updSlot l i fun y =>
    let v := y.valid + if own ∧ x.quality &&& 3 ≠ 1 then 1 else 0
    { y with count := y.count + 1, hist := ({ x with n := y.count + 1, valid := v } :: y.hist).take 512, valid := v }

/-- A simulated stream of the subscription's APPID is present: one is being received (R140; DESIGN CHOICE, log 77). -/
def State.simPresent (s : State) (k : Nat) : Bool :=
  s.svs.rows.any fun r => (s.pkg.svs.get r.1).appid = (s.pkg.svs.get k).appid && r.2.sim.st = .receiving

/-- A slice takes the frames of a subscription with this simulation bit (R140). -/
def State.sliceTakes (s : State) (k : Nat) (sim : Bool) (i : Nat) : Bool :=
  if sim then s.pkg.simSlices.contains i else !s.pkg.simSlices.contains i || !s.simPresent k

/-- Slots that take a stream's frames with this simulation bit: in the lenses of LENS_MASK, through chains whose slice
takes them. -/
def State.svTargets (s : State) (k : Nat) (sim : Bool) : List (Nat × Nat) :=
  let m := (s.pkg.svs.get k).lensMask
  ((List.range 16).filter fun l => m.getLsbD l).flatMap fun l =>
    ((s.svSlots l k).filter fun i =>
      s.sliceTakes k sim (s.pkg.chains.get (chainKey l (s.pkg.slots.get (slotKey l i)).chain)).ownerSlice).map (l, ·)

/-- One sample of a stream enters every slot that takes one of its channels. -/
def State.svFeed (s : State) (k : Nat) (sim : Bool) (cnt tin : Nat) (flags : Word) (vals : List (Int × Word)) : State :=
  s.each (s.svTargets k sim) fun s x =>
    match vals[(s.pkg.slots.get (slotKey x.1 x.2)).chan]? with
    | some (v, q) =>
      s.slotInput x.1 x.2 { value := v, quality := (q &&& 0x3FFF) ||| flags, smpCnt := cnt, tin := tin }
    | none => s

/-- One of the two sequences of a subscription. -/
def svSeq (x : SvSt) (sim : Bool) : SvSeq := if sim then x.sim else x.real

def State.updSeq (s : State) (k : Nat) (sim : Bool) (f : SvSeq → SvSeq) : State :=
  s.updSv k fun x => if sim then { x with sim := f x.sim } else { x with real := f x.real }

/-- A stream becomes LOST: its slots fill afresh when it returns (R140, R146). -/
def State.svLost (s : State) (k : Nat) (sim : Bool) : State :=
  let ts := s.svTargets k sim
  (s.updSeq k sim fun x => { x with st := .lost }).each ts fun s x => s.updSlot x.1 x.2 fun y => { y with valid := 0 }

/-! ## SV_FRAME_RX (R138 to R140) -/

/-- Accepts a sample: after one to three skipped ones, each replaced by the previous value at its own instant; four or
more make the stream LOST first (R138, R140). -/
def State.svAccept (s : State) (k : Nat) (sim : Bool) (cnt tin : Nat) (unsync : Bool) (vals : List (Int × Word)) : State :=
  let c := s.pkg.svs.get k
  let x := svSeq (s.svs.get k) sim
  let n := svCounts c.rate
  let flags : Word := if unsync then qUnsync else 0
  let gap := if x.have_ ∧ x.st = .receiving then (cnt + n - x.lastSmp) % n - 1 else 0
  let s := s.updSv k fun y => { y with miss := sat32 y.miss (gap - x.missRun), shown := sim }
  let s := if gap = 0 ∨ 4 ≤ gap then s
    else s.each (List.range gap) fun s i =>
      let m := gridNext c.rate (i + 1) x.lastSmp x.lastAt
      s.svFeed k sim m.1 (if unsync then tin - (gap - i) * 1000000000 * 65536 / svRate c.rate else m.2)
        (flags ||| qSubst) (x.lastVals.map fun v => (v.1, withValidity v.2 3))
  let s := if 4 ≤ gap then s.svLost k sim else s
  let s := s.updSeq k sim fun _ => { st := .receiving, unsync := unsync, have_ := true, lastSmp := cnt, lastAt := tin,
                                     missRun := 0, lastVals := vals }
  s.svFeed k sim cnt tin flags vals

/-- A smpCnt that repeats or goes back other than by the wrap (R140): by its instant where both samples are
synchronised, and else, within half a smpCnt interval of the last sample, by the half range (DESIGN CHOICE, log 78). -/
def svBack (x : SvSeq) (rate cnt tin : Nat) (unsync : Bool) : Bool :=
  x.have_ &&
    (if unsync || x.unsync then decide (tin < x.lastAt + svFine rate / 2) && atOrBefore rate cnt x.lastSmp
     else decide (tin ≤ x.lastAt))

/-- Decodes one ASDU (R138, R140): late, repeated and earlier samples are discarded, and a smpCnt outside its range. A
smpSynch other than 2 is taken as unsynchronised, also one that is none of 0, 1 and 2 (DESIGN CHOICE, log 100). -/
def State.svSample (s : State) (k : Nat) (sim : Bool) (synch arrival : Nat) (a : SvAsdu) : State :=
  let c := s.pkg.svs.get k
  let unsync : Bool := synch ≠ 2
  let tin := if unsync then (arrival - c.nomlatNs) * 65536 else svInstant c.rate a.smpCnt arrival
  let s := s.updSv k fun x => { x with unsync := unsync }
  if svCounts c.rate ≤ a.smpCnt ∨ svBack (svSeq (s.svs.get k) sim) c.rate a.smpCnt tin unsync then
    s.updSv k fun x => { x with seqerr := sat32 x.seqerr 1 }
  else if c.maxAgeUs * 1000 * 65536 < arrival * 65536 - tin then s.updSv k fun x => { x with late := sat32 x.late 1 }
  else s.svAccept k sim a.smpCnt tin unsync a.channels

/-- The frame is another configuration's: svID or confRev differ (R140); an event at most once a second. -/
def State.svMismatch (s : State) (k : Nat) : State :=
  let s := s.updSv k fun x => { x with seqerr := sat32 x.seqerr 1 }
  let quiet := match (s.svs.get k).lastCfgEvent with | some t => decide (s.now < t + 1000000000) | none => false
  if quiet then s
  else (s.updSv k fun x => { x with lastCfgEvent := some s.now }).event .svConfig k

/-- The tag check of R139, first against KEY_CUR and then against KEY_NEXT; passes with KEY_NEXT in a row
are counted. -/
def State.svAuth (s : State) (k : Nat) (fr : SvFrame) : Bool × State :=
  let c := s.pkg.svs.get k
  let x := s.svs.get k
  let own := s.svOwners k
  let fails (s : State) : State := s.updSv k fun x => { x with authfail := sat32 x.authfail 1, nextPass := 0 }
  if x.keyCur = 0 ∧ x.keyNext = 0 then (!c.authReq, if c.authReq then fails s else s)
  else
    let (a, s) := s.useKey x.keyCur c.alg own fr.tagCur
    if a then (true, s.updSv k fun x => { x with nextPass := 0 })
    else
      let (b, s) := s.useKey x.keyNext c.alg own fr.tagNext
      if b then (true, s.updSv k fun x => { x with nextPass := x.nextPass + 1 })
      else if c.authReq then (false, fails s)
      else (true, s.updSv k fun x => { x with nextPass := 0 })

/-- One subscription takes a frame (R138 to R140). Its simulation bit is judged for each slice that owns a chain of the
stream: a frame that every such slice discards is not decoded. -/
def State.svTake (s : State) (k arrival : Nat) (fr : SvFrame) : State :=
  let c := s.pkg.svs.get k
  if fr.svid ≠ c.svid ∨ fr.confRev ≠ c.confRev then s.svMismatch k
  else
    let (ok, s) := s.svAuth k fr
    let own := s.svOwners k
    if !ok || !((own = [] && !fr.simulated) || own.any fun i => s.sliceTakes k fr.simulated i) then s
    else s.each fr.asdus fun s a => s.svSample k fr.simulated fr.smpSynch arrival a

/-- SV_FRAME_RX: every enabled subscription of the APPID and VLAN takes the frame, whose last bit arrives at
instant `t`. A frame that matches none is not decoded (R140). -/
def execSvFrameRx (fr : SvFrame) (t : Nat) (s : State) : Res :=
  let s := s.upTo t
  let a := s.taiOf t
  .next (s.each (s.pkg.svs.keys.filter fun k =>
    let c := s.pkg.svs.get k
    c.en && c.appid = fr.appid && c.vlan = fr.vlan) fun s k => s.svTake k a fr)

/-- SV_KEY_SWITCH (R139): after 16 consecutive passes with KEY_NEXT it becomes KEY_CUR. -/
def execSvKeySwitch (k : Fin 512) (s : State) : Res :=
  .next (if 16 ≤ (s.svs.get k).nextPass then
      s.updSv k fun x => { x with keyCur := x.keyNext, keyNext := 0, nextPass := 0 }
    else s)

/-- The instant, in ns of TAI, after which the next sample of a sequence can no longer arrive within MAXAGE (R140). -/
def svDue (c : SvCfg) (x : SvSeq) : Nat :=
  (x.lastAt + (x.missRun + 1) * 1000000000 * 65536 / svRate c.rate) / 65536 + c.maxAgeUs * 1000 + 1

/-- SV_SAMPLE_TIMEOUT (R140): the next sample can no longer arrive within MAXAGE, and counts as missing; the fourth in a
row makes the stream LOST. Of two sequences the one due first is judged. Samples that stay away while the stream is LOST
count no further (DESIGN CHOICE, log 102). -/
def execSvSampleTimeout (k : Fin 512) (s : State) : Res :=
  let c := s.pkg.svs.get k
  let x := s.svs.get k
  let sim : Bool := x.sim.st = .receiving && (x.real.st ≠ .receiving || decide (svDue c x.sim < svDue c x.real))
  let q := svSeq x sim
  .next (if q.st ≠ .receiving ∨ ¬ s.reaches (svDue c q) then s
    else
      let s := (s.upToTai (svDue c q)).updSv k fun x => { x with miss := sat32 x.miss 1 }
      let s := s.updSeq k sim fun x => { x with missRun := x.missRun + 1 }
      if 4 ≤ q.missRun + 1 then s.svLost k sim else s)

/-! ## Chain outputs (R143 to R146) -/

/-- Taps of a chain's loaded bank and its slots' FILL_N (R146). -/
def State.fillN (s : State) (l i : Nat) : Nat :=
  let sc := s.pkg.slots.get (slotKey l i)
  let cc := s.pkg.chains.get (chainKey l sc.chain)
  (s.chains.get (chainKey l sc.chain)).taps.length
    + ceilDiv ((s.chSlots.get (slotKey l i)).delay * svRate cc.rate) 1000000000 + 1

/-- Enabled slots of a chain. -/
def State.chainSlots (s : State) (l c : Nat) : List Nat :=
  (s.pkg.slots.rows.filter fun r => r.1 / 256 = l && r.2.en && r.2.chain = c).map fun r => r.1 % 256

/-- FILLING of LNSn_FCH_CFG: some slot of a chain that is ON has not had FILL_N valid inputs. -/
def State.chainFilling (s : State) (l c : Nat) : Bool :=
  s.unitOn (.chain l c) && (s.chainSlots l c).any fun i => decide ((s.chSlots.get (slotKey l i)).valid < s.fillN l i)

/-- The filter sum over a delayed history: INT32 inputs by Q15 taps. -/
def firSum : List Int → List SlotIn → Int
  | t :: ts, x :: xs => t * x.value + firSum ts xs
  | _, _ => 0

/-- Rounds to nearest, ties to even, at bit 15, and saturates to INT32 (R145). -/
def firRound (v : Int) : Int :=
  let t := v / 32768
  let r := v % 32768
  satInt 32 (if 16384 < r ∨ (r = 16384 ∧ t % 2 = 1) then t + 1 else t)

/-- VALUE of a slot's output after the input at the head of `h` (R144, R145). A delay that is no whole number
of samples is interpolated in a way the manual does not give, a sum beyond 48 bits has no stated result,
and a span that is not yet filled has no stated value: each is then a free value. -/
def State.slotValue (s : State) (l i : Nat) (h : List SlotIn) : Int × State :=
  let sc := s.pkg.slots.get (slotKey l i)
  let cc := s.pkg.chains.get (chainKey l sc.chain)
  let taps := (s.chains.get (chainKey l sc.chain)).taps
  let d := (s.chSlots.get (slotKey l i)).delay * svRate cc.rate
  let x := h.drop (d / 1000000000)
  let sum := firSum taps x
  if d % 1000000000 = 0 ∧ taps.length ≤ x.length ∧ -(2 ^ 47) ≤ sum ∧ sum < 2 ^ 47 then (firRound sum, s)
  else let (v, s) := s.free; (signed 32 (v.toNat % 2 ^ 32), s)

/-- Inputs that a slot's filter spans: the taps after the delay, and one more where the delay is no whole number of
samples (R144, R146). -/
def State.slotSpan (s : State) (l i : Nat) (h : List SlotIn) : List SlotIn :=
  let sc := s.pkg.slots.get (slotKey l i)
  let cc := s.pkg.chains.get (chainKey l sc.chain)
  let d := (s.chSlots.get (slotKey l i)).delay * svRate cc.rate
  (h.drop (d / 1000000000)).take ((s.chains.get (chainKey l sc.chain)).taps.length
    + if d % 1000000000 = 0 then 0 else 1)

/-- One slot's output after its input number `n` (R144 to R146). -/
def State.slotOutput (s : State) (l i n : Nat) : State :=
  let sc := s.pkg.slots.get (slotKey l i)
  let g := (s.chains.get (chainKey l sc.chain)).gd
  let y := s.chSlots.get (slotKey l i)
  match y.hist.dropWhile fun x => x.n ≠ n with
  | [] => s
  | x :: r =>
    let (v, s) := s.slotValue l i (x :: r)
    let subst := (s.slotSpan l i (x :: r)).any fun z => z.quality &&& qSubst ≠ 0
    let q := x.quality &&& 0x20003FFF
    let q := if subst then withValidity (q ||| qSubst) 3 else q
    let q := if x.valid < s.fillN l i then withValidity (q ||| qFilling) 1 else q
    let rec_ : SlotRec := { value := v, quality := q, smpCnt := x.smpCnt,
                            ts := BitVec.ofInt 32 ((x.tin / 65536 : Nat) - (g : Int) - y.delay) }
    s.updSlot l i fun y => { y with out := rec_, prev := y.out, ready := some (x.smpCnt, x.tin), doneTo := n }

/-- The input whose output a slot makes next (R143): its oldest one at a decimation position that has had none; in a
chain that a protection slice consumes, one whose tick is still to come (R152). -/
def State.nextOutput (s : State) (l i : Nat) : Option Nat :=
  let c := (s.pkg.slots.get (slotKey l i)).chain
  let cc := s.pkg.chains.get (chainKey l c)
  let y := s.chSlots.get (slotKey l i)
  (y.hist.reverse.find? fun x => decide (y.doneTo < x.n) && (x.smpCnt + 1) % decim cc.preset cc.rate = 0
    && !s.tickPassed l c x.smpCnt).map (·.n)

/-- Chains that the next tick consumes: a pending switch counts (R148). -/
def tickChains (p : ProtSt) : List Nat :=
  p.chains.map fun c => match p.switch.find? fun x => x.1 = c with | some x => x.2.1 | none => c

/-- Some protection slice takes its records from the chain, now or from its next tick. -/
def State.chainUsed (s : State) (l c : Nat) : Bool :=
  s.prots.rows.any fun r => (s.pkg.prots.get r.1).lens = l && (r.2.chains.contains c || (tickChains r.2).contains c)

/-- FOCUS_CHAIN_OUTPUT (R143, R145, R152): the slots of a chain that is ON write their records. A slot whose
record waits for its protection tick makes no later one before it. -/
def execFocusChainOutput (l : Fin 16) (c : Fin 32) (s : State) : Res :=
  .next (if ¬ s.unitOn (.chain l c) ∨ (s.lenses.get l).fenced then s
    else s.each (s.chainSlots l c) fun s i =>
      let held : Bool := match (s.chSlots.get (slotKey l i)).ready with
        | some k => s.chainUsed l c && !s.tickPassed l c k.1
        | none => false
      if held then s
      else match s.nextOutput l i with
        | some n => s.slotOutput l i n
        | none => s)

end Sys2Proof.Machine
end

