-- ==== Sys2Proof/Machine/TimeOps.lean ====
section
/-! DEFINITION. Instants of time pulse generators (R263), steps of the time base (R259, R265), and the
states of the servo (R258). -/

namespace Sys2Proof.Machine

/-! ## Pulses (R263) -/

/-- Instant of pulse `n` of a generator, in ns of TAI. -/
def pulseTime (c : TpCfg) (n : Nat) : Nat :=
  match c.mode with
  | .perSecond => n / Nat.max c.period 1 * 1000000000 + c.startNs
      + n % Nat.max c.period 1 * 1000000000 / Nat.max c.period 1
  | _ => c.startNs + n * c.period

/-- Number of the last pulse at or before instant `t`. -/
def pulseLast (c : TpCfg) (t : Nat) : Option Nat :=
  match c.mode with
  | .periodic => if t < c.startNs then none else some ((t - c.startNs) / Nat.max c.period 1)
  | .perSecond =>
    if t < c.startNs then none
    else
      let r := Nat.max c.period 1
      let d := t - c.startNs
      some (d / 1000000000 * r + ((d % 1000000000 + 1) * r - 1) / 1000000000)
  | _ => none

/-- Number of the first pulse at or after instant `t`. -/
def pulseFrom (c : TpCfg) (t : Nat) : Nat :=
  match pulseLast c t with
  | none => 0
  | some n => if pulseTime c n = t then n else n + 1

/-- The pulse a consumer takes next, after the last one it took: the newest that has passed, or else the
next one. A consumer that has taken none takes the first from now on. -/
def State.pulseDue (s : State) (t : Nat) (last : Option Nat) : Option (Nat × Nat) :=
  let c := s.pkg.tps.get t
  if (c.mode ≠ .periodic ∧ c.mode ≠ .perSecond) ∨ s.col.stopped then none
  else
    let n := match last with
      | none => pulseFrom c s.tai
      | some k => match pulseLast c s.tai with
        | some m => if k < m then m else k + 1
        | none => pulseFrom c s.tai
    some (n, pulseTime c n)

/-- The START of a ONCE generator: the one TP_ARM gave, else the package's. -/
def State.onceStart (s : State) (t : Nat) : Nat :=
  ((s.col.tps.get t).start).getD (s.pkg.tps.get t).startNs

/-- Number of the first pulse after instant `t`: as many as there are up to it. -/
def pulseCount (c : TpCfg) (t : Nat) : Nat := match pulseLast c t with | some k => k + 1 | none => 0

/-- Number of the first pulse after instant `t` that is in none of the spans, each of which takes one look. -/
def pulseAfter (c : TpCfg) (spans : List (Nat × Nat)) : Nat → Nat → Nat
  | 0, t => pulseCount c t
  | n + 1, t =>
    let u := pulseTime c (pulseCount c t)
    match spans.find? fun x => decide (x.1 < u ∧ u ≤ x.2) with
    | some x => pulseAfter c spans n x.2
    | none => pulseCount c t

/-- Pulses of a generator in (a, b] that are in none of the spans. -/
def pulsesIn (c : TpCfg) : List (Nat × Nat) → Nat → Nat → Nat
  | [], a, b => pulseCount c b - pulseCount c a
  | (x, y) :: r, a, b =>
    if b ≤ x ∨ y ≤ a then pulsesIn c r a b
    else pulsesIn c r a (Nat.max a x) + pulsesIn c r (Nat.min b y) b

/-- The next pulse that a generator fires: number and instant (R263, R265). -/
def State.tpNext (s : State) (t : Nat) : Option (Nat × Nat) :=
  let c := s.pkg.tps.get t
  let x := s.col.tps.get t
  if s.col.stopped then none
  else match c.mode with
  | .off => none
  | .once => if x.armed then some (1, s.onceStart t) else none
  | _ =>
    let n := pulseAfter c x.fired x.fired.length x.doneTo
    some (n, pulseTime c n)

/-- Pulses of a generator that fall in (a, b] and have not fired. -/
def State.tpWithin (s : State) (t a b : Nat) : Nat :=
  let c := s.pkg.tps.get t
  let x := s.col.tps.get t
  match c.mode with
  | .off => 0
  | .once => if x.armed ∧ a < s.onceStart t ∧ s.onceStart t ≤ b then 1 else 0
  | _ => if a < b then pulsesIn c x.fired (Nat.max a x.doneTo) b else 0

/-! ## Steps (R265) -/

/-- The time base reads `t` from now on; the pulses that a step skips are counted. -/
def State.setTai (s : State) (t : Nat) : State :=
  let skip := (List.range 16).foldl (fun n i => n + s.tpWithin i s.tai t) 0
  { s with col := { s.col with sec := t / 1000000000 % 2 ^ 48, ns := t % 1000000000, frac := 0,
                               tpSkip := sat32 s.col.tpSkip skip } }

/-- A generator at a step of the time base from `old` to `t`: its next instant is the first after `t` that has not fired,
and COUNT does not decrease. -/
def tpStepped (old t start : Nat) (x : TpSt) : TpSt :=
  { x with armed := x.armed && !(decide (old < start ∧ start ≤ t)), since := t, doneTo := t, top := Nat.max x.top x.count
           fired := if x.since < x.doneTo then (x.since, x.doneTo) :: x.fired else x.fired }

/-- The last pulse of generator `g` that counts as taken after a step from `old` to `t`. -/
def State.pulsePassed (s : State) (old t g : Nat) (last : Option Nat) : Option Nat :=
  match (if old < t then pulseLast (s.pkg.tps.get g) t else none), last with
  | some m, some k => some (Nat.max m k)
  | some m, none => some m
  | none, k => k

/-- Sets the time base to `t` ns of TAI as a step: pulses inside a forward step are skipped and counted,
and no instant already fired fires again (R265). Frames, basic cycles and sampled groups
take their next pulse after the new time. -/
def State.stepTime (s : State) (t : Nat) : State :=
  let old := s.tai
  let s := s.setTai t
  let s := s.updCnv fun c => { c with lastPulse := s.pulsePassed old t s.pkg.cnv.tp c.lastPulse }
  let s := s.each [0, 1] fun s b =>
    s.updFbc b fun f => { f with lastPulse := s.pulsePassed old t (s.pkg.fbcs.get b).tp f.lastPulse }
  let s := s.each ((List.range 16).filter fun g => 1 < (s.pkg.perGrps.get g).clock) fun s g =>
    s.updGrp g fun r => { r with lastTick := s.pulsePassed old t (s.pkg.perGrps.get g).src r.lastTick }
  s.each (List.range 16) fun s i =>
    s.updTp i fun x => tpStepped old t (s.onceStart i) x

/-! ## Servo states (R258) -/

/-- A time base whose reference has lost its power starts again from 0 (R65, R266). -/
def State.freshTime (s : State) : State := { s with col := { rates := [(s.now, 0)], ptpAt := s.now } }

/-- The time base falls to FREERUN: a schedule without a grandmaster's time is lost at the end of its basic
cycle (R272). -/
def State.toFreerun (s : State) : State :=
  let s := s.updCol fun c => { c with st := .freerun, slewing := false, smallRun := 0, largeRun := 0 }
  if s.col.gm then s
  else s.each [0, 1] fun s b =>
    if (s.fbcs.get b).mode = .schedule then
      (s.updFbc b fun f => { f with toArrival := true }).alarm .fbSchedLost b
    else s

/-- The span over which a holdover takes the average of RATE: 10 s. -/
def rateSpan : Nat := 10000000000

/-- RATE × time and the time itself over the span that ends at `now`, of a history, newest first, whose next entry held
until `upto`. -/
def rateSum (now : Nat) : List (Nat × Int) → Nat → Int × Nat
  | [], _ => (0, 0)
  | (a, r) :: rest, upto =>
    let b := Nat.max a (now - rateSpan)
    let (x, d) := rateSum now rest (Nat.min upto b)
    (x + (upto - b : Nat) * r, d + (upto - b))

/-- The average of RATE over the last 10 s, or since the base started, rounded down (log 105). -/
def rateMean (now : Nat) (c : ColSt) : Int :=
  let (x, d) := rateSum now c.rates now
  if d = 0 then c.rate else x / d

/-- RATE takes a value at `now`; of the history, what the span still covers stays. -/
def setRate (now : Nat) (r : Int) (c : ColSt) : ColSt :=
  let (new, old) := c.rates.span fun x => decide (now - rateSpan < x.1)
  { c with rate := r, rates := (now, r) :: new ++ old.take 1 }

/-- LOCKED becomes HOLDOVER: RATE is frozen at its last 10 s average; HOLD_ELAPSED restarts. -/
def State.toHoldover (s : State) : State :=
  s.updCol fun c =>
    { setRate s.now (rateMean s.now c) c with
      st := .holdover, slewing := false, holdFrom := some s.now, holdElapsedNs := 0, holdTemp := s.hw.coldTemp, first := true
      smallRun := 0, largeRun := 0 }

/-- The state leaves HOLDOVER: HOLD_ELAPSED keeps its last value. -/
def holdEnd (now : Nat) (c : ColSt) : ColSt :=
  match c.holdFrom with
  | some t => { c with holdElapsedNs := now - t, holdFrom := none }
  | none => c

/-- LOCKED is reached: the alarms of the loss end. -/
def State.toLocked (s : State) : State :=
  let s := s.updCol fun c => { holdEnd s.now c with st := .locked, lockedSince := s.now, smallRun := 0,
                                                    largeRun := 0 }
  (s.clearAlarm .timeUnlock 0).clearAlarm .holdoverEnd 0

/-- The servo's new RATE after a Sync: the law is not given, so the wished-for correction is a free value;
it is clamped to MAX_SLEW, and SLEWING says that the clamp limits it (R259). -/
def State.servoRate (s : State) : State :=
  let m : Int := s.pkg.col.maxSlew * 256000
  let (v, s) := s.free
  let r := signed 32 (v.toNat % 2 ^ 32)
  let k := max (-m) (min m r)
  s.updCol fun c => { setRate s.now k c with slewing := decide (k ≠ r) }

end Sys2Proof.Machine
end

