-- ==== Sys2Proof/Machine/TimeBase.lean ====
section
/-! DEFINITION. The Collimator: Sync, Announce and peer-delay messages, holdover, reference faults, reads
and settings of the time (R254 to R268). -/

namespace Sys2Proof.Machine

/-- PHASE is below RUNNING, or the module is in SERVICE state with RUN cleared (R259). -/
def State.mayStep (s : State) : Bool :=
  (match s.glb.phase with
   | .kaStart | .boot | .mmStart | .selfTest | .setup => true
   | .running | .held | .bootFailed | .safe => false)
  || (s.glb.lcs = .service && !s.glb.run)

/-- PTP_SYNC_RX (R258, R259): the servo measures an offset from the selected master. It steps only where
R259 lets it, and else corrects by rate. -/
def execPtpSyncRx (p : Fin 5) (off : Int) (s : State) : Res :=
  .next (if s.col.master = none ∨ s.col.slavePort ≠ p ∨ s.pkg.col.ptpMode = 2 ∨ s.mlk.mmDown then s
    else
      let small := decide (off.natAbs ≤ 100)
      let big := decide (1000 < off.natAbs)
      let s := s.updCol fun c =>
        { c with offset := max (-0x80000000) (min 0x7FFFFFFF off),
                 smallRun := if small then c.smallRun + 1 else 0, largeRun := if big then c.largeRun + 1 else 0 }
      let s := match s.col.st with
        | .acquiring =>
          if 16 ≤ s.col.smallRun then s.toLocked.event .timeLocked 0
          else if big ∧ s.mayStep then s.stepTime ((s.tai : Int) - off).toNat
          else s
        | .locked =>
          if 3 ≤ s.col.largeRun then
            (s.updCol fun c => { c with st := .acquiring, smallRun := 0, largeRun := 0 }).alarm .timeUnlock 0
          else s
        | .holdover =>
          if s.col.first then
            if big then
              (s.updCol fun c => { holdEnd s.now c with st := .acquiring, first := false, smallRun := 0,
                                                        largeRun := 0 }).alarm .timeUnlock 0
            else (s.updCol fun c => { c with first := false }).toLocked
          else s
        | .freerun => s
      let s := if 1000000000 < off.natAbs ∧ s.glb.phase = .running then
          (s.updCol fun c => { c with far := true }).alarm .timeFar 0
        else (s.updCol fun c => { c with far := false }).clearAlarm .timeFar 0
      s.servoRate)

/-- A port takes a state of the BMCA, unless it is DISABLED. -/
def live (t st : PtpState) : PtpState := if st = .disabled then st else t

/-- The state of every port that runs PTP but is not PASSIVE. -/
def portsTo (t : PtpState) (ports : Tbl PtpPort) : Tbl PtpPort :=
  (List.range 5).foldl (fun u i => u.upd i fun x => { x with st := if x.st = .passive then x.st else live t x.st }) ports

/-- PTP_ANNOUNCE_RX (R258, R261, R266): another domain is discarded and counted; otherwise the BMCA's
verdict selects a master, makes this module grandmaster or the port PASSIVE. -/
def execPtpAnnounceRx (p : Fin 5) (a : Announce) (s : State) : Res :=
  .next (if s.pkg.col.ptpMode = 2 ∨ s.mlk.mmDown then s
    else if a.domain ≠ s.pkg.col.domain then
      s.updCol fun c => { c with ports := c.ports.upd p fun x => { x with rxErr := sat32 x.rxErr 1 } }
    else if a.gm then
      if s.pkg.col.gmCapable then
        s.updCol fun c =>
          { holdEnd s.now c with gm := true, master := none, slavePort := 0xF, st := .freerun, slewing := false, smallRun := 0,
                                 largeRun := 0, ports := portsTo .master c.ports }
      else s
    else if a.passive then
      s.updCol fun c => { c with ports := c.ports.upd p fun x => { x with st := live .passive x.st } }
    else if a.selected then
      let old := s.col.master
      let s := s.updCol fun c =>
        { c with gm := false, master := some a.source, slavePort := p, lastSync := s.now,
                 utcOffset := a.utc, utcValid := true, leap61 := a.leap61, leap59 := a.leap59,
                 ports := (portsTo .master c.ports).upd p fun x => { x with st := .slave } }
      match s.col.st with
      | .freerun => s.updCol fun c => { c with st := .acquiring, smallRun := 0, largeRun := 0 }
      | .locked =>
        if old ≠ some a.source then
          (s.updCol fun c => { c with st := .acquiring, smallRun := 0, largeRun := 0 }).event .timeMasterChange 0
        else s
      | _ => s
    else s)

/-- PTP_PDELAY_RX (R261): a measured peer delay; delay requests and responses are discarded and counted. -/
def execPtpPdelayRx (p : Fin 5) (m : PdelayMsg) (s : State) : Res :=
  .next (s.updCol fun c => { c with ports := c.ports.upd p fun x =>
    match m with
    | .measured ns => { x with pdelay := ns % 2 ^ 32 }
    | _ => { x with rxErr := sat32 x.rxErr 1 } })

/-! ## Messages sent (R261) -/

/-- What port `p` sends each second: a peer-delay request, which in a transparent clock the hardware sends, and as a master
Sync, Follow_Up and Announce. Without the Module Manager a boundary clock is silent. -/
def State.ptpSend (s : State) (p : Nat) : State :=
  let x := s.col.ports.get p
  let g := s.pkg.col
  if ¬ s.unitOn (.port p) ∨ (s.mlk.mmDown ∧ g.ptpMode = 0) then s
  else
    let n := x.seq
    let s := s.updCol fun c => { c with ports := c.ports.upd p fun y => { y with seq := (n + 1) % 2 ^ 16 } }
    let s := s.emit (.ptp p (.pdelayReq n))
    if x.st ≠ .master ∨ g.ptpMode ≠ 0 then s
    else
      let own := Config.clockId s.glb.modnum.toNat
      let c := s.col
      let m : PtpOut := .announce n (if c.gm then own else c.master.getD own) c.utcOffset c.leap61 c.leap59
        (if c.gm then some (own, Config.inaccuracy s.freeIdx) else none)
      s.emits [.ptp p (.sync n), .ptp p (.followUp n s.tai), .ptp p m]

/-- The second between Sync, Announce and Pdelay_Req has passed (R261): every port sends. -/
def State.ptpTick (s : State) : State :=
  if s.pkg.col.ptpMode = 2 ∨ ¬ s.windowOpen .mm ∨ s.now < s.col.ptpAt then s
  else (s.each (List.range 5) fun s p => s.ptpSend p).updCol fun c => { c with ptpAt := s.now + 1000000000 }

/-- ANNOUNCE_TIMEOUT (R258, R261): three announce intervals of 1 s without the master's Announce. -/
def execAnnounceTimeout (s : State) : Res :=
  .next (if s.col.master = none then s
    else
      let s := s.upTo (s.col.lastSync + 3000000000)
      let quiet (x : PtpPort) : PtpPort := { x with st := if x.st = .slave then .listening else x.st }
      let s := s.updCol fun c =>
        { c with master := none, slavePort := 0xF, first := true, ports := c.ports.mapRows fun _ x => quiet x }
      match s.col.st with
      | .acquiring => s.toFreerun
      | .locked => s.toHoldover
      | _ => s)

/-- HOLDOVER_END (R258): HOLD_LIMIT is reached, or the cold plate has moved more than 10 K since the holdover began. -/
def execHoldoverEnd (byTemp : Bool) (s : State) : Res :=
  .next (if s.col.st ≠ .holdover ∨ (byTemp ∧ (s.hw.coldTemp - s.col.holdTemp).natAbs ≤ 10) then s
    else
      let s := if byTemp then s
        else s.upTo ((s.col.holdFrom.getD s.now) + s.pkg.col.holdLimit * 60000000000)
      ((s.updCol (holdEnd s.now)).toFreerun).alarm .holdoverEnd 0)

/-- A restart is under way that was warm so far (R266). -/
def State.warmUnderWay (s : State) : Bool :=
  s.glb.restartWarm && (s.glb.phase = .kaStart || s.glb.phase = .boot || s.glb.phase = .mmStart || s.glb.phase = .selfTest)

/-- REF_FAULT (R258, R266): any state falls to FREERUN with REF_OK 0, and the time base stands until the reference runs
again, with the next restart (log 106); during a warm restart it starts from 0. -/
def execRefFault (s : State) : Res :=
  .next ((if s.warmUnderWay then s.freshTime.toFreerun
    else (s.updCol fun c => { holdEnd s.now c with refOk := false, stopped := true }).toFreerun).alarm .refFault 0)

/-- Latches the seconds and the fraction for one port (R255). -/
def State.latchTime (s : State) (p : TimePort) : State :=
  let l : TimeLatch := { s := s.col.sec, frac := s.col.frac / 2 ^ 32 }
  s.updCol fun c => match p with
    | .h0 => { c with latchH0 := l } | .h1 => { c with latchH1 := l } | .mm => { c with latchMM := l }

/-- COL_TIME_READ (R255): a read of COL_TIME_NS returns the nanoseconds and latches the rest. Before SETUP
a host port reads zero and sets NOT_READY (R50). -/
def execColTimeRead (p : TimePort) (s : State) : Res :=
  .next (if s.windowOpen p then { s.latchTime p with lastRead := BitVec.ofNat 32 s.col.ns }
    else { s.updGlb fun g => { g with notReady := true } with lastRead := 0 })

/-- A write of an RWL field after RUN that would change it is ignored and sets LOCKED_WRITE (R48). -/
def State.rwlLocked (s : State) : Bool := s.glb.run


/-- Writes COL_SET_SHI: S is RWL; GO applies COL_SET as a step, except in RUNNING or while STATE is not
FREERUN (R266). -/
def State.setGo (s : State) (v : Word) : State :=
  let hi : Half := v.setWidth 16
  let s := if hi = s.col.setShi then s
    else if s.rwlLocked then s.lockedWrite
    else s.updCol fun c => { c with setShi := hi }
  if v.getLsbD 31 then
    if s.glb.phase = .running ∨ s.col.st ≠ .freerun then s.lockedWrite
    else s.stepTime ((s.col.setShi.toNat * 2 ^ 32 + s.col.setSlo.toNat) * 1000000000 + s.col.setNs)
  else s

/-- Writes COL_SET_NS; a value of 1,000,000,000 or more is ignored (R266). -/
def State.setNs (s : State) (v : Word) : State :=
  let n := v.toNat % 2 ^ 30
  if 1000000000 ≤ n ∨ n = s.col.setNs then s
  else if s.rwlLocked then s.lockedWrite
  else s.updCol fun c => { c with setNs := n }

/-- COL_SET_GO: a write of COL_SET_SHI (R266). -/
def execColSetGo (v : Word) (s : State) : Res :=
  .next (if s.windowOpen .h0 then s.setGo v else s.notReadyWrite)

/-- COL_SET_NS_WRITE (R266). -/
def execColSetNsWrite (v : Word) (s : State) : Res :=
  .next (if s.windowOpen .h0 then s.setNs v else s.notReadyWrite)

end Sys2Proof.Machine
end

