-- ==== Sys2Proof/Machine/Periscope.lean ====
section
/-! DEFINITION. Periscope (R376 to R384, R396 to R398): acquisition groups and their triggers, records and their
measurements, histograms and persistence maps, the copy to flash, and PER_READ. -/

namespace Sys2Proof.Machine

/-! ## Ticks and values (R376, R377) -/

def State.perCfg (s : State) (g : Nat) : PerGrpCfg := s.pkg.perGrps.get g

/-- The tick that a ONCE generator gives a group: its START, where the group has not taken it. A group that has started
sampling after it takes none. -/
def State.onceTick (s : State) (t : Nat) (last : Option Nat) : Option (Nat × Nat) :=
  let x := s.col.tps.get t
  let st := s.onceStart t
  let due : Bool := x.armed || (decide (x.since < st) && x.doneTo = st)
  if s.col.stopped ∨ ¬ due ∨ last = some st ∨ (last = none ∧ st < s.tai) then none else some (st, st)

/-- The tick a group takes next: its number and its instant in ns of TAI. -/
def State.perTickDue (s : State) (g : Nat) : Option (Nat × Nat) :=
  let c := s.perCfg g
  let last := (s.recs.groups.get g).lastTick
  let fresh (p : Option (Nat × Nat)) : Option (Nat × Nat) := p.filter fun x => last ≠ some x.1
  match c.clock with
  | 0 => fresh ((s.pkg.prots.keys.find? fun i =>
      let p := s.pkg.prots.get i
      p.present && p.lens = c.src && (s.prots.get i).chains.contains c.chain).bind fun i =>
        (s.prots.get i).last.map fun _ => ((s.prots.get i).cycle, (s.prots.get i).evalTai))
  | 1 => fresh (s.cnv.lastPulse.map fun _ => (s.cnv.fnum, s.cnv.tickTai))
  | _ => if (s.pkg.tps.get c.src).mode = .once then s.onceTick c.src last else s.pulseDue c.src last

/-- Quality byte of a slot record (R145, R377). -/
def slotQuality (q : Word) : Nat :=
  let b (v : Bool) (n : Nat) : Nat := if v then n else 0
  b (q &&& 3 = 1) 1 + b (q &&& 3 = 3) 2 + b (q.getLsbD 28) 4 + b (q.getLsbD 31) 8 + b (q.getLsbD 30) 16

/-- Value and quality of a channel, and a mark of which value its source last produced (R376, R377). -/
def State.chValue (s : State) (i : Nat) : (Int × Nat) × Nat :=
  let c := s.pkg.perChs.get i
  match c.kind with
  | 1 =>
    let o := (s.chSlots.get (slotKey c.unitSel c.index)).out
    ((o.value, slotQuality o.quality), o.ts.toNat * 65536 + o.smpCnt)
  | 2 =>
    let w := (s.arms.get c.unitSel).header
    ((signed 16 (leNat (bytesAt w c.index 2)), 0), w.length + leNat (bytesAt w 0 8))
  | 3 =>
    let x := s.sms.get (smKey c.unitSel c.index)
    ((x.vcap, 0), x.taken)
  | 4 =>
    let w := lastWindow (s.progs.get (fKey c.unitSel (c.index / 65536)))
    ((signed 16 (leNat (bytesAt w.2 (c.index % 65536) 2)), 0), w.1)
  | _ => ((0, 0), 0)

/-! ## Triggers (R378) -/

/-- A condition of types 1 to 3 is met at the newest sample `x`, with the samples before it, newest first. -/
def condMet (t : PerTrig) (chans : List Nat) (x : Sample) (before : List Sample) : Bool :=
  let k := chans.idxOf t.channel
  let at_ (y : Sample) : Int × Nat := (y.vals[k]?).getD (0, 0)
  let (v, q) := at_ x
  let past (n : Nat) : Option Int := (before[n - 1]?).map fun y => (at_ y).1
  if q.testBit 0 || q.testBit 3 then false
  else match t.type with
  | 1 => match past 1 with | some p => crosses t.dir t.thresh p v | none => false
  | 2 => match past 1 with
    | some p =>
      let up := decide (t.thresh ≤ v - p)
      let down := decide (v - p ≤ -t.thresh)
      match t.dir with | 0 => up | 1 => down | _ => up || down
    | none => false
  | 3 => match past t.w with | some p => decide (t.thresh ≤ ((v - p).natAbs : Int)) | none => false
  | _ => false

/-- The conditions met at a sample, by rising number, each with the TS it gives a record; 0xFF is FORCE. -/
def metAt (c : PerGrpCfg) (events : List (Nat × Nat)) (x : Sample) (before : List Sample) : List (Nat × Nat) :=
  let one (p : PerTrig × Nat) : Option (Nat × Nat) :=
    if condMet p.1 c.channels x before then some (p.2, tsOf x.ts) else events.find? fun e => e.1 = p.2
  (c.trigs.zipIdx.filterMap one) ++ (events.find? fun e => e.1 = 0xFF).toList

/-! ## Records (R379 to R383) -/

/-- Sample rate of a group in mHz (R380). -/
def State.perRate (s : State) (c : PerGrpCfg) : Nat :=
  match c.clock with
  | 0 => svRate (s.pkg.chains.get (chainKey c.src c.chain)).rate * 1000
  | 1 => 1000000000000 / Nat.max s.pkg.cnv.cf 1
  | _ =>
    let t := s.pkg.tps.get c.src
    if t.mode = .perSecond then t.period * 1000 else 1000000000000 / Nat.max t.period 1

/-- Square root of a mean rounded to nearest. -/
def rmsOf (sum n : Nat) : Nat :=
  let r := Nat.sqrt (sum / n)
  if (2 * r + 1) ^ 2 * n ≤ 4 * sum then r + 1 else r

/-- Instants at which the samples rise through `mean`, by linear interpolation. -/
def risings (mean : Rat) : List (Nat × Int) → List Rat
  | (t, x) :: (u, y) :: r =>
    let rest := risings mean ((u, y) :: r)
    if (x : Rat) < mean ∧ mean ≤ (y : Rat) then
      ((t : Rat) + (mean - x) / ((y : Rat) - x) * ((u : Rat) - t)) :: rest
    else rest
  | _ => []

/-- PERIOD of R381 as an exact number. -/
def periodOf (xs : List (Nat × Int)) : Rat :=
  let mean : Rat := ((xs.foldl (fun a p => a + p.2) (0 : Int) : Int) : Rat) / (xs.length : Rat)
  let cs := risings mean xs
  match cs.head?, cs.getLast? with
  | some a, some b => if cs.length < 2 then 0 else (b - a) / ((cs.length - 1 : Nat) : Rat)
  | _, _ => 0

/-- VALID and the six measurements of a channel (R381). How PERIOD is rounded is not stated, so one of the two
whole numbers next to it, freely. -/
def State.measure (s : State) (xs : List (Nat × Int)) : List Int × State :=
  match xs with
  | [] => ([0, 0, 0, 0, 0, 0, 0], s)
  | (_, x0) :: _ =>
    let n := xs.length
    let p := periodOf xs
    let (v, s) := s.free
    let period : Int := if p = (p.floor : Rat) then p.floor else p.floor + (v.toNat % 2 : Nat)
    let lo := xs.foldl (fun a q => min a q.2) x0
    let hi := xs.foldl (fun a q => max a q.2) x0
    let peak := xs.foldl (fun a q => Nat.max a q.2.natAbs) 0
    let sq := xs.foldl (fun a q => a + q.2.natAbs ^ 2) 0
    ([n, period, rmsOf sq n, Nat.min peak 0x7FFFFFFF, lo, hi, (hi - lo) / 2], s)

/-- The samples of channel `k` of a record that are measured, from sample `lo`: those without INVALID, MISSING and
FILLING, with their instants. -/
def measured (r : PerRec) (k lo : Nat) : List (Nat × Int) :=
  (r.samples.drop lo).filterMap fun y =>
    let v := (y.vals[k]?).getD (0, 1)
    if v.2.testBit 0 || v.2.testBit 3 || v.2.testBit 4 then none else some (y.ts, v.1)

/-- A completed record in the histograms (R382). -/
def State.toHists (s : State) (r : PerRec) : State :=
  s.each ((List.range 32).filter fun h => (s.pkg.hists.get h).en && (s.pkg.hists.get h).group = r.group) fun s h =>
    let c := s.pkg.hists.get h
    let k := (s.perCfg r.group).channels.idxOf c.channel
    let v := (((r.meas[k]?).getD [])[c.meas + 1]?).getD 0
    { s with recs.hists := s.recs.hists.upd h fun x =>
        { bins := bump x.bins (binOf 64 c.lo c.hi v) 64, records := sat32 x.records 1 } }

/-- A completed record in the persistence maps (R382). -/
def State.toPmaps (s : State) (r : PerRec) : State :=
  s.each ((List.range 8).filter fun m => (s.pkg.pmaps.get m).en && (s.pkg.pmaps.get m).group = r.group) fun s m =>
    let c := s.pkg.pmaps.get m
    let k := (s.perCfg r.group).channels.idxOf c.channel
    let n := r.samples.length
    let add (cells : List (Nat × Nat)) (p : Sample × Nat) : List (Nat × Nat) :=
      let v := (p.1.vals[k]?).getD (0, 1)
      if v.2.testBit 0 || v.2.testBit 3 || v.2.testBit 4 then cells
      else
        let key := p.2 * 128 / n * 64 + binOf 64 c.lo c.hi v.1
        putRow cells key (sat16 ((findRow cells key).getD 0) 1)
    { s with recs.pmaps := s.recs.pmaps.upd m fun x =>
        { cells := r.samples.zipIdx.foldl add x.cells, records := sat32 x.records 1 } }

/-- Measures every channel of a record. -/
def State.measureAll (s : State) (r : PerRec) (lo : Nat) : List (List Int) × State :=
  (List.range r.chans.length).foldl (fun a k =>
    let (m, s) := a.2.measure (measured r k lo)
    (a.1 ++ [m], s)) ([], s)

/-- The record in progress ends (R379, R381): measured, numbered, and due for its copy. -/
def State.endRecord (s : State) (g : Nat) (truncated : Bool) : State :=
  let c := s.perCfg g
  let x := s.recs.groups.get g
  match x.cur with
  | none => s
  | some r =>
    let n := c.pre + c.post - x.left
    let chans := c.channels.map fun i =>
      let k := s.pkg.perChs.get i
      (i, k.kind, k.unit, k.scale, k.offset)
    let r := { r with rnum := s.recs.rnum + 1, samples := (x.samples.take n).reverse, chans := chans
                      rate := s.perRate c, modnum := s.glb.modnum.toNat
                      flags := r.flags + (if truncated then 1 else 0) + (if c.protect then 4 else 0)
                        + (if c.clock = 0 then 16 else 0) }
    let (m, s) := s.measureAll r (if c.measPost then r.trigIndex else 0)
    let r := { r with meas := m }
    let s := { s with recs.rnum := s.recs.rnum + 1, recs.records := s.recs.records ++ [r] }
    let s := s.updGrp g fun x =>
      { x with records := sat16 x.records 1, cur := none, taken := 0, holdStart := x.lastAt, holdCount := 0, left := 0
               st := if truncated then .stopped else .holdoff }
    (s.toHists r).toPmaps r

/-- A group waits for PRE samples, or is armed when it has them. -/
def armOrFill (pre taken : Nat) : GrpState := if pre ≤ taken then .armed else .filling

/-- The hold-off of a group has ended at instant `t` (R379). -/
def State.heldOff (s : State) (g t : Nat) : Bool :=
  let c := s.perCfg g
  let x := s.recs.groups.get g
  if c.holdByEvents then decide (c.hold ≤ x.holdCount) else decide (x.holdStart + c.hold * 1000 ≤ t)

/-- A hold-off that is over ends. -/
def State.perCatchUp (s : State) (g : Nat) : State :=
  let x := s.recs.groups.get g
  if x.st = .holdoff ∧ s.heldOff g s.now then
    s.updGrp g fun y => { y with st := armOrFill (s.perCfg g).pre y.taken }
  else s

/-- A condition is honoured: the record starts at sample k - PRE (R379). -/
def startRecord (c : PerGrpCfg) (g : Nat) (met : List (Nat × Nat)) (x : PerGrpSt) : PerGrpSt :=
  let first := (met[0]?).getD (0, 0)
  { x with st := .recording, freeSlots := x.freeSlots - 1, left := c.post - 1
           cur := some { group := g, pre := c.pre, trigIndex := c.pre, trigTs := first.2, trigCond := first.1
                         flags := if first.1 = 0xFF then 8 else 0
                         list := (met.map fun m => (m.1, c.pre)).take 8 } }

/-- The states of R379 at a sample with the conditions `met`. -/
def perStep (c : PerGrpCfg) (g : Nat) (met : List (Nat × Nat)) (x : PerGrpSt) : PerGrpSt :=
  let n := met.length
  match x.st with
  | .filling => { x with prefSup := sat32 x.prefSup n, st := armOrFill c.pre x.taken }
  | .armed =>
    if n = 0 then x
    else if x.freeSlots = 0 then { x with ringSup := sat32 x.ringSup n }
    else startRecord c g met x
  | .recording =>
    let i := c.pre + c.post - x.left
    { x with left := x.left - 1
             cur := x.cur.map fun r =>
               { r with list := (r.list ++ met.map fun m => (m.1, i)).take 8
                        flags := if n = 0 ∨ r.flags.testBit 1 then r.flags else r.flags + 2 } }
  | .holdoff => { x with holdSup := sat32 x.holdSup n, holdCount := x.holdCount + n }
  | .stopped => x

/-- A group takes the sample of a tick at instant `t` of TAI; what happened after that instant waits for a later sample
(R378). With sample k + POST - 1 the record is complete (R379). -/
def State.perSample (s : State) (g tick t : Nat) : State :=
  let c := s.perCfg g
  let x := s.recs.groups.get g
  let got := c.channels.map fun i => s.chValue i
  let old := x.marks
  let vals := got.zipIdx.map fun p =>
    if x.taken + x.samples.length ≠ 0 ∧ old[p.2]? = some p.1.2 then (p.1.1.1, p.1.1.2 + 32) else p.1.1
  let smp : Sample := { ts := t, vals := vals }
  let met := metAt c ((x.events.filter fun e => decide (e.2 ≤ t)).map fun e => (e.1, tsOf e.2)) smp x.samples
  let s := s.updGrp g fun x => perStep c g met
    { x with lastAt := s.now - (s.tai - t), samples := (smp :: x.samples).take (c.pre + c.post + 256), taken := x.taken + 1, marks := got.map (·.2)
             lastTick := some tick, events := x.events.filter fun e => decide (t < e.2) }
  let x := s.recs.groups.get g
  if x.st = .recording ∧ x.left = 0 then s.endRecord g false else s

/-- The group samples its channels at its next tick. -/
def State.perTick (s : State) (g : Nat) : State :=
  if ¬ perPresent ∨ (s.recs.groups.get g).st = .stopped then s
  else match s.perTickDue g with
    | none => s
    | some (n, t) => ((s.upToTai t).perCatchUp g).perSample g n t

/-- PER_GROUP_TICK (R376, R378, R379): the group samples its channels at its next tick. -/
def execPerGroupTick (g : Fin 16) (s : State) : Res := .next (s.perTick g)

/-- PER_RECORD_COMPLETE (R379, R381): the sample that is taken next is the last of its record, k + POST - 1, and ends it
(log 114). -/
def execPerRecordComplete (g : Fin 16) (s : State) : Res :=
  let x := s.recs.groups.get g
  .next (if x.st = .recording ∧ x.left = 1 then s.perTick g else s)

/-- HOLDOFF_END (R379): by time on the reference clock, or by met conditions. -/
def execHoldoffEnd (g : Fin 16) (s : State) : Res :=
  let c := s.perCfg g
  let x := s.recs.groups.get g
  .next (if x.st ≠ .holdoff then s
    else (if c.holdByEvents then s else s.upTo (x.holdStart + c.hold * 1000)).perCatchUp g)

/-! ## Control (R378, R379) -/

/-- A group starts sampling. -/
def State.perStart (s : State) (g : Nat) : State :=
  s.updGrp g fun x =>
    { x with run := true, st := armOrFill (s.perCfg g).pre 0, samples := [], taken := 0, marks := [], events := []
             lastTick := none }

/-- A group stops; a record in progress ends with TRUNCATED. -/
def State.perHalt (s : State) (g : Nat) : State :=
  let s := s.endRecord g true
  s.updGrp g fun x => { x with st := .stopped, samples := [], events := [] }

/-- PER_GRP_CTRL.RUN takes a value. -/
def State.setPerRun (s : State) (g : Nat) (run : Bool) : State :=
  if (s.recs.groups.get g).run = run then s
  else if run then s.perStart g
  else (s.perHalt g).updGrp g fun x => { x with run := false }

/-- PER_GRP_CTRL.FORCE: the next sample meets it. -/
def State.perForce (s : State) (g : Nat) : State :=
  if (s.recs.groups.get g).st = .stopped then s
  else s.updGrp g fun x => { x with events := x.events ++ [(0xFF, s.tai)] }

/-- A write to the Periscope window (R3, R50). -/
def State.perWrite (s : State) (f : State → State) : State :=
  s.unitWrite perPresent f

/-- PER_RUN_WRITE (R379, R398). -/
def execPerRunWrite (g : Fin 16) (run : Bool) (s : State) : Res := .next (s.perWrite fun s => s.setPerRun g run)

/-- PER_FORCE (R378, R398). -/
def execPerForce (g : Fin 16) (s : State) : Res := .next (s.perWrite fun s => s.perForce g)

/-! ## Flash (R383) -/

/-- Length of a record in bytes (R380). -/
def recLength (r : PerRec) : Nat :=
  let c := r.chans.length
  let n := r.samples.length
  64 + 48 * c + 64 + n * c * 5 + (if r.flags.testBit 4 then 4 * n else 0) + 4

/-- Size of the records partition: 24 GiB. -/
def recPartition : Nat := 24 * 2 ^ 30

/-- Makes room for `need` bytes by dropping the oldest record in flash that is not PROTECTED. -/
def makeRoom (need : Nat) : Nat → List PerRec → List PerRec
  | 0, rs => rs
  | k + 1, rs =>
    let used := (rs.filter (·.inFlash)).foldl (fun a r => a + recLength r) 0
    if used + need ≤ recPartition then rs
    else match rs.find? fun r => r.inFlash && !r.flags.testBit 2 with
      | none => rs
      | some o => makeRoom need k (rs.filter fun r => r.rnum ≠ o.rnum)

/-- PER_FLASH_COPY_DONE (R383): the copy of the record next in completion order is verified, and its slot is free;
with only protected records in a full partition it stays in its slot and is counted. -/
def execPerFlashCopyDone (rnum : Nat) (s : State) : Res :=
  .next (match s.recs.records.find? fun r => !r.inFlash && !r.skipped with
  | none => s
  | some r =>
    if r.rnum ≠ rnum ∨ s.recs.copyPaused then s
    else
      let rs := makeRoom (recLength r) s.recs.records.length s.recs.records
      let used := (rs.filter (·.inFlash)).foldl (fun a x => a + recLength x) 0
      let mark (f : PerRec → PerRec) : List PerRec := rs.map fun x => if x.rnum = rnum then f x else x
      if used + recLength r ≤ recPartition then
        let s := { s with recs.records := mark fun x => { x with inFlash := true, inSlot := false } }
        s.updGrp r.group fun x => { x with freeSlots := x.freeSlots + 1 }
      else
        { s with recs.records := mark fun x => { x with skipped := true }, recs.flashFull := sat32 s.recs.flashFull 1 })

/-! ## PER_READ (R380, R382, R396) -/

/-- A record as PER_READ copies it (R380). -/
def recBytes (r : PerRec) : List Byte :=
  let t0 := match r.samples.head? with | some x => x.ts | none => 0
  let table := r.chans.zipIdx.flatMap fun p =>
    let (i, kind, unit, scale, offset) := p.1
    let m := (r.meas[p.2]?).getD []
    leBytes 2 i ++ leBytes 1 kind ++ leBytes 1 unit ++ leBytes 4 scale ++ leBytes 4 offset
      ++ ((List.range 7).flatMap fun k => leBytes 4 (unsigned 32 ((m[k]?).getD 0))) ++ leBytes 8 0
  let trigs := (List.range 8).flatMap fun k =>
    match r.list[k]? with | some (c, i) => leBytes 4 c ++ leBytes 4 i | none => leBytes 8 0
  let values := r.samples.flatMap fun x => x.vals.flatMap fun v => leBytes 4 (unsigned 32 v.1)
  let quals := r.samples.flatMap fun x => x.vals.flatMap fun v => leBytes 1 v.2
  let stamps := if r.flags.testBit 4 then r.samples.flatMap fun x => leBytes 4 x.ts else []
  let data := values ++ quals ++ stamps
  let head := leBytes 8 r.rnum ++ leBytes 1 r.group ++ leBytes 1 r.chans.length ++ leBytes 2 r.flags
    ++ leBytes 4 r.samples.length ++ leBytes 4 r.pre ++ leBytes 4 r.trigIndex ++ leBytes 6 (t0 / 1000000000)
    ++ leBytes 2 r.modnum ++ leBytes 4 (t0 % 1000000000) ++ leBytes 4 r.rate ++ leBytes 4 r.trigTs
    ++ leBytes 1 r.trigCond ++ leBytes 1 r.list.length ++ leBytes 2 0 ++ leBytes 4 (128 + 48 * r.chans.length)
    ++ leBytes 4 data.length ++ leBytes 8 0
  let body := head ++ table ++ trigs ++ data
  body ++ leBytes 4 (crc32 body).toNat

/-- An INDEX entry (R396). -/
def recEntry (r : PerRec) : List Byte :=
  let t0 := match r.samples.head? with | some x => x.ts | none => 0
  leBytes 8 r.rnum ++ leBytes 1 r.group ++ leBytes 1 r.flags ++ leBytes 2 0 ++ leBytes 6 (t0 / 1000000000) ++ leBytes 2 0
    ++ leBytes 4 (t0 % 1000000000) ++ leBytes 4 r.trigTs ++ leBytes 4 (recLength r)

/-- PER_READ of one sub-command. Slices other than 0 read what belongs to them (R396). -/
def perForm (sub : Nat) (may : Desc → Bool) : DescForm :=
  { opcode := 0x71, sub := some (32, sub), used := [(32, 4), (40, 16)], buf := true, may := may
    present := fun _ => perPresent }

/-- Copies part of an item to the buffer and completes with its size and the bytes copied. -/
def State.perCopy (s : State) (i j : Nat) (d : Desc) (item : List Byte) : State :=
  let part := (item.drop (d.num 52 4)).take d.length
  (s.hostWrite i (.buffer d.bufAddr part)).complete j cOk (item.length + part.length * 2 ^ 64)

/-- A record the module holds, in a ring slot or in flash. -/
def State.recHeld (s : State) (n : Nat) : Option PerRec := s.recs.records.find? fun r => r.rnum = n

/-- PER_READ_RECORD (R380, R396). -/
def execPerReadRecord (i : Fin 64) (r : Fin 8) (s : State) : Res :=
  let own (d : Desc) : Bool := match s.recHeld (d.num 40 8) with | some x => (s.perCfg x.group).owner = i.val | none => true
  .next (s.runDesc i r (perForm 1 fun d => i.val = 0 || (own d && d.num 33 1 = 0)) fun s j d =>
    if 1 < d.num 33 1 then s.complete j cInvalid 0
    else match s.recHeld (d.num 40 8) with
    | some x => s.perCopy i j d (recBytes x)
    | none => s.complete j 0x0B00 0)

/-- PER_READ_HIST (R382, R396). -/
def execPerReadHist (i : Fin 64) (r : Fin 8) (s : State) : Res :=
  let own (d : Desc) : Bool := (s.perCfg (s.pkg.hists.get (d.num 34 2)).group).owner = i.val
  .next (s.runDesc i r (perForm 2 fun d => i.val = 0 || (own d && d.num 33 1 = 0)) fun s j d =>
    let h := d.num 34 2
    if 31 < h ∨ 1 < d.num 33 1 then s.complete j cInvalid 0
    else
      let s := s.perCopy i j d (Config.histImage (s.recs.hists.get h).bins)
      if d.num 33 1 = 1 then { s with recs.hists := s.recs.hists.set h {} } else s)

/-- PER_READ_PMAP (R382, R396). -/
def execPerReadPmap (i : Fin 64) (r : Fin 8) (s : State) : Res :=
  let own (d : Desc) : Bool := (s.perCfg (s.pkg.pmaps.get (d.num 34 2)).group).owner = i.val
  .next (s.runDesc i r (perForm 3 fun d => i.val = 0 || (own d && d.num 33 1 = 0)) fun s j d =>
    let m := d.num 34 2
    if 7 < m ∨ 1 < d.num 33 1 then s.complete j cInvalid 0
    else
      let s := s.perCopy i j d (Config.pmapImage (s.recs.pmaps.get m).cells)
      if d.num 33 1 = 1 then { s with recs.pmaps := s.recs.pmaps.set m {} } else s)

/-- PER_READ_INDEX (R396): entries of the records held from RNUM on that the slice may read. -/
def execPerReadIndex (i : Fin 64) (r : Fin 8) (s : State) : Res :=
  .next (s.runDesc i r (perForm 4 fun d => i.val = 0 || d.num 33 1 = 0) fun s j d =>
    let n := d.num 48 4
    if n = 0 ∨ 4096 < n ∨ 1 < d.num 33 1 then s.complete j cInvalid 0
    else
      let rs := s.recs.records.filter fun x =>
        decide (d.num 40 8 ≤ x.rnum) && (i.val = 0 || (s.perCfg x.group).owner = i.val)
      s.perCopy i j d ((rs.take n).flatMap recEntry))

end Sys2Proof.Machine
end

