-- ==== Sys2Proof/Machine/Lens.lean ====
section
/-! DEFINITION. The Lens Steward: facet hardware faults and their repair (R101 to R105), lens wakes
(R34), stream records and messages that arrive (R79, R97), lens failures and their handling (R104, R436,
R437). -/

namespace Sys2Proof.Machine

/-! ## A standby's seals (R362) -/

/-- Before the computing phase of cycle `n` begins at a synchronised standby, the facet's local seal area is
replaced with the partner's committed seal of cycle `n` - 1; a seal not there in time is counted. -/
def State.adoptSeal (s : State) (l h n : Nat) : State :=
  if s.mlk.role = .standby ∧ s.mlk.complete then
    match findRow s.mlk.seals (fKey l h) with
    | some r =>
      if r.cycle + 1 = n then s.updFacet l (s.host l h) fun x => restoreArea (s.fCfg l h) r x
      else s.updMlk fun m => { m with adoptLate := sat32 m.adoptLate 1 }
    | none => s.updMlk fun m => { m with adoptLate := sat32 m.adoptLate 1 }
  else s

/-! ## The rolling self-test of a standby (R369) -/

/-- The program of home facet `h` moves to the lowest free spare, from its own checkpoint, and the facet it leaves is under
test. -/
def State.moveOut (s : State) (l h : Nat) : State :=
  let f := s.host l h
  match minList (s.lenses.get l).free with
  | none => s
  | some sp =>
    let s := s.loadFacet l sp h
    let s := match checkpoint (s.progs.get (fKey l h)) with
      | some r => s.updFacet l sp fun x => { restoreArea (s.fCfg l h) r x with restored := true, firstCycle := false }
      | none => s
    let s := s.updFacet l f fun x => { role := .spare, fault := x.fault }
    s.updLens l fun x => { x with free := x.free.filter (· ≠ sp), testing := some f }

/-- At its cycle boundary a standby's program moves, where no other test is under way in its lens and its facet has not
been tested in this rotation. -/
def State.rollMove (s : State) (l h : Nat) : State :=
  if s.mlk.role ≠ .standby ∨ s.mlk.mmDown ∨ (s.lenses.get l).testing.isSome ∨ s.mlk.rotDone.contains (fKey l (s.host l h))
  then s
  else s.moveOut l h

/-! ## Repair (R102) -/

/-- SRAM_UNCORR (R101): an uncorrectable error is counted in UNCORR, and the facet halts, is fenced and repaired; one
that the seal writer met leaves the record without a good CRC (R105). A corrected error is counted in CORR and changes
nothing else. An error that the scrub finds in a fenced facet is only counted. -/
def execSramUncorr (l : Fin 16) (h : SramHit) (s : State) : Res :=
  let f := h.facet
  let fenced := (s.facets.get (fKey l f)).run = .fenced
  .next (match h.found with
    | .corrected => s.updLens l fun x => { x with eccCorr := sat16 x.eccCorr 1 }
    | .uncorrectable => (s.updLens l fun x => { x with eccUncorr := sat16 x.eccUncorr 1 }).hwFault l f .sramUncorr
    | .inSeal =>
      let s := if fenced then s else s.sealCut l f
      (s.updLens l fun x => { x with eccUncorr := sat16 x.eccUncorr 1 }).hwFault l f .sramUncorr)

/-- FETCH_PARITY (R101). -/
def execFetchParity (l : Fin 16) (f : Fin 64) (s : State) : Res := .next (s.hwFault l f .fetchParity)

/-- WAKE_FAIL (R101): no wake acknowledgement within 100 ns. -/
def execWakeFail (l : Fin 16) (f : Fin 64) (s : State) : Res := .next (s.hwFault l f .wakeFail)

/-- The first cycle a repaired logic program runs: cycle n again if its EXECUTE was under way, with the
watchdog extended by T_R (R103, R116). -/
def State.replayLogic (s : State) (p : Nat) (r : Repair) : State :=
  let c := s.pkg.logic.get p
  if (s.logic.get p).phase = .execute then
    let s := s.updLogic p fun x => { x with wdogExt := x.wdogExt + (s.now - r.start) }
    let s := s.updProg c.lens c.facet fun q => { q with computing := true, outDone := false, sealed := false }
    let s := s.updFacet c.lens (s.host c.lens c.facet) fun x => { x with replayed := r.opened }
    s.raise c.lens c.facet .tick
  else s

/-- The first cycle a repaired protection program runs (R103): the earliest cycle not run, with
REPLAYED = 1 for the one that failed, while its input buffer has not been reused; else the next one, with
every cycle not replayed counted. -/
def State.replayProt (s : State) (l i : Nat) (r : Repair) : State :=
  let m := (s.prots.get i).cycle
  let n := if r.opened then r.cycle else r.cycle + 1
  if m < n then s
  else if m ≤ n + 1 then
    let s := (s.updFacet l r.spare fun x => { x with replayed := r.opened }).protBegin l r.home n
    s.updProg l r.home fun q => { q with catchUp := q.computing }
  else
    let s := s.updProg l r.home fun q => { q with cycle := m, computing := false }
    s.updLens l fun x => { x with repairGap := sat32 x.repairGap (m + 1 - n) }

/-- REPAIR_LOAD_DONE (R102 steps 3 to 6): the spare holds the image and the checkpoint's data with
RESTORED set and CYCLE the program's present cycle (R78), takes the role, and runs as R103 states; what had woken its facet and was still queued wakes it now. -/
def execRepairLoadDone (l : Fin 16) (s : State) : Res :=
  .next (match (s.lenses.get l).repair with
  | none => s
  | some r =>
    let c := s.fCfg l r.home
    let old := s.facets.get (fKey l r.failed)
    let s := s.loadFacet l r.spare r.home
    let s := s.updFacet l r.spare fun x =>
      let x := match checkpoint (s.progs.get (fKey l r.home)) with
        | some k => restoreArea c k x
        | none => x
      { x with dmem := memPutNat x.dmem aStatus 8 (s.progs.get (fKey l r.home)).cycle, role := old.role, run := .gated, restored := true, firstCycle := false, qStream := old.qStream,
               streamAt := old.streamAt, qMessage := old.qMessage, messageAt := old.messageAt }
    let s := s.updLens l fun x => { x with repair := none, repairs := sat8 x.repairs 1 }
    let s := match s.logicAt l r.home with
      | some p => s.replayLogic p r
      | none => match s.protAt l r.home with
        | some i => s.replayProt l i r
        | none => s
    (s.takeQueued l r.spare).nextRepair l)

/-- Longest T_R of a program in ns: 6 µs for a loop program, 40 µs for any other (R102). -/
def repairLimit (r : Role) : Nat := if r = .loop then 6000 else 40000

/-- REPAIR_TIMEOUT (R104): the repair exceeds its T_R. -/
def execRepairTimeout (l : Fin 16) (s : State) : Res :=
  .next (match (s.lenses.get l).repair with
  | none => s
  | some r => (s.upTo (r.start + repairLimit (s.fCfg l r.home).role)).lensFail l .repairTime)

/-! ## Lens failure (R104, R436, R437) -/

/-- Facets of a lens that hold a program. -/
def State.lensPrograms (s : State) (l : Nat) : List Nat :=
  (List.range 64).filter fun h => (s.fCfg l h).role ≠ .spare

/-- A declared spare lens that is present, is ON, has not failed and holds no programs yet. -/
def State.spareLens (s : State) (l : Nat) : Option Nat :=
  (List.range lensCount).find? fun k =>
    k ≠ l && (s.pkg.lenses.get k).isSpareLens && s.unitOn (.lens k) && !(s.lenses.get k).fenced
      && (s.lenses.get k).failure.isNone && s.lensPrograms k = []

/-- Every program of a lens stops and its lanes are released; logic programs commit their safe images
(R437, R478). -/
def State.stopLens (s : State) (l : Nat) : State :=
  let s := s.each (s.lensPrograms l) fun s h => match s.logicAt l h with
    | some p => if (s.logic.get p).st = .running ∨ (s.logic.get p).st = .exchanging
                then s.logicStop p .stopped else s
    | none => s
  let s := s.each (s.lensPrograms l) fun s h =>
    (s.stopFacet l (s.host l h)).releaseAll (fKey l h)
  s.updLens l fun x => { x with repair := none, waitRepair := [], relocTo := none }

/-- Fences a lens without relocation or handover (R437), until the next cold restart. -/
def State.fenceLens (s : State) (l : Nat) : State :=
  let s := s.stopLens l
  let s := s.updLens l fun x => { x with fenced := true, failure := none, pstate := .off, waking := none }
  let s := s.updUnit (.lens l) fun u => { u with st := .off, fenced := true, en := false }
  let s := s.each (List.range 32) fun s c =>
    if (s.unit (.chain l c)).st = .off then s
    else s.updUnit (.chain l c) fun u => { u with st := .off }
  s.alarm .lensFenced l

/-- LENS_FAILURE (R104, R436): the Module Manager moves the programs to a spare lens if one is declared and
the lens holds no loop facet; else it yields when the partner is IN_SERVICE, and fences the lens when it
is not. A failed Module Manager does nothing (R15). -/
def execLensFailure (l : Fin 16) (s : State) : Res :=
  .next (if (s.lenses.get l).failure = none ∨ s.mlk.mmDown then s
    else
      let loops := (s.lensPrograms l).any fun h => (s.fCfg l h).role = .loop
      match if loops then none else s.spareLens l with
      | some k => s.updLens l fun x => { x with relocTo := some k, failure := none }
      | none =>
        if s.paired ∧ s.mlk.role = .active then
          (s.updMlk fun m => { m with yieldAt := true }).updLens l fun x => { x with failure := none }
        else s.fenceLens l)

/-- LENS_MEM_UNCORR (R104): counted, and reported as a lens failure; a corrected error is only counted (R101, R106). -/
def execLensMemUncorr (h : MemHit) (s : State) : Res :=
  let l := h.lens
  .next (if h.corrected then s.updLens l fun x => { x with eccCorr := sat16 x.eccCorr 1 }
    else (s.updLens l fun x => { x with eccUncorr := sat16 x.eccUncorr 1 }).lensFail l .memUncorr)

/-- LENS_STEWARD_FAIL (R15, R104): the lens runs on without further repair. -/
def execLensStewardFail (l : Fin 16) (s : State) : Res :=
  .next ((s.updLens l fun x => { x with stewardFailed := true, repair := none, waitRepair := [] }).lensFail l
    .steward)

/-- Moves the rows of lens `l` to lens `k` in a table keyed lens * n + index. -/
def moveRows {α : Type} (l k n : Nat) (t : Tbl α) : Tbl α :=
  (t.rows.filter fun r => r.1 / n = l).foldl
    (fun t r => (t.set r.1 t.dflt).set (k * n + r.1 % n) r.2) t

/-- Moves what the package declares for lens `l` to lens `k` (R436). -/
def moveLens (l k : Nat) (p : Package) : Package :=
  let mv (x : Nat) : Nat := if x = l then k else x
  { p with
    facets := moveRows l k 64 p.facets
    chains := moveRows l k 32 p.chains
    slots := moveRows l k 256 p.slots
    logic := p.logic.mapRows fun _ c => { c with lens := mv c.lens }
    prots := p.prots.mapRows fun _ c => { c with lens := mv c.lens }
    gps := p.gps.mapRows fun _ c => { c with lens := mv c.lens }
    svPubs := p.svPubs.mapRows fun _ c => { c with lens := mv c.lens }
    pwms := p.pwms.mapRows fun _ c => { c with lens := mv c.lens }
    svs := p.svs.mapRows fun _ c =>
      { c with lensMask := if c.lensMask.getLsbD l then
          (c.lensMask &&& ~~~(1#16 <<< l)) ||| (1#16 <<< k) else c.lensMask } }

/-- A program resumes on the spare lens: from its last good seal, or cold with FIRST_CYCLE; the cycle that has been `cut`
is not run and is counted (R436). -/
def State.resumeOn (s : State) (l k h : Nat) (readable cut : Bool) : State :=
  let q := s.progs.get (fKey l h)
  let c := s.fCfg k h
  let s := s.loadAt k h
  let s := match (if readable then checkpoint q else none) with
    | some r =>
      let s := s.updProg k h fun _ => { q with computing := false, outDone := false, sealed := false, catchUp := false }
      s.updFacet k (s.host k h) fun x => { restoreArea c r x with restored := true, firstCycle := false }
    | none => s.updProg k h fun _ => { cycle := q.cycle }
  let s := if cut then s.updLens k fun x => { x with repairGap := sat32 x.repairGap 1 } else s
  match s.logicAt k h with
  | some p => s.updLogic p fun x => { x with phase := if x.phase = .ended then .ended else .idle, wdogExt := 0 }
  | none => s

/-- LENS_RELOCATION_DONE (R436): the programs of the lens run on the spare lens, whose configuration has changed
(R66). -/
def execLensRelocationDone (l : Fin 16) (readable : Bool) (s : State) : Res :=
  .next (match (s.lenses.get l).relocTo with
  | none => s
  | some k =>
    let hs := s.lensPrograms l
    let at_ (h : Nat) : FacetSt := s.facets.get (fKey l (s.host l h))
    let run := (hs.filter fun h => (at_ h).run ≠ .stopped).map fun h =>
      (h, !betweenCycles (at_ h) && (s.fCfg l h).role ≠ .focusAssist)
    let s := s.each hs fun s h => (s.stopFacet l (s.host l h)).releaseAll (fKey l h)
    let s := s.updSvc fun v => { v with pkg := moveLens l k v.pkg }
    let s := { s with chains := moveRows l k 32 s.chains, chSlots := moveRows l k 256 s.chSlots,
                      fns := moveRows l k 2048 s.fns, units := moveRows (32 + l) (32 + k) 32 s.units }
    let s := s.each run fun s h => s.resumeOn l k h.1 readable h.2
    let s := s.updLens l fun x => { x with relocTo := none, repair := none, waitRepair := [], fenced := true,
                                           pstate := .off, waking := none }
    let s := s.updLens k fun x => { x with needsTest := true }
    let s := s.updUnit (.lens l) fun u => { u with st := .off, fenced := true, en := false }
    s.event .lensRelocated (l + 256 * k))

/-! ## Wakes of a lens (R34) -/

/-- Wake time of a lens in ns, by the state it wakes from (R33). -/
def wakeTime (p : PState) : Nat := if p = .retain then 40000 else 200

/-- LENS_PRETICK_WAKE (R34): 200 ns or 40 µs before the next scheduled tick. -/
def execLensPretickWake (l : Fin 16) (s : State) : Res :=
  let x := s.lenses.get l
  .next (match s.nextTick l with
  | some t => if (x.pstate = .idle ∨ x.pstate = .retain) ∧ x.waking = none
              then (s.upTo (t - wakeTime x.pstate)).wakeLens l else s
  | none => s)

/-- LENS_WAKE_DONE (R34): the lens is in RUN, and its gated facets take what has been queued for them. -/
def execLensWakeDone (l : Fin 16) (s : State) : Res :=
  .next (if (s.lenses.get l).waking = none then s
    else
      let s := s.updLens l fun x => { x with pstate := .run, waking := none }
      (s.each (List.range 64) fun s f => s.takeQueued l f).lensRest l)

/-- LENS_WAKE_TIMEOUT (R34, R104): the wake has not ended within its wake time; it goes on. -/
def execLensWakeTimeout (l : Fin 16) (s : State) : Res :=
  let x := s.lenses.get l
  .next (match x.waking with
  | some t => (s.upTo (t + wakeTime x.pstate)).lensFail l .wakeTime
  | none => s)

/-! ## Arrivals (R79, R97, R105) -/

/-- STREAM_RECORD_ARRIVAL (R79): a complete record enters the facet's stream window, the write index
advances, and the facet wakes with WAKE bit 1; a sleeping lens wakes. Only protection and Focus assistant
facets have a stream window, and a lens that is OFF stores nothing. -/
def execStreamRecordArrival (l : Fin 16) (f : Fin 64) (bytes : List Byte) (s : State) : Res :=
  let r := (s.fCfg l f).role
  .next (if (r = .protection ∨ r = .focusAssist) ∧ (s.lenses.get l).pstate ≠ .off then
      (s.updProg l f fun q => { q with stream := q.stream ++ [bytes],
                                       writeIndex := q.writeIndex + 1 }).raise l f .stream
    else s)

/-- MESSAGE_ARRIVAL (R97): the oldest message on its way to the lens enters its queue, and its facet
wakes. -/
def execMessageArrival (l : Fin 16) (s : State) : Res :=
  .next (match (s.lenses.get l).inbound with
  | [] => s
  | (h, q, m) :: r =>
    let s := s.updLens l fun x => { x with inbound := r }
    (s.updProg l h fun p =>
      { p with rxq := p.rxq.setIfInBounds q (((p.rxq.toList[q]?).getD []) ++ [m]) }).raise l h .message)

end Sys2Proof.Machine
end

