-- ==== Sys2Proof/Machine/Converter.lean ====
section
/-! DEFINITION. The converter frame (R168, R169, R177, R186 to R191, R215), the uplinks and the beam lanes'
locks and calibrations (R218 to R222). -/

namespace Sys2Proof.Machine

/-! ## SEAL (R168, R191, R354) -/

/-- SEAL of the frame that ends: each arm lens closes its converter epoch with the seals its loop facets have
written in the frame and its arms' records (R26, R356). -/
def State.cnvSeal (s : State) : State :=
  if s.cnv.sealDue then
    let n := s.cnv.fnum
    let ls := ((s.armList.map fun a => (s.pkg.arms.get a).lens) ++ s.loopFacets.map (·.1)).eraseDups
    let s := s.updCnv fun c => { c with sealDue := false }
    s.each ((List.range 16).filter fun l => ls.contains l) fun s l =>
      let seals := (s.loopFacets.filter fun p => p.1 = l).filterMap fun p =>
        match checkpoint (s.progs.get (fKey l p.2)) with
        | some r => if r.cycle = n ∧ (s.progs.get (fKey l p.2)).outDone then some (Item.facetSeal l p.2 r) else none
        | none => none
      let arms := (s.armList.filter fun a => (s.pkg.arms.get a).lens = l).map fun a => Item.arm a (s.armRec a)
      s.closeEpoch .converter l n (tsOf s.cnv.tickTai) 0 (seals ++ arms)
  else s

/-! ## Operating states at the start of GATHER (R186, R187) -/

/-- Arms of a deblock. -/
def State.deblockSet (s : State) (j : Nat) : List Nat :=
  s.armList.filter fun a => match (s.arms.get a).pend with | some (k, _, _) => k = j | none => false

/-- First condition of R187 that an arm fails, numbered as FAILED of R188; 0 when all hold. -/
def State.deblockFail (s : State) (a : Nat) : Nat :=
  let c := s.pkg.arms.get a
  let x := s.arms.get a
  if ¬ s.unitOn (.arm a) then 1
  else if (s.armLanes a).any fun l => decide ((s.beams.get l).streak < c.deblockFrames) then 2
  else if x.leadRun < c.deblockFrames then 3
  else if ¬ c.psc ∧ x.avail < x.lastOut.nOn then 4
  else if ¬ s.mlk.grant then 5
  else 0

/-- Deblocks whose conditions hold for every arm of their set, from frame `n` (R187). -/
def State.deblocks (s : State) (n : Nat) : State :=
  s.each s.armList fun s a =>
    match (s.arms.get a).pend with
    | some (j, _, at_) =>
      let set := s.deblockSet j
      if (s.arms.get a).op = .pending ∧ at_ ≤ n ∧
          set.all fun b => decide (s.deblockFail b = 0) && !s.maskOn (s.pkg.arms.get b).mask then
        s.each set fun s b => s.updArm b fun x =>
          { x with op := .deblocked, cause := .none, firstDeblocked := true, rankAfresh := true, heldRun := 0 }
      else s
    | none => s

/-- A CNV_CTRL BLOCK takes effect on its arms at frame `n` and completes (R186, R188). A deblock of one of them
that still waits is refused. -/
def State.blockJob (s : State) (j n : Nat) : State :=
  let set := s.armList.filter fun a => (s.arms.get a).blockAt.any fun p => p.1 = j
  let s := s.each set fun s a =>
    match (s.arms.get a).op, (s.arms.get a).pend with
    | .pending, some (k, _, _) =>
      (s.endDeblock k 0x0601 0).updArm a fun x => { x with op := .blocked, cause := .cmd }
    | .deblocked, _ => s.updArm a fun x => { x with op := .blocked, cause := .cmd }
    | _, _ => s
  let s := s.each set fun s a => s.updArm a fun x => { x with blockAt := x.blockAt.filter fun p => p.1 ≠ j }
  s.complete j cOk (cnvResult n (set.foldl (fun m a => m + 2 ^ a) 0) 0)

/-- Every CNV_CTRL BLOCK whose frame has come takes effect at frame `n`. -/
def State.blockJobs (s : State) (n : Nat) : State :=
  let js := (s.armList.flatMap fun a =>
    ((s.arms.get a).blockAt.filter fun p => decide (p.2 ≤ n)).map (·.1)).eraseDups
  s.each js fun s j => s.blockJob j n

/-- An arm whose EN has fallen is BLOCKED from this frame, and stops (R186). -/
def State.disableArm (s : State) (a : Nat) : State :=
  let u := s.unit (.arm a)
  if u.st = .on ∧ u.en = false then
    let p := (s.arms.get a).pend
    let s := match p with
      | some (j, _, _) => if (s.arms.get a).op = ArmOp.pending then s.endDeblock j 0x0601 1 else s
      | none => s
    let s := s.updArm a fun x =>
      if x.op = ArmOp.deblocked ∨ p.isSome then { x with op := .blocked, cause := .disabled, pend := none } else x
    s.updUnit (.arm a) fun u => { u with st := .stopping, since := s.now }
  else s

/-- Loop programs of a staged package are exchanged at the frame boundary, with their declared state (R134,
R135, R171), from the staging region (R13); one under repair waits. -/
def State.exchLoops (s : State) (n : Nat) : State :=
  match s.svc.staged with
  | none => s
  | some i =>
    let go := s.svc.exchLoops.filter fun k => !s.inRepair (k / 64) (k % 64) && s.exchDue none n
    let s := s.each go fun s k =>
      let oc := s.pkg.facets.get k
      let nc := i.body.facets.get k
      let f := s.host (k / 64) (k % 64)
      let s := s.updLens (k / 64) fun y => { y with staging := some { home := k % 64, code := nc.code, data := nc.data } }
      let s := s.updFacet (k / 64) f fun y =>
        { y with dmem := exchangeData y.dmem { retain := oc.retain, instances := oc.instances }
                           { retain := nc.retain, instances := nc.instances } nc,
                 imem := nc.code, firstCycle := true }
      s.updSvc fun v => { v with pkg := { v.pkg with facets := v.pkg.facets.set k nc } }
    if go = [] then s
    else (s.updSvc fun v => { v with exchLoops := v.exchLoops.filter fun k => !go.contains k }).exchFinish

/-! ## Frame ticks (R168, R215) -/

/-- The next frame's number and the instant of its tick. -/
def State.frameDue (s : State) : Option (Nat × Nat) := s.pulseDue s.pkg.cnv.tp s.cnv.lastPulse

/-- CF_FRAME_TICK (R168): the frame before is sealed, the arms' states are fixed, and GATHER begins. -/
def execCfFrameTick (s : State) : Res :=
  .next (if ¬ s.cnvRuns then s
    else match s.frameDue with
    | none => s
    | some (n, t) =>
      let s := (s.upToTai t).flushBeams
      let s := s.cnvSeal
      let s := s.exchLoops n
      let s := s.each s.armList fun s a => s.updArm a fun x => { x with firstDeblocked := false, iarmUp := none }
      let s := s.each s.armList fun s a => s.disableArm a
      let s := s.blockJobs n
      let s := s.deblocks n
      let s := s.each s.armList fun s a => s.eachSm a fun _ x => { x with fresh := none }
      let s := { s with beams := s.beams.mapRows fun _ b => { b with used := false } }
      s.updCnv fun c => { c with fnum := n, lastPulse := some n, phase := .gather, tickAt := s.now, tickTai := t })

/-- CF_TICK_MISSING (R190, R215): a frame tick does not come. It is counted, and nothing of that frame is
gathered or emitted. -/
def execCfTickMissing (s : State) : Res :=
  .next (if ¬ s.cnvRuns then s
    else match s.frameDue with
    | none => s
    | some (n, t) =>
      let s := (s.upToTai t).flushBeams.cnvSeal
      s.updCnv fun c => { c with lastPulse := some n, phase := .idle, tickMiss := sat32 c.tickMiss 1 })

/-! ## COMPUTE (R168, R169) -/

/-- A loop facet's cycle tick; one under repair has no result in this frame, which is counted (R103). -/
def State.loopTick (s : State) (l h : Nat) : State :=
  let r := (s.facets.get (fKey l (s.host l h))).run
  if s.inRepair l h then
    (s.updLens l fun x => { x with repairGap := sat32 x.repairGap 1 }).updProg l h fun q =>
      { q with computing := false, outDone := false }
  else if s.glb.phase = .running ∧ (r = .gated ∨ r = .active) then ((s.rollMove l h).adoptSeal l h s.cnv.fnum).protBegin l h s.cnv.fnum
  else s.updProg l h fun q => { q with computing := false, outDone := false }

/-- CF_COMPUTE_START (R168, R173, R174): GATHER ends; the Hub classes the sub-modules and writes the arm
windows, ranking starts, and the loop facets get their tick. -/
def execCfComputeStart (s : State) : Res :=
  .next (if s.cnv.phase ≠ .gather then s
    else
      let s := s.upTo (s.cnv.tickAt + gatherEnd s.cf)
      let s := s.updCnv fun c => { c with phase := .compute }
      let s := { s with beams := s.beams.mapRows fun _ b => { b with streak := if b.used then b.streak + 1 else 0 } }
      let s := s.each s.armList fun s a => s.eachSm a fun _ x => hubClass (s.pkg.arms.get a) x
      let s := s.each s.armList fun s a =>
        let s := s.armSummary a
        s.updArm a fun x => { x with header := s.armHeader a }
      let s := s.each s.armList fun s a =>
        s.updArm a fun x => { x with ranking := !(s.pkg.arms.get a).psc, ranked := false, out := none }
      let n := s.cnv.fnum
      let s := s.each s.loopFacets fun s p =>
        let w := s.lensWindow p.1
        s.updProg p.1 p.2 fun q => if n % 2 = 0 then { q with inWin0 := w } else { q with inWin1 := w }
      s.each s.loopFacets fun s p => s.loopTick p.1 p.2)

/-- Time to rank `n` sub-modules in ns, rounded up (R169). -/
def rankNs (n : Nat) : Nat := 150 + (n + 1) / 2

/-- PRISM_RANK_DONE (R169, R178 to R180, R195): the engine's ranking of its arm is complete, at an instant that is free
within the bound of R169; RANK_TIME is the time it has taken (R476, log 94). -/
def execPrismRankDone (e : Fin 8) (s : State) : Res :=
  let a := (s.engines.get e).arm
  let x := s.arms.get a
  let c := s.pkg.arms.get a
  .next (if s.cnv.phase ≠ .compute ∨ x.ranking = false ∨ s.engineOf a ≠ some e.val then s
    else
      let start := s.cnv.tickAt + gatherEnd s.cf
      let past := s.now - start
      let (v, s) := s.free
      let took := past + v.toNat % Nat.max 1 (rankNs x.avail + 1 - past)
      let s := s.upTo (start + took)
      let hold := decide (x.vmax - x.vmin < c.tol) && !x.rankAfresh
      let o := s.prismOrder a hold
      let s := s.updArm a fun x =>
        { x with order := o, ranking := false, ranked := true, rankAfresh := false, tolHeld := hold }
      let s := s.eachSm a fun i y => { y with rank := match o.idxOf? i with | some k => k | none => 0xFFFF }
      s.updEngine e fun g =>
        { g with spread := x.vmax - x.vmin, hold := hold, dir := x.dir,
                 rankTime := Nat.min (ceilDiv took 10) 255,
                 tolHold := if hold then sat32 g.tolHold 1 else g.tolHold })

/-! ## EMIT (R177, R182, R190, R214, R215) -/

/-- A rank not complete at the start of EMIT (R184, R190): the arm trips, and the Module Manager binds it to a
free engine if there is one; else its engine serves it on. -/
def State.prismFault (s : State) (a : Nat) : State :=
  let s := if (s.arms.get a).op = .tripped then s else s.tripArm a .prismFault
  let s := s.updArm a fun x => { x with ranking := false }
  if s.mlk.mmDown then s
  else match s.engineOf a with
    | none => s
    | some e =>
      let free := (List.range 8).find? fun g =>
        let y := s.engines.get g
        !y.faulty && g ≠ e && !(s.pkg.arms.get y.arm).present
      match free with
      | some g => (s.updEngine e fun y => { y with faulty := true }).updEngine g fun y => { y with arm := a }
      | none => s

/-- The arm output record of the frame, or a held frame (R190); the record of a carrier period's first frame
gives its duties (R185). -/
def State.takeOut (s : State) (a : Nat) : State :=
  let c := s.pkg.arms.get a
  let first := decide (s.cnv.fnum % Nat.max c.pscM 1 = 0)
  let s := match (s.arms.get a).out with
    | some o => s.updArm a fun x =>
      { x with lastOut := o, iarmEst := o.iarmEst, held := false, heldRun := 0, leadRun := x.leadRun + 1 }
    | none =>
      let s := s.updArm a fun x => { x with leadRun := 0 }
      if s.unitOn (.arm a) then
        s.updArm a fun x => { x with held := true, heldRun := x.heldRun + 1, holdCnt := sat32 x.holdCnt 1 }
      else s.updArm a fun x => { x with held := false, heldRun := 0 }
  if c.psc ∧ first then s.updArm a fun x => { x with duties := x.lastOut.duties } else s

/-- Carriers' time at level 1 as a fraction in 1/65,536 (R199). -/
def realised (T : Nat) (ks : List (SmSt × Edges)) : Nat :=
  Nat.min (ks.foldl (fun n p => n + onTime T p.1.cur 0 p.2.edges) 0 * 65536 / Nat.max T 1) 65535

/-- The commands of an arm that switches in this frame. -/
def State.emitArm (s : State) (a : Nat) : State × List (Nat × Command) :=
  let (ws, forced, dropped, n, f, cl) := s.wishes a
  let rs := ws.map fun w => (w.1, w.2, s.sm a w.1, s.applyCmd a (s.sm a w.1) w.2)
  let cars := rs.filter fun r => r.2.1.carrier
  let cut := cars.any fun r => decide (0 < r.2.2.2.2.1.shortP + r.2.2.2.2.1.shortG)
  let fr := if cut then realised s.cf (cars.map fun r => (r.2.2.1, r.2.2.2.2.1)) else f
  let swaps := (rs.filter fun r => !(s.pkg.arms.get a).psc && !r.2.1.excluded &&
    ((r.2.2.1.inserted && r.2.1.form = .bypass) ||
      (!r.2.2.1.inserted && !r.2.2.1.carrier && r.2.2.1.cur = .zero && r.2.1.form = .insert))).length
  let sp := rs.foldl (fun n r => n + r.2.2.2.2.1.shortP) 0
  let sg := rs.foldl (fun n r => n + r.2.2.2.2.1.shortG) 0
  let s := s.each rs fun s r => s.updSm a r.1 fun _ => r.2.2.2.1
  let s := s.updArm a fun x =>
    { x with nOn := n, frac := fr, clamped := cl, clampCnt := if cl then sat32 x.clampCnt 1 else x.clampCnt,
             carrier0 := (cars[0]?).map (·.1), carrier1 := (cars[1]?).map (·.1), shortP := sat32 x.shortP sp,
             shortG := sat32 x.shortG sg }
  let s := match s.engineOf a with
    | some e => s.updEngine e fun g =>
      { g with swaps := sat32 g.swaps swaps, budgetOvr := sat32 g.budgetOvr forced,
               noCarrier := if dropped then sat32 g.noCarrier 1 else g.noCarrier }
    | none => s
  (s, rs.map fun r => (r.1, r.2.2.2.2.2))

/-- A frame in which the arm does not switch: every command is BLOCK and costs nothing. -/
def State.emitBlocked (s : State) (a : Nat) : State × List (Nat × Command) :=
  let s := s.eachSm a fun _ x => s.blockSm a x
  let s := s.updArm a fun x =>
    { x with nOn := 0, frac := 0, clamped := false, carrier0 := none, carrier1 := none }
  (s, (s.smList a).map fun i => (i, { excluded := (s.sm a i).excluded }))

/-- The arm of a lane, and the lane's place in it. -/
def State.laneArm (s : State) (l : Nat) : Option (Nat × Nat) :=
  (s.armList.find? fun a => (s.armLanes a).contains l).map fun a => (a, l - (s.pkg.arms.get a).firstLane)

/-- Longest edge compilation up to the `k`-th of an arm's `n` lanes: 100 ns to the first, 300 ns to the last (R169). -/
def compileNs (k n : Nat) : Nat := 100 + 200 * k / (n - 1)

/-- Start of EMIT of this frame. -/
def State.emitAt (s : State) : Nat := s.cnv.tickAt + emitStart s.cf

/-- The REGULAR frames of an arm, one on each of its lanes that is ON (R215). Each starts as soon as its lane is compiled,
at an instant that is free within the bound of R169 (R476, log 82). -/
def State.sendArm (s : State) (a : Nat) : State :=
  let x := s.arms.get a
  let (s, ks) := if x.op = .deblocked ∧ x.heldRun < (s.pkg.arms.get a).holdLimit then s.emitArm a
    else s.emitBlocked a
  let s := s.updArm a fun x => { x with emitted := some s.cnv.fnum }
  let f := s.cnv.fnum % 2 ^ 32
  let c := s.pkg.arms.get a
  s.each ((s.armLanes a).filter fun l => s.unitOn (.beam l)) fun s l =>
    let (v, s) := s.free
    s.queueBeam l [{ body := .regular (s.laneCmds a l ks), tick := s.cnv.tickTai % 2 ^ 48, fnum := some f
                     start := s.emitAt + v.toNat % (compileNs (l - c.firstLane) c.lanes + 1), len := frameNs }]

/-- CALIBRATE frames that are due, each after the REGULAR frame of its lane and of the same frame (R219); the lane's next
REGULAR frame is due from the next start of EMIT on (log 82). A lane whose reply has not come waits for it. -/
def State.sendCals (s : State) : State :=
  s.each ((List.range 64).filter fun l =>
      (s.beams.get l).calDue && (s.beams.get l).calSent.isNone && decide ((s.beams.get l).calFrom ≤ s.cnv.fnum))
    fun s l =>
      let b := s.beams.get l
      let next : Option Nat := match s.laneArm l with
        | some _ => if s.unitOn (.beam l) then some (s.emitAt + s.cf) else none
        | none => none
      (s.updBeam l fun b => { b with calDue := false }).queueBeam l
        [{ body := .calibrate s.cf s.pkg.cnv.delta b.dDown b.ul, tick := s.cnv.tickTai % 2 ^ 48
           start := s.emitAt, len := frameNs, limit := next }]

/-- CF_EMIT_START (R177, R190, R215): COMPUTE ends. Arms without a record hold, ranks that are not complete are
Prism faults, every lane's frame is compiled and waits for its start, and deblocks of this frame complete. -/
def execCfEmitStart (s : State) : Res :=
  .next (if s.cnv.phase ≠ .compute then s
    else
      let s := (s.upTo (s.cnv.tickAt + emitStart s.cf)).flushBeams
      let s := s.updCnv fun c => { c with phase := .emit, sealDue := true }
      let s := s.each s.loopFacets fun s p =>
        let q := s.progs.get (fKey p.1 p.2)
        let s := if q.outDone then s else s.loseSeal p.1 p.2 q.cycle
        s.updProg p.1 p.2 fun q => { q with computing := false }
      let s := s.each (s.armList.filter fun a => (s.arms.get a).ranking) fun s a => s.prismFault a
      let s := s.each s.armList fun s a => s.takeOut a
      let s := s.each s.armList fun s a => s.sendArm a
      let s := s.sendCals
      let js := (s.armList.filterMap fun a =>
        if (s.arms.get a).op ≠ .pending then ((s.arms.get a).pend).map (·.1) else none).eraseDups
      s.each js fun s j =>
        let set := s.deblockSet j
        let s := s.each set fun s a => s.updArm a fun x => { x with pend := none }
        s.complete j cOk (cnvResult s.cnv.fnum (set.foldl (fun m a => m + 2 ^ a) 0) 0))

/-- ARM_HOLD_LIMIT (R186, R190): HOLD_LIMIT frames have been held in a row, and a DEBLOCKED arm trips. -/
def execArmHoldLimit (a : Fin 8) (s : State) : Res :=
  let x := s.arms.get a
  .next (if x.op = .deblocked ∧ 0 < x.heldRun ∧ (s.pkg.arms.get a).holdLimit ≤ x.heldRun then
      s.tripArm a .noOutput
    else s)

/-- DEBLOCK_TIMEOUT (R187, R188): 100 ms have passed and some condition does not hold; FAILED names the
lowest-numbered one. -/
def execDeblockTimeout (a : Fin 8) (s : State) : Res :=
  .next (match (s.arms.get a).pend with
  | some (j, t, _) =>
    if (s.arms.get a).op ≠ .pending then s
    else
      let s := s.upTo (t + 100000000)
      match minList (((s.deblockSet j).map fun b => s.deblockFail b).filter fun k => k ≠ 0) with
      | some k => s.endDeblock j 0x0601 k
      | none => s
  | none => s)

/-- A write of 1 to BLN_ARM_TRIP.TRIP (R186, R201). -/
def State.clearArmTrip (s : State) (a : Nat) : State :=
  let x := s.arms.get a
  if x.trip then
    if ¬ s.maskOn (s.pkg.arms.get a).mask ∧ quietAt x.maskHist s.qualNs (s.now + 1) then
      s.updArm a fun x => { x with trip := false, op := if x.op = .tripped then .blocked else x.op }
    else s.updArm a fun x => { x with clearRefused := true }
  else s

/-- ARM_TRIP_CLEAR (R3, R50, R201). -/
def execArmTripClear (a : Fin 8) (s : State) : Res := .next (s.unitWrite cnvPresent fun s => s.clearArmTrip a)

/-! ## Uplinks and lanes (R218, R222) -/

/-- CONC_BLOCKED in an uplink while the arm is DEBLOCKED and no trip is latched (R222). -/
def State.concHolds (s : State) (l : Nat) (fr : UplinkFrame) : Bool :=
  fr.concBlocked && match s.laneArm l with
    | some (a, _) => (s.arms.get a).op = .deblocked && !(s.arms.get a).trip
    | none => false

/-- What the last uplink reported (R217, R222, R225): a change of the concentrator's own fault code is an event that
names the lane in bits [5:0] and the code above them (log 83). -/
def State.laneStatus (s : State) (l : Nat) (fr : UplinkFrame) : State :=
  let code := fr.cstat / 256 % 256
  let old := (s.beams.get l).cfault
  let s := s.updBeam l fun b => { b with concBlocked := fr.concBlocked, timeOk := fr.timeOk, cfault := code }
  let s := if old = code then s else s.event .concStatus (code * 64 + l)
  if s.concHolds l fr then s.alarm .beamConcBlocked l else s.clearAlarm .beamConcBlocked l

/-- UPLINK_FRAME_RX (R172, R218, R222): the checks, and the entries of a frame complete in time at instant `t`. -/
def execUplinkFrameRx (l : Fin 64) (fr : UplinkFrame) (t : Nat) (s : State) : Res :=
  let s := s.upTo t
  .next (if ¬ s.cnvRuns ∨ ¬ (s.beams.get l).locked then s
    else if ¬ fr.crcOk then s.updBeam l fun b => { b with crcErr := sat32 b.crcErr 1 }
    else
      let echo := fr.cfEcho * 100 = s.cf && fr.deltaEcho = s.pkg.cnv.delta
      let bad := !fr.syncOk || fr.lane ≠ l.val || !fr.regular || fr.fnum ≠ s.cnv.fnum % 2 ^ 32 || !echo
      let s := if fr.syncOk && fr.lane = l.val && fr.regular then
          let s := s.laneStatus l fr
          if echo then (s.updBeam l fun b => { b with paramOk := true }).clearAlarm .beamParam l
          else (s.updBeam l fun b =>
            { b with paramOk := false, calDue := true
                     calFrom := if b.calDue then b.calFrom else s.cnv.fnum + 1 }).alarm .beamParam l
        else s
      if bad then s.updBeam l fun b => { b with hdrErr := sat32 b.hdrErr 1 }
      else if s.cnv.phase ≠ .gather ∨ s.cnv.tickAt + gatherEnd s.cf < t + 400 then
        s.updBeam l fun b => { b with late := sat32 b.late 1 }
      else match s.laneArm l with
        | none => s
        | some (a, k) =>
          let s := s.updBeam l fun b => { b with used := true }
          let s := if k = 0 then s.updArm a fun x => { x with iarmUp := some fr.iarm } else s
          s.each ((List.range 128).filter fun i => decide (k * 128 + i < (s.pkg.arms.get a).smCount)) fun s i =>
            match fr.entries[i]? with
            | some e =>
              let e := if s.concHolds l fr then { e with applied := formCode .block } else e
              if e.fresh then s.updSm a (k * 128 + i) fun x => { x with fresh := some e } else s
            | none => s)

/-- BEAM_LOCK_LOST (R222). -/
def execBeamLockLost (l : Fin 64) (s : State) : Res :=
  .next (if (s.beams.get l).locked then
      (s.updBeam l fun b => { b with locked := false }).alarm .beamLink l
    else s)

/-- BEAM_LOCK_ACQUIRED (R225): the uplink has block lock. -/
def execBeamLockAcquired (l : Fin 64) (s : State) : Res :=
  .next (if cnvPresent then (s.updBeam l fun b => { b with locked := true }).clearAlarm .beamLink l else s)

/-! ## Calibration (R219, R220) -/

/-- BEAM_CAL_DUE (R219): a starting lane calibrates at once, a lane that is ON when INTERVAL has passed since
its last calibration. -/
def execBeamCalDue (l : Fin 64) (s : State) : Res :=
  let s := s.flushBeam l
  let b := s.beams.get l
  let u := s.unit (.beam l)
  .next (if ¬ s.cnvRuns ∨ calBusy b then s
    else if u.st = .starting then s.updBeam l fun b => { b with calDue := true, calStart := s.now }
    else if u.st = .on then
      let s := s.upTo (b.calStart + s.pkg.cnv.calIntervalS * 1000000000)
      s.updBeam l fun b => { b with calDue := true, calStart := s.now }
    else s)

/-- A BEAM_CAL descriptor completes with the last of its lanes (R227, R310). -/
def State.calJob (s : State) (j : Nat) : State :=
  let res (l : Nat) : Option (Option Bool) := findRow (s.beams.get l).calJobs j
  let set := (List.range 64).filter fun l => (res l).isSome
  if set.any fun l => res l = some none then s
  else
    let good := set.filter fun l => res l = some (some true)
    let s := s.each set fun s l => s.updBeam l fun b => { b with calJobs := b.calJobs.filter fun p => p.1 ≠ j }
    s.complete j (if good.length = set.length then cOk else 0x0700) (good.foldl (fun m l => m + 2 ^ l) 0)

/-- A calibration of the lane has ended, with or without a reply. -/
def State.calEnded (s : State) (l : Nat) (ok : Bool) : State :=
  let s := s.updBeam l fun b =>
    { b with calSent := none, calJobs := b.calJobs.map fun p => (p.1, some (p.2.getD ok)) }
  s.each ((s.beams.get l).calJobs.map (·.1)) fun s j => s.calJob j

/-- Half of a delay, rounded up (R220). -/
def halfUp (v : Int) : Nat := ((v + 1) / 2).toNat

/-- CALIBRATE_REPLY_RX (R219, R220): the start block of the reply to the CALIBRATE frame on its way passes the connector
at instant `t`; RTT is `t` less LAUNCH. TURN is in ns. One that comes later than 10 ms ends a failed calibration. -/
def execCalibrateReplyRx (l : Fin 64) (t turn : Nat) (s : State) : Res :=
  let s := (s.upTo t).flushBeam l
  let b := s.beams.get l
  .next (match b.calSent with
    | none => s
    | some launch =>
      if launch + 10000000 < t then (s.event .beamCalFail l).calEnded l false else
      let rtt := t - launch
      let asym := s.pkg.beamAsym.get l
      let d := halfUp (rtt - turn + asym)
      let u := halfUp (rtt - turn - asym)
      let ul := ceilDiv (2450 + u - gatherEnd s.cf) 10 * 10
      let tight := decide (s.pkg.cnv.delta < 1000 + d)
      let s := s.updBeam l fun b =>
        { b with calValid := true, rtt := rtt, turn := turn, dDown := d, dUp := u, ul := ul,
                 delayMargin := tight, excess := 1000 + d - s.pkg.cnv.delta }
      let s := if tight then s.alarm .delayMargin l else s.clearAlarm .delayMargin l
      let s := if b.calValid ∧ (b.dDown + 50 < d ∨ d + 50 < b.dDown) then s.event .beamDelayStep l else s
      s.calEnded l true)

/-- BEAM_CAL_FAIL (R219): no reply within 10 ms; the lane keeps its values. -/
def execBeamCalFail (l : Fin 64) (s : State) : Res :=
  let s := (s.upTo (lastStart (s.beams.get l))).flushBeam l
  .next (match (s.beams.get l).calSent with
  | some t => ((s.upTo (t + 10000000)).event .beamCalFail l).calEnded l false
  | none => s)

end Sys2Proof.Machine
end

