-- ==== Sys2Proof/Machine/FieldBus.lean ====
section
/-! DEFINITION. Field-bus controllers and remote stations: received frames and groups, input conditioning,
presence, the schedule, transmissions and bus-off (R122 to R132, R270 to R286). -/

namespace Sys2Proof.Machine

/-! ## Input conditioning (R131, R132) -/

/-- Debounce: a changed raw value is delivered once it has held for DEBOUNCE. -/
def debounce (c : CondCfg) (raw : Bool) (rx : Nat) (x : CondSt) : CondSt :=
  let x := if x.raw = raw then x else { x with raw := raw, rawSince := rx }
  if raw ≠ x.deb ∧ x.rawSince + c.debounce * 100000 ≤ rx then
    { x with deb := raw, changes := (rx, x.deb) :: x.changes, lastChange := rx }
  else x

/-- Chatter: more than CHATTER_N changes within CHATTER_W freeze the input at the value it had at the start
of the window; a value quiet for QUIET releases it, and the window keeps its changes (DESIGN CHOICE, log 73). -/
def chatter (c : CondCfg) (rx : Nat) (x : CondSt) : CondSt :=
  let ch := x.changes.filter fun p => decide (rx ≤ p.1 + c.chatterW * 10000000)
  let x := { x with changes := ch }
  if x.frozen then
    if x.lastChange + c.quiet * 100000000 ≤ rx then { x with frozen := false, value := x.deb, quality := .good }
    else x
  else if c.chatterN ≠ 0 ∧ c.chatterN < ch.length then
    { x with frozen := true, quality := .oscillatory, value := (ch.getLast?.map (·.2)).getD x.value }
  else { x with value := x.deb, quality := .good }

/-- Stuck: the delivered value has stayed 1 for longer than STUCK. -/
def stuckStep (c : CondCfg) (rx : Nat) (x : CondSt) : CondSt :=
  if x.value then
    let t := x.oneSince.getD rx
    { x with oneSince := some t, stuck := x.stuck || (c.stuck ≠ 0 && decide (t + c.stuck * 1000000000 < rx)) }
  else { x with oneSince := none, stuck := false }

/-- The first image of a returning station sets the debounced value directly (R132). -/
def condReturn (raw : Bool) (rx : Nat) (x : CondSt) : CondSt :=
  { x with raw := raw, rawSince := rx, deb := raw, changes := [], lastChange := rx, frozen := false,
           value := raw, quality := .good, oneSince := if raw then some rx else none, stuck := x.stuck && raw }

/-- The conditioners of a station act on its new image (R131). -/
def State.condition (s : State) (i rx : Nat) (ret : Bool) : State :=
  let im := (s.stns.get i).image
  s.each (s.pkg.conds.keys.filter fun j => (s.pkg.conds.get j).en && (s.pkg.conds.get j).station = i) fun s j =>
    let c := s.pkg.conds.get j
    let raw := ((im[c.bit / 8]?).getD 0).getLsbD (c.bit % 8)
    let x := s.conds.get j
    let y := if ret then condReturn raw rx x else stuckStep c rx (chatter c rx (debounce c raw rx x))
    let s := s.updCond j fun _ => y
    if y.stuck ∧ ¬ x.stuck then s.event .inputStuck j else s

/-! ## Received frames (R123, R270, R282) -/

/-- An input group is complete: the image changes in one step, and a station that was MISSING or ABSENT is
PRESENT at once (R123, R128). -/
def State.groupDone (s : State) (i gseq : Nat) (d : List Byte) (rx : Nat) : State :=
  let t := s.stns.get i
  let ret := t.st = .missing || t.st = .absent
  let s := s.updStn i fun t =>
    { t with image := bytesAt d 0 (s.stnCfg i).inLen, gseq := gseq, rxTime := some rx, group := none, got := true,
             st := if ret then .present else t.st, missed := if ret then 0 else t.missed }
  (if ret then s.clearAlarm .stationAbsent i else s).condition i rx ret

/-- A group that is not complete is discarded whole and counted once (R123); its later frames are
passed over. -/
def State.groupBad (s : State) (i gseq : Nat) : State :=
  s.updStn i fun t => { t with grpBad := sat32 t.grpBad 1, group := some { gseq := gseq, next := 8 } }

/-- A frame of a station's input group (R122, R123). A group that stays incomplete for want of a further frame is discarded
and counted when the next group begins (DESIGN CHOICE, log 99). -/
def State.groupFrame (s : State) (i : Nat) (d : List Byte) (rx : Nat) : State :=
  let t := s.stns.get i
  let h := ((d[0]?).getD 0).toNat
  let gseq := h % 16
  let idx := h / 16 % 8
  let last := decide (128 ≤ h)
  let total := stnFrames (s.stnCfg i).inLen
  let live : Bool := match t.group with | some g => decide (g.next < 8) | none => false
  let s := if idx = 0 ∧ live then s.updStn i fun t => { t with grpBad := sat32 t.grpBad 1, group := none } else s
  let old : Option Group := if idx = 0 then some { gseq := gseq, next := 0 } else t.group
  let s := match old with
    | some g =>
      if g.next = 8 ∧ g.gseq = gseq then s
      else if g.gseq = gseq ∧ g.next = idx ∧ d.length = 64 then
        let data := g.data ++ d.drop 1
        if last ∧ idx + 1 = total then s.groupDone i gseq data rx
        else if last ∨ total ≤ idx + 1 then s.groupBad i gseq
        else s.updStn i fun t => { t with group := some { gseq := gseq, next := idx + 1, data := data } }
      else s.groupBad i gseq
    | none => s.groupBad i gseq
  if last then s.updStn i fun t => { t with group := none } else s

/-- A filter entry matches a frame (R282). -/
def fltMatch (f : Filter) (fr : CanFrame) : Bool :=
  f.en && f.ide = fr.ide && (match f.kind with
    | .range => decide (f.id1 ≤ fr.id ∧ fr.id ≤ f.id2)
    | .dual => fr.id = f.id1 || fr.id = f.id2
    | .mask => fr.id &&& f.id2 = f.id1 &&& f.id2)

/-- The 80-byte record of ACTION SLICE (R282). -/
def canRecord (b ts : Nat) (fr : CanFrame) : List Byte :=
  leBytes 4 ts ++ leBytes 4 (fr.id.toNat + if fr.ide then 2 ^ 31 else 0)
    ++ [BitVec.ofNat 8 ((if fr.fd then 1 else 0) + (if fr.brs then 2 else 0) + (if fr.esi then 4 else 0)),
        BitVec.ofNat 8 fr.data.length, BitVec.ofNat 8 b, 0, 0, 0, 0, 0] ++ bytesAt fr.data 0 64

def State.rxNomatch (s : State) (b : Nat) : State :=
  s.updFbc b fun f => { f with rxNomatch := sat32 f.rxNomatch 1 }

/-- Passes a frame to what its first matching filter entry names (R282). -/
def State.filterFrame (s : State) (b : Nat) (fr : CanFrame) (t : Nat) : State :=
  match (s.pkg.fbcs.get b).filters.find? fun f => fltMatch f fr with
  | none => s.rxNomatch b
  | some f =>
    match f.action with
    | .reject => s
    | .mm => s.emit (.toMM b (canRecord b (tsOf (s.taiOf t)) fr))
    | .slice k =>
      let ts := tsOf (s.taiOf t)
      match s.recvRing k 1 with
      | none => s.rxNomatch b
      | some c =>
        let (s', ok) := s.putRecord k c ts 1 b (canRecord b ts fr)
        if ok then s' else s.rxNomatch b
    | .station n => if (s.stnCfg (b * 64 + n)).en then s.groupFrame (b * 64 + n) fr.data (s.taiOf t) else s

/-- CAN_FRAME_RX (R270, R274, R276, R282): a frame whose start of frame lies at instant `t`. A controller in
BUS_OFF or not ON receives nothing. A frame that passes its CRC is acknowledged, except in LISTEN; one that fails it is an
error of this receiver. A reference message goes through the filters like any frame (R282). -/
def execCanFrameRx (b : Fin 2) (fr : CanFrame) (t : Nat) (s : State) : Res :=
  let s := s.upTo t
  let f := s.fbcs.get b
  .next (if ¬ s.unitOn (.fbc b) ∨ f.mode = .busOff then s
    else
      let s := if f.cell = .cell .free then s.updFbc b fun f => { f with freeViol := sat32 f.freeViol 1 } else s
      if ¬ fr.crcOk then s.fbError b .receive
      else
        let s := if f.mode = .listen then s else (s.fbReceived b).emit (.canAck b)
        if fr.remote then s.rxNomatch b
        else
          let s := if f.mode = .schedule ∧ ¬ fr.ide ∧ fr.id.toNat ≤ 1 then
              s.updFbc b fun f =>
                { f with refSeen := true, backupSent := false, due := if f.cell = .window then none else f.due }
            else s
          s.filterFrame b fr t)

/-! ## Presence (R128, R283) -/

/-- STATION_PRESENCE_CHECK (R128, R283): at the end of the station's EXCLUSIVE input cell in SCHEDULE mode,
else at the end of the 1 ms supervision interval. -/
def execStationPresenceCheck (i : Fin 128) (s : State) : Res :=
  let b := i.val / 64
  let f := s.fbcs.get b
  .next (if f.mode = .schedule then
      if f.cell = .cell (.exclIn (i.val % 64)) then (s.upTo f.cellEnd).stnJudge i f.cellEnd else s
    else (s.upTo (f.supervise + 1000000)).stnJudge i (f.supervise + 1000000))

/-- FB_SUPERVISION_TICK (R128): the 1 ms interval ends for every station of a bus without basic cycles. -/
def execFbSupervisionTick (b : Fin 2) (s : State) : Res :=
  let f := s.fbcs.get b
  .next (if f.mode = .schedule then s
    else
      let t := f.supervise + 1000000
      let s := (s.upTo t).updFbc b fun f => { f with supervise := t }
      s.each (s.busStns b) fun s i => s.stnJudge i t)

/-! ## The schedule (R272 to R279) -/

/-- Time suits the schedule: LOCKED, HOLDOVER or grandmaster (R272). -/
def State.fbTimeOk (s : State) : Bool := s.col.st = .locked || s.col.st = .holdover || s.col.gm

/-- Retries that wait for a later cell start again from INDEX 0 (R278). -/
def restarted (xs : List TxItem) : List TxItem := xs.map fun x => { x with index := 0, retry := x.retry || x.attempted }

/-- The controller is in ARRIVAL again: retries join the queue, and supervision starts. -/
def State.fbToArrival (s : State) (b : Nat) : State :=
  let s := s.updFbc b fun f => { f with retries := restarted f.retries, toArrival := false, supervise := s.now }
  ((s.fbMode b .arrival).fbQueueAll b).fbOffer b

/-- A basic cycle starts at pulse `n`, at instant `t` of TAI: its index, the reference window, and the time master's
reference (R273, R275). Groups received before it do not count for it (R283). -/
def State.basicCycle (s : State) (b n t : Nat) : State :=
  let c := s.pkg.fbcs.get b
  let at_ := s.now - (s.tai - t)
  let s := s.updFbc b fun f =>
    { f with bc := n % Nat.max c.bcCount 1, col := 0, cell := .window, cellEnd := at_ + c.refLen * 1000,
             pulseAt := at_, pulseTai := t, refSeen := false, lastPulse := some n, timeMaster := s.mlk.grant
             due := none, retries := restarted f.retries }
  let s := s.each (s.busStns b) fun s i => s.updStn i fun t => { t with got := false }
  if s.mlk.grant then
    (s.updFbc b fun f => { f with refSeen := true, due := some { what := .reference false, ident := 0 } }).fbOffer b
  else s

/-- The next pulse of index 0 that has not passed: its number and instant (R272). -/
def State.schedStart (s : State) (b : Nat) : Nat × Nat :=
  let c := s.pkg.fbcs.get b
  let g := s.pkg.tps.get c.tp
  let n := pulseFrom g s.tai
  let n := match (s.fbcs.get b).lastPulse with | some k => Nat.max n (k + 1) | none => n
  let k := Nat.max c.bcCount 1
  let m := ceilDiv n k * k
  (m, pulseTime g m)

/-- FB_BASIC_CYCLE_START (R272, R273, R275): in SCHEDULE at the next pulse of the schedule's generator; in
ARRIVAL, where the schedule may begin, at the next pulse of index 0; FB_SCHED_LOST then ends (DEDUCED, log 84). -/
def execFbBasicCycleStart (b : Fin 2) (s : State) : Res :=
  let c := s.pkg.fbcs.get b
  let f := s.fbcs.get b
  .next (if ¬ s.unitOn (.fbc b) then s
    else match f.mode, s.pulseDue c.tp f.lastPulse with
    | .schedule, some (n, t) =>
      let s := s.upToTai t
      if f.toArrival then (s.updFbc b fun f => { f with lastPulse := some n }).fbToArrival b
      else s.basicCycle b n t
    | .arrival, some _ =>
      if c.schedEn ∧ ¬ f.holdArrival ∧ s.fbTimeOk then
        let (m, t) := s.schedStart b
        let s := (s.upToTai t).clearAlarm .fbSchedLost b
        (s.fbMode b .schedule).basicCycle b m t
      else s
    | _, _ => s)

/-- FB_REF_TIMEOUT (R275, R276): a backup master that sees no reference start within 10 µs of the pulse sends its
own at once. -/
def execFbRefTimeout (b : Fin 2) (s : State) : Res :=
  let f := s.fbcs.get b
  .next (if f.mode = .schedule ∧ f.cell = .window ∧ ¬ f.refSeen ∧ ¬ f.timeMaster ∧ s.pkg.mlk.paired ∧
      s.unitOn (.fbc b) then
      let s := (s.upTo (f.pulseAt + 10000)).updFbc b fun f => { f with refMiss := sat32 f.refMiss 1 }
      (s.updFbc b fun f => { f with refSeen := true, due := some { what := .reference true, ident := 1 } }).fbOffer b
    else s)

/-- Type of a cell of the schedule; one that is not listed is FREE. -/
def cellOf (c : FbcCfg) (bc col : Nat) : CellType :=
  match c.cells.find? fun x => x.1 = bc && x.2.1 = col with | some x => x.2.2 | none => .free

/-- Start of column `c` after the pulse, in ns. -/
def colStart (cfg : FbcCfg) (c : Nat) : Nat := (cfg.refLen + (cfg.cols.take c).sum) * 1000

/-- An EXCLUSIVE output cell begins (R274, R277, R278): pending retries of the station's group are dropped,
and the group goes out under the grant while the station is PRESENT. -/
def State.exclusiveOut (s : State) (b st : Nat) : State :=
  let i := b * 64 + st
  let f := s.fbcs.get b
  let old := f.retries.filter fun x => x.what = .group i
  let s := s.updFbc b fun f =>
    { f with retries := f.retries.filter (fun x => x.what ≠ .group i),
             superseded := sat32 f.superseded old.length }
  let t := s.stns.get i
  let x : TxItem := { what := .group i, ident := (s.stnCfg i).txid, order := f.nextOrder }
  if s.mlk.grant ∧ t.st = .present ∧ (t.unsent ∨ old ≠ []) ∧ ¬ t.heldBack ∧ 0 < (s.stnCfg i).outLen then
    (s.updFbc b fun f => { f with due := some x, nextOrder := f.nextOrder + 1 }).fbOffer b
  else s

/-- FB_CELL_START (R274, R277 to R279): column `c` of the basic cycle begins. -/
def execFbCellStart (b : Fin 2) (c : Fin 64) (s : State) : Res :=
  let cfg := s.pkg.fbcs.get b
  let f := s.fbcs.get b
  let follows := (f.cell = .window ∧ c.val = 0) ∨ (f.cell ≠ .window ∧ f.cell ≠ .outside ∧ c.val = f.col + 1)
  .next (if f.mode = .schedule ∧ s.unitOn (.fbc b) ∧ c.val < cfg.cols.length ∧ follows then
      let s := s.upTo (f.pulseAt + colStart cfg c)
      let ty := cellOf cfg f.bc c
      let s := s.updFbc b fun f =>
        { f with col := c, cell := .cell ty, cellEnd := f.pulseAt + colStart cfg (c.val + 1), due := none
                 retries := restarted f.retries }
      match ty with
      | .exclOut st => s.exclusiveOut b st
      | .arbitration => s.fbOffer b
      | _ => s
    else s)

/-! ## Transmissions (R278, R280) -/

/-- The bus is free of this controller's own frames: it goes on with what is offered next. -/
def State.fbFree (s : State) (b : Nat) : State :=
  ((s.updFbc b fun f => { f with onWire := none }).fbQueueAll b).fbOffer b

/-- What is left of an item waits for a later ARBITRATION cell, from INDEX 0 (R278). -/
def State.fbLater (s : State) (b : Nat) (x : TxItem) : State :=
  (s.updFbc b fun f => { f with retries := f.retries ++ restarted [x] }).fbFree b

/-- A frame has been acknowledged: the next frame of its group follows, or the item is done (R277, R287). The rest of a group
is not sent once the grant is lost, the controller stops or listens; of the transmit queue, it counts as discarded (R272,
R281). -/
def State.fbAcked (s : State) (b : Nat) (x : TxItem) : State :=
  let (fd, brs, d) := s.itemFrame b x
  let s := (s.updFbc b fun f => { f with tec := f.tec - 1 }).emit (.can b x.ident x.ide fd brs d)
  match x.what with
  | .reference k => (s.updFbc b fun f => { f with backupSent := k }).fbFree b
  | .send j _ _ => (s.complete j cOk (tsOf (s.taiOf (s.fbcs.get b).wireStart))).fbFree b
  | .group i =>
    let y := { x with index := x.index + 1 }
    let m := (s.fbcs.get b).mode
    if stnFrames (s.stnCfg i).outLen ≤ y.index then s.fbFree b
    else if ¬ s.unitOn (.fbc b) ∨ m = .listen ∨ (¬ s.mlk.grant ∧ m = .arrival) then (s.fbLost b (s.itemFrames y)).fbFree b
    else if ¬ s.mlk.grant then s.fbFree b
    else if s.fbMay b y then s.fbBegin b y
    else s.fbLater b x

/-- A frame lost arbitration or ended in an error: it is retried, in the cell if it may start there, else as a retry in
a later ARBITRATION cell, where pending frames go by their identifiers (R279); a reference is retried only inside its
window, and one that lost not at all; a command frame without the grant is discarded (R276, R278, R281). -/
def State.fbRetry (s : State) (b : Nat) (x : TxItem) (lost : Bool) : State :=
  let f := s.fbcs.get b
  match x.what with
  | .reference _ => if lost ∨ ¬ s.fbMay b x then s.fbFree b else s.fbBegin b x
  | _ =>
    if itemCommand x ∧ ¬ s.mlk.grant then ((s.fbLost b (s.itemFrames x)).endSends [x] 0x0A03).fbFree b
    else if ¬ s.unitOn (.fbc b) ∨ f.mode = .listen then
      ((s.fbLost b (s.itemFrames x)).endSends [x] (if s.unitOn (.fbc b) then 0x0A02 else cNotActive)).fbFree b
    else if ¬ s.fbMay b x then s.fbLater b x
    else if f.cell = .cell .arbitration then (s.updFbc b fun f => { f with retries := f.retries ++ [x] }).fbFree b
    else s.fbBegin b x

/-- FB_FRAME_TX_DONE (R278 to R280): a transmission attempt has ended. -/
def execFbFrameTxDone (b : Fin 2) (res : TxResult) (s : State) : Res :=
  .next (match (s.fbcs.get b).onWire with
  | none => s
  | some x =>
    match res with
    | .acked => s.fbAcked b x
    | .lostArbitration => (s.updFbc b fun f => { f with arbLost := sat32 f.arbLost 1 }).fbRetry b x true
    | .error exempt =>
      let s := s.fbError b (if exempt then .exempt else .transmit)
      if (s.fbcs.get b).mode = .busOff then s else s.fbRetry b x false)

/-- FB_ERROR_FRAME (R270, R285): an error frame that did not end this node's own frame. -/
def execFbErrorFrame (b : Fin 2) (e : CanError) (s : State) : Res :=
  .next (if s.unitOn (.fbc b) then s.fbError b e else s)

/-- BUS_OFF ends (R272, R285): error counters 0, ARRIVAL mode, and the alarm ends. -/
def State.fbRecovered (s : State) (b : Nat) : State :=
  let s := s.updFbc b fun f =>
    { f with tec := 0, recCnt := 0, recoverAsked := false, seqDone := false, supervise := s.now }
  (s.fbMode b .arrival).clearAlarm .fbBusoff b

/-- FB_RECOVERY_DONE (R272, R285): 128 occurrences of 11 recessive bits after the bus-off. -/
def execFbRecoveryDone (b : Fin 2) (s : State) : Res :=
  let f := s.fbcs.get b
  .next (if f.mode ≠ .busOff ∨ ¬ s.unitOn (.fbc b) then s
    else
      let s := s.upTo (f.offAt + 1408000)
      if (s.pkg.fbcs.get b).autoRecover ∨ f.recoverAsked then s.fbRecovered b
      else s.updFbc b fun f => { f with seqDone := true })

/-- FBC_SEND_EXPIRY (R280): the earliest deadline of a queued FBC_SEND not yet attempted passes. -/
def execFbcSendExpiry (b : Fin 2) (s : State) : Res :=
  let dl (x : TxItem) : Option Nat := match x.what with
    | .send .. => if x.attempted then none else x.deadline
    | _ => none
  .next (match minList ((s.fbcs.get b).queue.filterMap dl) with
  | none => s
  | some d =>
    if ¬ s.reaches (d + 1) then s
    else
      let s := s.upToTai (d + 1)
      let out := (s.fbcs.get b).queue.filter fun x => dl x = some d
      let s := s.updFbc b fun f => { f with queue := f.queue.filter fun x => dl x ≠ some d }
      let s := s.each out fun s x => match x.what with | .send j _ _ => s.expire j | _ => s
      s.fbQueueAll b)

end Sys2Proof.Machine
end

