-- ==== Sys2Proof/Machine/PlantDesc.lean ====
section
/-! DEFINITION. The descriptors of cyclic logic, converter, beam lanes, field bus and time base: LOGIC_CTRL
(R115, R116), CNV_CTRL (R186 to R189), BEAM_CAL (R227), FBC_CTRL and FBC_SEND (R272, R287), TP_ARM (R266). -/

namespace Sys2Proof.Machine

/-- A descriptor that slice 0 alone may send. -/
def s0Form (i op : Nat) (sub : Option (Nat × Nat)) (used : List (Nat × Nat)) : DescForm :=
  { opcode := op, sub := sub, used := used, may := fun _ => i = 0 }

/-! ## LOGIC_CTRL (R115, R116, R310, R478) -/

/-- A program that the package configures. -/
def State.progNamed (s : State) (p : Nat) : Bool := decide (p < 64) && (s.pkg.logic.get p).present

/-- LOGIC_START: a cold start of the program, once a stop under way has ended; a program that runs goes on, one that the
staged package removes until its next COMMIT (R136). -/
def execLogicStart (i : Fin 64) (r : Fin 8) (s : State) : Res :=
  .next (s.runDesc i r (s0Form i 0x30 (some (32, 1)) [(32, 2)]) fun s j d =>
    let p := d.num 33 1
    let x := s.logic.get p
    if ¬ s.progNamed p then s.complete j cInvalid 0
    else if ¬ s.unitOn (.lens (s.pkg.logic.get p).lens) then s.complete j cNotActive (lstateCode x.st)
    else if x.removeAsked ∧ x.stopBy = [] then s.complete j cOk (lstateCode x.st)
    else if x.stopAsked ∨ x.safeDue.isSome ∨ (x.committing ∧ x.st ≠ .running ∧ x.st ≠ .exchanging) then
      s.updLogic p fun x => { x with startAsked := true, startBy := x.startBy ++ [j] }
    else if x.st = .running ∨ x.st = .exchanging then s.complete j cOk (lstateCode x.st)
    else ((s.logicColdStart p).mirror (.effect 0x3001 p 0)).complete j cOk (lstateCode .running))

/-- LOGIC_STOP: a cycle in EXECUTE runs to its end and commits, then the safe image is committed; a program that
has stopped stays as it is. -/
def execLogicStop (i : Fin 64) (r : Fin 8) (s : State) : Res :=
  .next (s.runDesc i r (s0Form i 0x30 (some (32, 2)) [(32, 2)]) fun s j d =>
    let p := d.num 33 1
    let x := s.logic.get p
    if ¬ s.progNamed p then s.complete j cInvalid 0
    else if x.st ≠ .running ∧ x.st ≠ .exchanging then s.complete j cOk (lstateCode x.st)
    else
      let s := s.mirror (.effect 0x3002 p 0)
      let s := s.updLogic p fun x => { x with stopBy := x.stopBy ++ [j], startAsked := false }
      if x.phase = .execute ∨ x.commitDue then s.updLogic p fun x => { x with stopAsked := true }
      else s.logicStop p .stopped)

/-! ## CNV_CTRL (R186 to R189) -/

/-- CNV_CTRL of one sub-command. -/
def cnvForm (i sub : Nat) : DescForm :=
  { opcode := 0x40, sub := some (32, sub), used := [(32, 2), (40, 8)], may := fun _ => i = 0
    present := fun _ => cnvPresent }

/-- Arms of a mask. -/
def armsOf (m : Nat) : List Nat := (List.range 8).filter fun a => m.testBit a

/-- ARM_MASK names arms, all of them configured. -/
def State.armsNamed (s : State) (m : Nat) : Bool := m ≠ 0 && (armsOf m).all fun a => (s.pkg.arms.get a).present

/-- DEBLOCK (R187): refused without the grant, or for an arm that is tripped or has a lane of its mask asserted;
else the arms wait for the conditions. -/
def execDeblock (i : Fin 64) (r : Fin 8) (s : State) : Res :=
  .next (s.runDesc i r (cnvForm i 1) fun s j d =>
    let m := d.num 33 1
    if ¬ s.armsNamed m then s.complete j cInvalid 0
    else if ¬ s.mlk.grant then s.complete j 0x0602 0
    else if (armsOf m).any fun a =>
        (s.arms.get a).op = .tripped || (s.arms.get a).trip || s.maskOn (s.pkg.arms.get a).mask then
      s.complete j 0x0603 0
    else if (armsOf m).any fun a => (s.arms.get a).op ≠ .blocked then s.complete j 0x0601 0
    else s.each (armsOf m) fun s a => s.updArm a fun x =>
      { x with op := .pending, pend := some (j, s.now, d.num 40 8) })

/-- BLOCK (R186, R188): DEBLOCKED and pending arms block at a frame; where there are none, it ends at once. -/
def execBlock (i : Fin 64) (r : Fin 8) (s : State) : Res :=
  .next (s.runDesc i r (cnvForm i 2) fun s j d =>
    let m := d.num 33 1
    if ¬ s.armsNamed m then s.complete j cInvalid 0
    else if (armsOf m).all fun a => (s.arms.get a).op = .blocked || (s.arms.get a).op = .tripped then
      s.complete j cOk (cnvResult s.cnv.fnum m 0)
    else s.each (armsOf m) fun s a => s.updArm a fun x => { x with blockAt := x.blockAt ++ [(j, d.num 40 8)] })

/-! ## BEAM_CAL (R219, R227) -/

/-- BEAM_CAL: a calibration of every named lane; one under way serves as well. -/
def execBeamCal (i : Fin 64) (r : Fin 8) (s : State) : Res :=
  .next (s.runDesc i r { s0Form i 0x41 none [(32, 8)] with present := fun _ => cnvPresent } fun s j d =>
    let ls := (List.range 64).filter fun l => (d.num 32 8).testBit l
    if ls = [] then s.complete j cInvalid 0
    else if ls.any fun l => !s.unitOn (.beam l) then s.complete j 0x0701 0
    else s.flushBeams.each ls fun s l => s.updBeam l fun b =>
      { b with calJobs := b.calJobs ++ [(j, none)]
               calDue := b.calDue || !calBusy b
               calStart := if calBusy b then b.calStart else s.now })

/-! ## FBC_CTRL and FBC_SEND (R272, R280, R287) -/

/-- What FBC_CTRL finds wrong with one controller. -/
def State.fbcCheck (s : State) (sub b : Nat) : Option Code :=
  let f := s.fbcs.get b
  let c := s.pkg.fbcs.get b
  if ¬ s.unitOn (.fbc b) then some cNotActive
  else if sub = 4 then (if f.mode = .busOff then none else some 0x0A02)
  else if f.mode = .busOff then some 0x0A00
  else if sub = 1 then none
  else if sub = 2 then (if f.mode = .arrival ∧ c.schedEn ∧ s.fbTimeOk then none else some 0x0A02)
  else if s.glb.lcs = .service then none else some cDenied

/-- FBC_CTRL on one bus or both: both checks come first, then both act (R287). -/
def State.fbcCtrl (s : State) (j sub : Nat) (d : Desc) (act : State → Nat → State) : State :=
  let m := d.num 33 1
  let bs := [0, 1].filter fun b => m.testBit b
  if m = 0 ∨ 3 < m then s.complete j cInvalid 0
  else match bs.findSome? fun b => s.fbcCheck sub b with
  | some c => s.complete j c 0
  | none => (s.each bs act).complete j cOk 0

/-- FBC_ARRIVAL (R272): from LISTEN at once, else at the end of the basic cycle; the controller stays in ARRIVAL
until FBC_CTRL SCHEDULE. -/
def execFbcArrival (i : Fin 64) (r : Fin 8) (s : State) : Res :=
  .next (s.runDesc i r (s0Form i 0x50 (some (32, 1)) [(32, 2)]) fun s j d => s.fbcCtrl j 1 d fun s b =>
    match (s.fbcs.get b).mode with
    | .listen => (((s.updFbc b fun f => { f with supervise := s.now }).fbMode b .arrival).fbQueueAll b).fbOffer b
    | .schedule => s.updFbc b fun f => { f with toArrival := true, holdArrival := true }
    | _ => s.updFbc b fun f => { f with holdArrival := true })

/-- FBC_SCHEDULE (R272): the controller may go to SCHEDULE at its next basic cycle of index 0. -/
def execFbcSchedule (i : Fin 64) (r : Fin 8) (s : State) : Res :=
  .next (s.runDesc i r (s0Form i 0x50 (some (32, 2)) [(32, 2)]) fun s j d => s.fbcCtrl j 2 d fun s b =>
    s.updFbc b fun f => { f with holdArrival := false })

/-- FBC_LISTEN (R272): in SERVICE state; the queue is discarded and counted. -/
def execFbcListen (i : Fin 64) (r : Fin 8) (s : State) : Res :=
  .next (s.runDesc i r (s0Form i 0x50 (some (32, 3)) [(32, 2)]) fun s j d => s.fbcCtrl j 3 d fun s b =>
    (s.fbMode b .listen).fbDiscard b (fun _ => true) 0x0A02)

/-- FBC_RECOVER (R272): BUS_OFF ends once the recovery sequence has completed. -/
def execFbcRecover (i : Fin 64) (r : Fin 8) (s : State) : Res :=
  .next (s.runDesc i r (s0Form i 0x50 (some (32, 4)) [(32, 2)]) fun s j d => s.fbcCtrl j 4 d fun s b =>
    if (s.fbcs.get b).seqDone then s.fbRecovered b else s.updFbc b fun f => { f with recoverAsked := true })

/-- A data length that a frame can have (R287). -/
def canLength (fd : Bool) (n : Nat) : Bool := decide (n ≤ 8) || (fd && [12, 16, 20, 24, 32, 48, 64].contains n)

/-- Why a controller takes no frame from FBC_SEND now (R286, R287). -/
def State.fbRefuses (s : State) (b : Nat) (cmd : Bool) : Option Code :=
  let f := s.fbcs.get b
  if ¬ s.unitOn (.fbc b) then some cNotActive
  else if f.mode = .busOff then some 0x0A00
  else if f.mode = .listen then some 0x0A02
  else if cmd ∧ ¬ s.mlk.grant then some 0x0A03
  else none

/-- A frame of FBC_SEND enters its controller's transmit queue, where it has room (R280, R287). -/
def State.releaseSend (s : State) (b : Nat) (x : TxItem) : State :=
  match x.what with
  | .send j _ cmd => match s.fbRefuses b cmd with
    | some c => s.complete j c 0
    | none =>
      if (match x.deadline with | some d => decide (d < s.tai) | none => false) then s.expire j
      else if 64 ≤ s.fbDepth b then s.complete j 0x0A01 0
      else (s.fbEnqueue b x).fbOffer b
  | _ => s

/-- Frames of FBC_SEND whose STARTED item is sealed are released to their controller (R365). -/
def State.releaseSends (s : State) (b : Nat) : State :=
  let go (x : TxItem) : Bool := match x.what with | .send j _ _ => s.jSealed j | _ => true
  let out := (s.fbcs.get b).unsealed.filter go
  (s.updFbc b fun f => { f with unsealed := f.unsealed.filter fun x => !go x }).each out fun s x => s.releaseSend b x

/-- FBC_SEND (R280, R281, R286, R287, R365): the frame enters the transmit queue, in a pair once its STARTED item is
sealed, and completes once acknowledged. -/
def execFbcSend (i : Fin 64) (r : Fin 8) (buf : Option (List Byte)) (s : State) : Res :=
  .next (s.runDesc i r { s0Form i 0x51 none [(32, 7)] with buf := true } fun s j d =>
    let id := d.num 32 4
    let fl := d.num 36 1
    let n := d.num 37 1
    let b := d.num 38 1
    let ide := id.testBit 31
    let cmd := fl.testBit 2
    if 7 < fl ∨ 1 < b ∨ ¬ canLength (fl.testBit 0) n ∨ d.length ≠ n ∨ id.testBit 29 ∨ id.testBit 30 ∨
        (¬ ide ∧ 2 ^ 11 ≤ id % 2 ^ 29) then s.complete j cInvalid 0
    else match s.fbRefuses b cmd with
    | some c => s.complete j c 0
    | none => match (if n = 0 then some [] else buf) with
    | none => s.hostFail j
    | some bs =>
      let fr : CanFrame := { ide := ide, id := BitVec.ofNat 29 id, fd := fl.testBit 0, brs := fl.testBit 1,
                             data := bytesAt bs 0 n }
      let x : TxItem := { what := .send j fr cmd, ident := id % 2 ^ 29, ide := ide,
                          deadline := if dDeadline d then some d.aux else none }
      (s.updFbc b fun f => { f with unsealed := f.unsealed ++ [x] }).releaseSends b)

/-! ## TP_ARM (R266) -/

/-- TP_ARM (R263, R266): the START of a ONCE generator; one that is pending is replaced and reported. -/
def execTpArm (i : Fin 64) (r : Fin 8) (s : State) : Res :=
  .next (s.runDesc i r (s0Form i 0x60 none [(32, 1), (40, 8)]) fun s j d =>
    let t := d.num 32 1
    let start := d.num 40 8
    if 15 < t then s.complete j cInvalid 0
    else if (s.pkg.tps.get t).mode ≠ .once then s.complete j 0x0900 0
    else if start < s.tai + 1000 then s.complete j 0x0901 0
    else
      let old := if (s.col.tps.get t).armed then tsOf (s.onceStart t) + 2 ^ 32 else 0
      let s := s.updTp t fun x => { x with armed := true, start := some start }
      (s.mirror (.effect 0x60 t start)).complete j cOk old)

end Sys2Proof.Machine
end

