-- ==== Sys2Proof/Machine/Protection.lean ====
section
/-! DEFINITION. The protection cycle (R152 to R157), trip output timing (R158), and GOOSE publication and
subscription (R160 to R163). -/

namespace Sys2Proof.Machine

/-! ## Which tick comes (R152) -/

/-- Slots of the slice's chains, in slot order. -/
def State.protSlots (s : State) (p : Nat) : List Nat :=
  let l := (s.pkg.prots.get p).lens
  let cs := tickChains (s.prots.get p)
  (s.pkg.slots.rows.filter fun r => r.1 / 256 = l && r.2.en && cs.contains r.2.chain).map fun r => r.1 % 256

/-- Rate code and decimation ratio of a slice's chains. -/
def State.protRate (s : State) (p : Nat) : Nat × Nat :=
  let c := s.pkg.chains.get (chainKey (s.pkg.prots.get p).lens ((tickChains (s.prots.get p)).headD 0))
  (c.rate, decim c.preset c.rate)

/-- The first input k at or after instant `a`, in ns of TAI. -/
def gridFrom (rate r a : Nat) : Nat × Nat :=
  let s := a * 65536 / svFine rate * svFine rate
  let c := ceilDiv ((a * 65536 - s) * svRate rate) (1000000000 * 65536) / r * r + (r - 1)
  if c < svCounts rate then (c, s + svOffset rate c) else (r - 1, s + svFine rate + svOffset rate (r - 1))

/-- Outputs that wait for their tick: slot, smpCnt and instant. One whose tick has passed waits for none. -/
def State.protReady (s : State) (p : Nat) : List (Nat × Nat × Nat) :=
  let l := (s.pkg.prots.get p).lens
  let due (k : Nat × Nat) : Bool := match (s.prots.get p).last with
    | some (c, _) => !atOrBefore (s.protRate p).1 k.1 c
    | none => true
  (s.protSlots p).filterMap fun i => ((s.chSlots.get (slotKey l i)).ready.filter due).map fun k => (i, k)

/-- The earlier of two inputs. -/
def earlier (a b : Nat × Nat) : Nat × Nat := if b.2 < a.2 then b else a

/-- The input k whose tick comes next. -/
def State.protCand (s : State) (p : Nat) : Nat × Nat :=
  let (rate, r) := s.protRate p
  let ks := (s.protReady p).map (·.2)
  match (s.prots.get p).last with
  | none => (match ks with
    | k :: rest => rest.foldl earlier k
    | [] => gridFrom rate r (s.tai - (s.pkg.prots.get p).svLatUs * 1000))
  | some (c, t) =>
    let g := gridNext rate r c t
    match ks.find? fun k => k.1 = g.1 with
    | some k => k
    | none => ks.foldl earlier g

/-- A protection slice whose cycle runs. -/
def State.protRuns (s : State) (p : Nat) : Bool :=
  let c := s.pkg.prots.get p
  c.present && s.glb.phase = .running && (s.lenses.get c.lens).pstate ≠ .off && !(s.lenses.get c.lens).fenced
    && s.protSlots p ≠ []

/-! ## The end of a cycle that overruns (R155) -/

/-- A facet has overrun cycle `n`: it is halted, its seal area comes back from the seal of the cycle before, so that the
next cycle is the first after a restore (R85), and cycle `n` has no seal. -/
def State.protOverrun (s : State) (l h n : Nat) : State :=
  let f := s.host l h
  let fc := s.fCfg l h
  let s := (s.loseSeal l h n).updProg l h fun q => { q with computing := false, outDone := false, catchUp := false }
  let k := checkpoint (s.progs.get (fKey l h))
  let s := s.updFacet l f fun y =>
    let y := { y with run := if y.run = .fenced then .fenced else .gated, gate := .ended, stack := [], qTick := false,
                      ticked := false, firstCycle := false, replayed := false, restored := k.isSome }
    match k with
    | some r => restoreArea fc r y
    | none => freshData fc y
  let s := s.atBoundary l f
  ({ s with pcOvr := s.pcOvr.upd (fKey l h) fun x => sat32 x 1 }).event .protOverrun (fKey l h)

/-- Every facet of the slice that still evaluates the cycle that ends has overrun it, but for one under repair or one that
catches up after a repair (R103). The cycle has no seal at any facet of the slice (R26, R155). -/
def State.protEndCycle (s : State) (p : Nat) : State :=
  let c := s.pkg.prots.get p
  let n := (s.prots.get p).cycle
  let late := c.facets.filter fun h =>
    let q := s.progs.get (fKey c.lens h)
    q.computing && q.cycle = n && !q.catchUp && !s.inRepair c.lens h
  if late = [] then s
  else
    let s := s.each c.facets fun s h => s.loseSeal c.lens h n
    let s := s.each late fun s h => s.protOverrun c.lens h n
    let k := (s.prots.get p).consecOvr + 1
    let s := s.updProt p fun x => { x with consecOvr := k, evaluating := false }
    if 3 ≤ k then s.alarm .protDegraded p else s

/-! ## Switches at the tick (R148, R156) -/

/-- Consumer switches take effect at the tick of cycle `n`. -/
def State.consumerSwitch (s : State) (p n : Nat) : State :=
  let l := (s.pkg.prots.get p).lens
  let x := s.prots.get p
  let s := s.each x.switch fun s w =>
    let s := s.updChain l w.1 fun c => { c with consumed := false }
    let s := s.updChain l w.2.1 fun c => { c with consumed := true }
    (s.mirror (.effect 0x2002 (chainKey l w.1) w.2.1)).complete w.2.2 cOk n
  s.updProt p fun y => { y with chains := tickChains y, switch := [] }

/-- Settings switches of a facet take effect at the tick of cycle `n`. -/
def State.settingsSwitch (s : State) (l h n : Nat) : State :=
  s.each (List.range 32) fun s i =>
    let k := fnKey l h i
    match (s.fns.get k).pending with
    | some (a, j) =>
      if a ≤ n then
        let s := s.updFn k fun x => { x with active := !x.active, pending := none, inactiveAt := n,
                                             switched := true }
        (s.mirror (.effect 0x22 k (if (s.fns.get k).active then 1 else 0))).complete j cOk n
      else s
    | none => s

/-! ## ALIGN (R153, R154) -/

/-- SETTINGS_SEL of a facet (R154). -/
def State.settingsSel (s : State) (l h : Nat) : Nat :=
  (List.range 32).foldl (fun n i => n + if (s.fns.get (fnKey l h i)).active then 2 ^ i else 0) 0

/-- The slot has produced the output after the input with `k`'s smpCnt; streams of one slice may give that input
different instants (R138, R152). -/
def hasOutput (k : Nat × Nat) (y : SlotSt) : Bool := (y.ready.map (·.1)) = some k.1

/-- The record of a slot at the tick of input `k`: the one it wrote for `k`, or its last value, MISSING. -/
def tickRecord (y : SlotSt) (k : Nat × Nat) (g : Nat) : SlotRec :=
  if hasOutput k y then y.out
  else { value := if y.ready.isSome then y.prev.value else y.out.value,
         quality := withValidity qMissing 1, smpCnt := k.1,
         ts := BitVec.ofInt 32 ((k.2 / 65536 : Nat) - (g : Int) - y.delay) }

/-- The 16 bytes of a slot record (R145). -/
def recordBytes (r : SlotRec) : List Byte :=
  leBytes 4 (unsigned 32 r.value) ++ leBytes 4 r.quality.toNat ++ leBytes 4 r.ts.toNat ++ leBytes 2 r.smpCnt
    ++ [0, 0]

/-- The subscribed GOOSE records of a slice's input buffer (log 14). -/
def State.gooseRecords (s : State) : List Byte :=
  (s.pkg.gss.keys.filter fun k => (s.pkg.gss.get k).en).flatMap fun k =>
    let g := s.gss.get k
    leBytes 1 (if g.valid then 1 else 0) ++ leBytes 1 g.members.length ++ [0, 0] ++ leBytes 4 g.stNum
      ++ g.members.flatMap gooseBytes

/-- The input buffer of a facet for cycle `n` (R154). -/
def State.protBuffer (s : State) (l h n missing : Nat) (recs : List SlotRec) : List Byte :=
  leBytes 8 n ++ leBytes 4 s.ts ++ leBytes 4 (s.settingsSel l h) ++ leBytes 4 missing ++ List.replicate 12 0
    ++ recs.flatMap recordBytes ++ s.gooseRecords

/-- EVALUATE begins on a facet that runs; one under repair comes later, one that still replays an earlier cycle goes on
with it (R103), and a stopped one has no output. -/
def State.protStart (s : State) (l h n : Nat) : State :=
  if s.inRepair l h then s.updProg l h fun q => { q with computing := true, outDone := false }
  else if (s.progs.get (fKey l h)).catchUp ∧ (s.progs.get (fKey l h)).computing then s
  else if (s.facets.get (fKey l (s.host l h))).run = .gated ∨
      (s.facets.get (fKey l (s.host l h))).run = .active then ((s.rollMove l h).adoptSeal l h n).protBegin l h n
  else s.updProg l h fun q => { q with computing := false, outDone := false }

/-- A slot after the tick of input `k`. -/
def slotAfter (k : Nat × Nat) (r : SlotRec) (y : SlotSt) : SlotSt :=
  if hasOutput k y then { y with ready := none }
  else if y.ready.isSome then { y with prev := r }
  else { y with out := r, prev := y.out }

/-- Outputs that wait for no tick, since theirs has passed, count as none (R148, R152). -/
def State.dropReady (s : State) (p : Nat) : State :=
  let l := (s.pkg.prots.get p).lens
  let keep := (s.protReady p).map (·.1)
  s.each ((s.protSlots p).filter fun i => !keep.contains i) fun s i => s.updSlot l i fun y => { y with ready := none }

/-- The next tick of the slice is scheduled for the instant of its next input k; it cannot come earlier (R34, DEDUCED,
log 70). -/
def State.protNext (s : State) (p : Nat) (k : Nat × Nat) : Nat :=
  let (rate, r) := s.protRate p
  s.now + ((gridNext rate r k.1 k.2).2 / 65536 - s.tai)

/-- The tick of the next protection cycle, after input `k` (R152 to R156). While the lens's programs are being
relocated the cycle is not run, and counted (R436). -/
def State.protTick (s : State) (p : Nat) (k : Nat × Nat) : State :=
  let c := s.pkg.prots.get p
  let n := (s.prots.get p).cycle + 1
  let s := (s.protEndCycle p).dropReady p
  let s := s.consumerSwitch p n
  let s := s.each c.facets fun s h => s.settingsSwitch c.lens h n
  let slots := s.protSlots p
  let gd (i : Nat) : Nat := (s.chains.get (chainKey c.lens (s.pkg.slots.get (slotKey c.lens i)).chain)).gd
  let recs := slots.map fun i => tickRecord (s.chSlots.get (slotKey c.lens i)) k (gd i)
  let missing := (slots.filter fun i => !hasOutput k (s.chSlots.get (slotKey c.lens i))).length
  let s := s.each (slots.zip recs) fun s x => s.updSlot c.lens x.1 (slotAfter k x.2)
  let s := if missing = 0 then s
    else s.each c.facets fun s h => { s with pcDeadline := s.pcDeadline.upd (fKey c.lens h) fun x => sat32 x 1 }
  let s := s.updProt p fun x => { x with cycle := n, last := some k, evaluating := true, evalStart := s.now, evalTai := s.tai }
  let next := s.protNext p k
  let s := s.each c.facets fun s h => s.updProg c.lens h fun q => { q with nextTick := some next }
  match (s.lenses.get c.lens).relocTo with
  | some z => s.updLens z fun x => { x with repairGap := sat32 x.repairGap c.facets.length }
  | none =>
    let s := s.each c.facets fun s h =>
      let b := s.protBuffer c.lens h n missing recs
      s.updProg c.lens h fun q => if n % 2 = 0 then { q with inWin0 := b } else { q with inWin1 := b }
    s.each c.facets fun s h => s.protStart c.lens h n

/-- PROT_CYCLE_TICK (R152, R153): every slot of the slice's chains has produced the output after one input. -/
def execProtCycleTick (p : Fin 64) (s : State) : Res :=
  .next (match s.protReady p with
  | (_, k) :: _ =>
    if s.protRuns p ∧ (s.protReady p).length = (s.protSlots p).length ∧
        (s.protReady p).all fun x => x.2.1 = k.1 then s.protTick p k
    else s
  | [] => s)

/-- PROT_DEADLINE (R152): t_in(k) + SV_LAT has come and some slot has no output. -/
def execProtDeadline (p : Fin 64) (s : State) : Res :=
  let k := s.protCand p
  let all := (s.protReady p).length = (s.protSlots p).length && (s.protReady p).all fun x => x.2.1 = k.1
  .next (if s.protRuns p ∧ ¬ all ∧ s.reaches (k.2 / 65536 + (s.pkg.prots.get p).svLatUs * 1000) then
      (s.upToTai (k.2 / 65536 + (s.pkg.prots.get p).svLatUs * 1000)).protTick p k
    else s)

/-! ## Trip outputs (R158) -/

/-- TO_MINON_EXPIRY (R158): MINON has elapsed since the last rising edge of a mapped lane. -/
def execToMinonExpiry (m : Fin 4) (s : State) : Res :=
  .next (if (s.tos.get m).closed then
      (s.upTo ((s.tos.get m).lastEdge + (s.pkg.tos.get m).minonMs * 1000000)).toOpen m
    else s)

/-! ## GOOSE (R160 to R163) -/

/-- GOOSE_RETRANSMIT (R160, R161): the next frame of the sequence, with the dataset of the change; the interval doubles from T1 up to T0. A
command publisher without the grant sends nothing. -/
def execGooseRetransmit (g : Fin 64) (s : State) : Res :=
  let p := s.gps.get g
  .next (match p.nextSend with
  | none => s
  | some t =>
    let s := s.upTo t
    s.gpSend g p.stNum (wrapNum p.sqNum) (Nat.min (2 * p.interval) (s.gpT0 g)) p.data)

/-- Owner slice of a GOOSE subscription's key. -/
def State.gsAuth (s : State) (k : Nat) (fr : GooseFrame) : Bool × State :=
  let c := s.pkg.gss.get k
  let x := s.gss.get k
  let fails (s : State) : State := s.updGs k fun x => { x with authfail := sat32 x.authfail 1, nextPass := 0 }
  if x.keyCur = 0 ∧ x.keyNext = 0 then (!c.authReq, if c.authReq then fails s else s)
  else
    let (a, s) := s.useKey x.keyCur c.alg [c.slice] fr.tagCur
    if a then (true, s.updGs k fun x => { x with nextPass := 0 })
    else
      let (b, s) := s.useKey x.keyNext c.alg [c.slice] fr.tagNext
      if b then
        (true, s.updGs k fun x =>
          if 16 ≤ x.nextPass + 1 then { x with keyCur := x.keyNext, keyNext := 0, nextPass := 0 }
          else { x with nextPass := x.nextPass + 1 })
      else if c.authReq then (false, fails s)
      else (true, s.updGs k fun x => { x with nextPass := 0 })

/-- GOOSE_RX (R160): an authentic frame of the subscription with new numbers becomes its record, valid for
timeAllowedToLive; one with a repeated stNum and sqNum is ignored, and one with the simulation flag outside
simulation mode as well. -/
def execGooseRx (k : Fin 256) (fr : GooseFrame) (t : Nat) (s : State) : Res :=
  let s := s.upTo t
  let c := s.pkg.gss.get k
  .next (if ¬ c.en then s
    else
      let (ok, s) := s.gsAuth k fr
      let x := s.gss.get k
      if ¬ ok ∨ (fr.simulated ∧ ¬ s.pkg.simSlices.contains c.slice) ∨
          (x.expiry.isSome ∧ fr.stNum = x.stNum ∧ fr.sqNum = x.sqNum) then s
      else s.updGs k fun x => { x with stNum := fr.stNum, sqNum := fr.sqNum, valid := true, members := fr.members,
                                       expiry := some (t + fr.talMs * 1000000) })

/-- GOOSE_TAL_EXPIRY (R160): the record's timeAllowedToLive expires and it turns INVALID. -/
def execGooseTalExpiry (k : Fin 256) (s : State) : Res :=
  .next (match (s.gss.get k).expiry with
  | some t => if (s.gss.get k).valid then (s.upTo t).updGs k fun x => { x with valid := false } else s
  | none => s)

end Sys2Proof.Machine
end

