-- ==== Sys2Proof/Machine/ProtDesc.lean ====
section
/-! DEFINITION. The descriptors of Focus chains and protection: FOCUS_CTRL, SETTINGS_LOAD, SETTINGS_SWITCH,
TRIP_RESET and KEY_ROTATE (R139, R147 to R150, R156 to R158, R432). -/

namespace Sys2Proof.Machine

/-! ## FOCUS_CTRL (R147 to R149, R310) -/

/-- FOCUS_CTRL of one sub-command: the owner of the chain or slice 0 may send it. -/
def focusForm (i sub : Nat) (s : State) : DescForm :=
  { opcode := 0x20, sub := some (32, sub), used := [(32, 5), (40, 9)], buf := true
    may := fun d => i = 0 || (s.pkg.chains.get (chainKey (d.num 33 1) (d.num 34 1))).ownerSlice = i
    present := fun d => decide (d.num 33 1 < lensCount) || decide (15 < d.num 33 1) }

/-- The lens and chain that a FOCUS_CTRL names are configured. -/
def State.chainNamed (s : State) (l c : Nat) : Bool :=
  decide (l < 16 ∧ c < 32) && (s.pkg.chains.get (chainKey l c)).present

/-- LOAD_BANK (R147): bank, TAPS and declared group delay of a chain that is OFF change together. All 32 bits of GD count
for TS, and LNSn_FCH_GD shows the low 22 (DESIGN CHOICE, log 103). -/
def execLoadBank (i : Fin 64) (r : Fin 8) (buf : Option (List Int)) (s : State) : Res :=
  .next (s.runDesc i r (focusForm i 1 s) fun s j d =>
    let l := d.num 33 1
    let c := d.num 34 1
    let n := d.num 48 1
    if ¬ s.chainNamed l c ∨ n = 0 ∨ 128 < n ∨ d.length ≠ 2 * n then s.complete j cInvalid 0
    else if (s.unit (.chain l c)).st ≠ .off then s.complete j 0x0500 0
    else match buf with
    | none => s.hostFail j
    | some ts =>
      let taps := (ts ++ List.replicate n 0).take n |>.map fun t => signed 16 (unsigned 16 t)
      let s := s.updChain l c fun x => { x with taps := taps, gd := d.num 44 4 }
      (s.mirror (.bank l c (d.num 44 4) taps)).complete j cOk 0)

/-- SWITCH_CONSUMERS (R148): the protection slice that takes its records from the chain takes them from the
new one from its next tick, which completes the descriptor. An old chain without a consumer, or with a switch that waits,
answers INVALID, and a new chain that is not ON NOT_ACTIVE (DESIGN CHOICE, log 104). -/
def execSwitchConsumers (i : Fin 64) (r : Fin 8) (s : State) : Res :=
  .next (s.runDesc i r (focusForm i 2 s) fun s j d =>
    let l := d.num 33 1
    let c := d.num 34 1
    let k := d.num 36 1
    let a := s.pkg.chains.get (chainKey l c)
    let b := s.pkg.chains.get (chainKey l k)
    let user := (List.range 64).find? fun p =>
      (s.pkg.prots.get p).present && (s.pkg.prots.get p).lens = l && (s.prots.get p).chains.contains c
    if ¬ s.chainNamed l c ∨ ¬ s.chainNamed l k ∨ a.rate ≠ b.rate ∨ a.preset ≠ b.preset ∨
        (s.chainSlots l c).length ≠ (s.chainSlots l k).length then s.complete j cInvalid 0
    else match user with
    | none => s.complete j cInvalid 0
    | some p =>
      if (s.prots.get p).switch.any fun w => w.1 = c then s.complete j cInvalid 0
      else if ¬ s.unitOn (.chain l k) then s.complete j cNotActive 0
      else if s.chainFilling l k then s.complete j 0x0501 0
      else s.updProt p fun x => { x with switch := x.switch ++ [(c, k, j)] })

/-- SET_DELAY (R144, R149): a running slot's delay moves by at most 1 µs. -/
def execSetDelay (i : Fin 64) (r : Fin 8) (s : State) : Res :=
  .next (s.runDesc i r (focusForm i 3 s) fun s j d =>
    let l := d.num 33 1
    let c := d.num 34 1
    let k := d.num 35 1
    let v := d.num 40 4
    let old := (s.chSlots.get (slotKey l k)).delay
    let x := s.pkg.slots.get (slotKey l k)
    if ¬ s.chainNamed l c ∨ ¬ x.en ∨ x.chain ≠ c ∨ 1000000 < v then s.complete j cInvalid 0
    else if (s.unit (.chain l c)).st ≠ .off ∧ (old + 1000 < v ∨ v + 1000 < old) then s.complete j 0x0502 0
    else
      let s := s.updSlot l k fun y => { y with delay := v }
      (s.mirror (.effect 0x2003 (slotKey l k) v)).complete j cOk 0)

/-! ## Settings (R156, R157) -/

/-- A descriptor of a protection function's settings: the owner of the facet's functions or slice 0. -/
def settingsForm (i op : Nat) (used : List (Nat × Nat)) (buf : Bool) (s : State) : DescForm :=
  { opcode := op, used := used, buf := buf
    may := fun d => i = 0 || (s.pkg.facets.get (fKey (d.num 32 1) (d.num 33 1))).ownerSlice = i
    present := fun d => decide (d.num 32 1 < lensCount) || decide (15 < d.num 32 1) }

/-- The protection slice of the function that the descriptor names, where there is one. -/
def State.fnNamed (s : State) (d : Desc) : Option Nat :=
  if 15 < d.num 32 1 ∨ 63 < d.num 33 1 ∨ 31 < d.num 34 1 then none else s.protAt (d.num 32 1) (d.num 33 1)

/-- Value of a setting in a bank. -/
def settingValue (r : SettingRange) (bytes : List Byte) : Int :=
  let v := leNat (bytesAt bytes r.off r.len)
  if r.signed then signed (8 * r.len) v else v

/-- Every setting that the bytes hold lies within its range, and every byte belongs to a setting of the function's range
table (R156; DESIGN CHOICE for a byte that the table does not name, log 80). -/
def settingsFit (ranges : List (Nat × List SettingRange)) (k : Nat) (bytes : List Byte) : Bool :=
  let rs := ((findRow ranges k).getD []).filter fun r => decide (r.off + r.len ≤ bytes.length)
  (rs.all fun r => decide (r.lo ≤ settingValue r bytes ∧ settingValue r bytes ≤ r.hi)) &&
    (List.range bytes.length).all fun i => rs.any fun r => decide (r.off ≤ i ∧ i < r.off + r.len)

/-- The bank that became inactive less than two cycles ago keeps a load waiting (R157). -/
def State.bankHeld (s : State) (p k : Nat) : Bool :=
  let f := s.fns.get k
  f.switched && decide ((s.prots.get p).cycle < f.inactiveAt + 2)

/-- Writes the inactive bank of a function and completes (R156). -/
def State.settingsWrite (s : State) (p j : Nat) (d : Desc) (buf : Option (List Byte)) : State :=
  let k := fnKey (d.num 32 1) (d.num 33 1) (d.num 34 1)
  match buf with
  | none => s.hostFail j
  | some bs =>
    let bs := bytesAt bs 0 d.length
    if ¬ settingsFit (s.pkg.prots.get p).ranges (d.num 33 1 * 32 + d.num 34 1) bs then s.complete j 0x0503 0
    else
      let bank := if (s.fns.get k).active then 0 else 1
      let s := s.updFn k fun x => if bank = 0 then { x with bankA := bs } else { x with bankB := bs }
      (s.mirror (.settings (d.num 32 1) (d.num 33 1) (d.num 34 1) bank bs)).complete j cOk bank

/-- SETTINGS_LOAD (R156, R157). -/
def execSettingsLoad (i : Fin 64) (r : Fin 8) (buf : Option (List Byte)) (s : State) : Res :=
  .next (s.runDesc i r (settingsForm i 0x21 [(32, 3)] true s) fun s j d =>
    match s.fnNamed d with
    | none => s.complete j cInvalid 0
    | some p =>
      let k := fnKey (d.num 32 1) (d.num 33 1) (d.num 34 1)
      if d.length = 0 ∨ 2048 < d.length then s.complete j cInvalid 0
      else if (s.fns.get k).pending.isSome then s.updFn k fun x => { x with refused := x.refused ++ [j] }
      else if s.bankHeld p k then s
      else s.settingsWrite p j d buf)

/-- SETTINGS_LOAD_DEFERRED (R157): a SETTINGS_LOAD that waited goes on: two cycles have passed, or the switch
that was pending has taken effect, which ends it with INVALID. -/
def execSettingsLoadDeferred (i : Fin 64) (r : Fin 8) (buf : Option (List Byte)) (s : State) : Res :=
  .next (match (s.ringJ i r).find? fun e => e.state = .started && e.desc.opcode = 0x21 with
  | none => s
  | some e =>
    let k := fnKey (e.desc.num 32 1) (e.desc.num 33 1) (e.desc.num 34 1)
    match s.fnNamed e.desc with
    | none => s
    | some p =>
      if (s.fns.get k).refused.contains e.jseq then
        if (s.fns.get k).pending.isSome then s
        else
          ((s.updFn k fun x => { x with refused := x.refused.filter (· ≠ e.jseq) }).complete e.jseq cInvalid 0).syncSlice
            i
      else if s.bankHeld p k then s
      else (s.settingsWrite p e.jseq e.desc buf).syncSlice i)

/-- SETTINGS_SWITCH (R156, R157): pending until its tick, which completes it. -/
def execSettingsSwitch (i : Fin 64) (r : Fin 8) (s : State) : Res :=
  .next (s.runDesc i r (settingsForm i 0x22 [(32, 3), (40, 8)] false s) fun s j d =>
    match s.fnNamed d with
    | none => s.complete j cInvalid 0
    | some _ =>
      let k := fnKey (d.num 32 1) (d.num 33 1) (d.num 34 1)
      if (s.fns.get k).pending.isSome then s.complete j 0x0504 0
      else s.updFn k fun x => { x with pending := some (d.num 40 8, j) })

/-! ## TRIP_RESET (R158) -/

/-- TRIP_RESET (R158, R310): each named output none of whose lanes is asserted is reset. -/
def execTripReset (i : Fin 64) (r : Fin 8) (s : State) : Res :=
  .next (s.runDesc i r { opcode := 0x23, used := [(32, 1)], may := fun _ => i.val = 0 } fun s j d =>
    let m := d.num 32 1
    if m = 0 ∨ 15 < m then s.complete j cInvalid 0
    else
      let named := (List.range 4).filter fun k => m.testBit k
      let free := named.filter fun k => !s.maskOn (s.pkg.tos.get k).mask
      let s := s.each free fun s k => (s.updTo k fun t => { t with resetDone := true, latched := false }).toOpen k
      let got := free.foldl (fun n k => n + 2 ^ k) 0
      (s.mirror (.effect 0x23 0 got)).complete j (if free.length = named.length then cOk else 0x0505) got)

/-! ## KEY_ROTATE (R139, R404, R432) -/

/-- KEY_ROTATE: the slot must pass R404 for the unit's algorithm; a subscription takes it as KEY_NEXT, a
publisher at once as KEY_CUR. -/
def execKeyRotate (i : Fin 64) (r : Fin 8) (s : State) : Res :=
  .next (s.runDesc i r { opcode := 0x24, used := [(32, 1), (34, 3)], may := fun _ => i.val = 0 } fun s j d =>
    let n := d.num 34 2
    let slot := d.num 36 1
    if slot < 4 then s.complete j cInvalid 0
    else match d.num 32 1 with
    | 0 =>
      if 511 < n ∨ ¬ (s.pkg.svs.get n).en then s.complete j cInvalid 0
      else match s.keyCheck slot (algBit (s.pkg.svs.get n).alg) (s.svOwners n) with
      | some c => s.complete j c 0
      | none => ((s.updSv n fun x => { x with keyNext := slot, nextPass := 0 }).mirror
          (.effect 0x2400 n slot)).complete j cOk 0
    | 1 =>
      if 255 < n ∨ ¬ (s.pkg.gss.get n).en then s.complete j cInvalid 0
      else match s.keyCheck slot (algBit (s.pkg.gss.get n).alg) [(s.pkg.gss.get n).slice] with
      | some c => s.complete j c 0
      | none => ((s.updGs n fun x => { x with keyNext := slot, nextPass := 0 }).mirror
          (.effect 0x2401 n slot)).complete j cOk 0
    | 2 =>
      if 63 < n ∨ ¬ (s.pkg.gps.get n).en then s.complete j cInvalid 0
      else match s.keyCheck slot (algBit (s.pkg.gps.get n).alg) [(s.pkg.gps.get n).slice] with
      | some c => s.complete j c 0
      | none => ((s.updGp n fun x => { x with keyCur := slot }).mirror (.effect 0x2402 n slot)).complete j cOk 0
    | _ => s.complete j cInvalid 0)

end Sys2Proof.Machine
end

