-- ==== Sys2Proof/Machine/Recorder.lean ====
section
/-! DEFINITION. The Event Recorder (R385 to R391, R399), Loupe (R392 to R394, R400), and READ_SNAPSHOT and EVR_FLUSH
(R391, R394 to R396). -/

namespace Sys2Proof.Machine

/-! ## Closing intervals (R387, R388) -/

/-- The channels whose interval is open: those the package declares, and those that have counted something. -/
def State.evrOpen (s : State) : List Nat :=
  (((s.pkg.evr.rows.filter fun r => r.2.en).map (·.1)) ++ s.recs.evr.wins.keys).eraseDups

/-- A closed record enters the buffer, or is dropped where the buffer has no place for it; 4,096 places are kept for
PARTIAL records (R388). -/
def State.evrStore (s : State) (r : EvrRec) : State :=
  let e := s.recs.evr
  let limit := if r.partial_ then 65536 else 61440
  if limit ≤ e.buffer.length then s.updEvr fun e => { e with bufDrop := sat32 e.bufDrop 1 }
  else
    let s := s.updEvr fun e => { e with buffer := e.buffer ++ [{ r with rseq := e.rseq }], rseq := e.rseq + 1
                                        stored := sat32 e.stored 1 }
    if 49152 ≤ s.recs.evr.buffer.length ∧ ¬ s.recs.evr.bufHigh then
      (s.updEvr fun e => { e with bufHigh := true }).alarm .evrBufHigh 0
    else s

/-- A channel closes its open interval and starts a new one (R387). -/
def State.evrClose (s : State) (partial_ : Bool) (i : Nat) : State :=
  let c := s.pkg.evr.get i
  let w := s.recs.evr.wins.get i
  let r : EvrRec := { channel := i, severity := c.severity, partial_ := partial_, tai := c.tai, event := evrEvent i c
                      hoursClose := s.ka.hours.toNat, pwrcyc := s.ka.pwrcyc.toNat
                      taiClose := if c.tai then s.tai else 0, lo := c.lo, hi := c.hi, win := w }
  let s := s.evrStore r
  let fresh : EvrWin := { cseq := w.cseq, hoursOpen := s.ka.hours.toNat, lastAt := w.lastAt, alarmActive := w.alarmActive
                          detail := w.detail }
  s.updEvr fun e => { e with wins := e.wins.set i fresh }

/-- Every open interval closes. -/
def State.evrCloseAll (s : State) (partial_ : Bool) : State := s.each s.evrOpen fun s i => s.evrClose partial_ i

/-- The value that the source of a VALUE channel has now; `v` is what a sensor measures (R385). -/
def State.evrSource (s : State) (x : EvrSrc) (v : Int) : Int :=
  match x with
  | .sensor => v
  | .facetWord l h off => (BitVec.ofNat 16 (leNat (bytesAt (lastWindow (s.progs.get (fKey l h))).2 off 2))).toInt
  | .slot l i => (s.chSlots.get (slotKey l i)).out.value

/-- EVR_CHANNEL_UPDATE (R385): a VALUE channel takes the value of its source, or an EVENT channel has an occurrence with
detail `v`. -/
def execEvrChannelUpdate (i : Fin 4096) (v : Int) (s : State) : Res :=
  let c := s.pkg.evr.get i
  .next (if ¬ c.en then s
    else if evrEvent i c then s.evrTouch i (evrOccur s.now (s.evrStamp c.tai) (unsigned 64 v))
    else s.evrTouch i (evrValue c.lo c.hi (s.evrStamp c.tai) (satInt 32 (s.evrSource c.src v))))

/-- EVR_INTERVAL_CLOSE (R387): INTERVAL operating hours have passed since the window opened. -/
def execEvrIntervalClose (i : Fin 4096) (s : State) : Res :=
  let c := s.pkg.evr.get i
  .next (if c.en ∧ 0 < c.interval ∧ (s.recs.evr.wins.get i).hoursOpen + c.interval ≤ s.ka.hours.toNat then
      s.evrClose false i
    else s)

/-! ## The log in flash (R389, R390) -/

/-- Records that the event log holds. -/
def evrLogSize : Nat := 8388608

/-- The flush under way ends: its records are in the log or dropped, and leave the buffer; EVR_FLUSH descriptors
whose records are all in flash complete (R389, R390, R396). -/
def State.evrFlushEnd (s : State) (n : Nat) : State :=
  let put (a : EvrSt × Nat × Nat) (r : EvrRec) : EvrSt × Nat × Nat :=
    let (e, w, d) := a
    if e.log.length < evrLogSize then ({ e with log := e.log ++ [r], lastRseq := r.rseq }, w + 1, d)
    else match e.log.find? fun x => decide (x.severity ≤ r.severity) with
      | some o => ({ e with log := (e.log.filter fun x => x.rseq ≠ o.rseq) ++ [r], lastRseq := r.rseq
                            logOverwrite := sat32 e.logOverwrite 1 }, w + 1, d)
      | none => ({ e with logDrop := sat32 e.logDrop 1 }, w, d + 1)
  let batch := s.recs.evr.buffer.take n
  let (e, w, d) := batch.foldl put (s.recs.evr, 0, 0)
  let e := { e with blocks := e.blocks ++ [(e.logOverwrite, e.logDrop)], buffer := e.buffer.drop n, flushes := sat32 e.flushes 1, flushing := false
                    waits := e.waits.map fun x => (x.1, x.2.1 - batch.length, x.2.2.1 + w, x.2.2.2 + d) }
  let s : State := { s with recs.evr := e }
  let s := if s.recs.evr.bufHigh ∧ s.recs.evr.buffer.length < 49152 then
      (s.updEvr fun e => { e with bufHigh := false }).clearAlarm .evrBufHigh 0
    else s
  let s := s.each (s.recs.evr.waits.filter fun x => x.2.1 = 0) fun s x =>
    s.complete x.1 cOk (x.2.2.1 + x.2.2.2 * 2 ^ 32 + s.recs.evr.lastRseq * 2 ^ 64)
  s.updEvr fun e => evrAskFlush e.flushAgain { e with flushAgain := false, waits := e.waits.filter fun x => x.2.1 ≠ 0 }

/-- EVR_FLASH_FLUSH_DONE (R389): the flush's records verify in flash. A power-fail flush goes first. -/
def execEvrFlashFlushDone (s : State) : Res :=
  .next (if s.recs.evr.flushing ∧ s.hw.pf ≠ .blocked ∧ s.hw.pf ≠ .qualified then s.evrFlushEnd s.recs.evr.flushN else s)

/-- EVR_FLUSH (R389, R396): closes intervals if asked, and completes once every record stored so far is in flash. -/
def execEvrFlush (i : Fin 64) (r : Fin 8) (s : State) : Res :=
  .next (s.runDesc i r { opcode := 0x72, used := [(32, 1)], may := fun _ => i.val = 0 } fun s j d =>
    if 1 < d.num 32 1 then s.complete j cInvalid 0
    else
      let s := if d.num 32 1 = 1 then s.evrCloseAll false else s
      let n := s.recs.evr.buffer.length
      if n = 0 then s.complete j cOk (s.recs.evr.lastRseq * 2 ^ 64)
      else s.updEvr fun e => evrAskFlush true { e with waits := e.waits ++ [(j, n, 0, 0)] })

/-! ## Images of windows and records (R387) -/

/-- The 256 bytes of a live window or record. -/
def evrImage (seq channel severity : Nat) (partial_ tai event : Bool) (close cyc taiClose : Nat) (lo hi : Int)
    (w : EvrWin) : List Byte :=
  let b (v : Bool) (n : Nat) : Nat := if v then n else 0
  let body := leBytes 8 seq ++ leBytes 2 channel
    ++ leBytes 1 (severity % 4 + b partial_ 4 + b tai 8 + b event 16 + b w.alarmActive 32) ++ leBytes 1 0
    ++ leBytes 4 w.hoursOpen ++ leBytes 4 close ++ leBytes 4 cyc ++ leBytes 8 taiClose ++ leBytes 4 w.count
    ++ leBytes 4 0 ++ leBytes 8 (unsigned 64 w.sum) ++ leBytes 4 (unsigned 32 w.min) ++ leBytes 8 w.minStamp
    ++ leBytes 4 (unsigned 32 w.max) ++ leBytes 8 w.maxStamp
    ++ leBytes 4 (if event then 0 else unsigned 32 lo) ++ leBytes 4 (if event then 0 else unsigned 32 hi)
    ++ ((List.range 32).flatMap fun k => leBytes 4 ((w.bins[k]?).getD 0)) ++ leBytes 8 w.detail ++ leBytes 36 0
  body ++ leBytes 4 (crc32 body).toNat

/-- The live window of a channel, with CSEQ in place of RSEQ. -/
def State.evrWindow (s : State) (i : Nat) : List Byte :=
  let c := s.pkg.evr.get i
  let w := s.recs.evr.wins.get i
  evrImage w.cseq i c.severity false c.tai (evrEvent i c) s.ka.hours.toNat s.ka.pwrcyc.toNat (if c.tai then s.tai else 0)
    c.lo c.hi w

/-- A closed record. -/
def evrRecord (r : EvrRec) : List Byte :=
  evrImage r.rseq r.channel r.severity r.partial_ r.tai r.event r.hoursClose r.pwrcyc r.taiClose r.lo r.hi r.win

/-! ## READ_SNAPSHOT (R391, R394 to R396) -/

/-- READ_SNAPSHOT of one target. -/
def snapForm (target : Nat) (may : Desc → Bool) : DescForm :=
  { opcode := 0x70, sub := some (32, target), used := [(32, 3), (36, 12)], buf := true, may := may }

/-- Writes BEGIN_SEQ, the data and END_SEQ, and completes with both. Nothing is updated while the module copies. -/
def State.snapOut (s : State) (i j : Nat) (d : Desc) (data : List Byte) : State :=
  let q := s.recs.evr.useq
  (s.hostWrite i (.buffer d.bufAddr (leBytes 8 q ++ data ++ leBytes 8 q))).complete j cOk (q % 2 ^ 64 + q % 2 ^ 64 * 2 ^ 64)

/-- READ_EVR_LIVE (R391). -/
def execReadEvrLive (i : Fin 64) (r : Fin 8) (s : State) : Res :=
  let chans (d : Desc) : List Nat := (List.range (d.num 36 4)).map (d.num 40 8 + ·)
  let fits (d : Desc) : Bool := decide (1 ≤ d.num 36 4 ∧ d.num 36 4 ≤ 256 ∧ d.num 40 8 + d.num 36 4 ≤ 4096)
  let own (d : Desc) : Bool := (chans d).all fun k => (s.pkg.evr.get k).owner = i.val
  .next (s.runDesc i r (snapForm 0 fun d => i.val = 0 || !fits d || own d) fun s j d =>
    if ¬ fits d ∨ d.length < 16 + 256 * d.num 36 4 then s.complete j cInvalid 0
    else s.snapOut i j d ((chans d).flatMap fun k => s.evrWindow k))

/-- READ_EVR_LOG (R396): the records that still exist from the first RSEQ at or after FIRST; a slice other than 0
reads those of its own channels. -/
def execReadEvrLog (i : Fin 64) (r : Fin 8) (s : State) : Res :=
  .next (s.runDesc i r (snapForm 1 fun _ => true) fun s j d =>
    let n := d.num 36 4
    let rs := (s.recs.evr.log.filter fun x =>
      decide (d.num 40 8 ≤ x.rseq) && (i.val = 0 || (s.pkg.evr.get x.channel).owner = i.val)).take n
    if n = 0 ∨ 4096 < n ∨ d.length < 16 + 256 * rs.length then s.complete j cInvalid 0
    else s.snapOut i j d (rs.flatMap evrRecord))

/-- READ_LOUPE (R394). -/
def execReadLoupe (i : Fin 64) (r : Fin 8) (s : State) : Res :=
  .next (s.runDesc i r { snapForm 2 fun _ => i.val = 0 with
      present := fun d => decide (15 < d.num 33 1 ∨ d.num 33 1 < lensCount) } fun s j d =>
    let b := s.recs.loupes.get (d.num 33 1 * 4 + d.num 34 1)
    if 15 < d.num 33 1 ∨ 3 < d.num 34 1 ∨ d.length < 16 + 65536 then s.complete j cInvalid 0
    else if b.st ≠ .done then s.complete j 0x0B01 0
    else s.snapOut i j d (b.samples.reverse.flatMap fun x => x.flatMap fun v => leBytes 2 v.toNat))

/-- KINDs of the sections of a dump, by its stage (R395). -/
def dumpKinds (stage : Nat) : List Nat := if stage = 1 then [1, 2, 3, 4, 5] else [1, 2, 3, 4, 5, 0x10, 0x11, 0x12]

/-- The section table, then the sections in its order (R395, log 87). -/
def dumpBody (no stage : Nat) : List Byte :=
  let kinds := dumpKinds stage
  let secs := kinds.map fun k => (k, Config.dumpSection no stage k)
  let start := 64 + 16 * kinds.length
  let at_ (n : Nat) : Nat := start + ((secs.take n).map fun x => x.2.length).sum
  (secs.zipIdx.flatMap fun x => leBytes 2 x.1.1 ++ leBytes 2 0 ++ leBytes 4 (at_ x.2) ++ leBytes 4 x.1.2.length
    ++ leBytes 4 (crc32 x.1.2).toNat) ++ secs.flatMap fun x => x.2

/-- A dump as it lies in its slot: its header, then the section table and sections (R395). -/
def dumpBytes (x : Dump) : List Byte :=
  let body := dumpBody x.dumpNo x.stage
  let head := leBytes 4 0x9400D0D0 ++ leBytes 1 x.stage ++ leBytes 1 x.cause
    ++ leBytes 2 (dumpKinds x.stage).length ++ leBytes 8 x.dumpNo ++ leBytes 6 (x.tai / 1000000000)
    ++ leBytes 2 x.modnum ++ leBytes 4 (x.tai % 1000000000) ++ leBytes 4 x.hours ++ leBytes 4 x.pwrcyc
    ++ leBytes 1 (if x.fwBank then 1 else 0) ++ leBytes 3 0 ++ leBytes 8 x.jseq ++ leBytes 8 x.epoch
    ++ leBytes 4 (64 + body.length)
  head ++ leBytes 4 (crc32 head).toNat ++ body

/-- READ_DUMP (R395, R396). -/
def execReadDump (i : Fin 64) (r : Fin 8) (s : State) : Res :=
  .next (s.runDesc i r (snapForm 3 fun _ => i.val = 0) fun s j d =>
    if 15 < d.num 34 1 then s.complete j cInvalid 0
    else match findRow s.recs.dumpSlots (d.num 34 1) with
    | none => s.complete j 0x0B02 0
    | some x =>
      if d.length < 16 + (dumpBytes x).length then s.complete j cInvalid 0 else s.snapOut i j d (dumpBytes x))

/-- READ_CHANNEL_TABLE (R385, R396). -/
def execReadChannelTable (i : Fin 64) (r : Fin 8) (s : State) : Res :=
  .next (s.runDesc i r (snapForm 4 fun _ => i.val = 0) fun s j d =>
    if d.length < 16 + Config.channelTable.length then s.complete j cInvalid 0
    else s.snapOut i j d Config.channelTable)

/-! ## Loupe (R393, R400) -/

/-- A buffer is armed: it fills with PRE samples. -/
def State.loupeStart (s : State) (l b : Nat) : State :=
  s.updLoupe l b fun x =>
    { x with st := if x.pre = 0 then .armed else .filling, samples := [], divCount := 0, prefillSupp := x.prefillSupp
             left := 0, forced := false, trigIndex := 0 }

/-- A write to a lens window (R3, R50). -/
def State.lensWrite (s : State) (l : Nat) (f : State → State) : State :=
  s.unitWrite (decide (l < lensCount)) f

/-- LOUPE_ARM (R393). -/
def execLoupeArm (l : Fin 16) (b : Fin 4) (s : State) : Res := .next (s.lensWrite l fun s => s.loupeStart l b)

/-- LOUPE_FORCE (R393). -/
def execLoupeForce (l : Fin 16) (b : Fin 4) (s : State) : Res := .next (s.lensWrite l fun s => s.updLoupe l b loupeHit)

end Sys2Proof.Machine
end

