-- ==== Sys2Proof/Machine/HostRings.lean ====
section
/-! DEFINITION. Polling, taking and completing (R298, R299, R303 to R306), MSI-X coalescing (R313) and the
links of the host ports (R292, R306). -/

namespace Sys2Proof.Machine

/-! ## Polling (R303, R304) -/

/-- The first instant at which the port's cap lets the next poll go (R304). -/
def HostPortSt.slot (p : HostPortSt) : Nat := p.nextPoll + (if p.pollRem = 0 then 0 else 1)

/-- The port after a poll at instant `t`: the next goes 1/CAP ms later, the fraction of a ns kept (R304). -/
def HostPortSt.spaced (p : HostPortSt) (t : Nat) : HostPortSt :=
  let (a, r) := if t = p.slot then (p.nextPoll, p.pollRem) else (t, 0)
  { p with nextPoll := a + (r + 1000000) / p.pollCap, pollRem := (r + 1000000) % p.pollCap }

/-- Another slice of the port is served before slice `i`, whose poll goes at `at_`: by due time, ties in
ascending slice number (R304). -/
def State.pollBehind (s : State) (i at_ : Nat) : Bool :=
  (List.range 64).any fun k =>
    k ≠ i && (s.slice k).port = (s.slice i).port && s.polls k && !(s.slice k).pollOut &&
      decide (s.pollDue k ≤ at_) &&
      (decide (s.pollDue k < s.pollDue i) || (decide (s.pollDue k = s.pollDue i) && decide (k < i)))

/-- DOORBELL_POLL (R303, R304): the poll that has fallen due goes out, under the port's cap. -/
def execDoorbellPoll (i : Fin 64) (s : State) : Res :=
  let h := (s.slice i).port
  let due := s.pollDue i
  let at_ := Nat.max (Nat.max due s.now) (s.hif.ports.get h).slot
  .next (if ¬ s.polls i ∨ (s.slice i).pollOut ∨ s.pollBehind i at_ then s
    else
      let s := s.upTo at_
      let s := s.updHostPort h fun p =>
        { p.spaced at_ with
          polls := sat32 p.polls 1, pollLate := sat32 p.pollLate (if due + 1000 < at_ then 1 else 0) }
      let s := s.updSlice i fun x =>
        { x with lastPoll := at_, pollOut := true, pollNow := none, took := false, counted := false }
      s.emit (.pollRead i))

/-- The poll under way counts as empty, once (R303). -/
def State.emptyPoll (s : State) (i : Nat) : State :=
  let x := s.slice i
  if x.took ∨ x.counted then s
  else
    let s := s.updSlice i fun x => { x with counted := true, empty := Nat.min (x.empty + 1) 100 }
    if 100 ≤ x.empty + 1 ∧ x.curUs < 1000 then s.setPoll i (Nat.min (2 * x.curUs) 1000) else s

/-- A descriptor of the ring can be read: it can take, and TAIL is ahead of HEAD (R298). -/
def State.readable (s : State) (i r : Nat) : Bool :=
  let q := s.sq i r
  q.tail ≠ q.head && (q.st = .running || (q.st = .seqWait && q.reread))

/-- A failed read of host memory is counted at its port (R315). -/
def State.hostErr (s : State) (i : Nat) : State :=
  s.updHostPort (s.slice i).port fun p => { p with hostErr := sat32 p.hostErr 1 }

/-- Descriptors of a ring that are taken and not yet accepted: their slots are not free (R297). -/
def State.heldSlots (s : State) (i r : Nat) : Nat := ((s.ringJ i r).filter fun e => !e.dup && !e.accepted).length

/-- TAIL as a poll found it (R306): one more than DEPTH beyond HEAD lets the module take up to DEPTH beyond the last
freed slot, and none is behind it. -/
def State.setTail (s : State) (i r tail : Nat) : State :=
  let q := s.sq i r
  let d := (tail + 2 ^ 32 - q.head) % 2 ^ 32
  if q.st = .off then s
  else if d ≤ q.depth then s.updSq i r fun q => { q with tail := tail % 2 ^ 32 }
  else
    let s := s.updSq i r fun q =>
      { q with tail := if 2 ^ 31 ≤ d then q.head else (q.head + (q.depth - s.heldSlots i r)) % 2 ^ 32 }
    (s.updHostPort (s.slice i).port fun p => { p with ringErr := sat32 p.ringErr 1 }).event .ringOverrun (8 * i + r)

/-- DOORBELL_READ_DONE (R298, R300, R303, R306): the record arrives, or the read has failed. -/
def execDoorbellReadDone (i : Fin 64) (rc : Option Doorbell) (s : State) : Res :=
  .next (if ¬ (s.slice i).pollOut then s
    else
      let s := s.updSlice i fun x => { x with pollOut := false }
      match rc with
      | none =>
        let s := (s.hostErr i).updSlice i fun x =>
          { x with dbFault := true, sqs := x.sqs.map fun q => { q with fault := true } }
        s.syncSlice i
      | some d =>
        let new : Bool := d.gen ≠ (s.slice i).lastGen
        let s := s.updSlice i fun x =>
          { x with dbFault := false, lastGen := d.gen
                   sqs := x.sqs.map fun q => { q with fault := false, reread := q.reread || (new && q.gapSeen) }
                   cqs := Vector.ofFn fun c => { x.cqs[c] with cqHead := (d.cqHead[c.val]?).getD 0 % 65536 } }
        let s := s.each (List.range 8) fun s r => s.setTail i r ((d.tail[r]?).getD 0)
        let s := s.syncSlice i
        let rs := (List.range 8).filter fun r => s.readable i r
        if rs = [] then s.emptyPoll i
        else s.emits (rs.map fun r => .descRead i r ((s.sq i r).head % (s.sq i r).depth)))

/-! ## Taking (R298, R305) -/

/-- Takes the descriptor at HEAD of a ring: journaled as a DUPLICATE record or as work (R298). -/
def State.take (s : State) (i r : Nat) (d : Desc) (dup : Bool) : State :=
  let j := s.hif.jseq + 1
  let e : JEntry := { jseq := j, slice := i, ring := r, dup := dup, ts := s.ts, desc := d, sealed := !s.paired
                      state := if dup then .completed else .accepted
                      status := if dup then cDuplicate else 0, endTs := s.ts }
  let was := s.jFree
  let s := s.updHif fun h => { h with jseq := j, journal := h.journal ++ [e], dup := sat32 h.dup (if dup then 1 else 0) }
  let s := (s.mirror (.journal e)).placeRing i r
  let s := s.updSq i r fun q =>
    { q with head := (q.head + 1) % 2 ^ 32, nextSeq := if dup then q.nextSeq else q.nextSeq + 1,
             gapSeen := false, reread := false }
  let s := (s.payDesc i).mirrorRing i
  let s := s.updSlice i fun x => { x with took := true, silent := false }
  let s := if (s.slice i).st = .resetDone then
      ((s.updSlice i fun x => { x with st := .active }).hostWrite i (.sliceState .active)).stateIrq i
    else s
  let s := (s.setPoll i (s.slice i).minUs).acceptSealed
  let s := s.syncFree was i
  if s.readable i r then s.emit (.descRead i r ((s.sq i r).head % (s.sq i r).depth)) else s

/-- DESCRIPTOR_READ_DONE (R298, R306): the descriptor at HEAD arrives, or its read has failed. -/
def execDescriptorReadDone (i : Fin 64) (r : Fin 8) (d : Option Desc) (s : State) : Res :=
  .next (if ¬ s.polls i ∨ ¬ s.readable i r then s
    else match d with
    | none =>
      let s := (s.hostErr i).updSq i r fun q => { q with fault := true }
      (s.syncSlice i).emptyPoll i
    | some d =>
      let n := (s.sq i r).nextSeq
      if d.seq = n then s.take i r d false
      else if d.seq < n then s.take i r d true
      else
        let s := if (s.sq i r).gapSeen then s else s.event .seqGap (8 * i.val + r.val)
        let s := s.updSq i r fun q => { q with gapSeen := true, reread := false }
        (s.syncSlice i).emptyPoll i)

/-! ## Completing (R299, R309, R313) -/

/-- MSIX_COAL_TIMEOUT (R313): COAL_T after the first entry since the ring's last message. -/
def execMsixCoalTimeout (i : Fin 64) (c : Fin 8) (s : State) : Res :=
  let q := s.cq i c
  .next (match q.firstAt with
    | some t =>
      if q.coalT = 0 then s
      else ((s.upTo (t + q.coalT * 1000)).updCq i c fun q => { q with sinceMsg := 0, firstAt := none }).msix i q.vector
    | none => s)

/-! ## Host port links (R292, R306, R315) -/

/-- HOST_LINK_DOWN (R292, R306): polling of the port's slices stops, and their writes are held; a reset under way ends
with RESET_NO_HOST (R333). -/
def execHostLinkDown (h : Fin 2) (s : State) : Res :=
  let s := s.updHostPort h fun p => { p with up := false, speed := 0, width := 0 }
  .next { s with hif.slices := s.hif.slices.mapRows fun _ x =>
            if x.port = h.val then
              { x with pollOut := false, work := x.work.map fun w => { w with noHost := true } }
            else x }

/-- A held write leaves, or is held again behind another link. -/
def State.releaseHeld (s : State) (e : Emission) : State :=
  match e with
  | .host k _ => s.hostEmit k e
  | .msix _ n _ _ => s.hostEmit (n / 8) e
  | _ => s.emit e

/-- HOST_LINK_UP (R306): held writes go out in order, and the port's slices are polled again. -/
def execHostLinkUp (h : Fin 2) (speed width : Nat) (s : State) : Res :=
  let p := s.hif.ports.get h
  let s := if p.up then s else
    { s with hif.slices := s.hif.slices.mapRows fun _ x => if x.port = h.val then { x with pollNow := some s.now } else x }
  let s := s.updHostPort h fun p => { p with up := true, speed := speed % 16, width := width % 64, held := [] }
  .next ((s.each p.held fun s e => s.releaseHeld e).flushHeld)

end Sys2Proof.Machine
end

