-- ==== Sys2Proof/Machine/RingDesc.lean ====
section
/-! DEFINITION. The descriptors NOP, RING_CREATE and RING_DESTROY (R309, R310), and the check of a ring's
parameters that SLICE_CREATE shares (R297, R300, R319). -/

namespace Sys2Proof.Machine

/-- NOP (R309). -/
def execNopDesc (i : Fin 64) (r : Fin 8) (s : State) : Res :=
  .next (s.runDesc i r { opcode := 0 } fun s j _ => s.complete j cOk 0)

/-! ## Parameters (R297, R300, R310) -/

def powerOfTwo (lo hi n : Nat) : Bool := decide (lo ≤ n ∧ n ≤ hi) && n = 2 ^ n.log2

/-- A submission ring's parameters lie in their ranges; `cqOk` tells whether a completion ring is ON and of
kind COMPLETION. -/
def sqInRange (slice : Nat) (p : SqParams) (cqOk : Nat → Bool) : Bool :=
  decide (p.ring < 8 ∧ p.cq < 8 ∧ 1 ≤ p.firstSeq ∧ p.firstSeq < 2 ^ 64) && cqOk p.cq &&
    (if p.service then slice = 0 && p.ring = 7 && p.depth = 1 && p.base % 64 = 0
     else powerOfTwo 16 65536 p.depth && p.base % 4096 = 0)

/-- A completion or receive ring's parameters lie in their ranges. -/
def cqInRange (p : CqParams) : Bool :=
  decide (p.ring < 8 ∧ p.vector < 8 ∧ 1 ≤ p.coalN ∧ p.coalN ≤ 255 ∧ p.coalT ≤ 1000) &&
    powerOfTwo 16 32768 p.depth && p.base % 4096 = 0 &&
    (!p.receive || (powerOfTwo 256 4096 p.es && decide (p.sources < 4)))

/-- Bytes 32 to 63 of a RING_CREATE of a submission ring. -/
def sqParams (d : Desc) : SqParams :=
  { ring := d.num 33 1, service := d.num 34 1 = 1, cq := d.num 35 1, depth := d.num 36 4, base := d.num 40 8,
    firstSeq := d.num 48 8 }

/-- Bytes 32 to 63 of a RING_CREATE of a completion or receive ring. -/
def cqParams (d : Desc) : CqParams :=
  { ring := d.num 33 1, receive := d.num 34 1 = 1, vector := d.num 35 1, depth := d.num 36 4, base := d.num 40 8,
    es := 256 * 2 ^ d.num 48 1, coalN := d.num 49 1, coalT := d.num 50 2, sources := d.num 52 4 }

/-! ## Creating and destroying rings (R310) -/

/-- A new submission ring. -/
def sqOf (p : SqParams) : SqSt :=
  { st := .running, service := p.service, cq := p.cq, depth := p.depth, base := p.base, nextSeq := p.firstSeq,
    acceptedSeq := p.firstSeq - 1 }

/-- A new completion or receive ring. -/
def cqOf (p : CqParams) : CqSt :=
  { on := true, receive := p.receive, vector := p.vector, depth := p.depth, base := p.base,
    es := if p.receive then p.es else 32, coalN := p.coalN, coalT := p.coalT,
    sources := if p.receive then p.sources else 0 }

/-- A submission ring comes into being: ACCEPTED_SEQ, HEAD and RING_STATE are written. -/
def State.makeSq (s : State) (i : Nat) (p : SqParams) : State :=
  let s := s.updSq i p.ring fun _ => sqOf p
  let s := (s.hostWrite i (.acceptedSeq p.ring (p.firstSeq - 1))).hostWrite i (.head p.ring 0)
  (s.hostWrite i (.ringState p.ring .running)).stateIrq i

/-- A completion or receive ring comes into being. -/
def State.makeCq (s : State) (i : Nat) (p : CqParams) : State :=
  let s := s.updCq i p.ring fun _ => cqOf p
  (s.hostWrite i (.cqState p.ring true false)).stateIrq i

/-- RING_CREATE (R310). -/
def execRingCreate (i : Fin 64) (r : Fin 8) (s : State) : Res :=
  .next (s.runDesc i r { opcode := 1, used := [(32, 24)] } fun s j d =>
    match d.num 32 1 with
    | 0 =>
      let p := sqParams d
      if 1 < d.num 34 1 ∨ ¬ sqInRange i p fun c => (s.cq i c).on && !(s.cq i c).receive then s.complete j cInvalid 0
      else if (s.sq i p.ring).st ≠ .off then s.complete j 0x0201 0
      else ((s.makeSq i p).mirror (.effect 1 i d.spec.toNat)).complete j cOk 0
    | 1 =>
      let p := cqParams d
      if 1 < d.num 34 1 ∨ (p.receive ∧ 4 < d.num 48 1) ∨ ¬ cqInRange p then s.complete j cInvalid 0
      else if (s.cq i p.ring).on then s.complete j 0x0201 0
      else ((s.makeCq i p).mirror (.effect 1 i d.spec.toNat)).complete j cOk 0
    | _ => s.complete j cInvalid 0)

/-- A completion or receive ring that a submission ring or a Glint sampler names (R310). -/
def State.cqNamed (s : State) (i c : Nat) : Bool :=
  ((List.range 8).any fun r => (s.sq i r).st ≠ .off && (s.sq i r).cq = c) ||
    s.swc.glint.rows.any fun g => g.2.dir ≠ 0 && !g.2.toMM && g.2.slice = i && g.2.ring = c

/-- RING_DESTROY (R310): a submission ring becomes DESTROYING; a completion or receive ring goes OFF, unless it
is still named. A ring that is OFF stays so. -/
def execRingDestroy (i : Fin 64) (r : Fin 8) (s : State) : Res :=
  .next (s.runDesc i r { opcode := 2, used := [(32, 2)] } fun s j d =>
    let k := d.num 33 1
    if 1 < d.num 32 1 ∨ 7 < k then s.complete j cInvalid 0
    else if d.num 32 1 = 0 then
      if (s.sq i k).st = .off then s.complete j cOk 0
      else
        let s := s.updSq i k fun q => { q with st := .destroying, destroyBy := q.destroyBy ++ [j] }
        (s.hostWrite i (.ringState k .destroying)).stateIrq i
    else if s.cqNamed i k then s.complete j 0x0201 0
    else if (s.cq i k).on then
      let s := ((s.updCq i k fun _ => {}).hostWrite i (.cqState k false false)).stateIrq i
      (s.mirror (.effect 2 i (1 + 256 * k))).complete j cOk 0
    else s.complete j cOk 0)

/-- RING_DESTROY_DONE (R310): every accepted descriptor of the ring has been executed and completed, and the
ring goes OFF. -/
def execRingDestroyDone (i : Fin 64) (r : Fin 8) (s : State) : Res :=
  let q := s.sq i r
  .next (if q.st ≠ .destroying ∨ (s.ringJ i r).any fun e => !q.destroyBy.contains e.jseq then s
    else
      let s := s.updSq i r fun q => { q with st := .off, destroyBy := [] }
      let s := ((s.hostWrite i (.ringState r .off)).stateIrq i).mirror (.effect 2 i (256 * r.val))
      (s.forgetRing i r).each q.destroyBy fun s j => s.complete j cOk 0)

end Sys2Proof.Machine
end

