-- ==== Sys2Proof/Machine/UnitOps.lean ====
section
/-! DEFINITION. The unit state machine of R76, the part every kind of unit shares. -/

namespace Sys2Proof.Machine

/-- STARTING limit of a unit in ns (01 to 12, each unit's chapter). -/
def startLimit : UnitId → Nat
  | .port _ => 10000000
  | .lens _ => 50000000
  | .beam _ => 100000000
  | _ => 1000000

/-- STOPPING limit of a unit in ns. -/
def stopLimit : UnitId → Nat
  | .port _ => 100000
  | .lens _ => 1000000
  | .arm _ => 100000
  | .pwm _ => 100000
  | .fbc _ => 2000000
  | .chain _ _ => 100000
  | .beam _ => 10000
  | .slice _ => 10000000

/-- What a start sets back: the filters of a chain (R146), the calibration of a lane, the cut count of a
channel (R202). -/
def State.startFresh (s : State) : UnitId → State
  | .chain l c => { s with chSlots := s.chSlots.mapRows fun k y =>
      if k / 256 = l ∧ (s.pkg.slots.get k).chain = c then { y with hist := [], valid := 0, ready := none } else y }
  | .beam l => s.updBeam l fun b => { b with calValid := false, out := [] }
  | .pwm n => s.updPwm n fun p => { p with startReady := false, cutRun := 0 }
  | _ => s

/-- A start begins. -/
def State.unitBegin (s : State) (u : UnitId) : State :=
  (s.startFresh u).updUnit u fun x => { x with st := .starting, since := s.now }

/-- A stop begins. -/
def State.unitHalt (s : State) (u : UnitId) : State :=
  s.updUnit u fun x => { x with st := .stopping, since := s.now }

/-- Start complete: ON, or STOPPING at once if EN has fallen. -/
def State.unitStarted (s : State) (u : UnitId) : State :=
  if (s.unit u).st = .starting then
    if (s.unit u).en then s.updUnit u fun x => { x with st := .on, since := s.now } else s.unitHalt u
  else s

/-- Stop complete: OFF, or STARTING at once if EN has risen. -/
def State.unitStopped (s : State) (u : UnitId) : State :=
  if (s.unit u).st = .stopping then
    if (s.unit u).en then s.unitBegin u else s.updUnit u fun x => { x with st := .off, since := s.now }
  else s

end Sys2Proof.Machine
end

