-- ==== Sys2Proof/Machine/Slices.lean ====
section
/-! DEFINITION. Slices: Aperture (R322 to R326), reset, removal, pause and resume (R327 to R333), and dirty-page
logging (R334 to R337). -/

namespace Sys2Proof.Machine

/-- A descriptor of slice 0 about slices. -/
def sliceForm (i op : Nat) (sub : Option (Nat × Nat)) (used : List (Nat × Nat)) : DescForm :=
  { opcode := op, sub := sub, used := used, may := fun _ => i = 0 }

/-! ## Aperture (R322 to R326) -/

/-- Bytes of an APERTURE_SET name a change whose every field lies in its range (R319, R325). -/
def apertureFits (d : Desc) : Bool :=
  let m := d.num 33 1
  let has (b : Nat) : Bool := m.testBit b
  decide (d.num 32 1 < 64 ∧ 0 < m ∧ m < 16) &&
    (!has 0 || decide (1 ≤ d.num 34 1)) &&
    (!has 1 || decide (d.num 36 4 ≤ 10000000 ∧ 1 ≤ d.num 40 2)) &&
    (!has 2 || decide (d.num 44 4 ≤ 32000 ∧ 4096 ≤ d.num 48 4 ∧ d.num 48 4 ≤ 16777216)) &&
    (!has 3 || decide (16 ≤ d.num 42 2 ∧ d.num 42 2 ≤ 8192))

/-- Sum of the UNEXEC_LIMIT values of the slices that are not OFF, but for slice `k` (R320). -/
def State.limitSum (s : State) (k : Nat) : Nat :=
  ((List.range 64).filter fun i => i ≠ k && (s.unit (.slice i)).st ≠ .off).foldl (fun n i => n + (s.slice i).unexecLimit) 0

/-- A bucket after a change of its burst and rate (R326): `lvl` is its level now, rescaled in whole tokens, rounded toward
zero. -/
def rebucket (lvl : Int) (oldRate oldBurst rate burst now : Nat) : Bucket :=
  if rate = 0 ∨ oldRate = 0 then {}
  else if burst = oldBurst then { tokens := some lvl, at_ := now }
  else { tokens := some ((lvl * burst).tdiv (Nat.max oldBurst 1 * 1000000000 : Nat) * 1000000000), at_ := now }

/-- The change an APERTURE_SET makes. -/
def State.setShare (s : State) (k : Nat) (d : Desc) : State :=
  let m := d.num 33 1
  let dl := s.descLevel k
  let bl := s.byteLevel k
  s.updSlice k fun x =>
    let x := if m.testBit 0 then { x with weight := d.num 34 1 } else x
    let x := if m.testBit 1 then
        { x with descBkt := rebucket dl x.descRate x.descBurst (d.num 36 4) (d.num 40 2) s.now,
                 descRate := d.num 36 4, descBurst := d.num 40 2 }
      else x
    let x := if m.testBit 2 then
        { x with byteBkt := rebucket bl x.byteRate x.byteBurst (d.num 44 4) (d.num 48 4) s.now,
                 byteRate := d.num 44 4, byteBurst := d.num 48 4 }
      else x
    if m.testBit 3 then { x with unexecLimit := d.num 42 2 } else x

/-- Tokens of a bucket in whole tokens; what a removed bucket shows is not stated, so a free value. -/
def State.tokens (s : State) (rate : Nat) (lvl : Int) (w : Nat) : Nat × State :=
  if rate = 0 then
    let (v, s) := s.free
    (v.toNat % 2 ^ w, s)
  else (unsigned w (lvl / 1000000000), s)

/-- APERTURE_SET (R325, R326). -/
def execApertureSet (i : Fin 64) (r : Fin 8) (s : State) : Res :=
  .next (s.runDesc i r (sliceForm i 0x83 none [(32, 3), (36, 16)]) fun s j d =>
    let k := d.num 32 1
    if ¬ apertureFits d then s.complete j cInvalid 0
    else if ¬ s.unitOn (.slice k) ∨ (s.slice k).st = .resetting then s.complete j 0x0303 0
    else if (d.num 33 1).testBit 3 ∧ 64512 < s.limitSum k + d.num 42 2 then s.complete j 0x0302 0
    else
      let s := (s.setShare k d).mirror (.share k (d.spec.toNat % 2 ^ 160))
      let (a, s) := s.tokens (s.slice k).descRate (s.descLevel k) 32
      let (b, s) := s.tokens (s.slice k).byteRate (s.byteLevel k) 32
      ((s.complete j cOk (a + b * 2 ^ 32)).lateRecords k).syncSlice k)

/-- DESC_BUCKET_REFILL (R322): the instant at which an empty descriptor bucket holds a token again, or has done; the
slice's rings take again. -/
def execDescBucketRefill (i : Fin 64) (s : State) : Res :=
  let s := if s.descOpen i then s
    else s.upTo (s.now + ceilDiv (1000000000 - s.descLevel i).toNat (s.slice i).descRate)
  .next (s.syncSlice i)

/-- BYTE_BUCKET_REFILL (R322): the instant at which a negative byte bucket reaches 0, or has done; records that wait are
written. -/
def execByteBucketRefill (i : Fin 64) (s : State) : Res :=
  let s := if s.byteOpen i then s
    else s.upTo (s.now + ceilDiv (-(s.byteLevel i)).toNat ((s.slice i).byteRate * 1000000))
  .next ((s.lateRecords i).syncSlice i)

/-! ## Reset and removal (R327 to R330) -/

/-- Journal entries of a slice whose completion is not written, oldest first. -/
def State.sliceJ (s : State) (i : Nat) : List JEntry := s.hif.journal.filter fun e => e.slice = i

/-- Result of SLICE_RESET (R327). -/
def resetResult (w : ResetWork) (ts : Nat) : Nat :=
  w.aborted + w.partial_ * 2 ^ 16 + w.notIn * 2 ^ 32 + ts * 2 ^ 64

/-- Changes the SLICE_RESET that works on a slice. -/
def State.updWork (s : State) (i : Nat) (f : ResetWork → ResetWork) : State :=
  s.updSlice i fun x => { x with work := x.work.map f }

/-- SLICE_STATE changes, in the register and in the status block. -/
def State.setSliceState (s : State) (i : Nat) (st : SliceState) : State :=
  ((s.updSlice i fun x => { x with st := st }).hostWrite i (.sliceState st)).stateIrq i

/-- Polling of a slice goes on at MIN_US. -/
def State.resumePolls (s : State) (i : Nat) : State :=
  let s := s.updSlice i fun x => { x with stopped := false, pollOut := false, pollNow := some s.now }
  s.setPoll i (s.slice i).minUs

/-- Step 2 of R328: every accepted descriptor that has not started is cancelled. -/
def State.cancelAccepted (s : State) (i : Nat) : State :=
  let es := (s.sliceJ i).filter fun e => e.state = .accepted
  let s := s.each es fun s e => s.complete e.jseq cAbortedReset 0
  s.updWork i fun w => { w with step := 2, aborted := w.aborted + es.length }

/-- Step 1 ends once every taken descriptor is accepted; LENGTH is checked then, and a report buffer that is too
short ends the operation (R327). -/
def State.resetCheck (s : State) (i : Nat) : State :=
  match (s.slice i).work with
  | some w =>
    if w.mode = .pause ∨ w.step ≠ 1 ∨ (s.sliceJ i).any fun e => !e.accepted then s
    else
      let len := match s.jEntry w.jseq with | some e => e.desc.length | none => 0
      if len < 32 * Nat.max (s.slice i).unexecLimit (s.unexec i) then
        let s := (s.updSlice i fun x => { x with work := none }).setSliceState i .active
        ((s.resumePolls i).complete w.jseq cInvalid 0)
      else (s.cancelAccepted i).mirror (.slice i 2)
  | none => s

/-- An operation that has started and not begun its change of state is taken back. -/
def State.unstart (s : State) (j : Nat) : State :=
  { s with
    swc.unsealed := s.swc.unsealed.filter fun x => x.1 ≠ j
    fns := s.fns.mapRows fun _ f =>
      { f with pending := f.pending.filter fun p => p.2 ≠ j, refused := f.refused.filter (· ≠ j) }
    prots := s.prots.mapRows fun _ p => { p with switch := p.switch.filter fun w => w.2.2 ≠ j } }

/-- Steps 3 and 4 of R328: a started operation that waits for its tick, or a frame that waits for its seal, is treated as
not started; any other runs to its end and carries RESET_PARTIAL. -/
def State.endStarted (s : State) (i : Nat) : State :=
  let es := (s.sliceJ i).filter fun e => e.state = .started
  let waits (e : JEntry) : Bool := decide (0x20 ≤ e.desc.opcode ∧ e.desc.opcode ≤ 0x22)
    || s.swc.unsealed.any fun x => x.1 = e.jseq
  let s := s.each es fun s e =>
    if waits e then (s.unstart e.jseq).complete e.jseq cAbortedReset 0 else s.complete e.jseq 0x0304 0
  s.updWork i fun w =>
    { w with step := 3, aborted := w.aborted + (es.filter waits).length,
             partial_ := w.partial_ + (es.filter fun e => !waits e).length }

/-- The reset itself has ended the descriptor, in step 2 or 3 of R328. -/
def reported (e : JEntry) : Bool := e.status = cAbortedReset || e.status = 0x0304

/-- Writes one completion of a reset: to its ring, where it has room and the port is up, and as number `n` to the report
buffer in slice 0's memory, whose bytes are charged to slice 0 (R322), where the reset ended it. -/
def State.resetCompletion (s : State) (i n : Nat) (buf : Nat) (e : JEntry) : State :=
  let s := if reported e then
      (s.payBytes 0 32).hostWrite 0 (.report (buf + 32 * n) e.desc.seq e.status e.resumed e.ring e.endTs e.result)
    else s
  if ¬ (s.hif.ports.get (s.slice i).port).up then s.freeEntry e.jseq
  else if cqFree (s.cq i (s.sq i e.ring).cq) = 0 then
    (s.freeEntry e.jseq).updWork i fun w => { w with notIn := w.notIn + 1 }
  else s.writeCompletion { e with place := none }

/-- Every completion of the slice, in SEQ order per ring. -/
def State.resetWrite (s : State) (i buf : Nat) : State :=
  let es := (List.range 8).flatMap fun r => s.ringJ i r
  s.each es.zipIdx fun s p => s.resetCompletion i ((es.take p.2).filter reported).length buf p.1

/-- A submission or completion ring goes OFF. -/
def State.ringsOff (s : State) (i lo : Nat) : State :=
  s.each (List.range 8) fun s r =>
    if r < lo then s
    else
      let s := if (s.sq i r).st = .off then s
        else ((s.forgetRing i r).updSq i r fun _ => {}).hostWrite i (.ringState r .off)
      if (s.cq i r).on then (s.updCq i r fun _ => {}).hostWrite i (.cqState r false false) else s

/-- Writes a slice's ACCEPTED_SEQ and HEAD values (step 5). -/
def State.writeHeads (s : State) (i : Nat) : State :=
  s.each (List.range 8) fun s r =>
    if (s.sq i r).st = .off then s
    else (s.hostWrite i (.acceptedSeq r (s.sq i r).acceptedSeq)).hostWrite i (.head r (s.sq i r).head)

/-- What is written to a slice during a reset is discarded while its port is down, with what was held (R333). -/
def State.dropHeld (s : State) (i : Nat) (f : State → State) : State :=
  if (s.hif.ports.get (s.slice i).port).up then f s else (f s).dropHost i

/-- The slice's port is down, or has been during the reset. -/
def State.hostLost (s : State) (i : Nat) (w : ResetWork) : Bool := w.noHost || !(s.hif.ports.get (s.slice i).port).up

/-- Steps 5 and 6 of R328: the completions, then RESET_DONE, the last write to the slice's memory. -/
def State.resetLast (s : State) (i : Nat) (w : ResetWork) (buf : Nat) : State :=
  let lost := s.hostLost i w
  let s := s.dropHeld i fun s =>
    let s := ((s.resetWrite i buf).writeHeads i).ringsOff i 1
    s.setSliceState i .resetDone
  let n := (s.slice i).work.getD w
  let s := (s.updSq i 0 fun q => { q with gapSeen := false, reread := false }).updCq i 0 fun q =>
    { q with placed := q.written }
  let s := (s.updSlice i fun x => { x with work := none, silent := true }).resumePolls i
  (s.mirror (.slice i 6)).complete w.jseq (if lost then 0x0308 else cOk) (resetResult n s.ts)

/-- The end of a REMOVE (R330): SLICE_STATE OFF, rings OFF, vectors masked, the dirty log stopped, and the unit
goes through STOPPING. -/
def State.removeLast (s : State) (i : Nat) (buf : Nat) : State :=
  let s := s.dropHeld i fun s =>
    let s := (s.resetWrite i buf).writeHeads i
    (s.setSliceState i .off).ringsOff i 0
  let h := (s.slice i).port
  let masked := (List.range 8).foldl (fun t v => t.set (512 * h + 8 * i + v) true) s.hif.maskedVec
  let s := s.updHif fun x => { x with maskedVec := masked }
  let s := s.updSlice i fun x => { x with dirty.on := false, silent := true }
  let s := (s.updUnit (.slice i) fun u => { u with en := false }).unitHalt (.slice i)
  (s.updWork i fun w => { w with step := 7 }).mirror (.slice i 7)

/-- Goes on with a reset or removal: once the completions of its slice are sealed, its last steps follow. -/
def State.resetGo (s : State) (i : Nat) : State :=
  let s := s.resetCheck i
  let s : State := match (s.slice i).work with
    | some w => if w.mode ≠ .pause ∧ w.step = 2 then s.endStarted i else s
    | none => s
  match (s.slice i).work with
  | some w =>
    if w.mode = .pause ∨ w.step ≠ 3 ∨ (s.sliceJ i).any fun e => !(e.sealed && e.accepted) then s
    else
      let buf := match s.jEntry w.jseq with | some e => e.desc.bufAddr | none => 0
      if w.mode = .reset then s.resetLast i w buf else s.removeLast i buf
  | none => s

/-- A reset or removal begins: SLICE_STATE RESETTING, fetching stopped (step 1). -/
def State.beginReset (s : State) (i j : Nat) (m : ResetMode) : State :=
  let down := !(s.hif.ports.get (s.slice i).port).up
  let s := s.updSlice i fun x =>
    { x with stopped := true, paused := false, pollOut := false,
             work := some { jseq := j, mode := m, since := s.now, noHost := down } }
  let s := (s.lateRecords i).dropHeld i fun s => s.setSliceState i .resetting
  (s.mirror (.slice i 1)).resetCheck i

/-! ## One SLICE_RESET (R327, R331 to R333) -/

/-- Another slice that is not OFF holds the PASID on the port (R320). -/
def State.pasidHeld (s : State) (k pasid port : Nat) : Bool :=
  (List.range 64).any fun i =>
    i ≠ k && (s.unit (.slice i)).st ≠ .off && (s.slice i).pasid = pasid && (s.slice i).port = port

/-- RESUME of a paused slice (R332). -/
def State.resumeSlice (s : State) (i j : Nat) (d : Desc) : State :=
  let p := d.num 36 4 % 2 ^ 20
  let h := d.num 40 1
  let chg := (d.num 36 4).testBit 31
  if ¬ (s.slice i).paused then s.complete j 0x030A 0
  else if chg ∧ s.pasidHeld i p h then s.complete j 0x0301 0
  else
    let s := if chg then s.updSlice i fun x => { x with pasid := p, port := h } else s
    let s := s.mirror (.effect 0x8204 i ((s.slice i).pasid + 2 ^ 20 * (s.slice i).port))
    (((s.updSlice i fun x => { x with paused := false }).resumePolls i).syncSlice i).complete j cOk 0

/-- Acts on a slice that no SLICE_RESET is handling. -/
def State.sliceAct (s : State) (i j : Nat) (d : Desc) : State :=
  if ¬ s.unitOn (.slice i) then s.complete j 0x0303 0
  else match d.num 33 1 with
  | 1 => s.beginReset i j .reset
  | 2 => s.beginReset i j .remove
  | 3 => (s.updSlice i fun x =>
    { x with stopped := true, pollOut := false,
             work := some { jseq := j, mode := .pause, since := s.now, limitMs := d.num 34 2 } }).lateRecords i
  | _ => s.resumeSlice i j d

/-- Operations that waited for the slice act in turn, while none is handling it (R333). -/
def State.nextResets (s : State) (i : Nat) : Nat → State
  | 0 => s
  | n + 1 => match (s.slice i).work, (s.slice i).workQueue with
    | none, j :: js =>
      let s := s.updSlice i fun x => { x with workQueue := js }
      match s.jEntry j with
      | some e => (s.sliceAct i j e.desc).nextResets i n
      | none => s.nextResets i n
    | _, _ => s

/-- Fields of a SLICE_RESET lie in their ranges. -/
def resetFits (d : Desc) : Bool :=
  decide (1 ≤ d.num 32 1 ∧ d.num 32 1 < 64) &&
    (match d.num 33 1 with
     | 3 => decide (1 ≤ d.num 34 2 ∧ d.num 34 2 ≤ 10000)
     | 4 => decide (d.num 36 4 / 2 ^ 20 % 2 ^ 11 = 0) && (!(d.num 36 4).testBit 31 || decide (d.num 40 1 < 2))
     | _ => true)

/-- SLICE_RESET of one mode: at once, after the one in progress, or in place of a PAUSE that waits. -/
def State.sliceReset (s : State) (i r mode : Nat) : State :=
  s.runDesc i r { sliceForm i 0x82 (some (33, mode)) [(32, 9)] with buf := true } fun s j d =>
    let k := d.num 32 1
    let run (s : State) : State := (s.sliceAct k j d).nextResets k (s.slice k).workQueue.length
    if ¬ resetFits d then s.complete j cInvalid 0
    else match (s.slice k).work with
    | none => run s
    | some w =>
      if w.mode = .pause ∧ mode < 3 then
        run ((s.complete w.jseq 0x0309 0).updSlice k fun x => { x with work := none })
      else s.updSlice k fun x => { x with workQueue := x.workQueue ++ [j] }

/-- SLICE_RESET_RESET (R327, R328). -/
def execSliceResetReset (i : Fin 64) (r : Fin 8) (s : State) : Res := .next (s.sliceReset i r 1)

/-- SLICE_REMOVE (R330). -/
def execSliceRemove (i : Fin 64) (r : Fin 8) (s : State) : Res := .next (s.sliceReset i r 2)

/-- SLICE_PAUSE (R331). -/
def execSlicePause (i : Fin 64) (r : Fin 8) (s : State) : Res := .next (s.sliceReset i r 3)

/-- SLICE_RESUME (R332). -/
def execSliceResume (i : Fin 64) (r : Fin 8) (s : State) : Res := .next (s.sliceReset i r 4)

/-- RESET_DONE (R328, R330): the steps of a reset or removal after the first run to their end. -/
def execResetDone (i : Fin 64) (s : State) : Res :=
  .next (((s.resetGo i).nextResets i (s.slice i).workQueue.length).syncFree s.jFree 0)

/-- A write of slice `i` is held for a link. -/
def State.writeHeld (s : State) (i : Nat) : Bool :=
  [0, 1].any fun h => (s.hif.ports.get h).held.any fun e => match e with | .host k _ => k = i | _ => false

/-- PAUSE_EFFECT (R331): the last completion has been written, none is held, and the pause takes effect. -/
def execPauseEffect (i : Fin 64) (s : State) : Res :=
  .next (match (s.slice i).work with
  | some w =>
    if w.mode ≠ .pause ∨ s.sliceJ i ≠ [] ∨ s.writeHeld i then s
    else
      let s := (s.updSlice i fun x => { x with work := none, paused := true }).mirror (.effect 0x8203 i 0)
      let s := s.complete w.jseq cOk (resetResult {} s.ts)
      (s.nextResets i (s.slice i).workQueue.length).syncSlice 0
  | none => s)

/-- PAUSE_TIMEOUT (R331): PAUSE_MS have passed; fetching stays stopped. -/
def execPauseTimeout (i : Fin 64) (s : State) : Res :=
  .next (match (s.slice i).work with
  | some w =>
    if w.mode ≠ .pause then s
    else
      let s := (s.upTo (w.since + w.limitMs * 1000000)).updSlice i fun x => { x with work := none }
      let s := s.complete w.jseq 0x0305 0
      (s.nextResets i (s.slice i).workQueue.length).syncSlice 0
  | none => s)

/-! ## Dirty log (R334 to R337) -/

/-- LOG_FLUSH (R337): it ends once every record is visible. -/
def execLogFlush (i : Fin 64) (r : Fin 8) (s : State) : Res :=
  .next (s.runDesc i r { opcode := 0x80, used := [(32, 1)], may := fun d => i.val = 0 || d.num 32 1 = i.val } fun s j d =>
    let k := d.num 32 1
    if 63 < k then s.complete j cInvalid 0
    else if (s.slice k).dirty.on then s.flushLog j k false
    else s.complete j 0x0306 0)

/-- DIRTY_LOG_CTRL of one sub-command. -/
def dirtyForm (i sub : Nat) : DescForm := sliceForm i 0x81 (some (33, sub)) [(32, 2), (36, 20)]

/-- DIRTY_LOG_START (R334, R337). -/
def execDirtyLogStart (i : Fin 64) (r : Fin 8) (s : State) : Res :=
  .next (s.runDesc i r (dirtyForm i 1) fun s j d =>
    let k := d.num 32 1
    if 63 < k ∨ ¬ powerOfTwo 1024 1048576 (d.num 36 4) ∨ d.num 40 8 % 4096 ≠ 0 ∨ d.num 48 8 % 8 ≠ 0 then
      s.complete j cInvalid 0
    else if (s.slice k).dirty.on then s.complete j 0x0306 0
    else if ¬ s.unitOn (.slice k) then s.complete j 0x0303 0
    else
      let s := s.updSlice k fun x =>
        { x with dirty := { on := true, depth := d.num 36 4, base := d.num 40 8, consumedAddr := d.num 48 8,
                            filtered := x.dirty.filtered } }
      (s.mirror (.effect 0x8101 k (d.spec.toNat % 2 ^ 192))).complete j cOk 0)

/-- DIRTY_LOG_STOP (R337). -/
def execDirtyLogStop (i : Fin 64) (r : Fin 8) (s : State) : Res :=
  .next (s.runDesc i r (dirtyForm i 2) fun s j d =>
    let k := d.num 32 1
    if 63 < k then s.complete j cInvalid 0
    else if ¬ (s.slice k).dirty.on then s.complete j 0x0306 0
    else
      let res := dirtyResult (s.slice k).dirty
      let s := s.updSlice k fun x => { x with dirty.on := false }
      (s.mirror (.effect 0x8102 k 0)).complete j cOk res)

/-- CLEAR_FILTER (R335 to R337): it ends once every record is visible; the filter is emptied then, and an overflow is
reported and cleared. -/
def execClearFilter (i : Fin 64) (r : Fin 8) (s : State) : Res :=
  .next (s.runDesc i r (dirtyForm i 3) fun s j d =>
    let k := d.num 32 1
    if 63 < k then s.complete j cInvalid 0
    else if ¬ (s.slice k).dirty.on then s.complete j 0x0306 0
    else s.flushLog j k true)

end Sys2Proof.Machine
end

