-- ==== Sys2Proof/Machine/Completing.lean ====
section
/-! DEFINITION. The writing of completions (R299, R301), and descriptors whose opcode or sub-command no table gives
(R308, R309). -/

namespace Sys2Proof.Machine

/-- What R308 checks of a descriptor whose opcode is assigned and whose sub-command is not, before it ends with INVALID: the
checks of its opcode. A slice other than 0 may send none to the recording units (R396). -/
def State.badSub (s : State) (i : Nat) (d : Desc) : Option DescForm :=
  let bad (off lo hi : Nat) (f : DescForm) : Option DescForm :=
    if lo ≤ d.num off 1 ∧ d.num off 1 ≤ hi then none else some { f with sub := none }
  match d.opcode with
  | 0x20 => bad 32 1 3 (focusForm i 0 s)
  | 0x30 => bad 32 1 2 (s0Form i 0x30 none [(32, 2)])
  | 0x40 => bad 32 1 2 (cnvForm i 0)
  | 0x50 => bad 32 1 4 (s0Form i 0x50 none [(32, 2)])
  | 0x70 => bad 32 0 4 (snapForm 0 fun _ => i = 0)
  | 0x71 => bad 32 1 4 (perForm 0 fun _ => i = 0)
  | 0x81 => bad 33 1 3 (dirtyForm i 0)
  | 0x82 => bad 33 1 4 { sliceForm i 0x82 none [(32, 9)] with buf := true }
  | _ => none

/-- The descriptor at the front of a ring, where no row means it: an unassigned opcode ends at check 1 of R308, and an
unassigned sub-command at its opcode's own checks. -/
def State.failMeaningless (s : State) (i r : Nat) : State :=
  match s.nextStart i r with
  | some e =>
    if unassigned e.desc then (s.complete e.jseq cInvalid 0).syncSlice i
    else match s.badSub i e.desc with
    | some f => s.runDesc i r f fun s j _ => s.complete j cInvalid 0
    | none => s
  | none => s

/-- COMPLETION_WRITE (R299, R301): the ring's next completion entry is written. -/
def execCompletionWrite (i : Fin 64) (r : Fin 8) (s : State) : Res :=
  let s := s.failMeaningless i r
  .next (if s.resetting i then s
    else match s.nextCompletion i r with
    | some e => s.writeCompletion e
    | none => s)

end Sys2Proof.Machine
end

