-- ==== Sys2Proof/Machine/Facet.lean ====
section
/-! DEFINITION. The facet instructions (03, R82 to R95), FACET_WAKE and the meanings they share. `w` holds
bits [25:0] of the instruction word. -/

namespace Sys2Proof.Machine

/-! ## Shared forms -/

/-- Reserved bits of format S with no operand (R86). -/
def sNone (w : BitVec 26) : Option FFault := if w = 0 then none else some .illegalOp

/-- An instruction of format L that combines LA with its operand (R86). -/
def bitRead (w : BitVec 26) (g : Bool → Bool → Bool) (x : FacetSt) : FRes :=
  match bitCheck w with
  | some e => .error e
  | none => .ok { x with la := g x.la (bitOperand x w) }

/-- ST, SET and RST (R84, R86): the checks are made on the encoded instruction, whatever LA is. Of two faults of one
instruction the one of BIT out of range is raised, then ILLEGAL_OP, then the ADDR_RANGE of an area that may not be written
(DESIGN CHOICE, log 96). -/
def bitWrite (w : BitVec 26) (isRst negOk : Bool) (g : FacetSt → Option Bool) (x : FacetSt) : FRes :=
  match bitCheck w with
  | some e => .error e
  | none =>
    if fNeg w && !negOk then .error .illegalOp
    else if !writableBit w isRst then .error .addrRange
    else match g x with
    | some v => .ok (writeBit x (fArea w) (fIndex w) v)
    | none => .ok x

/-- An instruction of format S without operands on LA and the stack. -/
def sPlain (w : BitVec 26) (g : FacetSt → FRes) (x : FacetSt) : FRes :=
  match sNone w with
  | some e => .error e
  | none => g x

/-- A push: NEST_FAULT on a full stack of 16 entries (R87). -/
def push (c : Comb) (neutral : Bool) (x : FacetSt) : FRes :=
  if 16 ≤ x.stack.length then .error .nestFault
  else .ok { x with stack := (x.la, c) :: x.stack, la := neutral }

/-- A pop: the saved LA combined with LA; NEST_FAULT on an empty stack (R86, R87). -/
def pop (x : FacetSt) : FRes :=
  match x.stack with
  | [] => .error .nestFault
  | (v, c) :: r =>
    .ok { x with stack := r, la := match c with | .and => v && x.la | .or => v || x.la | .xor => v != x.la }

/-- FP and FN: the edge detector keeps the old LA (R86). -/
def edge (w : BitVec 26) (g : Bool → Bool → Bool) (x : FacetSt) : FRes :=
  match instCheck w 512 with
  | some e => .error e
  | none =>
    .ok { x with la := g x.la (memBit x.dmem aEdge (fIndex w)),
                 dmem := memSetBit x.dmem aEdge (fIndex w) x.la }

/-- TON, TOF and TP (R88). -/
def timer (k : TimerKind) (w : BitVec 26) (x : FacetSt) : FRes :=
  match instCheck w 256 with
  | some e => .error e
  | none =>
    let t := timerStep k (facetUs x) x.la (readTimer x.dmem (fIndex w))
    .ok { x with la := t.q, dmem := writeTimer x.dmem (fIndex w) t }

/-- CTU and CTD (R89). -/
def counter (down : Bool) (w : BitVec 26) (x : FacetSt) : FRes :=
  match instCheck w 128 with
  | some e => .error e
  | none =>
    let (m, qu, qd) := countStep x.dmem (fIndex w) down x.la
    .ok { x with la := if down then qd else qu, dmem := m }

/-- CRS and CLD: COUNT is set when LA is 1 (R86). -/
def countSet (w : BitVec 26) (g : Counter → Int) (x : FacetSt) : FRes :=
  match instCheck w 128 with
  | some e => .error e
  | none =>
    .ok (if x.la then { x with dmem := writeCount x.dmem (fIndex w) (g (readCounter x.dmem (fIndex w))) }
         else x)

/-- A jump: the target is the address of the jump plus OFFSET, modulo 8,192 (R82, R83). -/
def jump (w : BitVec 26) (taken : FacetSt → Bool) (x : FacetSt) : FRes :=
  if fld w 25 14 ≠ 0 then .error .illegalOp
  else .ok { x with pc := if taken x then x.pc + BitVec.ofInt 13 (signed 14 (fld w 13 0)) else x.pc + 1 }

/-- Fields of format R that an instruction does not use, and the reserved bits, must be 0 (R82, R93). -/
def rBad (w : BitVec 26) (x y acc rnd shift : Bool) : Bool :=
  (!x && fX w ≠ 0) || (!y && fY w ≠ 0) || (!acc && fAcc w ≠ 0) || (!rnd && fRnd w ≠ 0)
    || (rnd && fRnd w = 3) || (!shift && fld w 7 2 ≠ 0) || fCond w ≠ 0 || fld w 12 8 ≠ 0 || fld w 1 0 ≠ 0

/-- An instruction of format R, once its fields are allowed. -/
def rOp (bad : Bool) (g : FacetSt → FacetSt) (x : FacetSt) : FRes :=
  if bad then .error .illegalOp else .ok (g x)

/-- MPY, MAC and MSU: `keep` is the weight of the accumulator, `sign` that of the product (R90, R91). -/
def mulAcc (w : BitVec 26) (keep sign : Int) (x : FacetSt) : FacetSt :=
  let (p, sat) := product (dReg x (fX w)) (dReg x (fY w))
  putAcc (notePsat x sat) (fAcc w) (keep * (aReg x (fAcc w)).toInt + sign * p)

/-- ADD, SUB, NEG, ABS, MIN, MAX: Dx := sat16 of a function of Dx and Dy (R93). -/
def half2 (w : BitVec 26) (g : Int → Int → Int) (x : FacetSt) : FacetSt :=
  putD x (fX w) (g (dReg x (fX w)).toInt (dReg x (fY w)).toInt)

/-- A load of format M: checks of REG and the reserved bits, the access, the value, then the increment;
a loaded register that is also PTR keeps the loaded value (R83, R94). -/
def mLoad (w : BitVec 26) (regOk : Bool) (size : Nat) (put : Nat → FacetSt → FacetSt) (x : FacetSt) : FRes :=
  if !regOk || fld w 17 16 ≠ 0 then .error .illegalOp
  else
    let a := memAddr x w
    if badAccess a size false then .error .addrRange
    else .ok (put (memNat x.dmem a size) (postInc x w))

/-- A store of format M (R83, R94); the reserved area takes nothing (R77). -/
def mStore (w : BitVec 26) (regOk : Bool) (size : Nat) (val : FacetSt → Nat) (x : FacetSt) : FRes :=
  if !regOk || fld w 17 16 ≠ 0 then .error .illegalOp
  else
    let a := memAddr x w
    if badAccess a size true then .error .addrRange
    else .ok (postInc { x with dmem := memStore x.dmem a (leBytes size (val x)) } w)

/-- An instruction of format I (R83). -/
def iOp (w : BitVec 26) (regOk : Bool) (g : FacetSt → FacetSt) (x : FacetSt) : FRes :=
  if !regOk || fld w 21 16 ≠ 0 then .error .illegalOp else .ok (g x)

/-- IMM16. -/
def fImm (w : BitVec 26) : Nat := fld w 15 0

/-! ## Messages (R96, R97, R239) -/

/-- Queue `q` of home facet (l, h) is declared and has a free slot, counting messages under way: the credit of R239. -/
def State.queueRoom (s : State) (l h q : Nat) : Bool :=
  let held := (((s.progs.get (fKey l h)).rxq.toList[q]?).getD []).length
  let way := ((s.lenses.get l).inbound.filter fun m => m.1 = h && m.2.1 = q).length + s.lensWay l h q
  l < lensCount && (s.fCfg l h).queues.contains q && (s.lenses.get l).pstate ≠ .off && held + way < 16

/-- SEND (R95 to R97): the slot at P goes to the queue it names, with the sender and its next sequence
number; a full queue takes nothing, clears LA and is counted. The sequence numbers of a sender to a queue start at 0,
and sender and destination name home facets, also where a program runs on a spare (DESIGN CHOICE, log 68). The queue is
that of the operand; byte 2 of the message takes it, where the program had left another number there (DESIGN CHOICE,
log 95). -/
def State.sendMsg (s : State) (l f q a : Nat) : State :=
  let h := s.home l f
  let x := s.facets.get (fKey l f)
  let slot := memBytes x.dmem a 64
  let dl := leNat (bytesAt slot 0 1)
  let df := leNat (bytesAt slot 1 1)
  if dl < 16 ∧ df < 64 ∧ s.queueRoom dl df q then
    let key := fKey dl df * 4 + q
    let n := (findRow (s.progs.get (fKey l h)).txSeq key).getD 0
    let msg := overlay (overlay slot 2 (leBytes 1 q)) 4 (leBytes 2 (fKey l h) ++ leBytes 2 n)
    let s := s.updProg l h fun p => { p with txSeq := putRow p.txSeq key ((n + 1) % 65536) }
    let s := if dl = l then s.updLens dl fun y => { y with inbound := y.inbound ++ [(df, q, msg)] }
      else s.sendLens l dl df q msg
    s.updFacet l f fun x => { x with la := true }
  else
    (s.updLens l fun y => { y with fltMsgFull := sat32 y.fltMsgFull 1 }).updFacet l f fun x =>
      { x with la := false }

/-- Writes a slot; its bytes in the reserved area change nothing (R77). -/
def memPutSlot (m : List Host.Cell) (a : Nat) (bs : List Byte) : List Host.Cell :=
  bs.zipIdx.foldl (fun m b => memStore m (a + b.2) [b.1]) m

/-- RECV: the oldest message of the facet's own queue goes to address P (R95). -/
def State.recvMsg (s : State) (l f q a : Nat) : State :=
  let h := s.home l f
  match ((s.progs.get (fKey l h)).rxq.toList[q]?).getD [] with
  | [] => s.updFacet l f fun x => { x with la := false }
  | m :: r =>
    (s.updProg l h fun p => { p with rxq := p.rxq.setIfInBounds q r }).updFacet l f fun x =>
      { x with la := true, dmem := memPutSlot x.dmem a m }

/-- A 64-byte slot at address `a` that lies outside data memory, or that a write would put into a
read-only part (R94). No alignment is stated for a slot and none is required (DESIGN CHOICE, log 67). -/
def badSlot (a : Nat) (write : Bool) : Bool :=
  memEnd < a + 64 || (write && (a < aQ || (aStatus < a + 64 && a < aReserved)))

/-- Fields of SEND and RECV: [2:0] PTR, [4:3] queue (R95). The address is checked before the queue is looked at, so a
RECV faults on a bad address also when its queue is empty (DESIGN CHOICE, log 67). -/
def msgCheck (x : FacetSt) (w : BitVec 26) (write : Bool) : Option FFault :=
  if fld w 25 5 ≠ 0 then some .illegalOp
  else if badSlot (pReg x (fld w 2 0)).toNat write then some .addrRange else none

/-! ## The instructions -/

/-- LD: LA := op' (R86). -/
def execLd (l : Fin 16) (f : Fin 64) (w : BitVec 26) (s : State) : Res :=
  .next (s.facetOp l f (bitRead w fun _ v => v))

/-- AND: LA := LA and op' (R86). -/
def execAnd (l : Fin 16) (f : Fin 64) (w : BitVec 26) (s : State) : Res :=
  .next (s.facetOp l f (bitRead w fun a v => a && v))

/-- OR: LA := LA or op' (R86). -/
def execOr (l : Fin 16) (f : Fin 64) (w : BitVec 26) (s : State) : Res :=
  .next (s.facetOp l f (bitRead w fun a v => a || v))

/-- XOR: LA := LA xor op' (R86). -/
def execXor (l : Fin 16) (f : Fin 64) (w : BitVec 26) (s : State) : Res :=
  .next (s.facetOp l f (bitRead w fun a v => a != v))

/-- ST: a := LA, or its inverse when NEG = 1 (R86). -/
def execSt (l : Fin 16) (f : Fin 64) (w : BitVec 26) (s : State) : Res :=
  .next (s.facetOp l f (bitWrite w false true fun x => some (x.la != fNeg w)))

/-- SET: if LA = 1, a := 1 (R86). -/
def execSet (l : Fin 16) (f : Fin 64) (w : BitVec 26) (s : State) : Res :=
  .next (s.facetOp l f (bitWrite w false false fun x => if x.la then some true else none))

/-- RST: if LA = 1, a := 0 (R86). -/
def execRst (l : Fin 16) (f : Fin 64) (w : BitVec 26) (s : State) : Res :=
  .next (s.facetOp l f (bitWrite w true false fun x => if x.la then some false else none))

/-- NOT (R86). -/
def execNot (l : Fin 16) (f : Fin 64) (w : BitVec 26) (s : State) : Res :=
  .next (s.facetOp l f (sPlain w fun x => .ok { x with la := !x.la }))

/-- LA1 (R86). -/
def execLa1 (l : Fin 16) (f : Fin 64) (w : BitVec 26) (s : State) : Res :=
  .next (s.facetOp l f (sPlain w fun x => .ok { x with la := true }))

/-- LA0 (R86). -/
def execLa0 (l : Fin 16) (f : Fin 64) (w : BitVec 26) (s : State) : Res :=
  .next (s.facetOp l f (sPlain w fun x => .ok { x with la := false }))

/-- AND(: pushes (LA, AND); LA := 1 (R86, R87). -/
def execAndNest (l : Fin 16) (f : Fin 64) (w : BitVec 26) (s : State) : Res :=
  .next (s.facetOp l f (sPlain w (push .and true)))

/-- OR(: pushes (LA, OR); LA := 0 (R86, R87). -/
def execOrNest (l : Fin 16) (f : Fin 64) (w : BitVec 26) (s : State) : Res :=
  .next (s.facetOp l f (sPlain w (push .or false)))

/-- XOR(: pushes (LA, XOR); LA := 0 (R86, R87). -/
def execXorNest (l : Fin 16) (f : Fin 64) (w : BitVec 26) (s : State) : Res :=
  .next (s.facetOp l f (sPlain w (push .xor false)))

/-- ): pops and combines (R86, R87). -/
def execNestClose (l : Fin 16) (f : Fin 64) (w : BitVec 26) (s : State) : Res :=
  .next (s.facetOp l f (sPlain w pop))

/-- FP: LA := LA and not E; then E := old LA (R86). -/
def execFp (l : Fin 16) (f : Fin 64) (w : BitVec 26) (s : State) : Res :=
  .next (s.facetOp l f (edge w fun a e => a && !e))

/-- FN: LA := not LA and E; then E := old LA (R86). -/
def execFn (l : Fin 16) (f : Fin 64) (w : BitVec 26) (s : State) : Res :=
  .next (s.facetOp l f (edge w fun a e => !a && e))

/-- TON (R88). -/
def execTon (l : Fin 16) (f : Fin 64) (w : BitVec 26) (s : State) : Res :=
  .next (s.facetOp l f (timer .ton w))

/-- TOF (R88). -/
def execTof (l : Fin 16) (f : Fin 64) (w : BitVec 26) (s : State) : Res :=
  .next (s.facetOp l f (timer .tof w))

/-- TP (R88). -/
def execTp (l : Fin 16) (f : Fin 64) (w : BitVec 26) (s : State) : Res :=
  .next (s.facetOp l f (timer .tp w))

/-- CTU: LA := QU after the update (R89). -/
def execCtu (l : Fin 16) (f : Fin 64) (w : BitVec 26) (s : State) : Res :=
  .next (s.facetOp l f (counter false w))

/-- CTD: LA := QD after the update (R89). -/
def execCtd (l : Fin 16) (f : Fin 64) (w : BitVec 26) (s : State) : Res :=
  .next (s.facetOp l f (counter true w))

/-- CRS: if LA = 1, COUNT := 0 (R86). -/
def execCrs (l : Fin 16) (f : Fin 64) (w : BitVec 26) (s : State) : Res :=
  .next (s.facetOp l f (countSet w fun _ => 0))

/-- CLD: if LA = 1, COUNT := PRESET (R86). -/
def execCld (l : Fin 16) (f : Fin 64) (w : BitVec 26) (s : State) : Res :=
  .next (s.facetOp l f (countSet w fun c => c.preset))

/-- JU (R86). -/
def execJu (l : Fin 16) (f : Fin 64) (w : BitVec 26) (s : State) : Res :=
  .next (s.facetJump l f (jump w fun _ => true))

/-- JC: jumps if LA = 1 (R86). -/
def execJc (l : Fin 16) (f : Fin 64) (w : BitVec 26) (s : State) : Res :=
  .next (s.facetJump l f (jump w fun x => x.la))

/-- JCN: jumps if LA = 0 (R86). -/
def execJcn (l : Fin 16) (f : Fin 64) (w : BitVec 26) (s : State) : Res :=
  .next (s.facetJump l f (jump w fun x => !x.la))

/-- CMP: LA := (Dx c Dy), signed; ACC, RND and SHIFT are ignored (R86). -/
def execCmp (l : Fin 16) (f : Fin 64) (w : BitVec 26) (s : State) : Res :=
  .next (s.facetOp l f (rOp (decide (6 ≤ fCond w) || fld w 12 8 ≠ 0 || fld w 1 0 ≠ 0)
    fun x => { x with la := cmpHolds (dReg x (fX w)).toInt (dReg x (fY w)).toInt (fCond w) }))

/-- MPY: A := p(Dx, Dy) (R90, R93). -/
def execMpy (l : Fin 16) (f : Fin 64) (w : BitVec 26) (s : State) : Res :=
  .next (s.facetOp l f (rOp (rBad w true true true false false) (mulAcc w 0 1)))

/-- MAC: A := A + p(Dx, Dy) (R91, R93). -/
def execMac (l : Fin 16) (f : Fin 64) (w : BitVec 26) (s : State) : Res :=
  .next (s.facetOp l f (rOp (rBad w true true true false false) (mulAcc w 1 1)))

/-- MSU: A := A - p(Dx, Dy) (R91, R93). -/
def execMsu (l : Fin 16) (f : Fin 64) (w : BitVec 26) (s : State) : Res :=
  .next (s.facetOp l f (rOp (rBad w true true true false false) (mulAcc w 1 (-1))))

/-- MAC2: A := A + p(Dx, Dy) + p(Dx+1, Dy+1); X and Y even (R90, R93). -/
def execMac2 (l : Fin 16) (f : Fin 64) (w : BitVec 26) (s : State) : Res :=
  .next (s.facetOp l f (rOp (rBad w true true true false false || fX w % 2 ≠ 0 || fY w % 2 ≠ 0) fun x =>
    let (p, a) := product (dReg x (fX w)) (dReg x (fY w))
    let (q, b) := product (dReg x (fX w + 1)) (dReg x (fY w + 1))
    putAcc (notePsat x (a || b)) (fAcc w) ((aReg x (fAcc w)).toInt + p + q)))

/-- ADDA: A := A + Dx * 2^16 (R91, R93). -/
def execAdda (l : Fin 16) (f : Fin 64) (w : BitVec 26) (s : State) : Res :=
  .next (s.facetOp l f (rOp (rBad w true false true false false) fun x =>
    putAcc x (fAcc w) ((aReg x (fAcc w)).toInt + (dReg x (fX w)).toInt * 65536)))

/-- SUBA: A := A - Dx * 2^16 (R91, R93). -/
def execSuba (l : Fin 16) (f : Fin 64) (w : BitVec 26) (s : State) : Res :=
  .next (s.facetOp l f (rOp (rBad w true false true false false) fun x =>
    putAcc x (fAcc w) ((aReg x (fAcc w)).toInt - (dReg x (fX w)).toInt * 65536)))

/-- CLRA: A := 0 (R93). -/
def execClra (l : Fin 16) (f : Fin 64) (w : BitVec 26) (s : State) : Res :=
  .next (s.facetOp l f (rOp (rBad w false false true false false) fun x => setA x (fAcc w) 0))

/-- ASH: A shifted by SHIFT, saturated as R91 or rounded as R92 (R93). -/
def execAsh (l : Fin 16) (f : Fin 64) (w : BitVec 26) (s : State) : Res :=
  .next (s.facetOp l f (rOp (rBad w false false true true true) fun x =>
    putAcc x (fAcc w) (ashValue (aReg x (fAcc w)).toInt (fShift w) (fRnd w))))

/-- STH: Dx := A * 2^SHIFT, exact, rounded at bit 16 and saturated; A unchanged (R92, R93). -/
def execSth (l : Fin 16) (f : Fin 64) (w : BitVec 26) (s : State) : Res :=
  .next (s.facetOp l f (rOp (rBad w true false true true true) fun x =>
    putD x (fX w) (sthValue (aReg x (fAcc w)).toInt (fShift w) (fRnd w))))

/-- ADD: Dx := sat16(Dx + Dy) (R93). -/
def execAdd (l : Fin 16) (f : Fin 64) (w : BitVec 26) (s : State) : Res :=
  .next (s.facetOp l f (rOp (rBad w true true false false false) (half2 w fun a b => a + b)))

/-- SUB: Dx := sat16(Dx - Dy) (R93). -/
def execSub (l : Fin 16) (f : Fin 64) (w : BitVec 26) (s : State) : Res :=
  .next (s.facetOp l f (rOp (rBad w true true false false false) (half2 w fun a b => a - b)))

/-- NEG: Dx := sat16(-Dy) (R93). -/
def execNeg (l : Fin 16) (f : Fin 64) (w : BitVec 26) (s : State) : Res :=
  .next (s.facetOp l f (rOp (rBad w true true false false false) (half2 w fun _ b => -b)))

/-- ABS: Dx := sat16(abs(Dy)) (R93). -/
def execAbs (l : Fin 16) (f : Fin 64) (w : BitVec 26) (s : State) : Res :=
  .next (s.facetOp l f (rOp (rBad w true true false false false) (half2 w fun _ b => if b < 0 then -b else b)))

/-- MIN, signed (R93). -/
def execMin (l : Fin 16) (f : Fin 64) (w : BitVec 26) (s : State) : Res :=
  .next (s.facetOp l f (rOp (rBad w true true false false false) (half2 w fun a b => if a < b then a else b)))

/-- MAX, signed (R93). -/
def execMax (l : Fin 16) (f : Fin 64) (w : BitVec 26) (s : State) : Res :=
  .next (s.facetOp l f (rOp (rBad w true true false false false) (half2 w fun a b => if a < b then b else a)))

/-- LSH: Dx := Dy shifted logically by SHIFT (R93). -/
def execLsh (l : Fin 16) (f : Fin 64) (w : BitVec 26) (s : State) : Res :=
  .next (s.facetOp l f (rOp (rBad w true true false false true) fun x =>
    setD x (fX w) (lshValue (dReg x (fY w)) (fShift w))))

/-- LDW: D takes 2 bytes, A the low 40 bits of 8 bytes (R93, R94). A single-bit error that the read met is
corrected and counted (R101). -/
def execLdw (l : Fin 16) (f : Fin 64) (w : BitVec 26) (ecc : Bool) (s : State) : Res :=
  let s := if ecc && s.running l f then s.updLens l fun y => { y with eccCorr := sat16 y.eccCorr 1 } else s
  .next (s.facetOp l f (mLoad w (decide (fReg w < 12)) (if fReg w < 8 then 2 else 8) fun v x =>
    if fReg w < 8 then setD x (fReg w) (BitVec.ofNat 16 v) else setA x (fReg w - 8) (BitVec.ofNat 40 v)))

/-- STW: D stores 2 bytes, A 8 bytes sign-extended from bit 39 (R93, R94). -/
def execStw (l : Fin 16) (f : Fin 64) (w : BitVec 26) (s : State) : Res :=
  .next (s.facetOp l f (mStore w (decide (fReg w < 12)) (if fReg w < 8 then 2 else 8) fun x =>
    if fReg w < 8 then (dReg x (fReg w)).toNat else ((aReg x (fReg w - 8)).signExtend 64).toNat))

/-- LDI: D := IMM16, or P := IMM16 zero-extended (R93). -/
def execLdi (l : Fin 16) (f : Fin 64) (w : BitVec 26) (s : State) : Res :=
  .next (s.facetOp l f (iOp w true fun x =>
    if fReg w < 8 then setD x (fReg w) (BitVec.ofNat 16 (fImm w))
    else setP x (fReg w - 8) (BitVec.ofNat 32 (fImm w))))

/-- ADDP: P := P + IMM16 sign-extended (R93). -/
def execAddp (l : Fin 16) (f : Fin 64) (w : BitVec 26) (s : State) : Res :=
  .next (s.facetOp l f (iOp w (decide (8 ≤ fReg w)) fun x =>
    setP x (fReg w - 8) (pReg x (fReg w - 8) + BitVec.ofInt 32 (signed 16 (fImm w)))))

/-- LDP: P := 4 bytes from memory; the loaded value stays in a register that is also PTR (R83, R93). -/
def execLdp (l : Fin 16) (f : Fin 64) (w : BitVec 26) (s : State) : Res :=
  .next (s.facetOp l f (mLoad w (decide (8 ≤ fReg w)) 4 fun v x =>
    setP x (fReg w - 8) (BitVec.ofNat 32 v)))

/-- STP: 4 bytes in memory := P (R93). -/
def execStp (l : Fin 16) (f : Fin 64) (w : BitVec 26) (s : State) : Res :=
  .next (s.facetOp l f (mStore w (decide (8 ≤ fReg w)) 4 fun x =>
    (pReg x (fReg w - 8)).toNat))

/-- LDIH: P[31:16] := IMM16 (R93). -/
def execLdih (l : Fin 16) (f : Fin 64) (w : BitVec 26) (s : State) : Res :=
  .next (s.facetOp l f (iOp w (decide (8 ≤ fReg w)) fun x =>
    setP x (fReg w - 8) (BitVec.ofNat 32 ((pReg x (fReg w - 8)).toNat % 65536 + 65536 * fImm w))))

/-- WAIT: gates the facet until an event of the mask; a queued one takes effect at once (R81, R95). -/
def execWait (l : Fin 16) (f : Fin 64) (w : BitVec 26) (s : State) : Res :=
  .next (s.facetSys l f (if fld w 25 3 ≠ 0 then some .illegalOp else none) fun s =>
    ((s.updFacet l f fun x => { x with run := .gated, gate := .waiting (BitVec.ofNat 3 (fld w 2 0)) }).takeQueued
      l f).lensRest l)

/-- SEAL: writes the seal record (R95, R98). -/
def execSeal (l : Fin 16) (f : Fin 64) (w : BitVec 26) (s : State) : Res :=
  .next (s.facetSys l f (sNone w) fun s => s.sealNow l f)

/-- SEND (R95, R97). -/
def execSend (l : Fin 16) (f : Fin 64) (w : BitVec 26) (s : State) : Res :=
  let x := s.facets.get (fKey l f)
  .next (s.facetSys l f (msgCheck x w false) fun s => s.sendMsg l f (fld w 4 3) (pReg x (fld w 2 0)).toNat)

/-- RECV (R95). -/
def execRecv (l : Fin 16) (f : Fin 64) (w : BitVec 26) (s : State) : Res :=
  let x := s.facets.get (fKey l f)
  .next (s.facetSys l f (msgCheck x w true) fun s => s.recvMsg l f (fld w 4 3) (pReg x (fld w 2 0)).toNat)

/-- LANE: asserts or releases a trip lane; a facet that is no declared driver is ignored and counted
(R16, R19, R95). -/
def execLane (l : Fin 16) (f : Fin 64) (w : BitVec 26) (s : State) : Res :=
  .next (s.facetSys l f (if fld w 25 7 ≠ 0 then some .illegalOp else none) fun s =>
    let h := s.home l f
    let c := s.fCfg l h
    let n := fld w 5 0
    if (c.role = .protection ∨ c.role = .loop) ∧ c.lanes.contains n then
      if fld w 6 6 = 1 then s.drive (fKey l h) [n] [] else s.drive (fKey l h) [] [n]
    else s.updLens l fun y => { y with fltLane := sat32 y.fltLane 1 })

/-- OUTW: copies the outputs to the output window; a late copy is dropped and counted (R80, R95). -/
def execOutw (l : Fin 16) (f : Fin 64) (w : BitVec 26) (s : State) : Res :=
  .next (s.facetSys l f (sNone w) fun s => s.outwNow l f)

/-- END: ends the work item; NEST_FAULT with a non-empty stack (R81, R87, R95). With non-zero bits as well, ILLEGAL_OP is
raised (DESIGN CHOICE, log 96). -/
def execEnd (l : Fin 16) (f : Fin 64) (w : BitVec 26) (s : State) : Res :=
  let x := s.facets.get (fKey l f)
  .next (s.facetSys l f (if w ≠ 0 then some .illegalOp else if x.stack ≠ [] then some .nestFault else none)
    fun s => s.endNow l f)

/-! ## A whole word (R82, R86, R93, R95) -/

/-- Opcode of a word: bits [31:26] (R82). -/
def wordOp (w : Word) : Nat := (w >>> 26).toNat
/-- The operand bits of a word: [25:0]. -/
def wordRest (w : Word) : BitVec 26 := w.setWidth 26

/-- Runs the instruction that a whole word encodes, by the Encoding columns of R86, R93 and R95. The word 0 is NOP. Any
other word with opcode 0x00 and an unassigned opcode (0x0F, 0x1D to 0x1F, 0x37, 0x3F) raise ILLEGAL_OP (R82). -/
def facetWord (l : Fin 16) (f : Fin 64) (w : Word) (s : State) : Res :=
  match wordOp w with
  | 0x00 => .next (s.facetOp l f fun x => if w = 0 then .ok x else .error .illegalOp)
  | 0x01 => execLd l f (wordRest w) s
  | 0x02 => execAnd l f (wordRest w) s
  | 0x03 => execOr l f (wordRest w) s
  | 0x04 => execXor l f (wordRest w) s
  | 0x05 => execSt l f (wordRest w) s
  | 0x06 => execSet l f (wordRest w) s
  | 0x07 => execRst l f (wordRest w) s
  | 0x08 => execNot l f (wordRest w) s
  | 0x09 => execLa1 l f (wordRest w) s
  | 0x0A => execLa0 l f (wordRest w) s
  | 0x0B => execAndNest l f (wordRest w) s
  | 0x0C => execOrNest l f (wordRest w) s
  | 0x0D => execXorNest l f (wordRest w) s
  | 0x0E => execNestClose l f (wordRest w) s
  | 0x10 => execFp l f (wordRest w) s
  | 0x11 => execFn l f (wordRest w) s
  | 0x12 => execTon l f (wordRest w) s
  | 0x13 => execTof l f (wordRest w) s
  | 0x14 => execTp l f (wordRest w) s
  | 0x15 => execCtu l f (wordRest w) s
  | 0x16 => execCtd l f (wordRest w) s
  | 0x17 => execCrs l f (wordRest w) s
  | 0x18 => execCld l f (wordRest w) s
  | 0x19 => execJu l f (wordRest w) s
  | 0x1A => execJc l f (wordRest w) s
  | 0x1B => execJcn l f (wordRest w) s
  | 0x1C => execCmp l f (wordRest w) s
  | 0x20 => execMpy l f (wordRest w) s
  | 0x21 => execMac l f (wordRest w) s
  | 0x22 => execMsu l f (wordRest w) s
  | 0x23 => execMac2 l f (wordRest w) s
  | 0x24 => execAdda l f (wordRest w) s
  | 0x25 => execSuba l f (wordRest w) s
  | 0x26 => execClra l f (wordRest w) s
  | 0x27 => execAsh l f (wordRest w) s
  | 0x28 => execSth l f (wordRest w) s
  | 0x29 => execAdd l f (wordRest w) s
  | 0x2A => execSub l f (wordRest w) s
  | 0x2B => execNeg l f (wordRest w) s
  | 0x2C => execAbs l f (wordRest w) s
  | 0x2D => execMin l f (wordRest w) s
  | 0x2E => execMax l f (wordRest w) s
  | 0x2F => execLsh l f (wordRest w) s
  | 0x30 => execLdw l f (wordRest w) false s
  | 0x31 => execStw l f (wordRest w) s
  | 0x32 => execLdi l f (wordRest w) s
  | 0x33 => execAddp l f (wordRest w) s
  | 0x34 => execLdp l f (wordRest w) s
  | 0x35 => execStp l f (wordRest w) s
  | 0x36 => execLdih l f (wordRest w) s
  | 0x38 => execWait l f (wordRest w) s
  | 0x39 => execSeal l f (wordRest w) s
  | 0x3A => execSend l f (wordRest w) s
  | 0x3B => execRecv l f (wordRest w) s
  | 0x3C => execLane l f (wordRest w) s
  | 0x3D => execOutw l f (wordRest w) s
  | 0x3E => execEnd l f (wordRest w) s
  | _ => .next (s.facetOp l f fun _ => .error .illegalOp)

/-- NOP (R82, R86): the row carries a whole word. The word 0x0000_0000 does nothing; a word of another row's opcode is
that row's instruction. -/
def execNop (l : Fin 16) (f : Fin 64) (w : Word) (s : State) : Res := facetWord l f w s

/-- FACET_WAKE: a cycle tick, a stream arrival or a message wakes a gated facet at its entry word, or is
queued (R81, log 12). -/
def execFacetWake (l : Fin 16) (f : Fin 64) (cause : WakeCause) (s : State) : Res :=
  .next (s.raise l (s.home l f) cause)

end Sys2Proof.Machine
end

