-- ==== Sys2Proof/Machine/Pwm.lean ====
section
/-! DEFINITION. Local PWM channels (R196 to R211), their trip flags (R201), and the optical trip inputs
(R204, R205, R461). -/

namespace Sys2Proof.Machine

/-! ## Sync chain (R210, R211) -/

def State.pwmCfg (s : State) (n : Nat) : PwmCfg := s.pkg.pwms.get n

/-- A sync pulse reaches channel `n` at instant `t`: the next period starts at the first pulse-derived start at
or after the end of the current one. -/
def State.pwmSync (s : State) (n t : Nat) : State :=
  let c := s.pwmCfg n
  let p := s.pwms.get n
  let x := t + c.phase
  let e := p.periodStart + c.period
  let j := if p.running ∧ x < e then ceilDiv (e - x) (Nat.max c.period 1) else 0
  (s.updPwm n fun p => { p with nextStart := some (x + j * c.period), lastSync := t, syncLost := false }).clearAlarm
    .pwmSyncLost n

/-- The last configured channel, which drives SYNC_OUT (R210). -/
def State.syncOutCh (s : State) : Nat := (s.pwmList.getLast?).getD 0

/-- A period start sends a sync pulse to the channel chained after it, and SYNC_OUT carries the last
channel's. -/
def State.pwmChain (s : State) (n : Nat) : State :=
  let s := if (s.pwmCfg (n + 1)).present ∧ (s.pwmCfg (n + 1)).sync = 0 ∧ n + 1 < pwmCount then
      s.pwmSync (n + 1) s.now else s
  if s.pkg.io.syncOutEn ∧ n = s.syncOutCh then s.emit .syncOut else s

/-! ## The command of a period (R206, R207) -/

/-- Offsets of a local channel ignore bit 0 (R196). -/
def evenCmd (c : Command) : Command := { c with a := c.a / 2 * 2, b := c.b / 2 * 2 }

/-- The command of the period that starts at `t0` after the one that started at `prev`: the command, HELD,
and whether the record's form is above 0x04. -/
def State.pwmCommand (s : State) (n t0 prev : Nat) : Command × Bool × Bool :=
  let c := s.pwmCfg n
  let ws := (s.pwms.get n).outws
  if c.srcFacet then
    match ws.find? fun w => decide (w.1 + 200 ≤ t0) with
    | none => ({}, false, false)
    | some (_, k, bad) => (evenCmd k, !(ws.any fun w => decide (prev < w.1 ∧ w.1 ≤ t0)), bad)
  else match formOf c.form with
    | some f => (evenCmd { form := f, a := c.cmpA, b := c.cmpB }, false, false)
    | none => ({}, false, true)

/-- Switching of the outputs: instant after the period start, HI, LO (R197, R200). -/
def pwmOuts (dt : Nat) : Level → List (Nat × Bool) → List (Nat × Bool × Bool)
  | _, [] => []
  | l, (t, v) :: r =>
    (if l = .block ∨ dt = 0 then [(t, v, !v)] else [(t, false, false), (t + dt, v, !v)])
      ++ pwmOuts dt (levelOf v) r

/-! ## Period starts (R198, R201 to R203, R208) -/

/-- Blocks at a period start: an active input cuts the period; else a lane block ends when R201 lets it. -/
def State.pwmJudge (s : State) (n : Nat) : State :=
  let c := s.pwmCfg n
  if s.maskOn c.mask then
    let s := if (s.pwms.get n).blocked then s
      else (s.pwmBlock n).updPwm n fun p => { p with trip := true }
    if s.unitOn (.pwm n) then s.updPwm n fun p => { p with cut := sat32 p.cut 1, cutRun := p.cutRun + 1 }
    else s
  else
    let s := s.updPwm n fun p => { p with cutRun := 0 }
    let p := s.pwms.get n
    if p.blocked ∧ p.blockStart + c.dead ≤ s.now ∧ quietAt p.maskHist s.qualNs s.now ∧ (c.latched = false ∨ ¬ p.trip)
    then s.updPwm n fun p => { p with blocked := false, stuck := false }
    else s

/-- Gating at a period start (R203, R208). -/
def State.pwmGate (s : State) (n : Nat) : State :=
  let p := s.pwms.get n
  if ¬ s.mlk.grant then s.updPwm n fun p => { p with gated := true }
  else if p.gated ∧ p.gatedAt + (s.pwmCfg n).dead ≤ s.now then s.updPwm n fun p => { p with gated := false }
  else s

/-- The period's form on a channel that is ON. -/
def State.pwmForm (s : State) (n prev : Nat) : State :=
  let c := s.pwmCfg n
  let (k, held, bad) := s.pwmCommand n s.now prev
  let s := s.updPwm n fun p =>
    { p with held := held, heldCnt := if held then sat32 p.heldCnt 1 else p.heldCnt,
             shortP := if bad then sat32 p.shortP 1 else p.shortP,
             outws := p.outws.takeWhile (fun w => decide (s.now < w.1 + 200)) ++
               ((p.outws.dropWhile fun w => decide (s.now < w.1 + 200)).take 1) }
  let p := s.pwms.get n
  if p.blocked ∨ p.gated then s.updPwm n fun p => { p with cur := .block, outs := [], lastForm := .block }
  else
    let e := compileEdges c.period (c.dead + c.minp) p.cur k
    let f := realForm c.period p.cur k e
    let outs := if k.form = .block ∧ p.cur ≠ .block then [(0, false, false)] else pwmOuts c.dead p.cur e.edges
    (s.updPwm n fun p => { p with cur := e.cur, outs := outs, lastForm := f.form, shortP := sat32 p.shortP e.shortP,
                                  shortG := sat32 p.shortG e.shortG }).emit (.pwmPeriod n outs)

/-- The period of a channel starts now. STARTING and STOPPING end here (R208). -/
def State.pwmStart (s : State) (n : Nat) : State :=
  let prev := (s.pwms.get n).periodStart
  let s := s.updPwm n fun p => { p with running := true, periodStart := s.now, nextStart := none }
  let s := s.pwmChain n
  let s := if (s.unit (.pwm n)).st = .stopping then (s.pwmOff n).unitStopped (.pwm n) else s
  let s := if (s.unit (.pwm n)).st = .starting ∧ (s.pwms.get n).startReady then
      (s.updPwm n fun p => { p with startReady := false, cur := .block }).unitStarted (.pwm n) else s
  let s := s.pwmJudge n
  if s.unitOn (.pwm n) then (s.pwmGate n).pwmForm n prev
  else (s.pwmGate n).updPwm n fun p => { p with cur := .block, outs := [], held := false }

/-- The instant of the next period start: the pulse-derived one, or the end of the current period. -/
def State.pwmNext (s : State) (n : Nat) : Option Nat :=
  let p := s.pwms.get n
  match p.nextStart with
  | some t => some t
  | none => if p.running then some (p.periodStart + (s.pwmCfg n).period) else none

/-- PWM_PERIOD_START (R198, R206 to R208). -/
def execPwmPeriodStart (n : Fin 32) (s : State) : Res :=
  .next (if n.val < pwmCount ∧ (s.pwmCfg n).present then
      match s.pwmNext n with
      | some t => (s.upTo t).pwmStart n
      | none => s
    else s)

/-- PWM_STUCK (R202): STUCKN periods in a row have been cut. -/
def execPwmStuck (n : Fin 32) (s : State) : Res :=
  let p := s.pwms.get n
  .next (if s.unitOn (.pwm n) ∧ p.stuck = false ∧ 0 < p.cutRun ∧ (s.pwmCfg n).stuckN ≤ p.cutRun then
      (s.updPwm n fun p => { p with stuck := true }).event .pwmStuck n
    else s)

/-- PWM_SYNC_PULSE (R210, R211): a sync pulse arrives at instant `t`. -/
def execPwmSyncPulse (n : Fin 32) (t : Nat) (s : State) : Res :=
  let s := s.upTo t
  .next (if n.val < pwmCount ∧ (s.pwmCfg n).present then s.pwmSync n t else s)

/-- PWM_SYNC_LOST (R211): no sync pulse within PERIOD + 1 µs of the expected one, or of the commit; in the latter
case the first period begins. -/
def execPwmSyncLost (n : Fin 32) (s : State) : Res :=
  let c := s.pwmCfg n
  let p := s.pwms.get n
  .next (if ¬ (n.val < pwmCount ∧ c.present) ∨ p.syncLost then s
    else
      let lost (s : State) : State := (s.updPwm n fun p => { p with syncLost := true }).alarm .pwmSyncLost n
      if p.running then lost (s.upTo (p.lastSync + 2 * c.period + 1000))
      else if p.nextStart.isSome then s
      else (lost (s.upTo (p.lastSync + c.period + 1000))).pwmStart n)

/-- A write of 1 to PWM_CH_STAT.TRIP (R201). -/
def State.clearPwmTrip (s : State) (n : Nat) : State :=
  let p := s.pwms.get n
  if p.trip then
    if ¬ s.maskOn (s.pwmCfg n).mask ∧ quietAt p.maskHist s.qualNs (s.now + 1) then
      s.updPwm n fun p => { p with trip := false }
    else s.updPwm n fun p => { p with clearRefused := true }
  else s

/-- PWM_TRIP_CLEAR (R3, R50, R201). -/
def execPwmTripClear (n : Fin 32) (s : State) : Res :=
  .next (s.unitWrite (decide (n.val < pwmCount)) fun s => s.clearPwmTrip n)

/-! ## Trip inputs (R204, R205, R461) -/

/-- Lanes a trip input drives. -/
def State.tiLanes (s : State) (i : Nat) : List Nat :=
  (List.range 64).filter fun n => (s.pkg.tis.get i).lanes.getLsbD n

/-- TOGGLING is judged at an activation: more than TOGGLE_N within 1 s, with an event at most once a
second. -/
def State.tiToggle (s : State) (i : Nat) : State :=
  let c := s.pkg.tis.get i
  let x := s.tis.get i
  if c.toggleN = 0 ∨ x.actTimes.length ≤ c.toggleN then s
  else
    let s := s.updTi i fun x => { x with toggling := true }
    let quiet : Bool := match x.toggleEvent with
      | some t => decide (s.now < t + 1000000000)
      | none => false
    if quiet then s else (s.updTi i fun x => { x with toggleEvent := some s.now }).event .tiToggling i

/-- TI_FILTER_CHANGE (R204, R205): the filtered input changes at instant `t`. -/
def execTiFilterChange (i : Fin 8) (active : Bool) (t : Nat) (s : State) : Res :=
  let s := s.upTo t
  let c := s.pkg.tis.get i
  let x := s.tis.get i
  .next (if x.active = active then s
    else if active then
      let s := s.updTi i fun x =>
        { x with active := true, activeSince := s.now, acts := sat16 x.acts 1,
                 actTimes := (x.actTimes.filter fun u => decide (s.now < u + 1000000000)) ++ [s.now] }
      let s := s.tiToggle i
      if c.en then s.drive (tiDriver i) (s.tiLanes i) [] else s
    else
      let s := s.updTi i fun x => { x with active := false, stuck := false }
      s.releaseAll (tiDriver i))

/-- TI_STUCK (R205): active longer than STUCK_LIM × 100 ms. -/
def execTiStuck (i : Fin 8) (s : State) : Res :=
  let x := s.tis.get i
  .next (if x.active ∧ x.stuck = false then
      let s := s.upTo (x.activeSince + (s.pkg.tis.get i).stuckLim * 100000000 + 1)
      (s.updTi i fun x => { x with stuck := true }).event .tiStuck i
    else s)

/-- TI_LOW (R461): the average power of a dark-active input has been below −27 dBm for 100 ms, or rises above
−26 dBm. -/
def execTiLow (i : Fin 8) (low : Bool) (s : State) : Res :=
  .next (if (s.pkg.tis.get i).darkActive = false then s
    else if low ∧ (s.tis.get i).low = false then (s.updTi i fun x => { x with low := true }).event .tiLow i
    else s.updTi i fun x => { x with low := low })

end Sys2Proof.Machine
end

