-- ==== Sys2Proof/Machine/Load.lean ====
section
/-! DEFINITION. Loading lenses and starting programs (R34, R120, R478, R481), and what a configuration package
sets up when it is loaded (R128, R129, R147, R263, R479). -/

namespace Sys2Proof

/-- The EN that the package declares for a unit, where it configures the unit (R479). -/
def Package.declares (p : Package) (u : UnitId) : Option Bool :=
  match p.en.find? fun x => x.1 = u with | some x => some x.2 | none => none

namespace Machine

/-! ## Lenses (R34, R481) -/

/-- What is left of a facet whose lens is emptied: a fenced one keeps its role, what it ran and its fault (R107). -/
def facetLeft (x : FacetSt) : FacetSt :=
  if x.run = .fenced then { role := x.role, run := .fenced, fault := x.fault, hostOf := x.hostOf } else {}

/-- Everything a lens holds is gone, and its programs release their lanes (R17); facets recorded as fenced stay fenced
(R33, R481). The declared spares are free (R106). -/
def State.emptyLens (s : State) (l : Nat) : State :=
  let s := s.each (List.range 64) fun s h => s.releaseAll (fKey l h)
  let s := { s with
    facets := { s.facets with rows := s.facets.rows.map fun (r : Nat × FacetSt) => if r.1 / 64 = l then (r.1, facetLeft r.2) else r }
    progs := { s.progs with rows := s.progs.rows.filter fun r => r.1 / 64 ≠ l } }
  let s := s.each (s.fencedFlash.filter fun k => k / 64 = l) fun s k =>
    s.updFacet l (k % 64) fun x => { x with run := .fenced }
  let s := { s with
    prots := s.prots.mapRows fun i p =>
      if (s.pkg.prots.get i).lens = l then { p with last := none, evaluating := false, consecOvr := 0 } else p }
  let s := s.updLens l fun x => { x with repair := none, waitRepair := [], failure := none, inbound := [] }
  (s.fillFree l).dropLens l

/-- Loads the program of home facet `h`, with no seal and no output yet. -/
def State.loadHome (s : State) (l h : Nat) : State := (s.resetProg l h []).loadAt l h

/-- Loads the configuration of a lens. -/
def State.loadLens (s : State) (l : Nat) : State :=
  let s := (s.emptyLens l).updLens l fun x => { x with stewardFailed := false }
  s.each (s.lensPrograms l) fun s h => s.loadHome l h

/-! ## Logic programs (R120, R478) -/

/-- A program holds no running cycle. -/
def State.haltFacet (s : State) (l h : Nat) : State := s.stopFacet l (s.host l h)

/-- Data memory with the RETAIN items of a slot's seal in place. -/
def restoreRetain (c : LogicCfg) (fc : FacetCfg) (r : SealRec) (m : List Host.Cell) : List Host.Cell :=
  c.retain.foldl (fun m x => memPut m x.2.off (bytesAt r.data (x.2.off - fc.sealArea.off) x.2.len)) m

/-- A program starts from its retained slot after a warm restart (R120). -/
def State.logicWarmStart (s : State) (p : Nat) : State :=
  let c := s.pkg.logic.get p
  let t := s.slots64.get p
  let s := s.resetProg c.lens c.facet t.image
  let s := s.updFacet c.lens (s.host c.lens c.facet) fun x =>
    let x := putOutputs (s.fCfg c.lens c.facet) t.image x
    { x with firstCycle := true
             dmem := match t.record with | some r => restoreRetain c (s.fCfg c.lens c.facet) r x.dmem | none => x.dmem }
  let s := s.updLogic p fun x =>
    { x with st := t.st, phase := .idle, image := t.image, warm := false, retime := true, commitSeal := none,
             committing := false, commitDue := false, safeDue := none, stopAsked := false, startAsked := false }
  let s := s.each c.outputs fun s o => s.updStn o.station fun n =>
    { n with mailbox := bytesAt t.image o.span.off o.span.len, unsent := false }
  if t.st = .running then s.updProg c.lens c.facet fun q => { q with nextTick := some s.now } else s.haltFacet c.lens c.facet

/-- A logic program of a lens that has reached ON starts: warm from its slot, cold if the package declares it
running, or not at all. -/
def State.logicStart (s : State) (p : Nat) : State :=
  let c := s.pkg.logic.get p
  if (s.logic.get p).warm then s.logicWarmStart p
  else if c.declaredRunning then s.logicColdStart p
  else
    (s.haltFacet c.lens c.facet).updLogic p fun x =>
      { x with st := .stopped, phase := .idle, image := c.initialImage, commitSeal := none }

/-- Logic programs of a lens. -/
def State.lensLogic (s : State) (l : Nat) : List Nat :=
  (List.range 64).filter fun p => (s.pkg.logic.get p).present && (s.pkg.logic.get p).lens = l

/-- A lens reaches ON: its configuration is loaded and its programs start (R34, R478). -/
def State.lensOn (s : State) (l : Nat) : State :=
  let s := (s.loadLens l).updLens l fun x => { x with pstate := .run, waking := none, fenced := false }
  (s.each (s.lensLogic l) fun s p => s.logicStart p).lensRest l

/-- A lens is unpowered: its contents are lost. -/
def State.lensOff (s : State) (l : Nat) : State :=
  (s.emptyLens l).updLens l fun x => { x with pstate := .off, waking := none }

/-! ## The exchange of a staged package begins (R134, R136, R171) -/

/-- The staged package and what program `p` is in it: added, it starts cold once its facet is free of another; removed, it stops after its next COMMIT;
changed, a running program waits for its exchange and a stopped one has its image replaced. -/
def State.stageProgram (s : State) (i : Image) (p : Nat) : State :=
  let oc := s.pkg.logic.get p
  let nc := i.body.logic.get p
  let same : Bool := oc = nc && s.pkg.facets.get (fKey oc.lens oc.facet) = i.body.facets.get (fKey nc.lens nc.facet)
  let st := (s.logic.get p).st
  if (¬ oc.present ∧ ¬ nc.present) ∨ same then s
  else if ¬ oc.present then (if s.vacantFor p nc then s.startAdded p else s)
  else if ¬ nc.present then
    if st = .running ∨ st = .exchanging then s.updLogic p fun x => { x with removeAsked := true, stopAsked := true }
    else (s.dropLogic p).updLogic p fun _ => {}
  else if st = .running ∨ st = .exchanging then s.updLogic p fun x => { x with exchPending := true }
  else s.replaceStopped p

/-- Loop programs of the staged package that differ and run wait for their frame boundary; others are loaded or halted
at once. A facet that still has a logic program takes its loop program when that one leaves it. -/
def State.stageLoop (s : State) (i : Image) (k : Nat) : State :=
  let oc := s.pkg.facets.get k
  let nc := i.body.facets.get k
  let l := k / 64
  let h := k % 64
  if oc = nc ∨ (oc.role ≠ .loop ∧ nc.role ≠ .loop) ∨ (s.logicAt l h).isSome then s
  else if oc.role = .loop ∧ nc.role = .loop ∧ s.unitOn (.lens l) then
    s.updSvc fun v => { v with exchLoops := v.exchLoops ++ [k] }
  else
    let s := if oc.role = .loop then s.clearFacet l h else s
    let s := s.updSvc fun v => { v with pkg := { v.pkg with facets := v.pkg.facets.set k nc } }
    if nc.role = .loop ∧ s.unitOn (.lens l) then s.loadHome l h else s

/-- The exchange of the staged package begins; it ends at once when nothing waits. -/
def State.beginExchange (s : State) : State :=
  match s.svc.staged with
  | none => s
  | some i =>
    let s := s.each (List.range 64) fun s p => s.stageProgram i p
    let ks := ((s.pkg.facets.rows ++ i.body.facets.rows).map (·.1)).eraseDups
    (s.each ks fun s k => s.stageLoop i k).exchFinish

/-- Ends what waits for an exchange or a removal of the staged package. -/
def State.exchCancel (s : State) : State :=
  { s with logic := s.logic.mapRows fun _ y =>
      { y with exchPending := false, exchStart := none, removeAsked := false
               stopAsked := y.stopAsked && (!y.removeAsked || y.stopBy ≠ [])
               st := if y.st = LState.exchanging then .running else y.st
               wdogExt := y.wdogExt + (match y.exchStart with | some u => s.now - u | none => 0) } }

/-- The staged package is given up: each program that waits goes on with its state and the active configuration bank is
switched back. Programs that have already been exchanged are exchanged back (DESIGN CHOICE, log 74). -/
def State.exchUndo (s : State) : State :=
  let s := s.exchCancel
  let old := if s.svc.active then s.svc.cfg0 else s.svc.cfg1
  let s := s.updSvc fun v => { v with staged := none, exchLoops := [], exchAt := 0, sharing := false, active := !v.active
                                      undoing := false }
  let s := s.updMlk fun m => { m with exchangeCycle := none, exchangeOf := none }
  let s := s.each (List.range 64) fun s k => if (s.logic.get k).phase = LPhase.ready then s.execBegin k else s
  match old with
  | some i => (s.updSvc fun v => { v with staged := some i, undoing := true }).beginExchange
  | none => s

/-- LOGIC_EXCHANGE_TIMEOUT (R136): not finished in 10 µs; the old program goes on with its state, the active
configuration bank is switched back and PKG_COMMIT completes with INVALID. -/
def execLogicExchangeTimeout (p : Fin 64) (s : State) : Res :=
  .next (match (s.logic.get p).exchStart with
  | none => s
  | some t =>
    let s := s.upTo (t + 10000)
    (if s.svc.undoing then s else s.svcEnd cInvalid 0).exchUndo)

/-! ## A package is loaded (R56, R479) -/

/-- A station as the package enables it (R128, R129): ABSENT with its initial inputs, INVALID; GSEQ starts
again at 0 (R122). -/
def State.enableStn (s : State) (i : Nat) : State :=
  let c := s.stnCfg i
  let s := s.updMlk fun m => { m with gseqs := m.gseqs.filter fun r => r.1 ≠ i }
  let s := s.updStn i fun t =>
    { st := .absent, missed := if c.inLen = 0 then 0 else c.k, image := c.initial, discard := t.discard,
      grpBad := t.grpBad, judged := s.now }
  let s := s.each (s.pkg.conds.keys.filter fun j => (s.pkg.conds.get j).en && (s.pkg.conds.get j).station = i)
    fun s j =>
      let b := (s.pkg.conds.get j).bit
      let v := ((c.initial[b / 8]?).getD 0).getLsbD (b % 8)
      s.updCond j fun _ => { value := v, raw := v, deb := v }
  s.silentStns (i / 64)

/-- Stations follow the package: newly enabled, disabled, or as they were. -/
def State.setStns (s : State) : State :=
  s.each (List.range 128) fun s i =>
    if (s.stnCfg i).en then (if (s.stns.get i).st = .unused then s.enableStn i else s)
    else if (s.stns.get i).st = .unused then s
    else s.updStn i fun t => { t with st := .unused, mailbox := [], unsent := false }

/-- Banks and delays of the Focus chains (R147, R149), and which of them the slices consume (R151). -/
def State.setChains (s : State) : State :=
  let s := s.each s.pkg.chains.rows fun s r =>
    let used := s.pkg.prots.rows.any fun p => p.2.present && p.2.lens = r.1 / 32 && p.2.chains.contains (r.1 % 32)
    { s with chains := s.chains.upd r.1 fun x => { x with taps := r.2.taps, gd := r.2.gd, consumed := used } }
  s.each s.pkg.slots.rows fun s r => { s with chSlots := s.chSlots.upd r.1 fun y => { y with delay := r.2.delay } }

/-- Keys, consumers, pulse generators, PWM timers and recording as the package declares them. -/
def State.setTables (s : State) : State :=
  let s := s.each s.pkg.svs.rows fun s r => s.updSv r.1 fun x =>
    { x with keyCur := r.2.keyCur, keyNext := 0, nextPass := 0 }
  let s := s.each s.pkg.gps.rows fun s r => s.updGp r.1 fun x => { x with keyCur := r.2.key }
  let s := s.each s.pkg.gss.rows fun s r => s.updGs r.1 fun x =>
    { x with keyCur := r.2.key, keyNext := 0, nextPass := 0 }
  let s := s.each s.pkg.prots.rows fun s r => s.updProt r.1 fun x =>
    { x with chains := r.2.chains, switch := [], loaded := true }
  let s := s.each (List.range 16) fun s t =>
    let c := s.pkg.tps.get t
    s.updTp t fun x => { armed := c.mode = .once && decide (s.tai < c.startNs), since := s.tai, doneTo := s.tai
                         count := if c.mode = .once then 0 else x.count }
  let s := s.each s.pkg.pwms.rows fun s r => s.updPwm r.1 fun x =>
    { x with running := false, nextStart := none, lastSync := s.now, syncLost := false, outws := [] }
  let s := s.each s.pkg.evr.rows fun s r =>
    if s.recs.evr.wins.keys.contains r.1 then s
    else s.updEvr fun e => { e with wins := e.wins.set r.1 { hoursOpen := s.ka.hours.toNat } }
  s.each s.pkg.perGrps.rows fun s r =>
    let held := (s.recs.records.filter fun x => x.inSlot && x.group = r.1).length
    let s := s.updGrp r.1 fun x => { x with freeSlots := r.2.slots - held }
    if r.2.run then s.perStart r.1 else (s.perHalt r.1).updGrp r.1 fun x => { x with run := false }

/-- Consumers of a generator that the package changes wait for its first pulse from now on (R263, R264). -/
def State.freshPulses (s : State) (old : Package) : State :=
  let same (a b : Nat) : Bool := a = b && old.tps.get a = s.pkg.tps.get b
  let s := if same old.cnv.tp s.pkg.cnv.tp then s else s.updCnv fun c => { c with lastPulse := none }
  let s := s.each [0, 1] fun s b =>
    if same (old.fbcs.get b).tp (s.pkg.fbcs.get b).tp then s else s.updFbc b fun f => { f with lastPulse := none }
  s.each (List.range 16) fun s g =>
    let a := old.perGrps.get g
    let b := s.pkg.perGrps.get g
    if a.clock = b.clock ∧ (b.clock ≤ 1 ∨ same a.src b.src) then s else s.updGrp g fun r => { r with lastTick := none }

/-- A commit that changes CF or δ calibrates every lane that is ON or starts (R219); one that waits for a reply to a frame
with the old values is calibrated again after that. -/
def State.setLanes (s : State) (old : CnvCfg) : State :=
  if s.pkg.cnv.cf = old.cf ∧ s.pkg.cnv.delta = old.delta then s
  else s.each ((List.range 64).filter fun l =>
      (s.unit (.beam l)).st = .on || (s.unit (.beam l)).st = .starting) fun s l =>
    s.updBeam l fun b => { b with calDue := true, calFrom := 0, calStart := s.now }

/-- Trip inputs follow the package: an active input drives the lanes it is now enabled for and no other (R204), and every
block input is judged by its new mask (R201). -/
def State.setInputs (s : State) : State :=
  (s.each (List.range 8) fun s i =>
    let on := if (s.tis.get i).active ∧ (s.pkg.tis.get i).en then s.tiLanes i else []
    s.drive (tiDriver i) on ((List.range 64).filter fun n => tiDriver i ∈ s.lanes.get n && !on.contains n)).noteMasks

/-- A package comes into force in SETUP or at a restart. -/
def State.configure (s : State) (p : Package) : State :=
  let old := s.pkg
  let s := s.updSvc fun v => { v with pkg := p, staged := none, exchLoops := [] }
  let s := (((((s.setStns).setChains).setTables).freshPulses old).setLanes old.cnv).setInputs
  s.each (List.range 16) fun s l => s.fillFree l

end Machine
end Sys2Proof
end

