-- ==== Sys2Proof/Machine/Switch.lean ====
section
/-! DEFINITION. Frames at switch ports, waiting lossless frames, address ageing and port links (R230 to R249),
with the two descriptors that reach the switch core (R246, R310). -/

namespace Sys2Proof.Machine

/-! ## Ingress (R229, R230) -/

/-- What R229 and R230 find wrong with a frame: the counter to raise, or a discard without one. -/
def frameFault (maxLen : Nat) (fr : EthFrame) : Option (PortSt → PortSt) :=
  if ¬ fr.fcsOk then some fun q => { q with fcsErr := sat32 q.fcsErr 1 }
  else if fr.len < 64 then some fun q => { q with runt := sat32 q.runt 1 }
  else if maxLen < fr.len then some fun q => { q with oversize := sat32 q.oversize 1 }
  else if groupAddr fr.src then some fun q => { q with fcsErr := sat32 q.fcsErr 1 }
  else if fr.ethertype = 0x8808 then some fun q => { q with pause := sat32 q.pause 1 }
  else if fr.sTag.isSome then some id
  else none

/-- A frame arrives at a switch port: the checks, the forwarding, and the ingress sampler, which counts frames
that fail the checks as well (R246). P0 to P4 have MAC counters. A host port's frame must come from a slice's own
address and VLANs (R245). -/
def State.ingress (s : State) (p : Nat) (fr : EthFrame) : State :=
  let mac : Bool := decide (p < 5)
  let host : Bool := p = 5 || p = 6
  let fec : Bool := (s.portCfg p).fec
  let s := if mac then s.updPort p fun q =>
      { q with rxFrames := sat32 q.rxFrames 1, fecCorr := if fec then sat32 q.fecCorr fr.fecCorr else q.fecCorr
               fecUncorr := if fec then sat32 q.fecUncorr fr.fecUncorr else q.fecUncorr }
    else s
  let own : Bool := s.hif.slices.rows.any fun r => r.2.port = p - 5 && s.unitOn (.slice r.1) && r.2.mac = fr.src
    && (vlanOf fr = 0 || r.2.vlans.contains (vlanOf fr))
  let lost (s : State) : State := s.glintSee p 0 fr { cls := s.frameClass host fr }
  match frameFault (s.portCfg p).maxLen fr with
  | some f => lost (if mac then s.updPort p f else s)
  | none =>
    if host && !own then lost (s.updSwc fun w => { w with spoof := sat32 w.spoof 1 })
    else
      let (s, f) := s.forward p host fr
      s.glintSee p 0 fr f

/-- Time that the bytes of a frame take at the rate of a port (R229). -/
def State.frameNs (s : State) (p : Nat) (fr : EthFrame) : Nat :=
  match (s.portCfg p).speed with
  | 0 => ceilDiv (fr.len * 8) 25
  | 1 => ceilDiv (fr.len * 8) 10
  | _ => fr.len * 8

/-- A frame whose last bit comes at instant `t` enters: its port is up, or it was being received when the stop of a front
port began, and is then completed and forwarded (R248). -/
def State.receives (s : State) (p t : Nat) (fr : EthFrame) : Bool :=
  s.portUp p || (decide (p < 5) && (s.unit (.port p)).st = .stopping && (s.swc.ports.get p).link
    && decide (t < (s.unit (.port p)).since + s.frameNs p fr))

/-- SWC_FRAME_RX (R230 to R246): a frame whose last bit arrives at instant `t`. -/
def execSwcFrameRx (p : Fin 24) (fr : EthFrame) (t : Nat) (s : State) : Res :=
  let s := s.upTo t
  .next (if s.receives p t fr then s.ingress p fr else s)

/-! ## Waiting lossless frames (R236) -/

/-- First waiting frame of an ingress port and class. -/
def State.firstWaiting (s : State) (p c : Nat) : Option Waiting :=
  s.swc.waiting.find? fun w => w.ingress = p && w.cls = c

/-- The ingress port whose waiting frame of a class is admitted next: round robin over those that fit. -/
def State.nextAdmit (s : State) (c : Nat) : Option Nat :=
  let start := s.swc.rr.get c
  ((List.range portCount).map fun k => (start + k) % portCount).find? fun p =>
    match s.firstWaiting p c with
    | some w => s.losslessFits c w.cells w.ports
    | none => false

def State.dropWaiting (s : State) (i : Nat) : State :=
  s.updSwc fun w => { w with waiting := w.waiting.filter fun x => x.id ≠ i }

/-- LOSSLESS_ADMIT (R236): cells have come free, and the first frame of the class that waits at this ingress
port, next in the round, is admitted, within 20 µs of its arrival. -/
def execLosslessAdmit (p : Fin 24) (c : Fin 8) (s : State) : Res :=
  .next (if s.nextAdmit c ≠ some p.val then s
    else match s.firstWaiting p c with
    | some w =>
      let e : QEntry := { id := w.id, cells := w.cells }
      if w.since + 20000 < s.now then s
      else ((s.dropWaiting w.id).admitLossless c e w.ports).updSwc fun x =>
        { x with rr := x.rr.set c ((p.val + 1) % portCount) }
    | none => s)

/-- MC_REFUSED (R236): a frame has waited 20 µs and does not fit, or was not admitted in time: it is refused for all
ports. -/
def execMcRefused (p : Fin 24) (c : Fin 8) (s : State) : Res :=
  .next (match s.firstWaiting p c with
  | none => s
  | some w =>
    if s.losslessFits c w.cells w.ports ∧ s.now ≤ w.since + 20000 then s
    else
      let s := ((s.upTo (w.since + 20000)).dropWaiting w.id).sweep
      let s := s.updSwc fun x => { x with mcRefused := sat32 x.mcRefused 1 }
      let quiet : Bool := match s.swc.mcEvent.get p with
        | some t => decide (s.now < t + 1000000000) | none => false
      if quiet then s
      else (s.updSwc fun x => { x with mcEvent := x.mcEvent.set p (some s.now) }).event .mcRefused p)

/-! ## Egress (R233) -/

/-- The slices with frames in a class queue of a host port, each with the length of its next one; a slice that its byte
bucket limits is passed over (R322, R323). -/
def State.sliceFrames (s : State) (q : List QEntry) : List (Nat × Nat) :=
  (List.range 64).filterMap fun i =>
    match q.find? fun e => e.slice = i with
    | some e => if s.byteOpen i ∧ (s.slice i).late = [] then some (i, (s.storedAt e.id).frame.len) else none
    | none => none

/-- The copy that leaves a class next: in order of admission; at a host port the slices of the class by deficit round robin
over WEIGHT × 256 B (R233, R323). -/
def State.nextCopy (s : State) (p c : Nat) : Option (QEntry × State) :=
  let q := s.queue p c
  let k := 8 * p + c
  if p = 5 ∨ p = 6 then
    match drr (fun i => (s.slice i).weight * 256) (s.sliceFrames q) (s.swc.rounds.get k) with
    | some (i, rd) => (q.find? fun e => e.slice = i).map fun e =>
      (e, s.updSwc fun w => { w with rounds := w.rounds.set k rd })
    | none => none
  else (q.head?).map fun e => (e, s)

/-- The highest class from which a copy can leave, and that copy (R233). -/
def State.topCopy (s : State) (p : Nat) : Option (Nat × QEntry × State) :=
  [7, 6, 5, 4, 3, 2, 1, 0].findSome? fun c => (s.nextCopy p c).map fun x => (c, x)

/-- Removes one copy from a queue. -/
def removeCopy (e : QEntry) : List QEntry → List QEntry
  | [] => []
  | x :: r => if x.id = e.id ∧ x.slice = e.slice then r else x :: removeCopy e r

/-- The correction of a transparent clock (R261): a Sync's correctionField, octets 8 to 15 of its header in units of 2⁻¹⁶ ns
(PRESUMED from IEEE 1588, log 107), gains the residence time and the peer delay of its ingress port. -/
def State.ptpCorrect (s : State) (x : Stored) : EthFrame :=
  let fr := x.frame
  let sync : Bool := match fr.payload with | b :: _ => b.toNat % 16 = 0 | [] => false
  if s.pkg.col.ptpMode ≠ 1 ∨ fr.ethertype ≠ 0x88F7 ∨ 5 ≤ x.ingress ∨ ¬ sync then fr
  else
    let old := leNat (bytesAt fr.payload 8 8).reverse
    let add : Int := (s.now - x.at_ : Nat) + ((s.col.ports.get x.ingress).pdelay : Int) + (s.pkg.col.asym[x.ingress]?).getD 0
    { fr with payload := overlay fr.payload 8 (leBytes 8 (unsigned 64 (signed 64 old + add * 65536))).reverse }

/-- A copy leaves at a port. A host port writes it to the slice's receive ring, and a slice without a free entry loses it
(R245); at a lens port a facet message is on its way to its queue (R239). -/
def State.sendCopy (s : State) (p c slice : Nat) (x : Stored) : State :=
  if p = 5 ∨ p = 6 then
    match s.recvRing slice 0 with
    | none => s.qdrop p c
    | some r =>
      let (s', ok) := s.putRecord slice r s.ts 0 p (ethBytes x.frame)
      if ok then s' else s.qdrop p c
  else
    let s := if p < 5 then s.updPort p fun q => { q with txFrames := sat32 q.txFrames 1 } else s
    match x.frame.app with
    | some (.message f q m) => s.updLens (p - 8) fun y => { y with inbound := y.inbound ++ [(f, q, m)] }
    | _ => s.emit (.eth p (if p < 5 then s.ptpCorrect x else x.frame))

/-- SWC_FRAME_TX (R233, R245): a port sends its next frame; the cells are freed with the last copy (R234). -/
def execSwcFrameTx (p : Fin 24) (s : State) : Res :=
  .next (if ¬ s.portUp p then s
    else match s.topCopy p with
    | none => s
    | some (c, e, s) =>
      let x := s.storedAt e.id
      let s := (s.updSwc fun w => { w with queues := w.queues.upd (8 * p.val + c) (removeCopy e) }).sweep
      (s.glintSee p 1 x.frame { cls := x.cls, flooded := x.flooded, admitted := 1 }).sendCopy p c e.slice x)

/-! ## Ageing (R242, R243) -/

/-- Stash entries that find a bucket move into the tables. -/
def State.unstash (s : State) : State :=
  let s := s.each (s.swc.learned.filter fun e => e.bucket = none) fun s e =>
    match s.freeBucket s.swc.learned e.addr e.vlan with
    | some k => s.updSwc fun w => { w with learned := w.learned.map fun x =>
        if x.addr = e.addr ∧ x.vlan = e.vlan then { x with bucket := some k } else x }
    | none => s
  if stashUsed s.swc.learned < 64 then s.updSwc fun w => { w with learnBlocked := false } else s

/-- ADDRESS_AGE_OUT (R242): the entry refreshed least lately has not been seen for AGE seconds. -/
def execAddressAgeOut (s : State) : Res :=
  .next (match minList (s.swc.learned.map (·.seen)) with
  | none => s
  | some t =>
    let age := s.pkg.swc.ageS * 1000000000
    let s := s.upTo (t + age)
    (s.updSwc fun w => { w with learned := w.learned.filter fun e => decide (s.now < e.seen + age) }).unstash)

/-! ## Links (R248, R249) -/

/-- The link of a port is lost (R249). -/
def State.linkLost (s : State) (p : Nat) : State :=
  if (s.swc.ports.get p).link = false then s
  else
    let s := s.updPort p fun q => { q with link := false, linkDown := sat32 q.linkDown 1 }
    (s.flushPort p).event .linkDown p

/-- LINK_DOWN (R249, R253): a link goes down, with what the receiver and the cage show. -/
def execLinkDown (x : PortLink) (s : State) : Res :=
  .next ((s.linkLost x.port).updPort x.port fun q => { q with fecLock := false, rxLos := x.los, txFault := x.txFault })

/-- LINK_UP (R249, R253, R445): a link comes up on a port whose unit is starting or ON and whose transceiver is powered;
FEC, where it is in use, has locked. -/
def execLinkUp (x : PortLink) (s : State) : Res :=
  let p := x.port
  .next (if ((s.unit (.port p)).st = .on ∨ (s.unit (.port p)).st = .starting) ∧ ¬ s.hw.xcvrNoPwr.getLsbD p then
      s.updPort p fun q => { q with link := true, fecLock := (s.portCfg p).fec, rxLos := false, txFault := x.txFault }
    else s)

/-! ## Descriptors (R246, R310) -/

/-- Largest frame a slice may send: the smallest MAXLEN of P0 to P4. -/
def State.minMaxLen (s : State) : Nat :=
  ((List.range 5).map fun p => (s.portCfg p).maxLen).foldl Nat.min 2000

/-- A frame of FRAME_TX enters the switch core at the slice's host port, and the descriptor completes when every copy is
decided (R310). A frame that R229 or R230 discards leaves no copy. -/
def State.releaseFrame (s : State) (j i : Nat) (fr : EthFrame) : State :=
  let p := 5 + (s.slice i).port
  let (s, f) := if (frameFault 2000 fr).isSome then (s, { cls := s.frameClass true fr }) else s.forward p true fr
  (s.glintSee p 0 fr f).complete j (if f.admitted = 0 then 0x0202 else cOk) 0

/-- Frames of FRAME_TX whose STARTED item is sealed are released to their port (R365). -/
def State.releaseFrames (s : State) : State :=
  let go (x : Nat × Nat × EthFrame) : Bool := s.jSealed x.1
  let out := s.swc.unsealed.filter go
  (s.updSwc fun w => { w with unsealed := w.unsealed.filter fun x => !go x }).each out fun s x =>
    s.releaseFrame x.1 x.2.1 x.2.2

/-- FRAME_TX (R245, R310, R365): the frame is checked against the slice's address and VLANs and forwarded, in a pair
once its STARTED item is sealed. -/
def execFrameTx (i : Fin 64) (r : Fin 8) (buf : Option EthFrame) (s : State) : Res :=
  .next (s.runDesc i r { opcode := 0x10, used := [(32, 2), (34, 1)], buf := true } fun s j d =>
    let v := d.num 32 2
    let top := s.minMaxLen - (if v = 0 then 4 else 8)
    if d.length < 60 ∨ top < d.length ∨ 4095 < v ∨ 7 < d.num 34 1 then s.complete j cInvalid 0
    else match buf with
    | none => s.hostFail j
    | some fr =>
      let x := s.slice i
      let fr : EthFrame := { fr with vlan := if v = 0 then none else some v, pcp := d.num 34 1, fcsOk := true,
                                     sTag := none, len := d.length + (if v = 0 then 4 else 8) }
      if fr.src ≠ x.mac ∨ (v ≠ 0 ∧ ¬ x.vlans.contains v) then
        let s := s.updSwc fun w => { w with spoof := sat32 w.spoof 1 }
        (s.glintSee (5 + x.port) 0 fr { cls := s.frameClass true fr }).complete j cDenied 0
      else
        (s.updSwc fun w => { w with unsealed := w.unsealed ++ [(j, i.val, fr)] }).releaseFrames)

/-- GLINT_SUB (R246, R250, R310): directs a sampler to a slice's receive ring, or releases it. -/
def execGlintSub (i : Fin 64) (r : Fin 8) (s : State) : Res :=
  .next (s.runDesc i r
    { opcode := 0x11, used := [(32, 1), (33, 1), (34, 2), (36, 1), (37, 1)], may := fun _ => i.val = 0,
      present := fun d => decide (d.num 32 1 < portCount) || decide (23 < d.num 32 1) } fun s j d =>
    let p := d.num 32 1
    let dir := d.num 33 1
    let g := s.swc.glint.get p
    let q := s.cq (d.num 36 1) (d.num 37 1)
    if 23 < p ∨ 2 < dir ∨ d.num 34 2 = 0 ∨ 63 < d.num 36 1 ∨ 7 < d.num 37 1 ∨ ¬ (q.on ∧ q.receive) then
      s.complete j cInvalid 0
    else if g.dir ≠ 0 ∧ (g.toMM ∨ (dir ≠ 0 ∧ g.slice ≠ d.num 36 1)) then s.complete j 0x0800 0
    else if dir = 0 then
      let s := s.updSwc fun w => { w with glint := w.glint.upd p fun g => { g with dir := 0, n := 0, count := 0 } }
      (s.mirror (.effect 0x11 p 0)).complete j cOk 0
    else
      let s := s.updSwc fun w => { w with glint := w.glint.upd p fun g =>
        { g with n := d.num 34 2, dir := dir, toMM := false, slice := d.num 36 1, ring := d.num 37 1, count := 0,
                 sampleNo := 0, skipped := 0 } }
      (s.mirror (.effect 0x11 p (d.spec.toNat % 2 ^ 48))).complete j cOk 0)

end Sys2Proof.Machine
end

