-- ==== Sys2Proof/Machine/Units.lean ====
section
/-! DEFINITION. Switchable units (R75, R76, R479): the write of EN and UNIT_CTRL, and the ends of STARTING and
STOPPING with what each kind of unit does then (R34, R147, R208, R225, R248, R272, R321, R330, R478). -/

namespace Sys2Proof.Machine

/-! ## Which units there are (R3, R75) -/

/-- The unit number lies in its range. -/
def unitInRange : UnitId → Bool
  | .port p => decide (p < 5)
  | .lens n => decide (n < 16)
  | .arm a => decide (a < 8)
  | .pwm n => decide (n < 32)
  | .fbc b => decide (b < 2)
  | .chain l c => decide (l < 16 ∧ c < 32)
  | .beam l => decide (l < 64)
  | .slice i => decide (i < 64)

/-- The variant has the unit (R3). -/
def unitPresent : UnitId → Bool
  | .lens n => decide (n < lensCount)
  | .chain l _ => decide (l < lensCount)
  | .arm _ => cnvPresent
  | .beam _ => cnvPresent
  | .pwm n => decide (n < pwmCount)
  | _ => true

/-- The package configures the unit (R479). -/
def State.configured (s : State) (u : UnitId) : Bool := (s.pkg.declares u).isSome

/-- Units run from SETUP on. -/
def State.unitsRun (s : State) : Bool := s.glb.phase = .setup || s.glb.phase = .running

/-! ## EN (R75, R76) -/

/-- EN becomes 1: a FENCED unit ignores it; a unit that is OFF starts. -/
def State.enable (s : State) (u : UnitId) : State :=
  if (s.unit u).fenced then s
  else
    let s := s.updUnit u fun x => { x with en := true }
    if (s.unit u).st = .off then s.unitBegin u else s

/-- EN becomes 0 on a unit that is ON: its work in hand ends as its chapter states. A lane whose arm is not BLOCKED
keeps its EN; a switching arm stops at its next frame (R186, R225). -/
def State.halt (s : State) (u : UnitId) : State :=
  let off := (s.updUnit u fun x => { x with en := false }).unitHalt u
  match u with
  | .beam l =>
    let busy : Bool := match s.laneArm l with | some (a, _) => (s.arms.get a).op ≠ .blocked | none => false
    if busy then s.event .beamLaneInUse l else off
  | .arm a =>
    if (s.arms.get a).op = .deblocked ∨ (s.arms.get a).op = .pending then
      s.updUnit u fun x => { x with en := false }
    else off
  | .lens l => off.stopLens l
  | .fbc b => (off.fbDiscard b (fun _ => true) cNotActive).silentStns b
  | .port p => off.flushPort p
  | _ => off

/-- EN of a lens becomes 0 before it has reached ON: its programs do not start; the safe image of each that is not stopped
is committed and STATE reads STOPPED, so the next start is a cold one (R478, DEDUCED, log 93). -/
def State.stopUnstarted (s : State) (l : Nat) : State :=
  s.each (s.lensLogic l) fun s p =>
    let st := (s.logic.get p).st
    let s := s.updLogic p fun x => { x with warm := false }
    if st = .none ∨ st = .running ∨ st = .exchanging then s.logicStop p .stopped else s

/-- EN becomes 0. -/
def State.disable (s : State) (u : UnitId) : State :=
  if (s.unit u).st = .on then s.halt u
  else
    let s := s.updUnit u fun x => { x with en := false }
    match u with
    | .lens l => if (s.unit u).st = .starting then s.stopUnstarted l else s
    | _ => s

/-- EN is written. -/
def State.setEn (s : State) (u : UnitId) (en : Bool) : State :=
  if (s.unit u).en = en then s else if en then s.enable u else s.disable u

/-- A write of EN through the set-up window (R48, R75, R479): a slice's EN is not writable there, nor any EN after RUN;
one that leaves EN as it is sets nothing. -/
def State.writeEn (s : State) (u : UnitId) (en : Bool) : State :=
  if (s.unit u).en = en then s
  else match u with
  | .slice _ => s.lockedWrite
  | _ => if s.rwlLocked then s.lockedWrite else if ¬ s.configured u then s else s.setEn u en

/-- UNIT_EN_WRITE (R48, R50, R75). -/
def execUnitEnWrite (u : UnitId) (en : Bool) (s : State) : Res :=
  .next (if ¬ s.windowOpen .h0 then s.notReadyWrite
    else if ¬ unitInRange u then s
    else if ¬ unitPresent u then s.setAbsent
    else s.writeEn u en)

/-- The unit that a UNIT_CTRL names. -/
def ctrlUnit (d : Desc) : Option UnitId :=
  let n := d.num 33 1
  let u : Option UnitId := match d.num 32 1 with
    | 0 => some (.port n) | 1 => some (.lens n) | 2 => some (.arm n) | 3 => some (.pwm n) | 4 => some (.fbc n)
    | 5 => some (.chain n (d.num 34 1)) | 6 => some (.beam n) | _ => none
  match u with | some u => if unitInRange u then some u else none | none => none

/-- STATE of a unit (R75). -/
def ustateCode : UState → Nat | .off => 0 | .starting => 1 | .on => 2 | .stopping => 3

/-- UNIT_CTRL (R75, R76, R310): completes when EN is written. What a lane that refuses to stop completes with is not
stated, so a free code. -/
def execUnitCtrl (i : Fin 64) (r : Fin 8) (s : State) : Res :=
  .next (s.runDesc i r { s0Form i 4 none [(32, 4)] with
      present := fun d => match ctrlUnit d with | some u => unitPresent u | none => true } fun s j d =>
    match ctrlUnit d with
    | none => s.complete j cInvalid 0
    | some u =>
      let en : Bool := d.num 35 1 = 1
      if 1 < d.num 35 1 ∨ ¬ s.configured u then s.complete j cInvalid 0
      else if en ∧ (s.unit u).fenced then s.complete j cNotActive 0
      else
        let s := (s.setEn u en).mirror (.effect 4 (unitKey u) (if en then 1 else 0))
        let st := ustateCode (s.unit u).st
        if (s.unit u).en = en then s.complete j cOk st
        else
          let (c, s) := s.freeCode
          s.complete j c st)

/-! ## Starting -/

/-- A BIST operation tests the region of a unit, so its start waits (R418). -/
def State.bistHolds (s : State) (u : UnitId) : Bool :=
  s.bst.busy && (match u with
    | .lens n => s.bst.region = n
    | .port p => s.bst.region = 0x200 + p || s.bst.region = 0x300 + p
    | .beam l => s.bst.region = 0x210 + l || s.bst.region = 0x310 + l
    | _ => false)

/-- What the start needs before it can end: a lane has block lock and its first calibration (R222). -/
def State.startable (s : State) : UnitId → Bool
  | .beam l => (s.beams.get l).locked && (s.beams.get l).calValid
  | _ => true

/-- A front port starts or stops to run PTP (R261, R268): it listens, or is a master where this module is grandmaster. -/
def State.ptpPort (s : State) (p : Nat) (on : Bool) : State :=
  s.updCol fun c => { c with ports := c.ports.upd p fun x =>
    { x with st := if !on || s.pkg.col.ptpMode = 2 then .disabled else if c.gm then .master else .listening } }

/-- What begins when a unit reaches ON. -/
def State.unitWork (s : State) : UnitId → State
  | .lens l => s.lensOn l
  | .fbc b =>
    let s := s.updFbc b fun f =>
      { f with supervise := s.now, tec := 0, recCnt := 0, seqDone := false, recoverAsked := false,
               toArrival := false, holdArrival := false, onWire := none, highWater := 0 }
    (((s.fbMode b .arrival).clearAlarm .fbBusoff b).fbQueueAll b).fbOffer b
  | .arm a => s.updArm a fun x => { x with op := .blocked, pend := none, rankAfresh := true }
  | .port p => s.ptpPort p true
  | _ => s

/-- A slice reaches ON: its first rings exist, SLICE_STATE reads ACTIVE, polling begins, and SLICE_CREATE
completes (R321). -/
def State.sliceOn (s : State) (i : Nat) : State :=
  match s.svc.running with
  | some o => match o.work with
    | .sliceCreate b =>
      if b.slice ≠ i then s
      else
        let s := s.unitStarted (.slice i)
        let s := (s.makeCq i b.cq0).makeSq i b.sq0
        let s := (s.setSliceState i .active).resumePolls i
        ((s.hostWrite i (.pollUs (s.slice i).minUs)).mirror (.newSlice b)).svcEnd cOk 0
    | _ => s
  | none => s

/-- A slice that a restart has kept is ON again; it is polled unless it is paused or being reset. -/
def State.sliceBack (s : State) (i : Nat) : State :=
  let s := s.unitStarted (.slice i)
  if (s.slice i).paused ∨ (s.slice i).work.isSome then s else s.resumePolls i

/-- A SLICE_CREATE is bringing up the slice. -/
def State.creating (s : State) (i : Nat) : Bool :=
  match s.svc.running with
  | some o => (match o.work with | .sliceCreate b => b.slice = i | _ => false)
  | none => false

/-- The end of STARTING (R76). -/
def State.startDone (s : State) (u : UnitId) : State :=
  match u with
  | .slice i => if s.creating i then s.sliceOn i else s.sliceBack i
  | .pwm n => s.updPwm n fun p => { p with startReady := true }
  | _ =>
    let s := s.unitStarted u
    if s.unitOn u then s.unitWork u else s

/-- UNIT_START_DONE (R76): STARTING ends, unless a test of the unit's region holds it (R418). A local PWM channel is
ON from the first period start after that (R208). -/
def execUnitStartDone (u : UnitId) (s : State) : Res :=
  .next (if (s.unit u).st = .starting ∧ s.unitsRun ∧ ¬ s.bistHolds u ∧ s.startable u then s.startDone u else s)

/-- UNIT_START_FAILED (R76): STARTING has exceeded its limit. A SLICE_CREATE then has no effect (R74), and what it answers
is not stated, so a free code. -/
def execUnitStartFailed (u : UnitId) (s : State) : Res :=
  let x := s.unit u
  .next (if x.st ≠ .starting ∨ ¬ s.unitsRun ∨ s.bistHolds u then s
    else
      let s := s.upTo (x.since + startLimit u + 1)
      let s := s.updUnit u fun x => { x with st := .off, startFailed := true, en := false, since := s.now }
      let s := s.event .unitStartFailed (unitKey u)
      match u with
      | .slice i =>
        if s.creating i then
          let (c, s) := (s.updSlice i noSlice).freeCode
          s.svcEnd c 0
        else s
      | _ => s)

/-! ## Stopping -/

/-- What keeps a unit STOPPING: a CAN FD frame in progress (R272), a final COMMIT of the lens's programs (R478), a
removal that has not reached its last step (R330). -/
def State.stoppable (s : State) : UnitId → Bool
  | .fbc b => (s.fbcs.get b).onWire.isNone
  | .lens l => (s.lensLogic l).all fun p => !(s.logic.get p).committing && (s.logic.get p).safeDue.isNone
  | .slice i => match (s.slice i).work with | some w => w.step = 7 | none => false
  | _ => true

/-- What a unit loses when it is OFF. -/
def State.unitLost (s : State) : UnitId → State
  | .lens l => s.lensOff l
  | .port p => (s.updPort p fun q => { q with link := false, fecLock := false }).ptpPort p false
  | .fbc b => (s.fbCut b).silentStns b
  | .pwm n => s.pwmOff n
  | _ => s

/-- The removal of a slice ends (R330). -/
def State.removed (s : State) (i : Nat) (c : Code) : State :=
  match (s.slice i).work with
  | some w =>
    let s := s.updSlice i fun x => { x with st := .off, work := none, stopped := false, silent := true }
    let s := s.complete w.jseq c (resetResult w s.ts)
    (s.nextResets i (s.slice i).workQueue.length).syncSlice 0
  | none => s

/-- The end of STOPPING (R76). -/
def State.stopDone (s : State) (u : UnitId) : State :=
  match u with
  | .pwm n =>
    match s.pwmNext n with
    | some t => if s.pwmCfg n |>.present then (s.upTo t).pwmStart n else (s.pwmOff n).unitStopped u
    | none => (s.pwmOff n).unitStopped u
  | .slice i =>
    let lost := match (s.slice i).work with | some w => s.hostLost i w | none => false
    (s.unitStopped u).removed i (if lost then 0x0308 else cOk)
  | _ => (s.unitLost u).unitStopped u

/-- UNIT_STOP_DONE (R76): STOPPING ends; a local PWM channel stops at the end of its period (R208). -/
def execUnitStopDone (u : UnitId) (s : State) : Res :=
  .next (if (s.unit u).st = .stopping ∧ s.stoppable u then s.stopDone u else s)

/-- UNIT_FENCED (R76): STOPPING has exceeded its limit; the unit is isolated. A slice's removal ends with
ABORTED_RESET, and nothing more is written to its memory (R333). -/
def execUnitFenced (u : UnitId) (s : State) : Res :=
  let x := s.unit u
  .next (if x.st ≠ .stopping then s
    else
      let s := s.upTo (x.since + stopLimit u + 1)
      let s := s.updUnit u fun x => { x with st := .off, fenced := true, en := false, since := s.now }
      let s := s.alarm .unitFenced (unitKey u)
      match u with
      | .slice i => s.removed i cAbortedReset
      | _ => s.unitLost u)

/-! ## Units follow the package (R479) -/

/-- Every unit takes the EN its package declares: declared units start again, the others stop. Stations without an input
image follow their controller (R129). -/
def State.unitsFromPackage (s : State) : State :=
  let s := s.each s.pkg.en fun s p =>
    match p.1 with
    | .slice _ => s
    | u =>
      if ¬ unitInRange u ∨ ¬ unitPresent u ∨ (s.unit u).fenced then s
      else if p.2 then
        let s := s.updUnit u fun x => { x with en := true }
        let s := if (s.unit u).st = .off ∨ (s.unit u).st = .on then s.unitBegin u else s
        match u with | .fbc b => s.silentStns b | _ => s
      else s.disable u
  let gone := (List.range 5).map UnitId.port ++ (List.range 16).map UnitId.lens ++ (List.range 8).map UnitId.arm
    ++ (List.range 32).map UnitId.pwm ++ (List.range 2).map UnitId.fbc ++ (List.range 64).map UnitId.beam
    ++ (List.range 16).flatMap fun l => (List.range 32).map fun c => UnitId.chain l c
  s.each (gone.filter fun u => !s.configured u && (s.unit u).en) fun s u => s.disable u

end Sys2Proof.Machine
end

