-- ==== Sys2Proof/Machine/Wire.lean ====
section
/-! DEFINITION. The bytes of what the module writes to host memory, to its journal and to the mirror link, where the
spec lays them out (R295, R301, R302, R305, R307, R334, R353 to R355, R370). The state holds the values by field; these
are the layouts (log 90). -/

namespace Sys2Proof.Machine

/-- One bit of a flag byte. -/
def flagBit (v : Bool) (k : Nat) : Nat := if v then 2 ^ k else 0

/-! ## Codes -/

def phaseCode : Phase → Nat
  | .kaStart => 0 | .boot => 1 | .mmStart => 2 | .selfTest => 3 | .setup => 4 | .running => 5 | .held => 6
  | .bootFailed => 7 | .safe => 8
def lcsCode : Lcs → Nat
  | .manufacture => 0 | .provisioned => 1 | .operational => 2 | .service => 3 | .decommissioned => 4
/-- RING_STATE of the status block (R295). -/
def sqCode : SqState → Nat
  | .off => 0 | .running => 1 | .seqWait => 2 | .limit => 3 | .svcBusy => 4 | .cqFull => 5 | .hostFault => 6
  | .destroying => 7
/-- SLICE_STATE of the status block (R295). -/
def sliceStateCode : SliceState → Nat | .off => 0 | .active => 1 | .resetting => 2 | .resetDone => 3

/-! ## Rings (R301, R302, R307) -/

/-- A descriptor (R307). -/
def descBytes (d : Desc) : List Byte :=
  leBytes 8 d.seq ++ leBytes 2 d.opcode ++ leBytes 2 d.flags.toNat ++ leBytes 4 d.length ++ leBytes 8 d.bufAddr
    ++ leBytes 8 d.aux ++ leBytes 32 d.spec.toNat

/-- A completion entry (R301). -/
def cplBytes (phase : Bool) (seq : Nat) (status : Code) (resumed : Bool) (ring ts : Nat) (result : BitVec 128) :
    List Byte :=
  leBytes 8 seq ++ leBytes 2 status.toNat ++ leBytes 2 (flagBit phase 0 + flagBit resumed 1 + ring % 8 * 4) ++ leBytes 4 ts
    ++ leBytes 16 result.toNat

/-- The header of a receive entry (R302). -/
def recvBytes (phase trunc : Bool) (ts len source port : Nat) : List Byte :=
  leBytes 4 ts ++ leBytes 2 len ++ leBytes 1 source ++ leBytes 1 (flagBit phase 0 + flagBit trunc 1) ++ leBytes 4 port
    ++ leBytes 20 0

/-- A page record of the dirty log (R334). -/
def pageBytes (phase : Bool) (page : Nat) : List Byte := leBytes 8 (page % 2 ^ 52 + flagBit phase 63)

/-- The bytes of a write to host memory (R295, R301, R302, R334). -/
def hostBytes : HostWrite → List Byte
  | .acceptedSeq _ v => leBytes 8 v
  | .head _ v => leBytes 4 v
  | .ringState _ st => leBytes 1 (sqCode st)
  | .cqState _ on full => leBytes 1 (flagBit on 0 + flagBit full 1)
  | .sliceState st => leBytes 4 (sliceStateCode st)
  | .pollUs us => leBytes 4 us
  | .completion _ _ phase seq status resumed ring ts result => cplBytes phase seq status resumed ring ts result
  | .payload _ _ bs => bs
  | .receive _ _ phase trunc ts len source port => recvBytes phase trunc ts len source port
  | .buffer _ bs => bs
  | .dirty _ _ phase page => pageBytes phase page
  | .report _ seq status resumed ring ts result =>
    cplBytes (Config.reportPhase seq) seq status resumed ring ts result
  | .svcResult _ bs => bs

/-! ## The journal (R305) -/

/-- A journal entry. CPL is the completion entry, once written; its PHASE is the one it was written with. -/
def journalBytes (phase : Bool) (e : JEntry) : List Byte :=
  let st : Nat := match e.state with | .accepted => 0 | .started => 1 | .completed => 2
  let cpl := if e.state = .completed then cplBytes phase e.desc.seq e.status e.resumed e.ring e.endTs e.result
    else leBytes 32 0
  let bs := leBytes 8 e.jseq ++ leBytes 1 e.slice ++ leBytes 1 e.ring ++ leBytes 1 (flagBit e.dup 0) ++ leBytes 1 st
    ++ leBytes 4 e.ts ++ descBytes e.desc ++ cpl ++ leBytes 12 0
  bs ++ leBytes 4 (crc32 bs).toNat

/-! ## The mirror link (R191, R353 to R355, R370) -/

/-- An arm record (R191): INSERT as a bit map, or the duties of a PSC arm. -/
def armBytes (a : Nat) (r : ArmRec) : List Byte :=
  let insert : List Byte :=
    if r.psc then r.duties.flatMap (leBytes 2) else leBytes 256 (r.inserted.foldl (fun n i => n ||| 2 ^ i) 0)
  leBytes 8 r.frame ++ leBytes 1 a ++ leBytes 1 r.opstate ++ leBytes 1 r.cause
    ++ leBytes 1 (flagBit r.dir 0 + flagBit r.held 1 + flagBit r.clamped 2 + flagBit r.tolHold 3 + flagBit r.psc 4)
    ++ leBytes 2 r.nOn ++ leBytes 2 r.frac ++ leBytes 2 (r.carrier0.getD 0xFFFF) ++ leBytes 2 (r.carrier1.getD 0xFFFF)
    ++ leBytes 2 r.avail ++ leBytes 10 0 ++ bytesAt insert 0 256

/-- The 256 bytes of a RING item: 24 B per submission ring and 8 B per completion or receive ring (DESIGN CHOICE,
log 90). -/
def ringBytes (nx ac hd : List Nat) (wr : List (Nat × Bool)) : List Byte :=
  let at_ (l : List Nat) (r : Nat) : Nat := (l[r]?).getD 0
  ((List.range 8).flatMap fun r => leBytes 8 (at_ nx r) ++ leBytes 8 (at_ ac r) ++ leBytes 4 (at_ hd r) ++ leBytes 4 0)
    ++ (List.range 8).flatMap fun c =>
      let w := (wr[c]?).getD (0, true)
      leBytes 4 w.1 ++ leBytes 1 (flagBit w.2 0) ++ leBytes 3 0

/-- KIND, FLAGS, REF and payload of an item (R355). The order of the fields of a RING, PUBLISHER or PACKAGE payload is a
DESIGN CHOICE (log 90); a payload of which no field is laid out is free. -/
def itemParts (phase : JEntry → Bool) (x : Item) : Nat × Nat × Nat × List Byte :=
  match x with
  | .facetSeal l f r => (0x01, 0, fKey l f, sealBytes r ++ leBytes 4 ((r.crc.getD 0).toNat))
  | .arm a r => (0x02, 0, a, armBytes a r)
  | .logicOut p image => (0x03, 0, p, image)
  | .journal e => (0x10, 0, e.slice * 8 + e.ring, journalBytes (phase e) e)
  | .journalFree j => (0x11, 0, 0, leBytes 8 j)
  | .ring i nx ac hd wr => (0x12, 0, i, ringBytes nx ac hd wr)
  | .slice i _ | .share i _ => (0x13, 0, i, Config.itemPayload x)
  | .newSlice b | .sliceImage b .. => (0x13, 0, b.slice, Config.itemPayload x)
  | .publisher g st sq d => (0x20, 0, g, leBytes 4 g ++ leBytes 4 st ++ leBytes 4 sq ++ leBytes 4 0 ++ leBytes 8 d.toNat)
  | .fbGseq i g => (0x21, 0, i, leBytes 4 g)
  | .settings l f fn _ bs => (0x22, fn, fKey l f, bs)
  | .packageBody off len i => (0x23, 1, off, (List.range len).map fun k => Config.packageByte i.digest (off + k))
  | .packageCommit d n => (0x23, 0, 0, leBytes 64 d.toNat ++ leBytes 8 n)
  | .bank l c _ _ => (0x24, 0, chainKey l c, Config.itemPayload x)
  | .effect _ u _ => (0x24, 0, u, Config.itemPayload x)
  | .resyncEnd e => (0x25, 0, 0, leBytes 8 e)

/-- An item: its 8-byte header, and the payload padded with zeros to a multiple of 8 B (R355). -/
def itemBytes (phase : JEntry → Bool) (x : Item) : List Byte :=
  let (kind, flags, ref, p) := itemParts phase x
  leBytes 1 kind ++ leBytes 1 flags ++ leBytes 2 p.length ++ leBytes 4 ref ++ bytesAt p 0 (ceilDiv p.length 8 * 8)

/-- The header of an epoch (R354). -/
def epochHeader (e : Epoch) : List Byte :=
  let kind : Nat := match e.kind with | .converter => 0 | .protection => 1 | .logic => 2 | .record => 3
  leBytes 2 0x5E4C ++ leBytes 1 kind ++ leBytes 1 e.lens ++ leBytes 2 e.modnum ++ leBytes 2 e.items.length
    ++ leBytes 8 e.num ++ leBytes 8 e.cycle ++ leBytes 4 e.ts ++ leBytes 2 e.source ++ leBytes 2 (flagBit e.resync 0)

/-- An epoch: header, items and trailer, whose CRC covers all before it (R354). -/
def epochBytes (phase : JEntry → Bool) (e : Epoch) : List Byte :=
  let h := epochHeader e ++ e.items.flatMap (itemBytes phase)
  let bs := h ++ leBytes 2 0x4C5E ++ leBytes 2 0 ++ leBytes 4 h.length ++ leBytes 4 e.num
  bs ++ leBytes 4 (crc32 bs).toNat

/-- The bytes of an epoch that its next EPOCH_DATA segment carries: as many as fit in 2,048 B, but for so many that the last
segment would fall below 16 B (R353; DESIGN CHOICE, log 90). -/
def segmentLen (n : Nat) : Nat := if n ≤ 2044 then n else if n < 2056 then n - 12 else 2044

/-- EPOCH_DATA segments of an epoch's bytes: TYPE 0, a reserved byte, the number of bytes that follow, and those bytes
(R353). `fuel`: at most so many segments. -/
def dataSegments : Nat → List Byte → List (List Byte)
  | 0, _ => []
  | _, [] => []
  | n + 1, bs =>
    let k := segmentLen bs.length
    (leBytes 1 0 ++ leBytes 1 0 ++ leBytes 2 k ++ bs.take k) :: dataSegments n (bs.drop k)

/-- The segments in which an epoch travels on each link (R353). -/
def epochSegments (phase : JEntry → Bool) (e : Epoch) : List (List Byte) :=
  let bs := epochBytes phase e
  dataSegments bs.length bs

/-- The 56-byte body of a health report (R370). -/
def healthBytes (h : Health) : List Byte :=
  leBytes 2 h.modnum ++ leBytes 1 h.role
    ++ leBytes 1 (flagBit h.ready 0 + flagBit h.strapPrimary 1 + flagBit h.interlockFault 2 + flagBit h.link0 3 + flagBit h.link1 4
      + flagBit h.resync 5)
    ++ leBytes 1 h.stale ++ leBytes 1 h.lcs ++ leBytes 1 h.phase ++ leBytes 1 0 ++ leBytes 4 h.ts
    ++ leBytes 4 h.reportNo ++ leBytes 8 h.epoch ++ leBytes 16 h.pkg.toNat ++ leBytes 4 h.rotationMs
    ++ leBytes 2 h.stFails ++ leBytes 2 h.spares ++ leBytes 8 0

/-- A control segment or a health report: TYPE, three zero bytes, the content, and a CRC-32 (R353, R370). -/
def segmentBytes (x : Segment) : List Byte :=
  let (type, body) : Nat × List Byte := match x with
    | .ack e => (1, leBytes 8 e)
    | .nack e => (2, leBytes 8 e)
    | .resyncReq e => (3, leBytes 8 e)
    | .health h => (4, healthBytes h)
  let bs := leBytes 1 type ++ leBytes 3 0 ++ body
  bs ++ leBytes 4 (crc32 bs).toNat

end Sys2Proof.Machine
end

