-- ==== Sys2Proof/Machine/Grant.lean ====
section
/-! DEFINITION. The grant and the claim (R340 to R352): what happens at each gated output when the grant falls or
comes (R341, R342, R364 to R367), the interlock (R343 to R346), claims (R347 to R350), boundaries and yields. -/

namespace Sys2Proof.Machine

/-! ## Loss of the grant (R341, R342) -/

/-- The PWM outputs go off and stay gated (R203, R208). -/
def State.gatePwm (s : State) : State :=
  s.each s.pwmList fun s n =>
    (s.updPwm n fun p => { p with gated := true, gatedAt := s.now }).pwmOff n

/-- Pending deblocks end with DEBLOCK_REFUSED, FAILED 5 (R187). -/
def State.dropDeblocks (s : State) : State :=
  s.each s.armList fun s a =>
    match (s.arms.get a).op, (s.arms.get a).pend with
    | .pending, some (j, _, _) => s.endDeblock j 0x0601 5
    | _, _ => s

/-- A running logic program is left at its last committed cycle, which becomes its checkpoint: a standby runs none
(R362). -/
def State.suspendLogic (s : State) (p : Nat) : State :=
  let c := s.pkg.logic.get p
  let x := s.logic.get p
  let s := s.updFacet c.lens (s.host c.lens c.facet) fun y =>
    { y with run := if y.run = .active then .gated else y.run, gate := .ended, stack := [], qTick := false }
  let s := s.updProg c.lens c.facet fun q => { q with computing := false, nextTick := none }
  let s := s.updMlk fun m =>
    { m with seals := (match x.commitSeal with | some r => putRow m.seals (fKey c.lens c.facet) r | none => m.seals)
             outs := putRow m.outs p x.image }
  s.updLogic p fun x =>
    { x with st := (match x.safeDue.getD x.st with | .exchanging => .running | v => v), phase := .idle,
             exchPending := false, exchStart := none, removeAsked := false, committing := false, commitDue := false, safeDue := none,
             stopAsked := false, startAsked := false, stopBy := [], startBy := [], wdogExt := 0 }

def State.logicList (s : State) : List Nat := (List.range 64).filter fun p => (s.pkg.logic.get p).present

/-- The program whose cycle number an exchange records: the first logic program that a package changes; none when it
changes loop programs alone, which count converter frames (R136, R429). -/
def exchangeProgram (a b : Package) : Option Nat :=
  (List.range 64).find? fun p => a.logic.get p ≠ b.logic.get p ||
    a.facets.get (fKey (a.logic.get p).lens (a.logic.get p).facet) ≠
      b.facets.get (fKey (b.logic.get p).lens (b.logic.get p).facet)

/-- Every output that the grant gates is blocked in the clock in which the grant falls (R342). -/
def State.blockOutputs (s : State) : State :=
  let s := s.flushBeams
  let on := (List.range 4).filter fun m => (s.tos.get m).closed && s.mlk.grant
  let s := (s.updMlk fun m => { m with grant := false }).dropCommands
  let s := s.emits (on.map fun m => .tripOut m false)
  let s := s.gatePwm
  let s := (s.fbGrantLost 0).fbGrantLost 1
  s.dropDeblocks

/-- The claim stops, and the grant falls in the same clock; descriptors that were never accepted are forgotten, and
the role becomes `r` (R342, R350). -/
def State.dropGrant (s : State) (r : MlkRole) : State :=
  let claiming : Bool := s.mlk.role = .claiming || s.mlk.role = .active
  let s := if claiming then s.emit (.claim false) else s
  let s := if s.mlk.grant then
      let s := s.blockOutputs
      let s := s.each s.logicList fun s p => s.suspendLogic p
      let s := (s.updSwc fun w => { w with unsealed := [] }).each [0, 1] fun s b =>
        s.updFbc b fun f => { f with unsealed := [] }
      let s := s.recover
      s.updHif fun h => { h with journal := h.journal.filter fun e => e.sealed || e.accepted
                                 slices := h.slices.mapRows fun _ x => { x with pollOut := false } }
    else s
  s.updMlk fun m => { m with role := r, windowEnded := false, yieldAt := false, partner := .none, items := [],
                             sent := [], resyncOut := false, reqEnd := none, reqCopy := none }

/-! ## The standby (R353, R360) -/

def State.mirrorUp (s : State) : Bool := s.mlk.link0.up || s.mlk.link1.up

/-- A full resynchronisation begins at a standby: it drops its staged epochs, is not ready, and asks for a snapshot
on a link that is up (R360). -/
def State.startResync (s : State) : State :=
  let s := s.updMlk fun m => { m with staged := [], complete := false, synced := false, resyncing := false,
                                      resyncEnd := none, failedCopies := [], fails := [] }
  if s.mlk.role = .standby ∧ s.pkg.mlk.paired ∧ s.mirrorUp then
    (s.updMlk fun m => { m with resyncOut := true }).emit (.segment (.resyncReq s.mlk.epoch))
  else s

/-- The module leaves RUNNING or OPERATIONAL: its role is OFFLINE (R350). -/
def State.toOffline (s : State) : State :=
  if s.mlk.role = .offline then s else (s.dropGrant .offline).updMlk fun m => { m with complete := false }

/-- Digest of the active configuration package. -/
def State.pkgDigest (s : State) : BitVec 512 :=
  match (if s.svc.active then s.svc.cfg1 else s.svc.cfg0) with | some i => i.digest | none => 0

/-- The first 16 bytes of the active package's digest (R370). -/
def State.pkgHead (s : State) : BitVec 128 := s.pkgDigest.setWidth 128

/-- The conditions of R368 besides the role. -/
def State.fit (s : State) : Bool :=
  s.glb.phase = .running && s.glb.lcs = .operational && !s.mlk.mmDown && s.mlk.complete
    && decide (s.mlk.stale < 3) && !s.mlk.resyncOut && s.mirrorUp && s.mlk.packageStaged && !s.mlk.selfTestFailed
    && (match s.mlk.lastHealth with | some (_, h) => h.pkg = s.pkgHead | none => false)

/-- Ready for takeover (R368). -/
def State.ready (s : State) : Bool := s.mlk.role = .standby && s.fit

def roleCode : MlkRole → Nat | .offline => 0 | .standby => 1 | .claiming => 2 | .active => 3

/-- This module's health report (R370). -/
def State.health (s : State) : Health :=
  { modnum := s.glb.modnum.toNat, role := roleCode s.mlk.role, ready := s.ready, strapPrimary := s.mlk.strapPrimary,
    interlockFault := s.mlk.ilkFault, resync := s.mlk.resyncOut, stale := s.mlk.stale,
    reportNo := s.mlk.reportNo, epoch := s.mlk.sealedOrCommitted, pkg := s.pkgHead,
    link0 := s.mlk.link0.up, link1 := s.mlk.link1.up, lcs := lcsCode s.glb.lcs, phase := phaseCode s.glb.phase,
    ts := s.ts, rotationMs := s.mlk.rotationMs, stFails := s.mlk.stFails,
    spares := (List.range 16).foldl (fun n l => n + (s.lenses.get l).free.length) 0 }

/-- Sends a health report: a HEALTH segment on the mirror links, and a frame of Ethertype 0x88B6 in TC3 from the Module
Manager's port to slice 0's address, once it has one (R370). -/
def State.sendHealth (s : State) : State :=
  let h := s.health
  let body := healthBytes h
  let s := s.updMlk fun m => { m with reportNo := (m.reportNo + 1) % 2 ^ 32, lastReport := s.now }
  let s := s.emit (.segment (.health h))
  let fr : EthFrame := { dst := (s.slice 0).mac, ethertype := 0x88B6, payload := body, len := 74 }
  if ¬ s.unitOn (.slice 0) then s
  else
    let (s, f) := s.forwardAs 7 3 fr
    s.glintSee 7 0 fr f

/-- PHASE is RUNNING: the role machine starts, and the first health report is sent (R350, R370). -/
def State.enterRunning (s : State) : State :=
  let s := s.updGlb fun g => { g with phase := .running }
  let s := s.updMlk fun m => { m with runningSince := s.now, soloPassed := false, partnerGoodSeen := false,
                                      healthSeen := false }
  let s := if s.glb.lcs = .operational then
      (s.updMlk fun m => { m with role := .standby }).startResync
    else s
  s.sendHealth

/-! ## What a claim needs (R349, R350) -/

/-- One of the four cases of R349. -/
def State.claimCase (s : State) : Bool :=
  let m := s.mlk
  s.fit || !s.pkg.mlk.paired
    || (m.soloPassed && !m.partnerGoodSeen && (!m.healthSeen || (m.strapPrimary && !m.prefConflict)))
    || (s.pkg.mlk.orphanClaim && m.orphanPassed)

/-- Conditions of R349 that can lapse while a claim waits for its boundary: all but the partner's release and the
waits. -/
def State.claimHolds (s : State) : Bool :=
  let m := s.mlk
  s.glb.phase = .running && s.glb.lcs = .operational && !m.inhibit && !m.ilkFault && !m.loopA.ownOpen
    && !m.loopB.ownOpen && s.claimCase

/-- A claim that waits for its boundary stops when a condition lapses (R350). -/
def State.claimLapse (s : State) : State :=
  if s.mlk.role = .claiming ∧ s.mlk.windowEnded ∧ ¬ s.claimHolds then s.dropGrant .standby else s

/-! ## The interlock (R344 to R346) -/

def State.loop (s : State) : Loop → LoopSt | .a => s.mlk.loopA | .b => s.mlk.loopB
def State.updLoop (s : State) (x : Loop) (f : LoopSt → LoopSt) : State :=
  s.updMlk fun m => match x with | .a => { m with loopA := f m.loopA } | .b => { m with loopB := f m.loopB }

/-- The loops have changed: an agreed reading is the partner's (R345). -/
def State.readLoops (s : State) : State :=
  let a := s.mlk.loopA.claimed
  if a ≠ s.mlk.loopB.claimed then
    s.updMlk fun m => { m with differSince := some (m.differSince.getD s.now), agreeSince := none }
  else
    let was := s.mlk.partnerClaiming
    let s := s.updMlk fun m =>
      { m with differSince := none, agreeSince := some (m.agreeSince.getD s.now), partnerClaiming := a,
               releasedSince := if was ∧ ¬ a then s.now else m.releasedSince,
               orphanPassed := m.orphanPassed && !a,
               partnerClaim := m.partnerClaim || (a && m.role = .active) }
    s

/-- ILK_LOOP_CLAIMED (R344, R345): an edge on a loop. -/
def execIlkLoopClaimed (x : Loop) (s : State) : Res :=
  .next ((s.updLoop x fun l => { l with claimed := true, noCur := false, lastEdge := s.now }).readLoops)

/-- ILK_LOOP_RELEASED (R344, R345): 1.0 µs without an edge on a loop. -/
def execIlkLoopReleased (x : Loop) (noCur : Bool) (s : State) : Res :=
  let s := if (s.loop x).claimed then s.upTo ((s.loop x).lastEdge + 1000) else s
  .next ((s.updLoop x fun l => { l with claimed := false, noCur := noCur }).readLoops)

/-- ILK_DISAGREE (R345): the loops have differed for more than 10 µs. -/
def execIlkDisagree (s : State) : Res :=
  .next (match s.mlk.differSince with
  | some t =>
    if s.mlk.ilkFault then s
    else
      let s := s.upTo (t + 10001)
      ((s.updMlk fun m => { m with ilkFault := true, ilkFaults := sat32 m.ilkFaults 1 }).alarm .interlockFault 0).claimLapse
  | none => s)

/-- ILK_AGREE_RESTORED (R345): the loops have agreed for 1 ms. -/
def execIlkAgreeRestored (s : State) : Res :=
  .next (match s.mlk.agreeSince with
  | some t =>
    if s.mlk.ilkFault then
      ((s.upTo (t + 1000000)).updMlk fun m => { m with ilkFault := false }).clearAlarm .interlockFault 0
    else s
  | none => s)

/-! ## Claiming (R346 to R349) -/

/-- The module is secondary for R347. -/
def State.secondary (s : State) : Bool := !s.mlk.strapPrimary || s.mlk.prefConflict

/-- Wait after a withdrawal in ns (R348). -/
def State.withdrawWait (s : State) : Nat :=
  if s.mlk.prefConflict then 10000 * (1 + s.glb.modnum.toNat % 64) else 20000

/-- Period of the boundary generator in ns. -/
def State.boundaryPeriod (s : State) : Nat := (s.pkg.tps.get s.pkg.mlk.tp).period

/-- The claim is made for the ORPHAN_CLAIM case alone (R367). -/
def State.orphanOnly (s : State) : Bool :=
  let m := s.mlk
  !s.fit && s.pkg.mlk.paired
    && !(m.soloPassed && !m.partnerGoodSeen && (!m.healthSeen || (m.strapPrimary && !m.prefConflict)))

/-- Instant from which the waits of R348 and R352 let a claim start. -/
def State.claimAt (s : State) : Nat :=
  let m := s.mlk
  let a := if m.withdrawn then m.releasedSince + s.withdrawWait else 0
  let b := match m.yieldedAt with | some t => t + 2 * s.boundaryPeriod | none => 0
  Nat.max s.now (Nat.max a b)

/-- Tests that run on a standby stop when a claim starts: a facet under a rolling self-test joins the free spares, and an
operation of the Service Channel ends with BIST_ABORTED (R369, R418). -/
def State.abortBist (s : State) : State :=
  let s : State := { s with lenses := s.lenses.mapRows fun _ x =>
    match x.testing with | some f => { x with testing := none, free := f :: x.free } | none => x }
  match s.svc.running with
  | some o => match o.work with
    | .bist _ =>
      (s.updBst fun b => { b with busy := false, result := .aborted, aborts := sat32 b.aborts 1 }).svcEnd 0x0D01 0
    | _ => s
  | none => s

/-- CLAIM_START (R349): the conditions hold, and the claim and its window begin. -/
def execClaimStart (s : State) : Res :=
  .next (if s.mlk.role = .standby ∧ s.claimHolds ∧ ¬ s.mlk.loopA.claimed ∧ ¬ s.mlk.loopB.claimed then
      let s := s.upTo s.claimAt
      let orphan := s.orphanOnly
      let s := s.updMlk fun m => { m with role := .claiming, claimStart := s.now, windowEnded := false,
                                          orphanClaim := orphan, withdrawn := false, yieldedAt := none }
      (s.emit (.claim true)).abortBist
    else s)

/-- CLAIM_COLLISION (R347, R348): a partner edge inside the claim window; a secondary withdraws, and the time for which
the partner reads released starts again (DEDUCED, log 86). -/
def execClaimCollision (s : State) : Res :=
  .next (if s.mlk.role = .claiming ∧ ¬ s.mlk.windowEnded ∧ s.secondary then
      (s.dropGrant .standby).updMlk fun m =>
        { m with collisions := sat32 m.collisions 1, withdrawn := true, releasedSince := s.now }
    else s)

/-- CLAIM_WINDOW_END (R347): 1.0 µs after the start of the claim. -/
def execClaimWindowEnd (s : State) : Res :=
  .next (if s.mlk.role = .claiming ∧ ¬ s.mlk.windowEnded then
      ((s.upTo (s.mlk.claimStart + 1000)).updMlk fun m => { m with windowEnded := true }).claimLapse
    else s)

/-- OWN_OPEN (R346): a loop's own current has been absent for 0.5 µs; an ACTIVE module with both open drops its
grant. -/
def execOwnOpen (x : Loop) (s : State) : Res :=
  let s := s.updLoop x fun l => { l with ownOpen := true }
  .next (if s.mlk.role = .active ∧ s.mlk.loopA.ownOpen ∧ s.mlk.loopB.ownOpen then (s.dropGrant .standby).startResync
    else s.claimLapse)

/-- OWN_OPEN_CLEAR (R346). -/
def execOwnOpenClear (x : Loop) (s : State) : Res := .next (s.updLoop x fun l => { l with ownOpen := false })

/-- SOLO_WAIT_EXPIRY (R349). -/
def execSoloWaitExpiry (s : State) : Res :=
  .next (if s.mlk.role = .standby then
      (s.upTo (s.mlk.runningSince + s.pkg.mlk.soloWait * 10000000)).updMlk fun m => { m with soloPassed := true }
    else s)

/-- ORPHAN_WAIT_EXPIRY (R349): the partner has read released for ORPHAN_WAIT. -/
def execOrphanWaitExpiry (s : State) : Res :=
  .next (if s.mlk.role = .standby ∧ ¬ s.mlk.partnerClaiming then
      (s.upTo (s.mlk.releasedSince + s.pkg.mlk.orphanWait * 1000000)).updMlk fun m => { m with orphanPassed := true }
    else s)

/-! ## The grant comes (R364 to R367) -/

/-- Arms go on in the operating state of the last committed seal and rank afresh; a pending deblock does not
(R192). After an orphan takeover, or with no seal, every arm is BLOCKED. -/
def State.takeArms (s : State) (orphan : Bool) : State :=
  s.each s.armList fun s a =>
    match (if orphan then none else findRow s.mlk.arms a) with
    | some r =>
      let op : ArmOp := match r.opstate with | 2 => .deblocked | 3 => .tripped | _ => .blocked
      s.updArm a fun x => { x with op := op, trip := x.trip || decide (op = .tripped), pend := none, rankAfresh := true, firstDeblocked := false }
    | none => s.updArm a fun x => { x with op := .blocked, pend := none, rankAfresh := true }

/-- A running logic program goes on after its last committed cycle, from that seal; its mailboxes hold that cycle's
image, and LAST_US of its timers stays (R121, R364). After an orphan takeover its first cycle has FIRST_CYCLE set (R367). -/
def State.takeLogic (s : State) (p : Nat) (orphan : Bool) : State :=
  let c := s.pkg.logic.get p
  let x := s.logic.get p
  if x.st ≠ .running ∧ x.st ≠ .exchanging then s
  else match findRow s.mlk.seals (fKey c.lens c.facet) with
  | none => s
  | some r =>
    let img := (findRow s.mlk.outs p).getD x.image
    let s := s.updFacet c.lens (s.host c.lens c.facet) fun y =>
      { restoreArea (s.fCfg c.lens c.facet) r y with
        firstCycle := orphan, replayed := false, restored := true, gate := .ended, stack := [], ticked := false }
    let s := s.updProg c.lens c.facet fun q => { putSeal q r with cycle := r.cycle, computing := false }
    let s := s.updLogic p fun x =>
      { x with phase := .idle, cycle := r.cycle, commitSeal := some r, image := img, committing := false,
               commitDue := false, wdogExt := 0, warm := false, retime := false }
    s.each c.outputs fun s o =>
      s.updStn o.station fun t => { t with mailbox := bytesAt img o.span.off o.span.len, unsent := true }

/-- One frame from a publisher at once (R162, R367): a command publisher's is numbered after its record, another's goes
on from the module's own numbers, with the next stNum where the dataset has changed since its last frame (R160). -/
def State.takePublisher (s : State) (g : Nat) (orphan : Bool) : State :=
  if !(s.pkg.gps.get g).command then
    let p := s.gps.get g
    if s.dataset g ≠ p.data then s.gpChange g
    else s.gpSend g (Nat.max p.stNum 1) (wrapNum p.sqNum) (s.gpT1 g) p.data
  else
  let r : Option (Nat × Nat × BitVec 64) := match findRow s.mlk.pubs g with
    | some x => some x
    | none => (s.gps.get g).record
  match r with
  | none => s.gpSend g 1 1 (s.gpT1 g) (s.dataset g)
  | some (st, sq, d) =>
    if orphan then s.gpSend g ((st + 255) % 0xFFFFFFFF + 1) 1 (s.gpT1 g) (s.dataset g)
    else if d = dataDigest (s.dataset g) then s.gpSend g st (wrapNum sq) (s.gpT1 g) (s.dataset g)
    else s.gpSend g (wrapNum st) 1 (s.gpT1 g) (s.dataset g)

/-- Result of a descriptor that the takeover ends (R192, R365), or how it goes on. -/
def takeEntry (e : JEntry) : Option (Code × Nat) :=
  let d := e.desc
  if e.state = .completed then none
  else if d.opcode = 3 then some (0x0E00, 0)
  else if e.state = .started ∧ (d.opcode = 0x10 ∨ d.opcode = 0x51) then some (0x0E00, 0)
  else if e.state = .started ∧ d.opcode = 0x40 ∧ d.num 32 1 = 1 then some (0x0601, cnvResult 0 0 5)
  else none

/-- The SLICE_RESET that works on slice `i`, resumed at the first step not sealed as done (R333). -/
def State.takeReset (s : State) (i : Nat) : State :=
  match (s.slice i).work, s.hif.journal.find? fun e =>
      e.state = .started && e.desc.opcode = 0x82 && e.desc.num 32 1 = i && decide (e.desc.num 33 1 < 3) with
  | some _, some e =>
    s.updWork i fun w => { w with jseq := e.jseq, mode := if e.desc.num 33 1 = 1 then .reset else .remove }
  | some _, none => s.updSlice i fun x => { x with work := none, stopped := false }
  | none, _ => s

/-- Accepted descriptors without a committed completion execute once, with RESUMED; those of R365 that may not be
repeated end with TAKEOVER_INDOUBT. Every entry counts as sealed. -/
def State.resumeJournal (s : State) : State :=
  let works (e : JEntry) : Bool := e.state = .started && e.desc.opcode = 0x82
    && (s.slice (e.desc.num 32 1)).work.any fun w => w.jseq = e.jseq
  let s := s.updHif fun h => { h with journal := h.journal.map fun (e : JEntry) =>
    { e with sealed := true, resumed := e.resumed || e.state ≠ .completed, rewrite := e.state = .completed,
             state := if e.state = .started ∧ ¬ works e ∧ takeEntry e = none then .accepted else e.state } }
  let s := s.each s.hif.journal fun s e => match takeEntry e with
    | some (c, r) =>
      (s.complete e.jseq c r).updMlk fun m => if c = 0x0E00 then { m with inDoubt := sat32 m.inDoubt 1 } else m
    | none => s
  s.acceptSealed

/-- Every slice is polled from MIN_US, and every dirty log has overflowed where its filter is `lost` (R336, R364). -/
def State.resumeSlices (s : State) (lost : Bool) : State :=
  s.each s.hif.slices.keys fun s i =>
    let s := s.updSlice i fun x =>
      { x with curUs := x.minUs, empty := 0, pollNow := some s.now, pollOut := false
               dirty.overflow := (lost && x.dirty.on) || x.dirty.overflow }
    s.syncSlice i

/-- The grant is set (R350, R351, R364). A module that has adopted no partner's state goes on from its own journal. -/
def State.takeGrant (s : State) : State :=
  let s := s.flushBeams
  let orphan := s.mlk.orphanClaim
  let adopted := s.mlk.complete || orphan
  let s := s.updMlk fun m => { m with role := .active, grant := true, windowEnded := false, partner := .none,
                                      orphan := orphan, takeovers := sat32 m.takeovers 1, items := [], sent := [],
                                      resyncOut := false, staged := [], complete := false,
                                      reqEnd := none, reqCopy := none }
  let s := if orphan then s.alarm .orphanTakeover 0 else s
  let s := s.event .takeover 0
  let s := s.emits (((List.range 4).filter fun m => (s.tos.get m).closed).map fun m => .tripOut m true)
  let s := if adopted then s.takeArms orphan else s
  let s := if adopted then s.each s.logicList fun s p => s.takeLogic p orphan else s
  let s := if s.svc.staged.isSome then s.beginExchange else s
  let s := s.each s.mlk.gseqs fun s r => s.updStn r.1 fun t => { t with outGseq := (r.2 + 1) % 16 }
  let s := (s.fbGrantGained 0).fbGrantGained 1
  let s := s.each ((List.range 64).filter fun g => (s.pkg.gps.get g).en) fun s g =>
    s.takePublisher g orphan
  let s := if adopted then (s.each s.hif.slices.keys fun s i => s.takeReset i).resumeJournal else s.acceptSealed
  s.resumeSlices true

/-- TAKEOVER_BOUNDARY (R350 to R352): the next tick of the boundary generator: a claim whose window has ended
becomes the grant, and an accepted yield takes effect. -/
def execTakeoverBoundary (s : State) : Res :=
  .next (match s.pulseDue s.pkg.mlk.tp none with
  | none => s
  | some (_, t) =>
    let s := s.upToTai t
    if s.mlk.role = .claiming ∧ s.mlk.windowEnded then (if s.claimHolds then s.takeGrant else s.claimLapse)
    else if s.mlk.role = .active ∧ s.mlk.yieldAt then
      (s.dropGrant .standby).updMlk fun m => { m with yieldedAt := some s.now, complete := true }
    else s)

/-- A request for a planned switchover (R352). -/
def State.askYield (s : State) : State :=
  if s.mlk.role = .active ∧ s.paired ∧ ¬ s.mlk.ilkFault then s.updMlk fun m => { m with yieldAt := true }
  else s.updMlk fun m => { m with yieldRefused := true }

/-- YIELD (R352): a write of 1 to MLK_CTRL.YIELD. -/
def execYield (s : State) : Res :=
  .next (if s.windowOpen .h0 then s.askYield else s.notReadyWrite)

end Sys2Proof.Machine
end

