-- ==== Sys2Proof/Machine/Mirror.lean ====
section
/-! DEFINITION. The mirror: links (R361), health reports and the partner's service (R359, R370), epochs, what a
standby commits (R354 to R360), resynchronisation (R360), and rolling self-tests (R369). -/

namespace Sys2Proof.Machine

/-! ## Sealing at the ACTIVE module (R359) -/

/-- A body item of a package. -/
def isBody : Item → Bool
  | .packageBody .. => true
  | _ => false

/-- Once every body epoch of a shared package has its ACK, the digest and the exchange cycle follow, 50 ms and the
writing time ahead; when the partner has left service the module exchanges alone (R429, log 89). -/
def State.shareDone (s : State) : State :=
  match s.svc.staged with
  | none => s
  | some i =>
    if ¬ s.svc.sharing then s
    else if ¬ s.paired then s.updSvc fun v => { v with sharing := false }
    else if (s.mlk.items.any fun x => isBody x.2) ∨ (s.mlk.sent.any fun x => x.2.items.any isBody) then s
    else
      let wait := 50000000 + i.bodyLen * 10 / 4
      let cycle := match exchangeProgram s.pkg i.body with
        | some p => (s.logic.get p).cycle + 1 + ceilDiv wait ((s.pkg.logic.get p).minPeriodUs * 1000)
        | none => s.cnv.fnum + 1 + ceilDiv wait s.pkg.cnv.cf
      let s := (s.mirror (.packageCommit i.digest cycle)).updMlk fun m =>
        { m with exchangeCycle := some cycle, exchangeOf := exchangeProgram s.pkg i.body }
      s.updSvc fun v => { v with sharing := false, exchAt := s.now + wait }

/-- Journal entries that a condition names count as sealed; what that lets the module write and send follows. -/
def State.sealEntries (s : State) (p : JEntry → Bool) : State :=
  let mark (e : JEntry) : JEntry := if p e then { e with sealed := true } else e
  let s := s.updHif fun h => { h with journal := h.journal.map mark }
  let s := ((s.acceptSealed.releaseFrames).releaseSends 0).releaseSends 1
  s.shareDone.syncRings

/-- The partner leaves service: every epoch counts as sealed. -/
def State.sealAll (s : State) : State :=
  (s.updMlk fun m => { m with sealedTo := m.epoch, sealedOrCommitted := m.epoch }).sealEntries fun _ => true

/-- The partner leaves service as `p` (R359, R361). -/
def State.partnerOut (s : State) (p : Partner) : State :=
  let was := s.paired
  let s := s.updMlk fun m => { m with partner := p }
  if was ∧ s.mlk.role = .active then s.sealAll else s

/-- Instant of the oldest epoch without an ACK. -/
def State.oldestSent (s : State) : Option Nat := (s.mlk.sent.head?).map (·.1)

/-- PARTNER as the last health report and the ACKs show it (R359). -/
def State.judgePartner (s : State) : State :=
  match s.mlk.lastHealth with
  | none => s.partnerOut .none
  | some (t, h) =>
    let late : Bool := match s.oldestSent with | some u => decide (u + 100000 ≤ s.now) | none => false
    if t + 250000000 ≤ s.now then s.partnerOut .none
    else if s.mlk.reqEnd.isSome ∧ s.mlk.role = .active then s.partnerOut .resync
    else if h.resync then s.partnerOut .resync
    else if s.mlk.role = .active ∧ h.ready ∧ ¬ late then s.updMlk fun m => { m with partner := .inService }
    else s.partnerOut .notReady

/-- A mirror link. -/
def State.link (s : State) (k : Nat) : LinkSt := if k = 0 then s.mlk.link0 else s.mlk.link1
def State.updLink (s : State) (k : Nat) (f : LinkSt → LinkSt) : State :=
  s.updMlk fun m => if k = 0 then { m with link0 := f m.link0 } else { m with link1 := f m.link1 }

/-- A copy or a segment of a link fails its checks. -/
def State.badCopy (s : State) (k : Nat) : State := s.updLink k fun l => { l with bad := sat32 l.bad 1 }

/-- A mirror link is lost (R361). -/
def State.mirrorLost (s : State) (k : Nat) : State :=
  if ¬ (s.link k).up then s
  else
    let s := (s.updLink k fun l => { l with up := false, downs := sat32 l.downs 1 }).alarm .mirrorLink k
    if s.mirrorUp then s
    else if s.mlk.role = .active then s.partnerOut .none
    else (s.updMlk fun m => { m with complete := false }).claimLapse

/-- MIRROR_LINK_DOWN (R361, R374). -/
def execMirrorLinkDown (x : MirrorLink) (s : State) : Res :=
  .next ((s.mirrorLost x.link).updLink x.link fun l => { l with fecLock := false, rxLos := x.los })

/-- MIRROR_LINK_UP (R361): a standby whose links were both down asks for a resynchronisation. -/
def execMirrorLinkUp (x : MirrorLink) (s : State) : Res :=
  let k := x.link
  .next (if (s.link k).up ∨ s.hw.xcvrNoPwr.getLsbD (4 + k) then s
    else
      let both := !s.mirrorUp
      let s := (s.updLink k fun l => { l with up := true, fecLock := x.fec, rxLos := false }).clearAlarm .mirrorLink k
      if both ∧ s.mlk.role = .standby then s.startResync else s)

/-! ## Health (R348, R370) -/

/-- HEALTH_REPORT_SEND (R370, R435): 100 ms after the report before, while the Module Manager runs; a standby whose state
is not complete, and that has had no epoch of a snapshot, asks for one again. -/
def execHealthReportSend (s : State) : Res :=
  .next (if s.mmRuns then
      let s := (s.upTo (s.mlk.lastReport + 100000000)).sendHealth
      if s.mlk.role = .standby ∧ ¬ s.mlk.complete ∧ ¬ s.mlk.resyncing then
        if s.mlk.resyncOut ∧ s.mirrorUp then s.emit (.segment (.resyncReq s.mlk.epoch)) else s.startResync
      else s
    else s)

/-- HEALTH_REPORT_RX (R348, R353, R359, R361): a HEALTH segment arrives. -/
def execHealthReportRx (k : Fin 2) (h : Health) (s : State) : Res :=
  .next (if ¬ (s.link k).up ∨ ¬ s.unitsRun then s
    else if ¬ h.crcOk then s.badCopy k
    else if h.modnum ≠ s.pkg.mlk.partner then s.alarm .mirrorPeer h.modnum
    else
      let same := h.strapPrimary = s.mlk.strapPrimary
      let s := s.updMlk fun m =>
        { m with lastHealth := some (s.now, h), healthSeen := true, prefConflict := same
                 partnerGoodSeen := m.partnerGoodSeen || h.ready || h.role = 3 }
      let s := if same then s.alarm .rolePrefConflict 0 else s.clearAlarm .rolePrefConflict 0
      s.judgePartner.claimLapse)

/-- PARTNER_SERVICE_TIMEOUT (R359): the latest health report is 250 ms old, or an epoch has gone 100 µs without an
ACK. -/
def execPartnerServiceTimeout (s : State) : Res :=
  .next (if ¬ s.paired then s
    else
      let a := match s.mlk.lastHealth with | some (t, _) => t + 250000000 | none => s.now
      let due := match s.oldestSent with | some t => Nat.min a (t + 100000) | none => a
      (s.upTo due).judgePartner)

/-! ## Epochs at the ACTIVE module (R356, R359, R360) -/

/-- RECORD_EPOCH_CLOSE (R356): a dynamic item has waited 2 µs. -/
def execRecordEpochClose (s : State) : Res :=
  .next (match s.mlk.items with
  | [] => s
  | (t, _) :: _ =>
    let s := s.upTo (t + 2000)
    s.closeEpoch .record 0xFF 0 s.ts 0 [])

/-- EPOCH_ACK_RX (R359): the epochs up to it are sealed. -/
def execEpochAckRx (k : Fin 2) (epoch : Nat) (crcOk : Bool) (s : State) : Res :=
  .next (if ¬ (s.link k).up then s
    else if ¬ crcOk then s.badCopy k
    else if s.mlk.role ≠ .active ∨ s.mlk.epoch < epoch then s
    else
      let s := s.updMlk fun m =>
        { m with sealedTo := Nat.max m.sealedTo epoch, sealedOrCommitted := Nat.max m.sealedOrCommitted epoch
                 sent := m.sent.filter fun p => decide (epoch < p.2.num)
                 reqEnd := match m.reqEnd with | some n => if n ≤ epoch then none else some n | none => none }
      let s := s.judgePartner
      s.sealEntries fun e => e.sealed || (decide (0 < e.epoch) && decide (e.epoch ≤ epoch)))

/-- Sends an epoch again on both links. -/
def State.resend (s : State) (e : Epoch) : State :=
  (s.emit (.epoch e)).updMlk fun m => { m with resend := sat32 m.resend 1 }

/-- EPOCH_NACK_RX (R359). -/
def execEpochNackRx (k : Fin 2) (epoch : Nat) (crcOk : Bool) (s : State) : Res :=
  .next (if ¬ (s.link k).up then s
    else if ¬ crcOk then s.badCopy k
    else match s.mlk.sent.find? fun p => p.2.num = epoch with
    | some (_, e) => if s.mlk.role = .active then s.resend e else s
    | none => s)

/-- EPOCH_ACK_TIMEOUT (R359): another 20 µs without an ACK. -/
def execEpochAckTimeout (epoch : Nat) (s : State) : Res :=
  .next (match s.mlk.sent.find? fun p => p.2.num = epoch with
  | some (t, e) =>
    if s.mlk.role = .active then (s.upTo (t + 20000 * ((s.now - t) / 20000 + 1))).resend e else s
  | none => s)

/-- Slice state and its rings, for a snapshot (R360). -/
def State.sliceItem (s : State) (i : Nat) : Item :=
  let x := s.slice i
  let b : SliceBlock :=
    { slice := i, port := x.port, minUs := x.minUs, pasid := x.pasid, doorbell := x.doorbell, status := x.status,
      mac := x.mac, vlans := x.vlans, unexecLimit := x.unexecLimit, weight := x.weight, descRate := x.descRate,
      descBurst := x.descBurst, byteRate := x.byteRate, byteBurst := x.byteBurst }
  let sqs := x.sqs.toList.zipIdx.map fun (q, r) =>
    if q.st = .off then none
    else some { ring := r, service := q.service, cq := q.cq, depth := q.depth, base := q.base, firstSeq := q.nextSeq }
  let cqs := x.cqs.toList.zipIdx.map fun (q, r) =>
    if q.on then some { ring := r, receive := q.receive, vector := q.vector, depth := q.depth, base := q.base, es := q.es,
                        coalN := q.coalN, coalT := q.coalT, sources := q.sources } else none
  .sliceImage b sqs cqs x.paused (x.st = .resetDone)

/-- The snapshot of a full resynchronisation (R360). -/
def State.snapshot (s : State) : List Item :=
  let seals := s.progs.rows.filterMap fun r => (checkpoint r.2).map fun k => Item.facetSeal (r.1 / 64) (r.1 % 64) k
  let arms := s.armList.map fun a => Item.arm a (s.armRec a)
  let outs := s.logicList.map fun p => Item.logicOut p (s.logic.get p).image
  let jobs := s.hif.journal.map Item.journal
  let rings := s.hif.slices.keys.map fun i =>
    let q := (s.slice i).sqs.toList
    Item.ring i (q.map (·.nextSeq)) (q.map (·.acceptedSeq)) (q.map (·.head)) ((s.slice i).cqs.toList.map fun q => (q.written, q.written / q.depth % 2 = 0))
  let works := s.hif.slices.rows.filterMap fun r => r.2.work.map fun w => Item.slice r.1 w.step
  let banks := s.fns.rows.flatMap fun r =>
    let at_ (b : Nat) (d : List Byte) : Item := .settings (r.1 / 2048) (r.1 / 32 % 64) (r.1 % 32) b d
    [at_ 0 r.2.bankA, at_ 1 r.2.bankB, .effect 0x22 r.1 (if r.2.active then 1 else 0)]
  let pubs := s.gps.rows.filterMap fun r => r.2.record.map fun (a, b, d) => Item.publisher r.1 a b d
  let gseqs := s.stns.rows.filterMap fun r =>
    if r.2.st = .unused then none else some (Item.fbGseq r.1 ((r.2.outGseq + 15) % 16))
  let slices := (s.hif.slices.keys.filter fun i => (s.slice i).st ≠ .off).map fun i => s.sliceItem i
  let package : List Item := match s.svc.staged, s.mlk.exchangeCycle with
    | some i, some n => (List.range (ceilDiv i.bodyLen 4096)).map (fun k =>
        Item.packageBody (4096 * k) (Nat.min 4096 (i.bodyLen - 4096 * k)) i) ++ [.packageCommit i.digest n]
    | _, _ => [.packageCommit s.pkgDigest 0]
  seals ++ arms ++ outs ++ slices ++ rings ++ jobs ++ works ++ banks ++ pubs ++ gseqs ++ package

/-- RESYNC_REQ_RX (R359, R360): the partner leaves service, and the snapshot is sent, ended by RESYNC_END. The second copy
of a request asks for nothing more (R353). -/
def execResyncReqRx (k : Fin 2) (epoch : Nat) (crcOk : Bool) (s : State) : Res :=
  .next (if ¬ (s.link k).up then s
    else if ¬ crcOk then s.badCopy k
    else if s.mlk.role ≠ .active then s
    else if s.mlk.reqCopy.any fun c => c.1 ≠ k.val && c.2 = epoch then s.updMlk fun m => { m with reqCopy := none }
    else
      let s := (s.partnerOut .resync).updHif fun h => { h with uncovered := [] }
      let s := s.sendEpoch .record 0xFF 0 s.ts 0 true (s.snapshot ++ [.resyncEnd (s.mlk.epoch + 1)])
      s.updMlk fun m => { m with partner := .resync, reqEnd := some m.epoch, reqCopy := some (k.val, epoch) })

/-! ## What a standby commits (R355, R358, R362) -/

/-- The switchable unit with a key of `unitKey`. -/
def unitOfKey (k : Nat) : UnitId :=
  if k < 16 then .port k else if k < 64 then .lens (k - 16) else if k < 128 then .arm (k - 64)
  else if k < 192 then .pwm (k - 128) else if k < 256 then .fbc (k - 192) else if k < 384 then .beam (k - 256)
  else if k < 1024 then .slice (k - 384) else .chain ((k - 1024) / 32) ((k - 1024) % 32)

/-- The command that an arm record gives sub-module `i`: BLOCK unless the arm was DEBLOCKED and below its hold limit;
its carriers bear the fraction applied; a PSC arm's come from its duties, but for a pinned sub-module, whose credit
decides as it did in the active module (R185, R191). -/
def State.recordedCmd (s : State) (a : Nat) (r : ArmRec) (x : SmSt) (i : Nat) : Command :=
  let n := if r.carrier1.isSome then 2 else 1
  if r.opstate ≠ 2 then {}
  else if r.psc then
    let k := s.pscCmd a r.frame r.duties i
    if x.excluded then { form := .bypass, excluded := true }
    else if s.pinned a x ∧ smCost s.cf (s.armG a) x k ≠ 0 then heldCmd x
    else k
  else if r.carrier0 = some i then { carrierCmd s.cf r.frac n 0 with carrier := true }
  else if r.carrier1 = some i then { carrierCmd s.cf r.frac n 1 with carrier := true }
  else { form := if r.inserted.contains i then .insert else .bypass }

/-- The recorded decision takes the place of the standby's own one of that frame: level and credit follow it (R191). -/
def State.adoptSm (s : State) (a : Nat) (r : ArmRec) (own : Bool) (i : Nat) (x : SmSt) : SmSt :=
  let x := if own then smBefore x else x
  if r.opstate ≠ 2 then s.blockSm a x else (s.applyCmd a x (s.recordedCmd a r x i)).1

/-- The active module's arm record replaces the standby's previous-frame state, and its decisions apply to the
standby's levels and credits (R191). An arm that becomes TRIPPED has its TRIP flag set (R201). -/
def State.adoptArm (s : State) (a : Nat) (r : ArmRec) : State :=
  let op : ArmOp := match r.opstate with | 1 => .pending | 2 => .deblocked | 3 => .tripped | _ => .blocked
  let cause : ArmCause := match r.cause with
    | 1 => .restart | 2 => .lane | 3 => .cmd | 4 => .noOutput | 5 => .prismFault | 6 => .disabled | _ => .none
  let own : Bool := (s.arms.get a).emitted = some r.frame
  let s := s.eachSm a (s.adoptSm a r own)
  s.updArm a fun x =>
    { x with op := op, trip := x.trip || decide (op = .tripped), cause := cause, pend := none, emitted := some r.frame, dir := r.dir, held := r.held, clamped := r.clamped,
             tolHeld := r.tolHold, nOn := r.nOn, frac := r.frac, carrier0 := r.carrier0, carrier1 := r.carrier1,
             duties := r.duties, lastOut := { x.lastOut with nOn := r.nOn, frac := r.frac } }

/-- The consumers of a chain take their records from another one (R148). -/
def State.takeConsumers (s : State) (l c k : Nat) : State :=
  let s := (s.updChain l c fun x => { x with consumed := false }).updChain l k fun x => { x with consumed := true }
  { s with prots := s.prots.mapRows fun p x =>
      if (s.pkg.prots.get p).lens = l then { x with chains := x.chains.map fun y => if y = c then k else y } else x }

/-- Completed descriptors of a ring that has gone OFF are not written again after a takeover. -/
def State.forgetCompleted (s : State) (i r : Nat) : State :=
  s.updHif fun h => { h with journal := h.journal.filter fun e => !(e.slice = i && e.ring = r && e.state = .completed) }

/-- Module state changed by a descriptor, as its EFFECT item carries it. -/
def State.applyEffect (s : State) (code unit value : Nat) : State :=
  let d : Desc := { spec := BitVec.ofNat 256 value }
  match code with
  | 0x0001 =>
    if d.num 32 1 = 0 then s.updSq unit (d.num 33 1) fun _ => sqOf (sqParams d)
    else s.updCq unit (d.num 33 1) fun _ => cqOf (cqParams d)
  | 0x0002 =>
    if value % 256 = 0 then (s.forgetCompleted unit (value / 256)).updSq unit (value / 256) fun q => { q with st := .off }
    else s.updCq unit (value / 256) fun _ => {}
  | 0x0004 => s.setEn (unitOfKey unit) (value = 1)
  | 0x0011 => s.updSwc fun w => { w with glint := w.glint.upd unit fun g =>
      { g with n := d.num 34 2, dir := d.num 33 1, slice := d.num 36 1, ring := d.num 37 1, count := 0 } }
  | 0x0022 =>
    let n := match s.protAt (unit / 2048) (unit / 32 % 64) with | some p => (s.prots.get p).cycle | none => 0
    s.updFn unit fun x =>
      if x.active = decide (value = 1) then x
      else { x with active := decide (value = 1), inactiveAt := n, switched := true }
  | 0x2002 => s.takeConsumers (unit / 32) (unit % 32) value
  | 0x2003 => { s with chSlots := s.chSlots.upd unit fun y => { y with delay := value } }
  | 0x0023 => s.each ((List.range 4).filter fun m => value.testBit m) fun s m =>
      (s.updTo m fun t => { t with resetDone := true, latched := false }).toOpen m
  | 0x2400 => s.updSv unit fun x => { x with keyNext := value, nextPass := 0 }
  | 0x2401 => s.updGs unit fun x => { x with keyNext := value, nextPass := 0 }
  | 0x2402 => s.updGp unit fun x => { x with keyCur := value }
  | 0x3001 =>
    let c := s.pkg.logic.get unit
    (s.logicColdStart unit).updMlk fun m => { m with seals := m.seals.filter fun r => r.1 ≠ fKey c.lens c.facet }
  | 0x3002 => s.updLogic unit fun x => { x with st := .stopped, phase := .idle }
  | 0x0060 => s.updTp unit fun x => { x with armed := true, start := some value }
  | 0x8101 => s.updSlice unit fun x =>
      { x with dirty := { on := true, depth := d.num 36 4, base := d.num 40 8, consumedAddr := d.num 48 8 } }
  | 0x8102 => s.updSlice unit fun x => { x with dirty.on := false }
  | 0x8203 => s.updSlice unit fun x => { x with paused := true, stopped := true }
  | 0x8204 => s.updSlice unit fun x =>
      { x with paused := false, stopped := false, pasid := value % 2 ^ 20, port := value / 2 ^ 20 }
  | _ => s

/-- Creates the slice of a parameter block, without its unit's start (R319). -/
def sliceOf (b : SliceBlock) : SliceSt :=
  { port := b.port, pasid := b.pasid, minUs := b.minUs, curUs := b.minUs, doorbell := b.doorbell, status := b.status,
    mac := b.mac, vlans := b.vlans, unexecLimit := b.unexecLimit, weight := b.weight, descRate := b.descRate,
    descBurst := b.descBurst, byteRate := b.byteRate, byteBurst := b.byteBurst }

/-- The slice of a parameter block where one has been: its counters, which only a cold restart clears, go on (R339). -/
def newSliceOf (b : SliceBlock) (x : SliceSt) : SliceSt :=
  { sliceOf b with limited := x.limited, dirty := { filtered := x.dirty.filtered } }

/-- The step of a slice's reset or removal that is sealed as done (R328, R333). -/
def State.applySlice (s : State) (i step : Nat) : State :=
  if step = 6 then
    let s := s.updSlice i fun x => { x with work := none, st := .resetDone, silent := true, stopped := false }
    let s := s.updCq i 0 fun q => { q with placed := q.written }
    s.each ((List.range 8).drop 1) fun s r => ((s.forgetCompleted i r).updSq i r fun _ => {}).updCq i r fun _ => {}
  else if step = 7 then
    let s := s.updSlice i fun x => { x with work := none, st := .off, silent := true, dirty.on := false }
    let s := s.each (List.range 8) fun s r => ((s.forgetCompleted i r).updSq i r fun _ => {}).updCq i r fun _ => {}
    s.updUnit (.slice i) fun u => { u with st := .off, en := false }
  else s.updSlice i fun x =>
    { x with st := .resetting, stopped := true, paused := false, work := some { step := step, since := s.now } }

/-- Write counts and PHASE of a slice's rings, and its SEQ positions (R355). -/
def State.applyRing (s : State) (i : Nat) (nx ac hd : List Nat) (wr : List (Nat × Bool)) : State :=
  s.updSlice i fun x =>
    { x with
      sqs := Vector.ofFn fun r => { x.sqs[r] with nextSeq := (nx[r.val]?).getD 0, acceptedSeq := (ac[r.val]?).getD 0
                                                  head := (hd[r.val]?).getD 0 }
      cqs := Vector.ofFn fun c =>
        let w := ((wr[c.val]?).getD (0, true)).1
        { x.cqs[c] with written := w, placed := Nat.max x.cqs[c].placed w } }

/-- A JOURNAL item: the entry is as it says, and a completion gets its place in its ring (R355, R366). -/
def State.applyEntry (s : State) (e : JEntry) : State :=
  let e := { e with sealed := true, place := match e.place with | some p => some p | none => (s.jEntry e.jseq).bind (·.place) }
  let s := s.updHif fun h => { h with
    jseq := Nat.max h.jseq e.jseq
    journal := if h.journal.any fun x => x.jseq = e.jseq then
        h.journal.map fun (x : JEntry) => if x.jseq = e.jseq then e else x
      else h.journal ++ [e] }
  let s := match e.place with
    | some p => s.updCq e.slice (s.sq e.slice e.ring).cq fun q => { q with placed := Nat.max q.placed (p + 1) }
    | none => s
  s.placeRing e.slice e.ring

/-- A PACKAGE commit item: a snapshot's names the partner's package; one with an exchange cycle makes a standby verify
the body it holds, write it to its inactive bank and stage it; one that cannot is not ready (R136, R429). -/
def State.stagePartner (s : State) (d : BitVec 512) (n : Nat) : State :=
  if n = 0 then s.updMlk fun m => { m with packageStaged := true }
  else
    let s := s.updMlk fun m => { m with exchangeCycle := some n, packageStaged := d = s.pkgDigest }
    match s.mlk.body with
    | none => s
    | some (i, len) =>
      if i.digest ≠ d ∨ len < i.bodyLen ∨ s.imageCode true false i ≠ none then s
      else
        let s := s.updSvc fun v =>
          { (if v.active then { v with cfg0 := some i } else { v with cfg1 := some i }) with
            active := !v.active, staged := some i }
        s.updMlk fun m => { m with packageStaged := true, body := none }

/-- The partner's seal of a program that is exchanged: the state map is applied to it (R135, R136). -/
def State.mapSeal (s : State) (i : Image) (p : Nat) : State :=
  let oc := s.pkg.logic.get p
  let nc := i.body.logic.get p
  let of_ := s.fCfg oc.lens oc.facet
  let nf := i.body.facets.get (fKey nc.lens nc.facet)
  match findRow s.mlk.seals (fKey oc.lens oc.facet) with
  | none => s
  | some r =>
    let m := exchangeData (memPut [] of_.sealArea.off r.data) oc nc nf
    let r := sealClose { r with data := memBytes m nf.sealArea.off (Nat.min nf.sealArea.len 4096), progId := nf.progId }
    s.updMlk fun m => { m with seals := putRow m.seals (fKey nc.lens nc.facet) r }

/-- A program of a standby at the exchange: it runs none, so a changed program's image is replaced at once and its
checkpoint mapped; an added one is loaded cold, and a removed one is gone (R136, R362). -/
def State.standbyProgram (s : State) (i : Image) (p : Nat) : State :=
  let oc := s.pkg.logic.get p
  let nc := i.body.logic.get p
  let same : Bool := oc = nc && s.pkg.facets.get (fKey oc.lens oc.facet) = i.body.facets.get (fKey nc.lens nc.facet)
  if (¬ oc.present ∧ ¬ nc.present) ∨ same then s
  else if ¬ nc.present then (s.dropLogic p).updLogic p fun _ => {}
  else if ¬ oc.present then (if s.vacantFor p nc then s.startAdded p else s)
  else if s.vacantFor p nc then
    let s := s.mapSeal i p
    let st := (s.logic.get p).st
    let s := s.replaceStopped p
    if st = .running ∧ s.unitOn (.lens nc.lens) then (s.loadAt nc.lens nc.facet).updLogic p fun x => { x with st := st }
    else s
  else s

/-- A standby exchanges its programs at the recorded cycle (R136, R429); its loop programs wait for their frame
boundary. Its lenses whose configuration changes need a test (R66). -/
def State.exchangeStandby (s : State) : State :=
  match s.svc.staged with
  | none => s
  | some i =>
    let s := (s.updMlk fun m => { m with exchangeCycle := none }).markChanged i.body
    let s := s.each (List.range 64) fun s p => s.standbyProgram i p
    let ks := ((s.pkg.facets.rows ++ i.body.facets.rows).map (·.1)).eraseDups
    (s.each ks fun s k => s.stageLoop i k).exchFinish

/-- One item of a committed epoch. -/
def State.applyItem (s : State) : Item → State
  | .facetSeal l f r => s.updMlk fun m => { m with seals := putRow m.seals (fKey l f) r }
  | .arm a r => (s.updMlk fun m => { m with arms := putRow m.arms a r }).adoptArm a r
  | .logicOut p img => s.updMlk fun m => { m with outs := putRow m.outs p img }
  | .journal e => s.applyEntry e
  | .journalFree j => s.updHif fun h => { h with journal := h.journal.filter fun e => decide (j < e.jseq) }
  | .ring i nx ac hd wr => s.applyRing i nx ac hd wr
  | .slice i n => s.applySlice i n
  | .share i v => s.setShare i { spec := BitVec.ofNat 256 v }
  | .newSlice b =>
    let s := s.updSlice b.slice fun x => { newSliceOf b x with st := .active }
    let s := (s.updSq b.slice b.sq0.ring fun _ => sqOf b.sq0).updCq b.slice b.cq0.ring fun _ => cqOf b.cq0
    s.updUnit (.slice b.slice) fun u => { u with st := .on, en := true }
  | .sliceImage b sqs cqs p d =>
    let s := s.updSlice b.slice fun x =>
      { newSliceOf b x with st := if d then .resetDone else .active, silent := d, paused := p, stopped := p }
    let s := s.each (sqs.filterMap id) fun s q => s.updSq b.slice q.ring fun _ => sqOf q
    let s := s.each (cqs.filterMap id) fun s q => s.updCq b.slice q.ring fun _ => cqOf q
    s.updUnit (.slice b.slice) fun u => { u with st := .on, en := true }
  | .publisher g st sq d => s.updMlk fun m => { m with pubs := putRow m.pubs g (st, sq, d) }
  | .fbGseq i q => s.updMlk fun m => { m with gseqs := putRow m.gseqs i q }
  | .settings l f n b d => s.updFn (fnKey l f n) fun x => if b = 0 then { x with bankA := d } else { x with bankB := d }
  | .bank l c gd taps => s.updChain l c fun x => { x with gd := gd, taps := taps }
  | .packageBody off len i => s.updMlk fun m => { m with body := some (i, off + len) }
  | .packageCommit d n => s.stagePartner d n
  | .effect c u v => s.applyEffect c u v
  | .resyncEnd e => s.updMlk fun m => { m with resyncEnd := some e }

/-- Failures of an epoch that have been counted (R360). -/
def State.failsOf (s : State) (n : Nat) : Nat := (findRow s.mlk.fails n).getD 0

/-- The number of a standby's protection cycle follows its partner's: an epoch names the tick of cycle n by its TS, and the
standby's last tick lies a whole number of cycles from it (R354, R362, DEDUCED, log 113). -/
def State.alignProt (s : State) (e : Epoch) : State :=
  let x := s.prots.get e.source
  let (rate, r) := s.protRate e.source
  if e.kind ≠ .protection ∨ x.last = none ∨ rate = 0 ∨ r = 0 then s
  else
    let diff := signed 32 ((tsOf x.evalTai + 2 ^ 32 - e.ts % 2 ^ 32) % 2 ^ 32)
    let period : Int := (r * 1000000000 / rate : Nat)
    let n := (e.cycle + (2 * diff + period) / (2 * period)).toNat
    if n = x.cycle then s else s.updProt e.source fun x => { x with cycle := n }

/-- Commits an epoch and acknowledges it; the epoch that RESYNC_END named completes the standby's state, whose
credits then start at DEPTH (R191, R358, R360). The epoch of the exchange cycle comes from the new programs, so the
exchange goes before it. The first epoch of a snapshot replaces the module's own journal and slices. -/
def State.commitEpoch (s : State) (e : Epoch) : State :=
  let s := if e.resync ∧ ¬ s.mlk.resyncing then
      (s.updHif fun h => { h with journal := [] }).each s.hif.slices.keys fun s i =>
        (s.updSlice i noSlice).updUnit (.slice i) fun u => { u with st := .off, en := false }
    else s
  let due : Bool := match s.mlk.exchangeCycle, s.svc.staged with
    | some n, some i => decide (n ≤ e.cycle) && (match exchangeProgram s.pkg i.body with
      | some p => e.kind = .logic && e.source = p
      | none => e.kind = .converter)
    | _, _ => false
  let s := if due then s.exchangeStandby else s
  let s := (s.each e.items fun s it => s.applyItem it).alignProt e
  let s := s.updMlk fun m =>
    { m with epoch := e.num, sealedOrCommitted := e.num, stale := Nat.min (s.failsOf (e.num + 1)) 3
             fails := m.fails.filter fun f => decide (e.num < f.1)
             failedCopies := m.failedCopies.filter fun f => decide (e.num < f.1)
             synced := m.resyncOut, resyncing := m.resyncing || (m.resyncOut && e.resync) }
  let s := s.emit (.segment (.ack e.num))
  match s.mlk.resyncEnd with
  | some n =>
    if n ≤ e.num then
      let s := s.updMlk fun m => { m with complete := true, resyncOut := false, synced := false, resyncing := false,
                                          resyncEnd := none, resync := sat32 m.resync 1 }
      s.each s.armList fun s a => s.eachSm a fun _ x => { x with credit := (s.pkg.arms.get a).depth * 65536 }
    else s
  | none => s

/-- Commits the staged epochs that follow in order. -/
def State.commitStaged (s : State) : Nat → State
  | 0 => s
  | n + 1 => match s.mlk.staged.find? fun e => e.num = s.mlk.epoch + 1 with
    | some e =>
      let s := s.updMlk fun m => { m with staged := m.staged.filter fun x => x.num ≠ e.num }
      (s.commitEpoch e).commitStaged n
    | none => s

/-- Epoch `n` cannot be committed: its failure is counted, STALE shows those of the epoch due next, and a NACK is sent; a
third failure starts a full resynchronisation (R360). -/
def State.staleEpoch (s : State) (n : Nat) : State :=
  let c := s.failsOf n + 1
  let s := s.updMlk fun m =>
    { m with fails := putRow m.fails n c, failedCopies := m.failedCopies.filter fun f => f.1 ≠ n
             stale := if n = m.epoch + 1 then Nat.min c 3 else m.stale }
  if 3 ≤ c then s.startResync else s.emit (.segment (.nack n))

/-- A copy of an epoch has failed its checks on a link: once every link that is up has failed it, the epoch cannot be
committed (R358, R361). -/
def State.copyFailed (s : State) (k n : Nat) : State :=
  let s := s.badCopy k
  if s.mlk.role = .active ∨ (s.mlk.resyncOut ∧ ¬ s.mlk.synced) ∨ n ≤ s.mlk.epoch ∨ s.mlk.staged.any fun x => x.num = n then s
  else
    let failed := (s.mlk.failedCopies ++ [(n, k)]).eraseDups
    let s := s.updMlk fun m => { m with failedCopies := failed }
    if ([0, 1].filter fun i => (s.link i).up).all fun i => failed.contains (n, i) then s.staleEpoch n else s

/-- A later epoch than the one due waits; each one missing before it that no earlier arrival showed to be is stale. -/
def State.stageEpoch (s : State) (e : Epoch) : State :=
  let top := s.mlk.staged.foldl (fun n x => Nat.max n x.num) s.mlk.epoch
  let s := s.updMlk fun m => { m with staged := m.staged ++ [e] }
  s.each ((List.range (e.num - top - 1)).map (top + 1 + ·)) fun s n => s.staleEpoch n

/-- EPOCH_RX (R358, R360, R361): a copy of an epoch has arrived whole on a link. -/
def execEpochRx (k : Fin 2) (e : Epoch) (s : State) : Res :=
  .next (if ¬ (s.link k).up ∨ s.mlk.role = .offline then s
    else if ¬ e.crcOk then s.copyFailed k e.num
    else if e.modnum ≠ s.pkg.mlk.partner then s.alarm .mirrorPeer e.modnum
    else if s.mlk.role = .active then s.updMlk fun m => { m with partnerClaim := true }
    else if s.mlk.resyncOut ∧ ¬ s.mlk.synced then s.commitEpoch e
    else if e.num ≤ s.mlk.epoch then s
    else if e.num = s.mlk.epoch + 1 then (s.commitEpoch e).commitStaged 8
    else if s.mlk.staged.any fun x => x.num = e.num then s
    else if 8 ≤ s.mlk.staged.length then s.startResync
    else s.stageEpoch e)

/-! ## Rolling self-test (R369) -/

/-- Facets that a rotation tests: all that are not fenced, of the lenses with a free spare or one in use for a test. -/
def State.rotationSet (s : State) : List Nat :=
  (List.range lensCount).flatMap fun l =>
    if (s.lenses.get l).free = [] ∧ (s.lenses.get l).testing = none then []
    else ((List.range 64).filter fun f => (s.facets.get (fKey l f)).run ≠ .fenced).map fun f => fKey l f

/-- A facet of the rotation has been tested; a rotation that is complete gives its duration in ms (R370). -/
def State.rotated (s : State) (l f : Nat) : State :=
  let done := (s.mlk.rotDone ++ [fKey l f]).eraseDups
  let start := if s.mlk.rotDone = [] then s.now else s.mlk.rotStart
  if s.rotationSet.all fun k => done.contains k then
    s.updMlk fun m => { m with rotDone := [], rotStart := s.now, rotationMs := (s.now - start) / 1000000 }
  else s.updMlk fun m => { m with rotDone := done, rotStart := start }

end Sys2Proof.Machine
end

