-- ==== Sys2Proof/Machine/RestartOps.lean ====
section
/-! DEFINITION. What a restart keeps and what it initialises (R65, R120), retained slots (R119), the boot of a
firmware bank (R52, R54), floors (R411), and what the journal resumes (R43, R74, R306). -/

namespace Sys2Proof.Machine

/-! ## Retained logic data (R118, R119) -/

/-- The retained slot of a program: the seal and output image of its last committed cycle; a standby's come from its
partner. A program that a warm restart has not started again keeps its slot, and one that has committed no cycle since
keeps the seal in it. -/
def State.slotOf (s : State) (p : Nat) : RetSlot :=
  let c := s.pkg.logic.get p
  let x := s.logic.get p
  let t := s.slots64.get p
  let last := match x.commitSeal with | some r => some r | none => t.record
  let st := x.safeDue.getD (if x.st = .exchanging then .running else x.st)
  if x.warm then t
  else if s.mlk.role = .standby then
    { record := match findRow s.mlk.seals (fKey c.lens c.facet) with | some r => some r | none => last
      image := (findRow s.mlk.outs p).getD x.image, st := st }
  else { record := last, image := x.image, st := st }

/-- Every slot is filled. -/
def State.fillSlots (s : State) : State :=
  s.each s.logicList fun s p => { s with slots64 := s.slots64.set p (s.slotOf p) }

/-! ## What survives (R62, R65, R424) -/

/-- Alarms of conditions that a restart does not end. -/
def lasting (warm : Bool) (e : Ev) : Bool :=
  match e with
  | .holdup | .tempWarn | .tempCrit | .latchOpen | .gaParity | .interlockFault => true
  | .unitFenced | .lensFenced => warm
  | _ => false

/-- The registers of one mirror link that a restart keeps: the link itself trains again. -/
def linkAfter (warm : Bool) (k : LinkSt) : LinkSt :=
  { modPresent := k.modPresent, bad := if warm then k.bad else 0, downs := if warm then k.downs else 0 }

/-- What any restart keeps: flash and non-volatile cells, the keep-alive domain, what the boundary shows, the host
ports, and the time base while its reference is powered. -/
def State.survive (s : State) : State :=
  { State.reset with
    now := s.now, freeIdx := s.freeIdx, fencedFlash := s.fencedFlash, outputs := s.outputs, lastRead := s.lastRead,
    pending := s.pending
    glb := { lcs := s.glb.lcs, holdupReady := s.glb.holdupReady, fwBank := s.glb.fwBank, modnum := s.hw.pins }
    ka := s.ka
    svc := { bankA := s.svc.bankA, bankB := s.svc.bankB, cfg0 := s.svc.cfg0, cfg1 := s.svc.cfg1,
             active := s.svc.active, retainedPkg := s.svc.retainedPkg }
    obs := { s.obs with katOk := false, deny := 0 }
    hw := { s.hw with pf := .none, returned := Option.none }
    col := { s.col with tpSkip := 0, latchH0 := {}, latchH1 := {}, latchMM := {}, setNs := 0, setSlo := 0, setShi := 0
                        ports := ⟨{}, []⟩, tps := ⟨{}, []⟩ }
    swc := { hashEpoch := s.swc.hashEpoch, startAt := s.now, ports := s.swc.ports.mapRows fun _ p => { modPresent := p.modPresent } }
    hif := { ports := s.hif.ports.mapRows fun _ p => { up := p.up, speed := p.speed, width := p.width }
             vecs := s.hif.vecs, maskedVec := s.hif.maskedVec, pendingVec := s.hif.pendingVec, journalFlash := s.hif.journalFlash }
    mlk := { strapPrimary := s.mlk.strapPrimary, ilkFault := s.mlk.ilkFault, loopA := s.mlk.loopA, loopB := s.mlk.loopB,
             differSince := s.mlk.differSince, agreeSince := s.mlk.agreeSince, partnerClaiming := s.mlk.partnerClaiming,
             releasedSince := s.mlk.releasedSince, link0 := linkAfter false s.mlk.link0,
             link1 := linkAfter false s.mlk.link1 }
    recs := { records := s.recs.records.filterMap fun r => if r.inFlash then some { r with inSlot := false } else none
              rnum := s.recs.rnum, dumpNo := s.recs.dumpNo, dumpSlots := s.recs.dumpSlots
              nextDumpSlot := s.recs.nextDumpSlot
              evr := { rseq := (match s.recs.evr.log.getLast? with | some x => x.rseq + 1 | none => 0), log := s.recs.evr.log, lastRseq := s.recs.evr.lastRseq
                       blocks := s.recs.evr.blocks
                       events := s.recs.evr.events
                       alarms := s.recs.evr.alarms.filter fun a => lasting false a.1 } } }

/-! ## What a warm restart keeps besides (R65, R120) -/

/-- A unit keeps its EN; a fenced one stays OFF. -/
def unitKept (u : UnitSt) : UnitSt := { en := u.en && !u.fenced, fenced := u.fenced, startFailed := u.startFailed }

def lensKept (x : LensSt) : LensSt :=
  { repairs := x.repairs, fltWriter := x.fltWriter, fltLane := x.fltLane, fltMsgFull := x.fltMsgFull,
    eccCorr := x.eccCorr, eccUncorr := x.eccUncorr, repairGap := x.repairGap, lateOut := x.lateOut,
    fenced := x.fenced, needsTest := x.needsTest }

/-- A station of R120: ABSENT, with its last image. -/
def stnKept (c : StnCfg) (now : Nat) (t : StnSt) : StnSt :=
  { st := if t.st = .unused then .unused else .absent, missed := if c.inLen = 0 then 0 else c.k, gseq := t.gseq,
    image := t.image, rxTime := t.rxTime, mailbox := t.mailbox, outGseq := t.outGseq, discard := t.discard,
    grpBad := t.grpBad, judged := now }

def armKept (x : ArmSt) : ArmSt :=
  { trip := x.trip, clearRefused := x.clearRefused, holdCnt := x.holdCnt, clampCnt := x.clampCnt,
    staleCnt := x.staleCnt, blockCnt := x.blockCnt, shortP := x.shortP, shortG := x.shortG }

def pwmKept (x : PwmSt) : PwmSt :=
  { trip := x.trip, clearRefused := x.clearRefused, shortP := x.shortP, shortG := x.shortG, cut := x.cut,
    heldCnt := x.heldCnt }

def fbcKept (x : FbcSt) : FbcSt :=
  { highWater := x.highWater, arbLost := x.arbLost, errFrm := x.errFrm, busOffs := x.busOffs,
    txDiscard := x.txDiscard, rxNomatch := x.rxNomatch, freeViol := x.freeViol, refMiss := x.refMiss,
    superseded := x.superseded }

/-- The switch keeps its counters and its hash key; learned addresses and queues are gone, and samplers are
off. -/
def swcKept (w : SwcSt) : SwcSt :=
  { nextId := w.nextId, hashKey := w.hashKey, hashEpoch := w.hashEpoch
    glint := w.glint.mapRows fun _ g => { seen := g.seen, drop := g.drop }
    ports := w.ports.mapRows fun _ p => { p with link := false, fecLock := false, rxLos := false, txFault := false }
    mcRefused := w.mcRefused, learnFail := w.learnFail, flood := w.flood, unkMc := w.unkMc,
    staticMove := w.staticMove, spoof := w.spoof, qdrop := w.qdrop, holdDrop := w.holdDrop, police := w.police }

/-- A slice is kept and is polled from MIN_US; its dirty log has overflowed (R336). -/
def sliceKept (now : Nat) (x : SliceSt) : SliceSt :=
  { x with curUs := x.minUs, empty := 0, pollOut := false, pollNow := some now, counted := false, late := []
           dirty.overflow := x.dirty.on || x.dirty.overflow }

def mlkKept (o m : MlkSt) : MlkSt :=
  { m with inhibit := o.inhibit, takeovers := o.takeovers, collisions := o.collisions, ilkFaults := o.ilkFaults,
           resend := o.resend, resync := o.resync, adoptLate := o.adoptLate, inDoubt := o.inDoubt,
           stFails := o.stFails, link0 := linkAfter true o.link0, link1 := linkAfter true o.link1,
           epoch := o.epoch, sealedTo := o.sealedTo, sealedOrCommitted := o.sealedOrCommitted }

/-- Counters of the converter, Focus chains and sampled values, and the buffers and registers of the recording
units. -/
def recKept (o r : RecSt) : RecSt :=
  { r with
    groups := o.groups.mapRows fun _ g =>
      { run := g.run, prefSup := g.prefSup, holdSup := g.holdSup, ringSup := g.ringSup, records := g.records }
    records := o.records, flashFull := o.flashFull, hists := o.hists, pmaps := o.pmaps
    evr := { o.evr with flushing := false, flushAgain := false, waits := []
                        alarms := o.evr.alarms.filter fun a => lasting true a.1 } }

/-- What a warm restart keeps besides `survive`. Of the sticky bits of a logic program and of a conditioner, which R120 does
not name, none is kept: OVERRUN, EXCH_DONE and FBC_CSTAT.STUCK read 0 (DESIGN CHOICE, log 98). -/
def State.keepWarm (s o : State) : State :=
  { s with
    glb.modnum := o.glb.modnum
    svc.ignored := o.svc.ignored
    units := o.units.mapRows fun _ u => unitKept u
    lenses := o.lenses.mapRows fun _ x => lensKept x
    logic := o.logic.mapRows fun _ x =>
      { last := x.last, max := x.max, ovr := x.ovr, consec := x.consec
        st := if x.st = .running ∨ x.st = .exchanging then .none else x.st }
    slots64 := o.slots64
    stns := o.stns.mapRows fun i t => stnKept (o.stnCfg i) o.now t
    conds := o.conds.mapRows fun _ c => { value := c.value, raw := c.value, deb := c.value }
    svs := o.svs.mapRows fun _ x => { miss := x.miss, authfail := x.authfail, seqerr := x.seqerr, late := x.late }
    chains := o.chains.mapRows fun _ x => { late := x.late }
    pcOvr := o.pcOvr, pcDeadline := o.pcDeadline
    tos := o.tos.mapRows fun _ t =>
      { t with closed := t.latched }
    gps := o.gps.mapRows fun _ g => { record := g.record, stNum := g.stNum, sqNum := g.sqNum }
    gss := o.gss.mapRows fun _ g => { authfail := g.authfail }
    cnv := { tickMiss := o.cnv.tickMiss }
    arms := o.arms.mapRows fun _ x => armKept x
    engines := o.engines.mapRows fun _ e => { arm := e.arm, swaps := e.swaps, budgetOvr := e.budgetOvr
                                              noCarrier := e.noCarrier, tolHold := e.tolHold }
    beams := o.beams.mapRows fun _ b => { crcErr := b.crcErr, hdrErr := b.hdrErr, late := b.late }
    pwms := o.pwms.mapRows fun _ x => pwmKept x
    tis := o.tis.mapRows fun _ t => { acts := t.acts }
    swc := { swcKept o.swc with startAt := s.now }
    col.tpSkip := o.col.tpSkip
    col.ports := o.col.ports.mapRows fun _ p => { rxErr := p.rxErr }
    col.tps := o.col.tps.mapRows fun _ x => { count := x.count }
    fbcs := o.fbcs.mapRows fun _ x => fbcKept x
    hif := { o.hif with slices := o.hif.slices.mapRows fun _ x => sliceKept s.now x, rounds := ⟨{}, []⟩, flushes := [], fetchStopped := false }
    mlk := mlkKept o.mlk s.mlk
    recs := recKept o.recs s.recs
    obs := o.obs
    bst := { o.bst with busy := false } }

/-! ## Boot (R52, R54) -/

def State.fwImage (s : State) (b : Bool) : Option Image := if b then s.svc.bankB else s.svc.bankA
def State.bankResult (s : State) (b : Bool) : BankResult := if b then s.ka.resultB else s.ka.resultA
def State.setResult (s : State) (b : Bool) (r : BankResult) : State :=
  s.updKa fun k => if b then { k with resultB := r } else { k with resultA := r }

/-- What the boot ROM finds of a bank: 0b11 for a floor refusal, 0b10 for any other failure (R410). -/
def State.verifyBank (s : State) (b readOk : Bool) : BankResult :=
  match s.fwImage b with
  | none => .bad
  | some i =>
    if ¬ readOk then .bad
    else match s.imageCode false true i with
    | none => .good
    | some c => if c = 0x0101 then .rollback else .bad

/-- BOOT begins: no bank has been tried. -/
def State.beginBoot (s : State) (first : Bool) : State :=
  (s.updKa fun k => { k with resultA := .notTried, resultB := .notTried, tryBank := first }).updGlb fun g =>
    { g with phase := .boot }

/-! ## Floors (R411) -/

/-- Floors and the revocation that the running images ask for when PHASE first reaches RUNNING with them. -/
def State.raiseFloors (s : State) : State :=
  let s := match s.fwImage s.ka.runningBank with
    | some i =>
      let s := if i.raiseFloor then s.updObs fun o => { o with fwFloor := Nat.max o.fwFloor (Nat.min i.secver 127) } else s
      if i.revoke0 ∧ i.keyId = 1 then s.updObs fun o => { o with key0Revoked := true } else s
    | none => s
  match (if s.svc.active then s.svc.cfg1 else s.svc.cfg0) with
  | some i => s.raisePkgFloor i
  | none => s

/-! ## The journal of the module itself (R43, R74, R306) -/

/-- After a warm restart every accepted descriptor without a completion executes once, with RESUMED; a slice
operation that has begun goes on at its first step not sealed as done (R333). -/
def State.resumeOwn (s : State) : State :=
  let s := s.each s.hif.slices.keys fun s i => s.takeReset i
  let works (e : JEntry) : Bool := e.state = .started && e.desc.opcode = 0x82
    && (s.slice (e.desc.num 32 1)).work.any fun w => w.jseq = e.jseq
  let s := s.updHif fun h => { h with journal := h.journal.map fun (e : JEntry) =>
    { e with sealed := true, resumed := e.resumed || e.state ≠ .completed,
             state := if e.state = .started ∧ ¬ works e then .accepted else e.state } }
  if s.pkg.mlk.paired then s else s.acceptSealed

/-- After a restart of the Module Manager descriptors complete with RESUMED. What a started one works on has run on,
but for an operation of the Service Channel, which runs again. -/
def State.resumeKept (s : State) : State :=
  let s := s.updHif fun h => { h with journal := h.journal.map fun (e : JEntry) =>
    { e with resumed := e.resumed || e.state ≠ .completed,
             state := if e.state = .started ∧ e.desc.opcode = 3 then .accepted else e.state } }
  (s.acceptSealed).resumeSlices false

/-! ## Periscope and Loupe stop -/

def State.stopGroups (s : State) : State := s.each (List.range 16) fun s g => s.perHalt g

/-- Every Loupe buffer goes to IDLE. -/
def State.idleLoupes (s : State) : State :=
  { s with recs.loupes := s.recs.loupes.mapRows fun _ b => { b with st := .idle, samples := [], left := 0 } }

/-- Groups whose RUN is set sample again. -/
def State.runGroups (s : State) : State :=
  s.each ((List.range 16).filter fun g => (s.recs.groups.get g).run && (s.recs.groups.get g).st = .stopped) fun s g =>
    s.perStart g

end Sys2Proof.Machine
end

