-- ==== Sys2Proof/Machine/Restart.lean ====
section
/-! DEFINITION. Bring-up (R49 to R56), restarts (R63 to R67), RUN (R51, R58), failures of the Module Manager and of the
keep-alive domain (R371, R372, R395), and operating hours (R62). -/

namespace Sys2Proof.Machine

/-! ## The restart itself (R63 to R67) -/

/-- Ident of the package in the active configuration bank; 0 without one. -/
def State.activeIdent (s : State) : Nat :=
  match (if s.svc.active then s.svc.cfg1 else s.svc.cfg0) with | some i => i.body.ident | none => 0

/-- A restart of this cause asks for a warm one (R63). -/
def asksWarm : RstCause → Bool | .cmdWarm => true | .powerReturn => true | _ => false

/-- The restart is warm (R63, R419). -/
def State.warmHolds (s : State) (cause : RstCause) (sealOk : Bool) : Bool :=
  asksWarm cause && s.glb.phase ≠ .safe && s.ka.warmAllowed && s.ka.retentionValid && sealOk
    && s.svc.retainedPkg = s.activeIdent

/-- A commanded warm restart that the Module Manager starts puts the retained data in self-refresh (R64, R119). -/
def State.retain (s : State) (cause : RstCause) : State :=
  if cause = .cmdWarm ∧ s.mmRuns then
    (s.fillSlots.updSvc fun v => { v with retainedPkg := s.pkg.ident }).updKa fun k =>
      { k with retentionValid := true, retSrc := false }
  else s

/-- The Event Recorder buffer goes to flash before a cold restart of these causes (R65, R372, R389). -/
def State.flushFor (s : State) (cause : RstCause) : State :=
  match cause with
  | .cmdCold | .lcTransition | .kaWatchdog => s.evrFlushEnd s.recs.evr.buffer.length
  | _ => s

/-- A new hash key of 128 bits (R244): they are the random source's. -/
def State.newHashKey (s : State) : State :=
  let (u, s) := s.free
  let (v, s) := s.free
  s.updSwc fun w => { w with hashKey := u.toNat + v.toNat * 2 ^ 64, hashEpoch := Nat.min 0xFFFF (w.hashEpoch + 1) }

/-- A running operation of the Service Channel ends without effect (R72, R74): a slice being created is none again,
learned lookups hit again, and a package whose exchange is under way is given up as R136 states. -/
def State.cutSvc (s : State) : State :=
  match s.svc.running with
  | none => s
  | some o =>
    let s := match o.work with
      | .sliceCreate b => (s.updSlice b.slice noSlice).updUnit (.slice b.slice) fun u =>
        { u with st := .off, en := false, startFailed := false }
      | .pkgCommit _ => if s.svc.staged.isSome then s.exchUndo else s
      | .hashRekey => s.updSwc fun w => { w with rekeying := false }
      | _ => s
    let s := s.updSvc fun v => { v with running := none, waiting := none, code := 0 }
    (s.updKa fun k => { k with svcCut := true }).updBst fun b => { b with busy := false }

/-- A restart: the claim is dropped first, an operation of the Service Channel is cut, and the module starts again at
KA_START, with what R65 keeps. -/
def State.restart (s : State) (cause : RstCause) (sealOk : Bool) : State :=
  let s := (s.retain cause).flushBeams
  let warm := s.warmHolds cause sealOk
  let sealed : Bool := asksWarm cause && s.ka.retentionValid && sealOk
  let s := s.toOffline
  let why : RstCause := if s.glb.phase = .safe then .bistSafe else cause
  let s := if warm then s else s.flushFor why
  let s := s.cutSvc
  let t := s.survive
  let t := if warm then t.keepWarm s else t.newHashKey
  let t := if cause = .powerReturn ∨ s.col.stopped then t.freshTime else t
  let t := t.updKa fun k =>
    { k with cause := why, count := Nat.min 0xFFFF (k.count + 1), journalSealOk := sealed
             retentionValid := k.retentionValid && warm, bootRetried := false }
  t.updGlb fun g => { g with restartWarm := warm }

/-- The module takes a restart from the driver: not before BOOT ends, and not while its supply is failing. -/
def State.restartOpen (s : State) : Bool := s.ka.powerGood && (s.hw.pf = .none || s.hw.pf = .below) && !s.hw.thermalTrip

/-- RESTART_WARM (R57, R63). -/
def execRestartWarm (sealOk : Bool) (s : State) : Res :=
  .next (if s.restartOpen then s.restart .cmdWarm sealOk else s)

/-- RESTART_COLD (R57, R63). -/
def execRestartCold (s : State) : Res := .next (if s.restartOpen then s.restart .cmdCold false else s)

/-! ## Power-up (R49 to R52, R451) -/

/-- GA0 to GA9 and GA_PAR hold an odd number of ones (R451). -/
def parityOk (st : Straps) : Bool :=
  ((List.range 10).foldl (fun n i => if st.ga.getLsbD i then n + 1 else n) (if st.gaPar then 1 else 0)) % 2 = 1

/-- The keep-alive domain starts: what flash, the cells and the boundary hold is kept, the straps are read. -/
def State.powerOn (s : State) (st : Straps) : State :=
  let t := s.survive.freshTime
  let t := (t.updSwc fun w => { w with hashEpoch := 0 }).newHashKey
  let bad := !parityOk st
  let ka : Ka :=
    { powerGood := true, powerGoodAt := s.now, nextBank := s.ka.nextBank, flushFailed := s.ka.flushFailed,
      vin := s.ka.vin, hours := s.ka.hoursFlash, pwrcyc := s.ka.pwrcycFlash + 1, hoursFlash := s.ka.hoursFlash,
      pwrcycFlash := s.ka.pwrcycFlash, hoursAt := s.now }
  let t := { t with
    ka := ka
    glb := { lcs := s.glb.lcs, modnum := st.ga }
    hw := { t.hw with pins := st.ga, gaParErr := bad, energy := 0, vstore := 0, charging := true, slotOpen := false,
                      thermalTrip := false, hotCore := false, hotPlate := false, tempCrit := false }
    hif := { journalFlash := s.hif.journalFlash }
    mlk.strapPrimary := st.primary
    recs.evr.alarms := t.recs.evr.alarms.filter fun a => a.1 = Ev.latchOpen }
  if bad then t.alarm .gaParity 0 else t

/-- POWER_GOOD (R49, R451): the input stage reports power good to a module without power. -/
def execPowerGood (st : Straps) (s : State) : Res :=
  .next (if s.ka.powerGood then s else s.powerOn st)

/-- KA_START_DONE (R49): the OCXO has started, so REF_OK is 1, and BOOT begins with NEXT_BANK. -/
def execKaStartDone (s : State) : Res :=
  .next (if s.glb.phase = .kaStart ∧ s.ka.powerGood ∧ s.hw.pf ≠ .flushed ∧ ¬ s.hw.thermalTrip then
      (s.updCol fun c => { c with refOk := true }).beginBoot s.ka.nextBank
    else s)

/-- BOOT_VERIFY_DONE (R52, R54, R410): the bank boots, the other bank is tried, or BOOT_FAILED. -/
def execBootVerifyDone (readOk : Bool) (s : State) : Res :=
  .next (if s.glb.phase ≠ .boot then s
    else
      let b := s.ka.tryBank
      let r := s.verifyBank b readOk
      let s := s.setResult b r
      if r = .good then
        let first := s.bankResult s.ka.nextBank
        let back : Bool := b ≠ s.ka.nextBank && (first = .bad || first = .rollback)
        let s := (s.updKa fun k => { k with runningBank := b }).updGlb fun g =>
          { g with phase := .mmStart, fwBank := b, fwFallback := back }
        if back then s.alarm .fwFallback 0 else s
      else if s.bankResult (!b) = .notTried then s.updKa fun k => { k with tryBank := !b }
      else s.updGlb fun g => { g with phase := .bootFailed })

/-- MM_START_DONE (R49, R403): the firmware runs; Obscura's scramble has been renewed. -/
def execMmStartDone (s : State) : Res :=
  .next (if s.glb.phase ≠ .mmStart then s
    else
      let s := s.updObs fun o => { o with scramble := (o.scramble + 1) % 65536 }
      s.updGlb fun g => { g with phase := .selfTest })

/-! ## SELF_TEST and SETUP (R49, R66, R417, R479) -/

/-- The package of the active configuration bank is loaded, and its units start. -/
def State.loadPackage (s : State) : State :=
  match (if s.svc.active then s.svc.cfg1 else s.svc.cfg0) with
  | some i => (s.configure i.body).unitsFromPackage
  | none => s

/-- The region of a start-up failure, in the order of R417: PLL, VREF, the lowest lens, the SerDes. Which SerDes failed
is not told, so a free value. -/
def State.failedRegion (s : State) (r : StartupResult) : Nat × State :=
  if !r.pllPass then (0x400, s)
  else if !r.vrefPass then (0x500, s)
  else match (List.range lensCount).find? fun l => !r.lensPass.getLsbD l with
    | some l => (l, s)
    | none => let (v, s) := s.free; (0x200 + v.toNat % 0x50, s)

/-- Every tested part has passed. -/
def startupPass (r : StartupResult) : Bool :=
  r.serdesPass && r.pllPass && r.vrefPass && (List.range lensCount).all fun l => r.lensPass.getLsbD l

/-- A self-test of a region has failed, and is counted. The failing signature and the golden value are the die's: free
values (R419, log 115). -/
def State.bistFailed (s : State) (region : Nat) : State :=
  let (a, s) := s.free
  let (b, s) := s.free
  s.updBst fun x => { x with result := .fail, region := region, sig := a, gold := b, fails := sat32 x.fails 1 }

/-- The start-up BIST has failed: HELD, with its region (R52, R419). -/
def State.startupFail (s : State) (r : StartupResult) : State :=
  let (k, s) := s.failedRegion r
  ((s.bistFailed k).event .bistFail k).updGlb fun g => { g with phase := .held }

/-- STARTUP_BIST_DONE (R417): BST_STARTUP holds the results. A cold restart reaches SETUP; a warm one goes on with
RUNNING once its own work is done. A failure gives HELD. -/
def execStartupBistDone (r : StartupResult) (s : State) : Res :=
  .next (if s.glb.phase ≠ .selfTest then s
    else
      let s := s.updBst fun x =>
        { x with lensPass := r.lensPass, serdesPass := r.serdesPass, pllPass := r.pllPass, vrefPass := r.vrefPass }
      if ¬ startupPass r then s.startupFail r
      else
        let s := { s with lenses := s.lenses.mapRows fun _ x => { x with needsTest := false } }
        if s.glb.restartWarm then s
        else (s.updGlb fun g => { g with phase := .setup }).loadPackage)

/-! ## The end of a warm restart (R65, R66, R120) -/

/-- Every unit with EN 1 passes STARTING again, slices among them. -/
def State.restartUnits (s : State) : State :=
  s.each (s.units.rows.filter fun r => r.2.en && r.2.st = .off) fun s r => s.unitBegin (unitOfKey r.1)

/-- WARM_RESTART_DONE (R58, R65, R66): every lens that needed it has been tested; the package is loaded again and counts
as committed, programs of lenses with EN 1 start from their retained slots (R478), accepted work resumes from the
journal, and RUN is set. A module whose partner claims takes its logic state from it and not from its slots (R121). -/
def execWarmRestartDone (s : State) : Res :=
  .next (if s.glb.phase ≠ .selfTest ∨ ¬ s.glb.restartWarm ∨ s.lenses.rows.any fun r => r.2.needsTest then s
    else match (if s.svc.active then s.svc.cfg1 else s.svc.cfg0) with
    | none => s
    | some i =>
      let s := s.configure i.body
      let s := if s.pkg.mlk.paired ∧ s.mlk.partnerClaiming then s
        else s.each (s.logicList.filter fun p => (s.unit (.lens (s.pkg.logic.get p).lens)).en) fun s p =>
          s.updLogic p fun x => { x with warm := true }
      let s := (s.updGlb fun g => { g with run := true, phase := .setup }).updSvc fun v => { v with committed := true }
      let s := s.restartUnits
      let s := s.resumeOwn
      ((s.enterRunning).raiseFloors).runGroups)

/-! ## Hold-up (R52, R455) -/

/-- HOLDUP_CHARGED (R455): the store's energy and voltage have changed. HOLDUP_READY stays 0 during a test (R417). -/
def execHoldupCharged (energy vstore : Nat) (s : State) : Res :=
  .next (if ¬ s.ka.powerGood then s
    else
      let fell : Bool := decide (8000 ≤ s.hw.energy ∧ energy < 8000)
      let test : Bool := s.bst.busy && s.bst.region = 0x700
      let ready : Bool := decide (8000 ≤ energy) && !test
      let s := s.updHw fun h => { h with energy := Nat.min energy 0xFFFF, vstore := Nat.min vstore 0xFFF
                                         charging := decide (vstore < 800) }
      let s := s.updGlb fun g => { g with holdupReady := ready }
      if fell then s.alarm .holdup 0 else if ready then s.clearAlarm .holdup 0 else s)

/-- HOLDUP_TIMEOUT (R52): 3 s after power good the store is not charged. -/
def execHoldupTimeout (s : State) : Res :=
  .next (if s.ka.powerGood ∧ ¬ s.glb.holdupReady then
      (s.upTo (s.ka.powerGoodAt + 3000000000)).alarm .holdup 0
    else s)

/-! ## RUN (R51, R58) -/

/-- The conditions of R51. -/
def State.mayRun (s : State) : Bool :=
  s.glb.phase = .setup && s.svc.committed &&
    (s.glb.lcs = .manufacture || s.glb.lcs = .service || (s.glb.lcs = .operational && s.glb.holdupReady))

/-- Programs start cold after RUN was cleared (R58). -/
def State.relaunch (s : State) : State :=
  if s.hif.fetchStopped then
    let s := s.updHif fun h => { h with fetchStopped := false }
    s.each ((List.range 16).filter fun l => s.unitOn (.lens l)) fun s l => s.lensOn l
  else s

/-- RUN is set (R51, R58, R411): slices are polled from MIN_US, groups with RUN sample again. -/
def State.runOn (s : State) : State :=
  let s := (s.updGlb fun g => { g with run := true }).relaunch
  let s := ((s.enterRunning).raiseFloors).runGroups
  s.each ((List.range 64).filter fun i => s.unitOn (.slice i)) fun s i =>
    if (s.slice i).paused ∨ (s.slice i).work.isSome then s else s.resumePolls i

/-- A write of 1 to GLB_CTRL.RUN (R51): refused too while RUN is set, since PHASE is not SETUP then. -/
def State.writeRun (s : State) : State :=
  if s.mayRun then s.runOn
  else s.updGlb fun g => { g with runRefused := true }

/-- RUN_SET (R51). -/
def execRunSet (s : State) : Res := .next s.writeRun

/-- A write of 0 to RUN in SERVICE; elsewhere it is ignored (R58). Nothing more is fetched. -/
def State.clearRun (s : State) : State :=
  if s.glb.run ∧ s.glb.lcs = .service ∧ s.glb.phase = .running ∧ ¬ s.glb.clearing then
    (s.updGlb fun g => { g with clearing := true }).updHif fun h =>
      { h with fetchStopped := true, slices := h.slices.mapRows fun _ x => { x with pollOut := false } }
  else s

/-- RUN_CLEAR (R58). -/
def execRunClear (s : State) : Res := .next s.clearRun

/-- A logic program stops after its next COMMIT (R58); one whose COMMIT has been made, or that is not in a cycle that
will commit, stops now. -/
def State.logicHalt (s : State) (p : Nat) : State :=
  let x := s.logic.get p
  if x.st ≠ .running ∧ x.st ≠ .exchanging then s
  else if x.phase = .execute ∨ x.phase = .snapshot ∨ x.phase = .ready ∨ x.commitDue then
    s.updLogic p fun x => { x with stopAsked := true }
  else s.logicStop p .stopped

/-- Programs other than logic programs that are between two cycles stop (R58); a protection or loop program in a WAIT stops
at its next tick, and a Focus assistant, which has no cycle, at its WAIT. -/
def State.stopIdle (s : State) : State :=
  s.each (List.range 16) fun s l => s.each (s.lensPrograms l) fun s h =>
    let f := s.host l h
    let x := s.facets.get (fKey l f)
    if (s.logicAt l h).isNone ∧ (betweenCycles x ∨ (x.role = .focusAssist ∧ x.run = .gated)) then s.stopFacet l f else s

/-- Step 3 of R58 begins: programs stop at their boundaries, every arm is BLOCKED, Periscope groups stop and Loupe
buffers go to IDLE. -/
def State.haltWork (s : State) : State :=
  let s := s.updGlb fun g => { g with halting := true }
  let s := (s.each s.logicList fun s p => s.logicHalt p).stopIdle
  let s := s.each s.armList fun s a => s.updArm a fun x => { x with op := .blocked, cause := .cmd, pend := none }
  (s.stopGroups).idleLoupes

/-- A program still works in its last cycle, or a final COMMIT has not ended (R58). -/
def State.stillWorks (s : State) : Bool :=
  (s.logicList.any fun p =>
    let x := s.logic.get p
    x.st = .running || x.st = .exchanging || x.committing || x.safeDue.isSome) ||
  s.facets.rows.any fun r => r.2.run = .active || (r.2.run = .gated && !betweenCycles r.2)

/-- RUN_CLEAR_DONE (R58): accepted work has ended, and programs stop after their present cycles. Once all have stopped,
RUN := 0 and PHASE := SETUP; until then the row leaves RUN as it is. -/
def execRunClearDone (s : State) : Res :=
  .next (if ¬ s.glb.clearing ∨ s.hif.journal.any fun e => e.state ≠ .completed then s
    else
      let s := if s.glb.halting then s.stopIdle else s.haltWork
      if s.stillWorks then s
      else
        let s := s.toOffline
        s.updGlb fun g => { g with run := false, clearing := false, halting := false, phase := .setup })

/-! ## Failures of the Module Manager (R52, R371, R395) -/

/-- A dump of stage `stage` and cause `cause` in module DRAM. -/
def State.newDump (s : State) (stage cause : Nat) : State :=
  { s with
    recs.dumpNo := s.recs.dumpNo + 1, recs.dumpCopied := false
    recs.dump := some { stage := stage, cause := cause, dumpNo := s.recs.dumpNo + 1, tai := s.tai,
                        hours := s.ka.hours.toNat, pwrcyc := s.ka.pwrcyc.toNat, fwBank := s.glb.fwBank,
                        modnum := s.glb.modnum.toNat, jseq := s.hif.jseq, epoch := s.mlk.sealedOrCommitted } }

/-- The steps of R371 while the firmware runs; during start-up the other bank is booted, once (R52). -/
def State.mmFail (s : State) (cause : Nat) : State :=
  match s.glb.phase with
  | .kaStart | .boot | .bootFailed => s
  | .mmStart | .selfTest =>
    if s.ka.bootRetried then s.updGlb fun g => { g with phase := .bootFailed }
    else (s.updKa fun k => { k with bootRetried := true }).beginBoot (!s.ka.runningBank)
  | _ =>
    let drop : Bool := s.ka.claimDrop && s.paired && s.mlk.role = .active
    let s := s.cutSvc
    let s := s.updMlk fun m => { m with mmDown := true }
    let s := s.updHif fun h => { h with slices := h.slices.mapRows fun _ x => { x with pollOut := false } }
    let s := if s.col.st = .locked then s.toHoldover else s
    let s := if drop then (s.dropGrant .standby).updMlk fun m => { m with complete := false } else s
    s.newDump 1 cause

/-- MM_WATCHDOG_EXPIRY (R52, R371). -/
def execMmWatchdogExpiry (s : State) : Res := .next (s.mmFail 2)

/-- MM_LOCKSTEP_FAIL (R371). -/
def execMmLockstepFail (s : State) : Res := .next (s.mmFail 1)

/-- MM_RESTART_DONE (R371, R395): the firmware runs again, from the other bank where that verifies; it completes a
REDUCED dump, and fetching resumes from the journal, or a standby asks for a resynchronisation. -/
def execMmRestartDone (s : State) : Res :=
  .next (if ¬ s.mlk.mmDown then s
    else
      let b := !s.ka.runningBank
      let r := s.verifyBank b true
      let s := s.setResult b r
      let s := if r = .good then
          (s.updKa fun k => { k with runningBank := b }).updGlb fun g => { g with fwBank := b }
        else s
      let dump := s.recs.dump.map fun (d : Dump) => { d with stage := 2 }
      let s : State := { s with recs.dump := dump }
      let s := s.updMlk fun m => { m with mmDown := false }
      let s := s.each (List.range 16) fun s l => s.nextRepair l
      if s.mlk.role = .standby then (if s.mlk.complete then s else s.startResync) else s.resumeKept)

/-- FIRMWARE_FATAL (R389, R395): a fatal error of the firmware writes the complete dump and flushes the recorder. -/
def execFirmwareFatal (s : State) : Res :=
  .next (if s.mmRuns then (s.newDump 2 3).updEvr fun e => evrAskFlush true e else s)

/-- DUMP_FLASH_COPY_DONE (R395): a complete dump is in the next of the 16 slots. -/
def execDumpFlashCopyDone (s : State) : Res :=
  .next (match s.recs.dump with
  | some d =>
    if s.mmRuns ∧ ¬ s.recs.dumpCopied ∧ d.stage = 2 then
      { s with recs.dumpSlots := putRow s.recs.dumpSlots s.recs.nextDumpSlot d, recs.dumpCopied := true
               recs.nextDumpSlot := (s.recs.nextDumpSlot + 1) % 16 }
    else s
  | none => s)

/-! ## The keep-alive domain (R62, R372) -/

/-- KA_WATCHDOG (R372): the keep-alive domain fails; the claim stops, the grant falls, the recorder buffer is flushed
and the module restarts cold. -/
def execKaWatchdog (s : State) : Res := .next (if s.ka.powerGood then s.restart .kaWatchdog false else s)

/-- KA_HOURS_TICK (R62): 0.01 h have passed; the Module Manager saves the stamps to flash. -/
def execKaHoursTick (s : State) : Res :=
  .next (if ¬ s.ka.powerGood then s
    else
      let t := s.ka.hoursAt + 36000000000
      let s := (s.upTo t).updKa fun k => { k with hours := k.hours + 1, hoursAt := t }
      if s.mmRuns then s.updKa fun k => { k with hoursFlash := k.hours, pwrcycFlash := k.pwrcyc } else s)

end Sys2Proof.Machine
end

