-- ==== Sys2Proof/Machine/Hardware.lean ====
section
/-! DEFINITION. Supply, power-fail and hold-up (R438, R439, R454, R473), temperatures (R442), latch and transceivers
(R445, R474), trip output supervision (R466), and self-tests with the safe state (R101, R369, R419, R420). -/

namespace Sys2Proof.Machine

/-! ## Supply warnings (R438, R439, R454) -/

/-- 34.0 V, 35.0 V and 33.0 V in units of 25 mV. -/
def vWarn : Nat := 1360
def vReturn : Nat := 1400
def vFail : Nat := 1320

/-- VIN as measured. -/
def State.setVin (s : State) (v : BitVec 12) : State := s.updKa fun k => { k with vin := v }

/-- SUPPLY_WARN (R438, R454): below 34 V. No Service Channel operation starts, and Periscope copies pause. -/
def execSupplyWarn (v : BitVec 12) (s : State) : Res :=
  .next (if ¬ s.ka.powerGood then s
    else
      let s := s.setVin v
      if v.toNat < vWarn then { s.updKa fun k => { k with warn := true } with recs.copyPaused := true } else s)

/-- SUPPLY_WARN_CLEAR (R439, R454): 35 V again before qualification. -/
def execSupplyWarnClear (v : BitVec 12) (s : State) : Res :=
  .next (if ¬ s.ka.powerGood then s
    else
      let s := s.setVin v
      if vReturn ≤ v.toNat then
        let s := s.updHw fun h => { h with pf := if h.pf = .below then .none else h.pf }
        { s.updKa fun k => { k with warn := false } with recs.copyPaused := false }
      else s)

/-- SUPPLY_BELOW_PFAIL (R438, R442, R454): through 33 V; the 200 µs of qualification begin. The removal of the supply
ends the hold of a thermal trip. -/
def execSupplyBelowPfail (v : BitVec 12) (s : State) : Res :=
  .next (if ¬ s.ka.powerGood ∨ vFail ≤ v.toNat then s
    else
      let s := ((s.setVin v).updKa fun k => { k with warn := true }).updHw fun h => { h with thermalTrip := false }
      let s : State := { s with recs.copyPaused := true }
      if s.hw.pf = .none then s.updHw fun h => { h with pf := .below, belowAt := s.now } else s)

/-! ## Power-fail (R373, R438, R473) -/

/-- Power-fail is qualified: nothing more is accepted. A module whose partner is in service drops the grant at once;
a single one blocks its arms from the next frame. Before RUNNING nothing is kept (R52). -/
def State.qualify (s : State) : State :=
  let s := (s.updHw fun h => { h with pf := .qualified, qualAt := s.now }).updKa fun k => { k with pfail := true }
  if s.glb.phase ≠ .running then s.updKa fun k => { k with retentionValid := false }
  else
    let s := s.updHif fun h =>
      { h with fetchStopped := true, slices := h.slices.mapRows fun _ x => { x with pollOut := false } }
    let s := s.evrCloseAll true
    if s.paired then s.toOffline
    else if s.mlk.grant then
      s.each s.armList fun s a => s.updArm a fun x => { x with blockAt := x.blockAt ++ [(0, 0)] }
    else s

/-- PFAIL_QUALIFIED (R438): 200 µs below 33 V. -/
def execPfailQualified (s : State) : Res :=
  .next (if s.hw.pf = .below then (s.upTo (s.hw.belowAt + 200000)).qualify else s)

/-- SLOT_PRESENT_OPEN (R473): power-fail is taken as qualified at once, and the supply does not return. -/
def execSlotPresentOpen (s : State) : Res :=
  let s := s.updHw fun h => { h with slotOpen := true }
  .next (if s.ka.powerGood ∧ (s.hw.pf = .none ∨ s.hw.pf = .below) then s.qualify else s)

/-- THERMAL_TRIP (R442, R474): one power-fail sequence from the qualification on, then the module is held until its
supply is removed and restored; one that is out already has been removed. -/
def execThermalTrip (s : State) : Res :=
  .next (if ¬ s.ka.powerGood then s
    else
      let s := s.updHw fun h =>
        { h with thermalTrip := h.pf = .none || h.pf = .below || h.returned.isSome || h.thermalTrip }
      if s.hw.pf = .none ∨ s.hw.pf = .below then s.qualify else s)

/-- PFAIL_BLOCK_FRAMES_SENT (R373, R438): two frames of BLOCK have left a single module, which keeps the grant through the
hold-up: of R373 and R438 the chapter that owns the grant decides (R8, log 112). -/
def execPfailBlockFramesSent (s : State) : Res :=
  .next (if s.hw.pf ≠ .qualified ∨ ¬ s.mlk.grant then s
    else
      (s.upTo (s.hw.qualAt + 2 * s.pkg.cnv.cf + 1000)).updHw fun h => { h with pf := .blocked })

/-- Everything but the keep-alive domain, DRAM and flash loses its power; what a warm restart needs stays (R438). -/
def State.powerDown (s : State) : State :=
  let s := s.flushBeams.toOffline.cutSvc
  let t := if s.ka.retentionValid then s.survive.keepWarm s else s.survive
  let down (p : HostPortSt) : HostPortSt := { p with up := false, speed := 0, width := 0 }
  { t with
    hif.ports := t.hif.ports.mapRows fun _ p => down p
    hw.pf := .flushed
    hw.returned := s.hw.returned }

/-- The supply is back after the flush: a restart with POWER_RETURN, unless the thermal trip still holds the module
(R439, R442). -/
def State.comeBack (s : State) (sealOk : Bool) : State :=
  if s.hw.thermalTrip ∨ s.hw.slotOpen then s
  else ((s.restart .powerReturn sealOk).updKa fun k => { k with warn := false }).updRecs fun r => { r with copyPaused := false }

/-- PFAIL_FLUSH_DONE (R62, R438): slots are filled, and the journal, retained data and recorder buffer are in flash.
Before RUNNING nothing is flushed (R52). The stamps are saved either way. -/
def execPfailFlushDone (s : State) : Res :=
  .next (if ¬ (s.hw.pf = .blocked ∨ (s.hw.pf = .qualified ∧ ¬ s.mlk.grant)) then s
    else
      let s := if s.glb.phase = .running then
          let s := (s.upTo (s.hw.qualAt + 74700000)).fillSlots
          let s := s.evrFlushEnd s.recs.evr.buffer.length
          let s := s.updSvc fun v => { v with retainedPkg := s.pkg.ident }
          let s := s.updHif fun h => { h with journalFlash := h.journal }
          s.updKa fun k => { k with retentionValid := true, retSrc := true, flushFailed := false }
        else s
      let s := if s.mmRuns then s.updKa fun k => { k with hoursFlash := k.hours, pwrcycFlash := k.pwrcyc } else s
      let s := s.powerDown
      match s.hw.returned with
      | some sealOk => s.comeBack sealOk
      | none => s)

/-- STORE_EXHAUSTED (R439): the hold-up store runs out, and the keep-alive domain loses its power; an unfinished flush
has failed. -/
def execStoreExhausted (s : State) : Res :=
  .next (match s.hw.pf with
  | .none | .below => s
  | st =>
    let failed : Bool := st ≠ .flushed && s.glb.phase = .running
    let s := s.updKa fun k =>
      { k with retentionValid := false, flushFailed := k.flushFailed || failed }
    let s := (s.powerDown).updHw fun h => { h with pf := .none, returned := none, energy := 0, vstore := 0 }
    ((s.updKa fun k => { k with powerGood := false }).updGlb fun g => { g with holdupReady := false }).emptySlots)

/-- SUPPLY_RETURN (R439, R454): 35 V for 10 ms after power-fail. During the flush the return is remembered. -/
def execSupplyReturn (v : BitVec 12) (sealOk : Bool) (s : State) : Res :=
  .next (if ¬ s.ka.powerGood ∨ v.toNat < vReturn then s
    else
      let s := s.setVin v
      match s.hw.pf with
      | .qualified | .blocked => s.updHw fun h => { h with returned := some sealOk }
      | .flushed => s.comeBack sealOk
      | _ => s)

/-! ## Latch and transceivers (R445, R474) -/

/-- LATCH_OPEN (R474): alarm; an ACTIVE module whose partner is in service yields. -/
def execLatchOpen (s : State) : Res :=
  .next (if s.hw.latchOpen then s
    else
      let s := (s.updHw fun h => { h with latchOpen := true }).alarm .latchOpen 0
      if s.mlk.role = .active ∧ s.paired then s.askYield else s)

/-- LATCH_CLOSE (R474). -/
def execLatchClose (s : State) : Res :=
  .next ((s.updHw fun h => { h with latchOpen := false }).clearAlarm .latchOpen 0)

/-- Sets bit `k` of a cage mask. -/
def cageBit (m : BitVec 6) (k : Nat) (v : Bool) : BitVec 6 := if v then m ||| (1#6 <<< k) else m &&& ~~~(1#6 <<< k)

/-- MOD_PRESENT of cage `k`: P0 to P3, then ML0 and ML1. -/
def State.setModule (s : State) (k : Nat) (v : Bool) : State :=
  if k < 4 then s.updPort k fun p => { p with modPresent := v } else s.updLink (k - 4) fun x => { x with modPresent := v }

/-- XCVR_INSERT (R445): above the cage's power limit it is not powered; not on the qualified list it is noted. -/
def execXcvrInsert (k : Fin 6) (powerOk qualified : Bool) (s : State) : Res :=
  let s := (s.setModule k true).updHw fun h =>
    { h with xcvrNoPwr := cageBit h.xcvrNoPwr k (!powerOk), xcvrUnqual := cageBit h.xcvrUnqual k (!qualified) }
  .next (if qualified then s else s.event .xcvrUnqualified k)

/-- XCVR_REMOVE (R474): a link loss. -/
def execXcvrRemove (k : Fin 6) (s : State) : Res :=
  let s := (s.setModule k false).updHw fun h =>
    { h with xcvrNoPwr := cageBit h.xcvrNoPwr k false, xcvrUnqual := cageBit h.xcvrUnqual k false }
  .next (if k.val < 4 then
      (s.linkLost k).updPort k.val fun q => { q with fecLock := false, rxLos := true, txFault := false }
    else (s.mirrorLost (k.val - 4)).updLink (k.val - 4) fun l => { l with fecLock := false, rxLos := true })

/-! ## Indicators (R445) -/

/-- How an indicator shows. -/
inductive Lamp | off | on | flash
  deriving DecidableEq, Repr

/-- RUN, ACTIVE, ALARM and SERVICE. -/
def State.lamps (s : State) : Lamp × Lamp × Lamp × Lamp :=
  let lit (b : Bool) : Lamp := if b then .on else .off
  (lit (s.glb.phase = .running), lit s.mlk.grant, lit (s.recs.evr.alarms ≠ []),
   if s.glb.phase = .held ∨ s.glb.phase = .safe ∨ s.glb.phase = .bootFailed then .flash else lit (s.glb.lcs = .service))

/-! ## Temperatures (R442) -/

/-- A flag with a threshold, which clears 3 K below it. -/
def hot (was : Bool) (limit temp : Int) : Bool := decide (limit ≤ temp) || (was && decide (limit - 3 < temp))

/-- An alarm follows its flag. -/
def State.alarmIs (s : State) (e : Ev) (d : Nat) (on : Bool) : State := if on then s.alarm e d else s.clearAlarm e d

/-- The core junction measures `t`. -/
def State.coreTemp (s : State) (t : Int) : State :=
  let was := s.hw.tempCrit
  let s := s.updHw fun h => { h with coreTemp := t, hotCore := hot h.hotCore 105 t, tempCrit := hot h.tempCrit 115 t }
  let s := (s.alarmIs .tempWarn 0 s.hw.hotCore).alarmIs .tempCrit 0 s.hw.tempCrit
  if s.hw.tempCrit ∧ ¬ was ∧ s.mlk.role = .active ∧ s.paired then s.askYield else s

/-- TEMP_WARN (R442): a sensor's temperature has crossed a threshold. -/
def execTempWarn (x : Sensor) (t : Int) (s : State) : Res :=
  .next (match x with
  | .core => s.coreTemp t
  | .coldPlate =>
    let s := s.updHw fun h => { h with coldTemp := t, hotPlate := hot h.hotPlate 72 t }
    s.alarmIs .tempWarn 1 s.hw.hotPlate
  | .inputStage => s.updHw fun h => { h with inputTemp := t })

/-- TEMP_CRIT (R442): the core at 115 °C, or 3 K below it again; an ACTIVE module with a partner in service yields. -/
def execTempCrit (t : Int) (s : State) : Res := .next (s.coreTemp t)

/-! ## Trip outputs (R466) -/

/-- DRIVEN of a trip output. -/
def State.driven (s : State) (m : Nat) : Bool := (s.tos.get m).closed && s.mlk.grant

/-- TO_OVERLOAD (R466): more than 2 A for 200 ms through a closed output, which stays closed. -/
def execToOverload (m : Fin 4) (s : State) : Res :=
  .next (if s.driven m then (s.updTo m fun t => { t with overload := true }).event .toOverload m else s)

/-- TO_NOLOAD (R466): the terminal voltage of an open output, in units of 0.5 V, has been below 10 V for 100 ms, or is
above 15 V again. -/
def execToNoload (m : Fin 4) (offv : Nat) (s : State) : Res :=
  .next (if s.driven m then s
    else
      let s : State := { s with hw.toOffv := s.hw.toOffv.set m (Nat.min offv 255) }
      if offv < 20 ∧ ¬ (s.tos.get m).noload then (s.updTo m fun t => { t with noload := true }).event .toNoload m
      else if 30 < offv then s.updTo m fun t => { t with noload := false }
      else s)

/-! ## The safe state (R419, R420) -/

/-- A slice whose host port is down is reached through the other port, if that is up (R420). -/
def State.anyPort (s : State) : State :=
  let up (h : Nat) : Bool := (s.hif.ports.get h).up
  s.updHif fun h => { h with slices := h.slices.mapRows fun _ x =>
    { x with port := if up x.port ∨ ¬ up (1 - x.port) then x.port else 1 - x.port } }

/-- Accepted descriptors without a completion end with ABORTED_RESET, in SEQ order per ring, and are written. -/
def State.abortJournal (s : State) : State :=
  let s := s.anyPort
  s.each (s.hif.journal.filter fun e => e.accepted) fun s e =>
    let s := s.complete e.jseq cAbortedReset 0
    match s.jEntry e.jseq with
    | some x => s.writeCompletion { x with sealed := true }
    | none => s

/-- The module enters its safe state after a self-test failure in region `k` (R419). While the partner is in service
it writes no completion (R420). -/
def State.safeState (s : State) (k : Nat) : State :=
  let partner := s.paired
  let s := s.toOffline
  let s := s.each s.armList fun s a => s.updArm a fun x => { x with op := .blocked, pend := none }
  let s := s.updHif fun h => { h with fetchStopped := true }
  let s := s.each s.facets.keys fun s k => s.stopFacet (k / 64) (k % 64)
  let s := if partner then s else s.abortJournal
  let s := (s.updGlb fun g => { g with phase := .safe }).alarm .bistFail k
  s.updEvr fun e => evrAskFlush true e

/-- A rolling self-test of region `k` has failed where R419 leads to the safe state; the module is not ready (R368). -/
def State.rollFailed (s : State) (k : Nat) : State :=
  ((s.bistFailed k).updMlk fun m => { m with selfTestFailed := true, stFails := Nat.min 0xFFFF (m.stFails + 1) }).safeState k

/-- SELFTEST_FAIL (R101, R419): the facet is fenced, one that runs a program at its next cycle boundary. In an ACTIVE
module that ends it but for the BIST_FAIL event, and the lens has had a failed test (R66); any other failure in RUNNING
takes the module to its safe state. A facet that is fenced already is left out of the self-test (R481). -/
def execSelftestFail (l : Fin 16) (f : Fin 64) (s : State) : Res :=
  let x := s.facets.get (fKey l f)
  let runs : Bool := x.role ≠ .spare && (x.run = .active || x.run = .gated) && !betweenCycles x
  if x.run = .fenced then .next s else
  let s := s.updLens l fun y => { y with needsTest := true }
  let s := if runs then s.updFacet l f fun x => { x with testFailed := true } else s.hwFault l f .selftestFail
  .next (if s.glb.phase = .running ∧ s.mlk.role ≠ .active then
      s.rollFailed l
    else (s.bistFailed l).event .bistFail l)

end Sys2Proof.Machine
end

