-- ==== Sys2Proof/Machine/Service.lean ====
section
/-! DEFINITION. The Service Channel (R70 to R74, R314) and its operations: FW_COMMIT (R53, R55), KEY_WRITE (R405 to
R407), ATTEST (R413, R414), BIST (R415 to R420), LC_TRANSITION (R69, R412), SLICE_CREATE (R319, R320), PKG_COMMIT (R56,
R428, R429) and HASH_REKEY (R244). -/

namespace Sys2Proof.Machine

/-! ## Starting an operation (R53, R70, R74) -/

/-- The operation takes the channel; an unknown one ends at once, and BOOT_FAILED takes only FW_COMMIT (R53). An unknown
operation written in BOOT_FAILED ends with INVALID (R74), not with DENIED (DESIGN CHOICE, log 76). -/
def State.svcStart (s : State) (o : SvcOp) : State :=
  let s := s.updSvc fun v => { v with running := some o }
  if o.op = 0 ∨ 8 < o.op then s.svcEnd cInvalid 0
  else if s.glb.phase = .bootFailed ∧ o.op ≠ 1 then s.svcEnd cDenied 0
  else s.syncSlice 0

/-- SVC (R314): an entry of the service ring starts its operation, or waits while a mailbox operation runs (R74). -/
def execSvc (i : Fin 64) (r : Fin 8) (s : State) : Res :=
  .next (s.runDesc i r { opcode := 3, used := [(32, 2), (40, 20)], buf := true, service := true,
                         may := fun _ => i.val = 0 } fun s j d =>
    let o : SvcOp := { op := d.num 32 1, tag := BitVec.ofNat 8 (d.num 33 1), door := .ring, jseq := j, since := s.now }
    match s.svc.running with
    | none => s.svcStart o
    | some _ =>
      if o.op = 0 ∨ 8 < o.op then s.complete j cInvalid (d.num 33 1)
      else s.updSvc fun v => { v with waiting := some o })

/-- The running operation is `op`, its block has still to be read, and it may start: the Module Manager runs and no
supply warning is active (R15, R438). -/
def State.svcReady (s : State) (op : Nat) : Bool :=
  !s.mlk.mmDown && !s.ka.warn &&
    (match s.svc.running with | some o => o.op = op && decide (o.work = .awaiting) | none => false)

/-- Runs the start of an operation on its parameter block; one that cannot be read ends it (R73). -/
def State.svcBlock {α : Type} (s : State) (op : Nat) (blk : Option α) (f : State → α → State) : State :=
  if ¬ s.svcReady op then s
  else match blk with
  | none => s.svcEnd 0x0102 0
  | some b => f s b

/-- The operation goes on with this work. -/
def State.svcWork (s : State) (w : SvcWork) : State :=
  s.updSvc fun v => { v with running := v.running.map fun o => { o with work := w } }

/-- The work of the running operation. -/
def State.svcDoing (s : State) : SvcWork :=
  match s.svc.running with | some o => o.work | none => .awaiting

/-- Address of the parameter block: ARG0 and ARG1, or BUF_ADDR (R70, R314). -/
def State.svcAddr (s : State) (o : SvcOp) : Nat :=
  match o.door with
  | .mailbox => s.svc.args[0].toNat + s.svc.args[1].toNat * 2 ^ 32
  | .ring => match s.jEntry o.jseq with | some e => e.desc.bufAddr | none => 0

/-- Length of the parameter block: ARG2, or LENGTH (R70, R314). -/
def State.svcLen (s : State) : Nat :=
  match s.svc.running with
  | some o => match o.door with
    | .mailbox => s.svc.args[2].toNat
    | .ring => match s.jEntry o.jseq with | some e => e.desc.length | none => 0
  | none => 0

/-- Writes to the parameter block, and whether the host took it: a mailbox operation writes through the port of
SVC_CMD, without PASID (R71, R73). -/
def State.svcOut (s : State) (off : Nat) (bytes : List Byte) : Bool × State :=
  match s.svc.running with
  | none => (false, s)
  | some o =>
    match o.door with
    | .ring => (true, s.hostWrite 0 (.svcResult (s.svcAddr o + off) bytes))
    | .mailbox =>
      if (s.hif.ports.get o.host).up then (true, s.emit (.mailWrite o.host (s.svcAddr o + off) bytes)) else (false, s)

/-- A use of a slot that fails R404 is counted. -/
def State.denyUse (s : State) : State := s.updObs fun o => { o with deny := sat32 o.deny 1 }

/-- A failed image ends the operation with its code; a refused use of an owner key is counted (R404, R410). -/
def State.imageFail (s : State) (i : Image) (c : Code) : State :=
  let refused : Bool := c = 0x0100 && (match ownerSlot i.keyId with | some k => (s.keyCheck k 6 []).isSome | none => false)
  (if refused then s.denyUse else s).svcEnd c 0

/-! ## FW_COMMIT (R53, R55, R427) -/

/-- The bank that FW_COMMIT writes: the one not running; in BOOT_FAILED the one its argument names. -/
def State.fwTarget (s : State) (bank : Bool) : Bool := if s.glb.phase = .bootFailed then bank else !s.ka.runningBank

/-- FW_COMMIT: the image is checked, then written. -/
def execFwCommit (bank : Bool) (img : Option Image) (s : State) : Res :=
  .next (s.svcBlock 1 img fun s i =>
    match s.imageCode false false i with
    | some c => s.imageFail i c
    | none => s.svcWork (.fwCommit (s.fwTarget bank) i))

/-- FW_COMMIT_DONE (R53, R55): the written copy verifies, and NEXT_BANK is set; BOOT_FAILED restarts from it. -/
def execFwCommitDone (flashOk : Bool) (s : State) : Res :=
  .next (match s.svcDoing with
  | .fwCommit b i =>
    if s.mlk.mmDown then s
    else if ¬ flashOk then s.svcEnd 0x0103 0
    else
      let s := s.updSvc fun v => if b then { v with bankB := some i } else { v with bankA := some i }
      let s := (s.updKa fun k => { k with nextBank := b }).svcEnd cOk 0
      if s.glb.phase = .bootFailed then s.restart .cmdCold false else s
  | _ => s)

/-! ## KEY_WRITE (R404 to R407) -/

/-- A running unit names the slot as KEY_CUR or KEY_NEXT (R406). -/
def State.keyInUse (s : State) (k : Nat) : Bool :=
  (s.pkg.svs.rows.any fun r => r.2.en && ((s.svs.get r.1).keyCur = k || (s.svs.get r.1).keyNext = k))
    || (s.pkg.gss.rows.any fun r => r.2.en && ((s.gss.get r.1).keyCur = k || (s.gss.get r.1).keyNext = k))
    || (s.pkg.gps.rows.any fun r => r.2.en && ((s.gps.get r.1).keyCur = k)
    || (s.pkg.svPubs.rows.any fun r => r.2.en && r.2.key = k))

/-- The attribute word a WRITE or DERIVE stores: VALID is set, LEN is the block's (R405). -/
def newAttr (b : KeyBlock) : Word := (b.attr &&& 0x7FFE) ||| 1 ||| BitVec.ofNat 32 (b.len * 2 ^ 16)

/-- LEN fits every USE the attribute word gives. -/
def usesFit (slot len : Nat) (a : Word) : Bool :=
  [3, 4, 5, 6, 7].all fun u => !a.getLsbD u || lenFits slot u len

/-- KEY_WRITE's conditions in the order of R406: `some c` ends the operation with `c`; OK itself is `none`. -/
def State.keyCode (s : State) (b : KeyBlock) : Option Code :=
  let a := s.slotAttr b.slot
  let p := s.slotAttr b.parent
  let sub := b.subop
  if s.glb.lcs = .decommissioned then some cDenied
  else if b.slot = 0 then some (if sub = 3 then 0x0C04 else 0x0C00)
  else if (sub = 1 ∨ sub = 3 ∨ sub = 4) ∧ !attrValid a then some 0x0C05
  else if sub = 1 ∧ !attrValid p then some 0x0C05
  else if sub = 0 ∧ attrLocked a ∧ b.slot < 4 ∧ (s.keyCheck b.slot 6 []).isNone ∧ b.rotSigGood then none
  else if sub ≠ 3 ∧ attrLocked a then some 0x0C00
  else if sub < 2 ∧ !usesFit b.slot b.len (newAttr b) then some 0x0C03
  else if sub < 3 ∧ s.keyInUse b.slot then some 0x0C06
  else if sub = 3 ∧ !attrExportable a then some 0x0C04
  else if sub = 1 ∧ (!p.getLsbD 7 || (attrExportable (newAttr b) && !attrExportable p)) then some 0x0C01
  else none

/-- The block itself is well formed (R405): a known SUBOP, a slot, reserved bytes 0 and a context of 1 to 256 bytes. -/
def keyForm (b : KeyBlock) : Bool :=
  b.reservedZero && decide (b.subop < 5 ∧ b.slot < 256 ∧ b.parent < 256 ∧ b.len < 65536) &&
    (b.subop ≠ 1 || decide (1 ≤ b.ctxLen ∧ b.ctxLen ≤ 256))

/-- KEY_WRITE ends with `c` where a use of a slot is refused (R404): of the key that verifies ROT_SIG, or of a parent. -/
def State.keyRefused (s : State) (b : KeyBlock) (c : Code) : Bool :=
  let a := s.slotAttr b.slot
  let p := s.slotAttr b.parent
  match b.subop with
  | 0 => decide (0 < b.slot ∧ b.slot < 4) && attrLocked a && c = 0x0C00 && (s.keyCheck b.slot 6 []).isSome
  | 1 => b.slot ≠ 0 && !attrLocked a && (!attrValid p || !p.getLsbD 7) && (c = 0x0C05 || c = 0x0C01)
  | _ => false

/-- KEY_WRITE of one SUBOP: the shadow slot is prepared (R403, R407). -/
def State.keyWrite (s : State) (sub : Nat) (blk : Option KeyBlock) : State :=
  s.svcBlock 2 blk fun s b =>
    if b.subop < 5 ∧ b.subop ≠ sub then s
    else if ¬ keyForm b then s.svcEnd cInvalid 0
    else match s.keyCode b with
    | some c =>
      (if s.keyRefused b c then s.denyUse else s).svcEnd c 0
    | none =>
      let parent := (s.obs.slots.get b.parent).key
      s.svcWork (.keyWrite b (if b.subop = 1 then Config.kmac parent b.data b.len else b.data.take b.len))

/-- KEY_WRITE_WRITE (R405, R406). -/
def execKeyWriteWrite (blk : Option KeyBlock) (s : State) : Res := .next (s.keyWrite 0 blk)
/-- KEY_WRITE_DERIVE (R405 to R407). -/
def execKeyWriteDerive (blk : Option KeyBlock) (s : State) : Res := .next (s.keyWrite 1 blk)
/-- KEY_WRITE_ERASE (R405, R406). -/
def execKeyWriteErase (blk : Option KeyBlock) (s : State) : Res := .next (s.keyWrite 2 blk)
/-- KEY_WRITE_EXPORT (R405, R406). -/
def execKeyWriteExport (blk : Option KeyBlock) (s : State) : Res := .next (s.keyWrite 3 blk)
/-- KEY_WRITE_LOCK (R405, R406). -/
def execKeyWriteLock (blk : Option KeyBlock) (s : State) : Res := .next (s.keyWrite 4 blk)

/-- Replaces a key slot. -/
def State.setSlot (s : State) (k : Nat) (x : KeySlot) : State := s.updObs fun o => { o with slots := o.slots.set k x }

/-- KEY_WRITE_DONE (R403): the shadow slot replaces the old content in one step; EXPORT copies the key out. -/
def execKeyWriteDone (s : State) : Res :=
  .next (match s.svcDoing with
  | .keyWrite b key =>
    if s.mlk.mmDown then s
    else
      let old := s.obs.slots.get b.slot
      match b.subop with
      | 0 => (s.setSlot b.slot { attr := newAttr b ||| (if attrLocked old.attr then 4 else 0), key := key }).svcEnd cOk 0
      | 1 => (s.setSlot b.slot { attr := newAttr b, key := key }).svcEnd cOk 0
      | 2 => (s.setSlot b.slot {}).svcEnd cOk 0
      | 3 =>
        let (ok, s) := s.svcOut 64 old.key
        s.svcEnd (if ok then cOk else 0x0102) 0
      | _ => (s.setSlot b.slot { old with attr := old.attr ||| 4 }).svcEnd cOk 0
  | _ => s)

/-! ## ATTEST (R413, R414) -/

/-- One 72-byte measurement entry. -/
def measurement (kind lens facet id : Nat) (digest : BitVec 512) : List Byte :=
  leBytes 1 kind ++ leBytes 1 lens ++ leBytes 1 facet ++ leBytes 1 0 ++ leBytes 4 id ++ leBytes 64 digest.toNat

/-- Digest of a facet program as loaded. -/
def progDigest (c : FacetCfg) : BitVec 512 :=
  Config.digest ((c.code.flatMap fun w => leBytes 4 w.toNat) ++ c.data.flatMap fun d => leBytes 4 d.1 ++ [d.2])

/-- The measurement entries: ROM, FIRMWARE, PACKAGE, then the loaded programs by lens and home facet. -/
def State.measurements (s : State) : List (List Byte) :=
  let fw := match s.fwImage s.ka.runningBank with
    | some i => [measurement 1 0xFF 0xFF i.secver i.digest] | none => []
  let pk := match (if s.svc.active then s.svc.cfg1 else s.svc.cfg0) with
    | some i => [measurement 2 0xFF 0xFF i.secver i.digest] | none => []
  let loaded := (List.range lensCount).filter fun l => (s.lenses.get l).pstate ≠ .off
  let progs := loaded.flatMap fun l => (s.lensPrograms l).map fun h =>
    measurement 3 l h (s.fCfg l h).progId (progDigest (s.fCfg l h))
  [measurement 0 0xFF 0xFF 0 Config.romDigest] ++ fw ++ pk ++ progs

/-- OBS_FLOOR (R421). -/
def State.obsFloor (s : State) : Nat :=
  s.obs.fwFloor % 128 + s.obs.pkgFloor % 128 * 2 ^ 8 + (if s.obs.key0Revoked then 2 ^ 16 else 0)
    + (if s.obs.key1Revoked then 2 ^ 17 else 0)

/-- The signed part of an Identity and Measurement Statement (R413), at this instant. -/
def State.statement (s : State) (nonce : List Byte) : List Byte :=
  let es := s.measurements
  let n := es.length
  leBytes 4 0x94001A57 ++ leBytes 2 1 ++ leBytes 2 n ++ leBytes 4 (2680 + 72 * n + 4627)
    ++ leBytes 2 (glbId % 2 ^ 16) ++ leBytes 1 (glbId / 2 ^ 16) ++ leBytes 1 (lcsCode s.glb.lcs)
    ++ leBytes 2 s.glb.modnum.toNat ++ leBytes 1 (roleCode s.mlk.role) ++ leBytes 1 (if s.glb.fwBank then 1 else 0)
    ++ leBytes 4 s.obsFloor ++ bytesAt nonce 0 32 ++ leBytes 8 s.obs.attestNo ++ leBytes 4 s.ka.pwrcyc.toNat
    ++ leBytes 4 s.ka.count ++ leBytes 4 s.ka.hours.toNat ++ leBytes 4 s.obs.lcCount ++ leBytes 8 s.tai
    ++ Config.publicKey (s.obs.slots.get 0).key ++ es.flatten

/-- ATTEST (R414): the snapshot; a block that is too short gets LENGTH and ENTRIES only, where the host takes them. The identity is a use of slot 0
for SIGN (R404). -/
def execAttest (nonce : Option (List Byte)) (hostOk : Bool) (s : State) : Res :=
  .next (s.svcBlock 3 nonce fun s x =>
    match s.keyCheck 0 5 [] with
    | some c => s.denyUse.svcEnd c 0
    | none =>
      let n := s.measurements.length
      let total := 2680 + 72 * n + 4627
      if s.svcLen < 64 + total then
        let (ok, s) := s.svcOut 32 (leBytes 4 total ++ leBytes 2 n)
        s.svcEnd (if ok && hostOk then cInvalid else 0x0102) (total + n * 2 ^ 32)
      else s.svcWork (.attest (s.statement x) n))

/-- ATTEST_DONE (R414): the statement is signed with slot 0 and written. -/
def execAttestDone (s : State) : Res :=
  .next (match s.svcDoing with
  | .attest ims n =>
    if s.mlk.mmDown then s
    else
      let (v, s) := s.free
      let total := 2680 + 72 * n + 4627
      let all := ims ++ Config.sign (s.obs.slots.get 0).key ims v
      let (ok, s) := s.svcOut 32 (leBytes 4 total ++ leBytes 2 n)
      let (ok', s) := s.svcOut 64 all
      if ok && ok' then
        (s.updObs fun o => { o with attestNo := (o.attestNo + 1) % 2 ^ 64 }).svcEnd cOk (total + n * 2 ^ 32)
      else s.svcEnd 0x0102 0
  | _ => s)

/-! ## BIST (R415 to R420) -/

/-- A SerDes index of R415. -/
def serdesIndex (ss : Nat) : Bool := decide (ss < 7 ∨ (0x10 ≤ ss ∧ ss < 0x50))

/-- REGION is one of R415. -/
def regionKnown (r : Nat) : Bool :=
  match r / 256 with
  | 0 => decide (r < 16)
  | 2 => serdesIndex (r % 256)
  | 3 | 6 => serdesIndex (r % 256) && r % 256 ≠ 4
  | 1 | 4 | 5 | 7 | 8 => r % 256 = 0
  | _ => false

/-- The region is of a unit that the variant has. -/
def regionPresent (r : Nat) : Bool :=
  match r / 256 with
  | 0 => decide (r < lensCount)
  | 2 | 3 | 6 => decide (r % 256 < 16) || cnvPresent
  | _ => true

/-- The port or lane of a SerDes index is not ON; a mirror link may be tested while the other one is up. -/
def State.serdesFree (s : State) (ss : Nat) : Bool :=
  if ss < 5 then (s.unit (.port ss)).st ≠ .on
  else if ss = 5 then s.mlk.link1.up
  else if ss = 6 then s.mlk.link0.up
  else (s.unit (.beam (ss - 16))).st ≠ .on

/-- The region may be tested now (R416). -/
def State.regionFree (s : State) (r : Nat) : Bool :=
  let off : Bool := (s.unit (.lens r)).st = .off
  match s.glb.lcs with
  | .manufacture | .provisioned => true
  | .service => match r / 256 with
    | 0 => off || !s.glb.run
    | 1 | 4 => !s.glb.run
    | 2 | 3 => s.serdesFree (r % 256)
    | _ => true
  | .operational => match r / 256 with
    | 0 => off
    | 2 => s.serdesFree (r % 256)
    | 5 | 6 | 8 => true
    | _ => false
  | .decommissioned => false

/-- BIST is permitted in the life-cycle state (R68, R416). -/
def State.bistPermitted (s : State) : Bool :=
  match s.glb.lcs with
  | .manufacture | .provisioned | .service => true
  | .operational => s.mlk.role = .standby && !s.mlk.grant
  | .decommissioned => false

/-- BIST (R415, R416): the region is saved and tested. -/
def execBist (region : Option Nat) (reservedZero goldenKnown : Bool) (s : State) : Res :=
  .next (s.svcBlock 4 region fun s r =>
    if ¬ reservedZero ∨ ¬ regionKnown r then s.svcEnd cInvalid 0
    else if ¬ s.bistPermitted then s.svcEnd cDenied 0
    else if ¬ regionPresent r then s.svcEnd cUnsupported 0
    else if ¬ s.regionFree r then s.svcEnd 0x0D02 0
    else if ¬ goldenKnown then s.svcEnd 0x0D03 0
    else
      let s := (s.svcWork (.bist r)).updBst fun b => { b with busy := true, region := r }
      if r = 0x700 then s.updGlb fun g => { g with holdupReady := false } else s)

/-- Each fenced facet of a lens that has passed returns to service, a declared spare among the free ones (R481). -/
def State.unfence (s : State) (l : Nat) (good : List Nat) : State :=
  let fs := s.fencedFlash.filter fun k => k / 64 = l && good.contains (k % 64)
  let s := { s with fencedFlash := s.fencedFlash.filter fun k => !fs.contains k }
  let s := s.each fs fun s k => s.updFacet l (k % 64) fun _ => {}
  if fs = [] then s else s.fillFree l

/-- The module has reached RUNNING since its restart. -/
def State.hasRun (s : State) : Bool := s.glb.phase = .running || (s.glb.phase = .setup && s.hif.fetchStopped)

/-- Starts that waited for the region count their limit from now (R418). -/
def State.countStarts (s : State) (r : Nat) : State :=
  let touch (u : UnitId) (s : State) : State :=
    if (s.unit u).st = .starting then s.updUnit u fun x => { x with since := s.now } else s
  match r / 256 with
  | 0 => touch (.lens r) s
  | 2 | 3 | 6 => if r % 256 < 5 then touch (.port (r % 256)) s
    else if 16 ≤ r % 256 then touch (.beam (r % 256 - 16)) s else s
  | _ => s

/-- The range of the average receive power of a port or lane in 0.1 dBm, both ends within it (R460). -/
def State.opticalRange (s : State) (ss : Nat) : Int × Int :=
  if ss < 4 then (if (s.portCfg ss).speed = 0 then (-93, 24) else (-89, -10))
  else if ss < 16 then (-93, 24)
  else (-130, 0)

/-- The result value of a test: the lowest lane of an optical port, or what the region measured (R415, R460). -/
def resultValue (r : Nat) (o : BistOutcome) : Int :=
  match r / 256, o.lanes with
  | 6, x :: xs => xs.foldl min x
  | _, _ => o.meas

/-- The test has passed (R415, R460): no failing signature or bit error, a reference within 0.5 %, a power within its
range, at least 8 J, and for the PLLs and the known answers what was found. -/
def State.bistPasses (s : State) (r : Nat) (o : BistOutcome) : Bool :=
  let v := resultValue r o
  match r / 256 with
  | 0 | 1 | 2 | 3 => v = 0
  | 5 => decide (-50 ≤ v ∧ v ≤ 50)
  | 6 => decide ((s.opticalRange (r % 256)).1 ≤ v ∧ v ≤ (s.opticalRange (r % 256)).2)
  | 7 => decide (8000 ≤ v)
  | _ => o.pass

/-- BIST_DONE (R415, R417 to R420, R460, R481): state is restored, the result is written and judged. -/
def execBistDone (o : BistOutcome) (s : State) : Res :=
  .next (match s.svcDoing with
  | .bist r =>
    if s.mlk.mmDown then s
    else
      let pass := s.bistPasses r o
      let good := pass && o.restoreOk
      let s := s.updBst fun b =>
        { b with busy := false, result := if good then .pass else .fail, region := r, sig := o.sig, gold := o.gold
                 meas := resultValue r o, runs := sat32 b.runs 1, fails := if good then b.fails else sat32 b.fails 1 }
      let s := s.countStarts r
      let s := if r = 0x800 then s.updObs fun x => { x with katOk := pass } else s
      let s := if r < 16 ∧ s.glb.lcs = .service then s.unfence r o.facets else s
      let m := unsigned 32 (resultValue r o)
      let (ok, s) := s.svcOut 16 (leBytes 8 o.sig.toNat ++ leBytes 4 m)
      let c : Code := if ¬ ok then 0x0102 else if ¬ o.restoreOk then 0x0D04 else if pass then cOk else 0x0D00
      let s := s.svcEnd c (o.sig.toNat + m * 2 ^ 64)
      if good then s
      else if s.hasRun then s.safeState r
      else s.event .bistFail r
  | _ => s)

/-! ## LC_TRANSITION (R68, R69, R412) -/

/-- The transitions of R69. -/
def lcListed (a b : Lcs) : Bool :=
  match a, b with
  | .manufacture, .provisioned | .provisioned, .operational | .operational, .service | .service, .operational => true
  | a, .decommissioned => a ≠ .decommissioned
  | _, _ => false

/-- Slots 1 and 2 each hold a LOCKED public key with USE VERIFY (R402). -/
def State.ownerKeys (s : State) : Bool :=
  [1, 2].all fun k => attrLocked (s.slotAttr k) && (s.keyCheck k 6 []).isNone

/-- The key that verifies a token is present: MFG_KEY, or slot 2 (R412). -/
def State.tokenKey (s : State) : Bool :=
  match s.glb.lcs with
  | .manufacture => true
  | .provisioned => !s.ownerKeys || (s.keyCheck 2 6 []).isNone
  | _ => (s.keyCheck 2 6 []).isNone

/-- The checks of R412 and R69 on a token, in order. -/
def State.tokenCode (s : State) (t : Token) : Option Code :=
  if !t.wellFormed then some cInvalid
  else if !s.tokenKey || !t.sigGood then some 0x0100
  else if t.frm ≠ s.glb.lcs ∨ t.count ≠ s.obs.lcCount ∨ ¬ lcListed t.frm t.dest then some cDenied
  else if t.deviceZero ∧ t.frm ≠ .manufacture then some cDenied
  else if ¬ t.deviceZero ∧ ¬ t.deviceOk then some cUnsupported
  else if t.frm = .provisioned ∧ t.dest = .operational ∧ ¬ s.ownerKeys then some cDenied
  else if t.frm = .operational ∧ t.dest = .service ∧ s.mlk.grant then some cDenied
  else none

/-- LC_TRANSITION (R69, R412): the token is checked, and the intent is marked. -/
def execLcTransition (tok : Option Token) (s : State) : Res :=
  .next (s.svcBlock 5 tok fun s t =>
    match (if s.svcLen = 4691 then s.tokenCode t else some cInvalid) with
    | some c => (if c = 0x0100 ∧ ¬ s.tokenKey then s.denyUse else s).svcEnd c 0
    | none => s.svcWork (.lcTransition t))

/-- Slots 1 to 255 are cleared. -/
def State.clearSlots (s : State) : State :=
  s.updObs fun o => { o with slots := { o.slots with rows := o.slots.rows.filter fun r => r.1 = 0 } }

/-- What a transition does before its restart (R69). -/
def State.lcAction (s : State) (t : Token) : State :=
  let s := (s.updObs fun o => { o with lcCount := Nat.min 0xFFFF (o.lcCount + 1) }).updGlb fun g => { g with lcs := t.dest }
  match t.dest with
  | .provisioned =>
    let (v, s) := s.free
    s.clearSlots.setSlot 0 { attr := 0x1D400025, key := Config.keyPair v }
  | .decommissioned => s.clearSlots.updSvc fun v => { v with cfg0 := none, cfg1 := none }
  | .operational => s.updHw fun h => { h with spreadOff := [] }
  | _ => s

/-- LC_TRANSITION_DONE (R69, R314): the commit mark. Every transition but the one to SERVICE ends in a cold restart and
writes no completion. -/
def execLcTransitionDone (s : State) : Res :=
  .next (match s.svcDoing with
  | .lcTransition t =>
    if s.mlk.mmDown then s
    else if t.dest = .service then
      if s.mlk.grant then s.svcEnd cDenied 0
      else ((s.lcAction t).toOffline).svcEnd cOk 0
    else
      let s := (s.lcAction t).updSvc fun v => { v with running := none, waiting := none }
      s.restart .lcTransition false
  | _ => s)

/-! ## SLICE_CREATE (R318 to R321) -/

/-- Every field lies in its range (R319). -/
def sliceFits (b : SliceBlock) : Bool :=
  b.reservedZero
    && decide (b.slice < 64 ∧ b.port < 2 ∧ 1 ≤ b.minUs ∧ b.minUs ≤ 1000 ∧ b.pasid < 2 ^ 20 ∧ b.doorbell % 64 = 0
      ∧ b.status % 256 = 0 ∧ 16 ≤ b.unexecLimit ∧ b.unexecLimit ≤ 8192 ∧ 1 ≤ b.weight ∧ b.weight ≤ 255
      ∧ b.descRate ≤ 10000000 ∧ 1 ≤ b.descBurst ∧ b.descBurst ≤ 65535 ∧ b.byteRate ≤ 32000 ∧ 4096 ≤ b.byteBurst
      ∧ b.byteBurst ≤ 16777216 ∧ b.vlans.length ≤ 8)
    && b.vlans.all (fun v => decide (v < 4096)) && !groupAddr b.mac
    && b.cq0.ring = 0 && !b.cq0.receive && cqInRange b.cq0
    && b.sq0.ring = 0 && b.sq0.cq = 0 && !b.sq0.service && sqInRange b.slice b.sq0 (fun c => c = 0)

/-- Another slice that is not OFF holds the MAC. -/
def State.macHeld (s : State) (k : Nat) (mac : BitVec 48) : Bool :=
  (List.range 64).any fun i => i ≠ k && (s.unit (.slice i)).st ≠ .off && (s.slice i).mac = mac

/-- The checks of R320, in order. -/
def State.sliceCode (s : State) (b : SliceBlock) : Option Code :=
  if ¬ sliceFits b then some cInvalid
  else if (s.unit (.slice b.slice)).st ≠ .off then some 0x0300
  else if s.pasidHeld b.slice b.pasid b.port then some 0x0301
  else if s.macHeld b.slice b.mac then some cInvalid
  else if 64512 < s.limitSum b.slice + b.unexecLimit then some 0x0302
  else none

/-- SLICE_CREATE (R320, R321): the slice passes STARTING, and the operation completes when it is ON. What a fenced
slice answers is not stated, so a free code. -/
def execSliceCreate (blk : Option SliceBlock) (s : State) : Res :=
  .next (s.svcBlock 6 blk fun s b =>
    match s.sliceCode b with
    | some c => s.svcEnd c 0
    | none =>
      if (s.unit (.slice b.slice)).fenced then
        let (c, s) := s.freeCode
        s.svcEnd c 0
      else
        let s := s.updSlice b.slice (newSliceOf b)
        let s := s.updUnit (.slice b.slice) fun u => { u with en := true }
        (s.unitBegin (.slice b.slice)).svcWork (.sliceCreate b))

/-! ## PKG_COMMIT (R3, R56, R171, R404, R428, R429) -/

/-- Work that a package assigns to a unit the variant lacks (R3, R228): facets, chains, slots, programs, slices and
sources on absent lenses, converter and beam work with the recording of it (R376), PWM channels, recording groups, and ports
of the switch, those that a publisher's frames leave by among them. -/
def assignsAbsent (p : Package) : Bool :=
  let noLens (l : Nat) : Bool := decide (lensCount ≤ l)
  let absentPorts (m : BitVec 24) : Bool := (List.range 24).any fun k => m.getLsbD k && decide (portCount ≤ k)
  (p.facets.rows.any fun r => r.2.role ≠ .spare && decide (lensCount ≤ r.1 / 64))
    || (p.chains.rows.any fun r => r.2.present && decide (lensCount ≤ r.1 / 32))
    || (!cnvPresent && (p.cnv.present || p.arms.rows.any fun r => r.2.present))
    || (p.pwms.rows.any fun r => r.2.present && decide (pwmCount ≤ r.1))
    || (p.slots.rows.any fun r => r.2.en && noLens (r.1 / 256))
    || (p.logic.rows.any fun r => r.2.present && noLens r.2.lens)
    || (p.prots.rows.any fun r => r.2.present && noLens r.2.lens)
    || (p.gps.rows.any fun r => r.2.en && (noLens r.2.lens || absentPorts r.2.ports))
    || (p.svPubs.rows.any fun r => r.2.en && (noLens r.2.lens || absentPorts r.2.ports))
    || (p.svs.rows.any fun r => r.2.en && (List.range 16).any fun l => r.2.lensMask.getLsbD l && noLens l)
    || (p.pwms.rows.any fun r => r.2.present && r.2.srcFacet && noLens r.2.lens)
    || (p.lenses.rows.any fun r => noLens r.1 && (r.2.spares ≠ [] || r.2.isSpareLens))
    || (p.cam.rows.any fun r => r.2.en && absentPorts r.2.ports)
    || (p.ports.rows.any fun r => r.2.configured && decide (portCount ≤ r.1))
    || (!cnvPresent && p.perGrps.rows.any fun r => r.2.present && r.2.clock = 1)
    || (p.perChs.rows.any fun r =>
      (if r.2.kind = 2 || r.2.kind = 3 then !cnvPresent else r.2.kind ≠ 0 && noLens r.2.unitSel)
        && p.perGrps.rows.any fun g => g.2.present && g.2.channels.contains r.1)
    || (p.evr.rows.any fun r => r.2.en && match r.2.src with
      | .sensor => false
      | .facetWord l _ _ | .slot l _ => noLens l)
    || (!perPresent && ((p.perGrps.rows.any fun r => r.2.present) || (p.hists.rows.any fun r => r.2.en) ||
      p.pmaps.rows.any fun r => r.2.en))
    || (p.en.any fun e => match e.1 with
      | .lens n => decide (lensCount ≤ n)
      | .chain l _ => decide (lensCount ≤ l)
      | .arm _ | .beam _ => !cnvPresent
      | .pwm n => decide (pwmCount ≤ n)
      | _ => false)

/-- A trip lane is mapped to an absent arm or PWM channel (R3). -/
def mapsAbsent (p : Package) : Bool :=
  (!cnvPresent && p.arms.rows.any fun r => r.2.mask ≠ 0) || p.pwms.rows.any fun r => r.2.mask ≠ 0 && decide (pwmCount ≤ r.1)

/-- δ does not cover the EMIT tail past the next tick plus the largest calibrated delay of a lane in use (R24). -/
def State.deltaShort (s : State) (p : Package) : Bool :=
  let lanes := (p.arms.rows.filter fun r => r.2.present).flatMap fun r => (List.range r.2.lanes).map (r.2.firstLane + ·)
  p.cnv.present && (decide (p.cnv.delta < 1000) || lanes.any fun l =>
    (s.beams.get l).calValid && decide (p.cnv.delta < 1000 + (s.beams.get l).dDown))

/-- Owner slices of the chains that take stream `k` in a package. -/
def pkgOwners (p : Package) (k : Nat) : List Nat :=
  (p.slots.rows.filter fun r => r.2.en && r.2.stream = k).map fun r =>
    (p.chains.get (r.1 / 256 * 32 + r.2.chain)).ownerSlice

/-- Every naming of a key slot in a package is checked (R404). -/
def State.namingCode (s : State) (p : Package) : Option Code :=
  let sv := p.svs.rows.findSome? fun r =>
    if r.2.en && r.2.keyCur ≠ 0 then s.keyCheck r.2.keyCur (algBit r.2.alg) (pkgOwners p r.1) else none
  let gs := p.gss.rows.findSome? fun r =>
    if r.2.en && r.2.key ≠ 0 then s.keyCheck r.2.key (algBit r.2.alg) [r.2.slice] else none
  let gp := p.gps.rows.findSome? fun r =>
    if r.2.en && r.2.key ≠ 0 then s.keyCheck r.2.key (algBit r.2.alg) [r.2.slice] else none
  let pub := p.svPubs.rows.findSome? fun r =>
    if r.2.en && r.2.key ≠ 0 then s.keyCheck r.2.key (algBit r.2.alg) [r.2.slice] else none
  sv <|> gs <|> gp <|> pub

/-- What a package keeps when its logic programs, loop programs and declared initial data are left aside (R428). -/
def pkgFrame (p : Package) : Package :=
  let prog (f : FacetCfg) : Bool := f.role = .logic || f.role = .loop
  { p with
    ident := 0, logic := ⟨{}, []⟩
    facets := { p.facets with rows := (p.facets.rows.filter fun r => !prog r.2).map fun r => (r.1, { r.2 with data := [] }) }
    stns := p.stns.mapRows fun _ c => { c with initial := [] } }

/-- CF, δ, the lane map or MODE of an arm changes (R171). -/
def cnvChanges (a b : Package) : Bool :=
  a.cnv.cf ≠ b.cnv.cf || a.cnv.delta ≠ b.cnv.delta || (List.range 8).any fun k =>
    let x := a.arms.get k
    let y := b.arms.get k
    x.firstLane ≠ y.firstLane || x.lanes ≠ y.lanes || x.psc ≠ y.psc

/-- What refuses a package beyond the checks of its image. -/
def State.pkgCode (s : State) (i : Image) : Option Code :=
  if assignsAbsent i.body then some cUnsupported
  else if mapsAbsent i.body || s.deltaShort i.body then some cInvalid
  else match s.namingCode i.body with
  | some c => some c
  | none =>
    if cnvChanges s.pkg i.body ∧ s.armList.any (fun a => decide ((s.arms.get a).op ≠ .blocked)) then
      some 0x0600
    else if s.glb.phase = .running then
      if pkgFrame s.pkg ≠ pkgFrame i.body then some cInvalid
      else none
    else none

/-- PKG_COMMIT: the package is verified. -/
def execPkgCommit (img : Option Image) (s : State) : Res :=
  .next (s.svcBlock 7 img fun s i =>
    match s.imageCode true false i with
    | some c => s.imageFail i c
    | none => match s.pkgCode i with
      | some c => s.svcEnd c 0
      | none => s.svcWork (.pkgCommit i))

/-- The package lies in the inactive configuration bank, and the active pointer switches (R56). -/
def State.switchPkg (s : State) (i : Image) : State :=
  s.updSvc fun v => if v.active then { v with cfg0 := some i, active := false } else { v with cfg1 := some i, active := true }

/-- The active module sends the package to its partner in service, the body in parts of 4,096 bytes; the exchange
waits until every body epoch has its ACK (R429). -/
def State.sharePkg (s : State) (i : Image) : State :=
  if ¬ (s.mlk.role = .active ∧ s.paired) then s.updSvc fun v => { v with exchAt := 0, sharing := false }
  else
    let s := s.each (List.range (ceilDiv i.bodyLen 4096)) fun s k =>
      s.mirror (.packageBody (4096 * k) (Nat.min 4096 (i.bodyLen - 4096 * k)) i)
    s.updSvc fun v => { v with exchAt := 0, sharing := true }

/-- A repair runs in some lens (R104). -/
def State.repairing (s : State) : Bool := s.lenses.rows.any fun r => r.2.repair.isSome

/-- PKG_COMMIT_DONE (R56, R429, R479): in SETUP the package is loaded and its units start; after RUN the changed
programs are exchanged, and the operation completes when that has ended. It waits while a repair runs (R104). What
refuses the package is judged again, since an arm may have left BLOCKED and RUN been written meanwhile (R171). -/
def execPkgCommitDone (flashOk : Bool) (s : State) : Res :=
  .next (match s.svcDoing with
  | .pkgCommit i =>
    if s.mlk.mmDown ∨ s.svc.staged.isSome ∨ s.repairing then s
    else if ¬ flashOk then s.svcEnd 0x0103 0
    else match s.pkgCode i with
    | some c => s.svcEnd c 0
    | none =>
      let s := (s.switchPkg i).markChanged i.body
      if s.glb.phase = .running then
        ((s.sharePkg i).updSvc fun v => { v with staged := some i }).beginExchange
      else
        let s := (s.configure i.body).unitsFromPackage
        (s.updSvc fun v => { v with committed := true }).svcEnd cOk 0
  | _ => s)

/-! ## HASH_REKEY (R244) -/

/-- HASH_REKEY: learned lookups miss and learning pauses while it runs. -/
def execHashRekey (s : State) : Res :=
  .next (if s.svcReady 8 then (s.updSwc fun w => { w with rekeying := true }).svcWork .hashRekey else s)

/-- HASH_REKEY_DONE: the new key is set, the learned table and the stash are flushed, and learning resumes. -/
def execHashRekeyDone (s : State) : Res :=
  .next (match s.svcDoing with
  | .hashRekey =>
    if s.mlk.mmDown then s
    else (s.newHashKey.updSwc fun w => { w with learned := [], learnBlocked := false, rekeying := false }).svcEnd cOk 0
  | _ => s)

end Sys2Proof.Machine
end

