-- ==== Sys2Proof/Machine/RegMap.lean ====
section
/-! DEFINITION. The set-up window (R46): its units, which of them answer (R3, R50, R52, R53, R419), how fields are packed
into a register, and the codes of fields that several registers share. -/

namespace Sys2Proof.Machine

/-! ## Packing -/

/-- A word from its fields: lowest bit, width, value. Bits of no field are reserved and read zero (R6). -/
def packed : List (Nat × Nat × Nat) → Nat
  | [] => 0
  | (lo, w, v) :: r => v % 2 ^ w * 2 ^ lo + packed r

/-- A flag as a field at bit `n`. -/
def flag (n : Nat) (b : Bool) : Nat × Nat × Nat := (n, 1, b.toNat)

/-- The index of a register array at `base` with `n` elements `stride` bytes apart that offset `off` names. -/
def arr (off base stride n : Nat) : Option Nat :=
  if base ≤ off ∧ (off - base) % stride = 0 ∧ (off - base) / stride < n then some ((off - base) / stride) else none

/-- Low and high half of a number of 64 bits, and of a signed one of 32. -/
def lo32 (n : Nat) : Nat := n % 2 ^ 32
def hi32 (n : Nat) : Nat := n / 2 ^ 32 % 2 ^ 32
def int32 (v : Int) : Nat := unsigned 32 v

/-- The first register array that an offset lies in answers; an offset in none is reserved and reads zero (R46). -/
def firstOf {α : Type} (d : α) : List (Option Nat × (Nat → α)) → α
  | [] => d
  | (some i, f) :: _ => f i
  | (none, _) :: r => firstOf d r

/-! ## Windows (R46) -/

/-- Number of the 64 KiB part of the window that an address lies in. -/
def winOf (a : BitVec 24) : Nat := a.toNat / 65536
/-- Offset of an address from a base. -/
def offOf (a : BitVec 24) (base : Nat) : Nat := a.toNat - base

/-- Some unit of R46 lies there. -/
def winUnit (w : Nat) : Bool := decide (w ≤ 0xE) || decide (0x10 ≤ w ∧ w ≤ 0x22)

/-- A register of the mailbox (R70). -/
def inMailbox (a : BitVec 24) : Bool := decide (0x2F000 ≤ a.toNat ∧ a.toNat ≤ 0x2F028)

/-- The window answers a port (R50): GLB and KA always, the others from SETUP on, the mailbox in BOOT_FAILED (R53), and
for reads alone the results that HELD (R52) and SAFE (R419) keep readable. -/
def State.winReady (s : State) (p : TimePort) (a : BitVec 24) (write : Bool) : Bool :=
  decide (winOf a ≤ 1) || s.windowOpen p || (s.glb.phase = .bootFailed && inMailbox a)
    || (!write && s.glb.phase = .held && winOf a = 0xD) || (!write && s.glb.phase = .safe && (winOf a = 0xD || winOf a = 0xE))

/-- The address belongs to a unit that the variant does not have (R3). -/
def addrAbsent (a : BitVec 24) : Bool :=
  let w := winOf a
  ((w = 0x20 || w = 0x22) && !cnvPresent) || (w = 0xA && !perPresent)
    || (decide (0x10 ≤ w ∧ w < 0x20) && decide (lensCount ≤ w - 0x10))
    || (w = 0x21 && decide (a.toNat % 65536 < 0x800) && decide (pwmCount ≤ a.toNat % 65536 / 0x40))

/-! ## Codes -/

/-- The unit state field of R75. -/
def unitWord (u : UnitSt) : Nat :=
  packed [(0, 2, ustateCode u.st), flag 2 (u.st = .stopping && u.en), flag 3 (u.st = .starting && !u.en),
    flag 4 u.startFailed, flag 5 u.fenced, flag 8 u.en]
def State.unitReg (s : State) (u : UnitId) : Nat := unitWord (s.unit u)

def causeCode : RstCause → Nat
  | .powerOn => 0 | .powerReturn => 1 | .cmdWarm => 2 | .cmdCold => 3 | .lcTransition => 4 | .kaWatchdog => 5
  | .bistSafe => 6
def bankCode : BankResult → Nat | .notTried => 0 | .good => 1 | .bad => 2 | .rollback => 3
def policyCode : Policy → Nat | .pinRun => 0 | .allowIdle => 1 | .allowRetain => 2
def pstateCode : PState → Nat | .run => 0 | .idle => 1 | .retain => 2 | .off => 3
def frunCode : FRun → Nat | .stopped => 0 | .active => 1 | .gated => 2 | .fenced => 3
def svCode : SvState → Nat | .idle => 0 | .receiving => 1 | .lost => 2
def colCode : ColState → Nat | .freerun => 0 | .acquiring => 1 | .locked => 2 | .holdover => 3
def ptpCode : PtpState → Nat
  | .disabled => 0 | .listening => 1 | .master => 2 | .slave => 3 | .passive => 4 | .faulty => 5
def tpCode : TpMode → Nat | .off => 0 | .once => 1 | .periodic => 2 | .perSecond => 3
def fbCode : FbMode → Nat | .arrival => 0 | .schedule => 1 | .listen => 2 | .busOff => 3
def partnerCode : Partner → Nat | .none => 0 | .inService => 1 | .notReady => 2 | .resync => 3
def grpCode : GrpState → Nat | .stopped => 0 | .filling => 1 | .armed => 2 | .recording => 3 | .holdoff => 4
def loupeCode : LoupeState → Nat | .idle => 0 | .filling => 1 | .armed => 2 | .capturing => 3 | .done => 4
def bstCode : BstResult → Nat | .none => 0 | .pass => 1 | .fail => 2 | .aborted => 3

end Sys2Proof.Machine
end

