-- ==== Sys2Proof/Machine/RegPlant.lean ====
section
/-! DEFINITION. What the registers of a lens (R106, R107, R117, R151, R400), of CNV and PRM (R193 to R195), of the local PWM
channels and trip inputs (R223, R224) and of the beam lanes (R225, R226) hold. -/

namespace Sys2Proof.Machine

/-! ## Lens (R106, R107) -/

/-- LNSn_FSTAT (R107). -/
def State.readFstat (s : State) (l f : Nat) : Nat :=
  let x := s.facets.get (fKey l f)
  packed [(0, 3, roleBits x.role), (3, 2, frunCode x.run), (8, 4, faultCode x.fault), (16, 6, s.home l f),
    flag 22 x.hostOf.isSome]

/-- LNSn_FSEAL (R106). -/
def State.readFseal (s : State) (l f : Nat) : Nat :=
  if s.host l (s.home l f) ≠ f then 0
  else match checkpoint (s.progs.get (fKey l (s.home l f))) with | some r => lo32 r.cycle | none => 0

/-! ## Logic programs (R117) -/

/-- The logic program that facet `f` holds; one whose program has moved to a spare holds none. -/
def State.logicOf (s : State) (l f : Nat) : Option Nat :=
  if s.host l (s.home l f) = f then s.logicAt l (s.home l f) else none

/-- A register of the logic program of facet `f`; zero where it holds none. -/
def State.readLogic (s : State) (l f : Nat) (g : Nat → LogicCfg → LogicSt → Nat) : Nat :=
  match s.logicOf l f with
  | some p => g p (s.pkg.logic.get p) (s.logic.get p)
  | none => 0

/-! ## Loupe (R400) -/

/-- Register `k` of Loupe buffer `b`, in words. -/
def State.readLoupe (s : State) (l b k : Nat) : Nat :=
  let x := s.recs.loupes.get (l * 4 + b)
  let node (i : Nat) : Nat := ((x.nodes.toList[i]?).getD 0).toNat
  match k with
  | 0 => packed [(0, 6, x.facet), (6, 12, x.pre), (18, 14, x.div)]
  | 5 => packed [(0, 2, x.type), (2, 2, x.dir), (4, 3, x.node), (7, 6, x.sel), (16, 16, x.thresh.toNat)]
  | 6 => packed [(0, 3, loupeCode x.st), (3, 12, x.trigIndex), flag 15 x.prefillSupp]
  | 7 => lo32 x.ts
  | _ => packed [(0, 16, node (2 * (k - 1))), (16, 16, node (2 * (k - 1) + 1))]

/-- A register of a lens (R106, R117, R151). -/
def State.readLens (s : State) (l off : Nat) : Nat :=
  let x := s.lenses.get l
  let c := s.pkg.lenses.get l
  match off with
  | 0x0 => s.unitReg (.lens l)
  | 0x4 => packed [(0, 2, policyCode c.policy), (2, 2, pstateCode x.pstate)]
  | 0x8 => packed [(0, 4, c.spares.length), (4, 4, x.free.length), (8, 8, x.repairs)]
  | 0x10 => x.fltWriter
  | 0x14 => x.fltLane
  | 0x18 => x.fltMsgFull
  | 0x1C => packed [(0, 16, x.eccCorr), (16, 16, x.eccUncorr)]
  | 0x20 => x.repairGap
  | 0x24 => x.lateOut
  | _ => firstOf 0
    [(arr off 0x100 4 64, fun f => s.readFstat l f),
     (arr off 0x200 4 64, fun f => s.readFseal l f),
     (arr off 0x300 4 64, fun f => s.readLogic l f fun p k y =>
       packed [(0, 3, lstateCode y.st), flag 3 k.wcetKnown, (4, 4, y.consec), flag 8 y.overrun, flag 9 y.exchDone, (16, 6, p)]),
     (arr off 0x400 4 64, fun f => s.readLogic l f fun _ _ y => y.last),
     (arr off 0x500 4 64, fun f => s.readLogic l f fun _ _ y => y.max),
     (arr off 0x600 4 64, fun f => s.readLogic l f fun _ _ y => y.ovr),
     (arr off 0x700 4 64, fun f => s.readLogic l f fun _ k _ => packed [(0, 20, k.minPeriodUs)]),
     (arr off 0x800 4 64, fun f => s.readLogic l f fun _ k _ => packed [(0, 20, k.watchdogUs)]),
     (arr off 0xA00 4 32, fun i => s.unitReg (.chain l i)),
     (arr off 0xA80 4 32, fun i =>
       let k := s.pkg.chains.get (chainKey l i)
       let y := s.chains.get (chainKey l i)
       packed [(0, 2, k.preset), (2, 2, k.rate), flag 4 (s.chainFilling l i), flag 5 y.consumed, (8, 8, y.taps.length)]),
     (arr off 0xB00 4 32, fun i => packed [(0, 22, (s.chains.get (chainKey l i)).gd)]),
     (arr off 0xB80 4 32, fun i => (s.chains.get (chainKey l i)).late),
     (arr off 0xC00 4 64, fun f => s.pcOvr.get (fKey l f)),
     (arr off 0xD00 4 64, fun f => s.pcDeadline.get (fKey l f)),
     (arr off 0x1000 4 256, fun i =>
       let k := s.pkg.slots.get (slotKey l i)
       packed [(0, 9, k.stream), (9, 5, k.chan), (14, 5, k.chain), flag 19 k.en]),
     (arr off 0x1400 4 256, fun i => packed [(0, 20, (s.chSlots.get (slotKey l i)).delay)]),
     (arr off 0x1800 4 256, fun i => (s.chSlots.get (slotKey l i)).out.quality.toNat),
     (arr off 0x2000 4 32, fun k => s.readLoupe l (k / 8) (k % 8))]

/-! ## CNV and PRM (R193 to R195) -/

def State.readArm (s : State) (a k : Nat) : Nat :=
  let c := s.pkg.arms.get a
  let x := s.arms.get a
  match k with
  | 0x0 => s.unitReg (.arm a)
  | 0x4 => packed [(0, 6, c.firstLane), (6, 5, c.lanes), (12, 12, c.smCount), flag 24 c.psc, flag 25 (c.carriers = 2),
      (26, 4, c.pscM - 1), (30, 1, c.isrc)]
  | 0x8 => packed [(0, 8, c.deblockFrames), (8, 4, c.staleLimit), (12, 4, c.holdLimit), (16, 4, c.lens), (20, 6, c.lead)]
  | 0xC => packed [(0, 3, opCode x.op), (4, 4, armCauseCode x.cause), flag 8 x.dir, flag 9 x.held, flag 10 x.clamped]
  | 0x10 => packed [(0, 12, x.nOn), (16, 16, x.frac)]
  | 0x14 => packed [(0, 12, x.avail), (16, 12, x.excluded)]
  | 0x18 => packed [(0, 16, c.ihyst), (16, 16, unsigned 16 x.iarm)]
  | 0x1C => x.holdCnt
  | 0x20 => x.clampCnt
  | 0x24 => x.staleCnt
  | 0x28 => x.blockCnt
  | _ => 0

/-- Engine `e` is bound to an arm that the package configures. -/
def State.readEngine (s : State) (e k : Nat) : Nat :=
  let x := s.engines.get e
  let c := s.pkg.arms.get x.arm
  match k with
  | 0x0 => packed [(0, 3, x.arm), flag 3 (c.present && s.engineOf x.arm = some e), (4, 2, c.dirMode)]
  | 0x4 => packed [(0, 16, c.tol)]
  | 0x8 => packed [(0, 16, c.rate), (16, 8, c.depth)]
  | 0xC => packed [(0, 16, x.spread), flag 16 x.hold, flag 17 x.dir, (24, 8, x.rankTime)]
  | 0x10 => x.swaps
  | 0x14 => x.budgetOvr
  | 0x18 => x.noCarrier
  | 0x1C => x.tolHold
  | _ => 0

def State.readCnv (s : State) (off : Nat) : Nat :=
  let c := s.pkg.cnv
  match off with
  | 0x0 => packed [(0, 16, c.cf), (16, 4, c.tp)]
  | 0x4 => packed [(0, 16, c.delta)]
  | 0x8 => packed [(0, 16, gatherEnd c.cf), (16, 16, emitStart c.cf)]
  | 0xC => packed [(0, 16, emitEnd c.cf), (16, 16, sealEnd c.cf)]
  | 0x10 => lo32 s.cnv.fnum
  | 0x14 => hi32 s.cnv.fnum
  | _ =>
    if 0x100 ≤ off ∧ off < 0x300 then s.readArm ((off - 0x100) / 0x40) (off % 0x40)
    else if 0x8000 ≤ off ∧ off < 0x8200 then s.readEngine ((off - 0x8000) / 0x40) (off % 0x40)
    else 0

/-! ## PWM and trip inputs (R223, R224) -/

def State.readPwmCh (s : State) (n k : Nat) : Nat :=
  let c := s.pwmCfg n
  let x := s.pwms.get n
  match k with
  | 0x0 => s.unitReg (.pwm n)
  | 0x4 => packed [flag 0 c.srcFacet, flag 1 c.latched, (2, 2, c.sync), (4, 4, c.tp), (8, 4, c.lens), (12, 6, c.facet),
      (18, 13, c.recOff)]
  | 0x8 => packed [(0, 16, c.period), (16, 16, c.phase)]
  | 0xC => packed [(0, 11, c.dead), (16, 11, c.minp)]
  | 0x10 => packed [(0, 16, c.cmpA), (16, 16, c.cmpB)]
  | 0x14 => packed [(0, 3, c.form), (4, 3, formCode x.lastForm)]
  | 0x18 => packed [flag 0 x.trip, flag 1 x.clearRefused, flag 2 x.stuck, flag 3 x.blocked, flag 4 x.gated, flag 5 x.held,
      flag 6 x.syncLost]
  | 0x1C => lo32 c.mask.toNat
  | 0x20 => hi32 c.mask.toNat
  | 0x24 => packed [(0, 16, c.stuckN)]
  | 0x28 => x.shortP
  | 0x2C => x.shortG
  | 0x30 => x.cut
  | 0x34 => x.heldCnt
  | _ => 0

def State.readTi (s : State) (i k : Nat) : Nat :=
  let c := s.pkg.tis.get i
  let x := s.tis.get i
  match k with
  | 0x0 => packed [(0, 9, c.filt), flag 9 c.darkActive, flag 10 c.en, (16, 8, c.stuckLim), (24, 8, c.toggleN)]
  | 0x4 => lo32 c.lanes.toNat
  | 0x8 => hi32 c.lanes.toNat
  | 0xC => packed [flag 0 x.active, flag 1 x.stuck, flag 2 x.toggling, (16, 16, x.acts)]
  | _ => 0

def State.readPwm (s : State) (off : Nat) : Nat :=
  if off < 0x800 then s.readPwmCh (off / 0x40) (off % 0x40)
  else if off = 0x800 then packed [(0, 8, s.pkg.io.qual)]
  else if off = 0x804 then packed [(0, 5, s.syncOutCh), flag 5 s.pkg.io.syncOutEn]
  else if 0x900 ≤ off ∧ off < 0x980 then s.readTi ((off - 0x900) / 16) (off % 16)
  else 0

/-! ## BLN (R225, R226) -/

def State.readBeam (s : State) (l k : Nat) : Nat :=
  let x := s.beams.get l
  match k with
  | 0x0 => s.unitReg (.beam l)
  | 0x4 => packed [flag 0 x.locked, flag 1 x.calValid, flag 2 x.paramOk, flag 3 x.delayMargin, flag 4 x.concBlocked,
      flag 5 x.timeOk]
  | 0x8 => packed [(0, 16, x.dDown), (16, 16, x.dUp)]
  | 0xC => packed [(0, 16, unsigned 16 (s.pkg.beamAsym.get l)), (16, 16, x.ul)]
  | 0x10 => packed [(0, 16, x.rtt), (16, 16, x.turn)]
  | 0x14 => x.crcErr
  | 0x18 => x.hdrErr
  | 0x1C => x.late
  | _ => 0

def State.readArmEdge (s : State) (a k : Nat) : Nat :=
  let c := s.pkg.arms.get a
  let x := s.arms.get a
  match k with
  | 0x0 => packed [(0, 11, c.dead), (16, 11, c.minp)]
  | 0x4 => lo32 c.mask.toNat
  | 0x8 => hi32 c.mask.toNat
  | 0xC => packed [flag 0 x.trip, flag 1 x.clearRefused]
  | 0x10 => x.shortP
  | 0x14 => x.shortG
  | _ => 0

def State.readBln (s : State) (off : Nat) : Nat :=
  if off < 0x800 then s.readBeam (off / 0x20) (off % 0x20)
  else if off < 0x900 then s.readArmEdge ((off - 0x800) / 0x20) (off % 0x20)
  else if off = 0xA00 then packed [(0, 12, s.pkg.cnv.calIntervalS)]
  else if off = 0xA04 then s.cnv.tickMiss
  else 0

end Sys2Proof.Machine
end

