-- ==== Sys2Proof/Machine/RegRead.lean ====
section
/-! DEFINITION. What each register of the set-up window holds, unit by unit: GLB, KA, HIF and SVC, SWC, MAC, COL, FBC, PER,
EVR, OBS, BST, MLK. Offsets and fields are those of the register tables; WO fields and reserved bits read zero. -/

namespace Sys2Proof.Machine

/-! ## GLB (R2, R57 to R61, R159, R475) -/

/-- GLB_HWSTAT (R475). -/
def State.hwStat (s : State) : Nat :=
  let tis := (List.range 8).foldl (fun n i => n + (s.tis.get i).low.toNat * 2 ^ i) 0
  packed [flag 0 s.hw.gaParErr, flag 1 s.hw.latchOpen, flag 2 (s.hw.hotCore || s.hw.hotPlate), flag 3 s.hw.tempCrit,
    (8, 8, tis), (16, 6, s.hw.xcvrUnqual.toNat), (24, 6, s.hw.xcvrNoPwr.toNat)]

def State.readGlb (s : State) (off : Nat) : Nat :=
  match off with
  | 0x0 => glbId
  | 0x8 => glbCap
  | 0xC => packed [flag 0 s.glb.run]
  | 0x10 => packed [(0, 4, phaseCode s.glb.phase), (4, 3, lcsCode s.glb.lcs), flag 8 s.glb.restartWarm,
      flag 9 s.glb.holdupReady, flag 10 s.glb.fwBank, flag 11 s.glb.fwFallback]
  | 0x14 => packed [flag 0 s.glb.absent, flag 1 s.glb.lockedWrite, flag 2 s.glb.notReady, flag 3 s.glb.runRefused]
  | 0x18 => s.glb.modnum.toNat
  | 0x200 => s.hwStat
  | 0x204 => packed [(0, 8, unsigned 8 s.hw.coreTemp), (8, 8, unsigned 8 s.hw.coldTemp),
      (16, 8, unsigned 8 s.hw.inputTemp)]
  | 0x208 => packed [(0, 16, s.hw.energy), (16, 12, s.hw.vstore), flag 28 s.hw.charging]
  | 0x20C => s.pkg.io.ioCfg.toNat
  | 0x210 => packed ((s.pkg.col.tpo.take 4).zipIdx.flatMap fun x => [(8 * x.2, 4, x.1.1), flag (8 * x.2 + 4) x.1.2])
  | _ => firstOf 0
    [(arr off 0x100 8 4, fun m => lo32 (s.pkg.tos.get m).mask.toNat),
     (arr off 0x104 8 4, fun m => hi32 (s.pkg.tos.get m).mask.toNat),
     (arr off 0x120 4 4, fun m => packed [(0, 10, (s.pkg.tos.get m).minonMs), flag 10 (s.pkg.tos.get m).latch]),
     (arr off 0x130 4 4, fun m => packed [flag 0 (s.tos.get m).latched, flag 1 (s.driven m)]),
     (arr off 0x220 4 4, fun m =>
       packed [flag 0 (s.tos.get m).noload, flag 1 (s.tos.get m).overload, (8, 8, s.hw.toOffv.get m)])]

/-! ## KA (R62) -/

def State.readKa (s : State) (off : Nat) : Nat :=
  let k := s.ka
  match off with
  | 0x0 => packed [flag 0 k.retentionValid, flag 1 k.retSrc, flag 2 k.journalSealOk, flag 3 k.flushFailed, flag 4 k.svcCut]
  | 0x4 => packed [flag 0 k.warmAllowed, flag 1 k.claimDrop]
  | 0x8 => packed [flag 0 k.nextBank, flag 1 k.runningBank, (4, 2, bankCode k.resultA), (6, 2, bankCode k.resultB)]
  | 0xC => packed [(0, 4, causeCode k.cause), (16, 16, k.count)]
  | 0x10 => packed [(0, 12, k.vin.toNat), flag 12 k.warn, flag 13 k.pfail]
  | 0x14 => k.hours.toNat
  | 0x18 => k.pwrcyc.toNat
  | _ => 0

/-! ## HIF and SVC (R70, R315, R339) -/

/-- The registers of slice `i` at `k` (R339); what the bucket of a slice with no rate shows is free (R325). -/
def State.readSlice (s : State) (i k : Nat) : Nat × State :=
  let x := s.slice i
  match k with
  | 0x0 => (s.unitReg (.slice i), s)
  | 0x4 => (packed [(0, 20, x.pasid), (20, 1, x.port), flag 21 x.paused, flag 22 x.dirty.on, flag 23 x.dirty.overflow], s)
  | 0x8 => (packed [(0, 8, x.weight), (16, 14, x.unexecLimit)], s)
  | 0xC => (x.descRate, s)
  | 0x10 =>
    let (t, s) := if x.st = .off then (0, s) else s.tokens x.descRate (s.descLevel i) 16
    (packed [(0, 16, x.descBurst), (16, 16, t)], s)
  | 0x14 => (x.byteRate, s)
  | 0x18 => (x.byteBurst, s)
  | 0x1C => if x.st = .off then (0, s) else s.tokens x.byteRate (s.byteLevel i) 32
  | 0x20 => (s.unexec i, s)
  | 0x24 => (x.limited, s)
  | 0x28 => (lo32 x.dirty.produced, s)
  | 0x2C => (x.dirty.filtered, s)
  | _ => (0, s)

def State.readHostPort (s : State) (h k : Nat) : Nat :=
  let p := s.hif.ports.get h
  match k with
  | 0x0 => packed [(0, 4, p.speed), (4, 6, p.width), flag 10 p.up]
  | 0x4 => p.pollCap
  | 0x8 => p.polls
  | 0xC => p.pollLate
  | 0x10 => p.hostErr
  | 0x14 => p.ringErr
  | _ => 0

def State.readHif (s : State) (off : Nat) : Nat × State :=
  match off with
  | 0x100 => (packed [(0, 17, s.jFree), flag 17 (s.jFree < 1024)], s)
  | 0x104 => (lo32 s.hif.jseq, s)
  | 0x108 => (hi32 s.hif.jseq, s)
  | 0x10C => (s.hif.dup, s)
  | 0x110 => (s.hif.expired, s)
  | 0xF000 => (packed [(0, 8, s.svc.op.toNat), (8, 8, s.svc.cmdTag.toNat)], s)
  | 0xF024 => (packed [flag 0 s.svc.running.isSome, flag 1 s.svc.done, (8, 8, s.svc.tag.toNat),
      (16, 16, s.svc.code.toNat)], s)
  | 0xF028 => (s.svc.ignored, s)
  | _ =>
    if off < 0x80 then (s.readHostPort (off / 0x40) (off % 0x40), s)
    else if 0x1000 ≤ off ∧ off < 0x2000 then s.readSlice ((off - 0x1000) / 0x40) ((off - 0x1000) % 0x40)
    else (firstOf 0
      [(arr off 0x200 4 64, fun i =>
         packed [(0, 10, (s.slice i).minUs), (10, 10, (s.slice i).curUs), (20, 7, (s.slice i).empty)]),
       (arr off 0xF004 4 8, fun i => ((s.svc.args.toList[i]?).getD 0).toNat)], s)

/-! ## SWC (R141, R163, R251, R252) -/

def State.readCam (s : State) (i k : Nat) : Nat :=
  let c := s.pkg.cam.get i
  match k with
  | 0x0 => lo32 c.addr.toNat
  | 0x4 => packed [(0, 16, hi32 c.addr.toNat), (16, 12, c.vlan), flag 28 c.anyVlan, flag 31 c.en]
  | 0x8 => packed [(0, 24, c.ports.toNat), (24, 3, c.cls), flag 27 c.clsEn]
  | 0xC => packed [(0, 20, c.police), (20, 8, c.burst)]
  | _ => 0

def State.readGlint (s : State) (p k : Nat) : Nat :=
  let g := s.swc.glint.get p
  match k with
  | 0x0 => packed [(0, 16, g.n), (16, 2, g.dir), flag 18 g.toMM, (19, 6, g.slice)]
  | 0x4 => g.seen
  | 0x8 => g.drop
  | _ => 0

/-- SWC_RSV: the four reservations in the order TC5, TC6, TC7, TC4. -/
def rsvWord (r : Rsv) : Nat := packed [(0, 8, r.tc5), (8, 8, r.tc6), (16, 8, r.tc7), (24, 8, r.tc4)]

def State.readSwc (s : State) (off : Nat) : Nat :=
  match off with
  | 0x0 => packed [(0, 20, s.pkg.swc.ageS), (20, 3, s.pkg.swc.beAlpha)]
  | 0x4 => packed [(0, 17, s.freeCells), (17, 7, stashUsed s.swc.learned), flag 24 s.swc.learnBlocked]
  | 0x8 => packed [(0, 15, s.swc.learned.length)]
  | 0xC => packed [(0, 16, s.swc.hashEpoch)]
  | 0x10 => s.swc.mcRefused
  | 0x14 => s.swc.learnFail
  | 0x18 => s.swc.flood
  | 0x1C => s.swc.unkMc
  | 0x20 => s.swc.staticMove
  | 0x24 => s.swc.spoof
  | 0x30 => packed ((s.pkg.swc.pcpMap.take 8).zipIdx.map fun x => (3 * x.2, 3, x.1))
  | _ =>
    if 0x1000 ≤ off ∧ off < 0x5000 then s.readCam ((off - 0x1000) / 16) ((off - 0x1000) % 16)
    else if 0x7000 ≤ off ∧ off < 0x7180 then s.readGlint ((off - 0x7000) / 16) ((off - 0x7000) % 16)
    else firstOf 0
      [(arr off 0x5000 4 24, fun p => if p < portCount then rsvWord (s.rsvOf p) else 0),
       (arr off 0x5100 4 192, fun k => s.swc.qdrop.get k),
       (arr off 0x5400 4 24, fun p => s.swc.holdDrop.get p),
       (arr off 0x6000 4 1024, fun i => s.swc.police.get i),
       (arr off 0x8000 4 512, fun k =>
         let c := s.pkg.svs.get k
         packed [(0, 16, c.appid), (16, 12, c.vlan), (28, 2, c.rate), flag 30 c.authReq, flag 31 c.en]),
       (arr off 0x8800 4 512, fun k => packed [(0, 16, (s.pkg.svs.get k).maxAgeUs), (16, 16, (s.pkg.svs.get k).lensMask.toNat)]),
       (arr off 0x9000 4 512, fun k =>
         packed [(0, 8, (s.svs.get k).keyCur), (8, 8, (s.svs.get k).keyNext), (16, 3, (s.pkg.svs.get k).alg)]),
       (arr off 0x9800 4 512, fun k =>
         let q := svSeq (s.svs.get k) (s.svs.get k).shown
         packed [(0, 2, svCode q.st), flag 2 (s.svs.get k).unsync, (3, 16, q.lastSmp)]),
       (arr off 0xA000 4 512, fun k => (s.svs.get k).miss),
       (arr off 0xA800 4 512, fun k => (s.svs.get k).authfail),
       (arr off 0xB000 4 512, fun k => (s.svs.get k).seqerr),
       (arr off 0xB800 4 512, fun k => (s.svs.get k).late),
       (arr off 0xD000 4 64, fun g =>
         let c := s.pkg.gps.get g
         packed [flag 0 c.en, flag 1 c.command, (8, 8, c.t1), (16, 16, c.t0)]),
       (arr off 0xD100 4 64, fun g => (s.gps.get g).stNum),
       (arr off 0xD200 4 64, fun g => (s.gps.get g).sqNum)]

/-! ## MAC (R253) -/

def State.readMac (s : State) (off : Nat) : Nat :=
  let p := off / 0x100
  let c := s.portCfg p
  let x := s.swc.ports.get p
  if 5 ≤ p then 0
  else match off % 0x100 with
  | 0x0 => s.unitReg (.port p)
  | 0x4 => packed [(0, 2, c.speed), flag 2 c.fec, (16, 11, c.maxLen)]
  | 0x8 => packed [flag 0 x.link, flag 1 x.fecLock, flag 2 x.rxLos, flag 3 x.txFault, flag 4 x.modPresent]
  | 0x10 => x.rxFrames
  | 0x14 => x.fcsErr
  | 0x18 => x.oversize
  | 0x1C => x.runt
  | 0x20 => x.pause
  | 0x24 => x.txFrames
  | 0x28 => x.linkDown
  | 0x2C => x.fecCorr
  | 0x30 => x.fecUncorr
  | _ => 0

/-! ## COL (R255, R267 to R269) -/

/-- Minutes in the holdover under way, or in the last one. -/
def State.holdMinutes (s : State) : Nat :=
  (match s.col.holdFrom with | some t => s.now - t | none => s.col.holdElapsedNs) / 60000000000

/-- The shadow registers of a port (R255). -/
def State.latchOf (s : State) : TimePort → TimeLatch
  | .h0 => s.col.latchH0 | .h1 => s.col.latchH1 | .mm => s.col.latchMM

def State.readPtp (s : State) (p k : Nat) : Nat :=
  let x := s.col.ports.get p
  match k with
  | 0x0 => packed [(0, 3, ptpCode x.st)]
  | 0x4 => int32 ((s.pkg.col.asym[p]?).getD 0)
  | 0x8 => x.pdelay
  | 0xC => x.rxErr
  | _ => 0

/-- START of a generator: the one TP_ARM gave a ONCE generator, else the package's. -/
def State.tpStart (s : State) (t : Nat) : Nat :=
  if (s.pkg.tps.get t).mode = .once then s.onceStart t else (s.pkg.tps.get t).startNs

def State.readTp (s : State) (t k : Nat) : Nat :=
  let c := s.pkg.tps.get t
  let x := s.col.tps.get t
  match k with
  | 0x0 => packed [(0, 2, tpCode c.mode), flag 2 x.armed, (8, 16, c.width)]
  | 0x4 => s.tpStart t % 1000000000
  | 0x8 => lo32 (s.tpStart t / 1000000000)
  | 0xC => packed [(0, 16, hi32 (s.tpStart t / 1000000000))]
  | 0x10 => c.period
  | 0x14 => lo32 x.count
  | 0x18 => hi32 x.count
  | _ => 0

def State.readCol (s : State) (p : TimePort) (off : Nat) : Nat × State :=
  let c := s.col
  let g := s.pkg.col
  match off with
  | 0x0 => (packed [(0, 2, g.ptpMode), flag 2 g.gmCapable, (8, 8, g.domain), (16, 8, g.maxSlew)], s)
  | 0x4 => (packed [(0, 3, colCode c.st), flag 3 c.slewing, flag 4 c.far, flag 5 c.gm, flag 6 c.refOk,
      (8, 4, c.slavePort)], s)
  | 0x8 => (c.ns, s.latchTime p)
  | 0xC => (lo32 (s.latchOf p).s, s)
  | 0x10 => (packed [(0, 16, hi32 (s.latchOf p).s), (16, 16, (s.latchOf p).frac)], s)
  | 0x14 => (int32 c.offset, s)
  | 0x18 => (int32 c.rate, s)
  | 0x1C => (packed [(0, 16, g.holdLimit), (16, 16, s.holdMinutes)], s)
  | 0x20 => (packed [(0, 16, unsigned 16 c.utcOffset), flag 16 c.utcValid, flag 17 c.leap61, flag 18 c.leap59], s)
  | 0x24 => (c.setNs, s)
  | 0x28 => (c.setSlo.toNat, s)
  | 0x2C => (c.setShi.toNat, s)
  | 0x30 => (c.tpSkip, s)
  | 0x34 => (packed [(0, 4, g.ppsTp), flag 4 g.ppsEn], s)
  | _ =>
    if 0x100 ≤ off ∧ off < 0x1A0 then (s.readPtp ((off - 0x100) / 0x20) (off % 0x20), s)
    else if 0x400 ≤ off ∧ off < 0x600 then (s.readTp ((off - 0x400) / 0x20) (off % 0x20), s)
    else (0, s)

/-! ## FBC (R133, R289, R290) -/

def actionWord : FltAction → Nat
  | .reject => 0
  | .station n => packed [(3, 2, 1), (5, 6, n)]
  | .slice i => packed [(3, 2, 2), (11, 6, i)]
  | .mm => packed [(3, 2, 3)]
def fltKindCode : FltKind → Nat | .range => 0 | .dual => 1 | .mask => 2

/-- Filter entry `j` of controller `b` (R290); an entry that the package does not list reads zero. -/
def State.readFlt (s : State) (b j k : Nat) : Nat :=
  match (s.pkg.fbcs.get b).filters[j]? with
  | none => 0
  | some f => match k with
    | 0x0 => packed [(0, 2, fltKindCode f.kind), flag 2 f.ide, flag 31 f.en] + actionWord f.action
    | 0x4 => f.id1.toNat
    | 0x8 => f.id2.toNat
    | _ => 0

def cellWord : CellType → Nat
  | .free => 0
  | .exclOut n => packed [(0, 2, 1), (3, 6, n)]
  | .exclIn n => packed [(0, 2, 1), flag 2 true, (3, 6, n)]
  | .arbitration => 2

/-- Cell (bc, c) of a schedule, at index 64 * bc + c; cells outside it read zero (R290). -/
def State.readCell (s : State) (b n : Nat) : Nat :=
  let c := s.pkg.fbcs.get b
  if c.bcCount ≤ n / 64 ∨ c.cols.length ≤ n % 64 then 0
  else match c.cells.find? fun x => x.1 = n / 64 && x.2.1 = n % 64 with
    | some (_, _, t) => cellWord t
    | none => 0

/-- FC_STATE of FBC_ERR (R289). -/
def fcState (f : FbcSt) : Nat := if f.mode = .busOff then 2 else if fbPassive f then 1 else 0

def State.readFbc (s : State) (b k : Nat) : Nat :=
  let c := s.pkg.fbcs.get b
  let f := s.fbcs.get b
  match k with
  | 0x0 => s.unitReg (.fbc b)
  | 0x4 => packed [(0, 3, c.dataRate), (4, 7, c.spNom), (11, 7, c.spData), flag 18 c.autoRecover]
  | 0x8 => packed [(0, 2, fbCode f.mode), flag 2 f.timeMaster, flag 3 f.backupSent, (4, 4, f.bc), (8, 6, f.col)]
  | 0xC => packed [(0, 5, c.bcCount), (8, 4, c.tp), flag 12 c.schedEn, (16, 7, c.cols.length), (24, 8, c.refLen)]
  | 0x10 => packed [(0, 9, Nat.min f.tec 511), (9, 7, Nat.min f.recCnt 127), (16, 2, fcState f)]
  | 0x14 => packed [(0, 7, s.fbDepth b), (8, 7, f.highWater)]
  | 0x18 => f.arbLost
  | 0x1C => f.errFrm
  | 0x20 => f.busOffs
  | 0x24 => f.txDiscard
  | 0x28 => f.rxNomatch
  | 0x2C => f.freeViol
  | 0x30 => f.refMiss
  | 0x34 => f.superseded
  | _ => firstOf 0
    [(arr k 0x100 4 64, fun n => packed [(0, 16, (c.cols[n]?).getD 0)]),
     (arr k 0x200 4 64, fun n => packed [(0, 11, (s.stnCfg (64 * b + n)).txid)])]

def State.readRemote (s : State) (off : Nat) : Nat :=
  if off < 0x1000 then s.readFbc (off / 0x800) (off % 0x800)
  else if 0x2000 ≤ off ∧ off < 0x6000 then s.readFlt ((off - 0x2000) / 0x2000) (off % 0x2000 / 16) (off % 16)
  else if 0x6000 ≤ off ∧ off < 0x8000 then
    (if off % 4 = 0 then s.readCell ((off - 0x6000) / 0x1000) (off % 0x1000 / 4) else 0)
  else firstOf 0
    [(arr off 0x8000 4 128, fun i =>
       let c := s.stnCfg i
       packed [(0, 9, c.inLen), (16, 9, c.outLen), (25, 4, c.k), flag 29 c.en]),
     (arr off 0x8200 4 128, fun i =>
       let t := s.stns.get i
       packed [(0, 2, stnCode t.st), (2, 4, t.missed), (6, 4, t.gseq)]),
     (arr off 0x8400 4 128, fun i => (s.stns.get i).discard),
     (arr off 0x8600 4 128, fun i => (s.stns.get i).grpBad),
     (arr off 0xA000 8 1024, fun j =>
       let c := s.pkg.conds.get j
       packed [(0, 7, c.station), flag 7 c.en, (8, 12, c.bit), (20, 9, c.debounce)]),
     (arr off 0xA004 8 1024, fun j =>
       let c := s.pkg.conds.get j
       packed [(0, 8, c.chatterN), (8, 8, c.chatterW), (16, 8, c.quiet), (24, 8, c.stuck)]),
     (arr off 0xC000 4 1024, fun j =>
       let c := s.conds.get j
       packed [(0, 2, qualCode c.quality), flag 2 c.value, flag 3 c.stuck])]

/-! ## PER (R398) -/

def State.readPerGrp (s : State) (g k : Nat) : Nat :=
  let c := s.pkg.perGrps.get g
  let x := s.recs.groups.get g
  match k with
  | 0x0 => packed [(0, 2, c.clock), (2, 4, c.src), (6, 5, c.chain), flag 11 c.holdByEvents, flag 12 c.protect,
      flag 13 c.measPost, (14, 6, c.owner)]
  | 0x4 => packed [(0, 16, c.pre), (16, 16, c.post)]
  | 0x8 => c.hold
  | 0xC => packed [flag 0 x.run]
  | 0x10 => packed [(0, 3, grpCode x.st), (16, 16, x.records)]
  | 0x14 => x.prefSup
  | 0x18 => x.holdSup
  | 0x1C => x.ringSup
  | _ => 0

def State.readTrig (s : State) (g c k : Nat) : Nat :=
  let t := ((s.pkg.perGrps.get g).trigs[c]?).getD {}
  match k with
  | 0x0 => packed [(0, 3, t.type), (3, 2, t.dir), (5, 8, t.channel), (13, 6, t.sel), (19, 12, t.bit)]
  | 0x4 => int32 t.thresh
  | 0x8 => packed [(0, 8, if c < (s.pkg.perGrps.get g).trigs.length then t.w else 0)]
  | _ => 0

/-- GROUP of an acquisition channel: the group that lists it. -/
def State.groupOf (s : State) (i : Nat) : Nat :=
  ((List.range 16).find? fun g => (s.pkg.perGrps.get g).channels.contains i).getD 0

/-- Words of PER_HIST and PER_PMAP. -/
def histWord (c : HistCfg) (meas : Nat) (records k : Nat) : Nat :=
  match k with
  | 0x0 => packed [(0, 4, c.group), (4, 8, c.channel), (12, 3, meas), flag 31 c.en]
  | 0x4 => int32 c.lo
  | 0x8 => int32 c.hi
  | 0xC => records
  | _ => 0

def State.readPer (s : State) (off : Nat) : Nat :=
  if off < 0x400 then s.readPerGrp (off / 0x40) (off % 0x40)
  else if off = 0x800 then s.recs.flashFull
  else if 0x1000 ≤ off ∧ off < 0x1800 then s.readTrig ((off - 0x1000) / 0x80) (off % 0x80 / 16) (off % 16)
  else if 0x6000 ≤ off ∧ off < 0x6200 then
    let h := (off - 0x6000) / 16
    histWord (s.pkg.hists.get h) (s.pkg.hists.get h).meas (s.recs.hists.get h).records (off % 16)
  else if 0x6400 ≤ off ∧ off < 0x6480 then
    let m := (off - 0x6400) / 16
    histWord (s.pkg.pmaps.get m) 0 (s.recs.pmaps.get m).records (off % 16)
  else firstOf 0
    [(arr off 0x4000 8 256, fun i =>
       packed [(0, 3, (s.pkg.perChs.get i).kind), (3, 4, s.groupOf i), (7, 4, (s.pkg.perChs.get i).unitSel)]),
     (arr off 0x4004 8 256, fun i => (s.pkg.perChs.get i).index)]

/-! ## EVR (R399) -/

def State.readEvr (s : State) (off : Nat) : Nat :=
  let e := s.recs.evr
  match off with
  | 0x0 => packed [(0, 17, e.buffer.length), flag 17 e.bufHigh, flag 18 e.flushing]
  | 0x4 => lo32 e.useq
  | 0x8 => hi32 e.useq
  | 0xC => e.stored
  | 0x10 => e.bufDrop
  | 0x14 => e.logDrop
  | 0x18 => e.logOverwrite
  | 0x1C => lo32 e.rseq
  | 0x20 => hi32 e.rseq
  | 0x24 => e.flushes
  | 0x40 => packed [(0, 12, e.winSel)]
  | _ => firstOf 0
    [(arr off 0x100 4 64, fun k => leNat (bytesAt (s.evrWindow e.winSel) (4 * k) 4)),
     (arr off 0x8000 4 4096, fun i =>
       let c := s.pkg.evr.get i
       packed [(0, 2, c.severity), flag 2 (evrEvent i c), flag 3 c.tai, flag 4 c.flush, (5, 16, c.interval), flag 21 c.en,
         (22, 6, c.owner)])]

/-! ## OBS and BST (R421, R422) -/

def State.readObs (s : State) (off : Nat) : Nat :=
  let o := s.obs
  match off with
  | 0x0 => packed [(0, 9, ((List.range 256).filter fun i => attrValid (s.slotAttr i)).length), flag 9 o.katOk,
      (16, 16, o.scramble)]
  | 0x4 => s.obsFloor
  | 0x8 => packed [(0, 16, o.lcCount)]
  | 0xC => o.deny
  | 0x10 => lo32 o.attestNo
  | 0x14 => hi32 o.attestNo
  | _ => firstOf 0 [(arr off 0x100 4 256, fun i => (s.slotAttr i).toNat)]

def State.readBst (s : State) (off : Nat) : Nat :=
  let b := s.bst
  match off with
  | 0x0 => packed [flag 0 b.busy, (1, 2, bstCode b.result), (16, 16, b.region)]
  | 0x4 => lo32 b.sig.toNat
  | 0x8 => hi32 b.sig.toNat
  | 0xC => lo32 b.gold.toNat
  | 0x10 => hi32 b.gold.toNat
  | 0x14 => packed [(0, 16, b.lensPass.toNat), flag 16 b.serdesPass, flag 17 b.pllPass, flag 18 b.vrefPass]
  | 0x18 => b.runs
  | 0x1C => b.fails
  | 0x20 => b.aborts
  | 0x24 => int32 b.meas
  | _ => 0

/-! ## MLK (R374) -/

def State.readMlk (s : State) (off : Nat) : Nat :=
  let m := s.mlk
  let c := s.pkg.mlk
  match off with
  | 0x0 => packed [flag 0 c.paired, flag 1 c.orphanClaim, (2, 4, c.tp), (8, 8, c.soloWait), (16, 8, c.orphanWait)]
  | 0x4 => packed [(0, 10, c.partner)]
  | 0x8 => packed [flag 0 m.inhibit]
  | 0xC => packed [(0, 2, roleCode m.role), flag 2 m.grant, flag 3 s.ready, (4, 2, partnerCode m.partner), (6, 2, m.stale),
      flag 8 m.strapPrimary, flag 9 m.ilkFault, flag 10 m.prefConflict, flag 11 m.orphan, flag 12 m.yieldRefused,
      flag 13 m.partnerClaim]
  | 0x10 => packed [flag 0 m.loopA.claimed, flag 1 m.loopB.claimed, flag 2 m.loopA.noCur, flag 3 m.loopB.noCur,
      flag 4 m.loopA.ownOpen, flag 5 m.loopB.ownOpen]
  | 0x30 => lo32 m.sealedOrCommitted
  | 0x34 => hi32 m.sealedOrCommitted
  | 0x40 => m.takeovers
  | 0x44 => m.collisions
  | 0x48 => m.ilkFaults
  | 0x58 => m.resend
  | 0x5C => m.resync
  | 0x60 => m.adoptLate
  | 0x70 => m.inDoubt
  | _ => firstOf 0
    [(arr off 0x20 4 2, fun k =>
       let l := s.link k
       packed [flag 0 l.up, flag 1 l.fecLock, flag 2 l.rxLos, flag 3 l.modPresent]),
     (arr off 0x50 4 2, fun k => (s.link k).bad),
     (arr off 0x68 4 2, fun k => (s.link k).downs)]

end Sys2Proof.Machine
end

