-- ==== Sys2Proof/Machine/Registers.lean ====
section
/-! DEFINITION. REGISTER_READ and REGISTER_WRITE (R3, R4, R6, R7, R46 to R48, R50): a read returns the register, and a write
acts field by field by the access codes. Fields that no arm of a write names are RO or reserved and ignore it. -/

namespace Sys2Proof.Machine

/-! ## Reading -/

/-- The value of the register at an address, and what the read does: COL_TIME_NS latches (R255). -/
def State.readReg (s : State) (p : TimePort) (a : BitVec 24) : Nat × State :=
  let w := winOf a
  let off := a.toNat % 65536
  if w = 0 then (s.readGlb off, s)
  else if w = 1 then (s.readKa off, s)
  else if w = 2 then s.readHif off
  else if w = 4 then (s.readSwc off, s)
  else if w = 6 then (s.readMac off, s)
  else if w = 8 then s.readCol p off
  else if w = 9 then (s.readRemote off, s)
  else if w = 0xA then (s.readPer off, s)
  else if w = 0xB then (s.readEvr off, s)
  else if w = 0xC then (s.readObs off, s)
  else if w = 0xD then (s.readBst off, s)
  else if w = 0xE then (s.readMlk off, s)
  else if 0x10 ≤ w ∧ w < 0x20 then (s.readLens (w - 0x10) off, s)
  else if w = 0x20 then (s.readCnv off, s)
  else if w = 0x21 then (s.readPwm off, s)
  else if w = 0x22 then (s.readBln off, s)
  else (0, s)

/-- What a read of an address returns to a port and does. -/
def State.busRead (s : State) (p : TimePort) (a : BitVec 24) : Nat × State :=
  if ¬ winUnit (winOf a) then (0, s)
  else if ¬ s.winReady p a false then (0, s.notReadyWrite)
  else if addrAbsent a then (0, s.setAbsent)
  else s.readReg p a

/-- A word of BAR2 of a host port (R291): entries of 16 B with address, data and mask bit, as PCI Express lays them out
(PRESUMED, log 111), and the pending bits at 0x8000. -/
def State.readVec (s : State) (h : Nat) (a : BitVec 24) : Nat :=
  let off := a.toNat
  let n := 512 * h + off / 16
  if off < 0x2000 then
    match off / 4 % 4 with
    | 0 => lo32 (s.hif.vecs.get n).addr
    | 1 => hi32 (s.hif.vecs.get n).addr
    | 2 => (s.hif.vecs.get n).data
    | _ => (s.hif.maskedVec.get n).toNat
  else if 0x8000 ≤ off ∧ off < 0x8040 then
    packed ((List.range 32).map fun k => flag k (s.hif.pendingVec.get (512 * h + 8 * (off / 4 * 4 - 0x8000) + k)))
  else 0

/-- REGISTER_READ (R3, R50, R291). -/
def execRegisterRead (p : BusPort) (a : BitVec 24) (s : State) : Res :=
  .next (match p with
    | .win p => let (v, s) := s.busRead p a; { s with lastRead := BitVec.ofNat 32 v }
    | .vec h => { s with lastRead := BitVec.ofNat 32 (s.readVec h a) })

/-! ## Writing: GLB and KA -/

/-- The host port of a register access; the Module Manager has none, and its mailbox DMA would go out on H0. -/
def portNo : TimePort → Nat | .h1 => 1 | _ => 0

/-- A field of an RWL flag: unchanged, locked after RUN, or written (R7, R48). -/
def State.writeFlag (s : State) (now_ new : Bool) (f : State → State) : State :=
  if now_ = new then s else if s.rwlLocked then s.lockedWrite else f s

/-- RESTART of GLB_CTRL: 0b01 warm, 0b10 cold. Whether the journal seal checks good is not known of the write, so it is a
free value (R63). -/
def State.writeRestart (s : State) (v : Word) : State :=
  match v.toNat / 2 % 4 with
  | 1 => if s.restartOpen then (let (b, s) := s.free; s.restart .cmdWarm (b.getLsbD 0)) else s
  | 2 => if s.restartOpen then s.restart .cmdCold false else s
  | _ => s

def State.writeGlb (s : State) (off : Nat) (v : Word) : State :=
  match off with
  | 0xC => (if v.getLsbD 0 then s.writeRun else s.clearRun).writeRestart v
  | 0x14 => s.updGlb fun g =>
      { g with absent := g.absent && !v.getLsbD 0, lockedWrite := g.lockedWrite && !v.getLsbD 1,
               notReady := g.notReady && !v.getLsbD 2, runRefused := g.runRefused && !v.getLsbD 3 }
  | 0x18 =>
    let n : BitVec 10 := v.setWidth 10
    if n = s.glb.modnum then s else if s.rwlLocked then s.lockedWrite else s.updGlb fun g => { g with modnum := n }
  | _ => firstOf s
    [(arr off 0x220 4 4, fun m => s.updTo m fun t => { t with overload := t.overload && !v.getLsbD 1 })]

def State.writeKa (s : State) (off : Nat) (v : Word) : State :=
  match off with
  | 0x0 => s.updKa fun k => { k with flushFailed := k.flushFailed && !v.getLsbD 3, svcCut := k.svcCut && !v.getLsbD 4 }
  | 0x4 =>
    let s := s.writeFlag s.ka.warmAllowed (v.getLsbD 0) fun s => s.updKa fun k => { k with warmAllowed := v.getLsbD 0 }
    s.writeFlag s.ka.claimDrop (v.getLsbD 1) fun s => s.updKa fun k => { k with claimDrop := v.getLsbD 1 }
  | 0x10 => s.updKa fun k => { k with pfail := k.pfail && !v.getLsbD 13 }
  | _ => s

/-! ## The mailbox and the host interface (R70, R71, R74, R315) -/

/-- A mailbox write: ignored and counted after RUN, with LOCKED_WRITE, and while an operation runs. -/
def State.mailWrite (s : State) (f : State → State) : State :=
  let n (s : State) : State := s.updSvc fun v => { v with ignored := sat32 v.ignored 1 }
  if s.glb.run then (n s).lockedWrite else if s.svc.running.isSome then n s else f s

/-- SVC_CMD: OP and TAG are taken and the operation starts. -/
def State.mailStart (s : State) (port : Nat) (v : Word) : State :=
  let op : Byte := v.setWidth 8
  let tag : Byte := (v >>> 8).setWidth 8
  let s := s.updSvc fun x => { x with op := op, cmdTag := tag }
  s.svcStart { op := op.toNat, tag := tag, door := .mailbox, host := port, since := s.now }

/-- A unit state field (R75): START_FAILED is RW1C, EN is RWL. -/
def State.writeUnit (s : State) (u : UnitId) (v : Word) : State :=
  (s.updUnit u fun x => { x with startFailed := x.startFailed && !v.getLsbD 4 }).writeEn u (v.getLsbD 8)

/-- HIF_POLLCAP: other values than 100 to 20,000 are ignored. -/
def State.writeCap (s : State) (h : Nat) (v : Word) : State :=
  let n := v.toNat % 2 ^ 15
  if n < 100 ∨ 20000 < n ∨ n = (s.hif.ports.get h).pollCap then s
  else if s.rwlLocked then s.lockedWrite
  else s.updHostPort h fun p => { p with pollCap := n, nextPoll := p.slot, pollRem := 0 }

def State.writeHif (s : State) (port off : Nat) (v : Word) : State :=
  match off with
  | 0xF000 => s.mailWrite fun s => s.mailStart port v
  | 0xF024 => s.updSvc fun x => { x with done := x.done && !v.getLsbD 1 }
  | _ => firstOf s
    [(arr off 0xF004 4 8, fun i => s.mailWrite fun s => s.updSvc fun x => { x with args := x.args.setIfInBounds i v }),
     (arr off 0x4 0x40 2, fun h => s.writeCap h v),
     (arr off 0x1000 0x40 64, fun i => s.writeUnit (.slice i) v)]

/-! ## SWC -/

/-- SWC_GLINT_CFG(p), which only the Module Manager writes: N, DIR, TO_MM and SLICE (R246, R251, log 88). -/
def State.writeGlint (s : State) (p : Nat) (v : Word) : State :=
  s.updSwc fun w => { w with glint := w.glint.upd p fun g =>
    { g with n := v.toNat % 2 ^ 16, dir := v.toNat / 2 ^ 16 % 4, toMM := v.getLsbD 18, slice := v.toNat / 2 ^ 19 % 64,
             count := 0, sampleNo := 0, skipped := 0 } }

def State.writeSwc (s : State) (p : TimePort) (off : Nat) (v : Word) : State :=
  match p with
  | .mm => firstOf s [(arr off 0x7000 16 24, fun k => s.writeGlint k v)]
  | _ => s

/-! ## COL, PER, EVR, MLK -/

/-- COL_SET_SLO: RWL (R266). -/
def State.writeSetSlo (s : State) (v : Word) : State :=
  if v = s.col.setSlo then s else if s.rwlLocked then s.lockedWrite else s.updCol fun c => { c with setSlo := v }

def State.writeCol (s : State) (off : Nat) (v : Word) : State :=
  match off with
  | 0x24 => s.setNs v
  | 0x28 => s.writeSetSlo v
  | 0x2C => s.setGo v
  | _ => s

/-- PER_GRP_CTRL: RUN and FORCE (R378, R379). -/
def State.writePer (s : State) (off : Nat) (v : Word) : State :=
  firstOf s [(arr off 0xC 0x40 16, fun g =>
    let s := s.setPerRun g (v.getLsbD 0)
    if v.getLsbD 1 then s.perForce g else s)]

def State.writeEvr (s : State) (off : Nat) (v : Word) : State :=
  if off = 0x40 then s.updEvr fun e => { e with winSel := v.toNat % 4096 } else s

/-- MLK_CTRL: INHIBIT forbids a claim, so one that waits for its boundary stops (R349, R350); YIELD (R352). MLK_STAT: two
RW1C flags. -/
def State.writeMlk (s : State) (off : Nat) (v : Word) : State :=
  match off with
  | 0x8 =>
    let s := (s.updMlk fun m => { m with inhibit := v.getLsbD 0 }).claimLapse
    if v.getLsbD 1 then s.askYield else s
  | 0xC => s.updMlk fun m =>
      { m with yieldRefused := m.yieldRefused && !v.getLsbD 12, partnerClaim := m.partnerClaim && !v.getLsbD 13 }
  | _ => s

/-! ## Lens, Loupe, converter, PWM, beam lanes -/

/-- Bits [lo, lo + w) of a word. -/
def bits (v : Word) (lo w : Nat) : Nat := v.toNat / 2 ^ lo % 2 ^ w

/-- A register of a Loupe buffer (R393, R400), writable at any time. -/
def State.writeLoupe (s : State) (l b k : Nat) (v : Word) : State :=
  match k with
  | 0 => s.updLoupe l b fun x => { x with facet := bits v 0 6, pre := bits v 6 12, div := bits v 18 14 }
  | 5 =>
    let s := s.updLoupe l b fun x =>
      { x with type := bits v 0 2, dir := bits v 2 2, node := bits v 4 3, sel := bits v 7 6
               thresh := BitVec.ofNat 16 (bits v 16 16) }
    let s := if v.getLsbD 13 then s.loupeStart l b else s
    if v.getLsbD 14 then s.updLoupe l b loupeHit else s
  | 6 => s.updLoupe l b fun x => { x with prefillSupp := x.prefillSupp && !v.getLsbD 15 }
  | 7 => s
  | _ => s.updLoupe l b fun x =>
      { x with nodes := (x.nodes.setIfInBounds (2 * (k - 1)) (BitVec.ofNat 16 (bits v 0 16))).setIfInBounds
                 (2 * (k - 1) + 1) (BitVec.ofNat 16 (bits v 16 16)) }

/-- LNSn_LC_STAT: OVERRUN and EXCH_DONE are RW1C (R117). -/
def State.writeLogic (s : State) (l f : Nat) (v : Word) : State :=
  match s.logicOf l f with
  | some p => s.updLogic p fun x =>
      { x with overrun := x.overrun && !v.getLsbD 8, exchDone := x.exchDone && !v.getLsbD 9 }
  | none => s

def State.writeLens (s : State) (l off : Nat) (v : Word) : State :=
  if off = 0 then s.writeUnit (.lens l) v
  else firstOf s
    [(arr off 0x300 4 64, fun f => s.writeLogic l f v),
     (arr off 0xA00 4 32, fun i => s.writeUnit (.chain l i) v),
     (arr off 0x2000 4 32, fun k => s.writeLoupe l (k / 8) (k % 8) v)]

def State.writeCnv (s : State) (off : Nat) (v : Word) : State :=
  firstOf s [(arr off 0x100 0x40 8, fun a => s.writeUnit (.arm a) v)]

/-- PWM_CH_STAT: TRIP and CLEAR_REFUSED are RW1C; a refused clear sets CLEAR_REFUSED (R201). -/
def State.writePwmStat (s : State) (n : Nat) (v : Word) : State :=
  let s := s.updPwm n fun x => { x with clearRefused := x.clearRefused && !v.getLsbD 1 }
  if v.getLsbD 0 then s.clearPwmTrip n else s

def State.writePwm (s : State) (off : Nat) (v : Word) : State :=
  firstOf s
    [(arr off 0x0 0x40 32, fun n => s.writeUnit (.pwm n) v),
     (arr off 0x18 0x40 32, fun n => s.writePwmStat n v),
     (arr off 0x90C 16 8, fun i => s.updTi i fun x => { x with toggling := x.toggling && !v.getLsbD 2 })]

/-- BLN_ARM_TRIP, as PWM_CH_STAT. -/
def State.writeArmTrip (s : State) (a : Nat) (v : Word) : State :=
  let s := s.updArm a fun x => { x with clearRefused := x.clearRefused && !v.getLsbD 1 }
  if v.getLsbD 0 then s.clearArmTrip a else s

def State.writeBln (s : State) (off : Nat) (v : Word) : State :=
  firstOf s
    [(arr off 0x0 0x20 64, fun l => s.writeUnit (.beam l) v),
     (arr off 0x80C 0x20 8, fun a => s.writeArmTrip a v)]

/-! ## The write -/

/-- A write of 32 bits to the register at an address, through a port. -/
def State.writeReg (s : State) (p : TimePort) (a : BitVec 24) (v : Word) : State :=
  let w := winOf a
  let off := a.toNat % 65536
  if w = 0 then s.writeGlb off v
  else if w = 1 then s.writeKa off v
  else if w = 2 then s.writeHif (portNo p) off v
  else if w = 4 then s.writeSwc p off v
  else if w = 6 then firstOf s [(arr off 0x0 0x100 5, fun q => s.writeUnit (.port q) v)]
  else if w = 8 then s.writeCol off v
  else if w = 9 then firstOf s [(arr off 0x0 0x800 2, fun b => s.writeUnit (.fbc b) v)]
  else if w = 0xA then s.writePer off v
  else if w = 0xB then s.writeEvr off v
  else if w = 0xE then s.writeMlk off v
  else if 0x10 ≤ w ∧ w < 0x20 then s.writeLens (w - 0x10) off v
  else if w = 0x20 then s.writeCnv off v
  else if w = 0x21 then s.writePwm off v
  else if w = 0x22 then s.writeBln off v
  else s

/-- What a write to an address through a port does. -/
def State.busWrite (s : State) (p : TimePort) (a : BitVec 24) (v : Word) : State :=
  if ¬ winUnit (winOf a) then s
  else if ¬ s.winReady p a true then s.notReadyWrite
  else if addrAbsent a then s.setAbsent
  else s.writeReg p a v

/-- A write of a word of BAR2 of a host port (R291): an entry of the MSI-X table; the pending bits are read only. A
narrower write changes nothing (DESIGN CHOICE, log 111). -/
def State.writeVec (s : State) (h : Nat) (a : BitVec 24) (v : Word) : State :=
  let k := a.toNat / 16
  let upd (f : MsixEntry → MsixEntry) : State := s.updHif fun x => { x with vecs := x.vecs.upd (512 * h + k) f }
  if 512 ≤ k then s
  else match a.toNat / 4 % 4 with
    | 0 => upd fun e => { e with addr := hi32 e.addr * 2 ^ 32 + v.toNat / 4 * 4 }
    | 1 => upd fun e => { e with addr := v.toNat * 2 ^ 32 + lo32 e.addr }
    | 2 => upd fun e => { e with data := v.toNat }
    | _ => s.setMask h k (v.getLsbD 0)

/-- REGISTER_WRITE (R3, R7, R47, R48, R50, R291): a narrower write to the window is ignored and sets LOCKED_WRITE. -/
def execRegisterWrite (p : BusPort) (a : BitVec 24) (v : Word) (width : Nat) (s : State) : Res :=
  .next (match p with
    | .win p => if width < 32 then s.lockedWrite else s.busWrite p a v
    | .vec h => if width < 32 then s else s.writeVec h a v)

end Sys2Proof.Machine
end

