-- ==== Sys2Proof/Machine/SelfTest.lean ====
section
/-! DEFINITION. The rolling self-test of a standby (R369). -/

namespace Sys2Proof.Machine

/-- A standby tests a facet that holds no program that runs: the one whose program has moved out, a free spare, or the one
of a logic program, of which a standby runs none and which moves to a spare for it (R362, R369). -/
def State.rollTests (s : State) (l f : Nat) : Bool :=
  let x := s.lenses.get l
  let y := s.facets.get (fKey l f)
  s.mlk.role = .standby && (x.testing = some f
    || (x.testing = none && (x.free.contains f || (x.free ≠ [] && (s.logicAt l (s.home l f)).isSome && y.role ≠ .spare))))

/-- ROLLING_SELFTEST_DONE of a facet: it joins the free spares, or a failure is one in service. In SERVICE a facet of a lens
without a free spare is tested in place. -/
def State.rollFacet (s : State) (l f : Nat) (pass : Bool) : State :=
  let x := s.facets.get (fKey l f)
  let service : Bool := s.glb.lcs = .service && (s.lenses.get l).free = []
  if x.run = .fenced ∨ ¬ (s.rollTests l f ∨ service) then s
  else
    let s := if s.mlk.role = .standby ∧ (s.lenses.get l).testing = none ∧ x.role ≠ .spare then s.moveOut l (s.home l f) else s
    let held : Bool := (s.lenses.get l).testing = some f
    if pass then
      (s.updLens l fun y => { y with testing := none, free := if held then f :: y.free else y.free }).rotated l f
    else
      ((s.updLens l fun y => { y with needsTest := true, testing := none }).hwFault l f .selftestFail).rollFailed l

/-- Parts that a standby tests besides its facets: all but lenses and the mirror links, which it needs to follow epochs, with
units that are not ON. -/
def State.rollRegion (s : State) (r : Nat) : Bool :=
  s.mlk.role = .standby && regionKnown r && regionPresent r && r / 256 ≠ 0
    && !([2, 3, 6].contains (r / 256) && (r % 256 = 5 || r % 256 = 6))
    && (!([2, 3, 6].contains (r / 256)) || s.serdesFree (r % 256))

/-- ROLLING_SELFTEST_DONE (R369): a test of a standby has ended. One of another part than a facet saves and restores it, so a
pass changes nothing. -/
def execRollingSelftestDone (l : Fin 16) (x : RollTarget) (pass : Bool) (s : State) : Res :=
  .next (if s.glb.phase ≠ .running then s
    else match x with
    | .facet f => s.rollFacet l f pass
    | .region r => if s.rollRegion r ∧ ¬ pass then s.rollFailed r else s)

end Sys2Proof.Machine
end

