-- ==== Sys2Proof/Machine/TimePulse.lean ====
section
/-! DEFINITION. A time pulse generator fires (R263 to R265) and its event reaches its consumers: local PWM sync
(R210), published sampled values (R164), Periscope and Loupe triggers (R378, R393), PPS_OUT and TPO0 to TPO3 (R467).
The frame tick (R168), the field-bus schedule (R273) and the boundary generator (R351) take their pulses in rows of
their own. -/

namespace Sys2Proof.Machine

/-! ## Published sampled values (R164) -/

/-- smpCnt of a publication instant at a RATE code: the last sample of the interval not after it (R137). -/
def pubCount (rate t : Nat) : Nat := ((t % svSpan rate + 1) * svRate rate - 1) / 1000000000

/-- The holdover keeps the time base within 1 µs: LOCKED had held for 30 minutes (R260). -/
def State.holdGood (s : State) : Bool :=
  match s.col.holdFrom with
  | some h => decide (s.col.lockedSince + 1800000000000 ≤ h)
  | none => false

/-- smpSynch of a publication (R164). In a holdover that R260 does not bound, a free value of 1 or 2. -/
def State.pubSynch (s : State) : Nat × State :=
  match s.col.st with
  | .locked => (2, s)
  | .holdover => if s.holdGood then (2, s) else let (v, s) := s.free; (1 + v.toNat % 2, s)
  | _ => (1, s)

/-- A published channel: its value and quality in the window, with the detail quality oldData, bit 7, where they have
been sent before (R164; the bit is PRESUMED from IEC 61850, log 80). -/
def pubChannel (w : List Byte) (old : Bool) (off : Nat) : Int × Word :=
  (signed 32 (leNat (bytesAt w off 4)), BitVec.ofNat 32 (leNat (bytesAt w (off + 4) 4)) ||| if old then 0x80 else 0)

/-- Stream `k` is published at instant `t` (R164): the values last committed by ISSUE become an ASDU, and the frame leaves
in TC6 once it holds as many as the package gives it. A stream marked as command goes out under the grant alone. -/
def State.publish (s : State) (k t : Nat) : State :=
  let c := s.pkg.svPubs.get k
  let x := s.svPubs.get k
  let (y, s) := s.pubSynch
  let as := x.asdus ++ [{ smpCnt := pubCount c.rate t, channels := c.channels.map (pubChannel x.values (!x.renewed)) }]
  let full : Bool := decide (c.asdus ≤ as.length)
  let s := { s with svPubs := s.svPubs.upd k fun z => { z with renewed := false, asdus := if full then [] else as } }
  if !full || (c.command && !s.mlk.grant) then s
  else
    let (tag, s) := s.pubTag c.key c.alg c.slice
    let f : SvFrame := { appid := c.appid, vlan := c.vlan.getD 0, svid := c.svid, confRev := c.confRev, smpSynch := y
                         simulated := s.pkg.simSlices.contains c.slice, asdus := as }
    s.sendBuilt c.lens 6 c.ports c.command
      { len := c.len, dst := c.dst, ethertype := 0x88BA, vlan := c.vlan, pcp := c.pcp
        app := some (.sv { stream := k, frame := f, tag := tag }) }

/-! ## Consumers (R264) -/

/-- The pulse of generator `g` at instant `t` of the time base reaches every consumer the package names. -/
def State.pulseOut (s : State) (g t : Nat) : State :=
  let at_ := s.now - (s.tai - t)
  let s := s.each (s.pkg.pwms.keys.filter fun n =>
    decide (n < pwmCount) && (s.pwmCfg n).present && (s.pwmCfg n).sync = 1 && (s.pwmCfg n).tp = g) fun s n => s.pwmSync n at_
  let s := s.each (s.pkg.svPubs.keys.filter fun k => (s.pkg.svPubs.get k).en && (s.pkg.svPubs.get k).tp = g) fun s k =>
    s.publish k t
  let s := (s.perEvent 6 g 0).loupeEvent 3 g
  let wide := (s.pkg.tps.get g).width * 10
  let s := if s.pkg.col.ppsEn ∧ s.pkg.col.ppsTp = g then s.emit (.pps at_ wide) else s
  s.each (s.pkg.col.tpo.zipIdx.filter fun x => x.1.2 && x.1.1 = g) fun s x => s.emit (.tpo x.2 at_ wide)

/-- A generator of a lower number fires at instant `t` before generator `g` (R266). -/
def State.tpBefore (s : State) (g t : Nat) : Bool :=
  (List.range g).any fun k => match s.tpNext k with | some x => x.2 = t | none => false

/-- TP_PULSE (R263 to R266): the generator's next pulse. COUNT takes its number, and a ONCE generator is no longer
armed. Of pulses at one instant the lowest generator's comes first. -/
def execTpPulse (g : Fin 16) (s : State) : Res :=
  .next (match s.tpNext g with
    | none => s
    | some (n, t) =>
      if s.tpBefore g t then s
      else
        let s := s.upToTai t
        let once : Bool := (s.pkg.tps.get g).mode = .once
        let s := s.updTp g fun x =>
          { x with count := Nat.max x.top (n % 2 ^ 64), doneTo := Nat.max x.doneTo t, armed := x.armed && !once }
        s.pulseOut g t)

end Sys2Proof.Machine
end

