-- ==== Sys2Proof/Machine/Dispatch.lean ====
section
/-! DEFINITION. The dispatch of a command to its meaning, one arm per constructor. -/

namespace Sys2Proof.Machine

/-- The effect of a command on everything but the queue. -/
def exec (i : Instr) (s : State) : Host.Outcome State Fault Refusal :=
  match i with
  | .nop l f w => Sys2Proof.Machine.execNop l f w s
  | .ld l f w => Sys2Proof.Machine.execLd l f w s
  | .and_ l f w => Sys2Proof.Machine.execAnd l f w s
  | .or_ l f w => Sys2Proof.Machine.execOr l f w s
  | .xor_ l f w => Sys2Proof.Machine.execXor l f w s
  | .st l f w => Sys2Proof.Machine.execSt l f w s
  | .set_ l f w => Sys2Proof.Machine.execSet l f w s
  | .rst l f w => Sys2Proof.Machine.execRst l f w s
  | .not_ l f w => Sys2Proof.Machine.execNot l f w s
  | .la1 l f w => Sys2Proof.Machine.execLa1 l f w s
  | .la0 l f w => Sys2Proof.Machine.execLa0 l f w s
  | .andNest l f w => Sys2Proof.Machine.execAndNest l f w s
  | .orNest l f w => Sys2Proof.Machine.execOrNest l f w s
  | .xorNest l f w => Sys2Proof.Machine.execXorNest l f w s
  | .nestClose l f w => Sys2Proof.Machine.execNestClose l f w s
  | .fp l f w => Sys2Proof.Machine.execFp l f w s
  | .fn l f w => Sys2Proof.Machine.execFn l f w s
  | .ton l f w => Sys2Proof.Machine.execTon l f w s
  | .tof l f w => Sys2Proof.Machine.execTof l f w s
  | .tp l f w => Sys2Proof.Machine.execTp l f w s
  | .ctu l f w => Sys2Proof.Machine.execCtu l f w s
  | .ctd l f w => Sys2Proof.Machine.execCtd l f w s
  | .crs l f w => Sys2Proof.Machine.execCrs l f w s
  | .cld l f w => Sys2Proof.Machine.execCld l f w s
  | .ju l f w => Sys2Proof.Machine.execJu l f w s
  | .jc l f w => Sys2Proof.Machine.execJc l f w s
  | .jcn l f w => Sys2Proof.Machine.execJcn l f w s
  | .cmp l f w => Sys2Proof.Machine.execCmp l f w s
  | .mpy l f w => Sys2Proof.Machine.execMpy l f w s
  | .mac l f w => Sys2Proof.Machine.execMac l f w s
  | .msu l f w => Sys2Proof.Machine.execMsu l f w s
  | .mac2 l f w => Sys2Proof.Machine.execMac2 l f w s
  | .adda l f w => Sys2Proof.Machine.execAdda l f w s
  | .suba l f w => Sys2Proof.Machine.execSuba l f w s
  | .clra l f w => Sys2Proof.Machine.execClra l f w s
  | .ash l f w => Sys2Proof.Machine.execAsh l f w s
  | .sth l f w => Sys2Proof.Machine.execSth l f w s
  | .add l f w => Sys2Proof.Machine.execAdd l f w s
  | .sub l f w => Sys2Proof.Machine.execSub l f w s
  | .neg l f w => Sys2Proof.Machine.execNeg l f w s
  | .abs l f w => Sys2Proof.Machine.execAbs l f w s
  | .min l f w => Sys2Proof.Machine.execMin l f w s
  | .max l f w => Sys2Proof.Machine.execMax l f w s
  | .lsh l f w => Sys2Proof.Machine.execLsh l f w s
  | .ldw l f w ecc => Sys2Proof.Machine.execLdw l f w ecc s
  | .stw l f w => Sys2Proof.Machine.execStw l f w s
  | .ldi l f w => Sys2Proof.Machine.execLdi l f w s
  | .addp l f w => Sys2Proof.Machine.execAddp l f w s
  | .ldp l f w => Sys2Proof.Machine.execLdp l f w s
  | .stp l f w => Sys2Proof.Machine.execStp l f w s
  | .ldih l f w => Sys2Proof.Machine.execLdih l f w s
  | .wait_ l f w => Sys2Proof.Machine.execWait l f w s
  | .seal_ l f w => Sys2Proof.Machine.execSeal l f w s
  | .send l f w => Sys2Proof.Machine.execSend l f w s
  | .recv l f w => Sys2Proof.Machine.execRecv l f w s
  | .lane l f w => Sys2Proof.Machine.execLane l f w s
  | .outw l f w => Sys2Proof.Machine.execOutw l f w s
  | .end_ l f w => Sys2Proof.Machine.execEnd l f w s
  | .facetWake l f cause => Sys2Proof.Machine.execFacetWake l f cause s
  | .sramUncorr l f => Sys2Proof.Machine.execSramUncorr l f s
  | .fetchParity l f => Sys2Proof.Machine.execFetchParity l f s
  | .wakeFail l f => Sys2Proof.Machine.execWakeFail l f s
  | .selftestFail l f => Sys2Proof.Machine.execSelftestFail l f s
  | .repairLoadDone l => Sys2Proof.Machine.execRepairLoadDone l s
  | .repairTimeout l => Sys2Proof.Machine.execRepairTimeout l s
  | .lensFailure l => Sys2Proof.Machine.execLensFailure l s
  | .lensRelocationDone l readable => Sys2Proof.Machine.execLensRelocationDone l readable s
  | .lensMemUncorr l => Sys2Proof.Machine.execLensMemUncorr l s
  | .lensStewardFail l => Sys2Proof.Machine.execLensStewardFail l s
  | .lensPretickWake l => Sys2Proof.Machine.execLensPretickWake l s
  | .lensWakeTimeout l => Sys2Proof.Machine.execLensWakeTimeout l s
  | .streamRecordArrival l f bytes => Sys2Proof.Machine.execStreamRecordArrival l f bytes s
  | .messageArrival l => Sys2Proof.Machine.execMessageArrival l s
  | .logicSnapshotStart p => Sys2Proof.Machine.execLogicSnapshotStart p s
  | .logicSnapshotDone p => Sys2Proof.Machine.execLogicSnapshotDone p s
  | .logicCommitStart p => Sys2Proof.Machine.execLogicCommitStart p s
  | .logicCommitDone p => Sys2Proof.Machine.execLogicCommitDone p s
  | .logicWatchdogExpiry p => Sys2Proof.Machine.execLogicWatchdogExpiry p s
  | .logicRestoreDone p => Sys2Proof.Machine.execLogicRestoreDone p s
  | .logicExchangeDone p => Sys2Proof.Machine.execLogicExchangeDone p s
  | .logicExchangeTimeout p => Sys2Proof.Machine.execLogicExchangeTimeout p s
  | .canFrameRx b fr t => Sys2Proof.Machine.execCanFrameRx b fr t s
  | .stationPresenceCheck n => Sys2Proof.Machine.execStationPresenceCheck n s
  | .fbBasicCycleStart b => Sys2Proof.Machine.execFbBasicCycleStart b s
  | .fbRefTimeout b => Sys2Proof.Machine.execFbRefTimeout b s
  | .fbCellStart b c => Sys2Proof.Machine.execFbCellStart b c s
  | .fbFrameTxDone b res => Sys2Proof.Machine.execFbFrameTxDone b res s
  | .fbErrorFrame b e => Sys2Proof.Machine.execFbErrorFrame b e s
  | .fbRecoveryDone b => Sys2Proof.Machine.execFbRecoveryDone b s
  | .fbSupervisionTick b => Sys2Proof.Machine.execFbSupervisionTick b s
  | .fbcSendExpiry b => Sys2Proof.Machine.execFbcSendExpiry b s
  | .svFrameRx fr t => Sys2Proof.Machine.execSvFrameRx fr t s
  | .svKeySwitch k => Sys2Proof.Machine.execSvKeySwitch k s
  | .focusChainOutput l c => Sys2Proof.Machine.execFocusChainOutput l c s
  | .protCycleTick sl => Sys2Proof.Machine.execProtCycleTick sl s
  | .protDeadline sl => Sys2Proof.Machine.execProtDeadline sl s
  | .settingsLoadDeferred sl r buf => Sys2Proof.Machine.execSettingsLoadDeferred sl r buf s
  | .toMinonExpiry m => Sys2Proof.Machine.execToMinonExpiry m s
  | .toOverload m => Sys2Proof.Machine.execToOverload m s
  | .toNoload m offv => Sys2Proof.Machine.execToNoload m offv s
  | .gooseRetransmit g => Sys2Proof.Machine.execGooseRetransmit g s
  | .gooseRx k fr t => Sys2Proof.Machine.execGooseRx k fr t s
  | .gooseTalExpiry k => Sys2Proof.Machine.execGooseTalExpiry k s
  | .tiFilterChange n active t => Sys2Proof.Machine.execTiFilterChange n active t s
  | .tiStuck n => Sys2Proof.Machine.execTiStuck n s
  | .tiLow n low => Sys2Proof.Machine.execTiLow n low s
  | .cfFrameTick => Sys2Proof.Machine.execCfFrameTick s
  | .cfTickMissing => Sys2Proof.Machine.execCfTickMissing s
  | .cfComputeStart => Sys2Proof.Machine.execCfComputeStart s
  | .prismRankDone e => Sys2Proof.Machine.execPrismRankDone e s
  | .cfEmitStart => Sys2Proof.Machine.execCfEmitStart s
  | .armHoldLimit a => Sys2Proof.Machine.execArmHoldLimit a s
  | .uplinkFrameRx l fr t => Sys2Proof.Machine.execUplinkFrameRx l fr t s
  | .beamLockLost l => Sys2Proof.Machine.execBeamLockLost l s
  | .beamCalDue l => Sys2Proof.Machine.execBeamCalDue l s
  | .calibrateReplyRx l t turn => Sys2Proof.Machine.execCalibrateReplyRx l t turn s
  | .beamCalFail l => Sys2Proof.Machine.execBeamCalFail l s
  | .deblockTimeout a => Sys2Proof.Machine.execDeblockTimeout a s
  | .pwmPeriodStart n => Sys2Proof.Machine.execPwmPeriodStart n s
  | .pwmStuck n => Sys2Proof.Machine.execPwmStuck n s
  | .pwmSyncPulse n t => Sys2Proof.Machine.execPwmSyncPulse n t s
  | .pwmSyncLost n => Sys2Proof.Machine.execPwmSyncLost n s
  | .pwmTripClear n => Sys2Proof.Machine.execPwmTripClear n s
  | .armTripClear a => Sys2Proof.Machine.execArmTripClear a s
  | .swcFrameRx p fr t => Sys2Proof.Machine.execSwcFrameRx p fr t s
  | .losslessAdmit p c => Sys2Proof.Machine.execLosslessAdmit p c s
  | .mcRefused p c => Sys2Proof.Machine.execMcRefused p c s
  | .swcFrameTx p => Sys2Proof.Machine.execSwcFrameTx p s
  | .addressAgeOut => Sys2Proof.Machine.execAddressAgeOut s
  | .linkDown p => Sys2Proof.Machine.execLinkDown p s
  | .linkUp p => Sys2Proof.Machine.execLinkUp p s
  | .ptpSyncRx p offset => Sys2Proof.Machine.execPtpSyncRx p offset s
  | .ptpAnnounceRx p ann => Sys2Proof.Machine.execPtpAnnounceRx p ann s
  | .ptpPdelayRx p m => Sys2Proof.Machine.execPtpPdelayRx p m s
  | .announceTimeout => Sys2Proof.Machine.execAnnounceTimeout s
  | .holdoverEnd byTemp => Sys2Proof.Machine.execHoldoverEnd byTemp s
  | .refFault => Sys2Proof.Machine.execRefFault s
  | .tpPulse t => Sys2Proof.Machine.execTpPulse t s
  | .colTimeRead port => Sys2Proof.Machine.execColTimeRead port s
  | .colSetGo v => Sys2Proof.Machine.execColSetGo v s
  | .colSetNsWrite v => Sys2Proof.Machine.execColSetNsWrite v s
  | .doorbellPoll sl => Sys2Proof.Machine.execDoorbellPoll sl s
  | .doorbellReadDone sl rc => Sys2Proof.Machine.execDoorbellReadDone sl rc s
  | .descriptorReadDone sl r d => Sys2Proof.Machine.execDescriptorReadDone sl r d s
  | .completionWrite sl r => Sys2Proof.Machine.execCompletionWrite sl r s
  | .msixCoalTimeout sl c => Sys2Proof.Machine.execMsixCoalTimeout sl c s
  | .hostLinkDown h => Sys2Proof.Machine.execHostLinkDown h s
  | .hostLinkUp h speed width => Sys2Proof.Machine.execHostLinkUp h speed width s
  | .nopDesc sl r => Sys2Proof.Machine.execNopDesc sl r s
  | .ringCreate sl r => Sys2Proof.Machine.execRingCreate sl r s
  | .ringDestroy sl r => Sys2Proof.Machine.execRingDestroy sl r s
  | .ringDestroyDone sl r => Sys2Proof.Machine.execRingDestroyDone sl r s
  | .svc sl r => Sys2Proof.Machine.execSvc sl r s
  | .unitCtrl sl r => Sys2Proof.Machine.execUnitCtrl sl r s
  | .frameTx sl r buf => Sys2Proof.Machine.execFrameTx sl r buf s
  | .glintSub sl r => Sys2Proof.Machine.execGlintSub sl r s
  | .loadBank sl r buf => Sys2Proof.Machine.execLoadBank sl r buf s
  | .switchConsumers sl r => Sys2Proof.Machine.execSwitchConsumers sl r s
  | .setDelay sl r => Sys2Proof.Machine.execSetDelay sl r s
  | .settingsLoad sl r buf => Sys2Proof.Machine.execSettingsLoad sl r buf s
  | .settingsSwitch sl r => Sys2Proof.Machine.execSettingsSwitch sl r s
  | .tripReset sl r => Sys2Proof.Machine.execTripReset sl r s
  | .keyRotate sl r => Sys2Proof.Machine.execKeyRotate sl r s
  | .logicStart sl r => Sys2Proof.Machine.execLogicStart sl r s
  | .logicStop sl r => Sys2Proof.Machine.execLogicStop sl r s
  | .deblock sl r => Sys2Proof.Machine.execDeblock sl r s
  | .block sl r => Sys2Proof.Machine.execBlock sl r s
  | .beamCal sl r => Sys2Proof.Machine.execBeamCal sl r s
  | .fbcArrival sl r => Sys2Proof.Machine.execFbcArrival sl r s
  | .fbcSchedule sl r => Sys2Proof.Machine.execFbcSchedule sl r s
  | .fbcListen sl r => Sys2Proof.Machine.execFbcListen sl r s
  | .fbcRecover sl r => Sys2Proof.Machine.execFbcRecover sl r s
  | .fbcSend sl r buf => Sys2Proof.Machine.execFbcSend sl r buf s
  | .tpArm sl r => Sys2Proof.Machine.execTpArm sl r s
  | .readEvrLive sl r => Sys2Proof.Machine.execReadEvrLive sl r s
  | .readEvrLog sl r => Sys2Proof.Machine.execReadEvrLog sl r s
  | .readLoupe sl r => Sys2Proof.Machine.execReadLoupe sl r s
  | .readDump sl r => Sys2Proof.Machine.execReadDump sl r s
  | .readChannelTable sl r => Sys2Proof.Machine.execReadChannelTable sl r s
  | .perReadRecord sl r => Sys2Proof.Machine.execPerReadRecord sl r s
  | .perReadHist sl r => Sys2Proof.Machine.execPerReadHist sl r s
  | .perReadPmap sl r => Sys2Proof.Machine.execPerReadPmap sl r s
  | .perReadIndex sl r => Sys2Proof.Machine.execPerReadIndex sl r s
  | .evrFlush sl r => Sys2Proof.Machine.execEvrFlush sl r s
  | .logFlush sl r => Sys2Proof.Machine.execLogFlush sl r s
  | .dirtyLogStart sl r => Sys2Proof.Machine.execDirtyLogStart sl r s
  | .dirtyLogStop sl r => Sys2Proof.Machine.execDirtyLogStop sl r s
  | .clearFilter sl r => Sys2Proof.Machine.execClearFilter sl r s
  | .sliceResetReset sl r => Sys2Proof.Machine.execSliceResetReset sl r s
  | .sliceRemove sl r => Sys2Proof.Machine.execSliceRemove sl r s
  | .slicePause sl r => Sys2Proof.Machine.execSlicePause sl r s
  | .sliceResume sl r => Sys2Proof.Machine.execSliceResume sl r s
  | .resetDone sl => Sys2Proof.Machine.execResetDone sl s
  | .pauseEffect sl => Sys2Proof.Machine.execPauseEffect sl s
  | .pauseTimeout sl => Sys2Proof.Machine.execPauseTimeout sl s
  | .apertureSet sl r => Sys2Proof.Machine.execApertureSet sl r s
  | .unitEnWrite u en => Sys2Proof.Machine.execUnitEnWrite u en s
  | .unitStartDone u => Sys2Proof.Machine.execUnitStartDone u s
  | .unitStopDone u => Sys2Proof.Machine.execUnitStopDone u s
  | .unitStartFailed u => Sys2Proof.Machine.execUnitStartFailed u s
  | .unitFenced u => Sys2Proof.Machine.execUnitFenced u s
  | .powerGood st => Sys2Proof.Machine.execPowerGood st s
  | .kaStartDone => Sys2Proof.Machine.execKaStartDone s
  | .bootVerifyDone readOk => Sys2Proof.Machine.execBootVerifyDone readOk s
  | .mmStartDone => Sys2Proof.Machine.execMmStartDone s
  | .startupBistDone res => Sys2Proof.Machine.execStartupBistDone res s
  | .warmRestartDone => Sys2Proof.Machine.execWarmRestartDone s
  | .holdupCharged energy vstore => Sys2Proof.Machine.execHoldupCharged energy vstore s
  | .holdupTimeout => Sys2Proof.Machine.execHoldupTimeout s
  | .runSet => Sys2Proof.Machine.execRunSet s
  | .runClear => Sys2Proof.Machine.execRunClear s
  | .runClearDone => Sys2Proof.Machine.execRunClearDone s
  | .restartWarm sealOk => Sys2Proof.Machine.execRestartWarm sealOk s
  | .restartCold => Sys2Proof.Machine.execRestartCold s
  | .mmWatchdogExpiry => Sys2Proof.Machine.execMmWatchdogExpiry s
  | .mmLockstepFail => Sys2Proof.Machine.execMmLockstepFail s
  | .mmRestartDone => Sys2Proof.Machine.execMmRestartDone s
  | .firmwareFatal => Sys2Proof.Machine.execFirmwareFatal s
  | .dumpFlashCopyDone => Sys2Proof.Machine.execDumpFlashCopyDone s
  | .kaWatchdog => Sys2Proof.Machine.execKaWatchdog s
  | .supplyWarn vin => Sys2Proof.Machine.execSupplyWarn vin s
  | .supplyBelowPfail vin => Sys2Proof.Machine.execSupplyBelowPfail vin s
  | .pfailQualified => Sys2Proof.Machine.execPfailQualified s
  | .pfailBlockFramesSent => Sys2Proof.Machine.execPfailBlockFramesSent s
  | .pfailFlushDone => Sys2Proof.Machine.execPfailFlushDone s
  | .storeExhausted => Sys2Proof.Machine.execStoreExhausted s
  | .supplyReturn vin sealOk => Sys2Proof.Machine.execSupplyReturn vin sealOk s
  | .slotPresentOpen => Sys2Proof.Machine.execSlotPresentOpen s
  | .latchOpen => Sys2Proof.Machine.execLatchOpen s
  | .latchClose => Sys2Proof.Machine.execLatchClose s
  | .xcvrInsert k powerOk qualified => Sys2Proof.Machine.execXcvrInsert k powerOk qualified s
  | .xcvrRemove k => Sys2Proof.Machine.execXcvrRemove k s
  | .tempWarn sensor temp => Sys2Proof.Machine.execTempWarn sensor temp s
  | .tempCrit temp => Sys2Proof.Machine.execTempCrit temp s
  | .thermalTrip => Sys2Proof.Machine.execThermalTrip s
  | .fwCommit bank img => Sys2Proof.Machine.execFwCommit bank img s
  | .fwCommitDone flashOk => Sys2Proof.Machine.execFwCommitDone flashOk s
  | .keyWriteWrite blk => Sys2Proof.Machine.execKeyWriteWrite blk s
  | .keyWriteDerive blk => Sys2Proof.Machine.execKeyWriteDerive blk s
  | .keyWriteErase blk => Sys2Proof.Machine.execKeyWriteErase blk s
  | .keyWriteExport blk => Sys2Proof.Machine.execKeyWriteExport blk s
  | .keyWriteLock blk => Sys2Proof.Machine.execKeyWriteLock blk s
  | .keyWriteDone => Sys2Proof.Machine.execKeyWriteDone s
  | .attest nonce hostOk => Sys2Proof.Machine.execAttest nonce hostOk s
  | .attestDone => Sys2Proof.Machine.execAttestDone s
  | .bist region reservedZero goldenKnown => Sys2Proof.Machine.execBist region reservedZero goldenKnown s
  | .bistDone o => Sys2Proof.Machine.execBistDone o s
  | .lcTransition tok => Sys2Proof.Machine.execLcTransition tok s
  | .sliceCreate blk => Sys2Proof.Machine.execSliceCreate blk s
  | .pkgCommit img => Sys2Proof.Machine.execPkgCommit img s
  | .pkgCommitDone flashOk => Sys2Proof.Machine.execPkgCommitDone flashOk s
  | .hashRekey => Sys2Proof.Machine.execHashRekey s
  | .hashRekeyDone => Sys2Proof.Machine.execHashRekeyDone s
  | .registerWrite port addr v width => Sys2Proof.Machine.execRegisterWrite port addr v width s
  | .ilkLoopReleased x noCur => Sys2Proof.Machine.execIlkLoopReleased x noCur s
  | .ilkDisagree => Sys2Proof.Machine.execIlkDisagree s
  | .ilkAgreeRestored => Sys2Proof.Machine.execIlkAgreeRestored s
  | .ownOpen x => Sys2Proof.Machine.execOwnOpen x s
  | .claimStart => Sys2Proof.Machine.execClaimStart s
  | .claimCollision => Sys2Proof.Machine.execClaimCollision s
  | .claimWindowEnd => Sys2Proof.Machine.execClaimWindowEnd s
  | .takeoverBoundary => Sys2Proof.Machine.execTakeoverBoundary s
  | .yield => Sys2Proof.Machine.execYield s
  | .soloWaitExpiry => Sys2Proof.Machine.execSoloWaitExpiry s
  | .orphanWaitExpiry => Sys2Proof.Machine.execOrphanWaitExpiry s
  | .healthReportSend => Sys2Proof.Machine.execHealthReportSend s
  | .healthReportRx k h => Sys2Proof.Machine.execHealthReportRx k h s
  | .partnerServiceTimeout => Sys2Proof.Machine.execPartnerServiceTimeout s
  | .recordEpochClose => Sys2Proof.Machine.execRecordEpochClose s
  | .epochRx k e => Sys2Proof.Machine.execEpochRx k e s
  | .epochAckRx k epoch crcOk => Sys2Proof.Machine.execEpochAckRx k epoch crcOk s
  | .epochNackRx k epoch crcOk => Sys2Proof.Machine.execEpochNackRx k epoch crcOk s
  | .epochAckTimeout epoch => Sys2Proof.Machine.execEpochAckTimeout epoch s
  | .resyncReqRx k epoch crcOk => Sys2Proof.Machine.execResyncReqRx k epoch crcOk s
  | .mirrorLinkDown k => Sys2Proof.Machine.execMirrorLinkDown k s
  | .mirrorLinkUp k => Sys2Proof.Machine.execMirrorLinkUp k s
  | .rollingSelftestDone l f pass => Sys2Proof.Machine.execRollingSelftestDone l f pass s
  | .perGroupTick g => Sys2Proof.Machine.execPerGroupTick g s
  | .perRecordComplete g => Sys2Proof.Machine.execPerRecordComplete g s
  | .holdoffEnd g => Sys2Proof.Machine.execHoldoffEnd g s
  | .perFlashCopyDone rnum => Sys2Proof.Machine.execPerFlashCopyDone rnum s
  | .perRunWrite g run => Sys2Proof.Machine.execPerRunWrite g run s
  | .perForce g => Sys2Proof.Machine.execPerForce g s
  | .evrChannelUpdate n v => Sys2Proof.Machine.execEvrChannelUpdate n v s
  | .evrIntervalClose n => Sys2Proof.Machine.execEvrIntervalClose n s
  | .evrFlashFlushDone => Sys2Proof.Machine.execEvrFlashFlushDone s
  | .loupeArm l b => Sys2Proof.Machine.execLoupeArm l b s
  | .loupeForce l b => Sys2Proof.Machine.execLoupeForce l b s
  | .registerRead port addr => Sys2Proof.Machine.execRegisterRead port addr s
  | .lcTransitionDone => Sys2Proof.Machine.execLcTransitionDone s
  | .beamLockAcquired l => Sys2Proof.Machine.execBeamLockAcquired l s
  | .ilkLoopClaimed x => Sys2Proof.Machine.execIlkLoopClaimed x s
  | .ownOpenClear x => Sys2Proof.Machine.execOwnOpenClear x s
  | .supplyWarnClear vin => Sys2Proof.Machine.execSupplyWarnClear vin s
  | .descBucketRefill sl => Sys2Proof.Machine.execDescBucketRefill sl s
  | .byteBucketRefill sl => Sys2Proof.Machine.execByteBucketRefill sl s
  | .kaHoursTick => Sys2Proof.Machine.execKaHoursTick s
  | .svSampleTimeout k => Sys2Proof.Machine.execSvSampleTimeout k s
  | .lensWakeDone l => Sys2Proof.Machine.execLensWakeDone l s

end Sys2Proof.Machine
end

