-- ==== Sys2Proof/Machine/Step.lean ====
section
/-! DEFINITION. One step: the command at the front of the queue runs; an empty queue lets one reference
cycle pass (log 3). The words of the opcode table have no bits, so no word names a command. -/

namespace Sys2Proof.Machine

/-- One step. With a command waiting, its effect on the state with the queue's rest; with none, one cycle
of the 25 MHz reference passes (R254, log 3), and PTP messages that are due leave (R261). -/
def step (s : State) : Host.Outcome State Fault Refusal :=
  match s.pending with
  | [] => .next (s.after 40).ptpTick
  | c :: r => exec c { s with pending := r }

/-- The state with the command that a word spells put at the front of its queue. The table gives no row
any bits, so no word spells one and the state stays as it is. -/
def State.withFetchWord (s : State) (nbits w : Nat) : State :=
  match Sys2Proof.decodeTableWord nbits w with
  | some c => { s with pending := c :: s.pending }
  | none => s

end Sys2Proof.Machine
end

