-- ==== Sys2Proof/Safety.lean ====
section
/-! DEFINITION. What a command may and may not do, in the terms the statements use: the parts of the state, what
leaves every other part alone, the canonical form of every data memory, and what every command keeps. -/

namespace Sys2Proof.Machine

/-- The parts of the state, one for each field of `State`, in its order. -/
inductive Part
  | now | freeIdx | glb | ka | svc | units | facets | progs | lenses | fencedFlash | lanes | logic | slots64
  | stns | conds | svs | chains | chSlots | fns | pcOvr | pcDeadline | prots | tos | gps | gss | svPubs | cnv
  | arms | sms | engines | beams | pwms | tis | swc | col | fbcs | hif | mlk | recs | obs | bst | hw
  | outputs | lastRead | pending
  deriving DecidableEq, Repr

/-- A part is the same in two states. -/
def Part.same (p : Part) (s t : State) : Prop :=
  match p with
  | .now => t.now = s.now
  | .freeIdx => t.freeIdx = s.freeIdx
  | .glb => t.glb = s.glb
  | .ka => t.ka = s.ka
  | .svc => t.svc = s.svc
  | .units => t.units = s.units
  | .facets => t.facets = s.facets
  | .progs => t.progs = s.progs
  | .lenses => t.lenses = s.lenses
  | .fencedFlash => t.fencedFlash = s.fencedFlash
  | .lanes => t.lanes = s.lanes
  | .logic => t.logic = s.logic
  | .slots64 => t.slots64 = s.slots64
  | .stns => t.stns = s.stns
  | .conds => t.conds = s.conds
  | .svs => t.svs = s.svs
  | .chains => t.chains = s.chains
  | .chSlots => t.chSlots = s.chSlots
  | .fns => t.fns = s.fns
  | .pcOvr => t.pcOvr = s.pcOvr
  | .pcDeadline => t.pcDeadline = s.pcDeadline
  | .prots => t.prots = s.prots
  | .tos => t.tos = s.tos
  | .gps => t.gps = s.gps
  | .gss => t.gss = s.gss
  | .svPubs => t.svPubs = s.svPubs
  | .cnv => t.cnv = s.cnv
  | .arms => t.arms = s.arms
  | .sms => t.sms = s.sms
  | .engines => t.engines = s.engines
  | .beams => t.beams = s.beams
  | .pwms => t.pwms = s.pwms
  | .tis => t.tis = s.tis
  | .swc => t.swc = s.swc
  | .col => t.col = s.col
  | .fbcs => t.fbcs = s.fbcs
  | .hif => t.hif = s.hif
  | .mlk => t.mlk = s.mlk
  | .recs => t.recs = s.recs
  | .obs => t.obs = s.obs
  | .bst => t.bst = s.bst
  | .hw => t.hw = s.hw
  | .outputs => t.outputs = s.outputs
  | .lastRead => t.lastRead = s.lastRead
  | .pending => t.pending = s.pending

/-- `t` is `s` but for the parts listed. -/
def State.ChangesOnly (ps : List Part) (s t : State) : Prop := ∀ p, p ∉ ps → p.same s t

/-- Every data memory is in its canonical form: addresses rising, no zero byte listed (R77). -/
def State.MemOk (s : State) : Prop :=
  Memory.wf s.facets.dflt.dmem = true ∧ ∀ r ∈ s.facets.rows, Memory.wf r.2.dmem = true

/-- What every command keeps: the queue, what has left the module, the canonical form of the data memories; and time
does not run backwards. -/
structure State.Follows (s t : State) : Prop where
  queue : t.pending = s.pending
  time : s.now ≤ t.now
  sent : s.outputs <+: t.outputs
  memory : s.MemOk → t.MemOk

/-- The command `c` completes in `s`, changes at most the parts listed, and what it leaves satisfies `q`. -/
def State.Gives (s : State) (c : Instr) (ps : List Part) (q : State → Prop) : Prop :=
  ∃ t, exec c s = .next t ∧ s.ChangesOnly ps t ∧ q t

/-! ## What the statements about descriptors use -/

/-- The descriptor of entry `e` is at the front of ring `r` of slice `i`, may start, is the one the row means, and passes
every check that a row makes before its own (R308). -/
structure State.Runs (s : State) (i r : Nat) (f : DescForm) (e : JEntry) : Prop where
  front : s.nextStart i r = some e
  entry : s.jEntry e.jseq = some e
  accepted : e.state = .accepted
  means : f.means e.desc = true
  zeros : reservedZero e.desc f.used f.buf = true
  ring : (s.sq i r).service = f.service
  may : f.may e.desc = true
  present : f.present e.desc = true
  inTime : (dDeadline e.desc && decide (e.desc.aux < s.tai)) = false

/-- Descriptor `j` has ended with this code and result (R299). -/
def State.Ended (s : State) (j : Nat) (c : Code) (res : Nat) : Prop :=
  ∃ e, s.jEntry j = some e ∧ e.state = .completed ∧ e.status = c ∧ e.result = BitVec.ofNat 128 res

/-- Descriptor `j` has started and goes on (R305). -/
def State.Waits (s : State) (j : Nat) : Prop := ∃ e, s.jEntry j = some e ∧ e.state = .started

/-! ## What the statements about facet instructions use -/

/-- The state in which the facet (l, f) has become `y` and goes on at the next word (R82). -/
def State.facetNext (s : State) (l f : Nat) (y : FacetSt) : State :=
  s.updFacet l f fun x => { y with pc := x.pc + 1 }

end Sys2Proof.Machine
end

