-- ==== Sys2Proof/Certificates/Slice0/Obligations.lean ====
section
/-! DEFINITION. The statements for the provers. Each says for which states and operands a command completes, and what
the next state holds; `exec` never looks at the queue, so a statement about `exec` reaches a run through
`StepRunsTheFrontCommand`. -/

open Sys2Proof Sys2Proof.Machine

/-! ## The machine -/

/-- With a command at the front of the queue, a step is that command's effect on the state with the queue's rest. -/
def Obligations.StepRunsTheFrontCommand : Prop :=
  ∀ (c : Instr) (r : List Instr) (s : State), s.pending = c :: r → step s = exec c { s with pending := r }

/-- On an empty queue one cycle of the 25 MHz reference passes: 40 ns of module time (R254; the step itself is the
model's choice, log 3). Nothing but the clock moves, and nothing but PTP messages leaves: none before the second between
them is over (R261). -/
def Obligations.IdleStepPassesOneReferenceCycle : Prop :=
  ∀ s : State, s.pending = [] →
    ∃ t, step s = .next t ∧ t.now = s.now + 40 ∧ s.ChangesOnly [.now, .col, .outputs] t ∧ s.outputs <+: t.outputs ∧
      (∀ x ∈ t.outputs.drop s.outputs.length, ∃ p m, x = .ptp p m) ∧
      t.col = { s.col with sec := t.col.sec, ns := t.col.ns, frac := t.col.frac, rem := t.col.rem, ports := t.col.ports,
                           ptpAt := t.col.ptpAt } ∧
      (s.now + 40 < s.col.ptpAt → t.outputs = s.outputs ∧ t.col.ports = s.col.ports ∧ t.col.ptpAt = s.col.ptpAt)

/-- No command stops the module, no command changes the queue behind it, what has left the module stays left in its
order, and module time does not run backwards: a step on a queue answers a next state whose queue is the rest (the
record of outputs is log 5, module time is log 3). -/
def Obligations.EveryStepAnswersAndOutputsOnlyGrow : Prop :=
  ∀ (c : Instr) (r : List Instr) (s : State), s.pending = c :: r →
    ∃ t, step s = .next t ∧ t.pending = r ∧ s.outputs <+: t.outputs ∧ s.now ≤ t.now

/-- Every step keeps the canonical form of every data memory (R77): rising addresses and no zero byte listed, in the
default and in every listed facet, in every state that has it, reached or not. -/
def Obligations.EveryStepKeepsDataMemoryCanonical : Prop :=
  ∀ s t : State, s.MemOk → step s = .next t → t.MemOk

/-- The life-cycle state changes by no command but the end of an LC_TRANSITION operation that runs on the Service
Channel (R69), and then it is the destination that the operation's token names. -/
def Obligations.LifeCycleChangesOnlyByTransition : Prop :=
  ∀ (c : Instr) (s t : State), exec c s = .next t → t.glb.lcs ≠ s.glb.lcs →
    c = .lcTransitionDone ∧ ∃ (op : SvcOp) (tok : Token),
      s.svc.running = some op ∧ op.work = .lcTransition tok ∧ t.glb.lcs = tok.dest

/-! ## Facet instructions -/

/-- LD, AND, OR, XOR (R86): on a facet that executes, with an operand R84 allows, LA takes the operand, inverted when
NEG is 1, combined with LA; the facet goes on at the next word and nothing else changes. ST, SET, RST (R84, R86) on a
facet that executes: ST writes LA, or its inverse when NEG is 1; SET and RST write 1 and 0 where LA is 1 and nothing
where it is 0; all three leave LA as it was. An area or bit that is not writable raises ADDR_RANGE whatever LA is. A bit
that ST, SET or RST writes in Q or M reads back as written, and every byte of data memory outside its byte is unchanged
(R77, R84); a byte is not changed by a write to a status bit. -/
def Obligations.BitInstructionsFollowLa : Prop :=
  (∀ (l : Fin 16) (f : Fin 64) (w : BitVec 26) (s : State), s.running l f = true → bitCheck w = none →
     let x := s.facets.get (fKey l f)
     let v := readBit x (fArea w) (fIndex w) != fNeg w
     exec (.ld l f w) s = .next (s.facetNext l f { x with la := v }) ∧
     exec (.and_ l f w) s = .next (s.facetNext l f { x with la := x.la && v }) ∧
     exec (.or_ l f w) s = .next (s.facetNext l f { x with la := x.la || v }) ∧
     exec (.xor_ l f w) s = .next (s.facetNext l f { x with la := x.la != v })) ∧
  (∀ (l : Fin 16) (f : Fin 64) (w : BitVec 26) (s : State), s.running l f = true → bitCheck w = none →
     let x := s.facets.get (fKey l f)
     (writableBit w false = true →
       exec (.st l f w) s = .next (s.facetNext l f (writeBit x (fArea w) (fIndex w) (x.la != fNeg w)))) ∧
     (writableBit w false = true → fNeg w = false →
       exec (.set_ l f w) s =
         .next (s.facetNext l f (if x.la then writeBit x (fArea w) (fIndex w) true else x))) ∧
     (writableBit w true = true → fNeg w = false →
       exec (.rst l f w) s =
         .next (s.facetNext l f (if x.la then writeBit x (fArea w) (fIndex w) false else x))) ∧
     (writableBit w false = false → exec (.st l f w) s = .next (s.programFault l f .addrRange)) ∧
     (writableBit w false = false → fNeg w = false →
       exec (.set_ l f w) s = .next (s.programFault l f .addrRange)) ∧
     (writableBit w true = false → fNeg w = false →
       exec (.rst l f w) s = .next (s.programFault l f .addrRange))) ∧
  (∀ (x : FacetSt) (a n : Nat) (v : Bool), Memory.wf x.dmem = true → (a = 1 ∨ a = 2) →
     let base := if a = 1 then aQ else aM
     readBit (writeBit x a n v) a n = v ∧
     (∀ k, k ≠ n → readBit (writeBit x a n v) a k = readBit x a k) ∧
     (∀ b, b ≠ base + n / 8 → memGet (writeBit x a n v).dmem b = memGet x.dmem b) ∧
     (∀ k, memGet (writeBit x 5 k v).dmem = memGet x.dmem))

/-- NOT, LA1, LA0 and the brackets (R86) on a facet that executes, with the operand bits 0: each does to LA and to the
stack what its row says; a push keeps the old LA with its combination, and a pop combines the saved LA with LA. A push
onto a full stack, a pop from an empty one and an END with a non-empty stack each raise NEST_FAULT (R87), in an ACTIVE
facet of a lens in RUN. -/
def Obligations.LaAndNestingInstructions : Prop :=
  (∀ (l : Fin 16) (f : Fin 64) (s : State), s.running l f = true →
     let x := s.facets.get (fKey l f)
     exec (.nop l f 0) s = .next (s.facetNext l f x) ∧
     exec (.not_ l f 0) s = .next (s.facetNext l f { x with la := !x.la }) ∧
     exec (.la1 l f 0) s = .next (s.facetNext l f { x with la := true }) ∧
     exec (.la0 l f 0) s = .next (s.facetNext l f { x with la := false }) ∧
     (x.stack.length < 16 →
       exec (.andNest l f 0) s = .next (s.facetNext l f { x with stack := (x.la, .and) :: x.stack, la := true }) ∧
       exec (.orNest l f 0) s = .next (s.facetNext l f { x with stack := (x.la, .or) :: x.stack, la := false }) ∧
       exec (.xorNest l f 0) s = .next (s.facetNext l f { x with stack := (x.la, .xor) :: x.stack, la := false })) ∧
     (∀ v r, x.stack = (v, .and) :: r →
       exec (.nestClose l f 0) s = .next (s.facetNext l f { x with stack := r, la := v && x.la })) ∧
     (∀ v r, x.stack = (v, .or) :: r →
       exec (.nestClose l f 0) s = .next (s.facetNext l f { x with stack := r, la := v || x.la })) ∧
     (∀ v r, x.stack = (v, .xor) :: r →
       exec (.nestClose l f 0) s = .next (s.facetNext l f { x with stack := r, la := v != x.la }))) ∧
  (∀ (l : Fin 16) (f : Fin 64) (s : State), s.running l f = true →
     let x := s.facets.get (fKey l f)
     (16 ≤ x.stack.length →
       exec (.andNest l f 0) s = .next (s.programFault l f .nestFault) ∧
       exec (.orNest l f 0) s = .next (s.programFault l f .nestFault) ∧
       exec (.xorNest l f 0) s = .next (s.programFault l f .nestFault)) ∧
     (x.stack = [] → exec (.nestClose l f 0) s = .next (s.programFault l f .nestFault)) ∧
     (x.stack ≠ [] → exec (.end_ l f 0) s = .next (s.programFault l f .nestFault)))

/-- FP, FN, the timers and the counters (R86, R88, R89) on a facet that executes, with an instance R84 allows. An edge
detector keeps the old LA. A timer's fields become those of one update with TIME_US of the status block, and LA its Q.
CTU and CTD step the counter, and LA is QU or QD after it. CRS and CLD set COUNT where LA is 1. -/
def Obligations.EdgeTimerAndCounterInstructions : Prop :=
  ∀ (l : Fin 16) (f : Fin 64) (w : BitVec 26) (s : State), s.running l f = true → fld w 25 14 = 0 →
    let x := s.facets.get (fKey l f)
    let i := fIndex w
    let e := memBit x.dmem aEdge i
    let tick (k : TimerKind) : Timer := timerStep k (facetUs x) x.la (readTimer x.dmem i)
    let c := readCounter x.dmem i
    (i < 512 →
      exec (.fp l f w) s = .next (s.facetNext l f { x with la := x.la && !e, dmem := memSetBit x.dmem aEdge i x.la }) ∧
      exec (.fn l f w) s = .next (s.facetNext l f { x with la := !x.la && e, dmem := memSetBit x.dmem aEdge i x.la })) ∧
    (i < 256 →
      exec (.ton l f w) s =
        .next (s.facetNext l f { x with la := (tick .ton).q, dmem := writeTimer x.dmem i (tick .ton) }) ∧
      exec (.tof l f w) s =
        .next (s.facetNext l f { x with la := (tick .tof).q, dmem := writeTimer x.dmem i (tick .tof) }) ∧
      exec (.tp l f w) s =
        .next (s.facetNext l f { x with la := (tick .tp).q, dmem := writeTimer x.dmem i (tick .tp) })) ∧
    (i < 128 →
      exec (.ctu l f w) s = .next (s.facetNext l f { x with la := (countStep x.dmem i false x.la).2.1,
                                                            dmem := (countStep x.dmem i false x.la).1 }) ∧
      exec (.ctd l f w) s = .next (s.facetNext l f { x with la := (countStep x.dmem i true x.la).2.2,
                                                            dmem := (countStep x.dmem i true x.la).1 }) ∧
      exec (.crs l f w) s =
        .next (s.facetNext l f (if x.la then { x with dmem := writeCount x.dmem i 0 } else x)) ∧
      exec (.cld l f w) s =
        .next (s.facetNext l f (if x.la then { x with dmem := writeCount x.dmem i c.preset } else x)))

/-- One update of a timer (R88), field by field: LAST_US takes TIME_US and IN_PREV takes IN; the gap is at most 2^31 us
and ELAPSED is clamped to PRESET only where time is added. TON times while IN is 1, TOF from the falling edge of IN, TP
from a rising edge until its end, without retriggering. CTU and CTD (R89), read back from data memory in its canonical
form: on a rising LA, by the counter's own CU_PREV or CD_PREV, COUNT moves by 1 and stays at its 32-bit limit; else it
stays. QU = (COUNT ≥ PRESET), QD = (COUNT ≤ 0), DOWN names the last of the two that ran, area C shows QD while DOWN is 1
and QU otherwise, and PRESET stays. -/
def Obligations.TimersAndCountersFollowTheirRules : Prop :=
  (∀ (us : Nat) (la : Bool) (t : Timer),
     let gap := Nat.min ((us + 2 ^ 32 - t.last) % 2 ^ 32) (2 ^ 31)
     let add := Nat.min (t.elapsed + gap) t.preset
     (∀ k, (timerStep k us la t).last = us ∧ (timerStep k us la t).inPrev = la ∧
       (timerStep k us la t).preset = t.preset) ∧
     (la = true → t.inPrev = false → (timerStep .ton us la t).elapsed = 0) ∧
     (la = true → t.inPrev = true → (timerStep .ton us la t).elapsed = add) ∧
     (la = true → (timerStep .ton us la t).q = decide (t.preset ≤ (timerStep .ton us la t).elapsed)) ∧
     (la = false → (timerStep .ton us la t).elapsed = 0 ∧ (timerStep .ton us la t).q = false) ∧
     (la = true → (timerStep .tof us la t).elapsed = 0 ∧ (timerStep .tof us la t).q = true) ∧
     (la = false → t.inPrev = true → (timerStep .tof us la t).elapsed = 0) ∧
     (la = false → t.inPrev = false → (timerStep .tof us la t).elapsed = add) ∧
     (la = false → (timerStep .tof us la t).q = (t.q && decide ((timerStep .tof us la t).elapsed < t.preset))) ∧
     (t.q = true → (timerStep .tp us la t).elapsed = add ∧ (timerStep .tp us la t).q = decide (add < t.preset)) ∧
     (t.q = false → la = true → t.inPrev = false →
       (timerStep .tp us la t).elapsed = 0 ∧ (timerStep .tp us la t).q = decide (0 < t.preset)) ∧
     (t.q = false → la = true → t.inPrev = true →
       (timerStep .tp us la t).elapsed = t.elapsed ∧ (timerStep .tp us la t).q = false) ∧
     (t.q = false → la = false → (timerStep .tp us la t).elapsed = 0 ∧ (timerStep .tp us la t).q = false)) ∧
  (∀ (x : FacetSt) (i : Nat) (down la : Bool), Memory.wf x.dmem = true → i < 128 →
     let c := readCounter x.dmem i
     let r := countStep x.dmem i down la
     let c' := readCounter r.1 i
     let rising := la && !(if down then c.cdPrev else c.cuPrev)
     c'.count = (if rising then (if down then max (c.count - 1) (-0x80000000) else min (c.count + 1) 0x7FFFFFFF)
       else c.count) ∧
     c'.preset = c.preset ∧
     c'.cuPrev = (if down then c.cuPrev else la) ∧ c'.cdPrev = (if down then la else c.cdPrev) ∧
     r.2.1 = decide (c.preset ≤ c'.count) ∧ r.2.2 = decide (c'.count ≤ 0) ∧
     memBit r.1 (aCounter + 16 * i + 8) 2 = r.2.1 ∧ memBit r.1 (aCounter + 16 * i + 8) 3 = r.2.2 ∧
     memBit r.1 (aCounter + 16 * i + 8) 4 = down ∧
     readBit { x with dmem := r.1 } 4 i = (if down then r.2.2 else r.2.1))

/-- The jumps and CMP (R82, R83, R86) on a facet that executes: a jump that is taken goes to its own word plus the
signed OFFSET modulo 8,192, any other to the next word, and neither changes the stack or LA. CMP sets LA by its signed
comparison. -/
def Obligations.JumpsAndCompare : Prop :=
  ∀ (l : Fin 16) (f : Fin 64) (w : BitVec 26) (s : State), s.running l f = true →
    let x := s.facets.get (fKey l f)
    let target := x.pc + BitVec.ofInt 13 (signed 14 (fld w 13 0))
    let go (p : BitVec 13) : Res := .next (s.updFacet l f fun _ => { x with pc := p })
    (fld w 25 14 = 0 →
      exec (.ju l f w) s = go target ∧
      exec (.jc l f w) s = go (if x.la then target else x.pc + 1) ∧
      exec (.jcn l f w) s = go (if x.la then x.pc + 1 else target)) ∧
    (fCond w < 6 → fld w 12 8 = 0 → fld w 1 0 = 0 →
      let a := (dReg x (fX w)).toInt
      let b := (dReg x (fY w)).toInt
      ∃ v, exec (.cmp l f w) s = .next (s.facetNext l f { x with la := v }) ∧
        (v = true ↔ (fCond w = 0 ∧ a = b) ∨ (fCond w = 1 ∧ a ≠ b) ∨ (fCond w = 2 ∧ a < b) ∨
          (fCond w = 3 ∧ a ≤ b) ∨ (fCond w = 4 ∧ b < a) ∨ (fCond w = 5 ∧ b ≤ a)))

/-- A result of the accumulators saturates to 40 bits and sets AOVF when it does (R91), and no other field changes but
PSAT, which a saturated product sets (R90): MPY, MAC, MSU, MAC2, ADDA, SUBA, CLRA and ASH on a facet that executes, for
every encoding whose unused fields are 0 (R82, R93). The product is (Dx * Dy) shifted left by one, but 0x7FFF_FFFF for
0x8000 * 0x8000; ASH shifts left exactly, or right with its rounding at the bit shifted out last (R92). The data
registers (R92, R93): STH, ADD, SUB, NEG, ABS, MIN and MAX saturate to 16 bits and set SSAT when they do; LSH shifts
logically, and a shift of 16 or more gives 0. On a facet that executes, for every encoding whose unused fields are 0;
only Dx and SSAT change. Rounding (R92) of the exact value v / 2^k: TRUNC gives its floor, RHU the floor of it and one
half, and RNE the nearest whole number, the even one of two that are as near. -/
def Obligations.AccumulatorAndDataRegisterResults : Prop :=
  (∀ (l : Fin 16) (f : Fin 64) (w : BitVec 26) (s : State), s.running l f = true →
     let x := s.facets.get (fKey l f)
     let n := fAcc w
     let d (i : Nat) : Int := (dReg x i).toInt
     let corner (i j : Nat) : Bool := decide (d i = -0x8000 ∧ d j = -0x8000)
     let p (i j : Nat) : Int := if corner i j then 0x7FFFFFFF else 2 * (d i * d j)
     let old := (aReg x n).toInt
     let sat (v : Int) : Int := max (-0x8000000000) (min v 0x7FFFFFFFFF)
     let leaves (c : Instr) (v : Int) (ps : Bool) : Prop := ∃ y : FacetSt, exec c s = .next (s.facetNext l f y) ∧
       (aReg y n).toInt = sat v ∧ (∀ k, k ≠ n → aReg y k = aReg x k) ∧ y.aovf = (x.aovf || decide (sat v ≠ v)) ∧
       y.psat = (x.psat || ps) ∧ y = { x with a := y.a, aovf := y.aovf, psat := y.psat }
     (rBad w true true true false false = false →
       leaves (.mpy l f w) (p (fX w) (fY w)) (corner (fX w) (fY w)) ∧
       leaves (.mac l f w) (old + p (fX w) (fY w)) (corner (fX w) (fY w)) ∧
       leaves (.msu l f w) (old - p (fX w) (fY w)) (corner (fX w) (fY w)) ∧
       (fX w % 2 = 0 → fY w % 2 = 0 →
         leaves (.mac2 l f w) (old + p (fX w) (fY w) + p (fX w + 1) (fY w + 1))
           (corner (fX w) (fY w) || corner (fX w + 1) (fY w + 1)))) ∧
     (rBad w true false true false false = false →
       leaves (.adda l f w) (old + d (fX w) * 65536) false ∧
       leaves (.suba l f w) (old - d (fX w) * 65536) false) ∧
     (rBad w false false true false false = false → leaves (.clra l f w) 0 false) ∧
     (rBad w false false true true true = false →
       (0 < fShift w → leaves (.ash l f w) (old * 2 ^ (fShift w).toNat) false) ∧
       (fShift w = 0 → leaves (.ash l f w) old false) ∧
       (fShift w < 0 → leaves (.ash l f w) (roundAt old (-fShift w).toNat (fRnd w)) false))) ∧
  (∀ (l : Fin 16) (f : Fin 64) (w : BitVec 26) (s : State), s.running l f = true →
     let x := s.facets.get (fKey l f)
     let a := (dReg x (fX w)).toInt
     let b := (dReg x (fY w)).toInt
     let acc := (aReg x (fAcc w)).toInt
     let sat (v : Int) : Int := max (-0x8000) (min v 0x7FFF)
     let leaves (c : Instr) (v : Int) : Prop := ∃ y : FacetSt, exec c s = .next (s.facetNext l f y) ∧
       (dReg y (fX w)).toInt = sat v ∧ (∀ k, k ≠ fX w → dReg y k = dReg x k) ∧
       y.ssat = (x.ssat || decide (sat v ≠ v)) ∧ y = { x with d := y.d, ssat := y.ssat }
     (rBad w true false true true true = false →
       (0 ≤ fShift w → leaves (.sth l f w) (roundAt (acc * 2 ^ (fShift w).toNat) 16 (fRnd w))) ∧
       (fShift w < 0 → leaves (.sth l f w) (roundAt acc (16 + (-fShift w).toNat) (fRnd w)))) ∧
     (rBad w true true false false false = false →
       leaves (.add l f w) (a + b) ∧ leaves (.sub l f w) (a - b) ∧ leaves (.neg l f w) (-b) ∧
       leaves (.abs l f w) b.natAbs ∧ leaves (.min l f w) (min a b) ∧ leaves (.max l f w) (max a b)) ∧
     (rBad w true true false false true = false → ∃ y : FacetSt,
       exec (.lsh l f w) s = .next (s.facetNext l f y) ∧ y = { x with d := y.d } ∧
       (∀ k, k ≠ fX w → dReg y k = dReg x k) ∧
       (16 ≤ fShift w ∨ fShift w ≤ -16 → dReg y (fX w) = 0) ∧
       (0 ≤ fShift w → fShift w < 16 → dReg y (fX w) = dReg x (fY w) <<< (fShift w).toNat) ∧
       (fShift w < 0 → -16 < fShift w → dReg y (fX w) = dReg x (fY w) >>> (-fShift w).toNat))) ∧
  (∀ (v : Int) (k : Nat),
     let u : Int := 2 ^ k
     roundAt v k 0 = v / u ∧
     roundAt v k 1 = (2 * v + u) / (2 * u) ∧
     (2 * (v - u * roundAt v k 2) ≤ u ∧ -u ≤ 2 * (v - u * roundAt v k 2)) ∧
     ((2 * (v - u * roundAt v k 2) = u ∨ 2 * (v - u * roundAt v k 2) = -u) → roundAt v k 2 % 2 = 0))

/-- Loads and immediates (R83, R93, R94) on a facet that executes: LDW takes 2 bytes into D, or the low 40 bits of 8
bytes into A; LDP 4 bytes into P; LDI, LDIH and ADDP take IMM16. With POST the pointer then moves by OFFSET, except that
a loaded P that is also the pointer keeps the loaded value. An access that R94 admits completes; a single-bit error that
LDW met is counted (R101) and changes nothing else. -/
def Obligations.LoadsAndImmediates : Prop :=
  ∀ (l : Fin 16) (f : Fin 64) (w : BitVec 26) (s : State), s.running l f = true →
    let x := s.facets.get (fKey l f)
    let a := memAddr x w
    let p := postInc x w
    (fld w 17 16 = 0 → fReg w < 8 → badAccess a 2 false = false →
      exec (.ldw l f w false) s = .next (s.facetNext l f (setD p (fReg w) (BitVec.ofNat 16 (memNat x.dmem a 2))))) ∧
    (fld w 17 16 = 0 → 8 ≤ fReg w → fReg w < 12 → badAccess a 8 false = false →
      exec (.ldw l f w false) s =
        .next (s.facetNext l f (setA p (fReg w - 8) (BitVec.ofNat 40 (memNat x.dmem a 8))))) ∧
    (exec (.ldw l f w true) s =
      exec (.ldw l f w false) (s.updLens l fun y => { y with eccCorr := Nat.min (y.eccCorr + 1) 0xFFFF })) ∧
    (fld w 17 16 = 0 → 8 ≤ fReg w → badAccess a 4 false = false →
      exec (.ldp l f w) s = .next (s.facetNext l f (setP p (fReg w - 8) (BitVec.ofNat 32 (memNat x.dmem a 4))))) ∧
    (fld w 21 16 = 0 → fReg w < 8 →
      exec (.ldi l f w) s = .next (s.facetNext l f (setD x (fReg w) (BitVec.ofNat 16 (fld w 15 0))))) ∧
    (fld w 21 16 = 0 → 8 ≤ fReg w →
      exec (.ldi l f w) s = .next (s.facetNext l f (setP x (fReg w - 8) (BitVec.ofNat 32 (fld w 15 0)))) ∧
      exec (.addp l f w) s = .next (s.facetNext l f
        (setP x (fReg w - 8) (pReg x (fReg w - 8) + BitVec.ofInt 32 (signed 16 (fld w 15 0))))) ∧
      ∃ v : Word, exec (.ldih l f w) s = .next (s.facetNext l f (setP x (fReg w - 8) v)) ∧
        v.toNat / 65536 = fld w 15 0 ∧ v.toNat % 65536 = (pReg x (fReg w - 8)).toNat % 65536)

/-- Stores (R77, R83, R93, R94) on a facet that executes, in a data memory in its canonical form, with an access that R94
admits: STW stores the 2 bytes of D or the 8 bytes of A, sign-extended, and STP the 4 bytes of P, least significant byte
first, at P + OFFSET, or at P with the pointer moved after it. Every other byte reads as before, and no other field of
the facet changes. A store into the reserved area changes no byte. -/
def Obligations.StoresWriteTheirBytesAndNoOther : Prop :=
  ∀ (l : Fin 16) (f : Fin 64) (w : BitVec 26) (s : State), s.running l f = true → s.MemOk → fld w 17 16 = 0 →
    let x := s.facets.get (fKey l f)
    let a := memAddr x w
    let stored (c : Instr) (n v : Nat) : Prop := ∃ y : FacetSt, exec c s = .next (s.facetNext l f y) ∧
      y = { postInc x w with dmem := y.dmem } ∧
      (∀ b, b < a ∨ a + n ≤ b → memGet y.dmem b = memGet x.dmem b) ∧
      (¬ (aReserved ≤ a ∧ a < aPackage) → memNat y.dmem a n = v % 256 ^ n) ∧
      (aReserved ≤ a → a < aPackage → y.dmem = x.dmem)
    (fReg w < 8 → badAccess a 2 true = false → stored (.stw l f w) 2 (dReg x (fReg w)).toNat) ∧
    (8 ≤ fReg w → fReg w < 12 → badAccess a 8 true = false →
      stored (.stw l f w) 8 ((aReg x (fReg w - 8)).signExtend 64).toNat) ∧
    (8 ≤ fReg w → badAccess a 4 true = false → stored (.stp l f w) 4 (pReg x (fReg w - 8)).toNat)

/-- A memory access raises ADDR_RANGE in each of these cases (R94): an address of 0x1_8000 or higher, a write into image
I or the facet status block, and an address that is not aligned to its size; the size is 2 B for D, 4 B for P and 8 B
for A. A store to the reserved area 0x0_2480 to 0x0_24FF raises no fault and changes nothing but the pointer of POST. -/
def Obligations.MemoryAccessRaisesAddrRange : Prop :=
  ∀ (l : Fin 16) (f : Fin 64) (w : BitVec 26) (s : State), s.running l f = true → fld w 17 16 = 0 →
    let x := s.facets.get (fKey l f)
    let a := memAddr x w
    let trap : Res := .next (s.programFault l f .addrRange)
    let far (n : Nat) : Prop := 0x18000 ≤ a ∨ a % n ≠ 0
    let readOnly : Prop := a < 0x200 ∨ (0x2440 ≤ a ∧ a < 0x2480)
    (fReg w < 8 → far 2 → exec (.ldw l f w false) s = trap ∧ exec (.stw l f w) s = trap) ∧
    (8 ≤ fReg w → fReg w < 12 → far 8 → exec (.ldw l f w false) s = trap ∧ exec (.stw l f w) s = trap) ∧
    (8 ≤ fReg w → far 4 → exec (.ldp l f w) s = trap ∧ exec (.stp l f w) s = trap) ∧
    (fReg w < 12 → readOnly → exec (.stw l f w) s = trap) ∧
    (8 ≤ fReg w → readOnly → exec (.stp l f w) s = trap) ∧
    (0x2480 ≤ a → a < 0x2500 →
      (fReg w < 8 → a % 2 = 0 → exec (.stw l f w) s = .next (s.facetNext l f (postInc x w))) ∧
      (8 ≤ fReg w → fReg w < 12 → a % 8 = 0 → exec (.stw l f w) s = .next (s.facetNext l f (postInc x w))) ∧
      (8 ≤ fReg w → a % 4 = 0 → exec (.stp l f w) s = .next (s.facetNext l f (postInc x w))))

/-- The opcode of an instruction word is its bits [31:26], and bits [25:0] are its operands (R82, and the Encoding columns of
R86, R93 and R95): a word given whole runs as the instruction of its opcode, with the same operands, from every state. -/
def Obligations.WordsRunTheInstructionTheyEncode : Prop :=
  ∀ (l : Fin 16) (f : Fin 64) (r : BitVec 26) (s : State),
    let word (op : Nat) : Instr := .nop l f (BitVec.ofNat 6 op ++ r)
    exec (word 0x01) s = exec (.ld l f r) s ∧ exec (word 0x02) s = exec (.and_ l f r) s ∧
    exec (word 0x03) s = exec (.or_ l f r) s ∧ exec (word 0x04) s = exec (.xor_ l f r) s ∧
    exec (word 0x05) s = exec (.st l f r) s ∧ exec (word 0x06) s = exec (.set_ l f r) s ∧
    exec (word 0x07) s = exec (.rst l f r) s ∧ exec (word 0x08) s = exec (.not_ l f r) s ∧
    exec (word 0x09) s = exec (.la1 l f r) s ∧ exec (word 0x0A) s = exec (.la0 l f r) s ∧
    exec (word 0x0B) s = exec (.andNest l f r) s ∧ exec (word 0x0C) s = exec (.orNest l f r) s ∧
    exec (word 0x0D) s = exec (.xorNest l f r) s ∧ exec (word 0x0E) s = exec (.nestClose l f r) s ∧
    exec (word 0x10) s = exec (.fp l f r) s ∧ exec (word 0x11) s = exec (.fn l f r) s ∧
    exec (word 0x12) s = exec (.ton l f r) s ∧ exec (word 0x13) s = exec (.tof l f r) s ∧
    exec (word 0x14) s = exec (.tp l f r) s ∧ exec (word 0x15) s = exec (.ctu l f r) s ∧
    exec (word 0x16) s = exec (.ctd l f r) s ∧ exec (word 0x17) s = exec (.crs l f r) s ∧
    exec (word 0x18) s = exec (.cld l f r) s ∧ exec (word 0x19) s = exec (.ju l f r) s ∧
    exec (word 0x1A) s = exec (.jc l f r) s ∧ exec (word 0x1B) s = exec (.jcn l f r) s ∧
    exec (word 0x1C) s = exec (.cmp l f r) s ∧ exec (word 0x20) s = exec (.mpy l f r) s ∧
    exec (word 0x21) s = exec (.mac l f r) s ∧ exec (word 0x22) s = exec (.msu l f r) s ∧
    exec (word 0x23) s = exec (.mac2 l f r) s ∧ exec (word 0x24) s = exec (.adda l f r) s ∧
    exec (word 0x25) s = exec (.suba l f r) s ∧ exec (word 0x26) s = exec (.clra l f r) s ∧
    exec (word 0x27) s = exec (.ash l f r) s ∧ exec (word 0x28) s = exec (.sth l f r) s ∧
    exec (word 0x29) s = exec (.add l f r) s ∧ exec (word 0x2A) s = exec (.sub l f r) s ∧
    exec (word 0x2B) s = exec (.neg l f r) s ∧ exec (word 0x2C) s = exec (.abs l f r) s ∧
    exec (word 0x2D) s = exec (.min l f r) s ∧ exec (word 0x2E) s = exec (.max l f r) s ∧
    exec (word 0x2F) s = exec (.lsh l f r) s ∧ exec (word 0x30) s = exec (.ldw l f r false) s ∧
    exec (word 0x31) s = exec (.stw l f r) s ∧ exec (word 0x32) s = exec (.ldi l f r) s ∧
    exec (word 0x33) s = exec (.addp l f r) s ∧ exec (word 0x34) s = exec (.ldp l f r) s ∧
    exec (word 0x35) s = exec (.stp l f r) s ∧ exec (word 0x36) s = exec (.ldih l f r) s ∧
    exec (word 0x38) s = exec (.wait_ l f r) s ∧ exec (word 0x39) s = exec (.seal_ l f r) s ∧
    exec (word 0x3A) s = exec (.send l f r) s ∧ exec (word 0x3B) s = exec (.recv l f r) s ∧
    exec (word 0x3C) s = exec (.lane l f r) s ∧ exec (word 0x3D) s = exec (.outw l f r) s ∧
    exec (word 0x3E) s = exec (.end_ l f r) s

/-! ## Facet system instructions, wakes and faults -/

/-- WAIT and END (R81, R95) on a facet that executes. WAIT gates the facet and goes on at the next word; a queued event
of its mask takes effect at once, in the order tick, stream, message. END of a program that is neither a logic nor a
protection program gates it until any event; a queued one wakes it at the entry word of its cause. The status bits of a
cycle end with the work item that took its tick (R85). A facet whose rolling self-test has failed is fenced at that
boundary (R101). FACET_WAKE (R78, R81). A gated facet of a lens in RUN that admits the cause becomes ACTIVE, at the
entry word of the cause after END or where WAIT left it. Any other gated or active facet queues it with its instant, one
per cause, and a sleeping lens wakes. A stopped facet takes nothing; a fenced one takes no tick, and what else comes for
its program waits for the spare (log 12) and wakes the lens (R105). A tick that goes on with a work item that has had
its own begins the next cycle, without the status bits of the one before (R85). -/
def Obligations.WaitsEndsAndWakes : Prop :=
  (∀ (l : Fin 16) (f : Fin 64) (w : BitVec 26) (s : State), s.running l f = true →
     let k := fKey l f
     let x := s.facets.get k
     let m := BitVec.ofNat 3 (fld w 2 0)
     let tick := x.qTick && m.getLsbD 0
     let stream := x.qStream && m.getLsbD 1
     let msg := x.qMessage && m.getLsbD 2
     (fld w 25 3 = 0 → tick = false → stream = false → msg = false →
       s.Gives (.wait_ l f w) [.facets, .lenses] fun t =>
         t.facets = s.facets.set k { x with pc := x.pc + 1, run := .gated, gate := .waiting m }) ∧
     (fld w 25 3 = 0 → (tick || stream || msg) = true →
       s.Gives (.wait_ l f w) [.facets, .progs, .lenses] fun t =>
         let y := t.facets.get k
         (∀ j, j ≠ k → t.facets.get j = s.facets.get j) ∧ y.run = .active ∧ y.pc = x.pc + 1 ∧ y.la = x.la ∧
         y.stack = x.stack ∧ y.qTick = (x.qTick && !tick) ∧ y.qStream = (x.qStream && (tick || !stream)) ∧
         y.qMessage = (x.qMessage && (tick || stream || !msg))) ∧
     (x.stack = [] → s.logicAt l (s.home l f) = none → s.protAt l (s.home l f) = none →
       let last := x.ticked || decide (x.role = .focusAssist)
       (x.testFailed = true →
         s.Gives (.end_ l f 0) [.facets, .progs, .lenses, .recs, .fencedFlash] fun t =>
           (t.facets.get k).run = .fenced ∧ (t.facets.get k).fault = .selftestFail) ∧
       (x.testFailed = false → (x.qTick || x.qStream || x.qMessage) = false →
         s.Gives (.end_ l f 0) [.facets, .progs, .lenses, .recs] fun t =>
           t.facets.get k = { x with pc := x.pc + 1, run := .gated, gate := .ended, ticked := false, began := false,
                                     loaded := 0, firstCycle := x.firstCycle && !last,
                                     replayed := x.replayed && !last, restored := x.restored && !last }) ∧
       (x.testFailed = false → (x.qTick || x.qStream || x.qMessage) = true →
         s.Gives (.end_ l f 0) [.facets, .progs, .lenses, .recs] fun t =>
           (t.facets.get k).run = .active ∧
           (t.facets.get k).pc = if x.qTick then 0 else if x.qStream then 1 else 2))) ∧
  (∀ (l : Fin 16) (f : Fin 64) (c : WakeCause) (s : State),
     let x := s.facets.get (fKey l f)
     s.host l (s.home l f) = f →
     let inRun := (s.lenses.get l).pstate = .run
     (x.run = .gated → inRun → gateAdmits x c = true →
       s.Gives (.facetWake l f c) [.facets, .progs] fun t =>
         let y := t.facets.get (fKey l f)
         y.run = .active ∧ isQueued y c = false ∧
         (let kept := !(x.ticked && decide (c = .tick))
          y.firstCycle = (x.firstCycle && kept) ∧ y.replayed = (x.replayed && kept) ∧ y.restored = (x.restored && kept)) ∧
         y.pc = (match x.gate with
           | .ended => match c with | .tick => 0 | .stream => 1 | .message => 2
           | .waiting _ => x.pc) ∧
         ∀ j, j ≠ fKey l f → t.facets.get j = s.facets.get j) ∧
     (x.run = .gated → ¬ (inRun ∧ gateAdmits x c = true) →
       s.Gives (.facetWake l f c) [.facets, .lenses] fun t =>
         t.facets = s.facets.set (fKey l f) (queueEvent x c s.tai) ∧
         ((s.lenses.get l).pstate = .idle ∨ (s.lenses.get l).pstate = .retain →
           (t.lenses.get l).waking = some ((s.lenses.get l).waking.getD s.now))) ∧
     (x.run = .active → exec (.facetWake l f c) s = .next (s.updFacet l f fun x => queueEvent x c s.tai)) ∧
     (x.run = .stopped ∨ (x.run = .fenced ∧ c = .tick) → exec (.facetWake l f c) s = .next s) ∧
     (x.run = .fenced → c ≠ .tick →
       s.Gives (.facetWake l f c) [.facets, .lenses] fun t =>
         t.facets = s.facets.set (fKey l f) (queueEvent x c s.tai) ∧
         ((s.lenses.get l).pstate = .idle ∨ (s.lenses.get l).pstate = .retain →
           (t.lenses.get l).waking = some ((s.lenses.get l).waking.getD s.now))))

/-- SEAL and OUTW (R23, R80, R98, R99) on a facet that executes, with the operand bits 0. While the computing phase of
the facet's cycle is open, SEAL writes the record of that cycle into the buffer that does not hold the checkpoint, with
the bytes of the local seal area and a CRC over all of it; it becomes the checkpoint where its cycle is the higher one,
and SEAL_CYCLE follows it. An OUTW in time writes the output area and image Q into the output window of buffer n mod 2.
After the phase an OUTW writes no window and is counted (R80), and a SEAL changes no record; that it counts as a dropped
write is the model's reading (log 64). LANE (R16, R95) on a facet that executes. By a declared driver it asserts or
releases that driver's part of the lane: the lane is asserted while some driver asserts it, and every other lane keeps
its drivers. By any other facet it changes no lane and is counted. -/
def Obligations.OutputWindowsAndLaneDrives : Prop :=
  (∀ (l : Fin 16) (f : Fin 64) (s : State), s.running l f = true →
     let h := s.home l f
     let x := s.facets.get (fKey l f)
     let c := s.fCfg l h
     let q := s.progs.get (fKey l h)
     let r0 : SealRec := { cycle := facetCycle x, home := h, role := x.role, progId := c.progId,
                           data := memBytes x.dmem c.sealArea.off (min c.sealArea.len 4096) }
     let r : SealRec := { r0 with crc := some (crc32 (leBytes 8 r0.cycle ++ leBytes 2 r0.data.length ++ leBytes 1 h
       ++ leBytes 1 (roleBits r0.role) ++ leBytes 4 r0.progId ++ r0.data)) }
     let win := memBytes x.dmem c.output.off c.output.len ++ memBytes x.dmem aQ 512
     (s.inPhase l f = true → s.Gives (.seal_ l f 0) [.facets, .progs] fun t =>
       let y := t.progs.get (fKey l h)
       t.facets = s.facets.set (fKey l f)
         { x with pc := x.pc + 1, dmem := memPutNat x.dmem (aStatus + 0x14) 4 (r.cycle % 2 ^ 32) } ∧
       y = { q with seal0 := y.seal0, seal1 := y.seal1, sealed := true } ∧
       ((y.seal0 = { record := some r, invalid := false } ∧ y.seal1 = q.seal1) ∨
         (y.seal1 = { record := some r, invalid := false } ∧ y.seal0 = q.seal0)) ∧
       (∀ old, checkpoint q = some old → old.cycle < r.cycle →
         checkpoint y = some r ∧ (y.seal0.record = some old ∨ y.seal1.record = some old)) ∧
       (checkpoint q = none → checkpoint y = some r)) ∧
     (s.inPhase l f = false → s.Gives (.seal_ l f 0) [.facets, .lenses] fun t =>
       (t.lenses.get l).fltWriter = min ((s.lenses.get l).fltWriter + 1) 0xFFFFFFFF) ∧
     (s.inPhase l f = true →
       s.Gives (.outw l f 0) [.facets, .progs, .arms, .pwms] fun t =>
         t.progs = s.progs.set (fKey l h) (if q.cycle % 2 = 0
           then { q with outWin0 := some (q.cycle, win), outDone := true }
           else { q with outWin1 := some (q.cycle, win), outDone := true })) ∧
     (s.inPhase l f = false →
       s.Gives (.outw l f 0) [.facets, .lenses] fun t =>
         (t.lenses.get l).lateOut = min ((s.lenses.get l).lateOut + 1) 0xFFFFFFFF)) ∧
  (∀ (l : Fin 16) (f : Fin 64) (w : BitVec 26) (s : State), s.running l f = true → fld w 25 7 = 0 →
     let h := s.home l f
     let c := s.fCfg l h
     let n := fld w 5 0
     let d := fKey l h
     let driver := (c.role = .protection ∨ c.role = .loop) ∧ n ∈ c.lanes
     (driver → fld w 6 6 = 1 → ∃ t, exec (.lane l f w) s = .next t ∧ t.laneOn n = true ∧ d ∈ t.lanes.get n ∧
       (∀ e, e ≠ d → (e ∈ t.lanes.get n ↔ e ∈ s.lanes.get n)) ∧ (∀ j, j ≠ n → t.lanes.get j = s.lanes.get j)) ∧
     (driver → fld w 6 6 = 0 → ∃ t, exec (.lane l f w) s = .next t ∧ d ∉ t.lanes.get n ∧
       (∀ e, e ≠ d → (e ∈ t.lanes.get n ↔ e ∈ s.lanes.get n)) ∧ (∀ j, j ≠ n → t.lanes.get j = s.lanes.get j)) ∧
     (¬ driver → s.Gives (.lane l f w) [.facets, .lenses] fun t =>
       t.facets = s.facets.upd (fKey l f) (fun x => { x with pc := x.pc + 1 }) ∧
       t.lenses = s.lenses.upd l fun y => { y with fltLane := min (y.fltLane + 1) 0xFFFFFFFF }))

/-- SEND and RECV (R95 to R97, R239) on a facet that executes, with a slot inside data memory. SEND puts the 64-byte
message, with the queue, the sender and its next sequence number filled in, on its way to the destination's lens, through
the TC4 queue of that lens's port where it is another lens, and sets LA; to a full or undeclared queue it sends nothing,
clears LA and counts. RECV takes the oldest message of the queue into data memory and sets LA, or clears LA. A message
that leaves its lens passes the sampler of its lens's port (R246), which may write a record of it to a host ring. -/
def Obligations.SendAndReceiveMessages : Prop :=
  ∀ (l : Fin 16) (f : Fin 64) (w : BitVec 26) (s : State), s.running l f = true → fld w 25 5 = 0 →
    let k := fKey l f
    let h := s.home l f
    let x := s.facets.get k
    let q := fld w 4 3
    let a := (pReg x (fld w 2 0)).toNat
    let dl := (memGet x.dmem a).toNat
    let df := (memGet x.dmem (a + 1)).toNat
    let key := fKey dl df * 4 + q
    let n := (findRow (s.progs.get (fKey l h)).txSeq key).getD 0
    let room := dl < 16 ∧ df < 64 ∧ s.queueRoom dl df q = true
    let y := { x with pc := x.pc + 1 }
    let sent (m : List Byte) : Prop := m.length = 64 ∧ m.take 2 = memBytes x.dmem a 2 ∧ m[2]? = some (BitVec.ofNat 8 q) ∧
      m.drop 8 = memBytes x.dmem (a + 8) 56 ∧ (m.drop 4).take 4 = leBytes 2 (fKey l h) ++ leBytes 2 n
    let g := s.swc.glint.get (8 + l)
    let parts : List Part := if dl = l then [.facets, .progs, .lenses]
      else if g.dir = 1 ∧ g.n ≠ 0 then [.facets, .progs, .swc, .freeIdx, .hif, .recs, .outputs]
      else [.facets, .progs, .swc]
    (badSlot a false = false → room →
      s.Gives (.send l f w) parts fun t =>
        t.facets.get k = { y with la := true } ∧
        (∃ m, sent m ∧
          (dl = l → (t.lenses.get dl).inbound = (s.lenses.get dl).inbound ++ [(df, q, m)]) ∧
          (dl ≠ l → ∃ e, t.queue (8 + dl) 4 = s.queue (8 + dl) 4 ++ [e] ∧
            ∃ z ∈ t.swc.stored, z.id = e.id ∧ z.frame.app = some (.message df q m))) ∧
        findRow (t.progs.get (fKey l h)).txSeq key = some ((n + 1) % 65536)) ∧
    (badSlot a false = false → ¬ room →
      s.Gives (.send l f w) [.facets, .lenses] fun t =>
        t.facets.get k = { y with la := false } ∧
        t.lenses = s.lenses.upd l fun z => { z with fltMsgFull := min (z.fltMsgFull + 1) 0xFFFFFFFF }) ∧
    (badSlot a true = false →
      let queue := ((s.progs.get (fKey l h)).rxq.toList[q]?).getD []
      (queue = [] → s.Gives (.recv l f w) [.facets] fun t => t.facets.get k = { y with la := false }) ∧
      (∀ m r, queue = m :: r → s.Gives (.recv l f w) [.facets, .progs] fun t =>
        t.facets.get k = { y with la := true, dmem := memPutSlot x.dmem a m } ∧
        t.progs = s.progs.upd (fKey l h) fun p => { p with rxq := p.rxq.setIfInBounds q r }))

/-! ## Faults, repair and lenses -/

/-- A program fault of a running program (R17, R87, R101): FAULT records the cause, the facet stops, no lane keeps its
drive, and PROGRAM_FAULT is active with the facet and the cause in its detail word. A logic program stops with
STOPPED_FAULT, at once or after the COMMIT in progress (R116). No other facet changes, unless the stop ends a removal or
an exchange that waits for it (R136). The fault here is a word that is no instruction (R82): opcode 0x00 with another
bit set, or an unassigned opcode. A facet that a self-test has found bad is fenced besides (R101). Lens failures (R15,
R104, R436, R437) while the Module Manager runs. An uncorrectable error of lens memory and a failed Steward are
reported. For a reported failure of a lens without loop facets the programs go to a spare lens, where one is declared;
without one an ACTIVE module with a partner asks for the handover, and any other fences the lens. At the end of a
relocation the package names the spare lens for what the failed lens ran. -/
def Obligations.ProgramAndLensFaultsAreHandled : Prop :=
  (∀ (l : Fin 16) (f : Fin 64) (w : Word) (s : State), s.running l f = true →
     (wordOp w = 0 ∧ w ≠ 0) ∨ wordOp w ∈ [0x0F, 0x1D, 0x1E, 0x1F, 0x37, 0x3F] →
     s.host l (s.home l f) = f → (∀ j, (s.facets.get (fKey l f)).hostOf = some j → j < 64) →
     let h := s.home l f
     ((s.facets.get (fKey l f)).testFailed = true →
       ∃ t, exec (.nop l f w) s = .next t ∧ t = s.programFault l f .illegalOp ∧
         (t.facets.get (fKey l f)).run = .fenced ∧ fKey l f ∈ t.fencedFlash) ∧
     (∃ t, exec (.nop l f w) s = .next t ∧ t = s.programFault l f .illegalOp) ∧
     ((s.facets.get (fKey l f)).testFailed = false →
      (∀ p, s.logicAt l h = some p → (s.logic.get p).removeAsked = false ∧ (s.logic.get p).exchPending = false ∧
        (s.logic.get p).exchStart = none) →
      ∃ t, exec (.nop l f w) s = .next t ∧ t = s.programFault l f .illegalOp ∧
       (t.facets.get (fKey l f)).run = .stopped ∧ (t.facets.get (fKey l f)).fault = .illegalOp ∧
       (∀ j, j ≠ fKey l f → t.facets.get j = s.facets.get j) ∧
       (∀ n, n < 64 → fKey l h ∉ t.lanes.get n) ∧
       (∀ n d, d ≠ fKey l h → (d ∈ t.lanes.get n ↔ d ∈ s.lanes.get n)) ∧
       (s.logicAt l h = none → (Ev.programFault, fKey l f + 65536 * 8) ∈ t.recs.evr.alarms) ∧
       (∀ p, s.logicAt l h = some p →
         if (s.logic.get p).committing then (t.logic.get p).safeDue = some .stoppedFault
         else (t.logic.get p).st = .stoppedFault))) ∧
  (∀ (l : Fin 16) (s : State),
     let x := s.lenses.get l
     let loops := (s.lensPrograms l).any fun h => (s.fCfg l h).role = .loop
     s.Gives (.lensMemUncorr ⟨l, true⟩) [.lenses] (fun t =>
       t.lenses = s.lenses.set l { x with eccCorr := min (x.eccCorr + 1) 0xFFFF }) ∧
     s.Gives (.lensMemUncorr ⟨l, false⟩) [.lenses, .recs] (fun t =>
       t.lenses = s.lenses.set l { x with eccUncorr := min (x.eccUncorr + 1) 0xFFFF,
                                          failure := some (x.failure.getD .memUncorr) }) ∧
     s.Gives (.lensStewardFail l) [.lenses, .recs] (fun t =>
       t.lenses = s.lenses.set l { x with stewardFailed := true, repair := none, waitRepair := [],
                                          failure := some (x.failure.getD .steward) }) ∧
     (x.failure ≠ none → s.mlk.mmDown = false →
       (∀ k, loops = false → s.spareLens l = some k →
         s.Gives (.lensFailure l) [.lenses] fun t =>
           t.lenses = s.lenses.set l { x with relocTo := some k, failure := none }) ∧
       (loops = true ∨ s.spareLens l = none →
         (s.mlk.partner = .inService → s.mlk.role = .active →
           s.Gives (.lensFailure l) [.lenses, .mlk] fun t =>
             t.mlk = { s.mlk with yieldAt := true } ∧ t.lenses = s.lenses.set l { x with failure := none }) ∧
         (s.mlk.partner ≠ .inService ∨ s.mlk.role ≠ .active → ∃ t, exec (.lensFailure l) s = .next t ∧
           (t.unit (.lens l)).st = .off ∧ (t.unit (.lens l)).fenced = true ∧ (t.unit (.lens l)).en = false ∧
           (Ev.lensFenced, l.val) ∈ t.recs.evr.alarms))) ∧
     (∀ k readable, x.relocTo = some k → k ≠ l → ∃ t, exec (.lensRelocationDone l readable) s = .next t ∧
       t.svc.pkg = moveLens l k s.pkg ∧ (t.lenses.get l).fenced = true ∧ (t.lenses.get l).relocTo = none ∧
       (t.unit (.lens l)).st = .off ∧ (t.unit (.lens l)).fenced = true ∧ (t.unit (.lens l)).en = false ∧
       (Ev.lensRelocated, l.val + 256 * k, s.now) ∈ t.recs.evr.events))

/-- Hardware faults of a facet (R17, R101, R102, R104): one not yet fenced is fenced with its cause, recorded in flash,
and leaves the free spares; its lane drives stay. A running program is given the lowest free spare where it has a
checkpoint, or waits behind the repair under way or for the Module Manager, or is a lens failure; a failed Steward
repairs nothing (R15). A facet that runs no program is only fenced. An uncorrectable SRAM error is counted, a corrected
one is only counted (R106). A facet inside a cycle is fenced for a failed self-test at its cycle boundary. In a facet
that is fenced already an error is only counted, and its self-test is left out (R481). The end of a repair's load and
its time limit (R102, R104), with the repair under way. The spare takes the role of the failed facet's program, shows
its home facet, RESTORED and no FIRST_CYCLE; the repair is counted and, with none waiting, ended. While RUN is being
cleared no further cycle begins (R58). A repair past its T_R, 6 us for a loop program and 40 us for any other, is a lens
failure. -/
def Obligations.FacetsAreFencedAndRepaired : Prop :=
  (∀ (l : Fin 16) (f : Fin 64) (s : State),
     let k := fKey l f
     let x := s.facets.get k
     let lens := s.lenses.get l
     let h := s.home l f
     let q := s.progs.get (fKey l h)
     let runs := x.role ≠ .spare ∧ (x.run = .active ∨ x.run = .gated)
     let left := lens.free.filter (· ≠ f.val)
     let fencedBy (ps : List Part) (c : Instr) (e : FFault) : Prop :=
       s.Gives c ([.facets, .progs, .lenses, .fencedFlash, .recs] ++ ps) fun t =>
         let y := t.lenses.get l
         let begins := lens.stewardFailed = false ∧ lens.repair = none ∧ s.mlk.mmDown = false
         t.facets = s.facets.set k { x with run := .fenced, fault := e, testFailed := false } ∧ k ∈ t.fencedFlash ∧
         f.val ∉ y.free ∧
         (runs → begins → ∀ sp, minList left = some sp → checkpoint q ≠ none →
           ∃ r, y.repair = some r ∧ r.failed = f.val ∧ r.home = h ∧ r.spare = sp ∧ r.start = s.now ∧ sp ∉ y.free) ∧
         (runs → begins → left = [] → y.failure.isSome ∧ y.repair = none) ∧
         (runs → begins → checkpoint q = none → y.failure.isSome ∧ y.repair = none) ∧
         (runs → lens.stewardFailed = true → y.repair = lens.repair ∧ y.waitRepair = lens.waitRepair) ∧
         (runs → lens.stewardFailed = false → lens.repair ≠ none ∨ s.mlk.mmDown = true → y.repair = lens.repair ∧
           ∃ r, y.waitRepair = lens.waitRepair ++ [r] ∧ r.failed = f.val ∧ r.home = h) ∧
         (¬ runs → lens.repair = none → y.repair = none ∧ y.waitRepair = lens.waitRepair ∧ y.failure = lens.failure)
     let fenced := fencedBy []
     let counted (e : SramError) : Prop := ∃ t, exec (.sramUncorr l ⟨f, e⟩) s = .next t ∧
       (t.lenses.get l).eccUncorr = min (lens.eccUncorr + 1) 0xFFFF
     (x.run ≠ .fenced →
     fenced (.sramUncorr l ⟨f, .uncorrectable⟩) .sramUncorr ∧ counted .uncorrectable ∧
     fenced (.sramUncorr l ⟨f, .inSeal⟩) .sramUncorr ∧ counted .inSeal ∧
     (s.Gives (.sramUncorr l ⟨f, .corrected⟩) [.lenses] fun t =>
       t.lenses = s.lenses.set l { lens with eccCorr := min (lens.eccCorr + 1) 0xFFFF }) ∧
     fenced (.fetchParity l f) .fetchParity ∧ fenced (.wakeFail l f) .wakeFail ∧
     (s.glb.phase ≠ .running ∨ s.mlk.role = .active →
       (runs → betweenCycles x = false → 
         s.Gives (.selftestFail l f) [.facets, .lenses, .recs, .bst, .freeIdx] fun t =>
           t.facets = s.facets.set k { x with testFailed := true } ∧ (t.lenses.get l).needsTest = true ∧
           t.bst.fails = min (s.bst.fails + 1) 0xFFFFFFFF ∧ (Ev.bistFail, l.val, s.now) ∈ t.recs.evr.events) ∧
       (¬ runs ∨ betweenCycles x = true → fencedBy [.bst, .freeIdx] (.selftestFail l f) .selftestFail))) ∧
     (x.run = .fenced →
       exec (.fetchParity l f) s = .next s ∧ exec (.wakeFail l f) s = .next s ∧ exec (.selftestFail l f) s = .next s ∧
       s.Gives (.sramUncorr l ⟨f, .uncorrectable⟩) [.lenses] (fun t =>
         t.lenses = s.lenses.set l { lens with eccUncorr := min (lens.eccUncorr + 1) 0xFFFF }) ∧
       s.Gives (.sramUncorr l ⟨f, .inSeal⟩) [.lenses] (fun t =>
         t.lenses = s.lenses.set l { lens with eccUncorr := min (lens.eccUncorr + 1) 0xFFFF }))) ∧
  (∀ (l : Fin 16) (r : Repair) (s : State), (s.lenses.get l).repair = some r →
     let ends : List Part := if s.glb.halting
       then [.freeIdx, .facets, .progs, .lenses, .fencedFlash, .lanes, .logic, .tos, .gps, .arms, .sms, .beams, .pwms, .swc,
             .hif, .mlk, .recs, .obs, .outputs]
       else [.facets, .progs, .lenses, .logic, .recs]
     (s.Gives (.repairLoadDone l) ends fun t =>
       let y := t.facets.get (fKey l r.spare)
       y.role = (s.facets.get (fKey l r.failed)).role ∧ y.restored = true ∧ y.firstCycle = false ∧
       y.hostOf = (if r.spare = r.home then none else some r.home) ∧ y.imem = (s.fCfg l r.home).code ∧
       (s.glb.halting = false → y.run = .gated ∨ y.run = .active) ∧
       (t.lenses.get l).repairs = min ((s.lenses.get l).repairs + 1) 255 ∧
       ((s.lenses.get l).waitRepair = [] → (t.lenses.get l).repair = none)) ∧
     (s.Gives (.repairTimeout l) [.now, .col, .lenses, .recs] fun t =>
       t.now = max s.now (r.start + if (s.fCfg l r.home).role = .loop then 6000 else 40000) ∧
       (t.lenses.get l).failure = some ((s.lenses.get l).failure.getD .repairTime) ∧
       (Ev.lensFailure, l.val + 256 * 3, t.now) ∈ t.recs.evr.events))

/-- Wakes of a lens (R33, R34): 200 ns or 40 us before its next scheduled tick an IDLE or RETAIN lens starts to wake; at
the end of the wake it is in RUN, its gated facets take what has come for them, and it may rest again; a wake that takes
longer than its wake time is a lens failure and goes on. Arrivals at a lens that is not OFF (R79, R81, R97): a stream
record joins the window of a protection or assistant facet and advances its write index; the oldest message under way
enters its queue. Each raises its wake cause. A facet that wakes has consumed the records it had loaded (log 60). -/
def Obligations.LensWakesAndArrivals : Prop :=
  (∀ (l : Fin 16) (s : State),
     let x := s.lenses.get l
     let early := if x.pstate = .retain then 40000 else 200
     (∀ t0, s.nextTick l = some t0 → x.pstate = .idle ∨ x.pstate = .retain → x.waking = none →
       s.Gives (.lensPretickWake l) [.now, .col, .lenses] fun t =>
         t.now = max s.now (t0 - early) ∧ t.lenses = s.lenses.set l { x with waking := some t.now }) ∧
     (∀ t0, x.waking = some t0 →
       s.Gives (.lensWakeDone l) [.facets, .progs, .lenses] (fun t =>
         (∃ u : State, t = u.lensRest l ∧ u.lenses = s.lenses.set l { x with pstate := .run, waking := none } ∧
           t.facets = u.facets) ∧
         ∀ f : Fin 64, (s.facets.get (fKey l f)).run = .gated → (s.facets.get (fKey l f)).gate = .ended →
           (t.facets.get (fKey l f)).run = (if (s.facets.get (fKey l f)).qTick || (s.facets.get (fKey l f)).qStream ||
             (s.facets.get (fKey l f)).qMessage then .active else .gated)) ∧
       s.Gives (.lensWakeTimeout l) [.now, .col, .lenses, .recs] (fun t =>
         t.now = max s.now (t0 + early) ∧
         t.lenses = s.lenses.set l { x with failure := some (x.failure.getD .wakeTime) } ∧
         (Ev.lensFailure, l.val + 256 * 5, t.now) ∈ t.recs.evr.events))) ∧
  (∀ (l : Fin 16) (s : State),
     (∀ (f : Fin 64) (bytes : List Byte), (s.fCfg l f).role = .protection ∨ (s.fCfg l f).role = .focusAssist →
       (s.lenses.get l).pstate ≠ .off →
       let g := s.host l f
       let y := s.facets.get (fKey l g)
       s.home l g = f →
       s.Gives (.streamRecordArrival l f bytes) [.facets, .progs, .lenses] fun t =>
         (t.progs.get (fKey l f)).stream = ((s.progs.get (fKey l f)).stream ++ [bytes]).drop
           (if y.run = .gated ∧ (s.lenses.get l).pstate = .run ∧ gateAdmits y .stream = true then y.loaded else 0) ∧
         (t.progs.get (fKey l f)).writeIndex = (s.progs.get (fKey l f)).writeIndex + 1 ∧
         ((s.facets.get (fKey l g)).run = .active → (t.facets.get (fKey l g)).qStream = true) ∧
         ((s.facets.get (fKey l g)).run = .gated → (s.facets.get (fKey l g)).gate = .ended →
           (s.lenses.get l).pstate = .run → (t.facets.get (fKey l g)).run = .active ∧ (t.facets.get (fKey l g)).pc = 1)) ∧
     (∀ h q m r, (s.lenses.get l).inbound = (h, q, m) :: r → q < 4 →
       let g := s.host l h
       s.Gives (.messageArrival l) [.facets, .progs, .lenses] fun t =>
         (t.lenses.get l).inbound = r ∧
         (t.progs.get (fKey l h)).rxq.toList[q]? = some (((s.progs.get (fKey l h)).rxq.toList[q]?).getD [] ++ [m]) ∧
         ((s.facets.get (fKey l g)).run = .active → (t.facets.get (fKey l g)).qMessage = true) ∧
         ((s.facets.get (fKey l g)).run = .gated → (s.facets.get (fKey l g)).gate = .ended →
           (s.lenses.get l).pstate = .run → (t.facets.get (fKey l g)).run = .active ∧ (t.facets.get (fKey l g)).pc = 2)))

/-! ## Cyclic logic and the field bus -/

/-- The cycle of a logic program that cycles (R109, R110, R112, R114, R115). SNAPSHOT starts at once or a minimum period
after the last one, and at once after a restore; when every station is copied the input buffer n mod 2 holds records,
images and qualities, and EXECUTE begins. COMMIT freezes the output window of cycle n, takes the checkpoint as the state
a later overrun restores, and clears CONSEC_OVR; a stopped program commits its safe image; a COMMIT ends once. The
watchdog (R113 to R117) of a logic program in SNAPSHOT or EXECUTE that no repair extends and that LOGIC_CTRL has not
asked to stop: the cycle is skipped. Its facet is restored, OVERRUN is set and counted, LAST shows the watchdog, and no
output image and no mailbox changes; the 8th overrun in a row stops the program, at once or after the COMMIT in
progress. -/
def Obligations.LogicCyclesRunAndAreSupervised : Prop :=
  (∀ (p : Fin 64) (s : State),
     let c := s.pkg.logic.get p
     let x := s.logic.get p
     let k := fKey c.lens c.facet
     let q := s.progs.get k
     (s.cycles p = true → x.phase = .idle ∨ (x.phase = .ended ∧ x.commitDue = false ∧ x.safeDue = none) →
       s.Gives (.logicSnapshotStart p) [.now, .col, .freeIdx, .logic] fun t =>
         let y := t.logic.get p
         t.now = (if x.phase = .idle then s.now else max s.now (x.snapStart + c.minPeriodUs * 1000)) ∧
         y.phase = .snapshot ∧ y.cycle = x.cycle + 1 ∧ y.snapStart = t.now) ∧
     (s.cycles p = true → x.phase = .snapshot → x.copiedN = c.stations.length → x.exchStart = none →
       s.Gives (.logicSnapshotDone p) [.facets, .progs, .lenses, .logic] fun t =>
         let r := t.progs.get k
         (if x.cycle % 2 = 0 then r.inWin0 else r.inWin1) = x.copied ++ x.copiedImgs ++ x.copiedQual ∧
         r.cycle = x.cycle ∧ r.computing = true ∧ r.outDone = false ∧ (t.logic.get p).phase = .execute) ∧
     (s.cycles p = true → x.phase = .restore →
       s.Gives (.logicRestoreDone p) [.freeIdx, .logic] fun t =>
         (t.logic.get p).phase = .snapshot ∧ (t.logic.get p).cycle = x.cycle + 1 ∧ (t.logic.get p).snapStart = s.now) ∧
     (x.committing = false → x.commitDue = true → x.stopAsked = false → ∃ t, exec (.logicCommitStart p) s = .next t ∧
       let y := t.logic.get p
       y.committing = true ∧ y.commitDue = false ∧ y.commitStart = s.now ∧ y.consec = 0 ∧
       y.image = outWindow q x.cycle ∧ y.commitSeal = checkpoint q ∧ y.phase = x.phase) ∧
     (∀ st, x.committing = false → x.commitDue = false → x.safeDue = some st → x.removeAsked = false →
       x.exchPending = false → x.exchStart = none →
       ∃ t, exec (.logicCommitStart p) s = .next t ∧
         (t.logic.get p).committing = true ∧ (t.logic.get p).image = c.safeImage ∧ (t.logic.get p).st = st) ∧
     (x.committing = true → x.startAsked = false ∨ c.present = false →
       exec (.logicCommitDone p) s = .next (s.updLogic p fun y => { y with committing := false })) ∧
     (x.committing = true → x.startAsked = true → x.safeDue = none → x.st ≠ .running → c.present = true →
       ∃ t, exec (.logicCommitDone p) s = .next t ∧ (t.logic.get p).committing = false ∧
         (t.logic.get p).st = .running ∧ (t.logic.get p).image = c.initialImage)) ∧
  (∀ (p : Fin 64) (s : State),
     let c := s.pkg.logic.get p
     let x := s.logic.get p
     s.cycles p = true → x.phase = .snapshot ∨ x.phase = .execute → s.inRepair c.lens c.facet = false →
     (x.consec < 7 → x.stopBy = [] →
       s.Gives (.logicWatchdogExpiry p) [.now, .col, .facets, .progs, .lenses, .fencedFlash, .logic, .recs] fun t =>
         let y := t.logic.get p
         t.now = max s.now (x.snapStart + c.watchdogUs * 1000 + x.wdogExt) ∧ y.phase = .restore ∧ y.overrun = true ∧
         y.consec = x.consec + 1 ∧ y.ovr = min (x.ovr + 1) 0xFFFFFFFF ∧ y.last = c.watchdogUs * 10 ∧
         y.image = x.image ∧ y.st = x.st ∧ y.commitDue = false ∧
         (Ev.overrun, p.val, t.now) ∈ t.recs.evr.events ∧ (t.facets.get (fKey c.lens (s.host c.lens c.facet))).run ≠ .active ∧
         (t.progs.get (fKey c.lens c.facet)).computing = false) ∧
     (7 ≤ x.consec → x.removeAsked = false → x.exchPending = false → x.exchStart = none → ∃ t, exec (.logicWatchdogExpiry p) s = .next t ∧
       if x.committing then (t.logic.get p).safeDue = some .stoppedOverrun
       else (t.logic.get p).st = .stoppedOverrun ∧ (t.logic.get p).image = c.safeImage))

/-- The on-line exchange of a logic program that has started (R134 to R136). At its end the facet holds the new
instructions, FIRST_CYCLE (until a tick that waits has begun the cycle) and EXCH_DONE are set, and the program runs, on the
home facet that the staged package gives it; the last one puts that package in force. An
exchange not finished in 10 us is undone: the old program runs on with its image, the active bank is switched back, and,
where that bank holds what is in force, nothing stays staged. -/
def Obligations.LogicExchangesEndOrAreUndone : Prop :=
  ∀ (p : Fin 64) (img : Image) (t0 : Nat) (s : State),
    let x := s.logic.get p
    let nc := img.body.logic.get p
    x.exchStart = some t0 → s.svc.staged = some img →
    (∃ t, exec (.logicExchangeDone p) s = .next t ∧
      let y := t.logic.get p
      let z := t.facets.get (fKey nc.lens (t.host nc.lens nc.facet))
      y.exchStart = none ∧ y.exchDone = true ∧ y.st = .running ∧
      z.imem = (img.body.facets.get (fKey nc.lens nc.facet)).code ∧ (x.phase ≠ .ready → z.firstCycle = true) ∧
      ((∀ k : Fin 64, k ≠ p → let z := s.logic.get k
          z.exchPending = false ∧ z.exchStart = none ∧ z.removeAsked = false ∧
          ((img.body.logic.get k).present = true → (s.pkg.logic.get k).present = true)) →
        x.exchPending = false → x.removeAsked = false → s.svc.exchLoops = [] →
        t.svc.pkg = img.body ∧ t.svc.staged = none)) ∧
    (p.val ∈ s.logic.keys →
      (∀ old, (if s.svc.active then s.svc.cfg0 else s.svc.cfg1) = some old → old.body = s.svc.pkg) →
      ∃ t, exec (.logicExchangeTimeout p) s = .next t ∧
        t.now = max s.now (t0 + 10000) ∧ t.svc.pkg = s.svc.pkg ∧ t.svc.active = !s.svc.active ∧
        (t.logic.get p).exchStart = none ∧ (t.logic.get p).image = x.image ∧
        (x.st = .exchanging → (t.logic.get p).st = .running) ∧
        ((∀ k : Fin 64, k ≠ p → let z := s.logic.get k
            z.exchPending = false ∧ z.exchStart = none ∧ z.removeAsked = false) → t.svc.staged = none))

/-- Frames that a controller receives (R122, R123, R128, R270, R276, R282), once time has reached the frame's. A frame
that fails its CRC is an error of this receiver. Every other frame is acknowledged, except in LISTEN, where no error
counter moves, and lowers the receive error counter, from above 127 to a value of 119 to 127 (the cases of ISO 11898-1:
log 109). A reference of the schedule is seen, and goes through the filters like any frame: a frame of a station's input
group that completes it replaces the image whole and makes a MISSING or ABSENT station PRESENT; ACTION MM hands the
80-byte record to the Module Manager; a frame that no filter passes is counted. Presence of a PRESENT station with input
groups (R128), at the end of the supervision interval of a bus that has no schedule, or of its EXCLUSIVE cell. With a
group in the interval it stays PRESENT; without one it is MISSING, or ABSENT when K is 1, its unsent mailbox image and a
resend that waits are discarded and counted, and its inputs are INVALID; what waits for room takes their places in the
queue (R280). The same judgement is made for one station and, on the tick, for every station of the bus. -/
def Obligations.FieldBusFramesAndPresence : Prop :=
  (∀ (b : Fin 2) (fr : CanFrame) (s : State), s.unitOn (.fbc b) = true → (s.fbcs.get b).mode ≠ .busOff →
     (s.fbcs.get b).cell ≠ .cell .free →
     let f := s.fbcs.get b
     let listen := f.mode = .listen
     let rx := if listen then f else { f with recCnt := f.recCnt - 1 }
     let acks : List Emission := if listen then [] else [.canAck b]
     let ref := f.mode = .schedule ∧ fr.ide = false ∧ fr.id.toNat ≤ 1
     let seen := if ref then
         { rx with refSeen := true, backupSent := false, due := if f.cell = .window then none else f.due }
       else rx
     let first := (s.pkg.fbcs.get b).filters.find? fun y => fltMatch y fr
     let data := fr.crcOk = true ∧ fr.remote = false
     (fr.crcOk = false → s.Gives (.canFrameRx b fr s.now) [.fbcs] fun t => t.fbcs = s.fbcs.set b
       { f with errFrm := min (f.errFrm + 1) 0xFFFFFFFF, recCnt := if listen then f.recCnt else min (f.recCnt + 1) 128 }) ∧
     (fr.crcOk = true → ¬ listen → 127 < f.recCnt → ∃ t, exec (.canFrameRx b fr s.now) s = .next t ∧
       119 ≤ (t.fbcs.get b).recCnt ∧ (t.fbcs.get b).recCnt ≤ 127) ∧
     (listen ∨ f.recCnt ≤ 127 →
      (fr.crcOk = true → fr.remote = true →
       s.Gives (.canFrameRx b fr s.now) [.fbcs, .outputs] fun t =>
         t.outputs = s.outputs ++ acks ∧ t.fbcs = s.fbcs.set b { rx with rxNomatch := min (f.rxNomatch + 1) 0xFFFFFFFF }) ∧
      (data → first = none →
       s.Gives (.canFrameRx b fr s.now) [.fbcs, .outputs] fun t =>
         t.outputs = s.outputs ++ acks ∧ t.fbcs = s.fbcs.set b { seen with rxNomatch := min (f.rxNomatch + 1) 0xFFFFFFFF }) ∧
      (∀ flt, data → first = some flt → flt.action = .reject ∨ flt.action = .mm →
       s.Gives (.canFrameRx b fr s.now) [.fbcs, .outputs] fun t =>
         t.outputs = s.outputs ++ acks ++
           (if flt.action = .mm then [.toMM b (canRecord b (tsOf (s.taiOf s.now)) fr)] else []) ∧
         t.fbcs = s.fbcs.set b seen) ∧
      (∀ flt n, data → first = some flt → flt.action = .station n →
       let i := b.val * 64 + n
       let t0 := s.stns.get i
       let h := ((fr.data[0]?).getD 0).toNat
       let idx := h / 16 % 8
       (∀ data, (s.stnCfg i).en = true → fr.data.length = 64 → 128 ≤ h → idx + 1 = stnFrames (s.stnCfg i).inLen →
         (if idx = 0 then t0.group = none ∧ data = []
          else t0.group = some { gseq := h % 16, next := idx, data := data }) →
           s.Gives (.canFrameRx b fr s.now) [.stns, .conds, .fbcs, .recs, .outputs] fun t =>
             let y := t.stns.get i
             t.outputs = s.outputs ++ acks ∧ t.fbcs = s.fbcs.set b seen ∧
             y.image = bytesAt (data ++ fr.data.drop 1) 0 (s.stnCfg i).inLen ∧ y.gseq = h % 16 ∧
             y.rxTime = some (s.taiOf s.now) ∧ y.group = none ∧ y.got = true ∧
             (t0.st = .missing ∨ t0.st = .absent → y.st = .present ∧ y.missed = 0) ∧
             (t0.st = .present → y.st = .present))))) ∧
  (∀ (i : Fin 128) (s : State),
     let b := i.val / 64
     let f := s.fbcs.get b
     let x := s.stns.get i
     let c := s.stnCfg i
     let due := f.supervise + 1000000
     f.mode ≠ .schedule → c.en = true → 0 < c.inLen → x.st = .present → x.judged < due →
     (x.got = true →
       s.Gives (.stationPresenceCheck i) [.now, .col, .stns] fun t =>
         t.now = max s.now due ∧ t.stns = s.stns.set i { x with judged := due, got := false, missed := 0 }) ∧
     (x.got = false →
       s.Gives (.stationPresenceCheck i) [.now, .col, .stns, .conds, .fbcs, .recs, .mlk] fun t =>
         let y := t.stns.get i
         t.now = max s.now due ∧ y.st = (if 1 < c.k then .missing else .absent) ∧ y.missed = 1 ∧ y.unsent = false ∧
         y.discard = min (x.discard + ((if x.unsent then 1 else 0) +
           ((f.queue ++ f.retries).filter fun z => z.what = .group i && z.content ≠ none).length)) 0xFFFFFFFF ∧
         y.image = x.image ∧
         (Ev.stationMissing, i.val, t.now) ∈ t.recs.evr.events) ∧
     (x.got = false → s.busStns b = [i.val] → ∀ bus : Fin 2, bus.val = b →
       s.Gives (.fbSupervisionTick bus) [.now, .col, .stns, .conds, .fbcs, .recs, .mlk] fun t =>
         t.now = max s.now due ∧ (t.fbcs.get b).supervise = due ∧
         (t.stns.get i).st = (if 1 < c.k then .missing else .absent)))

/-- The schedule (R273 to R276): a basic cycle takes its index, its start and its TS from the pulse and opens the
reference window, in which the module with the grant sends the reference; a backup master that sees none within 10 us of
the pulse counts it and sends its own where the window is still open; a column begins its cell, which ends where the
next column begins. The end of a transmission, errors and bus-off (R270, R272, R278, R285). An acknowledged frame leaves
and lowers the transmit error counter; a lost arbitration is counted; an error of an own frame adds 8, of another frame
1 or 8, unless the fault confinement of ISO 11898-1 counts none (its cases: log 109), LISTEN counts the error alone, and
above 255 the controller is in BUS_OFF with its queue discarded. The recovery returns it to ARRIVAL with its error
counters at 0. -/
def Obligations.FieldBusScheduleAndErrors : Prop :=
  (∀ (b : Fin 2) (s : State), s.unitOn (.fbc b) = true → (s.fbcs.get b).mode = .schedule →
     let cfg := s.pkg.fbcs.get b
     let f := s.fbcs.get b
     (∀ n t0, s.pulseDue cfg.tp f.lastPulse = some (n, t0) → f.toArrival = false →
       s.Gives (.fbBasicCycleStart b) [.now, .col, .stns, .fbcs, .mlk] fun t =>
         let y := t.fbcs.get b
         y.bc = n % max cfg.bcCount 1 ∧ y.cell = .window ∧ y.pulseAt = t.now - (t.tai - t0) ∧ y.pulseTai = t0 ∧
         y.lastPulse = some n ∧ y.cellEnd = y.pulseAt + cfg.refLen * 1000 ∧ y.timeMaster = s.mlk.grant ∧ s.now ≤ t.now ∧
         (s.mlk.grant = true → f.onWire = none → t.now < y.cellEnd → ∃ z, y.onWire = some z ∧ z.what = .reference false ∧ z.ident = 0)) ∧
     (f.cell = .window → f.refSeen = false → f.timeMaster = false → s.pkg.mlk.paired = true → f.onWire = none →
       s.Gives (.fbRefTimeout b) [.now, .col, .fbcs] fun t =>
         let y := t.fbcs.get b
         t.now = max s.now (f.pulseAt + 10000) ∧ y.refMiss = min (f.refMiss + 1) 0xFFFFFFFF ∧
         (t.now < f.cellEnd → ∃ z, y.onWire = some z ∧ z.what = .reference true ∧ z.ident = 1) ∧
         (f.cellEnd ≤ t.now → y.onWire = none)) ∧
     (∀ c : Fin 64, c.val < cfg.cols.length →
       (f.cell = .window ∧ c.val = 0) ∨ (f.cell ≠ .window ∧ f.cell ≠ .outside ∧ c.val = f.col + 1) →
       s.Gives (.fbCellStart b c) [.now, .col, .stns, .fbcs, .mlk] fun t =>
         let y := t.fbcs.get b
         t.now = max s.now (f.pulseAt + colStart cfg c) ∧ y.col = c.val ∧ y.cell = .cell (cellOf cfg f.bc c) ∧
         y.cellEnd = f.pulseAt + colStart cfg (c.val + 1))) ∧
  (∀ (b : Fin 2) (s : State), s.unitOn (.fbc b) = true →
     let f := s.fbcs.get b
     (∀ x, f.onWire = some x → ∃ t, exec (.fbFrameTxDone b .acked) s = .next t ∧
       (s.outputs ++ [.can b x.ident x.ide (s.itemFrame b x).1 (s.itemFrame b x).2.1 (s.itemFrame b x).2.2]) <+: t.outputs ∧ (t.fbcs.get b).tec = f.tec - 1) ∧
     (∀ x, f.onWire = some x → ∃ t, exec (.fbFrameTxDone b .lostArbitration) s = .next t ∧
       (t.fbcs.get b).arbLost = min (f.arbLost + 1) 0xFFFFFFFF ∧ (t.fbcs.get b).tec = f.tec) ∧
     (∀ x e, f.onWire = some x → f.mode = .arrival ∨ f.mode = .schedule → f.tec + 8 ≤ 255 →
       ∃ t, exec (.fbFrameTxDone b (.error e)) s = .next t ∧
         (t.fbcs.get b).errFrm = min (f.errFrm + 1) 0xFFFFFFFF ∧ (t.fbcs.get b).tec = if e then f.tec else f.tec + 8) ∧
     (∀ e, f.mode = .listen → s.Gives (.fbErrorFrame b e) [.fbcs] fun t =>
       t.fbcs = s.fbcs.set b { f with errFrm := min (f.errFrm + 1) 0xFFFFFFFF }) ∧
     (f.mode = .arrival ∨ f.mode = .schedule →
       (s.Gives (.fbErrorFrame b .exempt) [.fbcs] fun t =>
         t.fbcs = s.fbcs.set b { f with errFrm := min (f.errFrm + 1) 0xFFFFFFFF }) ∧
       (s.Gives (.fbErrorFrame b .flagged) [.fbcs] fun t =>
         t.fbcs = s.fbcs.set b { f with errFrm := min (f.errFrm + 1) 0xFFFFFFFF,
                                        recCnt := min (f.recCnt + 8) 128 }) ∧
       (f.tec + 8 ≤ 255 → s.Gives (.fbErrorFrame b .transmit) [.fbcs] fun t =>
         t.fbcs = s.fbcs.set b { f with errFrm := min (f.errFrm + 1) 0xFFFFFFFF, tec := f.tec + 8 }) ∧
       (s.Gives (.fbErrorFrame b .receive) [.fbcs] fun t =>
         t.fbcs = s.fbcs.set b { f with errFrm := min (f.errFrm + 1) 0xFFFFFFFF,
                                        recCnt := min (f.recCnt + 1) 128 }) ∧
       (255 < f.tec + 8 → s.Gives (.fbErrorFrame b .transmit) [.stns, .fbcs, .hif, .mlk, .recs] fun t =>
         let y := t.fbcs.get b
         y.mode = .busOff ∧ y.queue = [] ∧ y.retries = [] ∧ y.onWire = none ∧ y.offAt = s.now ∧
         y.busOffs = min (f.busOffs + 1) 0xFFFFFFFF ∧ (Ev.fbBusoff, b.val) ∈ t.recs.evr.alarms)) ∧
     (f.mode = .busOff →
       ((s.pkg.fbcs.get b).autoRecover = true ∨ f.recoverAsked = true →
         s.Gives (.fbRecoveryDone b) [.now, .col, .stns, .fbcs, .recs] fun t =>
           let y := t.fbcs.get b
           t.now = max s.now (f.offAt + 1408000) ∧ y.mode = .arrival ∧ y.tec = 0 ∧ y.recCnt = 0 ∧
           (Ev.fbBusoff, b.val) ∉ t.recs.evr.alarms) ∧
       ((s.pkg.fbcs.get b).autoRecover = false → f.recoverAsked = false →
         s.Gives (.fbRecoveryDone b) [.now, .col, .fbcs] fun t =>
           t.fbcs = s.fbcs.set b { f with seqDone := true })) ∧
     (∀ j fr cmd d x, f.queue = [x] → x.what = .send j fr cmd → x.attempted = false → x.deadline = some d →
       s.tai ≤ d → d < 2 ^ 64 → s.busStns b = [] → f.retries = [] → s.col.stopped = false →
       s.Gives (.fbcSendExpiry b) [.now, .col, .fbcs, .hif, .mlk] fun t =>
         (t.fbcs.get b).queue = [] ∧ t.tai = d + 1 ∧ t.hif.expired = min (s.hif.expired + 1) 0xFFFFFFFF))

/-! ## Sampled values, protection, trip outputs, GOOSE and trip inputs -/

/-- Sampled-value frames (R138 to R140). Every frame is taken: a subscription of another APPID or VLAN keeps all it
holds. For a frame of one ASDU that one subscription takes, whose slices are not in simulation mode: another svID or
confRev is counted and reported; a frame that demands a tag and has none that passes is counted in AUTHFAIL; else an
in-order sample that is young enough is accepted, enters every slot that takes one of its channels and counts the samples
it skips as missing, and a repeated, earlier or impossible smpCnt and one too old are discarded and counted. Instants are
in units of 2⁻¹⁶ ns (R138); what goes back is log 78. -/
def Obligations.SampledValuesAreAcceptedInOrder : Prop :=
  ∀ (fr : SvFrame) (s : State),
    let hit (j : Nat) : Bool := (s.pkg.svs.get j).en && (s.pkg.svs.get j).appid = fr.appid &&
      (s.pkg.svs.get j).vlan = fr.vlan
    (∀ at_, s.Gives (.svFrameRx fr at_) [.now, .col, .svs, .chains, .chSlots, .obs, .recs] fun t =>
      t.now = max s.now at_ ∧ ∀ j, j < 512 → hit j = false → t.svs.get j = s.svs.get j) ∧
    (∀ (k : Nat) (a : SvAsdu),
      let c := s.pkg.svs.get k
      let x := s.svs.get k
      let q := x.real
      let own := s.svOwners k
      let n := svCounts c.rate
      let cnt := a.smpCnt
      let unsync := decide (fr.smpSynch ≠ 2)
      let tin := if fr.smpSynch = 2 then svInstant c.rate cnt s.tai else (s.tai - c.nomlatNs) * 65536
      let noKey := x.keyCur = 0 ∧ x.keyNext = 0
      let y := { x with unsync := unsync, nextPass := if x.keyCur = 0 then x.nextPass else 0 }
      let stale := n ≤ cnt ∨ svBack q c.rate cnt tin unsync = true
      let old := c.maxAgeUs * 1000 * 65536 < s.tai * 65536 - tin
      let gap := if q.have_ = true ∧ q.st = .receiving then (cnt + n - q.lastSmp) % n - 1 else 0
      s.pkg.svs.keys.filter hit = [k] → fr.asdus = [a] → fr.simulated = false →
      (own.all fun i => !s.pkg.simSlices.contains i) = true →
      (fr.svid ≠ c.svid ∨ fr.confRev ≠ c.confRev →
        s.Gives (.svFrameRx fr s.now) [.svs, .recs] fun t =>
          (t.svs.get k).seqerr = min (x.seqerr + 1) 0xFFFFFFFF ∧ (t.svs.get k).real = q ∧ (t.svs.get k).sim = x.sim ∧
          (x.lastCfgEvent = none → (Ev.svConfig, k, s.now) ∈ t.recs.evr.events)) ∧
      (fr.svid = c.svid → fr.confRev = c.confRev →
        (c.authReq = true → noKey ∨ (fr.tagCur = false ∧ fr.tagNext = false) →
          s.Gives (.svFrameRx fr s.now) [.svs, .obs] fun t =>
            t.svs.get k = { x with authfail := min (x.authfail + 1) 0xFFFFFFFF, nextPass := 0 }) ∧
        ((noKey ∧ c.authReq = false) ∨
            (x.keyCur ≠ 0 ∧ s.keyCheck x.keyCur (algBit c.alg) own = none ∧ fr.tagCur = true) →
          (stale → s.Gives (.svFrameRx fr s.now) [.svs] fun t =>
            t.svs.get k = { y with seqerr := min (x.seqerr + 1) 0xFFFFFFFF }) ∧
          (¬ stale → old → s.Gives (.svFrameRx fr s.now) [.svs] fun t =>
            t.svs.get k = { y with late := min (x.late + 1) 0xFFFFFFFF }) ∧
          (¬ stale → ¬ old → s.Gives (.svFrameRx fr s.now) [.svs, .chains, .chSlots] fun t =>
            t.svs.get k =
              { y with shown := false, miss := min (x.miss + (gap - q.missRun)) 0xFFFFFFFF
                       real := { st := .receiving, unsync := unsync, have_ := true, lastSmp := cnt, lastAt := tin,
                                 missRun := 0, lastVals := a.channels } } ∧
            ∀ l i v w, (l, i) ∈ s.svTargets k false → a.channels[(s.pkg.slots.get (slotKey l i)).chan]? = some (v, w) →
              ∃ m h, (t.chSlots.get (slotKey l i)).hist.head? =
                some { value := v, quality := (w &&& 0x3FFF) ||| (if unsync then 0x20000000 else 0), smpCnt := cnt,
                       tin := tin, n := m, valid := h }))))

/-- Streams and chains (R139, R140, R143 to R146). Sixteen passes in a row make KEY_NEXT the current key. A sample that
can no longer arrive counts as missing, and the fourth in a row makes the stream LOST, so that its slots fill afresh. A
chain that is ON writes the record of its next decimated input: the rounded filter sum over the delayed history where the
manual states one, the stamp of the input less group delay and slot delay, SUBST where the filter spans a substitute, and
FILLING with validity 1 until FILL_N valid inputs have entered, up to the output's own. -/
def Obligations.StreamsAndFocusChains : Prop :=
  ∀ s : State,
    (∀ k : Fin 512, 16 ≤ (s.svs.get k).nextPass →
      exec (.svKeySwitch k) s =
        .next (s.updSv k fun x => { x with keyCur := x.keyNext, keyNext := 0, nextPass := 0 })) ∧
    (∀ (k : Fin 512) (sim : Bool),
      let x := s.svs.get k
      let c := s.pkg.svs.get k
      let q := svSeq x sim
      let due := (q.lastAt + (q.missRun + 1) * 1000000000 * 65536 / svRate c.rate) / 65536 + c.maxAgeUs * 1000 + 1
      q.st = .receiving → (svSeq x !sim).st ≠ .receiving → due < 2 ^ 64 → s.reaches due = true →
      s.Gives (.svSampleTimeout k) [.now, .col, .svs, .chSlots] fun t =>
        t.tai = max s.tai due ∧ (t.svs.get k).miss = min (x.miss + 1) 0xFFFFFFFF ∧
        svSeq (t.svs.get k) (!sim) = svSeq x !sim ∧
        svSeq (t.svs.get k) sim =
          { q with missRun := q.missRun + 1, st := if 3 ≤ q.missRun then .lost else .receiving } ∧
        (q.missRun < 3 → t.chSlots = s.chSlots) ∧
        (3 ≤ q.missRun → ∀ l i, (l, i) ∈ s.svTargets k sim → (t.chSlots.get (slotKey l i)).valid = 0)) ∧
    (∀ (l : Fin 16) (c : Fin 32) (i n : Nat) (x : SlotIn) (r : List SlotIn),
      let cc := s.pkg.chains.get (chainKey l c)
      let y := s.chSlots.get (slotKey l i)
      let taps := (s.chains.get (chainKey l c)).taps
      let lag := y.delay * svRate cc.rate
      let hist := (x :: r).drop (lag / 1000000000)
      let sum := firSum taps hist
      s.unitOn (.chain l c) = true → (s.lenses.get l).fenced = false → s.chainSlots l c = [i] →
      (s.pkg.slots.get (slotKey l i)).chain = c.val → y.ready = none → s.nextOutput l i = some n →
      (y.hist.dropWhile fun z => z.n ≠ n) = x :: r →
      s.Gives (.focusChainOutput l c) [.freeIdx, .chSlots] fun t =>
        let z := t.chSlots.get (slotKey l i)
        z = { y with out := z.out, prev := y.out, ready := some (x.smpCnt, x.tin), doneTo := n } ∧
        (x.smpCnt + 1) % decim cc.preset cc.rate = 0 ∧ z.out.smpCnt = x.smpCnt ∧
        z.out.ts = BitVec.ofInt 32 ((x.tin / 65536 : Nat) - ((s.chains.get (chainKey l c)).gd : Int) - y.delay) ∧
        (lag % 1000000000 = 0 → taps.length ≤ hist.length → -(2 ^ 47) ≤ sum → sum < 2 ^ 47 →
          z.out.value = satInt 32 (roundAt sum 15 2)) ∧
        (lag % 1000000000 = 0 →
          (z.out.quality &&& 0x10000000 ≠ 0 ↔ ∃ w, w ∈ hist.take taps.length ∧ w.quality &&& 0x10000000 ≠ 0)) ∧
        (x.valid < s.fillN l i → z.out.quality &&& 0x40000003 = 0x40000001) ∧
        (s.fillN l i ≤ x.valid → z.out.quality &&& 0x40000000 = 0))

/-- The tick of a protection cycle (R152 to R154), where every slot of the slice has produced the output after one
input, or where the deadline of the next input has passed: the cycle number advances, the cycle is that of input k, and
EVALUATE begins with the input buffer n mod 2 of every facet, which starts with the cycle number. A slot without an
output has its last value with MISSING and validity 1. While RUN is being cleared the programs stop here (R58). GOOSE
(R160 to R163). The next frame of an enabled publisher leaves at its instant, with the same stNum, the next sqNum, the
dataset of its last change and the doubled interval up to T0: it enters the switch core at its lens port, which may
sample it (R246), in TC7 for a publisher bound to lanes and else in TC3, and a command publisher keeps its record first;
a command publisher without the grant sends nothing. A subscription without keys takes a frame with new numbers as its
record, valid for its timeAllowedToLive, and ignores a repeated one and one with the simulation flag outside simulation
mode; where it demands a tag the frame is counted. The record turns INVALID at its expiry. -/
def Obligations.ProtectionTicksAndGooseFrames : Prop :=
  (∀ (p : Fin 64) (s : State),
     let c := s.pkg.prots.get p
     let x := s.prots.get p
     let ready := s.protReady p
     let n := x.cycle + 1
     let stops : List Part := if s.glb.halting
       then [.freeIdx, .lanes, .tos, .gps, .arms, .sms, .beams, .pwms, .swc, .obs, .outputs] else []
     let parts : List Part := [.facets, .progs, .lenses, .fencedFlash, .chains, .chSlots, .fns, .pcOvr, .pcDeadline, .prots,
       .hif, .mlk, .recs] ++ stops
     let begun (t : State) (k : Nat × Nat) : Prop :=
       (t.prots.get p).cycle = n ∧ (t.prots.get p).last = some k ∧ (t.prots.get p).evaluating = true ∧
       (t.prots.get p).evalStart = t.now ∧
       (∀ h, h ∈ c.facets → ∃ w, (if n % 2 = 0 then (t.progs.get (fKey c.lens h)).inWin0
         else (t.progs.get (fKey c.lens h)).inWin1) = leBytes 8 n ++ w) ∧
       (∀ i, i ∈ s.protSlots p → (s.chSlots.get (slotKey c.lens i)).ready = none →
         let y := s.chSlots.get (slotKey c.lens i)
         let z := t.chSlots.get (slotKey c.lens i)
         z.out.value = y.out.value ∧ z.out.quality = 0x80000001 ∧ z.out.smpCnt = k.1)
     s.protRuns p = true → (s.lenses.get c.lens).relocTo = none →
     (∀ i k rest, ready = (i, k) :: rest → ready.length = (s.protSlots p).length →
       ready.all (fun z => z.2.1 = k.1) = true →
       s.Gives (.protCycleTick p) parts fun t => t.now = s.now ∧ begun t k) ∧
     (ready.length < (s.protSlots p).length →
       let k := s.protCand p
       let due := k.2 / 65536 + c.svLatUs * 1000
       due < 2 ^ 64 → s.reaches due = true → s.Gives (.protDeadline p) (.now :: .col :: parts) fun t => t.tai = max s.tai due ∧ begun t k)) ∧
  (∀ s : State,
     (∀ (g : Fin 64) (at_ : Nat),
       let c := s.pkg.gps.get g
       let x := s.gps.get g
       let iv := min (2 * x.interval) (c.t0 * 10000000)
       let sq := if 0xFFFFFFFF ≤ x.sqNum then 1 else x.sqNum + 1
       let sim := s.pkg.simSlices.contains c.slice
       let glint := s.swc.glint.get (8 + c.lens)
       let sampled : List Part := if glint.dir = 1 ∧ glint.n ≠ 0 then [.freeIdx, .hif, .recs, .outputs] else []
       x.nextSend = some at_ →
       (c.en = true → c.command = false ∨ s.mlk.grant = true →
         s.Gives (.gooseRetransmit g) ([.now, .col, .gps, .mlk, .obs, .swc] ++ sampled) fun t =>
           let y := t.gps.get g
           t.now = max s.now at_ ∧ y.stNum = x.stNum ∧ y.sqNum = sq ∧ y.interval = iv ∧ y.nextSend = some (t.now + iv) ∧
           y.data = x.data ∧ (c.command = true → y.record = some (x.stNum, sq, dataDigest x.data)) ∧
           ∃ (u : State) (tal : Nat) (tag : Option (Nat × Nat)),
             u.swc = s.swc ∧ 2 * iv ≤ tal * 1000000 ∧ tal * 1000000 < 2 * iv + 1000000 ∧ (x.keyCur = 0 → tag = none) ∧
             t = u.sendBuilt c.lens (if c.lanes = 0 then 3 else 7) c.ports c.command
               { len := c.len, dst := c.dst, ethertype := 0x88B8, vlan := c.vlan, pcp := c.pcp
                 app := some (.goose { pub := g, stNum := x.stNum, sqNum := sq, talMs := tal, test := sim,
                                       simulated := sim, tag := tag, members := x.data }) }) ∧
       (c.en = false ∨ (c.command = true ∧ s.mlk.grant = false) →
         s.Gives (.gooseRetransmit g) [.now, .col] fun t => t.now = max s.now at_)) ∧
     (∀ (k : Fin 256) (fr : GooseFrame),
       let c := s.pkg.gss.get k
       let x := s.gss.get k
       let seen := x.expiry ≠ none ∧ fr.stNum = x.stNum ∧ fr.sqNum = x.sqNum
       c.en = true → x.keyCur = 0 → x.keyNext = 0 →
       (c.authReq = true → s.Gives (.gooseRx k fr s.now) [.gss] fun t =>
         t.gss = s.gss.set k { x with authfail := min (x.authfail + 1) 0xFFFFFFFF, nextPass := 0 }) ∧
       (c.authReq = false →
         let out := fr.simulated = true ∧ s.pkg.simSlices.contains c.slice = false
         (¬ out → ¬ seen →
           s.Gives (.gooseRx k fr s.now) [.gss] fun t =>
             t.gss = s.gss.set k { x with stNum := fr.stNum, sqNum := fr.sqNum, valid := true, members := fr.members,
                                          expiry := some (s.now + fr.talMs * 1000000) }) ∧
         (out ∨ seen → exec (.gooseRx k fr s.now) s = .next s))) ∧
     (∀ (k : Fin 256) (at_ : Nat), (s.gss.get k).expiry = some at_ → (s.gss.get k).valid = true →
       s.Gives (.gooseTalExpiry k) [.now, .col, .gss] fun t =>
         t.now = max s.now at_ ∧ t.gss = s.gss.set k { s.gss.get k with valid := false }))

/-- Trip outputs (R158, R466). When MINON has elapsed a closed output opens if no mapped lane is asserted and LATCH is 0
or a TRIP_RESET has executed, and stays closed otherwise. An overload through a driven output is flagged and leaves it
closed. The voltage of an open output is kept; below 10 V sets NOLOAD with its event, above 15 V clears it. Optical trip
inputs (R16, R17, R204, R205, R461). A filtered activation is counted and asserts every lane of an enabled input; the
release releases them; an input active for longer than its limit is STUCK; a dark-active input whose power stays low
sets LOW with its event. -/
def Obligations.TripOutputsAndInputs : Prop :=
  (∀ (m : Fin 4) (s : State),
     let c := s.pkg.tos.get m
     let x := s.tos.get m
     let driven := x.closed && s.mlk.grant
     (x.closed = true →
       (s.maskOn c.mask = false → c.latch = false ∨ x.resetDone = true →
         s.Gives (.toMinonExpiry m) [.now, .col, .tos, .outputs] fun t =>
           t.now = max s.now (x.lastEdge + c.minonMs * 1000000) ∧
           t.tos = s.tos.set m { x with closed := false, latched := false } ∧
           t.outputs = s.outputs ++ (if s.mlk.grant then [.tripOut m false] else [])) ∧
       (s.maskOn c.mask = true ∨ (c.latch = true ∧ x.resetDone = false) →
         s.Gives (.toMinonExpiry m) [.now, .col] fun t => t.now = max s.now (x.lastEdge + c.minonMs * 1000000))) ∧
     (driven = true → s.Gives (.toOverload m) [.tos, .recs] fun t =>
       t.tos = s.tos.set m { x with overload := true } ∧ (Ev.toOverload, m.val, s.now) ∈ t.recs.evr.events) ∧
     (∀ v, driven = false → s.Gives (.toNoload m v) [.tos, .recs, .hw] fun t =>
       t.hw = { s.hw with toOffv := s.hw.toOffv.set m (min v 255) } ∧
       (t.tos.get m) = { x with noload := if v < 20 then true else if 30 < v then false else x.noload } ∧
       (v < 20 → x.noload = false → (Ev.toNoload, m.val, s.now) ∈ t.recs.evr.events) ∧
       (20 ≤ v → t.recs = s.recs))) ∧
  (∀ (i : Fin 8) (s : State),
     let c := s.pkg.tis.get i
     let x := s.tis.get i
     let d := tiDriver i
     (x.active = false → s.Gives (.tiFilterChange i true s.now)
       [.freeIdx, .lanes, .tos, .gps, .arms, .sms, .beams, .pwms, .tis, .swc, .hif, .mlk, .recs, .obs, .outputs] fun t =>
         (t.tis.get i).active = true ∧ (t.tis.get i).activeSince = s.now ∧
         (t.tis.get i).acts = min (x.acts + 1) 0xFFFF ∧
         (c.en = true → ∀ n, n < 64 → c.lanes.getLsbD n = true → t.laneOn n = true) ∧
         (c.en = false → t.lanes = s.lanes) ∧ ∀ j, j ≠ i.val → t.tis.get j = s.tis.get j) ∧
     (x.active = true → s.Gives (.tiFilterChange i false s.now)
       [.freeIdx, .lanes, .tos, .gps, .arms, .sms, .beams, .pwms, .tis, .swc, .hif, .mlk, .recs, .obs, .outputs] fun t =>
         t.tis = s.tis.set i { x with active := false, stuck := false } ∧ (∀ n, n < 64 → d ∉ t.lanes.get n) ∧
         ∀ n e, e ≠ d → (e ∈ t.lanes.get n ↔ e ∈ s.lanes.get n)) ∧
     (x.active = true → x.stuck = false → s.Gives (.tiStuck i) [.now, .col, .tis, .recs] fun t =>
       t.now = max s.now (x.activeSince + c.stuckLim * 100000000 + 1) ∧ t.tis = s.tis.set i { x with stuck := true } ∧
       (Ev.tiStuck, i.val, t.now) ∈ t.recs.evr.events) ∧
     (∀ low, c.darkActive = true → s.Gives (.tiLow i low) [.tis, .recs] fun t =>
       t.tis = s.tis.set i { x with low := low } ∧
       (low = true → x.low = false → (Ev.tiLow, i.val, s.now) ∈ t.recs.evr.events) ∧
       (low = false → t.recs = s.recs)))

/-- Settings and switches (R147, R148, R156 to R158), for a descriptor that runs. SETTINGS_LOAD writes the inactive bank
of the function where its values fit, else ends with SETTINGS_RANGE; one that waited for the bank does the same when it
may. SETTINGS_SWITCH and SWITCH_CONSUMERS wait for their tick. TRIP_RESET lets every named output open whose lanes are
all released, and names them. -/
def Obligations.SettingsAndTripResets : Prop :=
  ∀ (i : Fin 64) (r : Fin 8) (e : JEntry) (s : State),
    let d := e.desc
    let k := fnKey (d.num 32 1) (d.num 33 1) (d.num 34 1)
    let x := s.fns.get k
    let load (c : Instr) (p : Nat) (bs : List Byte) : Prop :=
      let v := bytesAt bs 0 d.length
      (settingsFit (s.pkg.prots.get p).ranges (d.num 33 1 * 32 + d.num 34 1) v = true → ∃ t, exec c s = .next t ∧
        t.Ended e.jseq cOk (if x.active then 0 else 1) ∧
        t.fns = s.fns.set k (if x.active then { x with bankA := v } else { x with bankB := v })) ∧
      (settingsFit (s.pkg.prots.get p).ranges (d.num 33 1 * 32 + d.num 34 1) v = false → ∃ t, exec c s = .next t ∧
        t.Ended e.jseq 0x0503 0 ∧ t.fns = s.fns)
    (∀ p bs, s.Runs i r (settingsForm i 0x21 [(32, 3)] true s) e → s.fnNamed d = some p → 0 < d.length →
      d.length ≤ 2048 → x.pending = none → s.bankHeld p k = false → load (.settingsLoad i r (some bs)) p bs) ∧
    (∀ p bs, (s.ringJ i r).find? (fun z => z.state = .started && z.desc.opcode = 0x21) = some e →
      s.jEntry e.jseq = some e → s.fnNamed d = some p → x.refused.contains e.jseq = false → s.bankHeld p k = false →
      load (.settingsLoadDeferred i r (some bs)) p bs) ∧
    (∀ p, s.Runs i r (settingsForm i 0x22 [(32, 3), (40, 8)] false s) e → s.fnNamed d = some p → x.pending = none →
      ∃ t, exec (.settingsSwitch i r) s = .next t ∧ t.Waits e.jseq ∧
        t.fns = s.fns.set k { x with pending := some (d.num 40 8, e.jseq) }) ∧
    (s.Runs i r { opcode := 0x23, used := [(32, 1)], may := fun _ => i.val = 0 } e → 0 < d.num 32 1 → d.num 32 1 < 16 →
      let free := (List.range 4).filter fun m => (d.num 32 1).testBit m && !s.maskOn (s.pkg.tos.get m).mask
      let all := (List.range 4).all fun m => !((d.num 32 1).testBit m && s.maskOn (s.pkg.tos.get m).mask)
      ∃ t, exec (.tripReset i r) s = .next t ∧
        t.Ended e.jseq (if all then cOk else 0x0505) (free.foldl (fun n m => n + 2 ^ m) 0) ∧
        ∀ m, m ∈ free → (t.tos.get m).resetDone = true ∧ (t.tos.get m).latched = false)

/-- FOCUS_CTRL and KEY_ROTATE (R139, R144, R147 to R149), for a descriptor that runs. LOAD_BANK replaces the taps and the
declared group delay of a chain that is OFF; SET_DELAY sets a slot's delay, by at most 1 us on a running chain;
SWITCH_CONSUMERS waits for the tick of the slice that consumes the chain; KEY_ROTATE makes a slot that may be used the
next key of a subscription and the current key of a publisher. -/
def Obligations.FocusControlAndKeyRotation : Prop :=
  ∀ (i : Fin 64) (r : Fin 8) (e : JEntry) (s : State),
    let d := e.desc
    let l := d.num 33 1
    let c := d.num 34 1
    let n := d.num 48 1
    let k := slotKey l (d.num 35 1)
    let keyForm : DescForm := { opcode := 0x24, used := [(32, 1), (34, 3)], may := fun _ => i.val = 0 }
    let u := d.num 34 2
    let slot := d.num 36 1
    (∀ ts, s.Runs i r (focusForm i 1 s) e → s.chainNamed l c = true → 0 < n → n ≤ 128 → d.length = 2 * n →
      ((s.unit (.chain l c)).st = .off → ts.length = n → (∀ v, v ∈ ts → -0x8000 ≤ v ∧ v < 0x8000) →
        ∃ t, exec (.loadBank i r (some ts)) s = .next t ∧ t.Ended e.jseq cOk 0 ∧
          t.chains = s.chains.upd (chainKey l c) fun x => { x with taps := ts, gd := d.num 44 4 }) ∧
      ((s.unit (.chain l c)).st ≠ .off →
        ∃ t, exec (.loadBank i r (some ts)) s = .next t ∧ t.Ended e.jseq 0x0500 0 ∧ t.chains = s.chains)) ∧
    (s.Runs i r (focusForm i 3 s) e → s.chainNamed l c = true → (s.pkg.slots.get k).en = true →
      (s.pkg.slots.get k).chain = c → d.num 40 4 ≤ 1000000 →
      let v := d.num 40 4
      let old := (s.chSlots.get k).delay
      ((s.unit (.chain l c)).st = .off ∨ (v ≤ old + 1000 ∧ old ≤ v + 1000) →
        ∃ t, exec (.setDelay i r) s = .next t ∧ t.Ended e.jseq cOk 0 ∧
          t.chSlots = s.chSlots.upd k fun y => { y with delay := v }) ∧
      ((s.unit (.chain l c)).st ≠ .off → old + 1000 < v ∨ v + 1000 < old →
        ∃ t, exec (.setDelay i r) s = .next t ∧ t.Ended e.jseq 0x0502 0 ∧ t.chSlots = s.chSlots)) ∧
    (∀ p, s.Runs i r (focusForm i 2 s) e →
      let z := d.num 36 1
      let a := s.pkg.chains.get (chainKey l c)
      let b := s.pkg.chains.get (chainKey l z)
      s.chainNamed l c = true → s.chainNamed l z = true → a.rate = b.rate → a.preset = b.preset →
      (s.chainSlots l c).length = (s.chainSlots l z).length →
      ((List.range 64).find? fun j => (s.pkg.prots.get j).present && (s.pkg.prots.get j).lens = l &&
        (s.prots.get j).chains.contains c) = some p →
      (s.prots.get p).switch = [] → s.unitOn (.chain l z) = true → s.chainFilling l z = false →
      ∃ t, exec (.switchConsumers i r) s = .next t ∧ t.Waits e.jseq ∧
        t.prots = s.prots.upd p fun x => { x with switch := [(c, z, e.jseq)] }) ∧
    (s.Runs i r keyForm e → 4 ≤ slot →
      (d.num 32 1 = 0 → u < 512 → (s.pkg.svs.get u).en = true →
        s.keyCheck slot (algBit (s.pkg.svs.get u).alg) (s.svOwners u) = none →
        ∃ t, exec (.keyRotate i r) s = .next t ∧ t.Ended e.jseq cOk 0 ∧
          t.svs = s.svs.upd u fun x => { x with keyNext := slot, nextPass := 0 }) ∧
      (d.num 32 1 = 1 → u < 256 → (s.pkg.gss.get u).en = true →
        s.keyCheck slot (algBit (s.pkg.gss.get u).alg) [(s.pkg.gss.get u).slice] = none →
        ∃ t, exec (.keyRotate i r) s = .next t ∧ t.Ended e.jseq cOk 0 ∧
          t.gss = s.gss.upd u fun x => { x with keyNext := slot, nextPass := 0 }) ∧
      (d.num 32 1 = 2 → u < 64 → (s.pkg.gps.get u).en = true →
        s.keyCheck slot (algBit (s.pkg.gps.get u).alg) [(s.pkg.gps.get u).slice] = none →
        ∃ t, exec (.keyRotate i r) s = .next t ∧ t.Ended e.jseq cOk 0 ∧
          t.gps = s.gps.upd u fun x => { x with keyCur := slot }))

/-! ## Converter, beam lanes and local PWM -/

/-- The phases of a converter frame (R168, R186, R190, R191, R215). A tick seals the frame before, numbers the frame
from the pulse and opens GATHER; a deblocked arm whose BLOCK is due is BLOCKED from it. A tick that does not come is
counted and leaves the frame idle. COMPUTE classes every sub-module and starts ranking; EMIT takes each arm's record or
holds, trips an arm whose rank is not complete, and gives every lane that is ON a REGULAR frame of 128 commands, all
BLOCK for an arm that is not deblocked, which waits for its start on the lane, within the time that the bound of R169
leaves the compilation (log 82). Ranking and classes (R169, R174, R178 to R180, R186, R190). Within the bound of R169
(log 94) the engine of an arm orders its usable sub-modules by key, then number, and each gets its place as its rank, an
excluded one 0xFFFF. A fresh, good entry makes a sub-module valid; without one it ages and is excluded past the stale
limit; a failed one is excluded. An arm at its hold limit trips: its sub-modules are blocked, no frame that waits on its
lanes carries another form, and a TRIP_BLOCK frame leaves a lane that is free at once. -/
def Obligations.ConverterFramesAndRanks : Prop :=
  (∀ s : State, s.cnvRuns = true → (∀ a, (s.pkg.arms.get a).smCount ≤ 2048) →
     (∀ n t0, s.frameDue = some (n, t0) → t0 < 2 ^ 64 →
       (∃ t, exec .cfFrameTick s = .next t ∧ t.tai = max s.tai t0 ∧ t.cnv.fnum = n ∧ t.cnv.lastPulse = some n ∧
         t.cnv.phase = .gather ∧ t.cnv.tickAt = t.now ∧ t.cnv.tickTai = t0 ∧ t.cnv.sealDue = false ∧
         ∀ a, s.svc.staged = none → a ∈ s.armList → (s.arms.get a).op = .deblocked → (s.arms.get a).pend = none →
           (∃ p, p ∈ (s.arms.get a).blockAt ∧ p.2 ≤ n) → (t.arms.get a).op = .blocked) ∧
       (s.Gives .cfTickMissing [.now, .col, .freeIdx, .cnv, .beams, .hif, .mlk, .outputs] fun t =>
         t.cnv = { s.cnv with sealDue := false, lastPulse := some n, phase := .idle,
                              tickMiss := min (s.cnv.tickMiss + 1) 0xFFFFFFFF })) ∧
     (s.cnv.phase = .gather → ∃ t, exec .cfComputeStart s = .next t ∧
       t.now = max s.now (s.cnv.tickAt + s.pkg.cnv.cf * 3 / 10) ∧ t.cnv = { s.cnv with phase := .compute } ∧
       (s.glb.halting = false → ∀ a, a ∈ s.armList →
         (t.arms.get a).ranking = !(s.pkg.arms.get a).psc ∧ (t.arms.get a).out = none ∧
         ∀ i, i < (s.pkg.arms.get a).smCount → t.sm a i = hubClass (s.pkg.arms.get a) (s.sm a i))) ∧
     (s.cnv.phase = .compute →
       s.Gives .cfEmitStart [.now, .col, .freeIdx, .facets, .progs, .cnv, .arms, .sms, .engines, .beams, .hif, .mlk, .outputs] fun t =>
         t.now = max s.now (s.cnv.tickAt + s.pkg.cnv.cf * 7 / 10) ∧
         t.cnv = { s.cnv with phase := .emit, sealDue := true } ∧
         ∀ a, a ∈ s.armList →
           let x := s.arms.get a
           let y := t.arms.get a
           (x.ranking = true → y.op = .tripped) ∧
           (∀ o, x.out = some o → y.lastOut = o ∧ y.held = false ∧ y.heldRun = 0) ∧
           (x.out = none → s.unitOn (.arm a) = true → y.held = true ∧ y.heldRun = x.heldRun + 1) ∧
           ∀ l, l ∈ s.armLanes a → s.unitOn (.beam l) = true → ∃ i ks,
             i ∈ (t.beams.get l).out ∧ i.body = .regular ks ∧ ks.length = 128 ∧ i.len = 1750 ∧
             i.fnum = some (s.cnv.fnum % 2 ^ 32) ∧ i.tick = s.cnv.tickTai % 2 ^ 48 ∧
             (let c := s.pkg.arms.get a
              let emit := s.cnv.tickAt + s.pkg.cnv.cf * 7 / 10
              emit ≤ i.start ∧ i.start ≤ emit + (100 + 200 * (l - c.firstLane) / (c.lanes - 1))) ∧
             (∀ k, k ∈ ks → k.form ≠ .block → k.dead = (s.pkg.arms.get a).dead) ∧
             (x.op ≠ .deblocked → ∀ k, k ∈ ks → k.form = .block))) ∧
  ((∀ (e : Fin 8) (s : State),
     let a := (s.engines.get e).arm
     let c := s.pkg.arms.get a
     let x := s.arms.get a
     let key (i : Nat) : Nat := rankKey s.cnv.fnum x.dir i (s.sm a i)
     s.cnv.phase = .compute → x.ranking = true → s.engineOf a = some e.val → x.rankAfresh = true ∨ c.tol ≤ x.vmax - x.vmin →
       s.Gives (.prismRankDone e) [.now, .col, .freeIdx, .arms, .sms, .engines] fun t =>
         let y := t.arms.get a
         let start := s.cnv.tickAt + s.pkg.cnv.cf * 3 / 10
         s.now ≤ t.now ∧ start ≤ t.now ∧ t.now ≤ max s.now (start + (150 + (x.avail + 1) / 2)) ∧
         (t.engines.get e).rankTime = min ((t.now - start + 9) / 10) 255 ∧
         y = { x with order := y.order, ranking := false, ranked := true, rankAfresh := false, tolHeld := false } ∧
         (∀ i, i ∈ y.order ↔ i < c.smCount ∧ (s.sm a i).excluded = false) ∧ y.order.Nodup ∧
         y.order.Pairwise (fun i j => key i < key j ∨ (key i = key j ∧ i < j)) ∧
         (∀ k i, y.order[k]? = some i → (t.sm a i).rank = k) ∧
         (∀ i, i < c.smCount → (s.sm a i).excluded = true → (t.sm a i).rank = 0xFFFF)) ∧
   (∀ (c : ArmCfg) (x : SmSt),
     (∀ e, x.fresh = some e → e.failed = false → x.excluded = false ∨ c.deblockFrames ≤ x.streak →
       hubClass c x = { x with vcap := e.vcap, status := e.status, temp := e.temp, applied := e.applied, age := 0,
                               valid := true, stale := false, failed := false, excluded := false, streak := 0,
                               fresh := none, taken := (x.taken + 1) % 2 ^ 32 }) ∧
     (∀ e, x.fresh = some e → e.failed = true → (hubClass c x).excluded = true ∧ (hubClass c x).failed = true) ∧
     (x.fresh = none → c.staleLimit < 255 → x.age ≤ 255 → x.excluded = false →
       (hubClass c x).age = min (x.age + 1) 255 ∧ (hubClass c x).valid = false ∧
       (hubClass c x).excluded = decide (c.staleLimit < x.age + 1))) ∧
   (∀ (a : Fin 8) (s : State),
     let x := s.arms.get a
     x.op = .deblocked → 0 < x.heldRun → (s.pkg.arms.get a).holdLimit ≤ x.heldRun →
       s.Gives (.armHoldLimit a) [.freeIdx, .arms, .sms, .beams, .hif, .mlk, .outputs] fun t =>
         t.arms = s.arms.set a { x with op := .tripped, cause := .noOutput, trip := true,
                                        blockCnt := min (x.blockCnt + 1) 0xFFFFFFFF } ∧
         (∀ i, i < 2048 → (smKey a i) ∈ s.sms.keys → (t.sm a i).cur = .block) ∧
         ∀ l, l ∈ s.armLanes a → s.unitOn (.beam l) = true →
           (∀ i ks, i ∈ (t.beams.get l).out → i.body = .regular ks → ∀ k, k ∈ ks → k.form = .block) ∧
           ((s.beams.get l).out = [] → (s.beams.get l).busyTo ≤ s.now → ∃ o, o ≤ 200 ∧
             Emission.beam { lane := l, active := s.mlk.grant, fnum := (s.beams.get l).lastReg, tick := s.beamTick s.now,
                             modnum := s.glb.modnum.toNat, launch := tsOf (s.taiOf (s.now + o)) } .tripBlock
               ∈ t.outputs)))

/-- Arms and beam lanes (R187, R188, R201, R218 to R222, R225). A deblock past 100 ms ends with its first failed
condition; a trip flag clears only once its input is quiet, else the refusal shows (R3 and R50 say where the write does
not reach it). A lane loses and gains its lock with its alarm. A frame that fails its CRC or its header is counted; a good
one in GATHER gives its entries to the sub-modules, whose APPLIED is BLOCK while the concentrator blocks. A calibration is
due, takes the delays of a reply within 10 ms (RTT is the arrival less LAUNCH), or fails and keeps its values; frames that
have started by then have left (log 82). -/
def Obligations.ArmTripsAndBeamLanes : Prop :=
  ∀ s : State,
    (∀ (a : Fin 8) (j t0 n k : Nat), (s.arms.get a).pend = some (j, t0, n) → (s.arms.get a).op = .pending →
      a.val ∈ s.arms.keys → minList (((s.deblockSet j).map s.deblockFail).filter fun z => z ≠ 0) = some k →
      s.Gives (.deblockTimeout a) [.now, .col, .arms, .hif, .mlk] fun t =>
        t.now = max s.now (t0 + 100000000) ∧ (t.arms.get a).op = .blocked ∧ (t.arms.get a).pend = none ∧
        ∀ e, s.jEntry j = some e → e.state = .started → t.Ended j 0x0601 (k * 2 ^ 72)) ∧
    (∀ a : Fin 8,
      let x := s.arms.get a
      x.trip = true →
      let quiet := s.maskOn (s.pkg.arms.get a).mask = false ∧ quietAt x.maskHist s.qualNs (s.now + 1) = true
      (s.windowOpen .h0 = false → exec (.armTripClear a) s = .next s.notReadyWrite) ∧
      (s.windowOpen .h0 = true → cnvPresent = false → exec (.armTripClear a) s = .next s.setAbsent) ∧
      (s.windowOpen .h0 = true → cnvPresent = true →
        (quiet → exec (.armTripClear a) s = .next (s.updArm a fun y =>
          { y with trip := false, op := if x.op = .tripped then .blocked else x.op })) ∧
        (¬ quiet → exec (.armTripClear a) s = .next (s.updArm a fun y => { y with clearRefused := true })))) ∧
    (∀ l : Fin 64,
      let b := s.beams.get l
      (b.locked = true → s.Gives (.beamLockLost l) [.beams, .recs] fun t =>
        t.beams = s.beams.set l { b with locked := false } ∧ (Ev.beamLink, l.val) ∈ t.recs.evr.alarms) ∧
      (cnvPresent = true → s.Gives (.beamLockAcquired l) [.beams, .recs] fun t =>
        t.beams = s.beams.set l { b with locked := true } ∧ (Ev.beamLink, l.val) ∉ t.recs.evr.alarms) ∧
      (let u := s.flushBeam l
       let b := u.beams.get l
       s.cnvRuns = true → calBusy b = false →
        ((s.unit (.beam l)).st = .starting → s.Gives (.beamCalDue l) [.freeIdx, .beams, .outputs] fun t =>
          t.beams = u.beams.set l { b with calDue := true, calStart := s.now }) ∧
        ((s.unit (.beam l)).st = .on → s.Gives (.beamCalDue l) [.now, .col, .freeIdx, .beams, .outputs] fun t =>
          t.now = max s.now (b.calStart + s.pkg.cnv.calIntervalS * 1000000000) ∧
          t.beams = u.beams.set l { b with calDue := true, calStart := t.now })) ∧
      (∀ t0 turn, ((s.flushBeam l).beams.get l).calSent = some t0 → t0 + 10000000 < s.now →
        s.Gives (.calibrateReplyRx l s.now turn) [.freeIdx, .beams, .hif, .mlk, .recs, .outputs] fun t =>
          let y := t.beams.get l
          (Ev.beamCalFail, l.val, s.now) ∈ t.recs.evr.events ∧
          y = { (s.flushBeam l).beams.get l with calSent := none, calJobs := y.calJobs }) ∧
      (∀ t0 turn, ((s.flushBeam l).beams.get l).calSent = some t0 → s.now ≤ t0 + 10000000 →
        s.Gives (.calibrateReplyRx l s.now turn) [.freeIdx, .beams, .hif, .mlk, .recs, .outputs] fun t =>
          let y := t.beams.get l
          let asym := s.pkg.beamAsym.get l
          let rtt := s.now - t0
          y.calValid = true ∧ y.rtt = rtt ∧ y.turn = turn ∧ y.calSent = none ∧
          (y.dDown : Int) = max 0 (((rtt : Int) - turn + asym + 1) / 2) ∧
          (y.dUp : Int) = max 0 (((rtt : Int) - turn - asym + 1) / 2) ∧
          y.delayMargin = decide (s.pkg.cnv.delta < 1000 + y.dDown)) ∧
      (let u := (s.upTo (lastStart b)).flushBeam l
       let b := u.beams.get l
       ∀ t0, b.calSent = some t0 →
        s.Gives (.beamCalFail l) [.now, .col, .freeIdx, .beams, .hif, .mlk, .recs, .outputs] fun t =>
          let y := t.beams.get l
          t.now = max u.now (t0 + 10000000) ∧ (Ev.beamCalFail, l.val, t.now) ∈ t.recs.evr.events ∧
          y = { b with calSent := none, calJobs := y.calJobs }) ∧
      (∀ fr : UplinkFrame, s.cnvRuns = true → b.locked = true →
        let echo := fr.cfEcho * 100 = s.pkg.cnv.cf ∧ fr.deltaEcho = s.pkg.cnv.delta
        let good := fr.syncOk = true ∧ fr.lane = l.val ∧ fr.regular = true ∧ fr.fnum = s.cnv.fnum % 2 ^ 32 ∧ echo
        let inTime := s.cnv.phase = .gather ∧ s.now + 400 ≤ s.cnv.tickAt + s.pkg.cnv.cf * 3 / 10
        (fr.crcOk = false → s.Gives (.uplinkFrameRx l fr s.now) [.beams] fun t =>
          t.beams = s.beams.set l { b with crcErr := min (b.crcErr + 1) 0xFFFFFFFF }) ∧
        (fr.crcOk = true → ¬ good → s.Gives (.uplinkFrameRx l fr s.now) [.beams, .recs] fun t =>
          (t.beams.get l).hdrErr = min (b.hdrErr + 1) 0xFFFFFFFF) ∧
        (fr.crcOk = true → good → ¬ inTime → s.Gives (.uplinkFrameRx l fr s.now) [.beams, .recs] fun t =>
          (t.beams.get l).late = min (b.late + 1) 0xFFFFFFFF ∧ (t.beams.get l).paramOk = true) ∧
        (∀ a, fr.crcOk = true → good → inTime → s.laneArm l = some (a, 0) →
          s.Gives (.uplinkFrameRx l fr s.now) [.arms, .sms, .beams, .recs] fun t =>
            (t.beams.get l).used = true ∧ (t.beams.get l).concBlocked = fr.concBlocked ∧
            (t.beams.get l).timeOk = fr.timeOk ∧ (t.arms.get a).iarmUp = some fr.iarm ∧
            (t.beams.get l).cfault = fr.cstat / 256 % 256 ∧
            (b.cfault ≠ fr.cstat / 256 % 256 →
              (Ev.concStatus, fr.cstat / 256 % 256 * 64 + l.val, s.now) ∈ t.recs.evr.events) ∧
            let stops := fr.concBlocked = true ∧ (s.arms.get a).op = .deblocked ∧ (s.arms.get a).trip = false
            (stops → (Ev.beamConcBlocked, l.val) ∈ t.recs.evr.alarms) ∧
            ∀ i e, i < 128 → i < (s.pkg.arms.get a).smCount → fr.entries[i]? = some e → e.fresh = true →
              t.sm a i = { s.sm a i with fresh := some (if stops then { e with applied := 0 } else e) })))

/-- Local PWM channels (R197, R198, R200 to R203, R206 to R208, R210, R211). A period starts at its instant; while a lane
of the mask is asserted the period is cut, without the grant the channel is gated, and in both its level is BLOCK; else
its form is compiled and its outputs never switch both transistors on. A run of cut periods is STUCK; a sync pulse gives
the next start; a lost one raises its alarm, and a channel that has had none since the commit starts; a trip flag clears
once its input is quiet. -/
def Obligations.PwmPeriodsFollowTheirBlocks : Prop :=
  ∀ (n : Fin 32) (s : State), n.val < pwmCount → (s.pwmCfg n).present = true →
    let c := s.pwmCfg n
    let x := s.pwms.get n
    (∀ t0, s.pwmNext n = some t0 → s.unitOn (.pwm n) = true →
      s.Gives (.pwmPeriodStart n) [.now, .col, .chSlots, .units, .beams, .pwms, .recs, .outputs] fun t =>
        let y := t.pwms.get n
        t.now = max s.now t0 ∧ y.running = true ∧ y.periodStart = t.now ∧ y.nextStart = none ∧
        (∀ o, o ∈ y.outs → (o.2.1 && o.2.2) = false) ∧
        (s.maskOn c.mask = true → y.blocked = true ∧ y.cur = .block ∧ y.outs = [] ∧
          y.cut = min (x.cut + 1) 0xFFFFFFFF ∧ y.cutRun = x.cutRun + 1) ∧
        (s.mlk.grant = false → y.gated = true ∧ y.cur = .block ∧ y.outs = []) ∧
        (s.maskOn c.mask = false → x.blocked = false → x.gated = false → s.mlk.grant = true →
          Emission.pwmPeriod n y.outs ∈ t.outputs ∧ y.cutRun = 0)) ∧
    (s.unitOn (.pwm n) = true → x.stuck = false → 0 < x.cutRun → c.stuckN ≤ x.cutRun →
      s.Gives (.pwmStuck n) [.pwms, .recs] fun t =>
        t.pwms = s.pwms.set n { x with stuck := true } ∧ (Ev.pwmStuck, n.val, s.now) ∈ t.recs.evr.events) ∧
    (s.Gives (.pwmSyncPulse n s.now) [.pwms, .recs] fun t =>
      let y := t.pwms.get n
      y = { x with nextStart := y.nextStart, lastSync := s.now, syncLost := false } ∧
      (Ev.pwmSyncLost, n.val) ∉ t.recs.evr.alarms ∧
      ∃ z, y.nextStart = some z ∧ s.now + c.phase ≤ z ∧ (x.running = true → 0 < c.period →
        x.periodStart + c.period ≤ z)) ∧
    (x.syncLost = false → x.running = true →
      s.Gives (.pwmSyncLost n) [.now, .col, .pwms, .recs] fun t =>
        t.now = max s.now (x.lastSync + 2 * c.period + 1000) ∧ t.pwms = s.pwms.set n { x with syncLost := true } ∧
        (Ev.pwmSyncLost, n.val) ∈ t.recs.evr.alarms) ∧
    (x.syncLost = false → x.running = false →
      (x.nextStart ≠ none → exec (.pwmSyncLost n) s = .next s) ∧
      (x.nextStart = none →
        s.Gives (.pwmSyncLost n) [.now, .col, .chSlots, .units, .beams, .pwms, .recs, .outputs] fun t =>
          t.now = max s.now (x.lastSync + c.period + 1000) ∧ (t.pwms.get n).syncLost = true ∧
          (t.pwms.get n).running = true ∧ (t.pwms.get n).periodStart = t.now ∧
          (Ev.pwmSyncLost, n.val) ∈ t.recs.evr.alarms)) ∧
    (s.windowOpen .h0 = false → exec (.pwmTripClear n) s = .next s.notReadyWrite) ∧
    (s.windowOpen .h0 = true → x.trip = true →
      let quiet := s.maskOn c.mask = false ∧ quietAt x.maskHist s.qualNs (s.now + 1) = true
      (quiet → exec (.pwmTripClear n) s = .next (s.updPwm n fun p => { p with trip := false })) ∧
      (¬ quiet → exec (.pwmTripClear n) s = .next (s.updPwm n fun p => { p with clearRefused := true })))

/-! ## Switch core and time base -/

/-- The switch core (R229 to R237, R239, R241, R242, R245, R248, R249), at this instant. No port forwards a frame that
fails a check, and a front port counts it by the first one; a host port forwards none that is no slice's own. A frame whose destination the package lists is queued whole or
counted port by port in a lossy class, and at every port or at none in a lossless one. A waiting frame that fits is
admitted within 20 us; one that does not is refused then. A port sends the head of its highest class, a facet message to
its lens; in a transparent clock a Sync leaves with its correction (R261). An entry not refreshed for AGE is forgotten. A
link that falls discards its queues, and loses its FEC lock (R253). -/
def Obligations.SwitchMovesFrames : Prop :=
  ∀ s : State,
    (∀ (p : Fin 24) (fr : EthFrame), s.receives p s.now fr = false → exec (.swcFrameRx p fr s.now) s = .next s) ∧
    (∀ (p : Fin 24) (fr : EthFrame), s.receives p s.now fr = true →
      let x := s.swc.ports.get p
      let host : Bool := p.val = 5 || p.val = 6
      let own : Bool := s.hif.slices.rows.any fun r => r.2.port = p.val - 5 && s.unitOn (.slice r.1) && r.2.mac = fr.src &&
        (vlanOf fr = 0 || r.2.vlans.contains (vlanOf fr))
      let fec (on n : Nat) := if (s.portCfg p).fec then min (on + n) 0xFFFFFFFF else on
      let rx := if p.val < 5 then { x with rxFrames := min (x.rxFrames + 1) 0xFFFFFFFF, fecCorr := fec x.fecCorr fr.fecCorr,
                                           fecUncorr := fec x.fecUncorr fr.fecUncorr } else x
      let counted (y : PortSt) : Prop :=
        s.Gives (.swcFrameRx p fr s.now) [.swc, .freeIdx, .hif, .recs, .outputs] fun t =>
          t.swc.ports.get p = (if p.val < 5 then y else x) ∧ t.swc.queues = s.swc.queues ∧
          t.swc.waiting = s.swc.waiting ∧ t.swc.learned = s.swc.learned
      let sized := 64 ≤ fr.len ∧ fr.len ≤ (s.portCfg p).maxLen
      (fr.fcsOk = false → counted { rx with fcsErr := min (x.fcsErr + 1) 0xFFFFFFFF }) ∧
      (fr.fcsOk = true → fr.len < 64 → counted { rx with runt := min (x.runt + 1) 0xFFFFFFFF }) ∧
      (fr.fcsOk = true → 64 ≤ fr.len → (s.portCfg p).maxLen < fr.len →
        counted { rx with oversize := min (x.oversize + 1) 0xFFFFFFFF }) ∧
      (fr.fcsOk = true → sized → groupAddr fr.src = true → counted { rx with fcsErr := min (x.fcsErr + 1) 0xFFFFFFFF }) ∧
      (fr.fcsOk = true → sized → groupAddr fr.src = false → fr.ethertype = 0x8808 →
        counted { rx with pause := min (x.pause + 1) 0xFFFFFFFF }) ∧
      (fr.fcsOk = true → sized → groupAddr fr.src = false → fr.ethertype ≠ 0x8808 → fr.sTag ≠ none → counted rx) ∧
      (fr.fcsOk = true → sized → groupAddr fr.src = false → fr.ethertype ≠ 0x8808 → fr.sTag = none → host = true →
        own = false → s.Gives (.swcFrameRx p fr s.now) [.swc, .freeIdx, .hif, .recs, .outputs] fun t =>
          t.swc.queues = s.swc.queues ∧ t.swc.spoof = min (s.swc.spoof + 1) 0xFFFFFFFF) ∧
      (∀ i c, fr.fcsOk = true → sized → groupAddr fr.src = false → fr.ethertype ≠ 0x8808 → fr.sTag = none →
        (host = true → own = true) → s.vlanMember p (vlanOf fr) = true → s.camMatch fr.dst (vlanOf fr) = some (i, c) → c.police = 0 →
        let k := s.frameClass host fr
        let ps := (List.range portCount).filter fun q => c.ports.getLsbD q && q ≠ p.val && s.portUp q
        let e : QEntry := { id := s.swc.nextId, cells := cellsOf fr }
        let kept (t : State) : Prop := ∃ f, f ∈ t.swc.stored ∧ f.id = e.id ∧ f.frame = fr ∧ f.cls = k ∧ f.command = false
        (∀ q, ps = [q] → (q < 5 ∨ 7 ≤ q) → k < 5 →
          s.Gives (.swcFrameRx p fr s.now) [.swc, .freeIdx, .hif, .recs, .outputs] fun t =>
            t.swc.ports.get p = rx ∧
            ((kept t ∧ ∃ b, t.queue q k = s.queue q k ++ [{ e with pool := b }]) ∨
              (t.queue q k = s.queue q k ∧
                t.swc.qdrop.get (8 * q + k) = min (s.swc.qdrop.get (8 * q + k) + 1) 0xFFFFFFFF))) ∧
        (5 ≤ k → ps ≠ [] → (∀ q, q ∈ ps → q < 5 ∨ 8 ≤ q) → s.losslessFits k e.cells ps = true →
          (s.swc.waiting.any fun w => w.ingress = p.val && w.cls = k) = false →
          s.Gives (.swcFrameRx p fr s.now) [.swc, .freeIdx, .hif, .recs, .outputs] fun t =>
            kept t ∧ ∀ q, t.queue q k = s.queue q k ++ if q ∈ ps then [e] else []) ∧
        (5 ≤ k → ps ≠ [] → (∀ q, q ∈ ps → q < 5 ∨ 8 ≤ q) → s.losslessFits k e.cells ps = false →
          s.heldCells p k + e.cells ≤ 256 →
          s.Gives (.swcFrameRx p fr s.now) [.swc, .freeIdx, .hif, .recs, .outputs] fun t =>
            kept t ∧ t.swc.queues = s.swc.queues ∧ t.swc.waiting = s.swc.waiting ++
              [{ id := e.id, ingress := p, cls := k, cells := e.cells, ports := ps, since := s.now }]))) ∧
    (∀ (p : Fin 24) (c : Fin 8) (w : Waiting), s.firstWaiting p c = some w →
      (s.nextAdmit c = some p.val → w.ports.Nodup → s.now ≤ w.since + 20000 →
        s.Gives (.losslessAdmit p c) [.swc] fun t =>
          t.swc.waiting = s.swc.waiting.filter (fun x => x.id ≠ w.id) ∧
          ∀ q, t.queue q c = s.queue q c ++
            if q ∈ w.ports then [{ id := w.id, cells := w.cells }] else []) ∧
      (s.losslessFits c w.cells w.ports = false ∨ w.since + 20000 < s.now →
        s.Gives (.mcRefused p c) [.now, .col, .swc, .recs] fun t =>
          t.now = max s.now (w.since + 20000) ∧ t.swc.waiting = s.swc.waiting.filter (fun x => x.id ≠ w.id) ∧
          t.swc.mcRefused = min (s.swc.mcRefused + 1) 0xFFFFFFFF ∧
          (s.swc.mcEvent.get p = none → (Ev.mcRefused, p.val, t.now) ∈ t.recs.evr.events))) ∧
    (∀ (p : Fin 24) (c : Nat) (e : QEntry) (r : List QEntry) (u : State), s.portUp p = true →
      s.topCopy p = some (c, e, u) →
      (p.val ≠ 5 → p.val ≠ 6 → s.queue p c = e :: r →
        s.Gives (.swcFrameTx p) [.freeIdx, .lenses, .swc, .hif, .recs, .outputs] fun t =>
          let x := s.storedAt e.id
          let fr := x.frame
          t.queue p c = r ∧
          (fr.app = none → t.lenses = s.lenses ∧ Emission.eth p (if p.val < 5 then s.ptpCorrect x else fr) ∈ t.outputs) ∧
          ∀ f q m, fr.app = some (.message f q m) → 8 ≤ p.val →
            (t.lenses.get (p - 8)).inbound = (s.lenses.get (p - 8)).inbound ++ [(f, q, m)]) ∧
      (p.val = 5 ∨ p.val = 6 → s.recvRing e.slice 0 = none →
        s.Gives (.swcFrameTx p) [.freeIdx, .swc, .hif, .recs, .outputs] fun t =>
          t.queue p c = removeCopy e (s.queue p c) ∧
          t.swc.qdrop.get (8 * p.val + c) = min (s.swc.qdrop.get (8 * p.val + c) + 1) 0xFFFFFFFF)) ∧
    (∀ seen, minList (s.swc.learned.map (·.seen)) = some seen →
      let age := s.pkg.swc.ageS * 1000000000
      let key (e : Learned) := (e.addr, e.vlan, e.port, e.seen)
      s.Gives .addressAgeOut [.now, .col, .swc] fun t =>
        t.now = max s.now (seen + age) ∧
        t.swc.learned.map key = (s.swc.learned.filter fun e => t.now < e.seen + age).map key) ∧
    (∀ x : PortLink,
      let p := x.port
      let off (q : PortSt) : PortSt := { q with fecLock := false, rxLos := x.los, txFault := x.txFault }
      ((s.swc.ports.get p).link = true → s.Gives (.linkDown x) [.swc, .recs] fun t =>
        t.swc.ports = s.swc.ports.upd p (fun q =>
          { off q with link := false, linkDown := min (q.linkDown + 1) 0xFFFFFFFF }) ∧
        (∀ c, c < 8 → t.queue p c = []) ∧ (Ev.linkDown, p.val, s.now) ∈ t.recs.evr.events) ∧
      ((s.swc.ports.get p).link = false → exec (.linkDown x) s = .next (s.updPort p off)) ∧
      ((s.unit (.port p)).st = .on ∨ (s.unit (.port p)).st = .starting → s.hw.xcvrNoPwr.getLsbD p = false →
        exec (.linkUp x) s = .next (s.updPort p fun q =>
          { q with link := true, fecLock := (s.portCfg p).fec, rxLos := false, txFault := x.txFault })))

/-- The servo (R258, R261) while the Module Manager runs and PTP is not disabled. A Sync of the selected master changes
OFFSET; the 16th small offset in a row locks an acquiring base, the 3rd large one unlocks a locked base, and the first
offset after a holdover decides. RATE stays within MAX_SLEW. An Announce of another domain is counted; a selected master
starts acquisition. Its silence for 3 s loses it; a holdover ends at its limit, or once the cold plate has moved by more than
10 K; a reference fault is FREERUN, in which the time base stands, and starts from 0 during a warm restart (log 106). -/
def Obligations.TimeServoFollowsItsStates : Prop :=
  ∀ s : State, s.pkg.col.ptpMode ≠ 2 → s.mlk.mmDown = false →
    let c := s.col
    let slew := (s.pkg.col.maxSlew : Int) * 256000
    (∀ (p : Fin 5) (off : Int), c.master ≠ none → c.slavePort = p.val →
      s.Gives (.ptpSyncRx p off) [.freeIdx, .cnv, .col, .fbcs, .recs] fun t =>
        let small := off.natAbs ≤ 100
        let big := 1000 < off.natAbs
        t.col.offset = max (-0x80000000) (min 0x7FFFFFFF off) ∧ t.col.master = c.master ∧
        (0 ≤ slew → -slew ≤ t.col.rate ∧ t.col.rate ≤ slew) ∧
        t.col.far = (decide (1000000000 < off.natAbs) && decide (s.glb.phase = .running)) ∧
        (c.st = .acquiring → (t.col.st = .locked ↔ small ∧ 15 ≤ c.smallRun)) ∧
        (c.st = .acquiring → s.glb.phase = .running → s.glb.run = true → t.tai = s.tai) ∧
        (c.st = .locked → t.tai = s.tai ∧ t.col.st = if big ∧ 2 ≤ c.largeRun then .acquiring else .locked) ∧
        (c.st = .holdover → c.first = true → t.tai = s.tai ∧ t.col.st = if big then .acquiring else .locked)) ∧
    (∀ (p : Fin 5) (a : Announce),
      (a.domain ≠ s.pkg.col.domain → s.Gives (.ptpAnnounceRx p a) [.col] fun t =>
        t.col = { c with ports := c.ports.upd p fun x => { x with rxErr := min (x.rxErr + 1) 0xFFFFFFFF } }) ∧
      (a.domain = s.pkg.col.domain → a.gm = true → s.pkg.col.gmCapable = true →
        s.Gives (.ptpAnnounceRx p a) [.col] fun t =>
          t.col.gm = true ∧ t.col.master = none ∧ t.col.st = .freerun ∧ t.col.slavePort = 0xF) ∧
      (a.domain = s.pkg.col.domain → a.gm = false → a.passive = true → s.Gives (.ptpAnnounceRx p a) [.col] fun t =>
        t.col = { c with ports := c.ports.upd p fun x =>
          { x with st := if x.st = .disabled then .disabled else .passive } }) ∧
      (a.domain = s.pkg.col.domain → a.gm = false → a.passive = false → a.selected = true →
        s.Gives (.ptpAnnounceRx p a) [.col, .recs] fun t =>
          t.col.master = some a.source ∧ t.col.slavePort = p.val ∧ t.col.utcOffset = a.utc ∧
          (t.col.ports.get p).st = .slave ∧ t.col.lastSync = s.now ∧
          t.col.st = (if c.st = .freerun ∨ (c.st = .locked ∧ c.master ≠ some a.source) then .acquiring else c.st))) ∧
    (∀ (p : Fin 5) (ns : Nat), s.Gives (.ptpPdelayRx p (.measured ns)) [.col] fun t =>
      t.col = { c with ports := c.ports.upd p fun x => { x with pdelay := ns % 2 ^ 32 } }) ∧
    (∀ (p : Fin 5) (m : PdelayMsg), m = .delayReq ∨ m = .delayResp → s.Gives (.ptpPdelayRx p m) [.col] fun t =>
      t.col = { c with ports := c.ports.upd p fun x => { x with rxErr := min (x.rxErr + 1) 0xFFFFFFFF } }) ∧
    (c.master ≠ none → s.Gives .announceTimeout [.now, .col, .freeIdx, .fbcs, .recs] fun t =>
      t.now = max s.now (c.lastSync + 3000000000) ∧ t.col.master = none ∧ t.col.slavePort = 0xF ∧
      t.col.st = (match c.st with | .acquiring => .freerun | .locked => .holdover | x => x) ∧
      (c.st = .locked → t.col.holdFrom = some t.now)) ∧
    (c.st = .holdover → ∀ byTemp, (byTemp = true → 10 < (s.hw.coldTemp - c.holdTemp).natAbs) → s.Gives (.holdoverEnd byTemp) [.now, .col, .fbcs, .recs] fun t =>
      t.col.st = .freerun ∧ (Ev.holdoverEnd, 0) ∈ t.recs.evr.alarms ∧
      (byTemp = false → t.now = max s.now (c.holdFrom.getD s.now + s.pkg.col.holdLimit * 60000000000))) ∧
    (s.Gives .refFault [.col, .fbcs, .recs] fun t =>
      t.col.st = .freerun ∧ (Ev.refFault, 0) ∈ t.recs.evr.alarms ∧
      (s.warmUnderWay = true → t.tai = 0) ∧
      (s.warmUnderWay = false → t.col.refOk = false ∧ t.col.stopped = true ∧ t.tai = s.tai))

/-- Pulses, reads and settings of the time (R50, R255, R263 to R266). A generator's next pulse leaves at its instant,
takes its number as COUNT, which does not decrease, fires once for each instant, the lowest generator first where instants
coincide, and a ONCE generator is then no longer armed. A read of the
nanoseconds latches the seconds and the fraction for its port. COL_SET_NS takes a valid value, and GO sets the base as a
step only below RUNNING in FREERUN. -/
def Obligations.TimePulsesReadsAndSteps : Prop :=
  ∀ s : State,
    (∀ (g : Fin 16) (n t0 : Nat), s.tpNext g = some (n, t0) → s.tpBefore g t0 = true →
      exec (.tpPulse g) s = .next s) ∧
    (∀ (g : Fin 16) (n t0 : Nat), s.tpNext g = some (n, t0) → s.tpBefore g t0 = false → t0 < 2 ^ 64 →
      s.Gives (.tpPulse g) [.now, .freeIdx, .svPubs, .pwms, .swc, .col, .hif, .recs, .obs, .outputs] fun t =>
        let x := s.col.tps.get g
        t.tai = max s.tai t0 ∧ t.col.tps.get g = { x with count := max x.top (n % 2 ^ 64), doneTo := max x.doneTo t0,
                                                          armed := x.armed && decide ((s.pkg.tps.get g).mode ≠ .once) } ∧
        (∀ j, j ≠ g.val → t.col.tps.get j = s.col.tps.get j) ∧
        (s.pkg.col.ppsEn = true → s.pkg.col.ppsTp = g.val →
          Emission.pps (t.now - (t.tai - t0)) ((s.pkg.tps.get g).width * 10) ∈ t.outputs.drop s.outputs.length)) ∧
    (∀ p : TimePort, s.windowOpen p = true →
      s.Gives (.colTimeRead p) [.col, .lastRead] fun t =>
        let l : TimeLatch := { s := s.col.sec, frac := s.col.frac / 2 ^ 32 }
        t.lastRead = BitVec.ofNat 32 s.col.ns ∧
        t.col = { s.col with latchH0 := if p = .h0 then l else s.col.latchH0,
                             latchH1 := if p = .h1 then l else s.col.latchH1,
                             latchMM := if p = .mm then l else s.col.latchMM }) ∧
    (∀ p : TimePort, s.windowOpen p = false →
      exec (.colTimeRead p) s = .next { s with glb := { s.glb with notReady := true }, lastRead := 0 }) ∧
    (∀ v : Word, s.windowOpen .h0 = false →
      exec (.colSetNsWrite v) s = .next s.notReadyWrite ∧ exec (.colSetGo v) s = .next s.notReadyWrite) ∧
    (∀ v : Word, s.windowOpen .h0 = true →
      let ns := v.toNat % 2 ^ 30
      (ns < 1000000000 → s.glb.run = false → s.Gives (.colSetNsWrite v) [.col] fun t =>
        t.col = { s.col with setNs := ns }) ∧
      (1000000000 ≤ ns → exec (.colSetNsWrite v) s = .next s) ∧
      (ns < 1000000000 → ns ≠ s.col.setNs → s.glb.run = true →
        exec (.colSetNsWrite v) s = .next { s with glb := { s.glb with lockedWrite := true } }) ∧
      (v.getLsbD 31 = true → s.glb.run = false → s.glb.phase ≠ .running → s.col.st = .freerun → s.col.setNs < 10 ^ 9 →
        s.Gives (.colSetGo v) [.cnv, .col, .fbcs, .recs] fun t =>
          t.col.sec = v.toNat % 2 ^ 16 * 2 ^ 32 + s.col.setSlo.toNat ∧ t.col.ns = s.col.setNs ∧ t.col.frac = 0 ∧
          t.col.setShi = v.setWidth 16 ∧ t.col.st = .freerun) ∧
      (v.getLsbD 31 = true → v.setWidth 16 = s.col.setShi → s.glb.phase = .running ∨ s.col.st ≠ .freerun →
        exec (.colSetGo v) s = .next { s with glb := { s.glb with lockedWrite := true } }))

/-! ## Host rings and their descriptors -/

/-- Polls and descriptors (R298, R303, R304, R306). The poll that has fallen due and that no other slice of the port
precedes goes out at its instant, under the port's cap, whose spacing of 1/CAP ms is kept exactly. A record gives the rings their tails and the completion rings
their heads, and asks for the descriptor at the head of every ring that can take; a failed read puts every ring that
exists into HOST_FAULT; an empty record counts, and the hundredth doubles the interval. The descriptor whose SEQ is the
next one is taken into the journal, accepted at once without a partner; an earlier one as DUPLICATE; a later one leaves
its slot and the ring in place. -/
def Obligations.HostRingsPollAndTake : Prop :=
  ∀ (i : Fin 64) (s : State),
    let x := s.slice i
    let p := s.hif.ports.get x.port
    let due := s.pollDue i
    let at_ := max (max due s.now) p.slot
    (s.polls i = true → x.pollOut = false → s.pollBehind i at_ = false →
      s.Gives (.doorbellPoll i) [.now, .col, .hif, .outputs] fun t =>
        t.now = at_ ∧ t.outputs = s.outputs ++ [.pollRead i] ∧ t.hif.journal = s.hif.journal ∧
        t.slice i = { x with lastPoll := at_, pollOut := true, pollNow := none, took := false, counted := false } ∧
        let z := t.hif.ports.get x.port
        z = { p with polls := min (p.polls + 1) 0xFFFFFFFF, nextPoll := z.nextPoll, pollRem := z.pollRem
                     pollLate := min (p.pollLate + (if due + 1000 < at_ then 1 else 0)) 0xFFFFFFFF } ∧
        (0 < p.pollCap → z.pollRem < p.pollCap ∧ z.nextPoll * p.pollCap + z.pollRem =
          (if at_ = p.slot then p.nextPoll * p.pollCap + p.pollRem else at_ * p.pollCap) + 1000000)) ∧
    (x.pollOut = true →
      (s.Gives (.doorbellReadDone i none) [.freeIdx, .hif, .recs, .outputs] fun t =>
        (t.slice i).pollOut = false ∧ (t.slice i).dbFault = true ∧
        (t.hif.ports.get x.port).hostErr = min (p.hostErr + 1) 0xFFFFFFFF ∧
        ∀ r, r < 8 → (s.sq i r).st ≠ .off → (s.sq i r).st ≠ .destroying → (t.sq i r).st = .hostFault) ∧
      (∀ d, s.Gives (.doorbellReadDone i (some d)) [.freeIdx, .hif, .recs, .outputs] fun t =>
        (t.slice i).pollOut = false ∧ (t.slice i).dbFault = false ∧ (t.slice i).lastGen = d.gen ∧
        (∀ c v, c < 8 → d.cqHead[c]? = some v → (t.cq i c).cqHead = v % 65536) ∧
        (∀ r v, r < 8 → d.tail[r]? = some v → (s.sq i r).st ≠ .off →
          (v + 2 ^ 32 - (s.sq i r).head) % 2 ^ 32 ≤ (s.sq i r).depth → (t.sq i r).tail = v % 2 ^ 32) ∧
        (∀ r, r < 8 → t.readable i r = true →
          Emission.descRead i r ((t.sq i r).head % (t.sq i r).depth) ∈ t.outputs) ∧
        ((∀ r, r < 8 → (s.sq i r).st = .off) → x.took = false → x.counted = false →
          (t.slice i).counted = true ∧
          (100 ≤ x.empty + 1 → x.curUs < 1000 →
            (t.slice i).curUs = min (2 * x.curUs) 1000 ∧ (t.slice i).empty = 0) ∧
          (x.empty + 1 < 100 → (t.slice i).curUs = x.curUs ∧ (t.slice i).empty = x.empty + 1)))) ∧
    (∀ (r : Fin 8), s.polls i = true → s.readable i r = true →
      let q := s.sq i r
      let j := s.hif.jseq + 1
      (s.Gives (.descriptorReadDone i r none) [.freeIdx, .hif, .mlk, .recs, .outputs] fun t =>
        (t.sq i r).st = .hostFault ∧ (t.sq i r).head = q.head ∧ t.hif.journal = s.hif.journal) ∧
      (∀ d, d.seq = q.nextSeq → s.jEntry j = none →
        s.Gives (.descriptorReadDone i r (some d)) [.freeIdx, .hif, .mlk, .recs, .outputs] fun t =>
          (t.sq i r).head = (q.head + 1) % 2 ^ 32 ∧ (t.sq i r).nextSeq = q.nextSeq + 1 ∧ t.hif.jseq = j ∧
          ∃ e, t.jEntry j = some e ∧ e.slice = i.val ∧ e.ring = r.val ∧ e.desc = d ∧ e.dup = false ∧
            e.state = .accepted ∧ e.accepted = !s.paired) ∧
      (∀ d, d.seq < q.nextSeq → s.jEntry j = none →
        s.Gives (.descriptorReadDone i r (some d)) [.freeIdx, .hif, .mlk, .recs, .outputs] fun t =>
          (t.sq i r).head = (q.head + 1) % 2 ^ 32 ∧ (t.sq i r).nextSeq = q.nextSeq ∧ t.hif.jseq = j ∧
          ∃ e, t.jEntry j = some e ∧ e.desc = d ∧ e.dup = true ∧ e.state = .completed ∧ e.status = 0x0009) ∧
      (∀ d, q.nextSeq < d.seq →
        s.Gives (.descriptorReadDone i r (some d)) [.freeIdx, .hif, .mlk, .recs, .outputs] fun t =>
          (t.sq i r).head = q.head ∧ (t.sq i r).nextSeq = q.nextSeq ∧ (t.sq i r).gapSeen = true ∧
          t.hif.journal = s.hif.journal ∧
          (q.gapSeen = false → (Ev.seqGap, 8 * i.val + r.val, s.now) ∈ t.recs.evr.events)))

/-- Completions, messages and links (R292, R299, R301, R306, R308, R313). The oldest ended entry of a ring is written to
its completion ring and leaves the journal; a descriptor that no table gives ends with INVALID, one whose sub-command no table gives once it has passed its opcode's other checks. The coalescing time
sends the message of its MSI-X entry, or sets its pending bit. A host port that loses its link ends the polls under way, and
a reset finds no host (R333); when it is up again, what was held for it goes out in order. -/
def Obligations.CompletionsAreWritten : Prop :=
  ∀ s : State,
    (∀ (i : Fin 64) (r : Fin 8) (e : JEntry),
      let c := (s.sq i r).cq
      let q := s.cq i c
      let x := s.slice i
      let k := e.place.getD q.written
      s.resetting i = false → s.nextCompletion i r = some e → c < 8 →
      (∀ z, s.nextStart i r = some z → unassigned z.desc = false ∧ s.badSub i z.desc = none) →
      s.Gives (.completionWrite i r) [.freeIdx, .hif, .mlk, .recs, .outputs] fun t =>
        t.hif.journal = s.hif.journal.filter (fun z => z.jseq ≠ e.jseq) ∧ (t.cq i c).written = max q.written (k + 1) ∧
        (x.paused = false → x.silent = false → x.dirty.on = false → s.heldAt i = none →
          Emission.host i (.completion c (k % q.depth) (decide (k / q.depth % 2 = 0)) e.desc.seq e.status
            e.resumed r e.endTs e.result) ∈ t.outputs)) ∧
    (∀ (i : Fin 64) (r : Fin 8) (e : JEntry), s.nextStart i r = some e → s.jEntry e.jseq = some e →
      unassigned e.desc = true → ∃ t, exec (.completionWrite i r) s = .next t ∧
        (t.Ended e.jseq 0x0004 0 ∨ t.jEntry e.jseq = none)) ∧
    (∀ (i : Fin 64) (r : Fin 8) (e : JEntry) (f : DescForm), s.badSub i e.desc = some f → s.Runs i r f e →
      ∃ t, exec (.completionWrite i r) s = .next t ∧ (t.Ended e.jseq 0x0004 0 ∨ t.jEntry e.jseq = none)) ∧
    (∀ (i : Fin 64) (c : Fin 8) (t0 : Nat),
      let q := s.cq i c
      let h := (s.slice i).port
      let k := 8 * i.val + q.vector
      q.firstAt = some t0 → q.coalT ≠ 0 → s.Gives (.msixCoalTimeout i c) [.now, .col, .hif, .outputs] fun t =>
        t.now = max s.now (t0 + q.coalT * 1000) ∧ t.cq i c = { q with sinceMsg := 0, firstAt := none } ∧
        (s.hif.maskedVec.get (512 * h + k) = true → t.hif.pendingVec = s.hif.pendingVec.set (512 * h + k) true ∧
          t.outputs = s.outputs) ∧
        (s.hif.maskedVec.get (512 * h + k) = false → t.hif.pendingVec = s.hif.pendingVec ∧
          (s.heldAt i = none → q.vector < 8 →
            let v := s.hif.vecs.get (512 * h + k)
            t.outputs = s.outputs ++ [.msix h k v.addr v.data]))) ∧
    (∀ h : Fin 2, s.Gives (.hostLinkDown h) [.hif] fun t =>
      t.hif.ports = s.hif.ports.upd h (fun p => { p with up := false, speed := 0, width := 0 }) ∧
      t.hif.journal = s.hif.journal ∧
      ∀ z, z ∈ t.hif.slices.rows → z.2.port = h.val →
        z.2.pollOut = false ∧ ∀ w, z.2.work = some w → w.noHost = true) ∧
    (∀ (h : Fin 2) (speed width : Nat), speed < 16 → width < 64 →
      let x := s.hif.ports.get h
      (∀ e, e ∈ x.held → (∃ k w, e = .host k w ∧ (s.slice k).port = h.val) ∨
        (∃ h' n a d, e = .msix h' n a d ∧ (s.slice (n / 8)).port = h.val)) →
      (h.val = (s.slice 0).port ∨ ∀ k, s.recordHeld k = false) →
      (s.hif.flushes = [] → s.Gives (.hostLinkUp h speed width) [.hif, .outputs] fun t =>
        t.outputs = s.outputs ++ x.held ∧
        t.hif.ports = s.hif.ports.upd h (fun p => { p with up := true, speed := speed, width := width, held := [] }) ∧
        t.hif.journal = s.hif.journal ∧
        (x.up = false → ∀ z, z ∈ t.hif.slices.rows → z.2.port = h.val → z.2.pollNow = some s.now)))

/-- NOP, RING_CREATE, RING_DESTROY, UNIT_CTRL and SVC (R74, R75, R309, R310, R314), for a descriptor that runs. A ring
that is OFF comes into being as its bytes say, and one that is on is not created again. A submission ring becomes
DESTROYING and is OFF once its descriptors are done; a completion ring that nothing names goes OFF, one that is named
does not. UNIT_CTRL writes EN and answers STATE; a fenced unit is not started. An operation on the service ring takes the
channel, or waits for it. -/
def Obligations.RingUnitAndServiceDescriptors : Prop :=
  ∀ (i : Fin 64) (r : Fin 8) (s : State),
    (∀ e, s.Runs i r { opcode := 0 } e →
      s.Gives (.nopDesc i r) [.freeIdx, .hif, .mlk, .recs, .outputs] fun t => t.Ended e.jseq cOk 0) ∧
    (∀ e, s.Runs i r { opcode := 1, used := [(32, 24)] } e → e.desc.num 34 1 ≤ 1 →
      let p := sqParams e.desc
      let q := cqParams e.desc
      (e.desc.num 32 1 = 0 → (sqInRange i p fun c => (s.cq i c).on && !(s.cq i c).receive) = true →
        s.Gives (.ringCreate i r) [.freeIdx, .hif, .mlk, .recs, .outputs] fun t =>
          ((s.sq i p.ring).st = .off → t.Ended e.jseq cOk 0 ∧ { t.sq i p.ring with st := .running } = sqOf p) ∧
          ((s.sq i p.ring).st ≠ .off → t.Ended e.jseq 0x0201 0)) ∧
      (e.desc.num 32 1 = 1 → (q.receive = true → e.desc.num 48 1 ≤ 4) → cqInRange q = true →
        s.Gives (.ringCreate i r) [.freeIdx, .hif, .mlk, .recs, .outputs] fun t =>
          ((s.cq i q.ring).on = false → t.Ended e.jseq cOk 0 ∧
            t.cq i q.ring = { cqOf q with placed := (t.cq i q.ring).placed }) ∧
          ((s.cq i q.ring).on = true → t.Ended e.jseq 0x0201 0))) ∧
    (∀ e, s.Runs i r { opcode := 2, used := [(32, 2)] } e → e.desc.num 33 1 < 8 →
      let k := e.desc.num 33 1
      (e.desc.num 32 1 = 0 → (s.sq i k).st ≠ .off →
        s.Gives (.ringDestroy i r) [.freeIdx, .hif, .mlk, .recs, .outputs] fun t => t.Waits e.jseq ∧
          t.sq i k = { s.sq i k with st := .destroying, destroyBy := (s.sq i k).destroyBy ++ [e.jseq] }) ∧
      (e.desc.num 32 1 = 1 → s.cqNamed i k = true →
        s.Gives (.ringDestroy i r) [.freeIdx, .hif, .mlk, .recs, .outputs] fun t => t.Ended e.jseq 0x0201 0 ∧
          (t.cq i k).on = (s.cq i k).on) ∧
      (e.desc.num 32 1 = 1 → s.cqNamed i k = false →
        s.Gives (.ringDestroy i r) [.freeIdx, .hif, .mlk, .recs, .outputs] fun t => t.Ended e.jseq cOk 0 ∧
          (t.cq i k).on = false)) ∧
    ((s.sq i r).st = .destroying → (∀ z, z ∈ s.ringJ i r → z.jseq ∈ (s.sq i r).destroyBy) →
      s.Gives (.ringDestroyDone i r) [.freeIdx, .hif, .mlk, .recs, .outputs] fun t =>
        t.sq i r = { s.sq i r with st := .off, destroyBy := [] } ∧
        ∀ j z, j ∈ (s.sq i r).destroyBy → s.jEntry j = some z → z.state = .started → t.Ended j cOk 0) ∧
    (∀ e u, s.Runs i r { s0Form i 4 none [(32, 4)] with
        present := fun d => match ctrlUnit d with | some u => unitPresent u | none => true } e →
      ctrlUnit e.desc = some u → s.configured u = true →
      (e.desc.num 35 1 = 1 → (s.unit u).fenced = false → ∃ t, exec (.unitCtrl i r) s = .next t ∧
        (t.unit u).en = true ∧ t.Ended e.jseq cOk (ustateCode (t.unit u).st) ∧
        ((s.unit u).en = false → (s.unit u).st = .off → (t.unit u).st = .starting)) ∧
      (e.desc.num 35 1 = 1 → (s.unit u).fenced = true → ∃ t, exec (.unitCtrl i r) s = .next t ∧
        t.Ended e.jseq 0x0007 0 ∧ t.units = s.units) ∧
      (e.desc.num 35 1 = 0 → (s.unit u).en = true → (s.unit u).st = .starting → ∃ t, exec (.unitCtrl i r) s = .next t ∧
        t.units = s.units.upd (unitKey u) (fun x => { x with en := false })) ∧
      (e.desc.num 35 1 = 0 → (s.unit u).en = true → (s.unit u).st ≠ .on → (s.unit u).st ≠ .starting → ∃ t, exec (.unitCtrl i r) s = .next t ∧
        t.units = s.units.upd (unitKey u) (fun x => { x with en := false }) ∧
        t.Ended e.jseq cOk (ustateCode (s.unit u).st))) ∧
    (∀ e, s.Runs i r { opcode := 3, used := [(32, 2), (40, 20)], buf := true, service := true, may := fun _ => i.val = 0 } e →
      0 < e.desc.num 32 1 → e.desc.num 32 1 < 9 →
      let o : SvcOp := { op := e.desc.num 32 1, tag := BitVec.ofNat 8 (e.desc.num 33 1), door := .ring, jseq := e.jseq,
                         since := s.now }
      (s.svc.running = none → s.glb.phase ≠ .bootFailed →
        s.Gives (.svc i r) [.freeIdx, .svc, .hif, .mlk, .recs, .outputs] fun t =>
          t.Waits e.jseq ∧ t.svc = { s.svc with running := some o }) ∧
      (s.svc.running ≠ none → s.Gives (.svc i r) [.freeIdx, .svc, .hif, .mlk, .recs, .outputs] fun t =>
        t.Waits e.jseq ∧ t.svc = { s.svc with waiting := some o }))

/-- FRAME_TX and GLINT_SUB (R245, R246, R250, R310, R365), for a descriptor that runs. A frame of the slice's own address, in a VLAN
it may use, is offered to the fabric at its host port, one that a port discards leaving no copy, and completes with what
the fabric took; in a pair it waits for the seal of its STARTED item (R365); any other source is refused and counted, at the sampler of
the port too (R246). A value out of range is refused; a sampler that is free serves the slice that subscribes; its slice releases it. -/
def Obligations.FrameTxAndGlintDescriptors : Prop :=
  ∀ (i : Fin 64) (r : Fin 8) (e : JEntry) (s : State),
    let d := e.desc
    let x := s.slice i
    (∀ fr : EthFrame, s.Runs i r { opcode := 0x10, used := [(32, 2), (34, 1)], buf := true } e → 60 ≤ d.length →
      let v := d.num 32 2
      let f : EthFrame := { fr with vlan := if v = 0 then none else some v, pcp := d.num 34 1, fcsOk := true,
                                    sTag := none, len := d.length + (if v = 0 then 4 else 8) }
      let own := fr.src = x.mac ∧ (v = 0 ∨ x.vlans.contains v = true)
      f.len ≤ s.minMaxLen → v < 4096 → d.num 34 1 < 8 →
      (own → s.paired = false → s.swc.unsealed = [] →
        s.Gives (.frameTx i r (some fr)) [.freeIdx, .swc, .hif, .mlk, .recs, .outputs] fun t =>
          let n := if (frameFault 2000 f).isSome then 0
            else (((((s.turns i d).getD s).payBytes i d.length).start e.jseq).forward (5 + x.port) true f).2.admitted
          t.Ended e.jseq (if n = 0 then 0x0202 else cOk) 0 ∧ t.swc.unsealed = []) ∧
      (own → s.paired = true → s.Gives (.frameTx i r (some fr)) [.freeIdx, .swc, .hif, .mlk, .recs, .outputs] fun t =>
        t.Waits e.jseq ∧ (e.jseq, i.val, f) ∈ t.swc.unsealed) ∧
      (¬ own → s.Gives (.frameTx i r (some fr)) [.freeIdx, .swc, .hif, .mlk, .recs, .outputs] fun t =>
        t.Ended e.jseq 0x0005 0 ∧
        t.swc = { s.swc with spoof := min (s.swc.spoof + 1) 0xFFFFFFFF, glint := t.swc.glint, glintRate := t.swc.glintRate } ∧
        ((s.swc.glint.get (5 + x.port)).dir ≠ 1 → t.swc.glint = s.swc.glint))) ∧
    (let p := d.num 32 1
     let g := s.swc.glint.get p
     let q := s.cq (d.num 36 1) (d.num 37 1)
     s.Runs i r { opcode := 0x11, used := [(32, 1), (33, 1), (34, 2), (36, 1), (37, 1)], may := fun _ => i.val = 0,
                  present := fun d => decide (d.num 32 1 < portCount) || decide (23 < d.num 32 1) } e → p < 24 →
     (d.num 34 2 = 0 ∨ 63 < d.num 36 1 ∨ 7 < d.num 37 1 ∨ 2 < d.num 33 1 ∨ q.on = false ∨ q.receive = false →
       s.Gives (.glintSub i r) [.freeIdx, .swc, .hif, .mlk, .recs, .outputs] fun t =>
         t.Ended e.jseq 0x0004 0 ∧ t.swc = s.swc) ∧
     (let good := 0 < d.num 34 2 ∧ d.num 36 1 < 64 ∧ d.num 37 1 < 8 ∧ q.on = true ∧ q.receive = true
      good →
     (d.num 33 1 = 0 → g.toMM = false → s.Gives (.glintSub i r) [.freeIdx, .swc, .hif, .mlk, .recs, .outputs] fun t =>
       t.Ended e.jseq cOk 0 ∧
       t.swc = { s.swc with glint := s.swc.glint.upd p fun g => { g with dir := 0, n := 0, count := 0 } }) ∧
     (0 < d.num 33 1 → d.num 33 1 < 3 → g.dir = 0 →
       s.Gives (.glintSub i r) [.freeIdx, .swc, .hif, .mlk, .recs, .outputs] fun t => t.Ended e.jseq cOk 0 ∧
         t.swc.glint.get p = { g with n := d.num 34 2, dir := d.num 33 1, toMM := false, slice := d.num 36 1,
                                      ring := d.num 37 1, count := 0, sampleNo := 0, skipped := 0 }) ∧
     (0 < d.num 33 1 → d.num 33 1 < 3 → g.dir ≠ 0 → g.slice ≠ d.num 36 1 →
       s.Gives (.glintSub i r) [.freeIdx, .swc, .hif, .mlk, .recs, .outputs] fun t =>
         t.Ended e.jseq 0x0800 0 ∧ t.swc = s.swc)))

/-! ## Descriptors of the plant -/

/-- LOGIC_CTRL and CNV_CTRL (R115, R116, R186 to R188), for a descriptor that runs. LOGIC_START makes a stopped program
RUNNING from its initial image, and one that a staged package removes runs on until it goes (R136); LOGIC_STOP lets a cycle in EXECUTE commit first, and else commits the safe image. DEBLOCK
makes blocked arms wait for their conditions, and is refused without the grant or while an arm is tripped; BLOCK makes
its arms block at their frame, and ends at once where all are blocked. -/
def Obligations.LogicAndConverterDescriptors : Prop :=
  ∀ (i : Fin 64) (r : Fin 8) (e : JEntry) (s : State),
    let d := e.desc
    let p := d.num 33 1
    let c := s.pkg.logic.get p
    let x := s.logic.get p
    let m := d.num 33 1
    (s.Runs i r (s0Form i 0x30 (some (32, 1)) [(32, 2)]) e → s.progNamed p = true → s.unitOn (.lens c.lens) = true →
      (x.stopAsked = false → x.safeDue = none → x.committing = false → x.st ≠ .running → x.st ≠ .exchanging →
        x.removeAsked = false →
        s.Gives (.logicStart i r) [.freeIdx, .facets, .progs, .lenses, .logic, .slots64, .hif, .mlk, .recs, .outputs] fun t =>
          t.Ended e.jseq cOk 2 ∧ (t.logic.get p).st = .running ∧ (t.logic.get p).phase = .idle ∧
          (t.logic.get p).image = c.initialImage ∧ (t.logic.get p).consec = 0) ∧
      (x.removeAsked = true → x.stopBy = [] → s.Gives (.logicStart i r) [.freeIdx, .hif, .mlk, .recs, .outputs] fun t =>
        t.Ended e.jseq cOk (lstateCode x.st)) ∧
      (x.stopAsked = true → x.removeAsked = false ∨ x.stopBy ≠ [] → s.Gives (.logicStart i r) [.freeIdx, .logic, .hif, .mlk, .recs, .outputs] fun t =>
        t.Waits e.jseq ∧ t.logic = s.logic.upd p fun y => { y with startAsked := true, startBy := y.startBy ++ [e.jseq] })) ∧
    (s.Runs i r (s0Form i 0x30 (some (32, 2)) [(32, 2)]) e → s.progNamed p = true →
      (x.st = .running → x.phase = .execute ∨ x.commitDue = true →
        s.Gives (.logicStop i r) [.freeIdx, .logic, .hif, .mlk, .recs, .outputs] fun t => t.Waits e.jseq ∧
          t.logic = s.logic.upd p fun y =>
            { y with stopBy := y.stopBy ++ [e.jseq], startAsked := false, stopAsked := true }) ∧
      (x.st = .running → x.phase ≠ .execute → x.commitDue = false → x.committing = false → x.removeAsked = false →
        x.exchPending = false → x.exchStart = none →
        s.Gives (.logicStop i r) [.freeIdx, .facets, .progs, .lenses, .fencedFlash, .lanes, .logic, .stns, .tos, .arms, .pwms,
          .fbcs, .hif, .mlk, .recs, .outputs] fun t =>
          t.Ended e.jseq cOk 1 ∧ (t.logic.get p).st = .stopped ∧ (t.logic.get p).image = c.safeImage) ∧
      (x.st = .stopped → s.Gives (.logicStop i r) [.freeIdx, .hif, .mlk, .recs, .outputs] fun t => t.Ended e.jseq cOk 1)) ∧
    (s.Runs i r (cnvForm i 1) e → s.armsNamed m = true →
      let held := (armsOf m).any fun a =>
        (s.arms.get a).op = .tripped || (s.arms.get a).trip || s.maskOn (s.pkg.arms.get a).mask
      (s.mlk.grant = false → s.Gives (.deblock i r) [.freeIdx, .hif, .mlk, .recs, .outputs] fun t =>
        t.Ended e.jseq 0x0602 0) ∧
      (s.mlk.grant = true → held = true → s.Gives (.deblock i r) [.freeIdx, .hif, .mlk, .recs, .outputs] fun t =>
        t.Ended e.jseq 0x0603 0) ∧
      (s.mlk.grant = true → held = false → ((armsOf m).all fun a => (s.arms.get a).op = .blocked) = true →
        s.Gives (.deblock i r) [.freeIdx, .arms, .hif, .mlk, .recs, .outputs] fun t => t.Waits e.jseq ∧
          ∀ a, t.arms.get a = if a ∈ armsOf m then
              { s.arms.get a with op := .pending, pend := some (e.jseq, s.now, d.num 40 8) }
            else s.arms.get a)) ∧
    (s.Runs i r (cnvForm i 2) e → s.armsNamed m = true →
      let idle := (armsOf m).all fun a => (s.arms.get a).op = .blocked || (s.arms.get a).op = .tripped
      (idle = true → s.Gives (.block i r) [.freeIdx, .hif, .mlk, .recs, .outputs] fun t =>
        t.Ended e.jseq cOk (cnvResult s.cnv.fnum m 0)) ∧
      (idle = false → s.Gives (.block i r) [.freeIdx, .arms, .hif, .mlk, .recs, .outputs] fun t => t.Waits e.jseq ∧
        ∀ a, t.arms.get a = if a ∈ armsOf m then
            { s.arms.get a with blockAt := (s.arms.get a).blockAt ++ [(e.jseq, d.num 40 8)] }
          else s.arms.get a))

/-- FBC_CTRL on one bus, FBC_SEND, BEAM_CAL and TP_ARM (R227, R263, R266, R272, R280, R287, R365), for a descriptor that runs.
ARRIVAL waits for the end of the basic cycle, SCHEDULE gives the hold up, LISTEN discards the queue and is for SERVICE,
RECOVER waits for the recovery sequence; BUS_OFF refuses the first three. A frame to send joins the queue, in a pair
once its STARTED item is sealed (R365), or is refused by what R287 lists. A calibration waits on every lane it names. A START far enough ahead arms its generator and answers
the one it replaces. -/
def Obligations.BusBeamAndTimeDescriptors : Prop :=
  ∀ (i : Fin 64) (r : Fin 8) (e : JEntry) (s : State),
    let d := e.desc
    (∀ b : Fin 2, d.num 33 1 = b.val + 1 → s.unitOn (.fbc b) = true →
      let f := s.fbcs.get b
      let form (sub : Nat) : Prop := s.Runs i r (s0Form i 0x50 (some (32, sub)) [(32, 2)]) e
      (form 1 → f.mode = .schedule → s.Gives (.fbcArrival i r) [.freeIdx, .fbcs, .hif, .mlk, .recs, .outputs] fun t =>
        t.Ended e.jseq cOk 0 ∧ t.fbcs = s.fbcs.upd b fun f => { f with toArrival := true, holdArrival := true }) ∧
      (form 1 → f.mode = .listen → s.Gives (.fbcArrival i r) [.freeIdx, .stns, .fbcs, .hif, .mlk, .recs, .outputs] fun t =>
        t.Ended e.jseq cOk 0 ∧ (t.fbcs.get b).mode = .arrival) ∧
      (form 1 → f.mode = .busOff → s.Gives (.fbcArrival i r) [.freeIdx, .hif, .mlk, .recs, .outputs] fun t =>
        t.Ended e.jseq 0x0A00 0) ∧
      (form 2 → f.mode = .arrival → (s.pkg.fbcs.get b).schedEn = true → s.fbTimeOk = true →
        s.Gives (.fbcSchedule i r) [.freeIdx, .fbcs, .hif, .mlk, .recs, .outputs] fun t =>
          t.Ended e.jseq cOk 0 ∧ t.fbcs = s.fbcs.upd b fun f => { f with holdArrival := false }) ∧
      (form 2 → f.mode = .schedule → s.Gives (.fbcSchedule i r) [.freeIdx, .hif, .mlk, .recs, .outputs] fun t =>
        t.Ended e.jseq 0x0A02 0) ∧
      (form 3 → f.mode ≠ .busOff → s.glb.lcs = .service → (∀ z, z ∈ f.retries ++ f.queue ++ f.unsealed → ∀ fr c,
          z.what ≠ .send e.jseq fr c) →
        s.Gives (.fbcListen i r) [.freeIdx, .stns, .fbcs, .hif, .mlk, .recs, .outputs] fun t =>
          t.Ended e.jseq cOk 0 ∧ (t.fbcs.get b).mode = .listen ∧ (t.fbcs.get b).queue = [] ∧
          (t.fbcs.get b).retries = []) ∧
      (form 3 → f.mode ≠ .busOff → s.glb.lcs ≠ .service →
        s.Gives (.fbcListen i r) [.freeIdx, .hif, .mlk, .recs, .outputs] fun t => t.Ended e.jseq 0x0005 0) ∧
      (form 4 → f.mode = .busOff → f.seqDone = true →
        s.Gives (.fbcRecover i r) [.freeIdx, .stns, .fbcs, .hif, .mlk, .recs, .outputs] fun t =>
          t.Ended e.jseq cOk 0 ∧ (t.fbcs.get b).mode = .arrival ∧ (t.fbcs.get b).tec = 0 ∧ (t.fbcs.get b).recCnt = 0) ∧
      (form 4 → f.mode = .busOff → f.seqDone = false →
        s.Gives (.fbcRecover i r) [.freeIdx, .fbcs, .hif, .mlk, .recs, .outputs] fun t =>
          t.Ended e.jseq cOk 0 ∧ t.fbcs = s.fbcs.upd b fun f => { f with recoverAsked := true })) ∧
    (∀ (b : Fin 2) (bs : List Byte), s.Runs i r { s0Form i 0x51 none [(32, 7)] with buf := true } e →
      let id := d.num 32 4
      let fl := d.num 36 1
      let n := d.num 37 1
      let cmd := fl.testBit 2
      let fr : CanFrame := { ide := id.testBit 31, id := BitVec.ofNat 29 id, fd := fl.testBit 0, brs := fl.testBit 1,
                             data := bytesAt bs 0 n }
      d.num 38 1 = b.val → fl < 8 → canLength (fl.testBit 0) n = true → d.length = n → id.testBit 29 = false →
      id.testBit 30 = false → (id.testBit 31 = true ∨ id % 2 ^ 29 < 2 ^ 11) → s.unitOn (.fbc b) = true →
      ((s.fbcs.get b).mode = .busOff → ∃ t, exec (.fbcSend i r (some bs)) s = .next t ∧ t.Ended e.jseq 0x0A00 0 ∧
        t.fbcs = s.fbcs) ∧
      ((s.fbcs.get b).mode = .arrival ∨ (s.fbcs.get b).mode = .schedule →
        (cmd = true → s.mlk.grant = false → ∃ t, exec (.fbcSend i r (some bs)) s = .next t ∧ t.Ended e.jseq 0x0A03 0 ∧
          t.fbcs = s.fbcs) ∧
        let free := s.paired = false ∧ (s.fbcs.get b).unsealed = []
        (cmd = false ∨ s.mlk.grant = true → free → 64 ≤ s.fbDepth b → ∃ t, exec (.fbcSend i r (some bs)) s = .next t ∧
          t.Ended e.jseq 0x0A01 0 ∧ t.fbcs.get b = s.fbcs.get b) ∧
        (cmd = false ∨ s.mlk.grant = true → s.paired = true → ∃ t, exec (.fbcSend i r (some bs)) s = .next t ∧
          t.Waits e.jseq ∧ ∃ z, z ∈ (t.fbcs.get b).unsealed ∧ z.what = .send e.jseq fr cmd ∧ z.ident = id % 2 ^ 29) ∧
        (cmd = false ∨ s.mlk.grant = true → free → s.fbDepth b < 64 → ∃ t, exec (.fbcSend i r (some bs)) s = .next t ∧
          t.Waits e.jseq ∧ ∃ z, (z ∈ (t.fbcs.get b).queue ∨ (t.fbcs.get b).onWire = some z) ∧
            z.what = .send e.jseq fr cmd ∧ z.ident = id % 2 ^ 29 ∧ z.ide = id.testBit 31))) ∧
    (s.Runs i r { s0Form i 0x41 none [(32, 8)] with present := fun _ => cnvPresent } e →
      let ls := (List.range 64).filter fun l => (d.num 32 8).testBit l
      ls ≠ [] →
      ((ls.all fun l => s.unitOn (.beam l)) = true →
        s.Gives (.beamCal i r) [.freeIdx, .beams, .hif, .mlk, .recs, .outputs] fun t => t.Waits e.jseq ∧
          ∀ l, let b := s.flushBeams.beams.get l
            t.beams.get l = if l ∈ ls then
              { b with calJobs := b.calJobs ++ [(e.jseq, none)], calDue := b.calDue || !calBusy b,
                       calStart := if calBusy b then b.calStart else s.now }
            else b) ∧
      ((ls.all fun l => s.unitOn (.beam l)) = false →
        s.Gives (.beamCal i r) [.freeIdx, .hif, .mlk, .recs, .outputs] fun t => t.Ended e.jseq 0x0701 0)) ∧
    (s.Runs i r (s0Form i 0x60 none [(32, 1), (40, 8)]) e → d.num 32 1 < 16 →
      let k := d.num 32 1
      let start := d.num 40 8
      let old := if (s.col.tps.get k).armed then tsOf (s.onceStart k) + 2 ^ 32 else 0
      (s.pkg.tps.get k).mode = .once →
      (s.tai + 1000 ≤ start → s.Gives (.tpArm i r) [.freeIdx, .col, .hif, .mlk, .recs, .outputs] fun t =>
        t.Ended e.jseq cOk old ∧
        t.col = { s.col with tps := s.col.tps.upd k fun y => { y with armed := true, start := some start } }) ∧
      (start < s.tai + 1000 → s.Gives (.tpArm i r) [.freeIdx, .hif, .mlk, .recs, .outputs] fun t =>
        t.Ended e.jseq 0x0901 0))

/-! ## Reads of the recorders -/

/-- READ_SNAPSHOT, PER_READ and EVR_FLUSH (R380, R382, R385, R391, R394 to R396), for a descriptor that runs. A snapshot
puts the sequence count before and after the bytes of its target, and answers both; PER_READ copies the part of its item
that fits, and answers its size and what it copied; what does not exist is answered by its code. A histogram or map is
cleared where the descriptor asks for it. EVR_FLUSH asks for a flush and waits for it, or ends at once with an empty
buffer. -/
def Obligations.RecorderReadsCopyWhatTheyName : Prop :=
  ∀ (i : Fin 64) (r : Fin 8) (e : JEntry) (s : State),
    let d := e.desc
    let x := s.slice i
    let out := x.paused = false ∧ x.silent = false ∧ s.heldAt i = none ∧ (x.dirty.on = true → s.heldAt 0 = none)
    let q := s.recs.evr.useq
    let m := d.num 36 4
    let first := d.num 40 8
    let gives (c : Instr) (f : State → Prop) : Prop := s.Gives c [.freeIdx, .hif, .mlk, .recs, .outputs] f
    let snap (c : Instr) (data : List Byte) : Prop := gives c fun t =>
      t.Ended e.jseq cOk (q % 2 ^ 64 + q % 2 ^ 64 * 2 ^ 64) ∧
      (out → Emission.host i (.buffer d.bufAddr (leBytes 8 q ++ data ++ leBytes 8 q)) ∈ t.outputs)
    let part (t : State) (item : List Byte) : Prop :=
      let bs := (item.drop (d.num 52 4)).take d.length
      t.Ended e.jseq cOk (item.length + bs.length * 2 ^ 64) ∧ (out → Emission.host i (.buffer d.bufAddr bs) ∈ t.outputs)
    let mine (g : Nat) : Bool := i.val = 0 || (decide ((s.perCfg g).owner = i.val) && decide (d.num 33 1 = 0))
    (s.Runs i r (snapForm 0 fun _ => i.val = 0 || (List.range m).all fun k =>
        decide ((s.pkg.evr.get (first + k)).owner = i.val)) e →
      1 ≤ m → m ≤ 256 → first + m ≤ 4096 → 16 + 256 * m ≤ d.length →
      snap (.readEvrLive i r) ((List.range m).flatMap fun k => s.evrWindow (first + k))) ∧
    (let rs := (s.recs.evr.log.filter fun x =>
        decide (first ≤ x.rseq) && (i.val = 0 || (s.pkg.evr.get x.channel).owner = i.val)).take m
     s.Runs i r (snapForm 1 fun _ => true) e → 1 ≤ m → m ≤ 4096 → 16 + 256 * rs.length ≤ d.length →
      snap (.readEvrLog i r) (rs.flatMap evrRecord)) ∧
    (s.Runs i r { snapForm 2 fun _ => i.val = 0 with
        present := fun d => decide (15 < d.num 33 1 ∨ d.num 33 1 < lensCount) } e →
      let b := s.recs.loupes.get (d.num 33 1 * 4 + d.num 34 1)
      d.num 33 1 < 16 → d.num 34 1 < 4 → 16 + 65536 ≤ d.length →
      (b.st = .done → snap (.readLoupe i r) (b.samples.reverse.flatMap fun x => x.flatMap fun v => leBytes 2 v.toNat)) ∧
      (b.st ≠ .done → gives (.readLoupe i r) fun t => t.Ended e.jseq 0x0B01 0)) ∧
    (s.Runs i r (snapForm 3 fun _ => i.val = 0) e → d.num 34 1 < 16 →
      (findRow s.recs.dumpSlots (d.num 34 1) = none → gives (.readDump i r) fun t => t.Ended e.jseq 0x0B02 0) ∧
      (∀ z, findRow s.recs.dumpSlots (d.num 34 1) = some z → 16 + (dumpBytes z).length ≤ d.length →
        snap (.readDump i r) (dumpBytes z))) ∧
    (s.Runs i r (snapForm 4 fun _ => i.val = 0) e → 16 + Config.channelTable.length ≤ d.length →
      snap (.readChannelTable i r) Config.channelTable) ∧
    (∀ z, s.Runs i r (perForm 1 fun _ => mine z.group) e → d.num 33 1 < 2 → s.recHeld first = some z →
      gives (.perReadRecord i r) fun t => part t (recBytes z)) ∧
    (s.Runs i r (perForm 1 fun d => i.val = 0 || d.num 33 1 = 0) e → d.num 33 1 < 2 → s.recHeld first = none →
      gives (.perReadRecord i r) fun t => t.Ended e.jseq 0x0B00 0) ∧
    (let h := d.num 34 2
     s.Runs i r (perForm 2 fun _ => mine (s.pkg.hists.get h).group) e → d.num 33 1 < 2 → h < 32 →
     gives (.perReadHist i r) fun t => part t (Config.histImage (s.recs.hists.get h).bins) ∧
       t.recs.hists = if d.num 33 1 = 1 then s.recs.hists.set h {} else s.recs.hists) ∧
    (let h := d.num 34 2
     s.Runs i r (perForm 3 fun _ => mine (s.pkg.pmaps.get h).group) e → d.num 33 1 < 2 → h < 8 →
     gives (.perReadPmap i r) fun t => part t (Config.pmapImage (s.recs.pmaps.get h).cells) ∧
       t.recs.pmaps = if d.num 33 1 = 1 then s.recs.pmaps.set h {} else s.recs.pmaps) ∧
    (s.Runs i r (perForm 4 fun d => i.val = 0 || d.num 33 1 = 0) e → d.num 33 1 < 2 →
      let n := d.num 48 4
      1 ≤ n → n ≤ 4096 → gives (.perReadIndex i r) fun t =>
        part t (((s.recs.records.filter fun z => decide (first ≤ z.rnum) &&
          (i.val = 0 || (s.perCfg z.group).owner = i.val)).take n).flatMap recEntry)) ∧
    (s.Runs i r { opcode := 0x72, used := [(32, 1)], may := fun _ => i.val = 0 } e → d.num 32 1 = 0 →
      let n := s.recs.evr.buffer.length
      (n = 0 → gives (.evrFlush i r) fun t => t.Ended e.jseq cOk (s.recs.evr.lastRseq * 2 ^ 64)) ∧
      (n ≠ 0 → gives (.evrFlush i r) fun t => t.Waits e.jseq ∧ t.recs.evr.flushing = true ∧
        (e.jseq, n, 0, 0) ∈ t.recs.evr.waits))

/-! ## Slices -/

/-- Dirty logs and shares (R322, R325, R326, R334 to R337), for a descriptor that runs. LOG_FLUSH and STOP answer the
records produced, START opens a log as its bytes say, CLEAR_FILTER empties the filter and reports an overflow, and each
answers DIRTY_LOG_OFF where the log does not fit. A LOG_FLUSH or CLEAR_FILTER waits while a record of the log is held for a
link. APERTURE_SET changes what its mask names and answers the tokens. A bucket that is empty opens again at the instant its
rate gives; what waited for the byte bucket is written then. -/
def Obligations.DirtyLogsAndSharesFollowTheirRules : Prop :=
  ∀ (i : Fin 64) (r : Fin 8) (e : JEntry) (s : State),
    let d := e.desc
    let k := d.num 32 1
    let x := (s.slice k).dirty
    let gives (c : Instr) (f : State → Prop) : Prop := s.Gives c [.freeIdx, .hif, .mlk, .recs, .outputs] f
    (s.Runs i r { opcode := 0x80, used := [(32, 1)], may := fun d => i.val = 0 || d.num 32 1 = i.val } e → k < 64 →
      (x.on = true → s.recordHeld k = false → gives (.logFlush i r) fun t => t.Ended e.jseq cOk (dirtyResult x)) ∧
      (x.on = true → s.recordHeld k = true → gives (.logFlush i r) fun t =>
        t.Waits e.jseq ∧ (e.jseq, k, false) ∈ t.hif.flushes) ∧
      (x.on = false → gives (.logFlush i r) fun t => t.Ended e.jseq 0x0306 0)) ∧
    (s.Runs i r (dirtyForm i 1) e → k < 64 → powerOfTwo 1024 1048576 (d.num 36 4) = true → d.num 40 8 % 4096 = 0 →
      d.num 48 8 % 8 = 0 →
      (x.on = false → s.unitOn (.slice k) = true → gives (.dirtyLogStart i r) fun t =>
        let y := (t.slice k).dirty
        t.Ended e.jseq cOk 0 ∧ y.on = true ∧ y.depth = d.num 36 4 ∧ y.base = d.num 40 8 ∧ y.consumedAddr = d.num 48 8 ∧
        (k ≠ i.val → y.produced = 0 ∧ y.consumed = 0 ∧ y.filter = [] ∧ y.overflow = false)) ∧
      (x.on = true → gives (.dirtyLogStart i r) fun t => t.Ended e.jseq 0x0306 0) ∧
      (x.on = false → s.unitOn (.slice k) = false → gives (.dirtyLogStart i r) fun t => t.Ended e.jseq 0x0303 0)) ∧
    (s.Runs i r (dirtyForm i 2) e → k < 64 →
      (x.on = true → gives (.dirtyLogStop i r) fun t => t.Ended e.jseq cOk (dirtyResult x) ∧
        (t.slice k).dirty.on = false) ∧
      (x.on = false → gives (.dirtyLogStop i r) fun t => t.Ended e.jseq 0x0306 0)) ∧
    (s.Runs i r (dirtyForm i 3) e → k < 64 →
      (x.on = true → s.recordHeld k = true → gives (.clearFilter i r) fun t =>
        t.Waits e.jseq ∧ (e.jseq, k, true) ∈ t.hif.flushes ∧ (k ≠ i.val → (t.slice k).dirty = x)) ∧
      (x.on = true → s.recordHeld k = false → gives (.clearFilter i r) fun t =>
        t.Ended e.jseq (if x.overflow then 0x0307 else cOk) (dirtyResult x) ∧
        (k ≠ i.val → (t.slice k).dirty = { x with filter := [], overflow := false })) ∧
      (x.on = false → gives (.clearFilter i r) fun t => t.Ended e.jseq 0x0306 0)) ∧
    (s.Runs i r (sliceForm i 0x83 none [(32, 3), (36, 16)]) e → apertureFits d = true →
      let m := d.num 33 1
      let z := s.slice k
      let u := ((s.payBytes i 0).start e.jseq).setShare k d
      (s.unitOn (.slice k) = true → z.st ≠ .resetting → (m.testBit 3 = true → s.limitSum k + d.num 42 2 ≤ 64512) →
        s.Gives (.apertureSet i r) [.freeIdx, .swc, .fbcs, .hif, .mlk, .recs, .outputs] fun t =>
          let y := t.slice k
          y.weight = (if m.testBit 0 then d.num 34 1 else z.weight) ∧
          y.descRate = (if m.testBit 1 then d.num 36 4 else z.descRate) ∧
          y.descBurst = (if m.testBit 1 then d.num 40 2 else z.descBurst) ∧
          y.byteRate = (if m.testBit 2 then d.num 44 4 else z.byteRate) ∧
          y.byteBurst = (if m.testBit 2 then d.num 48 4 else z.byteBurst) ∧
          y.unexecLimit = (if m.testBit 3 then d.num 42 2 else z.unexecLimit) ∧
          (y.descRate ≠ 0 → y.byteRate ≠ 0 → t.Ended e.jseq cOk
            (unsigned 32 (u.descLevel k / 1000000000) + unsigned 32 (u.byteLevel k / 1000000000) * 2 ^ 32))) ∧
      (s.unitOn (.slice k) = false → gives (.apertureSet i r) fun t => t.Ended e.jseq 0x0303 0)) ∧
    (s.descOpen i = false → s.Gives (.descBucketRefill i) [.now, .freeIdx, .col, .hif, .recs, .outputs] fun t =>
      t.now = s.now + ceilDiv (1000000000 - s.descLevel i).toNat (s.slice i).descRate ∧
      ((s.slice i).descBkt.at_ ≤ s.now → 1 ≤ (s.slice i).descBurst → t.descOpen i = true)) ∧
    (s.descOpen i = true → s.Gives (.descBucketRefill i) [.freeIdx, .hif, .recs, .outputs] fun t => t.descOpen i = true) ∧
    (s.Gives (.byteBucketRefill i) [.now, .freeIdx, .swc, .col, .fbcs, .hif, .recs, .outputs] fun t =>
      t.now = (if s.byteOpen i then s.now
        else s.now + ceilDiv (-(s.byteLevel i)).toNat ((s.slice i).byteRate * 1000000)) ∧
      ((s.slice i).byteBkt.at_ ≤ s.now → (s.slice i).late = [] → t.byteOpen i = true) ∧
      ((s.slice i).byteBkt.at_ ≤ s.now → ∀ x, (s.slice i).late = [x] → let q := s.cq i x.c
        s.takesRecords i = true → q.on = true → q.receive = true → cqFree q ≠ 0 →
        (t.cq i x.c).written = q.written + 1))

/-- Reset, removal, pause and resume (R327 to R333), for a descriptor that runs on a slice that is ON and that nothing
else works on. A reset waits until everything taken is accepted, then cancels what has not started; a report buffer that
is too short ends it. Once all its completions are sealed a reset leaves RESET_DONE and a removal stops the unit. A pause
waits for the last completion, or gives up at its limit; a resume polls again at once. -/
def Obligations.SlicesAreResetPausedAndResumed : Prop :=
  ∀ s : State,
    (∀ (i : Fin 64) (r : Fin 8) (e : JEntry) (mode : Nat) (c : Instr) (md : ResetMode),
      let d := e.desc
      let k := d.num 32 1
      let x := s.slice k
      let w : ResetWork := { jseq := e.jseq, mode := md, since := s.now, noHost := !(s.hif.ports.get x.port).up }
      let waits := (s.sliceJ k).any fun z => !z.accepted
      (c = .sliceResetReset i r ∧ mode = 1 ∧ md = .reset) ∨ (c = .sliceRemove i r ∧ mode = 2 ∧ md = .remove) →
      s.Runs i r { sliceForm i 0x82 (some (33, mode)) [(32, 9)] with buf := true } e →
      resetFits d = true → s.unitOn (.slice k) = true → x.work = none → x.workQueue = [] →
      (∀ z, z ∈ s.sliceJ k → z.jseq ≠ e.jseq) →
      (waits = true → s.Gives c [.freeIdx, .swc, .fbcs, .hif, .mlk, .recs, .outputs] fun t =>
        t.Waits e.jseq ∧ (t.slice k).st = .resetting ∧ (t.slice k).stopped = true ∧ (t.slice k).work = some w) ∧
      (waits = false → 32 * max x.unexecLimit (s.unexec k) ≤ d.length →
        s.Gives c [.freeIdx, .swc, .fbcs, .hif, .mlk, .recs, .outputs] fun t =>
          t.Waits e.jseq ∧ (t.slice k).st = .resetting ∧ (t.slice k).stopped = true ∧
          (t.slice k).work = some { w with step := 2, aborted := ((s.sliceJ k).filter (·.state = .accepted)).length } ∧
          ∀ z, z ∈ s.sliceJ k → z.state = .accepted → s.jEntry z.jseq = some z → t.Ended z.jseq 0x0006 0) ∧
      (waits = false → d.length < 32 * max x.unexecLimit (s.unexec k) →
        s.Gives c [.freeIdx, .swc, .fbcs, .hif, .mlk, .recs, .outputs] fun t =>
          t.Ended e.jseq 0x0004 0 ∧ (t.slice k).st = .active ∧ (t.slice k).work = none)) ∧
    (∀ (i : Fin 64) (r : Fin 8) (e : JEntry),
      let d := e.desc
      let k := d.num 32 1
      let x := s.slice k
      let form (mode : Nat) : Prop :=
        s.Runs i r { sliceForm i 0x82 (some (33, mode)) [(32, 9)] with buf := true } e
      resetFits d = true → s.unitOn (.slice k) = true → x.work = none → x.workQueue = [] →
      (form 3 → s.Gives (.slicePause i r) [.freeIdx, .swc, .fbcs, .hif, .mlk, .recs, .outputs] fun t =>
        t.Waits e.jseq ∧ (t.slice k).stopped = true ∧ (t.slice k).paused = x.paused ∧
        (t.slice k).work = some { jseq := e.jseq, mode := .pause, since := s.now, limitMs := d.num 34 2 }) ∧
      (form 4 → x.paused = true → (d.num 36 4).testBit 31 = false →
        s.Gives (.sliceResume i r) [.freeIdx, .hif, .mlk, .recs, .outputs] fun t =>
          t.Ended e.jseq cOk 0 ∧ (t.slice k).paused = false ∧ (t.slice k).stopped = false ∧ (t.slice k).pollNow = some s.now) ∧
      (form 4 → x.paused = false → s.Gives (.sliceResume i r) [.freeIdx, .hif, .mlk, .recs, .outputs] fun t =>
        t.Ended e.jseq 0x030A 0)) ∧
    (∀ (k : Fin 64) (w : ResetWork) (e : JEntry),
      let x := s.slice k
      let up := (s.hif.ports.get x.port).up
      x.work = some w → x.workQueue = [] → s.jEntry w.jseq = some e → e.state = .started →
      (w.mode ≠ .pause → w.step = 2 → s.paired = false →
        (∀ z, z ∈ s.sliceJ k → s.jEntry z.jseq = some z ∧ z.jseq ≠ w.jseq ∧ z.accepted = true ∧
          (z.sealed = true ∨ z.state = .started)) →
        s.Gives (.resetDone k) [.freeIdx, .units, .fns, .prots, .swc, .hif, .mlk, .recs, .outputs] fun t =>
          (w.mode = .reset → (t.slice k).st = .resetDone ∧ (t.slice k).work = none ∧ (t.slice k).silent = true ∧
            ∃ n, t.Ended w.jseq (if up && !w.noHost then cOk else 0x0308) n) ∧
          (w.mode = .remove → (t.slice k).st = .off ∧ (t.unit (.slice k)).st = .stopping ∧
            (t.unit (.slice k)).en = false ∧ ((t.slice k).work.map (·.step)) = some 7 ∧ t.Waits w.jseq)) ∧
      (w.mode = .pause → s.sliceJ k = [] → s.writeHeld k = false → s.Gives (.pauseEffect k) [.freeIdx, .hif, .mlk, .recs, .outputs] fun t =>
        (t.slice k).paused = true ∧ (t.slice k).work = none ∧ t.Ended w.jseq cOk (resetResult {} s.ts)) ∧
      (w.mode = .pause → s.Gives (.pauseTimeout k) [.now, .freeIdx, .col, .hif, .mlk, .recs, .outputs] fun t =>
        t.now = max s.now (w.since + w.limitMs * 1000000) ∧ (t.slice k).work = none ∧
        (t.slice k).stopped = x.stopped ∧ t.Ended w.jseq 0x0305 0))

/-! ## Units, bring-up and restarts -/

/-- Switchable units (R75, R76, R208, R330). A write of EN starts a unit that is OFF and not fenced, and is a locked write
for a slice or after RUN; a lens that loses it in STARTING stops its programs (log 93). STARTING ends ON, or in STOPPING where EN has fallen; a local PWM channel waits for its period.
STOPPING ends OFF, or in STARTING where EN has risen. A start that takes too long fails with its event, and a stop that
takes too long fences the unit with its alarm. -/
def Obligations.UnitsStartStopAndFence : Prop :=
  ∀ (u : UnitId) (s : State),
    let x := s.unit u
    (∀ en, s.windowOpen .h0 = true → unitInRange u = true → unitPresent u = true → x.en ≠ en →
      ((s.glb.run = true ∨ ∃ i, u = .slice i) →
        s.Gives (.unitEnWrite u en) [.glb] fun t => t.glb = { s.glb with lockedWrite := true }) ∧
      (s.glb.run = false → (∀ i, u ≠ .slice i) → s.configured u = true →
        (en = true → x.fenced = true → exec (.unitEnWrite u en) s = .next s) ∧
        (en = true → x.fenced = false → x.st = .off → ∃ t, exec (.unitEnWrite u en) s = .next t ∧
          t.unit u = { x with en := true, st := .starting, since := s.now } ∧
          ∀ v, unitKey v ≠ unitKey u → t.unit v = s.unit v) ∧
        (en = false → x.st ≠ .on → x.st ≠ .starting ∨ (∀ l, u ≠ .lens l) → s.Gives (.unitEnWrite u en) [.units] fun t =>
          t.units = s.units.upd (unitKey u) fun y => { y with en := false }) ∧
        (∀ l, en = false → x.st = .starting → u = .lens l → s.Gives (.unitEnWrite u en) [.freeIdx, .svc, .units, .facets,
          .progs, .lenses, .fencedFlash, .lanes, .logic, .slots64, .stns, .tos, .gps, .arms, .sms, .beams, .pwms, .swc, .fbcs,
          .hif, .mlk, .recs, .obs, .outputs] fun t =>
            t.units = (s.units.upd (unitKey u) fun y => { y with en := false }) ∧
            ∀ p, p ∈ s.lensLogic l → (t.logic.get p).warm = false))) ∧
    (x.st = .starting → s.unitsRun = true → s.bistHolds u = false →
      (s.startable u = true → (∀ n, u ≠ .pwm n) → (∀ i, u = .slice i → s.creating i = false) →
        ∃ t, exec (.unitStartDone u) s = .next t ∧
          t.units = s.units.upd (unitKey u) fun y => { y with st := if y.en then .on else .stopping, since := s.now }) ∧
      (∀ n, u = .pwm n → s.Gives (.unitStartDone u) [.pwms] fun t =>
        t.pwms = s.pwms.upd n fun p => { p with startReady := true }) ∧
      ((∀ i, u = .slice i → s.creating i = false) →
        s.Gives (.unitStartFailed u) [.now, .freeIdx, .units, .col, .recs] fun t =>
          t.now = max s.now (x.since + startLimit u + 1) ∧
          t.unit u = { x with st := .off, startFailed := true, en := false, since := t.now } ∧
          (Ev.unitStartFailed, unitKey u, t.now) ∈ t.recs.evr.events)) ∧
    (x.st = .stopping →
      (s.stoppable u = true → (∀ n, u ≠ .pwm n) → ∃ t, exec (.unitStopDone u) s = .next t ∧
        (t.unit u).st = (if x.en then .starting else .off) ∧ (t.unit u).en = x.en ∧ (t.unit u).since = s.now ∧
        ∀ v, unitKey v ≠ unitKey u → t.unit v = s.unit v) ∧
      (∀ i w e, u = .slice i → x.en = false → (s.slice i).work = some w → w.step = 7 → (s.slice i).workQueue = [] →
        s.jEntry w.jseq = some e → e.state = .started → ∃ t, exec (.unitStopDone u) s = .next t ∧
          (t.slice i).work = none ∧ (t.slice i).st = .off ∧
          t.Ended w.jseq (if (s.hif.ports.get (s.slice i).port).up && !w.noHost then cOk else 0x0308)
            (resetResult w s.ts)) ∧
      ∃ t, exec (.unitFenced u) s = .next t ∧ t.now = max s.now (x.since + stopLimit u + 1) ∧
        t.unit u = { x with st := .off, fenced := true, en := false, since := t.now } ∧
        (Ev.unitFenced, unitKey u) ∈ t.recs.evr.alarms)

/-- Bring-up (R49 to R54, R58, R410, R417, R451, R455). Power good starts the keep-alive domain with what flash holds;
BOOT tries NEXT_BANK, then the other bank, then fails; the firmware runs its self-test, whose failure holds the module.
A cold restart reaches SETUP, a warm one RUNNING. RUN takes the module to RUNNING where R51 lets it, else sets
RUN_REFUSED; in SERVICE a cleared RUN stops fetching, and takes the module back to SETUP when accepted work has ended and
no program works in its last cycle any more. -/
def Obligations.TheModuleComesUpPhaseByPhase : Prop :=
  ∀ s : State,
    (∀ st : Straps, s.ka.powerGood = false → ∃ t, exec (.powerGood st) s = .next t ∧
      t.glb.phase = .kaStart ∧ t.glb.lcs = s.glb.lcs ∧ t.glb.modnum = st.ga ∧ t.ka.powerGood = true ∧
      t.ka.powerGoodAt = s.now ∧ t.ka.nextBank = s.ka.nextBank ∧ t.ka.hours = s.ka.hoursFlash ∧
      t.ka.pwrcyc = s.ka.pwrcycFlash + 1 ∧ t.mlk.grant = false ∧ t.mlk.role = .offline ∧
      t.hw.gaParErr = !parityOk st ∧ (parityOk st = false → (Ev.gaParity, 0) ∈ t.recs.evr.alarms)) ∧
    (s.glb.phase = .kaStart → s.ka.powerGood = true → s.hw.pf ≠ .flushed → s.hw.thermalTrip = false →
      s.Gives .kaStartDone [.glb, .ka, .col] fun t => t.glb = { s.glb with phase := .boot } ∧
        t.ka = { s.ka with resultA := .notTried, resultB := .notTried, tryBank := s.ka.nextBank } ∧
        t.col = { s.col with refOk := true }) ∧
    (∀ readOk, s.glb.phase = .boot →
      let b := s.ka.tryBank
      let v := s.verifyBank b readOk
      let k : Ka := if b then { s.ka with resultB := v } else { s.ka with resultA := v }
      s.Gives (.bootVerifyDone readOk) [.glb, .ka, .recs] fun t =>
        (v = .good → t.ka = { k with runningBank := b } ∧ t.glb.phase = .mmStart ∧ t.glb.fwBank = b ∧
          (b = s.ka.nextBank → t.glb.fwFallback = false)) ∧
        (v ≠ .good → s.bankResult (!b) = .notTried → t.ka = { k with tryBank := !b } ∧ t.glb = s.glb) ∧
        (v ≠ .good → s.bankResult (!b) ≠ .notTried → t.ka = k ∧ t.glb = { s.glb with phase := .bootFailed })) ∧
    (s.glb.phase = .mmStart → s.Gives .mmStartDone [.glb, .obs] fun t =>
      t.glb = { s.glb with phase := .selfTest } ∧
      t.obs = { s.obs with scramble := (s.obs.scramble + 1) % 65536 }) ∧
    (∀ r : StartupResult, s.glb.phase = .selfTest → ∃ t, exec (.startupBistDone r) s = .next t ∧
      t.bst.lensPass = r.lensPass ∧ t.bst.pllPass = r.pllPass ∧ t.bst.vrefPass = r.vrefPass ∧
      t.bst.serdesPass = r.serdesPass ∧
      (startupPass r = true → t.glb = if s.glb.restartWarm then s.glb else { s.glb with phase := .setup }) ∧
      (startupPass r = false → t.glb = { s.glb with phase := .held } ∧ t.bst.result = .fail ∧
        (r.pllPass = false → t.bst.region = 0x400) ∧
        (r.pllPass = true → r.vrefPass = false → t.bst.region = 0x500) ∧
        (∀ l, r.pllPass = true → r.vrefPass = true →
          ((List.range lensCount).find? fun l => !r.lensPass.getLsbD l) = some l → t.bst.region = l) ∧
        (Ev.bistFail, t.bst.region, s.now) ∈ t.recs.evr.events)) ∧
    (∀ i : Image, s.glb.phase = .selfTest → s.glb.restartWarm = true →
      (s.lenses.rows.all fun r => !r.2.needsTest) = true →
      (if s.svc.active then s.svc.cfg1 else s.svc.cfg0) = some i → ∃ t, exec .warmRestartDone s = .next t ∧
        t.glb = { s.glb with run := true, phase := .running } ∧ t.svc.pkg = i.body ∧
        (s.glb.lcs = .operational → t.mlk.role = .standby)) ∧
    (∀ energy vstore, s.ka.powerGood = true → energy ≤ 0xFFFF → vstore ≤ 0xFFF →
      s.Gives (.holdupCharged energy vstore) [.glb, .recs, .hw] fun t =>
        t.hw = { s.hw with energy := energy, vstore := vstore, charging := decide (vstore < 800) } ∧
        t.glb = { s.glb with holdupReady := decide (8000 ≤ energy) && !(s.bst.busy && s.bst.region = 0x700) } ∧
        (8000 ≤ s.hw.energy → energy < 8000 → (Ev.holdup, 0) ∈ t.recs.evr.alarms)) ∧
    (s.ka.powerGood = true → s.glb.holdupReady = false → s.Gives .holdupTimeout [.now, .col, .recs] fun t =>
      t.now = max s.now (s.ka.powerGoodAt + 3000000000) ∧ (Ev.holdup, 0) ∈ t.recs.evr.alarms) ∧
    (s.mayRun = true → ∃ t, exec .runSet s = .next t ∧
      t.glb = { s.glb with run := true, phase := .running } ∧ t.hif.fetchStopped = false ∧
      (s.glb.lcs = .operational → t.mlk.role = .standby)) ∧
    (s.mayRun = false → s.Gives .runSet [.glb] fun t => t.glb = { s.glb with runRefused := true }) ∧
    (s.glb.run = true → s.glb.lcs = .service → s.glb.phase = .running → s.glb.clearing = false →
      s.Gives .runClear [.glb, .hif] fun t => t.glb = { s.glb with clearing := true } ∧ t.hif.fetchStopped = true ∧
        t.hif.journal = s.hif.journal) ∧
    (s.glb.clearing = true → (s.hif.journal.all fun e => e.state = .completed) = true →
      let m := if s.glb.halting then s.stopIdle else s.haltWork
      (m.stillWorks = false → ∃ t, exec .runClearDone s = .next t ∧ t.mlk.role = .offline ∧
        t.glb = { s.glb with run := false, clearing := false, halting := false, phase := .setup }) ∧
      (m.stillWorks = true → ∃ t, exec .runClearDone s = .next t ∧ t.glb = { s.glb with halting := true }))

/-- Restarts and failures of the Module Manager (R52, R62 to R66, R371, R372, R389, R395). A restart starts at KA_START
with its cause and count, drops the claim and cuts the running operation; a warm one that the firmware starts keeps the
retained slots, a cold one keeps keys and banks but no journal. A failed manager leaves a reduced dump and cuts its operation;
in start-up it boots the other bank once. Its restart completes the dump. A fatal error writes a whole dump, and a dump
is copied to its slot. Operating hours count in hundredths. -/
def Obligations.RestartsAndManagerFailures : Prop :=
  ∀ s : State,
    let again (t : State) (c : RstCause) : Prop :=
      t.glb.phase = .kaStart ∧ t.glb.lcs = s.glb.lcs ∧ t.ka.cause = (if s.glb.phase = .safe then .bistSafe else c) ∧
      t.ka.count = min 0xFFFF (s.ka.count + 1) ∧ t.ka.svcCut = (s.ka.svcCut || s.svc.running.isSome) ∧
      t.svc.running = none ∧ t.mlk.grant = false ∧ t.mlk.role = .offline
    let cold (t : State) (c : RstCause) : Prop :=
      again t c ∧ t.glb.restartWarm = false ∧ t.ka.retentionValid = false ∧ t.hif.journal = [] ∧
      t.obs.slots = s.obs.slots ∧ t.svc.bankA = s.svc.bankA ∧ t.svc.bankB = s.svc.bankB ∧ t.svc.cfg0 = s.svc.cfg0 ∧
      t.svc.cfg1 = s.svc.cfg1
    (s.restartOpen = true → ∃ t, exec .restartCold s = .next t ∧ cold t .cmdCold) ∧
    (s.restartOpen = true → ∃ t, exec (.restartWarm true) s = .next t ∧ again t .cmdWarm ∧
      (s.mmRuns = true → s.glb.phase ≠ .safe → s.ka.warmAllowed = true → s.pkg.ident = s.activeIdent →
        t.glb.restartWarm = true ∧ t.ka.retentionValid = true ∧
        (s.svc.staged = none → t.slots64 = s.fillSlots.slots64))) ∧
    (s.restartOpen = true → s.ka.retentionValid = false → s.mmRuns = false →
      ∃ t, exec (.restartWarm true) s = .next t ∧ cold t .cmdWarm) ∧
    (s.ka.powerGood = true → ∃ t, exec .kaWatchdog s = .next t ∧ cold t .kaWatchdog) ∧
    (∀ c n, (c = Instr.mmWatchdogExpiry ∧ n = 2) ∨ (c = Instr.mmLockstepFail ∧ n = 1) →
      (s.glb.phase = .running → ∃ t, exec c s = .next t ∧ t.mlk.mmDown = true ∧ t.svc.running = none ∧
        t.ka.svcCut = (s.ka.svcCut || s.svc.running.isSome) ∧ t.glb = s.glb ∧
        (s.col.st = .locked → t.col.st = .holdover) ∧
        (s.ka.claimDrop = true → s.paired = true → s.mlk.role = .active → t.mlk.role = .standby ∧ t.mlk.grant = false) ∧
        ∃ d, t.recs.dump = some d ∧ d.stage = 1 ∧ d.cause = n ∧ d.dumpNo = s.recs.dumpNo + 1) ∧
      (s.glb.phase = .mmStart ∨ s.glb.phase = .selfTest → s.Gives c [.glb, .ka] fun t =>
        (s.ka.bootRetried = false → t.glb.phase = .boot ∧ t.ka.tryBank = (!s.ka.runningBank) ∧ t.ka.bootRetried = true) ∧
        (s.ka.bootRetried = true → t.glb = { s.glb with phase := .bootFailed } ∧ t.ka = s.ka))) ∧
    (s.mlk.mmDown = true →
      let b := !s.ka.runningBank
      s.Gives .mmRestartDone [.freeIdx, .glb, .ka, .lenses, .hif, .mlk, .recs, .outputs] fun t =>
        t.mlk.mmDown = false ∧
        (s.verifyBank b true = .good → t.ka.runningBank = b ∧ t.glb.fwBank = b) ∧
        (s.verifyBank b true ≠ .good → t.ka.runningBank = s.ka.runningBank ∧ t.glb = s.glb) ∧
        t.recs.dump = s.recs.dump.map fun d => { d with stage := 2 }) ∧
    (s.mmRuns = true → s.Gives .firmwareFatal [.recs] fun t => t.recs.evr.flushing = true ∧
      ∃ d, t.recs.dump = some d ∧ d.stage = 2 ∧ d.cause = 3 ∧ d.dumpNo = s.recs.dumpNo + 1) ∧
    (∀ d, s.mmRuns = true → s.recs.dump = some d → d.stage = 2 → s.recs.dumpCopied = false →
      s.Gives .dumpFlashCopyDone [.recs] fun t =>
        t.recs = { s.recs with dumpSlots := putRow s.recs.dumpSlots s.recs.nextDumpSlot d, dumpCopied := true,
                               nextDumpSlot := (s.recs.nextDumpSlot + 1) % 16 }) ∧
    (s.ka.powerGood = true → s.Gives .kaHoursTick [.now, .ka, .col] fun t =>
      t.now = max s.now (s.ka.hoursAt + 36000000000) ∧ t.ka.hours = s.ka.hours + 1 ∧
      t.ka.hoursAt = s.ka.hoursAt + 36000000000 ∧ (s.mmRuns = true → t.ka.hoursFlash = s.ka.hours + 1))

/-- The supply (R52, R438, R439, R442, R454, R473). A warning stops new operations and copies, and clears at 35 V; below
33 V for 200 us power-fail is qualified: fetching stops, and a module with a partner in service drops its grant, a single
one keeps it and sends two frames of BLOCK (R8, log 112). The flush keeps what a warm restart needs; an exhausted store loses it. The supply's
return restarts the module, at once or after the flush. An open slot or a thermal trip qualifies power-fail at once. -/
def Obligations.TheSupplyFailsAndReturns : Prop :=
  ∀ s : State,
    let qualified (t : State) : Prop :=
      t.hw.pf = .qualified ∧ t.ka.pfail = true ∧ (s.glb.phase ≠ .running → t.ka.retentionValid = false) ∧
      (s.glb.phase = .running → t.hif.fetchStopped = true ∧
        (s.paired = true → t.mlk.role = .offline ∧ (s.mlk.role ≠ .offline → t.mlk.grant = false)) ∧
        (s.paired = false → s.mlk.grant = true → t.mlk.grant = true ∧
          ∀ a, a ∈ s.armList → (0, 0) ∈ (t.arms.get a).blockAt))
    s.ka.powerGood = true →
      (∀ v : BitVec 12, s.Gives (.supplyWarn v) [.ka, .recs] fun t =>
        (v.toNat < 1360 → t.ka = { s.ka with vin := v, warn := true } ∧ t.recs = { s.recs with copyPaused := true }) ∧
        (1360 ≤ v.toNat → t.ka = { s.ka with vin := v } ∧ t.recs = s.recs)) ∧
      (∀ v : BitVec 12, s.Gives (.supplyWarnClear v) [.ka, .recs, .hw] fun t =>
        (1400 ≤ v.toNat → t.ka = { s.ka with vin := v, warn := false } ∧
          t.recs = { s.recs with copyPaused := false } ∧ t.hw.pf = (if s.hw.pf = .below then .none else s.hw.pf)) ∧
        (v.toNat < 1400 → t.ka = { s.ka with vin := v } ∧ t.recs = s.recs ∧ t.hw = s.hw)) ∧
      (∀ v : BitVec 12, v.toNat < 1320 → s.Gives (.supplyBelowPfail v) [.ka, .recs, .hw] fun t =>
        t.ka = { s.ka with vin := v, warn := true } ∧ t.recs = { s.recs with copyPaused := true } ∧
        (s.hw.pf = .none → t.hw = { s.hw with thermalTrip := false, pf := .below, belowAt := s.now })) ∧
      (s.hw.pf = .below → s.Gives .pfailQualified [.now, .freeIdx, .ka, .facets, .progs, .logic, .arms, .beams, .pwms,
        .swc, .col, .fbcs, .hif, .mlk, .recs, .hw, .outputs] fun t =>
          t.now = max s.now (s.hw.belowAt + 200000) ∧ t.hw.qualAt = t.now ∧ qualified t) ∧
      (s.hw.pf = .none ∨ s.hw.pf = .below →
        (s.Gives .slotPresentOpen [.freeIdx, .ka, .facets, .progs, .logic, .arms, .beams, .pwms, .swc, .fbcs, .hif, .mlk, .recs,
          .hw, .outputs] fun t => t.hw.slotOpen = true ∧ qualified t) ∧
        (s.Gives .thermalTrip [.freeIdx, .ka, .facets, .progs, .logic, .arms, .beams, .pwms, .swc, .fbcs, .hif, .mlk, .recs,
          .hw, .outputs] fun t => t.hw.thermalTrip = true ∧ qualified t)) ∧
      (s.hw.pf = .qualified → s.mlk.grant = true → s.Gives .pfailBlockFramesSent [.now, .col, .hw] fun t =>
        t.now = max s.now (s.hw.qualAt + 2 * s.pkg.cnv.cf + 1000) ∧ t.hw = { s.hw with pf := .blocked }) ∧
      (s.hw.pf = .blocked → s.glb.phase = .running →
        (s.hw.returned = none → ∃ t, exec .pfailFlushDone s = .next t ∧ t.hw.pf = .flushed ∧
          t.ka.retentionValid = true ∧ t.ka.flushFailed = false ∧
          (s.svc.staged = none → t.slots64 = s.fillSlots.slots64) ∧
          t.mlk.grant = false ∧ t.glb.phase = .kaStart) ∧
        (∀ ok, s.hw.returned = some ok → s.hw.thermalTrip = false → s.hw.slotOpen = false →
          ∃ t, exec .pfailFlushDone s = .next t ∧ t.glb.phase = .kaStart ∧ t.ka.cause = .powerReturn ∧
            t.hw.pf = .none)) ∧
      (s.hw.pf ≠ .none → s.hw.pf ≠ .below → ∃ t, exec .storeExhausted s = .next t ∧ t.ka.powerGood = false ∧
        t.ka.retentionValid = false ∧ t.hw.pf = .none ∧ t.hw.energy = 0 ∧ t.glb.holdupReady = false ∧
        t.mlk.grant = false ∧
        t.ka.flushFailed = (s.ka.flushFailed || (decide (s.hw.pf ≠ .flushed) && decide (s.glb.phase = .running)))) ∧
      (∀ (v : BitVec 12) (ok : Bool), 1400 ≤ v.toNat →
        (s.hw.pf = .qualified ∨ s.hw.pf = .blocked → s.Gives (.supplyReturn v ok) [.ka, .hw] fun t =>
          t.ka = { s.ka with vin := v } ∧ t.hw = { s.hw with returned := some ok }) ∧
        (s.hw.pf = .flushed → s.hw.thermalTrip = false → s.hw.slotOpen = false → s.glb.phase ≠ .safe →
          ∃ t, exec (.supplyReturn v ok) s = .next t ∧ t.glb.phase = .kaStart ∧ t.ka.cause = .powerReturn ∧
            t.ka.vin = v ∧ t.ka.warn = false ∧ t.recs.copyPaused = false ∧ t.hw.pf = .none))

/-- Latch, transceivers and temperatures (R442, R445, R474). An open latch is an alarm and asks an active module with a
partner in service to yield; a transceiver that takes too much power or is not qualified is noted, and one that leaves is
a lost link. A sensor above its threshold raises its alarm, which falls 3 K below it. -/
def Obligations.LatchTransceiversAndTemperatures : Prop :=
  ∀ s : State,
    (s.hw.latchOpen = false → s.Gives .latchOpen [.mlk, .recs, .hw] fun t =>
      t.hw = { s.hw with latchOpen := true } ∧ (Ev.latchOpen, 0) ∈ t.recs.evr.alarms ∧
      (s.mlk.role = .active → s.paired = true → s.mlk.ilkFault = false → t.mlk.yieldAt = true) ∧
      (s.mlk.role ≠ .active → t.mlk = s.mlk)) ∧
    (s.Gives .latchClose [.recs, .hw] fun t =>
      t.hw = { s.hw with latchOpen := false } ∧ (Ev.latchOpen, 0) ∉ t.recs.evr.alarms) ∧
    (∀ (k : Fin 6) (p q : Bool), s.Gives (.xcvrInsert k p q) [.swc, .mlk, .recs, .hw] fun t =>
      (t.hw.xcvrNoPwr.getLsbD k = !p) ∧ (t.hw.xcvrUnqual.getLsbD k = !q) ∧
      (∀ j, j < 6 → j ≠ k.val → t.hw.xcvrNoPwr.getLsbD j = s.hw.xcvrNoPwr.getLsbD j) ∧
      (k.val < 4 → (t.swc.ports.get k).modPresent = true ∧ t.mlk = s.mlk) ∧
      (k = 4 → t.mlk.link0.modPresent = true ∧ t.swc = s.swc) ∧
      (k = 5 → t.mlk.link1.modPresent = true ∧ t.swc = s.swc) ∧
      (q = false → (Ev.xcvrUnqualified, k.val, s.now) ∈ t.recs.evr.events) ∧ (q = true → t.recs = s.recs)) ∧
    (∀ k : Fin 6, s.Gives (.xcvrRemove k) [.freeIdx, .svc, .facets, .progs, .logic, .stns, .arms, .beams, .pwms, .swc, .fbcs,
        .hif, .mlk, .recs, .hw, .outputs] fun t =>
      t.hw.xcvrNoPwr.getLsbD k = false ∧ t.hw.xcvrUnqual.getLsbD k = false ∧
      (k.val < 4 → (t.swc.ports.get k).modPresent = false ∧ (t.swc.ports.get k).link = false ∧
        (t.swc.ports.get k).rxLos = true ∧ (t.swc.ports.get k).fecLock = false ∧
        ((s.swc.ports.get k).link = true → (Ev.linkDown, k.val, s.now) ∈ t.recs.evr.events)) ∧
      (k = 4 → t.mlk.link0.modPresent = false ∧ t.mlk.link0.up = false ∧ t.mlk.link0.rxLos = true) ∧
      (k = 5 → t.mlk.link1.modPresent = false ∧ t.mlk.link1.up = false ∧ t.mlk.link1.rxLos = true)) ∧
    (∀ (c : Instr) (v : Int), c = .tempCrit v ∨ c = .tempWarn .core v → s.Gives c [.mlk, .recs, .hw] fun t =>
      let warm := decide (105 ≤ v) || (s.hw.hotCore && decide (102 < v))
      let crit := decide (115 ≤ v) || (s.hw.tempCrit && decide (112 < v))
      t.hw = { s.hw with coreTemp := v, hotCore := warm, tempCrit := crit } ∧
      ((Ev.tempWarn, 0) ∈ t.recs.evr.alarms ↔ warm = true) ∧ ((Ev.tempCrit, 0) ∈ t.recs.evr.alarms ↔ crit = true) ∧
      (crit = true → s.hw.tempCrit = false → s.mlk.role = .active → s.paired = true → s.mlk.ilkFault = false →
        t.mlk.yieldAt = true)) ∧
    (∀ v : Int, s.Gives (.tempWarn .coldPlate v) [.recs, .hw] fun t =>
      let hot_ := decide (72 ≤ v) || (s.hw.hotPlate && decide (69 < v))
      t.hw = { s.hw with coldTemp := v, hotPlate := hot_ } ∧ ((Ev.tempWarn, 1) ∈ t.recs.evr.alarms ↔ hot_ = true)) ∧
    (∀ v : Int, s.Gives (.tempWarn .inputStage v) [.hw] fun t => t.hw = { s.hw with inputTemp := v })

/-! ## The Service Channel -/

/-- The start of an operation whose block has been read (R53, R55, R56, R68, R69, R244, R320, R404 to R407, R410, R412,
R414 to R416): while the Module Manager runs and no supply warning is active, what its checks find ends it with their
code, and else it goes on with its work. A block that cannot be read ends it with BUFFER_ERROR. -/
def Obligations.ServiceOperationsAreChecked : Prop :=
  ∀ (o : SvcOp) (s : State),
    s.svc.running = some o → o.work = .awaiting → s.mlk.mmDown = false → s.ka.warn = false →
    let goes (t : State) (w : SvcWork) : Prop := t.svc = { s.svc with running := some { o with work := w } }
    let ends (t : State) (c : Code) (data : Nat) : Prop :=
      t.svc = { s.svc with running := s.svc.waiting, waiting := none, tag := o.tag, code := c,
                           done := s.svc.done || decide (o.door = .mailbox) } ∧
      (o.door = .ring → ∀ e, s.jEntry o.jseq = some e → e.state = .started →
        t.Ended o.jseq c (o.tag.toNat + data * 2 ^ 32))
    let parts : List Part := [.freeIdx, .svc, .hif, .mlk, .recs, .obs, .outputs]
    (o.op = 1 → (∀ bank, s.Gives (.fwCommit bank none) parts fun t => ends t 0x0102 0) ∧
      ∀ bank i, s.Gives (.fwCommit bank (some i)) parts fun t =>
        match s.imageCode false false i with
        | some c => ends t c 0
        | none => goes t (.fwCommit (s.fwTarget bank) i)) ∧
    (o.op = 2 → ∀ (b : KeyBlock) (c : Instr),
      (c = .keyWriteWrite (some b) ∧ b.subop = 0) ∨ (c = .keyWriteDerive (some b) ∧ b.subop = 1) ∨
        (c = .keyWriteErase (some b) ∧ b.subop = 2) ∨ (c = .keyWriteExport (some b) ∧ b.subop = 3) ∨
        (c = .keyWriteLock (some b) ∧ b.subop = 4) →
      (keyForm b = false → s.Gives c parts fun t => ends t 0x0004 0) ∧
      (keyForm b = true → s.Gives c parts fun t =>
        match s.keyCode b with
        | some c => ends t c 0
        | none => goes t (.keyWrite b (if b.subop = 1 then Config.kmac (s.obs.slots.get b.parent).key b.data b.len
            else b.data.take b.len)))) ∧
    (o.op = 3 → ∀ nonce hostOk,
      let n := s.measurements.length
      let total := 2680 + 72 * n + 4627
      (s.keyCheck 0 5 [] = none → 64 + total ≤ s.svcLen → s.Gives (.attest (some nonce) hostOk) parts fun t =>
        goes t (.attest (s.statement nonce) n)) ∧
      (s.keyCheck 0 5 [] = none → s.svcLen < 64 + total → s.Gives (.attest (some nonce) hostOk) parts fun t =>
        let heard := (decide (o.door = .ring) || (s.hif.ports.get o.host).up) && hostOk
        ends t (if heard then 0x0004 else 0x0102) (total + n * 2 ^ 32)) ∧
      (∀ c, s.keyCheck 0 5 [] = some c → s.Gives (.attest (some nonce) hostOk) parts fun t =>
        ends t c 0 ∧ t.obs.deny = min (s.obs.deny + 1) 0xFFFFFFFF)) ∧
    (o.op = 4 → ∀ r zero known,
      let code : Option Code := if zero = false ∨ regionKnown r = false then some 0x0004
        else if s.bistPermitted = false then some 0x0005
        else if regionPresent r = false then some 0x0003
        else if s.regionFree r = false then some 0x0D02
        else if known = false then some 0x0D03
        else none
      s.Gives (.bist (some r) zero known) [.freeIdx, .glb, .svc, .hif, .mlk, .recs, .bst, .outputs] fun t =>
        match code with
        | some c => ends t c 0 ∧ t.bst = s.bst
        | none => goes t (.bist r) ∧ t.bst = { s.bst with busy := true, region := r }) ∧
    (o.op = 5 → ∀ k : Token, s.Gives (.lcTransition (some k)) parts fun t =>
      match (if s.svcLen = 4691 then s.tokenCode k else some 0x0004) with
      | some c => ends t c 0
      | none => goes t (.lcTransition k)) ∧
    (o.op = 6 → ∀ b : SliceBlock, (s.unit (.slice b.slice)).fenced = false →
      s.Gives (.sliceCreate (some b)) [.freeIdx, .svc, .units, .hif, .mlk, .recs, .outputs] fun t =>
        match s.sliceCode b with
        | some c => ends t c 0 ∧ t.units = s.units
        | none => goes t (.sliceCreate b) ∧ t.slice b.slice = newSliceOf b (s.slice b.slice) ∧
            (t.slice b.slice).limited = (s.slice b.slice).limited ∧
            (t.unit (.slice b.slice)).st = .starting ∧ (t.unit (.slice b.slice)).en = true) ∧
    (o.op = 7 → ∀ i : Image, s.Gives (.pkgCommit (some i)) parts fun t =>
      match s.imageCode true false i with
      | some c => ends t c 0
      | none => match s.pkgCode i with
        | some c => ends t c 0
        | none => goes t (.pkgCommit i)) ∧
    (o.op = 8 → s.Gives .hashRekey [.svc, .swc] fun t => goes t .hashRekey ∧
      t.swc = { s.swc with rekeying := true })

/-- The end of an operation (R53, R55, R56, R69, R244, R321, R403, R405, R412, R414, R417, R419, R460): the firmware bank, the
key slot, the statement's count, the test result, the life-cycle state, the slice, the package or the hash key takes its
new value, and the channel is free for the operation that waits. A package that may no longer be committed changes nothing
(R171). -/
def Obligations.ServiceOperationsTakeEffect : Prop :=
  ∀ (o : SvcOp) (s : State),
    s.svc.running = some o → s.mlk.mmDown = false →
    let frees (t : State) (c : Code) : Prop :=
      t.svc.running = s.svc.waiting ∧ t.svc.waiting = none ∧ t.svc.tag = o.tag ∧ t.svc.code = c ∧
      (o.door = .mailbox → t.svc.done = true)
    let heard := o.door = .ring ∨ (s.hif.ports.get o.host).up = true
    let parts : List Part := [.freeIdx, .svc, .hif, .mlk, .recs, .obs, .outputs]
    (∀ b i, o.work = .fwCommit b i →
      (∃ t, exec (.fwCommitDone false) s = .next t ∧ frees t 0x0103 ∧ t.ka = s.ka) ∧
      (s.glb.phase ≠ .bootFailed → ∃ t, exec (.fwCommitDone true) s = .next t ∧ frees t cOk ∧
        t.fwImage b = some i ∧ t.fwImage (!b) = s.fwImage (!b) ∧ t.ka = { s.ka with nextBank := b }) ∧
      (s.glb.phase = .bootFailed → ∃ t, exec (.fwCommitDone true) s = .next t ∧ t.fwImage b = some i ∧
        t.ka.nextBank = b ∧ t.glb.phase = .kaStart ∧ t.ka.cause = .cmdCold)) ∧
    (∀ b key, o.work = .keyWrite b key → s.Gives .keyWriteDone parts fun t =>
      let old := s.obs.slots.get b.slot
      let kept : Word := if attrLocked old.attr then 4 else 0
      (b.subop = 0 → frees t cOk ∧
        t.obs = { s.obs with slots := s.obs.slots.set b.slot { attr := newAttr b ||| kept, key := key } }) ∧
      (b.subop = 1 → frees t cOk ∧
        t.obs = { s.obs with slots := s.obs.slots.set b.slot { attr := newAttr b, key := key } }) ∧
      (b.subop = 2 → frees t cOk ∧ t.obs = { s.obs with slots := s.obs.slots.set b.slot {} }) ∧
      (b.subop = 3 → t.obs = s.obs ∧ (heard → frees t cOk)) ∧
      (b.subop = 4 → frees t cOk ∧
        t.obs = { s.obs with slots := s.obs.slots.set b.slot { old with attr := old.attr ||| 4 } })) ∧
    (∀ ims n, o.work = .attest ims n → s.Gives .attestDone parts fun t =>
      (heard → frees t cOk ∧ t.obs = { s.obs with attestNo := (s.obs.attestNo + 1) % 2 ^ 64 }) ∧
      (¬ heard → frees t 0x0102 ∧ t.obs = s.obs)) ∧
    (∀ r b, o.work = .bist r →
      let good := s.bistPasses r b && b.restoreOk
      let v := resultValue r b
      let within (lo hi : Int) : Prop := s.bistPasses r b = (decide (lo ≤ v) && decide (v ≤ hi))
      (r / 256 ≤ 3 → s.bistPasses r b = decide (v = 0)) ∧ (r / 256 = 5 → within (-50) 50) ∧
      (∀ x xs, r / 256 = 6 → b.lanes = x :: xs → v = xs.foldl min x ∧
        (r % 256 < 4 → (s.portCfg (r % 256)).speed = 0 → within (-93) 24) ∧
        (r % 256 < 4 → (s.portCfg (r % 256)).speed ≠ 0 → within (-89) (-10)) ∧
        (r % 256 = 5 ∨ r % 256 = 6 → within (-93) 24) ∧ (16 ≤ r % 256 → within (-130) 0)) ∧
      (good = true → heard → ∃ t, exec (.bistDone b) s = .next t ∧ frees t cOk ∧ t.glb = s.glb ∧
        t.bst = { s.bst with busy := false, result := .pass, region := r, sig := b.sig, gold := b.gold, meas := v,
                             runs := min (s.bst.runs + 1) 0xFFFFFFFF }) ∧
      (good = false → ∃ t, exec (.bistDone b) s = .next t ∧ t.bst.result = .fail ∧ t.bst.region = r ∧
        t.bst.fails = min (s.bst.fails + 1) 0xFFFFFFFF ∧
        (s.hasRun = true → t.glb.phase = .safe ∧ t.mlk.role = .offline) ∧
        (s.hasRun = false → t.glb = s.glb ∧ (Ev.bistFail, r, s.now) ∈ t.recs.evr.events))) ∧
    (∀ k, o.work = .lcTransition k →
      let n := min 0xFFFF (s.obs.lcCount + 1)
      (k.dest = .service → s.mlk.grant = false → ∃ t, exec .lcTransitionDone s = .next t ∧ frees t cOk ∧
        t.glb = { s.glb with lcs := .service } ∧ t.obs = { s.obs with lcCount := n } ∧ t.mlk.role = .offline) ∧
      (k.dest = .service → s.mlk.grant = true → ∃ t, exec .lcTransitionDone s = .next t ∧ frees t 0x0005 ∧
        t.glb = s.glb ∧ t.obs = s.obs) ∧
      (k.dest ≠ .service → ∃ t, exec .lcTransitionDone s = .next t ∧ t.glb.lcs = k.dest ∧ t.glb.phase = .kaStart ∧
        t.glb.restartWarm = false ∧ t.obs.lcCount = n ∧ t.svc.running = none ∧ t.mlk.grant = false ∧
        (s.glb.phase ≠ .safe → t.ka.cause = .lcTransition) ∧
        (k.dest = .operational → t.hw.spreadOff = []) ∧ (k.dest = .decommissioned → t.svc.cfg0 = none ∧ t.svc.cfg1 = none) ∧
        (k.dest = .provisioned → (t.obs.slots.get 0).attr = 0x1D400025))) ∧
    (∀ b, o.work = .sliceCreate b →
      let u : UnitId := .slice b.slice
      (s.unit u).st = .starting → (s.unit u).en = true → s.unitsRun = true →
      s.Gives (.unitStartDone u) [.freeIdx, .svc, .units, .hif, .mlk, .recs, .outputs] fun t =>
        frees t cOk ∧ (t.unit u).st = .on ∧ (t.slice b.slice).st = .active ∧ (t.slice b.slice).pollNow = some s.now) ∧
    (∀ i flashOk, o.work = .pkgCommit i → s.repairing = true → exec (.pkgCommitDone flashOk) s = .next s) ∧
    (∀ i, o.work = .pkgCommit i → s.svc.staged = none → s.repairing = false →
      (∀ p, (s.logic.get p).removeAsked = false) →
      (∃ t, exec (.pkgCommitDone false) s = .next t ∧ frees t 0x0103 ∧ t.svc.active = s.svc.active) ∧
      (∀ c, s.pkgCode i = some c → ∃ t, exec (.pkgCommitDone true) s = .next t ∧ frees t c ∧
        t.svc.active = s.svc.active ∧ t.svc.pkg = s.svc.pkg) ∧
      (s.pkgCode i = none → s.glb.phase ≠ .running → ∃ t, exec (.pkgCommitDone true) s = .next t ∧ frees t cOk ∧ t.svc.pkg = i.body ∧
        t.svc.committed = true ∧ t.svc.active = (!s.svc.active) ∧
        (if t.svc.active then t.svc.cfg1 else t.svc.cfg0) = some i) ∧
      (s.pkgCode i = none → s.glb.phase = .running → ∃ t, exec (.pkgCommitDone true) s = .next t ∧ t.svc.active = (!s.svc.active) ∧
        (if t.svc.active then t.svc.cfg1 else t.svc.cfg0) = some i)) ∧
    (o.work = .hashRekey → s.Gives .hashRekeyDone [.freeIdx, .svc, .swc, .hif, .mlk, .recs, .outputs] fun t =>
      frees t cOk ∧ t.swc = { s.swc with learned := [], learnBlocked := false, rekeying := false, hashKey := t.swc.hashKey,
                                         hashEpoch := min 0xFFFF (s.swc.hashEpoch + 1) })

/-! ## Registers -/

/-- GLB_MODNUM (R61), at 0x18: bits 9 to 0 are the module number and bits 31 to 10 read zero. It takes the geographic
address pins when the keep-alive domain starts and at a cold restart. A write changes it before RUN (RWL, R48); after RUN
a write of another number is ignored and sets LOCKED_WRITE. -/
def Obligations.ModuleNumberRegister : Prop :=
  ∀ (p : TimePort) (s : State),
    (exec (.registerRead (.win p) 0x000018) s = .next { s with lastRead := s.glb.modnum.setWidth 32 }) ∧
    (∀ v : Word, s.glb.run = false → s.Gives (.registerWrite (.win p) 0x000018 v 32) [.glb] fun t =>
      t.glb = { s.glb with modnum := v.setWidth 10 }) ∧
    (∀ v : Word, s.glb.run = true → v.setWidth 10 = s.glb.modnum →
      exec (.registerWrite (.win p) 0x000018 v 32) s = .next s) ∧
    (∀ v : Word, s.glb.run = true → v.setWidth 10 ≠ s.glb.modnum →
      s.Gives (.registerWrite (.win p) 0x000018 v 32) [.glb] fun t => t.glb = { s.glb with lockedWrite := true }) ∧
    (∀ st : Straps, s.ka.powerGood = false →
      ∃ t, exec (.powerGood st) s = .next t ∧ t.glb.modnum = st.ga ∧ t.hw.pins = st.ga) ∧
    (∀ t, s.glb.phase ≠ .kaStart → exec (.registerWrite (.win p) 0x00000C 4 32) s = .next t → t.glb.phase = .kaStart →
      t.glb.modnum = s.hw.pins)

/-- Register accesses (R2, R4 to R7, R46 to R48, R50, R62, R70, R71, R74, R421, R475). An address of no unit reads zero
and ignores writes; a window that does not answer yet reads zero with NOT_READY; a narrow write is a locked one.
Registers read as their fields stand; reserved bits read zero. Writes act field by field: RW1C, RWL with LOCKED_WRITE
after RUN, RO ignored; RUN, the mailbox and INHIBIT act as their commands do. The MSI-X table and the pending bits in
BAR2 of a host port (R291, R313; the layout of an entry is PCI Express's, log 111). An entry reads as its address, data
and mask bit; a pending bit reads as it stands and is not written. A write changes its part of the entry alone; a vector
that is unmasked with its pending bit set is sent, which clears the bit. -/
def Obligations.RegistersAreReadAndWritten : Prop :=
  (∀ (p : TimePort) (s : State),
     let reads (a : BitVec 24) (v : Nat) : Prop :=
       exec (.registerRead (.win p) a) s = .next { s with lastRead := BitVec.ofNat 32 v }
     (∀ a, winUnit (winOf a) = false →
       reads a 0 ∧ ∀ v, exec (.registerWrite (.win p) a v 32) s = .next s) ∧
     (∀ a w, winUnit (winOf a) = true → s.winReady p a w = false →
       if w then ∀ v, s.Gives (.registerWrite (.win p) a v 32) [.glb] fun t => t.glb = { s.glb with notReady := true }
       else s.Gives (.registerRead (.win p) a) [.glb, .lastRead] fun t =>
         t.glb = { s.glb with notReady := true } ∧ t.lastRead = 0) ∧
     (∀ a v width, width < 32 → s.Gives (.registerWrite (.win p) a v width) [.glb] fun t =>
       t.glb = { s.glb with lockedWrite := true }) ∧
     (reads 0x000000 glbId ∧ reads 0x000004 0 ∧ reads 0x000008 glbCap ∧ reads 0x000018 s.glb.modnum.toNat ∧
       reads 0x010014 s.ka.hours.toNat ∧ reads 0x010018 s.ka.pwrcyc.toNat ∧
       reads 0x000010 (phaseCode s.glb.phase + 16 * lcsCode s.glb.lcs + 256 * s.glb.restartWarm.toNat +
         512 * s.glb.holdupReady.toNat + 1024 * s.glb.fwBank.toNat + 2048 * s.glb.fwFallback.toNat) ∧
       reads 0x010008 (s.ka.nextBank.toNat + 2 * s.ka.runningBank.toNat + 16 * bankCode s.ka.resultA +
         64 * bankCode s.ka.resultB)) ∧
     (s.windowOpen p = true →
       reads 0x08000C (s.latchOf p).s ∧ reads 0x0C000C s.obs.deny ∧ reads 0x0C0008 (s.obs.lcCount % 2 ^ 16) ∧
       (∀ h, h < 5 → reads (BitVec.ofNat 24 (0x60000 + 0x100 * h))
         (let u := s.unit (.port h)
          ustateCode u.st + 4 * (decide (u.st = .stopping) && u.en).toNat +
            8 * (decide (u.st = .starting) && !u.en).toNat + 16 * u.startFailed.toNat + 32 * u.fenced.toNat +
            256 * u.en.toNat)) ∧
       ∃ t, exec (.registerRead (.win p) 0x080008) s = .next t ∧ t.lastRead = BitVec.ofNat 32 s.col.ns ∧
         (t.latchOf p).s = s.col.sec) ∧
     (∀ v : Word,
       exec (.registerWrite (.win p) 0x000000 v 32) s = .next s ∧
       (s.Gives (.registerWrite (.win p) 0x000014 v 32) [.glb] fun t => t.glb =
         { s.glb with absent := s.glb.absent && !v.getLsbD 0, lockedWrite := s.glb.lockedWrite && !v.getLsbD 1,
                      notReady := s.glb.notReady && !v.getLsbD 2, runRefused := s.glb.runRefused && !v.getLsbD 3 }) ∧
       (v.setWidth 10 ≠ s.glb.modnum → s.Gives (.registerWrite (.win p) 0x000018 v 32) [.glb] fun t =>
         t.glb = if s.glb.run then { s.glb with lockedWrite := true } else { s.glb with modnum := v.setWidth 10 }) ∧
       (s.Gives (.registerWrite (.win p) 0x010010 v 32) [.ka] fun t => t.ka = { s.ka with pfail := s.ka.pfail && !v.getLsbD 13 }) ∧
       (s.glb.run = false → s.Gives (.registerWrite (.win p) 0x010004 v 32) [.ka] fun t =>
         t.ka = { s.ka with warmAllowed := v.getLsbD 0, claimDrop := v.getLsbD 1 }) ∧
       exec (.registerWrite (.win p) 0x00000C 1 32) s = exec .runSet s ∧
       exec (.registerWrite (.win p) 0x00000C 0 32) s = exec .runClear s ∧
       (s.windowOpen p = true →
         (s.Gives (.registerWrite (.win p) 0x0B0040 v 32) [.recs] fun t =>
           t.recs = { s.recs with evr := { s.recs.evr with winSel := v.toNat % 4096 } }) ∧
         (s.mlk.role = .claiming → s.mlk.windowEnded = true → v.getLsbD 0 = true →
           ∃ t, exec (.registerWrite (.win p) 0x0E0008 v 32) s = .next t ∧ t.mlk.role = .standby ∧ t.mlk.grant = false ∧
             Emission.claim false ∈ t.outputs) ∧
         (s.mlk.role ≠ .claiming → v.getLsbD 1 = false → s.Gives (.registerWrite (.win p) 0x0E0008 v 32) [.mlk] fun t =>
           t.mlk = { s.mlk with inhibit := v.getLsbD 0 }) ∧
         (∀ h, h < 2 → s.glb.run = false → 100 ≤ v.toNat → v.toNat ≤ 20000 →
           s.Gives (.registerWrite (.win p) (BitVec.ofNat 24 (0x20004 + 0x40 * h)) v 32) [.hif] fun t =>
             (t.hif.ports.get h).pollCap = v.toNat) ∧
         (∀ i, i < 8 → s.glb.run = false → s.svc.running = none →
           s.Gives (.registerWrite (.win p) (BitVec.ofNat 24 (0x2F004 + 4 * i)) v 32) [.svc] fun t =>
             t.svc.args.toList[i]? = some v) ∧
         (s.glb.run = true → s.Gives (.registerWrite (.win p) 0x02F000 v 32) [.glb, .svc] fun t =>
           t.svc = { s.svc with ignored := min (s.svc.ignored + 1) 0xFFFFFFFF } ∧
           t.glb = { s.glb with lockedWrite := true }) ∧
         (s.glb.run = false → s.svc.running = none → 0 < v.toNat % 256 → v.toNat % 256 < 9 →
           s.glb.phase ≠ .bootFailed → ∃ t, exec (.registerWrite (.win p) 0x02F000 v 32) s = .next t ∧
             t.svc = { s.svc with op := v.setWidth 8, cmdTag := (v >>> 8).setWidth 8,
                                  running := some { op := v.toNat % 256, tag := (v >>> 8).setWidth 8, door := .mailbox,
                                                    host := portNo p, since := s.now } })))) ∧
  (∀ (h : Fin 2) (k : Fin 512) (s : State),
     let n := 512 * h.val + k.val
     let x := s.hif.vecs.get n
     let word (j : Nat) : BitVec 24 := BitVec.ofNat 24 (16 * k.val + 4 * j)
     let reads (a : BitVec 24) (v : Nat) : Prop :=
       exec (.registerRead (.vec h) a) s = .next { s with lastRead := BitVec.ofNat 32 v }
     (x.addr < 2 ^ 64 → x.data < 2 ^ 32 → reads (word 0) (x.addr % 2 ^ 32) ∧ reads (word 1) (x.addr / 2 ^ 32) ∧
       reads (word 2) x.data ∧ reads (word 3) (s.hif.maskedVec.get n).toNat) ∧
     (∀ j : Fin 16, ∃ t, exec (.registerRead (.vec h) (BitVec.ofNat 24 (0x8000 + 4 * j.val))) s = .next t ∧
       s.ChangesOnly [.lastRead] t ∧
       ∀ b, b < 32 → t.lastRead.getLsbD b = s.hif.pendingVec.get (512 * h.val + 32 * j.val + b)) ∧
     (∀ v : Word,
       (∀ width j, width < 32 → exec (.registerWrite (.vec h) (word j) v width) s = .next s) ∧
       (∀ j, j < 3 → s.Gives (.registerWrite (.vec h) (word j) v 32) [.hif] fun t =>
         t.hif.maskedVec = s.hif.maskedVec ∧ t.hif.pendingVec = s.hif.pendingVec ∧
         (∀ m, m ≠ n → t.hif.vecs.get m = s.hif.vecs.get m) ∧
         (x.addr < 2 ^ 64 → let y := t.hif.vecs.get n
           (j = 0 → y.addr = x.addr / 2 ^ 32 * 2 ^ 32 + v.toNat / 4 * 4 ∧ y.data = x.data) ∧
           (j = 1 → y.addr = v.toNat * 2 ^ 32 + x.addr % 2 ^ 32 ∧ y.data = x.data) ∧
           (j = 2 → y.addr = x.addr ∧ y.data = v.toNat))) ∧
       (s.Gives (.registerWrite (.vec h) (word 3) v 32) [.hif, .outputs] fun t =>
         t.hif.vecs = s.hif.vecs ∧ t.hif.maskedVec.get n = v.getLsbD 0 ∧
         (∀ m, m ≠ n → t.hif.maskedVec.get m = s.hif.maskedVec.get m ∧ t.hif.pendingVec.get m = s.hif.pendingVec.get m) ∧
         t.hif.pendingVec.get n = (s.hif.pendingVec.get n && v.getLsbD 0) ∧
         (s.hif.pendingVec.get n = true → v.getLsbD 0 = false → s.heldAt (k.val / 8) = none →
           t.outputs = s.outputs ++ [.msix h.val k.val x.addr x.data])) ∧
       (∀ a : BitVec 24, 0x2000 ≤ a.toNat → exec (.registerWrite (.vec h) a v 32) s = .next s)))

/-! ## The redundant pair -/

/-- The interlock and the claim (R344 to R350). The loops tell the partner's claim where they agree; a difference of
more than 10 us is an alarm until they have agreed for 1 ms, and stops a claim that waits. A standby whose conditions
hold claims and stops its tests, ends its window 1 us later, and withdraws from a collision as the secondary. Both own
loops open drop an active module's grant. The grant changes hands at a tick of the boundary generator (R350 to R352,
R364, R367, R342). A claim whose window has ended and whose conditions still hold becomes the grant; a module that has
accepted a yield drops its own, and its claim and outputs stop in the same clock. A yield is accepted with a partner in
service and a good interlock, and refused otherwise. -/
def Obligations.InterlockClaimsAndTheGrant : Prop :=
  (∀ s : State,
     let m := s.mlk
     let other (x : Loop) : Bool := match x with | .a => m.loopB.claimed | .b => m.loopA.claimed
     (∀ x : Loop, s.Gives (.ilkLoopClaimed x) [.mlk] fun t =>
       t.loop x = { s.loop x with claimed := true, noCur := false, lastEdge := s.now } ∧
       (other x = true → t.mlk.partnerClaiming = true ∧ t.mlk.differSince = none ∧ t.mlk.agreeSince ≠ none) ∧
       (other x = false → t.mlk.partnerClaiming = m.partnerClaiming ∧ t.mlk.agreeSince = none ∧
         t.mlk.differSince = some (m.differSince.getD s.now))) ∧
     (∀ (x : Loop) (n : Bool), (s.loop x).claimed = true →
       s.Gives (.ilkLoopReleased x n) [.now, .col, .mlk] fun t => t.now = max s.now ((s.loop x).lastEdge + 1000) ∧
         (t.loop x).claimed = false ∧ (t.loop x).noCur = n ∧
         (other x = false → t.mlk.partnerClaiming = false ∧
           (m.partnerClaiming = true → t.mlk.releasedSince = t.now)) ∧
         (other x = true → t.mlk.partnerClaiming = m.partnerClaiming)) ∧
     (∀ u, m.differSince = some u → m.ilkFault = false →
       (m.role ≠ .claiming ∨ m.windowEnded = false → s.Gives .ilkDisagree [.now, .col, .mlk, .recs] fun t =>
         t.now = max s.now (u + 10001) ∧
         t.mlk = { m with ilkFault := true, ilkFaults := min (m.ilkFaults + 1) 0xFFFFFFFF } ∧
         (Ev.interlockFault, 0) ∈ t.recs.evr.alarms) ∧
       (m.role = .claiming → m.windowEnded = true → ∃ t, exec .ilkDisagree s = .next t ∧
         t.now = max s.now (u + 10001) ∧ t.mlk.ilkFault = true ∧ t.mlk.ilkFaults = min (m.ilkFaults + 1) 0xFFFFFFFF ∧
         (Ev.interlockFault, 0) ∈ t.recs.evr.alarms ∧ t.mlk.role = .standby ∧ t.mlk.grant = false ∧
         Emission.claim false ∈ t.outputs)) ∧
     (∀ u, m.agreeSince = some u → m.ilkFault = true → s.Gives .ilkAgreeRestored [.now, .col, .mlk, .recs] fun t =>
       t.now = max s.now (u + 1000000) ∧ t.mlk = { m with ilkFault := false } ∧
       (Ev.interlockFault, 0) ∉ t.recs.evr.alarms) ∧
     (∀ x : Loop, let y : Loop := match x with | .a => .b | .b => .a
       (m.role = .active → m.grant = true → (s.loop y).ownOpen = true → ∃ t, exec (.ownOpen x) s = .next t ∧
         (t.loop x).ownOpen = true ∧ t.mlk.role = .standby ∧ t.mlk.grant = false ∧
         Emission.claim false ∈ t.outputs) ∧
       (m.role = .active → (s.loop y).ownOpen = false → s.Gives (.ownOpen x) [.mlk] fun t =>
         (t.loop x).ownOpen = true ∧ t.mlk.role = .active ∧ t.mlk.grant = m.grant) ∧
       (m.role = .claiming → m.windowEnded = true → ∃ t, exec (.ownOpen x) s = .next t ∧ (t.loop x).ownOpen = true ∧
         t.mlk.role = .standby ∧ Emission.claim false ∈ t.outputs) ∧
       s.Gives (.ownOpenClear x) [.mlk] fun t => (t.loop x).ownOpen = false ∧ t.loop y = s.loop y) ∧
     (m.role = .standby → s.claimHolds = true → m.loopA.claimed = false → m.loopB.claimed = false →
       s.Gives .claimStart [.now, .freeIdx, .svc, .lenses, .col, .hif, .mlk, .recs, .bst, .outputs] fun t =>
         t.now = s.claimAt ∧ t.mlk.role = .claiming ∧ t.mlk.grant = m.grant ∧ t.mlk.claimStart = t.now ∧
         t.mlk.windowEnded = false ∧ Emission.claim true ∈ t.outputs ∧
         (∀ l f, (s.lenses.get l).testing = some f → t.lenses.get l =
           { s.lenses.get l with testing := none, free := f :: (s.lenses.get l).free }) ∧
         ∀ o r, s.svc.running = some o → o.work = .bist r → t.bst.busy = false ∧ t.bst.result = .aborted ∧
           t.svc.code = 0x0D01) ∧
     (m.role = .claiming → m.windowEnded = false →
       (s.secondary = true → ∃ t, exec .claimCollision s = .next t ∧ t.mlk.role = .standby ∧ t.mlk.withdrawn = true ∧
         t.mlk.grant = false ∧ t.mlk.collisions = min (m.collisions + 1) 0xFFFFFFFF ∧
         Emission.claim false ∈ t.outputs) ∧
       (s.secondary = false → exec .claimCollision s = .next s) ∧
       (s.claimHolds = true → s.Gives .claimWindowEnd [.now, .col, .mlk] fun t =>
         t.now = max s.now (m.claimStart + 1000) ∧ t.mlk = { m with windowEnded := true }) ∧
       (s.claimHolds = false → ∃ t, exec .claimWindowEnd s = .next t ∧ t.mlk.role = .standby ∧ t.mlk.grant = false)) ∧
     (m.role = .standby →
       (s.Gives .soloWaitExpiry [.now, .col, .mlk] fun t =>
         t.now = max s.now (m.runningSince + s.pkg.mlk.soloWait * 10000000) ∧ t.mlk = { m with soloPassed := true }) ∧
       (m.partnerClaiming = false → s.Gives .orphanWaitExpiry [.now, .col, .mlk] fun t =>
         t.now = max s.now (m.releasedSince + s.pkg.mlk.orphanWait * 1000000) ∧ t.mlk = { m with orphanPassed := true }))) ∧
  (∀ s : State,
     let m := s.mlk
     (∀ n at_, s.pulseDue s.pkg.mlk.tp none = some (n, at_) → s.tai < at_ → at_ < 2 ^ 64 →
       (m.role = .claiming → m.windowEnded = true →
         (s.claimHolds = true → ∃ t, exec .takeoverBoundary s = .next t ∧ t.tai = at_ ∧ t.mlk.role = .active ∧
           t.mlk.grant = true ∧ t.mlk.orphan = m.orphanClaim ∧ t.mlk.takeovers = min (m.takeovers + 1) 0xFFFFFFFF ∧
           (m.orphanClaim = true → (Ev.orphanTakeover, 0) ∈ t.recs.evr.alarms) ∧
           ∀ k, k < 4 → (s.tos.get k).closed = true → Emission.tripOut k true ∈ t.outputs) ∧
         (s.claimHolds = false → ∃ t, exec .takeoverBoundary s = .next t ∧ t.tai = at_ ∧ t.mlk.role = .standby ∧
           t.mlk.grant = false)) ∧
       (m.role = .active → m.yieldAt = true → m.grant = true → ∃ t, exec .takeoverBoundary s = .next t ∧ t.tai = at_ ∧
         t.mlk.role = .standby ∧ t.mlk.grant = false ∧ t.mlk.complete = true ∧ t.mlk.yieldedAt = some t.now ∧
         Emission.claim false ∈ t.outputs ∧
         ∀ k, k < 4 → (s.tos.get k).closed = true → Emission.tripOut k false ∈ t.outputs)) ∧
     (s.windowOpen .h0 = true → s.Gives .yield [.mlk] fun t =>
       (m.role = .active → s.paired = true → m.ilkFault = false → t.mlk = { m with yieldAt := true }) ∧
       (m.role ≠ .active ∨ s.paired = false ∨ m.ilkFault = true → t.mlk = { m with yieldRefused := true })))

/-- Health, the partner's service and the links (R352, R353, R359, R361, R370). A report goes out every 100 ms; one that
arrives is kept, or counted, or names a wrong partner. An active module takes a ready partner into service; late reports
or epochs take it out, and everything then counts as sealed. A lost link is an alarm; a standby whose links were both
down asks for a resynchronisation when one is back. -/
def Obligations.HealthAndMirrorLinks : Prop :=
  ∀ s : State,
    let m := s.mlk
    (s.mmRuns = true → s.Gives .healthReportSend [.now, .freeIdx, .swc, .col, .hif, .mlk, .recs, .outputs] fun t =>
      t.now = max s.now (m.lastReport + 100000000) ∧ t.mlk.reportNo = (m.reportNo + 1) % 2 ^ 32 ∧
      t.mlk.lastReport = t.now ∧ Emission.segment (.health { s.health with ts := t.ts }) ∈ t.outputs ∧
      (m.role = .standby → m.complete = false → m.resyncing = false → s.mirrorUp = true → s.pkg.mlk.paired = true →
        t.mlk.resyncOut = true ∧ Emission.segment (.resyncReq m.epoch) ∈ t.outputs)) ∧
    (∀ (k : Fin 2) (h : Health), (s.link k).up = true → s.unitsRun = true →
      (h.crcOk = false → s.Gives (.healthReportRx k h) [.mlk] fun t =>
        t.link k = { s.link k with bad := min ((s.link k).bad + 1) 0xFFFFFFFF } ∧ t.mlk.lastHealth = m.lastHealth) ∧
      (h.crcOk = true → h.modnum ≠ s.pkg.mlk.partner → s.Gives (.healthReportRx k h) [.recs] fun t =>
        (Ev.mirrorPeer, h.modnum) ∈ t.recs.evr.alarms) ∧
      (h.crcOk = true → h.modnum = s.pkg.mlk.partner →
        s.Gives (.healthReportRx k h) [.freeIdx, .svc, .facets, .progs, .logic, .stns, .arms, .beams, .pwms, .swc, .fbcs, .hif,
            .mlk, .recs, .outputs] fun t =>
          t.mlk.lastHealth = some (s.now, h) ∧ t.mlk.healthSeen = true ∧
          t.mlk.prefConflict = decide (h.strapPrimary = m.strapPrimary) ∧
          ((Ev.rolePrefConflict, 0) ∈ t.recs.evr.alarms ↔ h.strapPrimary = m.strapPrimary) ∧
          (m.role = .active → m.reqEnd = none → h.resync = false → h.ready = true → m.sent = [] →
            t.mlk.partner = .inService) ∧
          (m.role = .active → m.reqEnd ≠ none → t.mlk.partner = .resync) ∧
          (m.role ≠ .claiming ∨ m.windowEnded = false →
            (h.resync = true → t.mlk.partner = .resync) ∧
            (h.ready = false → h.resync = false → m.reqEnd = none → t.mlk.partner = .notReady)))) ∧
    (∀ at_ h, s.paired = true → m.lastHealth = some (at_, h) →
      let due := match s.oldestSent with | some u => min (at_ + 250000000) (u + 100000) | none => at_ + 250000000
      s.Gives .partnerServiceTimeout [.now, .freeIdx, .svc, .stns, .swc, .col, .fbcs, .hif, .mlk, .recs, .outputs] fun t =>
        t.now = max s.now due ∧ t.mlk.partner ≠ .inService ∧
        (m.role = .active → ∀ e, e ∈ t.hif.journal → e.sealed = true)) ∧
    (∀ x : MirrorLink, let k := x.link
      (s.link k).up = true → s.Gives (.mirrorLinkDown x) [.freeIdx, .svc, .facets, .progs, .logic, .stns, .arms, .beams, .pwms,
        .swc, .fbcs, .hif, .mlk, .recs, .outputs] fun t =>
      (t.link k).up = false ∧ (t.link k).rxLos = x.los ∧ (t.link k).fecLock = false ∧ (t.link k).downs = min ((s.link k).downs + 1) 0xFFFFFFFF ∧
      (Ev.mirrorLink, k.val) ∈ t.recs.evr.alarms ∧
      ((s.link (1 - k.val)).up = false → (m.role ≠ .active → t.mlk.complete = false) ∧
        (m.role = .active → t.mlk.partner = .none))) ∧
    (∀ x : MirrorLink, let k := x.link
      (s.link k).up = false → s.hw.xcvrNoPwr.getLsbD (4 + k) = false →
      s.Gives (.mirrorLinkUp x) [.mlk, .recs, .outputs] fun t =>
        (t.link k).up = true ∧ (t.link k).fecLock = x.fec ∧ (t.link k).rxLos = false ∧ (Ev.mirrorLink, k.val) ∉ t.recs.evr.alarms ∧
        ((s.link (1 - k.val)).up = false → m.role = .standby → s.pkg.mlk.paired = true →
          t.mlk.resyncOut = true ∧ t.mlk.complete = false ∧
          t.outputs = s.outputs ++ [.segment (.resyncReq m.epoch)]) ∧
        ((s.link (1 - k.val)).up = true ∨ m.role ≠ .standby → t.outputs = s.outputs))

/-- Epochs (R354 to R360, R369). An active module closes a record epoch 2 us after its first item, sends one again for a
NACK or 20 us without an ACK, and answers a resynchronisation with a snapshot; an ACK seals what it covers. A standby
commits the epoch due next and acknowledges it, ignores an old one, asks for each missing one, and counts a bad copy. A
facet that passes its rolling self-test becomes a free spare, and another part stays as it is; a failure takes the module
to its safe state. -/
def Obligations.EpochsAreSealedAndCommitted : Prop :=
  ∀ s : State,
    let m := s.mlk
    (∀ u it r, m.items = (u, it) :: r → m.role = .active →
      s.Gives .recordEpochClose [.now, .col, .hif, .mlk, .outputs] fun t => t.now = max s.now (u + 2000) ∧
        t.mlk.items = [] ∧ t.mlk.epoch = m.epoch + 1 ∧
        ∃ e : Epoch, t.outputs = s.outputs ++ [.epoch e] ∧ e.kind = .record ∧ e.num = m.epoch + 1 ∧
          e.items = m.items.map (·.2) ∧ e.modnum = s.glb.modnum.toNat) ∧
    (∀ (k : Fin 2) (n : Nat) (ok : Bool), (s.link k).up = true →
      let bad (c : Instr) : Prop := s.Gives c [.mlk] fun t =>
        t.link k = { s.link k with bad := min ((s.link k).bad + 1) 0xFFFFFFFF } ∧ t.mlk.sent = m.sent
      (ok = false → bad (.epochAckRx k n ok) ∧ bad (.epochNackRx k n ok) ∧ bad (.resyncReqRx k n ok)) ∧
      (ok = true → m.role = .active → (m.reqCopy.any fun c => c.1 ≠ k.val && c.2 = n) = true →
        s.Gives (.resyncReqRx k n ok) [.mlk] fun t => t.mlk = { m with reqCopy := none }) ∧
      (ok = true → m.role = .active →
        (n ≤ m.epoch → s.Gives (.epochAckRx k n ok) [.freeIdx, .svc, .stns, .swc, .fbcs, .hif, .mlk, .recs, .outputs] fun t =>
          n ≤ t.mlk.sealedTo ∧ t.mlk.sent = m.sent.filter (fun p => decide (n < p.2.num)) ∧
          ∀ j z, s.swc.unsealed = [] → (s.fbcs.get 0).unsealed = [] → (s.fbcs.get 1).unsealed = [] →
            s.jEntry j = some z → z.sealed = true ∨ (0 < z.epoch ∧ z.epoch ≤ n) →
            ∃ y, t.jEntry j = some y ∧ y.sealed = true ∧ y.desc = z.desc ∧ y.state = z.state) ∧
        ((m.reqCopy.any fun c => c.1 ≠ k.val && c.2 = n) = false → s.Gives (.resyncReqRx k n ok) [.freeIdx, .svc, .stns, .swc, .fbcs, .hif, .mlk, .recs, .outputs] fun t =>
          t.mlk.partner = .resync ∧ t.mlk.epoch = m.epoch + 1 ∧ t.mlk.items = [] ∧ t.mlk.reqEnd = some (m.epoch + 1) ∧
          ∃ e : Epoch, Emission.epoch e ∈ t.outputs ∧ e.resync = true ∧ e.num = m.epoch + 1 ∧
            Item.resyncEnd (m.epoch + 1) ∈ e.items)) ∧
      (∀ u e, ok = true → m.role = .active → (m.sent.find? fun p => p.2.num = n) = some (u, e) →
        s.Gives (.epochNackRx k n ok) [.mlk, .outputs] fun t => t.outputs = s.outputs ++ [.epoch e] ∧
          t.mlk = { m with resend := min (m.resend + 1) 0xFFFFFFFF })) ∧
    (∀ u n e, m.role = .active → (m.sent.find? fun p => p.2.num = n) = some (u, e) →
      s.Gives (.epochAckTimeout n) [.now, .col, .mlk, .outputs] fun t =>
        t.now = max s.now (u + 20000 * ((s.now - u) / 20000 + 1)) ∧ t.outputs = s.outputs ++ [.epoch e] ∧
        t.mlk = { m with resend := min (m.resend + 1) 0xFFFFFFFF }) ∧
    (∀ (k : Fin 2) (e : Epoch), (s.link k).up = true → m.role ≠ .offline →
      (e.crcOk = false → s.Gives (.epochRx k e) [.mlk, .outputs] fun t =>
        (t.link k).bad = min ((s.link k).bad + 1) 0xFFFFFFFF ∧ t.mlk.epoch = m.epoch ∧
        (m.role = .standby → m.resyncOut = false → m.staged = [] → m.fails = [] → e.num = m.epoch + 1 →
          (s.link (1 - k.val)).up = false →
          t.mlk.stale = 1 ∧ t.outputs = s.outputs ++ [.segment (.nack e.num)])) ∧
      (e.crcOk = true → e.modnum ≠ s.pkg.mlk.partner → s.Gives (.epochRx k e) [.recs] fun t =>
        (Ev.mirrorPeer, e.modnum) ∈ t.recs.evr.alarms) ∧
      (e.crcOk = true → e.modnum = s.pkg.mlk.partner → m.role = .active → s.Gives (.epochRx k e) [.mlk] fun t =>
        t.mlk = { m with partnerClaim := true }) ∧
      (e.modnum = s.pkg.mlk.partner → m.role = .standby → m.resyncOut = false → m.staged = [] →
        (e.crcOk = true → e.num ≤ m.epoch → exec (.epochRx k e) s = .next s) ∧
        (e.crcOk = true → e.num = m.epoch + 1 → ∃ t, exec (.epochRx k e) s = .next t ∧ t.mlk.epoch = e.num ∧
          Emission.segment (.ack e.num) ∈ t.outputs) ∧
        (∀ j, e.crcOk = true → e.num = m.epoch + 1 → e.items = [.journal j] → e.resync = false → s.hif.journal = [] → m.exchangeCycle = none →
          ∃ t p, exec (.epochRx k e) s = .next t ∧ t.hif.journal = [{ j with sealed := true, place := p }] ∧
            t.hif.jseq = max s.hif.jseq j.jseq ∧ (j.place ≠ none ∨ j.state ≠ .completed → p = j.place) ∧
            (j.place = none → j.state = .completed → lastOfRing j = false →
              p = some (s.cq j.slice (s.sq j.slice j.ring).cq).placed)) ∧
        (e.crcOk = true → m.epoch + 1 < e.num → m.fails = [] → s.Gives (.epochRx k e) [.mlk, .outputs] fun t =>
          t.mlk.staged = [e] ∧ t.mlk.stale = 1 ∧ t.mlk.epoch = m.epoch ∧
          t.outputs = s.outputs ++ (List.range (e.num - m.epoch - 1)).map fun i => .segment (.nack (m.epoch + 1 + i))))) ∧
    (s.glb.phase = .running → ∀ (l : Fin 16) (f : Fin 64),
      let y := s.facets.get (fKey l f)
      let x := s.lenses.get l
      let safe (c : Instr) (k : Nat) : Prop := ∃ t, exec c s = .next t ∧ t.glb.phase = .safe ∧
        t.mlk.selfTestFailed = true ∧ t.mlk.role = .offline ∧ t.bst.fails = min (s.bst.fails + 1) 0xFFFFFFFF ∧
        t.bst.region = k
      let same (c : Instr) : Prop := s.Gives c [.lenses, .mlk] fun t =>
        (∀ k, t.lenses.get k = s.lenses.get k) ∧ t.mlk.epoch = m.epoch
      (y.run ≠ .fenced → s.rollTests l f = true →
        (y.role = .spare → x.testing = none → same (.rollingSelftestDone l (.facet f) true)) ∧
        (x.testing = some f.val → s.Gives (.rollingSelftestDone l (.facet f) true) [.lenses, .mlk] fun t =>
          (t.lenses.get l).testing = none ∧ (t.lenses.get l).free = f.val :: x.free) ∧
        (∀ sp, y.role ≠ .spare → x.testing = none → minList x.free = some sp → s.host l (s.home l f) = f →
          s.Gives (.rollingSelftestDone l (.facet f) true) [.facets, .lenses, .mlk] fun t =>
            (t.facets.get (fKey l f)).role = .spare ∧ (t.lenses.get l).testing = none ∧
            (t.lenses.get l).free = f.val :: x.free.filter (· ≠ sp)) ∧
        safe (.rollingSelftestDone l (.facet f) false) l) ∧
      (y.run = .fenced → ∀ p, exec (.rollingSelftestDone l (.facet f) p) s = .next s) ∧
      (y.run ≠ .fenced → m.role ≠ .standby → x.free = [] →
        (s.glb.lcs = .service → x.testing = none → same (.rollingSelftestDone l (.facet f) true)) ∧
        (s.glb.lcs ≠ .service → ∀ p, exec (.rollingSelftestDone l (.facet f) p) s = .next s)) ∧
      (∀ r, exec (.rollingSelftestDone l (.region r) true) s = .next s ∧
        (s.rollRegion r = true → safe (.rollingSelftestDone l (.region r) false) r) ∧
        (s.rollRegion r = false → exec (.rollingSelftestDone l (.region r) false) s = .next s)))

/-! ## Recording -/

/-- Periscope, the Event Recorder and Loupe (R376 to R389, R393). A group with channels samples them at its next tick; with its
last sample a record is numbered, measured and due for its copy, which frees its slot; the hold-off ends by time. RUN starts and
stops a group, FORCE meets its next sample. An update counts in its channel and in the sequence; a closed interval is a
record in the buffer; a flush takes the buffer to the log. A Loupe buffer fills and triggers. -/
def Obligations.RecordersFollowTheirRules : Prop :=
  ∀ s : State,
    (∀ (g : Fin 16) (n at_ : Nat),
      let c := s.perCfg g
      let x := s.recs.groups.get g
      perPresent = true → x.st = .filling ∨ x.st = .armed → s.perTickDue g = some (n, at_) → at_ < 2 ^ 64 →
      s.reaches at_ = true →
      s.Gives (.perGroupTick g) [.now, .freeIdx, .col, .recs] fun t =>
        let y := t.recs.groups.get g
        t.tai = max s.tai at_ ∧ y.lastTick = some n ∧
        (x.st = .filling ∨ 2 ≤ c.post → y.taken = x.taken + 1) ∧
        y.events = x.events.filter (fun e => decide (at_ < e.2)) ∧
        (∃ v r, y.samples = v :: r ∧ v.ts = at_ ∧ v.vals.length = c.channels.length) ∧
        (x.st = .filling → y.st = (if c.pre ≤ x.taken + 1 then .armed else .filling)) ∧
        (x.st = .armed → c.trigs = [] → x.events = [] → y.st = .armed)) ∧
    (∀ (g : Fin 16) (r : PerRec) (n at_ : Nat),
      let c := s.perCfg g
      let x := s.recs.groups.get g
      perPresent = true → x.st = .recording → x.left = 1 → x.cur = some r → s.perTickDue g = some (n, at_) →
      at_ < 2 ^ 64 → s.reaches at_ = true →
      s.Gives (.perRecordComplete g) [.now, .freeIdx, .col, .recs] fun t =>
        let y := t.recs.groups.get g
        t.tai = max s.tai at_ ∧ y.st = .holdoff ∧ y.cur = none ∧ y.lastTick = some n ∧
        y.holdStart = t.now - (t.tai - at_) ∧ t.recs.rnum = s.recs.rnum + 1 ∧
        (∃ v l, y.samples = v :: l ∧ v.ts = at_) ∧
        ∃ z, t.recs.records = s.recs.records ++ [z] ∧ z.rnum = s.recs.rnum + 1 ∧ z.trigCond = r.trigCond ∧
          z.flags.testBit 0 = r.flags.testBit 0 ∧ z.samples = (y.samples.take (c.pre + c.post)).reverse) ∧
    (∀ g : Fin 16,
      let c := s.perCfg g
      let x := s.recs.groups.get g
      (x.st = .holdoff → c.holdByEvents = false → s.Gives (.holdoffEnd g) [.now, .col, .recs] fun t =>
        t.now = max s.now (x.holdStart + c.hold * 1000) ∧
        (t.recs.groups.get g).st = (if c.pre ≤ x.taken then .armed else .filling)) ∧
      (perPresent = true → s.windowOpen .h0 = true →
        (x.run = false → s.Gives (.perRunWrite g true) [.recs] fun t =>
          let y := t.recs.groups.get g
          y.run = true ∧ y.st = (if c.pre = 0 then .armed else .filling) ∧ y.samples = [] ∧ y.taken = 0) ∧
        (x.run = true → s.Gives (.perRunWrite g false) [.freeIdx, .recs] fun t =>
          (t.recs.groups.get g).run = false ∧ (t.recs.groups.get g).st = .stopped) ∧
        (x.st ≠ .stopped → s.Gives (.perForce g) [.recs] fun t =>
          t.recs.groups.get g = { x with events := x.events ++ [(0xFF, s.tai)] }))) ∧
    (∀ r : PerRec, (s.recs.records.find? fun z => !z.inFlash && !z.skipped) = some r → s.recs.copyPaused = false →
      s.recs.records = [r] → recLength r ≤ recPartition → s.Gives (.perFlashCopyDone r.rnum) [.recs] fun t =>
        t.recs.records = [{ r with inFlash := true, inSlot := false }] ∧
        (t.recs.groups.get r.group).freeSlots = (s.recs.groups.get r.group).freeSlots + 1) ∧
    (∀ (i : Fin 4096) (v : Int),
      let c := s.pkg.evr.get i
      let w := s.recs.evr.wins.get i
      (c.en = true → s.Gives (.evrChannelUpdate i v) [.recs] fun t =>
        let y := t.recs.evr.wins.get i
        t.recs.evr.useq = s.recs.evr.useq + 1 ∧ y.cseq = w.cseq + 1 ∧ y.count = min (w.count + 1) 0xFFFFFFFF ∧
        (evrEvent i c = false → y.sum = satInt 64 (w.sum + satInt 32 (s.evrSource c.src v))) ∧
        (evrEvent i c = true → y.lastAt = some s.now ∧ y.detail = unsigned 64 v % 2 ^ 64) ∧
        (c.flush = true → evrEvent i c = true → t.recs.evr.flushing = true)) ∧
      (c.en = false → exec (.evrChannelUpdate i v) s = .next s) ∧
      (c.en = true → 0 < c.interval → w.hoursOpen + c.interval ≤ s.ka.hours.toNat →
        s.recs.evr.buffer.length < 49151 → s.Gives (.evrIntervalClose i) [.recs] fun t =>
          (t.recs.evr.wins.get i).count = 0 ∧ (t.recs.evr.wins.get i).hoursOpen = s.ka.hours.toNat ∧
          (t.recs.evr.wins.get i).cseq = w.cseq ∧ t.recs.evr.rseq = s.recs.evr.rseq + 1 ∧
          ∃ z, t.recs.evr.buffer = s.recs.evr.buffer ++ [z] ∧ z.rseq = s.recs.evr.rseq ∧ z.channel = i.val ∧
            z.partial_ = false ∧ z.win = w)) ∧
    (s.recs.evr.flushing = true → s.hw.pf = .none → s.Gives .evrFlashFlushDone [.hif, .mlk, .recs] fun t =>
      t.recs.evr.buffer = s.recs.evr.buffer.drop s.recs.evr.flushN ∧
      t.recs.evr.flushes = min (s.recs.evr.flushes + 1) 0xFFFFFFFF ∧ t.recs.evr.flushing = s.recs.evr.flushAgain ∧
      (s.recs.evr.log.length + s.recs.evr.flushN ≤ evrLogSize →
        t.recs.evr.log = s.recs.evr.log ++ s.recs.evr.buffer.take s.recs.evr.flushN)) ∧
    (∀ (l : Fin 16) (b : Fin 4), s.windowOpen .h0 = true → l.val < lensCount →
      let x := s.recs.loupes.get (l.val * 4 + b.val)
      (s.Gives (.loupeArm l b) [.recs] fun t =>
        let y := t.recs.loupes.get (l.val * 4 + b.val)
        y.st = (if x.pre = 0 then .armed else .filling) ∧ y.samples = [] ∧ y.pre = x.pre ∧ y.facet = x.facet) ∧
      s.Gives (.loupeForce l b) [.recs] fun t => t.recs.loupes.get (l.val * 4 + b.val) = loupeHit x)

/-! ## Reset -/

/-- After reset (R49, R57, R60, R62, R70, R75, R305, R350, R362, R396, R430): PHASE is KA_START without power, nothing
runs, no unit is on, nobody has the grant, no lane is asserted and no work is queued or journaled; and every data memory
is in its canonical form. -/
def Obligations.ResetLeavesTheModuleUnpowered : Prop :=
  let s := State.reset
  s.glb.phase = .kaStart ∧ s.glb.run = false ∧ s.glb.absent = false ∧ s.glb.lockedWrite = false ∧
  s.glb.notReady = false ∧ s.ka.powerGood = false ∧ s.ka.warmAllowed = true ∧ s.ka.claimDrop = true ∧
  s.svc.running = none ∧ s.svc.waiting = none ∧ s.mlk.grant = false ∧ s.mlk.role = .offline ∧ s.hif.journal = [] ∧
  s.hif.jseq = 0 ∧ s.recs.evr.buffer = [] ∧ s.pending = [] ∧ s.outputs = [] ∧ s.MemOk ∧
  (∀ u, (s.unit u).st = .off ∧ (s.unit u).en = false) ∧ (∀ n, s.laneOn n = false) ∧
  (∀ i r, (s.sq i r).st = .off) ∧ (∀ a, (s.arms.get a).op = .blocked) ∧ (∀ b, (s.fbcs.get b).mode = .arrival) ∧
  ∀ l b, (s.recs.loupes.get (4 * l + b)).st = .idle
end

