-- ==== Sys2Proof/Laws/Memory.lean ====
section
/-! SUPPORT. Laws of data memory: every operation keeps the canonical form, a byte read after a write is the byte
written, and a write leaves every other byte alone. -/

namespace Sys2Proof.Machine

theorem memWfFrom_mono {lo hi : Nat} {m : List Host.Cell} (h : lo ≤ hi) (w : memWfFrom hi m = true) :
    memWfFrom lo m = true := by
  cases m with
  | nil => rfl
  | cons c r => simp only [memWfFrom, Bool.and_eq_true, decide_eq_true_eq] at w ⊢; exact ⟨⟨by omega, w.1.2⟩, w.2⟩

theorem memDel_wf (m : List Host.Cell) (a lo : Nat) (w : memWfFrom lo m = true) :
    memWfFrom lo (memDel m a) = true := by
  induction m generalizing lo with
  | nil => rfl
  | cons c r ih =>
    simp only [memWfFrom, Bool.and_eq_true, decide_eq_true_eq] at w
    simp only [memDel]
    split
    · exact memWfFrom_mono (by omega) w.2
    · simp only [memWfFrom, Bool.and_eq_true, decide_eq_true_eq]; exact ⟨w.1, ih _ w.2⟩

theorem memPut1_wf (m : List Host.Cell) (a lo : Nat) (b : Byte) (hb : b ≠ 0) (ha : lo ≤ a)
    (w : memWfFrom lo m = true) : memWfFrom lo (memPut1 m a b) = true := by
  induction m generalizing lo with
  | nil => simp only [memPut1, memWfFrom, Bool.and_eq_true, decide_eq_true_eq]; exact ⟨⟨ha, hb⟩, trivial⟩
  | cons c r ih =>
    simp only [memWfFrom, Bool.and_eq_true, decide_eq_true_eq] at w
    simp only [memPut1]
    split
    · simp only [memWfFrom, Bool.and_eq_true, decide_eq_true_eq]
      exact ⟨⟨ha, hb⟩, ⟨by omega, w.1.2⟩, w.2⟩
    · split
      · rename_i h
        simp only [memWfFrom, Bool.and_eq_true, decide_eq_true_eq]
        exact ⟨⟨ha, hb⟩, h ▸ w.2⟩
      · simp only [memWfFrom, Bool.and_eq_true, decide_eq_true_eq]
        exact ⟨w.1, ih _ (by omega) w.2⟩

theorem memSet_wf {m : List Host.Cell} (w : Memory.wf m = true) (a : Nat) (b : Byte) : Memory.wf (memSet m a b) = true := by
  unfold memSet
  split
  · exact memDel_wf m a 0 w
  · exact memPut1_wf m a 0 b ‹_› (Nat.zero_le a) w

theorem memPut_wf {m : List Host.Cell} (w : Memory.wf m = true) (a : Nat) (bs : List Byte) :
    Memory.wf (memPut m a bs) = true := by
  induction bs generalizing m a with
  | nil => exact w
  | cons b r ih => exact ih (memSet_wf w a b) (a + 1)

theorem memPutNat_wf {m : List Host.Cell} (w : Memory.wf m = true) (a n v : Nat) :
    Memory.wf (memPutNat m a n v) = true := memPut_wf w a _

theorem memSetBit_wf {m : List Host.Cell} (w : Memory.wf m = true) (base n : Nat) (v : Bool) :
    Memory.wf (memSetBit m base n v) = true := memSet_wf w _ _

theorem memStore_wf {m : List Host.Cell} (w : Memory.wf m = true) (a : Nat) (bs : List Byte) :
    Memory.wf (memStore m a bs) = true := by
  unfold memStore
  split
  · exact w
  · exact memPut_wf w a bs

/-! ## Reads after writes -/

theorem memGet_below {m : List Host.Cell} {lo a : Nat} (w : memWfFrom lo m = true) (h : a < lo) : memGet m a = 0 := by
  induction m generalizing lo with
  | nil => rfl
  | cons c r ih =>
    obtain ⟨⟨h1, _⟩, h3⟩ : (lo ≤ c.1 ∧ c.2 ≠ 0) ∧ memWfFrom (c.1 + 1) r = true := by simpa [memWfFrom] using w
    simp only [memGet]
    rw [if_neg (by omega)]
    exact ih h3 (by omega)

theorem memGet_memDel (m : List Host.Cell) (a c lo : Nat) (w : memWfFrom lo m = true) :
    memGet (memDel m a) c = if a = c then 0 else memGet m c := by
  induction m generalizing lo with
  | nil => simp [memDel, memGet]
  | cons x r ih =>
    obtain ⟨_, h3⟩ : (lo ≤ x.1 ∧ x.2 ≠ 0) ∧ memWfFrom (x.1 + 1) r = true := by simpa [memWfFrom] using w
    simp only [memDel]
    split
    · rename_i hx
      by_cases hc : a = c
      · rw [if_pos hc]; exact memGet_below h3 (by omega)
      · rw [if_neg hc, memGet, if_neg (by omega)]
    · simp only [memGet, ih _ h3]
      split
      · rw [if_neg (by omega)]
      · rfl

theorem memGet_memPut1 (m : List Host.Cell) (a c : Nat) (b : Byte) :
    memGet (memPut1 m a b) c = if a = c then b else memGet m c := by
  induction m with
  | nil => simp [memPut1, memGet]
  | cons x r ih =>
    simp only [memPut1]
    split
    · simp only [memGet]
    · split
      · rename_i hx; simp only [memGet, ← hx]; split <;> rfl
      · simp only [memGet, ih]
        split
        · rw [if_neg (by omega)]
        · rfl

/-- A byte written is what the next read of it gives, and every other byte reads as before. -/
theorem memGet_memSet {m : List Host.Cell} (w : Memory.wf m = true) (a c : Nat) (b : Byte) :
    memGet (memSet m a b) c = if a = c then b else memGet m c := by
  unfold memSet
  split
  · rename_i h; rw [h]; exact memGet_memDel m a c 0 w
  · exact memGet_memPut1 m a c b

/-- A string of bytes written reads back, and every byte outside it reads as before. -/
theorem memGet_memPut {m : List Host.Cell} (w : Memory.wf m = true) (a c : Nat) (bs : List Byte) :
    memGet (memPut m a bs) c = if a ≤ c ∧ c < a + bs.length then (bs[c - a]?).getD 0 else memGet m c := by
  induction bs generalizing m a with
  | nil => simp [memPut]
  | cons b r ih =>
    rw [memPut, ih (memSet_wf w a b), memGet_memSet w]
    by_cases h : a = c
    · subst h; simp
    · by_cases h2 : a + 1 ≤ c ∧ c < a + 1 + r.length
      · have h3 : a ≤ c ∧ c < a + (b :: r).length := by simp; omega
        rw [if_pos h2, if_pos h3]
        obtain ⟨k, rfl⟩ : ∃ k, c = a + 1 + k := ⟨c - (a + 1), by omega⟩
        have e : a + 1 + k - a = k + 1 := by omega
        simp [e]
      · have h3 : ¬ (a ≤ c ∧ c < a + (b :: r).length) := by simp; omega
        rw [if_neg h2, if_neg h3, if_neg h]

/-- Outside the bytes stored, memory is unchanged. -/
theorem memGet_memPut_other {m : List Host.Cell} (w : Memory.wf m = true) (a c : Nat) (bs : List Byte)
    (h : c < a ∨ a + bs.length ≤ c) : memGet (memPut m a bs) c = memGet m c := by
  rw [memGet_memPut w, if_neg (by omega)]

@[simp] theorem leBytes_length (n v : Nat) : (leBytes n v).length = n := by
  induction n generalizing v with
  | zero => rfl
  | succ n ih => simp [leBytes, ih]

end Sys2Proof.Machine
end

