-- ==== Sys2Proof/Laws/Table.lean ====
section
/-! SUPPORT. Laws of tables: a unit read after a write is what was written, and a write leaves every other unit alone. -/

namespace Sys2Proof

theorem findRow_putRow {α : Type} (r : List (Nat × α)) (k j : Nat) (a : α) :
    findRow (putRow r k a) j = if k = j then some a else findRow r j := by
  induction r with
  | nil => simp [putRow, findRow]
  | cons c r ih =>
    simp only [putRow]
    split
    · simp [findRow]
    · split
      · rename_i h; subst h; simp only [findRow]; split <;> rfl
      · simp only [findRow, ih]
        split
        · rw [if_neg (by omega)]
        · rfl

theorem Tbl.get_set {α : Type} (t : Tbl α) (k j : Nat) (a : α) :
    (t.set k a).get j = if k = j then a else t.get j := by
  simp only [Tbl.get, Tbl.set, findRow_putRow]
  split <;> rfl

@[simp] theorem Tbl.get_set_same {α : Type} (t : Tbl α) (k : Nat) (a : α) : (t.set k a).get k = a := by
  simp [Tbl.get_set]

theorem Tbl.get_set_other {α : Type} (t : Tbl α) {k j : Nat} (a : α) (h : k ≠ j) : (t.set k a).get j = t.get j := by
  simp [Tbl.get_set, h]

theorem Tbl.get_upd {α : Type} (t : Tbl α) (k j : Nat) (f : α → α) :
    (t.upd k f).get j = if k = j then f (t.get k) else t.get j := by
  simp [Tbl.upd, Tbl.get_set]

@[simp] theorem Tbl.get_upd_same {α : Type} (t : Tbl α) (k : Nat) (f : α → α) : (t.upd k f).get k = f (t.get k) := by
  simp [Tbl.get_upd]

theorem Tbl.get_upd_other {α : Type} (t : Tbl α) {k j : Nat} (f : α → α) (h : k ≠ j) :
    (t.upd k f).get j = t.get j := by
  simp [Tbl.get_upd, h]

@[simp] theorem Tbl.set_dflt {α : Type} (t : Tbl α) (k : Nat) (a : α) : (t.set k a).dflt = t.dflt := rfl
@[simp] theorem Tbl.upd_dflt {α : Type} (t : Tbl α) (k : Nat) (f : α → α) : (t.upd k f).dflt = t.dflt := rfl

theorem putRow_putRow {α : Type} (r : List (Nat × α)) (k : Nat) (a b : α) :
    putRow (putRow r k a) k b = putRow r k b := by
  induction r with
  | nil => simp [putRow]
  | cons c r ih =>
    obtain ⟨j, d⟩ := c
    rcases Nat.lt_trichotomy k j with h | h | h
    · simp [putRow, h]
    · subst h; simp [putRow]
    · have h1 : ¬ k < j := Nat.lt_asymm h
      have h2 : k ≠ j := Nat.ne_of_gt h
      simp [putRow, h1, h2, ih]

@[simp] theorem Tbl.set_set {α : Type} (t : Tbl α) (k : Nat) (a b : α) : (t.set k a).set k b = t.set k b := by
  simp [Tbl.set, putRow_putRow]

@[simp] theorem Tbl.upd_upd {α : Type} (t : Tbl α) (k : Nat) (f g : α → α) :
    (t.upd k f).upd k g = t.upd k fun x => g (f x) := by
  simp [Tbl.upd]

theorem mem_putRow {α : Type} {r : List (Nat × α)} {k : Nat} {a : α} {x : Nat × α} (h : x ∈ putRow r k a) :
    x = (k, a) ∨ x ∈ r := by
  induction r with
  | nil => exact .inl (by simpa [putRow] using h)
  | cons c r ih =>
    simp only [putRow] at h
    split at h
    · rcases List.mem_cons.1 h with h | h
      · exact .inl h
      · exact .inr h
    · split at h
      · rcases List.mem_cons.1 h with h | h
        · exact .inl h
        · exact .inr (List.mem_cons_of_mem _ h)
      · rcases List.mem_cons.1 h with h | h
        · exact .inr (h ▸ List.mem_cons_self)
        · rcases ih h with h | h
          · exact .inl h
          · exact .inr (List.mem_cons_of_mem _ h)

theorem mem_of_findRow {α : Type} {r : List (Nat × α)} {k : Nat} {a : α} (h : findRow r k = some a) : (k, a) ∈ r := by
  induction r with
  | nil => simp [findRow] at h
  | cons c r ih =>
    simp only [findRow] at h
    split at h
    · rename_i hk; obtain rfl : c.2 = a := by simpa using h
      rw [← hk]; exact List.mem_cons_self
    · exact List.mem_cons_of_mem _ (ih h)

/-- What holds of every listed unit and of the default holds of every unit. -/
theorem Tbl.get_of_all {α : Type} {P : α → Prop} {t : Tbl α} (hd : P t.dflt) (h : ∀ r ∈ t.rows, P r.2) (k : Nat) :
    P (t.get k) := by
  unfold Tbl.get
  cases e : findRow t.rows k with
  | none => simpa using hd
  | some a => simpa using h _ (mem_of_findRow e)

end Sys2Proof
end

