-- ==== Sys2Proof/Laws/Effect.lean ====
section
/-! SUPPORT. What an operation may do, in one relation: `Effect m s t` says that `t` follows `s` and differs from it
at most in the parts whose bit of `m` is 1, bit k standing for part k of `Part`. Each operation has one lemma of it
in Laws/Eff*.lean; these are the rules that compose them, and the lemmas of the operations that write a part the
relation looks into. -/

namespace Sys2Proof.Machine

theorem State.Follows.refl (s : State) : s.Follows s := ⟨rfl, Nat.le_refl _, List.prefix_refl _, id⟩

theorem State.Follows.trans {s t u : State} (h : s.Follows t) (k : t.Follows u) : s.Follows u :=
  ⟨k.queue.trans h.queue, Nat.le_trans h.time k.time, h.sent.trans k.sent,
   fun w => k.memory (h.memory w)⟩

/-- An operation that writes none of the parts `Follows` looks into. -/
theorem State.Follows.of_fields {s t : State} (q : t.pending = s.pending) (n : t.now = s.now)
    (o : t.outputs = s.outputs) (f : t.facets = s.facets) : s.Follows t :=
  ⟨q, Nat.le_of_eq n.symm, o ▸ List.prefix_refl _, fun w => by unfold State.MemOk at *; rw [f]; exact w⟩

theorem Part.same_refl (p : Part) (s : State) : p.same s s := by cases p <;> rfl

theorem Part.same_trans {p : Part} {s t u : State} (h : p.same s t) (k : p.same t u) : p.same s u := by
  cases p <;> exact Eq.trans k h

/-- `t` follows `s` in the same life-cycle state and keeps every part whose bit of `m` is 0. -/
structure Effect (m : Nat) (s t : State) : Prop where
  same : ∀ p : Part, m.testBit p.ctorIdx = false → p.same s t
  follows : s.Follows t
  lcs : t.glb.lcs = s.glb.lcs

theorem Effect.refl (m : Nat) (s : State) : Effect m s s := ⟨fun p _ => p.same_refl s, .refl s, rfl⟩

theorem Effect.trans {m : Nat} {s t u : State} (h : Effect m s t) (k : Effect m t u) : Effect m s u :=
  ⟨fun p hp => Part.same_trans (h.same p hp) (k.same p hp), h.follows.trans k.follows, k.lcs.trans h.lcs⟩

theorem Effect.mono {g m : Nat} {s t : State} (h : Effect g s t) (i : g &&& m = g) : Effect m s t :=
  ⟨fun p hp => h.same p (by rw [← i, Nat.testBit_and, hp, Bool.and_false]), h.follows, h.lcs⟩

/-- After `s` has become `b`, an operation of a smaller effect. -/
theorem Effect.go {g m : Nat} {s b t : State} (h : Effect m s b) (e : Effect g b t) (i : g &&& m = g) :
    Effect m s t := h.trans (e.mono i)

theorem Effect.after {g m : Nat} {s b t : State} (e : Effect g b t) (i : g &&& m = g) (h : Effect m s b) :
    Effect m s t := h.go e i

/-- A record update of `b` that writes none of the parts `Follows` looks into. -/
theorem Effect.upd {m : Nat} {s : State} (b : State) {y1 y2 y3 y4 y5 y7 y8 y9 y10 y11 y12 y13 y14 y15 y16 y17 y18 y19 y20 y21 y22 y23 y24 y25 y26 y27 y28
    y29 y30 y31 y32 y33 y34 y35 y36 y37 y38 y39 y40 y41 y43}
    (h : Effect m s b) (l : y2.lcs = b.glb.lcs)
    (e : ∀ p : Part, m.testBit p.ctorIdx = false → p.same b (State.mk b.now y1 y2 y3 y4 y5 b.facets y7 y8 y9 y10 y11 y12 y13 y14 y15 y16 y17 y18 y19 y20 y21 y22 y23 y24
      y25 y26 y27 y28 y29 y30 y31 y32 y33 y34 y35 y36 y37 y38 y39 y40 y41 b.outputs y43 b.pending)) :
    Effect m s (State.mk b.now y1 y2 y3 y4 y5 b.facets y7 y8 y9 y10 y11 y12 y13 y14 y15 y16 y17 y18 y19 y20 y21 y22 y23 y24
      y25 y26 y27 y28 y29 y30 y31 y32 y33 y34 y35 y36 y37 y38 y39 y40 y41 b.outputs y43 b.pending) :=
  h.trans ⟨e, .of_fields rfl rfl rfl rfl, l⟩

theorem Effect.ite {m : Nat} {s x y : State} {c : Prop} [Decidable c] (h : c → Effect m s x) (k : ¬ c → Effect m s y) :
    Effect m s (if c then x else y) := by
  split
  · exact h ‹_›
  · exact k ‹_›

theorem Effect.each {m : Nat} {α : Type} {s b : State} {xs : List α} {f : State → α → State} (h : Effect m s b)
    (k : ∀ t x, Effect m s t → Effect m s (f t x)) : Effect m s (b.each xs f) := by
  unfold State.each
  induction xs generalizing b with
  | nil => exact h
  | cons x r ih => exact ih (k b x h)

theorem Effect.firstOf_nil {m : Nat} {s d : State} (h : Effect m s d) : Effect m s (firstOf d []) := h

theorem Effect.firstOf_cons {m : Nat} {s d : State} {o : Option Nat} {f : Nat → State}
    {r : List (Option Nat × (Nat → State))} (hf : ∀ i, Effect m s (f i)) (hr : Effect m s (firstOf d r)) :
    Effect m s (firstOf d ((o, f) :: r)) := by
  cases o with
  | none => exact hr
  | some i => exact hf i

/-- The next state of a command, in the parts listed: what a frame says. -/
theorem Effect.changesOnly {m : Nat} {s t : State} (h : Effect m s t) (ps : List Part)
    (i : ∀ p : Part, m.testBit p.ctorIdx = true → p ∈ ps) : s.ChangesOnly ps t := by
  intro p hp
  apply h.same
  cases e : m.testBit p.ctorIdx with
  | false => rfl
  | true => exact absurd (i p e) hp

/-- What a command answers: a next state within an effect. -/
def Effect.ok (m : Nat) (s : State) (r : Res) : Prop := ∃ t, r = .next t ∧ Effect m s t

theorem Effect.ok_next {m : Nat} {s t : State} (h : Effect m s t) : Effect.ok m s (.next t) := ⟨t, rfl, h⟩

theorem Effect.ok_mono {g m : Nat} {s : State} {r : Res} (h : Effect.ok g s r) (i : g &&& m = g) : Effect.ok m s r := by
  obtain ⟨t, e, h⟩ := h
  exact ⟨t, e, h.mono i⟩

theorem Effect.land {a b m : Nat} (k : b &&& m = b) (h : a &&& b = a) : a &&& m = a := by
  rw [← h, Nat.and_assoc, k]

/-! ## Operations on the parts that `Follows` looks into -/

theorem State.MemOk.updFacet {s : State} (w : s.MemOk) {l f : Nat} {g : FacetSt → FacetSt}
    (hg : ∀ x : FacetSt, Memory.wf x.dmem = true → Memory.wf (g x).dmem = true) : (s.updFacet l f g).MemOk := by
  refine ⟨w.1, fun r hr => ?_⟩
  rcases mem_putRow hr with h | h
  · rw [h]; exact hg _ (Tbl.get_of_all (P := fun x : FacetSt => Memory.wf x.dmem = true) w.1 w.2 _)
  · exact w.2 r h

theorem State.updFacet_effect (s : State) (l f : Nat) (g : FacetSt → FacetSt)
    (hg : ∀ x : FacetSt, Memory.wf x.dmem = true → Memory.wf (g x).dmem = true) : Effect 64 s (s.updFacet l f g) :=
  ⟨fun p hp => by cases p <;> first | rfl | exact absurd hp (by decide),
   ⟨rfl, Nat.le_refl _, List.prefix_refl _, fun w => w.updFacet hg⟩, rfl⟩

theorem State.updGlb_effect (s : State) (g : Glb → Glb) (hg : ∀ x, (g x).lcs = x.lcs) : Effect 4 s (s.updGlb g) :=
  ⟨fun p hp => by cases p <;> first | rfl | exact absurd hp (by decide),
   ⟨rfl, Nat.le_refl _, List.prefix_refl _, id⟩, hg _⟩

theorem Effect.updFacet {m : Nat} {s b : State} {l f : Nat} {g : FacetSt → FacetSt} (h : Effect m s b)
    (hg : ∀ x : FacetSt, Memory.wf x.dmem = true → Memory.wf (g x).dmem = true) (i : 64 &&& m = 64) :
    Effect m s (b.updFacet l f g) := h.go (b.updFacet_effect l f g hg) i

theorem Effect.updGlb {m : Nat} {s b : State} {g : Glb → Glb} (h : Effect m s b) (hg : ∀ x, (g x).lcs = x.lcs)
    (i : 4 &&& m = 4) : Effect m s (b.updGlb g) := h.go (b.updGlb_effect g hg) i

theorem State.emit_effect (s : State) (x : Emission) : Effect (2 ^ 42) s (s.emit x) :=
  ⟨fun p hp => by cases p <;> first | rfl | exact absurd hp (by decide),
   ⟨rfl, Nat.le_refl _, List.prefix_append _ _, id⟩, rfl⟩

theorem State.emits_effect (s : State) (xs : List Emission) : Effect (2 ^ 42) s (s.emits xs) :=
  ⟨fun p hp => by cases p <;> first | rfl | exact absurd hp (by decide),
   ⟨rfl, Nat.le_refl _, List.prefix_append _ _, id⟩, rfl⟩

theorem State.after_effect (s : State) (d : Nat) : Effect (1 + 2 ^ 34) s (s.after d) := by
  unfold State.after
  split
  · exact .refl _ _
  · exact ⟨fun p hp => by cases p <;> first | rfl | exact absurd hp (by decide),
      ⟨rfl, Nat.le_add_right _ _, List.prefix_refl _, id⟩, rfl⟩

theorem State.upTo_effect (s : State) (t : Nat) : Effect (1 + 2 ^ 34) s (s.upTo t) := s.after_effect _

theorem State.passTime_effect (s : State) (d : Nat) (c : ColSt) :
    Effect (1 + 2 ^ 34) s { s with now := s.now + d, col := c } :=
  ⟨fun p hp => by cases p <;> first | rfl | exact absurd hp (by decide),
   ⟨rfl, Nat.le_add_right _ _, List.prefix_refl _, id⟩, rfl⟩

theorem State.upToTai_effect (s : State) (t : Nat) : Effect (1 + 2 ^ 34) s (s.upToTai t) := by
  unfold State.upToTai
  split
  · exact .refl _ _
  · exact s.passTime_effect _ _

end Sys2Proof.Machine
end

