-- ==== Sys2Proof/Laws/EffOps.lean ====
section
/-! SUPPORT. What each operation of Machine/Ops.lean may do: the parts it may write, and that its result follows
what it was given (Laws/Effect.lean). -/

namespace Sys2Proof.Machine

theorem State.free_effect (s : State) :
    Effect 0x2 s ((State.free s).2) := by
  unfold State.free
  try dsimp only
  repeat' first
    | with_reducible apply Effect.refl
    | with_reducible assumption
    | split
    | ((with_reducible apply Effect.upd) <;> [skip; exact rfl; (intro p hp; cases p <;> first | exact rfl | exact absurd hp (by decide))])

theorem State.free_effect_eq {s : State} {v_ : BitVec 64} {t_ : State}
    (he : State.free s = (v_, t_)) : Effect 0x2 s t_ := by
  have h := State.free_effect s
  rw [he] at h
  exact h

theorem State.evrTouch_effect (s : State) (i : ℕ) (f : EvrWin → EvrWin) :
    Effect 0x4000000000 s (State.evrTouch s i f) := by
  unfold State.evrTouch
  try dsimp only
  repeat' first
    | with_reducible apply Effect.refl
    | with_reducible assumption
    | split
    | ((with_reducible apply Effect.upd) <;> [skip; exact rfl; (intro p hp; cases p <;> first | exact rfl | exact absurd hp (by decide))])

theorem State.event_effect (s : State) (e : Ev) (d : ℕ) :
    Effect 0x4000000000 s (State.event s e d) := by
  unfold State.event
  try dsimp only
  repeat' first
    | with_reducible apply Effect.refl
    | with_reducible assumption
    | ((with_reducible apply Effect.after (State.evrTouch_effect ..)); exact rfl)
    | split
    | ((with_reducible apply Effect.upd) <;> [skip; exact rfl; (intro p hp; cases p <;> first | exact rfl | exact absurd hp (by decide))])

theorem State.markAlarm_effect (s : State) (e : Ev) :
    Effect 0x4000000000 s (State.markAlarm s e) := by
  unfold State.markAlarm
  try dsimp only
  repeat' first
    | with_reducible apply Effect.refl
    | with_reducible assumption
    | split
    | ((with_reducible apply Effect.upd) <;> [skip; exact rfl; (intro p hp; cases p <;> first | exact rfl | exact absurd hp (by decide))])

theorem State.alarm_effect (s : State) (e : Ev) (d : ℕ) :
    Effect 0x4000000000 s (State.alarm s e d) := by
  unfold State.alarm
  try dsimp only
  repeat' first
    | with_reducible apply Effect.refl
    | with_reducible assumption
    | ((with_reducible apply Effect.ite) <;> intro _)
    | ((with_reducible apply Effect.after (State.markAlarm_effect ..)); exact rfl)
    | ((with_reducible apply Effect.after (State.event_effect ..)); exact rfl)
    | split
    | ((with_reducible apply Effect.upd) <;> [skip; exact rfl; (intro p hp; cases p <;> first | exact rfl | exact absurd hp (by decide))])

theorem State.clearAlarm_effect (s : State) (e : Ev) (d : ℕ) :
    Effect 0x4000000000 s (State.clearAlarm s e d) := by
  unfold State.clearAlarm
  try dsimp only
  repeat' first
    | with_reducible apply Effect.refl
    | with_reducible assumption
    | ((with_reducible apply Effect.ite) <;> intro _)
    | ((with_reducible apply Effect.after (State.markAlarm_effect ..)); exact rfl)
    | split
    | ((with_reducible apply Effect.upd) <;> [skip; exact rfl; (intro p hp; cases p <;> first | exact rfl | exact absurd hp (by decide))])

theorem State.updUnit_effect (s : State) (u : UnitId) (f : UnitSt → UnitSt) :
    Effect 0x20 s (State.updUnit s u f) := by
  unfold State.updUnit
  try dsimp only
  repeat' first
    | with_reducible apply Effect.refl
    | with_reducible assumption
    | split
    | ((with_reducible apply Effect.upd) <;> [skip; exact rfl; (intro p hp; cases p <;> first | exact rfl | exact absurd hp (by decide))])

theorem State.updProg_effect (s : State) (l : ℕ) (f : ℕ) (g : ProgSt → ProgSt) :
    Effect 0x80 s (State.updProg s l f g) := by
  unfold State.updProg
  try dsimp only
  repeat' first
    | with_reducible apply Effect.refl
    | with_reducible assumption
    | split
    | ((with_reducible apply Effect.upd) <;> [skip; exact rfl; (intro p hp; cases p <;> first | exact rfl | exact absurd hp (by decide))])

theorem State.updLens_effect (s : State) (l : ℕ) (g : LensSt → LensSt) :
    Effect 0x100 s (State.updLens s l g) := by
  unfold State.updLens
  try dsimp only
  repeat' first
    | with_reducible apply Effect.refl
    | with_reducible assumption
    | split
    | ((with_reducible apply Effect.upd) <;> [skip; exact rfl; (intro p hp; cases p <;> first | exact rfl | exact absurd hp (by decide))])

theorem State.updLogic_effect (s : State) (p : ℕ) (g : LogicSt → LogicSt) :
    Effect 0x800 s (State.updLogic s p g) := by
  unfold State.updLogic
  try dsimp only
  repeat' first
    | with_reducible apply Effect.refl
    | with_reducible assumption
    | split
    | ((with_reducible apply Effect.upd) <;> [skip; exact rfl; (intro p hp; cases p <;> first | exact rfl | exact absurd hp (by decide))])

theorem State.updStn_effect (s : State) (i : ℕ) (g : StnSt → StnSt) :
    Effect 0x2000 s (State.updStn s i g) := by
  unfold State.updStn
  try dsimp only
  repeat' first
    | with_reducible apply Effect.refl
    | with_reducible assumption
    | split
    | ((with_reducible apply Effect.upd) <;> [skip; exact rfl; (intro p hp; cases p <;> first | exact rfl | exact absurd hp (by decide))])

theorem State.updCond_effect (s : State) (j : ℕ) (g : CondSt → CondSt) :
    Effect 0x4000 s (State.updCond s j g) := by
  unfold State.updCond
  try dsimp only
  repeat' first
    | with_reducible apply Effect.refl
    | with_reducible assumption
    | split
    | ((with_reducible apply Effect.upd) <;> [skip; exact rfl; (intro p hp; cases p <;> first | exact rfl | exact absurd hp (by decide))])

theorem State.updArm_effect (s : State) (a : ℕ) (g : ArmSt → ArmSt) :
    Effect 0x8000000 s (State.updArm s a g) := by
  unfold State.updArm
  try dsimp only
  repeat' first
    | with_reducible apply Effect.refl
    | with_reducible assumption
    | split
    | ((with_reducible apply Effect.upd) <;> [skip; exact rfl; (intro p hp; cases p <;> first | exact rfl | exact absurd hp (by decide))])

theorem State.updSm_effect (s : State) (a : ℕ) (i : ℕ) (g : SmSt → SmSt) :
    Effect 0x10000000 s (State.updSm s a i g) := by
  unfold State.updSm
  try dsimp only
  repeat' first
    | with_reducible apply Effect.refl
    | with_reducible assumption
    | split
    | ((with_reducible apply Effect.upd) <;> [skip; exact rfl; (intro p hp; cases p <;> first | exact rfl | exact absurd hp (by decide))])

theorem State.updEngine_effect (s : State) (e : ℕ) (g : EngineSt → EngineSt) :
    Effect 0x20000000 s (State.updEngine s e g) := by
  unfold State.updEngine
  try dsimp only
  repeat' first
    | with_reducible apply Effect.refl
    | with_reducible assumption
    | split
    | ((with_reducible apply Effect.upd) <;> [skip; exact rfl; (intro p hp; cases p <;> first | exact rfl | exact absurd hp (by decide))])

theorem State.updBeam_effect (s : State) (l : ℕ) (g : BeamSt → BeamSt) :
    Effect 0x40000000 s (State.updBeam s l g) := by
  unfold State.updBeam
  try dsimp only
  repeat' first
    | with_reducible apply Effect.refl
    | with_reducible assumption
    | split
    | ((with_reducible apply Effect.upd) <;> [skip; exact rfl; (intro p hp; cases p <;> first | exact rfl | exact absurd hp (by decide))])

theorem State.updPwm_effect (s : State) (n : ℕ) (g : PwmSt → PwmSt) :
    Effect 0x80000000 s (State.updPwm s n g) := by
  unfold State.updPwm
  try dsimp only
  repeat' first
    | with_reducible apply Effect.refl
    | with_reducible assumption
    | split
    | ((with_reducible apply Effect.upd) <;> [skip; exact rfl; (intro p hp; cases p <;> first | exact rfl | exact absurd hp (by decide))])

theorem State.updTi_effect (s : State) (i : ℕ) (g : TiSt → TiSt) :
    Effect 0x100000000 s (State.updTi s i g) := by
  unfold State.updTi
  try dsimp only
  repeat' first
    | with_reducible apply Effect.refl
    | with_reducible assumption
    | split
    | ((with_reducible apply Effect.upd) <;> [skip; exact rfl; (intro p hp; cases p <;> first | exact rfl | exact absurd hp (by decide))])

theorem State.updTo_effect (s : State) (m : ℕ) (g : ToSt → ToSt) :
    Effect 0x400000 s (State.updTo s m g) := by
  unfold State.updTo
  try dsimp only
  repeat' first
    | with_reducible apply Effect.refl
    | with_reducible assumption
    | split
    | ((with_reducible apply Effect.upd) <;> [skip; exact rfl; (intro p hp; cases p <;> first | exact rfl | exact absurd hp (by decide))])

theorem State.updGp_effect (s : State) (g : ℕ) (h : GpSt → GpSt) :
    Effect 0x800000 s (State.updGp s g h) := by
  unfold State.updGp
  try dsimp only
  repeat' first
    | with_reducible apply Effect.refl
    | with_reducible assumption
    | split
    | ((with_reducible apply Effect.upd) <;> [skip; exact rfl; (intro p hp; cases p <;> first | exact rfl | exact absurd hp (by decide))])

theorem State.updGs_effect (s : State) (k : ℕ) (h : GsSt → GsSt) :
    Effect 0x1000000 s (State.updGs s k h) := by
  unfold State.updGs
  try dsimp only
  repeat' first
    | with_reducible apply Effect.refl
    | with_reducible assumption
    | split
    | ((with_reducible apply Effect.upd) <;> [skip; exact rfl; (intro p hp; cases p <;> first | exact rfl | exact absurd hp (by decide))])

theorem State.updSv_effect (s : State) (k : ℕ) (g : SvSt → SvSt) :
    Effect 0x8000 s (State.updSv s k g) := by
  unfold State.updSv
  try dsimp only
  repeat' first
    | with_reducible apply Effect.refl
    | with_reducible assumption
    | split
    | ((with_reducible apply Effect.upd) <;> [skip; exact rfl; (intro p hp; cases p <;> first | exact rfl | exact absurd hp (by decide))])

theorem State.updChain_effect (s : State) (l : ℕ) (c : ℕ) (g : ChainSt → ChainSt) :
    Effect 0x10000 s (State.updChain s l c g) := by
  unfold State.updChain
  try dsimp only
  repeat' first
    | with_reducible apply Effect.refl
    | with_reducible assumption
    | split
    | ((with_reducible apply Effect.upd) <;> [skip; exact rfl; (intro p hp; cases p <;> first | exact rfl | exact absurd hp (by decide))])

theorem State.updSlot_effect (s : State) (l : ℕ) (i : ℕ) (g : SlotSt → SlotSt) :
    Effect 0x20000 s (State.updSlot s l i g) := by
  unfold State.updSlot
  try dsimp only
  repeat' first
    | with_reducible apply Effect.refl
    | with_reducible assumption
    | split
    | ((with_reducible apply Effect.upd) <;> [skip; exact rfl; (intro p hp; cases p <;> first | exact rfl | exact absurd hp (by decide))])

theorem State.updProt_effect (s : State) (p : ℕ) (g : ProtSt → ProtSt) :
    Effect 0x200000 s (State.updProt s p g) := by
  unfold State.updProt
  try dsimp only
  repeat' first
    | with_reducible apply Effect.refl
    | with_reducible assumption
    | split
    | ((with_reducible apply Effect.upd) <;> [skip; exact rfl; (intro p hp; cases p <;> first | exact rfl | exact absurd hp (by decide))])

theorem State.updFn_effect (s : State) (k : ℕ) (g : FnSt → FnSt) :
    Effect 0x40000 s (State.updFn s k g) := by
  unfold State.updFn
  try dsimp only
  repeat' first
    | with_reducible apply Effect.refl
    | with_reducible assumption
    | split
    | ((with_reducible apply Effect.upd) <;> [skip; exact rfl; (intro p hp; cases p <;> first | exact rfl | exact absurd hp (by decide))])

theorem State.updFbc_effect (s : State) (b : ℕ) (g : FbcSt → FbcSt) :
    Effect 0x800000000 s (State.updFbc s b g) := by
  unfold State.updFbc
  try dsimp only
  repeat' first
    | with_reducible apply Effect.refl
    | with_reducible assumption
    | split
    | ((with_reducible apply Effect.upd) <;> [skip; exact rfl; (intro p hp; cases p <;> first | exact rfl | exact absurd hp (by decide))])

theorem State.updSwc_effect (s : State) (g : SwcSt → SwcSt) :
    Effect 0x200000000 s (State.updSwc s g) := by
  unfold State.updSwc
  try dsimp only
  repeat' first
    | with_reducible apply Effect.refl
    | with_reducible assumption
    | split
    | ((with_reducible apply Effect.upd) <;> [skip; exact rfl; (intro p hp; cases p <;> first | exact rfl | exact absurd hp (by decide))])

theorem State.updPort_effect (s : State) (p : ℕ) (g : PortSt → PortSt) :
    Effect 0x200000000 s (State.updPort s p g) := by
  unfold State.updPort
  try dsimp only
  repeat' first
    | with_reducible apply Effect.refl
    | with_reducible assumption
    | split
    | ((with_reducible apply Effect.upd) <;> [skip; exact rfl; (intro p hp; cases p <;> first | exact rfl | exact absurd hp (by decide))])

theorem State.updCol_effect (s : State) (g : ColSt → ColSt) :
    Effect 0x400000000 s (State.updCol s g) := by
  unfold State.updCol
  try dsimp only
  repeat' first
    | with_reducible apply Effect.refl
    | with_reducible assumption
    | split
    | ((with_reducible apply Effect.upd) <;> [skip; exact rfl; (intro p hp; cases p <;> first | exact rfl | exact absurd hp (by decide))])

theorem State.updTp_effect (s : State) (t : ℕ) (g : TpSt → TpSt) :
    Effect 0x400000000 s (State.updTp s t g) := by
  unfold State.updTp
  try dsimp only
  repeat' first
    | with_reducible apply Effect.refl
    | with_reducible assumption
    | split
    | ((with_reducible apply Effect.upd) <;> [skip; exact rfl; (intro p hp; cases p <;> first | exact rfl | exact absurd hp (by decide))])

theorem State.updHif_effect (s : State) (g : HifSt → HifSt) :
    Effect 0x1000000000 s (State.updHif s g) := by
  unfold State.updHif
  try dsimp only
  repeat' first
    | with_reducible apply Effect.refl
    | with_reducible assumption
    | split
    | ((with_reducible apply Effect.upd) <;> [skip; exact rfl; (intro p hp; cases p <;> first | exact rfl | exact absurd hp (by decide))])

theorem State.updSlice_effect (s : State) (i : ℕ) (g : SliceSt → SliceSt) :
    Effect 0x1000000000 s (State.updSlice s i g) := by
  unfold State.updSlice
  try dsimp only
  repeat' first
    | with_reducible apply Effect.refl
    | with_reducible assumption
    | split
    | ((with_reducible apply Effect.upd) <;> [skip; exact rfl; (intro p hp; cases p <;> first | exact rfl | exact absurd hp (by decide))])

theorem State.updHostPort_effect (s : State) (h : ℕ) (g : HostPortSt → HostPortSt) :
    Effect 0x1000000000 s (State.updHostPort s h g) := by
  unfold State.updHostPort
  try dsimp only
  repeat' first
    | with_reducible apply Effect.refl
    | with_reducible assumption
    | split
    | ((with_reducible apply Effect.upd) <;> [skip; exact rfl; (intro p hp; cases p <;> first | exact rfl | exact absurd hp (by decide))])

theorem State.updMlk_effect (s : State) (g : MlkSt → MlkSt) :
    Effect 0x2000000000 s (State.updMlk s g) := by
  unfold State.updMlk
  try dsimp only
  repeat' first
    | with_reducible apply Effect.refl
    | with_reducible assumption
    | split
    | ((with_reducible apply Effect.upd) <;> [skip; exact rfl; (intro p hp; cases p <;> first | exact rfl | exact absurd hp (by decide))])

theorem State.updGrp_effect (s : State) (i : ℕ) (g : PerGrpSt → PerGrpSt) :
    Effect 0x4000000000 s (State.updGrp s i g) := by
  unfold State.updGrp
  try dsimp only
  repeat' first
    | with_reducible apply Effect.refl
    | with_reducible assumption
    | split
    | ((with_reducible apply Effect.upd) <;> [skip; exact rfl; (intro p hp; cases p <;> first | exact rfl | exact absurd hp (by decide))])

theorem State.updLoupe_effect (s : State) (l : ℕ) (b : ℕ) (g : LoupeSt → LoupeSt) :
    Effect 0x4000000000 s (State.updLoupe s l b g) := by
  unfold State.updLoupe
  try dsimp only
  repeat' first
    | with_reducible apply Effect.refl
    | with_reducible assumption
    | split
    | ((with_reducible apply Effect.upd) <;> [skip; exact rfl; (intro p hp; cases p <;> first | exact rfl | exact absurd hp (by decide))])

theorem State.updRecs_effect (s : State) (g : RecSt → RecSt) :
    Effect 0x4000000000 s (State.updRecs s g) := by
  unfold State.updRecs
  try dsimp only
  repeat' first
    | with_reducible apply Effect.refl
    | with_reducible assumption
    | split
    | ((with_reducible apply Effect.upd) <;> [skip; exact rfl; (intro p hp; cases p <;> first | exact rfl | exact absurd hp (by decide))])

theorem State.emptySlots_effect (s : State) :
    Effect 0x1000 s (State.emptySlots s) := by
  unfold State.emptySlots
  try dsimp only
  repeat' first
    | with_reducible apply Effect.refl
    | with_reducible assumption
    | split
    | ((with_reducible apply Effect.upd) <;> [skip; exact rfl; (intro p hp; cases p <;> first | exact rfl | exact absurd hp (by decide))])

theorem State.updEvr_effect (s : State) (g : EvrSt → EvrSt) :
    Effect 0x4000000000 s (State.updEvr s g) := by
  unfold State.updEvr
  try dsimp only
  repeat' first
    | with_reducible apply Effect.refl
    | with_reducible assumption
    | split
    | ((with_reducible apply Effect.upd) <;> [skip; exact rfl; (intro p hp; cases p <;> first | exact rfl | exact absurd hp (by decide))])

theorem State.updSvc_effect (s : State) (g : Svc → Svc) :
    Effect 0x10 s (State.updSvc s g) := by
  unfold State.updSvc
  try dsimp only
  repeat' first
    | with_reducible apply Effect.refl
    | with_reducible assumption
    | split
    | ((with_reducible apply Effect.upd) <;> [skip; exact rfl; (intro p hp; cases p <;> first | exact rfl | exact absurd hp (by decide))])

theorem State.updKa_effect (s : State) (g : Ka → Ka) :
    Effect 0x8 s (State.updKa s g) := by
  unfold State.updKa
  try dsimp only
  repeat' first
    | with_reducible apply Effect.refl
    | with_reducible assumption
    | split
    | ((with_reducible apply Effect.upd) <;> [skip; exact rfl; (intro p hp; cases p <;> first | exact rfl | exact absurd hp (by decide))])

theorem State.updHw_effect (s : State) (g : HwSt → HwSt) :
    Effect 0x20000000000 s (State.updHw s g) := by
  unfold State.updHw
  try dsimp only
  repeat' first
    | with_reducible apply Effect.refl
    | with_reducible assumption
    | split
    | ((with_reducible apply Effect.upd) <;> [skip; exact rfl; (intro p hp; cases p <;> first | exact rfl | exact absurd hp (by decide))])

theorem State.updObs_effect (s : State) (g : ObsSt → ObsSt) :
    Effect 0x8000000000 s (State.updObs s g) := by
  unfold State.updObs
  try dsimp only
  repeat' first
    | with_reducible apply Effect.refl
    | with_reducible assumption
    | split
    | ((with_reducible apply Effect.upd) <;> [skip; exact rfl; (intro p hp; cases p <;> first | exact rfl | exact absurd hp (by decide))])

theorem State.updBst_effect (s : State) (g : BstSt → BstSt) :
    Effect 0x10000000000 s (State.updBst s g) := by
  unfold State.updBst
  try dsimp only
  repeat' first
    | with_reducible apply Effect.refl
    | with_reducible assumption
    | split
    | ((with_reducible apply Effect.upd) <;> [skip; exact rfl; (intro p hp; cases p <;> first | exact rfl | exact absurd hp (by decide))])

theorem State.updCnv_effect (s : State) (g : CnvSt → CnvSt) :
    Effect 0x4000000 s (State.updCnv s g) := by
  unfold State.updCnv
  try dsimp only
  repeat' first
    | with_reducible apply Effect.refl
    | with_reducible assumption
    | split
    | ((with_reducible apply Effect.upd) <;> [skip; exact rfl; (intro p hp; cases p <;> first | exact rfl | exact absurd hp (by decide))])

theorem State.mirror_effect (s : State) (it : Item) :
    Effect 0x2000000000 s (State.mirror s it) := by
  unfold State.mirror
  try dsimp only
  repeat' first
    | with_reducible apply Effect.refl
    | with_reducible assumption
    | ((with_reducible apply Effect.ite) <;> intro _)
    | ((with_reducible apply Effect.after (State.updMlk_effect ..)); exact rfl)

theorem State.updJ_effect (s : State) (j : ℕ) (f : JEntry → JEntry) :
    Effect 0x3000000000 s (State.updJ s j f) := by
  unfold State.updJ
  try dsimp only
  repeat' first
    | with_reducible apply Effect.refl
    | with_reducible assumption
    | ((with_reducible apply Effect.after (State.mirror_effect ..)); exact rfl)
    | split
    | ((with_reducible apply Effect.upd) <;> [skip; exact rfl; (intro p hp; cases p <;> first | exact rfl | exact absurd hp (by decide))])

theorem State.placeRing_effect (s : State) (i : ℕ) (r : ℕ) :
    Effect 0x1000000000 s (State.placeRing s i r) := by
  unfold State.placeRing
  try dsimp only
  repeat' first
    | with_reducible apply Effect.refl
    | with_reducible assumption
    | ((with_reducible apply Effect.each) <;> [skip; (intro t x ht)])
    | ((with_reducible apply Effect.after (State.updHif_effect ..)); exact rfl)
    | ((with_reducible apply Effect.after (State.updSlice_effect ..)); exact rfl)

theorem State.complete_effect (s : State) (j : ℕ) (st : Code) (res : ℕ) :
    Effect 0x3000000000 s (State.complete s j st res) := by
  unfold State.complete
  try dsimp only
  repeat' first
    | with_reducible apply Effect.refl
    | with_reducible assumption
    | ((with_reducible apply Effect.ite) <;> intro _)
    | ((with_reducible apply Effect.after (State.placeRing_effect ..)); exact rfl)
    | ((with_reducible apply Effect.after (State.updJ_effect ..)); exact rfl)
    | split

theorem State.start_effect (s : State) (j : ℕ) :
    Effect 0x3000000000 s (State.start s j) := by
  unfold State.start
  try dsimp only
  repeat' first
    | with_reducible apply Effect.refl
    | with_reducible assumption
    | ((with_reducible apply Effect.after (State.updJ_effect ..)); exact rfl)

theorem State.freeCode_effect (s : State) :
    Effect 0x2 s ((State.freeCode s).2) := by
  unfold State.freeCode
  try dsimp only
  repeat' first
    | with_reducible apply Effect.refl
    | with_reducible assumption
    | ((with_reducible apply Effect.after (State.free_effect ..)); exact rfl)

theorem State.freeCode_effect_eq {s : State} {v_ : Code} {t_ : State}
    (he : State.freeCode s = (v_, t_)) : Effect 0x2 s t_ := by
  have h := State.freeCode_effect s
  rw [he] at h
  exact h

theorem State.lockedWrite_effect (s : State) :
    Effect 0x4 s (State.lockedWrite s) := by
  unfold State.lockedWrite
  try dsimp only
  repeat' first
    | with_reducible apply Effect.refl
    | with_reducible assumption
    | ((with_reducible apply Effect.updGlb) <;> [skip; (intro x; first | rfl | (dsimp only; split <;> rfl)); exact rfl])

theorem State.notReadyWrite_effect (s : State) :
    Effect 0x4 s (State.notReadyWrite s) := by
  unfold State.notReadyWrite
  try dsimp only
  repeat' first
    | with_reducible apply Effect.refl
    | with_reducible assumption
    | ((with_reducible apply Effect.updGlb) <;> [skip; (intro x; first | rfl | (dsimp only; split <;> rfl)); exact rfl])

theorem State.setAbsent_effect (s : State) :
    Effect 0x4 s (State.setAbsent s) := by
  unfold State.setAbsent
  try dsimp only
  repeat' first
    | with_reducible apply Effect.refl
    | with_reducible assumption
    | ((with_reducible apply Effect.updGlb) <;> [skip; (intro x; first | rfl | (dsimp only; split <;> rfl)); exact rfl])

theorem State.unitWrite_effect {m : Nat} {s0 : State} (s : State) (present : Bool) (f : State → State) (h0 : Effect m s0 s) (hf : ∀ (t : State), Effect m s0 t → Effect m s0 (f t))
    (hm : 0x4 &&& m = 0x4) : Effect m s0 (State.unitWrite s present f) := by
  unfold State.unitWrite
  try dsimp only
  repeat' first
    | with_reducible apply Effect.refl
    | with_reducible assumption
    | ((with_reducible apply Effect.ite) <;> intro _)
    | with_reducible refine hf _ ?_
    | ((with_reducible apply Effect.after (State.notReadyWrite_effect ..)); exact Effect.land hm rfl)
    | ((with_reducible apply Effect.after (State.setAbsent_effect ..)); exact Effect.land hm rfl)

end Sys2Proof.Machine
end

