-- ==== Sys2Proof/Laws/EffBeam.lean ====
section
/-! SUPPORT. What each operation of Machine/Beam.lean may do: the parts it may write, and that its result follows
what it was given (Laws/Effect.lean). -/

namespace Sys2Proof.Machine

theorem State.launchFrame_effect (s : State) (l : ℕ) (i : BeamItem) (t : ℕ) :
    Effect 0x40040000002 s (State.launchFrame s l i t) := by
  unfold State.launchFrame
  try dsimp only
  repeat' first
    | with_reducible apply Effect.refl
    | with_reducible assumption
    | ((with_reducible apply Effect.after (State.free_effect ..)); exact rfl)
    | ((with_reducible apply Effect.after (State.free_effect_eq ‹_›)); exact rfl)
    | ((with_reducible apply Effect.after (State.emit_effect ..)); exact rfl)
    | ((with_reducible apply Effect.after (State.updBeam_effect ..)); exact rfl)

theorem State.sendBeam_effect (s : State) (l : ℕ) (is : List BeamItem) : Effect 0x40040000002 s (State.sendBeam s l is) := by
  induction is generalizing s with
  | nil => exact (State.updBeam_effect ..).mono rfl
  | cons i r ih =>
    unfold State.sendBeam
    dsimp only
    split
    · exact (State.updBeam_effect ..).mono rfl
    · split
      · exact Effect.trans ((State.updBeam_effect ..).mono rfl) (ih _)
      · exact Effect.trans ((State.launchFrame_effect ..).mono rfl) (ih _)

theorem State.flushBeam_effect (s : State) (l : ℕ) :
    Effect 0x40040000002 s (State.flushBeam s l) := by
  unfold State.flushBeam
  try dsimp only
  repeat' first
    | with_reducible apply Effect.refl
    | with_reducible assumption
    | ((with_reducible apply Effect.after (State.sendBeam_effect ..)); exact rfl)

theorem State.flushBeams_effect (s : State) :
    Effect 0x40040000002 s (State.flushBeams s) := by
  unfold State.flushBeams
  try dsimp only
  repeat' first
    | with_reducible apply Effect.refl
    | with_reducible assumption
    | ((with_reducible apply Effect.each) <;> [skip; (intro t x ht)])
    | ((with_reducible apply Effect.after (State.flushBeam_effect ..)); exact rfl)

theorem State.queueBeam_effect (s : State) (l : ℕ) (is : List BeamItem) :
    Effect 0x40000000 s (State.queueBeam s l is) := by
  unfold State.queueBeam
  try dsimp only
  repeat' first
    | with_reducible apply Effect.refl
    | with_reducible assumption
    | ((with_reducible apply Effect.after (State.updBeam_effect ..)); exact rfl)

end Sys2Proof.Machine
end

