-- ==== Sys2Proof/Laws/EffBuffer.lean ====
section
/-! SUPPORT. What each operation of Machine/Buffer.lean may do: the parts it may write, and that its result follows
what it was given (Laws/Effect.lean). -/

namespace Sys2Proof.Machine

theorem State.qdrop_effect (s : State) (p : ℕ) (c : ℕ) :
    Effect 0x200000000 s (State.qdrop s p c) := by
  unfold State.qdrop
  try dsimp only
  repeat' first
    | with_reducible apply Effect.refl
    | with_reducible assumption
    | ((with_reducible apply Effect.after (State.updSwc_effect ..)); exact rfl)

theorem State.store_effect (s : State) (f : Stored) :
    Effect 0x200000000 s ((State.store s f).1) := by
  unfold State.store
  try dsimp only
  repeat' first
    | with_reducible apply Effect.refl
    | with_reducible assumption
    | ((with_reducible apply Effect.after (State.updSwc_effect ..)); exact rfl)

theorem State.store_effect_eq {s : State} {f : Stored} {v_ : ℕ} {t_ : State}
    (he : State.store s f = (t_, v_)) : Effect 0x200000000 s t_ := by
  have h := State.store_effect s f
  rw [he] at h
  exact h

theorem State.sweep_effect (s : State) :
    Effect 0x200000000 s (State.sweep s) := by
  unfold State.sweep
  try dsimp only
  repeat' first
    | with_reducible apply Effect.refl
    | with_reducible assumption
    | ((with_reducible apply Effect.after (State.updSwc_effect ..)); exact rfl)

theorem State.push_effect (s : State) (p : ℕ) (c : ℕ) (e : QEntry) :
    Effect 0x200000000 s (State.push s p c e) := by
  unfold State.push
  try dsimp only
  repeat' first
    | with_reducible apply Effect.refl
    | with_reducible assumption
    | ((with_reducible apply Effect.after (State.updSwc_effect ..)); exact rfl)

theorem State.dropStored_effect (s : State) (out : Stored → Bool) :
    Effect 0x200000000 s (State.dropStored s out) := by
  unfold State.dropStored
  try dsimp only
  repeat' first
    | with_reducible apply Effect.refl
    | with_reducible assumption
    | ((with_reducible apply Effect.ite) <;> intro _)
    | ((with_reducible apply Effect.after (State.sweep_effect ..)); exact rfl)
    | ((with_reducible apply Effect.after (State.updSwc_effect ..)); exact rfl)

theorem State.dropCommands_effect (s : State) :
    Effect 0x200000000 s (State.dropCommands s) := by
  unfold State.dropCommands
  try dsimp only
  repeat' first
    | with_reducible apply Effect.refl
    | with_reducible assumption
    | ((with_reducible apply Effect.after (State.dropStored_effect ..)); exact rfl)

theorem State.admitBest_effect (s : State) (c : ℕ) (fr : EthFrame) (e : QEntry) (ps : List ℕ) (n : ℕ) :
    Effect 0x200000000 s ((State.admitBest s c fr e ps n).1) := by
  induction ps generalizing s n with
  | nil => exact Effect.refl _ _
  | cons p ps ih =>
    unfold State.admitBest
    dsimp only
    split
    · exact Effect.trans (Effect.each (Effect.refl _ _) fun t x ht => ht.go (State.push_effect ..) rfl) (ih _ _)
    · split
      · exact Effect.trans (Effect.each (Effect.refl _ _) fun t x ht => ht.go (State.push_effect ..) rfl) (ih _ _)
      · exact Effect.trans ((State.qdrop_effect ..).mono rfl) (ih _ _)

theorem State.admitBest_effect_eq {s : State} {c : ℕ} {fr : EthFrame} {e : QEntry} {ps : List ℕ} {n : ℕ} {v_ : ℕ}
    {t_ : State} (he : State.admitBest s c fr e ps n = (t_, v_)) : Effect 0x200000000 s t_ := by
  have h := State.admitBest_effect s c fr e ps n
  rw [he] at h
  exact h

theorem State.admitLossless_effect (s : State) (c : ℕ) (e : QEntry) (ps : List ℕ) :
    Effect 0x200000000 s (State.admitLossless s c e ps) := by
  unfold State.admitLossless
  try dsimp only
  repeat' first
    | with_reducible apply Effect.refl
    | with_reducible assumption
    | ((with_reducible apply Effect.each) <;> [skip; (intro t x ht)])
    | ((with_reducible apply Effect.after (State.push_effect ..)); exact rfl)

theorem State.lossless_effect (s : State) (p : ℕ) (c : ℕ) (e : QEntry) (ps : List ℕ) (f : Fate) :
    Effect 0x200000000 s ((State.lossless s p c e ps f).1) := by
  unfold State.lossless
  try dsimp only
  repeat' first
    | with_reducible apply Effect.refl
    | with_reducible assumption
    | ((with_reducible apply Effect.after (State.admitLossless_effect ..)); exact rfl)
    | ((with_reducible apply Effect.after (State.updSwc_effect ..)); exact rfl)
    | split

theorem State.lossless_effect_eq {s : State} {p : ℕ} {c : ℕ} {e : QEntry} {ps : List ℕ} {f : Fate} {v_ : Fate} {t_ : State}
    (he : State.lossless s p c e ps f = (t_, v_)) : Effect 0x200000000 s t_ := by
  have h := State.lossless_effect s p c e ps f
  rw [he] at h
  exact h

theorem State.admitCopies_effect (s : State) (p : ℕ) (c : ℕ) (fr : EthFrame) (command : Bool) (ps : List ℕ) (f : Fate) :
    Effect 0x200000000 s ((State.admitCopies s p c fr command ps f).1) := by
  unfold State.admitCopies
  try dsimp only
  repeat' first
    | with_reducible apply Effect.refl
    | with_reducible assumption
    | ((with_reducible apply Effect.each) <;> [skip; (intro t x ht)])
    | ((with_reducible apply Effect.after (State.qdrop_effect ..)); exact rfl)
    | ((with_reducible apply Effect.after (State.store_effect ..)); exact rfl)
    | ((with_reducible apply Effect.after (State.store_effect_eq ‹_›)); exact rfl)
    | ((with_reducible apply Effect.after (State.admitBest_effect ..)); exact rfl)
    | ((with_reducible apply Effect.after (State.admitBest_effect_eq ‹_›)); exact rfl)
    | ((with_reducible apply Effect.after (State.lossless_effect ..)); exact rfl)
    | ((with_reducible apply Effect.after (State.lossless_effect_eq ‹_›)); exact rfl)
    | ((with_reducible apply Effect.after (State.sweep_effect ..)); exact rfl)
    | split

theorem State.admitCopies_effect_eq {s : State} {p : ℕ} {c : ℕ} {fr : EthFrame} {command : Bool} {ps : List ℕ} {f : Fate} {v_ : Fate} {t_ : State}
    (he : State.admitCopies s p c fr command ps f = (t_, v_)) : Effect 0x200000000 s t_ := by
  have h := State.admitCopies_effect s p c fr command ps f
  rw [he] at h
  exact h

theorem State.flushPort_effect (s : State) (p : ℕ) :
    Effect 0x200000000 s (State.flushPort s p) := by
  unfold State.flushPort
  try dsimp only
  repeat' first
    | with_reducible apply Effect.refl
    | with_reducible assumption
    | ((with_reducible apply Effect.each) <;> [skip; (intro t x ht)])
    | ((with_reducible apply Effect.after (State.updSwc_effect ..)); exact rfl)
    | ((with_reducible apply Effect.after (State.sweep_effect ..)); exact rfl)

theorem State.dropLens_effect (s : State) (l : ℕ) :
    Effect 0x200000000 s (State.dropLens s l) := by
  unfold State.dropLens
  try dsimp only
  repeat' first
    | with_reducible apply Effect.refl
    | with_reducible assumption
    | ((with_reducible apply Effect.after (State.sweep_effect ..)); exact rfl)
    | ((with_reducible apply Effect.after (State.updSwc_effect ..)); exact rfl)

end Sys2Proof.Machine
end

