-- ==== Sys2Proof/Laws/EffObsOps.lean ====
section
/-! SUPPORT. What each operation of Machine/ObsOps.lean may do: the parts it may write, and that its result follows
what it was given (Laws/Effect.lean). -/

namespace Sys2Proof.Machine

theorem State.useKey_effect (s : State) (slot : ℕ) (alg : ℕ) (owners : List ℕ) (good : Bool) :
    Effect 0x8000000000 s ((State.useKey s slot alg owners good).2) := by
  unfold State.useKey
  try dsimp only
  repeat' first
    | with_reducible apply Effect.refl
    | with_reducible assumption
    | ((with_reducible apply Effect.after (State.updObs_effect ..)); exact rfl)
    | split

theorem State.useKey_effect_eq {s : State} {slot : ℕ} {alg : ℕ} {owners : List ℕ} {good : Bool} {v_ : Bool} {t_ : State}
    (he : State.useKey s slot alg owners good = (v_, t_)) : Effect 0x8000000000 s t_ := by
  have h := State.useKey_effect s slot alg owners good
  rw [he] at h
  exact h

end Sys2Proof.Machine
end

