-- ==== Sys2Proof/Laws/EffHostOps.lean ====
section
/-! SUPPORT. What each operation of Machine/HostOps.lean may do: the parts it may write, and that its result follows
what it was given (Laws/Effect.lean). -/

namespace Sys2Proof.Machine

theorem State.payDesc_effect (s : State) (i : ℕ) :
    Effect 0x1000000000 s (State.payDesc s i) := by
  unfold State.payDesc
  try dsimp only
  repeat' first
    | with_reducible apply Effect.refl
    | with_reducible assumption
    | ((with_reducible apply Effect.ite) <;> intro _)
    | ((with_reducible apply Effect.after (State.updSlice_effect ..)); exact rfl)

theorem State.payBytes_effect (s : State) (i : ℕ) (n : ℕ) :
    Effect 0x1000000000 s (State.payBytes s i n) := by
  unfold State.payBytes
  try dsimp only
  repeat' first
    | with_reducible apply Effect.refl
    | with_reducible assumption
    | ((with_reducible apply Effect.ite) <;> intro _)
    | ((with_reducible apply Effect.after (State.updSlice_effect ..)); exact rfl)

theorem State.hostEmit_effect (s : State) (i : ℕ) (e : Emission) :
    Effect 0x41000000000 s (State.hostEmit s i e) := by
  unfold State.hostEmit
  try dsimp only
  repeat' first
    | with_reducible apply Effect.refl
    | with_reducible assumption
    | ((with_reducible apply Effect.after (State.emit_effect ..)); exact rfl)
    | ((with_reducible apply Effect.after (State.updHostPort_effect ..)); exact rfl)
    | split

theorem State.dropHost_effect (s : State) (i : ℕ) :
    Effect 0x1000000000 s (State.dropHost s i) := by
  unfold State.dropHost
  try dsimp only
  repeat' first
    | with_reducible apply Effect.refl
    | with_reducible assumption
    | ((with_reducible apply Effect.after (State.updHif_effect ..)); exact rfl)

theorem State.dirtyPage_effect (s : State) (i : ℕ) (p : ℕ) :
    Effect 0x45000000002 s (State.dirtyPage s i p) := by
  unfold State.dirtyPage
  try dsimp only
  repeat' first
    | with_reducible apply Effect.refl
    | with_reducible assumption
    | ((with_reducible apply Effect.ite) <;> intro _)
    | ((with_reducible apply Effect.after (State.updSlice_effect ..)); exact rfl)
    | ((with_reducible apply Effect.after (State.free_effect ..)); exact rfl)
    | ((with_reducible apply Effect.after (State.free_effect_eq ‹_›)); exact rfl)
    | ((with_reducible apply Effect.after (State.event_effect ..)); exact rfl)
    | ((with_reducible apply Effect.after (State.hostEmit_effect ..)); exact rfl)
    | split

theorem State.hostWrite_effect (s : State) (i : ℕ) (w : HostWrite) :
    Effect 0x45000000002 s (State.hostWrite s i w) := by
  unfold State.hostWrite
  try dsimp only
  repeat' first
    | with_reducible apply Effect.refl
    | with_reducible assumption
    | ((with_reducible apply Effect.ite) <;> intro _)
    | ((with_reducible apply Effect.each) <;> [skip; (intro t x ht)])
    | ((with_reducible apply Effect.after (State.dirtyPage_effect ..)); exact rfl)
    | ((with_reducible apply Effect.after (State.hostEmit_effect ..)); exact rfl)

theorem State.updSq_effect (s : State) (i : ℕ) (r : ℕ) (f : SqSt → SqSt) :
    Effect 0x1000000000 s (State.updSq s i r f) := by
  unfold State.updSq
  try dsimp only
  repeat' first
    | with_reducible apply Effect.refl
    | with_reducible assumption
    | ((with_reducible apply Effect.after (State.updSlice_effect ..)); exact rfl)

theorem State.updCq_effect (s : State) (i : ℕ) (c : ℕ) (f : CqSt → CqSt) :
    Effect 0x1000000000 s (State.updCq s i c f) := by
  unfold State.updCq
  try dsimp only
  repeat' first
    | with_reducible apply Effect.refl
    | with_reducible assumption
    | ((with_reducible apply Effect.after (State.updSlice_effect ..)); exact rfl)

theorem State.vecSend_effect (s : State) (h : ℕ) (k : ℕ) :
    Effect 0x41000000000 s (State.vecSend s h k) := by
  unfold State.vecSend
  try dsimp only
  repeat' first
    | with_reducible apply Effect.refl
    | with_reducible assumption
    | ((with_reducible apply Effect.after (State.hostEmit_effect ..)); exact rfl)

theorem State.msix_effect (s : State) (i : ℕ) (v : ℕ) :
    Effect 0x41000000000 s (State.msix s i v) := by
  unfold State.msix
  try dsimp only
  repeat' first
    | with_reducible apply Effect.refl
    | with_reducible assumption
    | ((with_reducible apply Effect.ite) <;> intro _)
    | ((with_reducible apply Effect.after (State.updHif_effect ..)); exact rfl)
    | ((with_reducible apply Effect.after (State.vecSend_effect ..)); exact rfl)

theorem State.setMask_effect (s : State) (h : ℕ) (k : ℕ) (m : Bool) :
    Effect 0x41000000000 s (State.setMask s h k m) := by
  unfold State.setMask
  try dsimp only
  repeat' first
    | with_reducible apply Effect.refl
    | with_reducible assumption
    | ((with_reducible apply Effect.ite) <;> intro _)
    | ((with_reducible apply Effect.after (State.updHif_effect ..)); exact rfl)
    | ((with_reducible apply Effect.after (State.vecSend_effect ..)); exact rfl)

theorem State.stateIrq_effect (s : State) (i : ℕ) :
    Effect 0x41000000000 s (State.stateIrq s i) := by
  unfold State.stateIrq
  try dsimp only
  repeat' first
    | with_reducible apply Effect.refl
    | with_reducible assumption
    | ((with_reducible apply Effect.after (State.msix_effect ..)); exact rfl)

theorem State.ringMsg_effect (s : State) (i : ℕ) (c : ℕ) (now_ : Bool) :
    Effect 0x41000000000 s (State.ringMsg s i c now_) := by
  unfold State.ringMsg
  try dsimp only
  repeat' first
    | with_reducible apply Effect.refl
    | with_reducible assumption
    | ((with_reducible apply Effect.ite) <;> intro _)
    | ((with_reducible apply Effect.after (State.msix_effect ..)); exact rfl)
    | ((with_reducible apply Effect.after (State.updCq_effect ..)); exact rfl)

theorem State.setPoll_effect (s : State) (i : ℕ) (us : ℕ) :
    Effect 0x45000000002 s (State.setPoll s i us) := by
  unfold State.setPoll
  try dsimp only
  repeat' first
    | with_reducible apply Effect.refl
    | with_reducible assumption
    | ((with_reducible apply Effect.ite) <;> intro _)
    | ((with_reducible apply Effect.after (State.updSlice_effect ..)); exact rfl)
    | ((with_reducible apply Effect.after (State.hostWrite_effect ..)); exact rfl)

theorem State.pollAtOnce_effect (s : State) (i : ℕ) :
    Effect 0x1000000000 s (State.pollAtOnce s i) := by
  unfold State.pollAtOnce
  try dsimp only
  repeat' first
    | with_reducible apply Effect.refl
    | with_reducible assumption
    | ((with_reducible apply Effect.after (State.updSlice_effect ..)); exact rfl)

theorem State.syncRing_effect (s : State) (i : ℕ) (r : ℕ) :
    Effect 0x45000000002 s (State.syncRing s i r) := by
  unfold State.syncRing
  try dsimp only
  repeat' first
    | with_reducible apply Effect.refl
    | with_reducible assumption
    | ((with_reducible apply Effect.ite) <;> intro _)
    | ((with_reducible apply Effect.after (State.hostWrite_effect ..)); exact rfl)
    | ((with_reducible apply Effect.after (State.updSq_effect ..)); exact rfl)
    | ((with_reducible apply Effect.after (State.stateIrq_effect ..)); exact rfl)
    | ((with_reducible apply Effect.after (State.setPoll_effect ..)); exact rfl)
    | ((with_reducible apply Effect.after (State.pollAtOnce_effect ..)); exact rfl)

theorem State.syncCq_effect (s : State) (i : ℕ) (c : ℕ) :
    Effect 0x45000000002 s (State.syncCq s i c) := by
  unfold State.syncCq
  try dsimp only
  repeat' first
    | with_reducible apply Effect.refl
    | with_reducible assumption
    | ((with_reducible apply Effect.ite) <;> intro _)
    | ((with_reducible apply Effect.after (State.stateIrq_effect ..)); exact rfl)
    | ((with_reducible apply Effect.after (State.hostWrite_effect ..)); exact rfl)
    | ((with_reducible apply Effect.after (State.updCq_effect ..)); exact rfl)

theorem State.syncSlice_effect (s : State) (i : ℕ) :
    Effect 0x45000000002 s (State.syncSlice s i) := by
  unfold State.syncSlice
  try dsimp only
  repeat' first
    | with_reducible apply Effect.refl
    | with_reducible assumption
    | ((with_reducible apply Effect.ite) <;> intro _)
    | ((with_reducible apply Effect.each) <;> [skip; (intro t x ht)])
    | ((with_reducible apply Effect.after (State.syncCq_effect ..)); exact rfl)
    | ((with_reducible apply Effect.after (State.syncRing_effect ..)); exact rfl)
    | ((with_reducible apply Effect.after (State.updSlice_effect ..)); exact rfl)

theorem State.syncRings_effect (s : State) :
    Effect 0x45000000002 s (State.syncRings s) := by
  unfold State.syncRings
  try dsimp only
  repeat' first
    | with_reducible apply Effect.refl
    | with_reducible assumption
    | ((with_reducible apply Effect.each) <;> [skip; (intro t x ht)])
    | ((with_reducible apply Effect.after (State.syncSlice_effect ..)); exact rfl)

theorem State.syncFree_effect (s : State) (was : ℕ) (i : ℕ) :
    Effect 0x45000000002 s (State.syncFree s was i) := by
  unfold State.syncFree
  try dsimp only
  repeat' first
    | with_reducible apply Effect.refl
    | with_reducible assumption
    | ((with_reducible apply Effect.ite) <;> intro _)
    | ((with_reducible apply Effect.after (State.syncSlice_effect ..)); exact rfl)
    | ((with_reducible apply Effect.after (State.syncRings_effect ..)); exact rfl)

theorem State.putRecord_effect (s : State) (i : ℕ) (c : ℕ) (ts : ℕ) (source : ℕ) (port : ℕ) (bytes : List Byte) :
    Effect 0x45000000002 s ((State.putRecord s i c ts source port bytes).1) := by
  unfold State.putRecord
  try dsimp only
  repeat' first
    | with_reducible apply Effect.refl
    | with_reducible assumption
    | ((with_reducible apply Effect.ite) <;> intro _)
    | ((with_reducible apply Effect.after (State.updSlice_effect ..)); exact rfl)
    | ((with_reducible apply Effect.after (State.payBytes_effect ..)); exact rfl)
    | ((with_reducible apply Effect.after (State.hostWrite_effect ..)); exact rfl)
    | ((with_reducible apply Effect.after (State.updCq_effect ..)); exact rfl)
    | ((with_reducible apply Effect.after (State.syncCq_effect ..)); exact rfl)
    | ((with_reducible apply Effect.after (State.ringMsg_effect ..)); exact rfl)
    | split

theorem State.putRecord_effect_eq {s : State} {i : ℕ} {c : ℕ} {ts : ℕ} {source : ℕ} {port : ℕ} {bytes : List Byte} {v_ : Bool} {t_ : State}
    (he : State.putRecord s i c ts source port bytes = (t_, v_)) : Effect 0x45000000002 s t_ := by
  have h := State.putRecord_effect s i c ts source port bytes
  rw [he] at h
  exact h

theorem State.recordLost_effect (s : State) (source : ℕ) (port : ℕ) :
    Effect 0xA00000000 s (State.recordLost s source port) := by
  unfold State.recordLost
  try dsimp only
  repeat' first
    | with_reducible apply Effect.refl
    | with_reducible assumption
    | ((with_reducible apply Effect.after (State.updFbc_effect ..)); exact rfl)
    | ((with_reducible apply Effect.after (State.updSwc_effect ..)); exact rfl)
    | split

theorem State.lateRecords_effect (s : State) (i : ℕ) :
    Effect 0x45A00000002 s (State.lateRecords s i) := by
  unfold State.lateRecords
  try dsimp only
  repeat' first
    | with_reducible apply Effect.refl
    | with_reducible assumption
    | ((with_reducible apply Effect.ite) <;> intro _)
    | ((with_reducible apply Effect.each) <;> [skip; (intro t x ht)])
    | ((with_reducible apply Effect.after (State.updSlice_effect ..)); exact rfl)
    | ((with_reducible apply Effect.after (State.putRecord_effect ..)); exact rfl)
    | ((with_reducible apply Effect.after (State.putRecord_effect_eq ‹_›)); exact rfl)
    | ((with_reducible apply Effect.after (State.recordLost_effect ..)); exact rfl)

theorem State.acceptSealed_effect (s : State) :
    Effect 0x45000000002 s (State.acceptSealed s) := by
  unfold State.acceptSealed
  try dsimp only
  repeat' first
    | with_reducible apply Effect.refl
    | with_reducible assumption
    | ((with_reducible apply Effect.ite) <;> intro _)
    | ((with_reducible apply Effect.each) <;> [skip; (intro t x ht)])
    | ((with_reducible apply Effect.after (State.updHif_effect ..)); exact rfl)
    | ((with_reducible apply Effect.after (State.hostWrite_effect ..)); exact rfl)
    | ((with_reducible apply Effect.after (State.updSq_effect ..)); exact rfl)

theorem State.expire_effect (s : State) (j : ℕ) :
    Effect 0x3000000000 s (State.expire s j) := by
  unfold State.expire
  try dsimp only
  repeat' first
    | with_reducible apply Effect.refl
    | with_reducible assumption
    | ((with_reducible apply Effect.after (State.updHif_effect ..)); exact rfl)
    | ((with_reducible apply Effect.after (State.complete_effect ..)); exact rfl)

theorem State.turns_effect {s t : State} {i : ℕ} {d : Desc} (h : s.turns i d = some t) :
    Effect 0x1000000000 s t := by
  unfold State.turns at h
  dsimp only at h
  split at h
  · cases h
    exact Effect.refl _ _
  · split at h
    · cases h
    · split at h
      · cases h
        exact State.updHif_effect ..
      · obtain ⟨x, _, hx⟩ := Option.map_eq_some_iff.1 h
        cases hx
        exact State.updHif_effect ..

theorem State.turnsTaken_effect (s : State) (i : ℕ) (d : Desc) : Effect 0x1000000000 s ((s.turns i d).getD s) := by
  cases h : s.turns i d with
  | none => exact Effect.refl _ _
  | some t => exact State.turns_effect h

theorem State.runDesc_effect {m : Nat} {s0 : State} (s : State) (i : ℕ) (r : ℕ) (f : DescForm) (body : State → ℕ → Desc → State) (h0 : Effect m s0 s) (hbody : ∀ (t : State) (v1 : ℕ) (v2 : Desc), Effect m s0 t → Effect m s0 (body t v1 v2))
    (hm : 0x47000000002 &&& m = 0x47000000002) : Effect m s0 (State.runDesc s i r f body) := by
  unfold State.runDesc
  try dsimp only
  repeat' first
    | with_reducible apply Effect.refl
    | with_reducible assumption
    | ((with_reducible apply Effect.ite) <;> intro _)
    | with_reducible refine hbody _ _ _ ?_
    | ((with_reducible apply Effect.after (State.complete_effect ..)); exact Effect.land hm rfl)
    | ((with_reducible apply Effect.after (State.expire_effect ..)); exact Effect.land hm rfl)
    | ((with_reducible apply Effect.after (State.start_effect ..)); exact Effect.land hm rfl)
    | ((with_reducible apply Effect.after (State.payBytes_effect ..)); exact Effect.land hm rfl)
    | ((with_reducible apply Effect.after (State.syncSlice_effect ..)); exact Effect.land hm rfl)
    | ((with_reducible apply Effect.after (State.turnsTaken_effect ..)); exact Effect.land hm rfl)
    | split

theorem State.mirrorRing_effect (s : State) (i : ℕ) :
    Effect 0x2000000000 s (State.mirrorRing s i) := by
  unfold State.mirrorRing
  try dsimp only
  repeat' first
    | with_reducible apply Effect.refl
    | with_reducible assumption
    | ((with_reducible apply Effect.after (State.mirror_effect ..)); exact rfl)

theorem State.forgetRing_effect (s : State) (i : ℕ) (r : ℕ) :
    Effect 0x1000000000 s (State.forgetRing s i r) := by
  unfold State.forgetRing
  try dsimp only
  repeat' first
    | with_reducible apply Effect.refl
    | with_reducible assumption
    | ((with_reducible apply Effect.after (State.updHif_effect ..)); exact rfl)

theorem State.recover_effect (s : State) :
    Effect 0x1000000000 s (State.recover s) := by
  unfold State.recover
  try dsimp only
  repeat' first
    | with_reducible apply Effect.refl
    | with_reducible assumption
    | ((with_reducible apply Effect.after (State.updHif_effect ..)); exact rfl)

theorem State.freeEntry_effect (s : State) (j : ℕ) :
    Effect 0x3000000000 s (State.freeEntry s j) := by
  unfold State.freeEntry
  try dsimp only
  repeat' first
    | with_reducible apply Effect.refl
    | with_reducible assumption
    | ((with_reducible apply Effect.after (State.updHif_effect ..)); exact rfl)
    | ((with_reducible apply Effect.each) <;> [skip; (intro t x ht)])
    | ((with_reducible apply Effect.after (State.mirrorRing_effect ..)); exact rfl)
    | ((with_reducible apply Effect.after (State.mirror_effect ..)); exact rfl)

theorem State.writeCompletion_effect (s : State) (e : JEntry) :
    Effect 0x47000000002 s (State.writeCompletion s e) := by
  unfold State.writeCompletion
  try dsimp only
  repeat' first
    | with_reducible apply Effect.refl
    | with_reducible assumption
    | ((with_reducible apply Effect.after (State.hostWrite_effect ..)); exact rfl)
    | ((with_reducible apply Effect.after (State.updCq_effect ..)); exact rfl)
    | ((with_reducible apply Effect.after (State.ringMsg_effect ..)); exact rfl)
    | ((with_reducible apply Effect.after (State.syncFree_effect ..)); exact rfl)
    | ((with_reducible apply Effect.after (State.freeEntry_effect ..)); exact rfl)

theorem State.hostFail_effect (s : State) (j : ℕ) :
    Effect 0x3000000000 s (State.hostFail s j) := by
  unfold State.hostFail
  try dsimp only
  repeat' first
    | with_reducible apply Effect.refl
    | with_reducible assumption
    | ((with_reducible apply Effect.after (State.complete_effect ..)); exact rfl)
    | ((with_reducible apply Effect.after (State.updHostPort_effect ..)); exact rfl)

theorem State.flushEnd_effect (s : State) (j : ℕ) (k : ℕ) (clear : Bool) :
    Effect 0x3000000000 s (State.flushEnd s j k clear) := by
  unfold State.flushEnd
  try dsimp only
  repeat' first
    | with_reducible apply Effect.refl
    | with_reducible assumption
    | ((with_reducible apply Effect.ite) <;> intro _)
    | ((with_reducible apply Effect.after (State.updSlice_effect ..)); exact rfl)
    | ((with_reducible apply Effect.after (State.complete_effect ..)); exact rfl)

theorem State.flushLog_effect (s : State) (j : ℕ) (k : ℕ) (clear : Bool) :
    Effect 0x3000000000 s (State.flushLog s j k clear) := by
  unfold State.flushLog
  try dsimp only
  repeat' first
    | with_reducible apply Effect.refl
    | with_reducible assumption
    | ((with_reducible apply Effect.ite) <;> intro _)
    | ((with_reducible apply Effect.after (State.updHif_effect ..)); exact rfl)
    | ((with_reducible apply Effect.after (State.flushEnd_effect ..)); exact rfl)

theorem State.flushHeld_effect (s : State) :
    Effect 0x3000000000 s (State.flushHeld s) := by
  unfold State.flushHeld
  try dsimp only
  repeat' first
    | with_reducible apply Effect.refl
    | with_reducible assumption
    | ((with_reducible apply Effect.ite) <;> intro _)
    | ((with_reducible apply Effect.each) <;> [skip; (intro t x ht)])
    | ((with_reducible apply Effect.after (State.updHif_effect ..)); exact rfl)
    | ((with_reducible apply Effect.after (State.flushEnd_effect ..)); exact rfl)

theorem State.svcEnd_effect (s : State) (c : Code) (data : ℕ) :
    Effect 0x47000000012 s (State.svcEnd s c data) := by
  unfold State.svcEnd
  try dsimp only
  repeat' first
    | with_reducible apply Effect.refl
    | with_reducible assumption
    | ((with_reducible apply Effect.ite) <;> intro _)
    | ((with_reducible apply Effect.after (State.updSvc_effect ..)); exact rfl)
    | ((with_reducible apply Effect.after (State.complete_effect ..)); exact rfl)
    | ((with_reducible apply Effect.after (State.syncSlice_effect ..)); exact rfl)
    | split

end Sys2Proof.Machine
end

