-- ==== Sys2Proof/Laws/EffSwitchOps.lean ====
section
/-! SUPPORT. What each operation of Machine/SwitchOps.lean may do: the parts it may write, and that its result follows
what it was given (Laws/Effect.lean). -/

namespace Sys2Proof.Machine

theorem State.learnFail_effect (s : State) :
    Effect 0x4200000000 s (State.learnFail s) := by
  unfold State.learnFail
  try dsimp only
  repeat' first
    | with_reducible apply Effect.refl
    | with_reducible assumption
    | ((with_reducible apply Effect.ite) <;> intro _)
    | ((with_reducible apply Effect.after (State.updSwc_effect ..)); exact rfl)
    | ((with_reducible apply Effect.after (State.event_effect ..)); exact rfl)

theorem State.learn_effect (s : State) (p : ℕ) (a : BitVec 48) (v : ℕ) :
    Effect 0x4200000000 s (State.learn s p a v) := by
  unfold State.learn
  try dsimp only
  repeat' first
    | with_reducible apply Effect.refl
    | with_reducible assumption
    | ((with_reducible apply Effect.ite) <;> intro _)
    | ((with_reducible apply Effect.after (State.updSwc_effect ..)); exact rfl)
    | ((with_reducible apply Effect.after (State.learnFail_effect ..)); exact rfl)
    | split

theorem State.police_effect (s : State) (i : ℕ) (p : ℕ) (c : CamEntry) :
    Effect 0x4200000000 s ((State.police s i p c).1) := by
  unfold State.police
  try dsimp only
  repeat' first
    | with_reducible apply Effect.refl
    | with_reducible assumption
    | ((with_reducible apply Effect.ite) <;> intro _)
    | ((with_reducible apply Effect.after (State.updSwc_effect ..)); exact rfl)
    | ((with_reducible apply Effect.after (State.event_effect ..)); exact rfl)
    | split

theorem State.police_effect_eq {s : State} {i : ℕ} {p : ℕ} {c : CamEntry} {v_ : Bool} {t_ : State}
    (he : State.police s i p c = (t_, v_)) : Effect 0x4200000000 s t_ := by
  have h := State.police_effect s i p c
  rw [he] at h
  exact h

theorem State.glintSee_effect (s : State) (p : ℕ) (dir : ℕ) (fr : EthFrame) (f : Fate) :
    Effect 0x45200000002 s (State.glintSee s p dir fr f) := by
  unfold State.glintSee
  try dsimp only
  repeat' first
    | with_reducible apply Effect.refl
    | with_reducible assumption
    | ((with_reducible apply Effect.ite) <;> intro _)
    | ((with_reducible apply Effect.after (State.updSwc_effect ..)); exact rfl)
    | ((with_reducible apply Effect.after (State.emit_effect ..)); exact rfl)
    | ((with_reducible apply Effect.after (State.putRecord_effect ..)); exact rfl)
    | ((with_reducible apply Effect.after (State.putRecord_effect_eq ‹_›)); exact rfl)
    | split

theorem State.sendBuilt_effect (s : State) (l : ℕ) (c : ℕ) (ports : BitVec 24) (command : Bool) (fr : EthFrame) :
    Effect 0x45200000002 s (State.sendBuilt s l c ports command fr) := by
  unfold State.sendBuilt
  try dsimp only
  repeat' first
    | with_reducible apply Effect.refl
    | with_reducible assumption
    | ((with_reducible apply Effect.after (State.admitCopies_effect ..)); exact rfl)
    | ((with_reducible apply Effect.after (State.admitCopies_effect_eq ‹_›)); exact rfl)
    | ((with_reducible apply Effect.after (State.glintSee_effect ..)); exact rfl)

theorem State.sendLens_effect (s : State) (l : ℕ) (dl : ℕ) (df : ℕ) (q : ℕ) (slot : List Byte) :
    Effect 0x45200000002 s (State.sendLens s l dl df q slot) := by
  unfold State.sendLens
  try dsimp only
  repeat' first
    | with_reducible apply Effect.refl
    | with_reducible assumption
    | ((with_reducible apply Effect.after (State.store_effect ..)); exact rfl)
    | ((with_reducible apply Effect.after (State.store_effect_eq ‹_›)); exact rfl)
    | ((with_reducible apply Effect.after (State.glintSee_effect ..)); exact rfl)
    | ((with_reducible apply Effect.after (State.push_effect ..)); exact rfl)

theorem State.forwardAs_effect (s : State) (p : ℕ) (c : ℕ) (fr : EthFrame) :
    Effect 0x4200000000 s ((State.forwardAs s p c fr).1) := by
  unfold State.forwardAs
  try dsimp only
  repeat' first
    | with_reducible apply Effect.refl
    | with_reducible assumption
    | ((with_reducible apply Effect.ite) <;> intro _)
    | ((with_reducible apply Effect.after (State.learn_effect ..)); exact rfl)
    | ((with_reducible apply Effect.after (State.qdrop_effect ..)); exact rfl)
    | ((with_reducible apply Effect.after (State.police_effect ..)); exact rfl)
    | ((with_reducible apply Effect.after (State.police_effect_eq ‹_›)); exact rfl)
    | ((with_reducible apply Effect.after (State.updSwc_effect ..)); exact rfl)
    | ((with_reducible apply Effect.after (State.admitCopies_effect ..)); exact rfl)
    | ((with_reducible apply Effect.after (State.admitCopies_effect_eq ‹_›)); exact rfl)
    | split

theorem State.forwardAs_effect_eq {s : State} {p : ℕ} {c : ℕ} {fr : EthFrame} {v_ : Fate} {t_ : State}
    (he : State.forwardAs s p c fr = (t_, v_)) : Effect 0x4200000000 s t_ := by
  have h := State.forwardAs_effect s p c fr
  rw [he] at h
  exact h

theorem State.forward_effect (s : State) (p : ℕ) (host : Bool) (fr : EthFrame) :
    Effect 0x4200000000 s ((State.forward s p host fr).1) := by
  unfold State.forward
  try dsimp only
  repeat' first
    | with_reducible apply Effect.refl
    | with_reducible assumption
    | ((with_reducible apply Effect.after (State.forwardAs_effect ..)); exact rfl)

theorem State.forward_effect_eq {s : State} {p : ℕ} {host : Bool} {fr : EthFrame} {v_ : Fate} {t_ : State}
    (he : State.forward s p host fr = (t_, v_)) : Effect 0x4200000000 s t_ := by
  have h := State.forward_effect s p host fr
  rw [he] at h
  exact h

end Sys2Proof.Machine
end

