-- ==== Sys2Proof/Laws/EffLanes.lean ====
section
/-! SUPPORT. What each operation of Machine/Lanes.lean may do: the parts it may write, and that its result follows
what it was given (Laws/Effect.lean). -/

namespace Sys2Proof.Machine

theorem State.perEvent_effect (s : State) (type : ℕ) (sel : ℕ) (bit : ℕ) :
    Effect 0x4000000000 s (State.perEvent s type sel bit) := by
  unfold State.perEvent
  try dsimp only
  repeat' first
    | with_reducible apply Effect.refl
    | with_reducible assumption
    | ((with_reducible apply Effect.ite) <;> intro _)
    | ((with_reducible apply Effect.each) <;> [skip; (intro t x ht)])
    | ((with_reducible apply Effect.after (State.updGrp_effect ..)); exact rfl)

theorem State.loupeEvent_effect (s : State) (type : ℕ) (sel : ℕ) :
    Effect 0x4000000000 s (State.loupeEvent s type sel) := by
  unfold State.loupeEvent
  try dsimp only
  repeat' first
    | with_reducible apply Effect.refl
    | with_reducible assumption
    | split
    | ((with_reducible apply Effect.upd) <;> [skip; exact rfl; (intro p hp; cases p <;> first | exact rfl | exact absurd hp (by decide))])

theorem State.uncommand_effect (s : State) (a : ℕ) (k : ℕ) :
    Effect 0x10000000 s (State.uncommand s a k) := by
  unfold State.uncommand
  try dsimp only
  repeat' first
    | with_reducible apply Effect.refl
    | with_reducible assumption
    | ((with_reducible apply Effect.each) <;> [skip; (intro t x ht)])
    | ((with_reducible apply Effect.after (State.updSm_effect ..)); exact rfl)

theorem State.tripFrames_effect (s : State) (a : ℕ) :
    Effect 0x40050000002 s (State.tripFrames s a) := by
  unfold State.tripFrames
  try dsimp only
  repeat' first
    | with_reducible apply Effect.refl
    | with_reducible assumption
    | ((with_reducible apply Effect.ite) <;> intro _)
    | ((with_reducible apply Effect.after (State.flushBeams_effect ..)); exact rfl)
    | ((with_reducible apply Effect.each) <;> [skip; (intro t x ht)])
    | ((with_reducible apply Effect.after (State.uncommand_effect ..)); exact rfl)
    | ((with_reducible apply Effect.after (State.flushBeam_effect ..)); exact rfl)
    | ((with_reducible apply Effect.after (State.updBeam_effect ..)); exact rfl)
    | split
    | ((with_reducible apply Effect.upd) <;> [skip; exact rfl; (intro p hp; cases p <;> first | exact rfl | exact absurd hp (by decide))])

theorem State.endDeblock_effect (s : State) (j : ℕ) (st : Code) (failed : ℕ) :
    Effect 0x3008000000 s (State.endDeblock s j st failed) := by
  unfold State.endDeblock
  try dsimp only
  repeat' first
    | with_reducible apply Effect.refl
    | with_reducible assumption
    | ((with_reducible apply Effect.after (State.complete_effect ..)); exact rfl)
    | split
    | ((with_reducible apply Effect.upd) <;> [skip; exact rfl; (intro p hp; cases p <;> first | exact rfl | exact absurd hp (by decide))])

theorem State.tripArm_effect (s : State) (a : ℕ) (c : ArmCause) :
    Effect 0x43058000002 s (State.tripArm s a c) := by
  unfold State.tripArm
  try dsimp only
  repeat' first
    | with_reducible apply Effect.refl
    | with_reducible assumption
    | ((with_reducible apply Effect.after (State.tripFrames_effect ..)); exact rfl)
    | ((with_reducible apply Effect.after (State.updArm_effect ..)); exact rfl)
    | ((with_reducible apply Effect.after (State.endDeblock_effect ..)); exact rfl)
    | split

theorem State.armEdge_effect (s : State) (a : ℕ) :
    Effect 0x43058000002 s (State.armEdge s a) := by
  unfold State.armEdge
  try dsimp only
  repeat' first
    | with_reducible apply Effect.refl
    | with_reducible assumption
    | ((with_reducible apply Effect.after (State.tripArm_effect ..)); exact rfl)
    | ((with_reducible apply Effect.after (State.tripFrames_effect ..)); exact rfl)
    | ((with_reducible apply Effect.after (State.updArm_effect ..)); exact rfl)
    | split

theorem State.pwmOff_effect (s : State) (n : ℕ) :
    Effect 0x40080000000 s (State.pwmOff s n) := by
  unfold State.pwmOff
  try dsimp only
  repeat' first
    | with_reducible apply Effect.refl
    | with_reducible assumption
    | ((with_reducible apply Effect.after (State.emit_effect ..)); exact rfl)
    | ((with_reducible apply Effect.after (State.updPwm_effect ..)); exact rfl)

theorem State.pwmBlock_effect (s : State) (n : ℕ) :
    Effect 0x40080000000 s (State.pwmBlock s n) := by
  unfold State.pwmBlock
  try dsimp only
  repeat' first
    | with_reducible apply Effect.refl
    | with_reducible assumption
    | ((with_reducible apply Effect.after (State.pwmOff_effect ..)); exact rfl)
    | ((with_reducible apply Effect.after (State.updPwm_effect ..)); exact rfl)

theorem State.pwmEdge_effect (s : State) (n : ℕ) :
    Effect 0x40080000000 s (State.pwmEdge s n) := by
  unfold State.pwmEdge
  try dsimp only
  repeat' first
    | with_reducible apply Effect.refl
    | with_reducible assumption
    | ((with_reducible apply Effect.ite) <;> intro _)
    | ((with_reducible apply Effect.after (State.pwmBlock_effect ..)); exact rfl)
    | ((with_reducible apply Effect.after (State.updPwm_effect ..)); exact rfl)

theorem State.setTo_effect (s : State) (m : ℕ) (f : ToSt → ToSt) :
    Effect 0x40000400000 s (State.setTo s m f) := by
  unfold State.setTo
  try dsimp only
  repeat' first
    | with_reducible apply Effect.refl
    | with_reducible assumption
    | ((with_reducible apply Effect.ite) <;> intro _)
    | ((with_reducible apply Effect.after (State.updTo_effect ..)); exact rfl)
    | ((with_reducible apply Effect.after (State.emit_effect ..)); exact rfl)

theorem State.toEdge_effect (s : State) (m : ℕ) :
    Effect 0x40000400000 s (State.toEdge s m) := by
  unfold State.toEdge
  try dsimp only
  repeat' first
    | with_reducible apply Effect.refl
    | with_reducible assumption
    | ((with_reducible apply Effect.after (State.setTo_effect ..)); exact rfl)

theorem State.toOpen_effect (s : State) (m : ℕ) :
    Effect 0x40000400000 s (State.toOpen s m) := by
  unfold State.toOpen
  try dsimp only
  repeat' first
    | with_reducible apply Effect.refl
    | with_reducible assumption
    | ((with_reducible apply Effect.ite) <;> intro _)
    | ((with_reducible apply Effect.after (State.setTo_effect ..)); exact rfl)

theorem State.pubTag_effect (s : State) (key : ℕ) (alg : ℕ) (slice : ℕ) :
    Effect 0x8000000000 s ((State.pubTag s key alg slice).2) := by
  unfold State.pubTag
  try dsimp only
  repeat' first
    | with_reducible apply Effect.refl
    | with_reducible assumption
    | ((with_reducible apply Effect.after (State.useKey_effect ..)); exact rfl)
    | ((with_reducible apply Effect.after (State.useKey_effect_eq ‹_›)); exact rfl)
    | split

theorem State.pubTag_effect_eq {s : State} {key : ℕ} {alg : ℕ} {slice : ℕ} {v_ : Option (ℕ × ℕ)} {t_ : State}
    (he : State.pubTag s key alg slice = (v_, t_)) : Effect 0x8000000000 s t_ := by
  have h := State.pubTag_effect s key alg slice
  rw [he] at h
  exact h

theorem State.gpSend_effect (s : State) (g : ℕ) (st : ℕ) (sq : ℕ) (iv : ℕ) (d : List GooseVal) :
    Effect 0x4F200800002 s (State.gpSend s g st sq iv d) := by
  unfold State.gpSend
  try dsimp only
  repeat' first
    | with_reducible apply Effect.refl
    | with_reducible assumption
    | ((with_reducible apply Effect.ite) <;> intro _)
    | ((with_reducible apply Effect.after (State.updMlk_effect ..)); exact rfl)
    | ((with_reducible apply Effect.after (State.updGp_effect ..)); exact rfl)
    | ((with_reducible apply Effect.after (State.mirror_effect ..)); exact rfl)
    | ((with_reducible apply Effect.after (State.pubTag_effect ..)); exact rfl)
    | ((with_reducible apply Effect.after (State.pubTag_effect_eq ‹_›)); exact rfl)
    | ((with_reducible apply Effect.after (State.sendBuilt_effect ..)); exact rfl)

theorem State.gpChange_effect (s : State) (g : ℕ) :
    Effect 0x4F200800002 s (State.gpChange s g) := by
  unfold State.gpChange
  try dsimp only
  repeat' first
    | with_reducible apply Effect.refl
    | with_reducible assumption
    | ((with_reducible apply Effect.after (State.gpSend_effect ..)); exact rfl)

theorem State.noteMasks_effect (s : State) :
    Effect 0x88000000 s (State.noteMasks s) := by
  unfold State.noteMasks
  try dsimp only
  repeat' first
    | with_reducible apply Effect.refl
    | with_reducible assumption
    | ((with_reducible apply Effect.each) <;> [skip; (intro t x ht)])
    | ((with_reducible apply Effect.after (State.updArm_effect ..)); exact rfl)
    | ((with_reducible apply Effect.after (State.updPwm_effect ..)); exact rfl)

theorem State.lanesRise_effect (s : State) (rs : List ℕ) :
    Effect 0x4F2D8C00002 s (State.lanesRise s rs) := by
  unfold State.lanesRise
  try dsimp only
  repeat' first
    | with_reducible apply Effect.refl
    | with_reducible assumption
    | ((with_reducible apply Effect.each) <;> [skip; (intro t x ht)])
    | ((with_reducible apply Effect.after (State.armEdge_effect ..)); exact rfl)
    | ((with_reducible apply Effect.after (State.pwmEdge_effect ..)); exact rfl)
    | ((with_reducible apply Effect.after (State.toEdge_effect ..)); exact rfl)
    | ((with_reducible apply Effect.after (State.gpChange_effect ..)); exact rfl)
    | ((with_reducible apply Effect.after (State.loupeEvent_effect ..)); exact rfl)
    | ((with_reducible apply Effect.after (State.perEvent_effect ..)); exact rfl)

theorem State.drive_effect (s : State) (d : ℕ) (on : List ℕ) (off : List ℕ) :
    Effect 0x4F2D8C00402 s (State.drive s d on off) := by
  unfold State.drive
  try dsimp only
  repeat' first
    | with_reducible apply Effect.refl
    | with_reducible assumption
    | ((with_reducible apply Effect.after (State.noteMasks_effect ..)); exact rfl)
    | ((with_reducible apply Effect.after (State.lanesRise_effect ..)); exact rfl)
    | ((with_reducible apply Effect.each) <;> [skip; (intro t x ht)])
    | ((with_reducible apply Effect.after (State.toOpen_effect ..)); exact rfl)
    | split
    | ((with_reducible apply Effect.upd) <;> [skip; exact rfl; (intro p hp; cases p <;> first | exact rfl | exact absurd hp (by decide))])

theorem State.releaseAll_effect (s : State) (d : ℕ) :
    Effect 0x4F2D8C00402 s (State.releaseAll s d) := by
  unfold State.releaseAll
  try dsimp only
  repeat' first
    | with_reducible apply Effect.refl
    | with_reducible assumption
    | ((with_reducible apply Effect.after (State.drive_effect ..)); exact rfl)

end Sys2Proof.Machine
end

