-- ==== Sys2Proof/Laws/EffFbOps.lean ====
section
/-! SUPPORT. What each operation of Machine/FbOps.lean may do: the parts it may write, and that its result follows
what it was given (Laws/Effect.lean). -/

namespace Sys2Proof.Machine

theorem State.fbEnqueue_effect (s : State) (b : ℕ) (x : TxItem) :
    Effect 0x800000000 s (State.fbEnqueue s b x) := by
  unfold State.fbEnqueue
  try dsimp only
  repeat' first
    | with_reducible apply Effect.refl
    | with_reducible assumption
    | ((with_reducible apply Effect.after (State.updFbc_effect ..)); exact rfl)

theorem State.noteGseq_effect (s : State) (i : ℕ) (q : ℕ) :
    Effect 0x2000000000 s (State.noteGseq s i q) := by
  unfold State.noteGseq
  try dsimp only
  repeat' first
    | with_reducible apply Effect.refl
    | with_reducible assumption
    | ((with_reducible apply Effect.after (State.updMlk_effect ..)); exact rfl)
    | ((with_reducible apply Effect.after (State.mirror_effect ..)); exact rfl)

theorem State.fbBegin_effect (s : State) (b : ℕ) (x : TxItem) :
    Effect 0x2800002000 s (State.fbBegin s b x) := by
  unfold State.fbBegin
  try dsimp only
  repeat' first
    | with_reducible apply Effect.refl
    | with_reducible assumption
    | ((with_reducible apply Effect.ite) <;> intro _)
    | ((with_reducible apply Effect.after (State.noteGseq_effect ..)); exact rfl)
    | ((with_reducible apply Effect.after (State.updStn_effect ..)); exact rfl)
    | ((with_reducible apply Effect.after (State.updFbc_effect ..)); exact rfl)
    | split

theorem State.fbOffer_effect (s : State) (b : ℕ) :
    Effect 0x2800002000 s (State.fbOffer s b) := by
  unfold State.fbOffer
  try dsimp only
  repeat' first
    | with_reducible apply Effect.refl
    | with_reducible assumption
    | ((with_reducible apply Effect.ite) <;> intro _)
    | ((with_reducible apply Effect.after (State.fbBegin_effect ..)); exact rfl)
    | ((with_reducible apply Effect.after (State.updFbc_effect ..)); exact rfl)
    | split

theorem State.fbQueueGroup_effect (s : State) (i : ℕ) :
    Effect 0x2800002000 s (State.fbQueueGroup s i) := by
  unfold State.fbQueueGroup
  try dsimp only
  repeat' first
    | with_reducible apply Effect.refl
    | with_reducible assumption
    | ((with_reducible apply Effect.ite) <;> intro _)
    | ((with_reducible apply Effect.after (State.fbOffer_effect ..)); exact rfl)
    | ((with_reducible apply Effect.after (State.fbEnqueue_effect ..)); exact rfl)

theorem State.fbRequeue_effect (s : State) (b : ℕ) :
    Effect 0x800000000 s (State.fbRequeue s b) := by
  unfold State.fbRequeue
  try dsimp only
  repeat' first
    | with_reducible apply Effect.refl
    | with_reducible assumption
    | ((with_reducible apply Effect.ite) <;> intro _)
    | ((with_reducible apply Effect.each) <;> [skip; (intro t x ht)])
    | ((with_reducible apply Effect.after (State.updFbc_effect ..)); exact rfl)

theorem State.fbQueueAll_effect (s : State) (b : ℕ) :
    Effect 0x2800002000 s (State.fbQueueAll s b) := by
  unfold State.fbQueueAll
  try dsimp only
  repeat' first
    | with_reducible apply Effect.refl
    | with_reducible assumption
    | ((with_reducible apply Effect.each) <;> [skip; (intro t x ht)])
    | ((with_reducible apply Effect.after (State.fbRequeue_effect ..)); exact rfl)
    | ((with_reducible apply Effect.after (State.fbQueueGroup_effect ..)); exact rfl)

theorem State.placeOutput_effect (s : State) (i : ℕ) (image : List Byte) :
    Effect 0x2800002000 s (State.placeOutput s i image) := by
  unfold State.placeOutput
  try dsimp only
  repeat' first
    | with_reducible apply Effect.refl
    | with_reducible assumption
    | ((with_reducible apply Effect.ite) <;> intro _)
    | ((with_reducible apply Effect.after (State.fbQueueGroup_effect ..)); exact rfl)
    | ((with_reducible apply Effect.after (State.updStn_effect ..)); exact rfl)

theorem State.endSends_effect (s : State) (xs : List TxItem) (c : Code) :
    Effect 0x3000000000 s (State.endSends s xs c) := by
  unfold State.endSends
  try dsimp only
  repeat' first
    | with_reducible apply Effect.refl
    | with_reducible assumption
    | ((with_reducible apply Effect.each) <;> [skip; (intro t x ht)])
    | ((with_reducible apply Effect.after (State.complete_effect ..)); exact rfl)
    | split

theorem State.fbLost_effect (s : State) (b : ℕ) (n : ℕ) :
    Effect 0x800000000 s (State.fbLost s b n) := by
  unfold State.fbLost
  try dsimp only
  repeat' first
    | with_reducible apply Effect.refl
    | with_reducible assumption
    | ((with_reducible apply Effect.after (State.updFbc_effect ..)); exact rfl)

theorem State.fbDiscard_effect (s : State) (b : ℕ) (p : TxItem → Bool) (c : Code) :
    Effect 0x3800000000 s (State.fbDiscard s b p c) := by
  unfold State.fbDiscard
  try dsimp only
  repeat' first
    | with_reducible apply Effect.refl
    | with_reducible assumption
    | ((with_reducible apply Effect.after (State.endSends_effect ..)); exact rfl)
    | ((with_reducible apply Effect.after (State.fbLost_effect ..)); exact rfl)
    | ((with_reducible apply Effect.after (State.updFbc_effect ..)); exact rfl)

theorem State.fbCut_effect (s : State) (b : ℕ) :
    Effect 0x3800000000 s (State.fbCut s b) := by
  unfold State.fbCut
  try dsimp only
  repeat' first
    | with_reducible apply Effect.refl
    | with_reducible assumption
    | ((with_reducible apply Effect.after (State.fbDiscard_effect ..)); exact rfl)
    | ((with_reducible apply Effect.after (State.updFbc_effect ..)); exact rfl)

theorem State.silentStns_effect (s : State) (b : ℕ) :
    Effect 0x2000 s (State.silentStns s b) := by
  unfold State.silentStns
  try dsimp only
  repeat' first
    | with_reducible apply Effect.refl
    | with_reducible assumption
    | ((with_reducible apply Effect.each) <;> [skip; (intro t x ht)])
    | ((with_reducible apply Effect.after (State.updStn_effect ..)); exact rfl)

theorem State.fbMode_effect (s : State) (b : ℕ) (m : FbMode) :
    Effect 0x800002000 s (State.fbMode s b m) := by
  unfold State.fbMode
  try dsimp only
  repeat' first
    | with_reducible apply Effect.refl
    | with_reducible assumption
    | ((with_reducible apply Effect.after (State.silentStns_effect ..)); exact rfl)
    | ((with_reducible apply Effect.after (State.updFbc_effect ..)); exact rfl)

theorem State.fbBusOff_effect (s : State) (b : ℕ) :
    Effect 0x7800002000 s (State.fbBusOff s b) := by
  unfold State.fbBusOff
  try dsimp only
  repeat' first
    | with_reducible apply Effect.refl
    | with_reducible assumption
    | ((with_reducible apply Effect.after (State.updFbc_effect ..)); exact rfl)
    | ((with_reducible apply Effect.after (State.fbDiscard_effect ..)); exact rfl)
    | ((with_reducible apply Effect.each) <;> [skip; (intro t x ht)])
    | ((with_reducible apply Effect.after (State.updStn_effect ..)); exact rfl)
    | ((with_reducible apply Effect.after (State.alarm_effect ..)); exact rfl)
    | ((with_reducible apply Effect.after (State.fbMode_effect ..)); exact rfl)

theorem State.fbError_effect (s : State) (b : ℕ) (e : CanError) :
    Effect 0x7800002000 s (State.fbError s b e) := by
  unfold State.fbError
  try dsimp only
  repeat' first
    | with_reducible apply Effect.refl
    | with_reducible assumption
    | ((with_reducible apply Effect.ite) <;> intro _)
    | ((with_reducible apply Effect.after (State.updFbc_effect ..)); exact rfl)
    | ((with_reducible apply Effect.after (State.fbBusOff_effect ..)); exact rfl)
    | split

theorem State.fbReceived_effect (s : State) (b : ℕ) :
    Effect 0x800000002 s (State.fbReceived s b) := by
  unfold State.fbReceived
  try dsimp only
  repeat' first
    | with_reducible apply Effect.refl
    | with_reducible assumption
    | ((with_reducible apply Effect.ite) <;> intro _)
    | ((with_reducible apply Effect.after (State.updFbc_effect ..)); exact rfl)
    | ((with_reducible apply Effect.after (State.free_effect ..)); exact rfl)

theorem State.fbGrantLost_effect (s : State) (b : ℕ) :
    Effect 0x3800000000 s (State.fbGrantLost s b) := by
  unfold State.fbGrantLost
  try dsimp only
  repeat' first
    | with_reducible apply Effect.refl
    | with_reducible assumption
    | ((with_reducible apply Effect.after (State.fbDiscard_effect ..)); exact rfl)
    | ((with_reducible apply Effect.after (State.updFbc_effect ..)); exact rfl)

theorem State.fbGrantGained_effect (s : State) (b : ℕ) :
    Effect 0x2800002000 s (State.fbGrantGained s b) := by
  unfold State.fbGrantGained
  try dsimp only
  repeat' first
    | with_reducible apply Effect.refl
    | with_reducible assumption
    | ((with_reducible apply Effect.after (State.fbQueueAll_effect ..)); exact rfl)

theorem State.condsInvalid_effect (s : State) (i : ℕ) :
    Effect 0x4000 s (State.condsInvalid s i) := by
  unfold State.condsInvalid
  try dsimp only
  repeat' first
    | with_reducible apply Effect.refl
    | with_reducible assumption
    | ((with_reducible apply Effect.each) <;> [skip; (intro t x ht)])
    | ((with_reducible apply Effect.after (State.updCond_effect ..)); exact rfl)

theorem State.stnDrop_effect (s : State) (i : ℕ) :
    Effect 0x6800006000 s (State.stnDrop s i) := by
  unfold State.stnDrop
  try dsimp only
  repeat' first
    | with_reducible apply Effect.refl
    | with_reducible assumption
    | ((with_reducible apply Effect.ite) <;> intro _)
    | ((with_reducible apply Effect.after (State.condsInvalid_effect ..)); exact rfl)
    | ((with_reducible apply Effect.after (State.updStn_effect ..)); exact rfl)
    | ((with_reducible apply Effect.after (State.updFbc_effect ..)); exact rfl)
    | ((with_reducible apply Effect.after (State.fbQueueAll_effect ..)); exact rfl)
    | ((with_reducible apply Effect.after (State.event_effect ..)); exact rfl)

theorem State.stnJudge_effect (s : State) (i : ℕ) (due : ℕ) :
    Effect 0x6800006000 s (State.stnJudge s i due) := by
  unfold State.stnJudge
  try dsimp only
  repeat' first
    | with_reducible apply Effect.refl
    | with_reducible assumption
    | ((with_reducible apply Effect.ite) <;> intro _)
    | ((with_reducible apply Effect.after (State.updStn_effect ..)); exact rfl)
    | ((with_reducible apply Effect.after (State.stnDrop_effect ..)); exact rfl)
    | ((with_reducible apply Effect.after (State.alarm_effect ..)); exact rfl)
    | split

end Sys2Proof.Machine
end

