-- ==== Sys2Proof/Laws/FacetMem.lean ====
section
/-! SUPPORT. What a facet instruction, and every operation on a facet's data memory, does to the canonical form: it
keeps it. -/

namespace Sys2Proof.Machine

/-- What holds of a memory and is kept by each element's operation holds after all of them. -/
theorem foldl_wf {α : Type} {f : List Host.Cell → α → List Host.Cell}
    (hf : ∀ m x, Memory.wf m = true → Memory.wf (f m x) = true) (xs : List α) {m : List Host.Cell}
    (w : Memory.wf m = true) : Memory.wf (xs.foldl f m) = true := by
  induction xs generalizing m with
  | nil => exact w
  | cons x r ih => exact ih (hf m x w)

theorem nil_wf : Memory.wf [] = true := rfl

theorem initData_wf (c : FacetCfg) {m : List Host.Cell} (w : Memory.wf m = true) : Memory.wf (initData c m) = true :=
  foldl_wf (fun _ _ h => memSet_wf h _ _) _ w

theorem carry_wf (old : List Host.Cell) {m : List Host.Cell} (w : Memory.wf m = true) (a b n : Nat) :
    Memory.wf (carry old m a b n) = true := memPut_wf w _ _

theorem restoreRetain_wf (c : LogicCfg) (fc : FacetCfg) (r : SealRec) {m : List Host.Cell} (w : Memory.wf m = true) :
    Memory.wf (restoreRetain c fc r m) = true := foldl_wf (fun _ _ h => memPut_wf h _ _) _ w

theorem carryInstance_wf (old : List Host.Cell) {m : List Host.Cell} (w : Memory.wf m = true) (k a b : Nat) :
    Memory.wf (carryInstance old m k a b) = true := by
  unfold carryInstance
  split
  · exact carry_wf _ w _ _ _
  · exact carry_wf _ (carry_wf _ w _ _ _) _ _ _
  · exact memSetBit_wf w _ _ _

theorem clearInstance_wf {m : List Host.Cell} (w : Memory.wf m = true) (k a : Nat) :
    Memory.wf (clearInstance m k a) = true := by
  unfold clearInstance
  split
  · exact memPut_wf w _ _
  · exact memPut_wf (memPut_wf w _ _) _ _
  · exact memSetBit_wf w _ _ _

theorem carryPreset_wf (src : List Host.Cell) {m : List Host.Cell} (w : Memory.wf m = true) (k a : Nat) :
    Memory.wf (carryPreset src m k a) = true := by
  unfold carryPreset
  split
  · exact carry_wf _ w _ _ _
  · exact carry_wf _ w _ _ _
  · exact w

theorem exchangeData_wf (old : List Host.Cell) (oc nc : LogicCfg) (fc : FacetCfg) :
    Memory.wf (exchangeData old oc nc fc) = true := by
  refine foldl_wf (fun m n h => ?_) _ (foldl_wf (fun m r h => ?_) _
    (carry_wf _ (carry_wf _ (initData_wf _ nil_wf) _ _ _) _ _ _))
  · have h := carryPreset_wf (initData fc []) h n.kind n.index
    dsimp only
    split
    · exact carryInstance_wf _ h _ _ _
    · exact clearInstance_wf h _ _
  · split
    · exact carry_wf _ h _ _ _
    · exact h

theorem setQueued_dmem (x : FacetSt) (c : WakeCause) (v : Bool) : (setQueued x c v).dmem = x.dmem := by
  cases c <;> rfl

theorem queueEvent_dmem (x : FacetSt) (c : WakeCause) (t : Nat) : (queueEvent x c t).dmem = x.dmem := by
  cases c <;> rfl

theorem loadWindow_wf (c : FacetCfg) (p : ProgSt) (x : FacetSt) (w : Memory.wf x.dmem = true) :
    Memory.wf (loadWindow c p x).dmem = true := memPut_wf (memPut_wf w _ _) _ _

theorem loadStream_wf (c : FacetCfg) (p : ProgSt) (x : FacetSt) (w : Memory.wf x.dmem = true) :
    Memory.wf (loadStream c p x).dmem = true := memPut_wf w _ _

theorem statusBlock_wf (tai : Nat) (c : WakeCause) (n : Nat) (x : FacetSt) (w : Memory.wf x.dmem = true) :
    Memory.wf (statusBlock tai c n x).dmem = true := by
  refine memPutNat_wf (memPutNat_wf (memPutNat_wf ?_ _ _ _) _ _ _) _ _ _
  split
  · exact memPutNat_wf w _ _ _
  · exact w

theorem restoreArea_wf (c : FacetCfg) (r : SealRec) (x : FacetSt) (w : Memory.wf x.dmem = true) :
    Memory.wf (restoreArea c r x).dmem = true := memPutNat_wf (memPut_wf w _ _) _ _ _

theorem freshData_wf (c : FacetCfg) (x : FacetSt) : Memory.wf (freshData c x).dmem = true :=
  initData_wf c (memPut_wf nil_wf _ _)

theorem putOutputs_wf (c : FacetCfg) (img : List Byte) (x : FacetSt) (w : Memory.wf x.dmem = true) :
    Memory.wf (putOutputs c img x).dmem = true := memPut_wf (memPut_wf w _ _) _ _

theorem memPutSlot_wf (a : Nat) (bs : List Byte) {m : List Host.Cell} (w : Memory.wf m = true) :
    Memory.wf (memPutSlot m a bs) = true := foldl_wf (fun _ _ h => memStore_wf h _ _) _ w

/-! ## Instructions that touch only their facet -/

/-- An instruction keeps the canonical form where it does not fault. -/
def KeepsMem (g : FacetSt → FRes) : Prop :=
  ∀ x y, Memory.wf x.dmem = true → g x = .ok y → Memory.wf y.dmem = true

theorem keepsMem_bitRead (w : BitVec 26) (g : Bool → Bool → Bool) : KeepsMem (bitRead w g) := by
  intro x y hx h
  unfold bitRead at h
  split at h <;> cases h
  exact hx

theorem writeBit_wf (x : FacetSt) (a n : Nat) (v : Bool) (hx : Memory.wf x.dmem = true) :
    Memory.wf (writeBit x a n v).dmem = true := by
  unfold writeBit
  split
  · exact memSetBit_wf hx _ _ _
  · exact memSetBit_wf hx _ _ _
  · repeat' (first | exact hx | split)
  · exact hx

theorem keepsMem_bitWrite (w : BitVec 26) (r n : Bool) (g : FacetSt → Option Bool) : KeepsMem (bitWrite w r n g) := by
  intro x y hx h
  unfold bitWrite at h
  repeat' (first | (cases h; done) | split at h)
  · cases h; exact writeBit_wf x _ _ _ hx
  · cases h; exact hx

theorem keepsMem_sPlain (w : BitVec 26) {g : FacetSt → FRes} (hg : KeepsMem g) : KeepsMem (sPlain w g) := by
  intro x y hx h
  unfold sPlain at h
  split at h
  · cases h
  · exact hg x y hx h

theorem keepsMem_same {f : FacetSt → FacetSt} (hf : ∀ x, (f x).dmem = x.dmem) : KeepsMem fun x => .ok (f x) := by
  intro x y hx h
  cases h
  rw [hf]; exact hx

theorem keepsMem_push (c : Comb) (b : Bool) : KeepsMem (push c b) := by
  intro x y hx h
  unfold push at h
  split at h <;> cases h
  exact hx

theorem keepsMem_pop : KeepsMem pop := by
  intro x y hx h
  unfold pop at h
  split at h <;> cases h
  exact hx

theorem keepsMem_edge (w : BitVec 26) (g : Bool → Bool → Bool) : KeepsMem (edge w g) := by
  intro x y hx h
  unfold edge at h
  split at h <;> cases h
  exact memSetBit_wf hx _ _ _

theorem writeTimer_wf {m : List Host.Cell} (i : Nat) (t : Timer) (w : Memory.wf m = true) :
    Memory.wf (writeTimer m i t) = true :=
  memSetBit_wf (memSetBit_wf (memPutNat_wf (memPutNat_wf w _ _ _) _ _ _) _ _ _) _ _ _

theorem keepsMem_timer (k : TimerKind) (w : BitVec 26) : KeepsMem (timer k w) := by
  intro x y hx h
  unfold timer at h
  split at h <;> cases h
  exact writeTimer_wf _ _ hx

theorem countStep_wf {m : List Host.Cell} (i : Nat) (d l : Bool) (w : Memory.wf m = true) :
    Memory.wf (countStep m i d l).1 = true :=
  memSetBit_wf (memSetBit_wf (memSetBit_wf (memSetBit_wf (memPutNat_wf w _ _ _) _ _ _) _ _ _) _ _ _) _ _ _

theorem keepsMem_counter (d : Bool) (w : BitVec 26) : KeepsMem (counter d w) := by
  intro x y hx h
  unfold counter at h
  split at h <;> cases h
  exact countStep_wf _ _ _ hx

theorem keepsMem_countSet (w : BitVec 26) (g : Counter → Int) : KeepsMem (countSet w g) := by
  intro x y hx h
  unfold countSet at h
  split at h <;> cases h
  split
  · exact memPutNat_wf hx _ _ _
  · exact hx

theorem keepsMem_jump (w : BitVec 26) (t : FacetSt → Bool) : KeepsMem (jump w t) := by
  intro x y hx h
  unfold jump at h
  split at h <;> cases h
  exact hx

theorem keepsMem_rOp (b : Bool) {g : FacetSt → FacetSt} (hg : ∀ x, (g x).dmem = x.dmem) : KeepsMem (rOp b g) := by
  intro x y hx h
  unfold rOp at h
  split at h <;> cases h
  rw [hg]; exact hx

theorem keepsMem_iOp (w : BitVec 26) (b : Bool) {g : FacetSt → FacetSt} (hg : ∀ x, (g x).dmem = x.dmem) :
    KeepsMem (iOp w b g) := by
  intro x y hx h
  unfold iOp at h
  split at h <;> cases h
  rw [hg]; exact hx

theorem postInc_dmem (x : FacetSt) (w : BitVec 26) : (postInc x w).dmem = x.dmem := by
  unfold postInc
  split <;> rfl

theorem keepsMem_mLoad (w : BitVec 26) (b : Bool) (n : Nat) {put : Nat → FacetSt → FacetSt}
    (hp : ∀ v x, (put v x).dmem = x.dmem) : KeepsMem (mLoad w b n put) := by
  intro x y hx h
  unfold mLoad at h
  dsimp only at h
  repeat' (first | (cases h; done) | split at h)
  cases h
  rw [hp, postInc_dmem]; exact hx

theorem keepsMem_mStore (w : BitVec 26) (b : Bool) (n : Nat) (v : FacetSt → Nat) : KeepsMem (mStore w b n v) := by
  intro x y hx h
  unfold mStore at h
  dsimp only at h
  repeat' (first | (cases h; done) | split at h)
  cases h
  rw [postInc_dmem]; exact memStore_wf hx _ _

end Sys2Proof.Machine
end

