-- ==== Sys2Proof/Laws/EffFacetCtl.lean ====
section
/-! SUPPORT. What each operation of Machine/FacetCtl.lean may do: the parts it may write, and that its result follows
what it was given (Laws/Effect.lean). -/

namespace Sys2Proof.Machine

theorem State.sendEpoch_effect (s : State) (kind : EpochKind) (lens : ℕ) (cycle : ℕ) (ts : ℕ) (source : ℕ) (resync : Bool) (its : List Item) :
    Effect 0x43000000000 s (State.sendEpoch s kind lens cycle ts source resync its) := by
  unfold State.sendEpoch
  try dsimp only
  repeat' first
    | with_reducible apply Effect.refl
    | with_reducible assumption
    | ((with_reducible apply Effect.after (State.emit_effect ..)); exact rfl)
    | split
    | ((with_reducible apply Effect.upd) <;> [skip; exact rfl; (intro p hp; cases p <;> first | exact rfl | exact absurd hp (by decide))])

theorem State.closeEpoch_effect (s : State) (kind : EpochKind) (lens : ℕ) (cycle : ℕ) (ts : ℕ) (source : ℕ) (its : List Item) :
    Effect 0x43000000000 s (State.closeEpoch s kind lens cycle ts source its) := by
  unfold State.closeEpoch
  try dsimp only
  repeat' first
    | with_reducible apply Effect.refl
    | with_reducible assumption
    | ((with_reducible apply Effect.ite) <;> intro _)
    | ((with_reducible apply Effect.after (State.sendEpoch_effect ..)); exact rfl)

theorem State.wakeLens_effect (s : State) (l : ℕ) :
    Effect 0x100 s (State.wakeLens s l) := by
  unfold State.wakeLens
  try dsimp only
  repeat' first
    | with_reducible apply Effect.refl
    | with_reducible assumption
    | ((with_reducible apply Effect.after (State.updLens_effect ..)); exact rfl)

theorem State.lensRest_effect (s : State) (l : ℕ) :
    Effect 0x100 s (State.lensRest s l) := by
  unfold State.lensRest
  try dsimp only
  repeat' first
    | with_reducible apply Effect.refl
    | with_reducible assumption
    | ((with_reducible apply Effect.ite) <;> intro _)
    | ((with_reducible apply Effect.after (State.updLens_effect ..)); exact rfl)

theorem State.lensFail_effect (s : State) (l : ℕ) (c : LensFault) :
    Effect 0x4000000100 s (State.lensFail s l c) := by
  unfold State.lensFail
  try dsimp only
  repeat' first
    | with_reducible apply Effect.refl
    | with_reducible assumption
    | ((with_reducible apply Effect.after (State.event_effect ..)); exact rfl)
    | ((with_reducible apply Effect.after (State.updLens_effect ..)); exact rfl)

theorem State.consume_effect (s : State) (l : ℕ) (f : ℕ) :
    Effect 0xC0 s (State.consume s l f) := by
  unfold State.consume
  try dsimp only
  repeat' first
    | with_reducible apply Effect.refl
    | with_reducible assumption
    | ((with_reducible apply Effect.ite) <;> intro _)
    | ((with_reducible apply Effect.updFacet) <;> [skip; (intro x hx; (try dsimp only); repeat' (first | exact hx | apply memPutNat_wf | apply memPut_wf | apply initData_wf | apply exchangeData_wf | apply restoreArea_wf | apply restoreRetain_wf | apply loadWindow_wf | apply statusBlock_wf | apply loadStream_wf | apply freshData_wf | apply putOutputs_wf | apply memPutSlot_wf | apply carry_wf | (rw [queueEvent_dmem]) | exact nil_wf | (rw [setQueued_dmem]) | split)); exact rfl])
    | ((with_reducible apply Effect.after (State.updProg_effect ..)); exact rfl)

theorem State.wakeNow_effect (s : State) (l : ℕ) (f : ℕ) (c : WakeCause) (tai : ℕ) :
    Effect 0xC0 s (State.wakeNow s l f c tai) := by
  unfold State.wakeNow
  try dsimp only
  repeat' first
    | with_reducible apply Effect.refl
    | with_reducible assumption
    | ((with_reducible apply Effect.ite) <;> intro _)
    | ((with_reducible apply Effect.after (State.consume_effect ..)); exact rfl)
    | ((with_reducible apply Effect.updFacet) <;> [skip; (intro x hx; (try dsimp only); repeat' (first | exact hx | apply memPutNat_wf | apply memPut_wf | apply initData_wf | apply exchangeData_wf | apply restoreArea_wf | apply restoreRetain_wf | apply loadWindow_wf | apply statusBlock_wf | apply loadStream_wf | apply freshData_wf | apply putOutputs_wf | apply memPutSlot_wf | apply carry_wf | (rw [queueEvent_dmem]) | exact nil_wf | (rw [setQueued_dmem]) | split)); exact rfl])
    | ((with_reducible apply Effect.after (State.updProg_effect ..)); exact rfl)

theorem State.raise_effect (s : State) (l : ℕ) (h : ℕ) (c : WakeCause) :
    Effect 0x1C0 s (State.raise s l h c) := by
  unfold State.raise
  try dsimp only
  repeat' first
    | with_reducible apply Effect.refl
    | with_reducible assumption
    | ((with_reducible apply Effect.ite) <;> intro _)
    | ((with_reducible apply Effect.after (State.wakeNow_effect ..)); exact rfl)
    | ((with_reducible apply Effect.after (State.wakeLens_effect ..)); exact rfl)
    | ((with_reducible apply Effect.updFacet) <;> [skip; (intro x hx; (try dsimp only); repeat' (first | exact hx | apply memPutNat_wf | apply memPut_wf | apply initData_wf | apply exchangeData_wf | apply restoreArea_wf | apply restoreRetain_wf | apply loadWindow_wf | apply statusBlock_wf | apply loadStream_wf | apply freshData_wf | apply putOutputs_wf | apply memPutSlot_wf | apply carry_wf | (rw [queueEvent_dmem]) | exact nil_wf | (rw [setQueued_dmem]) | split)); exact rfl])
    | split

theorem State.takeQueued_effect (s : State) (l : ℕ) (f : ℕ) :
    Effect 0xC0 s (State.takeQueued s l f) := by
  unfold State.takeQueued
  try dsimp only
  repeat' first
    | with_reducible apply Effect.refl
    | with_reducible assumption
    | ((with_reducible apply Effect.ite) <;> intro _)
    | ((with_reducible apply Effect.after (State.wakeNow_effect ..)); exact rfl)
    | split

theorem State.loseSeal_effect (s : State) (l : ℕ) (h : ℕ) (n : ℕ) :
    Effect 0xC0 s (State.loseSeal s l h n) := by
  unfold State.loseSeal
  try dsimp only
  repeat' first
    | with_reducible apply Effect.refl
    | with_reducible assumption
    | ((with_reducible apply Effect.after (State.updProg_effect ..)); exact rfl)
    | ((with_reducible apply Effect.updFacet) <;> [skip; (intro x hx; (try dsimp only); repeat' (first | exact hx | apply memPutNat_wf | apply memPut_wf | apply initData_wf | apply exchangeData_wf | apply restoreArea_wf | apply restoreRetain_wf | apply loadWindow_wf | apply statusBlock_wf | apply loadStream_wf | apply freshData_wf | apply putOutputs_wf | apply memPutSlot_wf | apply carry_wf | (rw [queueEvent_dmem]) | exact nil_wf | (rw [setQueued_dmem]) | split)); exact rfl])

theorem State.sealNow_effect (s : State) (l : ℕ) (f : ℕ) :
    Effect 0x1C0 s (State.sealNow s l f) := by
  unfold State.sealNow
  try dsimp only
  repeat' first
    | with_reducible apply Effect.refl
    | with_reducible assumption
    | ((with_reducible apply Effect.ite) <;> intro _)
    | ((with_reducible apply Effect.after (State.updProg_effect ..)); exact rfl)
    | ((with_reducible apply Effect.updFacet) <;> [skip; (intro x hx; (try dsimp only); repeat' (first | exact hx | apply memPutNat_wf | apply memPut_wf | apply initData_wf | apply exchangeData_wf | apply restoreArea_wf | apply restoreRetain_wf | apply loadWindow_wf | apply statusBlock_wf | apply loadStream_wf | apply freshData_wf | apply putOutputs_wf | apply memPutSlot_wf | apply carry_wf | (rw [queueEvent_dmem]) | exact nil_wf | (rw [setQueued_dmem]) | split)); exact rfl])
    | ((with_reducible apply Effect.after (State.updLens_effect ..)); exact rfl)

theorem State.sealCut_effect (s : State) (l : ℕ) (f : ℕ) :
    Effect 0x80 s (State.sealCut s l f) := by
  unfold State.sealCut
  try dsimp only
  repeat' first
    | with_reducible apply Effect.refl
    | with_reducible assumption
    | ((with_reducible apply Effect.ite) <;> intro _)
    | ((with_reducible apply Effect.after (State.updProg_effect ..)); exact rfl)

theorem State.outwInTime_effect (s : State) (l : ℕ) (f : ℕ) :
    Effect 0x88000080 s (State.outwInTime s l f) := by
  unfold State.outwInTime
  try dsimp only
  repeat' first
    | with_reducible apply Effect.refl
    | with_reducible assumption
    | ((with_reducible apply Effect.after (State.updProg_effect ..)); exact rfl)
    | ((with_reducible apply Effect.each) <;> [skip; (intro t x ht)])
    | ((with_reducible apply Effect.after (State.updArm_effect ..)); exact rfl)
    | ((with_reducible apply Effect.after (State.updPwm_effect ..)); exact rfl)

theorem State.outwNow_effect (s : State) (l : ℕ) (f : ℕ) :
    Effect 0x88000180 s (State.outwNow s l f) := by
  unfold State.outwNow
  try dsimp only
  repeat' first
    | with_reducible apply Effect.refl
    | with_reducible assumption
    | ((with_reducible apply Effect.ite) <;> intro _)
    | ((with_reducible apply Effect.after (State.outwInTime_effect ..)); exact rfl)
    | ((with_reducible apply Effect.after (State.updLens_effect ..)); exact rfl)

theorem State.loadFacet_effect (s : State) (l : ℕ) (f : ℕ) (h : ℕ) :
    Effect 0x140 s (State.loadFacet s l f h) := by
  unfold State.loadFacet
  try dsimp only
  repeat' first
    | with_reducible apply Effect.refl
    | with_reducible assumption
    | ((with_reducible apply Effect.after (State.updLens_effect ..)); exact rfl)
    | ((with_reducible apply Effect.updFacet) <;> [skip; (intro x hx; (try dsimp only); repeat' (first | exact hx | apply memPutNat_wf | apply memPut_wf | apply initData_wf | apply exchangeData_wf | apply restoreArea_wf | apply restoreRetain_wf | apply loadWindow_wf | apply statusBlock_wf | apply loadStream_wf | apply freshData_wf | apply putOutputs_wf | apply memPutSlot_wf | apply carry_wf | (rw [queueEvent_dmem]) | exact nil_wf | (rw [setQueued_dmem]) | split)); exact rfl])

theorem State.loadAt_effect (s : State) (l : ℕ) (h : ℕ) :
    Effect 0x4000000140 s (State.loadAt s l h) := by
  unfold State.loadAt
  try dsimp only
  repeat' first
    | with_reducible apply Effect.refl
    | with_reducible assumption
    | ((with_reducible apply Effect.ite) <;> intro _)
    | ((with_reducible apply Effect.after (State.updLens_effect ..)); exact rfl)
    | ((with_reducible apply Effect.after (State.loadFacet_effect ..)); exact rfl)
    | ((with_reducible apply Effect.after (State.lensFail_effect ..)); exact rfl)
    | split

theorem State.fillFree_effect (s : State) (l : ℕ) :
    Effect 0x100 s (State.fillFree s l) := by
  unfold State.fillFree
  try dsimp only
  repeat' first
    | with_reducible apply Effect.refl
    | with_reducible assumption
    | ((with_reducible apply Effect.after (State.updLens_effect ..)); exact rfl)

theorem State.resetProg_effect (s : State) (l : ℕ) (h : ℕ) (img : List Byte) :
    Effect 0x80 s (State.resetProg s l h img) := by
  unfold State.resetProg
  try dsimp only
  repeat' first
    | with_reducible apply Effect.refl
    | with_reducible assumption
    | ((with_reducible apply Effect.after (State.updProg_effect ..)); exact rfl)

theorem State.commitImage_effect (s : State) (p : ℕ) (img : List Byte) :
    Effect 0x6800002800 s (State.commitImage s p img) := by
  unfold State.commitImage
  try dsimp only
  repeat' first
    | with_reducible apply Effect.refl
    | with_reducible assumption
    | ((with_reducible apply Effect.after (State.updLogic_effect ..)); exact rfl)
    | ((with_reducible apply Effect.each) <;> [skip; (intro t x ht)])
    | ((with_reducible apply Effect.after (State.placeOutput_effect ..)); exact rfl)
    | ((with_reducible apply Effect.after (State.perEvent_effect ..)); exact rfl)

theorem State.beginRepair_effect (s : State) (l : ℕ) (r : Repair) :
    Effect 0x4000000100 s (State.beginRepair s l r) := by
  unfold State.beginRepair
  try dsimp only
  repeat' first
    | with_reducible apply Effect.refl
    | with_reducible assumption
    | ((with_reducible apply Effect.ite) <;> intro _)
    | ((with_reducible apply Effect.after (State.lensFail_effect ..)); exact rfl)
    | ((with_reducible apply Effect.after (State.updLens_effect ..)); exact rfl)
    | split

theorem State.askRepair_effect (s : State) (l : ℕ) (r : Repair) :
    Effect 0x4000000100 s (State.askRepair s l r) := by
  unfold State.askRepair
  try dsimp only
  repeat' first
    | with_reducible apply Effect.refl
    | with_reducible assumption
    | ((with_reducible apply Effect.ite) <;> intro _)
    | ((with_reducible apply Effect.after (State.updLens_effect ..)); exact rfl)
    | ((with_reducible apply Effect.after (State.beginRepair_effect ..)); exact rfl)

theorem State.nextRepair_effect (s : State) (l : ℕ) :
    Effect 0x4000000100 s (State.nextRepair s l) := by
  unfold State.nextRepair
  try dsimp only
  repeat' first
    | with_reducible apply Effect.refl
    | with_reducible assumption
    | ((with_reducible apply Effect.each) <;> [skip; (intro t x ht)])
    | ((with_reducible apply Effect.after (State.updLens_effect ..)); exact rfl)
    | ((with_reducible apply Effect.after (State.askRepair_effect ..)); exact rfl)

theorem State.respare_effect (s : State) (l : ℕ) (r : Repair) :
    Effect 0x4000000100 s (State.respare s l r) := by
  unfold State.respare
  try dsimp only
  repeat' first
    | with_reducible apply Effect.refl
    | with_reducible assumption
    | ((with_reducible apply Effect.ite) <;> intro _)
    | ((with_reducible apply Effect.after (State.beginRepair_effect ..)); exact rfl)
    | ((with_reducible apply Effect.after (State.updLens_effect ..)); exact rfl)
    | ((with_reducible apply Effect.after (State.nextRepair_effect ..)); exact rfl)

theorem State.hwFault_effect (s : State) (l : ℕ) (f : ℕ) (c : FFault) :
    Effect 0x4000000340 s (State.hwFault s l f c) := by
  unfold State.hwFault
  try dsimp only
  repeat' first
    | with_reducible apply Effect.refl
    | with_reducible assumption
    | ((with_reducible apply Effect.ite) <;> intro _)
    | ((with_reducible apply Effect.updFacet) <;> [skip; (intro x hx; (try dsimp only); repeat' (first | exact hx | apply memPutNat_wf | apply memPut_wf | apply initData_wf | apply exchangeData_wf | apply restoreArea_wf | apply restoreRetain_wf | apply loadWindow_wf | apply statusBlock_wf | apply loadStream_wf | apply freshData_wf | apply putOutputs_wf | apply memPutSlot_wf | apply carry_wf | (rw [queueEvent_dmem]) | exact nil_wf | (rw [setQueued_dmem]) | split)); exact rfl])
    | ((with_reducible apply Effect.after (State.updLens_effect ..)); exact rfl)
    | ((with_reducible apply Effect.after (State.askRepair_effect ..)); exact rfl)
    | ((with_reducible apply Effect.after (State.respare_effect ..)); exact rfl)
    | split
    | ((with_reducible apply Effect.upd) <;> [skip; exact rfl; (intro p hp; cases p <;> first | exact rfl | exact absurd hp (by decide))])

theorem State.atBoundary_effect (s : State) (l : ℕ) (f : ℕ) :
    Effect 0x4000000340 s (State.atBoundary s l f) := by
  unfold State.atBoundary
  try dsimp only
  repeat' first
    | with_reducible apply Effect.refl
    | with_reducible assumption
    | ((with_reducible apply Effect.ite) <;> intro _)
    | ((with_reducible apply Effect.after (State.hwFault_effect ..)); exact rfl)

theorem State.stopFacet_effect (s : State) (l : ℕ) (f : ℕ) :
    Effect 0x4F2D8C007C2 s (State.stopFacet s l f) := by
  unfold State.stopFacet
  try dsimp only
  repeat' first
    | with_reducible apply Effect.refl
    | with_reducible assumption
    | ((with_reducible apply Effect.updFacet) <;> [skip; (intro x hx; (try dsimp only); repeat' (first | exact hx | apply memPutNat_wf | apply memPut_wf | apply initData_wf | apply exchangeData_wf | apply restoreArea_wf | apply restoreRetain_wf | apply loadWindow_wf | apply statusBlock_wf | apply loadStream_wf | apply freshData_wf | apply putOutputs_wf | apply memPutSlot_wf | apply carry_wf | (rw [queueEvent_dmem]) | exact nil_wf | (rw [setQueued_dmem]) | split)); exact rfl])
    | ((with_reducible apply Effect.after (State.updProg_effect ..)); exact rfl)
    | ((with_reducible apply Effect.after (State.atBoundary_effect ..)); exact rfl)
    | ((with_reducible apply Effect.after (State.releaseAll_effect ..)); exact rfl)

theorem State.clearFacet_effect (s : State) (l : ℕ) (h : ℕ) :
    Effect 0x4F2D8C007C2 s (State.clearFacet s l h) := by
  unfold State.clearFacet
  try dsimp only
  repeat' first
    | with_reducible apply Effect.refl
    | with_reducible assumption
    | ((with_reducible apply Effect.ite) <;> intro _)
    | ((with_reducible apply Effect.after (State.stopFacet_effect ..)); exact rfl)
    | ((with_reducible apply Effect.updFacet) <;> [skip; (intro x hx; (try dsimp only); repeat' (first | exact hx | apply memPutNat_wf | apply memPut_wf | apply initData_wf | apply exchangeData_wf | apply restoreArea_wf | apply restoreRetain_wf | apply loadWindow_wf | apply statusBlock_wf | apply loadStream_wf | apply freshData_wf | apply putOutputs_wf | apply memPutSlot_wf | apply carry_wf | (rw [queueEvent_dmem]) | exact nil_wf | (rw [setQueued_dmem]) | split)); exact rfl])
    | ((with_reducible apply Effect.after (State.updLens_effect ..)); exact rfl)

theorem State.markChanged_effect (s : State) (b : Package) :
    Effect 0x100 s (State.markChanged s b) := by
  unfold State.markChanged
  try dsimp only
  repeat' first
    | with_reducible apply Effect.refl
    | with_reducible assumption
    | ((with_reducible apply Effect.each) <;> [skip; (intro t x ht)])
    | ((with_reducible apply Effect.after (State.updLens_effect ..)); exact rfl)

theorem State.raisePkgFloor_effect (s : State) (i : Image) :
    Effect 0x8000000000 s (State.raisePkgFloor s i) := by
  unfold State.raisePkgFloor
  try dsimp only
  repeat' first
    | with_reducible apply Effect.refl
    | with_reducible assumption
    | ((with_reducible apply Effect.ite) <;> intro _)
    | ((with_reducible apply Effect.after (State.updObs_effect ..)); exact rfl)

theorem State.exchFinish_effect (s : State) :
    Effect 0x4F000000112 s (State.exchFinish s) := by
  unfold State.exchFinish
  try dsimp only
  repeat' first
    | with_reducible apply Effect.refl
    | with_reducible assumption
    | ((with_reducible apply Effect.ite) <;> intro _)
    | ((with_reducible apply Effect.after (State.updSvc_effect ..)); exact rfl)
    | ((with_reducible apply Effect.after (State.updMlk_effect ..)); exact rfl)
    | ((with_reducible apply Effect.each) <;> [skip; (intro t x ht)])
    | ((with_reducible apply Effect.after (State.fillFree_effect ..)); exact rfl)
    | ((with_reducible apply Effect.after (State.svcEnd_effect ..)); exact rfl)
    | ((with_reducible apply Effect.after (State.raisePkgFloor_effect ..)); exact rfl)
    | split

theorem State.swapLogic_effect (s : State) (p : ℕ) :
    Effect 0x10 s (State.swapLogic s p) := by
  unfold State.swapLogic
  try dsimp only
  repeat' first
    | with_reducible apply Effect.refl
    | with_reducible assumption
    | ((with_reducible apply Effect.after (State.updSvc_effect ..)); exact rfl)
    | split

theorem State.startExch_effect (s : State) (p : ℕ) :
    Effect 0x800 s (State.startExch s p) := by
  unfold State.startExch
  try dsimp only
  repeat' first
    | with_reducible apply Effect.refl
    | with_reducible assumption
    | ((with_reducible apply Effect.ite) <;> intro _)
    | ((with_reducible apply Effect.after (State.updLogic_effect ..)); exact rfl)

theorem State.logicColdStart_effect (s : State) (p : ℕ) :
    Effect 0x70000019C0 s (State.logicColdStart s p) := by
  unfold State.logicColdStart
  try dsimp only
  repeat' first
    | with_reducible apply Effect.refl
    | with_reducible assumption
    | ((with_reducible apply Effect.after (State.clearAlarm_effect ..)); exact rfl)
    | ((with_reducible apply Effect.each) <;> [skip; (intro t x ht)])
    | ((with_reducible apply Effect.after (State.resetProg_effect ..)); exact rfl)
    | ((with_reducible apply Effect.after (State.loadAt_effect ..)); exact rfl)
    | ((with_reducible apply Effect.updFacet) <;> [skip; (intro x hx; (try dsimp only); repeat' (first | exact hx | apply memPutNat_wf | apply memPut_wf | apply initData_wf | apply exchangeData_wf | apply restoreArea_wf | apply restoreRetain_wf | apply loadWindow_wf | apply statusBlock_wf | apply loadStream_wf | apply freshData_wf | apply putOutputs_wf | apply memPutSlot_wf | apply carry_wf | (rw [queueEvent_dmem]) | exact nil_wf | (rw [setQueued_dmem]) | split)); exact rfl])
    | ((with_reducible apply Effect.after (State.updProg_effect ..)); exact rfl)
    | ((with_reducible apply Effect.after (State.complete_effect ..)); exact rfl)
    | ((with_reducible apply Effect.after (State.updLogic_effect ..)); exact rfl)
    | split
    | ((with_reducible apply Effect.upd) <;> [skip; exact rfl; (intro p hp; cases p <;> first | exact rfl | exact absurd hp (by decide))])

theorem State.startAdded_effect (s : State) (p : ℕ) :
    Effect 0x4F2D8C01FD2 s (State.startAdded s p) := by
  unfold State.startAdded
  try dsimp only
  repeat' first
    | with_reducible apply Effect.refl
    | with_reducible assumption
    | ((with_reducible apply Effect.ite) <;> intro _)
    | ((with_reducible apply Effect.after (State.swapLogic_effect ..)); exact rfl)
    | ((with_reducible apply Effect.after (State.clearFacet_effect ..)); exact rfl)
    | ((with_reducible apply Effect.after (State.updLens_effect ..)); exact rfl)
    | ((with_reducible apply Effect.after (State.logicColdStart_effect ..)); exact rfl)
    | ((with_reducible apply Effect.after (State.resetProg_effect ..)); exact rfl)
    | ((with_reducible apply Effect.after (State.loadAt_effect ..)); exact rfl)
    | ((with_reducible apply Effect.after (State.updLogic_effect ..)); exact rfl)
    | ((with_reducible apply Effect.after (State.stopFacet_effect ..)); exact rfl)

theorem State.settle_effect (s : State) (l : ℕ) (h : ℕ) :
    Effect 0x4F2D8C01FD2 s (State.settle s l h) := by
  unfold State.settle
  try dsimp only
  repeat' first
    | with_reducible apply Effect.refl
    | with_reducible assumption
    | ((with_reducible apply Effect.ite) <;> intro _)
    | ((with_reducible apply Effect.after (State.startAdded_effect ..)); exact rfl)
    | ((with_reducible apply Effect.after (State.updSvc_effect ..)); exact rfl)
    | ((with_reducible apply Effect.after (State.loadAt_effect ..)); exact rfl)
    | ((with_reducible apply Effect.after (State.resetProg_effect ..)); exact rfl)
    | split

theorem State.leaveHome_effect (s : State) (p : ℕ) :
    Effect 0x4F2D8C007D2 s (State.leaveHome s p) := by
  unfold State.leaveHome
  try dsimp only
  repeat' first
    | with_reducible apply Effect.refl
    | with_reducible assumption
    | ((with_reducible apply Effect.after (State.clearFacet_effect ..)); exact rfl)
    | ((with_reducible apply Effect.after (State.updSvc_effect ..)); exact rfl)
    | split
    | ((with_reducible apply Effect.upd) <;> [skip; exact rfl; (intro p hp; cases p <;> first | exact absurd hp (by decide) | exact rfl)])

theorem State.dropLogic_effect (s : State) (p : ℕ) :
    Effect 0x4F2D8C01FD2 s (State.dropLogic s p) := by
  unfold State.dropLogic
  try dsimp only
  repeat' first
    | with_reducible apply Effect.refl
    | with_reducible assumption
    | ((with_reducible apply Effect.after (State.settle_effect ..)); exact rfl)
    | ((with_reducible apply Effect.after (State.leaveHome_effect ..)); exact rfl)

theorem State.moveHome_effect (s : State) (p : ℕ) :
    Effect 0x4F2D8C01FD2 s (State.moveHome s p) := by
  unfold State.moveHome
  try dsimp only
  repeat' first
    | with_reducible apply Effect.refl
    | with_reducible assumption
    | ((with_reducible apply Effect.ite) <;> intro _)
    | ((with_reducible apply Effect.after (State.settle_effect ..)); exact rfl)
    | ((with_reducible apply Effect.after (State.swapLogic_effect ..)); exact rfl)
    | ((with_reducible apply Effect.after (State.clearFacet_effect ..)); exact rfl)
    | ((with_reducible apply Effect.after (State.leaveHome_effect ..)); exact rfl)
    | ((with_reducible apply Effect.after (State.loadAt_effect ..)); exact rfl)
    | ((with_reducible apply Effect.updFacet) <;> [skip; (intro x hx; (try dsimp only); repeat' (first | exact hx | apply memPutNat_wf | apply memPut_wf | apply initData_wf | apply exchangeData_wf | apply restoreArea_wf | apply restoreRetain_wf | apply loadWindow_wf | apply statusBlock_wf | apply loadStream_wf | apply freshData_wf | apply putOutputs_wf | apply memPutSlot_wf | apply carry_wf | (rw [queueEvent_dmem]) | exact nil_wf | (rw [setQueued_dmem]) | split)); exact rfl])
    | ((with_reducible apply Effect.after (State.updProg_effect ..)); exact rfl)
    | ((with_reducible apply Effect.after (State.updLens_effect ..)); exact rfl)

theorem State.replaceStopped_effect (s : State) (p : ℕ) :
    Effect 0x4F2D8C01FD2 s (State.replaceStopped s p) := by
  unfold State.replaceStopped
  try dsimp only
  repeat' first
    | with_reducible apply Effect.refl
    | with_reducible assumption
    | ((with_reducible apply Effect.ite) <;> intro _)
    | ((with_reducible apply Effect.after (State.swapLogic_effect ..)); exact rfl)
    | ((with_reducible apply Effect.after (State.loadAt_effect ..)); exact rfl)
    | ((with_reducible apply Effect.after (State.stopFacet_effect ..)); exact rfl)
    | ((with_reducible apply Effect.after (State.dropLogic_effect ..)); exact rfl)
    | ((with_reducible apply Effect.after (State.startAdded_effect ..)); exact rfl)

theorem State.finalCommit_effect (s : State) (p : ℕ) (st : LState) :
    Effect 0x4FAD8C03FD2 s (State.finalCommit s p st) := by
  unfold State.finalCommit
  try dsimp only
  repeat' first
    | with_reducible apply Effect.refl
    | with_reducible assumption
    | ((with_reducible apply Effect.ite) <;> intro _)
    | ((with_reducible apply Effect.after (State.updLogic_effect ..)); exact rfl)
    | ((with_reducible apply Effect.after (State.commitImage_effect ..)); exact rfl)
    | ((with_reducible apply Effect.each) <;> [skip; (intro t x ht)])
    | ((with_reducible apply Effect.after (State.complete_effect ..)); exact rfl)
    | ((with_reducible apply Effect.after (State.alarm_effect ..)); exact rfl)
    | ((with_reducible apply Effect.after (State.exchFinish_effect ..)); exact rfl)
    | ((with_reducible apply Effect.after (State.dropLogic_effect ..)); exact rfl)
    | ((with_reducible apply Effect.after (State.replaceStopped_effect ..)); exact rfl)

theorem State.logicStop_effect (s : State) (p : ℕ) (st : LState) :
    Effect 0x4FAD8C03FD2 s (State.logicStop s p st) := by
  unfold State.logicStop
  try dsimp only
  repeat' first
    | with_reducible apply Effect.refl
    | with_reducible assumption
    | ((with_reducible apply Effect.ite) <;> intro _)
    | ((with_reducible apply Effect.after (State.stopFacet_effect ..)); exact rfl)
    | ((with_reducible apply Effect.after (State.updLogic_effect ..)); exact rfl)
    | ((with_reducible apply Effect.after (State.finalCommit_effect ..)); exact rfl)
    | ((with_reducible apply Effect.after (State.lensRest_effect ..)); exact rfl)

theorem State.programFault_effect (s : State) (l : ℕ) (f : ℕ) (c : FFault) :
    Effect 0x4FAD8C03FD2 s (State.programFault s l f c) := by
  unfold State.programFault
  try dsimp only
  repeat' first
    | with_reducible apply Effect.refl
    | with_reducible assumption
    | ((with_reducible apply Effect.after (State.stopFacet_effect ..)); exact rfl)
    | ((with_reducible apply Effect.updFacet) <;> [skip; (intro x hx; (try dsimp only); repeat' (first | exact hx | apply memPutNat_wf | apply memPut_wf | apply initData_wf | apply exchangeData_wf | apply restoreArea_wf | apply restoreRetain_wf | apply loadWindow_wf | apply statusBlock_wf | apply loadStream_wf | apply freshData_wf | apply putOutputs_wf | apply memPutSlot_wf | apply carry_wf | (rw [queueEvent_dmem]) | exact nil_wf | (rw [setQueued_dmem]) | split)); exact rfl])
    | ((with_reducible apply Effect.after (State.alarm_effect ..)); exact rfl)
    | ((with_reducible apply Effect.after (State.logicStop_effect ..)); exact rfl)
    | ((with_reducible apply Effect.after (State.lensRest_effect ..)); exact rfl)
    | split

theorem State.MemOk.facet {s : State} (w : s.MemOk) (k : Nat) : Memory.wf (s.facets.get k).dmem = true :=
  Tbl.get_of_all (P := fun x : FacetSt => Memory.wf x.dmem = true) w.1 w.2 k

theorem Effect.putFacet {m : Nat} {s b : State} {l f : Nat} {g : FacetSt → FacetSt} (h : Effect m s b)
    (hg : b.MemOk → ∀ x, Memory.wf (g x).dmem = true) (i : 64 &&& m = 64) : Effect m s (b.updFacet l f g) := by
  refine h.go (g := 64) ⟨fun p hp => by cases p <;> first | exact rfl | exact absurd hp (by decide),
    ⟨rfl, Nat.le_refl _, List.prefix_refl _, fun w => ⟨w.1, fun r hr => ?_⟩⟩, rfl⟩ i
  rcases mem_putRow hr with h | h
  · rw [h]; exact hg w _
  · exact w.2 r h

/-- An instruction that touches only its facet, and keeps the canonical form of its data memory, does no more than a
program fault may do. -/
theorem State.facetOp_effect {m : Nat} {s0 s : State} {l f : Nat} {g : FacetSt → FRes} (h0 : Effect m s0 s)
    (hg : KeepsMem g) (hm : 0x4fad8c03fd2 &&& m = 0x4fad8c03fd2) : Effect m s0 (s.facetOp l f g) := by
  unfold State.facetOp
  refine Effect.ite (fun _ => ?_) (fun _ => h0)
  split
  · rename_i x e
    exact Effect.putFacet h0 (fun w _ => (hg _ x (w.facet _) e :)) (Effect.land hm rfl)
  · exact Effect.after (State.programFault_effect ..) (Effect.land hm rfl) h0

theorem State.facetJump_effect {m : Nat} {s0 s : State} {l f : Nat} {g : FacetSt → FRes} (h0 : Effect m s0 s)
    (hg : KeepsMem g) (hm : 0x4fad8c03fd2 &&& m = 0x4fad8c03fd2) : Effect m s0 (s.facetJump l f g) := by
  unfold State.facetJump
  refine Effect.ite (fun _ => ?_) (fun _ => h0)
  split
  · rename_i x e
    exact Effect.putFacet h0 (fun w _ => (hg _ x (w.facet _) e :)) (Effect.land hm rfl)
  · exact Effect.after (State.programFault_effect ..) (Effect.land hm rfl) h0

theorem State.facetSys_effect {m : Nat} {s0 : State} (s : State) (l : ℕ) (f : ℕ) (bad : Option FFault) (g : State → State) (h0 : Effect m s0 s) (hg : ∀ (t : State), Effect m s0 t → Effect m s0 (g t))
    (hm : 0x4FAD8C03FD2 &&& m = 0x4FAD8C03FD2) : Effect m s0 (State.facetSys s l f bad g) := by
  unfold State.facetSys
  try dsimp only
  repeat' first
    | with_reducible apply Effect.refl
    | with_reducible assumption
    | ((with_reducible apply Effect.ite) <;> intro _)
    | with_reducible refine hg _ ?_
    | ((with_reducible apply Effect.after (State.programFault_effect ..)); exact Effect.land hm rfl)
    | ((with_reducible apply Effect.updFacet) <;> [skip; (intro x hx; (try dsimp only); repeat' (first | exact hx | apply memPutNat_wf | apply memPut_wf | apply initData_wf | apply exchangeData_wf | apply restoreArea_wf | apply restoreRetain_wf | apply loadWindow_wf | apply statusBlock_wf | apply loadStream_wf | apply freshData_wf | apply putOutputs_wf | apply memPutSlot_wf | apply carry_wf | (rw [queueEvent_dmem]) | exact nil_wf | (rw [setQueued_dmem]) | split)); exact Effect.land hm rfl])
    | split

theorem State.loupeSample_effect (s : State) (l : ℕ) (f : ℕ) (h : ℕ) :
    Effect 0x4000000000 s (State.loupeSample s l f h) := by
  unfold State.loupeSample
  try dsimp only
  repeat' first
    | with_reducible apply Effect.refl
    | with_reducible assumption
    | ((with_reducible apply Effect.ite) <;> intro _)
    | ((with_reducible apply Effect.each) <;> [skip; (intro t x ht)])
    | ((with_reducible apply Effect.after (State.updLoupe_effect ..)); exact rfl)

theorem State.logicRestore_effect (s : State) (p : ℕ) :
    Effect 0x4000000BC0 s (State.logicRestore s p) := by
  unfold State.logicRestore
  try dsimp only
  repeat' first
    | with_reducible apply Effect.refl
    | with_reducible assumption
    | ((with_reducible apply Effect.after (State.updProg_effect ..)); exact rfl)
    | ((with_reducible apply Effect.after (State.loseSeal_effect ..)); exact rfl)
    | ((with_reducible apply Effect.updFacet) <;> [skip; (intro x hx; (try dsimp only); repeat' (first | exact hx | apply memPutNat_wf | apply memPut_wf | apply initData_wf | apply exchangeData_wf | apply restoreArea_wf | apply restoreRetain_wf | apply loadWindow_wf | apply statusBlock_wf | apply loadStream_wf | apply freshData_wf | apply putOutputs_wf | apply memPutSlot_wf | apply carry_wf | (rw [queueEvent_dmem]) | exact nil_wf | (rw [setQueued_dmem]) | split)); exact rfl])
    | ((with_reducible apply Effect.after (State.atBoundary_effect ..)); exact rfl)
    | ((with_reducible apply Effect.after (State.updLogic_effect ..)); exact rfl)

theorem State.noteLast_effect (s : State) (p : ℕ) (ns : ℕ) :
    Effect 0x800 s (State.noteLast s p ns) := by
  unfold State.noteLast
  try dsimp only
  repeat' first
    | with_reducible apply Effect.refl
    | with_reducible assumption
    | ((with_reducible apply Effect.after (State.updLogic_effect ..)); exact rfl)

theorem State.logicEnd_effect (s : State) (p : ℕ) :
    Effect 0x4FAD8C03FD2 s (State.logicEnd s p) := by
  unfold State.logicEnd
  try dsimp only
  repeat' first
    | with_reducible apply Effect.refl
    | with_reducible assumption
    | ((with_reducible apply Effect.ite) <;> intro _)
    | ((with_reducible apply Effect.after (State.updLogic_effect ..)); exact rfl)
    | ((with_reducible apply Effect.after (State.noteLast_effect ..)); exact rfl)
    | ((with_reducible apply Effect.after (State.updProg_effect ..)); exact rfl)
    | ((with_reducible apply Effect.after (State.startExch_effect ..)); exact rfl)
    | ((with_reducible apply Effect.after (State.event_effect ..)); exact rfl)
    | ((with_reducible apply Effect.after (State.logicRestore_effect ..)); exact rfl)
    | ((with_reducible apply Effect.after (State.logicStop_effect ..)); exact rfl)

theorem State.issueGoose_effect (s : State) (g : ℕ) (n : ℕ) :
    Effect 0x4F200800002 s (State.issueGoose s g n) := by
  unfold State.issueGoose
  try dsimp only
  repeat' first
    | with_reducible apply Effect.refl
    | with_reducible assumption
    | ((with_reducible apply Effect.ite) <;> intro _)
    | ((with_reducible apply Effect.after (State.updGp_effect ..)); exact rfl)
    | ((with_reducible apply Effect.after (State.gpChange_effect ..)); exact rfl)

theorem State.protIssue_effect (s : State) (i : ℕ) :
    Effect 0x4F202A000C2 s (State.protIssue s i) := by
  unfold State.protIssue
  try dsimp only
  repeat' first
    | with_reducible apply Effect.refl
    | with_reducible assumption
    | ((with_reducible apply Effect.ite) <;> intro _)
    | ((with_reducible apply Effect.after (State.updProt_effect ..)); exact rfl)
    | ((with_reducible apply Effect.after (State.clearAlarm_effect ..)); exact rfl)
    | ((with_reducible apply Effect.each) <;> [skip; (intro t x ht)])
    | ((with_reducible apply Effect.after (State.loseSeal_effect ..)); exact rfl)
    | ((with_reducible apply Effect.after (State.emits_effect ..)); exact rfl)
    | ((with_reducible apply Effect.after (State.issueGoose_effect ..)); exact rfl)
    | ((with_reducible apply Effect.after (State.closeEpoch_effect ..)); exact rfl)
    | split
    | ((with_reducible apply Effect.upd) <;> [skip; exact rfl; (intro p hp; cases p <;> first | exact rfl | exact absurd hp (by decide))])

theorem State.protBegin_effect (s : State) (l : ℕ) (h : ℕ) (n : ℕ) :
    Effect 0x4F2D8C007C2 s (State.protBegin s l h n) := by
  unfold State.protBegin
  try dsimp only
  repeat' first
    | with_reducible apply Effect.refl
    | with_reducible assumption
    | ((with_reducible apply Effect.ite) <;> intro _)
    | ((with_reducible apply Effect.after (State.updProg_effect ..)); exact rfl)
    | ((with_reducible apply Effect.after (State.stopFacet_effect ..)); exact rfl)
    | ((with_reducible apply Effect.after (State.raise_effect ..)); exact rfl)

theorem State.protEnd_effect (s : State) (i : ℕ) (h : ℕ) :
    Effect 0x4F2DAE007C2 s (State.protEnd s i h) := by
  unfold State.protEnd
  try dsimp only
  repeat' first
    | with_reducible apply Effect.refl
    | with_reducible assumption
    | ((with_reducible apply Effect.ite) <;> intro _)
    | ((with_reducible apply Effect.after (State.updProg_effect ..)); exact rfl)
    | ((with_reducible apply Effect.after (State.updLens_effect ..)); exact rfl)
    | ((with_reducible apply Effect.after (State.protBegin_effect ..)); exact rfl)
    | ((with_reducible apply Effect.after (State.protIssue_effect ..)); exact rfl)

theorem State.endNow_effect (s : State) (l : ℕ) (f : ℕ) :
    Effect 0x4FADAE03FD2 s (State.endNow s l f) := by
  unfold State.endNow
  try dsimp only
  repeat' first
    | with_reducible apply Effect.refl
    | with_reducible assumption
    | ((with_reducible apply Effect.ite) <;> intro _)
    | ((with_reducible apply Effect.after (State.loupeSample_effect ..)); exact rfl)
    | ((with_reducible apply Effect.updFacet) <;> [skip; (intro x hx; (try dsimp only); repeat' (first | exact hx | apply memPutNat_wf | apply memPut_wf | apply initData_wf | apply exchangeData_wf | apply restoreArea_wf | apply restoreRetain_wf | apply loadWindow_wf | apply statusBlock_wf | apply loadStream_wf | apply freshData_wf | apply putOutputs_wf | apply memPutSlot_wf | apply carry_wf | (rw [queueEvent_dmem]) | exact nil_wf | (rw [setQueued_dmem]) | split)); exact rfl])
    | ((with_reducible apply Effect.after (State.consume_effect ..)); exact rfl)
    | ((with_reducible apply Effect.after (State.logicEnd_effect ..)); exact rfl)
    | ((with_reducible apply Effect.after (State.protEnd_effect ..)); exact rfl)
    | ((with_reducible apply Effect.after (State.lensRest_effect ..)); exact rfl)
    | ((with_reducible apply Effect.after (State.takeQueued_effect ..)); exact rfl)
    | ((with_reducible apply Effect.after (State.atBoundary_effect ..)); exact rfl)
    | split

end Sys2Proof.Machine
end

