-- ==== Sys2Proof/Laws/EffLogic.lean ====
section
/-! SUPPORT. What each operation of Machine/Logic.lean may do: the parts it may write, and that its result follows
what it was given (Laws/Effect.lean). -/

namespace Sys2Proof.Machine

theorem State.stnAge_effect (s : State) (i : ℕ) :
    Effect 0x2 s ((State.stnAge s i).2) := by
  unfold State.stnAge
  try dsimp only
  repeat' first
    | with_reducible apply Effect.refl
    | with_reducible assumption
    | ((with_reducible apply Effect.after (State.free_effect ..)); exact rfl)
    | ((with_reducible apply Effect.after (State.free_effect_eq ‹_›)); exact rfl)
    | split

theorem State.stnAge_effect_eq {s : State} {i : ℕ} {v_ : ℕ} {t_ : State}
    (he : State.stnAge s i = (v_, t_)) : Effect 0x2 s t_ := by
  have h := State.stnAge_effect s i
  rw [he] at h
  exact h

theorem State.copyStn_effect (s : State) (p : ℕ) (i : ℕ) :
    Effect 0x802 s (State.copyStn s p i) := by
  unfold State.copyStn
  try dsimp only
  repeat' first
    | with_reducible apply Effect.refl
    | with_reducible assumption
    | ((with_reducible apply Effect.after (State.stnAge_effect ..)); exact rfl)
    | ((with_reducible apply Effect.after (State.stnAge_effect_eq ‹_›)); exact rfl)
    | ((with_reducible apply Effect.after (State.updLogic_effect ..)); exact rfl)

theorem State.snapStart_effect (s : State) (p : ℕ) :
    Effect 0x802 s (State.snapStart s p) := by
  unfold State.snapStart
  try dsimp only
  repeat' first
    | with_reducible apply Effect.refl
    | with_reducible assumption
    | ((with_reducible apply Effect.after (State.updLogic_effect ..)); exact rfl)
    | ((with_reducible apply Effect.after (State.copyStn_effect ..)); exact rfl)
    | split

theorem execLogicSnapshotStart_effect (p : Fin 64) (s : State) :
    Effect.ok 0x400000803 s (execLogicSnapshotStart p s) := by
  unfold execLogicSnapshotStart
  try dsimp only
  repeat' first
    | with_reducible apply Effect.refl
    | with_reducible assumption
    | ((with_reducible apply Effect.ite) <;> intro _)
    | apply Effect.ok_next
    | ((with_reducible apply Effect.after (State.snapStart_effect ..)); exact rfl)
    | ((with_reducible apply Effect.after (State.upTo_effect ..)); exact rfl)
    | split

theorem State.retimeTimers_effect (s : State) (p : ℕ) :
    Effect 0x840 s (State.retimeTimers s p) := by
  unfold State.retimeTimers
  refine Effect.ite (fun _ => ?_) (fun _ => Effect.refl _ _)
  refine Effect.after (State.updLogic_effect ..) rfl (Effect.updFacet (Effect.refl _ _) ?_ rfl)
  exact fun x hx => foldl_wf (fun _ _ h => memPutNat_wf h _ _ _) _ hx

theorem State.execBegin_effect (s : State) (p : ℕ) :
    Effect 0x9C0 s (State.execBegin s p) := by
  unfold State.execBegin
  try dsimp only
  repeat' first
    | with_reducible apply Effect.refl
    | with_reducible assumption
    | ((with_reducible apply Effect.after (State.updLogic_effect ..)); exact rfl)
    | ((with_reducible apply Effect.after (State.retimeTimers_effect ..)); exact rfl)
    | ((with_reducible apply Effect.after (State.updProg_effect ..)); exact rfl)
    | ((with_reducible apply Effect.after (State.raise_effect ..)); exact rfl)

theorem execLogicSnapshotDone_effect (p : Fin 64) (s : State) :
    Effect.ok 0x9C2 s (execLogicSnapshotDone p s) := by
  unfold execLogicSnapshotDone
  try dsimp only
  repeat' first
    | with_reducible apply Effect.refl
    | with_reducible assumption
    | ((with_reducible apply Effect.ite) <;> intro _)
    | apply Effect.ok_next
    | ((with_reducible apply Effect.each) <;> [skip; (intro t x ht)])
    | ((with_reducible apply Effect.after (State.copyStn_effect ..)); exact rfl)
    | ((with_reducible apply Effect.after (State.updProg_effect ..)); exact rfl)
    | ((with_reducible apply Effect.after (State.updLogic_effect ..)); exact rfl)
    | ((with_reducible apply Effect.after (State.execBegin_effect ..)); exact rfl)

theorem State.commitCycle_effect (s : State) (p : ℕ) :
    Effect 0x4FAD8C03FD2 s (State.commitCycle s p) := by
  unfold State.commitCycle
  try dsimp only
  repeat' first
    | with_reducible apply Effect.refl
    | with_reducible assumption
    | ((with_reducible apply Effect.ite) <;> intro _)
    | ((with_reducible apply Effect.after (State.updLogic_effect ..)); exact rfl)
    | ((with_reducible apply Effect.after (State.commitImage_effect ..)); exact rfl)
    | ((with_reducible apply Effect.after (State.closeEpoch_effect ..)); exact rfl)
    | ((with_reducible apply Effect.after (State.logicStop_effect ..)); exact rfl)

theorem execLogicCommitStart_effect (p : Fin 64) (s : State) :
    Effect.ok 0x4FAD8C03FD2 s (execLogicCommitStart p s) := by
  unfold execLogicCommitStart
  try dsimp only
  repeat' first
    | with_reducible apply Effect.refl
    | with_reducible assumption
    | ((with_reducible apply Effect.ite) <;> intro _)
    | apply Effect.ok_next
    | ((with_reducible apply Effect.after (State.commitCycle_effect ..)); exact rfl)
    | ((with_reducible apply Effect.after (State.finalCommit_effect ..)); exact rfl)
    | split

theorem execLogicCommitDone_effect (p : Fin 64) (s : State) :
    Effect.ok 0x70000019C0 s (execLogicCommitDone p s) := by
  unfold execLogicCommitDone
  try dsimp only
  repeat' first
    | with_reducible apply Effect.refl
    | with_reducible assumption
    | ((with_reducible apply Effect.ite) <;> intro _)
    | apply Effect.ok_next
    | ((with_reducible apply Effect.after (State.updLogic_effect ..)); exact rfl)
    | ((with_reducible apply Effect.after (State.logicColdStart_effect ..)); exact rfl)

theorem execLogicWatchdogExpiry_effect (p : Fin 64) (s : State) :
    Effect.ok 0x4FED8C03FD3 s (execLogicWatchdogExpiry p s) := by
  unfold execLogicWatchdogExpiry
  try dsimp only
  repeat' first
    | with_reducible apply Effect.refl
    | with_reducible assumption
    | ((with_reducible apply Effect.ite) <;> intro _)
    | apply Effect.ok_next
    | ((with_reducible apply Effect.after (State.upTo_effect ..)); exact rfl)
    | ((with_reducible apply Effect.after (State.logicRestore_effect ..)); exact rfl)
    | ((with_reducible apply Effect.after (State.updLogic_effect ..)); exact rfl)
    | ((with_reducible apply Effect.after (State.event_effect ..)); exact rfl)
    | ((with_reducible apply Effect.after (State.logicStop_effect ..)); exact rfl)
    | ((with_reducible apply Effect.after (State.lensRest_effect ..)); exact rfl)

theorem execLogicRestoreDone_effect (p : Fin 64) (s : State) :
    Effect.ok 0x802 s (execLogicRestoreDone p s) := by
  unfold execLogicRestoreDone
  try dsimp only
  repeat' first
    | with_reducible apply Effect.refl
    | with_reducible assumption
    | ((with_reducible apply Effect.ite) <;> intro _)
    | apply Effect.ok_next
    | ((with_reducible apply Effect.after (State.snapStart_effect ..)); exact rfl)
    | ((with_reducible apply Effect.after (State.startExch_effect ..)); exact rfl)

theorem execLogicExchangeDone_effect (p : Fin 64) (s : State) :
    Effect.ok 0x4F2D8C01FD2 s (execLogicExchangeDone p s) := by
  unfold execLogicExchangeDone
  try dsimp only
  repeat' first
    | with_reducible apply Effect.refl
    | with_reducible assumption
    | ((with_reducible apply Effect.ite) <;> intro _)
    | apply Effect.ok_next
    | ((with_reducible apply Effect.after (State.swapLogic_effect ..)); exact rfl)
    | ((with_reducible apply Effect.after (State.moveHome_effect ..)); exact rfl)
    | ((with_reducible apply Effect.after (State.updLens_effect ..)); exact rfl)
    | ((with_reducible apply Effect.updFacet) <;> [skip; (intro x hx; (try dsimp only); repeat' (first | exact hx | apply memPutNat_wf | apply memPut_wf | apply initData_wf | apply exchangeData_wf | apply restoreArea_wf | apply restoreRetain_wf | apply loadWindow_wf | apply statusBlock_wf | apply loadStream_wf | apply freshData_wf | apply putOutputs_wf | apply memPutSlot_wf | apply carry_wf | (rw [queueEvent_dmem]) | exact nil_wf | (rw [setQueued_dmem]) | split)); exact rfl])
    | ((with_reducible apply Effect.after (State.updProg_effect ..)); exact rfl)
    | ((with_reducible apply Effect.after (State.updLogic_effect ..)); exact rfl)
    | ((with_reducible apply Effect.after (State.execBegin_effect ..)); exact rfl)
    | ((with_reducible apply Effect.after (State.exchFinish_effect ..)); exact rfl)
    | split

end Sys2Proof.Machine
end

