-- ==== Sys2Proof/Laws/EffConvOps.lean ====
section
/-! SUPPORT. What each operation of Machine/ConvOps.lean may do: the parts it may write, and that its result follows
what it was given (Laws/Effect.lean). -/

namespace Sys2Proof.Machine

theorem State.eachSm_effect (s : State) (a : ℕ) (f : ℕ → SmSt → SmSt) :
    Effect 0x10000000 s (State.eachSm s a f) := by
  unfold State.eachSm
  try dsimp only
  repeat' first
    | with_reducible apply Effect.refl
    | with_reducible assumption
    | ((with_reducible apply Effect.each) <;> [skip; (intro t x ht)])
    | ((with_reducible apply Effect.after (State.updSm_effect ..)); exact rfl)

theorem State.armSummary_effect (s : State) (a : ℕ) :
    Effect 0x8000002 s (State.armSummary s a) := by
  unfold State.armSummary
  try dsimp only
  repeat' first
    | with_reducible apply Effect.refl
    | with_reducible assumption
    | ((with_reducible apply Effect.after (State.free_effect ..)); exact rfl)
    | ((with_reducible apply Effect.after (State.free_effect_eq ‹_›)); exact rfl)
    | ((with_reducible apply Effect.after (State.updArm_effect ..)); exact rfl)
    | split

end Sys2Proof.Machine
end

