-- ==== Sys2Proof/Laws/EffSampled.lean ====
section
/-! SUPPORT. What each operation of Machine/Sampled.lean may do: the parts it may write, and that its result follows
what it was given (Laws/Effect.lean). -/

namespace Sys2Proof.Machine

theorem State.slotInput_effect (s : State) (l : ℕ) (i : ℕ) (x : SlotIn) :
    Effect 0x30000 s (State.slotInput s l i x) := by
  unfold State.slotInput
  try dsimp only
  repeat' first
    | with_reducible apply Effect.refl
    | with_reducible assumption
    | ((with_reducible apply Effect.ite) <;> intro _)
    | ((with_reducible apply Effect.after (State.updChain_effect ..)); exact rfl)
    | ((with_reducible apply Effect.after (State.updSlot_effect ..)); exact rfl)

theorem State.svFeed_effect (s : State) (k : ℕ) (sim : Bool) (cnt : ℕ) (tin : ℕ) (flags : Word) (vals : List (ℤ × Word)) :
    Effect 0x30000 s (State.svFeed s k sim cnt tin flags vals) := by
  unfold State.svFeed
  try dsimp only
  repeat' first
    | with_reducible apply Effect.refl
    | with_reducible assumption
    | ((with_reducible apply Effect.each) <;> [skip; (intro t x ht)])
    | ((with_reducible apply Effect.after (State.slotInput_effect ..)); exact rfl)
    | split

theorem State.updSeq_effect (s : State) (k : ℕ) (sim : Bool) (f : SvSeq → SvSeq) :
    Effect 0x8000 s (State.updSeq s k sim f) := by
  unfold State.updSeq
  try dsimp only
  repeat' first
    | with_reducible apply Effect.refl
    | with_reducible assumption
    | ((with_reducible apply Effect.after (State.updSv_effect ..)); exact rfl)

theorem State.svLost_effect (s : State) (k : ℕ) (sim : Bool) :
    Effect 0x28000 s (State.svLost s k sim) := by
  unfold State.svLost
  try dsimp only
  repeat' first
    | with_reducible apply Effect.refl
    | with_reducible assumption
    | ((with_reducible apply Effect.each) <;> [skip; (intro t x ht)])
    | ((with_reducible apply Effect.after (State.updSeq_effect ..)); exact rfl)
    | ((with_reducible apply Effect.after (State.updSlot_effect ..)); exact rfl)

theorem State.svAccept_effect (s : State) (k : ℕ) (sim : Bool) (cnt : ℕ) (tin : ℕ) (unsync : Bool) (vals : List (ℤ × Word)) :
    Effect 0x38000 s (State.svAccept s k sim cnt tin unsync vals) := by
  unfold State.svAccept
  try dsimp only
  repeat' first
    | with_reducible apply Effect.refl
    | with_reducible assumption
    | ((with_reducible apply Effect.ite) <;> intro _)
    | ((with_reducible apply Effect.after (State.updSv_effect ..)); exact rfl)
    | ((with_reducible apply Effect.each) <;> [skip; (intro t x ht)])
    | ((with_reducible apply Effect.after (State.svFeed_effect ..)); exact rfl)
    | ((with_reducible apply Effect.after (State.svLost_effect ..)); exact rfl)
    | ((with_reducible apply Effect.after (State.updSeq_effect ..)); exact rfl)

theorem State.svSample_effect (s : State) (k : ℕ) (sim : Bool) (synch : ℕ) (arrival : ℕ) (a : SvAsdu) :
    Effect 0x38000 s (State.svSample s k sim synch arrival a) := by
  unfold State.svSample
  try dsimp only
  repeat' first
    | with_reducible apply Effect.refl
    | with_reducible assumption
    | ((with_reducible apply Effect.ite) <;> intro _)
    | ((with_reducible apply Effect.after (State.updSv_effect ..)); exact rfl)
    | ((with_reducible apply Effect.after (State.svAccept_effect ..)); exact rfl)

theorem State.svMismatch_effect (s : State) (k : ℕ) :
    Effect 0x4000008000 s (State.svMismatch s k) := by
  unfold State.svMismatch
  try dsimp only
  repeat' first
    | with_reducible apply Effect.refl
    | with_reducible assumption
    | ((with_reducible apply Effect.ite) <;> intro _)
    | ((with_reducible apply Effect.after (State.updSv_effect ..)); exact rfl)
    | ((with_reducible apply Effect.after (State.event_effect ..)); exact rfl)

theorem State.svAuth_effect (s : State) (k : ℕ) (fr : SvFrame) :
    Effect 0x8000008000 s ((State.svAuth s k fr).2) := by
  unfold State.svAuth
  try dsimp only
  repeat' first
    | with_reducible apply Effect.refl
    | with_reducible assumption
    | ((with_reducible apply Effect.ite) <;> intro _)
    | ((with_reducible apply Effect.after (State.updSv_effect ..)); exact rfl)
    | ((with_reducible apply Effect.after (State.useKey_effect ..)); exact rfl)
    | ((with_reducible apply Effect.after (State.useKey_effect_eq ‹_›)); exact rfl)
    | split

theorem State.svAuth_effect_eq {s : State} {k : ℕ} {fr : SvFrame} {v_ : Bool} {t_ : State}
    (he : State.svAuth s k fr = (v_, t_)) : Effect 0x8000008000 s t_ := by
  have h := State.svAuth_effect s k fr
  rw [he] at h
  exact h

theorem State.svTake_effect (s : State) (k : ℕ) (arrival : ℕ) (fr : SvFrame) :
    Effect 0xC000038000 s (State.svTake s k arrival fr) := by
  unfold State.svTake
  try dsimp only
  repeat' first
    | with_reducible apply Effect.refl
    | with_reducible assumption
    | ((with_reducible apply Effect.ite) <;> intro _)
    | ((with_reducible apply Effect.after (State.svMismatch_effect ..)); exact rfl)
    | ((with_reducible apply Effect.after (State.svAuth_effect ..)); exact rfl)
    | ((with_reducible apply Effect.after (State.svAuth_effect_eq ‹_›)); exact rfl)
    | ((with_reducible apply Effect.each) <;> [skip; (intro t x ht)])
    | ((with_reducible apply Effect.after (State.svSample_effect ..)); exact rfl)

theorem execSvFrameRx_effect (fr : SvFrame) (t : ℕ) (s : State) :
    Effect.ok 0xC400038001 s (execSvFrameRx fr t s) := by
  unfold execSvFrameRx
  try dsimp only
  repeat' first
    | with_reducible apply Effect.refl
    | with_reducible assumption
    | apply Effect.ok_next
    | ((with_reducible apply Effect.after (State.upTo_effect ..)); exact rfl)
    | ((with_reducible apply Effect.each) <;> [skip; (intro t x ht)])
    | ((with_reducible apply Effect.after (State.svTake_effect ..)); exact rfl)

theorem execSvKeySwitch_effect (k : Fin 512) (s : State) :
    Effect.ok 0x8000 s (execSvKeySwitch k s) := by
  unfold execSvKeySwitch
  try dsimp only
  repeat' first
    | with_reducible apply Effect.refl
    | with_reducible assumption
    | ((with_reducible apply Effect.ite) <;> intro _)
    | apply Effect.ok_next
    | ((with_reducible apply Effect.after (State.updSv_effect ..)); exact rfl)

theorem execSvSampleTimeout_effect (k : Fin 512) (s : State) :
    Effect.ok 0x400028001 s (execSvSampleTimeout k s) := by
  unfold execSvSampleTimeout
  try dsimp only
  repeat' first
    | with_reducible apply Effect.refl
    | with_reducible assumption
    | ((with_reducible apply Effect.ite) <;> intro _)
    | apply Effect.ok_next
    | ((with_reducible apply Effect.after (State.updSv_effect ..)); exact rfl)
    | ((with_reducible apply Effect.after (State.upToTai_effect ..)); exact rfl)
    | ((with_reducible apply Effect.after (State.updSeq_effect ..)); exact rfl)
    | ((with_reducible apply Effect.after (State.svLost_effect ..)); exact rfl)

theorem State.slotValue_effect (s : State) (l : ℕ) (i : ℕ) (h : List SlotIn) :
    Effect 0x2 s ((State.slotValue s l i h).2) := by
  unfold State.slotValue
  try dsimp only
  repeat' first
    | with_reducible apply Effect.refl
    | with_reducible assumption
    | ((with_reducible apply Effect.after (State.free_effect ..)); exact rfl)
    | ((with_reducible apply Effect.after (State.free_effect_eq ‹_›)); exact rfl)
    | split

theorem State.slotValue_effect_eq {s : State} {l : ℕ} {i : ℕ} {h : List SlotIn} {v_ : ℤ} {t_ : State}
    (he : State.slotValue s l i h = (v_, t_)) : Effect 0x2 s t_ := by
  have h := State.slotValue_effect s l i h
  rw [he] at h
  exact h

theorem State.slotOutput_effect (s : State) (l : ℕ) (i : ℕ) (n : ℕ) :
    Effect 0x20002 s (State.slotOutput s l i n) := by
  unfold State.slotOutput
  try dsimp only
  repeat' first
    | with_reducible apply Effect.refl
    | with_reducible assumption
    | ((with_reducible apply Effect.after (State.slotValue_effect ..)); exact rfl)
    | ((with_reducible apply Effect.after (State.slotValue_effect_eq ‹_›)); exact rfl)
    | ((with_reducible apply Effect.after (State.updSlot_effect ..)); exact rfl)
    | split

theorem execFocusChainOutput_effect (l : Fin 16) (c : Fin 32) (s : State) :
    Effect.ok 0x20002 s (execFocusChainOutput l c s) := by
  unfold execFocusChainOutput
  try dsimp only
  repeat' first
    | with_reducible apply Effect.refl
    | with_reducible assumption
    | ((with_reducible apply Effect.ite) <;> intro _)
    | apply Effect.ok_next
    | ((with_reducible apply Effect.each) <;> [skip; (intro t x ht)])
    | ((with_reducible apply Effect.after (State.slotOutput_effect ..)); exact rfl)
    | split

end Sys2Proof.Machine
end

