-- ==== Sys2Proof/Laws/EffTimeOps.lean ====
section
/-! SUPPORT. What each operation of Machine/TimeOps.lean may do: the parts it may write, and that its result follows
what it was given (Laws/Effect.lean). -/

namespace Sys2Proof.Machine

theorem State.setTai_effect (s : State) (t : ℕ) :
    Effect 0x400000000 s (State.setTai s t) := by
  unfold State.setTai
  try dsimp only
  repeat' first
    | with_reducible apply Effect.refl
    | with_reducible assumption
    | split
    | ((with_reducible apply Effect.upd) <;> [skip; exact rfl; (intro p hp; cases p <;> first | exact rfl | exact absurd hp (by decide))])

theorem State.stepTime_effect (s : State) (t : ℕ) :
    Effect 0x4C04000000 s (State.stepTime s t) := by
  unfold State.stepTime
  try dsimp only
  repeat' first
    | with_reducible apply Effect.refl
    | with_reducible assumption
    | ((with_reducible apply Effect.after (State.setTai_effect ..)); exact rfl)
    | ((with_reducible apply Effect.after (State.updCnv_effect ..)); exact rfl)
    | ((with_reducible apply Effect.each) <;> [skip; (intro t x ht)])
    | ((with_reducible apply Effect.after (State.updFbc_effect ..)); exact rfl)
    | ((with_reducible apply Effect.after (State.updGrp_effect ..)); exact rfl)
    | ((with_reducible apply Effect.after (State.updTp_effect ..)); exact rfl)

theorem State.freshTime_effect (s : State) :
    Effect 0x400000000 s (State.freshTime s) := by
  unfold State.freshTime
  try dsimp only
  repeat' first
    | with_reducible apply Effect.refl
    | with_reducible assumption
    | split
    | ((with_reducible apply Effect.upd) <;> [skip; exact rfl; (intro p hp; cases p <;> first | exact rfl | exact absurd hp (by decide))])

theorem State.toFreerun_effect (s : State) :
    Effect 0x4C00000000 s (State.toFreerun s) := by
  unfold State.toFreerun
  try dsimp only
  repeat' first
    | with_reducible apply Effect.refl
    | with_reducible assumption
    | ((with_reducible apply Effect.ite) <;> intro _)
    | ((with_reducible apply Effect.after (State.updCol_effect ..)); exact rfl)
    | ((with_reducible apply Effect.each) <;> [skip; (intro t x ht)])
    | ((with_reducible apply Effect.after (State.alarm_effect ..)); exact rfl)
    | ((with_reducible apply Effect.after (State.updFbc_effect ..)); exact rfl)

theorem State.toHoldover_effect (s : State) :
    Effect 0x400000000 s (State.toHoldover s) := by
  unfold State.toHoldover
  try dsimp only
  repeat' first
    | with_reducible apply Effect.refl
    | with_reducible assumption
    | ((with_reducible apply Effect.after (State.updCol_effect ..)); exact rfl)

theorem State.toLocked_effect (s : State) :
    Effect 0x4400000000 s (State.toLocked s) := by
  unfold State.toLocked
  try dsimp only
  repeat' first
    | with_reducible apply Effect.refl
    | with_reducible assumption
    | ((with_reducible apply Effect.after (State.updCol_effect ..)); exact rfl)
    | ((with_reducible apply Effect.after (State.clearAlarm_effect ..)); exact rfl)

theorem State.servoRate_effect (s : State) :
    Effect 0x400000002 s (State.servoRate s) := by
  unfold State.servoRate
  try dsimp only
  repeat' first
    | with_reducible apply Effect.refl
    | with_reducible assumption
    | ((with_reducible apply Effect.after (State.free_effect ..)); exact rfl)
    | ((with_reducible apply Effect.after (State.free_effect_eq ‹_›)); exact rfl)
    | ((with_reducible apply Effect.after (State.updCol_effect ..)); exact rfl)

end Sys2Proof.Machine
end

