-- ==== Sys2Proof/Laws/EffTimeBase.lean ====
section
/-! SUPPORT. What each operation of Machine/TimeBase.lean may do: the parts it may write, and that its result follows
what it was given (Laws/Effect.lean). -/

namespace Sys2Proof.Machine

theorem execPtpSyncRx_effect (p : Fin 5) (off : ℤ) (s : State) :
    Effect.ok 0x4C04000002 s (execPtpSyncRx p off s) := by
  unfold execPtpSyncRx
  try dsimp only
  repeat' first
    | with_reducible apply Effect.refl
    | with_reducible assumption
    | ((with_reducible apply Effect.ite) <;> intro _)
    | apply Effect.ok_next
    | ((with_reducible apply Effect.after (State.updCol_effect ..)); exact rfl)
    | ((with_reducible apply Effect.after (State.event_effect ..)); exact rfl)
    | ((with_reducible apply Effect.after (State.toLocked_effect ..)); exact rfl)
    | ((with_reducible apply Effect.after (State.stepTime_effect ..)); exact rfl)
    | ((with_reducible apply Effect.after (State.alarm_effect ..)); exact rfl)
    | ((with_reducible apply Effect.after (State.clearAlarm_effect ..)); exact rfl)
    | ((with_reducible apply Effect.after (State.servoRate_effect ..)); exact rfl)
    | split

theorem execPtpAnnounceRx_effect (p : Fin 5) (a : Announce) (s : State) :
    Effect.ok 0x4400000000 s (execPtpAnnounceRx p a s) := by
  unfold execPtpAnnounceRx
  try dsimp only
  repeat' first
    | with_reducible apply Effect.refl
    | with_reducible assumption
    | ((with_reducible apply Effect.ite) <;> intro _)
    | apply Effect.ok_next
    | ((with_reducible apply Effect.after (State.updCol_effect ..)); exact rfl)
    | ((with_reducible apply Effect.after (State.event_effect ..)); exact rfl)
    | split

theorem execPtpPdelayRx_effect (p : Fin 5) (m : PdelayMsg) (s : State) :
    Effect.ok 0x400000000 s (execPtpPdelayRx p m s) := by
  unfold execPtpPdelayRx
  try dsimp only
  repeat' first
    | with_reducible apply Effect.refl
    | with_reducible assumption
    | apply Effect.ok_next
    | ((with_reducible apply Effect.after (State.updCol_effect ..)); exact rfl)

theorem State.ptpSend_effect (s : State) (p : ℕ) :
    Effect 0x40400000000 s (State.ptpSend s p) := by
  unfold State.ptpSend
  try dsimp only
  repeat' first
    | with_reducible apply Effect.refl
    | with_reducible assumption
    | ((with_reducible apply Effect.ite) <;> intro _)
    | ((with_reducible apply Effect.after (State.updCol_effect ..)); exact rfl)
    | ((with_reducible apply Effect.after (State.emit_effect ..)); exact rfl)
    | ((with_reducible apply Effect.after (State.emits_effect ..)); exact rfl)

theorem State.ptpTick_effect (s : State) :
    Effect 0x40400000000 s (State.ptpTick s) := by
  unfold State.ptpTick
  try dsimp only
  repeat' first
    | with_reducible apply Effect.refl
    | with_reducible assumption
    | ((with_reducible apply Effect.ite) <;> intro _)
    | ((with_reducible apply Effect.after (State.updCol_effect ..)); exact rfl)
    | ((with_reducible apply Effect.each) <;> [skip; (intro t x ht)])
    | ((with_reducible apply Effect.after (State.ptpSend_effect ..)); exact rfl)

theorem execAnnounceTimeout_effect (s : State) : Effect.ok 0x4c00000001 s (execAnnounceTimeout s) := by
  unfold execAnnounceTimeout
  apply Effect.ok_next
  refine Effect.ite (fun _ => Effect.refl _ _) (fun _ => ?_)
  extract_lets s1 quiet s2
  have h2 : Effect 0x4c00000001 s s2 := ((State.upTo_effect ..).mono rfl).go (State.updCol_effect ..) rfl
  clear_value s2
  split
  · exact h2.go (State.toFreerun_effect ..) rfl
  · exact h2.go (State.toHoldover_effect ..) rfl
  · exact h2

theorem execHoldoverEnd_effect (byTemp : Bool) (s : State) :
    Effect.ok 0x4C00000001 s (execHoldoverEnd byTemp s) := by
  unfold execHoldoverEnd
  try dsimp only
  repeat' first
    | with_reducible apply Effect.refl
    | with_reducible assumption
    | ((with_reducible apply Effect.ite) <;> intro _)
    | apply Effect.ok_next
    | ((with_reducible apply Effect.after (State.upTo_effect ..)); exact rfl)
    | ((with_reducible apply Effect.after (State.alarm_effect ..)); exact rfl)
    | ((with_reducible apply Effect.after (State.toFreerun_effect ..)); exact rfl)
    | ((with_reducible apply Effect.after (State.updCol_effect ..)); exact rfl)

theorem execRefFault_effect (s : State) :
    Effect.ok 0x4C00000000 s (execRefFault s) := by
  unfold execRefFault
  try dsimp only
  repeat' first
    | with_reducible apply Effect.refl
    | with_reducible assumption
    | ((with_reducible apply Effect.ite) <;> intro _)
    | apply Effect.ok_next
    | ((with_reducible apply Effect.after (State.alarm_effect ..)); exact rfl)
    | ((with_reducible apply Effect.after (State.toFreerun_effect ..)); exact rfl)
    | ((with_reducible apply Effect.after (State.freshTime_effect ..)); exact rfl)
    | ((with_reducible apply Effect.after (State.updCol_effect ..)); exact rfl)

theorem State.latchTime_effect (s : State) (p : TimePort) :
    Effect 0x400000000 s (State.latchTime s p) := by
  unfold State.latchTime
  try dsimp only
  repeat' first
    | with_reducible apply Effect.refl
    | with_reducible assumption
    | ((with_reducible apply Effect.after (State.updCol_effect ..)); exact rfl)

theorem execColTimeRead_effect (p : TimePort) (s : State) :
    Effect.ok 0x80400000004 s (execColTimeRead p s) := by
  unfold execColTimeRead
  try dsimp only
  repeat' first
    | with_reducible apply Effect.refl
    | with_reducible assumption
    | ((with_reducible apply Effect.ite) <;> intro _)
    | apply Effect.ok_next
    | ((with_reducible apply Effect.after (State.latchTime_effect ..)); exact rfl)
    | ((with_reducible apply Effect.updGlb) <;> [skip; (intro x; first | rfl | (dsimp only; split <;> rfl)); exact rfl])
    | split
    | ((with_reducible apply Effect.upd) <;> [skip; exact rfl; (intro p hp; cases p <;> first | exact rfl | exact absurd hp (by decide))])

theorem State.setGo_effect (s : State) (v : Word) :
    Effect 0x4C04000004 s (State.setGo s v) := by
  unfold State.setGo
  try dsimp only
  repeat' first
    | with_reducible apply Effect.refl
    | with_reducible assumption
    | ((with_reducible apply Effect.ite) <;> intro _)
    | ((with_reducible apply Effect.after (State.lockedWrite_effect ..)); exact rfl)
    | ((with_reducible apply Effect.after (State.updCol_effect ..)); exact rfl)
    | ((with_reducible apply Effect.after (State.stepTime_effect ..)); exact rfl)

theorem State.setNs_effect (s : State) (v : Word) :
    Effect 0x400000004 s (State.setNs s v) := by
  unfold State.setNs
  try dsimp only
  repeat' first
    | with_reducible apply Effect.refl
    | with_reducible assumption
    | ((with_reducible apply Effect.ite) <;> intro _)
    | ((with_reducible apply Effect.after (State.lockedWrite_effect ..)); exact rfl)
    | ((with_reducible apply Effect.after (State.updCol_effect ..)); exact rfl)

theorem execColSetGo_effect (v : Word) (s : State) :
    Effect.ok 0x4C04000004 s (execColSetGo v s) := by
  unfold execColSetGo
  try dsimp only
  repeat' first
    | with_reducible apply Effect.refl
    | with_reducible assumption
    | ((with_reducible apply Effect.ite) <;> intro _)
    | apply Effect.ok_next
    | ((with_reducible apply Effect.after (State.setGo_effect ..)); exact rfl)
    | ((with_reducible apply Effect.after (State.notReadyWrite_effect ..)); exact rfl)

theorem execColSetNsWrite_effect (v : Word) (s : State) :
    Effect.ok 0x400000004 s (execColSetNsWrite v s) := by
  unfold execColSetNsWrite
  try dsimp only
  repeat' first
    | with_reducible apply Effect.refl
    | with_reducible assumption
    | ((with_reducible apply Effect.ite) <;> intro _)
    | apply Effect.ok_next
    | ((with_reducible apply Effect.after (State.setNs_effect ..)); exact rfl)
    | ((with_reducible apply Effect.after (State.notReadyWrite_effect ..)); exact rfl)

end Sys2Proof.Machine
end

