-- ==== Sys2Proof/Laws/EffPeriscope.lean ====
section
/-! SUPPORT. What each operation of Machine/Periscope.lean may do: the parts it may write, and that its result follows
what it was given (Laws/Effect.lean). -/

namespace Sys2Proof.Machine

theorem State.measure_effect (s : State) (xs : List (ℕ × ℤ)) :
    Effect 0x2 s ((State.measure s xs).2) := by
  unfold State.measure
  try dsimp only
  repeat' first
    | with_reducible apply Effect.refl
    | with_reducible assumption
    | ((with_reducible apply Effect.after (State.free_effect ..)); exact rfl)
    | ((with_reducible apply Effect.after (State.free_effect_eq ‹_›)); exact rfl)
    | split

theorem State.measure_effect_eq {s : State} {xs : List (ℕ × ℤ)} {v_ : List ℤ} {t_ : State}
    (he : State.measure s xs = (v_, t_)) : Effect 0x2 s t_ := by
  have h := State.measure_effect s xs
  rw [he] at h
  exact h

theorem State.toHists_effect (s : State) (r : PerRec) :
    Effect 0x4000000000 s (State.toHists s r) := by
  unfold State.toHists
  try dsimp only
  repeat' first
    | with_reducible apply Effect.refl
    | with_reducible assumption
    | ((with_reducible apply Effect.each) <;> [skip; (intro t x ht)])
    | split
    | ((with_reducible apply Effect.upd) <;> [skip; exact rfl; (intro p hp; cases p <;> first | exact rfl | exact absurd hp (by decide))])

theorem State.toPmaps_effect (s : State) (r : PerRec) :
    Effect 0x4000000000 s (State.toPmaps s r) := by
  unfold State.toPmaps
  try dsimp only
  repeat' first
    | with_reducible apply Effect.refl
    | with_reducible assumption
    | ((with_reducible apply Effect.each) <;> [skip; (intro t x ht)])
    | split
    | ((with_reducible apply Effect.upd) <;> [skip; exact rfl; (intro p hp; cases p <;> first | exact rfl | exact absurd hp (by decide))])

theorem State.measureAll_effect (s : State) (r : PerRec) (lo : ℕ) :
    Effect 0x2 s ((State.measureAll s r lo).2) := by
  have key : ∀ (ks : List ℕ) (a : List (List Int) × State), Effect 0x2 a.2 (ks.foldl (fun a k =>
      let (m, s) := a.2.measure (measured r k lo)
      (a.1 ++ [m], s)) a).2 := by
    intro ks
    induction ks with
    | nil => exact fun a => Effect.refl _ _
    | cons k ks ih =>
      intro a
      exact Effect.trans ((State.measure_effect a.2 (measured r k lo)).mono rfl)
        (ih (a.1 ++ [(a.2.measure (measured r k lo)).1], (a.2.measure (measured r k lo)).2))
  exact key _ ([], s)

theorem State.measureAll_effect_eq {s : State} {r : PerRec} {lo : ℕ} {v_ : List (List Int)} {t_ : State}
    (he : State.measureAll s r lo = (v_, t_)) : Effect 0x2 s t_ := by
  have h := State.measureAll_effect s r lo
  rw [he] at h
  exact h

theorem State.endRecord_effect (s : State) (g : ℕ) (truncated : Bool) :
    Effect 0x4000000002 s (State.endRecord s g truncated) := by
  unfold State.endRecord
  try dsimp only
  repeat' first
    | with_reducible apply Effect.refl
    | with_reducible assumption
    | ((with_reducible apply Effect.after (State.measureAll_effect ..)); exact rfl)
    | ((with_reducible apply Effect.after (State.measureAll_effect_eq ‹_›)); exact rfl)
    | ((with_reducible apply Effect.after (State.updGrp_effect ..)); exact rfl)
    | ((with_reducible apply Effect.after (State.toPmaps_effect ..)); exact rfl)
    | ((with_reducible apply Effect.after (State.toHists_effect ..)); exact rfl)
    | split
    | ((with_reducible apply Effect.upd) <;> [skip; exact rfl; (intro p hp; cases p <;> first | exact rfl | exact absurd hp (by decide))])

theorem State.perCatchUp_effect (s : State) (g : ℕ) :
    Effect 0x4000000000 s (State.perCatchUp s g) := by
  unfold State.perCatchUp
  try dsimp only
  repeat' first
    | with_reducible apply Effect.refl
    | with_reducible assumption
    | ((with_reducible apply Effect.ite) <;> intro _)
    | ((with_reducible apply Effect.after (State.updGrp_effect ..)); exact rfl)

theorem State.perSample_effect (s : State) (g : ℕ) (tick : ℕ) (t : ℕ) :
    Effect 0x4000000002 s (State.perSample s g tick t) := by
  unfold State.perSample
  try dsimp only
  repeat' first
    | with_reducible apply Effect.refl
    | with_reducible assumption
    | ((with_reducible apply Effect.ite) <;> intro _)
    | ((with_reducible apply Effect.after (State.updGrp_effect ..)); exact rfl)
    | ((with_reducible apply Effect.after (State.endRecord_effect ..)); exact rfl)

theorem State.perTick_effect (s : State) (g : ℕ) :
    Effect 0x4400000003 s (State.perTick s g) := by
  unfold State.perTick
  try dsimp only
  repeat' first
    | with_reducible apply Effect.refl
    | with_reducible assumption
    | ((with_reducible apply Effect.ite) <;> intro _)
    | ((with_reducible apply Effect.after (State.perSample_effect ..)); exact rfl)
    | ((with_reducible apply Effect.after (State.perCatchUp_effect ..)); exact rfl)
    | ((with_reducible apply Effect.after (State.upToTai_effect ..)); exact rfl)
    | split

theorem execPerGroupTick_effect (g : Fin 16) (s : State) :
    Effect.ok 0x4400000003 s (execPerGroupTick g s) := by
  unfold execPerGroupTick
  try dsimp only
  repeat' first
    | with_reducible apply Effect.refl
    | with_reducible assumption
    | apply Effect.ok_next
    | ((with_reducible apply Effect.after (State.perTick_effect ..)); exact rfl)

theorem execPerRecordComplete_effect (g : Fin 16) (s : State) :
    Effect.ok 0x4400000003 s (execPerRecordComplete g s) := by
  unfold execPerRecordComplete
  try dsimp only
  repeat' first
    | with_reducible apply Effect.refl
    | with_reducible assumption
    | ((with_reducible apply Effect.ite) <;> intro _)
    | apply Effect.ok_next
    | ((with_reducible apply Effect.after (State.perTick_effect ..)); exact rfl)

theorem execHoldoffEnd_effect (g : Fin 16) (s : State) :
    Effect.ok 0x4400000001 s (execHoldoffEnd g s) := by
  unfold execHoldoffEnd
  try dsimp only
  repeat' first
    | with_reducible apply Effect.refl
    | with_reducible assumption
    | ((with_reducible apply Effect.ite) <;> intro _)
    | apply Effect.ok_next
    | ((with_reducible apply Effect.after (State.perCatchUp_effect ..)); exact rfl)
    | ((with_reducible apply Effect.after (State.upTo_effect ..)); exact rfl)

theorem State.perStart_effect (s : State) (g : ℕ) :
    Effect 0x4000000000 s (State.perStart s g) := by
  unfold State.perStart
  try dsimp only
  repeat' first
    | with_reducible apply Effect.refl
    | with_reducible assumption
    | ((with_reducible apply Effect.after (State.updGrp_effect ..)); exact rfl)

theorem State.perHalt_effect (s : State) (g : ℕ) :
    Effect 0x4000000002 s (State.perHalt s g) := by
  unfold State.perHalt
  try dsimp only
  repeat' first
    | with_reducible apply Effect.refl
    | with_reducible assumption
    | ((with_reducible apply Effect.after (State.endRecord_effect ..)); exact rfl)
    | ((with_reducible apply Effect.after (State.updGrp_effect ..)); exact rfl)

theorem State.setPerRun_effect (s : State) (g : ℕ) (run : Bool) :
    Effect 0x4000000002 s (State.setPerRun s g run) := by
  unfold State.setPerRun
  try dsimp only
  repeat' first
    | with_reducible apply Effect.refl
    | with_reducible assumption
    | ((with_reducible apply Effect.ite) <;> intro _)
    | ((with_reducible apply Effect.after (State.perStart_effect ..)); exact rfl)
    | ((with_reducible apply Effect.after (State.updGrp_effect ..)); exact rfl)
    | ((with_reducible apply Effect.after (State.perHalt_effect ..)); exact rfl)

theorem State.perForce_effect (s : State) (g : ℕ) :
    Effect 0x4000000000 s (State.perForce s g) := by
  unfold State.perForce
  try dsimp only
  repeat' first
    | with_reducible apply Effect.refl
    | with_reducible assumption
    | ((with_reducible apply Effect.ite) <;> intro _)
    | ((with_reducible apply Effect.after (State.updGrp_effect ..)); exact rfl)

theorem State.perWrite_effect {m : Nat} {s0 : State} (s : State) (f : State → State) (h0 : Effect m s0 s) (hf : ∀ (t : State), Effect m s0 t → Effect m s0 (f t))
    (hm : 0x4 &&& m = 0x4) : Effect m s0 (State.perWrite s f) := by
  unfold State.perWrite
  try dsimp only
  repeat' first
    | with_reducible apply Effect.refl
    | with_reducible assumption
    | with_reducible refine hf _ ?_
    | ((with_reducible apply State.unitWrite_effect) <;> [skip; (intro t  ht); exact Effect.land hm rfl])

theorem execPerRunWrite_effect (g : Fin 16) (run : Bool) (s : State) :
    Effect.ok 0x4000000006 s (execPerRunWrite g run s) := by
  unfold execPerRunWrite
  try dsimp only
  repeat' first
    | with_reducible apply Effect.refl
    | with_reducible assumption
    | apply Effect.ok_next
    | ((with_reducible apply State.perWrite_effect) <;> [skip; (intro t  ht); exact rfl])
    | ((with_reducible apply Effect.after (State.setPerRun_effect ..)); exact rfl)

theorem execPerForce_effect (g : Fin 16) (s : State) :
    Effect.ok 0x4000000004 s (execPerForce g s) := by
  unfold execPerForce
  try dsimp only
  repeat' first
    | with_reducible apply Effect.refl
    | with_reducible assumption
    | apply Effect.ok_next
    | ((with_reducible apply State.perWrite_effect) <;> [skip; (intro t  ht); exact rfl])
    | ((with_reducible apply Effect.after (State.perForce_effect ..)); exact rfl)

theorem execPerFlashCopyDone_effect (rnum : ℕ) (s : State) :
    Effect.ok 0x4000000000 s (execPerFlashCopyDone rnum s) := by
  unfold execPerFlashCopyDone
  try dsimp only
  repeat' first
    | with_reducible apply Effect.refl
    | with_reducible assumption
    | ((with_reducible apply Effect.ite) <;> intro _)
    | apply Effect.ok_next
    | ((with_reducible apply Effect.after (State.updGrp_effect ..)); exact rfl)
    | split
    | ((with_reducible apply Effect.upd) <;> [skip; exact rfl; (intro p hp; cases p <;> first | exact rfl | exact absurd hp (by decide))])

theorem State.perCopy_effect (s : State) (i : ℕ) (j : ℕ) (d : Desc) (item : List Byte) :
    Effect 0x47000000002 s (State.perCopy s i j d item) := by
  unfold State.perCopy
  try dsimp only
  repeat' first
    | with_reducible apply Effect.refl
    | with_reducible assumption
    | ((with_reducible apply Effect.after (State.complete_effect ..)); exact rfl)
    | ((with_reducible apply Effect.after (State.hostWrite_effect ..)); exact rfl)

theorem execPerReadRecord_effect (i : Fin 64) (r : Fin 8) (s : State) :
    Effect.ok 0x47000000002 s (execPerReadRecord i r s) := by
  unfold execPerReadRecord
  try dsimp only
  repeat' first
    | with_reducible apply Effect.refl
    | with_reducible assumption
    | ((with_reducible apply Effect.ite) <;> intro _)
    | apply Effect.ok_next
    | ((with_reducible apply State.runDesc_effect) <;> [skip; (intro t x1 x2 ht); exact rfl])
    | ((with_reducible apply Effect.after (State.complete_effect ..)); exact rfl)
    | ((with_reducible apply Effect.after (State.perCopy_effect ..)); exact rfl)
    | split

theorem execPerReadHist_effect (i : Fin 64) (r : Fin 8) (s : State) :
    Effect.ok 0x47000000002 s (execPerReadHist i r s) := by
  unfold execPerReadHist
  try dsimp only
  repeat' first
    | with_reducible apply Effect.refl
    | with_reducible assumption
    | ((with_reducible apply Effect.ite) <;> intro _)
    | apply Effect.ok_next
    | ((with_reducible apply State.runDesc_effect) <;> [skip; (intro t x1 x2 ht); exact rfl])
    | ((with_reducible apply Effect.after (State.complete_effect ..)); exact rfl)
    | ((with_reducible apply Effect.after (State.perCopy_effect ..)); exact rfl)
    | split
    | ((with_reducible apply Effect.upd) <;> [skip; exact rfl; (intro p hp; cases p <;> first | exact rfl | exact absurd hp (by decide))])

theorem execPerReadPmap_effect (i : Fin 64) (r : Fin 8) (s : State) :
    Effect.ok 0x47000000002 s (execPerReadPmap i r s) := by
  unfold execPerReadPmap
  try dsimp only
  repeat' first
    | with_reducible apply Effect.refl
    | with_reducible assumption
    | ((with_reducible apply Effect.ite) <;> intro _)
    | apply Effect.ok_next
    | ((with_reducible apply State.runDesc_effect) <;> [skip; (intro t x1 x2 ht); exact rfl])
    | ((with_reducible apply Effect.after (State.complete_effect ..)); exact rfl)
    | ((with_reducible apply Effect.after (State.perCopy_effect ..)); exact rfl)
    | split
    | ((with_reducible apply Effect.upd) <;> [skip; exact rfl; (intro p hp; cases p <;> first | exact rfl | exact absurd hp (by decide))])

theorem execPerReadIndex_effect (i : Fin 64) (r : Fin 8) (s : State) :
    Effect.ok 0x47000000002 s (execPerReadIndex i r s) := by
  unfold execPerReadIndex
  try dsimp only
  repeat' first
    | with_reducible apply Effect.refl
    | with_reducible assumption
    | ((with_reducible apply Effect.ite) <;> intro _)
    | apply Effect.ok_next
    | ((with_reducible apply State.runDesc_effect) <;> [skip; (intro t x1 x2 ht); exact rfl])
    | ((with_reducible apply Effect.after (State.complete_effect ..)); exact rfl)
    | ((with_reducible apply Effect.after (State.perCopy_effect ..)); exact rfl)

end Sys2Proof.Machine
end

