-- ==== Sys2Proof/Laws/EffLens.lean ====
section
/-! SUPPORT. What each operation of Machine/Lens.lean may do: the parts it may write, and that its result follows
what it was given (Laws/Effect.lean). -/

namespace Sys2Proof.Machine

theorem State.adoptSeal_effect (s : State) (l : ℕ) (h : ℕ) (n : ℕ) :
    Effect 0x2000000040 s (State.adoptSeal s l h n) := by
  unfold State.adoptSeal
  try dsimp only
  repeat' first
    | with_reducible apply Effect.refl
    | with_reducible assumption
    | ((with_reducible apply Effect.ite) <;> intro _)
    | ((with_reducible apply Effect.updFacet) <;> [skip; (intro x hx; (try dsimp only); repeat' (first | exact hx | apply memPutNat_wf | apply memPut_wf | apply initData_wf | apply exchangeData_wf | apply restoreArea_wf | apply restoreRetain_wf | apply loadWindow_wf | apply statusBlock_wf | apply loadStream_wf | apply freshData_wf | apply putOutputs_wf | apply memPutSlot_wf | apply carry_wf | (rw [queueEvent_dmem]) | exact nil_wf | (rw [setQueued_dmem]) | split)); exact rfl])
    | ((with_reducible apply Effect.after (State.updMlk_effect ..)); exact rfl)
    | split

theorem State.moveOut_effect (s : State) (l : ℕ) (h : ℕ) :
    Effect 0x140 s (State.moveOut s l h) := by
  unfold State.moveOut
  try dsimp only
  repeat' first
    | with_reducible apply Effect.refl
    | with_reducible assumption
    | ((with_reducible apply Effect.after (State.loadFacet_effect ..)); exact rfl)
    | ((with_reducible apply Effect.updFacet) <;> [skip; (intro x hx; (try dsimp only); repeat' (first | exact hx | apply memPutNat_wf | apply memPut_wf | apply initData_wf | apply exchangeData_wf | apply restoreArea_wf | apply restoreRetain_wf | apply loadWindow_wf | apply statusBlock_wf | apply loadStream_wf | apply freshData_wf | apply putOutputs_wf | apply memPutSlot_wf | apply carry_wf | (rw [queueEvent_dmem]) | exact nil_wf | (rw [setQueued_dmem]) | split)); exact rfl])
    | ((with_reducible apply Effect.after (State.updLens_effect ..)); exact rfl)
    | split

theorem State.rollMove_effect (s : State) (l : ℕ) (h : ℕ) :
    Effect 0x140 s (State.rollMove s l h) := by
  unfold State.rollMove
  try dsimp only
  repeat' first
    | with_reducible apply Effect.refl
    | with_reducible assumption
    | ((with_reducible apply Effect.ite) <;> intro _)
    | ((with_reducible apply Effect.after (State.moveOut_effect ..)); exact rfl)

theorem execSramUncorr_effect (l : Fin 16) (h : SramHit) (s : State) :
    Effect.ok 0x40000003C0 s (execSramUncorr l h s) := by
  unfold execSramUncorr
  try dsimp only
  repeat' first
    | with_reducible apply Effect.refl
    | with_reducible assumption
    | ((with_reducible apply Effect.ite) <;> intro _)
    | apply Effect.ok_next
    | ((with_reducible apply Effect.after (State.updLens_effect ..)); exact rfl)
    | ((with_reducible apply Effect.after (State.hwFault_effect ..)); exact rfl)
    | ((with_reducible apply Effect.after (State.sealCut_effect ..)); exact rfl)
    | split

theorem execFetchParity_effect (l : Fin 16) (f : Fin 64) (s : State) :
    Effect.ok 0x4000000340 s (execFetchParity l f s) := by
  unfold execFetchParity
  try dsimp only
  repeat' first
    | with_reducible apply Effect.refl
    | with_reducible assumption
    | apply Effect.ok_next
    | ((with_reducible apply Effect.after (State.hwFault_effect ..)); exact rfl)

theorem execWakeFail_effect (l : Fin 16) (f : Fin 64) (s : State) :
    Effect.ok 0x4000000340 s (execWakeFail l f s) := by
  unfold execWakeFail
  try dsimp only
  repeat' first
    | with_reducible apply Effect.refl
    | with_reducible assumption
    | apply Effect.ok_next
    | ((with_reducible apply Effect.after (State.hwFault_effect ..)); exact rfl)

theorem State.replayLogic_effect (s : State) (p : ℕ) (r : Repair) :
    Effect 0x9C0 s (State.replayLogic s p r) := by
  unfold State.replayLogic
  try dsimp only
  repeat' first
    | with_reducible apply Effect.refl
    | with_reducible assumption
    | ((with_reducible apply Effect.ite) <;> intro _)
    | ((with_reducible apply Effect.after (State.updLogic_effect ..)); exact rfl)
    | ((with_reducible apply Effect.after (State.updProg_effect ..)); exact rfl)
    | ((with_reducible apply Effect.updFacet) <;> [skip; (intro x hx; (try dsimp only); repeat' (first | exact hx | apply memPutNat_wf | apply memPut_wf | apply initData_wf | apply exchangeData_wf | apply restoreArea_wf | apply restoreRetain_wf | apply loadWindow_wf | apply statusBlock_wf | apply loadStream_wf | apply freshData_wf | apply putOutputs_wf | apply memPutSlot_wf | apply carry_wf | (rw [queueEvent_dmem]) | exact nil_wf | (rw [setQueued_dmem]) | split)); exact rfl])
    | ((with_reducible apply Effect.after (State.raise_effect ..)); exact rfl)

theorem State.replayProt_effect (s : State) (l : ℕ) (i : ℕ) (r : Repair) :
    Effect 0x4F2D8C007C2 s (State.replayProt s l i r) := by
  unfold State.replayProt
  try dsimp only
  repeat' first
    | with_reducible apply Effect.refl
    | with_reducible assumption
    | ((with_reducible apply Effect.ite) <;> intro _)
    | ((with_reducible apply Effect.after (State.protBegin_effect ..)); exact rfl)
    | ((with_reducible apply Effect.updFacet) <;> [skip; (intro x hx; (try dsimp only); repeat' (first | exact hx | apply memPutNat_wf | apply memPut_wf | apply initData_wf | apply exchangeData_wf | apply restoreArea_wf | apply restoreRetain_wf | apply loadWindow_wf | apply statusBlock_wf | apply loadStream_wf | apply freshData_wf | apply putOutputs_wf | apply memPutSlot_wf | apply carry_wf | (rw [queueEvent_dmem]) | exact nil_wf | (rw [setQueued_dmem]) | split)); exact rfl])
    | ((with_reducible apply Effect.after (State.updProg_effect ..)); exact rfl)
    | ((with_reducible apply Effect.after (State.updLens_effect ..)); exact rfl)

theorem execRepairLoadDone_effect (l : Fin 16) (s : State) :
    Effect.ok 0x4F2D8C00FC2 s (execRepairLoadDone l s) := by
  unfold execRepairLoadDone
  try dsimp only
  repeat' first
    | with_reducible apply Effect.refl
    | with_reducible assumption
    | apply Effect.ok_next
    | ((with_reducible apply Effect.after (State.loadFacet_effect ..)); exact rfl)
    | ((with_reducible apply Effect.updFacet) <;> [skip; (intro x hx; (try dsimp only); repeat' (first | exact hx | apply memPutNat_wf | apply memPut_wf | apply initData_wf | apply exchangeData_wf | apply restoreArea_wf | apply restoreRetain_wf | apply loadWindow_wf | apply statusBlock_wf | apply loadStream_wf | apply freshData_wf | apply putOutputs_wf | apply memPutSlot_wf | apply carry_wf | (rw [queueEvent_dmem]) | exact nil_wf | (rw [setQueued_dmem]) | split)); exact rfl])
    | ((with_reducible apply Effect.after (State.updLens_effect ..)); exact rfl)
    | ((with_reducible apply Effect.after (State.replayLogic_effect ..)); exact rfl)
    | ((with_reducible apply Effect.after (State.replayProt_effect ..)); exact rfl)
    | ((with_reducible apply Effect.after (State.nextRepair_effect ..)); exact rfl)
    | ((with_reducible apply Effect.after (State.takeQueued_effect ..)); exact rfl)
    | split

theorem execRepairTimeout_effect (l : Fin 16) (s : State) :
    Effect.ok 0x4400000101 s (execRepairTimeout l s) := by
  unfold execRepairTimeout
  try dsimp only
  repeat' first
    | with_reducible apply Effect.refl
    | with_reducible assumption
    | apply Effect.ok_next
    | ((with_reducible apply Effect.after (State.lensFail_effect ..)); exact rfl)
    | ((with_reducible apply Effect.after (State.upTo_effect ..)); exact rfl)
    | split

theorem State.stopLens_effect (s : State) (l : ℕ) :
    Effect 0x4FAD8C03FD2 s (State.stopLens s l) := by
  unfold State.stopLens
  try dsimp only
  repeat' first
    | with_reducible apply Effect.refl
    | with_reducible assumption
    | ((with_reducible apply Effect.ite) <;> intro _)
    | ((with_reducible apply Effect.each) <;> [skip; (intro t x ht)])
    | ((with_reducible apply Effect.after (State.logicStop_effect ..)); exact rfl)
    | ((with_reducible apply Effect.after (State.releaseAll_effect ..)); exact rfl)
    | ((with_reducible apply Effect.after (State.stopFacet_effect ..)); exact rfl)
    | ((with_reducible apply Effect.after (State.updLens_effect ..)); exact rfl)
    | split

theorem State.fenceLens_effect (s : State) (l : ℕ) :
    Effect 0x4FAD8C03FF2 s (State.fenceLens s l) := by
  unfold State.fenceLens
  try dsimp only
  repeat' first
    | with_reducible apply Effect.refl
    | with_reducible assumption
    | ((with_reducible apply Effect.ite) <;> intro _)
    | ((with_reducible apply Effect.after (State.stopLens_effect ..)); exact rfl)
    | ((with_reducible apply Effect.after (State.updLens_effect ..)); exact rfl)
    | ((with_reducible apply Effect.after (State.updUnit_effect ..)); exact rfl)
    | ((with_reducible apply Effect.each) <;> [skip; (intro t x ht)])
    | ((with_reducible apply Effect.after (State.alarm_effect ..)); exact rfl)

theorem execLensFailure_effect (l : Fin 16) (s : State) :
    Effect.ok 0x4FAD8C03FF2 s (execLensFailure l s) := by
  unfold execLensFailure
  try dsimp only
  repeat' first
    | with_reducible apply Effect.refl
    | with_reducible assumption
    | ((with_reducible apply Effect.ite) <;> intro _)
    | apply Effect.ok_next
    | ((with_reducible apply Effect.after (State.updLens_effect ..)); exact rfl)
    | ((with_reducible apply Effect.after (State.updMlk_effect ..)); exact rfl)
    | ((with_reducible apply Effect.after (State.fenceLens_effect ..)); exact rfl)
    | split

theorem execLensMemUncorr_effect (h : MemHit) (s : State) :
    Effect.ok 0x4000000100 s (execLensMemUncorr h s) := by
  unfold execLensMemUncorr
  try dsimp only
  repeat' first
    | with_reducible apply Effect.refl
    | with_reducible assumption
    | ((with_reducible apply Effect.ite) <;> intro _)
    | apply Effect.ok_next
    | ((with_reducible apply Effect.after (State.updLens_effect ..)); exact rfl)
    | ((with_reducible apply Effect.after (State.lensFail_effect ..)); exact rfl)

theorem execLensStewardFail_effect (l : Fin 16) (s : State) :
    Effect.ok 0x4000000100 s (execLensStewardFail l s) := by
  unfold execLensStewardFail
  try dsimp only
  repeat' first
    | with_reducible apply Effect.refl
    | with_reducible assumption
    | apply Effect.ok_next
    | ((with_reducible apply Effect.after (State.lensFail_effect ..)); exact rfl)
    | ((with_reducible apply Effect.after (State.updLens_effect ..)); exact rfl)

theorem State.resumeOn_effect (s : State) (l : ℕ) (k : ℕ) (h : ℕ) (readable cut : Bool) :
    Effect 0x40000009C0 s (State.resumeOn s l k h readable cut) := by
  unfold State.resumeOn
  try dsimp only
  repeat' first
    | with_reducible apply Effect.refl
    | with_reducible assumption
    | ((with_reducible apply Effect.after (State.loadAt_effect ..)); exact rfl)
    | ((with_reducible apply Effect.after (State.updProg_effect ..)); exact rfl)
    | ((with_reducible apply Effect.updFacet) <;> [skip; (intro x hx; (try dsimp only); repeat' (first | exact hx | apply memPutNat_wf | apply memPut_wf | apply initData_wf | apply exchangeData_wf | apply restoreArea_wf | apply restoreRetain_wf | apply loadWindow_wf | apply statusBlock_wf | apply loadStream_wf | apply freshData_wf | apply putOutputs_wf | apply memPutSlot_wf | apply carry_wf | (rw [queueEvent_dmem]) | exact nil_wf | (rw [setQueued_dmem]) | split)); exact rfl])
    | ((with_reducible apply Effect.after (State.updLens_effect ..)); exact rfl)
    | ((with_reducible apply Effect.after (State.updLogic_effect ..)); exact rfl)
    | split

theorem execLensRelocationDone_effect (l : Fin 16) (readable : Bool) (s : State) :
    Effect.ok 0x4F2D8C70FF2 s (execLensRelocationDone l readable s) := by
  unfold execLensRelocationDone
  try dsimp only
  repeat' first
    | with_reducible apply Effect.refl
    | with_reducible assumption
    | apply Effect.ok_next
    | ((with_reducible apply Effect.each) <;> [skip; (intro t x ht)])
    | ((with_reducible apply Effect.after (State.releaseAll_effect ..)); exact rfl)
    | ((with_reducible apply Effect.after (State.stopFacet_effect ..)); exact rfl)
    | ((with_reducible apply Effect.after (State.updSvc_effect ..)); exact rfl)
    | ((with_reducible apply Effect.after (State.resumeOn_effect ..)); exact rfl)
    | ((with_reducible apply Effect.after (State.updLens_effect ..)); exact rfl)
    | ((with_reducible apply Effect.after (State.updUnit_effect ..)); exact rfl)
    | ((with_reducible apply Effect.after (State.event_effect ..)); exact rfl)
    | split
    | ((with_reducible apply Effect.upd) <;> [skip; exact rfl; (intro p hp; cases p <;> first | exact absurd hp (by decide) | exact rfl)])

theorem execLensPretickWake_effect (l : Fin 16) (s : State) :
    Effect.ok 0x400000101 s (execLensPretickWake l s) := by
  unfold execLensPretickWake
  try dsimp only
  repeat' first
    | with_reducible apply Effect.refl
    | with_reducible assumption
    | ((with_reducible apply Effect.ite) <;> intro _)
    | apply Effect.ok_next
    | ((with_reducible apply Effect.after (State.wakeLens_effect ..)); exact rfl)
    | ((with_reducible apply Effect.after (State.upTo_effect ..)); exact rfl)
    | split

theorem execLensWakeDone_effect (l : Fin 16) (s : State) :
    Effect.ok 0x1C0 s (execLensWakeDone l s) := by
  unfold execLensWakeDone
  try dsimp only
  repeat' first
    | with_reducible apply Effect.refl
    | with_reducible assumption
    | ((with_reducible apply Effect.ite) <;> intro _)
    | apply Effect.ok_next
    | ((with_reducible apply Effect.after (State.updLens_effect ..)); exact rfl)
    | ((with_reducible apply Effect.after (State.lensRest_effect ..)); exact rfl)
    | ((with_reducible apply Effect.each) <;> [skip; (intro t x ht)])
    | ((with_reducible apply Effect.after (State.takeQueued_effect ..)); exact rfl)

theorem execLensWakeTimeout_effect (l : Fin 16) (s : State) :
    Effect.ok 0x4400000101 s (execLensWakeTimeout l s) := by
  unfold execLensWakeTimeout
  try dsimp only
  repeat' first
    | with_reducible apply Effect.refl
    | with_reducible assumption
    | apply Effect.ok_next
    | ((with_reducible apply Effect.after (State.lensFail_effect ..)); exact rfl)
    | ((with_reducible apply Effect.after (State.upTo_effect ..)); exact rfl)
    | split

theorem execStreamRecordArrival_effect (l : Fin 16) (f : Fin 64) (bytes : List Byte) (s : State) :
    Effect.ok 0x1C0 s (execStreamRecordArrival l f bytes s) := by
  unfold execStreamRecordArrival
  try dsimp only
  repeat' first
    | with_reducible apply Effect.refl
    | with_reducible assumption
    | ((with_reducible apply Effect.ite) <;> intro _)
    | apply Effect.ok_next
    | ((with_reducible apply Effect.after (State.raise_effect ..)); exact rfl)
    | ((with_reducible apply Effect.after (State.updProg_effect ..)); exact rfl)

theorem execMessageArrival_effect (l : Fin 16) (s : State) :
    Effect.ok 0x1C0 s (execMessageArrival l s) := by
  unfold execMessageArrival
  try dsimp only
  repeat' first
    | with_reducible apply Effect.refl
    | with_reducible assumption
    | apply Effect.ok_next
    | ((with_reducible apply Effect.after (State.updLens_effect ..)); exact rfl)
    | ((with_reducible apply Effect.after (State.raise_effect ..)); exact rfl)
    | ((with_reducible apply Effect.after (State.updProg_effect ..)); exact rfl)
    | split

end Sys2Proof.Machine
end

