-- ==== Sys2Proof/Laws/EffConverter.lean ====
section
/-! SUPPORT. What each operation of Machine/Converter.lean may do: the parts it may write, and that its result follows
what it was given (Laws/Effect.lean). -/

namespace Sys2Proof.Machine

theorem State.cnvSeal_effect (s : State) :
    Effect 0x43004000000 s (State.cnvSeal s) := by
  unfold State.cnvSeal
  try dsimp only
  repeat' first
    | with_reducible apply Effect.refl
    | with_reducible assumption
    | ((with_reducible apply Effect.ite) <;> intro _)
    | ((with_reducible apply Effect.after (State.updCnv_effect ..)); exact rfl)
    | ((with_reducible apply Effect.each) <;> [skip; (intro t x ht)])
    | ((with_reducible apply Effect.after (State.closeEpoch_effect ..)); exact rfl)

theorem State.deblocks_effect (s : State) (n : ℕ) :
    Effect 0x8000000 s (State.deblocks s n) := by
  unfold State.deblocks
  try dsimp only
  repeat' first
    | with_reducible apply Effect.refl
    | with_reducible assumption
    | ((with_reducible apply Effect.ite) <;> intro _)
    | ((with_reducible apply Effect.each) <;> [skip; (intro t x ht)])
    | ((with_reducible apply Effect.after (State.updArm_effect ..)); exact rfl)
    | split

theorem State.blockJob_effect (s : State) (j : ℕ) (n : ℕ) :
    Effect 0x3008000000 s (State.blockJob s j n) := by
  unfold State.blockJob
  try dsimp only
  repeat' first
    | with_reducible apply Effect.refl
    | with_reducible assumption
    | ((with_reducible apply Effect.each) <;> [skip; (intro t x ht)])
    | ((with_reducible apply Effect.after (State.updArm_effect ..)); exact rfl)
    | ((with_reducible apply Effect.after (State.endDeblock_effect ..)); exact rfl)
    | ((with_reducible apply Effect.after (State.complete_effect ..)); exact rfl)
    | split

theorem State.blockJobs_effect (s : State) (n : ℕ) :
    Effect 0x3008000000 s (State.blockJobs s n) := by
  unfold State.blockJobs
  try dsimp only
  repeat' first
    | with_reducible apply Effect.refl
    | with_reducible assumption
    | ((with_reducible apply Effect.each) <;> [skip; (intro t x ht)])
    | ((with_reducible apply Effect.after (State.blockJob_effect ..)); exact rfl)

theorem State.disableArm_effect (s : State) (a : ℕ) :
    Effect 0x3008000020 s (State.disableArm s a) := by
  unfold State.disableArm
  try dsimp only
  repeat' first
    | with_reducible apply Effect.refl
    | with_reducible assumption
    | ((with_reducible apply Effect.ite) <;> intro _)
    | ((with_reducible apply Effect.after (State.endDeblock_effect ..)); exact rfl)
    | ((with_reducible apply Effect.after (State.updArm_effect ..)); exact rfl)
    | ((with_reducible apply Effect.after (State.updUnit_effect ..)); exact rfl)
    | split

theorem State.exchLoops_effect (s : State) (n : ℕ) :
    Effect 0x4F000000152 s (State.exchLoops s n) := by
  unfold State.exchLoops
  try dsimp only
  repeat' first
    | with_reducible apply Effect.refl
    | with_reducible assumption
    | ((with_reducible apply Effect.ite) <;> intro _)
    | ((with_reducible apply Effect.each) <;> [skip; (intro t x ht)])
    | ((with_reducible apply Effect.after (State.updLens_effect ..)); exact rfl)
    | ((with_reducible apply Effect.updFacet) <;> [skip; (intro x hx; (try dsimp only); repeat' (first | exact hx | apply memPutNat_wf | apply memPut_wf | apply initData_wf | apply exchangeData_wf | apply restoreArea_wf | apply restoreRetain_wf | apply loadWindow_wf | apply statusBlock_wf | apply loadStream_wf | apply freshData_wf | apply putOutputs_wf | apply memPutSlot_wf | apply carry_wf | (rw [queueEvent_dmem]) | exact nil_wf | (rw [setQueued_dmem]) | split)); exact rfl])
    | ((with_reducible apply Effect.after (State.updSvc_effect ..)); exact rfl)
    | ((with_reducible apply Effect.after (State.exchFinish_effect ..)); exact rfl)
    | split

theorem execCfFrameTick_effect (s : State) : Effect.ok 0x4f45c000173 s (execCfFrameTick s) := by
  unfold execCfFrameTick
  apply Effect.ok_next
  refine Effect.ite (fun _ => Effect.refl _ _) (fun _ => ?_)
  split
  · exact Effect.refl _ _
  extract_lets s1 s2 s3 s4 s5 s6 s7 s8 s9
  have h3 : Effect 0x4f45c000173 s s3 :=
    ((((State.upToTai_effect ..).mono rfl).go (State.flushBeams_effect ..) rfl).go (State.cnvSeal_effect ..) rfl).go
      (State.exchLoops_effect ..) rfl
  have h4 : Effect 0x4f45c000173 s s4 := Effect.each h3 fun t x ht => ht.go (State.updArm_effect ..) rfl
  have h5 : Effect 0x4f45c000173 s s5 := Effect.each h4 fun t x ht => ht.go (State.disableArm_effect ..) rfl
  have h7 : Effect 0x4f45c000173 s s7 := (h5.go (State.blockJobs_effect ..) rfl).go (State.deblocks_effect ..) rfl
  have h8 : Effect 0x4f45c000173 s s8 := Effect.each h7 fun t x ht => ht.go (State.eachSm_effect ..) rfl
  clear_value s8
  refine Effect.after (State.updCnv_effect ..) rfl ?_
  exact Effect.upd _ h8 rfl fun p hp => by cases p <;> first | exact rfl | exact absurd hp (by decide)

theorem execCfTickMissing_effect (s : State) :
    Effect.ok 0x43444000003 s (execCfTickMissing s) := by
  unfold execCfTickMissing
  try dsimp only
  repeat' first
    | with_reducible apply Effect.refl
    | with_reducible assumption
    | ((with_reducible apply Effect.ite) <;> intro _)
    | apply Effect.ok_next
    | ((with_reducible apply Effect.after (State.cnvSeal_effect ..)); exact rfl)
    | ((with_reducible apply Effect.after (State.flushBeams_effect ..)); exact rfl)
    | ((with_reducible apply Effect.after (State.upToTai_effect ..)); exact rfl)
    | ((with_reducible apply Effect.after (State.updCnv_effect ..)); exact rfl)
    | split

theorem State.loopTick_effect (s : State) (l : ℕ) (h : ℕ) :
    Effect 0x4F2D8C007C2 s (State.loopTick s l h) := by
  unfold State.loopTick
  try dsimp only
  repeat' first
    | with_reducible apply Effect.refl
    | with_reducible assumption
    | ((with_reducible apply Effect.ite) <;> intro _)
    | ((with_reducible apply Effect.after (State.updProg_effect ..)); exact rfl)
    | ((with_reducible apply Effect.after (State.updLens_effect ..)); exact rfl)
    | ((with_reducible apply Effect.after (State.protBegin_effect ..)); exact rfl)
    | ((with_reducible apply Effect.after (State.adoptSeal_effect ..)); exact rfl)
    | ((with_reducible apply Effect.after (State.rollMove_effect ..)); exact rfl)

theorem execCfComputeStart_effect (s : State) :
    Effect.ok 0x4F6DCC007C3 s (execCfComputeStart s) := by
  unfold execCfComputeStart
  try dsimp only
  repeat' first
    | with_reducible apply Effect.refl
    | with_reducible assumption
    | ((with_reducible apply Effect.ite) <;> intro _)
    | apply Effect.ok_next
    | ((with_reducible apply Effect.after (State.upTo_effect ..)); exact rfl)
    | ((with_reducible apply Effect.after (State.updCnv_effect ..)); exact rfl)
    | ((with_reducible apply Effect.each) <;> [skip; (intro t x ht)])
    | ((with_reducible apply Effect.after (State.eachSm_effect ..)); exact rfl)
    | ((with_reducible apply Effect.after (State.armSummary_effect ..)); exact rfl)
    | ((with_reducible apply Effect.after (State.updArm_effect ..)); exact rfl)
    | ((with_reducible apply Effect.after (State.updProg_effect ..)); exact rfl)
    | ((with_reducible apply Effect.after (State.loopTick_effect ..)); exact rfl)
    | split
    | ((with_reducible apply Effect.upd) <;> [skip; exact rfl; (intro p hp; cases p <;> first | exact rfl | exact absurd hp (by decide))])

theorem execPrismRankDone_effect (e : Fin 8) (s : State) :
    Effect.ok 0x438000003 s (execPrismRankDone e s) := by
  unfold execPrismRankDone
  try dsimp only
  repeat' first
    | with_reducible apply Effect.refl
    | with_reducible assumption
    | ((with_reducible apply Effect.ite) <;> intro _)
    | apply Effect.ok_next
    | ((with_reducible apply Effect.after (State.free_effect ..)); exact rfl)
    | ((with_reducible apply Effect.after (State.free_effect_eq ‹_›)); exact rfl)
    | ((with_reducible apply Effect.after (State.upTo_effect ..)); exact rfl)
    | ((with_reducible apply Effect.after (State.updArm_effect ..)); exact rfl)
    | ((with_reducible apply Effect.after (State.eachSm_effect ..)); exact rfl)
    | ((with_reducible apply Effect.after (State.updEngine_effect ..)); exact rfl)

theorem State.prismFault_effect (s : State) (a : ℕ) :
    Effect 0x43078000002 s (State.prismFault s a) := by
  unfold State.prismFault
  try dsimp only
  repeat' first
    | with_reducible apply Effect.refl
    | with_reducible assumption
    | ((with_reducible apply Effect.ite) <;> intro _)
    | ((with_reducible apply Effect.after (State.tripArm_effect ..)); exact rfl)
    | ((with_reducible apply Effect.after (State.updArm_effect ..)); exact rfl)
    | ((with_reducible apply Effect.after (State.updEngine_effect ..)); exact rfl)
    | split

theorem State.takeOut_effect (s : State) (a : ℕ) :
    Effect 0x8000000 s (State.takeOut s a) := by
  unfold State.takeOut
  try dsimp only
  repeat' first
    | with_reducible apply Effect.refl
    | with_reducible assumption
    | ((with_reducible apply Effect.ite) <;> intro _)
    | ((with_reducible apply Effect.after (State.updArm_effect ..)); exact rfl)
    | split

theorem State.emitArm_effect (s : State) (a : ℕ) :
    Effect 0x38000000 s ((State.emitArm s a).1) := by
  unfold State.emitArm
  try dsimp only
  repeat' first
    | with_reducible apply Effect.refl
    | with_reducible assumption
    | ((with_reducible apply Effect.each) <;> [skip; (intro t x ht)])
    | ((with_reducible apply Effect.after (State.updSm_effect ..)); exact rfl)
    | ((with_reducible apply Effect.after (State.updArm_effect ..)); exact rfl)
    | ((with_reducible apply Effect.after (State.updEngine_effect ..)); exact rfl)
    | split

theorem State.emitArm_effect_eq {s : State} {a : ℕ} {v_ : List (ℕ × Command)} {t_ : State}
    (he : State.emitArm s a = (t_, v_)) : Effect 0x38000000 s t_ := by
  have h := State.emitArm_effect s a
  rw [he] at h
  exact h

theorem State.emitBlocked_effect (s : State) (a : ℕ) :
    Effect 0x18000000 s ((State.emitBlocked s a).1) := by
  unfold State.emitBlocked
  try dsimp only
  repeat' first
    | with_reducible apply Effect.refl
    | with_reducible assumption
    | ((with_reducible apply Effect.after (State.eachSm_effect ..)); exact rfl)
    | ((with_reducible apply Effect.after (State.updArm_effect ..)); exact rfl)

theorem State.emitBlocked_effect_eq {s : State} {a : ℕ} {v_ : List (ℕ × Command)} {t_ : State}
    (he : State.emitBlocked s a = (t_, v_)) : Effect 0x18000000 s t_ := by
  have h := State.emitBlocked_effect s a
  rw [he] at h
  exact h

theorem State.sendArm_effect (s : State) (a : ℕ) :
    Effect 0x78000002 s (State.sendArm s a) := by
  unfold State.sendArm
  try dsimp only
  repeat' first
    | with_reducible apply Effect.refl
    | with_reducible assumption
    | ((with_reducible apply Effect.after (State.emitArm_effect ..)); exact rfl)
    | ((with_reducible apply Effect.after (State.emitArm_effect_eq ‹_›)); exact rfl)
    | ((with_reducible apply Effect.after (State.emitBlocked_effect ..)); exact rfl)
    | ((with_reducible apply Effect.after (State.emitBlocked_effect_eq ‹_›)); exact rfl)
    | ((with_reducible apply Effect.after (State.updArm_effect ..)); exact rfl)
    | ((with_reducible apply Effect.each) <;> [skip; (intro t x ht)])
    | ((with_reducible apply Effect.after (State.free_effect ..)); exact rfl)
    | ((with_reducible apply Effect.after (State.free_effect_eq ‹_›)); exact rfl)
    | ((with_reducible apply Effect.after (State.queueBeam_effect ..)); exact rfl)
    | split

theorem State.sendCals_effect (s : State) :
    Effect 0x40000000 s (State.sendCals s) := by
  unfold State.sendCals
  try dsimp only
  repeat' first
    | with_reducible apply Effect.refl
    | with_reducible assumption
    | ((with_reducible apply Effect.each) <;> [skip; (intro t x ht)])
    | ((with_reducible apply Effect.after (State.queueBeam_effect ..)); exact rfl)
    | ((with_reducible apply Effect.after (State.updBeam_effect ..)); exact rfl)

theorem execCfEmitStart_effect (s : State) :
    Effect.ok 0x4347C0000C3 s (execCfEmitStart s) := by
  unfold execCfEmitStart
  try dsimp only
  repeat' first
    | with_reducible apply Effect.refl
    | with_reducible assumption
    | ((with_reducible apply Effect.ite) <;> intro _)
    | apply Effect.ok_next
    | ((with_reducible apply Effect.after (State.flushBeams_effect ..)); exact rfl)
    | ((with_reducible apply Effect.after (State.upTo_effect ..)); exact rfl)
    | ((with_reducible apply Effect.after (State.updCnv_effect ..)); exact rfl)
    | ((with_reducible apply Effect.each) <;> [skip; (intro t x ht)])
    | ((with_reducible apply Effect.after (State.loseSeal_effect ..)); exact rfl)
    | ((with_reducible apply Effect.after (State.updProg_effect ..)); exact rfl)
    | ((with_reducible apply Effect.after (State.prismFault_effect ..)); exact rfl)
    | ((with_reducible apply Effect.after (State.takeOut_effect ..)); exact rfl)
    | ((with_reducible apply Effect.after (State.sendArm_effect ..)); exact rfl)
    | ((with_reducible apply Effect.after (State.sendCals_effect ..)); exact rfl)
    | ((with_reducible apply Effect.after (State.updArm_effect ..)); exact rfl)
    | ((with_reducible apply Effect.after (State.complete_effect ..)); exact rfl)

theorem execArmHoldLimit_effect (a : Fin 8) (s : State) :
    Effect.ok 0x43058000002 s (execArmHoldLimit a s) := by
  unfold execArmHoldLimit
  try dsimp only
  repeat' first
    | with_reducible apply Effect.refl
    | with_reducible assumption
    | ((with_reducible apply Effect.ite) <;> intro _)
    | apply Effect.ok_next
    | ((with_reducible apply Effect.after (State.tripArm_effect ..)); exact rfl)

theorem execDeblockTimeout_effect (a : Fin 8) (s : State) :
    Effect.ok 0x3408000001 s (execDeblockTimeout a s) := by
  unfold execDeblockTimeout
  try dsimp only
  repeat' first
    | with_reducible apply Effect.refl
    | with_reducible assumption
    | ((with_reducible apply Effect.ite) <;> intro _)
    | apply Effect.ok_next
    | ((with_reducible apply Effect.after (State.upTo_effect ..)); exact rfl)
    | ((with_reducible apply Effect.after (State.endDeblock_effect ..)); exact rfl)
    | split

theorem State.clearArmTrip_effect (s : State) (a : ℕ) :
    Effect 0x8000000 s (State.clearArmTrip s a) := by
  unfold State.clearArmTrip
  try dsimp only
  repeat' first
    | with_reducible apply Effect.refl
    | with_reducible assumption
    | ((with_reducible apply Effect.ite) <;> intro _)
    | ((with_reducible apply Effect.after (State.updArm_effect ..)); exact rfl)

theorem execArmTripClear_effect (a : Fin 8) (s : State) :
    Effect.ok 0x8000004 s (execArmTripClear a s) := by
  unfold execArmTripClear
  try dsimp only
  repeat' first
    | with_reducible apply Effect.refl
    | with_reducible assumption
    | apply Effect.ok_next
    | ((with_reducible apply State.unitWrite_effect) <;> [skip; (intro t  ht); exact rfl])
    | ((with_reducible apply Effect.after (State.clearArmTrip_effect ..)); exact rfl)

theorem State.laneStatus_effect (s : State) (l : ℕ) (fr : UplinkFrame) :
    Effect 0x4040000000 s (State.laneStatus s l fr) := by
  unfold State.laneStatus
  try dsimp only
  repeat' first
    | with_reducible apply Effect.refl
    | with_reducible assumption
    | ((with_reducible apply Effect.ite) <;> intro _)
    | ((with_reducible apply Effect.after (State.updBeam_effect ..)); exact rfl)
    | ((with_reducible apply Effect.after (State.event_effect ..)); exact rfl)
    | ((with_reducible apply Effect.after (State.alarm_effect ..)); exact rfl)
    | ((with_reducible apply Effect.after (State.clearAlarm_effect ..)); exact rfl)

theorem execUplinkFrameRx_effect (l : Fin 64) (fr : UplinkFrame) (t : ℕ) (s : State) :
    Effect.ok 0x4458000001 s (execUplinkFrameRx l fr t s) := by
  unfold execUplinkFrameRx
  try dsimp only
  repeat' first
    | with_reducible apply Effect.refl
    | with_reducible assumption
    | ((with_reducible apply Effect.ite) <;> intro _)
    | apply Effect.ok_next
    | ((with_reducible apply Effect.after (State.upTo_effect ..)); exact rfl)
    | ((with_reducible apply Effect.after (State.updBeam_effect ..)); exact rfl)
    | ((with_reducible apply Effect.after (State.laneStatus_effect ..)); exact rfl)
    | ((with_reducible apply Effect.after (State.clearAlarm_effect ..)); exact rfl)
    | ((with_reducible apply Effect.after (State.alarm_effect ..)); exact rfl)
    | ((with_reducible apply Effect.after (State.updArm_effect ..)); exact rfl)
    | ((with_reducible apply Effect.each) <;> [skip; (intro t x ht)])
    | ((with_reducible apply Effect.after (State.updSm_effect ..)); exact rfl)
    | split

theorem execBeamLockLost_effect (l : Fin 64) (s : State) :
    Effect.ok 0x4040000000 s (execBeamLockLost l s) := by
  unfold execBeamLockLost
  try dsimp only
  repeat' first
    | with_reducible apply Effect.refl
    | with_reducible assumption
    | ((with_reducible apply Effect.ite) <;> intro _)
    | apply Effect.ok_next
    | ((with_reducible apply Effect.after (State.alarm_effect ..)); exact rfl)
    | ((with_reducible apply Effect.after (State.updBeam_effect ..)); exact rfl)

theorem execBeamLockAcquired_effect (l : Fin 64) (s : State) :
    Effect.ok 0x4040000000 s (execBeamLockAcquired l s) := by
  unfold execBeamLockAcquired
  try dsimp only
  repeat' first
    | with_reducible apply Effect.refl
    | with_reducible assumption
    | ((with_reducible apply Effect.ite) <;> intro _)
    | apply Effect.ok_next
    | ((with_reducible apply Effect.after (State.clearAlarm_effect ..)); exact rfl)
    | ((with_reducible apply Effect.after (State.updBeam_effect ..)); exact rfl)

theorem execBeamCalDue_effect (l : Fin 64) (s : State) :
    Effect.ok 0x40440000003 s (execBeamCalDue l s) := by
  unfold execBeamCalDue
  try dsimp only
  repeat' first
    | with_reducible apply Effect.refl
    | with_reducible assumption
    | ((with_reducible apply Effect.ite) <;> intro _)
    | apply Effect.ok_next
    | ((with_reducible apply Effect.after (State.flushBeam_effect ..)); exact rfl)
    | ((with_reducible apply Effect.after (State.updBeam_effect ..)); exact rfl)
    | ((with_reducible apply Effect.after (State.upTo_effect ..)); exact rfl)

theorem State.calJob_effect (s : State) (j : ℕ) :
    Effect 0x3040000000 s (State.calJob s j) := by
  unfold State.calJob
  try dsimp only
  repeat' first
    | with_reducible apply Effect.refl
    | with_reducible assumption
    | ((with_reducible apply Effect.ite) <;> intro _)
    | ((with_reducible apply Effect.each) <;> [skip; (intro t x ht)])
    | ((with_reducible apply Effect.after (State.updBeam_effect ..)); exact rfl)
    | ((with_reducible apply Effect.after (State.complete_effect ..)); exact rfl)

theorem State.calEnded_effect (s : State) (l : ℕ) (ok : Bool) :
    Effect 0x3040000000 s (State.calEnded s l ok) := by
  unfold State.calEnded
  try dsimp only
  repeat' first
    | with_reducible apply Effect.refl
    | with_reducible assumption
    | ((with_reducible apply Effect.after (State.updBeam_effect ..)); exact rfl)
    | ((with_reducible apply Effect.each) <;> [skip; (intro t x ht)])
    | ((with_reducible apply Effect.after (State.calJob_effect ..)); exact rfl)

theorem execCalibrateReplyRx_effect (l : Fin 64) (t : ℕ) (turn : ℕ) (s : State) :
    Effect.ok 0x47440000003 s (execCalibrateReplyRx l t turn s) := by
  unfold execCalibrateReplyRx
  try dsimp only
  repeat' first
    | with_reducible apply Effect.refl
    | with_reducible assumption
    | ((with_reducible apply Effect.ite) <;> intro _)
    | apply Effect.ok_next
    | ((with_reducible apply Effect.after (State.flushBeam_effect ..)); exact rfl)
    | ((with_reducible apply Effect.after (State.upTo_effect ..)); exact rfl)
    | ((with_reducible apply Effect.after (State.calEnded_effect ..)); exact rfl)
    | ((with_reducible apply Effect.after (State.event_effect ..)); exact rfl)
    | ((with_reducible apply Effect.after (State.updBeam_effect ..)); exact rfl)
    | ((with_reducible apply Effect.after (State.alarm_effect ..)); exact rfl)
    | ((with_reducible apply Effect.after (State.clearAlarm_effect ..)); exact rfl)
    | split

theorem execBeamCalFail_effect (l : Fin 64) (s : State) :
    Effect.ok 0x47440000003 s (execBeamCalFail l s) := by
  unfold execBeamCalFail
  try dsimp only
  repeat' first
    | with_reducible apply Effect.refl
    | with_reducible assumption
    | apply Effect.ok_next
    | ((with_reducible apply Effect.after (State.flushBeam_effect ..)); exact rfl)
    | ((with_reducible apply Effect.after (State.upTo_effect ..)); exact rfl)
    | ((with_reducible apply Effect.after (State.calEnded_effect ..)); exact rfl)
    | ((with_reducible apply Effect.after (State.event_effect ..)); exact rfl)
    | split

end Sys2Proof.Machine
end

