-- ==== Sys2Proof/Laws/EffFieldBus.lean ====
section
/-! SUPPORT. What each operation of Machine/FieldBus.lean may do: the parts it may write, and that its result follows
what it was given (Laws/Effect.lean). -/

namespace Sys2Proof.Machine

theorem State.condition_effect (s : State) (i : ℕ) (rx : ℕ) (ret : Bool) :
    Effect 0x4000004000 s (State.condition s i rx ret) := by
  unfold State.condition
  try dsimp only
  repeat' first
    | with_reducible apply Effect.refl
    | with_reducible assumption
    | ((with_reducible apply Effect.ite) <;> intro _)
    | ((with_reducible apply Effect.each) <;> [skip; (intro t x ht)])
    | ((with_reducible apply Effect.after (State.updCond_effect ..)); exact rfl)
    | ((with_reducible apply Effect.after (State.event_effect ..)); exact rfl)

theorem State.groupDone_effect (s : State) (i : ℕ) (gseq : ℕ) (d : List Byte) (rx : ℕ) :
    Effect 0x4000006000 s (State.groupDone s i gseq d rx) := by
  unfold State.groupDone
  try dsimp only
  repeat' first
    | with_reducible apply Effect.refl
    | with_reducible assumption
    | ((with_reducible apply Effect.ite) <;> intro _)
    | ((with_reducible apply Effect.after (State.updStn_effect ..)); exact rfl)
    | ((with_reducible apply Effect.after (State.condition_effect ..)); exact rfl)
    | ((with_reducible apply Effect.after (State.clearAlarm_effect ..)); exact rfl)

theorem State.groupBad_effect (s : State) (i : ℕ) (gseq : ℕ) :
    Effect 0x2000 s (State.groupBad s i gseq) := by
  unfold State.groupBad
  try dsimp only
  repeat' first
    | with_reducible apply Effect.refl
    | with_reducible assumption
    | ((with_reducible apply Effect.after (State.updStn_effect ..)); exact rfl)

theorem State.groupFrame_effect (s : State) (i : ℕ) (d : List Byte) (rx : ℕ) :
    Effect 0x4000006000 s (State.groupFrame s i d rx) := by
  unfold State.groupFrame
  try dsimp only
  repeat' first
    | with_reducible apply Effect.refl
    | with_reducible assumption
    | ((with_reducible apply Effect.ite) <;> intro _)
    | ((with_reducible apply Effect.after (State.updStn_effect ..)); exact rfl)
    | ((with_reducible apply Effect.after (State.groupDone_effect ..)); exact rfl)
    | ((with_reducible apply Effect.after (State.groupBad_effect ..)); exact rfl)
    | split

theorem State.rxNomatch_effect (s : State) (b : ℕ) :
    Effect 0x800000000 s (State.rxNomatch s b) := by
  unfold State.rxNomatch
  try dsimp only
  repeat' first
    | with_reducible apply Effect.refl
    | with_reducible assumption
    | ((with_reducible apply Effect.after (State.updFbc_effect ..)); exact rfl)

theorem State.filterFrame_effect (s : State) (b : ℕ) (fr : CanFrame) (t : ℕ) :
    Effect 0x45800006002 s (State.filterFrame s b fr t) := by
  unfold State.filterFrame
  try dsimp only
  repeat' first
    | with_reducible apply Effect.refl
    | with_reducible assumption
    | ((with_reducible apply Effect.ite) <;> intro _)
    | ((with_reducible apply Effect.after (State.rxNomatch_effect ..)); exact rfl)
    | ((with_reducible apply Effect.after (State.emit_effect ..)); exact rfl)
    | ((with_reducible apply Effect.after (State.putRecord_effect ..)); exact rfl)
    | ((with_reducible apply Effect.after (State.putRecord_effect_eq ‹_›)); exact rfl)
    | ((with_reducible apply Effect.after (State.groupFrame_effect ..)); exact rfl)
    | split

theorem execCanFrameRx_effect (b : Fin 2) (fr : CanFrame) (t : ℕ) (s : State) :
    Effect.ok 0x47C00006003 s (execCanFrameRx b fr t s) := by
  unfold execCanFrameRx
  try dsimp only
  repeat' first
    | with_reducible apply Effect.refl
    | with_reducible assumption
    | ((with_reducible apply Effect.ite) <;> intro _)
    | apply Effect.ok_next
    | ((with_reducible apply Effect.after (State.upTo_effect ..)); exact rfl)
    | ((with_reducible apply Effect.after (State.updFbc_effect ..)); exact rfl)
    | ((with_reducible apply Effect.after (State.fbError_effect ..)); exact rfl)
    | ((with_reducible apply Effect.after (State.emit_effect ..)); exact rfl)
    | ((with_reducible apply Effect.after (State.fbReceived_effect ..)); exact rfl)
    | ((with_reducible apply Effect.after (State.rxNomatch_effect ..)); exact rfl)
    | ((with_reducible apply Effect.after (State.filterFrame_effect ..)); exact rfl)

theorem execStationPresenceCheck_effect (i : Fin 128) (s : State) :
    Effect.ok 0x6C00006001 s (execStationPresenceCheck i s) := by
  unfold execStationPresenceCheck
  try dsimp only
  repeat' first
    | with_reducible apply Effect.refl
    | with_reducible assumption
    | ((with_reducible apply Effect.ite) <;> intro _)
    | apply Effect.ok_next
    | ((with_reducible apply Effect.after (State.stnJudge_effect ..)); exact rfl)
    | ((with_reducible apply Effect.after (State.upTo_effect ..)); exact rfl)

theorem execFbSupervisionTick_effect (b : Fin 2) (s : State) :
    Effect.ok 0x6C00006001 s (execFbSupervisionTick b s) := by
  unfold execFbSupervisionTick
  try dsimp only
  repeat' first
    | with_reducible apply Effect.refl
    | with_reducible assumption
    | ((with_reducible apply Effect.ite) <;> intro _)
    | apply Effect.ok_next
    | ((with_reducible apply Effect.after (State.updFbc_effect ..)); exact rfl)
    | ((with_reducible apply Effect.after (State.upTo_effect ..)); exact rfl)
    | ((with_reducible apply Effect.each) <;> [skip; (intro t x ht)])
    | ((with_reducible apply Effect.after (State.stnJudge_effect ..)); exact rfl)

theorem State.fbToArrival_effect (s : State) (b : ℕ) :
    Effect 0x2800002000 s (State.fbToArrival s b) := by
  unfold State.fbToArrival
  try dsimp only
  repeat' first
    | with_reducible apply Effect.refl
    | with_reducible assumption
    | ((with_reducible apply Effect.after (State.updFbc_effect ..)); exact rfl)
    | ((with_reducible apply Effect.after (State.fbOffer_effect ..)); exact rfl)
    | ((with_reducible apply Effect.after (State.fbQueueAll_effect ..)); exact rfl)
    | ((with_reducible apply Effect.after (State.fbMode_effect ..)); exact rfl)

theorem State.basicCycle_effect (s : State) (b : ℕ) (n : ℕ) (t : ℕ) :
    Effect 0x2800002000 s (State.basicCycle s b n t) := by
  unfold State.basicCycle
  try dsimp only
  repeat' first
    | with_reducible apply Effect.refl
    | with_reducible assumption
    | ((with_reducible apply Effect.ite) <;> intro _)
    | ((with_reducible apply Effect.after (State.updFbc_effect ..)); exact rfl)
    | ((with_reducible apply Effect.each) <;> [skip; (intro t x ht)])
    | ((with_reducible apply Effect.after (State.updStn_effect ..)); exact rfl)
    | ((with_reducible apply Effect.after (State.fbOffer_effect ..)); exact rfl)

theorem execFbBasicCycleStart_effect (b : Fin 2) (s : State) :
    Effect.ok 0x6C00002001 s (execFbBasicCycleStart b s) := by
  unfold execFbBasicCycleStart
  try dsimp only
  repeat' first
    | with_reducible apply Effect.refl
    | with_reducible assumption
    | ((with_reducible apply Effect.ite) <;> intro _)
    | apply Effect.ok_next
    | ((with_reducible apply Effect.after (State.upToTai_effect ..)); exact rfl)
    | ((with_reducible apply Effect.after (State.fbToArrival_effect ..)); exact rfl)
    | ((with_reducible apply Effect.after (State.updFbc_effect ..)); exact rfl)
    | ((with_reducible apply Effect.after (State.basicCycle_effect ..)); exact rfl)
    | ((with_reducible apply Effect.after (State.clearAlarm_effect ..)); exact rfl)
    | ((with_reducible apply Effect.after (State.fbMode_effect ..)); exact rfl)
    | split

theorem execFbRefTimeout_effect (b : Fin 2) (s : State) :
    Effect.ok 0x2C00002001 s (execFbRefTimeout b s) := by
  unfold execFbRefTimeout
  try dsimp only
  repeat' first
    | with_reducible apply Effect.refl
    | with_reducible assumption
    | ((with_reducible apply Effect.ite) <;> intro _)
    | apply Effect.ok_next
    | ((with_reducible apply Effect.after (State.updFbc_effect ..)); exact rfl)
    | ((with_reducible apply Effect.after (State.upTo_effect ..)); exact rfl)
    | ((with_reducible apply Effect.after (State.fbOffer_effect ..)); exact rfl)

theorem State.exclusiveOut_effect (s : State) (b : ℕ) (st : ℕ) :
    Effect 0x2800002000 s (State.exclusiveOut s b st) := by
  unfold State.exclusiveOut
  try dsimp only
  repeat' first
    | with_reducible apply Effect.refl
    | with_reducible assumption
    | ((with_reducible apply Effect.ite) <;> intro _)
    | ((with_reducible apply Effect.after (State.updFbc_effect ..)); exact rfl)
    | ((with_reducible apply Effect.after (State.fbOffer_effect ..)); exact rfl)

theorem execFbCellStart_effect (b : Fin 2) (c : Fin 64) (s : State) :
    Effect.ok 0x2C00002001 s (execFbCellStart b c s) := by
  unfold execFbCellStart
  try dsimp only
  repeat' first
    | with_reducible apply Effect.refl
    | with_reducible assumption
    | ((with_reducible apply Effect.ite) <;> intro _)
    | apply Effect.ok_next
    | ((with_reducible apply Effect.after (State.upTo_effect ..)); exact rfl)
    | ((with_reducible apply Effect.after (State.updFbc_effect ..)); exact rfl)
    | ((with_reducible apply Effect.after (State.exclusiveOut_effect ..)); exact rfl)
    | ((with_reducible apply Effect.after (State.fbOffer_effect ..)); exact rfl)
    | split

theorem State.fbFree_effect (s : State) (b : ℕ) :
    Effect 0x2800002000 s (State.fbFree s b) := by
  unfold State.fbFree
  try dsimp only
  repeat' first
    | with_reducible apply Effect.refl
    | with_reducible assumption
    | ((with_reducible apply Effect.after (State.fbOffer_effect ..)); exact rfl)
    | ((with_reducible apply Effect.after (State.fbQueueAll_effect ..)); exact rfl)
    | ((with_reducible apply Effect.after (State.updFbc_effect ..)); exact rfl)

theorem State.fbLater_effect (s : State) (b : ℕ) (x : TxItem) :
    Effect 0x2800002000 s (State.fbLater s b x) := by
  unfold State.fbLater
  try dsimp only
  repeat' first
    | with_reducible apply Effect.refl
    | with_reducible assumption
    | ((with_reducible apply Effect.after (State.fbFree_effect ..)); exact rfl)
    | ((with_reducible apply Effect.after (State.updFbc_effect ..)); exact rfl)

theorem State.fbAcked_effect (s : State) (b : ℕ) (x : TxItem) :
    Effect 0x43800002000 s (State.fbAcked s b x) := by
  unfold State.fbAcked
  try dsimp only
  repeat' first
    | with_reducible apply Effect.refl
    | with_reducible assumption
    | ((with_reducible apply Effect.ite) <;> intro _)
    | ((with_reducible apply Effect.after (State.emit_effect ..)); exact rfl)
    | ((with_reducible apply Effect.after (State.updFbc_effect ..)); exact rfl)
    | ((with_reducible apply Effect.after (State.fbFree_effect ..)); exact rfl)
    | ((with_reducible apply Effect.after (State.complete_effect ..)); exact rfl)
    | ((with_reducible apply Effect.after (State.fbLost_effect ..)); exact rfl)
    | ((with_reducible apply Effect.after (State.fbBegin_effect ..)); exact rfl)
    | ((with_reducible apply Effect.after (State.fbLater_effect ..)); exact rfl)
    | split

theorem State.fbRetry_effect (s : State) (b : ℕ) (x : TxItem) (lost : Bool) :
    Effect 0x3800002000 s (State.fbRetry s b x lost) := by
  unfold State.fbRetry
  try dsimp only
  repeat' first
    | with_reducible apply Effect.refl
    | with_reducible assumption
    | ((with_reducible apply Effect.ite) <;> intro _)
    | ((with_reducible apply Effect.after (State.fbFree_effect ..)); exact rfl)
    | ((with_reducible apply Effect.after (State.fbBegin_effect ..)); exact rfl)
    | ((with_reducible apply Effect.after (State.endSends_effect ..)); exact rfl)
    | ((with_reducible apply Effect.after (State.fbLost_effect ..)); exact rfl)
    | ((with_reducible apply Effect.after (State.fbLater_effect ..)); exact rfl)
    | ((with_reducible apply Effect.after (State.updFbc_effect ..)); exact rfl)
    | split

theorem execFbFrameTxDone_effect (b : Fin 2) (res : TxResult) (s : State) :
    Effect.ok 0x47800002000 s (execFbFrameTxDone b res s) := by
  unfold execFbFrameTxDone
  try dsimp only
  repeat' first
    | with_reducible apply Effect.refl
    | with_reducible assumption
    | ((with_reducible apply Effect.ite) <;> intro _)
    | apply Effect.ok_next
    | ((with_reducible apply Effect.after (State.fbAcked_effect ..)); exact rfl)
    | ((with_reducible apply Effect.after (State.fbRetry_effect ..)); exact rfl)
    | ((with_reducible apply Effect.after (State.updFbc_effect ..)); exact rfl)
    | ((with_reducible apply Effect.after (State.fbError_effect ..)); exact rfl)
    | split

theorem execFbErrorFrame_effect (b : Fin 2) (e : CanError) (s : State) :
    Effect.ok 0x7800002000 s (execFbErrorFrame b e s) := by
  unfold execFbErrorFrame
  try dsimp only
  repeat' first
    | with_reducible apply Effect.refl
    | with_reducible assumption
    | ((with_reducible apply Effect.ite) <;> intro _)
    | apply Effect.ok_next
    | ((with_reducible apply Effect.after (State.fbError_effect ..)); exact rfl)

theorem State.fbRecovered_effect (s : State) (b : ℕ) :
    Effect 0x4800002000 s (State.fbRecovered s b) := by
  unfold State.fbRecovered
  try dsimp only
  repeat' first
    | with_reducible apply Effect.refl
    | with_reducible assumption
    | ((with_reducible apply Effect.after (State.updFbc_effect ..)); exact rfl)
    | ((with_reducible apply Effect.after (State.clearAlarm_effect ..)); exact rfl)
    | ((with_reducible apply Effect.after (State.fbMode_effect ..)); exact rfl)

theorem execFbRecoveryDone_effect (b : Fin 2) (s : State) :
    Effect.ok 0x4C00002001 s (execFbRecoveryDone b s) := by
  unfold execFbRecoveryDone
  try dsimp only
  repeat' first
    | with_reducible apply Effect.refl
    | with_reducible assumption
    | ((with_reducible apply Effect.ite) <;> intro _)
    | apply Effect.ok_next
    | ((with_reducible apply Effect.after (State.upTo_effect ..)); exact rfl)
    | ((with_reducible apply Effect.after (State.fbRecovered_effect ..)); exact rfl)
    | ((with_reducible apply Effect.after (State.updFbc_effect ..)); exact rfl)

theorem execFbcSendExpiry_effect (b : Fin 2) (s : State) :
    Effect.ok 0x3C00002001 s (execFbcSendExpiry b s) := by
  unfold execFbcSendExpiry
  try dsimp only
  repeat' first
    | with_reducible apply Effect.refl
    | with_reducible assumption
    | ((with_reducible apply Effect.ite) <;> intro _)
    | apply Effect.ok_next
    | ((with_reducible apply Effect.after (State.upToTai_effect ..)); exact rfl)
    | ((with_reducible apply Effect.after (State.updFbc_effect ..)); exact rfl)
    | ((with_reducible apply Effect.each) <;> [skip; (intro t x ht)])
    | ((with_reducible apply Effect.after (State.expire_effect ..)); exact rfl)
    | ((with_reducible apply Effect.after (State.fbQueueAll_effect ..)); exact rfl)
    | split

end Sys2Proof.Machine
end

