-- ==== Sys2Proof/Laws/EffPlantDesc.lean ====
section
/-! SUPPORT. What each operation of Machine/PlantDesc.lean may do: the parts it may write, and that its result follows
what it was given (Laws/Effect.lean). -/

namespace Sys2Proof.Machine

theorem execLogicStart_effect (i : Fin 64) (r : Fin 8) (s : State) :
    Effect.ok 0x470000019C2 s (execLogicStart i r s) := by
  unfold execLogicStart
  try dsimp only
  repeat' first
    | with_reducible apply Effect.refl
    | with_reducible assumption
    | ((with_reducible apply Effect.ite) <;> intro _)
    | apply Effect.ok_next
    | ((with_reducible apply State.runDesc_effect) <;> [skip; (intro t x1 x2 ht); exact rfl])
    | ((with_reducible apply Effect.after (State.complete_effect ..)); exact rfl)
    | ((with_reducible apply Effect.after (State.updLogic_effect ..)); exact rfl)
    | ((with_reducible apply Effect.after (State.mirror_effect ..)); exact rfl)
    | ((with_reducible apply Effect.after (State.logicColdStart_effect ..)); exact rfl)

theorem execLogicStop_effect (i : Fin 64) (r : Fin 8) (s : State) :
    Effect.ok 0x4FAD8C03FD2 s (execLogicStop i r s) := by
  unfold execLogicStop
  try dsimp only
  repeat' first
    | with_reducible apply Effect.refl
    | with_reducible assumption
    | ((with_reducible apply Effect.ite) <;> intro _)
    | apply Effect.ok_next
    | ((with_reducible apply State.runDesc_effect) <;> [skip; (intro t x1 x2 ht); exact rfl])
    | ((with_reducible apply Effect.after (State.complete_effect ..)); exact rfl)
    | ((with_reducible apply Effect.after (State.mirror_effect ..)); exact rfl)
    | ((with_reducible apply Effect.after (State.updLogic_effect ..)); exact rfl)
    | ((with_reducible apply Effect.after (State.logicStop_effect ..)); exact rfl)

theorem execDeblock_effect (i : Fin 64) (r : Fin 8) (s : State) :
    Effect.ok 0x47008000002 s (execDeblock i r s) := by
  unfold execDeblock
  try dsimp only
  repeat' first
    | with_reducible apply Effect.refl
    | with_reducible assumption
    | ((with_reducible apply Effect.ite) <;> intro _)
    | apply Effect.ok_next
    | ((with_reducible apply State.runDesc_effect) <;> [skip; (intro t x1 x2 ht); exact rfl])
    | ((with_reducible apply Effect.after (State.complete_effect ..)); exact rfl)
    | ((with_reducible apply Effect.each) <;> [skip; (intro t x ht)])
    | ((with_reducible apply Effect.after (State.updArm_effect ..)); exact rfl)

theorem execBlock_effect (i : Fin 64) (r : Fin 8) (s : State) :
    Effect.ok 0x47008000002 s (execBlock i r s) := by
  unfold execBlock
  try dsimp only
  repeat' first
    | with_reducible apply Effect.refl
    | with_reducible assumption
    | ((with_reducible apply Effect.ite) <;> intro _)
    | apply Effect.ok_next
    | ((with_reducible apply State.runDesc_effect) <;> [skip; (intro t x1 x2 ht); exact rfl])
    | ((with_reducible apply Effect.after (State.complete_effect ..)); exact rfl)
    | ((with_reducible apply Effect.each) <;> [skip; (intro t x ht)])
    | ((with_reducible apply Effect.after (State.updArm_effect ..)); exact rfl)

theorem execBeamCal_effect (i : Fin 64) (r : Fin 8) (s : State) :
    Effect.ok 0x47040000002 s (execBeamCal i r s) := by
  unfold execBeamCal
  try dsimp only
  repeat' first
    | with_reducible apply Effect.refl
    | with_reducible assumption
    | ((with_reducible apply Effect.ite) <;> intro _)
    | apply Effect.ok_next
    | ((with_reducible apply State.runDesc_effect) <;> [skip; (intro t x1 x2 ht); exact rfl])
    | ((with_reducible apply Effect.after (State.complete_effect ..)); exact rfl)
    | ((with_reducible apply Effect.each) <;> [skip; (intro t x ht)])
    | ((with_reducible apply Effect.after (State.flushBeams_effect ..)); exact rfl)
    | ((with_reducible apply Effect.after (State.updBeam_effect ..)); exact rfl)

theorem State.fbcCtrl_effect {m : Nat} {s0 : State} (s : State) (j : ℕ) (sub : ℕ) (d : Desc) (act : State → ℕ → State) (h0 : Effect m s0 s) (hact : ∀ (t : State) (v1 : ℕ), Effect m s0 t → Effect m s0 (act t v1))
    (hm : 0x3000000000 &&& m = 0x3000000000) : Effect m s0 (State.fbcCtrl s j sub d act) := by
  unfold State.fbcCtrl
  try dsimp only
  repeat' first
    | with_reducible apply Effect.refl
    | with_reducible assumption
    | ((with_reducible apply Effect.ite) <;> intro _)
    | with_reducible refine hact _ _ ?_
    | ((with_reducible apply Effect.after (State.complete_effect ..)); exact Effect.land hm rfl)
    | ((with_reducible apply Effect.each) <;> [skip; (intro t x ht)])
    | split

theorem execFbcArrival_effect (i : Fin 64) (r : Fin 8) (s : State) :
    Effect.ok 0x47800002002 s (execFbcArrival i r s) := by
  unfold execFbcArrival
  try dsimp only
  repeat' first
    | with_reducible apply Effect.refl
    | with_reducible assumption
    | apply Effect.ok_next
    | ((with_reducible apply State.runDesc_effect) <;> [skip; (intro t x1 x2 ht); exact rfl])
    | ((with_reducible apply State.fbcCtrl_effect) <;> [skip; (intro t x1 ht); exact rfl])
    | ((with_reducible apply Effect.after (State.fbOffer_effect ..)); exact rfl)
    | ((with_reducible apply Effect.after (State.fbQueueAll_effect ..)); exact rfl)
    | ((with_reducible apply Effect.after (State.fbMode_effect ..)); exact rfl)
    | ((with_reducible apply Effect.after (State.updFbc_effect ..)); exact rfl)
    | split

theorem execFbcSchedule_effect (i : Fin 64) (r : Fin 8) (s : State) :
    Effect.ok 0x47800000002 s (execFbcSchedule i r s) := by
  unfold execFbcSchedule
  try dsimp only
  repeat' first
    | with_reducible apply Effect.refl
    | with_reducible assumption
    | apply Effect.ok_next
    | ((with_reducible apply State.runDesc_effect) <;> [skip; (intro t x1 x2 ht); exact rfl])
    | ((with_reducible apply State.fbcCtrl_effect) <;> [skip; (intro t x1 ht); exact rfl])
    | ((with_reducible apply Effect.after (State.updFbc_effect ..)); exact rfl)

theorem execFbcListen_effect (i : Fin 64) (r : Fin 8) (s : State) :
    Effect.ok 0x47800002002 s (execFbcListen i r s) := by
  unfold execFbcListen
  try dsimp only
  repeat' first
    | with_reducible apply Effect.refl
    | with_reducible assumption
    | apply Effect.ok_next
    | ((with_reducible apply State.runDesc_effect) <;> [skip; (intro t x1 x2 ht); exact rfl])
    | ((with_reducible apply State.fbcCtrl_effect) <;> [skip; (intro t x1 ht); exact rfl])
    | ((with_reducible apply Effect.after (State.fbDiscard_effect ..)); exact rfl)
    | ((with_reducible apply Effect.after (State.fbMode_effect ..)); exact rfl)

theorem execFbcRecover_effect (i : Fin 64) (r : Fin 8) (s : State) :
    Effect.ok 0x47800002002 s (execFbcRecover i r s) := by
  unfold execFbcRecover
  try dsimp only
  repeat' first
    | with_reducible apply Effect.refl
    | with_reducible assumption
    | ((with_reducible apply Effect.ite) <;> intro _)
    | apply Effect.ok_next
    | ((with_reducible apply State.runDesc_effect) <;> [skip; (intro t x1 x2 ht); exact rfl])
    | ((with_reducible apply State.fbcCtrl_effect) <;> [skip; (intro t x1 ht); exact rfl])
    | ((with_reducible apply Effect.after (State.fbRecovered_effect ..)); exact rfl)
    | ((with_reducible apply Effect.after (State.updFbc_effect ..)); exact rfl)

theorem State.releaseSend_effect (s : State) (b : ℕ) (x : TxItem) :
    Effect 0x3800002000 s (State.releaseSend s b x) := by
  unfold State.releaseSend
  try dsimp only
  repeat' first
    | with_reducible apply Effect.refl
    | with_reducible assumption
    | ((with_reducible apply Effect.ite) <;> intro _)
    | ((with_reducible apply Effect.after (State.complete_effect ..)); exact rfl)
    | ((with_reducible apply Effect.after (State.expire_effect ..)); exact rfl)
    | ((with_reducible apply Effect.after (State.fbOffer_effect ..)); exact rfl)
    | ((with_reducible apply Effect.after (State.fbEnqueue_effect ..)); exact rfl)
    | split

theorem State.releaseSends_effect (s : State) (b : ℕ) :
    Effect 0x3800002000 s (State.releaseSends s b) := by
  unfold State.releaseSends
  try dsimp only
  repeat' first
    | with_reducible apply Effect.refl
    | with_reducible assumption
    | ((with_reducible apply Effect.each) <;> [skip; (intro t x ht)])
    | ((with_reducible apply Effect.after (State.updFbc_effect ..)); exact rfl)
    | ((with_reducible apply Effect.after (State.releaseSend_effect ..)); exact rfl)

theorem execFbcSend_effect (i : Fin 64) (r : Fin 8) (buf : Option (List Byte)) (s : State) :
    Effect.ok 0x47800002002 s (execFbcSend i r buf s) := by
  unfold execFbcSend
  try dsimp only
  repeat' first
    | with_reducible apply Effect.refl
    | with_reducible assumption
    | ((with_reducible apply Effect.ite) <;> intro _)
    | apply Effect.ok_next
    | ((with_reducible apply State.runDesc_effect) <;> [skip; (intro t x1 x2 ht); exact rfl])
    | ((with_reducible apply Effect.after (State.complete_effect ..)); exact rfl)
    | ((with_reducible apply Effect.after (State.hostFail_effect ..)); exact rfl)
    | ((with_reducible apply Effect.after (State.releaseSends_effect ..)); exact rfl)
    | ((with_reducible apply Effect.after (State.updFbc_effect ..)); exact rfl)
    | split

theorem execTpArm_effect (i : Fin 64) (r : Fin 8) (s : State) :
    Effect.ok 0x47400000002 s (execTpArm i r s) := by
  unfold execTpArm
  try dsimp only
  repeat' first
    | with_reducible apply Effect.refl
    | with_reducible assumption
    | ((with_reducible apply Effect.ite) <;> intro _)
    | apply Effect.ok_next
    | ((with_reducible apply State.runDesc_effect) <;> [skip; (intro t x1 x2 ht); exact rfl])
    | ((with_reducible apply Effect.after (State.complete_effect ..)); exact rfl)
    | ((with_reducible apply Effect.after (State.updTp_effect ..)); exact rfl)
    | ((with_reducible apply Effect.after (State.mirror_effect ..)); exact rfl)

end Sys2Proof.Machine
end

