-- ==== Sys2Proof/Laws/EffProtection.lean ====
section
/-! SUPPORT. What each operation of Machine/Protection.lean may do: the parts it may write, and that its result follows
what it was given (Laws/Effect.lean). -/

namespace Sys2Proof.Machine

theorem State.protOverrun_effect (s : State) (l : ℕ) (h : ℕ) (n : ℕ) :
    Effect 0x40000803C0 s (State.protOverrun s l h n) := by
  unfold State.protOverrun
  try dsimp only
  repeat' first
    | with_reducible apply Effect.refl
    | with_reducible assumption
    | ((with_reducible apply Effect.after (State.updProg_effect ..)); exact rfl)
    | ((with_reducible apply Effect.after (State.loseSeal_effect ..)); exact rfl)
    | ((with_reducible apply Effect.updFacet) <;> [skip; (intro x hx; (try dsimp only); repeat' (first | exact hx | apply memPutNat_wf | apply memPut_wf | apply initData_wf | apply exchangeData_wf | apply restoreArea_wf | apply restoreRetain_wf | apply loadWindow_wf | apply statusBlock_wf | apply loadStream_wf | apply freshData_wf | apply putOutputs_wf | apply memPutSlot_wf | apply carry_wf | (rw [queueEvent_dmem]) | exact nil_wf | (rw [setQueued_dmem]) | split)); exact rfl])
    | ((with_reducible apply Effect.after (State.atBoundary_effect ..)); exact rfl)
    | ((with_reducible apply Effect.after (State.event_effect ..)); exact rfl)
    | split
    | ((with_reducible apply Effect.upd) <;> [skip; exact rfl; (intro p hp; cases p <;> first | exact rfl | exact absurd hp (by decide))])

theorem State.protEndCycle_effect (s : State) (p : ℕ) :
    Effect 0x40002803C0 s (State.protEndCycle s p) := by
  unfold State.protEndCycle
  try dsimp only
  repeat' first
    | with_reducible apply Effect.refl
    | with_reducible assumption
    | ((with_reducible apply Effect.ite) <;> intro _)
    | ((with_reducible apply Effect.each) <;> [skip; (intro t x ht)])
    | ((with_reducible apply Effect.after (State.loseSeal_effect ..)); exact rfl)
    | ((with_reducible apply Effect.after (State.protOverrun_effect ..)); exact rfl)
    | ((with_reducible apply Effect.after (State.updProt_effect ..)); exact rfl)
    | ((with_reducible apply Effect.after (State.alarm_effect ..)); exact rfl)

theorem State.consumerSwitch_effect (s : State) (p : ℕ) (n : ℕ) :
    Effect 0x3000210000 s (State.consumerSwitch s p n) := by
  unfold State.consumerSwitch
  try dsimp only
  repeat' first
    | with_reducible apply Effect.refl
    | with_reducible assumption
    | ((with_reducible apply Effect.each) <;> [skip; (intro t x ht)])
    | ((with_reducible apply Effect.after (State.updChain_effect ..)); exact rfl)
    | ((with_reducible apply Effect.after (State.complete_effect ..)); exact rfl)
    | ((with_reducible apply Effect.after (State.mirror_effect ..)); exact rfl)
    | ((with_reducible apply Effect.after (State.updProt_effect ..)); exact rfl)

theorem State.settingsSwitch_effect (s : State) (l : ℕ) (h : ℕ) (n : ℕ) :
    Effect 0x3000040000 s (State.settingsSwitch s l h n) := by
  unfold State.settingsSwitch
  try dsimp only
  repeat' first
    | with_reducible apply Effect.refl
    | with_reducible assumption
    | ((with_reducible apply Effect.ite) <;> intro _)
    | ((with_reducible apply Effect.each) <;> [skip; (intro t x ht)])
    | ((with_reducible apply Effect.after (State.updFn_effect ..)); exact rfl)
    | ((with_reducible apply Effect.after (State.complete_effect ..)); exact rfl)
    | ((with_reducible apply Effect.after (State.mirror_effect ..)); exact rfl)
    | split

theorem State.protStart_effect (s : State) (l : ℕ) (h : ℕ) (n : ℕ) :
    Effect 0x4F2D8C007C2 s (State.protStart s l h n) := by
  unfold State.protStart
  try dsimp only
  repeat' first
    | with_reducible apply Effect.refl
    | with_reducible assumption
    | ((with_reducible apply Effect.ite) <;> intro _)
    | ((with_reducible apply Effect.after (State.updProg_effect ..)); exact rfl)
    | ((with_reducible apply Effect.after (State.protBegin_effect ..)); exact rfl)
    | ((with_reducible apply Effect.after (State.adoptSeal_effect ..)); exact rfl)
    | ((with_reducible apply Effect.after (State.rollMove_effect ..)); exact rfl)

theorem State.dropReady_effect (s : State) (p : ℕ) :
    Effect 0x20000 s (State.dropReady s p) := by
  unfold State.dropReady
  try dsimp only
  repeat' first
    | with_reducible apply Effect.refl
    | with_reducible assumption
    | ((with_reducible apply Effect.each) <;> [skip; (intro t x ht)])
    | ((with_reducible apply Effect.after (State.updSlot_effect ..)); exact rfl)

theorem State.protTick_effect (s : State) (p : ℕ) (k : ℕ × ℕ) :
    Effect 0x4F2D8FF07C2 s (State.protTick s p k) := by
  unfold State.protTick
  try dsimp only
  repeat' first
    | with_reducible apply Effect.refl
    | with_reducible assumption
    | ((with_reducible apply Effect.ite) <;> intro _)
    | ((with_reducible apply Effect.after (State.dropReady_effect ..)); exact rfl)
    | ((with_reducible apply Effect.after (State.protEndCycle_effect ..)); exact rfl)
    | ((with_reducible apply Effect.after (State.consumerSwitch_effect ..)); exact rfl)
    | ((with_reducible apply Effect.each) <;> [skip; (intro t x ht)])
    | ((with_reducible apply Effect.after (State.settingsSwitch_effect ..)); exact rfl)
    | ((with_reducible apply Effect.after (State.updSlot_effect ..)); exact rfl)
    | ((with_reducible apply Effect.after (State.updProt_effect ..)); exact rfl)
    | ((with_reducible apply Effect.after (State.updProg_effect ..)); exact rfl)
    | ((with_reducible apply Effect.after (State.updLens_effect ..)); exact rfl)
    | ((with_reducible apply Effect.after (State.protStart_effect ..)); exact rfl)
    | split
    | ((with_reducible apply Effect.upd) <;> [skip; exact rfl; (intro p hp; cases p <;> first | exact rfl | exact absurd hp (by decide))])

theorem execProtCycleTick_effect (p : Fin 64) (s : State) :
    Effect.ok 0x4F2D8FF07C2 s (execProtCycleTick p s) := by
  unfold execProtCycleTick
  try dsimp only
  repeat' first
    | with_reducible apply Effect.refl
    | with_reducible assumption
    | ((with_reducible apply Effect.ite) <;> intro _)
    | apply Effect.ok_next
    | ((with_reducible apply Effect.after (State.protTick_effect ..)); exact rfl)
    | split

theorem execProtDeadline_effect (p : Fin 64) (s : State) :
    Effect.ok 0x4F6D8FF07C3 s (execProtDeadline p s) := by
  unfold execProtDeadline
  try dsimp only
  repeat' first
    | with_reducible apply Effect.refl
    | with_reducible assumption
    | ((with_reducible apply Effect.ite) <;> intro _)
    | apply Effect.ok_next
    | ((with_reducible apply Effect.after (State.protTick_effect ..)); exact rfl)
    | ((with_reducible apply Effect.after (State.upToTai_effect ..)); exact rfl)

theorem execToMinonExpiry_effect (m : Fin 4) (s : State) :
    Effect.ok 0x40400400001 s (execToMinonExpiry m s) := by
  unfold execToMinonExpiry
  try dsimp only
  repeat' first
    | with_reducible apply Effect.refl
    | with_reducible assumption
    | ((with_reducible apply Effect.ite) <;> intro _)
    | apply Effect.ok_next
    | ((with_reducible apply Effect.after (State.toOpen_effect ..)); exact rfl)
    | ((with_reducible apply Effect.after (State.upTo_effect ..)); exact rfl)

theorem execGooseRetransmit_effect (g : Fin 64) (s : State) :
    Effect.ok 0x4F600800003 s (execGooseRetransmit g s) := by
  unfold execGooseRetransmit
  try dsimp only
  repeat' first
    | with_reducible apply Effect.refl
    | with_reducible assumption
    | apply Effect.ok_next
    | ((with_reducible apply Effect.after (State.upTo_effect ..)); exact rfl)
    | ((with_reducible apply Effect.after (State.gpSend_effect ..)); exact rfl)
    | split

theorem State.gsAuth_effect (s : State) (k : ℕ) (fr : GooseFrame) :
    Effect 0x8001000000 s ((State.gsAuth s k fr).2) := by
  unfold State.gsAuth
  try dsimp only
  repeat' first
    | with_reducible apply Effect.refl
    | with_reducible assumption
    | ((with_reducible apply Effect.ite) <;> intro _)
    | ((with_reducible apply Effect.after (State.updGs_effect ..)); exact rfl)
    | ((with_reducible apply Effect.after (State.useKey_effect ..)); exact rfl)
    | ((with_reducible apply Effect.after (State.useKey_effect_eq ‹_›)); exact rfl)
    | split

theorem State.gsAuth_effect_eq {s : State} {k : ℕ} {fr : GooseFrame} {v_ : Bool} {t_ : State}
    (he : State.gsAuth s k fr = (v_, t_)) : Effect 0x8001000000 s t_ := by
  have h := State.gsAuth_effect s k fr
  rw [he] at h
  exact h

theorem execGooseRx_effect (k : Fin 256) (fr : GooseFrame) (t : ℕ) (s : State) :
    Effect.ok 0x8401000001 s (execGooseRx k fr t s) := by
  unfold execGooseRx
  try dsimp only
  repeat' first
    | with_reducible apply Effect.refl
    | with_reducible assumption
    | ((with_reducible apply Effect.ite) <;> intro _)
    | apply Effect.ok_next
    | ((with_reducible apply Effect.after (State.upTo_effect ..)); exact rfl)
    | ((with_reducible apply Effect.after (State.gsAuth_effect ..)); exact rfl)
    | ((with_reducible apply Effect.after (State.gsAuth_effect_eq ‹_›)); exact rfl)
    | ((with_reducible apply Effect.after (State.updGs_effect ..)); exact rfl)

theorem execGooseTalExpiry_effect (k : Fin 256) (s : State) :
    Effect.ok 0x401000001 s (execGooseTalExpiry k s) := by
  unfold execGooseTalExpiry
  try dsimp only
  repeat' first
    | with_reducible apply Effect.refl
    | with_reducible assumption
    | ((with_reducible apply Effect.ite) <;> intro _)
    | apply Effect.ok_next
    | ((with_reducible apply Effect.after (State.updGs_effect ..)); exact rfl)
    | ((with_reducible apply Effect.after (State.upTo_effect ..)); exact rfl)
    | split

end Sys2Proof.Machine
end

