-- ==== Sys2Proof/Laws/EffProtDesc.lean ====
section
/-! SUPPORT. What each operation of Machine/ProtDesc.lean may do: the parts it may write, and that its result follows
what it was given (Laws/Effect.lean). -/

namespace Sys2Proof.Machine

theorem execLoadBank_effect (i : Fin 64) (r : Fin 8) (buf : Option (List ℤ)) (s : State) :
    Effect.ok 0x47000010002 s (execLoadBank i r buf s) := by
  unfold execLoadBank
  try dsimp only
  repeat' first
    | with_reducible apply Effect.refl
    | with_reducible assumption
    | ((with_reducible apply Effect.ite) <;> intro _)
    | apply Effect.ok_next
    | ((with_reducible apply State.runDesc_effect) <;> [skip; (intro t x1 x2 ht); exact rfl])
    | ((with_reducible apply Effect.after (State.complete_effect ..)); exact rfl)
    | ((with_reducible apply Effect.after (State.hostFail_effect ..)); exact rfl)
    | ((with_reducible apply Effect.after (State.updChain_effect ..)); exact rfl)
    | ((with_reducible apply Effect.after (State.mirror_effect ..)); exact rfl)
    | split

theorem execSwitchConsumers_effect (i : Fin 64) (r : Fin 8) (s : State) :
    Effect.ok 0x47000200002 s (execSwitchConsumers i r s) := by
  unfold execSwitchConsumers
  try dsimp only
  repeat' first
    | with_reducible apply Effect.refl
    | with_reducible assumption
    | ((with_reducible apply Effect.ite) <;> intro _)
    | apply Effect.ok_next
    | ((with_reducible apply State.runDesc_effect) <;> [skip; (intro t x1 x2 ht); exact rfl])
    | ((with_reducible apply Effect.after (State.complete_effect ..)); exact rfl)
    | ((with_reducible apply Effect.after (State.updProt_effect ..)); exact rfl)
    | split

theorem execSetDelay_effect (i : Fin 64) (r : Fin 8) (s : State) :
    Effect.ok 0x47000020002 s (execSetDelay i r s) := by
  unfold execSetDelay
  try dsimp only
  repeat' first
    | with_reducible apply Effect.refl
    | with_reducible assumption
    | ((with_reducible apply Effect.ite) <;> intro _)
    | apply Effect.ok_next
    | ((with_reducible apply State.runDesc_effect) <;> [skip; (intro t x1 x2 ht); exact rfl])
    | ((with_reducible apply Effect.after (State.complete_effect ..)); exact rfl)
    | ((with_reducible apply Effect.after (State.updSlot_effect ..)); exact rfl)
    | ((with_reducible apply Effect.after (State.mirror_effect ..)); exact rfl)

theorem State.settingsWrite_effect (s : State) (p : ℕ) (j : ℕ) (d : Desc) (buf : Option (List Byte)) :
    Effect 0x3000040000 s (State.settingsWrite s p j d buf) := by
  unfold State.settingsWrite
  try dsimp only
  repeat' first
    | with_reducible apply Effect.refl
    | with_reducible assumption
    | ((with_reducible apply Effect.ite) <;> intro _)
    | ((with_reducible apply Effect.after (State.hostFail_effect ..)); exact rfl)
    | ((with_reducible apply Effect.after (State.complete_effect ..)); exact rfl)
    | ((with_reducible apply Effect.after (State.updFn_effect ..)); exact rfl)
    | ((with_reducible apply Effect.after (State.mirror_effect ..)); exact rfl)
    | split

theorem execSettingsLoad_effect (i : Fin 64) (r : Fin 8) (buf : Option (List Byte)) (s : State) :
    Effect.ok 0x47000040002 s (execSettingsLoad i r buf s) := by
  unfold execSettingsLoad
  try dsimp only
  repeat' first
    | with_reducible apply Effect.refl
    | with_reducible assumption
    | ((with_reducible apply Effect.ite) <;> intro _)
    | apply Effect.ok_next
    | ((with_reducible apply State.runDesc_effect) <;> [skip; (intro t x1 x2 ht); exact rfl])
    | ((with_reducible apply Effect.after (State.complete_effect ..)); exact rfl)
    | ((with_reducible apply Effect.after (State.updFn_effect ..)); exact rfl)
    | ((with_reducible apply Effect.after (State.settingsWrite_effect ..)); exact rfl)
    | split

theorem execSettingsLoadDeferred_effect (i : Fin 64) (r : Fin 8) (buf : Option (List Byte)) (s : State) :
    Effect.ok 0x47000040002 s (execSettingsLoadDeferred i r buf s) := by
  unfold execSettingsLoadDeferred
  try dsimp only
  repeat' first
    | with_reducible apply Effect.refl
    | with_reducible assumption
    | ((with_reducible apply Effect.ite) <;> intro _)
    | apply Effect.ok_next
    | ((with_reducible apply Effect.after (State.syncSlice_effect ..)); exact rfl)
    | ((with_reducible apply Effect.after (State.complete_effect ..)); exact rfl)
    | ((with_reducible apply Effect.after (State.updFn_effect ..)); exact rfl)
    | ((with_reducible apply Effect.after (State.settingsWrite_effect ..)); exact rfl)
    | split

theorem execSettingsSwitch_effect (i : Fin 64) (r : Fin 8) (s : State) :
    Effect.ok 0x47000040002 s (execSettingsSwitch i r s) := by
  unfold execSettingsSwitch
  try dsimp only
  repeat' first
    | with_reducible apply Effect.refl
    | with_reducible assumption
    | ((with_reducible apply Effect.ite) <;> intro _)
    | apply Effect.ok_next
    | ((with_reducible apply State.runDesc_effect) <;> [skip; (intro t x1 x2 ht); exact rfl])
    | ((with_reducible apply Effect.after (State.complete_effect ..)); exact rfl)
    | ((with_reducible apply Effect.after (State.updFn_effect ..)); exact rfl)
    | split

theorem execTripReset_effect (i : Fin 64) (r : Fin 8) (s : State) :
    Effect.ok 0x47000400002 s (execTripReset i r s) := by
  unfold execTripReset
  try dsimp only
  repeat' first
    | with_reducible apply Effect.refl
    | with_reducible assumption
    | ((with_reducible apply Effect.ite) <;> intro _)
    | apply Effect.ok_next
    | ((with_reducible apply State.runDesc_effect) <;> [skip; (intro t x1 x2 ht); exact rfl])
    | ((with_reducible apply Effect.after (State.complete_effect ..)); exact rfl)
    | ((with_reducible apply Effect.each) <;> [skip; (intro t x ht)])
    | ((with_reducible apply Effect.after (State.toOpen_effect ..)); exact rfl)
    | ((with_reducible apply Effect.after (State.updTo_effect ..)); exact rfl)
    | ((with_reducible apply Effect.after (State.mirror_effect ..)); exact rfl)

theorem execKeyRotate_effect (i : Fin 64) (r : Fin 8) (s : State) :
    Effect.ok 0x47001808002 s (execKeyRotate i r s) := by
  unfold execKeyRotate
  try dsimp only
  repeat' first
    | with_reducible apply Effect.refl
    | with_reducible assumption
    | ((with_reducible apply Effect.ite) <;> intro _)
    | apply Effect.ok_next
    | ((with_reducible apply State.runDesc_effect) <;> [skip; (intro t x1 x2 ht); exact rfl])
    | ((with_reducible apply Effect.after (State.complete_effect ..)); exact rfl)
    | ((with_reducible apply Effect.after (State.mirror_effect ..)); exact rfl)
    | ((with_reducible apply Effect.after (State.updSv_effect ..)); exact rfl)
    | ((with_reducible apply Effect.after (State.updGs_effect ..)); exact rfl)
    | ((with_reducible apply Effect.after (State.updGp_effect ..)); exact rfl)
    | split

end Sys2Proof.Machine
end

