-- ==== Sys2Proof/Laws/EffRecorder.lean ====
section
/-! SUPPORT. What each operation of Machine/Recorder.lean may do: the parts it may write, and that its result follows
what it was given (Laws/Effect.lean). -/

namespace Sys2Proof.Machine

theorem State.evrStore_effect (s : State) (r : EvrRec) :
    Effect 0x4000000000 s (State.evrStore s r) := by
  unfold State.evrStore
  try dsimp only
  repeat' first
    | with_reducible apply Effect.refl
    | with_reducible assumption
    | ((with_reducible apply Effect.ite) <;> intro _)
    | ((with_reducible apply Effect.after (State.updEvr_effect ..)); exact rfl)
    | ((with_reducible apply Effect.after (State.alarm_effect ..)); exact rfl)

theorem State.evrClose_effect (s : State) (partial_ : Bool) (i : ℕ) :
    Effect 0x4000000000 s (State.evrClose s partial_ i) := by
  unfold State.evrClose
  try dsimp only
  repeat' first
    | with_reducible apply Effect.refl
    | with_reducible assumption
    | ((with_reducible apply Effect.after (State.evrStore_effect ..)); exact rfl)
    | ((with_reducible apply Effect.after (State.updEvr_effect ..)); exact rfl)

theorem State.evrCloseAll_effect (s : State) (partial_ : Bool) :
    Effect 0x4000000000 s (State.evrCloseAll s partial_) := by
  unfold State.evrCloseAll
  try dsimp only
  repeat' first
    | with_reducible apply Effect.refl
    | with_reducible assumption
    | ((with_reducible apply Effect.each) <;> [skip; (intro t x ht)])
    | ((with_reducible apply Effect.after (State.evrClose_effect ..)); exact rfl)

theorem execEvrChannelUpdate_effect (i : Fin 4096) (v : ℤ) (s : State) :
    Effect.ok 0x4000000000 s (execEvrChannelUpdate i v s) := by
  unfold execEvrChannelUpdate
  try dsimp only
  repeat' first
    | with_reducible apply Effect.refl
    | with_reducible assumption
    | ((with_reducible apply Effect.ite) <;> intro _)
    | apply Effect.ok_next
    | ((with_reducible apply Effect.after (State.evrTouch_effect ..)); exact rfl)

theorem execEvrIntervalClose_effect (i : Fin 4096) (s : State) :
    Effect.ok 0x4000000000 s (execEvrIntervalClose i s) := by
  unfold execEvrIntervalClose
  try dsimp only
  repeat' first
    | with_reducible apply Effect.refl
    | with_reducible assumption
    | ((with_reducible apply Effect.ite) <;> intro _)
    | apply Effect.ok_next
    | ((with_reducible apply Effect.after (State.evrClose_effect ..)); exact rfl)

theorem State.evrFlushEnd_effect (s : State) (n : ℕ) :
    Effect 0x7000000000 s (State.evrFlushEnd s n) := by
  unfold State.evrFlushEnd
  try dsimp only
  repeat' first
    | with_reducible apply Effect.refl
    | with_reducible assumption
    | ((with_reducible apply Effect.ite) <;> intro _)
    | ((with_reducible apply Effect.after (State.clearAlarm_effect ..)); exact rfl)
    | ((with_reducible apply Effect.after (State.updEvr_effect ..)); exact rfl)
    | ((with_reducible apply Effect.each) <;> [skip; (intro t x ht)])
    | ((with_reducible apply Effect.after (State.complete_effect ..)); exact rfl)
    | split
    | ((with_reducible apply Effect.upd) <;> [skip; exact rfl; (intro p hp; cases p <;> first | exact rfl | exact absurd hp (by decide))])

theorem execEvrFlashFlushDone_effect (s : State) :
    Effect.ok 0x7000000000 s (execEvrFlashFlushDone s) := by
  unfold execEvrFlashFlushDone
  try dsimp only
  repeat' first
    | with_reducible apply Effect.refl
    | with_reducible assumption
    | ((with_reducible apply Effect.ite) <;> intro _)
    | apply Effect.ok_next
    | ((with_reducible apply Effect.after (State.evrFlushEnd_effect ..)); exact rfl)

theorem execEvrFlush_effect (i : Fin 64) (r : Fin 8) (s : State) :
    Effect.ok 0x47000000002 s (execEvrFlush i r s) := by
  unfold execEvrFlush
  try dsimp only
  repeat' first
    | with_reducible apply Effect.refl
    | with_reducible assumption
    | ((with_reducible apply Effect.ite) <;> intro _)
    | apply Effect.ok_next
    | ((with_reducible apply State.runDesc_effect) <;> [skip; (intro t x1 x2 ht); exact rfl])
    | ((with_reducible apply Effect.after (State.complete_effect ..)); exact rfl)
    | ((with_reducible apply Effect.after (State.evrCloseAll_effect ..)); exact rfl)
    | ((with_reducible apply Effect.after (State.updEvr_effect ..)); exact rfl)

theorem State.snapOut_effect (s : State) (i : ℕ) (j : ℕ) (d : Desc) (data : List Byte) :
    Effect 0x47000000002 s (State.snapOut s i j d data) := by
  unfold State.snapOut
  try dsimp only
  repeat' first
    | with_reducible apply Effect.refl
    | with_reducible assumption
    | ((with_reducible apply Effect.after (State.complete_effect ..)); exact rfl)
    | ((with_reducible apply Effect.after (State.hostWrite_effect ..)); exact rfl)

theorem execReadEvrLive_effect (i : Fin 64) (r : Fin 8) (s : State) :
    Effect.ok 0x47000000002 s (execReadEvrLive i r s) := by
  unfold execReadEvrLive
  try dsimp only
  repeat' first
    | with_reducible apply Effect.refl
    | with_reducible assumption
    | ((with_reducible apply Effect.ite) <;> intro _)
    | apply Effect.ok_next
    | ((with_reducible apply State.runDesc_effect) <;> [skip; (intro t x1 x2 ht); exact rfl])
    | ((with_reducible apply Effect.after (State.complete_effect ..)); exact rfl)
    | ((with_reducible apply Effect.after (State.snapOut_effect ..)); exact rfl)

theorem execReadEvrLog_effect (i : Fin 64) (r : Fin 8) (s : State) :
    Effect.ok 0x47000000002 s (execReadEvrLog i r s) := by
  unfold execReadEvrLog
  try dsimp only
  repeat' first
    | with_reducible apply Effect.refl
    | with_reducible assumption
    | ((with_reducible apply Effect.ite) <;> intro _)
    | apply Effect.ok_next
    | ((with_reducible apply State.runDesc_effect) <;> [skip; (intro t x1 x2 ht); exact rfl])
    | ((with_reducible apply Effect.after (State.complete_effect ..)); exact rfl)
    | ((with_reducible apply Effect.after (State.snapOut_effect ..)); exact rfl)

theorem execReadLoupe_effect (i : Fin 64) (r : Fin 8) (s : State) :
    Effect.ok 0x47000000002 s (execReadLoupe i r s) := by
  unfold execReadLoupe
  try dsimp only
  repeat' first
    | with_reducible apply Effect.refl
    | with_reducible assumption
    | ((with_reducible apply Effect.ite) <;> intro _)
    | apply Effect.ok_next
    | ((with_reducible apply State.runDesc_effect) <;> [skip; (intro t x1 x2 ht); exact rfl])
    | ((with_reducible apply Effect.after (State.complete_effect ..)); exact rfl)
    | ((with_reducible apply Effect.after (State.snapOut_effect ..)); exact rfl)

theorem execReadDump_effect (i : Fin 64) (r : Fin 8) (s : State) :
    Effect.ok 0x47000000002 s (execReadDump i r s) := by
  unfold execReadDump
  try dsimp only
  repeat' first
    | with_reducible apply Effect.refl
    | with_reducible assumption
    | ((with_reducible apply Effect.ite) <;> intro _)
    | apply Effect.ok_next
    | ((with_reducible apply State.runDesc_effect) <;> [skip; (intro t x1 x2 ht); exact rfl])
    | ((with_reducible apply Effect.after (State.complete_effect ..)); exact rfl)
    | ((with_reducible apply Effect.after (State.snapOut_effect ..)); exact rfl)
    | split

theorem execReadChannelTable_effect (i : Fin 64) (r : Fin 8) (s : State) :
    Effect.ok 0x47000000002 s (execReadChannelTable i r s) := by
  unfold execReadChannelTable
  try dsimp only
  repeat' first
    | with_reducible apply Effect.refl
    | with_reducible assumption
    | ((with_reducible apply Effect.ite) <;> intro _)
    | apply Effect.ok_next
    | ((with_reducible apply State.runDesc_effect) <;> [skip; (intro t x1 x2 ht); exact rfl])
    | ((with_reducible apply Effect.after (State.complete_effect ..)); exact rfl)
    | ((with_reducible apply Effect.after (State.snapOut_effect ..)); exact rfl)

theorem State.loupeStart_effect (s : State) (l : ℕ) (b : ℕ) :
    Effect 0x4000000000 s (State.loupeStart s l b) := by
  unfold State.loupeStart
  try dsimp only
  repeat' first
    | with_reducible apply Effect.refl
    | with_reducible assumption
    | ((with_reducible apply Effect.after (State.updLoupe_effect ..)); exact rfl)

theorem State.lensWrite_effect {m : Nat} {s0 : State} (s : State) (l : ℕ) (f : State → State) (h0 : Effect m s0 s) (hf : ∀ (t : State), Effect m s0 t → Effect m s0 (f t))
    (hm : 0x4 &&& m = 0x4) : Effect m s0 (State.lensWrite s l f) := by
  unfold State.lensWrite
  try dsimp only
  repeat' first
    | with_reducible apply Effect.refl
    | with_reducible assumption
    | with_reducible refine hf _ ?_
    | ((with_reducible apply State.unitWrite_effect) <;> [skip; (intro t  ht); exact Effect.land hm rfl])

theorem execLoupeArm_effect (l : Fin 16) (b : Fin 4) (s : State) :
    Effect.ok 0x4000000004 s (execLoupeArm l b s) := by
  unfold execLoupeArm
  try dsimp only
  repeat' first
    | with_reducible apply Effect.refl
    | with_reducible assumption
    | apply Effect.ok_next
    | ((with_reducible apply State.lensWrite_effect) <;> [skip; (intro t  ht); exact rfl])
    | ((with_reducible apply Effect.after (State.loupeStart_effect ..)); exact rfl)

theorem execLoupeForce_effect (l : Fin 16) (b : Fin 4) (s : State) :
    Effect.ok 0x4000000004 s (execLoupeForce l b s) := by
  unfold execLoupeForce
  try dsimp only
  repeat' first
    | with_reducible apply Effect.refl
    | with_reducible assumption
    | apply Effect.ok_next
    | ((with_reducible apply State.lensWrite_effect) <;> [skip; (intro t  ht); exact rfl])
    | ((with_reducible apply Effect.after (State.updLoupe_effect ..)); exact rfl)

end Sys2Proof.Machine
end

