-- ==== Sys2Proof/Laws/EffHostRings.lean ====
section
/-! SUPPORT. What each operation of Machine/HostRings.lean may do: the parts it may write, and that its result follows
what it was given (Laws/Effect.lean). -/

namespace Sys2Proof.Machine

theorem execDoorbellPoll_effect (i : Fin 64) (s : State) :
    Effect.ok 0x41400000001 s (execDoorbellPoll i s) := by
  unfold execDoorbellPoll
  try dsimp only
  repeat' first
    | with_reducible apply Effect.refl
    | with_reducible assumption
    | ((with_reducible apply Effect.ite) <;> intro _)
    | apply Effect.ok_next
    | ((with_reducible apply Effect.after (State.upTo_effect ..)); exact rfl)
    | ((with_reducible apply Effect.after (State.updHostPort_effect ..)); exact rfl)
    | ((with_reducible apply Effect.after (State.updSlice_effect ..)); exact rfl)
    | ((with_reducible apply Effect.after (State.emit_effect ..)); exact rfl)

theorem State.emptyPoll_effect (s : State) (i : ℕ) :
    Effect 0x45000000002 s (State.emptyPoll s i) := by
  unfold State.emptyPoll
  try dsimp only
  repeat' first
    | with_reducible apply Effect.refl
    | with_reducible assumption
    | ((with_reducible apply Effect.ite) <;> intro _)
    | ((with_reducible apply Effect.after (State.updSlice_effect ..)); exact rfl)
    | ((with_reducible apply Effect.after (State.setPoll_effect ..)); exact rfl)

theorem State.hostErr_effect (s : State) (i : ℕ) :
    Effect 0x1000000000 s (State.hostErr s i) := by
  unfold State.hostErr
  try dsimp only
  repeat' first
    | with_reducible apply Effect.refl
    | with_reducible assumption
    | ((with_reducible apply Effect.after (State.updHostPort_effect ..)); exact rfl)

theorem State.setTail_effect (s : State) (i : ℕ) (r : ℕ) (tail : ℕ) :
    Effect 0x5000000000 s (State.setTail s i r tail) := by
  unfold State.setTail
  try dsimp only
  repeat' first
    | with_reducible apply Effect.refl
    | with_reducible assumption
    | ((with_reducible apply Effect.ite) <;> intro _)
    | ((with_reducible apply Effect.after (State.updSq_effect ..)); exact rfl)
    | ((with_reducible apply Effect.after (State.event_effect ..)); exact rfl)
    | ((with_reducible apply Effect.after (State.updHostPort_effect ..)); exact rfl)

theorem execDoorbellReadDone_effect (i : Fin 64) (rc : Option Doorbell) (s : State) :
    Effect.ok 0x45000000002 s (execDoorbellReadDone i rc s) := by
  unfold execDoorbellReadDone
  try dsimp only
  repeat' first
    | with_reducible apply Effect.refl
    | with_reducible assumption
    | ((with_reducible apply Effect.ite) <;> intro _)
    | apply Effect.ok_next
    | ((with_reducible apply Effect.after (State.updSlice_effect ..)); exact rfl)
    | ((with_reducible apply Effect.after (State.hostErr_effect ..)); exact rfl)
    | ((with_reducible apply Effect.after (State.syncSlice_effect ..)); exact rfl)
    | ((with_reducible apply Effect.each) <;> [skip; (intro t x ht)])
    | ((with_reducible apply Effect.after (State.setTail_effect ..)); exact rfl)
    | ((with_reducible apply Effect.after (State.emptyPoll_effect ..)); exact rfl)
    | ((with_reducible apply Effect.after (State.emits_effect ..)); exact rfl)
    | split

theorem State.take_effect (s : State) (i : ℕ) (r : ℕ) (d : Desc) (dup : Bool) :
    Effect 0x47000000002 s (State.take s i r d dup) := by
  unfold State.take
  try dsimp only
  repeat' first
    | with_reducible apply Effect.refl
    | with_reducible assumption
    | ((with_reducible apply Effect.ite) <;> intro _)
    | ((with_reducible apply Effect.after (State.updHif_effect ..)); exact rfl)
    | ((with_reducible apply Effect.after (State.placeRing_effect ..)); exact rfl)
    | ((with_reducible apply Effect.after (State.mirror_effect ..)); exact rfl)
    | ((with_reducible apply Effect.after (State.updSq_effect ..)); exact rfl)
    | ((with_reducible apply Effect.after (State.mirrorRing_effect ..)); exact rfl)
    | ((with_reducible apply Effect.after (State.payDesc_effect ..)); exact rfl)
    | ((with_reducible apply Effect.after (State.updSlice_effect ..)); exact rfl)
    | ((with_reducible apply Effect.after (State.stateIrq_effect ..)); exact rfl)
    | ((with_reducible apply Effect.after (State.hostWrite_effect ..)); exact rfl)
    | ((with_reducible apply Effect.after (State.acceptSealed_effect ..)); exact rfl)
    | ((with_reducible apply Effect.after (State.setPoll_effect ..)); exact rfl)
    | ((with_reducible apply Effect.after (State.syncFree_effect ..)); exact rfl)
    | ((with_reducible apply Effect.after (State.emit_effect ..)); exact rfl)

theorem execDescriptorReadDone_effect (i : Fin 64) (r : Fin 8) (d : Option Desc) (s : State) :
    Effect.ok 0x47000000002 s (execDescriptorReadDone i r d s) := by
  unfold execDescriptorReadDone
  try dsimp only
  repeat' first
    | with_reducible apply Effect.refl
    | with_reducible assumption
    | ((with_reducible apply Effect.ite) <;> intro _)
    | apply Effect.ok_next
    | ((with_reducible apply Effect.after (State.updSq_effect ..)); exact rfl)
    | ((with_reducible apply Effect.after (State.hostErr_effect ..)); exact rfl)
    | ((with_reducible apply Effect.after (State.emptyPoll_effect ..)); exact rfl)
    | ((with_reducible apply Effect.after (State.syncSlice_effect ..)); exact rfl)
    | ((with_reducible apply Effect.after (State.take_effect ..)); exact rfl)
    | ((with_reducible apply Effect.after (State.event_effect ..)); exact rfl)
    | split

theorem execMsixCoalTimeout_effect (i : Fin 64) (c : Fin 8) (s : State) :
    Effect.ok 0x41400000001 s (execMsixCoalTimeout i c s) := by
  unfold execMsixCoalTimeout
  try dsimp only
  repeat' first
    | with_reducible apply Effect.refl
    | with_reducible assumption
    | ((with_reducible apply Effect.ite) <;> intro _)
    | apply Effect.ok_next
    | ((with_reducible apply Effect.after (State.msix_effect ..)); exact rfl)
    | ((with_reducible apply Effect.after (State.updCq_effect ..)); exact rfl)
    | ((with_reducible apply Effect.after (State.upTo_effect ..)); exact rfl)
    | split

theorem execHostLinkDown_effect (h : Fin 2) (s : State) :
    Effect.ok 0x1000000000 s (execHostLinkDown h s) := by
  unfold execHostLinkDown
  try dsimp only
  repeat' first
    | with_reducible apply Effect.refl
    | with_reducible assumption
    | apply Effect.ok_next
    | ((with_reducible apply Effect.after (State.updHostPort_effect ..)); exact rfl)
    | split
    | ((with_reducible apply Effect.upd) <;> [skip; exact rfl; (intro p hp; cases p <;> first | exact rfl | exact absurd hp (by decide))])

theorem State.releaseHeld_effect (s : State) (e : Emission) :
    Effect 0x41000000000 s (State.releaseHeld s e) := by
  unfold State.releaseHeld
  try dsimp only
  repeat' first
    | with_reducible apply Effect.refl
    | with_reducible assumption
    | ((with_reducible apply Effect.after (State.hostEmit_effect ..)); exact rfl)
    | ((with_reducible apply Effect.after (State.emit_effect ..)); exact rfl)
    | split

theorem execHostLinkUp_effect (h : Fin 2) (speed : ℕ) (width : ℕ) (s : State) :
    Effect.ok 0x43000000000 s (execHostLinkUp h speed width s) := by
  unfold execHostLinkUp
  try dsimp only
  repeat' first
    | with_reducible apply Effect.refl
    | with_reducible assumption
    | ((with_reducible apply Effect.ite) <;> intro _)
    | apply Effect.ok_next
    | ((with_reducible apply Effect.after (State.updHostPort_effect ..)); exact rfl)
    | ((with_reducible apply Effect.after (State.flushHeld_effect ..)); exact rfl)
    | ((with_reducible apply Effect.each) <;> [skip; (intro t x ht)])
    | ((with_reducible apply Effect.after (State.releaseHeld_effect ..)); exact rfl)
    | split
    | ((with_reducible apply Effect.upd) <;> [skip; exact rfl; (intro p hp; cases p <;> first | exact rfl | exact absurd hp (by decide))])

end Sys2Proof.Machine
end

