-- ==== Sys2Proof/Laws/EffRingDesc.lean ====
section
/-! SUPPORT. What each operation of Machine/RingDesc.lean may do: the parts it may write, and that its result follows
what it was given (Laws/Effect.lean). -/

namespace Sys2Proof.Machine

theorem execNopDesc_effect (i : Fin 64) (r : Fin 8) (s : State) :
    Effect.ok 0x47000000002 s (execNopDesc i r s) := by
  unfold execNopDesc
  try dsimp only
  repeat' first
    | with_reducible apply Effect.refl
    | with_reducible assumption
    | apply Effect.ok_next
    | ((with_reducible apply State.runDesc_effect) <;> [skip; (intro t x1 x2 ht); exact rfl])
    | ((with_reducible apply Effect.after (State.complete_effect ..)); exact rfl)

theorem State.makeSq_effect (s : State) (i : ℕ) (p : SqParams) :
    Effect 0x45000000002 s (State.makeSq s i p) := by
  unfold State.makeSq
  try dsimp only
  repeat' first
    | with_reducible apply Effect.refl
    | with_reducible assumption
    | ((with_reducible apply Effect.after (State.updSq_effect ..)); exact rfl)
    | ((with_reducible apply Effect.after (State.hostWrite_effect ..)); exact rfl)
    | ((with_reducible apply Effect.after (State.stateIrq_effect ..)); exact rfl)

theorem State.makeCq_effect (s : State) (i : ℕ) (p : CqParams) :
    Effect 0x45000000002 s (State.makeCq s i p) := by
  unfold State.makeCq
  try dsimp only
  repeat' first
    | with_reducible apply Effect.refl
    | with_reducible assumption
    | ((with_reducible apply Effect.after (State.updCq_effect ..)); exact rfl)
    | ((with_reducible apply Effect.after (State.stateIrq_effect ..)); exact rfl)
    | ((with_reducible apply Effect.after (State.hostWrite_effect ..)); exact rfl)

theorem execRingCreate_effect (i : Fin 64) (r : Fin 8) (s : State) :
    Effect.ok 0x47000000002 s (execRingCreate i r s) := by
  unfold execRingCreate
  try dsimp only
  repeat' first
    | with_reducible apply Effect.refl
    | with_reducible assumption
    | ((with_reducible apply Effect.ite) <;> intro _)
    | apply Effect.ok_next
    | ((with_reducible apply State.runDesc_effect) <;> [skip; (intro t x1 x2 ht); exact rfl])
    | ((with_reducible apply Effect.after (State.complete_effect ..)); exact rfl)
    | ((with_reducible apply Effect.after (State.mirror_effect ..)); exact rfl)
    | ((with_reducible apply Effect.after (State.makeSq_effect ..)); exact rfl)
    | ((with_reducible apply Effect.after (State.makeCq_effect ..)); exact rfl)
    | split

theorem execRingDestroy_effect (i : Fin 64) (r : Fin 8) (s : State) :
    Effect.ok 0x47000000002 s (execRingDestroy i r s) := by
  unfold execRingDestroy
  try dsimp only
  repeat' first
    | with_reducible apply Effect.refl
    | with_reducible assumption
    | ((with_reducible apply Effect.ite) <;> intro _)
    | apply Effect.ok_next
    | ((with_reducible apply State.runDesc_effect) <;> [skip; (intro t x1 x2 ht); exact rfl])
    | ((with_reducible apply Effect.after (State.complete_effect ..)); exact rfl)
    | ((with_reducible apply Effect.after (State.updSq_effect ..)); exact rfl)
    | ((with_reducible apply Effect.after (State.stateIrq_effect ..)); exact rfl)
    | ((with_reducible apply Effect.after (State.hostWrite_effect ..)); exact rfl)
    | ((with_reducible apply Effect.after (State.updCq_effect ..)); exact rfl)
    | ((with_reducible apply Effect.after (State.mirror_effect ..)); exact rfl)

theorem execRingDestroyDone_effect (i : Fin 64) (r : Fin 8) (s : State) :
    Effect.ok 0x47000000002 s (execRingDestroyDone i r s) := by
  unfold execRingDestroyDone
  try dsimp only
  repeat' first
    | with_reducible apply Effect.refl
    | with_reducible assumption
    | ((with_reducible apply Effect.ite) <;> intro _)
    | apply Effect.ok_next
    | ((with_reducible apply Effect.after (State.updSq_effect ..)); exact rfl)
    | ((with_reducible apply Effect.after (State.mirror_effect ..)); exact rfl)
    | ((with_reducible apply Effect.after (State.stateIrq_effect ..)); exact rfl)
    | ((with_reducible apply Effect.after (State.hostWrite_effect ..)); exact rfl)
    | ((with_reducible apply Effect.each) <;> [skip; (intro t x ht)])
    | ((with_reducible apply Effect.after (State.forgetRing_effect ..)); exact rfl)
    | ((with_reducible apply Effect.after (State.complete_effect ..)); exact rfl)

end Sys2Proof.Machine
end

