-- ==== Sys2Proof/Laws/EffUnitOps.lean ====
section
/-! SUPPORT. What each operation of Machine/UnitOps.lean may do: the parts it may write, and that its result follows
what it was given (Laws/Effect.lean). -/

namespace Sys2Proof.Machine

theorem State.startFresh_effect (s : State) (a : UnitId) :
    Effect 0xC0020000 s (State.startFresh s a) := by
  unfold State.startFresh
  try dsimp only
  repeat' first
    | with_reducible apply Effect.refl
    | with_reducible assumption
    | ((with_reducible apply Effect.after (State.updBeam_effect ..)); exact rfl)
    | ((with_reducible apply Effect.after (State.updPwm_effect ..)); exact rfl)
    | split
    | ((with_reducible apply Effect.upd) <;> [skip; exact rfl; (intro p hp; cases p <;> first | exact rfl | exact absurd hp (by decide))])

theorem State.unitBegin_effect (s : State) (u : UnitId) :
    Effect 0xC0020020 s (State.unitBegin s u) := by
  unfold State.unitBegin
  try dsimp only
  repeat' first
    | with_reducible apply Effect.refl
    | with_reducible assumption
    | ((with_reducible apply Effect.after (State.updUnit_effect ..)); exact rfl)
    | ((with_reducible apply Effect.after (State.startFresh_effect ..)); exact rfl)

theorem State.unitHalt_effect (s : State) (u : UnitId) :
    Effect 0x20 s (State.unitHalt s u) := by
  unfold State.unitHalt
  try dsimp only
  repeat' first
    | with_reducible apply Effect.refl
    | with_reducible assumption
    | ((with_reducible apply Effect.after (State.updUnit_effect ..)); exact rfl)

theorem State.unitStarted_effect (s : State) (u : UnitId) :
    Effect 0x20 s (State.unitStarted s u) := by
  unfold State.unitStarted
  try dsimp only
  repeat' first
    | with_reducible apply Effect.refl
    | with_reducible assumption
    | ((with_reducible apply Effect.ite) <;> intro _)
    | ((with_reducible apply Effect.after (State.updUnit_effect ..)); exact rfl)
    | ((with_reducible apply Effect.after (State.unitHalt_effect ..)); exact rfl)

theorem State.unitStopped_effect (s : State) (u : UnitId) :
    Effect 0xC0020020 s (State.unitStopped s u) := by
  unfold State.unitStopped
  try dsimp only
  repeat' first
    | with_reducible apply Effect.refl
    | with_reducible assumption
    | ((with_reducible apply Effect.ite) <;> intro _)
    | ((with_reducible apply Effect.after (State.unitBegin_effect ..)); exact rfl)
    | ((with_reducible apply Effect.after (State.updUnit_effect ..)); exact rfl)

end Sys2Proof.Machine
end

