-- ==== Sys2Proof/Laws/EffSlices.lean ====
section
/-! SUPPORT. What each operation of Machine/Slices.lean may do: the parts it may write, and that its result follows
what it was given (Laws/Effect.lean). -/

namespace Sys2Proof.Machine

theorem State.setShare_effect (s : State) (k : ℕ) (d : Desc) :
    Effect 0x1000000000 s (State.setShare s k d) := by
  unfold State.setShare
  try dsimp only
  repeat' first
    | with_reducible apply Effect.refl
    | with_reducible assumption
    | ((with_reducible apply Effect.after (State.updSlice_effect ..)); exact rfl)

theorem State.tokens_effect (s : State) (rate : ℕ) (lvl : ℤ) (w : ℕ) :
    Effect 0x2 s ((State.tokens s rate lvl w).2) := by
  unfold State.tokens
  try dsimp only
  repeat' first
    | with_reducible apply Effect.refl
    | with_reducible assumption
    | ((with_reducible apply Effect.after (State.free_effect ..)); exact rfl)
    | ((with_reducible apply Effect.after (State.free_effect_eq ‹_›)); exact rfl)
    | split

theorem State.tokens_effect_eq {s : State} {rate : ℕ} {lvl : ℤ} {w : ℕ} {v_ : ℕ} {t_ : State}
    (he : State.tokens s rate lvl w = (v_, t_)) : Effect 0x2 s t_ := by
  have h := State.tokens_effect s rate lvl w
  rw [he] at h
  exact h

theorem execApertureSet_effect (i : Fin 64) (r : Fin 8) (s : State) :
    Effect.ok 0x47A00000002 s (execApertureSet i r s) := by
  unfold execApertureSet
  try dsimp only
  repeat' first
    | with_reducible apply Effect.refl
    | with_reducible assumption
    | ((with_reducible apply Effect.ite) <;> intro _)
    | apply Effect.ok_next
    | ((with_reducible apply State.runDesc_effect) <;> [skip; (intro t x1 x2 ht); exact rfl])
    | ((with_reducible apply Effect.after (State.complete_effect ..)); exact rfl)
    | ((with_reducible apply Effect.after (State.mirror_effect ..)); exact rfl)
    | ((with_reducible apply Effect.after (State.setShare_effect ..)); exact rfl)
    | ((with_reducible apply Effect.after (State.tokens_effect ..)); exact rfl)
    | ((with_reducible apply Effect.after (State.tokens_effect_eq ‹_›)); exact rfl)
    | ((with_reducible apply Effect.after (State.syncSlice_effect ..)); exact rfl)
    | ((with_reducible apply Effect.after (State.lateRecords_effect ..)); exact rfl)

theorem execDescBucketRefill_effect (i : Fin 64) (s : State) :
    Effect.ok 0x45400000003 s (execDescBucketRefill i s) := by
  unfold execDescBucketRefill
  try dsimp only
  repeat' first
    | with_reducible apply Effect.refl
    | with_reducible assumption
    | ((with_reducible apply Effect.ite) <;> intro _)
    | apply Effect.ok_next
    | ((with_reducible apply Effect.after (State.upTo_effect ..)); exact rfl)
    | ((with_reducible apply Effect.after (State.syncSlice_effect ..)); exact rfl)

theorem execByteBucketRefill_effect (i : Fin 64) (s : State) :
    Effect.ok 0x45E00000003 s (execByteBucketRefill i s) := by
  unfold execByteBucketRefill
  try dsimp only
  repeat' first
    | with_reducible apply Effect.refl
    | with_reducible assumption
    | ((with_reducible apply Effect.ite) <;> intro _)
    | apply Effect.ok_next
    | ((with_reducible apply Effect.after (State.upTo_effect ..)); exact rfl)
    | ((with_reducible apply Effect.after (State.syncSlice_effect ..)); exact rfl)
    | ((with_reducible apply Effect.after (State.lateRecords_effect ..)); exact rfl)

theorem State.updWork_effect (s : State) (i : ℕ) (f : ResetWork → ResetWork) :
    Effect 0x1000000000 s (State.updWork s i f) := by
  unfold State.updWork
  try dsimp only
  repeat' first
    | with_reducible apply Effect.refl
    | with_reducible assumption
    | ((with_reducible apply Effect.after (State.updSlice_effect ..)); exact rfl)

theorem State.setSliceState_effect (s : State) (i : ℕ) (st : SliceState) :
    Effect 0x45000000002 s (State.setSliceState s i st) := by
  unfold State.setSliceState
  try dsimp only
  repeat' first
    | with_reducible apply Effect.refl
    | with_reducible assumption
    | ((with_reducible apply Effect.after (State.stateIrq_effect ..)); exact rfl)
    | ((with_reducible apply Effect.after (State.hostWrite_effect ..)); exact rfl)
    | ((with_reducible apply Effect.after (State.updSlice_effect ..)); exact rfl)

theorem State.resumePolls_effect (s : State) (i : ℕ) :
    Effect 0x45000000002 s (State.resumePolls s i) := by
  unfold State.resumePolls
  try dsimp only
  repeat' first
    | with_reducible apply Effect.refl
    | with_reducible assumption
    | ((with_reducible apply Effect.after (State.updSlice_effect ..)); exact rfl)
    | ((with_reducible apply Effect.after (State.setPoll_effect ..)); exact rfl)

theorem State.cancelAccepted_effect (s : State) (i : ℕ) :
    Effect 0x3000000000 s (State.cancelAccepted s i) := by
  unfold State.cancelAccepted
  try dsimp only
  repeat' first
    | with_reducible apply Effect.refl
    | with_reducible assumption
    | ((with_reducible apply Effect.each) <;> [skip; (intro t x ht)])
    | ((with_reducible apply Effect.after (State.complete_effect ..)); exact rfl)
    | ((with_reducible apply Effect.after (State.updWork_effect ..)); exact rfl)

theorem State.resetCheck_effect (s : State) (i : ℕ) :
    Effect 0x47000000002 s (State.resetCheck s i) := by
  unfold State.resetCheck
  try dsimp only
  repeat' first
    | with_reducible apply Effect.refl
    | with_reducible assumption
    | ((with_reducible apply Effect.ite) <;> intro _)
    | ((with_reducible apply Effect.after (State.setSliceState_effect ..)); exact rfl)
    | ((with_reducible apply Effect.after (State.updSlice_effect ..)); exact rfl)
    | ((with_reducible apply Effect.after (State.complete_effect ..)); exact rfl)
    | ((with_reducible apply Effect.after (State.resumePolls_effect ..)); exact rfl)
    | ((with_reducible apply Effect.after (State.mirror_effect ..)); exact rfl)
    | ((with_reducible apply Effect.after (State.cancelAccepted_effect ..)); exact rfl)
    | split

theorem State.unstart_effect (s : State) (j : ℕ) :
    Effect 0x200240000 s (State.unstart s j) := by
  unfold State.unstart
  try dsimp only
  repeat' first
    | with_reducible apply Effect.refl
    | with_reducible assumption
    | split
    | ((with_reducible apply Effect.upd) <;> [skip; exact rfl; (intro p hp; cases p <;> first | exact rfl | exact absurd hp (by decide))])

theorem State.endStarted_effect (s : State) (i : ℕ) :
    Effect 0x3200240000 s (State.endStarted s i) := by
  unfold State.endStarted
  try dsimp only
  repeat' first
    | with_reducible apply Effect.refl
    | with_reducible assumption
    | ((with_reducible apply Effect.ite) <;> intro _)
    | ((with_reducible apply Effect.each) <;> [skip; (intro t x ht)])
    | ((with_reducible apply Effect.after (State.complete_effect ..)); exact rfl)
    | ((with_reducible apply Effect.after (State.unstart_effect ..)); exact rfl)
    | ((with_reducible apply Effect.after (State.updWork_effect ..)); exact rfl)

theorem State.resetCompletion_effect (s : State) (i : ℕ) (n : ℕ) (buf : ℕ) (e : JEntry) :
    Effect 0x47000000002 s (State.resetCompletion s i n buf e) := by
  unfold State.resetCompletion
  try dsimp only
  repeat' first
    | with_reducible apply Effect.refl
    | with_reducible assumption
    | ((with_reducible apply Effect.ite) <;> intro _)
    | ((with_reducible apply Effect.after (State.hostWrite_effect ..)); exact rfl)
    | ((with_reducible apply Effect.after (State.payBytes_effect ..)); exact rfl)
    | ((with_reducible apply Effect.after (State.freeEntry_effect ..)); exact rfl)
    | ((with_reducible apply Effect.after (State.updWork_effect ..)); exact rfl)
    | ((with_reducible apply Effect.after (State.writeCompletion_effect ..)); exact rfl)

theorem State.resetWrite_effect (s : State) (i : ℕ) (buf : ℕ) :
    Effect 0x47000000002 s (State.resetWrite s i buf) := by
  unfold State.resetWrite
  try dsimp only
  repeat' first
    | with_reducible apply Effect.refl
    | with_reducible assumption
    | ((with_reducible apply Effect.each) <;> [skip; (intro t x ht)])
    | ((with_reducible apply Effect.after (State.resetCompletion_effect ..)); exact rfl)

theorem State.ringsOff_effect (s : State) (i : ℕ) (lo : ℕ) :
    Effect 0x45000000002 s (State.ringsOff s i lo) := by
  unfold State.ringsOff
  try dsimp only
  repeat' first
    | with_reducible apply Effect.refl
    | with_reducible assumption
    | ((with_reducible apply Effect.ite) <;> intro _)
    | ((with_reducible apply Effect.each) <;> [skip; (intro t x ht)])
    | ((with_reducible apply Effect.after (State.hostWrite_effect ..)); exact rfl)
    | ((with_reducible apply Effect.after (State.updSq_effect ..)); exact rfl)
    | ((with_reducible apply Effect.after (State.forgetRing_effect ..)); exact rfl)
    | ((with_reducible apply Effect.after (State.updCq_effect ..)); exact rfl)

theorem State.writeHeads_effect (s : State) (i : ℕ) :
    Effect 0x45000000002 s (State.writeHeads s i) := by
  unfold State.writeHeads
  try dsimp only
  repeat' first
    | with_reducible apply Effect.refl
    | with_reducible assumption
    | ((with_reducible apply Effect.ite) <;> intro _)
    | ((with_reducible apply Effect.each) <;> [skip; (intro t x ht)])
    | ((with_reducible apply Effect.after (State.hostWrite_effect ..)); exact rfl)

theorem State.dropHeld_effect {m : Nat} {s0 : State} (s : State) (i : ℕ) (f : State → State) (h0 : Effect m s0 s) (hf : ∀ (t : State), Effect m s0 t → Effect m s0 (f t))
    (hm : 0x1000000000 &&& m = 0x1000000000) : Effect m s0 (State.dropHeld s i f) := by
  unfold State.dropHeld
  try dsimp only
  repeat' first
    | with_reducible apply Effect.refl
    | with_reducible assumption
    | ((with_reducible apply Effect.ite) <;> intro _)
    | with_reducible refine hf _ ?_
    | ((with_reducible apply Effect.after (State.dropHost_effect ..)); exact Effect.land hm rfl)

theorem State.resetLast_effect (s : State) (i : ℕ) (w : ResetWork) (buf : ℕ) :
    Effect 0x47000000002 s (State.resetLast s i w buf) := by
  unfold State.resetLast
  try dsimp only
  repeat' first
    | with_reducible apply Effect.refl
    | with_reducible assumption
    | ((with_reducible apply State.dropHeld_effect) <;> [skip; (intro t  ht); exact rfl])
    | ((with_reducible apply Effect.after (State.ringsOff_effect ..)); exact rfl)
    | ((with_reducible apply Effect.after (State.writeHeads_effect ..)); exact rfl)
    | ((with_reducible apply Effect.after (State.resetWrite_effect ..)); exact rfl)
    | ((with_reducible apply Effect.after (State.setSliceState_effect ..)); exact rfl)
    | ((with_reducible apply Effect.after (State.updCq_effect ..)); exact rfl)
    | ((with_reducible apply Effect.after (State.updSq_effect ..)); exact rfl)
    | ((with_reducible apply Effect.after (State.resumePolls_effect ..)); exact rfl)
    | ((with_reducible apply Effect.after (State.updSlice_effect ..)); exact rfl)
    | ((with_reducible apply Effect.after (State.complete_effect ..)); exact rfl)
    | ((with_reducible apply Effect.after (State.mirror_effect ..)); exact rfl)

theorem State.removeLast_effect (s : State) (i : ℕ) (buf : ℕ) :
    Effect 0x47000000022 s (State.removeLast s i buf) := by
  unfold State.removeLast
  try dsimp only
  repeat' first
    | with_reducible apply Effect.refl
    | with_reducible assumption
    | ((with_reducible apply State.dropHeld_effect) <;> [skip; (intro t  ht); exact rfl])
    | ((with_reducible apply Effect.after (State.writeHeads_effect ..)); exact rfl)
    | ((with_reducible apply Effect.after (State.resetWrite_effect ..)); exact rfl)
    | ((with_reducible apply Effect.after (State.ringsOff_effect ..)); exact rfl)
    | ((with_reducible apply Effect.after (State.setSliceState_effect ..)); exact rfl)
    | ((with_reducible apply Effect.after (State.updHif_effect ..)); exact rfl)
    | ((with_reducible apply Effect.after (State.updSlice_effect ..)); exact rfl)
    | ((with_reducible apply Effect.after (State.unitHalt_effect ..)); exact rfl)
    | ((with_reducible apply Effect.after (State.updUnit_effect ..)); exact rfl)
    | ((with_reducible apply Effect.after (State.mirror_effect ..)); exact rfl)
    | ((with_reducible apply Effect.after (State.updWork_effect ..)); exact rfl)

theorem State.resetGo_effect (s : State) (i : ℕ) :
    Effect 0x47200240022 s (State.resetGo s i) := by
  unfold State.resetGo
  try dsimp only
  repeat' first
    | with_reducible apply Effect.refl
    | with_reducible assumption
    | ((with_reducible apply Effect.ite) <;> intro _)
    | ((with_reducible apply Effect.after (State.resetCheck_effect ..)); exact rfl)
    | ((with_reducible apply Effect.after (State.endStarted_effect ..)); exact rfl)
    | ((with_reducible apply Effect.after (State.resetLast_effect ..)); exact rfl)
    | ((with_reducible apply Effect.after (State.removeLast_effect ..)); exact rfl)
    | split

theorem State.beginReset_effect (s : State) (i : ℕ) (j : ℕ) (m : ResetMode) :
    Effect 0x47A00000002 s (State.beginReset s i j m) := by
  unfold State.beginReset
  try dsimp only
  repeat' first
    | with_reducible apply Effect.refl
    | with_reducible assumption
    | ((with_reducible apply Effect.after (State.updSlice_effect ..)); exact rfl)
    | ((with_reducible apply State.dropHeld_effect) <;> [skip; (intro t  ht); exact rfl])
    | ((with_reducible apply Effect.after (State.lateRecords_effect ..)); exact rfl)
    | ((with_reducible apply Effect.after (State.setSliceState_effect ..)); exact rfl)
    | ((with_reducible apply Effect.after (State.resetCheck_effect ..)); exact rfl)
    | ((with_reducible apply Effect.after (State.mirror_effect ..)); exact rfl)

theorem State.resumeSlice_effect (s : State) (i : ℕ) (j : ℕ) (d : Desc) :
    Effect 0x47000000002 s (State.resumeSlice s i j d) := by
  unfold State.resumeSlice
  try dsimp only
  repeat' first
    | with_reducible apply Effect.refl
    | with_reducible assumption
    | ((with_reducible apply Effect.ite) <;> intro _)
    | ((with_reducible apply Effect.after (State.complete_effect ..)); exact rfl)
    | ((with_reducible apply Effect.after (State.updSlice_effect ..)); exact rfl)
    | ((with_reducible apply Effect.after (State.mirror_effect ..)); exact rfl)
    | ((with_reducible apply Effect.after (State.syncSlice_effect ..)); exact rfl)
    | ((with_reducible apply Effect.after (State.resumePolls_effect ..)); exact rfl)

theorem State.sliceAct_effect (s : State) (i : ℕ) (j : ℕ) (d : Desc) :
    Effect 0x47A00000002 s (State.sliceAct s i j d) := by
  unfold State.sliceAct
  try dsimp only
  repeat' first
    | with_reducible apply Effect.refl
    | with_reducible assumption
    | ((with_reducible apply Effect.ite) <;> intro _)
    | ((with_reducible apply Effect.after (State.complete_effect ..)); exact rfl)
    | ((with_reducible apply Effect.after (State.beginReset_effect ..)); exact rfl)
    | ((with_reducible apply Effect.after (State.lateRecords_effect ..)); exact rfl)
    | ((with_reducible apply Effect.after (State.updSlice_effect ..)); exact rfl)
    | ((with_reducible apply Effect.after (State.resumeSlice_effect ..)); exact rfl)
    | split

theorem State.nextResets_effect (s : State) (i n : ℕ) : Effect 0x47a00000002 s (State.nextResets s i n) := by
  induction n generalizing s with
  | zero => exact Effect.refl _ _
  | succ n ih =>
    unfold State.nextResets
    split
    · dsimp only
      split
      · exact Effect.trans (((State.updSlice_effect ..).mono rfl).go (State.sliceAct_effect ..) rfl) (ih _)
      · exact Effect.trans ((State.updSlice_effect ..).mono rfl) (ih _)
    · exact Effect.refl _ _

theorem State.sliceReset_effect (s : State) (i : ℕ) (r : ℕ) (mode : ℕ) :
    Effect 0x47A00000002 s (State.sliceReset s i r mode) := by
  unfold State.sliceReset
  try dsimp only
  repeat' first
    | with_reducible apply Effect.refl
    | with_reducible assumption
    | ((with_reducible apply Effect.ite) <;> intro _)
    | ((with_reducible apply State.runDesc_effect) <;> [skip; (intro t x1 x2 ht); exact rfl])
    | ((with_reducible apply Effect.after (State.nextResets_effect ..)); exact rfl)
    | ((with_reducible apply Effect.after (State.sliceAct_effect ..)); exact rfl)
    | ((with_reducible apply Effect.after (State.complete_effect ..)); exact rfl)
    | ((with_reducible apply Effect.after (State.updSlice_effect ..)); exact rfl)
    | split

theorem execSliceResetReset_effect (i : Fin 64) (r : Fin 8) (s : State) :
    Effect.ok 0x47A00000002 s (execSliceResetReset i r s) := by
  unfold execSliceResetReset
  try dsimp only
  repeat' first
    | with_reducible apply Effect.refl
    | with_reducible assumption
    | apply Effect.ok_next
    | ((with_reducible apply Effect.after (State.sliceReset_effect ..)); exact rfl)

theorem execSliceRemove_effect (i : Fin 64) (r : Fin 8) (s : State) :
    Effect.ok 0x47A00000002 s (execSliceRemove i r s) := by
  unfold execSliceRemove
  try dsimp only
  repeat' first
    | with_reducible apply Effect.refl
    | with_reducible assumption
    | apply Effect.ok_next
    | ((with_reducible apply Effect.after (State.sliceReset_effect ..)); exact rfl)

theorem execSlicePause_effect (i : Fin 64) (r : Fin 8) (s : State) :
    Effect.ok 0x47A00000002 s (execSlicePause i r s) := by
  unfold execSlicePause
  try dsimp only
  repeat' first
    | with_reducible apply Effect.refl
    | with_reducible assumption
    | apply Effect.ok_next
    | ((with_reducible apply Effect.after (State.sliceReset_effect ..)); exact rfl)

theorem execSliceResume_effect (i : Fin 64) (r : Fin 8) (s : State) :
    Effect.ok 0x47A00000002 s (execSliceResume i r s) := by
  unfold execSliceResume
  try dsimp only
  repeat' first
    | with_reducible apply Effect.refl
    | with_reducible assumption
    | apply Effect.ok_next
    | ((with_reducible apply Effect.after (State.sliceReset_effect ..)); exact rfl)

theorem execResetDone_effect (i : Fin 64) (s : State) :
    Effect.ok 0x47A00240022 s (execResetDone i s) := by
  unfold execResetDone
  try dsimp only
  repeat' first
    | with_reducible apply Effect.refl
    | with_reducible assumption
    | apply Effect.ok_next
    | ((with_reducible apply Effect.after (State.syncFree_effect ..)); exact rfl)
    | ((with_reducible apply Effect.after (State.nextResets_effect ..)); exact rfl)
    | ((with_reducible apply Effect.after (State.resetGo_effect ..)); exact rfl)

theorem execPauseEffect_effect (i : Fin 64) (s : State) :
    Effect.ok 0x47A00000002 s (execPauseEffect i s) := by
  unfold execPauseEffect
  try dsimp only
  repeat' first
    | with_reducible apply Effect.refl
    | with_reducible assumption
    | ((with_reducible apply Effect.ite) <;> intro _)
    | apply Effect.ok_next
    | ((with_reducible apply Effect.after (State.mirror_effect ..)); exact rfl)
    | ((with_reducible apply Effect.after (State.updSlice_effect ..)); exact rfl)
    | ((with_reducible apply Effect.after (State.complete_effect ..)); exact rfl)
    | ((with_reducible apply Effect.after (State.syncSlice_effect ..)); exact rfl)
    | ((with_reducible apply Effect.after (State.nextResets_effect ..)); exact rfl)
    | split

theorem execPauseTimeout_effect (i : Fin 64) (s : State) :
    Effect.ok 0x47E00000003 s (execPauseTimeout i s) := by
  unfold execPauseTimeout
  try dsimp only
  repeat' first
    | with_reducible apply Effect.refl
    | with_reducible assumption
    | ((with_reducible apply Effect.ite) <;> intro _)
    | apply Effect.ok_next
    | ((with_reducible apply Effect.after (State.updSlice_effect ..)); exact rfl)
    | ((with_reducible apply Effect.after (State.upTo_effect ..)); exact rfl)
    | ((with_reducible apply Effect.after (State.complete_effect ..)); exact rfl)
    | ((with_reducible apply Effect.after (State.syncSlice_effect ..)); exact rfl)
    | ((with_reducible apply Effect.after (State.nextResets_effect ..)); exact rfl)
    | split

theorem execLogFlush_effect (i : Fin 64) (r : Fin 8) (s : State) :
    Effect.ok 0x47000000002 s (execLogFlush i r s) := by
  unfold execLogFlush
  try dsimp only
  repeat' first
    | with_reducible apply Effect.refl
    | with_reducible assumption
    | ((with_reducible apply Effect.ite) <;> intro _)
    | apply Effect.ok_next
    | ((with_reducible apply State.runDesc_effect) <;> [skip; (intro t x1 x2 ht); exact rfl])
    | ((with_reducible apply Effect.after (State.complete_effect ..)); exact rfl)
    | ((with_reducible apply Effect.after (State.flushLog_effect ..)); exact rfl)

theorem execDirtyLogStart_effect (i : Fin 64) (r : Fin 8) (s : State) :
    Effect.ok 0x47000000002 s (execDirtyLogStart i r s) := by
  unfold execDirtyLogStart
  try dsimp only
  repeat' first
    | with_reducible apply Effect.refl
    | with_reducible assumption
    | ((with_reducible apply Effect.ite) <;> intro _)
    | apply Effect.ok_next
    | ((with_reducible apply State.runDesc_effect) <;> [skip; (intro t x1 x2 ht); exact rfl])
    | ((with_reducible apply Effect.after (State.complete_effect ..)); exact rfl)
    | ((with_reducible apply Effect.after (State.updSlice_effect ..)); exact rfl)
    | ((with_reducible apply Effect.after (State.mirror_effect ..)); exact rfl)

theorem execDirtyLogStop_effect (i : Fin 64) (r : Fin 8) (s : State) :
    Effect.ok 0x47000000002 s (execDirtyLogStop i r s) := by
  unfold execDirtyLogStop
  try dsimp only
  repeat' first
    | with_reducible apply Effect.refl
    | with_reducible assumption
    | ((with_reducible apply Effect.ite) <;> intro _)
    | apply Effect.ok_next
    | ((with_reducible apply State.runDesc_effect) <;> [skip; (intro t x1 x2 ht); exact rfl])
    | ((with_reducible apply Effect.after (State.complete_effect ..)); exact rfl)
    | ((with_reducible apply Effect.after (State.updSlice_effect ..)); exact rfl)
    | ((with_reducible apply Effect.after (State.mirror_effect ..)); exact rfl)

theorem execClearFilter_effect (i : Fin 64) (r : Fin 8) (s : State) :
    Effect.ok 0x47000000002 s (execClearFilter i r s) := by
  unfold execClearFilter
  try dsimp only
  repeat' first
    | with_reducible apply Effect.refl
    | with_reducible assumption
    | ((with_reducible apply Effect.ite) <;> intro _)
    | apply Effect.ok_next
    | ((with_reducible apply State.runDesc_effect) <;> [skip; (intro t x1 x2 ht); exact rfl])
    | ((with_reducible apply Effect.after (State.complete_effect ..)); exact rfl)
    | ((with_reducible apply Effect.after (State.flushLog_effect ..)); exact rfl)

end Sys2Proof.Machine
end

