-- ==== Sys2Proof/Laws/EffCompleting.lean ====
section
/-! SUPPORT. What each operation of Machine/Completing.lean may do: the parts it may write, and that its result follows
what it was given (Laws/Effect.lean). -/

namespace Sys2Proof.Machine

theorem State.failMeaningless_effect (s : State) (i : ℕ) (r : ℕ) :
    Effect 0x47000000002 s (State.failMeaningless s i r) := by
  unfold State.failMeaningless
  try dsimp only
  repeat' first
    | with_reducible apply Effect.refl
    | with_reducible assumption
    | ((with_reducible apply Effect.ite) <;> intro _)
    | ((with_reducible apply Effect.after (State.syncSlice_effect ..)); exact rfl)
    | ((with_reducible apply Effect.after (State.complete_effect ..)); exact rfl)
    | ((with_reducible apply State.runDesc_effect) <;> [skip; (intro t x1 x2 ht); exact rfl])
    | split

theorem execCompletionWrite_effect (i : Fin 64) (r : Fin 8) (s : State) :
    Effect.ok 0x47000000002 s (execCompletionWrite i r s) := by
  unfold execCompletionWrite
  try dsimp only
  repeat' first
    | with_reducible apply Effect.refl
    | with_reducible assumption
    | ((with_reducible apply Effect.ite) <;> intro _)
    | apply Effect.ok_next
    | ((with_reducible apply Effect.after (State.failMeaningless_effect ..)); exact rfl)
    | ((with_reducible apply Effect.after (State.writeCompletion_effect ..)); exact rfl)
    | split

end Sys2Proof.Machine
end

