-- ==== Sys2Proof/Laws/EffFacet.lean ====
section
/-! SUPPORT. What each operation of Machine/Facet.lean may do: the parts it may write, and that its result follows
what it was given (Laws/Effect.lean). -/

namespace Sys2Proof.Machine

theorem State.sendMsg_effect (s : State) (l : ℕ) (f : ℕ) (q : ℕ) (a : ℕ) :
    Effect 0x452000001C2 s (State.sendMsg s l f q a) := by
  unfold State.sendMsg
  try dsimp only
  repeat' first
    | with_reducible apply Effect.refl
    | with_reducible assumption
    | ((with_reducible apply Effect.ite) <;> intro _)
    | ((with_reducible apply Effect.after (State.updProg_effect ..)); exact rfl)
    | ((with_reducible apply Effect.after (State.updLens_effect ..)); exact rfl)
    | ((with_reducible apply Effect.after (State.sendLens_effect ..)); exact rfl)
    | ((with_reducible apply Effect.updFacet) <;> [skip; (intro x hx; (try dsimp only); repeat' (first | exact hx | apply memPutNat_wf | apply memPut_wf | apply initData_wf | apply exchangeData_wf | apply restoreArea_wf | apply restoreRetain_wf | apply loadWindow_wf | apply statusBlock_wf | apply loadStream_wf | apply freshData_wf | apply putOutputs_wf | apply memPutSlot_wf | apply carry_wf | (rw [queueEvent_dmem]) | exact nil_wf | (rw [setQueued_dmem]) | split)); exact rfl])

theorem State.recvMsg_effect (s : State) (l : ℕ) (f : ℕ) (q : ℕ) (a : ℕ) :
    Effect 0xC0 s (State.recvMsg s l f q a) := by
  unfold State.recvMsg
  try dsimp only
  repeat' first
    | with_reducible apply Effect.refl
    | with_reducible assumption
    | ((with_reducible apply Effect.updFacet) <;> [skip; (intro x hx; (try dsimp only); repeat' (first | exact hx | apply memPutNat_wf | apply memPut_wf | apply initData_wf | apply exchangeData_wf | apply restoreArea_wf | apply restoreRetain_wf | apply loadWindow_wf | apply statusBlock_wf | apply loadStream_wf | apply freshData_wf | apply putOutputs_wf | apply memPutSlot_wf | apply carry_wf | (rw [queueEvent_dmem]) | exact nil_wf | (rw [setQueued_dmem]) | split)); exact rfl])
    | ((with_reducible apply Effect.after (State.updProg_effect ..)); exact rfl)
    | split

theorem execLd_effect (l : Fin 16) (f : Fin 64) (w : BitVec 26) (s : State) :
    Effect.ok 0x4FAD8C03FD2 s (execLd l f w s) := by
  unfold execLd
  try dsimp only
  repeat' first
    | with_reducible apply Effect.refl
    | with_reducible assumption
    | apply Effect.ok_next
    | ((with_reducible apply State.facetOp_effect) <;> [skip; (first | apply keepsMem_bitRead | apply keepsMem_bitWrite | apply keepsMem_edge | apply keepsMem_timer | apply keepsMem_counter | apply keepsMem_countSet | apply keepsMem_jump | apply keepsMem_mStore | (apply keepsMem_mLoad; intro v x; first | rfl | (split <;> rfl)) | (apply keepsMem_rOp; intro x; first | rfl | (dsimp only; split <;> rfl)) | (apply keepsMem_iOp; intro x; first | rfl | (split <;> rfl)) | (apply keepsMem_sPlain; first | apply keepsMem_push | exact keepsMem_pop | exact keepsMem_same fun _ => rfl) | (intro x y hx h; dsimp only at h; split at h <;> cases h; exact hx)); exact rfl])

theorem execAnd_effect (l : Fin 16) (f : Fin 64) (w : BitVec 26) (s : State) :
    Effect.ok 0x4FAD8C03FD2 s (execAnd l f w s) := by
  unfold execAnd
  try dsimp only
  repeat' first
    | with_reducible apply Effect.refl
    | with_reducible assumption
    | apply Effect.ok_next
    | ((with_reducible apply State.facetOp_effect) <;> [skip; (first | apply keepsMem_bitRead | apply keepsMem_bitWrite | apply keepsMem_edge | apply keepsMem_timer | apply keepsMem_counter | apply keepsMem_countSet | apply keepsMem_jump | apply keepsMem_mStore | (apply keepsMem_mLoad; intro v x; first | rfl | (split <;> rfl)) | (apply keepsMem_rOp; intro x; first | rfl | (dsimp only; split <;> rfl)) | (apply keepsMem_iOp; intro x; first | rfl | (split <;> rfl)) | (apply keepsMem_sPlain; first | apply keepsMem_push | exact keepsMem_pop | exact keepsMem_same fun _ => rfl) | (intro x y hx h; dsimp only at h; split at h <;> cases h; exact hx)); exact rfl])

theorem execOr_effect (l : Fin 16) (f : Fin 64) (w : BitVec 26) (s : State) :
    Effect.ok 0x4FAD8C03FD2 s (execOr l f w s) := by
  unfold execOr
  try dsimp only
  repeat' first
    | with_reducible apply Effect.refl
    | with_reducible assumption
    | apply Effect.ok_next
    | ((with_reducible apply State.facetOp_effect) <;> [skip; (first | apply keepsMem_bitRead | apply keepsMem_bitWrite | apply keepsMem_edge | apply keepsMem_timer | apply keepsMem_counter | apply keepsMem_countSet | apply keepsMem_jump | apply keepsMem_mStore | (apply keepsMem_mLoad; intro v x; first | rfl | (split <;> rfl)) | (apply keepsMem_rOp; intro x; first | rfl | (dsimp only; split <;> rfl)) | (apply keepsMem_iOp; intro x; first | rfl | (split <;> rfl)) | (apply keepsMem_sPlain; first | apply keepsMem_push | exact keepsMem_pop | exact keepsMem_same fun _ => rfl) | (intro x y hx h; dsimp only at h; split at h <;> cases h; exact hx)); exact rfl])

theorem execXor_effect (l : Fin 16) (f : Fin 64) (w : BitVec 26) (s : State) :
    Effect.ok 0x4FAD8C03FD2 s (execXor l f w s) := by
  unfold execXor
  try dsimp only
  repeat' first
    | with_reducible apply Effect.refl
    | with_reducible assumption
    | apply Effect.ok_next
    | ((with_reducible apply State.facetOp_effect) <;> [skip; (first | apply keepsMem_bitRead | apply keepsMem_bitWrite | apply keepsMem_edge | apply keepsMem_timer | apply keepsMem_counter | apply keepsMem_countSet | apply keepsMem_jump | apply keepsMem_mStore | (apply keepsMem_mLoad; intro v x; first | rfl | (split <;> rfl)) | (apply keepsMem_rOp; intro x; first | rfl | (dsimp only; split <;> rfl)) | (apply keepsMem_iOp; intro x; first | rfl | (split <;> rfl)) | (apply keepsMem_sPlain; first | apply keepsMem_push | exact keepsMem_pop | exact keepsMem_same fun _ => rfl) | (intro x y hx h; dsimp only at h; split at h <;> cases h; exact hx)); exact rfl])

theorem execSt_effect (l : Fin 16) (f : Fin 64) (w : BitVec 26) (s : State) :
    Effect.ok 0x4FAD8C03FD2 s (execSt l f w s) := by
  unfold execSt
  try dsimp only
  repeat' first
    | with_reducible apply Effect.refl
    | with_reducible assumption
    | apply Effect.ok_next
    | ((with_reducible apply State.facetOp_effect) <;> [skip; (first | apply keepsMem_bitRead | apply keepsMem_bitWrite | apply keepsMem_edge | apply keepsMem_timer | apply keepsMem_counter | apply keepsMem_countSet | apply keepsMem_jump | apply keepsMem_mStore | (apply keepsMem_mLoad; intro v x; first | rfl | (split <;> rfl)) | (apply keepsMem_rOp; intro x; first | rfl | (dsimp only; split <;> rfl)) | (apply keepsMem_iOp; intro x; first | rfl | (split <;> rfl)) | (apply keepsMem_sPlain; first | apply keepsMem_push | exact keepsMem_pop | exact keepsMem_same fun _ => rfl) | (intro x y hx h; dsimp only at h; split at h <;> cases h; exact hx)); exact rfl])

theorem execSet_effect (l : Fin 16) (f : Fin 64) (w : BitVec 26) (s : State) :
    Effect.ok 0x4FAD8C03FD2 s (execSet l f w s) := by
  unfold execSet
  try dsimp only
  repeat' first
    | with_reducible apply Effect.refl
    | with_reducible assumption
    | apply Effect.ok_next
    | ((with_reducible apply State.facetOp_effect) <;> [skip; (first | apply keepsMem_bitRead | apply keepsMem_bitWrite | apply keepsMem_edge | apply keepsMem_timer | apply keepsMem_counter | apply keepsMem_countSet | apply keepsMem_jump | apply keepsMem_mStore | (apply keepsMem_mLoad; intro v x; first | rfl | (split <;> rfl)) | (apply keepsMem_rOp; intro x; first | rfl | (dsimp only; split <;> rfl)) | (apply keepsMem_iOp; intro x; first | rfl | (split <;> rfl)) | (apply keepsMem_sPlain; first | apply keepsMem_push | exact keepsMem_pop | exact keepsMem_same fun _ => rfl) | (intro x y hx h; dsimp only at h; split at h <;> cases h; exact hx)); exact rfl])

theorem execRst_effect (l : Fin 16) (f : Fin 64) (w : BitVec 26) (s : State) :
    Effect.ok 0x4FAD8C03FD2 s (execRst l f w s) := by
  unfold execRst
  try dsimp only
  repeat' first
    | with_reducible apply Effect.refl
    | with_reducible assumption
    | apply Effect.ok_next
    | ((with_reducible apply State.facetOp_effect) <;> [skip; (first | apply keepsMem_bitRead | apply keepsMem_bitWrite | apply keepsMem_edge | apply keepsMem_timer | apply keepsMem_counter | apply keepsMem_countSet | apply keepsMem_jump | apply keepsMem_mStore | (apply keepsMem_mLoad; intro v x; first | rfl | (split <;> rfl)) | (apply keepsMem_rOp; intro x; first | rfl | (dsimp only; split <;> rfl)) | (apply keepsMem_iOp; intro x; first | rfl | (split <;> rfl)) | (apply keepsMem_sPlain; first | apply keepsMem_push | exact keepsMem_pop | exact keepsMem_same fun _ => rfl) | (intro x y hx h; dsimp only at h; split at h <;> cases h; exact hx)); exact rfl])

theorem execNot_effect (l : Fin 16) (f : Fin 64) (w : BitVec 26) (s : State) :
    Effect.ok 0x4FAD8C03FD2 s (execNot l f w s) := by
  unfold execNot
  try dsimp only
  repeat' first
    | with_reducible apply Effect.refl
    | with_reducible assumption
    | apply Effect.ok_next
    | ((with_reducible apply State.facetOp_effect) <;> [skip; (first | apply keepsMem_bitRead | apply keepsMem_bitWrite | apply keepsMem_edge | apply keepsMem_timer | apply keepsMem_counter | apply keepsMem_countSet | apply keepsMem_jump | apply keepsMem_mStore | (apply keepsMem_mLoad; intro v x; first | rfl | (split <;> rfl)) | (apply keepsMem_rOp; intro x; first | rfl | (dsimp only; split <;> rfl)) | (apply keepsMem_iOp; intro x; first | rfl | (split <;> rfl)) | (apply keepsMem_sPlain; first | apply keepsMem_push | exact keepsMem_pop | exact keepsMem_same fun _ => rfl) | (intro x y hx h; dsimp only at h; split at h <;> cases h; exact hx)); exact rfl])

theorem execLa1_effect (l : Fin 16) (f : Fin 64) (w : BitVec 26) (s : State) :
    Effect.ok 0x4FAD8C03FD2 s (execLa1 l f w s) := by
  unfold execLa1
  try dsimp only
  repeat' first
    | with_reducible apply Effect.refl
    | with_reducible assumption
    | apply Effect.ok_next
    | ((with_reducible apply State.facetOp_effect) <;> [skip; (first | apply keepsMem_bitRead | apply keepsMem_bitWrite | apply keepsMem_edge | apply keepsMem_timer | apply keepsMem_counter | apply keepsMem_countSet | apply keepsMem_jump | apply keepsMem_mStore | (apply keepsMem_mLoad; intro v x; first | rfl | (split <;> rfl)) | (apply keepsMem_rOp; intro x; first | rfl | (dsimp only; split <;> rfl)) | (apply keepsMem_iOp; intro x; first | rfl | (split <;> rfl)) | (apply keepsMem_sPlain; first | apply keepsMem_push | exact keepsMem_pop | exact keepsMem_same fun _ => rfl) | (intro x y hx h; dsimp only at h; split at h <;> cases h; exact hx)); exact rfl])

theorem execLa0_effect (l : Fin 16) (f : Fin 64) (w : BitVec 26) (s : State) :
    Effect.ok 0x4FAD8C03FD2 s (execLa0 l f w s) := by
  unfold execLa0
  try dsimp only
  repeat' first
    | with_reducible apply Effect.refl
    | with_reducible assumption
    | apply Effect.ok_next
    | ((with_reducible apply State.facetOp_effect) <;> [skip; (first | apply keepsMem_bitRead | apply keepsMem_bitWrite | apply keepsMem_edge | apply keepsMem_timer | apply keepsMem_counter | apply keepsMem_countSet | apply keepsMem_jump | apply keepsMem_mStore | (apply keepsMem_mLoad; intro v x; first | rfl | (split <;> rfl)) | (apply keepsMem_rOp; intro x; first | rfl | (dsimp only; split <;> rfl)) | (apply keepsMem_iOp; intro x; first | rfl | (split <;> rfl)) | (apply keepsMem_sPlain; first | apply keepsMem_push | exact keepsMem_pop | exact keepsMem_same fun _ => rfl) | (intro x y hx h; dsimp only at h; split at h <;> cases h; exact hx)); exact rfl])

theorem execAndNest_effect (l : Fin 16) (f : Fin 64) (w : BitVec 26) (s : State) :
    Effect.ok 0x4FAD8C03FD2 s (execAndNest l f w s) := by
  unfold execAndNest
  try dsimp only
  repeat' first
    | with_reducible apply Effect.refl
    | with_reducible assumption
    | apply Effect.ok_next
    | ((with_reducible apply State.facetOp_effect) <;> [skip; (first | apply keepsMem_bitRead | apply keepsMem_bitWrite | apply keepsMem_edge | apply keepsMem_timer | apply keepsMem_counter | apply keepsMem_countSet | apply keepsMem_jump | apply keepsMem_mStore | (apply keepsMem_mLoad; intro v x; first | rfl | (split <;> rfl)) | (apply keepsMem_rOp; intro x; first | rfl | (dsimp only; split <;> rfl)) | (apply keepsMem_iOp; intro x; first | rfl | (split <;> rfl)) | (apply keepsMem_sPlain; first | apply keepsMem_push | exact keepsMem_pop | exact keepsMem_same fun _ => rfl) | (intro x y hx h; dsimp only at h; split at h <;> cases h; exact hx)); exact rfl])

theorem execOrNest_effect (l : Fin 16) (f : Fin 64) (w : BitVec 26) (s : State) :
    Effect.ok 0x4FAD8C03FD2 s (execOrNest l f w s) := by
  unfold execOrNest
  try dsimp only
  repeat' first
    | with_reducible apply Effect.refl
    | with_reducible assumption
    | apply Effect.ok_next
    | ((with_reducible apply State.facetOp_effect) <;> [skip; (first | apply keepsMem_bitRead | apply keepsMem_bitWrite | apply keepsMem_edge | apply keepsMem_timer | apply keepsMem_counter | apply keepsMem_countSet | apply keepsMem_jump | apply keepsMem_mStore | (apply keepsMem_mLoad; intro v x; first | rfl | (split <;> rfl)) | (apply keepsMem_rOp; intro x; first | rfl | (dsimp only; split <;> rfl)) | (apply keepsMem_iOp; intro x; first | rfl | (split <;> rfl)) | (apply keepsMem_sPlain; first | apply keepsMem_push | exact keepsMem_pop | exact keepsMem_same fun _ => rfl) | (intro x y hx h; dsimp only at h; split at h <;> cases h; exact hx)); exact rfl])

theorem execXorNest_effect (l : Fin 16) (f : Fin 64) (w : BitVec 26) (s : State) :
    Effect.ok 0x4FAD8C03FD2 s (execXorNest l f w s) := by
  unfold execXorNest
  try dsimp only
  repeat' first
    | with_reducible apply Effect.refl
    | with_reducible assumption
    | apply Effect.ok_next
    | ((with_reducible apply State.facetOp_effect) <;> [skip; (first | apply keepsMem_bitRead | apply keepsMem_bitWrite | apply keepsMem_edge | apply keepsMem_timer | apply keepsMem_counter | apply keepsMem_countSet | apply keepsMem_jump | apply keepsMem_mStore | (apply keepsMem_mLoad; intro v x; first | rfl | (split <;> rfl)) | (apply keepsMem_rOp; intro x; first | rfl | (dsimp only; split <;> rfl)) | (apply keepsMem_iOp; intro x; first | rfl | (split <;> rfl)) | (apply keepsMem_sPlain; first | apply keepsMem_push | exact keepsMem_pop | exact keepsMem_same fun _ => rfl) | (intro x y hx h; dsimp only at h; split at h <;> cases h; exact hx)); exact rfl])

theorem execNestClose_effect (l : Fin 16) (f : Fin 64) (w : BitVec 26) (s : State) :
    Effect.ok 0x4FAD8C03FD2 s (execNestClose l f w s) := by
  unfold execNestClose
  try dsimp only
  repeat' first
    | with_reducible apply Effect.refl
    | with_reducible assumption
    | apply Effect.ok_next
    | ((with_reducible apply State.facetOp_effect) <;> [skip; (first | apply keepsMem_bitRead | apply keepsMem_bitWrite | apply keepsMem_edge | apply keepsMem_timer | apply keepsMem_counter | apply keepsMem_countSet | apply keepsMem_jump | apply keepsMem_mStore | (apply keepsMem_mLoad; intro v x; first | rfl | (split <;> rfl)) | (apply keepsMem_rOp; intro x; first | rfl | (dsimp only; split <;> rfl)) | (apply keepsMem_iOp; intro x; first | rfl | (split <;> rfl)) | (apply keepsMem_sPlain; first | apply keepsMem_push | exact keepsMem_pop | exact keepsMem_same fun _ => rfl) | (intro x y hx h; dsimp only at h; split at h <;> cases h; exact hx)); exact rfl])

theorem execFp_effect (l : Fin 16) (f : Fin 64) (w : BitVec 26) (s : State) :
    Effect.ok 0x4FAD8C03FD2 s (execFp l f w s) := by
  unfold execFp
  try dsimp only
  repeat' first
    | with_reducible apply Effect.refl
    | with_reducible assumption
    | apply Effect.ok_next
    | ((with_reducible apply State.facetOp_effect) <;> [skip; (first | apply keepsMem_bitRead | apply keepsMem_bitWrite | apply keepsMem_edge | apply keepsMem_timer | apply keepsMem_counter | apply keepsMem_countSet | apply keepsMem_jump | apply keepsMem_mStore | (apply keepsMem_mLoad; intro v x; first | rfl | (split <;> rfl)) | (apply keepsMem_rOp; intro x; first | rfl | (dsimp only; split <;> rfl)) | (apply keepsMem_iOp; intro x; first | rfl | (split <;> rfl)) | (apply keepsMem_sPlain; first | apply keepsMem_push | exact keepsMem_pop | exact keepsMem_same fun _ => rfl) | (intro x y hx h; dsimp only at h; split at h <;> cases h; exact hx)); exact rfl])

theorem execFn_effect (l : Fin 16) (f : Fin 64) (w : BitVec 26) (s : State) :
    Effect.ok 0x4FAD8C03FD2 s (execFn l f w s) := by
  unfold execFn
  try dsimp only
  repeat' first
    | with_reducible apply Effect.refl
    | with_reducible assumption
    | apply Effect.ok_next
    | ((with_reducible apply State.facetOp_effect) <;> [skip; (first | apply keepsMem_bitRead | apply keepsMem_bitWrite | apply keepsMem_edge | apply keepsMem_timer | apply keepsMem_counter | apply keepsMem_countSet | apply keepsMem_jump | apply keepsMem_mStore | (apply keepsMem_mLoad; intro v x; first | rfl | (split <;> rfl)) | (apply keepsMem_rOp; intro x; first | rfl | (dsimp only; split <;> rfl)) | (apply keepsMem_iOp; intro x; first | rfl | (split <;> rfl)) | (apply keepsMem_sPlain; first | apply keepsMem_push | exact keepsMem_pop | exact keepsMem_same fun _ => rfl) | (intro x y hx h; dsimp only at h; split at h <;> cases h; exact hx)); exact rfl])

theorem execTon_effect (l : Fin 16) (f : Fin 64) (w : BitVec 26) (s : State) :
    Effect.ok 0x4FAD8C03FD2 s (execTon l f w s) := by
  unfold execTon
  try dsimp only
  repeat' first
    | with_reducible apply Effect.refl
    | with_reducible assumption
    | apply Effect.ok_next
    | ((with_reducible apply State.facetOp_effect) <;> [skip; (first | apply keepsMem_bitRead | apply keepsMem_bitWrite | apply keepsMem_edge | apply keepsMem_timer | apply keepsMem_counter | apply keepsMem_countSet | apply keepsMem_jump | apply keepsMem_mStore | (apply keepsMem_mLoad; intro v x; first | rfl | (split <;> rfl)) | (apply keepsMem_rOp; intro x; first | rfl | (dsimp only; split <;> rfl)) | (apply keepsMem_iOp; intro x; first | rfl | (split <;> rfl)) | (apply keepsMem_sPlain; first | apply keepsMem_push | exact keepsMem_pop | exact keepsMem_same fun _ => rfl) | (intro x y hx h; dsimp only at h; split at h <;> cases h; exact hx)); exact rfl])

theorem execTof_effect (l : Fin 16) (f : Fin 64) (w : BitVec 26) (s : State) :
    Effect.ok 0x4FAD8C03FD2 s (execTof l f w s) := by
  unfold execTof
  try dsimp only
  repeat' first
    | with_reducible apply Effect.refl
    | with_reducible assumption
    | apply Effect.ok_next
    | ((with_reducible apply State.facetOp_effect) <;> [skip; (first | apply keepsMem_bitRead | apply keepsMem_bitWrite | apply keepsMem_edge | apply keepsMem_timer | apply keepsMem_counter | apply keepsMem_countSet | apply keepsMem_jump | apply keepsMem_mStore | (apply keepsMem_mLoad; intro v x; first | rfl | (split <;> rfl)) | (apply keepsMem_rOp; intro x; first | rfl | (dsimp only; split <;> rfl)) | (apply keepsMem_iOp; intro x; first | rfl | (split <;> rfl)) | (apply keepsMem_sPlain; first | apply keepsMem_push | exact keepsMem_pop | exact keepsMem_same fun _ => rfl) | (intro x y hx h; dsimp only at h; split at h <;> cases h; exact hx)); exact rfl])

theorem execTp_effect (l : Fin 16) (f : Fin 64) (w : BitVec 26) (s : State) :
    Effect.ok 0x4FAD8C03FD2 s (execTp l f w s) := by
  unfold execTp
  try dsimp only
  repeat' first
    | with_reducible apply Effect.refl
    | with_reducible assumption
    | apply Effect.ok_next
    | ((with_reducible apply State.facetOp_effect) <;> [skip; (first | apply keepsMem_bitRead | apply keepsMem_bitWrite | apply keepsMem_edge | apply keepsMem_timer | apply keepsMem_counter | apply keepsMem_countSet | apply keepsMem_jump | apply keepsMem_mStore | (apply keepsMem_mLoad; intro v x; first | rfl | (split <;> rfl)) | (apply keepsMem_rOp; intro x; first | rfl | (dsimp only; split <;> rfl)) | (apply keepsMem_iOp; intro x; first | rfl | (split <;> rfl)) | (apply keepsMem_sPlain; first | apply keepsMem_push | exact keepsMem_pop | exact keepsMem_same fun _ => rfl) | (intro x y hx h; dsimp only at h; split at h <;> cases h; exact hx)); exact rfl])

theorem execCtu_effect (l : Fin 16) (f : Fin 64) (w : BitVec 26) (s : State) :
    Effect.ok 0x4FAD8C03FD2 s (execCtu l f w s) := by
  unfold execCtu
  try dsimp only
  repeat' first
    | with_reducible apply Effect.refl
    | with_reducible assumption
    | apply Effect.ok_next
    | ((with_reducible apply State.facetOp_effect) <;> [skip; (first | apply keepsMem_bitRead | apply keepsMem_bitWrite | apply keepsMem_edge | apply keepsMem_timer | apply keepsMem_counter | apply keepsMem_countSet | apply keepsMem_jump | apply keepsMem_mStore | (apply keepsMem_mLoad; intro v x; first | rfl | (split <;> rfl)) | (apply keepsMem_rOp; intro x; first | rfl | (dsimp only; split <;> rfl)) | (apply keepsMem_iOp; intro x; first | rfl | (split <;> rfl)) | (apply keepsMem_sPlain; first | apply keepsMem_push | exact keepsMem_pop | exact keepsMem_same fun _ => rfl) | (intro x y hx h; dsimp only at h; split at h <;> cases h; exact hx)); exact rfl])

theorem execCtd_effect (l : Fin 16) (f : Fin 64) (w : BitVec 26) (s : State) :
    Effect.ok 0x4FAD8C03FD2 s (execCtd l f w s) := by
  unfold execCtd
  try dsimp only
  repeat' first
    | with_reducible apply Effect.refl
    | with_reducible assumption
    | apply Effect.ok_next
    | ((with_reducible apply State.facetOp_effect) <;> [skip; (first | apply keepsMem_bitRead | apply keepsMem_bitWrite | apply keepsMem_edge | apply keepsMem_timer | apply keepsMem_counter | apply keepsMem_countSet | apply keepsMem_jump | apply keepsMem_mStore | (apply keepsMem_mLoad; intro v x; first | rfl | (split <;> rfl)) | (apply keepsMem_rOp; intro x; first | rfl | (dsimp only; split <;> rfl)) | (apply keepsMem_iOp; intro x; first | rfl | (split <;> rfl)) | (apply keepsMem_sPlain; first | apply keepsMem_push | exact keepsMem_pop | exact keepsMem_same fun _ => rfl) | (intro x y hx h; dsimp only at h; split at h <;> cases h; exact hx)); exact rfl])

theorem execCrs_effect (l : Fin 16) (f : Fin 64) (w : BitVec 26) (s : State) :
    Effect.ok 0x4FAD8C03FD2 s (execCrs l f w s) := by
  unfold execCrs
  try dsimp only
  repeat' first
    | with_reducible apply Effect.refl
    | with_reducible assumption
    | apply Effect.ok_next
    | ((with_reducible apply State.facetOp_effect) <;> [skip; (first | apply keepsMem_bitRead | apply keepsMem_bitWrite | apply keepsMem_edge | apply keepsMem_timer | apply keepsMem_counter | apply keepsMem_countSet | apply keepsMem_jump | apply keepsMem_mStore | (apply keepsMem_mLoad; intro v x; first | rfl | (split <;> rfl)) | (apply keepsMem_rOp; intro x; first | rfl | (dsimp only; split <;> rfl)) | (apply keepsMem_iOp; intro x; first | rfl | (split <;> rfl)) | (apply keepsMem_sPlain; first | apply keepsMem_push | exact keepsMem_pop | exact keepsMem_same fun _ => rfl) | (intro x y hx h; dsimp only at h; split at h <;> cases h; exact hx)); exact rfl])

theorem execCld_effect (l : Fin 16) (f : Fin 64) (w : BitVec 26) (s : State) :
    Effect.ok 0x4FAD8C03FD2 s (execCld l f w s) := by
  unfold execCld
  try dsimp only
  repeat' first
    | with_reducible apply Effect.refl
    | with_reducible assumption
    | apply Effect.ok_next
    | ((with_reducible apply State.facetOp_effect) <;> [skip; (first | apply keepsMem_bitRead | apply keepsMem_bitWrite | apply keepsMem_edge | apply keepsMem_timer | apply keepsMem_counter | apply keepsMem_countSet | apply keepsMem_jump | apply keepsMem_mStore | (apply keepsMem_mLoad; intro v x; first | rfl | (split <;> rfl)) | (apply keepsMem_rOp; intro x; first | rfl | (dsimp only; split <;> rfl)) | (apply keepsMem_iOp; intro x; first | rfl | (split <;> rfl)) | (apply keepsMem_sPlain; first | apply keepsMem_push | exact keepsMem_pop | exact keepsMem_same fun _ => rfl) | (intro x y hx h; dsimp only at h; split at h <;> cases h; exact hx)); exact rfl])

theorem execJu_effect (l : Fin 16) (f : Fin 64) (w : BitVec 26) (s : State) :
    Effect.ok 0x4FAD8C03FD2 s (execJu l f w s) := by
  unfold execJu
  try dsimp only
  repeat' first
    | with_reducible apply Effect.refl
    | with_reducible assumption
    | apply Effect.ok_next
    | ((with_reducible apply State.facetJump_effect) <;> [skip; (first | apply keepsMem_bitRead | apply keepsMem_bitWrite | apply keepsMem_edge | apply keepsMem_timer | apply keepsMem_counter | apply keepsMem_countSet | apply keepsMem_jump | apply keepsMem_mStore | (apply keepsMem_mLoad; intro v x; first | rfl | (split <;> rfl)) | (apply keepsMem_rOp; intro x; first | rfl | (dsimp only; split <;> rfl)) | (apply keepsMem_iOp; intro x; first | rfl | (split <;> rfl)) | (apply keepsMem_sPlain; first | apply keepsMem_push | exact keepsMem_pop | exact keepsMem_same fun _ => rfl) | (intro x y hx h; dsimp only at h; split at h <;> cases h; exact hx)); exact rfl])

theorem execJc_effect (l : Fin 16) (f : Fin 64) (w : BitVec 26) (s : State) :
    Effect.ok 0x4FAD8C03FD2 s (execJc l f w s) := by
  unfold execJc
  try dsimp only
  repeat' first
    | with_reducible apply Effect.refl
    | with_reducible assumption
    | apply Effect.ok_next
    | ((with_reducible apply State.facetJump_effect) <;> [skip; (first | apply keepsMem_bitRead | apply keepsMem_bitWrite | apply keepsMem_edge | apply keepsMem_timer | apply keepsMem_counter | apply keepsMem_countSet | apply keepsMem_jump | apply keepsMem_mStore | (apply keepsMem_mLoad; intro v x; first | rfl | (split <;> rfl)) | (apply keepsMem_rOp; intro x; first | rfl | (dsimp only; split <;> rfl)) | (apply keepsMem_iOp; intro x; first | rfl | (split <;> rfl)) | (apply keepsMem_sPlain; first | apply keepsMem_push | exact keepsMem_pop | exact keepsMem_same fun _ => rfl) | (intro x y hx h; dsimp only at h; split at h <;> cases h; exact hx)); exact rfl])

theorem execJcn_effect (l : Fin 16) (f : Fin 64) (w : BitVec 26) (s : State) :
    Effect.ok 0x4FAD8C03FD2 s (execJcn l f w s) := by
  unfold execJcn
  try dsimp only
  repeat' first
    | with_reducible apply Effect.refl
    | with_reducible assumption
    | apply Effect.ok_next
    | ((with_reducible apply State.facetJump_effect) <;> [skip; (first | apply keepsMem_bitRead | apply keepsMem_bitWrite | apply keepsMem_edge | apply keepsMem_timer | apply keepsMem_counter | apply keepsMem_countSet | apply keepsMem_jump | apply keepsMem_mStore | (apply keepsMem_mLoad; intro v x; first | rfl | (split <;> rfl)) | (apply keepsMem_rOp; intro x; first | rfl | (dsimp only; split <;> rfl)) | (apply keepsMem_iOp; intro x; first | rfl | (split <;> rfl)) | (apply keepsMem_sPlain; first | apply keepsMem_push | exact keepsMem_pop | exact keepsMem_same fun _ => rfl) | (intro x y hx h; dsimp only at h; split at h <;> cases h; exact hx)); exact rfl])

theorem execCmp_effect (l : Fin 16) (f : Fin 64) (w : BitVec 26) (s : State) :
    Effect.ok 0x4FAD8C03FD2 s (execCmp l f w s) := by
  unfold execCmp
  try dsimp only
  repeat' first
    | with_reducible apply Effect.refl
    | with_reducible assumption
    | apply Effect.ok_next
    | ((with_reducible apply State.facetOp_effect) <;> [skip; (first | apply keepsMem_bitRead | apply keepsMem_bitWrite | apply keepsMem_edge | apply keepsMem_timer | apply keepsMem_counter | apply keepsMem_countSet | apply keepsMem_jump | apply keepsMem_mStore | (apply keepsMem_mLoad; intro v x; first | rfl | (split <;> rfl)) | (apply keepsMem_rOp; intro x; first | rfl | (dsimp only; split <;> rfl)) | (apply keepsMem_iOp; intro x; first | rfl | (split <;> rfl)) | (apply keepsMem_sPlain; first | apply keepsMem_push | exact keepsMem_pop | exact keepsMem_same fun _ => rfl) | (intro x y hx h; dsimp only at h; split at h <;> cases h; exact hx)); exact rfl])

theorem execMpy_effect (l : Fin 16) (f : Fin 64) (w : BitVec 26) (s : State) :
    Effect.ok 0x4FAD8C03FD2 s (execMpy l f w s) := by
  unfold execMpy
  try dsimp only
  repeat' first
    | with_reducible apply Effect.refl
    | with_reducible assumption
    | apply Effect.ok_next
    | ((with_reducible apply State.facetOp_effect) <;> [skip; (first | apply keepsMem_bitRead | apply keepsMem_bitWrite | apply keepsMem_edge | apply keepsMem_timer | apply keepsMem_counter | apply keepsMem_countSet | apply keepsMem_jump | apply keepsMem_mStore | (apply keepsMem_mLoad; intro v x; first | rfl | (split <;> rfl)) | (apply keepsMem_rOp; intro x; first | rfl | (dsimp only; split <;> rfl)) | (apply keepsMem_iOp; intro x; first | rfl | (split <;> rfl)) | (apply keepsMem_sPlain; first | apply keepsMem_push | exact keepsMem_pop | exact keepsMem_same fun _ => rfl) | (intro x y hx h; dsimp only at h; split at h <;> cases h; exact hx)); exact rfl])

theorem execMac_effect (l : Fin 16) (f : Fin 64) (w : BitVec 26) (s : State) :
    Effect.ok 0x4FAD8C03FD2 s (execMac l f w s) := by
  unfold execMac
  try dsimp only
  repeat' first
    | with_reducible apply Effect.refl
    | with_reducible assumption
    | apply Effect.ok_next
    | ((with_reducible apply State.facetOp_effect) <;> [skip; (first | apply keepsMem_bitRead | apply keepsMem_bitWrite | apply keepsMem_edge | apply keepsMem_timer | apply keepsMem_counter | apply keepsMem_countSet | apply keepsMem_jump | apply keepsMem_mStore | (apply keepsMem_mLoad; intro v x; first | rfl | (split <;> rfl)) | (apply keepsMem_rOp; intro x; first | rfl | (dsimp only; split <;> rfl)) | (apply keepsMem_iOp; intro x; first | rfl | (split <;> rfl)) | (apply keepsMem_sPlain; first | apply keepsMem_push | exact keepsMem_pop | exact keepsMem_same fun _ => rfl) | (intro x y hx h; dsimp only at h; split at h <;> cases h; exact hx)); exact rfl])

theorem execMsu_effect (l : Fin 16) (f : Fin 64) (w : BitVec 26) (s : State) :
    Effect.ok 0x4FAD8C03FD2 s (execMsu l f w s) := by
  unfold execMsu
  try dsimp only
  repeat' first
    | with_reducible apply Effect.refl
    | with_reducible assumption
    | apply Effect.ok_next
    | ((with_reducible apply State.facetOp_effect) <;> [skip; (first | apply keepsMem_bitRead | apply keepsMem_bitWrite | apply keepsMem_edge | apply keepsMem_timer | apply keepsMem_counter | apply keepsMem_countSet | apply keepsMem_jump | apply keepsMem_mStore | (apply keepsMem_mLoad; intro v x; first | rfl | (split <;> rfl)) | (apply keepsMem_rOp; intro x; first | rfl | (dsimp only; split <;> rfl)) | (apply keepsMem_iOp; intro x; first | rfl | (split <;> rfl)) | (apply keepsMem_sPlain; first | apply keepsMem_push | exact keepsMem_pop | exact keepsMem_same fun _ => rfl) | (intro x y hx h; dsimp only at h; split at h <;> cases h; exact hx)); exact rfl])

theorem execMac2_effect (l : Fin 16) (f : Fin 64) (w : BitVec 26) (s : State) :
    Effect.ok 0x4FAD8C03FD2 s (execMac2 l f w s) := by
  unfold execMac2
  try dsimp only
  repeat' first
    | with_reducible apply Effect.refl
    | with_reducible assumption
    | apply Effect.ok_next
    | ((with_reducible apply State.facetOp_effect) <;> [skip; (first | apply keepsMem_bitRead | apply keepsMem_bitWrite | apply keepsMem_edge | apply keepsMem_timer | apply keepsMem_counter | apply keepsMem_countSet | apply keepsMem_jump | apply keepsMem_mStore | (apply keepsMem_mLoad; intro v x; first | rfl | (split <;> rfl)) | (apply keepsMem_rOp; intro x; first | rfl | (dsimp only; split <;> rfl)) | (apply keepsMem_iOp; intro x; first | rfl | (split <;> rfl)) | (apply keepsMem_sPlain; first | apply keepsMem_push | exact keepsMem_pop | exact keepsMem_same fun _ => rfl) | (intro x y hx h; dsimp only at h; split at h <;> cases h; exact hx)); exact rfl])

theorem execAdda_effect (l : Fin 16) (f : Fin 64) (w : BitVec 26) (s : State) :
    Effect.ok 0x4FAD8C03FD2 s (execAdda l f w s) := by
  unfold execAdda
  try dsimp only
  repeat' first
    | with_reducible apply Effect.refl
    | with_reducible assumption
    | apply Effect.ok_next
    | ((with_reducible apply State.facetOp_effect) <;> [skip; (first | apply keepsMem_bitRead | apply keepsMem_bitWrite | apply keepsMem_edge | apply keepsMem_timer | apply keepsMem_counter | apply keepsMem_countSet | apply keepsMem_jump | apply keepsMem_mStore | (apply keepsMem_mLoad; intro v x; first | rfl | (split <;> rfl)) | (apply keepsMem_rOp; intro x; first | rfl | (dsimp only; split <;> rfl)) | (apply keepsMem_iOp; intro x; first | rfl | (split <;> rfl)) | (apply keepsMem_sPlain; first | apply keepsMem_push | exact keepsMem_pop | exact keepsMem_same fun _ => rfl) | (intro x y hx h; dsimp only at h; split at h <;> cases h; exact hx)); exact rfl])

theorem execSuba_effect (l : Fin 16) (f : Fin 64) (w : BitVec 26) (s : State) :
    Effect.ok 0x4FAD8C03FD2 s (execSuba l f w s) := by
  unfold execSuba
  try dsimp only
  repeat' first
    | with_reducible apply Effect.refl
    | with_reducible assumption
    | apply Effect.ok_next
    | ((with_reducible apply State.facetOp_effect) <;> [skip; (first | apply keepsMem_bitRead | apply keepsMem_bitWrite | apply keepsMem_edge | apply keepsMem_timer | apply keepsMem_counter | apply keepsMem_countSet | apply keepsMem_jump | apply keepsMem_mStore | (apply keepsMem_mLoad; intro v x; first | rfl | (split <;> rfl)) | (apply keepsMem_rOp; intro x; first | rfl | (dsimp only; split <;> rfl)) | (apply keepsMem_iOp; intro x; first | rfl | (split <;> rfl)) | (apply keepsMem_sPlain; first | apply keepsMem_push | exact keepsMem_pop | exact keepsMem_same fun _ => rfl) | (intro x y hx h; dsimp only at h; split at h <;> cases h; exact hx)); exact rfl])

theorem execClra_effect (l : Fin 16) (f : Fin 64) (w : BitVec 26) (s : State) :
    Effect.ok 0x4FAD8C03FD2 s (execClra l f w s) := by
  unfold execClra
  try dsimp only
  repeat' first
    | with_reducible apply Effect.refl
    | with_reducible assumption
    | apply Effect.ok_next
    | ((with_reducible apply State.facetOp_effect) <;> [skip; (first | apply keepsMem_bitRead | apply keepsMem_bitWrite | apply keepsMem_edge | apply keepsMem_timer | apply keepsMem_counter | apply keepsMem_countSet | apply keepsMem_jump | apply keepsMem_mStore | (apply keepsMem_mLoad; intro v x; first | rfl | (split <;> rfl)) | (apply keepsMem_rOp; intro x; first | rfl | (dsimp only; split <;> rfl)) | (apply keepsMem_iOp; intro x; first | rfl | (split <;> rfl)) | (apply keepsMem_sPlain; first | apply keepsMem_push | exact keepsMem_pop | exact keepsMem_same fun _ => rfl) | (intro x y hx h; dsimp only at h; split at h <;> cases h; exact hx)); exact rfl])

theorem execAsh_effect (l : Fin 16) (f : Fin 64) (w : BitVec 26) (s : State) :
    Effect.ok 0x4FAD8C03FD2 s (execAsh l f w s) := by
  unfold execAsh
  try dsimp only
  repeat' first
    | with_reducible apply Effect.refl
    | with_reducible assumption
    | apply Effect.ok_next
    | ((with_reducible apply State.facetOp_effect) <;> [skip; (first | apply keepsMem_bitRead | apply keepsMem_bitWrite | apply keepsMem_edge | apply keepsMem_timer | apply keepsMem_counter | apply keepsMem_countSet | apply keepsMem_jump | apply keepsMem_mStore | (apply keepsMem_mLoad; intro v x; first | rfl | (split <;> rfl)) | (apply keepsMem_rOp; intro x; first | rfl | (dsimp only; split <;> rfl)) | (apply keepsMem_iOp; intro x; first | rfl | (split <;> rfl)) | (apply keepsMem_sPlain; first | apply keepsMem_push | exact keepsMem_pop | exact keepsMem_same fun _ => rfl) | (intro x y hx h; dsimp only at h; split at h <;> cases h; exact hx)); exact rfl])

theorem execSth_effect (l : Fin 16) (f : Fin 64) (w : BitVec 26) (s : State) :
    Effect.ok 0x4FAD8C03FD2 s (execSth l f w s) := by
  unfold execSth
  try dsimp only
  repeat' first
    | with_reducible apply Effect.refl
    | with_reducible assumption
    | apply Effect.ok_next
    | ((with_reducible apply State.facetOp_effect) <;> [skip; (first | apply keepsMem_bitRead | apply keepsMem_bitWrite | apply keepsMem_edge | apply keepsMem_timer | apply keepsMem_counter | apply keepsMem_countSet | apply keepsMem_jump | apply keepsMem_mStore | (apply keepsMem_mLoad; intro v x; first | rfl | (split <;> rfl)) | (apply keepsMem_rOp; intro x; first | rfl | (dsimp only; split <;> rfl)) | (apply keepsMem_iOp; intro x; first | rfl | (split <;> rfl)) | (apply keepsMem_sPlain; first | apply keepsMem_push | exact keepsMem_pop | exact keepsMem_same fun _ => rfl) | (intro x y hx h; dsimp only at h; split at h <;> cases h; exact hx)); exact rfl])

theorem execAdd_effect (l : Fin 16) (f : Fin 64) (w : BitVec 26) (s : State) :
    Effect.ok 0x4FAD8C03FD2 s (execAdd l f w s) := by
  unfold execAdd
  try dsimp only
  repeat' first
    | with_reducible apply Effect.refl
    | with_reducible assumption
    | apply Effect.ok_next
    | ((with_reducible apply State.facetOp_effect) <;> [skip; (first | apply keepsMem_bitRead | apply keepsMem_bitWrite | apply keepsMem_edge | apply keepsMem_timer | apply keepsMem_counter | apply keepsMem_countSet | apply keepsMem_jump | apply keepsMem_mStore | (apply keepsMem_mLoad; intro v x; first | rfl | (split <;> rfl)) | (apply keepsMem_rOp; intro x; first | rfl | (dsimp only; split <;> rfl)) | (apply keepsMem_iOp; intro x; first | rfl | (split <;> rfl)) | (apply keepsMem_sPlain; first | apply keepsMem_push | exact keepsMem_pop | exact keepsMem_same fun _ => rfl) | (intro x y hx h; dsimp only at h; split at h <;> cases h; exact hx)); exact rfl])

theorem execSub_effect (l : Fin 16) (f : Fin 64) (w : BitVec 26) (s : State) :
    Effect.ok 0x4FAD8C03FD2 s (execSub l f w s) := by
  unfold execSub
  try dsimp only
  repeat' first
    | with_reducible apply Effect.refl
    | with_reducible assumption
    | apply Effect.ok_next
    | ((with_reducible apply State.facetOp_effect) <;> [skip; (first | apply keepsMem_bitRead | apply keepsMem_bitWrite | apply keepsMem_edge | apply keepsMem_timer | apply keepsMem_counter | apply keepsMem_countSet | apply keepsMem_jump | apply keepsMem_mStore | (apply keepsMem_mLoad; intro v x; first | rfl | (split <;> rfl)) | (apply keepsMem_rOp; intro x; first | rfl | (dsimp only; split <;> rfl)) | (apply keepsMem_iOp; intro x; first | rfl | (split <;> rfl)) | (apply keepsMem_sPlain; first | apply keepsMem_push | exact keepsMem_pop | exact keepsMem_same fun _ => rfl) | (intro x y hx h; dsimp only at h; split at h <;> cases h; exact hx)); exact rfl])

theorem execNeg_effect (l : Fin 16) (f : Fin 64) (w : BitVec 26) (s : State) :
    Effect.ok 0x4FAD8C03FD2 s (execNeg l f w s) := by
  unfold execNeg
  try dsimp only
  repeat' first
    | with_reducible apply Effect.refl
    | with_reducible assumption
    | apply Effect.ok_next
    | ((with_reducible apply State.facetOp_effect) <;> [skip; (first | apply keepsMem_bitRead | apply keepsMem_bitWrite | apply keepsMem_edge | apply keepsMem_timer | apply keepsMem_counter | apply keepsMem_countSet | apply keepsMem_jump | apply keepsMem_mStore | (apply keepsMem_mLoad; intro v x; first | rfl | (split <;> rfl)) | (apply keepsMem_rOp; intro x; first | rfl | (dsimp only; split <;> rfl)) | (apply keepsMem_iOp; intro x; first | rfl | (split <;> rfl)) | (apply keepsMem_sPlain; first | apply keepsMem_push | exact keepsMem_pop | exact keepsMem_same fun _ => rfl) | (intro x y hx h; dsimp only at h; split at h <;> cases h; exact hx)); exact rfl])

theorem execAbs_effect (l : Fin 16) (f : Fin 64) (w : BitVec 26) (s : State) :
    Effect.ok 0x4FAD8C03FD2 s (execAbs l f w s) := by
  unfold execAbs
  try dsimp only
  repeat' first
    | with_reducible apply Effect.refl
    | with_reducible assumption
    | apply Effect.ok_next
    | ((with_reducible apply State.facetOp_effect) <;> [skip; (first | apply keepsMem_bitRead | apply keepsMem_bitWrite | apply keepsMem_edge | apply keepsMem_timer | apply keepsMem_counter | apply keepsMem_countSet | apply keepsMem_jump | apply keepsMem_mStore | (apply keepsMem_mLoad; intro v x; first | rfl | (split <;> rfl)) | (apply keepsMem_rOp; intro x; first | rfl | (dsimp only; split <;> rfl)) | (apply keepsMem_iOp; intro x; first | rfl | (split <;> rfl)) | (apply keepsMem_sPlain; first | apply keepsMem_push | exact keepsMem_pop | exact keepsMem_same fun _ => rfl) | (intro x y hx h; dsimp only at h; split at h <;> cases h; exact hx)); exact rfl])

theorem execMin_effect (l : Fin 16) (f : Fin 64) (w : BitVec 26) (s : State) :
    Effect.ok 0x4FAD8C03FD2 s (execMin l f w s) := by
  unfold execMin
  try dsimp only
  repeat' first
    | with_reducible apply Effect.refl
    | with_reducible assumption
    | apply Effect.ok_next
    | ((with_reducible apply State.facetOp_effect) <;> [skip; (first | apply keepsMem_bitRead | apply keepsMem_bitWrite | apply keepsMem_edge | apply keepsMem_timer | apply keepsMem_counter | apply keepsMem_countSet | apply keepsMem_jump | apply keepsMem_mStore | (apply keepsMem_mLoad; intro v x; first | rfl | (split <;> rfl)) | (apply keepsMem_rOp; intro x; first | rfl | (dsimp only; split <;> rfl)) | (apply keepsMem_iOp; intro x; first | rfl | (split <;> rfl)) | (apply keepsMem_sPlain; first | apply keepsMem_push | exact keepsMem_pop | exact keepsMem_same fun _ => rfl) | (intro x y hx h; dsimp only at h; split at h <;> cases h; exact hx)); exact rfl])

theorem execMax_effect (l : Fin 16) (f : Fin 64) (w : BitVec 26) (s : State) :
    Effect.ok 0x4FAD8C03FD2 s (execMax l f w s) := by
  unfold execMax
  try dsimp only
  repeat' first
    | with_reducible apply Effect.refl
    | with_reducible assumption
    | apply Effect.ok_next
    | ((with_reducible apply State.facetOp_effect) <;> [skip; (first | apply keepsMem_bitRead | apply keepsMem_bitWrite | apply keepsMem_edge | apply keepsMem_timer | apply keepsMem_counter | apply keepsMem_countSet | apply keepsMem_jump | apply keepsMem_mStore | (apply keepsMem_mLoad; intro v x; first | rfl | (split <;> rfl)) | (apply keepsMem_rOp; intro x; first | rfl | (dsimp only; split <;> rfl)) | (apply keepsMem_iOp; intro x; first | rfl | (split <;> rfl)) | (apply keepsMem_sPlain; first | apply keepsMem_push | exact keepsMem_pop | exact keepsMem_same fun _ => rfl) | (intro x y hx h; dsimp only at h; split at h <;> cases h; exact hx)); exact rfl])

theorem execLsh_effect (l : Fin 16) (f : Fin 64) (w : BitVec 26) (s : State) :
    Effect.ok 0x4FAD8C03FD2 s (execLsh l f w s) := by
  unfold execLsh
  try dsimp only
  repeat' first
    | with_reducible apply Effect.refl
    | with_reducible assumption
    | apply Effect.ok_next
    | ((with_reducible apply State.facetOp_effect) <;> [skip; (first | apply keepsMem_bitRead | apply keepsMem_bitWrite | apply keepsMem_edge | apply keepsMem_timer | apply keepsMem_counter | apply keepsMem_countSet | apply keepsMem_jump | apply keepsMem_mStore | (apply keepsMem_mLoad; intro v x; first | rfl | (split <;> rfl)) | (apply keepsMem_rOp; intro x; first | rfl | (dsimp only; split <;> rfl)) | (apply keepsMem_iOp; intro x; first | rfl | (split <;> rfl)) | (apply keepsMem_sPlain; first | apply keepsMem_push | exact keepsMem_pop | exact keepsMem_same fun _ => rfl) | (intro x y hx h; dsimp only at h; split at h <;> cases h; exact hx)); exact rfl])

theorem execLdw_effect (l : Fin 16) (f : Fin 64) (w : BitVec 26) (ecc : Bool) (s : State) :
    Effect.ok 0x4FAD8C03FD2 s (execLdw l f w ecc s) := by
  unfold execLdw
  try dsimp only
  repeat' first
    | with_reducible apply Effect.refl
    | with_reducible assumption
    | ((with_reducible apply Effect.ite) <;> intro _)
    | apply Effect.ok_next
    | ((with_reducible apply Effect.after (State.updLens_effect ..)); exact rfl)
    | ((with_reducible apply State.facetOp_effect) <;> [skip; (first | apply keepsMem_bitRead | apply keepsMem_bitWrite | apply keepsMem_edge | apply keepsMem_timer | apply keepsMem_counter | apply keepsMem_countSet | apply keepsMem_jump | apply keepsMem_mStore | (apply keepsMem_mLoad; intro v x; first | rfl | (split <;> rfl)) | (apply keepsMem_rOp; intro x; first | rfl | (dsimp only; split <;> rfl)) | (apply keepsMem_iOp; intro x; first | rfl | (split <;> rfl)) | (apply keepsMem_sPlain; first | apply keepsMem_push | exact keepsMem_pop | exact keepsMem_same fun _ => rfl) | (intro x y hx h; dsimp only at h; split at h <;> cases h; exact hx)); exact rfl])

theorem execStw_effect (l : Fin 16) (f : Fin 64) (w : BitVec 26) (s : State) :
    Effect.ok 0x4FAD8C03FD2 s (execStw l f w s) := by
  unfold execStw
  try dsimp only
  repeat' first
    | with_reducible apply Effect.refl
    | with_reducible assumption
    | apply Effect.ok_next
    | ((with_reducible apply State.facetOp_effect) <;> [skip; (first | apply keepsMem_bitRead | apply keepsMem_bitWrite | apply keepsMem_edge | apply keepsMem_timer | apply keepsMem_counter | apply keepsMem_countSet | apply keepsMem_jump | apply keepsMem_mStore | (apply keepsMem_mLoad; intro v x; first | rfl | (split <;> rfl)) | (apply keepsMem_rOp; intro x; first | rfl | (dsimp only; split <;> rfl)) | (apply keepsMem_iOp; intro x; first | rfl | (split <;> rfl)) | (apply keepsMem_sPlain; first | apply keepsMem_push | exact keepsMem_pop | exact keepsMem_same fun _ => rfl) | (intro x y hx h; dsimp only at h; split at h <;> cases h; exact hx)); exact rfl])

theorem execLdi_effect (l : Fin 16) (f : Fin 64) (w : BitVec 26) (s : State) :
    Effect.ok 0x4FAD8C03FD2 s (execLdi l f w s) := by
  unfold execLdi
  try dsimp only
  repeat' first
    | with_reducible apply Effect.refl
    | with_reducible assumption
    | apply Effect.ok_next
    | ((with_reducible apply State.facetOp_effect) <;> [skip; (first | apply keepsMem_bitRead | apply keepsMem_bitWrite | apply keepsMem_edge | apply keepsMem_timer | apply keepsMem_counter | apply keepsMem_countSet | apply keepsMem_jump | apply keepsMem_mStore | (apply keepsMem_mLoad; intro v x; first | rfl | (split <;> rfl)) | (apply keepsMem_rOp; intro x; first | rfl | (dsimp only; split <;> rfl)) | (apply keepsMem_iOp; intro x; first | rfl | (split <;> rfl)) | (apply keepsMem_sPlain; first | apply keepsMem_push | exact keepsMem_pop | exact keepsMem_same fun _ => rfl) | (intro x y hx h; dsimp only at h; split at h <;> cases h; exact hx)); exact rfl])

theorem execAddp_effect (l : Fin 16) (f : Fin 64) (w : BitVec 26) (s : State) :
    Effect.ok 0x4FAD8C03FD2 s (execAddp l f w s) := by
  unfold execAddp
  try dsimp only
  repeat' first
    | with_reducible apply Effect.refl
    | with_reducible assumption
    | apply Effect.ok_next
    | ((with_reducible apply State.facetOp_effect) <;> [skip; (first | apply keepsMem_bitRead | apply keepsMem_bitWrite | apply keepsMem_edge | apply keepsMem_timer | apply keepsMem_counter | apply keepsMem_countSet | apply keepsMem_jump | apply keepsMem_mStore | (apply keepsMem_mLoad; intro v x; first | rfl | (split <;> rfl)) | (apply keepsMem_rOp; intro x; first | rfl | (dsimp only; split <;> rfl)) | (apply keepsMem_iOp; intro x; first | rfl | (split <;> rfl)) | (apply keepsMem_sPlain; first | apply keepsMem_push | exact keepsMem_pop | exact keepsMem_same fun _ => rfl) | (intro x y hx h; dsimp only at h; split at h <;> cases h; exact hx)); exact rfl])

theorem execLdp_effect (l : Fin 16) (f : Fin 64) (w : BitVec 26) (s : State) :
    Effect.ok 0x4FAD8C03FD2 s (execLdp l f w s) := by
  unfold execLdp
  try dsimp only
  repeat' first
    | with_reducible apply Effect.refl
    | with_reducible assumption
    | apply Effect.ok_next
    | ((with_reducible apply State.facetOp_effect) <;> [skip; (first | apply keepsMem_bitRead | apply keepsMem_bitWrite | apply keepsMem_edge | apply keepsMem_timer | apply keepsMem_counter | apply keepsMem_countSet | apply keepsMem_jump | apply keepsMem_mStore | (apply keepsMem_mLoad; intro v x; first | rfl | (split <;> rfl)) | (apply keepsMem_rOp; intro x; first | rfl | (dsimp only; split <;> rfl)) | (apply keepsMem_iOp; intro x; first | rfl | (split <;> rfl)) | (apply keepsMem_sPlain; first | apply keepsMem_push | exact keepsMem_pop | exact keepsMem_same fun _ => rfl) | (intro x y hx h; dsimp only at h; split at h <;> cases h; exact hx)); exact rfl])

theorem execStp_effect (l : Fin 16) (f : Fin 64) (w : BitVec 26) (s : State) :
    Effect.ok 0x4FAD8C03FD2 s (execStp l f w s) := by
  unfold execStp
  try dsimp only
  repeat' first
    | with_reducible apply Effect.refl
    | with_reducible assumption
    | apply Effect.ok_next
    | ((with_reducible apply State.facetOp_effect) <;> [skip; (first | apply keepsMem_bitRead | apply keepsMem_bitWrite | apply keepsMem_edge | apply keepsMem_timer | apply keepsMem_counter | apply keepsMem_countSet | apply keepsMem_jump | apply keepsMem_mStore | (apply keepsMem_mLoad; intro v x; first | rfl | (split <;> rfl)) | (apply keepsMem_rOp; intro x; first | rfl | (dsimp only; split <;> rfl)) | (apply keepsMem_iOp; intro x; first | rfl | (split <;> rfl)) | (apply keepsMem_sPlain; first | apply keepsMem_push | exact keepsMem_pop | exact keepsMem_same fun _ => rfl) | (intro x y hx h; dsimp only at h; split at h <;> cases h; exact hx)); exact rfl])

theorem execLdih_effect (l : Fin 16) (f : Fin 64) (w : BitVec 26) (s : State) :
    Effect.ok 0x4FAD8C03FD2 s (execLdih l f w s) := by
  unfold execLdih
  try dsimp only
  repeat' first
    | with_reducible apply Effect.refl
    | with_reducible assumption
    | apply Effect.ok_next
    | ((with_reducible apply State.facetOp_effect) <;> [skip; (first | apply keepsMem_bitRead | apply keepsMem_bitWrite | apply keepsMem_edge | apply keepsMem_timer | apply keepsMem_counter | apply keepsMem_countSet | apply keepsMem_jump | apply keepsMem_mStore | (apply keepsMem_mLoad; intro v x; first | rfl | (split <;> rfl)) | (apply keepsMem_rOp; intro x; first | rfl | (dsimp only; split <;> rfl)) | (apply keepsMem_iOp; intro x; first | rfl | (split <;> rfl)) | (apply keepsMem_sPlain; first | apply keepsMem_push | exact keepsMem_pop | exact keepsMem_same fun _ => rfl) | (intro x y hx h; dsimp only at h; split at h <;> cases h; exact hx)); exact rfl])

theorem execWait_effect (l : Fin 16) (f : Fin 64) (w : BitVec 26) (s : State) :
    Effect.ok 0x4FAD8C03FD2 s (execWait l f w s) := by
  unfold execWait
  try dsimp only
  repeat' first
    | with_reducible apply Effect.refl
    | with_reducible assumption
    | apply Effect.ok_next
    | ((with_reducible apply State.facetSys_effect) <;> [skip; (intro t  ht); exact rfl])
    | ((with_reducible apply Effect.after (State.lensRest_effect ..)); exact rfl)
    | ((with_reducible apply Effect.after (State.takeQueued_effect ..)); exact rfl)
    | ((with_reducible apply Effect.updFacet) <;> [skip; (intro x hx; (try dsimp only); repeat' (first | exact hx | apply memPutNat_wf | apply memPut_wf | apply initData_wf | apply exchangeData_wf | apply restoreArea_wf | apply restoreRetain_wf | apply loadWindow_wf | apply statusBlock_wf | apply loadStream_wf | apply freshData_wf | apply putOutputs_wf | apply memPutSlot_wf | apply carry_wf | (rw [queueEvent_dmem]) | exact nil_wf | (rw [setQueued_dmem]) | split)); exact rfl])

theorem execSeal_effect (l : Fin 16) (f : Fin 64) (w : BitVec 26) (s : State) :
    Effect.ok 0x4FAD8C03FD2 s (execSeal l f w s) := by
  unfold execSeal
  try dsimp only
  repeat' first
    | with_reducible apply Effect.refl
    | with_reducible assumption
    | apply Effect.ok_next
    | ((with_reducible apply State.facetSys_effect) <;> [skip; (intro t  ht); exact rfl])
    | ((with_reducible apply Effect.after (State.sealNow_effect ..)); exact rfl)

theorem execSend_effect (l : Fin 16) (f : Fin 64) (w : BitVec 26) (s : State) :
    Effect.ok 0x4FAD8C03FD2 s (execSend l f w s) := by
  unfold execSend
  try dsimp only
  repeat' first
    | with_reducible apply Effect.refl
    | with_reducible assumption
    | apply Effect.ok_next
    | ((with_reducible apply State.facetSys_effect) <;> [skip; (intro t  ht); exact rfl])
    | ((with_reducible apply Effect.after (State.sendMsg_effect ..)); exact rfl)

theorem execRecv_effect (l : Fin 16) (f : Fin 64) (w : BitVec 26) (s : State) :
    Effect.ok 0x4FAD8C03FD2 s (execRecv l f w s) := by
  unfold execRecv
  try dsimp only
  repeat' first
    | with_reducible apply Effect.refl
    | with_reducible assumption
    | apply Effect.ok_next
    | ((with_reducible apply State.facetSys_effect) <;> [skip; (intro t  ht); exact rfl])
    | ((with_reducible apply Effect.after (State.recvMsg_effect ..)); exact rfl)

theorem execLane_effect (l : Fin 16) (f : Fin 64) (w : BitVec 26) (s : State) :
    Effect.ok 0x4FAD8C03FD2 s (execLane l f w s) := by
  unfold execLane
  try dsimp only
  repeat' first
    | with_reducible apply Effect.refl
    | with_reducible assumption
    | ((with_reducible apply Effect.ite) <;> intro _)
    | apply Effect.ok_next
    | ((with_reducible apply State.facetSys_effect) <;> [skip; (intro t  ht); exact rfl])
    | ((with_reducible apply Effect.after (State.drive_effect ..)); exact rfl)
    | ((with_reducible apply Effect.after (State.updLens_effect ..)); exact rfl)

theorem execOutw_effect (l : Fin 16) (f : Fin 64) (w : BitVec 26) (s : State) :
    Effect.ok 0x4FAD8C03FD2 s (execOutw l f w s) := by
  unfold execOutw
  try dsimp only
  repeat' first
    | with_reducible apply Effect.refl
    | with_reducible assumption
    | apply Effect.ok_next
    | ((with_reducible apply State.facetSys_effect) <;> [skip; (intro t  ht); exact rfl])
    | ((with_reducible apply Effect.after (State.outwNow_effect ..)); exact rfl)

theorem execEnd_effect (l : Fin 16) (f : Fin 64) (w : BitVec 26) (s : State) :
    Effect.ok 0x4FADAE03FD2 s (execEnd l f w s) := by
  unfold execEnd
  try dsimp only
  repeat' first
    | with_reducible apply Effect.refl
    | with_reducible assumption
    | apply Effect.ok_next
    | ((with_reducible apply State.facetSys_effect) <;> [skip; (intro t  ht); exact rfl])
    | ((with_reducible apply Effect.after (State.endNow_effect ..)); exact rfl)

theorem keepsMem_nop {w : Word} : KeepsMem fun x => if w = 0 then .ok x else .error .illegalOp := by
  intro x y hx h
  dsimp only at h
  split at h <;> cases h
  exact hx

theorem facetWord_effect (l : Fin 16) (f : Fin 64) (w : Word) (s : State) :
    Effect.ok 0x4fadae03fd2 s (facetWord l f w s) := by
  unfold facetWord
  split
  · exact Effect.ok_next (State.facetOp_effect (Effect.refl _ _) keepsMem_nop rfl)
  · exact Effect.ok_mono (execLd_effect ..) rfl
  · exact Effect.ok_mono (execAnd_effect ..) rfl
  · exact Effect.ok_mono (execOr_effect ..) rfl
  · exact Effect.ok_mono (execXor_effect ..) rfl
  · exact Effect.ok_mono (execSt_effect ..) rfl
  · exact Effect.ok_mono (execSet_effect ..) rfl
  · exact Effect.ok_mono (execRst_effect ..) rfl
  · exact Effect.ok_mono (execNot_effect ..) rfl
  · exact Effect.ok_mono (execLa1_effect ..) rfl
  · exact Effect.ok_mono (execLa0_effect ..) rfl
  · exact Effect.ok_mono (execAndNest_effect ..) rfl
  · exact Effect.ok_mono (execOrNest_effect ..) rfl
  · exact Effect.ok_mono (execXorNest_effect ..) rfl
  · exact Effect.ok_mono (execNestClose_effect ..) rfl
  · exact Effect.ok_mono (execFp_effect ..) rfl
  · exact Effect.ok_mono (execFn_effect ..) rfl
  · exact Effect.ok_mono (execTon_effect ..) rfl
  · exact Effect.ok_mono (execTof_effect ..) rfl
  · exact Effect.ok_mono (execTp_effect ..) rfl
  · exact Effect.ok_mono (execCtu_effect ..) rfl
  · exact Effect.ok_mono (execCtd_effect ..) rfl
  · exact Effect.ok_mono (execCrs_effect ..) rfl
  · exact Effect.ok_mono (execCld_effect ..) rfl
  · exact Effect.ok_mono (execJu_effect ..) rfl
  · exact Effect.ok_mono (execJc_effect ..) rfl
  · exact Effect.ok_mono (execJcn_effect ..) rfl
  · exact Effect.ok_mono (execCmp_effect ..) rfl
  · exact Effect.ok_mono (execMpy_effect ..) rfl
  · exact Effect.ok_mono (execMac_effect ..) rfl
  · exact Effect.ok_mono (execMsu_effect ..) rfl
  · exact Effect.ok_mono (execMac2_effect ..) rfl
  · exact Effect.ok_mono (execAdda_effect ..) rfl
  · exact Effect.ok_mono (execSuba_effect ..) rfl
  · exact Effect.ok_mono (execClra_effect ..) rfl
  · exact Effect.ok_mono (execAsh_effect ..) rfl
  · exact Effect.ok_mono (execSth_effect ..) rfl
  · exact Effect.ok_mono (execAdd_effect ..) rfl
  · exact Effect.ok_mono (execSub_effect ..) rfl
  · exact Effect.ok_mono (execNeg_effect ..) rfl
  · exact Effect.ok_mono (execAbs_effect ..) rfl
  · exact Effect.ok_mono (execMin_effect ..) rfl
  · exact Effect.ok_mono (execMax_effect ..) rfl
  · exact Effect.ok_mono (execLsh_effect ..) rfl
  · exact Effect.ok_mono (execLdw_effect ..) rfl
  · exact Effect.ok_mono (execStw_effect ..) rfl
  · exact Effect.ok_mono (execLdi_effect ..) rfl
  · exact Effect.ok_mono (execAddp_effect ..) rfl
  · exact Effect.ok_mono (execLdp_effect ..) rfl
  · exact Effect.ok_mono (execStp_effect ..) rfl
  · exact Effect.ok_mono (execLdih_effect ..) rfl
  · exact Effect.ok_mono (execWait_effect ..) rfl
  · exact Effect.ok_mono (execSeal_effect ..) rfl
  · exact Effect.ok_mono (execSend_effect ..) rfl
  · exact Effect.ok_mono (execRecv_effect ..) rfl
  · exact Effect.ok_mono (execLane_effect ..) rfl
  · exact Effect.ok_mono (execOutw_effect ..) rfl
  · exact Effect.ok_mono (execEnd_effect ..) rfl
  · exact Effect.ok_next (State.facetOp_effect (Effect.refl _ _) (fun _ _ _ h => nomatch h) rfl)

theorem execNop_effect (l : Fin 16) (f : Fin 64) (w : Word) (s : State) :
    Effect.ok 0x4FADAE03FD2 s (execNop l f w s) := by
  unfold execNop
  try dsimp only
  repeat' first
    | with_reducible apply Effect.refl
    | with_reducible assumption
    | apply Effect.ok_next
    | ((with_reducible apply Effect.ok_mono (facetWord_effect ..)); exact rfl)

theorem execFacetWake_effect (l : Fin 16) (f : Fin 64) (cause : WakeCause) (s : State) :
    Effect.ok 0x1C0 s (execFacetWake l f cause s) := by
  unfold execFacetWake
  try dsimp only
  repeat' first
    | with_reducible apply Effect.refl
    | with_reducible assumption
    | apply Effect.ok_next
    | ((with_reducible apply Effect.after (State.raise_effect ..)); exact rfl)

end Sys2Proof.Machine
end

