-- ==== Sys2Proof/Laws/EffPwm.lean ====
section
/-! SUPPORT. What each operation of Machine/Pwm.lean may do: the parts it may write, and that its result follows
what it was given (Laws/Effect.lean). -/

namespace Sys2Proof.Machine

theorem State.pwmSync_effect (s : State) (n : ℕ) (t : ℕ) :
    Effect 0x4080000000 s (State.pwmSync s n t) := by
  unfold State.pwmSync
  try dsimp only
  repeat' first
    | with_reducible apply Effect.refl
    | with_reducible assumption
    | ((with_reducible apply Effect.after (State.clearAlarm_effect ..)); exact rfl)
    | ((with_reducible apply Effect.after (State.updPwm_effect ..)); exact rfl)

theorem State.pwmChain_effect (s : State) (n : ℕ) :
    Effect 0x44080000000 s (State.pwmChain s n) := by
  unfold State.pwmChain
  try dsimp only
  repeat' first
    | with_reducible apply Effect.refl
    | with_reducible assumption
    | ((with_reducible apply Effect.ite) <;> intro _)
    | ((with_reducible apply Effect.after (State.pwmSync_effect ..)); exact rfl)
    | ((with_reducible apply Effect.after (State.emit_effect ..)); exact rfl)

theorem State.pwmJudge_effect (s : State) (n : ℕ) :
    Effect 0x40080000000 s (State.pwmJudge s n) := by
  unfold State.pwmJudge
  try dsimp only
  repeat' first
    | with_reducible apply Effect.refl
    | with_reducible assumption
    | ((with_reducible apply Effect.ite) <;> intro _)
    | ((with_reducible apply Effect.after (State.updPwm_effect ..)); exact rfl)
    | ((with_reducible apply Effect.after (State.pwmBlock_effect ..)); exact rfl)

theorem State.pwmGate_effect (s : State) (n : ℕ) :
    Effect 0x80000000 s (State.pwmGate s n) := by
  unfold State.pwmGate
  try dsimp only
  repeat' first
    | with_reducible apply Effect.refl
    | with_reducible assumption
    | ((with_reducible apply Effect.ite) <;> intro _)
    | ((with_reducible apply Effect.after (State.updPwm_effect ..)); exact rfl)

theorem State.pwmForm_effect (s : State) (n : ℕ) (prev : ℕ) :
    Effect 0x40080000000 s (State.pwmForm s n prev) := by
  unfold State.pwmForm
  try dsimp only
  repeat' first
    | with_reducible apply Effect.refl
    | with_reducible assumption
    | ((with_reducible apply Effect.ite) <;> intro _)
    | ((with_reducible apply Effect.after (State.updPwm_effect ..)); exact rfl)
    | ((with_reducible apply Effect.after (State.emit_effect ..)); exact rfl)

theorem State.pwmStart_effect (s : State) (n : ℕ) :
    Effect 0x440C0020020 s (State.pwmStart s n) := by
  unfold State.pwmStart
  try dsimp only
  repeat' first
    | with_reducible apply Effect.refl
    | with_reducible assumption
    | ((with_reducible apply Effect.ite) <;> intro _)
    | ((with_reducible apply Effect.after (State.updPwm_effect ..)); exact rfl)
    | ((with_reducible apply Effect.after (State.pwmChain_effect ..)); exact rfl)
    | ((with_reducible apply Effect.after (State.unitStopped_effect ..)); exact rfl)
    | ((with_reducible apply Effect.after (State.pwmOff_effect ..)); exact rfl)
    | ((with_reducible apply Effect.after (State.unitStarted_effect ..)); exact rfl)
    | ((with_reducible apply Effect.after (State.pwmJudge_effect ..)); exact rfl)
    | ((with_reducible apply Effect.after (State.pwmForm_effect ..)); exact rfl)
    | ((with_reducible apply Effect.after (State.pwmGate_effect ..)); exact rfl)

theorem execPwmPeriodStart_effect (n : Fin 32) (s : State) :
    Effect.ok 0x444C0020021 s (execPwmPeriodStart n s) := by
  unfold execPwmPeriodStart
  try dsimp only
  repeat' first
    | with_reducible apply Effect.refl
    | with_reducible assumption
    | ((with_reducible apply Effect.ite) <;> intro _)
    | apply Effect.ok_next
    | ((with_reducible apply Effect.after (State.pwmStart_effect ..)); exact rfl)
    | ((with_reducible apply Effect.after (State.upTo_effect ..)); exact rfl)
    | split

theorem execPwmStuck_effect (n : Fin 32) (s : State) :
    Effect.ok 0x4080000000 s (execPwmStuck n s) := by
  unfold execPwmStuck
  try dsimp only
  repeat' first
    | with_reducible apply Effect.refl
    | with_reducible assumption
    | ((with_reducible apply Effect.ite) <;> intro _)
    | apply Effect.ok_next
    | ((with_reducible apply Effect.after (State.event_effect ..)); exact rfl)
    | ((with_reducible apply Effect.after (State.updPwm_effect ..)); exact rfl)

theorem execPwmSyncPulse_effect (n : Fin 32) (t : ℕ) (s : State) :
    Effect.ok 0x4480000001 s (execPwmSyncPulse n t s) := by
  unfold execPwmSyncPulse
  try dsimp only
  repeat' first
    | with_reducible apply Effect.refl
    | with_reducible assumption
    | ((with_reducible apply Effect.ite) <;> intro _)
    | apply Effect.ok_next
    | ((with_reducible apply Effect.after (State.upTo_effect ..)); exact rfl)
    | ((with_reducible apply Effect.after (State.pwmSync_effect ..)); exact rfl)

theorem execPwmSyncLost_effect (n : Fin 32) (s : State) :
    Effect.ok 0x444C0020021 s (execPwmSyncLost n s) := by
  unfold execPwmSyncLost
  try dsimp only
  repeat' first
    | with_reducible apply Effect.refl
    | with_reducible assumption
    | ((with_reducible apply Effect.ite) <;> intro _)
    | apply Effect.ok_next
    | ((with_reducible apply Effect.after (State.alarm_effect ..)); exact rfl)
    | ((with_reducible apply Effect.after (State.updPwm_effect ..)); exact rfl)
    | ((with_reducible apply Effect.after (State.upTo_effect ..)); exact rfl)
    | ((with_reducible apply Effect.after (State.pwmStart_effect ..)); exact rfl)

theorem State.clearPwmTrip_effect (s : State) (n : ℕ) :
    Effect 0x80000000 s (State.clearPwmTrip s n) := by
  unfold State.clearPwmTrip
  try dsimp only
  repeat' first
    | with_reducible apply Effect.refl
    | with_reducible assumption
    | ((with_reducible apply Effect.ite) <;> intro _)
    | ((with_reducible apply Effect.after (State.updPwm_effect ..)); exact rfl)

theorem execPwmTripClear_effect (n : Fin 32) (s : State) :
    Effect.ok 0x80000004 s (execPwmTripClear n s) := by
  unfold execPwmTripClear
  try dsimp only
  repeat' first
    | with_reducible apply Effect.refl
    | with_reducible assumption
    | apply Effect.ok_next
    | ((with_reducible apply State.unitWrite_effect) <;> [skip; (intro t  ht); exact rfl])
    | ((with_reducible apply Effect.after (State.clearPwmTrip_effect ..)); exact rfl)

theorem State.tiToggle_effect (s : State) (i : ℕ) :
    Effect 0x4100000000 s (State.tiToggle s i) := by
  unfold State.tiToggle
  try dsimp only
  repeat' first
    | with_reducible apply Effect.refl
    | with_reducible assumption
    | ((with_reducible apply Effect.ite) <;> intro _)
    | ((with_reducible apply Effect.after (State.updTi_effect ..)); exact rfl)
    | ((with_reducible apply Effect.after (State.event_effect ..)); exact rfl)

theorem execTiFilterChange_effect (i : Fin 8) (active : Bool) (t : ℕ) (s : State) :
    Effect.ok 0x4F7D8C00403 s (execTiFilterChange i active t s) := by
  unfold execTiFilterChange
  try dsimp only
  repeat' first
    | with_reducible apply Effect.refl
    | with_reducible assumption
    | ((with_reducible apply Effect.ite) <;> intro _)
    | apply Effect.ok_next
    | ((with_reducible apply Effect.after (State.upTo_effect ..)); exact rfl)
    | ((with_reducible apply Effect.after (State.updTi_effect ..)); exact rfl)
    | ((with_reducible apply Effect.after (State.tiToggle_effect ..)); exact rfl)
    | ((with_reducible apply Effect.after (State.drive_effect ..)); exact rfl)
    | ((with_reducible apply Effect.after (State.releaseAll_effect ..)); exact rfl)

theorem execTiStuck_effect (i : Fin 8) (s : State) :
    Effect.ok 0x4500000001 s (execTiStuck i s) := by
  unfold execTiStuck
  try dsimp only
  repeat' first
    | with_reducible apply Effect.refl
    | with_reducible assumption
    | ((with_reducible apply Effect.ite) <;> intro _)
    | apply Effect.ok_next
    | ((with_reducible apply Effect.after (State.upTo_effect ..)); exact rfl)
    | ((with_reducible apply Effect.after (State.event_effect ..)); exact rfl)
    | ((with_reducible apply Effect.after (State.updTi_effect ..)); exact rfl)

theorem execTiLow_effect (i : Fin 8) (low : Bool) (s : State) :
    Effect.ok 0x4100000000 s (execTiLow i low s) := by
  unfold execTiLow
  try dsimp only
  repeat' first
    | with_reducible apply Effect.refl
    | with_reducible assumption
    | ((with_reducible apply Effect.ite) <;> intro _)
    | apply Effect.ok_next
    | ((with_reducible apply Effect.after (State.event_effect ..)); exact rfl)
    | ((with_reducible apply Effect.after (State.updTi_effect ..)); exact rfl)

end Sys2Proof.Machine
end

