-- ==== Sys2Proof/Laws/EffLoad.lean ====
section
/-! SUPPORT. What each operation of Machine/Load.lean may do: the parts it may write, and that its result follows
what it was given (Laws/Effect.lean). -/

namespace Sys2Proof.Machine

theorem State.MemOk.mapFacets {s : State} (w : s.MemOk) {g : Nat × FacetSt → Nat × FacetSt}
    (hg : ∀ r, Memory.wf r.2.dmem = true → Memory.wf (g r).2.dmem = true) :
    State.MemOk { s with facets := { s.facets with rows := s.facets.rows.map g } } := by
  refine ⟨w.1, fun r hr => ?_⟩
  obtain ⟨q, hq, rfl⟩ := List.mem_map.1 hr
  exact hg q (w.2 q hq)

theorem facetLeft_wf (x : FacetSt) : Memory.wf (facetLeft x).dmem = true := by
  unfold facetLeft
  split <;> rfl

theorem State.emptyLens_effect (s : State) (l : ℕ) : Effect 0x4f2d8e005c2 s (State.emptyLens s l) := by
  unfold State.emptyLens
  extract_lets s1 f0 p0 s2 s3 q0 s4 s5
  have h1 : Effect 0x4f2d8e005c2 s s1 := Effect.each (Effect.refl _ _) fun t x ht => ht.go (State.releaseAll_effect ..) rfl
  clear_value s1
  have h2 : Effect 0x4f2d8e005c2 s s2 := h1.trans
    ⟨fun p hp => by cases p <;> first | exact rfl | exact absurd hp (by decide),
     ⟨rfl, Nat.le_refl _, List.prefix_refl _, fun w => w.mapFacets fun r hr => by
       split
       · exact facetLeft_wf _
       · exact hr⟩, rfl⟩
  have h3 : Effect 0x4f2d8e005c2 s s3 := Effect.each h2 fun t x ht => Effect.updFacet ht (fun _ hx => hx) rfl
  clear_value s3
  refine Effect.after (State.dropLens_effect ..) rfl (Effect.after (State.fillFree_effect ..) rfl ?_)
  refine Effect.after (State.updLens_effect ..) rfl ?_
  exact Effect.upd _ h3 rfl fun p hp => by cases p <;> first | exact rfl | exact absurd hp (by decide)

theorem State.loadHome_effect (s : State) (l : ℕ) (h : ℕ) :
    Effect 0x40000001C0 s (State.loadHome s l h) := by
  unfold State.loadHome
  try dsimp only
  repeat' first
    | with_reducible apply Effect.refl
    | with_reducible assumption
    | ((with_reducible apply Effect.after (State.loadAt_effect ..)); exact rfl)
    | ((with_reducible apply Effect.after (State.resetProg_effect ..)); exact rfl)

theorem State.loadLens_effect (s : State) (l : ℕ) :
    Effect 0x4F2D8E005C2 s (State.loadLens s l) := by
  unfold State.loadLens
  try dsimp only
  repeat' first
    | with_reducible apply Effect.refl
    | with_reducible assumption
    | ((with_reducible apply Effect.after (State.updLens_effect ..)); exact rfl)
    | ((with_reducible apply Effect.after (State.emptyLens_effect ..)); exact rfl)
    | ((with_reducible apply Effect.each) <;> [skip; (intro t x ht)])
    | ((with_reducible apply Effect.after (State.loadHome_effect ..)); exact rfl)

theorem State.haltFacet_effect (s : State) (l : ℕ) (h : ℕ) :
    Effect 0x4F2D8C007C2 s (State.haltFacet s l h) := by
  unfold State.haltFacet
  try dsimp only
  repeat' first
    | with_reducible apply Effect.refl
    | with_reducible assumption
    | ((with_reducible apply Effect.after (State.stopFacet_effect ..)); exact rfl)

theorem State.logicWarmStart_effect (s : State) (p : ℕ) :
    Effect 0x4F2D8C02FC2 s (State.logicWarmStart s p) := by
  unfold State.logicWarmStart
  try dsimp only
  repeat' first
    | with_reducible apply Effect.refl
    | with_reducible assumption
    | ((with_reducible apply Effect.ite) <;> intro _)
    | ((with_reducible apply Effect.after (State.resetProg_effect ..)); exact rfl)
    | ((with_reducible apply Effect.updFacet) <;> [skip; (intro x hx; (try dsimp only); repeat' (first | exact hx | apply memPutNat_wf | apply memPut_wf | apply initData_wf | apply exchangeData_wf | apply restoreArea_wf | apply restoreRetain_wf | apply loadWindow_wf | apply statusBlock_wf | apply loadStream_wf | apply freshData_wf | apply putOutputs_wf | apply memPutSlot_wf | apply carry_wf | (rw [queueEvent_dmem]) | exact nil_wf | (rw [setQueued_dmem]) | split)); exact rfl])
    | ((with_reducible apply Effect.after (State.updLogic_effect ..)); exact rfl)
    | ((with_reducible apply Effect.each) <;> [skip; (intro t x ht)])
    | ((with_reducible apply Effect.after (State.updStn_effect ..)); exact rfl)
    | ((with_reducible apply Effect.after (State.updProg_effect ..)); exact rfl)
    | ((with_reducible apply Effect.after (State.haltFacet_effect ..)); exact rfl)

theorem State.logicStart_effect (s : State) (p : ℕ) :
    Effect 0x4F2D8C03FC2 s (State.logicStart s p) := by
  unfold State.logicStart
  try dsimp only
  repeat' first
    | with_reducible apply Effect.refl
    | with_reducible assumption
    | ((with_reducible apply Effect.ite) <;> intro _)
    | ((with_reducible apply Effect.after (State.logicWarmStart_effect ..)); exact rfl)
    | ((with_reducible apply Effect.after (State.logicColdStart_effect ..)); exact rfl)
    | ((with_reducible apply Effect.after (State.updLogic_effect ..)); exact rfl)
    | ((with_reducible apply Effect.after (State.haltFacet_effect ..)); exact rfl)

theorem State.lensOn_effect (s : State) (l : ℕ) :
    Effect 0x4F2D8E03FC2 s (State.lensOn s l) := by
  unfold State.lensOn
  try dsimp only
  repeat' first
    | with_reducible apply Effect.refl
    | with_reducible assumption
    | ((with_reducible apply Effect.after (State.updLens_effect ..)); exact rfl)
    | ((with_reducible apply Effect.after (State.loadLens_effect ..)); exact rfl)
    | ((with_reducible apply Effect.after (State.lensRest_effect ..)); exact rfl)
    | ((with_reducible apply Effect.each) <;> [skip; (intro t x ht)])
    | ((with_reducible apply Effect.after (State.logicStart_effect ..)); exact rfl)

theorem State.lensOff_effect (s : State) (l : ℕ) :
    Effect 0x4F2D8E005C2 s (State.lensOff s l) := by
  unfold State.lensOff
  try dsimp only
  repeat' first
    | with_reducible apply Effect.refl
    | with_reducible assumption
    | ((with_reducible apply Effect.after (State.updLens_effect ..)); exact rfl)
    | ((with_reducible apply Effect.after (State.emptyLens_effect ..)); exact rfl)

theorem State.stageProgram_effect (s : State) (i : Image) (p : ℕ) :
    Effect 0x4F2D8C01FD2 s (State.stageProgram s i p) := by
  unfold State.stageProgram
  try dsimp only
  repeat' first
    | with_reducible apply Effect.refl
    | with_reducible assumption
    | ((with_reducible apply Effect.ite) <;> intro _)
    | ((with_reducible apply Effect.after (State.startAdded_effect ..)); exact rfl)
    | ((with_reducible apply Effect.after (State.updLogic_effect ..)); exact rfl)
    | ((with_reducible apply Effect.after (State.dropLogic_effect ..)); exact rfl)
    | ((with_reducible apply Effect.after (State.replaceStopped_effect ..)); exact rfl)

theorem State.stageLoop_effect (s : State) (i : Image) (k : ℕ) :
    Effect 0x4F2D8C007D2 s (State.stageLoop s i k) := by
  unfold State.stageLoop
  try dsimp only
  repeat' first
    | with_reducible apply Effect.refl
    | with_reducible assumption
    | ((with_reducible apply Effect.ite) <;> intro _)
    | ((with_reducible apply Effect.after (State.updSvc_effect ..)); exact rfl)
    | ((with_reducible apply Effect.after (State.clearFacet_effect ..)); exact rfl)
    | ((with_reducible apply Effect.after (State.loadHome_effect ..)); exact rfl)

theorem State.beginExchange_effect (s : State) :
    Effect 0x4F2D8C01FD2 s (State.beginExchange s) := by
  unfold State.beginExchange
  try dsimp only
  repeat' first
    | with_reducible apply Effect.refl
    | with_reducible assumption
    | ((with_reducible apply Effect.each) <;> [skip; (intro t x ht)])
    | ((with_reducible apply Effect.after (State.stageProgram_effect ..)); exact rfl)
    | ((with_reducible apply Effect.after (State.exchFinish_effect ..)); exact rfl)
    | ((with_reducible apply Effect.after (State.stageLoop_effect ..)); exact rfl)
    | split

theorem State.exchCancel_effect (s : State) :
    Effect 0x800 s (State.exchCancel s) := by
  unfold State.exchCancel
  try dsimp only
  repeat' first
    | with_reducible apply Effect.refl
    | with_reducible assumption
    | split
    | ((with_reducible apply Effect.upd) <;> [skip; exact rfl; (intro p hp; cases p <;> first | exact rfl | exact absurd hp (by decide))])

theorem State.exchUndo_effect (s : State) :
    Effect 0x4F2D8C01FD2 s (State.exchUndo s) := by
  unfold State.exchUndo
  try dsimp only
  repeat' first
    | with_reducible apply Effect.refl
    | with_reducible assumption
    | ((with_reducible apply Effect.ite) <;> intro _)
    | ((with_reducible apply Effect.after (State.exchCancel_effect ..)); exact rfl)
    | ((with_reducible apply Effect.after (State.updSvc_effect ..)); exact rfl)
    | ((with_reducible apply Effect.after (State.updMlk_effect ..)); exact rfl)
    | ((with_reducible apply Effect.each) <;> [skip; (intro t x ht)])
    | ((with_reducible apply Effect.after (State.execBegin_effect ..)); exact rfl)
    | ((with_reducible apply Effect.after (State.beginExchange_effect ..)); exact rfl)
    | split

theorem execLogicExchangeTimeout_effect (p : Fin 64) (s : State) :
    Effect.ok 0x4F6D8C01FD3 s (execLogicExchangeTimeout p s) := by
  unfold execLogicExchangeTimeout
  try dsimp only
  repeat' first
    | with_reducible apply Effect.refl
    | with_reducible assumption
    | ((with_reducible apply Effect.ite) <;> intro _)
    | apply Effect.ok_next
    | ((with_reducible apply Effect.after (State.upTo_effect ..)); exact rfl)
    | ((with_reducible apply Effect.after (State.exchUndo_effect ..)); exact rfl)
    | ((with_reducible apply Effect.after (State.svcEnd_effect ..)); exact rfl)
    | split

theorem State.enableStn_effect (s : State) (i : ℕ) :
    Effect 0x2000006000 s (State.enableStn s i) := by
  unfold State.enableStn
  try dsimp only
  repeat' first
    | with_reducible apply Effect.refl
    | with_reducible assumption
    | ((with_reducible apply Effect.after (State.updMlk_effect ..)); exact rfl)
    | ((with_reducible apply Effect.after (State.updStn_effect ..)); exact rfl)
    | ((with_reducible apply Effect.each) <;> [skip; (intro t x ht)])
    | ((with_reducible apply Effect.after (State.updCond_effect ..)); exact rfl)
    | ((with_reducible apply Effect.after (State.silentStns_effect ..)); exact rfl)

theorem State.setStns_effect (s : State) :
    Effect 0x2000006000 s (State.setStns s) := by
  unfold State.setStns
  try dsimp only
  repeat' first
    | with_reducible apply Effect.refl
    | with_reducible assumption
    | ((with_reducible apply Effect.ite) <;> intro _)
    | ((with_reducible apply Effect.each) <;> [skip; (intro t x ht)])
    | ((with_reducible apply Effect.after (State.enableStn_effect ..)); exact rfl)
    | ((with_reducible apply Effect.after (State.updStn_effect ..)); exact rfl)

theorem State.setChains_effect (s : State) :
    Effect 0x30000 s (State.setChains s) := by
  unfold State.setChains
  try dsimp only
  repeat' first
    | with_reducible apply Effect.refl
    | with_reducible assumption
    | ((with_reducible apply Effect.each) <;> [skip; (intro t x ht)])
    | split
    | ((with_reducible apply Effect.upd) <;> [skip; exact rfl; (intro p hp; cases p <;> first | exact rfl | exact absurd hp (by decide))])

theorem State.setTables_effect (s : State) :
    Effect 0x4481A08002 s (State.setTables s) := by
  unfold State.setTables
  try dsimp only
  repeat' first
    | with_reducible apply Effect.refl
    | with_reducible assumption
    | ((with_reducible apply Effect.ite) <;> intro _)
    | ((with_reducible apply Effect.each) <;> [skip; (intro t x ht)])
    | ((with_reducible apply Effect.after (State.updSv_effect ..)); exact rfl)
    | ((with_reducible apply Effect.after (State.updGp_effect ..)); exact rfl)
    | ((with_reducible apply Effect.after (State.updGs_effect ..)); exact rfl)
    | ((with_reducible apply Effect.after (State.updProt_effect ..)); exact rfl)
    | ((with_reducible apply Effect.after (State.updTp_effect ..)); exact rfl)
    | ((with_reducible apply Effect.after (State.updPwm_effect ..)); exact rfl)
    | ((with_reducible apply Effect.after (State.updEvr_effect ..)); exact rfl)
    | ((with_reducible apply Effect.after (State.updGrp_effect ..)); exact rfl)
    | ((with_reducible apply Effect.after (State.perStart_effect ..)); exact rfl)
    | ((with_reducible apply Effect.after (State.perHalt_effect ..)); exact rfl)

theorem State.freshPulses_effect (s : State) (old : Package) :
    Effect 0x4804000000 s (State.freshPulses s old) := by
  unfold State.freshPulses
  try dsimp only
  repeat' first
    | with_reducible apply Effect.refl
    | with_reducible assumption
    | ((with_reducible apply Effect.ite) <;> intro _)
    | ((with_reducible apply Effect.after (State.updCnv_effect ..)); exact rfl)
    | ((with_reducible apply Effect.each) <;> [skip; (intro t x ht)])
    | ((with_reducible apply Effect.after (State.updFbc_effect ..)); exact rfl)
    | ((with_reducible apply Effect.after (State.updGrp_effect ..)); exact rfl)

theorem State.setLanes_effect (s : State) (old : CnvCfg) :
    Effect 0x40000000 s (State.setLanes s old) := by
  unfold State.setLanes
  try dsimp only
  repeat' first
    | with_reducible apply Effect.refl
    | with_reducible assumption
    | ((with_reducible apply Effect.ite) <;> intro _)
    | ((with_reducible apply Effect.each) <;> [skip; (intro t x ht)])
    | ((with_reducible apply Effect.after (State.updBeam_effect ..)); exact rfl)

theorem State.setInputs_effect (s : State) :
    Effect 0x4F2D8C00402 s (State.setInputs s) := by
  unfold State.setInputs
  try dsimp only
  repeat' first
    | with_reducible apply Effect.refl
    | with_reducible assumption
    | ((with_reducible apply Effect.after (State.noteMasks_effect ..)); exact rfl)
    | ((with_reducible apply Effect.each) <;> [skip; (intro t x ht)])
    | ((with_reducible apply Effect.after (State.drive_effect ..)); exact rfl)

theorem State.configure_effect (s : State) (p : Package) :
    Effect 0x4FEDDE3E512 s (State.configure s p) := by
  unfold State.configure
  try dsimp only
  repeat' first
    | with_reducible apply Effect.refl
    | with_reducible assumption
    | ((with_reducible apply Effect.after (State.updSvc_effect ..)); exact rfl)
    | ((with_reducible apply Effect.after (State.setInputs_effect ..)); exact rfl)
    | ((with_reducible apply Effect.after (State.setLanes_effect ..)); exact rfl)
    | ((with_reducible apply Effect.after (State.freshPulses_effect ..)); exact rfl)
    | ((with_reducible apply Effect.after (State.setTables_effect ..)); exact rfl)
    | ((with_reducible apply Effect.after (State.setChains_effect ..)); exact rfl)
    | ((with_reducible apply Effect.after (State.setStns_effect ..)); exact rfl)
    | ((with_reducible apply Effect.each) <;> [skip; (intro t x ht)])
    | ((with_reducible apply Effect.after (State.fillFree_effect ..)); exact rfl)

end Sys2Proof.Machine
end

