-- ==== Sys2Proof/Laws/EffSwitch.lean ====
section
/-! SUPPORT. What each operation of Machine/Switch.lean may do: the parts it may write, and that its result follows
what it was given (Laws/Effect.lean). -/

namespace Sys2Proof.Machine

theorem State.ingress_effect (s : State) (p : ℕ) (fr : EthFrame) :
    Effect 0x45200000002 s (State.ingress s p fr) := by
  unfold State.ingress
  try dsimp only
  repeat' first
    | with_reducible apply Effect.refl
    | with_reducible assumption
    | ((with_reducible apply Effect.ite) <;> intro _)
    | ((with_reducible apply Effect.after (State.updPort_effect ..)); exact rfl)
    | ((with_reducible apply Effect.after (State.glintSee_effect ..)); exact rfl)
    | ((with_reducible apply Effect.after (State.updSwc_effect ..)); exact rfl)
    | ((with_reducible apply Effect.after (State.forward_effect ..)); exact rfl)
    | ((with_reducible apply Effect.after (State.forward_effect_eq ‹_›)); exact rfl)
    | split

theorem execSwcFrameRx_effect (p : Fin 24) (fr : EthFrame) (t : ℕ) (s : State) :
    Effect.ok 0x45600000003 s (execSwcFrameRx p fr t s) := by
  unfold execSwcFrameRx
  try dsimp only
  repeat' first
    | with_reducible apply Effect.refl
    | with_reducible assumption
    | ((with_reducible apply Effect.ite) <;> intro _)
    | apply Effect.ok_next
    | ((with_reducible apply Effect.after (State.upTo_effect ..)); exact rfl)
    | ((with_reducible apply Effect.after (State.ingress_effect ..)); exact rfl)

theorem State.dropWaiting_effect (s : State) (i : ℕ) :
    Effect 0x200000000 s (State.dropWaiting s i) := by
  unfold State.dropWaiting
  try dsimp only
  repeat' first
    | with_reducible apply Effect.refl
    | with_reducible assumption
    | ((with_reducible apply Effect.after (State.updSwc_effect ..)); exact rfl)

theorem execLosslessAdmit_effect (p : Fin 24) (c : Fin 8) (s : State) :
    Effect.ok 0x200000000 s (execLosslessAdmit p c s) := by
  unfold execLosslessAdmit
  try dsimp only
  repeat' first
    | with_reducible apply Effect.refl
    | with_reducible assumption
    | ((with_reducible apply Effect.ite) <;> intro _)
    | apply Effect.ok_next
    | ((with_reducible apply Effect.after (State.updSwc_effect ..)); exact rfl)
    | ((with_reducible apply Effect.after (State.admitLossless_effect ..)); exact rfl)
    | ((with_reducible apply Effect.after (State.dropWaiting_effect ..)); exact rfl)
    | split

theorem execMcRefused_effect (p : Fin 24) (c : Fin 8) (s : State) :
    Effect.ok 0x4600000001 s (execMcRefused p c s) := by
  unfold execMcRefused
  try dsimp only
  repeat' first
    | with_reducible apply Effect.refl
    | with_reducible assumption
    | ((with_reducible apply Effect.ite) <;> intro _)
    | apply Effect.ok_next
    | ((with_reducible apply Effect.after (State.sweep_effect ..)); exact rfl)
    | ((with_reducible apply Effect.after (State.dropWaiting_effect ..)); exact rfl)
    | ((with_reducible apply Effect.after (State.upTo_effect ..)); exact rfl)
    | ((with_reducible apply Effect.after (State.updSwc_effect ..)); exact rfl)
    | ((with_reducible apply Effect.after (State.event_effect ..)); exact rfl)
    | split

theorem State.sendCopy_effect (s : State) (p : ℕ) (c : ℕ) (slice : ℕ) (x : Stored) :
    Effect 0x45200000102 s (State.sendCopy s p c slice x) := by
  unfold State.sendCopy
  try dsimp only
  repeat' first
    | with_reducible apply Effect.refl
    | with_reducible assumption
    | ((with_reducible apply Effect.ite) <;> intro _)
    | ((with_reducible apply Effect.after (State.qdrop_effect ..)); exact rfl)
    | ((with_reducible apply Effect.after (State.putRecord_effect ..)); exact rfl)
    | ((with_reducible apply Effect.after (State.putRecord_effect_eq ‹_›)); exact rfl)
    | ((with_reducible apply Effect.after (State.updPort_effect ..)); exact rfl)
    | ((with_reducible apply Effect.after (State.updLens_effect ..)); exact rfl)
    | ((with_reducible apply Effect.after (State.emit_effect ..)); exact rfl)
    | split

theorem State.nextCopy_effect {s t : State} {p c : ℕ} {e : QEntry} (h : s.nextCopy p c = some (e, t)) :
    Effect 0x200000000 s t := by
  unfold State.nextCopy at h
  dsimp only at h
  split at h
  · split at h
    · obtain ⟨x, _, hx⟩ := Option.map_eq_some_iff.1 h
      cases hx
      exact State.updSwc_effect ..
    · cases h
  · obtain ⟨x, _, hx⟩ := Option.map_eq_some_iff.1 h
    cases hx
    exact Effect.refl _ _

theorem State.topCopy_effect {s t : State} {p c : ℕ} {e : QEntry} (h : s.topCopy p = some (c, e, t)) :
    Effect 0x200000000 s t := by
  obtain ⟨k, _, hk⟩ := List.exists_of_findSome?_eq_some h
  obtain ⟨x, hx, he⟩ := Option.map_eq_some_iff.1 hk
  cases he
  exact State.nextCopy_effect hx

theorem execSwcFrameTx_effect (p : Fin 24) (s : State) : Effect.ok 0x45200000102 s (execSwcFrameTx p s) := by
  unfold execSwcFrameTx
  apply Effect.ok_next
  refine Effect.ite (fun _ => Effect.refl _ _) (fun _ => ?_)
  split
  · exact Effect.refl _ _
  · rename_i c e t h
    refine Effect.after (State.sendCopy_effect ..) rfl (Effect.after (State.glintSee_effect ..) rfl ?_)
    refine Effect.after (State.sweep_effect ..) rfl (Effect.after (State.updSwc_effect ..) rfl ?_)
    exact (State.topCopy_effect h).mono rfl

theorem State.unstash_effect (s : State) :
    Effect 0x200000000 s (State.unstash s) := by
  unfold State.unstash
  try dsimp only
  repeat' first
    | with_reducible apply Effect.refl
    | with_reducible assumption
    | ((with_reducible apply Effect.ite) <;> intro _)
    | ((with_reducible apply Effect.each) <;> [skip; (intro t x ht)])
    | ((with_reducible apply Effect.after (State.updSwc_effect ..)); exact rfl)
    | split

theorem execAddressAgeOut_effect (s : State) :
    Effect.ok 0x600000001 s (execAddressAgeOut s) := by
  unfold execAddressAgeOut
  try dsimp only
  repeat' first
    | with_reducible apply Effect.refl
    | with_reducible assumption
    | apply Effect.ok_next
    | ((with_reducible apply Effect.after (State.upTo_effect ..)); exact rfl)
    | ((with_reducible apply Effect.after (State.unstash_effect ..)); exact rfl)
    | ((with_reducible apply Effect.after (State.updSwc_effect ..)); exact rfl)
    | split

theorem State.linkLost_effect (s : State) (p : ℕ) :
    Effect 0x4200000000 s (State.linkLost s p) := by
  unfold State.linkLost
  try dsimp only
  repeat' first
    | with_reducible apply Effect.refl
    | with_reducible assumption
    | ((with_reducible apply Effect.ite) <;> intro _)
    | ((with_reducible apply Effect.after (State.updPort_effect ..)); exact rfl)
    | ((with_reducible apply Effect.after (State.event_effect ..)); exact rfl)
    | ((with_reducible apply Effect.after (State.flushPort_effect ..)); exact rfl)

theorem execLinkDown_effect (x : PortLink) (s : State) :
    Effect.ok 0x4200000000 s (execLinkDown x s) := by
  unfold execLinkDown
  try dsimp only
  repeat' first
    | with_reducible apply Effect.refl
    | with_reducible assumption
    | apply Effect.ok_next
    | ((with_reducible apply Effect.after (State.updPort_effect ..)); exact rfl)
    | ((with_reducible apply Effect.after (State.linkLost_effect ..)); exact rfl)

theorem execLinkUp_effect (x : PortLink) (s : State) :
    Effect.ok 0x200000000 s (execLinkUp x s) := by
  unfold execLinkUp
  try dsimp only
  repeat' first
    | with_reducible apply Effect.refl
    | with_reducible assumption
    | ((with_reducible apply Effect.ite) <;> intro _)
    | apply Effect.ok_next
    | ((with_reducible apply Effect.after (State.updPort_effect ..)); exact rfl)

theorem State.releaseFrame_effect (s : State) (j : ℕ) (i : ℕ) (fr : EthFrame) :
    Effect 0x47200000002 s (State.releaseFrame s j i fr) := by
  unfold State.releaseFrame
  try dsimp only
  repeat' first
    | with_reducible apply Effect.refl
    | with_reducible assumption
    | ((with_reducible apply Effect.after (State.forward_effect ..)); exact rfl)
    | ((with_reducible apply Effect.after (State.forward_effect_eq ‹_›)); exact rfl)
    | ((with_reducible apply Effect.after (State.complete_effect ..)); exact rfl)
    | ((with_reducible apply Effect.after (State.glintSee_effect ..)); exact rfl)
    | split

theorem State.releaseFrames_effect (s : State) :
    Effect 0x47200000002 s (State.releaseFrames s) := by
  unfold State.releaseFrames
  try dsimp only
  repeat' first
    | with_reducible apply Effect.refl
    | with_reducible assumption
    | ((with_reducible apply Effect.each) <;> [skip; (intro t x ht)])
    | ((with_reducible apply Effect.after (State.updSwc_effect ..)); exact rfl)
    | ((with_reducible apply Effect.after (State.releaseFrame_effect ..)); exact rfl)

theorem execFrameTx_effect (i : Fin 64) (r : Fin 8) (buf : Option EthFrame) (s : State) :
    Effect.ok 0x47200000002 s (execFrameTx i r buf s) := by
  unfold execFrameTx
  try dsimp only
  repeat' first
    | with_reducible apply Effect.refl
    | with_reducible assumption
    | ((with_reducible apply Effect.ite) <;> intro _)
    | apply Effect.ok_next
    | ((with_reducible apply State.runDesc_effect) <;> [skip; (intro t x1 x2 ht); exact rfl])
    | ((with_reducible apply Effect.after (State.complete_effect ..)); exact rfl)
    | ((with_reducible apply Effect.after (State.hostFail_effect ..)); exact rfl)
    | ((with_reducible apply Effect.after (State.updSwc_effect ..)); exact rfl)
    | ((with_reducible apply Effect.after (State.glintSee_effect ..)); exact rfl)
    | ((with_reducible apply Effect.after (State.releaseFrames_effect ..)); exact rfl)
    | split

theorem execGlintSub_effect (i : Fin 64) (r : Fin 8) (s : State) :
    Effect.ok 0x47200000002 s (execGlintSub i r s) := by
  unfold execGlintSub
  try dsimp only
  repeat' first
    | with_reducible apply Effect.refl
    | with_reducible assumption
    | ((with_reducible apply Effect.ite) <;> intro _)
    | apply Effect.ok_next
    | ((with_reducible apply State.runDesc_effect) <;> [skip; (intro t x1 x2 ht); exact rfl])
    | ((with_reducible apply Effect.after (State.complete_effect ..)); exact rfl)
    | ((with_reducible apply Effect.after (State.updSwc_effect ..)); exact rfl)
    | ((with_reducible apply Effect.after (State.mirror_effect ..)); exact rfl)

end Sys2Proof.Machine
end

