-- ==== Sys2Proof/Laws/EffUnits.lean ====
section
/-! SUPPORT. What each operation of Machine/Units.lean may do: the parts it may write, and that its result follows
what it was given (Laws/Effect.lean). -/

namespace Sys2Proof.Machine

theorem State.enable_effect (s : State) (u : UnitId) :
    Effect 0xC0020020 s (State.enable s u) := by
  unfold State.enable
  try dsimp only
  repeat' first
    | with_reducible apply Effect.refl
    | with_reducible assumption
    | ((with_reducible apply Effect.ite) <;> intro _)
    | ((with_reducible apply Effect.after (State.updUnit_effect ..)); exact rfl)
    | ((with_reducible apply Effect.after (State.unitBegin_effect ..)); exact rfl)

theorem State.halt_effect (s : State) (u : UnitId) :
    Effect 0x4FAD8C03FF2 s (State.halt s u) := by
  unfold State.halt
  try dsimp only
  repeat' first
    | with_reducible apply Effect.refl
    | with_reducible assumption
    | ((with_reducible apply Effect.ite) <;> intro _)
    | ((with_reducible apply Effect.after (State.unitHalt_effect ..)); exact rfl)
    | ((with_reducible apply Effect.after (State.updUnit_effect ..)); exact rfl)
    | ((with_reducible apply Effect.after (State.event_effect ..)); exact rfl)
    | ((with_reducible apply Effect.after (State.stopLens_effect ..)); exact rfl)
    | ((with_reducible apply Effect.after (State.silentStns_effect ..)); exact rfl)
    | ((with_reducible apply Effect.after (State.fbDiscard_effect ..)); exact rfl)
    | ((with_reducible apply Effect.after (State.flushPort_effect ..)); exact rfl)
    | split

theorem State.stopUnstarted_effect (s : State) (l : ℕ) :
    Effect 0x4FAD8C03FD2 s (State.stopUnstarted s l) := by
  unfold State.stopUnstarted
  try dsimp only
  repeat' first
    | with_reducible apply Effect.refl
    | with_reducible assumption
    | ((with_reducible apply Effect.ite) <;> intro _)
    | ((with_reducible apply Effect.each) <;> [skip; (intro t x ht)])
    | ((with_reducible apply Effect.after (State.updLogic_effect ..)); exact rfl)
    | ((with_reducible apply Effect.after (State.logicStop_effect ..)); exact rfl)

theorem State.disable_effect (s : State) (u : UnitId) :
    Effect 0x4FAD8C03FF2 s (State.disable s u) := by
  unfold State.disable
  try dsimp only
  repeat' first
    | with_reducible apply Effect.refl
    | with_reducible assumption
    | ((with_reducible apply Effect.ite) <;> intro _)
    | ((with_reducible apply Effect.after (State.halt_effect ..)); exact rfl)
    | ((with_reducible apply Effect.after (State.updUnit_effect ..)); exact rfl)
    | ((with_reducible apply Effect.after (State.stopUnstarted_effect ..)); exact rfl)
    | split

theorem State.setEn_effect (s : State) (u : UnitId) (en : Bool) :
    Effect 0x4FAD8C23FF2 s (State.setEn s u en) := by
  unfold State.setEn
  try dsimp only
  repeat' first
    | with_reducible apply Effect.refl
    | with_reducible assumption
    | ((with_reducible apply Effect.ite) <;> intro _)
    | ((with_reducible apply Effect.after (State.enable_effect ..)); exact rfl)
    | ((with_reducible apply Effect.after (State.disable_effect ..)); exact rfl)

theorem State.writeEn_effect (s : State) (u : UnitId) (en : Bool) :
    Effect 0x4FAD8C23FF6 s (State.writeEn s u en) := by
  unfold State.writeEn
  try dsimp only
  repeat' first
    | with_reducible apply Effect.refl
    | with_reducible assumption
    | ((with_reducible apply Effect.ite) <;> intro _)
    | ((with_reducible apply Effect.after (State.lockedWrite_effect ..)); exact rfl)
    | ((with_reducible apply Effect.after (State.setEn_effect ..)); exact rfl)
    | split

theorem execUnitEnWrite_effect (u : UnitId) (en : Bool) (s : State) :
    Effect.ok 0x4FAD8C23FF6 s (execUnitEnWrite u en s) := by
  unfold execUnitEnWrite
  try dsimp only
  repeat' first
    | with_reducible apply Effect.refl
    | with_reducible assumption
    | ((with_reducible apply Effect.ite) <;> intro _)
    | apply Effect.ok_next
    | ((with_reducible apply Effect.after (State.notReadyWrite_effect ..)); exact rfl)
    | ((with_reducible apply Effect.after (State.setAbsent_effect ..)); exact rfl)
    | ((with_reducible apply Effect.after (State.writeEn_effect ..)); exact rfl)

theorem execUnitCtrl_effect (i : Fin 64) (r : Fin 8) (s : State) :
    Effect.ok 0x4FAD8C23FF2 s (execUnitCtrl i r s) := by
  unfold execUnitCtrl
  try dsimp only
  repeat' first
    | with_reducible apply Effect.refl
    | with_reducible assumption
    | ((with_reducible apply Effect.ite) <;> intro _)
    | apply Effect.ok_next
    | ((with_reducible apply State.runDesc_effect) <;> [skip; (intro t x1 x2 ht); exact rfl])
    | ((with_reducible apply Effect.after (State.complete_effect ..)); exact rfl)
    | ((with_reducible apply Effect.after (State.mirror_effect ..)); exact rfl)
    | ((with_reducible apply Effect.after (State.setEn_effect ..)); exact rfl)
    | ((with_reducible apply Effect.after (State.freeCode_effect ..)); exact rfl)
    | ((with_reducible apply Effect.after (State.freeCode_effect_eq ‹_›)); exact rfl)
    | split

theorem State.ptpPort_effect (s : State) (p : ℕ) (on : Bool) :
    Effect 0x400000000 s (State.ptpPort s p on) := by
  unfold State.ptpPort
  try dsimp only
  repeat' first
    | with_reducible apply Effect.refl
    | with_reducible assumption
    | ((with_reducible apply Effect.after (State.updCol_effect ..)); exact rfl)

theorem State.unitWork_effect (s : State) (a : UnitId) :
    Effect 0x4FED8E03FC2 s (State.unitWork s a) := by
  unfold State.unitWork
  try dsimp only
  repeat' first
    | with_reducible apply Effect.refl
    | with_reducible assumption
    | ((with_reducible apply Effect.after (State.lensOn_effect ..)); exact rfl)
    | ((with_reducible apply Effect.after (State.updFbc_effect ..)); exact rfl)
    | ((with_reducible apply Effect.after (State.fbOffer_effect ..)); exact rfl)
    | ((with_reducible apply Effect.after (State.fbQueueAll_effect ..)); exact rfl)
    | ((with_reducible apply Effect.after (State.clearAlarm_effect ..)); exact rfl)
    | ((with_reducible apply Effect.after (State.fbMode_effect ..)); exact rfl)
    | ((with_reducible apply Effect.after (State.updArm_effect ..)); exact rfl)
    | ((with_reducible apply Effect.after (State.ptpPort_effect ..)); exact rfl)
    | split

theorem State.sliceOn_effect (s : State) (i : ℕ) :
    Effect 0x47000000032 s (State.sliceOn s i) := by
  unfold State.sliceOn
  try dsimp only
  repeat' first
    | with_reducible apply Effect.refl
    | with_reducible assumption
    | ((with_reducible apply Effect.ite) <;> intro _)
    | ((with_reducible apply Effect.after (State.unitStarted_effect ..)); exact rfl)
    | ((with_reducible apply Effect.after (State.makeSq_effect ..)); exact rfl)
    | ((with_reducible apply Effect.after (State.makeCq_effect ..)); exact rfl)
    | ((with_reducible apply Effect.after (State.resumePolls_effect ..)); exact rfl)
    | ((with_reducible apply Effect.after (State.setSliceState_effect ..)); exact rfl)
    | ((with_reducible apply Effect.after (State.svcEnd_effect ..)); exact rfl)
    | ((with_reducible apply Effect.after (State.mirror_effect ..)); exact rfl)
    | ((with_reducible apply Effect.after (State.hostWrite_effect ..)); exact rfl)
    | split

theorem State.sliceBack_effect (s : State) (i : ℕ) :
    Effect 0x45000000022 s (State.sliceBack s i) := by
  unfold State.sliceBack
  try dsimp only
  repeat' first
    | with_reducible apply Effect.refl
    | with_reducible assumption
    | ((with_reducible apply Effect.ite) <;> intro _)
    | ((with_reducible apply Effect.after (State.unitStarted_effect ..)); exact rfl)
    | ((with_reducible apply Effect.after (State.resumePolls_effect ..)); exact rfl)

theorem State.startDone_effect (s : State) (u : UnitId) :
    Effect 0x4FED8E03FF2 s (State.startDone s u) := by
  unfold State.startDone
  try dsimp only
  repeat' first
    | with_reducible apply Effect.refl
    | with_reducible assumption
    | ((with_reducible apply Effect.ite) <;> intro _)
    | ((with_reducible apply Effect.after (State.sliceOn_effect ..)); exact rfl)
    | ((with_reducible apply Effect.after (State.sliceBack_effect ..)); exact rfl)
    | ((with_reducible apply Effect.after (State.updPwm_effect ..)); exact rfl)
    | ((with_reducible apply Effect.after (State.unitStarted_effect ..)); exact rfl)
    | ((with_reducible apply Effect.after (State.unitWork_effect ..)); exact rfl)
    | split

theorem execUnitStartDone_effect (u : UnitId) (s : State) :
    Effect.ok 0x4FED8E03FF2 s (execUnitStartDone u s) := by
  unfold execUnitStartDone
  try dsimp only
  repeat' first
    | with_reducible apply Effect.refl
    | with_reducible assumption
    | ((with_reducible apply Effect.ite) <;> intro _)
    | apply Effect.ok_next
    | ((with_reducible apply Effect.after (State.startDone_effect ..)); exact rfl)

theorem execUnitStartFailed_effect (u : UnitId) (s : State) :
    Effect.ok 0x47400000033 s (execUnitStartFailed u s) := by
  unfold execUnitStartFailed
  try dsimp only
  repeat' first
    | with_reducible apply Effect.refl
    | with_reducible assumption
    | ((with_reducible apply Effect.ite) <;> intro _)
    | apply Effect.ok_next
    | ((with_reducible apply Effect.after (State.upTo_effect ..)); exact rfl)
    | ((with_reducible apply Effect.after (State.updUnit_effect ..)); exact rfl)
    | ((with_reducible apply Effect.after (State.event_effect ..)); exact rfl)
    | ((with_reducible apply Effect.after (State.freeCode_effect ..)); exact rfl)
    | ((with_reducible apply Effect.after (State.freeCode_effect_eq ‹_›)); exact rfl)
    | ((with_reducible apply Effect.after (State.updSlice_effect ..)); exact rfl)
    | ((with_reducible apply Effect.after (State.svcEnd_effect ..)); exact rfl)
    | split

theorem State.unitLost_effect (s : State) (a : UnitId) :
    Effect 0x4FED8E025C2 s (State.unitLost s a) := by
  unfold State.unitLost
  try dsimp only
  repeat' first
    | with_reducible apply Effect.refl
    | with_reducible assumption
    | ((with_reducible apply Effect.after (State.lensOff_effect ..)); exact rfl)
    | ((with_reducible apply Effect.after (State.ptpPort_effect ..)); exact rfl)
    | ((with_reducible apply Effect.after (State.updPort_effect ..)); exact rfl)
    | ((with_reducible apply Effect.after (State.silentStns_effect ..)); exact rfl)
    | ((with_reducible apply Effect.after (State.fbCut_effect ..)); exact rfl)
    | ((with_reducible apply Effect.after (State.pwmOff_effect ..)); exact rfl)
    | split

theorem State.removed_effect (s : State) (i : ℕ) (c : Code) :
    Effect 0x47A00000002 s (State.removed s i c) := by
  unfold State.removed
  try dsimp only
  repeat' first
    | with_reducible apply Effect.refl
    | with_reducible assumption
    | ((with_reducible apply Effect.after (State.updSlice_effect ..)); exact rfl)
    | ((with_reducible apply Effect.after (State.complete_effect ..)); exact rfl)
    | ((with_reducible apply Effect.after (State.syncSlice_effect ..)); exact rfl)
    | ((with_reducible apply Effect.after (State.nextResets_effect ..)); exact rfl)
    | split

theorem State.stopDone_effect (s : State) (u : UnitId) :
    Effect 0x4FED8E225E3 s (State.stopDone s u) := by
  unfold State.stopDone
  try dsimp only
  repeat' first
    | with_reducible apply Effect.refl
    | with_reducible assumption
    | ((with_reducible apply Effect.ite) <;> intro _)
    | ((with_reducible apply Effect.after (State.pwmStart_effect ..)); exact rfl)
    | ((with_reducible apply Effect.after (State.upTo_effect ..)); exact rfl)
    | ((with_reducible apply Effect.after (State.unitStopped_effect ..)); exact rfl)
    | ((with_reducible apply Effect.after (State.pwmOff_effect ..)); exact rfl)
    | ((with_reducible apply Effect.after (State.removed_effect ..)); exact rfl)
    | ((with_reducible apply Effect.after (State.unitLost_effect ..)); exact rfl)
    | split

theorem execUnitStopDone_effect (u : UnitId) (s : State) :
    Effect.ok 0x4FED8E225E3 s (execUnitStopDone u s) := by
  unfold execUnitStopDone
  try dsimp only
  repeat' first
    | with_reducible apply Effect.refl
    | with_reducible assumption
    | ((with_reducible apply Effect.ite) <;> intro _)
    | apply Effect.ok_next
    | ((with_reducible apply Effect.after (State.stopDone_effect ..)); exact rfl)

theorem execUnitFenced_effect (u : UnitId) (s : State) :
    Effect.ok 0x4FED8E025E3 s (execUnitFenced u s) := by
  unfold execUnitFenced
  try dsimp only
  repeat' first
    | with_reducible apply Effect.refl
    | with_reducible assumption
    | ((with_reducible apply Effect.ite) <;> intro _)
    | apply Effect.ok_next
    | ((with_reducible apply Effect.after (State.upTo_effect ..)); exact rfl)
    | ((with_reducible apply Effect.after (State.updUnit_effect ..)); exact rfl)
    | ((with_reducible apply Effect.after (State.alarm_effect ..)); exact rfl)
    | ((with_reducible apply Effect.after (State.removed_effect ..)); exact rfl)
    | ((with_reducible apply Effect.after (State.unitLost_effect ..)); exact rfl)
    | split

theorem State.unitsFromPackage_effect (s : State) :
    Effect 0x4FAD8C23FF2 s (State.unitsFromPackage s) := by
  unfold State.unitsFromPackage
  try dsimp only
  repeat' first
    | with_reducible apply Effect.refl
    | with_reducible assumption
    | ((with_reducible apply Effect.ite) <;> intro _)
    | ((with_reducible apply Effect.each) <;> [skip; (intro t x ht)])
    | ((with_reducible apply Effect.after (State.updUnit_effect ..)); exact rfl)
    | ((with_reducible apply Effect.after (State.unitBegin_effect ..)); exact rfl)
    | ((with_reducible apply Effect.after (State.silentStns_effect ..)); exact rfl)
    | ((with_reducible apply Effect.after (State.disable_effect ..)); exact rfl)
    | split

end Sys2Proof.Machine
end

