-- ==== Sys2Proof/Laws/EffGrant.lean ====
section
/-! SUPPORT. What each operation of Machine/Grant.lean may do: the parts it may write, and that its result follows
what it was given (Laws/Effect.lean). -/

namespace Sys2Proof.Machine

theorem State.gatePwm_effect (s : State) :
    Effect 0x40080000000 s (State.gatePwm s) := by
  unfold State.gatePwm
  try dsimp only
  repeat' first
    | with_reducible apply Effect.refl
    | with_reducible assumption
    | ((with_reducible apply Effect.each) <;> [skip; (intro t x ht)])
    | ((with_reducible apply Effect.after (State.pwmOff_effect ..)); exact rfl)
    | ((with_reducible apply Effect.after (State.updPwm_effect ..)); exact rfl)

theorem State.dropDeblocks_effect (s : State) :
    Effect 0x3008000000 s (State.dropDeblocks s) := by
  unfold State.dropDeblocks
  try dsimp only
  repeat' first
    | with_reducible apply Effect.refl
    | with_reducible assumption
    | ((with_reducible apply Effect.each) <;> [skip; (intro t x ht)])
    | ((with_reducible apply Effect.after (State.endDeblock_effect ..)); exact rfl)
    | split

theorem State.suspendLogic_effect (s : State) (p : ℕ) :
    Effect 0x20000008C0 s (State.suspendLogic s p) := by
  unfold State.suspendLogic
  try dsimp only
  repeat' first
    | with_reducible apply Effect.refl
    | with_reducible assumption
    | ((with_reducible apply Effect.updFacet) <;> [skip; (intro x hx; (try dsimp only); repeat' (first | exact hx | apply memPutNat_wf | apply memPut_wf | apply initData_wf | apply exchangeData_wf | apply restoreArea_wf | apply restoreRetain_wf | apply loadWindow_wf | apply statusBlock_wf | apply loadStream_wf | apply freshData_wf | apply putOutputs_wf | apply memPutSlot_wf | apply carry_wf | (rw [queueEvent_dmem]) | exact nil_wf | (rw [setQueued_dmem]) | split)); exact rfl])
    | ((with_reducible apply Effect.after (State.updProg_effect ..)); exact rfl)
    | ((with_reducible apply Effect.after (State.updMlk_effect ..)); exact rfl)
    | ((with_reducible apply Effect.after (State.updLogic_effect ..)); exact rfl)

theorem State.blockOutputs_effect (s : State) :
    Effect 0x43AC8000002 s (State.blockOutputs s) := by
  unfold State.blockOutputs
  try dsimp only
  repeat' first
    | with_reducible apply Effect.refl
    | with_reducible assumption
    | ((with_reducible apply Effect.after (State.flushBeams_effect ..)); exact rfl)
    | ((with_reducible apply Effect.after (State.dropCommands_effect ..)); exact rfl)
    | ((with_reducible apply Effect.after (State.updMlk_effect ..)); exact rfl)
    | ((with_reducible apply Effect.after (State.emits_effect ..)); exact rfl)
    | ((with_reducible apply Effect.after (State.gatePwm_effect ..)); exact rfl)
    | ((with_reducible apply Effect.after (State.fbGrantLost_effect ..)); exact rfl)
    | ((with_reducible apply Effect.after (State.dropDeblocks_effect ..)); exact rfl)

theorem State.dropGrant_effect (s : State) (r : MlkRole) :
    Effect 0x43AC80008C2 s (State.dropGrant s r) := by
  unfold State.dropGrant
  try dsimp only
  repeat' first
    | with_reducible apply Effect.refl
    | with_reducible assumption
    | ((with_reducible apply Effect.ite) <;> intro _)
    | ((with_reducible apply Effect.after (State.emit_effect ..)); exact rfl)
    | ((with_reducible apply Effect.after (State.blockOutputs_effect ..)); exact rfl)
    | ((with_reducible apply Effect.each) <;> [skip; (intro t x ht)])
    | ((with_reducible apply Effect.after (State.suspendLogic_effect ..)); exact rfl)
    | ((with_reducible apply Effect.after (State.updSwc_effect ..)); exact rfl)
    | ((with_reducible apply Effect.after (State.updFbc_effect ..)); exact rfl)
    | ((with_reducible apply Effect.after (State.recover_effect ..)); exact rfl)
    | ((with_reducible apply Effect.after (State.updHif_effect ..)); exact rfl)
    | ((with_reducible apply Effect.after (State.updMlk_effect ..)); exact rfl)

theorem State.startResync_effect (s : State) :
    Effect 0x42000000000 s (State.startResync s) := by
  unfold State.startResync
  try dsimp only
  repeat' first
    | with_reducible apply Effect.refl
    | with_reducible assumption
    | ((with_reducible apply Effect.ite) <;> intro _)
    | ((with_reducible apply Effect.after (State.updMlk_effect ..)); exact rfl)
    | ((with_reducible apply Effect.after (State.emit_effect ..)); exact rfl)

theorem State.toOffline_effect (s : State) :
    Effect 0x43AC80008C2 s (State.toOffline s) := by
  unfold State.toOffline
  try dsimp only
  repeat' first
    | with_reducible apply Effect.refl
    | with_reducible assumption
    | ((with_reducible apply Effect.ite) <;> intro _)
    | ((with_reducible apply Effect.after (State.updMlk_effect ..)); exact rfl)
    | ((with_reducible apply Effect.after (State.dropGrant_effect ..)); exact rfl)

theorem State.sendHealth_effect (s : State) :
    Effect 0x47200000002 s (State.sendHealth s) := by
  unfold State.sendHealth
  try dsimp only
  repeat' first
    | with_reducible apply Effect.refl
    | with_reducible assumption
    | ((with_reducible apply Effect.ite) <;> intro _)
    | ((with_reducible apply Effect.after (State.updMlk_effect ..)); exact rfl)
    | ((with_reducible apply Effect.after (State.emit_effect ..)); exact rfl)
    | ((with_reducible apply Effect.after (State.forwardAs_effect ..)); exact rfl)
    | ((with_reducible apply Effect.after (State.forwardAs_effect_eq ‹_›)); exact rfl)
    | ((with_reducible apply Effect.after (State.glintSee_effect ..)); exact rfl)

theorem State.enterRunning_effect (s : State) :
    Effect 0x47200000006 s (State.enterRunning s) := by
  unfold State.enterRunning
  try dsimp only
  repeat' first
    | with_reducible apply Effect.refl
    | with_reducible assumption
    | ((with_reducible apply Effect.ite) <;> intro _)
    | ((with_reducible apply Effect.updGlb) <;> [skip; (intro x; first | rfl | (dsimp only; split <;> rfl)); exact rfl])
    | ((with_reducible apply Effect.after (State.updMlk_effect ..)); exact rfl)
    | ((with_reducible apply Effect.after (State.startResync_effect ..)); exact rfl)
    | ((with_reducible apply Effect.after (State.sendHealth_effect ..)); exact rfl)

theorem State.claimLapse_effect (s : State) :
    Effect 0x43AC80008C2 s (State.claimLapse s) := by
  unfold State.claimLapse
  try dsimp only
  repeat' first
    | with_reducible apply Effect.refl
    | with_reducible assumption
    | ((with_reducible apply Effect.ite) <;> intro _)
    | ((with_reducible apply Effect.after (State.dropGrant_effect ..)); exact rfl)

theorem State.updLoop_effect (s : State) (x : Loop) (f : LoopSt → LoopSt) :
    Effect 0x2000000000 s (State.updLoop s x f) := by
  unfold State.updLoop
  try dsimp only
  repeat' first
    | with_reducible apply Effect.refl
    | with_reducible assumption
    | ((with_reducible apply Effect.after (State.updMlk_effect ..)); exact rfl)

theorem State.readLoops_effect (s : State) :
    Effect 0x2000000000 s (State.readLoops s) := by
  unfold State.readLoops
  try dsimp only
  repeat' first
    | with_reducible apply Effect.refl
    | with_reducible assumption
    | ((with_reducible apply Effect.ite) <;> intro _)
    | ((with_reducible apply Effect.after (State.updMlk_effect ..)); exact rfl)

theorem execIlkLoopClaimed_effect (x : Loop) (s : State) :
    Effect.ok 0x2000000000 s (execIlkLoopClaimed x s) := by
  unfold execIlkLoopClaimed
  try dsimp only
  repeat' first
    | with_reducible apply Effect.refl
    | with_reducible assumption
    | apply Effect.ok_next
    | ((with_reducible apply Effect.after (State.readLoops_effect ..)); exact rfl)
    | ((with_reducible apply Effect.after (State.updLoop_effect ..)); exact rfl)

theorem execIlkLoopReleased_effect (x : Loop) (noCur : Bool) (s : State) :
    Effect.ok 0x2400000001 s (execIlkLoopReleased x noCur s) := by
  unfold execIlkLoopReleased
  try dsimp only
  repeat' first
    | with_reducible apply Effect.refl
    | with_reducible assumption
    | ((with_reducible apply Effect.ite) <;> intro _)
    | apply Effect.ok_next
    | ((with_reducible apply Effect.after (State.upTo_effect ..)); exact rfl)
    | ((with_reducible apply Effect.after (State.readLoops_effect ..)); exact rfl)
    | ((with_reducible apply Effect.after (State.updLoop_effect ..)); exact rfl)

theorem execIlkDisagree_effect (s : State) :
    Effect.ok 0x47EC80008C3 s (execIlkDisagree s) := by
  unfold execIlkDisagree
  try dsimp only
  repeat' first
    | with_reducible apply Effect.refl
    | with_reducible assumption
    | ((with_reducible apply Effect.ite) <;> intro _)
    | apply Effect.ok_next
    | ((with_reducible apply Effect.after (State.upTo_effect ..)); exact rfl)
    | ((with_reducible apply Effect.after (State.claimLapse_effect ..)); exact rfl)
    | ((with_reducible apply Effect.after (State.alarm_effect ..)); exact rfl)
    | ((with_reducible apply Effect.after (State.updMlk_effect ..)); exact rfl)
    | split

theorem execIlkAgreeRestored_effect (s : State) :
    Effect.ok 0x6400000001 s (execIlkAgreeRestored s) := by
  unfold execIlkAgreeRestored
  try dsimp only
  repeat' first
    | with_reducible apply Effect.refl
    | with_reducible assumption
    | ((with_reducible apply Effect.ite) <;> intro _)
    | apply Effect.ok_next
    | ((with_reducible apply Effect.after (State.clearAlarm_effect ..)); exact rfl)
    | ((with_reducible apply Effect.after (State.updMlk_effect ..)); exact rfl)
    | ((with_reducible apply Effect.after (State.upTo_effect ..)); exact rfl)
    | split

theorem State.abortBist_effect (s : State) :
    Effect 0x57000000112 s (State.abortBist s) := by
  unfold State.abortBist
  try dsimp only
  repeat' first
    | with_reducible apply Effect.refl
    | with_reducible assumption
    | ((with_reducible apply Effect.after (State.svcEnd_effect ..)); exact rfl)
    | ((with_reducible apply Effect.after (State.updBst_effect ..)); exact rfl)
    | split
    | ((with_reducible apply Effect.upd) <;> [skip; exact rfl; (intro p hp; cases p <;> first | exact rfl | exact absurd hp (by decide))])

theorem execClaimStart_effect (s : State) :
    Effect.ok 0x57400000113 s (execClaimStart s) := by
  unfold execClaimStart
  try dsimp only
  repeat' first
    | with_reducible apply Effect.refl
    | with_reducible assumption
    | ((with_reducible apply Effect.ite) <;> intro _)
    | apply Effect.ok_next
    | ((with_reducible apply Effect.after (State.upTo_effect ..)); exact rfl)
    | ((with_reducible apply Effect.after (State.updMlk_effect ..)); exact rfl)
    | ((with_reducible apply Effect.after (State.abortBist_effect ..)); exact rfl)
    | ((with_reducible apply Effect.after (State.emit_effect ..)); exact rfl)

theorem execClaimCollision_effect (s : State) :
    Effect.ok 0x43AC80008C2 s (execClaimCollision s) := by
  unfold execClaimCollision
  try dsimp only
  repeat' first
    | with_reducible apply Effect.refl
    | with_reducible assumption
    | ((with_reducible apply Effect.ite) <;> intro _)
    | apply Effect.ok_next
    | ((with_reducible apply Effect.after (State.updMlk_effect ..)); exact rfl)
    | ((with_reducible apply Effect.after (State.dropGrant_effect ..)); exact rfl)

theorem execClaimWindowEnd_effect (s : State) :
    Effect.ok 0x43EC80008C3 s (execClaimWindowEnd s) := by
  unfold execClaimWindowEnd
  try dsimp only
  repeat' first
    | with_reducible apply Effect.refl
    | with_reducible assumption
    | ((with_reducible apply Effect.ite) <;> intro _)
    | apply Effect.ok_next
    | ((with_reducible apply Effect.after (State.claimLapse_effect ..)); exact rfl)
    | ((with_reducible apply Effect.after (State.updMlk_effect ..)); exact rfl)
    | ((with_reducible apply Effect.after (State.upTo_effect ..)); exact rfl)

theorem execOwnOpen_effect (x : Loop) (s : State) :
    Effect.ok 0x43AC80008C2 s (execOwnOpen x s) := by
  unfold execOwnOpen
  try dsimp only
  repeat' first
    | with_reducible apply Effect.refl
    | with_reducible assumption
    | ((with_reducible apply Effect.ite) <;> intro _)
    | apply Effect.ok_next
    | ((with_reducible apply Effect.after (State.updLoop_effect ..)); exact rfl)
    | ((with_reducible apply Effect.after (State.startResync_effect ..)); exact rfl)
    | ((with_reducible apply Effect.after (State.dropGrant_effect ..)); exact rfl)
    | ((with_reducible apply Effect.after (State.claimLapse_effect ..)); exact rfl)

theorem execOwnOpenClear_effect (x : Loop) (s : State) :
    Effect.ok 0x2000000000 s (execOwnOpenClear x s) := by
  unfold execOwnOpenClear
  try dsimp only
  repeat' first
    | with_reducible apply Effect.refl
    | with_reducible assumption
    | apply Effect.ok_next
    | ((with_reducible apply Effect.after (State.updLoop_effect ..)); exact rfl)

theorem execSoloWaitExpiry_effect (s : State) :
    Effect.ok 0x2400000001 s (execSoloWaitExpiry s) := by
  unfold execSoloWaitExpiry
  try dsimp only
  repeat' first
    | with_reducible apply Effect.refl
    | with_reducible assumption
    | ((with_reducible apply Effect.ite) <;> intro _)
    | apply Effect.ok_next
    | ((with_reducible apply Effect.after (State.updMlk_effect ..)); exact rfl)
    | ((with_reducible apply Effect.after (State.upTo_effect ..)); exact rfl)

theorem execOrphanWaitExpiry_effect (s : State) :
    Effect.ok 0x2400000001 s (execOrphanWaitExpiry s) := by
  unfold execOrphanWaitExpiry
  try dsimp only
  repeat' first
    | with_reducible apply Effect.refl
    | with_reducible assumption
    | ((with_reducible apply Effect.ite) <;> intro _)
    | apply Effect.ok_next
    | ((with_reducible apply Effect.after (State.updMlk_effect ..)); exact rfl)
    | ((with_reducible apply Effect.after (State.upTo_effect ..)); exact rfl)

theorem State.takeArms_effect (s : State) (orphan : Bool) :
    Effect 0x8000000 s (State.takeArms s orphan) := by
  unfold State.takeArms
  try dsimp only
  repeat' first
    | with_reducible apply Effect.refl
    | with_reducible assumption
    | ((with_reducible apply Effect.each) <;> [skip; (intro t x ht)])
    | ((with_reducible apply Effect.after (State.updArm_effect ..)); exact rfl)
    | split

theorem State.takeLogic_effect (s : State) (p : ℕ) (orphan : Bool) :
    Effect 0x28C0 s (State.takeLogic s p orphan) := by
  unfold State.takeLogic
  try dsimp only
  repeat' first
    | with_reducible apply Effect.refl
    | with_reducible assumption
    | ((with_reducible apply Effect.ite) <;> intro _)
    | ((with_reducible apply Effect.updFacet) <;> [skip; (intro x hx; (try dsimp only); repeat' (first | exact hx | apply memPutNat_wf | apply memPut_wf | apply initData_wf | apply exchangeData_wf | apply restoreArea_wf | apply restoreRetain_wf | apply loadWindow_wf | apply statusBlock_wf | apply loadStream_wf | apply freshData_wf | apply putOutputs_wf | apply memPutSlot_wf | apply carry_wf | (rw [queueEvent_dmem]) | exact nil_wf | (rw [setQueued_dmem]) | split)); exact rfl])
    | ((with_reducible apply Effect.after (State.updProg_effect ..)); exact rfl)
    | ((with_reducible apply Effect.after (State.updLogic_effect ..)); exact rfl)
    | ((with_reducible apply Effect.each) <;> [skip; (intro t x ht)])
    | ((with_reducible apply Effect.after (State.updStn_effect ..)); exact rfl)
    | split

theorem State.takePublisher_effect (s : State) (g : ℕ) (orphan : Bool) :
    Effect 0x4F200800002 s (State.takePublisher s g orphan) := by
  unfold State.takePublisher
  try dsimp only
  repeat' first
    | with_reducible apply Effect.refl
    | with_reducible assumption
    | ((with_reducible apply Effect.ite) <;> intro _)
    | ((with_reducible apply Effect.after (State.gpChange_effect ..)); exact rfl)
    | ((with_reducible apply Effect.after (State.gpSend_effect ..)); exact rfl)
    | split

theorem State.takeReset_effect (s : State) (i : ℕ) :
    Effect 0x1000000000 s (State.takeReset s i) := by
  unfold State.takeReset
  try dsimp only
  repeat' first
    | with_reducible apply Effect.refl
    | with_reducible assumption
    | ((with_reducible apply Effect.after (State.updWork_effect ..)); exact rfl)
    | ((with_reducible apply Effect.after (State.updSlice_effect ..)); exact rfl)
    | split

theorem State.resumeJournal_effect (s : State) :
    Effect 0x47000000002 s (State.resumeJournal s) := by
  unfold State.resumeJournal
  try dsimp only
  repeat' first
    | with_reducible apply Effect.refl
    | with_reducible assumption
    | ((with_reducible apply Effect.after (State.updHif_effect ..)); exact rfl)
    | ((with_reducible apply Effect.each) <;> [skip; (intro t x ht)])
    | ((with_reducible apply Effect.after (State.updMlk_effect ..)); exact rfl)
    | ((with_reducible apply Effect.after (State.complete_effect ..)); exact rfl)
    | ((with_reducible apply Effect.after (State.acceptSealed_effect ..)); exact rfl)
    | split

theorem State.resumeSlices_effect (s : State) (lost : Bool) :
    Effect 0x45000000002 s (State.resumeSlices s lost) := by
  unfold State.resumeSlices
  try dsimp only
  repeat' first
    | with_reducible apply Effect.refl
    | with_reducible assumption
    | ((with_reducible apply Effect.each) <;> [skip; (intro t x ht)])
    | ((with_reducible apply Effect.after (State.updSlice_effect ..)); exact rfl)
    | ((with_reducible apply Effect.after (State.syncSlice_effect ..)); exact rfl)

theorem State.takeGrant_effect (s : State) :
    Effect 0x4FAD8C03FD2 s (State.takeGrant s) := by
  unfold State.takeGrant
  try dsimp only
  repeat' first
    | with_reducible apply Effect.refl
    | with_reducible assumption
    | ((with_reducible apply Effect.ite) <;> intro _)
    | ((with_reducible apply Effect.after (State.flushBeams_effect ..)); exact rfl)
    | ((with_reducible apply Effect.after (State.updMlk_effect ..)); exact rfl)
    | ((with_reducible apply Effect.after (State.alarm_effect ..)); exact rfl)
    | ((with_reducible apply Effect.after (State.event_effect ..)); exact rfl)
    | ((with_reducible apply Effect.after (State.emits_effect ..)); exact rfl)
    | ((with_reducible apply Effect.after (State.takeArms_effect ..)); exact rfl)
    | ((with_reducible apply Effect.each) <;> [skip; (intro t x ht)])
    | ((with_reducible apply Effect.after (State.takeLogic_effect ..)); exact rfl)
    | ((with_reducible apply Effect.after (State.beginExchange_effect ..)); exact rfl)
    | ((with_reducible apply Effect.after (State.updStn_effect ..)); exact rfl)
    | ((with_reducible apply Effect.after (State.fbGrantGained_effect ..)); exact rfl)
    | ((with_reducible apply Effect.after (State.takePublisher_effect ..)); exact rfl)
    | ((with_reducible apply Effect.after (State.resumeJournal_effect ..)); exact rfl)
    | ((with_reducible apply Effect.after (State.takeReset_effect ..)); exact rfl)
    | ((with_reducible apply Effect.after (State.acceptSealed_effect ..)); exact rfl)
    | ((with_reducible apply Effect.after (State.resumeSlices_effect ..)); exact rfl)

theorem execTakeoverBoundary_effect (s : State) :
    Effect.ok 0x4FED8C03FD3 s (execTakeoverBoundary s) := by
  unfold execTakeoverBoundary
  try dsimp only
  repeat' first
    | with_reducible apply Effect.refl
    | with_reducible assumption
    | ((with_reducible apply Effect.ite) <;> intro _)
    | apply Effect.ok_next
    | ((with_reducible apply Effect.after (State.upToTai_effect ..)); exact rfl)
    | ((with_reducible apply Effect.after (State.takeGrant_effect ..)); exact rfl)
    | ((with_reducible apply Effect.after (State.claimLapse_effect ..)); exact rfl)
    | ((with_reducible apply Effect.after (State.updMlk_effect ..)); exact rfl)
    | ((with_reducible apply Effect.after (State.dropGrant_effect ..)); exact rfl)
    | split

theorem State.askYield_effect (s : State) :
    Effect 0x2000000000 s (State.askYield s) := by
  unfold State.askYield
  try dsimp only
  repeat' first
    | with_reducible apply Effect.refl
    | with_reducible assumption
    | ((with_reducible apply Effect.ite) <;> intro _)
    | ((with_reducible apply Effect.after (State.updMlk_effect ..)); exact rfl)

theorem execYield_effect (s : State) :
    Effect.ok 0x2000000004 s (execYield s) := by
  unfold execYield
  try dsimp only
  repeat' first
    | with_reducible apply Effect.refl
    | with_reducible assumption
    | ((with_reducible apply Effect.ite) <;> intro _)
    | apply Effect.ok_next
    | ((with_reducible apply Effect.after (State.askYield_effect ..)); exact rfl)
    | ((with_reducible apply Effect.after (State.notReadyWrite_effect ..)); exact rfl)

end Sys2Proof.Machine
end

