-- ==== Sys2Proof/Laws/EffMirror.lean ====
section
/-! SUPPORT. What each operation of Machine/Mirror.lean may do: the parts it may write, and that its result follows
what it was given (Laws/Effect.lean). -/

namespace Sys2Proof.Machine

theorem State.shareDone_effect (s : State) :
    Effect 0x2000000010 s (State.shareDone s) := by
  unfold State.shareDone
  try dsimp only
  repeat' first
    | with_reducible apply Effect.refl
    | with_reducible assumption
    | ((with_reducible apply Effect.ite) <;> intro _)
    | ((with_reducible apply Effect.after (State.updSvc_effect ..)); exact rfl)
    | ((with_reducible apply Effect.after (State.updMlk_effect ..)); exact rfl)
    | ((with_reducible apply Effect.after (State.mirror_effect ..)); exact rfl)
    | split

theorem State.sealEntries_effect (s : State) (p : JEntry → Bool) :
    Effect 0x47A00002012 s (State.sealEntries s p) := by
  unfold State.sealEntries
  try dsimp only
  repeat' first
    | with_reducible apply Effect.refl
    | with_reducible assumption
    | ((with_reducible apply Effect.after (State.updHif_effect ..)); exact rfl)
    | ((with_reducible apply Effect.after (State.releaseSends_effect ..)); exact rfl)
    | ((with_reducible apply Effect.after (State.releaseFrames_effect ..)); exact rfl)
    | ((with_reducible apply Effect.after (State.acceptSealed_effect ..)); exact rfl)
    | ((with_reducible apply Effect.after (State.syncRings_effect ..)); exact rfl)
    | ((with_reducible apply Effect.after (State.shareDone_effect ..)); exact rfl)

theorem State.sealAll_effect (s : State) :
    Effect 0x47A00002012 s (State.sealAll s) := by
  unfold State.sealAll
  try dsimp only
  repeat' first
    | with_reducible apply Effect.refl
    | with_reducible assumption
    | ((with_reducible apply Effect.after (State.sealEntries_effect ..)); exact rfl)
    | ((with_reducible apply Effect.after (State.updMlk_effect ..)); exact rfl)

theorem State.partnerOut_effect (s : State) (p : Partner) :
    Effect 0x47A00002012 s (State.partnerOut s p) := by
  unfold State.partnerOut
  try dsimp only
  repeat' first
    | with_reducible apply Effect.refl
    | with_reducible assumption
    | ((with_reducible apply Effect.ite) <;> intro _)
    | ((with_reducible apply Effect.after (State.updMlk_effect ..)); exact rfl)
    | ((with_reducible apply Effect.after (State.sealAll_effect ..)); exact rfl)

theorem State.judgePartner_effect (s : State) :
    Effect 0x47A00002012 s (State.judgePartner s) := by
  unfold State.judgePartner
  try dsimp only
  repeat' first
    | with_reducible apply Effect.refl
    | with_reducible assumption
    | ((with_reducible apply Effect.ite) <;> intro _)
    | ((with_reducible apply Effect.after (State.partnerOut_effect ..)); exact rfl)
    | ((with_reducible apply Effect.after (State.updMlk_effect ..)); exact rfl)
    | split

theorem State.updLink_effect (s : State) (k : ℕ) (f : LinkSt → LinkSt) :
    Effect 0x2000000000 s (State.updLink s k f) := by
  unfold State.updLink
  try dsimp only
  repeat' first
    | with_reducible apply Effect.refl
    | with_reducible assumption
    | ((with_reducible apply Effect.after (State.updMlk_effect ..)); exact rfl)

theorem State.badCopy_effect (s : State) (k : ℕ) :
    Effect 0x2000000000 s (State.badCopy s k) := by
  unfold State.badCopy
  try dsimp only
  repeat' first
    | with_reducible apply Effect.refl
    | with_reducible assumption
    | ((with_reducible apply Effect.after (State.updLink_effect ..)); exact rfl)

theorem State.mirrorLost_effect (s : State) (k : ℕ) :
    Effect 0x47AC80028D2 s (State.mirrorLost s k) := by
  unfold State.mirrorLost
  try dsimp only
  repeat' first
    | with_reducible apply Effect.refl
    | with_reducible assumption
    | ((with_reducible apply Effect.ite) <;> intro _)
    | ((with_reducible apply Effect.after (State.alarm_effect ..)); exact rfl)
    | ((with_reducible apply Effect.after (State.updLink_effect ..)); exact rfl)
    | ((with_reducible apply Effect.after (State.partnerOut_effect ..)); exact rfl)
    | ((with_reducible apply Effect.after (State.claimLapse_effect ..)); exact rfl)
    | ((with_reducible apply Effect.after (State.updMlk_effect ..)); exact rfl)

theorem execMirrorLinkDown_effect (x : MirrorLink) (s : State) :
    Effect.ok 0x47AC80028D2 s (execMirrorLinkDown x s) := by
  unfold execMirrorLinkDown
  try dsimp only
  repeat' first
    | with_reducible apply Effect.refl
    | with_reducible assumption
    | apply Effect.ok_next
    | ((with_reducible apply Effect.after (State.updLink_effect ..)); exact rfl)
    | ((with_reducible apply Effect.after (State.mirrorLost_effect ..)); exact rfl)

theorem execMirrorLinkUp_effect (x : MirrorLink) (s : State) :
    Effect.ok 0x46000000000 s (execMirrorLinkUp x s) := by
  unfold execMirrorLinkUp
  try dsimp only
  repeat' first
    | with_reducible apply Effect.refl
    | with_reducible assumption
    | ((with_reducible apply Effect.ite) <;> intro _)
    | apply Effect.ok_next
    | ((with_reducible apply Effect.after (State.clearAlarm_effect ..)); exact rfl)
    | ((with_reducible apply Effect.after (State.updLink_effect ..)); exact rfl)
    | ((with_reducible apply Effect.after (State.startResync_effect ..)); exact rfl)

theorem execHealthReportSend_effect (s : State) :
    Effect.ok 0x47600000003 s (execHealthReportSend s) := by
  unfold execHealthReportSend
  try dsimp only
  repeat' first
    | with_reducible apply Effect.refl
    | with_reducible assumption
    | ((with_reducible apply Effect.ite) <;> intro _)
    | apply Effect.ok_next
    | ((with_reducible apply Effect.after (State.sendHealth_effect ..)); exact rfl)
    | ((with_reducible apply Effect.after (State.upTo_effect ..)); exact rfl)
    | ((with_reducible apply Effect.after (State.emit_effect ..)); exact rfl)
    | ((with_reducible apply Effect.after (State.startResync_effect ..)); exact rfl)

theorem execHealthReportRx_effect (k : Fin 2) (h : Health) (s : State) :
    Effect.ok 0x47AC80028D2 s (execHealthReportRx k h s) := by
  unfold execHealthReportRx
  try dsimp only
  repeat' first
    | with_reducible apply Effect.refl
    | with_reducible assumption
    | ((with_reducible apply Effect.ite) <;> intro _)
    | apply Effect.ok_next
    | ((with_reducible apply Effect.after (State.badCopy_effect ..)); exact rfl)
    | ((with_reducible apply Effect.after (State.alarm_effect ..)); exact rfl)
    | ((with_reducible apply Effect.after (State.updMlk_effect ..)); exact rfl)
    | ((with_reducible apply Effect.after (State.clearAlarm_effect ..)); exact rfl)
    | ((with_reducible apply Effect.after (State.claimLapse_effect ..)); exact rfl)
    | ((with_reducible apply Effect.after (State.judgePartner_effect ..)); exact rfl)

theorem execPartnerServiceTimeout_effect (s : State) :
    Effect.ok 0x47E00002013 s (execPartnerServiceTimeout s) := by
  unfold execPartnerServiceTimeout
  try dsimp only
  repeat' first
    | with_reducible apply Effect.refl
    | with_reducible assumption
    | ((with_reducible apply Effect.ite) <;> intro _)
    | apply Effect.ok_next
    | ((with_reducible apply Effect.after (State.judgePartner_effect ..)); exact rfl)
    | ((with_reducible apply Effect.after (State.upTo_effect ..)); exact rfl)

theorem execRecordEpochClose_effect (s : State) :
    Effect.ok 0x43400000001 s (execRecordEpochClose s) := by
  unfold execRecordEpochClose
  try dsimp only
  repeat' first
    | with_reducible apply Effect.refl
    | with_reducible assumption
    | apply Effect.ok_next
    | ((with_reducible apply Effect.after (State.upTo_effect ..)); exact rfl)
    | ((with_reducible apply Effect.after (State.closeEpoch_effect ..)); exact rfl)
    | split

theorem execEpochAckRx_effect (k : Fin 2) (epoch : ℕ) (crcOk : Bool) (s : State) :
    Effect.ok 0x47A00002012 s (execEpochAckRx k epoch crcOk s) := by
  unfold execEpochAckRx
  try dsimp only
  repeat' first
    | with_reducible apply Effect.refl
    | with_reducible assumption
    | ((with_reducible apply Effect.ite) <;> intro _)
    | apply Effect.ok_next
    | ((with_reducible apply Effect.after (State.badCopy_effect ..)); exact rfl)
    | ((with_reducible apply Effect.after (State.updMlk_effect ..)); exact rfl)
    | ((with_reducible apply Effect.after (State.judgePartner_effect ..)); exact rfl)
    | ((with_reducible apply Effect.after (State.sealEntries_effect ..)); exact rfl)

theorem State.resend_effect (s : State) (e : Epoch) :
    Effect 0x42000000000 s (State.resend s e) := by
  unfold State.resend
  try dsimp only
  repeat' first
    | with_reducible apply Effect.refl
    | with_reducible assumption
    | ((with_reducible apply Effect.after (State.updMlk_effect ..)); exact rfl)
    | ((with_reducible apply Effect.after (State.emit_effect ..)); exact rfl)

theorem execEpochNackRx_effect (k : Fin 2) (epoch : ℕ) (crcOk : Bool) (s : State) :
    Effect.ok 0x42000000000 s (execEpochNackRx k epoch crcOk s) := by
  unfold execEpochNackRx
  try dsimp only
  repeat' first
    | with_reducible apply Effect.refl
    | with_reducible assumption
    | ((with_reducible apply Effect.ite) <;> intro _)
    | apply Effect.ok_next
    | ((with_reducible apply Effect.after (State.badCopy_effect ..)); exact rfl)
    | ((with_reducible apply Effect.after (State.resend_effect ..)); exact rfl)
    | split

theorem execEpochAckTimeout_effect (epoch : ℕ) (s : State) :
    Effect.ok 0x42400000001 s (execEpochAckTimeout epoch s) := by
  unfold execEpochAckTimeout
  try dsimp only
  repeat' first
    | with_reducible apply Effect.refl
    | with_reducible assumption
    | ((with_reducible apply Effect.ite) <;> intro _)
    | apply Effect.ok_next
    | ((with_reducible apply Effect.after (State.resend_effect ..)); exact rfl)
    | ((with_reducible apply Effect.after (State.upTo_effect ..)); exact rfl)
    | split

theorem execResyncReqRx_effect (k : Fin 2) (epoch : ℕ) (crcOk : Bool) (s : State) :
    Effect.ok 0x47A00002012 s (execResyncReqRx k epoch crcOk s) := by
  unfold execResyncReqRx
  try dsimp only
  repeat' first
    | with_reducible apply Effect.refl
    | with_reducible assumption
    | ((with_reducible apply Effect.ite) <;> intro _)
    | apply Effect.ok_next
    | ((with_reducible apply Effect.after (State.badCopy_effect ..)); exact rfl)
    | ((with_reducible apply Effect.after (State.updMlk_effect ..)); exact rfl)
    | ((with_reducible apply Effect.after (State.updHif_effect ..)); exact rfl)
    | ((with_reducible apply Effect.after (State.partnerOut_effect ..)); exact rfl)
    | ((with_reducible apply Effect.after (State.sendEpoch_effect ..)); exact rfl)

theorem State.adoptArm_effect (s : State) (a : ℕ) (r : ArmRec) :
    Effect 0x18000000 s (State.adoptArm s a r) := by
  unfold State.adoptArm
  try dsimp only
  repeat' first
    | with_reducible apply Effect.refl
    | with_reducible assumption
    | ((with_reducible apply Effect.after (State.eachSm_effect ..)); exact rfl)
    | ((with_reducible apply Effect.after (State.updArm_effect ..)); exact rfl)

theorem State.takeConsumers_effect (s : State) (l : ℕ) (c : ℕ) (k : ℕ) :
    Effect 0x210000 s (State.takeConsumers s l c k) := by
  unfold State.takeConsumers
  try dsimp only
  repeat' first
    | with_reducible apply Effect.refl
    | with_reducible assumption
    | ((with_reducible apply Effect.after (State.updChain_effect ..)); exact rfl)
    | split
    | ((with_reducible apply Effect.upd) <;> [skip; exact rfl; (intro p hp; cases p <;> first | exact rfl | exact absurd hp (by decide))])

theorem State.forgetCompleted_effect (s : State) (i : ℕ) (r : ℕ) :
    Effect 0x1000000000 s (State.forgetCompleted s i r) := by
  unfold State.forgetCompleted
  try dsimp only
  repeat' first
    | with_reducible apply Effect.refl
    | with_reducible assumption
    | ((with_reducible apply Effect.after (State.updHif_effect ..)); exact rfl)

theorem State.applyEffect_effect (s : State) (code : ℕ) (unit : ℕ) (value : ℕ) :
    Effect 0x4FED9E7BFF2 s (State.applyEffect s code unit value) := by
  unfold State.applyEffect
  try dsimp only
  repeat' first
    | with_reducible apply Effect.refl
    | with_reducible assumption
    | ((with_reducible apply Effect.ite) <;> intro _)
    | ((with_reducible apply Effect.after (State.updSq_effect ..)); exact rfl)
    | ((with_reducible apply Effect.after (State.updCq_effect ..)); exact rfl)
    | ((with_reducible apply Effect.after (State.forgetCompleted_effect ..)); exact rfl)
    | ((with_reducible apply Effect.after (State.setEn_effect ..)); exact rfl)
    | ((with_reducible apply Effect.after (State.updSwc_effect ..)); exact rfl)
    | ((with_reducible apply Effect.after (State.updFn_effect ..)); exact rfl)
    | ((with_reducible apply Effect.after (State.takeConsumers_effect ..)); exact rfl)
    | ((with_reducible apply Effect.each) <;> [skip; (intro t x ht)])
    | ((with_reducible apply Effect.after (State.toOpen_effect ..)); exact rfl)
    | ((with_reducible apply Effect.after (State.updTo_effect ..)); exact rfl)
    | ((with_reducible apply Effect.after (State.updSv_effect ..)); exact rfl)
    | ((with_reducible apply Effect.after (State.updGs_effect ..)); exact rfl)
    | ((with_reducible apply Effect.after (State.updGp_effect ..)); exact rfl)
    | ((with_reducible apply Effect.after (State.updMlk_effect ..)); exact rfl)
    | ((with_reducible apply Effect.after (State.logicColdStart_effect ..)); exact rfl)
    | ((with_reducible apply Effect.after (State.updLogic_effect ..)); exact rfl)
    | ((with_reducible apply Effect.after (State.updTp_effect ..)); exact rfl)
    | ((with_reducible apply Effect.after (State.updSlice_effect ..)); exact rfl)
    | split
    | ((with_reducible apply Effect.upd) <;> [skip; exact rfl; (intro p hp; cases p <;> first | exact rfl | exact absurd hp (by decide))])

theorem State.applySlice_effect (s : State) (i : ℕ) (step : ℕ) :
    Effect 0x1000000020 s (State.applySlice s i step) := by
  unfold State.applySlice
  try dsimp only
  repeat' first
    | with_reducible apply Effect.refl
    | with_reducible assumption
    | ((with_reducible apply Effect.ite) <;> intro _)
    | ((with_reducible apply Effect.after (State.updSlice_effect ..)); exact rfl)
    | ((with_reducible apply Effect.after (State.updCq_effect ..)); exact rfl)
    | ((with_reducible apply Effect.each) <;> [skip; (intro t x ht)])
    | ((with_reducible apply Effect.after (State.updSq_effect ..)); exact rfl)
    | ((with_reducible apply Effect.after (State.forgetCompleted_effect ..)); exact rfl)
    | ((with_reducible apply Effect.after (State.updUnit_effect ..)); exact rfl)

theorem State.applyRing_effect (s : State) (i : ℕ) (nx : List ℕ) (ac : List ℕ) (hd : List ℕ) (wr : List (ℕ × Bool)) :
    Effect 0x1000000000 s (State.applyRing s i nx ac hd wr) := by
  unfold State.applyRing
  try dsimp only
  repeat' first
    | with_reducible apply Effect.refl
    | with_reducible assumption
    | ((with_reducible apply Effect.after (State.updSlice_effect ..)); exact rfl)

theorem State.applyEntry_effect (s : State) (e : JEntry) :
    Effect 0x1000000000 s (State.applyEntry s e) := by
  unfold State.applyEntry
  try dsimp only
  repeat' first
    | with_reducible apply Effect.refl
    | with_reducible assumption
    | ((with_reducible apply Effect.after (State.updHif_effect ..)); exact rfl)
    | ((with_reducible apply Effect.after (State.updCq_effect ..)); exact rfl)
    | ((with_reducible apply Effect.after (State.placeRing_effect ..)); exact rfl)
    | split

theorem State.stagePartner_effect (s : State) (d : BitVec 512) (n : ℕ) :
    Effect 0x2000000010 s (State.stagePartner s d n) := by
  unfold State.stagePartner
  try dsimp only
  repeat' first
    | with_reducible apply Effect.refl
    | with_reducible assumption
    | ((with_reducible apply Effect.ite) <;> intro _)
    | ((with_reducible apply Effect.after (State.updMlk_effect ..)); exact rfl)
    | ((with_reducible apply Effect.after (State.updSvc_effect ..)); exact rfl)
    | split

theorem State.mapSeal_effect (s : State) (i : Image) (p : ℕ) :
    Effect 0x2000000000 s (State.mapSeal s i p) := by
  unfold State.mapSeal
  try dsimp only
  repeat' first
    | with_reducible apply Effect.refl
    | with_reducible assumption
    | ((with_reducible apply Effect.after (State.updMlk_effect ..)); exact rfl)
    | split

theorem State.standbyProgram_effect (s : State) (i : Image) (p : ℕ) :
    Effect 0x4F2D8C01FD2 s (State.standbyProgram s i p) := by
  unfold State.standbyProgram
  try dsimp only
  repeat' first
    | with_reducible apply Effect.refl
    | with_reducible assumption
    | ((with_reducible apply Effect.ite) <;> intro _)
    | ((with_reducible apply Effect.after (State.updLogic_effect ..)); exact rfl)
    | ((with_reducible apply Effect.after (State.dropLogic_effect ..)); exact rfl)
    | ((with_reducible apply Effect.after (State.startAdded_effect ..)); exact rfl)
    | ((with_reducible apply Effect.after (State.mapSeal_effect ..)); exact rfl)
    | ((with_reducible apply Effect.after (State.replaceStopped_effect ..)); exact rfl)
    | ((with_reducible apply Effect.after (State.loadAt_effect ..)); exact rfl)

theorem State.exchangeStandby_effect (s : State) :
    Effect 0x4F2D8C01FD2 s (State.exchangeStandby s) := by
  unfold State.exchangeStandby
  try dsimp only
  repeat' first
    | with_reducible apply Effect.refl
    | with_reducible assumption
    | ((with_reducible apply Effect.after (State.markChanged_effect ..)); exact rfl)
    | ((with_reducible apply Effect.after (State.updMlk_effect ..)); exact rfl)
    | ((with_reducible apply Effect.each) <;> [skip; (intro t x ht)])
    | ((with_reducible apply Effect.after (State.standbyProgram_effect ..)); exact rfl)
    | ((with_reducible apply Effect.after (State.exchFinish_effect ..)); exact rfl)
    | ((with_reducible apply Effect.after (State.stageLoop_effect ..)); exact rfl)
    | split

theorem State.applyItem_effect (s : State) (a : Item) :
    Effect 0x4FED9E7BFF2 s (State.applyItem s a) := by
  unfold State.applyItem
  try dsimp only
  repeat' first
    | with_reducible apply Effect.refl
    | with_reducible assumption
    | ((with_reducible apply Effect.after (State.updMlk_effect ..)); exact rfl)
    | ((with_reducible apply Effect.after (State.adoptArm_effect ..)); exact rfl)
    | ((with_reducible apply Effect.after (State.applyEntry_effect ..)); exact rfl)
    | ((with_reducible apply Effect.after (State.updHif_effect ..)); exact rfl)
    | ((with_reducible apply Effect.after (State.applyRing_effect ..)); exact rfl)
    | ((with_reducible apply Effect.after (State.applySlice_effect ..)); exact rfl)
    | ((with_reducible apply Effect.after (State.setShare_effect ..)); exact rfl)
    | ((with_reducible apply Effect.after (State.updSlice_effect ..)); exact rfl)
    | ((with_reducible apply Effect.after (State.updCq_effect ..)); exact rfl)
    | ((with_reducible apply Effect.after (State.updSq_effect ..)); exact rfl)
    | ((with_reducible apply Effect.after (State.updUnit_effect ..)); exact rfl)
    | ((with_reducible apply Effect.each) <;> [skip; (intro t x ht)])
    | ((with_reducible apply Effect.after (State.updFn_effect ..)); exact rfl)
    | ((with_reducible apply Effect.after (State.updChain_effect ..)); exact rfl)
    | ((with_reducible apply Effect.after (State.stagePartner_effect ..)); exact rfl)
    | ((with_reducible apply Effect.after (State.applyEffect_effect ..)); exact rfl)
    | split

theorem State.alignProt_effect (s : State) (e : Epoch) :
    Effect 0x200000 s (State.alignProt s e) := by
  unfold State.alignProt
  try dsimp only
  repeat' first
    | with_reducible apply Effect.refl
    | with_reducible assumption
    | ((with_reducible apply Effect.ite) <;> intro _)
    | ((with_reducible apply Effect.after (State.updProt_effect ..)); exact rfl)

theorem State.commitEpoch_effect (s : State) (e : Epoch) :
    Effect 0x4FED9E7BFF2 s (State.commitEpoch s e) := by
  unfold State.commitEpoch
  try dsimp only
  repeat' first
    | with_reducible apply Effect.refl
    | with_reducible assumption
    | ((with_reducible apply Effect.ite) <;> intro _)
    | ((with_reducible apply Effect.each) <;> [skip; (intro t x ht)])
    | ((with_reducible apply Effect.after (State.updHif_effect ..)); exact rfl)
    | ((with_reducible apply Effect.after (State.updUnit_effect ..)); exact rfl)
    | ((with_reducible apply Effect.after (State.updSlice_effect ..)); exact rfl)
    | ((with_reducible apply Effect.after (State.exchangeStandby_effect ..)); exact rfl)
    | ((with_reducible apply Effect.after (State.alignProt_effect ..)); exact rfl)
    | ((with_reducible apply Effect.after (State.applyItem_effect ..)); exact rfl)
    | ((with_reducible apply Effect.after (State.updMlk_effect ..)); exact rfl)
    | ((with_reducible apply Effect.after (State.emit_effect ..)); exact rfl)
    | ((with_reducible apply Effect.after (State.eachSm_effect ..)); exact rfl)
    | split

theorem State.commitStaged_effect (s : State) (n : ℕ) : Effect 0x4fed9e7bff2 s (State.commitStaged s n) := by
  induction n generalizing s with
  | zero => exact Effect.refl _ _
  | succ n ih =>
    unfold State.commitStaged
    split
    · rename_i e _
      exact Effect.trans (((State.updMlk_effect ..).mono rfl).go (State.commitEpoch_effect ..) rfl) (ih _)
    · exact Effect.refl _ _

theorem State.staleEpoch_effect (s : State) (n : ℕ) :
    Effect 0x42000000000 s (State.staleEpoch s n) := by
  unfold State.staleEpoch
  try dsimp only
  repeat' first
    | with_reducible apply Effect.refl
    | with_reducible assumption
    | ((with_reducible apply Effect.ite) <;> intro _)
    | ((with_reducible apply Effect.after (State.updMlk_effect ..)); exact rfl)
    | ((with_reducible apply Effect.after (State.startResync_effect ..)); exact rfl)
    | ((with_reducible apply Effect.after (State.emit_effect ..)); exact rfl)

theorem State.copyFailed_effect (s : State) (k : ℕ) (n : ℕ) :
    Effect 0x42000000000 s (State.copyFailed s k n) := by
  unfold State.copyFailed
  try dsimp only
  repeat' first
    | with_reducible apply Effect.refl
    | with_reducible assumption
    | ((with_reducible apply Effect.ite) <;> intro _)
    | ((with_reducible apply Effect.after (State.badCopy_effect ..)); exact rfl)
    | ((with_reducible apply Effect.after (State.updMlk_effect ..)); exact rfl)
    | ((with_reducible apply Effect.after (State.staleEpoch_effect ..)); exact rfl)

theorem State.stageEpoch_effect (s : State) (e : Epoch) :
    Effect 0x42000000000 s (State.stageEpoch s e) := by
  unfold State.stageEpoch
  try dsimp only
  repeat' first
    | with_reducible apply Effect.refl
    | with_reducible assumption
    | ((with_reducible apply Effect.after (State.updMlk_effect ..)); exact rfl)
    | ((with_reducible apply Effect.each) <;> [skip; (intro t x ht)])
    | ((with_reducible apply Effect.after (State.staleEpoch_effect ..)); exact rfl)

theorem execEpochRx_effect (k : Fin 2) (e : Epoch) (s : State) :
    Effect.ok 0x4FED9E7BFF2 s (execEpochRx k e s) := by
  unfold execEpochRx
  try dsimp only
  repeat' first
    | with_reducible apply Effect.refl
    | with_reducible assumption
    | ((with_reducible apply Effect.ite) <;> intro _)
    | apply Effect.ok_next
    | ((with_reducible apply Effect.after (State.copyFailed_effect ..)); exact rfl)
    | ((with_reducible apply Effect.after (State.alarm_effect ..)); exact rfl)
    | ((with_reducible apply Effect.after (State.updMlk_effect ..)); exact rfl)
    | ((with_reducible apply Effect.after (State.commitEpoch_effect ..)); exact rfl)
    | ((with_reducible apply Effect.after (State.commitStaged_effect ..)); exact rfl)
    | ((with_reducible apply Effect.after (State.startResync_effect ..)); exact rfl)
    | ((with_reducible apply Effect.after (State.stageEpoch_effect ..)); exact rfl)

theorem State.rotated_effect (s : State) (l : ℕ) (f : ℕ) :
    Effect 0x2000000000 s (State.rotated s l f) := by
  unfold State.rotated
  try dsimp only
  repeat' first
    | with_reducible apply Effect.refl
    | with_reducible assumption
    | ((with_reducible apply Effect.ite) <;> intro _)
    | ((with_reducible apply Effect.after (State.updMlk_effect ..)); exact rfl)

end Sys2Proof.Machine
end

