-- ==== Sys2Proof/Laws/EffRestartOps.lean ====
section
/-! SUPPORT. What each operation of Machine/RestartOps.lean may do: the parts it may write, and that its result follows
what it was given (Laws/Effect.lean). -/

namespace Sys2Proof.Machine

theorem State.fillSlots_effect (s : State) :
    Effect 0x1000 s (State.fillSlots s) := by
  unfold State.fillSlots
  try dsimp only
  repeat' first
    | with_reducible apply Effect.refl
    | with_reducible assumption
    | ((with_reducible apply Effect.each) <;> [skip; (intro t x ht)])
    | split
    | ((with_reducible apply Effect.upd) <;> [skip; exact rfl; (intro p hp; cases p <;> first | exact rfl | exact absurd hp (by decide))])

theorem reset_memOk : State.reset.MemOk := ⟨rfl, fun _ h => nomatch h⟩

theorem State.survive_effect (s : State) : Effect 0x1fffffffffff s (State.survive s) :=
  ⟨fun p hp => by cases p <;> first | exact rfl | exact absurd hp (by decide),
   ⟨rfl, Nat.le_refl _, List.prefix_refl _, fun _ => reset_memOk⟩, rfl⟩

theorem State.keepWarm_effect (s : State) (o : State) :
    Effect 0x1FFEDD9F934 s (State.keepWarm s o) := by
  unfold State.keepWarm
  try dsimp only
  repeat' first
    | with_reducible apply Effect.refl
    | with_reducible assumption
    | split
    | ((with_reducible apply Effect.upd) <;> [skip; exact rfl; (intro p hp; cases p <;> first | exact rfl | exact absurd hp (by decide))])

theorem State.setResult_effect (s : State) (b : Bool) (r : BankResult) :
    Effect 0x8 s (State.setResult s b r) := by
  unfold State.setResult
  try dsimp only
  repeat' first
    | with_reducible apply Effect.refl
    | with_reducible assumption
    | ((with_reducible apply Effect.after (State.updKa_effect ..)); exact rfl)

theorem State.beginBoot_effect (s : State) (first : Bool) :
    Effect 0xC s (State.beginBoot s first) := by
  unfold State.beginBoot
  try dsimp only
  repeat' first
    | with_reducible apply Effect.refl
    | with_reducible assumption
    | ((with_reducible apply Effect.updGlb) <;> [skip; (intro x; first | rfl | (dsimp only; split <;> rfl)); exact rfl])
    | ((with_reducible apply Effect.after (State.updKa_effect ..)); exact rfl)

theorem State.raiseFloors_effect (s : State) :
    Effect 0x8000000000 s (State.raiseFloors s) := by
  unfold State.raiseFloors
  try dsimp only
  repeat' first
    | with_reducible apply Effect.refl
    | with_reducible assumption
    | ((with_reducible apply Effect.ite) <;> intro _)
    | ((with_reducible apply Effect.after (State.updObs_effect ..)); exact rfl)
    | ((with_reducible apply Effect.after (State.raisePkgFloor_effect ..)); exact rfl)
    | split

theorem State.resumeOwn_effect (s : State) :
    Effect 0x45000000002 s (State.resumeOwn s) := by
  unfold State.resumeOwn
  try dsimp only
  repeat' first
    | with_reducible apply Effect.refl
    | with_reducible assumption
    | ((with_reducible apply Effect.ite) <;> intro _)
    | ((with_reducible apply Effect.each) <;> [skip; (intro t x ht)])
    | ((with_reducible apply Effect.after (State.takeReset_effect ..)); exact rfl)
    | ((with_reducible apply Effect.after (State.updHif_effect ..)); exact rfl)
    | ((with_reducible apply Effect.after (State.acceptSealed_effect ..)); exact rfl)

theorem State.resumeKept_effect (s : State) :
    Effect 0x45000000002 s (State.resumeKept s) := by
  unfold State.resumeKept
  try dsimp only
  repeat' first
    | with_reducible apply Effect.refl
    | with_reducible assumption
    | ((with_reducible apply Effect.after (State.updHif_effect ..)); exact rfl)
    | ((with_reducible apply Effect.after (State.resumeSlices_effect ..)); exact rfl)
    | ((with_reducible apply Effect.after (State.acceptSealed_effect ..)); exact rfl)

theorem State.stopGroups_effect (s : State) :
    Effect 0x4000000002 s (State.stopGroups s) := by
  unfold State.stopGroups
  try dsimp only
  repeat' first
    | with_reducible apply Effect.refl
    | with_reducible assumption
    | ((with_reducible apply Effect.each) <;> [skip; (intro t x ht)])
    | ((with_reducible apply Effect.after (State.perHalt_effect ..)); exact rfl)

theorem State.idleLoupes_effect (s : State) :
    Effect 0x4000000000 s (State.idleLoupes s) := by
  unfold State.idleLoupes
  try dsimp only
  repeat' first
    | with_reducible apply Effect.refl
    | with_reducible assumption
    | split
    | ((with_reducible apply Effect.upd) <;> [skip; exact rfl; (intro p hp; cases p <;> first | exact rfl | exact absurd hp (by decide))])

theorem State.runGroups_effect (s : State) :
    Effect 0x4000000000 s (State.runGroups s) := by
  unfold State.runGroups
  try dsimp only
  repeat' first
    | with_reducible apply Effect.refl
    | with_reducible assumption
    | ((with_reducible apply Effect.each) <;> [skip; (intro t x ht)])
    | ((with_reducible apply Effect.after (State.perStart_effect ..)); exact rfl)

end Sys2Proof.Machine
end

