-- ==== Sys2Proof/Laws/EffRestart.lean ====
section
/-! SUPPORT. What each operation of Machine/Restart.lean may do: the parts it may write, and that its result follows
what it was given (Laws/Effect.lean). -/

namespace Sys2Proof.Machine

theorem State.retain_effect (s : State) (cause : RstCause) :
    Effect 0x1018 s (State.retain s cause) := by
  unfold State.retain
  try dsimp only
  repeat' first
    | with_reducible apply Effect.refl
    | with_reducible assumption
    | ((with_reducible apply Effect.ite) <;> intro _)
    | ((with_reducible apply Effect.after (State.updKa_effect ..)); exact rfl)
    | ((with_reducible apply Effect.after (State.updSvc_effect ..)); exact rfl)
    | ((with_reducible apply Effect.after (State.fillSlots_effect ..)); exact rfl)

theorem State.flushFor_effect (s : State) (cause : RstCause) :
    Effect 0x7000000000 s (State.flushFor s cause) := by
  unfold State.flushFor
  try dsimp only
  repeat' first
    | with_reducible apply Effect.refl
    | with_reducible assumption
    | ((with_reducible apply Effect.after (State.evrFlushEnd_effect ..)); exact rfl)
    | split

theorem State.newHashKey_effect (s : State) :
    Effect 0x200000002 s (State.newHashKey s) := by
  unfold State.newHashKey
  try dsimp only
  repeat' first
    | with_reducible apply Effect.refl
    | with_reducible assumption
    | ((with_reducible apply Effect.after (State.free_effect ..)); exact rfl)
    | ((with_reducible apply Effect.after (State.free_effect_eq ‹_›)); exact rfl)
    | ((with_reducible apply Effect.after (State.updSwc_effect ..)); exact rfl)

theorem State.cutSvc_effect (s : State) :
    Effect 0x5F2D8C01FFA s (State.cutSvc s) := by
  unfold State.cutSvc
  try dsimp only
  repeat' first
    | with_reducible apply Effect.refl
    | with_reducible assumption
    | ((with_reducible apply Effect.ite) <;> intro _)
    | ((with_reducible apply Effect.after (State.updUnit_effect ..)); exact rfl)
    | ((with_reducible apply Effect.after (State.updSlice_effect ..)); exact rfl)
    | ((with_reducible apply Effect.after (State.exchUndo_effect ..)); exact rfl)
    | ((with_reducible apply Effect.after (State.updSwc_effect ..)); exact rfl)
    | ((with_reducible apply Effect.after (State.updSvc_effect ..)); exact rfl)
    | ((with_reducible apply Effect.after (State.updBst_effect ..)); exact rfl)
    | ((with_reducible apply Effect.after (State.updKa_effect ..)); exact rfl)
    | split

theorem State.restart_effect (s : State) (cause : RstCause) (sealOk : Bool) :
    Effect 0x1FFFFFFFFFFF s (State.restart s cause sealOk) := by
  unfold State.restart
  try dsimp only
  repeat' first
    | with_reducible apply Effect.refl
    | with_reducible assumption
    | ((with_reducible apply Effect.ite) <;> intro _)
    | ((with_reducible apply Effect.after (State.flushBeams_effect ..)); exact rfl)
    | ((with_reducible apply Effect.after (State.retain_effect ..)); exact rfl)
    | ((with_reducible apply Effect.after (State.toOffline_effect ..)); exact rfl)
    | ((with_reducible apply Effect.after (State.flushFor_effect ..)); exact rfl)
    | ((with_reducible apply Effect.after (State.cutSvc_effect ..)); exact rfl)
    | ((with_reducible apply Effect.after (State.survive_effect ..)); exact rfl)
    | ((with_reducible apply Effect.after (State.keepWarm_effect ..)); exact rfl)
    | ((with_reducible apply Effect.after (State.newHashKey_effect ..)); exact rfl)
    | ((with_reducible apply Effect.after (State.freshTime_effect ..)); exact rfl)
    | ((with_reducible apply Effect.after (State.updKa_effect ..)); exact rfl)
    | ((with_reducible apply Effect.updGlb) <;> [skip; (intro x; first | rfl | (dsimp only; split <;> rfl)); exact rfl])

theorem execRestartWarm_effect (sealOk : Bool) (s : State) :
    Effect.ok 0x1FFFFFFFFFFF s (execRestartWarm sealOk s) := by
  unfold execRestartWarm
  try dsimp only
  repeat' first
    | with_reducible apply Effect.refl
    | with_reducible assumption
    | ((with_reducible apply Effect.ite) <;> intro _)
    | apply Effect.ok_next
    | ((with_reducible apply Effect.after (State.restart_effect ..)); exact rfl)

theorem execRestartCold_effect (s : State) :
    Effect.ok 0x1FFFFFFFFFFF s (execRestartCold s) := by
  unfold execRestartCold
  try dsimp only
  repeat' first
    | with_reducible apply Effect.refl
    | with_reducible assumption
    | ((with_reducible apply Effect.ite) <;> intro _)
    | apply Effect.ok_next
    | ((with_reducible apply Effect.after (State.restart_effect ..)); exact rfl)

theorem State.powerOn_effect (s : State) (st : Straps) :
    Effect 0x1FFFFFFFFFFF s (State.powerOn s st) := by
  unfold State.powerOn
  try dsimp only
  repeat' first
    | with_reducible apply Effect.refl
    | with_reducible assumption
    | ((with_reducible apply Effect.ite) <;> intro _)
    | ((with_reducible apply Effect.after (State.freshTime_effect ..)); exact rfl)
    | ((with_reducible apply Effect.after (State.survive_effect ..)); exact rfl)
    | ((with_reducible apply Effect.after (State.newHashKey_effect ..)); exact rfl)
    | ((with_reducible apply Effect.after (State.updSwc_effect ..)); exact rfl)
    | ((with_reducible apply Effect.after (State.alarm_effect ..)); exact rfl)
    | split
    | ((with_reducible apply Effect.upd) <;> [skip; exact rfl; (intro p hp; cases p <;> first | exact rfl | exact absurd hp (by decide))])

theorem execPowerGood_effect (st : Straps) (s : State) :
    Effect.ok 0x1FFFFFFFFFFF s (execPowerGood st s) := by
  unfold execPowerGood
  try dsimp only
  repeat' first
    | with_reducible apply Effect.refl
    | with_reducible assumption
    | ((with_reducible apply Effect.ite) <;> intro _)
    | apply Effect.ok_next
    | ((with_reducible apply Effect.after (State.powerOn_effect ..)); exact rfl)

theorem execKaStartDone_effect (s : State) :
    Effect.ok 0x40000000C s (execKaStartDone s) := by
  unfold execKaStartDone
  try dsimp only
  repeat' first
    | with_reducible apply Effect.refl
    | with_reducible assumption
    | ((with_reducible apply Effect.ite) <;> intro _)
    | apply Effect.ok_next
    | ((with_reducible apply Effect.after (State.beginBoot_effect ..)); exact rfl)
    | ((with_reducible apply Effect.after (State.updCol_effect ..)); exact rfl)

theorem execBootVerifyDone_effect (readOk : Bool) (s : State) :
    Effect.ok 0x400000000C s (execBootVerifyDone readOk s) := by
  unfold execBootVerifyDone
  try dsimp only
  repeat' first
    | with_reducible apply Effect.refl
    | with_reducible assumption
    | ((with_reducible apply Effect.ite) <;> intro _)
    | apply Effect.ok_next
    | ((with_reducible apply Effect.after (State.setResult_effect ..)); exact rfl)
    | ((with_reducible apply Effect.updGlb) <;> [skip; (intro x; first | rfl | (dsimp only; split <;> rfl)); exact rfl])
    | ((with_reducible apply Effect.after (State.updKa_effect ..)); exact rfl)
    | ((with_reducible apply Effect.after (State.alarm_effect ..)); exact rfl)

theorem execMmStartDone_effect (s : State) :
    Effect.ok 0x8000000004 s (execMmStartDone s) := by
  unfold execMmStartDone
  try dsimp only
  repeat' first
    | with_reducible apply Effect.refl
    | with_reducible assumption
    | ((with_reducible apply Effect.ite) <;> intro _)
    | apply Effect.ok_next
    | ((with_reducible apply Effect.after (State.updObs_effect ..)); exact rfl)
    | ((with_reducible apply Effect.updGlb) <;> [skip; (intro x; first | rfl | (dsimp only; split <;> rfl)); exact rfl])

theorem State.loadPackage_effect (s : State) :
    Effect 0x4FEDDE3FFF2 s (State.loadPackage s) := by
  unfold State.loadPackage
  try dsimp only
  repeat' first
    | with_reducible apply Effect.refl
    | with_reducible assumption
    | ((with_reducible apply Effect.after (State.unitsFromPackage_effect ..)); exact rfl)
    | ((with_reducible apply Effect.after (State.configure_effect ..)); exact rfl)
    | split

theorem State.failedRegion_effect (s : State) (r : StartupResult) :
    Effect 0x2 s ((State.failedRegion s r).2) := by
  unfold State.failedRegion
  try dsimp only
  repeat' first
    | with_reducible apply Effect.refl
    | with_reducible assumption
    | ((with_reducible apply Effect.after (State.free_effect ..)); exact rfl)
    | ((with_reducible apply Effect.after (State.free_effect_eq ‹_›)); exact rfl)
    | split

theorem State.failedRegion_effect_eq {s : State} {r : StartupResult} {v_ : ℕ} {t_ : State}
    (he : State.failedRegion s r = (v_, t_)) : Effect 0x2 s t_ := by
  have h := State.failedRegion_effect s r
  rw [he] at h
  exact h

theorem State.bistFailed_effect (s : State) (region : ℕ) :
    Effect 0x10000000002 s (State.bistFailed s region) := by
  unfold State.bistFailed
  try dsimp only
  repeat' first
    | with_reducible apply Effect.refl
    | with_reducible assumption
    | ((with_reducible apply Effect.after (State.free_effect ..)); exact rfl)
    | ((with_reducible apply Effect.after (State.free_effect_eq ‹_›)); exact rfl)
    | ((with_reducible apply Effect.after (State.updBst_effect ..)); exact rfl)

theorem State.startupFail_effect (s : State) (r : StartupResult) :
    Effect 0x14000000006 s (State.startupFail s r) := by
  unfold State.startupFail
  try dsimp only
  repeat' first
    | with_reducible apply Effect.refl
    | with_reducible assumption
    | ((with_reducible apply Effect.after (State.failedRegion_effect ..)); exact rfl)
    | ((with_reducible apply Effect.after (State.failedRegion_effect_eq ‹_›)); exact rfl)
    | ((with_reducible apply Effect.updGlb) <;> [skip; (intro x; first | rfl | (dsimp only; split <;> rfl)); exact rfl])
    | ((with_reducible apply Effect.after (State.event_effect ..)); exact rfl)
    | ((with_reducible apply Effect.after (State.bistFailed_effect ..)); exact rfl)

theorem execStartupBistDone_effect (r : StartupResult) (s : State) :
    Effect.ok 0x5FEDDE3FFF6 s (execStartupBistDone r s) := by
  unfold execStartupBistDone
  try dsimp only
  repeat' first
    | with_reducible apply Effect.refl
    | with_reducible assumption
    | ((with_reducible apply Effect.ite) <;> intro _)
    | apply Effect.ok_next
    | ((with_reducible apply Effect.after (State.updBst_effect ..)); exact rfl)
    | ((with_reducible apply Effect.after (State.startupFail_effect ..)); exact rfl)
    | ((with_reducible apply Effect.after (State.loadPackage_effect ..)); exact rfl)
    | ((with_reducible apply Effect.updGlb) <;> [skip; (intro x; first | rfl | (dsimp only; split <;> rfl)); exact rfl])
    | split
    | ((with_reducible apply Effect.upd) <;> [skip; exact rfl; (intro p hp; cases p <;> first | exact rfl | exact absurd hp (by decide))])

theorem State.restartUnits_effect (s : State) :
    Effect 0xC0020020 s (State.restartUnits s) := by
  unfold State.restartUnits
  try dsimp only
  repeat' first
    | with_reducible apply Effect.refl
    | with_reducible assumption
    | ((with_reducible apply Effect.each) <;> [skip; (intro t x ht)])
    | ((with_reducible apply Effect.after (State.unitBegin_effect ..)); exact rfl)

theorem execWarmRestartDone_effect (s : State) :
    Effect.ok 0x4FEDDE3ED36 s (execWarmRestartDone s) := by
  unfold execWarmRestartDone
  try dsimp only
  repeat' first
    | with_reducible apply Effect.refl
    | with_reducible assumption
    | ((with_reducible apply Effect.ite) <;> intro _)
    | apply Effect.ok_next
    | ((with_reducible apply Effect.after (State.configure_effect ..)); exact rfl)
    | ((with_reducible apply Effect.each) <;> [skip; (intro t x ht)])
    | ((with_reducible apply Effect.after (State.updLogic_effect ..)); exact rfl)
    | ((with_reducible apply Effect.after (State.updSvc_effect ..)); exact rfl)
    | ((with_reducible apply Effect.updGlb) <;> [skip; (intro x; first | rfl | (dsimp only; split <;> rfl)); exact rfl])
    | ((with_reducible apply Effect.after (State.restartUnits_effect ..)); exact rfl)
    | ((with_reducible apply Effect.after (State.resumeOwn_effect ..)); exact rfl)
    | ((with_reducible apply Effect.after (State.runGroups_effect ..)); exact rfl)
    | ((with_reducible apply Effect.after (State.raiseFloors_effect ..)); exact rfl)
    | ((with_reducible apply Effect.after (State.enterRunning_effect ..)); exact rfl)
    | split

theorem execHoldupCharged_effect (energy : ℕ) (vstore : ℕ) (s : State) :
    Effect.ok 0x24000000004 s (execHoldupCharged energy vstore s) := by
  unfold execHoldupCharged
  try dsimp only
  repeat' first
    | with_reducible apply Effect.refl
    | with_reducible assumption
    | ((with_reducible apply Effect.ite) <;> intro _)
    | apply Effect.ok_next
    | ((with_reducible apply Effect.after (State.updHw_effect ..)); exact rfl)
    | ((with_reducible apply Effect.updGlb) <;> [skip; (intro x; first | rfl | (dsimp only; split <;> rfl)); exact rfl])
    | ((with_reducible apply Effect.after (State.alarm_effect ..)); exact rfl)
    | ((with_reducible apply Effect.after (State.clearAlarm_effect ..)); exact rfl)

theorem execHoldupTimeout_effect (s : State) :
    Effect.ok 0x4400000001 s (execHoldupTimeout s) := by
  unfold execHoldupTimeout
  try dsimp only
  repeat' first
    | with_reducible apply Effect.refl
    | with_reducible assumption
    | ((with_reducible apply Effect.ite) <;> intro _)
    | apply Effect.ok_next
    | ((with_reducible apply Effect.after (State.alarm_effect ..)); exact rfl)
    | ((with_reducible apply Effect.after (State.upTo_effect ..)); exact rfl)

theorem State.relaunch_effect (s : State) :
    Effect 0x4F2D8E03FC2 s (State.relaunch s) := by
  unfold State.relaunch
  try dsimp only
  repeat' first
    | with_reducible apply Effect.refl
    | with_reducible assumption
    | ((with_reducible apply Effect.ite) <;> intro _)
    | ((with_reducible apply Effect.after (State.updHif_effect ..)); exact rfl)
    | ((with_reducible apply Effect.each) <;> [skip; (intro t x ht)])
    | ((with_reducible apply Effect.after (State.lensOn_effect ..)); exact rfl)

theorem State.runOn_effect (s : State) :
    Effect 0x4F2D8E03FC6 s (State.runOn s) := by
  unfold State.runOn
  try dsimp only
  repeat' first
    | with_reducible apply Effect.refl
    | with_reducible assumption
    | ((with_reducible apply Effect.ite) <;> intro _)
    | ((with_reducible apply Effect.after (State.relaunch_effect ..)); exact rfl)
    | ((with_reducible apply Effect.updGlb) <;> [skip; (intro x; first | rfl | (dsimp only; split <;> rfl)); exact rfl])
    | ((with_reducible apply Effect.after (State.runGroups_effect ..)); exact rfl)
    | ((with_reducible apply Effect.after (State.raiseFloors_effect ..)); exact rfl)
    | ((with_reducible apply Effect.after (State.enterRunning_effect ..)); exact rfl)
    | ((with_reducible apply Effect.each) <;> [skip; (intro t x ht)])
    | ((with_reducible apply Effect.after (State.resumePolls_effect ..)); exact rfl)

theorem State.writeRun_effect (s : State) :
    Effect 0x4F2D8E03FC6 s (State.writeRun s) := by
  unfold State.writeRun
  try dsimp only
  repeat' first
    | with_reducible apply Effect.refl
    | with_reducible assumption
    | ((with_reducible apply Effect.ite) <;> intro _)
    | ((with_reducible apply Effect.after (State.runOn_effect ..)); exact rfl)
    | ((with_reducible apply Effect.updGlb) <;> [skip; (intro x; first | rfl | (dsimp only; split <;> rfl)); exact rfl])

theorem execRunSet_effect (s : State) :
    Effect.ok 0x4F2D8E03FC6 s (execRunSet s) := by
  unfold execRunSet
  try dsimp only
  repeat' first
    | with_reducible apply Effect.refl
    | with_reducible assumption
    | apply Effect.ok_next
    | ((with_reducible apply Effect.after (State.writeRun_effect ..)); exact rfl)

theorem State.clearRun_effect (s : State) :
    Effect 0x1000000004 s (State.clearRun s) := by
  unfold State.clearRun
  try dsimp only
  repeat' first
    | with_reducible apply Effect.refl
    | with_reducible assumption
    | ((with_reducible apply Effect.ite) <;> intro _)
    | ((with_reducible apply Effect.after (State.updHif_effect ..)); exact rfl)
    | ((with_reducible apply Effect.updGlb) <;> [skip; (intro x; first | rfl | (dsimp only; split <;> rfl)); exact rfl])

theorem execRunClear_effect (s : State) :
    Effect.ok 0x1000000004 s (execRunClear s) := by
  unfold execRunClear
  try dsimp only
  repeat' first
    | with_reducible apply Effect.refl
    | with_reducible assumption
    | apply Effect.ok_next
    | ((with_reducible apply Effect.after (State.clearRun_effect ..)); exact rfl)

theorem State.logicHalt_effect (s : State) (p : ℕ) :
    Effect 0x4FAD8C03FD2 s (State.logicHalt s p) := by
  unfold State.logicHalt
  try dsimp only
  repeat' first
    | with_reducible apply Effect.refl
    | with_reducible assumption
    | ((with_reducible apply Effect.ite) <;> intro _)
    | ((with_reducible apply Effect.after (State.updLogic_effect ..)); exact rfl)
    | ((with_reducible apply Effect.after (State.logicStop_effect ..)); exact rfl)

theorem State.stopIdle_effect (s : State) :
    Effect 0x4F2D8C007C2 s (State.stopIdle s) := by
  unfold State.stopIdle
  try dsimp only
  repeat' first
    | with_reducible apply Effect.refl
    | with_reducible assumption
    | ((with_reducible apply Effect.ite) <;> intro _)
    | ((with_reducible apply Effect.each) <;> [skip; (intro t x ht)])
    | ((with_reducible apply Effect.after (State.stopFacet_effect ..)); exact rfl)

theorem State.haltWork_effect (s : State) :
    Effect 0x4FAD8C03FD6 s (State.haltWork s) := by
  unfold State.haltWork
  try dsimp only
  repeat' first
    | with_reducible apply Effect.refl
    | with_reducible assumption
    | ((with_reducible apply Effect.updGlb) <;> [skip; (intro x; first | rfl | (dsimp only; split <;> rfl)); exact rfl])
    | ((with_reducible apply Effect.after (State.stopIdle_effect ..)); exact rfl)
    | ((with_reducible apply Effect.each) <;> [skip; (intro t x ht)])
    | ((with_reducible apply Effect.after (State.logicHalt_effect ..)); exact rfl)
    | ((with_reducible apply Effect.after (State.updArm_effect ..)); exact rfl)
    | ((with_reducible apply Effect.after (State.idleLoupes_effect ..)); exact rfl)
    | ((with_reducible apply Effect.after (State.stopGroups_effect ..)); exact rfl)

theorem execRunClearDone_effect (s : State) :
    Effect.ok 0x4FAD8C03FD6 s (execRunClearDone s) := by
  unfold execRunClearDone
  try dsimp only
  repeat' first
    | with_reducible apply Effect.refl
    | with_reducible assumption
    | ((with_reducible apply Effect.ite) <;> intro _)
    | apply Effect.ok_next
    | ((with_reducible apply Effect.after (State.stopIdle_effect ..)); exact rfl)
    | ((with_reducible apply Effect.after (State.haltWork_effect ..)); exact rfl)
    | ((with_reducible apply Effect.after (State.toOffline_effect ..)); exact rfl)
    | ((with_reducible apply Effect.updGlb) <;> [skip; (intro x; first | rfl | (dsimp only; split <;> rfl)); exact rfl])

theorem State.newDump_effect (s : State) (stage : ℕ) (cause : ℕ) :
    Effect 0x4000000000 s (State.newDump s stage cause) := by
  unfold State.newDump
  try dsimp only
  repeat' first
    | with_reducible apply Effect.refl
    | with_reducible assumption
    | split
    | ((with_reducible apply Effect.upd) <;> [skip; exact rfl; (intro p hp; cases p <;> first | exact rfl | exact absurd hp (by decide))])

theorem State.mmFail_effect (s : State) (cause : ℕ) :
    Effect 0x5FED8C01FFE s (State.mmFail s cause) := by
  unfold State.mmFail
  try dsimp only
  repeat' first
    | with_reducible apply Effect.refl
    | with_reducible assumption
    | ((with_reducible apply Effect.ite) <;> intro _)
    | ((with_reducible apply Effect.updGlb) <;> [skip; (intro x; first | rfl | (dsimp only; split <;> rfl)); exact rfl])
    | ((with_reducible apply Effect.after (State.beginBoot_effect ..)); exact rfl)
    | ((with_reducible apply Effect.after (State.updKa_effect ..)); exact rfl)
    | ((with_reducible apply Effect.after (State.cutSvc_effect ..)); exact rfl)
    | ((with_reducible apply Effect.after (State.updMlk_effect ..)); exact rfl)
    | ((with_reducible apply Effect.after (State.updHif_effect ..)); exact rfl)
    | ((with_reducible apply Effect.after (State.toHoldover_effect ..)); exact rfl)
    | ((with_reducible apply Effect.after (State.dropGrant_effect ..)); exact rfl)
    | ((with_reducible apply Effect.after (State.newDump_effect ..)); exact rfl)
    | split

theorem execMmWatchdogExpiry_effect (s : State) :
    Effect.ok 0x5FED8C01FFE s (execMmWatchdogExpiry s) := by
  unfold execMmWatchdogExpiry
  try dsimp only
  repeat' first
    | with_reducible apply Effect.refl
    | with_reducible assumption
    | apply Effect.ok_next
    | ((with_reducible apply Effect.after (State.mmFail_effect ..)); exact rfl)

theorem execMmLockstepFail_effect (s : State) :
    Effect.ok 0x5FED8C01FFE s (execMmLockstepFail s) := by
  unfold execMmLockstepFail
  try dsimp only
  repeat' first
    | with_reducible apply Effect.refl
    | with_reducible assumption
    | apply Effect.ok_next
    | ((with_reducible apply Effect.after (State.mmFail_effect ..)); exact rfl)

theorem execMmRestartDone_effect (s : State) :
    Effect.ok 0x4700000010E s (execMmRestartDone s) := by
  unfold execMmRestartDone
  try dsimp only
  repeat' first
    | with_reducible apply Effect.refl
    | with_reducible assumption
    | ((with_reducible apply Effect.ite) <;> intro _)
    | apply Effect.ok_next
    | ((with_reducible apply Effect.after (State.setResult_effect ..)); exact rfl)
    | ((with_reducible apply Effect.updGlb) <;> [skip; (intro x; first | rfl | (dsimp only; split <;> rfl)); exact rfl])
    | ((with_reducible apply Effect.after (State.updKa_effect ..)); exact rfl)
    | ((with_reducible apply Effect.after (State.updMlk_effect ..)); exact rfl)
    | ((with_reducible apply Effect.each) <;> [skip; (intro t x ht)])
    | ((with_reducible apply Effect.after (State.nextRepair_effect ..)); exact rfl)
    | ((with_reducible apply Effect.after (State.startResync_effect ..)); exact rfl)
    | ((with_reducible apply Effect.after (State.resumeKept_effect ..)); exact rfl)
    | split
    | ((with_reducible apply Effect.upd) <;> [skip; exact rfl; (intro p hp; cases p <;> first | exact rfl | exact absurd hp (by decide))])

theorem execFirmwareFatal_effect (s : State) :
    Effect.ok 0x4000000000 s (execFirmwareFatal s) := by
  unfold execFirmwareFatal
  try dsimp only
  repeat' first
    | with_reducible apply Effect.refl
    | with_reducible assumption
    | ((with_reducible apply Effect.ite) <;> intro _)
    | apply Effect.ok_next
    | ((with_reducible apply Effect.after (State.updEvr_effect ..)); exact rfl)
    | ((with_reducible apply Effect.after (State.newDump_effect ..)); exact rfl)

theorem execDumpFlashCopyDone_effect (s : State) :
    Effect.ok 0x4000000000 s (execDumpFlashCopyDone s) := by
  unfold execDumpFlashCopyDone
  try dsimp only
  repeat' first
    | with_reducible apply Effect.refl
    | with_reducible assumption
    | ((with_reducible apply Effect.ite) <;> intro _)
    | apply Effect.ok_next
    | split
    | ((with_reducible apply Effect.upd) <;> [skip; exact rfl; (intro p hp; cases p <;> first | exact rfl | exact absurd hp (by decide))])

theorem execKaWatchdog_effect (s : State) :
    Effect.ok 0x1FFFFFFFFFFF s (execKaWatchdog s) := by
  unfold execKaWatchdog
  try dsimp only
  repeat' first
    | with_reducible apply Effect.refl
    | with_reducible assumption
    | ((with_reducible apply Effect.ite) <;> intro _)
    | apply Effect.ok_next
    | ((with_reducible apply Effect.after (State.restart_effect ..)); exact rfl)

theorem execKaHoursTick_effect (s : State) :
    Effect.ok 0x400000009 s (execKaHoursTick s) := by
  unfold execKaHoursTick
  try dsimp only
  repeat' first
    | with_reducible apply Effect.refl
    | with_reducible assumption
    | ((with_reducible apply Effect.ite) <;> intro _)
    | apply Effect.ok_next
    | ((with_reducible apply Effect.after (State.updKa_effect ..)); exact rfl)
    | ((with_reducible apply Effect.after (State.upTo_effect ..)); exact rfl)

end Sys2Proof.Machine
end

