-- ==== Sys2Proof/Laws/EffHardware.lean ====
section
/-! SUPPORT. What each operation of Machine/Hardware.lean may do: the parts it may write, and that its result follows
what it was given (Laws/Effect.lean). -/

namespace Sys2Proof.Machine

theorem State.setVin_effect (s : State) (v : BitVec 12) :
    Effect 0x8 s (State.setVin s v) := by
  unfold State.setVin
  try dsimp only
  repeat' first
    | with_reducible apply Effect.refl
    | with_reducible assumption
    | ((with_reducible apply Effect.after (State.updKa_effect ..)); exact rfl)

theorem execSupplyWarn_effect (v : BitVec 12) (s : State) :
    Effect.ok 0x4000000008 s (execSupplyWarn v s) := by
  unfold execSupplyWarn
  try dsimp only
  repeat' first
    | with_reducible apply Effect.refl
    | with_reducible assumption
    | ((with_reducible apply Effect.ite) <;> intro _)
    | apply Effect.ok_next
    | ((with_reducible apply Effect.after (State.setVin_effect ..)); exact rfl)
    | ((with_reducible apply Effect.after (State.updKa_effect ..)); exact rfl)
    | split
    | ((with_reducible apply Effect.upd) <;> [skip; exact rfl; (intro p hp; cases p <;> first | exact rfl | exact absurd hp (by decide))])

theorem execSupplyWarnClear_effect (v : BitVec 12) (s : State) :
    Effect.ok 0x24000000008 s (execSupplyWarnClear v s) := by
  unfold execSupplyWarnClear
  try dsimp only
  repeat' first
    | with_reducible apply Effect.refl
    | with_reducible assumption
    | ((with_reducible apply Effect.ite) <;> intro _)
    | apply Effect.ok_next
    | ((with_reducible apply Effect.after (State.setVin_effect ..)); exact rfl)
    | ((with_reducible apply Effect.after (State.updHw_effect ..)); exact rfl)
    | ((with_reducible apply Effect.after (State.updKa_effect ..)); exact rfl)
    | split
    | ((with_reducible apply Effect.upd) <;> [skip; exact rfl; (intro p hp; cases p <;> first | exact rfl | exact absurd hp (by decide))])

theorem execSupplyBelowPfail_effect (v : BitVec 12) (s : State) :
    Effect.ok 0x24000000008 s (execSupplyBelowPfail v s) := by
  unfold execSupplyBelowPfail
  try dsimp only
  repeat' first
    | with_reducible apply Effect.refl
    | with_reducible assumption
    | ((with_reducible apply Effect.ite) <;> intro _)
    | apply Effect.ok_next
    | ((with_reducible apply Effect.after (State.updHw_effect ..)); exact rfl)
    | ((with_reducible apply Effect.after (State.updKa_effect ..)); exact rfl)
    | ((with_reducible apply Effect.after (State.setVin_effect ..)); exact rfl)
    | split
    | ((with_reducible apply Effect.upd) <;> [skip; exact rfl; (intro p hp; cases p <;> first | exact rfl | exact absurd hp (by decide))])

theorem State.qualify_effect (s : State) :
    Effect 0x67AC80008CA s (State.qualify s) := by
  unfold State.qualify
  try dsimp only
  repeat' first
    | with_reducible apply Effect.refl
    | with_reducible assumption
    | ((with_reducible apply Effect.ite) <;> intro _)
    | ((with_reducible apply Effect.after (State.updKa_effect ..)); exact rfl)
    | ((with_reducible apply Effect.after (State.updHw_effect ..)); exact rfl)
    | ((with_reducible apply Effect.after (State.updHif_effect ..)); exact rfl)
    | ((with_reducible apply Effect.after (State.evrCloseAll_effect ..)); exact rfl)
    | ((with_reducible apply Effect.after (State.toOffline_effect ..)); exact rfl)
    | ((with_reducible apply Effect.each) <;> [skip; (intro t x ht)])
    | ((with_reducible apply Effect.after (State.updArm_effect ..)); exact rfl)

theorem execPfailQualified_effect (s : State) :
    Effect.ok 0x67EC80008CB s (execPfailQualified s) := by
  unfold execPfailQualified
  try dsimp only
  repeat' first
    | with_reducible apply Effect.refl
    | with_reducible assumption
    | ((with_reducible apply Effect.ite) <;> intro _)
    | apply Effect.ok_next
    | ((with_reducible apply Effect.after (State.qualify_effect ..)); exact rfl)
    | ((with_reducible apply Effect.after (State.upTo_effect ..)); exact rfl)

theorem execSlotPresentOpen_effect (s : State) :
    Effect.ok 0x67AC80008CA s (execSlotPresentOpen s) := by
  unfold execSlotPresentOpen
  try dsimp only
  repeat' first
    | with_reducible apply Effect.refl
    | with_reducible assumption
    | ((with_reducible apply Effect.ite) <;> intro _)
    | apply Effect.ok_next
    | ((with_reducible apply Effect.after (State.updHw_effect ..)); exact rfl)
    | ((with_reducible apply Effect.after (State.qualify_effect ..)); exact rfl)

theorem execThermalTrip_effect (s : State) :
    Effect.ok 0x67AC80008CA s (execThermalTrip s) := by
  unfold execThermalTrip
  try dsimp only
  repeat' first
    | with_reducible apply Effect.refl
    | with_reducible assumption
    | ((with_reducible apply Effect.ite) <;> intro _)
    | apply Effect.ok_next
    | ((with_reducible apply Effect.after (State.updHw_effect ..)); exact rfl)
    | ((with_reducible apply Effect.after (State.qualify_effect ..)); exact rfl)

theorem execPfailBlockFramesSent_effect (s : State) :
    Effect.ok 0x20400000001 s (execPfailBlockFramesSent s) := by
  unfold execPfailBlockFramesSent
  try dsimp only
  repeat' first
    | with_reducible apply Effect.refl
    | with_reducible assumption
    | ((with_reducible apply Effect.ite) <;> intro _)
    | apply Effect.ok_next
    | ((with_reducible apply Effect.after (State.updHw_effect ..)); exact rfl)
    | ((with_reducible apply Effect.after (State.upTo_effect ..)); exact rfl)

theorem State.powerDown_effect (s : State) :
    Effect 0x1FFFFFFFFFFF s (State.powerDown s) := by
  unfold State.powerDown
  try dsimp only
  repeat' first
    | with_reducible apply Effect.refl
    | with_reducible assumption
    | ((with_reducible apply Effect.after (State.cutSvc_effect ..)); exact rfl)
    | ((with_reducible apply Effect.after (State.toOffline_effect ..)); exact rfl)
    | ((with_reducible apply Effect.after (State.flushBeams_effect ..)); exact rfl)
    | ((with_reducible apply Effect.after (State.keepWarm_effect ..)); exact rfl)
    | ((with_reducible apply Effect.after (State.survive_effect ..)); exact rfl)
    | split
    | ((with_reducible apply Effect.upd) <;> [skip; exact rfl; (intro p hp; cases p <;> first | exact rfl | exact absurd hp (by decide))])

theorem State.comeBack_effect (s : State) (sealOk : Bool) :
    Effect 0x1FFFFFFFFFFF s (State.comeBack s sealOk) := by
  unfold State.comeBack
  try dsimp only
  repeat' first
    | with_reducible apply Effect.refl
    | with_reducible assumption
    | ((with_reducible apply Effect.ite) <;> intro _)
    | ((with_reducible apply Effect.after (State.updRecs_effect ..)); exact rfl)
    | ((with_reducible apply Effect.after (State.updKa_effect ..)); exact rfl)
    | ((with_reducible apply Effect.after (State.restart_effect ..)); exact rfl)

theorem execPfailFlushDone_effect (s : State) :
    Effect.ok 0x1FFFFFFFFFFF s (execPfailFlushDone s) := by
  unfold execPfailFlushDone
  try dsimp only
  repeat' first
    | with_reducible apply Effect.refl
    | with_reducible assumption
    | ((with_reducible apply Effect.ite) <;> intro _)
    | apply Effect.ok_next
    | ((with_reducible apply Effect.after (State.fillSlots_effect ..)); exact rfl)
    | ((with_reducible apply Effect.after (State.upTo_effect ..)); exact rfl)
    | ((with_reducible apply Effect.after (State.evrFlushEnd_effect ..)); exact rfl)
    | ((with_reducible apply Effect.after (State.updSvc_effect ..)); exact rfl)
    | ((with_reducible apply Effect.after (State.updHif_effect ..)); exact rfl)
    | ((with_reducible apply Effect.after (State.updKa_effect ..)); exact rfl)
    | ((with_reducible apply Effect.after (State.powerDown_effect ..)); exact rfl)
    | ((with_reducible apply Effect.after (State.comeBack_effect ..)); exact rfl)
    | split

theorem execStoreExhausted_effect (s : State) :
    Effect.ok 0x1FFFFFFFFFFF s (execStoreExhausted s) := by
  unfold execStoreExhausted
  try dsimp only
  repeat' first
    | with_reducible apply Effect.refl
    | with_reducible assumption
    | apply Effect.ok_next
    | ((with_reducible apply Effect.after (State.updKa_effect ..)); exact rfl)
    | ((with_reducible apply Effect.after (State.updHw_effect ..)); exact rfl)
    | ((with_reducible apply Effect.after (State.powerDown_effect ..)); exact rfl)
    | ((with_reducible apply Effect.after (State.emptySlots_effect ..)); exact rfl)
    | ((with_reducible apply Effect.updGlb) <;> [skip; (intro x; first | rfl | (dsimp only; split <;> rfl)); exact rfl])
    | split

theorem execSupplyReturn_effect (v : BitVec 12) (sealOk : Bool) (s : State) :
    Effect.ok 0x1FFFFFFFFFFF s (execSupplyReturn v sealOk s) := by
  unfold execSupplyReturn
  try dsimp only
  repeat' first
    | with_reducible apply Effect.refl
    | with_reducible assumption
    | ((with_reducible apply Effect.ite) <;> intro _)
    | apply Effect.ok_next
    | ((with_reducible apply Effect.after (State.setVin_effect ..)); exact rfl)
    | ((with_reducible apply Effect.after (State.updHw_effect ..)); exact rfl)
    | ((with_reducible apply Effect.after (State.comeBack_effect ..)); exact rfl)
    | split

theorem execLatchOpen_effect (s : State) :
    Effect.ok 0x26000000000 s (execLatchOpen s) := by
  unfold execLatchOpen
  try dsimp only
  repeat' first
    | with_reducible apply Effect.refl
    | with_reducible assumption
    | ((with_reducible apply Effect.ite) <;> intro _)
    | apply Effect.ok_next
    | ((with_reducible apply Effect.after (State.alarm_effect ..)); exact rfl)
    | ((with_reducible apply Effect.after (State.updHw_effect ..)); exact rfl)
    | ((with_reducible apply Effect.after (State.askYield_effect ..)); exact rfl)

theorem execLatchClose_effect (s : State) :
    Effect.ok 0x24000000000 s (execLatchClose s) := by
  unfold execLatchClose
  try dsimp only
  repeat' first
    | with_reducible apply Effect.refl
    | with_reducible assumption
    | apply Effect.ok_next
    | ((with_reducible apply Effect.after (State.clearAlarm_effect ..)); exact rfl)
    | ((with_reducible apply Effect.after (State.updHw_effect ..)); exact rfl)

theorem State.setModule_effect (s : State) (k : ℕ) (v : Bool) :
    Effect 0x2200000000 s (State.setModule s k v) := by
  unfold State.setModule
  try dsimp only
  repeat' first
    | with_reducible apply Effect.refl
    | with_reducible assumption
    | ((with_reducible apply Effect.ite) <;> intro _)
    | ((with_reducible apply Effect.after (State.updPort_effect ..)); exact rfl)
    | ((with_reducible apply Effect.after (State.updLink_effect ..)); exact rfl)

theorem execXcvrInsert_effect (k : Fin 6) (powerOk : Bool) (qualified : Bool) (s : State) :
    Effect.ok 0x26200000000 s (execXcvrInsert k powerOk qualified s) := by
  unfold execXcvrInsert
  try dsimp only
  repeat' first
    | with_reducible apply Effect.refl
    | with_reducible assumption
    | ((with_reducible apply Effect.ite) <;> intro _)
    | apply Effect.ok_next
    | ((with_reducible apply Effect.after (State.updHw_effect ..)); exact rfl)
    | ((with_reducible apply Effect.after (State.setModule_effect ..)); exact rfl)
    | ((with_reducible apply Effect.after (State.event_effect ..)); exact rfl)

theorem execXcvrRemove_effect (k : Fin 6) (s : State) :
    Effect.ok 0x67AC80028D2 s (execXcvrRemove k s) := by
  unfold execXcvrRemove
  try dsimp only
  repeat' first
    | with_reducible apply Effect.refl
    | with_reducible assumption
    | ((with_reducible apply Effect.ite) <;> intro _)
    | apply Effect.ok_next
    | ((with_reducible apply Effect.after (State.updHw_effect ..)); exact rfl)
    | ((with_reducible apply Effect.after (State.setModule_effect ..)); exact rfl)
    | ((with_reducible apply Effect.after (State.updPort_effect ..)); exact rfl)
    | ((with_reducible apply Effect.after (State.linkLost_effect ..)); exact rfl)
    | ((with_reducible apply Effect.after (State.updLink_effect ..)); exact rfl)
    | ((with_reducible apply Effect.after (State.mirrorLost_effect ..)); exact rfl)

theorem State.alarmIs_effect (s : State) (e : Ev) (d : ℕ) (on : Bool) :
    Effect 0x4000000000 s (State.alarmIs s e d on) := by
  unfold State.alarmIs
  try dsimp only
  repeat' first
    | with_reducible apply Effect.refl
    | with_reducible assumption
    | ((with_reducible apply Effect.ite) <;> intro _)
    | ((with_reducible apply Effect.after (State.alarm_effect ..)); exact rfl)
    | ((with_reducible apply Effect.after (State.clearAlarm_effect ..)); exact rfl)

theorem State.coreTemp_effect (s : State) (t : ℤ) :
    Effect 0x26000000000 s (State.coreTemp s t) := by
  unfold State.coreTemp
  try dsimp only
  repeat' first
    | with_reducible apply Effect.refl
    | with_reducible assumption
    | ((with_reducible apply Effect.ite) <;> intro _)
    | ((with_reducible apply Effect.after (State.updHw_effect ..)); exact rfl)
    | ((with_reducible apply Effect.after (State.alarmIs_effect ..)); exact rfl)
    | ((with_reducible apply Effect.after (State.askYield_effect ..)); exact rfl)

theorem execTempWarn_effect (x : Sensor) (t : ℤ) (s : State) :
    Effect.ok 0x26000000000 s (execTempWarn x t s) := by
  unfold execTempWarn
  try dsimp only
  repeat' first
    | with_reducible apply Effect.refl
    | with_reducible assumption
    | apply Effect.ok_next
    | ((with_reducible apply Effect.after (State.coreTemp_effect ..)); exact rfl)
    | ((with_reducible apply Effect.after (State.updHw_effect ..)); exact rfl)
    | ((with_reducible apply Effect.after (State.alarmIs_effect ..)); exact rfl)
    | split

theorem execTempCrit_effect (t : ℤ) (s : State) :
    Effect.ok 0x26000000000 s (execTempCrit t s) := by
  unfold execTempCrit
  try dsimp only
  repeat' first
    | with_reducible apply Effect.refl
    | with_reducible assumption
    | apply Effect.ok_next
    | ((with_reducible apply Effect.after (State.coreTemp_effect ..)); exact rfl)

theorem execToOverload_effect (m : Fin 4) (s : State) :
    Effect.ok 0x4000400000 s (execToOverload m s) := by
  unfold execToOverload
  try dsimp only
  repeat' first
    | with_reducible apply Effect.refl
    | with_reducible assumption
    | ((with_reducible apply Effect.ite) <;> intro _)
    | apply Effect.ok_next
    | ((with_reducible apply Effect.after (State.event_effect ..)); exact rfl)
    | ((with_reducible apply Effect.after (State.updTo_effect ..)); exact rfl)

theorem execToNoload_effect (m : Fin 4) (offv : ℕ) (s : State) :
    Effect.ok 0x24000400000 s (execToNoload m offv s) := by
  unfold execToNoload
  try dsimp only
  repeat' first
    | with_reducible apply Effect.refl
    | with_reducible assumption
    | ((with_reducible apply Effect.ite) <;> intro _)
    | apply Effect.ok_next
    | ((with_reducible apply Effect.after (State.event_effect ..)); exact rfl)
    | ((with_reducible apply Effect.after (State.updTo_effect ..)); exact rfl)
    | split
    | ((with_reducible apply Effect.upd) <;> [skip; exact rfl; (intro p hp; cases p <;> first | exact rfl | exact absurd hp (by decide))])

theorem State.anyPort_effect (s : State) :
    Effect 0x1000000000 s (State.anyPort s) := by
  unfold State.anyPort
  try dsimp only
  repeat' first
    | with_reducible apply Effect.refl
    | with_reducible assumption
    | ((with_reducible apply Effect.after (State.updHif_effect ..)); exact rfl)

theorem State.abortJournal_effect (s : State) :
    Effect 0x47000000002 s (State.abortJournal s) := by
  unfold State.abortJournal
  try dsimp only
  repeat' first
    | with_reducible apply Effect.refl
    | with_reducible assumption
    | ((with_reducible apply Effect.after (State.anyPort_effect ..)); exact rfl)
    | ((with_reducible apply Effect.each) <;> [skip; (intro t x ht)])
    | ((with_reducible apply Effect.after (State.complete_effect ..)); exact rfl)
    | ((with_reducible apply Effect.after (State.writeCompletion_effect ..)); exact rfl)
    | split

theorem State.safeState_effect (s : State) (k : ℕ) :
    Effect 0x4FAD8C00FC6 s (State.safeState s k) := by
  unfold State.safeState
  try dsimp only
  repeat' first
    | with_reducible apply Effect.refl
    | with_reducible assumption
    | ((with_reducible apply Effect.ite) <;> intro _)
    | ((with_reducible apply Effect.after (State.toOffline_effect ..)); exact rfl)
    | ((with_reducible apply Effect.each) <;> [skip; (intro t x ht)])
    | ((with_reducible apply Effect.after (State.updArm_effect ..)); exact rfl)
    | ((with_reducible apply Effect.after (State.updHif_effect ..)); exact rfl)
    | ((with_reducible apply Effect.after (State.stopFacet_effect ..)); exact rfl)
    | ((with_reducible apply Effect.after (State.abortJournal_effect ..)); exact rfl)
    | ((with_reducible apply Effect.after (State.alarm_effect ..)); exact rfl)
    | ((with_reducible apply Effect.updGlb) <;> [skip; (intro x; first | rfl | (dsimp only; split <;> rfl)); exact rfl])
    | ((with_reducible apply Effect.after (State.updEvr_effect ..)); exact rfl)

theorem State.rollFailed_effect (s : State) (k : ℕ) :
    Effect 0x5FAD8C00FC6 s (State.rollFailed s k) := by
  unfold State.rollFailed
  try dsimp only
  repeat' first
    | with_reducible apply Effect.refl
    | with_reducible assumption
    | ((with_reducible apply Effect.after (State.safeState_effect ..)); exact rfl)
    | ((with_reducible apply Effect.after (State.updMlk_effect ..)); exact rfl)
    | ((with_reducible apply Effect.after (State.bistFailed_effect ..)); exact rfl)

theorem execSelftestFail_effect (l : Fin 16) (f : Fin 64) (s : State) :
    Effect.ok 0x5FAD8C00FC6 s (execSelftestFail l f s) := by
  unfold execSelftestFail
  try dsimp only
  repeat' first
    | with_reducible apply Effect.refl
    | with_reducible assumption
    | ((with_reducible apply Effect.ite) <;> intro _)
    | apply Effect.ok_next
    | ((with_reducible apply Effect.after (State.updLens_effect ..)); exact rfl)
    | ((with_reducible apply Effect.updFacet) <;> [skip; (intro x hx; (try dsimp only); repeat' (first | exact hx | apply memPutNat_wf | apply memPut_wf | apply initData_wf | apply exchangeData_wf | apply restoreArea_wf | apply restoreRetain_wf | apply loadWindow_wf | apply statusBlock_wf | apply loadStream_wf | apply freshData_wf | apply putOutputs_wf | apply memPutSlot_wf | apply carry_wf | (rw [queueEvent_dmem]) | exact nil_wf | (rw [setQueued_dmem]) | split)); exact rfl])
    | ((with_reducible apply Effect.after (State.hwFault_effect ..)); exact rfl)
    | ((with_reducible apply Effect.after (State.rollFailed_effect ..)); exact rfl)
    | ((with_reducible apply Effect.after (State.event_effect ..)); exact rfl)
    | ((with_reducible apply Effect.after (State.bistFailed_effect ..)); exact rfl)
    | split

end Sys2Proof.Machine
end

