-- ==== Sys2Proof/Laws/EffService.lean ====
section
/-! SUPPORT. What each operation of Machine/Service.lean may do: the parts it may write, and that its result follows
what it was given (Laws/Effect.lean). -/

namespace Sys2Proof.Machine

theorem State.svcStart_effect (s : State) (o : SvcOp) :
    Effect 0x47000000012 s (State.svcStart s o) := by
  unfold State.svcStart
  try dsimp only
  repeat' first
    | with_reducible apply Effect.refl
    | with_reducible assumption
    | ((with_reducible apply Effect.ite) <;> intro _)
    | ((with_reducible apply Effect.after (State.updSvc_effect ..)); exact rfl)
    | ((with_reducible apply Effect.after (State.svcEnd_effect ..)); exact rfl)
    | ((with_reducible apply Effect.after (State.syncSlice_effect ..)); exact rfl)

theorem execSvc_effect (i : Fin 64) (r : Fin 8) (s : State) :
    Effect.ok 0x47000000012 s (execSvc i r s) := by
  unfold execSvc
  try dsimp only
  repeat' first
    | with_reducible apply Effect.refl
    | with_reducible assumption
    | ((with_reducible apply Effect.ite) <;> intro _)
    | apply Effect.ok_next
    | ((with_reducible apply State.runDesc_effect) <;> [skip; (intro t x1 x2 ht); exact rfl])
    | ((with_reducible apply Effect.after (State.svcStart_effect ..)); exact rfl)
    | ((with_reducible apply Effect.after (State.complete_effect ..)); exact rfl)
    | ((with_reducible apply Effect.after (State.updSvc_effect ..)); exact rfl)
    | split

theorem State.svcBlock_effect {m : Nat} {s0 : State} {α : Type} (s : State) (op : ℕ) (blk : Option α) (f : State → α → State) (h0 : Effect m s0 s) (hf : ∀ (t : State) (v1 : α), Effect m s0 t → Effect m s0 (f t v1))
    (hm : 0x47000000012 &&& m = 0x47000000012) : Effect m s0 (State.svcBlock s op blk f) := by
  unfold State.svcBlock
  try dsimp only
  repeat' first
    | with_reducible apply Effect.refl
    | with_reducible assumption
    | ((with_reducible apply Effect.ite) <;> intro _)
    | with_reducible refine hf _ _ ?_
    | ((with_reducible apply Effect.after (State.svcEnd_effect ..)); exact Effect.land hm rfl)
    | split

theorem State.svcWork_effect (s : State) (w : SvcWork) :
    Effect 0x10 s (State.svcWork s w) := by
  unfold State.svcWork
  try dsimp only
  repeat' first
    | with_reducible apply Effect.refl
    | with_reducible assumption
    | ((with_reducible apply Effect.after (State.updSvc_effect ..)); exact rfl)

theorem State.svcOut_effect (s : State) (off : ℕ) (bytes : List Byte) :
    Effect 0x45000000002 s ((State.svcOut s off bytes).2) := by
  unfold State.svcOut
  try dsimp only
  repeat' first
    | with_reducible apply Effect.refl
    | with_reducible assumption
    | ((with_reducible apply Effect.after (State.hostWrite_effect ..)); exact rfl)
    | ((with_reducible apply Effect.after (State.emit_effect ..)); exact rfl)
    | split

theorem State.svcOut_effect_eq {s : State} {off : ℕ} {bytes : List Byte} {v_ : Bool} {t_ : State}
    (he : State.svcOut s off bytes = (v_, t_)) : Effect 0x45000000002 s t_ := by
  have h := State.svcOut_effect s off bytes
  rw [he] at h
  exact h

theorem State.denyUse_effect (s : State) :
    Effect 0x8000000000 s (State.denyUse s) := by
  unfold State.denyUse
  try dsimp only
  repeat' first
    | with_reducible apply Effect.refl
    | with_reducible assumption
    | ((with_reducible apply Effect.after (State.updObs_effect ..)); exact rfl)

theorem State.imageFail_effect (s : State) (i : Image) (c : Code) :
    Effect 0x4F000000012 s (State.imageFail s i c) := by
  unfold State.imageFail
  try dsimp only
  repeat' first
    | with_reducible apply Effect.refl
    | with_reducible assumption
    | ((with_reducible apply Effect.ite) <;> intro _)
    | ((with_reducible apply Effect.after (State.svcEnd_effect ..)); exact rfl)
    | ((with_reducible apply Effect.after (State.denyUse_effect ..)); exact rfl)

theorem execFwCommit_effect (bank : Bool) (img : Option Image) (s : State) :
    Effect.ok 0x4F000000012 s (execFwCommit bank img s) := by
  unfold execFwCommit
  try dsimp only
  repeat' first
    | with_reducible apply Effect.refl
    | with_reducible assumption
    | apply Effect.ok_next
    | ((with_reducible apply State.svcBlock_effect) <;> [skip; (intro t x1 ht); exact rfl])
    | ((with_reducible apply Effect.after (State.imageFail_effect ..)); exact rfl)
    | ((with_reducible apply Effect.after (State.svcWork_effect ..)); exact rfl)
    | split

theorem execFwCommitDone_effect (flashOk : Bool) (s : State) :
    Effect.ok 0x1FFFFFFFFFFF s (execFwCommitDone flashOk s) := by
  unfold execFwCommitDone
  try dsimp only
  repeat' first
    | with_reducible apply Effect.refl
    | with_reducible assumption
    | ((with_reducible apply Effect.ite) <;> intro _)
    | apply Effect.ok_next
    | ((with_reducible apply Effect.after (State.svcEnd_effect ..)); exact rfl)
    | ((with_reducible apply Effect.after (State.updSvc_effect ..)); exact rfl)
    | ((with_reducible apply Effect.after (State.updKa_effect ..)); exact rfl)
    | ((with_reducible apply Effect.after (State.restart_effect ..)); exact rfl)
    | split

theorem State.keyWrite_effect (s : State) (sub : ℕ) (blk : Option KeyBlock) :
    Effect 0x4F000000012 s (State.keyWrite s sub blk) := by
  unfold State.keyWrite
  try dsimp only
  repeat' first
    | with_reducible apply Effect.refl
    | with_reducible assumption
    | ((with_reducible apply Effect.ite) <;> intro _)
    | ((with_reducible apply State.svcBlock_effect) <;> [skip; (intro t x1 ht); exact rfl])
    | ((with_reducible apply Effect.after (State.svcEnd_effect ..)); exact rfl)
    | ((with_reducible apply Effect.after (State.denyUse_effect ..)); exact rfl)
    | ((with_reducible apply Effect.after (State.svcWork_effect ..)); exact rfl)
    | split

theorem execKeyWriteWrite_effect (blk : Option KeyBlock) (s : State) :
    Effect.ok 0x4F000000012 s (execKeyWriteWrite blk s) := by
  unfold execKeyWriteWrite
  try dsimp only
  repeat' first
    | with_reducible apply Effect.refl
    | with_reducible assumption
    | apply Effect.ok_next
    | ((with_reducible apply Effect.after (State.keyWrite_effect ..)); exact rfl)

theorem execKeyWriteDerive_effect (blk : Option KeyBlock) (s : State) :
    Effect.ok 0x4F000000012 s (execKeyWriteDerive blk s) := by
  unfold execKeyWriteDerive
  try dsimp only
  repeat' first
    | with_reducible apply Effect.refl
    | with_reducible assumption
    | apply Effect.ok_next
    | ((with_reducible apply Effect.after (State.keyWrite_effect ..)); exact rfl)

theorem execKeyWriteErase_effect (blk : Option KeyBlock) (s : State) :
    Effect.ok 0x4F000000012 s (execKeyWriteErase blk s) := by
  unfold execKeyWriteErase
  try dsimp only
  repeat' first
    | with_reducible apply Effect.refl
    | with_reducible assumption
    | apply Effect.ok_next
    | ((with_reducible apply Effect.after (State.keyWrite_effect ..)); exact rfl)

theorem execKeyWriteExport_effect (blk : Option KeyBlock) (s : State) :
    Effect.ok 0x4F000000012 s (execKeyWriteExport blk s) := by
  unfold execKeyWriteExport
  try dsimp only
  repeat' first
    | with_reducible apply Effect.refl
    | with_reducible assumption
    | apply Effect.ok_next
    | ((with_reducible apply Effect.after (State.keyWrite_effect ..)); exact rfl)

theorem execKeyWriteLock_effect (blk : Option KeyBlock) (s : State) :
    Effect.ok 0x4F000000012 s (execKeyWriteLock blk s) := by
  unfold execKeyWriteLock
  try dsimp only
  repeat' first
    | with_reducible apply Effect.refl
    | with_reducible assumption
    | apply Effect.ok_next
    | ((with_reducible apply Effect.after (State.keyWrite_effect ..)); exact rfl)

theorem State.setSlot_effect (s : State) (k : ℕ) (x : KeySlot) :
    Effect 0x8000000000 s (State.setSlot s k x) := by
  unfold State.setSlot
  try dsimp only
  repeat' first
    | with_reducible apply Effect.refl
    | with_reducible assumption
    | ((with_reducible apply Effect.after (State.updObs_effect ..)); exact rfl)

theorem execKeyWriteDone_effect (s : State) :
    Effect.ok 0x4F000000012 s (execKeyWriteDone s) := by
  unfold execKeyWriteDone
  try dsimp only
  repeat' first
    | with_reducible apply Effect.refl
    | with_reducible assumption
    | ((with_reducible apply Effect.ite) <;> intro _)
    | apply Effect.ok_next
    | ((with_reducible apply Effect.after (State.svcEnd_effect ..)); exact rfl)
    | ((with_reducible apply Effect.after (State.setSlot_effect ..)); exact rfl)
    | ((with_reducible apply Effect.after (State.svcOut_effect ..)); exact rfl)
    | ((with_reducible apply Effect.after (State.svcOut_effect_eq ‹_›)); exact rfl)
    | split

theorem execAttest_effect (nonce : Option (List Byte)) (hostOk : Bool) (s : State) :
    Effect.ok 0x4F000000012 s (execAttest nonce hostOk s) := by
  unfold execAttest
  try dsimp only
  repeat' first
    | with_reducible apply Effect.refl
    | with_reducible assumption
    | ((with_reducible apply Effect.ite) <;> intro _)
    | apply Effect.ok_next
    | ((with_reducible apply State.svcBlock_effect) <;> [skip; (intro t x1 ht); exact rfl])
    | ((with_reducible apply Effect.after (State.svcEnd_effect ..)); exact rfl)
    | ((with_reducible apply Effect.after (State.denyUse_effect ..)); exact rfl)
    | ((with_reducible apply Effect.after (State.svcOut_effect ..)); exact rfl)
    | ((with_reducible apply Effect.after (State.svcOut_effect_eq ‹_›)); exact rfl)
    | ((with_reducible apply Effect.after (State.svcWork_effect ..)); exact rfl)
    | split

theorem execAttestDone_effect (s : State) :
    Effect.ok 0x4F000000012 s (execAttestDone s) := by
  unfold execAttestDone
  try dsimp only
  repeat' first
    | with_reducible apply Effect.refl
    | with_reducible assumption
    | ((with_reducible apply Effect.ite) <;> intro _)
    | apply Effect.ok_next
    | ((with_reducible apply Effect.after (State.free_effect ..)); exact rfl)
    | ((with_reducible apply Effect.after (State.free_effect_eq ‹_›)); exact rfl)
    | ((with_reducible apply Effect.after (State.svcOut_effect ..)); exact rfl)
    | ((with_reducible apply Effect.after (State.svcOut_effect_eq ‹_›)); exact rfl)
    | ((with_reducible apply Effect.after (State.svcEnd_effect ..)); exact rfl)
    | ((with_reducible apply Effect.after (State.updObs_effect ..)); exact rfl)
    | split

theorem execBist_effect (region : Option ℕ) (reservedZero : Bool) (goldenKnown : Bool) (s : State) :
    Effect.ok 0x57000000016 s (execBist region reservedZero goldenKnown s) := by
  unfold execBist
  try dsimp only
  repeat' first
    | with_reducible apply Effect.refl
    | with_reducible assumption
    | ((with_reducible apply Effect.ite) <;> intro _)
    | apply Effect.ok_next
    | ((with_reducible apply State.svcBlock_effect) <;> [skip; (intro t x1 ht); exact rfl])
    | ((with_reducible apply Effect.after (State.svcEnd_effect ..)); exact rfl)
    | ((with_reducible apply Effect.after (State.updBst_effect ..)); exact rfl)
    | ((with_reducible apply Effect.after (State.svcWork_effect ..)); exact rfl)
    | ((with_reducible apply Effect.updGlb) <;> [skip; (intro x; first | rfl | (dsimp only; split <;> rfl)); exact rfl])

theorem State.unfence_effect (s : State) (l : ℕ) (good : List ℕ) :
    Effect 0x340 s (State.unfence s l good) := by
  unfold State.unfence
  try dsimp only
  repeat' first
    | with_reducible apply Effect.refl
    | with_reducible assumption
    | ((with_reducible apply Effect.ite) <;> intro _)
    | ((with_reducible apply Effect.each) <;> [skip; (intro t x ht)])
    | ((with_reducible apply Effect.updFacet) <;> [skip; (intro x hx; (try dsimp only); repeat' (first | exact hx | apply memPutNat_wf | apply memPut_wf | apply initData_wf | apply exchangeData_wf | apply restoreArea_wf | apply restoreRetain_wf | apply loadWindow_wf | apply statusBlock_wf | apply loadStream_wf | apply freshData_wf | apply putOutputs_wf | apply memPutSlot_wf | apply carry_wf | (rw [queueEvent_dmem]) | exact nil_wf | (rw [setQueued_dmem]) | split)); exact rfl])
    | ((with_reducible apply Effect.after (State.fillFree_effect ..)); exact rfl)
    | split
    | ((with_reducible apply Effect.upd) <;> [skip; exact rfl; (intro p hp; cases p <;> first | exact rfl | exact absurd hp (by decide))])

theorem State.countStarts_effect (s : State) (r : ℕ) :
    Effect 0x20 s (State.countStarts s r) := by
  unfold State.countStarts
  try dsimp only
  repeat' first
    | with_reducible apply Effect.refl
    | with_reducible assumption
    | ((with_reducible apply Effect.ite) <;> intro _)
    | ((with_reducible apply Effect.after (State.updUnit_effect ..)); exact rfl)
    | split

theorem execBistDone_effect (o : BistOutcome) (s : State) :
    Effect.ok 0x5FAD8C00FF6 s (execBistDone o s) := by
  unfold execBistDone
  try dsimp only
  repeat' first
    | with_reducible apply Effect.refl
    | with_reducible assumption
    | ((with_reducible apply Effect.ite) <;> intro _)
    | apply Effect.ok_next
    | ((with_reducible apply Effect.after (State.updBst_effect ..)); exact rfl)
    | ((with_reducible apply Effect.after (State.countStarts_effect ..)); exact rfl)
    | ((with_reducible apply Effect.after (State.updObs_effect ..)); exact rfl)
    | ((with_reducible apply Effect.after (State.unfence_effect ..)); exact rfl)
    | ((with_reducible apply Effect.after (State.svcOut_effect ..)); exact rfl)
    | ((with_reducible apply Effect.after (State.svcOut_effect_eq ‹_›)); exact rfl)
    | ((with_reducible apply Effect.after (State.svcEnd_effect ..)); exact rfl)
    | ((with_reducible apply Effect.after (State.safeState_effect ..)); exact rfl)
    | ((with_reducible apply Effect.after (State.event_effect ..)); exact rfl)
    | split

theorem execLcTransition_effect (tok : Option Token) (s : State) :
    Effect.ok 0x4F000000012 s (execLcTransition tok s) := by
  unfold execLcTransition
  try dsimp only
  repeat' first
    | with_reducible apply Effect.refl
    | with_reducible assumption
    | ((with_reducible apply Effect.ite) <;> intro _)
    | apply Effect.ok_next
    | ((with_reducible apply State.svcBlock_effect) <;> [skip; (intro t x1 ht); exact rfl])
    | ((with_reducible apply Effect.after (State.svcEnd_effect ..)); exact rfl)
    | ((with_reducible apply Effect.after (State.denyUse_effect ..)); exact rfl)
    | ((with_reducible apply Effect.after (State.svcWork_effect ..)); exact rfl)
    | split

theorem State.clearSlots_effect (s : State) :
    Effect 0x8000000000 s (State.clearSlots s) := by
  unfold State.clearSlots
  try dsimp only
  repeat' first
    | with_reducible apply Effect.refl
    | with_reducible assumption
    | ((with_reducible apply Effect.after (State.updObs_effect ..)); exact rfl)

theorem execSliceCreate_effect (blk : Option SliceBlock) (s : State) :
    Effect.ok 0x470C0020032 s (execSliceCreate blk s) := by
  unfold execSliceCreate
  try dsimp only
  repeat' first
    | with_reducible apply Effect.refl
    | with_reducible assumption
    | ((with_reducible apply Effect.ite) <;> intro _)
    | apply Effect.ok_next
    | ((with_reducible apply State.svcBlock_effect) <;> [skip; (intro t x1 ht); exact rfl])
    | ((with_reducible apply Effect.after (State.svcEnd_effect ..)); exact rfl)
    | ((with_reducible apply Effect.after (State.freeCode_effect ..)); exact rfl)
    | ((with_reducible apply Effect.after (State.freeCode_effect_eq ‹_›)); exact rfl)
    | ((with_reducible apply Effect.after (State.updSlice_effect ..)); exact rfl)
    | ((with_reducible apply Effect.after (State.updUnit_effect ..)); exact rfl)
    | ((with_reducible apply Effect.after (State.svcWork_effect ..)); exact rfl)
    | ((with_reducible apply Effect.after (State.unitBegin_effect ..)); exact rfl)
    | split

theorem execPkgCommit_effect (img : Option Image) (s : State) :
    Effect.ok 0x4F000000012 s (execPkgCommit img s) := by
  unfold execPkgCommit
  try dsimp only
  repeat' first
    | with_reducible apply Effect.refl
    | with_reducible assumption
    | apply Effect.ok_next
    | ((with_reducible apply State.svcBlock_effect) <;> [skip; (intro t x1 ht); exact rfl])
    | ((with_reducible apply Effect.after (State.imageFail_effect ..)); exact rfl)
    | ((with_reducible apply Effect.after (State.svcEnd_effect ..)); exact rfl)
    | ((with_reducible apply Effect.after (State.svcWork_effect ..)); exact rfl)
    | split

theorem State.switchPkg_effect (s : State) (i : Image) :
    Effect 0x10 s (State.switchPkg s i) := by
  unfold State.switchPkg
  try dsimp only
  repeat' first
    | with_reducible apply Effect.refl
    | with_reducible assumption
    | ((with_reducible apply Effect.after (State.updSvc_effect ..)); exact rfl)

theorem State.sharePkg_effect (s : State) (i : Image) :
    Effect 0x2000000010 s (State.sharePkg s i) := by
  unfold State.sharePkg
  try dsimp only
  repeat' first
    | with_reducible apply Effect.refl
    | with_reducible assumption
    | ((with_reducible apply Effect.ite) <;> intro _)
    | ((with_reducible apply Effect.after (State.updSvc_effect ..)); exact rfl)
    | ((with_reducible apply Effect.each) <;> [skip; (intro t x ht)])
    | ((with_reducible apply Effect.after (State.mirror_effect ..)); exact rfl)

theorem execPkgCommitDone_effect (flashOk : Bool) (s : State) :
    Effect.ok 0x4FEDDE3FFF2 s (execPkgCommitDone flashOk s) := by
  unfold execPkgCommitDone
  try dsimp only
  repeat' first
    | with_reducible apply Effect.refl
    | with_reducible assumption
    | ((with_reducible apply Effect.ite) <;> intro _)
    | apply Effect.ok_next
    | ((with_reducible apply Effect.after (State.svcEnd_effect ..)); exact rfl)
    | ((with_reducible apply Effect.after (State.markChanged_effect ..)); exact rfl)
    | ((with_reducible apply Effect.after (State.switchPkg_effect ..)); exact rfl)
    | ((with_reducible apply Effect.after (State.beginExchange_effect ..)); exact rfl)
    | ((with_reducible apply Effect.after (State.updSvc_effect ..)); exact rfl)
    | ((with_reducible apply Effect.after (State.sharePkg_effect ..)); exact rfl)
    | ((with_reducible apply Effect.after (State.unitsFromPackage_effect ..)); exact rfl)
    | ((with_reducible apply Effect.after (State.configure_effect ..)); exact rfl)
    | split

theorem execHashRekey_effect (s : State) :
    Effect.ok 0x200000010 s (execHashRekey s) := by
  unfold execHashRekey
  try dsimp only
  repeat' first
    | with_reducible apply Effect.refl
    | with_reducible assumption
    | ((with_reducible apply Effect.ite) <;> intro _)
    | apply Effect.ok_next
    | ((with_reducible apply Effect.after (State.svcWork_effect ..)); exact rfl)
    | ((with_reducible apply Effect.after (State.updSwc_effect ..)); exact rfl)

theorem execHashRekeyDone_effect (s : State) :
    Effect.ok 0x47200000012 s (execHashRekeyDone s) := by
  unfold execHashRekeyDone
  try dsimp only
  repeat' first
    | with_reducible apply Effect.refl
    | with_reducible assumption
    | ((with_reducible apply Effect.ite) <;> intro _)
    | apply Effect.ok_next
    | ((with_reducible apply Effect.after (State.svcEnd_effect ..)); exact rfl)
    | ((with_reducible apply Effect.after (State.updSwc_effect ..)); exact rfl)
    | ((with_reducible apply Effect.after (State.newHashKey_effect ..)); exact rfl)
    | split

end Sys2Proof.Machine
end

