-- ==== Sys2Proof/Laws/EffRegRead.lean ====
section
/-! SUPPORT. What each operation of Machine/RegRead.lean may do: the parts it may write, and that its result follows
what it was given (Laws/Effect.lean). -/

namespace Sys2Proof.Machine

theorem State.readSlice_effect (s : State) (i : ℕ) (k : ℕ) :
    Effect 0x2 s ((State.readSlice s i k).2) := by
  unfold State.readSlice
  try dsimp only
  repeat' first
    | with_reducible apply Effect.refl
    | with_reducible assumption
    | ((with_reducible apply Effect.after (State.tokens_effect ..)); exact rfl)
    | ((with_reducible apply Effect.after (State.tokens_effect_eq ‹_›)); exact rfl)
    | split

theorem State.readSlice_effect_eq {s : State} {i : ℕ} {k : ℕ} {v_ : ℕ} {t_ : State}
    (he : State.readSlice s i k = (v_, t_)) : Effect 0x2 s t_ := by
  have h := State.readSlice_effect s i k
  rw [he] at h
  exact h

theorem State.readHif_effect (s : State) (off : ℕ) :
    Effect 0x2 s ((State.readHif s off).2) := by
  unfold State.readHif
  try dsimp only
  repeat' first
    | with_reducible apply Effect.refl
    | with_reducible assumption
    | ((with_reducible apply Effect.firstOf_cons) <;> [(intro i); skip])
    | with_reducible apply Effect.firstOf_nil
    | ((with_reducible apply Effect.after (State.readSlice_effect ..)); exact rfl)
    | ((with_reducible apply Effect.after (State.readSlice_effect_eq ‹_›)); exact rfl)
    | split

theorem State.readHif_effect_eq {s : State} {off : ℕ} {v_ : ℕ} {t_ : State}
    (he : State.readHif s off = (v_, t_)) : Effect 0x2 s t_ := by
  have h := State.readHif_effect s off
  rw [he] at h
  exact h

theorem State.readCol_effect (s : State) (p : TimePort) (off : ℕ) :
    Effect 0x400000000 s ((State.readCol s p off).2) := by
  unfold State.readCol
  try dsimp only
  repeat' first
    | with_reducible apply Effect.refl
    | with_reducible assumption
    | ((with_reducible apply Effect.after (State.latchTime_effect ..)); exact rfl)
    | split

theorem State.readCol_effect_eq {s : State} {p : TimePort} {off : ℕ} {v_ : ℕ} {t_ : State}
    (he : State.readCol s p off = (v_, t_)) : Effect 0x400000000 s t_ := by
  have h := State.readCol_effect s p off
  rw [he] at h
  exact h

end Sys2Proof.Machine
end

