-- ==== Sys2Proof/Laws/EffRegisters.lean ====
section
/-! SUPPORT. What each operation of Machine/Registers.lean may do: the parts it may write, and that its result follows
what it was given (Laws/Effect.lean). -/

namespace Sys2Proof.Machine

theorem State.readReg_effect (s : State) (p : TimePort) (a : BitVec 24) :
    Effect 0x400000002 s ((State.readReg s p a).2) := by
  unfold State.readReg
  dsimp only
  simp only [apply_ite Prod.snd]
  repeat' apply Effect.ite <;> intro _
  all_goals with_reducible first
    | apply Effect.refl
    | apply Effect.mono (State.readHif_effect ..); with_unfolding_all exact rfl
    | apply Effect.mono (State.readCol_effect ..); with_unfolding_all exact rfl

theorem State.readReg_effect_eq {s : State} {p : TimePort} {a : BitVec 24} {v_ : ℕ} {t_ : State}
    (he : State.readReg s p a = (v_, t_)) : Effect 0x400000002 s t_ := by
  have h := State.readReg_effect s p a
  rw [he] at h
  exact h

theorem State.busRead_effect (s : State) (p : TimePort) (a : BitVec 24) :
    Effect 0x400000006 s ((State.busRead s p a).2) := by
  unfold State.busRead
  try dsimp only
  repeat' first
    | with_reducible apply Effect.refl
    | with_reducible assumption
    | ((with_reducible apply Effect.after (State.notReadyWrite_effect ..)); exact rfl)
    | ((with_reducible apply Effect.after (State.setAbsent_effect ..)); exact rfl)
    | ((with_reducible apply Effect.after (State.readReg_effect ..)); exact rfl)
    | ((with_reducible apply Effect.after (State.readReg_effect_eq ‹_›)); exact rfl)
    | split

theorem State.busRead_effect_eq {s : State} {p : TimePort} {a : BitVec 24} {v_ : ℕ} {t_ : State}
    (he : State.busRead s p a = (v_, t_)) : Effect 0x400000006 s t_ := by
  have h := State.busRead_effect s p a
  rw [he] at h
  exact h

theorem execRegisterRead_effect (p : BusPort) (a : BitVec 24) (s : State) :
    Effect.ok 0x80400000006 s (execRegisterRead p a s) := by
  unfold execRegisterRead
  try dsimp only
  repeat' first
    | with_reducible apply Effect.refl
    | with_reducible assumption
    | apply Effect.ok_next
    | ((with_reducible apply Effect.after (State.busRead_effect ..)); exact rfl)
    | ((with_reducible apply Effect.after (State.busRead_effect_eq ‹_›)); exact rfl)
    | split
    | ((with_reducible apply Effect.upd) <;> [skip; exact rfl; (intro p hp; cases p <;> first | exact rfl | exact absurd hp (by decide))])

theorem State.writeFlag_effect {m : Nat} {s0 : State} (s : State) (now_ : Bool) (new : Bool) (f : State → State) (h0 : Effect m s0 s) (hf : ∀ (t : State), Effect m s0 t → Effect m s0 (f t))
    (hm : 0x4 &&& m = 0x4) : Effect m s0 (State.writeFlag s now_ new f) := by
  unfold State.writeFlag
  try dsimp only
  repeat' first
    | with_reducible apply Effect.refl
    | with_reducible assumption
    | ((with_reducible apply Effect.ite) <;> intro _)
    | with_reducible refine hf _ ?_
    | ((with_reducible apply Effect.after (State.lockedWrite_effect ..)); exact Effect.land hm rfl)

theorem State.writeRestart_effect (s : State) (v : Word) :
    Effect 0x1FFFFFFFFFFF s (State.writeRestart s v) := by
  unfold State.writeRestart
  try dsimp only
  repeat' first
    | with_reducible apply Effect.refl
    | with_reducible assumption
    | ((with_reducible apply Effect.ite) <;> intro _)
    | ((with_reducible apply Effect.after (State.free_effect ..)); exact rfl)
    | ((with_reducible apply Effect.after (State.free_effect_eq ‹_›)); exact rfl)
    | ((with_reducible apply Effect.after (State.restart_effect ..)); exact rfl)
    | split

theorem State.writeGlb_effect (s : State) (off : ℕ) (v : Word) :
    Effect 0x1FFFFFFFFFFF s (State.writeGlb s off v) := by
  unfold State.writeGlb
  try dsimp only
  repeat' first
    | with_reducible apply Effect.refl
    | with_reducible assumption
    | ((with_reducible apply Effect.ite) <;> intro _)
    | ((with_reducible apply Effect.firstOf_cons) <;> [(intro i); skip])
    | with_reducible apply Effect.firstOf_nil
    | ((with_reducible apply Effect.after (State.writeRestart_effect ..)); exact rfl)
    | ((with_reducible apply Effect.after (State.writeRun_effect ..)); exact rfl)
    | ((with_reducible apply Effect.after (State.clearRun_effect ..)); exact rfl)
    | ((with_reducible apply Effect.updGlb) <;> [skip; (intro x; first | rfl | (dsimp only; split <;> rfl)); exact rfl])
    | ((with_reducible apply Effect.after (State.lockedWrite_effect ..)); exact rfl)
    | ((with_reducible apply Effect.after (State.updTo_effect ..)); exact rfl)
    | split

theorem State.writeKa_effect (s : State) (off : ℕ) (v : Word) :
    Effect 0xC s (State.writeKa s off v) := by
  unfold State.writeKa
  try dsimp only
  repeat' first
    | with_reducible apply Effect.refl
    | with_reducible assumption
    | ((with_reducible apply Effect.after (State.updKa_effect ..)); exact rfl)
    | ((with_reducible apply State.writeFlag_effect) <;> [skip; (intro t  ht); exact rfl])
    | split

theorem State.mailWrite_effect {m : Nat} {s0 : State} (s : State) (f : State → State) (h0 : Effect m s0 s) (hf : ∀ (t : State), Effect m s0 t → Effect m s0 (f t))
    (hm : 0x14 &&& m = 0x14) : Effect m s0 (State.mailWrite s f) := by
  unfold State.mailWrite
  try dsimp only
  repeat' first
    | with_reducible apply Effect.refl
    | with_reducible assumption
    | ((with_reducible apply Effect.ite) <;> intro _)
    | with_reducible refine hf _ ?_
    | ((with_reducible apply Effect.after (State.updSvc_effect ..)); exact Effect.land hm rfl)
    | ((with_reducible apply Effect.after (State.lockedWrite_effect ..)); exact Effect.land hm rfl)

theorem State.mailStart_effect (s : State) (port : ℕ) (v : Word) :
    Effect 0x47000000012 s (State.mailStart s port v) := by
  unfold State.mailStart
  try dsimp only
  repeat' first
    | with_reducible apply Effect.refl
    | with_reducible assumption
    | ((with_reducible apply Effect.after (State.updSvc_effect ..)); exact rfl)
    | ((with_reducible apply Effect.after (State.svcStart_effect ..)); exact rfl)

theorem State.writeUnit_effect (s : State) (u : UnitId) (v : Word) :
    Effect 0x4FAD8C23FF6 s (State.writeUnit s u v) := by
  unfold State.writeUnit
  try dsimp only
  repeat' first
    | with_reducible apply Effect.refl
    | with_reducible assumption
    | ((with_reducible apply Effect.after (State.writeEn_effect ..)); exact rfl)
    | ((with_reducible apply Effect.after (State.updUnit_effect ..)); exact rfl)

theorem State.writeCap_effect (s : State) (h : ℕ) (v : Word) :
    Effect 0x1000000004 s (State.writeCap s h v) := by
  unfold State.writeCap
  try dsimp only
  repeat' first
    | with_reducible apply Effect.refl
    | with_reducible assumption
    | ((with_reducible apply Effect.ite) <;> intro _)
    | ((with_reducible apply Effect.after (State.lockedWrite_effect ..)); exact rfl)
    | ((with_reducible apply Effect.after (State.updHostPort_effect ..)); exact rfl)

theorem State.writeHif_effect (s : State) (port : ℕ) (off : ℕ) (v : Word) :
    Effect 0x4FAD8C23FF6 s (State.writeHif s port off v) := by
  unfold State.writeHif
  try dsimp only
  repeat' first
    | with_reducible apply Effect.refl
    | with_reducible assumption
    | ((with_reducible apply Effect.firstOf_cons) <;> [(intro i); skip])
    | with_reducible apply Effect.firstOf_nil
    | ((with_reducible apply State.mailWrite_effect) <;> [skip; (intro t  ht); exact rfl])
    | ((with_reducible apply Effect.after (State.mailStart_effect ..)); exact rfl)
    | ((with_reducible apply Effect.after (State.updSvc_effect ..)); exact rfl)
    | ((with_reducible apply Effect.after (State.writeCap_effect ..)); exact rfl)
    | ((with_reducible apply Effect.after (State.writeUnit_effect ..)); exact rfl)
    | split

theorem State.writeGlint_effect (s : State) (p : ℕ) (v : Word) :
    Effect 0x200000000 s (State.writeGlint s p v) := by
  unfold State.writeGlint
  try dsimp only
  repeat' first
    | with_reducible apply Effect.refl
    | with_reducible assumption
    | ((with_reducible apply Effect.after (State.updSwc_effect ..)); exact rfl)

theorem State.writeSwc_effect (s : State) (p : TimePort) (off : ℕ) (v : Word) :
    Effect 0x200000000 s (State.writeSwc s p off v) := by
  unfold State.writeSwc
  try dsimp only
  repeat' first
    | with_reducible apply Effect.refl
    | with_reducible assumption
    | ((with_reducible apply Effect.firstOf_cons) <;> [(intro i); skip])
    | with_reducible apply Effect.firstOf_nil
    | ((with_reducible apply Effect.after (State.writeGlint_effect ..)); exact rfl)
    | split

theorem State.writeSetSlo_effect (s : State) (v : Word) :
    Effect 0x400000004 s (State.writeSetSlo s v) := by
  unfold State.writeSetSlo
  try dsimp only
  repeat' first
    | with_reducible apply Effect.refl
    | with_reducible assumption
    | ((with_reducible apply Effect.ite) <;> intro _)
    | ((with_reducible apply Effect.after (State.lockedWrite_effect ..)); exact rfl)
    | ((with_reducible apply Effect.after (State.updCol_effect ..)); exact rfl)

theorem State.writeCol_effect (s : State) (off : ℕ) (v : Word) :
    Effect 0x4C04000004 s (State.writeCol s off v) := by
  unfold State.writeCol
  try dsimp only
  repeat' first
    | with_reducible apply Effect.refl
    | with_reducible assumption
    | ((with_reducible apply Effect.after (State.setNs_effect ..)); exact rfl)
    | ((with_reducible apply Effect.after (State.writeSetSlo_effect ..)); exact rfl)
    | ((with_reducible apply Effect.after (State.setGo_effect ..)); exact rfl)
    | split

theorem State.writePer_effect (s : State) (off : ℕ) (v : Word) :
    Effect 0x4000000002 s (State.writePer s off v) := by
  unfold State.writePer
  try dsimp only
  repeat' first
    | with_reducible apply Effect.refl
    | with_reducible assumption
    | ((with_reducible apply Effect.ite) <;> intro _)
    | ((with_reducible apply Effect.firstOf_cons) <;> [(intro i); skip])
    | with_reducible apply Effect.firstOf_nil
    | ((with_reducible apply Effect.after (State.setPerRun_effect ..)); exact rfl)
    | ((with_reducible apply Effect.after (State.perForce_effect ..)); exact rfl)

theorem State.writeEvr_effect (s : State) (off : ℕ) (v : Word) :
    Effect 0x4000000000 s (State.writeEvr s off v) := by
  unfold State.writeEvr
  try dsimp only
  repeat' first
    | with_reducible apply Effect.refl
    | with_reducible assumption
    | ((with_reducible apply Effect.ite) <;> intro _)
    | ((with_reducible apply Effect.after (State.updEvr_effect ..)); exact rfl)

theorem State.writeMlk_effect (s : State) (off : ℕ) (v : Word) :
    Effect 0x43AC80008C2 s (State.writeMlk s off v) := by
  unfold State.writeMlk
  try dsimp only
  repeat' first
    | with_reducible apply Effect.refl
    | with_reducible assumption
    | ((with_reducible apply Effect.ite) <;> intro _)
    | ((with_reducible apply Effect.after (State.claimLapse_effect ..)); exact rfl)
    | ((with_reducible apply Effect.after (State.updMlk_effect ..)); exact rfl)
    | ((with_reducible apply Effect.after (State.askYield_effect ..)); exact rfl)
    | split

theorem State.writeLoupe_effect (s : State) (l : ℕ) (b : ℕ) (k : ℕ) (v : Word) :
    Effect 0x4000000000 s (State.writeLoupe s l b k v) := by
  unfold State.writeLoupe
  try dsimp only
  repeat' first
    | with_reducible apply Effect.refl
    | with_reducible assumption
    | ((with_reducible apply Effect.ite) <;> intro _)
    | ((with_reducible apply Effect.after (State.updLoupe_effect ..)); exact rfl)
    | ((with_reducible apply Effect.after (State.loupeStart_effect ..)); exact rfl)
    | split

theorem State.writeLogic_effect (s : State) (l : ℕ) (f : ℕ) (v : Word) :
    Effect 0x800 s (State.writeLogic s l f v) := by
  unfold State.writeLogic
  try dsimp only
  repeat' first
    | with_reducible apply Effect.refl
    | with_reducible assumption
    | ((with_reducible apply Effect.after (State.updLogic_effect ..)); exact rfl)
    | split

theorem State.writeLens_effect (s : State) (l : ℕ) (off : ℕ) (v : Word) :
    Effect 0x4FAD8C23FF6 s (State.writeLens s l off v) := by
  unfold State.writeLens
  try dsimp only
  repeat' first
    | with_reducible apply Effect.refl
    | with_reducible assumption
    | ((with_reducible apply Effect.ite) <;> intro _)
    | ((with_reducible apply Effect.firstOf_cons) <;> [(intro i); skip])
    | with_reducible apply Effect.firstOf_nil
    | ((with_reducible apply Effect.after (State.writeUnit_effect ..)); exact rfl)
    | ((with_reducible apply Effect.after (State.writeLogic_effect ..)); exact rfl)
    | ((with_reducible apply Effect.after (State.writeLoupe_effect ..)); exact rfl)

theorem State.writeCnv_effect (s : State) (off : ℕ) (v : Word) :
    Effect 0x4FAD8C23FF6 s (State.writeCnv s off v) := by
  unfold State.writeCnv
  try dsimp only
  repeat' first
    | with_reducible apply Effect.refl
    | with_reducible assumption
    | ((with_reducible apply Effect.firstOf_cons) <;> [(intro i); skip])
    | with_reducible apply Effect.firstOf_nil
    | ((with_reducible apply Effect.after (State.writeUnit_effect ..)); exact rfl)

theorem State.writePwmStat_effect (s : State) (n : ℕ) (v : Word) :
    Effect 0x80000000 s (State.writePwmStat s n v) := by
  unfold State.writePwmStat
  try dsimp only
  repeat' first
    | with_reducible apply Effect.refl
    | with_reducible assumption
    | ((with_reducible apply Effect.ite) <;> intro _)
    | ((with_reducible apply Effect.after (State.updPwm_effect ..)); exact rfl)
    | ((with_reducible apply Effect.after (State.clearPwmTrip_effect ..)); exact rfl)

theorem State.writePwm_effect (s : State) (off : ℕ) (v : Word) :
    Effect 0x4FBD8C23FF6 s (State.writePwm s off v) := by
  unfold State.writePwm
  try dsimp only
  repeat' first
    | with_reducible apply Effect.refl
    | with_reducible assumption
    | ((with_reducible apply Effect.firstOf_cons) <;> [(intro i); skip])
    | with_reducible apply Effect.firstOf_nil
    | ((with_reducible apply Effect.after (State.writeUnit_effect ..)); exact rfl)
    | ((with_reducible apply Effect.after (State.writePwmStat_effect ..)); exact rfl)
    | ((with_reducible apply Effect.after (State.updTi_effect ..)); exact rfl)

theorem State.writeArmTrip_effect (s : State) (a : ℕ) (v : Word) :
    Effect 0x8000000 s (State.writeArmTrip s a v) := by
  unfold State.writeArmTrip
  try dsimp only
  repeat' first
    | with_reducible apply Effect.refl
    | with_reducible assumption
    | ((with_reducible apply Effect.ite) <;> intro _)
    | ((with_reducible apply Effect.after (State.updArm_effect ..)); exact rfl)
    | ((with_reducible apply Effect.after (State.clearArmTrip_effect ..)); exact rfl)

theorem State.writeBln_effect (s : State) (off : ℕ) (v : Word) :
    Effect 0x4FAD8C23FF6 s (State.writeBln s off v) := by
  unfold State.writeBln
  try dsimp only
  repeat' first
    | with_reducible apply Effect.refl
    | with_reducible assumption
    | ((with_reducible apply Effect.firstOf_cons) <;> [(intro i); skip])
    | with_reducible apply Effect.firstOf_nil
    | ((with_reducible apply Effect.after (State.writeUnit_effect ..)); exact rfl)
    | ((with_reducible apply Effect.after (State.writeArmTrip_effect ..)); exact rfl)

theorem State.writeReg_effect (s : State) (p : TimePort) (a : BitVec 24) (v : Word) :
    Effect 0x1FFFFFFFFFFF s (State.writeReg s p a v) := by
  unfold State.writeReg
  try dsimp only
  repeat' first
    | with_reducible apply Effect.refl
    | with_reducible assumption
    | ((with_reducible apply Effect.ite) <;> intro _)
    | ((with_reducible apply Effect.firstOf_cons) <;> [(intro i); skip])
    | with_reducible apply Effect.firstOf_nil
    | ((with_reducible apply Effect.after (State.writeGlb_effect ..)); exact rfl)
    | ((with_reducible apply Effect.after (State.writeKa_effect ..)); exact rfl)
    | ((with_reducible apply Effect.after (State.writeHif_effect ..)); exact rfl)
    | ((with_reducible apply Effect.after (State.writeSwc_effect ..)); exact rfl)
    | ((with_reducible apply Effect.after (State.writeUnit_effect ..)); exact rfl)
    | ((with_reducible apply Effect.after (State.writeCol_effect ..)); exact rfl)
    | ((with_reducible apply Effect.after (State.writePer_effect ..)); exact rfl)
    | ((with_reducible apply Effect.after (State.writeEvr_effect ..)); exact rfl)
    | ((with_reducible apply Effect.after (State.writeMlk_effect ..)); exact rfl)
    | ((with_reducible apply Effect.after (State.writeLens_effect ..)); exact rfl)
    | ((with_reducible apply Effect.after (State.writeCnv_effect ..)); exact rfl)
    | ((with_reducible apply Effect.after (State.writePwm_effect ..)); exact rfl)
    | ((with_reducible apply Effect.after (State.writeBln_effect ..)); exact rfl)

theorem State.busWrite_effect (s : State) (p : TimePort) (a : BitVec 24) (v : Word) :
    Effect 0x1FFFFFFFFFFF s (State.busWrite s p a v) := by
  unfold State.busWrite
  try dsimp only
  repeat' first
    | with_reducible apply Effect.refl
    | with_reducible assumption
    | ((with_reducible apply Effect.ite) <;> intro _)
    | ((with_reducible apply Effect.after (State.notReadyWrite_effect ..)); exact rfl)
    | ((with_reducible apply Effect.after (State.setAbsent_effect ..)); exact rfl)
    | ((with_reducible apply Effect.after (State.writeReg_effect ..)); exact rfl)

theorem State.writeVec_effect (s : State) (h : ℕ) (a : BitVec 24) (v : Word) :
    Effect 0x41000000000 s (State.writeVec s h a v) := by
  unfold State.writeVec
  try dsimp only
  repeat' first
    | with_reducible apply Effect.refl
    | with_reducible assumption
    | ((with_reducible apply Effect.ite) <;> intro _)
    | ((with_reducible apply Effect.after (State.updHif_effect ..)); exact rfl)
    | ((with_reducible apply Effect.after (State.setMask_effect ..)); exact rfl)
    | split

theorem execRegisterWrite_effect (p : BusPort) (a : BitVec 24) (v : Word) (width : ℕ) (s : State) :
    Effect.ok 0x1FFFFFFFFFFF s (execRegisterWrite p a v width s) := by
  unfold execRegisterWrite
  try dsimp only
  repeat' first
    | with_reducible apply Effect.refl
    | with_reducible assumption
    | ((with_reducible apply Effect.ite) <;> intro _)
    | apply Effect.ok_next
    | ((with_reducible apply Effect.after (State.lockedWrite_effect ..)); exact rfl)
    | ((with_reducible apply Effect.after (State.busWrite_effect ..)); exact rfl)
    | ((with_reducible apply Effect.after (State.writeVec_effect ..)); exact rfl)
    | split

end Sys2Proof.Machine
end

