-- ==== Sys2Proof/Laws/EffSelfTest.lean ====
section
/-! SUPPORT. What each operation of Machine/SelfTest.lean may do: the parts it may write, and that its result follows
what it was given (Laws/Effect.lean). -/

namespace Sys2Proof.Machine

theorem State.rollFacet_effect (s : State) (l : ℕ) (f : ℕ) (pass : Bool) :
    Effect 0x5FAD8C00FC6 s (State.rollFacet s l f pass) := by
  unfold State.rollFacet
  try dsimp only
  repeat' first
    | with_reducible apply Effect.refl
    | with_reducible assumption
    | ((with_reducible apply Effect.ite) <;> intro _)
    | ((with_reducible apply Effect.after (State.moveOut_effect ..)); exact rfl)
    | ((with_reducible apply Effect.after (State.rotated_effect ..)); exact rfl)
    | ((with_reducible apply Effect.after (State.updLens_effect ..)); exact rfl)
    | ((with_reducible apply Effect.after (State.rollFailed_effect ..)); exact rfl)
    | ((with_reducible apply Effect.after (State.hwFault_effect ..)); exact rfl)

theorem execRollingSelftestDone_effect (l : Fin 16) (x : RollTarget) (pass : Bool) (s : State) :
    Effect.ok 0x5FAD8C00FC6 s (execRollingSelftestDone l x pass s) := by
  unfold execRollingSelftestDone
  try dsimp only
  repeat' first
    | with_reducible apply Effect.refl
    | with_reducible assumption
    | ((with_reducible apply Effect.ite) <;> intro _)
    | apply Effect.ok_next
    | ((with_reducible apply Effect.after (State.rollFacet_effect ..)); exact rfl)
    | ((with_reducible apply Effect.after (State.rollFailed_effect ..)); exact rfl)
    | split

end Sys2Proof.Machine
end

