-- ==== Sys2Proof/Laws/EffTimePulse.lean ====
section
/-! SUPPORT. What each operation of Machine/TimePulse.lean may do: the parts it may write, and that its result follows
what it was given (Laws/Effect.lean). -/

namespace Sys2Proof.Machine

theorem State.pubSynch_effect (s : State) :
    Effect 0x2 s ((State.pubSynch s).2) := by
  unfold State.pubSynch
  try dsimp only
  repeat' first
    | with_reducible apply Effect.refl
    | with_reducible assumption
    | ((with_reducible apply Effect.after (State.free_effect ..)); exact rfl)
    | ((with_reducible apply Effect.after (State.free_effect_eq ‹_›)); exact rfl)
    | split

theorem State.pubSynch_effect_eq {s : State} {v_ : ℕ} {t_ : State}
    (he : State.pubSynch s = (v_, t_)) : Effect 0x2 s t_ := by
  have h := State.pubSynch_effect s
  rw [he] at h
  exact h

theorem State.publish_effect (s : State) (k : ℕ) (t : ℕ) :
    Effect 0x4D202000002 s (State.publish s k t) := by
  unfold State.publish
  try dsimp only
  repeat' first
    | with_reducible apply Effect.refl
    | with_reducible assumption
    | ((with_reducible apply Effect.ite) <;> intro _)
    | ((with_reducible apply Effect.after (State.pubSynch_effect ..)); exact rfl)
    | ((with_reducible apply Effect.after (State.pubSynch_effect_eq ‹_›)); exact rfl)
    | ((with_reducible apply Effect.after (State.pubTag_effect ..)); exact rfl)
    | ((with_reducible apply Effect.after (State.pubTag_effect_eq ‹_›)); exact rfl)
    | ((with_reducible apply Effect.after (State.sendBuilt_effect ..)); exact rfl)
    | split
    | ((with_reducible apply Effect.upd) <;> [skip; exact rfl; (intro p hp; cases p <;> first | exact rfl | exact absurd hp (by decide))])

theorem State.pulseOut_effect (s : State) (g : ℕ) (t : ℕ) :
    Effect 0x4D282000002 s (State.pulseOut s g t) := by
  unfold State.pulseOut
  try dsimp only
  repeat' first
    | with_reducible apply Effect.refl
    | with_reducible assumption
    | ((with_reducible apply Effect.ite) <;> intro _)
    | ((with_reducible apply Effect.each) <;> [skip; (intro t x ht)])
    | ((with_reducible apply Effect.after (State.pwmSync_effect ..)); exact rfl)
    | ((with_reducible apply Effect.after (State.publish_effect ..)); exact rfl)
    | ((with_reducible apply Effect.after (State.loupeEvent_effect ..)); exact rfl)
    | ((with_reducible apply Effect.after (State.perEvent_effect ..)); exact rfl)
    | ((with_reducible apply Effect.after (State.emit_effect ..)); exact rfl)

theorem execTpPulse_effect (g : Fin 16) (s : State) :
    Effect.ok 0x4D682000003 s (execTpPulse g s) := by
  unfold execTpPulse
  try dsimp only
  repeat' first
    | with_reducible apply Effect.refl
    | with_reducible assumption
    | ((with_reducible apply Effect.ite) <;> intro _)
    | apply Effect.ok_next
    | ((with_reducible apply Effect.after (State.upToTai_effect ..)); exact rfl)
    | ((with_reducible apply Effect.after (State.updTp_effect ..)); exact rfl)
    | ((with_reducible apply Effect.after (State.pulseOut_effect ..)); exact rfl)
    | split

end Sys2Proof.Machine
end

