-- ==== Sys2Proof/Laws/LifeCycle.lean ====
section
/-! SUPPORT. The one command that changes the life-cycle state: what a transition does before its restart, and the
end of one. -/

namespace Sys2Proof.Machine

/-- Writing the life-cycle state is no restart: the queue, the time and the memories stay. -/
theorem State.Follows.setLcs (s : State) (d : Lcs) : s.Follows (s.updGlb fun g => { g with lcs := d }) :=
  ⟨rfl, Nat.le_refl _, List.prefix_refl _, id⟩

/-- What a transition does (R69): the life-cycle state becomes its destination, and the rest of its action keeps it. -/
theorem State.lcAction_effect (s : State) (t : Token) :
    Effect 0x28000000012 ((s.updObs fun o => { o with lcCount := Nat.min 0xFFFF (o.lcCount + 1) }).updGlb
      fun g => { g with lcs := t.dest }) (s.lcAction t) := by
  unfold State.lcAction
  dsimp only
  split
  · exact (((State.free_effect ..).mono rfl).go (State.clearSlots_effect ..) rfl).go (State.setSlot_effect ..) rfl
  · exact ((State.clearSlots_effect ..).mono rfl).go (State.updSvc_effect ..) rfl
  · exact (State.updHw_effect ..).mono rfl
  · exact .refl _ _

theorem State.lcAction_follows (s : State) (t : Token) : s.Follows (s.lcAction t) :=
  ((State.updObs_effect s _).follows.trans (.setLcs _ _)).trans (s.lcAction_effect t).follows

theorem State.lcAction_lcs (s : State) (t : Token) : (s.lcAction t).glb.lcs = t.dest := (s.lcAction_effect t).lcs

theorem execLcTransitionDone_follows (s : State) : ∃ t, execLcTransitionDone s = .next t ∧ s.Follows t := by
  refine ⟨_, rfl, ?_⟩
  split
  · split
    · exact .refl s
    · split
      · split
        · exact (State.svcEnd_effect ..).follows
        · exact ((s.lcAction_follows _).trans (State.toOffline_effect ..).follows).trans (State.svcEnd_effect ..).follows
      · exact ((s.lcAction_follows _).trans (State.updSvc_effect ..).follows).trans (State.restart_effect ..).follows
  · exact .refl s

end Sys2Proof.Machine
end

