-- ==== Sys2Proof/Laws/State.lean ====
section
/-! SUPPORT. What one update of the state changes and leaves: one lemma per field and update, true by rfl. -/

namespace Sys2Proof.Machine

variable (s : State)

/-! ### updUnit -/
@[simp] theorem State.updUnit_units (u : UnitId) (g : UnitSt → UnitSt) : (s.updUnit u g).units = s.units.upd (unitKey u) g := rfl
@[simp] theorem State.updUnit_now (u : UnitId) (g : UnitSt → UnitSt) : (s.updUnit u g).now = s.now := rfl
@[simp] theorem State.updUnit_freeIdx (u : UnitId) (g : UnitSt → UnitSt) : (s.updUnit u g).freeIdx = s.freeIdx := rfl
@[simp] theorem State.updUnit_glb (u : UnitId) (g : UnitSt → UnitSt) : (s.updUnit u g).glb = s.glb := rfl
@[simp] theorem State.updUnit_ka (u : UnitId) (g : UnitSt → UnitSt) : (s.updUnit u g).ka = s.ka := rfl
@[simp] theorem State.updUnit_svc (u : UnitId) (g : UnitSt → UnitSt) : (s.updUnit u g).svc = s.svc := rfl
@[simp] theorem State.updUnit_facets (u : UnitId) (g : UnitSt → UnitSt) : (s.updUnit u g).facets = s.facets := rfl
@[simp] theorem State.updUnit_progs (u : UnitId) (g : UnitSt → UnitSt) : (s.updUnit u g).progs = s.progs := rfl
@[simp] theorem State.updUnit_lenses (u : UnitId) (g : UnitSt → UnitSt) : (s.updUnit u g).lenses = s.lenses := rfl
@[simp] theorem State.updUnit_fencedFlash (u : UnitId) (g : UnitSt → UnitSt) : (s.updUnit u g).fencedFlash = s.fencedFlash := rfl
@[simp] theorem State.updUnit_lanes (u : UnitId) (g : UnitSt → UnitSt) : (s.updUnit u g).lanes = s.lanes := rfl
@[simp] theorem State.updUnit_logic (u : UnitId) (g : UnitSt → UnitSt) : (s.updUnit u g).logic = s.logic := rfl
@[simp] theorem State.updUnit_slots64 (u : UnitId) (g : UnitSt → UnitSt) : (s.updUnit u g).slots64 = s.slots64 := rfl
@[simp] theorem State.updUnit_stns (u : UnitId) (g : UnitSt → UnitSt) : (s.updUnit u g).stns = s.stns := rfl
@[simp] theorem State.updUnit_conds (u : UnitId) (g : UnitSt → UnitSt) : (s.updUnit u g).conds = s.conds := rfl
@[simp] theorem State.updUnit_svs (u : UnitId) (g : UnitSt → UnitSt) : (s.updUnit u g).svs = s.svs := rfl
@[simp] theorem State.updUnit_chains (u : UnitId) (g : UnitSt → UnitSt) : (s.updUnit u g).chains = s.chains := rfl
@[simp] theorem State.updUnit_chSlots (u : UnitId) (g : UnitSt → UnitSt) : (s.updUnit u g).chSlots = s.chSlots := rfl
@[simp] theorem State.updUnit_fns (u : UnitId) (g : UnitSt → UnitSt) : (s.updUnit u g).fns = s.fns := rfl
@[simp] theorem State.updUnit_pcOvr (u : UnitId) (g : UnitSt → UnitSt) : (s.updUnit u g).pcOvr = s.pcOvr := rfl
@[simp] theorem State.updUnit_pcDeadline (u : UnitId) (g : UnitSt → UnitSt) : (s.updUnit u g).pcDeadline = s.pcDeadline := rfl
@[simp] theorem State.updUnit_prots (u : UnitId) (g : UnitSt → UnitSt) : (s.updUnit u g).prots = s.prots := rfl
@[simp] theorem State.updUnit_tos (u : UnitId) (g : UnitSt → UnitSt) : (s.updUnit u g).tos = s.tos := rfl
@[simp] theorem State.updUnit_gps (u : UnitId) (g : UnitSt → UnitSt) : (s.updUnit u g).gps = s.gps := rfl
@[simp] theorem State.updUnit_gss (u : UnitId) (g : UnitSt → UnitSt) : (s.updUnit u g).gss = s.gss := rfl
@[simp] theorem State.updUnit_svPubs (u : UnitId) (g : UnitSt → UnitSt) : (s.updUnit u g).svPubs = s.svPubs := rfl
@[simp] theorem State.updUnit_cnv (u : UnitId) (g : UnitSt → UnitSt) : (s.updUnit u g).cnv = s.cnv := rfl
@[simp] theorem State.updUnit_arms (u : UnitId) (g : UnitSt → UnitSt) : (s.updUnit u g).arms = s.arms := rfl
@[simp] theorem State.updUnit_sms (u : UnitId) (g : UnitSt → UnitSt) : (s.updUnit u g).sms = s.sms := rfl
@[simp] theorem State.updUnit_engines (u : UnitId) (g : UnitSt → UnitSt) : (s.updUnit u g).engines = s.engines := rfl
@[simp] theorem State.updUnit_beams (u : UnitId) (g : UnitSt → UnitSt) : (s.updUnit u g).beams = s.beams := rfl
@[simp] theorem State.updUnit_pwms (u : UnitId) (g : UnitSt → UnitSt) : (s.updUnit u g).pwms = s.pwms := rfl
@[simp] theorem State.updUnit_tis (u : UnitId) (g : UnitSt → UnitSt) : (s.updUnit u g).tis = s.tis := rfl
@[simp] theorem State.updUnit_swc (u : UnitId) (g : UnitSt → UnitSt) : (s.updUnit u g).swc = s.swc := rfl
@[simp] theorem State.updUnit_col (u : UnitId) (g : UnitSt → UnitSt) : (s.updUnit u g).col = s.col := rfl
@[simp] theorem State.updUnit_fbcs (u : UnitId) (g : UnitSt → UnitSt) : (s.updUnit u g).fbcs = s.fbcs := rfl
@[simp] theorem State.updUnit_hif (u : UnitId) (g : UnitSt → UnitSt) : (s.updUnit u g).hif = s.hif := rfl
@[simp] theorem State.updUnit_mlk (u : UnitId) (g : UnitSt → UnitSt) : (s.updUnit u g).mlk = s.mlk := rfl
@[simp] theorem State.updUnit_recs (u : UnitId) (g : UnitSt → UnitSt) : (s.updUnit u g).recs = s.recs := rfl
@[simp] theorem State.updUnit_obs (u : UnitId) (g : UnitSt → UnitSt) : (s.updUnit u g).obs = s.obs := rfl
@[simp] theorem State.updUnit_bst (u : UnitId) (g : UnitSt → UnitSt) : (s.updUnit u g).bst = s.bst := rfl
@[simp] theorem State.updUnit_hw (u : UnitId) (g : UnitSt → UnitSt) : (s.updUnit u g).hw = s.hw := rfl
@[simp] theorem State.updUnit_outputs (u : UnitId) (g : UnitSt → UnitSt) : (s.updUnit u g).outputs = s.outputs := rfl
@[simp] theorem State.updUnit_lastRead (u : UnitId) (g : UnitSt → UnitSt) : (s.updUnit u g).lastRead = s.lastRead := rfl
@[simp] theorem State.updUnit_pending (u : UnitId) (g : UnitSt → UnitSt) : (s.updUnit u g).pending = s.pending := rfl

/-! ### updFacet -/
@[simp] theorem State.updFacet_facets (l f : Nat) (g : FacetSt → FacetSt) : (s.updFacet l f g).facets = s.facets.upd (fKey l f) g := rfl
@[simp] theorem State.updFacet_now (l f : Nat) (g : FacetSt → FacetSt) : (s.updFacet l f g).now = s.now := rfl
@[simp] theorem State.updFacet_freeIdx (l f : Nat) (g : FacetSt → FacetSt) : (s.updFacet l f g).freeIdx = s.freeIdx := rfl
@[simp] theorem State.updFacet_glb (l f : Nat) (g : FacetSt → FacetSt) : (s.updFacet l f g).glb = s.glb := rfl
@[simp] theorem State.updFacet_ka (l f : Nat) (g : FacetSt → FacetSt) : (s.updFacet l f g).ka = s.ka := rfl
@[simp] theorem State.updFacet_svc (l f : Nat) (g : FacetSt → FacetSt) : (s.updFacet l f g).svc = s.svc := rfl
@[simp] theorem State.updFacet_units (l f : Nat) (g : FacetSt → FacetSt) : (s.updFacet l f g).units = s.units := rfl
@[simp] theorem State.updFacet_progs (l f : Nat) (g : FacetSt → FacetSt) : (s.updFacet l f g).progs = s.progs := rfl
@[simp] theorem State.updFacet_lenses (l f : Nat) (g : FacetSt → FacetSt) : (s.updFacet l f g).lenses = s.lenses := rfl
@[simp] theorem State.updFacet_fencedFlash (l f : Nat) (g : FacetSt → FacetSt) : (s.updFacet l f g).fencedFlash = s.fencedFlash := rfl
@[simp] theorem State.updFacet_lanes (l f : Nat) (g : FacetSt → FacetSt) : (s.updFacet l f g).lanes = s.lanes := rfl
@[simp] theorem State.updFacet_logic (l f : Nat) (g : FacetSt → FacetSt) : (s.updFacet l f g).logic = s.logic := rfl
@[simp] theorem State.updFacet_slots64 (l f : Nat) (g : FacetSt → FacetSt) : (s.updFacet l f g).slots64 = s.slots64 := rfl
@[simp] theorem State.updFacet_stns (l f : Nat) (g : FacetSt → FacetSt) : (s.updFacet l f g).stns = s.stns := rfl
@[simp] theorem State.updFacet_conds (l f : Nat) (g : FacetSt → FacetSt) : (s.updFacet l f g).conds = s.conds := rfl
@[simp] theorem State.updFacet_svs (l f : Nat) (g : FacetSt → FacetSt) : (s.updFacet l f g).svs = s.svs := rfl
@[simp] theorem State.updFacet_chains (l f : Nat) (g : FacetSt → FacetSt) : (s.updFacet l f g).chains = s.chains := rfl
@[simp] theorem State.updFacet_chSlots (l f : Nat) (g : FacetSt → FacetSt) : (s.updFacet l f g).chSlots = s.chSlots := rfl
@[simp] theorem State.updFacet_fns (l f : Nat) (g : FacetSt → FacetSt) : (s.updFacet l f g).fns = s.fns := rfl
@[simp] theorem State.updFacet_pcOvr (l f : Nat) (g : FacetSt → FacetSt) : (s.updFacet l f g).pcOvr = s.pcOvr := rfl
@[simp] theorem State.updFacet_pcDeadline (l f : Nat) (g : FacetSt → FacetSt) : (s.updFacet l f g).pcDeadline = s.pcDeadline := rfl
@[simp] theorem State.updFacet_prots (l f : Nat) (g : FacetSt → FacetSt) : (s.updFacet l f g).prots = s.prots := rfl
@[simp] theorem State.updFacet_tos (l f : Nat) (g : FacetSt → FacetSt) : (s.updFacet l f g).tos = s.tos := rfl
@[simp] theorem State.updFacet_gps (l f : Nat) (g : FacetSt → FacetSt) : (s.updFacet l f g).gps = s.gps := rfl
@[simp] theorem State.updFacet_gss (l f : Nat) (g : FacetSt → FacetSt) : (s.updFacet l f g).gss = s.gss := rfl
@[simp] theorem State.updFacet_svPubs (l f : Nat) (g : FacetSt → FacetSt) : (s.updFacet l f g).svPubs = s.svPubs := rfl
@[simp] theorem State.updFacet_cnv (l f : Nat) (g : FacetSt → FacetSt) : (s.updFacet l f g).cnv = s.cnv := rfl
@[simp] theorem State.updFacet_arms (l f : Nat) (g : FacetSt → FacetSt) : (s.updFacet l f g).arms = s.arms := rfl
@[simp] theorem State.updFacet_sms (l f : Nat) (g : FacetSt → FacetSt) : (s.updFacet l f g).sms = s.sms := rfl
@[simp] theorem State.updFacet_engines (l f : Nat) (g : FacetSt → FacetSt) : (s.updFacet l f g).engines = s.engines := rfl
@[simp] theorem State.updFacet_beams (l f : Nat) (g : FacetSt → FacetSt) : (s.updFacet l f g).beams = s.beams := rfl
@[simp] theorem State.updFacet_pwms (l f : Nat) (g : FacetSt → FacetSt) : (s.updFacet l f g).pwms = s.pwms := rfl
@[simp] theorem State.updFacet_tis (l f : Nat) (g : FacetSt → FacetSt) : (s.updFacet l f g).tis = s.tis := rfl
@[simp] theorem State.updFacet_swc (l f : Nat) (g : FacetSt → FacetSt) : (s.updFacet l f g).swc = s.swc := rfl
@[simp] theorem State.updFacet_col (l f : Nat) (g : FacetSt → FacetSt) : (s.updFacet l f g).col = s.col := rfl
@[simp] theorem State.updFacet_fbcs (l f : Nat) (g : FacetSt → FacetSt) : (s.updFacet l f g).fbcs = s.fbcs := rfl
@[simp] theorem State.updFacet_hif (l f : Nat) (g : FacetSt → FacetSt) : (s.updFacet l f g).hif = s.hif := rfl
@[simp] theorem State.updFacet_mlk (l f : Nat) (g : FacetSt → FacetSt) : (s.updFacet l f g).mlk = s.mlk := rfl
@[simp] theorem State.updFacet_recs (l f : Nat) (g : FacetSt → FacetSt) : (s.updFacet l f g).recs = s.recs := rfl
@[simp] theorem State.updFacet_obs (l f : Nat) (g : FacetSt → FacetSt) : (s.updFacet l f g).obs = s.obs := rfl
@[simp] theorem State.updFacet_bst (l f : Nat) (g : FacetSt → FacetSt) : (s.updFacet l f g).bst = s.bst := rfl
@[simp] theorem State.updFacet_hw (l f : Nat) (g : FacetSt → FacetSt) : (s.updFacet l f g).hw = s.hw := rfl
@[simp] theorem State.updFacet_outputs (l f : Nat) (g : FacetSt → FacetSt) : (s.updFacet l f g).outputs = s.outputs := rfl
@[simp] theorem State.updFacet_lastRead (l f : Nat) (g : FacetSt → FacetSt) : (s.updFacet l f g).lastRead = s.lastRead := rfl
@[simp] theorem State.updFacet_pending (l f : Nat) (g : FacetSt → FacetSt) : (s.updFacet l f g).pending = s.pending := rfl

/-! ### updProg -/
@[simp] theorem State.updProg_progs (l f : Nat) (g : ProgSt → ProgSt) : (s.updProg l f g).progs = s.progs.upd (fKey l f) g := rfl
@[simp] theorem State.updProg_now (l f : Nat) (g : ProgSt → ProgSt) : (s.updProg l f g).now = s.now := rfl
@[simp] theorem State.updProg_freeIdx (l f : Nat) (g : ProgSt → ProgSt) : (s.updProg l f g).freeIdx = s.freeIdx := rfl
@[simp] theorem State.updProg_glb (l f : Nat) (g : ProgSt → ProgSt) : (s.updProg l f g).glb = s.glb := rfl
@[simp] theorem State.updProg_ka (l f : Nat) (g : ProgSt → ProgSt) : (s.updProg l f g).ka = s.ka := rfl
@[simp] theorem State.updProg_svc (l f : Nat) (g : ProgSt → ProgSt) : (s.updProg l f g).svc = s.svc := rfl
@[simp] theorem State.updProg_units (l f : Nat) (g : ProgSt → ProgSt) : (s.updProg l f g).units = s.units := rfl
@[simp] theorem State.updProg_facets (l f : Nat) (g : ProgSt → ProgSt) : (s.updProg l f g).facets = s.facets := rfl
@[simp] theorem State.updProg_lenses (l f : Nat) (g : ProgSt → ProgSt) : (s.updProg l f g).lenses = s.lenses := rfl
@[simp] theorem State.updProg_fencedFlash (l f : Nat) (g : ProgSt → ProgSt) : (s.updProg l f g).fencedFlash = s.fencedFlash := rfl
@[simp] theorem State.updProg_lanes (l f : Nat) (g : ProgSt → ProgSt) : (s.updProg l f g).lanes = s.lanes := rfl
@[simp] theorem State.updProg_logic (l f : Nat) (g : ProgSt → ProgSt) : (s.updProg l f g).logic = s.logic := rfl
@[simp] theorem State.updProg_slots64 (l f : Nat) (g : ProgSt → ProgSt) : (s.updProg l f g).slots64 = s.slots64 := rfl
@[simp] theorem State.updProg_stns (l f : Nat) (g : ProgSt → ProgSt) : (s.updProg l f g).stns = s.stns := rfl
@[simp] theorem State.updProg_conds (l f : Nat) (g : ProgSt → ProgSt) : (s.updProg l f g).conds = s.conds := rfl
@[simp] theorem State.updProg_svs (l f : Nat) (g : ProgSt → ProgSt) : (s.updProg l f g).svs = s.svs := rfl
@[simp] theorem State.updProg_chains (l f : Nat) (g : ProgSt → ProgSt) : (s.updProg l f g).chains = s.chains := rfl
@[simp] theorem State.updProg_chSlots (l f : Nat) (g : ProgSt → ProgSt) : (s.updProg l f g).chSlots = s.chSlots := rfl
@[simp] theorem State.updProg_fns (l f : Nat) (g : ProgSt → ProgSt) : (s.updProg l f g).fns = s.fns := rfl
@[simp] theorem State.updProg_pcOvr (l f : Nat) (g : ProgSt → ProgSt) : (s.updProg l f g).pcOvr = s.pcOvr := rfl
@[simp] theorem State.updProg_pcDeadline (l f : Nat) (g : ProgSt → ProgSt) : (s.updProg l f g).pcDeadline = s.pcDeadline := rfl
@[simp] theorem State.updProg_prots (l f : Nat) (g : ProgSt → ProgSt) : (s.updProg l f g).prots = s.prots := rfl
@[simp] theorem State.updProg_tos (l f : Nat) (g : ProgSt → ProgSt) : (s.updProg l f g).tos = s.tos := rfl
@[simp] theorem State.updProg_gps (l f : Nat) (g : ProgSt → ProgSt) : (s.updProg l f g).gps = s.gps := rfl
@[simp] theorem State.updProg_gss (l f : Nat) (g : ProgSt → ProgSt) : (s.updProg l f g).gss = s.gss := rfl
@[simp] theorem State.updProg_svPubs (l f : Nat) (g : ProgSt → ProgSt) : (s.updProg l f g).svPubs = s.svPubs := rfl
@[simp] theorem State.updProg_cnv (l f : Nat) (g : ProgSt → ProgSt) : (s.updProg l f g).cnv = s.cnv := rfl
@[simp] theorem State.updProg_arms (l f : Nat) (g : ProgSt → ProgSt) : (s.updProg l f g).arms = s.arms := rfl
@[simp] theorem State.updProg_sms (l f : Nat) (g : ProgSt → ProgSt) : (s.updProg l f g).sms = s.sms := rfl
@[simp] theorem State.updProg_engines (l f : Nat) (g : ProgSt → ProgSt) : (s.updProg l f g).engines = s.engines := rfl
@[simp] theorem State.updProg_beams (l f : Nat) (g : ProgSt → ProgSt) : (s.updProg l f g).beams = s.beams := rfl
@[simp] theorem State.updProg_pwms (l f : Nat) (g : ProgSt → ProgSt) : (s.updProg l f g).pwms = s.pwms := rfl
@[simp] theorem State.updProg_tis (l f : Nat) (g : ProgSt → ProgSt) : (s.updProg l f g).tis = s.tis := rfl
@[simp] theorem State.updProg_swc (l f : Nat) (g : ProgSt → ProgSt) : (s.updProg l f g).swc = s.swc := rfl
@[simp] theorem State.updProg_col (l f : Nat) (g : ProgSt → ProgSt) : (s.updProg l f g).col = s.col := rfl
@[simp] theorem State.updProg_fbcs (l f : Nat) (g : ProgSt → ProgSt) : (s.updProg l f g).fbcs = s.fbcs := rfl
@[simp] theorem State.updProg_hif (l f : Nat) (g : ProgSt → ProgSt) : (s.updProg l f g).hif = s.hif := rfl
@[simp] theorem State.updProg_mlk (l f : Nat) (g : ProgSt → ProgSt) : (s.updProg l f g).mlk = s.mlk := rfl
@[simp] theorem State.updProg_recs (l f : Nat) (g : ProgSt → ProgSt) : (s.updProg l f g).recs = s.recs := rfl
@[simp] theorem State.updProg_obs (l f : Nat) (g : ProgSt → ProgSt) : (s.updProg l f g).obs = s.obs := rfl
@[simp] theorem State.updProg_bst (l f : Nat) (g : ProgSt → ProgSt) : (s.updProg l f g).bst = s.bst := rfl
@[simp] theorem State.updProg_hw (l f : Nat) (g : ProgSt → ProgSt) : (s.updProg l f g).hw = s.hw := rfl
@[simp] theorem State.updProg_outputs (l f : Nat) (g : ProgSt → ProgSt) : (s.updProg l f g).outputs = s.outputs := rfl
@[simp] theorem State.updProg_lastRead (l f : Nat) (g : ProgSt → ProgSt) : (s.updProg l f g).lastRead = s.lastRead := rfl
@[simp] theorem State.updProg_pending (l f : Nat) (g : ProgSt → ProgSt) : (s.updProg l f g).pending = s.pending := rfl

/-! ### updLens -/
@[simp] theorem State.updLens_lenses (l : Nat) (g : LensSt → LensSt) : (s.updLens l g).lenses = s.lenses.upd l g := rfl
@[simp] theorem State.updLens_now (l : Nat) (g : LensSt → LensSt) : (s.updLens l g).now = s.now := rfl
@[simp] theorem State.updLens_freeIdx (l : Nat) (g : LensSt → LensSt) : (s.updLens l g).freeIdx = s.freeIdx := rfl
@[simp] theorem State.updLens_glb (l : Nat) (g : LensSt → LensSt) : (s.updLens l g).glb = s.glb := rfl
@[simp] theorem State.updLens_ka (l : Nat) (g : LensSt → LensSt) : (s.updLens l g).ka = s.ka := rfl
@[simp] theorem State.updLens_svc (l : Nat) (g : LensSt → LensSt) : (s.updLens l g).svc = s.svc := rfl
@[simp] theorem State.updLens_units (l : Nat) (g : LensSt → LensSt) : (s.updLens l g).units = s.units := rfl
@[simp] theorem State.updLens_facets (l : Nat) (g : LensSt → LensSt) : (s.updLens l g).facets = s.facets := rfl
@[simp] theorem State.updLens_progs (l : Nat) (g : LensSt → LensSt) : (s.updLens l g).progs = s.progs := rfl
@[simp] theorem State.updLens_fencedFlash (l : Nat) (g : LensSt → LensSt) : (s.updLens l g).fencedFlash = s.fencedFlash := rfl
@[simp] theorem State.updLens_lanes (l : Nat) (g : LensSt → LensSt) : (s.updLens l g).lanes = s.lanes := rfl
@[simp] theorem State.updLens_logic (l : Nat) (g : LensSt → LensSt) : (s.updLens l g).logic = s.logic := rfl
@[simp] theorem State.updLens_slots64 (l : Nat) (g : LensSt → LensSt) : (s.updLens l g).slots64 = s.slots64 := rfl
@[simp] theorem State.updLens_stns (l : Nat) (g : LensSt → LensSt) : (s.updLens l g).stns = s.stns := rfl
@[simp] theorem State.updLens_conds (l : Nat) (g : LensSt → LensSt) : (s.updLens l g).conds = s.conds := rfl
@[simp] theorem State.updLens_svs (l : Nat) (g : LensSt → LensSt) : (s.updLens l g).svs = s.svs := rfl
@[simp] theorem State.updLens_chains (l : Nat) (g : LensSt → LensSt) : (s.updLens l g).chains = s.chains := rfl
@[simp] theorem State.updLens_chSlots (l : Nat) (g : LensSt → LensSt) : (s.updLens l g).chSlots = s.chSlots := rfl
@[simp] theorem State.updLens_fns (l : Nat) (g : LensSt → LensSt) : (s.updLens l g).fns = s.fns := rfl
@[simp] theorem State.updLens_pcOvr (l : Nat) (g : LensSt → LensSt) : (s.updLens l g).pcOvr = s.pcOvr := rfl
@[simp] theorem State.updLens_pcDeadline (l : Nat) (g : LensSt → LensSt) : (s.updLens l g).pcDeadline = s.pcDeadline := rfl
@[simp] theorem State.updLens_prots (l : Nat) (g : LensSt → LensSt) : (s.updLens l g).prots = s.prots := rfl
@[simp] theorem State.updLens_tos (l : Nat) (g : LensSt → LensSt) : (s.updLens l g).tos = s.tos := rfl
@[simp] theorem State.updLens_gps (l : Nat) (g : LensSt → LensSt) : (s.updLens l g).gps = s.gps := rfl
@[simp] theorem State.updLens_gss (l : Nat) (g : LensSt → LensSt) : (s.updLens l g).gss = s.gss := rfl
@[simp] theorem State.updLens_svPubs (l : Nat) (g : LensSt → LensSt) : (s.updLens l g).svPubs = s.svPubs := rfl
@[simp] theorem State.updLens_cnv (l : Nat) (g : LensSt → LensSt) : (s.updLens l g).cnv = s.cnv := rfl
@[simp] theorem State.updLens_arms (l : Nat) (g : LensSt → LensSt) : (s.updLens l g).arms = s.arms := rfl
@[simp] theorem State.updLens_sms (l : Nat) (g : LensSt → LensSt) : (s.updLens l g).sms = s.sms := rfl
@[simp] theorem State.updLens_engines (l : Nat) (g : LensSt → LensSt) : (s.updLens l g).engines = s.engines := rfl
@[simp] theorem State.updLens_beams (l : Nat) (g : LensSt → LensSt) : (s.updLens l g).beams = s.beams := rfl
@[simp] theorem State.updLens_pwms (l : Nat) (g : LensSt → LensSt) : (s.updLens l g).pwms = s.pwms := rfl
@[simp] theorem State.updLens_tis (l : Nat) (g : LensSt → LensSt) : (s.updLens l g).tis = s.tis := rfl
@[simp] theorem State.updLens_swc (l : Nat) (g : LensSt → LensSt) : (s.updLens l g).swc = s.swc := rfl
@[simp] theorem State.updLens_col (l : Nat) (g : LensSt → LensSt) : (s.updLens l g).col = s.col := rfl
@[simp] theorem State.updLens_fbcs (l : Nat) (g : LensSt → LensSt) : (s.updLens l g).fbcs = s.fbcs := rfl
@[simp] theorem State.updLens_hif (l : Nat) (g : LensSt → LensSt) : (s.updLens l g).hif = s.hif := rfl
@[simp] theorem State.updLens_mlk (l : Nat) (g : LensSt → LensSt) : (s.updLens l g).mlk = s.mlk := rfl
@[simp] theorem State.updLens_recs (l : Nat) (g : LensSt → LensSt) : (s.updLens l g).recs = s.recs := rfl
@[simp] theorem State.updLens_obs (l : Nat) (g : LensSt → LensSt) : (s.updLens l g).obs = s.obs := rfl
@[simp] theorem State.updLens_bst (l : Nat) (g : LensSt → LensSt) : (s.updLens l g).bst = s.bst := rfl
@[simp] theorem State.updLens_hw (l : Nat) (g : LensSt → LensSt) : (s.updLens l g).hw = s.hw := rfl
@[simp] theorem State.updLens_outputs (l : Nat) (g : LensSt → LensSt) : (s.updLens l g).outputs = s.outputs := rfl
@[simp] theorem State.updLens_lastRead (l : Nat) (g : LensSt → LensSt) : (s.updLens l g).lastRead = s.lastRead := rfl
@[simp] theorem State.updLens_pending (l : Nat) (g : LensSt → LensSt) : (s.updLens l g).pending = s.pending := rfl

/-! ### updLogic -/
@[simp] theorem State.updLogic_logic (p : Nat) (g : LogicSt → LogicSt) : (s.updLogic p g).logic = s.logic.upd p g := rfl
@[simp] theorem State.updLogic_now (p : Nat) (g : LogicSt → LogicSt) : (s.updLogic p g).now = s.now := rfl
@[simp] theorem State.updLogic_freeIdx (p : Nat) (g : LogicSt → LogicSt) : (s.updLogic p g).freeIdx = s.freeIdx := rfl
@[simp] theorem State.updLogic_glb (p : Nat) (g : LogicSt → LogicSt) : (s.updLogic p g).glb = s.glb := rfl
@[simp] theorem State.updLogic_ka (p : Nat) (g : LogicSt → LogicSt) : (s.updLogic p g).ka = s.ka := rfl
@[simp] theorem State.updLogic_svc (p : Nat) (g : LogicSt → LogicSt) : (s.updLogic p g).svc = s.svc := rfl
@[simp] theorem State.updLogic_units (p : Nat) (g : LogicSt → LogicSt) : (s.updLogic p g).units = s.units := rfl
@[simp] theorem State.updLogic_facets (p : Nat) (g : LogicSt → LogicSt) : (s.updLogic p g).facets = s.facets := rfl
@[simp] theorem State.updLogic_progs (p : Nat) (g : LogicSt → LogicSt) : (s.updLogic p g).progs = s.progs := rfl
@[simp] theorem State.updLogic_lenses (p : Nat) (g : LogicSt → LogicSt) : (s.updLogic p g).lenses = s.lenses := rfl
@[simp] theorem State.updLogic_fencedFlash (p : Nat) (g : LogicSt → LogicSt) : (s.updLogic p g).fencedFlash = s.fencedFlash := rfl
@[simp] theorem State.updLogic_lanes (p : Nat) (g : LogicSt → LogicSt) : (s.updLogic p g).lanes = s.lanes := rfl
@[simp] theorem State.updLogic_slots64 (p : Nat) (g : LogicSt → LogicSt) : (s.updLogic p g).slots64 = s.slots64 := rfl
@[simp] theorem State.updLogic_stns (p : Nat) (g : LogicSt → LogicSt) : (s.updLogic p g).stns = s.stns := rfl
@[simp] theorem State.updLogic_conds (p : Nat) (g : LogicSt → LogicSt) : (s.updLogic p g).conds = s.conds := rfl
@[simp] theorem State.updLogic_svs (p : Nat) (g : LogicSt → LogicSt) : (s.updLogic p g).svs = s.svs := rfl
@[simp] theorem State.updLogic_chains (p : Nat) (g : LogicSt → LogicSt) : (s.updLogic p g).chains = s.chains := rfl
@[simp] theorem State.updLogic_chSlots (p : Nat) (g : LogicSt → LogicSt) : (s.updLogic p g).chSlots = s.chSlots := rfl
@[simp] theorem State.updLogic_fns (p : Nat) (g : LogicSt → LogicSt) : (s.updLogic p g).fns = s.fns := rfl
@[simp] theorem State.updLogic_pcOvr (p : Nat) (g : LogicSt → LogicSt) : (s.updLogic p g).pcOvr = s.pcOvr := rfl
@[simp] theorem State.updLogic_pcDeadline (p : Nat) (g : LogicSt → LogicSt) : (s.updLogic p g).pcDeadline = s.pcDeadline := rfl
@[simp] theorem State.updLogic_prots (p : Nat) (g : LogicSt → LogicSt) : (s.updLogic p g).prots = s.prots := rfl
@[simp] theorem State.updLogic_tos (p : Nat) (g : LogicSt → LogicSt) : (s.updLogic p g).tos = s.tos := rfl
@[simp] theorem State.updLogic_gps (p : Nat) (g : LogicSt → LogicSt) : (s.updLogic p g).gps = s.gps := rfl
@[simp] theorem State.updLogic_gss (p : Nat) (g : LogicSt → LogicSt) : (s.updLogic p g).gss = s.gss := rfl
@[simp] theorem State.updLogic_svPubs (p : Nat) (g : LogicSt → LogicSt) : (s.updLogic p g).svPubs = s.svPubs := rfl
@[simp] theorem State.updLogic_cnv (p : Nat) (g : LogicSt → LogicSt) : (s.updLogic p g).cnv = s.cnv := rfl
@[simp] theorem State.updLogic_arms (p : Nat) (g : LogicSt → LogicSt) : (s.updLogic p g).arms = s.arms := rfl
@[simp] theorem State.updLogic_sms (p : Nat) (g : LogicSt → LogicSt) : (s.updLogic p g).sms = s.sms := rfl
@[simp] theorem State.updLogic_engines (p : Nat) (g : LogicSt → LogicSt) : (s.updLogic p g).engines = s.engines := rfl
@[simp] theorem State.updLogic_beams (p : Nat) (g : LogicSt → LogicSt) : (s.updLogic p g).beams = s.beams := rfl
@[simp] theorem State.updLogic_pwms (p : Nat) (g : LogicSt → LogicSt) : (s.updLogic p g).pwms = s.pwms := rfl
@[simp] theorem State.updLogic_tis (p : Nat) (g : LogicSt → LogicSt) : (s.updLogic p g).tis = s.tis := rfl
@[simp] theorem State.updLogic_swc (p : Nat) (g : LogicSt → LogicSt) : (s.updLogic p g).swc = s.swc := rfl
@[simp] theorem State.updLogic_col (p : Nat) (g : LogicSt → LogicSt) : (s.updLogic p g).col = s.col := rfl
@[simp] theorem State.updLogic_fbcs (p : Nat) (g : LogicSt → LogicSt) : (s.updLogic p g).fbcs = s.fbcs := rfl
@[simp] theorem State.updLogic_hif (p : Nat) (g : LogicSt → LogicSt) : (s.updLogic p g).hif = s.hif := rfl
@[simp] theorem State.updLogic_mlk (p : Nat) (g : LogicSt → LogicSt) : (s.updLogic p g).mlk = s.mlk := rfl
@[simp] theorem State.updLogic_recs (p : Nat) (g : LogicSt → LogicSt) : (s.updLogic p g).recs = s.recs := rfl
@[simp] theorem State.updLogic_obs (p : Nat) (g : LogicSt → LogicSt) : (s.updLogic p g).obs = s.obs := rfl
@[simp] theorem State.updLogic_bst (p : Nat) (g : LogicSt → LogicSt) : (s.updLogic p g).bst = s.bst := rfl
@[simp] theorem State.updLogic_hw (p : Nat) (g : LogicSt → LogicSt) : (s.updLogic p g).hw = s.hw := rfl
@[simp] theorem State.updLogic_outputs (p : Nat) (g : LogicSt → LogicSt) : (s.updLogic p g).outputs = s.outputs := rfl
@[simp] theorem State.updLogic_lastRead (p : Nat) (g : LogicSt → LogicSt) : (s.updLogic p g).lastRead = s.lastRead := rfl
@[simp] theorem State.updLogic_pending (p : Nat) (g : LogicSt → LogicSt) : (s.updLogic p g).pending = s.pending := rfl

/-! ### updStn -/
@[simp] theorem State.updStn_stns (i : Nat) (g : StnSt → StnSt) : (s.updStn i g).stns = s.stns.upd i g := rfl
@[simp] theorem State.updStn_now (i : Nat) (g : StnSt → StnSt) : (s.updStn i g).now = s.now := rfl
@[simp] theorem State.updStn_freeIdx (i : Nat) (g : StnSt → StnSt) : (s.updStn i g).freeIdx = s.freeIdx := rfl
@[simp] theorem State.updStn_glb (i : Nat) (g : StnSt → StnSt) : (s.updStn i g).glb = s.glb := rfl
@[simp] theorem State.updStn_ka (i : Nat) (g : StnSt → StnSt) : (s.updStn i g).ka = s.ka := rfl
@[simp] theorem State.updStn_svc (i : Nat) (g : StnSt → StnSt) : (s.updStn i g).svc = s.svc := rfl
@[simp] theorem State.updStn_units (i : Nat) (g : StnSt → StnSt) : (s.updStn i g).units = s.units := rfl
@[simp] theorem State.updStn_facets (i : Nat) (g : StnSt → StnSt) : (s.updStn i g).facets = s.facets := rfl
@[simp] theorem State.updStn_progs (i : Nat) (g : StnSt → StnSt) : (s.updStn i g).progs = s.progs := rfl
@[simp] theorem State.updStn_lenses (i : Nat) (g : StnSt → StnSt) : (s.updStn i g).lenses = s.lenses := rfl
@[simp] theorem State.updStn_fencedFlash (i : Nat) (g : StnSt → StnSt) : (s.updStn i g).fencedFlash = s.fencedFlash := rfl
@[simp] theorem State.updStn_lanes (i : Nat) (g : StnSt → StnSt) : (s.updStn i g).lanes = s.lanes := rfl
@[simp] theorem State.updStn_logic (i : Nat) (g : StnSt → StnSt) : (s.updStn i g).logic = s.logic := rfl
@[simp] theorem State.updStn_slots64 (i : Nat) (g : StnSt → StnSt) : (s.updStn i g).slots64 = s.slots64 := rfl
@[simp] theorem State.updStn_conds (i : Nat) (g : StnSt → StnSt) : (s.updStn i g).conds = s.conds := rfl
@[simp] theorem State.updStn_svs (i : Nat) (g : StnSt → StnSt) : (s.updStn i g).svs = s.svs := rfl
@[simp] theorem State.updStn_chains (i : Nat) (g : StnSt → StnSt) : (s.updStn i g).chains = s.chains := rfl
@[simp] theorem State.updStn_chSlots (i : Nat) (g : StnSt → StnSt) : (s.updStn i g).chSlots = s.chSlots := rfl
@[simp] theorem State.updStn_fns (i : Nat) (g : StnSt → StnSt) : (s.updStn i g).fns = s.fns := rfl
@[simp] theorem State.updStn_pcOvr (i : Nat) (g : StnSt → StnSt) : (s.updStn i g).pcOvr = s.pcOvr := rfl
@[simp] theorem State.updStn_pcDeadline (i : Nat) (g : StnSt → StnSt) : (s.updStn i g).pcDeadline = s.pcDeadline := rfl
@[simp] theorem State.updStn_prots (i : Nat) (g : StnSt → StnSt) : (s.updStn i g).prots = s.prots := rfl
@[simp] theorem State.updStn_tos (i : Nat) (g : StnSt → StnSt) : (s.updStn i g).tos = s.tos := rfl
@[simp] theorem State.updStn_gps (i : Nat) (g : StnSt → StnSt) : (s.updStn i g).gps = s.gps := rfl
@[simp] theorem State.updStn_gss (i : Nat) (g : StnSt → StnSt) : (s.updStn i g).gss = s.gss := rfl
@[simp] theorem State.updStn_svPubs (i : Nat) (g : StnSt → StnSt) : (s.updStn i g).svPubs = s.svPubs := rfl
@[simp] theorem State.updStn_cnv (i : Nat) (g : StnSt → StnSt) : (s.updStn i g).cnv = s.cnv := rfl
@[simp] theorem State.updStn_arms (i : Nat) (g : StnSt → StnSt) : (s.updStn i g).arms = s.arms := rfl
@[simp] theorem State.updStn_sms (i : Nat) (g : StnSt → StnSt) : (s.updStn i g).sms = s.sms := rfl
@[simp] theorem State.updStn_engines (i : Nat) (g : StnSt → StnSt) : (s.updStn i g).engines = s.engines := rfl
@[simp] theorem State.updStn_beams (i : Nat) (g : StnSt → StnSt) : (s.updStn i g).beams = s.beams := rfl
@[simp] theorem State.updStn_pwms (i : Nat) (g : StnSt → StnSt) : (s.updStn i g).pwms = s.pwms := rfl
@[simp] theorem State.updStn_tis (i : Nat) (g : StnSt → StnSt) : (s.updStn i g).tis = s.tis := rfl
@[simp] theorem State.updStn_swc (i : Nat) (g : StnSt → StnSt) : (s.updStn i g).swc = s.swc := rfl
@[simp] theorem State.updStn_col (i : Nat) (g : StnSt → StnSt) : (s.updStn i g).col = s.col := rfl
@[simp] theorem State.updStn_fbcs (i : Nat) (g : StnSt → StnSt) : (s.updStn i g).fbcs = s.fbcs := rfl
@[simp] theorem State.updStn_hif (i : Nat) (g : StnSt → StnSt) : (s.updStn i g).hif = s.hif := rfl
@[simp] theorem State.updStn_mlk (i : Nat) (g : StnSt → StnSt) : (s.updStn i g).mlk = s.mlk := rfl
@[simp] theorem State.updStn_recs (i : Nat) (g : StnSt → StnSt) : (s.updStn i g).recs = s.recs := rfl
@[simp] theorem State.updStn_obs (i : Nat) (g : StnSt → StnSt) : (s.updStn i g).obs = s.obs := rfl
@[simp] theorem State.updStn_bst (i : Nat) (g : StnSt → StnSt) : (s.updStn i g).bst = s.bst := rfl
@[simp] theorem State.updStn_hw (i : Nat) (g : StnSt → StnSt) : (s.updStn i g).hw = s.hw := rfl
@[simp] theorem State.updStn_outputs (i : Nat) (g : StnSt → StnSt) : (s.updStn i g).outputs = s.outputs := rfl
@[simp] theorem State.updStn_lastRead (i : Nat) (g : StnSt → StnSt) : (s.updStn i g).lastRead = s.lastRead := rfl
@[simp] theorem State.updStn_pending (i : Nat) (g : StnSt → StnSt) : (s.updStn i g).pending = s.pending := rfl

/-! ### updCond -/
@[simp] theorem State.updCond_conds (j : Nat) (g : CondSt → CondSt) : (s.updCond j g).conds = s.conds.upd j g := rfl
@[simp] theorem State.updCond_now (j : Nat) (g : CondSt → CondSt) : (s.updCond j g).now = s.now := rfl
@[simp] theorem State.updCond_freeIdx (j : Nat) (g : CondSt → CondSt) : (s.updCond j g).freeIdx = s.freeIdx := rfl
@[simp] theorem State.updCond_glb (j : Nat) (g : CondSt → CondSt) : (s.updCond j g).glb = s.glb := rfl
@[simp] theorem State.updCond_ka (j : Nat) (g : CondSt → CondSt) : (s.updCond j g).ka = s.ka := rfl
@[simp] theorem State.updCond_svc (j : Nat) (g : CondSt → CondSt) : (s.updCond j g).svc = s.svc := rfl
@[simp] theorem State.updCond_units (j : Nat) (g : CondSt → CondSt) : (s.updCond j g).units = s.units := rfl
@[simp] theorem State.updCond_facets (j : Nat) (g : CondSt → CondSt) : (s.updCond j g).facets = s.facets := rfl
@[simp] theorem State.updCond_progs (j : Nat) (g : CondSt → CondSt) : (s.updCond j g).progs = s.progs := rfl
@[simp] theorem State.updCond_lenses (j : Nat) (g : CondSt → CondSt) : (s.updCond j g).lenses = s.lenses := rfl
@[simp] theorem State.updCond_fencedFlash (j : Nat) (g : CondSt → CondSt) : (s.updCond j g).fencedFlash = s.fencedFlash := rfl
@[simp] theorem State.updCond_lanes (j : Nat) (g : CondSt → CondSt) : (s.updCond j g).lanes = s.lanes := rfl
@[simp] theorem State.updCond_logic (j : Nat) (g : CondSt → CondSt) : (s.updCond j g).logic = s.logic := rfl
@[simp] theorem State.updCond_slots64 (j : Nat) (g : CondSt → CondSt) : (s.updCond j g).slots64 = s.slots64 := rfl
@[simp] theorem State.updCond_stns (j : Nat) (g : CondSt → CondSt) : (s.updCond j g).stns = s.stns := rfl
@[simp] theorem State.updCond_svs (j : Nat) (g : CondSt → CondSt) : (s.updCond j g).svs = s.svs := rfl
@[simp] theorem State.updCond_chains (j : Nat) (g : CondSt → CondSt) : (s.updCond j g).chains = s.chains := rfl
@[simp] theorem State.updCond_chSlots (j : Nat) (g : CondSt → CondSt) : (s.updCond j g).chSlots = s.chSlots := rfl
@[simp] theorem State.updCond_fns (j : Nat) (g : CondSt → CondSt) : (s.updCond j g).fns = s.fns := rfl
@[simp] theorem State.updCond_pcOvr (j : Nat) (g : CondSt → CondSt) : (s.updCond j g).pcOvr = s.pcOvr := rfl
@[simp] theorem State.updCond_pcDeadline (j : Nat) (g : CondSt → CondSt) : (s.updCond j g).pcDeadline = s.pcDeadline := rfl
@[simp] theorem State.updCond_prots (j : Nat) (g : CondSt → CondSt) : (s.updCond j g).prots = s.prots := rfl
@[simp] theorem State.updCond_tos (j : Nat) (g : CondSt → CondSt) : (s.updCond j g).tos = s.tos := rfl
@[simp] theorem State.updCond_gps (j : Nat) (g : CondSt → CondSt) : (s.updCond j g).gps = s.gps := rfl
@[simp] theorem State.updCond_gss (j : Nat) (g : CondSt → CondSt) : (s.updCond j g).gss = s.gss := rfl
@[simp] theorem State.updCond_svPubs (j : Nat) (g : CondSt → CondSt) : (s.updCond j g).svPubs = s.svPubs := rfl
@[simp] theorem State.updCond_cnv (j : Nat) (g : CondSt → CondSt) : (s.updCond j g).cnv = s.cnv := rfl
@[simp] theorem State.updCond_arms (j : Nat) (g : CondSt → CondSt) : (s.updCond j g).arms = s.arms := rfl
@[simp] theorem State.updCond_sms (j : Nat) (g : CondSt → CondSt) : (s.updCond j g).sms = s.sms := rfl
@[simp] theorem State.updCond_engines (j : Nat) (g : CondSt → CondSt) : (s.updCond j g).engines = s.engines := rfl
@[simp] theorem State.updCond_beams (j : Nat) (g : CondSt → CondSt) : (s.updCond j g).beams = s.beams := rfl
@[simp] theorem State.updCond_pwms (j : Nat) (g : CondSt → CondSt) : (s.updCond j g).pwms = s.pwms := rfl
@[simp] theorem State.updCond_tis (j : Nat) (g : CondSt → CondSt) : (s.updCond j g).tis = s.tis := rfl
@[simp] theorem State.updCond_swc (j : Nat) (g : CondSt → CondSt) : (s.updCond j g).swc = s.swc := rfl
@[simp] theorem State.updCond_col (j : Nat) (g : CondSt → CondSt) : (s.updCond j g).col = s.col := rfl
@[simp] theorem State.updCond_fbcs (j : Nat) (g : CondSt → CondSt) : (s.updCond j g).fbcs = s.fbcs := rfl
@[simp] theorem State.updCond_hif (j : Nat) (g : CondSt → CondSt) : (s.updCond j g).hif = s.hif := rfl
@[simp] theorem State.updCond_mlk (j : Nat) (g : CondSt → CondSt) : (s.updCond j g).mlk = s.mlk := rfl
@[simp] theorem State.updCond_recs (j : Nat) (g : CondSt → CondSt) : (s.updCond j g).recs = s.recs := rfl
@[simp] theorem State.updCond_obs (j : Nat) (g : CondSt → CondSt) : (s.updCond j g).obs = s.obs := rfl
@[simp] theorem State.updCond_bst (j : Nat) (g : CondSt → CondSt) : (s.updCond j g).bst = s.bst := rfl
@[simp] theorem State.updCond_hw (j : Nat) (g : CondSt → CondSt) : (s.updCond j g).hw = s.hw := rfl
@[simp] theorem State.updCond_outputs (j : Nat) (g : CondSt → CondSt) : (s.updCond j g).outputs = s.outputs := rfl
@[simp] theorem State.updCond_lastRead (j : Nat) (g : CondSt → CondSt) : (s.updCond j g).lastRead = s.lastRead := rfl
@[simp] theorem State.updCond_pending (j : Nat) (g : CondSt → CondSt) : (s.updCond j g).pending = s.pending := rfl

/-! ### updArm -/
@[simp] theorem State.updArm_arms (a : Nat) (g : ArmSt → ArmSt) : (s.updArm a g).arms = s.arms.upd a g := rfl
@[simp] theorem State.updArm_now (a : Nat) (g : ArmSt → ArmSt) : (s.updArm a g).now = s.now := rfl
@[simp] theorem State.updArm_freeIdx (a : Nat) (g : ArmSt → ArmSt) : (s.updArm a g).freeIdx = s.freeIdx := rfl
@[simp] theorem State.updArm_glb (a : Nat) (g : ArmSt → ArmSt) : (s.updArm a g).glb = s.glb := rfl
@[simp] theorem State.updArm_ka (a : Nat) (g : ArmSt → ArmSt) : (s.updArm a g).ka = s.ka := rfl
@[simp] theorem State.updArm_svc (a : Nat) (g : ArmSt → ArmSt) : (s.updArm a g).svc = s.svc := rfl
@[simp] theorem State.updArm_units (a : Nat) (g : ArmSt → ArmSt) : (s.updArm a g).units = s.units := rfl
@[simp] theorem State.updArm_facets (a : Nat) (g : ArmSt → ArmSt) : (s.updArm a g).facets = s.facets := rfl
@[simp] theorem State.updArm_progs (a : Nat) (g : ArmSt → ArmSt) : (s.updArm a g).progs = s.progs := rfl
@[simp] theorem State.updArm_lenses (a : Nat) (g : ArmSt → ArmSt) : (s.updArm a g).lenses = s.lenses := rfl
@[simp] theorem State.updArm_fencedFlash (a : Nat) (g : ArmSt → ArmSt) : (s.updArm a g).fencedFlash = s.fencedFlash := rfl
@[simp] theorem State.updArm_lanes (a : Nat) (g : ArmSt → ArmSt) : (s.updArm a g).lanes = s.lanes := rfl
@[simp] theorem State.updArm_logic (a : Nat) (g : ArmSt → ArmSt) : (s.updArm a g).logic = s.logic := rfl
@[simp] theorem State.updArm_slots64 (a : Nat) (g : ArmSt → ArmSt) : (s.updArm a g).slots64 = s.slots64 := rfl
@[simp] theorem State.updArm_stns (a : Nat) (g : ArmSt → ArmSt) : (s.updArm a g).stns = s.stns := rfl
@[simp] theorem State.updArm_conds (a : Nat) (g : ArmSt → ArmSt) : (s.updArm a g).conds = s.conds := rfl
@[simp] theorem State.updArm_svs (a : Nat) (g : ArmSt → ArmSt) : (s.updArm a g).svs = s.svs := rfl
@[simp] theorem State.updArm_chains (a : Nat) (g : ArmSt → ArmSt) : (s.updArm a g).chains = s.chains := rfl
@[simp] theorem State.updArm_chSlots (a : Nat) (g : ArmSt → ArmSt) : (s.updArm a g).chSlots = s.chSlots := rfl
@[simp] theorem State.updArm_fns (a : Nat) (g : ArmSt → ArmSt) : (s.updArm a g).fns = s.fns := rfl
@[simp] theorem State.updArm_pcOvr (a : Nat) (g : ArmSt → ArmSt) : (s.updArm a g).pcOvr = s.pcOvr := rfl
@[simp] theorem State.updArm_pcDeadline (a : Nat) (g : ArmSt → ArmSt) : (s.updArm a g).pcDeadline = s.pcDeadline := rfl
@[simp] theorem State.updArm_prots (a : Nat) (g : ArmSt → ArmSt) : (s.updArm a g).prots = s.prots := rfl
@[simp] theorem State.updArm_tos (a : Nat) (g : ArmSt → ArmSt) : (s.updArm a g).tos = s.tos := rfl
@[simp] theorem State.updArm_gps (a : Nat) (g : ArmSt → ArmSt) : (s.updArm a g).gps = s.gps := rfl
@[simp] theorem State.updArm_gss (a : Nat) (g : ArmSt → ArmSt) : (s.updArm a g).gss = s.gss := rfl
@[simp] theorem State.updArm_svPubs (a : Nat) (g : ArmSt → ArmSt) : (s.updArm a g).svPubs = s.svPubs := rfl
@[simp] theorem State.updArm_cnv (a : Nat) (g : ArmSt → ArmSt) : (s.updArm a g).cnv = s.cnv := rfl
@[simp] theorem State.updArm_sms (a : Nat) (g : ArmSt → ArmSt) : (s.updArm a g).sms = s.sms := rfl
@[simp] theorem State.updArm_engines (a : Nat) (g : ArmSt → ArmSt) : (s.updArm a g).engines = s.engines := rfl
@[simp] theorem State.updArm_beams (a : Nat) (g : ArmSt → ArmSt) : (s.updArm a g).beams = s.beams := rfl
@[simp] theorem State.updArm_pwms (a : Nat) (g : ArmSt → ArmSt) : (s.updArm a g).pwms = s.pwms := rfl
@[simp] theorem State.updArm_tis (a : Nat) (g : ArmSt → ArmSt) : (s.updArm a g).tis = s.tis := rfl
@[simp] theorem State.updArm_swc (a : Nat) (g : ArmSt → ArmSt) : (s.updArm a g).swc = s.swc := rfl
@[simp] theorem State.updArm_col (a : Nat) (g : ArmSt → ArmSt) : (s.updArm a g).col = s.col := rfl
@[simp] theorem State.updArm_fbcs (a : Nat) (g : ArmSt → ArmSt) : (s.updArm a g).fbcs = s.fbcs := rfl
@[simp] theorem State.updArm_hif (a : Nat) (g : ArmSt → ArmSt) : (s.updArm a g).hif = s.hif := rfl
@[simp] theorem State.updArm_mlk (a : Nat) (g : ArmSt → ArmSt) : (s.updArm a g).mlk = s.mlk := rfl
@[simp] theorem State.updArm_recs (a : Nat) (g : ArmSt → ArmSt) : (s.updArm a g).recs = s.recs := rfl
@[simp] theorem State.updArm_obs (a : Nat) (g : ArmSt → ArmSt) : (s.updArm a g).obs = s.obs := rfl
@[simp] theorem State.updArm_bst (a : Nat) (g : ArmSt → ArmSt) : (s.updArm a g).bst = s.bst := rfl
@[simp] theorem State.updArm_hw (a : Nat) (g : ArmSt → ArmSt) : (s.updArm a g).hw = s.hw := rfl
@[simp] theorem State.updArm_outputs (a : Nat) (g : ArmSt → ArmSt) : (s.updArm a g).outputs = s.outputs := rfl
@[simp] theorem State.updArm_lastRead (a : Nat) (g : ArmSt → ArmSt) : (s.updArm a g).lastRead = s.lastRead := rfl
@[simp] theorem State.updArm_pending (a : Nat) (g : ArmSt → ArmSt) : (s.updArm a g).pending = s.pending := rfl

/-! ### updSm -/
@[simp] theorem State.updSm_sms (a i : Nat) (g : SmSt → SmSt) : (s.updSm a i g).sms = s.sms.upd (smKey a i) g := rfl
@[simp] theorem State.updSm_now (a i : Nat) (g : SmSt → SmSt) : (s.updSm a i g).now = s.now := rfl
@[simp] theorem State.updSm_freeIdx (a i : Nat) (g : SmSt → SmSt) : (s.updSm a i g).freeIdx = s.freeIdx := rfl
@[simp] theorem State.updSm_glb (a i : Nat) (g : SmSt → SmSt) : (s.updSm a i g).glb = s.glb := rfl
@[simp] theorem State.updSm_ka (a i : Nat) (g : SmSt → SmSt) : (s.updSm a i g).ka = s.ka := rfl
@[simp] theorem State.updSm_svc (a i : Nat) (g : SmSt → SmSt) : (s.updSm a i g).svc = s.svc := rfl
@[simp] theorem State.updSm_units (a i : Nat) (g : SmSt → SmSt) : (s.updSm a i g).units = s.units := rfl
@[simp] theorem State.updSm_facets (a i : Nat) (g : SmSt → SmSt) : (s.updSm a i g).facets = s.facets := rfl
@[simp] theorem State.updSm_progs (a i : Nat) (g : SmSt → SmSt) : (s.updSm a i g).progs = s.progs := rfl
@[simp] theorem State.updSm_lenses (a i : Nat) (g : SmSt → SmSt) : (s.updSm a i g).lenses = s.lenses := rfl
@[simp] theorem State.updSm_fencedFlash (a i : Nat) (g : SmSt → SmSt) : (s.updSm a i g).fencedFlash = s.fencedFlash := rfl
@[simp] theorem State.updSm_lanes (a i : Nat) (g : SmSt → SmSt) : (s.updSm a i g).lanes = s.lanes := rfl
@[simp] theorem State.updSm_logic (a i : Nat) (g : SmSt → SmSt) : (s.updSm a i g).logic = s.logic := rfl
@[simp] theorem State.updSm_slots64 (a i : Nat) (g : SmSt → SmSt) : (s.updSm a i g).slots64 = s.slots64 := rfl
@[simp] theorem State.updSm_stns (a i : Nat) (g : SmSt → SmSt) : (s.updSm a i g).stns = s.stns := rfl
@[simp] theorem State.updSm_conds (a i : Nat) (g : SmSt → SmSt) : (s.updSm a i g).conds = s.conds := rfl
@[simp] theorem State.updSm_svs (a i : Nat) (g : SmSt → SmSt) : (s.updSm a i g).svs = s.svs := rfl
@[simp] theorem State.updSm_chains (a i : Nat) (g : SmSt → SmSt) : (s.updSm a i g).chains = s.chains := rfl
@[simp] theorem State.updSm_chSlots (a i : Nat) (g : SmSt → SmSt) : (s.updSm a i g).chSlots = s.chSlots := rfl
@[simp] theorem State.updSm_fns (a i : Nat) (g : SmSt → SmSt) : (s.updSm a i g).fns = s.fns := rfl
@[simp] theorem State.updSm_pcOvr (a i : Nat) (g : SmSt → SmSt) : (s.updSm a i g).pcOvr = s.pcOvr := rfl
@[simp] theorem State.updSm_pcDeadline (a i : Nat) (g : SmSt → SmSt) : (s.updSm a i g).pcDeadline = s.pcDeadline := rfl
@[simp] theorem State.updSm_prots (a i : Nat) (g : SmSt → SmSt) : (s.updSm a i g).prots = s.prots := rfl
@[simp] theorem State.updSm_tos (a i : Nat) (g : SmSt → SmSt) : (s.updSm a i g).tos = s.tos := rfl
@[simp] theorem State.updSm_gps (a i : Nat) (g : SmSt → SmSt) : (s.updSm a i g).gps = s.gps := rfl
@[simp] theorem State.updSm_gss (a i : Nat) (g : SmSt → SmSt) : (s.updSm a i g).gss = s.gss := rfl
@[simp] theorem State.updSm_svPubs (a i : Nat) (g : SmSt → SmSt) : (s.updSm a i g).svPubs = s.svPubs := rfl
@[simp] theorem State.updSm_cnv (a i : Nat) (g : SmSt → SmSt) : (s.updSm a i g).cnv = s.cnv := rfl
@[simp] theorem State.updSm_arms (a i : Nat) (g : SmSt → SmSt) : (s.updSm a i g).arms = s.arms := rfl
@[simp] theorem State.updSm_engines (a i : Nat) (g : SmSt → SmSt) : (s.updSm a i g).engines = s.engines := rfl
@[simp] theorem State.updSm_beams (a i : Nat) (g : SmSt → SmSt) : (s.updSm a i g).beams = s.beams := rfl
@[simp] theorem State.updSm_pwms (a i : Nat) (g : SmSt → SmSt) : (s.updSm a i g).pwms = s.pwms := rfl
@[simp] theorem State.updSm_tis (a i : Nat) (g : SmSt → SmSt) : (s.updSm a i g).tis = s.tis := rfl
@[simp] theorem State.updSm_swc (a i : Nat) (g : SmSt → SmSt) : (s.updSm a i g).swc = s.swc := rfl
@[simp] theorem State.updSm_col (a i : Nat) (g : SmSt → SmSt) : (s.updSm a i g).col = s.col := rfl
@[simp] theorem State.updSm_fbcs (a i : Nat) (g : SmSt → SmSt) : (s.updSm a i g).fbcs = s.fbcs := rfl
@[simp] theorem State.updSm_hif (a i : Nat) (g : SmSt → SmSt) : (s.updSm a i g).hif = s.hif := rfl
@[simp] theorem State.updSm_mlk (a i : Nat) (g : SmSt → SmSt) : (s.updSm a i g).mlk = s.mlk := rfl
@[simp] theorem State.updSm_recs (a i : Nat) (g : SmSt → SmSt) : (s.updSm a i g).recs = s.recs := rfl
@[simp] theorem State.updSm_obs (a i : Nat) (g : SmSt → SmSt) : (s.updSm a i g).obs = s.obs := rfl
@[simp] theorem State.updSm_bst (a i : Nat) (g : SmSt → SmSt) : (s.updSm a i g).bst = s.bst := rfl
@[simp] theorem State.updSm_hw (a i : Nat) (g : SmSt → SmSt) : (s.updSm a i g).hw = s.hw := rfl
@[simp] theorem State.updSm_outputs (a i : Nat) (g : SmSt → SmSt) : (s.updSm a i g).outputs = s.outputs := rfl
@[simp] theorem State.updSm_lastRead (a i : Nat) (g : SmSt → SmSt) : (s.updSm a i g).lastRead = s.lastRead := rfl
@[simp] theorem State.updSm_pending (a i : Nat) (g : SmSt → SmSt) : (s.updSm a i g).pending = s.pending := rfl

/-! ### updEngine -/
@[simp] theorem State.updEngine_engines (e : Nat) (g : EngineSt → EngineSt) : (s.updEngine e g).engines = s.engines.upd e g := rfl
@[simp] theorem State.updEngine_now (e : Nat) (g : EngineSt → EngineSt) : (s.updEngine e g).now = s.now := rfl
@[simp] theorem State.updEngine_freeIdx (e : Nat) (g : EngineSt → EngineSt) : (s.updEngine e g).freeIdx = s.freeIdx := rfl
@[simp] theorem State.updEngine_glb (e : Nat) (g : EngineSt → EngineSt) : (s.updEngine e g).glb = s.glb := rfl
@[simp] theorem State.updEngine_ka (e : Nat) (g : EngineSt → EngineSt) : (s.updEngine e g).ka = s.ka := rfl
@[simp] theorem State.updEngine_svc (e : Nat) (g : EngineSt → EngineSt) : (s.updEngine e g).svc = s.svc := rfl
@[simp] theorem State.updEngine_units (e : Nat) (g : EngineSt → EngineSt) : (s.updEngine e g).units = s.units := rfl
@[simp] theorem State.updEngine_facets (e : Nat) (g : EngineSt → EngineSt) : (s.updEngine e g).facets = s.facets := rfl
@[simp] theorem State.updEngine_progs (e : Nat) (g : EngineSt → EngineSt) : (s.updEngine e g).progs = s.progs := rfl
@[simp] theorem State.updEngine_lenses (e : Nat) (g : EngineSt → EngineSt) : (s.updEngine e g).lenses = s.lenses := rfl
@[simp] theorem State.updEngine_fencedFlash (e : Nat) (g : EngineSt → EngineSt) : (s.updEngine e g).fencedFlash = s.fencedFlash := rfl
@[simp] theorem State.updEngine_lanes (e : Nat) (g : EngineSt → EngineSt) : (s.updEngine e g).lanes = s.lanes := rfl
@[simp] theorem State.updEngine_logic (e : Nat) (g : EngineSt → EngineSt) : (s.updEngine e g).logic = s.logic := rfl
@[simp] theorem State.updEngine_slots64 (e : Nat) (g : EngineSt → EngineSt) : (s.updEngine e g).slots64 = s.slots64 := rfl
@[simp] theorem State.updEngine_stns (e : Nat) (g : EngineSt → EngineSt) : (s.updEngine e g).stns = s.stns := rfl
@[simp] theorem State.updEngine_conds (e : Nat) (g : EngineSt → EngineSt) : (s.updEngine e g).conds = s.conds := rfl
@[simp] theorem State.updEngine_svs (e : Nat) (g : EngineSt → EngineSt) : (s.updEngine e g).svs = s.svs := rfl
@[simp] theorem State.updEngine_chains (e : Nat) (g : EngineSt → EngineSt) : (s.updEngine e g).chains = s.chains := rfl
@[simp] theorem State.updEngine_chSlots (e : Nat) (g : EngineSt → EngineSt) : (s.updEngine e g).chSlots = s.chSlots := rfl
@[simp] theorem State.updEngine_fns (e : Nat) (g : EngineSt → EngineSt) : (s.updEngine e g).fns = s.fns := rfl
@[simp] theorem State.updEngine_pcOvr (e : Nat) (g : EngineSt → EngineSt) : (s.updEngine e g).pcOvr = s.pcOvr := rfl
@[simp] theorem State.updEngine_pcDeadline (e : Nat) (g : EngineSt → EngineSt) : (s.updEngine e g).pcDeadline = s.pcDeadline := rfl
@[simp] theorem State.updEngine_prots (e : Nat) (g : EngineSt → EngineSt) : (s.updEngine e g).prots = s.prots := rfl
@[simp] theorem State.updEngine_tos (e : Nat) (g : EngineSt → EngineSt) : (s.updEngine e g).tos = s.tos := rfl
@[simp] theorem State.updEngine_gps (e : Nat) (g : EngineSt → EngineSt) : (s.updEngine e g).gps = s.gps := rfl
@[simp] theorem State.updEngine_gss (e : Nat) (g : EngineSt → EngineSt) : (s.updEngine e g).gss = s.gss := rfl
@[simp] theorem State.updEngine_svPubs (e : Nat) (g : EngineSt → EngineSt) : (s.updEngine e g).svPubs = s.svPubs := rfl
@[simp] theorem State.updEngine_cnv (e : Nat) (g : EngineSt → EngineSt) : (s.updEngine e g).cnv = s.cnv := rfl
@[simp] theorem State.updEngine_arms (e : Nat) (g : EngineSt → EngineSt) : (s.updEngine e g).arms = s.arms := rfl
@[simp] theorem State.updEngine_sms (e : Nat) (g : EngineSt → EngineSt) : (s.updEngine e g).sms = s.sms := rfl
@[simp] theorem State.updEngine_beams (e : Nat) (g : EngineSt → EngineSt) : (s.updEngine e g).beams = s.beams := rfl
@[simp] theorem State.updEngine_pwms (e : Nat) (g : EngineSt → EngineSt) : (s.updEngine e g).pwms = s.pwms := rfl
@[simp] theorem State.updEngine_tis (e : Nat) (g : EngineSt → EngineSt) : (s.updEngine e g).tis = s.tis := rfl
@[simp] theorem State.updEngine_swc (e : Nat) (g : EngineSt → EngineSt) : (s.updEngine e g).swc = s.swc := rfl
@[simp] theorem State.updEngine_col (e : Nat) (g : EngineSt → EngineSt) : (s.updEngine e g).col = s.col := rfl
@[simp] theorem State.updEngine_fbcs (e : Nat) (g : EngineSt → EngineSt) : (s.updEngine e g).fbcs = s.fbcs := rfl
@[simp] theorem State.updEngine_hif (e : Nat) (g : EngineSt → EngineSt) : (s.updEngine e g).hif = s.hif := rfl
@[simp] theorem State.updEngine_mlk (e : Nat) (g : EngineSt → EngineSt) : (s.updEngine e g).mlk = s.mlk := rfl
@[simp] theorem State.updEngine_recs (e : Nat) (g : EngineSt → EngineSt) : (s.updEngine e g).recs = s.recs := rfl
@[simp] theorem State.updEngine_obs (e : Nat) (g : EngineSt → EngineSt) : (s.updEngine e g).obs = s.obs := rfl
@[simp] theorem State.updEngine_bst (e : Nat) (g : EngineSt → EngineSt) : (s.updEngine e g).bst = s.bst := rfl
@[simp] theorem State.updEngine_hw (e : Nat) (g : EngineSt → EngineSt) : (s.updEngine e g).hw = s.hw := rfl
@[simp] theorem State.updEngine_outputs (e : Nat) (g : EngineSt → EngineSt) : (s.updEngine e g).outputs = s.outputs := rfl
@[simp] theorem State.updEngine_lastRead (e : Nat) (g : EngineSt → EngineSt) : (s.updEngine e g).lastRead = s.lastRead := rfl
@[simp] theorem State.updEngine_pending (e : Nat) (g : EngineSt → EngineSt) : (s.updEngine e g).pending = s.pending := rfl

/-! ### updBeam -/
@[simp] theorem State.updBeam_beams (l : Nat) (g : BeamSt → BeamSt) : (s.updBeam l g).beams = s.beams.upd l g := rfl
@[simp] theorem State.updBeam_now (l : Nat) (g : BeamSt → BeamSt) : (s.updBeam l g).now = s.now := rfl
@[simp] theorem State.updBeam_freeIdx (l : Nat) (g : BeamSt → BeamSt) : (s.updBeam l g).freeIdx = s.freeIdx := rfl
@[simp] theorem State.updBeam_glb (l : Nat) (g : BeamSt → BeamSt) : (s.updBeam l g).glb = s.glb := rfl
@[simp] theorem State.updBeam_ka (l : Nat) (g : BeamSt → BeamSt) : (s.updBeam l g).ka = s.ka := rfl
@[simp] theorem State.updBeam_svc (l : Nat) (g : BeamSt → BeamSt) : (s.updBeam l g).svc = s.svc := rfl
@[simp] theorem State.updBeam_units (l : Nat) (g : BeamSt → BeamSt) : (s.updBeam l g).units = s.units := rfl
@[simp] theorem State.updBeam_facets (l : Nat) (g : BeamSt → BeamSt) : (s.updBeam l g).facets = s.facets := rfl
@[simp] theorem State.updBeam_progs (l : Nat) (g : BeamSt → BeamSt) : (s.updBeam l g).progs = s.progs := rfl
@[simp] theorem State.updBeam_lenses (l : Nat) (g : BeamSt → BeamSt) : (s.updBeam l g).lenses = s.lenses := rfl
@[simp] theorem State.updBeam_fencedFlash (l : Nat) (g : BeamSt → BeamSt) : (s.updBeam l g).fencedFlash = s.fencedFlash := rfl
@[simp] theorem State.updBeam_lanes (l : Nat) (g : BeamSt → BeamSt) : (s.updBeam l g).lanes = s.lanes := rfl
@[simp] theorem State.updBeam_logic (l : Nat) (g : BeamSt → BeamSt) : (s.updBeam l g).logic = s.logic := rfl
@[simp] theorem State.updBeam_slots64 (l : Nat) (g : BeamSt → BeamSt) : (s.updBeam l g).slots64 = s.slots64 := rfl
@[simp] theorem State.updBeam_stns (l : Nat) (g : BeamSt → BeamSt) : (s.updBeam l g).stns = s.stns := rfl
@[simp] theorem State.updBeam_conds (l : Nat) (g : BeamSt → BeamSt) : (s.updBeam l g).conds = s.conds := rfl
@[simp] theorem State.updBeam_svs (l : Nat) (g : BeamSt → BeamSt) : (s.updBeam l g).svs = s.svs := rfl
@[simp] theorem State.updBeam_chains (l : Nat) (g : BeamSt → BeamSt) : (s.updBeam l g).chains = s.chains := rfl
@[simp] theorem State.updBeam_chSlots (l : Nat) (g : BeamSt → BeamSt) : (s.updBeam l g).chSlots = s.chSlots := rfl
@[simp] theorem State.updBeam_fns (l : Nat) (g : BeamSt → BeamSt) : (s.updBeam l g).fns = s.fns := rfl
@[simp] theorem State.updBeam_pcOvr (l : Nat) (g : BeamSt → BeamSt) : (s.updBeam l g).pcOvr = s.pcOvr := rfl
@[simp] theorem State.updBeam_pcDeadline (l : Nat) (g : BeamSt → BeamSt) : (s.updBeam l g).pcDeadline = s.pcDeadline := rfl
@[simp] theorem State.updBeam_prots (l : Nat) (g : BeamSt → BeamSt) : (s.updBeam l g).prots = s.prots := rfl
@[simp] theorem State.updBeam_tos (l : Nat) (g : BeamSt → BeamSt) : (s.updBeam l g).tos = s.tos := rfl
@[simp] theorem State.updBeam_gps (l : Nat) (g : BeamSt → BeamSt) : (s.updBeam l g).gps = s.gps := rfl
@[simp] theorem State.updBeam_gss (l : Nat) (g : BeamSt → BeamSt) : (s.updBeam l g).gss = s.gss := rfl
@[simp] theorem State.updBeam_svPubs (l : Nat) (g : BeamSt → BeamSt) : (s.updBeam l g).svPubs = s.svPubs := rfl
@[simp] theorem State.updBeam_cnv (l : Nat) (g : BeamSt → BeamSt) : (s.updBeam l g).cnv = s.cnv := rfl
@[simp] theorem State.updBeam_arms (l : Nat) (g : BeamSt → BeamSt) : (s.updBeam l g).arms = s.arms := rfl
@[simp] theorem State.updBeam_sms (l : Nat) (g : BeamSt → BeamSt) : (s.updBeam l g).sms = s.sms := rfl
@[simp] theorem State.updBeam_engines (l : Nat) (g : BeamSt → BeamSt) : (s.updBeam l g).engines = s.engines := rfl
@[simp] theorem State.updBeam_pwms (l : Nat) (g : BeamSt → BeamSt) : (s.updBeam l g).pwms = s.pwms := rfl
@[simp] theorem State.updBeam_tis (l : Nat) (g : BeamSt → BeamSt) : (s.updBeam l g).tis = s.tis := rfl
@[simp] theorem State.updBeam_swc (l : Nat) (g : BeamSt → BeamSt) : (s.updBeam l g).swc = s.swc := rfl
@[simp] theorem State.updBeam_col (l : Nat) (g : BeamSt → BeamSt) : (s.updBeam l g).col = s.col := rfl
@[simp] theorem State.updBeam_fbcs (l : Nat) (g : BeamSt → BeamSt) : (s.updBeam l g).fbcs = s.fbcs := rfl
@[simp] theorem State.updBeam_hif (l : Nat) (g : BeamSt → BeamSt) : (s.updBeam l g).hif = s.hif := rfl
@[simp] theorem State.updBeam_mlk (l : Nat) (g : BeamSt → BeamSt) : (s.updBeam l g).mlk = s.mlk := rfl
@[simp] theorem State.updBeam_recs (l : Nat) (g : BeamSt → BeamSt) : (s.updBeam l g).recs = s.recs := rfl
@[simp] theorem State.updBeam_obs (l : Nat) (g : BeamSt → BeamSt) : (s.updBeam l g).obs = s.obs := rfl
@[simp] theorem State.updBeam_bst (l : Nat) (g : BeamSt → BeamSt) : (s.updBeam l g).bst = s.bst := rfl
@[simp] theorem State.updBeam_hw (l : Nat) (g : BeamSt → BeamSt) : (s.updBeam l g).hw = s.hw := rfl
@[simp] theorem State.updBeam_outputs (l : Nat) (g : BeamSt → BeamSt) : (s.updBeam l g).outputs = s.outputs := rfl
@[simp] theorem State.updBeam_lastRead (l : Nat) (g : BeamSt → BeamSt) : (s.updBeam l g).lastRead = s.lastRead := rfl
@[simp] theorem State.updBeam_pending (l : Nat) (g : BeamSt → BeamSt) : (s.updBeam l g).pending = s.pending := rfl

/-! ### updPwm -/
@[simp] theorem State.updPwm_pwms (n : Nat) (g : PwmSt → PwmSt) : (s.updPwm n g).pwms = s.pwms.upd n g := rfl
@[simp] theorem State.updPwm_now (n : Nat) (g : PwmSt → PwmSt) : (s.updPwm n g).now = s.now := rfl
@[simp] theorem State.updPwm_freeIdx (n : Nat) (g : PwmSt → PwmSt) : (s.updPwm n g).freeIdx = s.freeIdx := rfl
@[simp] theorem State.updPwm_glb (n : Nat) (g : PwmSt → PwmSt) : (s.updPwm n g).glb = s.glb := rfl
@[simp] theorem State.updPwm_ka (n : Nat) (g : PwmSt → PwmSt) : (s.updPwm n g).ka = s.ka := rfl
@[simp] theorem State.updPwm_svc (n : Nat) (g : PwmSt → PwmSt) : (s.updPwm n g).svc = s.svc := rfl
@[simp] theorem State.updPwm_units (n : Nat) (g : PwmSt → PwmSt) : (s.updPwm n g).units = s.units := rfl
@[simp] theorem State.updPwm_facets (n : Nat) (g : PwmSt → PwmSt) : (s.updPwm n g).facets = s.facets := rfl
@[simp] theorem State.updPwm_progs (n : Nat) (g : PwmSt → PwmSt) : (s.updPwm n g).progs = s.progs := rfl
@[simp] theorem State.updPwm_lenses (n : Nat) (g : PwmSt → PwmSt) : (s.updPwm n g).lenses = s.lenses := rfl
@[simp] theorem State.updPwm_fencedFlash (n : Nat) (g : PwmSt → PwmSt) : (s.updPwm n g).fencedFlash = s.fencedFlash := rfl
@[simp] theorem State.updPwm_lanes (n : Nat) (g : PwmSt → PwmSt) : (s.updPwm n g).lanes = s.lanes := rfl
@[simp] theorem State.updPwm_logic (n : Nat) (g : PwmSt → PwmSt) : (s.updPwm n g).logic = s.logic := rfl
@[simp] theorem State.updPwm_slots64 (n : Nat) (g : PwmSt → PwmSt) : (s.updPwm n g).slots64 = s.slots64 := rfl
@[simp] theorem State.updPwm_stns (n : Nat) (g : PwmSt → PwmSt) : (s.updPwm n g).stns = s.stns := rfl
@[simp] theorem State.updPwm_conds (n : Nat) (g : PwmSt → PwmSt) : (s.updPwm n g).conds = s.conds := rfl
@[simp] theorem State.updPwm_svs (n : Nat) (g : PwmSt → PwmSt) : (s.updPwm n g).svs = s.svs := rfl
@[simp] theorem State.updPwm_chains (n : Nat) (g : PwmSt → PwmSt) : (s.updPwm n g).chains = s.chains := rfl
@[simp] theorem State.updPwm_chSlots (n : Nat) (g : PwmSt → PwmSt) : (s.updPwm n g).chSlots = s.chSlots := rfl
@[simp] theorem State.updPwm_fns (n : Nat) (g : PwmSt → PwmSt) : (s.updPwm n g).fns = s.fns := rfl
@[simp] theorem State.updPwm_pcOvr (n : Nat) (g : PwmSt → PwmSt) : (s.updPwm n g).pcOvr = s.pcOvr := rfl
@[simp] theorem State.updPwm_pcDeadline (n : Nat) (g : PwmSt → PwmSt) : (s.updPwm n g).pcDeadline = s.pcDeadline := rfl
@[simp] theorem State.updPwm_prots (n : Nat) (g : PwmSt → PwmSt) : (s.updPwm n g).prots = s.prots := rfl
@[simp] theorem State.updPwm_tos (n : Nat) (g : PwmSt → PwmSt) : (s.updPwm n g).tos = s.tos := rfl
@[simp] theorem State.updPwm_gps (n : Nat) (g : PwmSt → PwmSt) : (s.updPwm n g).gps = s.gps := rfl
@[simp] theorem State.updPwm_gss (n : Nat) (g : PwmSt → PwmSt) : (s.updPwm n g).gss = s.gss := rfl
@[simp] theorem State.updPwm_svPubs (n : Nat) (g : PwmSt → PwmSt) : (s.updPwm n g).svPubs = s.svPubs := rfl
@[simp] theorem State.updPwm_cnv (n : Nat) (g : PwmSt → PwmSt) : (s.updPwm n g).cnv = s.cnv := rfl
@[simp] theorem State.updPwm_arms (n : Nat) (g : PwmSt → PwmSt) : (s.updPwm n g).arms = s.arms := rfl
@[simp] theorem State.updPwm_sms (n : Nat) (g : PwmSt → PwmSt) : (s.updPwm n g).sms = s.sms := rfl
@[simp] theorem State.updPwm_engines (n : Nat) (g : PwmSt → PwmSt) : (s.updPwm n g).engines = s.engines := rfl
@[simp] theorem State.updPwm_beams (n : Nat) (g : PwmSt → PwmSt) : (s.updPwm n g).beams = s.beams := rfl
@[simp] theorem State.updPwm_tis (n : Nat) (g : PwmSt → PwmSt) : (s.updPwm n g).tis = s.tis := rfl
@[simp] theorem State.updPwm_swc (n : Nat) (g : PwmSt → PwmSt) : (s.updPwm n g).swc = s.swc := rfl
@[simp] theorem State.updPwm_col (n : Nat) (g : PwmSt → PwmSt) : (s.updPwm n g).col = s.col := rfl
@[simp] theorem State.updPwm_fbcs (n : Nat) (g : PwmSt → PwmSt) : (s.updPwm n g).fbcs = s.fbcs := rfl
@[simp] theorem State.updPwm_hif (n : Nat) (g : PwmSt → PwmSt) : (s.updPwm n g).hif = s.hif := rfl
@[simp] theorem State.updPwm_mlk (n : Nat) (g : PwmSt → PwmSt) : (s.updPwm n g).mlk = s.mlk := rfl
@[simp] theorem State.updPwm_recs (n : Nat) (g : PwmSt → PwmSt) : (s.updPwm n g).recs = s.recs := rfl
@[simp] theorem State.updPwm_obs (n : Nat) (g : PwmSt → PwmSt) : (s.updPwm n g).obs = s.obs := rfl
@[simp] theorem State.updPwm_bst (n : Nat) (g : PwmSt → PwmSt) : (s.updPwm n g).bst = s.bst := rfl
@[simp] theorem State.updPwm_hw (n : Nat) (g : PwmSt → PwmSt) : (s.updPwm n g).hw = s.hw := rfl
@[simp] theorem State.updPwm_outputs (n : Nat) (g : PwmSt → PwmSt) : (s.updPwm n g).outputs = s.outputs := rfl
@[simp] theorem State.updPwm_lastRead (n : Nat) (g : PwmSt → PwmSt) : (s.updPwm n g).lastRead = s.lastRead := rfl
@[simp] theorem State.updPwm_pending (n : Nat) (g : PwmSt → PwmSt) : (s.updPwm n g).pending = s.pending := rfl

/-! ### updTi -/
@[simp] theorem State.updTi_tis (i : Nat) (g : TiSt → TiSt) : (s.updTi i g).tis = s.tis.upd i g := rfl
@[simp] theorem State.updTi_now (i : Nat) (g : TiSt → TiSt) : (s.updTi i g).now = s.now := rfl
@[simp] theorem State.updTi_freeIdx (i : Nat) (g : TiSt → TiSt) : (s.updTi i g).freeIdx = s.freeIdx := rfl
@[simp] theorem State.updTi_glb (i : Nat) (g : TiSt → TiSt) : (s.updTi i g).glb = s.glb := rfl
@[simp] theorem State.updTi_ka (i : Nat) (g : TiSt → TiSt) : (s.updTi i g).ka = s.ka := rfl
@[simp] theorem State.updTi_svc (i : Nat) (g : TiSt → TiSt) : (s.updTi i g).svc = s.svc := rfl
@[simp] theorem State.updTi_units (i : Nat) (g : TiSt → TiSt) : (s.updTi i g).units = s.units := rfl
@[simp] theorem State.updTi_facets (i : Nat) (g : TiSt → TiSt) : (s.updTi i g).facets = s.facets := rfl
@[simp] theorem State.updTi_progs (i : Nat) (g : TiSt → TiSt) : (s.updTi i g).progs = s.progs := rfl
@[simp] theorem State.updTi_lenses (i : Nat) (g : TiSt → TiSt) : (s.updTi i g).lenses = s.lenses := rfl
@[simp] theorem State.updTi_fencedFlash (i : Nat) (g : TiSt → TiSt) : (s.updTi i g).fencedFlash = s.fencedFlash := rfl
@[simp] theorem State.updTi_lanes (i : Nat) (g : TiSt → TiSt) : (s.updTi i g).lanes = s.lanes := rfl
@[simp] theorem State.updTi_logic (i : Nat) (g : TiSt → TiSt) : (s.updTi i g).logic = s.logic := rfl
@[simp] theorem State.updTi_slots64 (i : Nat) (g : TiSt → TiSt) : (s.updTi i g).slots64 = s.slots64 := rfl
@[simp] theorem State.updTi_stns (i : Nat) (g : TiSt → TiSt) : (s.updTi i g).stns = s.stns := rfl
@[simp] theorem State.updTi_conds (i : Nat) (g : TiSt → TiSt) : (s.updTi i g).conds = s.conds := rfl
@[simp] theorem State.updTi_svs (i : Nat) (g : TiSt → TiSt) : (s.updTi i g).svs = s.svs := rfl
@[simp] theorem State.updTi_chains (i : Nat) (g : TiSt → TiSt) : (s.updTi i g).chains = s.chains := rfl
@[simp] theorem State.updTi_chSlots (i : Nat) (g : TiSt → TiSt) : (s.updTi i g).chSlots = s.chSlots := rfl
@[simp] theorem State.updTi_fns (i : Nat) (g : TiSt → TiSt) : (s.updTi i g).fns = s.fns := rfl
@[simp] theorem State.updTi_pcOvr (i : Nat) (g : TiSt → TiSt) : (s.updTi i g).pcOvr = s.pcOvr := rfl
@[simp] theorem State.updTi_pcDeadline (i : Nat) (g : TiSt → TiSt) : (s.updTi i g).pcDeadline = s.pcDeadline := rfl
@[simp] theorem State.updTi_prots (i : Nat) (g : TiSt → TiSt) : (s.updTi i g).prots = s.prots := rfl
@[simp] theorem State.updTi_tos (i : Nat) (g : TiSt → TiSt) : (s.updTi i g).tos = s.tos := rfl
@[simp] theorem State.updTi_gps (i : Nat) (g : TiSt → TiSt) : (s.updTi i g).gps = s.gps := rfl
@[simp] theorem State.updTi_gss (i : Nat) (g : TiSt → TiSt) : (s.updTi i g).gss = s.gss := rfl
@[simp] theorem State.updTi_svPubs (i : Nat) (g : TiSt → TiSt) : (s.updTi i g).svPubs = s.svPubs := rfl
@[simp] theorem State.updTi_cnv (i : Nat) (g : TiSt → TiSt) : (s.updTi i g).cnv = s.cnv := rfl
@[simp] theorem State.updTi_arms (i : Nat) (g : TiSt → TiSt) : (s.updTi i g).arms = s.arms := rfl
@[simp] theorem State.updTi_sms (i : Nat) (g : TiSt → TiSt) : (s.updTi i g).sms = s.sms := rfl
@[simp] theorem State.updTi_engines (i : Nat) (g : TiSt → TiSt) : (s.updTi i g).engines = s.engines := rfl
@[simp] theorem State.updTi_beams (i : Nat) (g : TiSt → TiSt) : (s.updTi i g).beams = s.beams := rfl
@[simp] theorem State.updTi_pwms (i : Nat) (g : TiSt → TiSt) : (s.updTi i g).pwms = s.pwms := rfl
@[simp] theorem State.updTi_swc (i : Nat) (g : TiSt → TiSt) : (s.updTi i g).swc = s.swc := rfl
@[simp] theorem State.updTi_col (i : Nat) (g : TiSt → TiSt) : (s.updTi i g).col = s.col := rfl
@[simp] theorem State.updTi_fbcs (i : Nat) (g : TiSt → TiSt) : (s.updTi i g).fbcs = s.fbcs := rfl
@[simp] theorem State.updTi_hif (i : Nat) (g : TiSt → TiSt) : (s.updTi i g).hif = s.hif := rfl
@[simp] theorem State.updTi_mlk (i : Nat) (g : TiSt → TiSt) : (s.updTi i g).mlk = s.mlk := rfl
@[simp] theorem State.updTi_recs (i : Nat) (g : TiSt → TiSt) : (s.updTi i g).recs = s.recs := rfl
@[simp] theorem State.updTi_obs (i : Nat) (g : TiSt → TiSt) : (s.updTi i g).obs = s.obs := rfl
@[simp] theorem State.updTi_bst (i : Nat) (g : TiSt → TiSt) : (s.updTi i g).bst = s.bst := rfl
@[simp] theorem State.updTi_hw (i : Nat) (g : TiSt → TiSt) : (s.updTi i g).hw = s.hw := rfl
@[simp] theorem State.updTi_outputs (i : Nat) (g : TiSt → TiSt) : (s.updTi i g).outputs = s.outputs := rfl
@[simp] theorem State.updTi_lastRead (i : Nat) (g : TiSt → TiSt) : (s.updTi i g).lastRead = s.lastRead := rfl
@[simp] theorem State.updTi_pending (i : Nat) (g : TiSt → TiSt) : (s.updTi i g).pending = s.pending := rfl

/-! ### updTo -/
@[simp] theorem State.updTo_tos (m : Nat) (g : ToSt → ToSt) : (s.updTo m g).tos = s.tos.upd m g := rfl
@[simp] theorem State.updTo_now (m : Nat) (g : ToSt → ToSt) : (s.updTo m g).now = s.now := rfl
@[simp] theorem State.updTo_freeIdx (m : Nat) (g : ToSt → ToSt) : (s.updTo m g).freeIdx = s.freeIdx := rfl
@[simp] theorem State.updTo_glb (m : Nat) (g : ToSt → ToSt) : (s.updTo m g).glb = s.glb := rfl
@[simp] theorem State.updTo_ka (m : Nat) (g : ToSt → ToSt) : (s.updTo m g).ka = s.ka := rfl
@[simp] theorem State.updTo_svc (m : Nat) (g : ToSt → ToSt) : (s.updTo m g).svc = s.svc := rfl
@[simp] theorem State.updTo_units (m : Nat) (g : ToSt → ToSt) : (s.updTo m g).units = s.units := rfl
@[simp] theorem State.updTo_facets (m : Nat) (g : ToSt → ToSt) : (s.updTo m g).facets = s.facets := rfl
@[simp] theorem State.updTo_progs (m : Nat) (g : ToSt → ToSt) : (s.updTo m g).progs = s.progs := rfl
@[simp] theorem State.updTo_lenses (m : Nat) (g : ToSt → ToSt) : (s.updTo m g).lenses = s.lenses := rfl
@[simp] theorem State.updTo_fencedFlash (m : Nat) (g : ToSt → ToSt) : (s.updTo m g).fencedFlash = s.fencedFlash := rfl
@[simp] theorem State.updTo_lanes (m : Nat) (g : ToSt → ToSt) : (s.updTo m g).lanes = s.lanes := rfl
@[simp] theorem State.updTo_logic (m : Nat) (g : ToSt → ToSt) : (s.updTo m g).logic = s.logic := rfl
@[simp] theorem State.updTo_slots64 (m : Nat) (g : ToSt → ToSt) : (s.updTo m g).slots64 = s.slots64 := rfl
@[simp] theorem State.updTo_stns (m : Nat) (g : ToSt → ToSt) : (s.updTo m g).stns = s.stns := rfl
@[simp] theorem State.updTo_conds (m : Nat) (g : ToSt → ToSt) : (s.updTo m g).conds = s.conds := rfl
@[simp] theorem State.updTo_svs (m : Nat) (g : ToSt → ToSt) : (s.updTo m g).svs = s.svs := rfl
@[simp] theorem State.updTo_chains (m : Nat) (g : ToSt → ToSt) : (s.updTo m g).chains = s.chains := rfl
@[simp] theorem State.updTo_chSlots (m : Nat) (g : ToSt → ToSt) : (s.updTo m g).chSlots = s.chSlots := rfl
@[simp] theorem State.updTo_fns (m : Nat) (g : ToSt → ToSt) : (s.updTo m g).fns = s.fns := rfl
@[simp] theorem State.updTo_pcOvr (m : Nat) (g : ToSt → ToSt) : (s.updTo m g).pcOvr = s.pcOvr := rfl
@[simp] theorem State.updTo_pcDeadline (m : Nat) (g : ToSt → ToSt) : (s.updTo m g).pcDeadline = s.pcDeadline := rfl
@[simp] theorem State.updTo_prots (m : Nat) (g : ToSt → ToSt) : (s.updTo m g).prots = s.prots := rfl
@[simp] theorem State.updTo_gps (m : Nat) (g : ToSt → ToSt) : (s.updTo m g).gps = s.gps := rfl
@[simp] theorem State.updTo_gss (m : Nat) (g : ToSt → ToSt) : (s.updTo m g).gss = s.gss := rfl
@[simp] theorem State.updTo_svPubs (m : Nat) (g : ToSt → ToSt) : (s.updTo m g).svPubs = s.svPubs := rfl
@[simp] theorem State.updTo_cnv (m : Nat) (g : ToSt → ToSt) : (s.updTo m g).cnv = s.cnv := rfl
@[simp] theorem State.updTo_arms (m : Nat) (g : ToSt → ToSt) : (s.updTo m g).arms = s.arms := rfl
@[simp] theorem State.updTo_sms (m : Nat) (g : ToSt → ToSt) : (s.updTo m g).sms = s.sms := rfl
@[simp] theorem State.updTo_engines (m : Nat) (g : ToSt → ToSt) : (s.updTo m g).engines = s.engines := rfl
@[simp] theorem State.updTo_beams (m : Nat) (g : ToSt → ToSt) : (s.updTo m g).beams = s.beams := rfl
@[simp] theorem State.updTo_pwms (m : Nat) (g : ToSt → ToSt) : (s.updTo m g).pwms = s.pwms := rfl
@[simp] theorem State.updTo_tis (m : Nat) (g : ToSt → ToSt) : (s.updTo m g).tis = s.tis := rfl
@[simp] theorem State.updTo_swc (m : Nat) (g : ToSt → ToSt) : (s.updTo m g).swc = s.swc := rfl
@[simp] theorem State.updTo_col (m : Nat) (g : ToSt → ToSt) : (s.updTo m g).col = s.col := rfl
@[simp] theorem State.updTo_fbcs (m : Nat) (g : ToSt → ToSt) : (s.updTo m g).fbcs = s.fbcs := rfl
@[simp] theorem State.updTo_hif (m : Nat) (g : ToSt → ToSt) : (s.updTo m g).hif = s.hif := rfl
@[simp] theorem State.updTo_mlk (m : Nat) (g : ToSt → ToSt) : (s.updTo m g).mlk = s.mlk := rfl
@[simp] theorem State.updTo_recs (m : Nat) (g : ToSt → ToSt) : (s.updTo m g).recs = s.recs := rfl
@[simp] theorem State.updTo_obs (m : Nat) (g : ToSt → ToSt) : (s.updTo m g).obs = s.obs := rfl
@[simp] theorem State.updTo_bst (m : Nat) (g : ToSt → ToSt) : (s.updTo m g).bst = s.bst := rfl
@[simp] theorem State.updTo_hw (m : Nat) (g : ToSt → ToSt) : (s.updTo m g).hw = s.hw := rfl
@[simp] theorem State.updTo_outputs (m : Nat) (g : ToSt → ToSt) : (s.updTo m g).outputs = s.outputs := rfl
@[simp] theorem State.updTo_lastRead (m : Nat) (g : ToSt → ToSt) : (s.updTo m g).lastRead = s.lastRead := rfl
@[simp] theorem State.updTo_pending (m : Nat) (g : ToSt → ToSt) : (s.updTo m g).pending = s.pending := rfl

/-! ### updGp -/
@[simp] theorem State.updGp_gps (i : Nat) (g : GpSt → GpSt) : (s.updGp i g).gps = s.gps.upd i g := rfl
@[simp] theorem State.updGp_now (i : Nat) (g : GpSt → GpSt) : (s.updGp i g).now = s.now := rfl
@[simp] theorem State.updGp_freeIdx (i : Nat) (g : GpSt → GpSt) : (s.updGp i g).freeIdx = s.freeIdx := rfl
@[simp] theorem State.updGp_glb (i : Nat) (g : GpSt → GpSt) : (s.updGp i g).glb = s.glb := rfl
@[simp] theorem State.updGp_ka (i : Nat) (g : GpSt → GpSt) : (s.updGp i g).ka = s.ka := rfl
@[simp] theorem State.updGp_svc (i : Nat) (g : GpSt → GpSt) : (s.updGp i g).svc = s.svc := rfl
@[simp] theorem State.updGp_units (i : Nat) (g : GpSt → GpSt) : (s.updGp i g).units = s.units := rfl
@[simp] theorem State.updGp_facets (i : Nat) (g : GpSt → GpSt) : (s.updGp i g).facets = s.facets := rfl
@[simp] theorem State.updGp_progs (i : Nat) (g : GpSt → GpSt) : (s.updGp i g).progs = s.progs := rfl
@[simp] theorem State.updGp_lenses (i : Nat) (g : GpSt → GpSt) : (s.updGp i g).lenses = s.lenses := rfl
@[simp] theorem State.updGp_fencedFlash (i : Nat) (g : GpSt → GpSt) : (s.updGp i g).fencedFlash = s.fencedFlash := rfl
@[simp] theorem State.updGp_lanes (i : Nat) (g : GpSt → GpSt) : (s.updGp i g).lanes = s.lanes := rfl
@[simp] theorem State.updGp_logic (i : Nat) (g : GpSt → GpSt) : (s.updGp i g).logic = s.logic := rfl
@[simp] theorem State.updGp_slots64 (i : Nat) (g : GpSt → GpSt) : (s.updGp i g).slots64 = s.slots64 := rfl
@[simp] theorem State.updGp_stns (i : Nat) (g : GpSt → GpSt) : (s.updGp i g).stns = s.stns := rfl
@[simp] theorem State.updGp_conds (i : Nat) (g : GpSt → GpSt) : (s.updGp i g).conds = s.conds := rfl
@[simp] theorem State.updGp_svs (i : Nat) (g : GpSt → GpSt) : (s.updGp i g).svs = s.svs := rfl
@[simp] theorem State.updGp_chains (i : Nat) (g : GpSt → GpSt) : (s.updGp i g).chains = s.chains := rfl
@[simp] theorem State.updGp_chSlots (i : Nat) (g : GpSt → GpSt) : (s.updGp i g).chSlots = s.chSlots := rfl
@[simp] theorem State.updGp_fns (i : Nat) (g : GpSt → GpSt) : (s.updGp i g).fns = s.fns := rfl
@[simp] theorem State.updGp_pcOvr (i : Nat) (g : GpSt → GpSt) : (s.updGp i g).pcOvr = s.pcOvr := rfl
@[simp] theorem State.updGp_pcDeadline (i : Nat) (g : GpSt → GpSt) : (s.updGp i g).pcDeadline = s.pcDeadline := rfl
@[simp] theorem State.updGp_prots (i : Nat) (g : GpSt → GpSt) : (s.updGp i g).prots = s.prots := rfl
@[simp] theorem State.updGp_tos (i : Nat) (g : GpSt → GpSt) : (s.updGp i g).tos = s.tos := rfl
@[simp] theorem State.updGp_gss (i : Nat) (g : GpSt → GpSt) : (s.updGp i g).gss = s.gss := rfl
@[simp] theorem State.updGp_svPubs (i : Nat) (g : GpSt → GpSt) : (s.updGp i g).svPubs = s.svPubs := rfl
@[simp] theorem State.updGp_cnv (i : Nat) (g : GpSt → GpSt) : (s.updGp i g).cnv = s.cnv := rfl
@[simp] theorem State.updGp_arms (i : Nat) (g : GpSt → GpSt) : (s.updGp i g).arms = s.arms := rfl
@[simp] theorem State.updGp_sms (i : Nat) (g : GpSt → GpSt) : (s.updGp i g).sms = s.sms := rfl
@[simp] theorem State.updGp_engines (i : Nat) (g : GpSt → GpSt) : (s.updGp i g).engines = s.engines := rfl
@[simp] theorem State.updGp_beams (i : Nat) (g : GpSt → GpSt) : (s.updGp i g).beams = s.beams := rfl
@[simp] theorem State.updGp_pwms (i : Nat) (g : GpSt → GpSt) : (s.updGp i g).pwms = s.pwms := rfl
@[simp] theorem State.updGp_tis (i : Nat) (g : GpSt → GpSt) : (s.updGp i g).tis = s.tis := rfl
@[simp] theorem State.updGp_swc (i : Nat) (g : GpSt → GpSt) : (s.updGp i g).swc = s.swc := rfl
@[simp] theorem State.updGp_col (i : Nat) (g : GpSt → GpSt) : (s.updGp i g).col = s.col := rfl
@[simp] theorem State.updGp_fbcs (i : Nat) (g : GpSt → GpSt) : (s.updGp i g).fbcs = s.fbcs := rfl
@[simp] theorem State.updGp_hif (i : Nat) (g : GpSt → GpSt) : (s.updGp i g).hif = s.hif := rfl
@[simp] theorem State.updGp_mlk (i : Nat) (g : GpSt → GpSt) : (s.updGp i g).mlk = s.mlk := rfl
@[simp] theorem State.updGp_recs (i : Nat) (g : GpSt → GpSt) : (s.updGp i g).recs = s.recs := rfl
@[simp] theorem State.updGp_obs (i : Nat) (g : GpSt → GpSt) : (s.updGp i g).obs = s.obs := rfl
@[simp] theorem State.updGp_bst (i : Nat) (g : GpSt → GpSt) : (s.updGp i g).bst = s.bst := rfl
@[simp] theorem State.updGp_hw (i : Nat) (g : GpSt → GpSt) : (s.updGp i g).hw = s.hw := rfl
@[simp] theorem State.updGp_outputs (i : Nat) (g : GpSt → GpSt) : (s.updGp i g).outputs = s.outputs := rfl
@[simp] theorem State.updGp_lastRead (i : Nat) (g : GpSt → GpSt) : (s.updGp i g).lastRead = s.lastRead := rfl
@[simp] theorem State.updGp_pending (i : Nat) (g : GpSt → GpSt) : (s.updGp i g).pending = s.pending := rfl

/-! ### updGs -/
@[simp] theorem State.updGs_gss (k : Nat) (g : GsSt → GsSt) : (s.updGs k g).gss = s.gss.upd k g := rfl
@[simp] theorem State.updGs_now (k : Nat) (g : GsSt → GsSt) : (s.updGs k g).now = s.now := rfl
@[simp] theorem State.updGs_freeIdx (k : Nat) (g : GsSt → GsSt) : (s.updGs k g).freeIdx = s.freeIdx := rfl
@[simp] theorem State.updGs_glb (k : Nat) (g : GsSt → GsSt) : (s.updGs k g).glb = s.glb := rfl
@[simp] theorem State.updGs_ka (k : Nat) (g : GsSt → GsSt) : (s.updGs k g).ka = s.ka := rfl
@[simp] theorem State.updGs_svc (k : Nat) (g : GsSt → GsSt) : (s.updGs k g).svc = s.svc := rfl
@[simp] theorem State.updGs_units (k : Nat) (g : GsSt → GsSt) : (s.updGs k g).units = s.units := rfl
@[simp] theorem State.updGs_facets (k : Nat) (g : GsSt → GsSt) : (s.updGs k g).facets = s.facets := rfl
@[simp] theorem State.updGs_progs (k : Nat) (g : GsSt → GsSt) : (s.updGs k g).progs = s.progs := rfl
@[simp] theorem State.updGs_lenses (k : Nat) (g : GsSt → GsSt) : (s.updGs k g).lenses = s.lenses := rfl
@[simp] theorem State.updGs_fencedFlash (k : Nat) (g : GsSt → GsSt) : (s.updGs k g).fencedFlash = s.fencedFlash := rfl
@[simp] theorem State.updGs_lanes (k : Nat) (g : GsSt → GsSt) : (s.updGs k g).lanes = s.lanes := rfl
@[simp] theorem State.updGs_logic (k : Nat) (g : GsSt → GsSt) : (s.updGs k g).logic = s.logic := rfl
@[simp] theorem State.updGs_slots64 (k : Nat) (g : GsSt → GsSt) : (s.updGs k g).slots64 = s.slots64 := rfl
@[simp] theorem State.updGs_stns (k : Nat) (g : GsSt → GsSt) : (s.updGs k g).stns = s.stns := rfl
@[simp] theorem State.updGs_conds (k : Nat) (g : GsSt → GsSt) : (s.updGs k g).conds = s.conds := rfl
@[simp] theorem State.updGs_svs (k : Nat) (g : GsSt → GsSt) : (s.updGs k g).svs = s.svs := rfl
@[simp] theorem State.updGs_chains (k : Nat) (g : GsSt → GsSt) : (s.updGs k g).chains = s.chains := rfl
@[simp] theorem State.updGs_chSlots (k : Nat) (g : GsSt → GsSt) : (s.updGs k g).chSlots = s.chSlots := rfl
@[simp] theorem State.updGs_fns (k : Nat) (g : GsSt → GsSt) : (s.updGs k g).fns = s.fns := rfl
@[simp] theorem State.updGs_pcOvr (k : Nat) (g : GsSt → GsSt) : (s.updGs k g).pcOvr = s.pcOvr := rfl
@[simp] theorem State.updGs_pcDeadline (k : Nat) (g : GsSt → GsSt) : (s.updGs k g).pcDeadline = s.pcDeadline := rfl
@[simp] theorem State.updGs_prots (k : Nat) (g : GsSt → GsSt) : (s.updGs k g).prots = s.prots := rfl
@[simp] theorem State.updGs_tos (k : Nat) (g : GsSt → GsSt) : (s.updGs k g).tos = s.tos := rfl
@[simp] theorem State.updGs_gps (k : Nat) (g : GsSt → GsSt) : (s.updGs k g).gps = s.gps := rfl
@[simp] theorem State.updGs_svPubs (k : Nat) (g : GsSt → GsSt) : (s.updGs k g).svPubs = s.svPubs := rfl
@[simp] theorem State.updGs_cnv (k : Nat) (g : GsSt → GsSt) : (s.updGs k g).cnv = s.cnv := rfl
@[simp] theorem State.updGs_arms (k : Nat) (g : GsSt → GsSt) : (s.updGs k g).arms = s.arms := rfl
@[simp] theorem State.updGs_sms (k : Nat) (g : GsSt → GsSt) : (s.updGs k g).sms = s.sms := rfl
@[simp] theorem State.updGs_engines (k : Nat) (g : GsSt → GsSt) : (s.updGs k g).engines = s.engines := rfl
@[simp] theorem State.updGs_beams (k : Nat) (g : GsSt → GsSt) : (s.updGs k g).beams = s.beams := rfl
@[simp] theorem State.updGs_pwms (k : Nat) (g : GsSt → GsSt) : (s.updGs k g).pwms = s.pwms := rfl
@[simp] theorem State.updGs_tis (k : Nat) (g : GsSt → GsSt) : (s.updGs k g).tis = s.tis := rfl
@[simp] theorem State.updGs_swc (k : Nat) (g : GsSt → GsSt) : (s.updGs k g).swc = s.swc := rfl
@[simp] theorem State.updGs_col (k : Nat) (g : GsSt → GsSt) : (s.updGs k g).col = s.col := rfl
@[simp] theorem State.updGs_fbcs (k : Nat) (g : GsSt → GsSt) : (s.updGs k g).fbcs = s.fbcs := rfl
@[simp] theorem State.updGs_hif (k : Nat) (g : GsSt → GsSt) : (s.updGs k g).hif = s.hif := rfl
@[simp] theorem State.updGs_mlk (k : Nat) (g : GsSt → GsSt) : (s.updGs k g).mlk = s.mlk := rfl
@[simp] theorem State.updGs_recs (k : Nat) (g : GsSt → GsSt) : (s.updGs k g).recs = s.recs := rfl
@[simp] theorem State.updGs_obs (k : Nat) (g : GsSt → GsSt) : (s.updGs k g).obs = s.obs := rfl
@[simp] theorem State.updGs_bst (k : Nat) (g : GsSt → GsSt) : (s.updGs k g).bst = s.bst := rfl
@[simp] theorem State.updGs_hw (k : Nat) (g : GsSt → GsSt) : (s.updGs k g).hw = s.hw := rfl
@[simp] theorem State.updGs_outputs (k : Nat) (g : GsSt → GsSt) : (s.updGs k g).outputs = s.outputs := rfl
@[simp] theorem State.updGs_lastRead (k : Nat) (g : GsSt → GsSt) : (s.updGs k g).lastRead = s.lastRead := rfl
@[simp] theorem State.updGs_pending (k : Nat) (g : GsSt → GsSt) : (s.updGs k g).pending = s.pending := rfl

/-! ### updSv -/
@[simp] theorem State.updSv_svs (k : Nat) (g : SvSt → SvSt) : (s.updSv k g).svs = s.svs.upd k g := rfl
@[simp] theorem State.updSv_now (k : Nat) (g : SvSt → SvSt) : (s.updSv k g).now = s.now := rfl
@[simp] theorem State.updSv_freeIdx (k : Nat) (g : SvSt → SvSt) : (s.updSv k g).freeIdx = s.freeIdx := rfl
@[simp] theorem State.updSv_glb (k : Nat) (g : SvSt → SvSt) : (s.updSv k g).glb = s.glb := rfl
@[simp] theorem State.updSv_ka (k : Nat) (g : SvSt → SvSt) : (s.updSv k g).ka = s.ka := rfl
@[simp] theorem State.updSv_svc (k : Nat) (g : SvSt → SvSt) : (s.updSv k g).svc = s.svc := rfl
@[simp] theorem State.updSv_units (k : Nat) (g : SvSt → SvSt) : (s.updSv k g).units = s.units := rfl
@[simp] theorem State.updSv_facets (k : Nat) (g : SvSt → SvSt) : (s.updSv k g).facets = s.facets := rfl
@[simp] theorem State.updSv_progs (k : Nat) (g : SvSt → SvSt) : (s.updSv k g).progs = s.progs := rfl
@[simp] theorem State.updSv_lenses (k : Nat) (g : SvSt → SvSt) : (s.updSv k g).lenses = s.lenses := rfl
@[simp] theorem State.updSv_fencedFlash (k : Nat) (g : SvSt → SvSt) : (s.updSv k g).fencedFlash = s.fencedFlash := rfl
@[simp] theorem State.updSv_lanes (k : Nat) (g : SvSt → SvSt) : (s.updSv k g).lanes = s.lanes := rfl
@[simp] theorem State.updSv_logic (k : Nat) (g : SvSt → SvSt) : (s.updSv k g).logic = s.logic := rfl
@[simp] theorem State.updSv_slots64 (k : Nat) (g : SvSt → SvSt) : (s.updSv k g).slots64 = s.slots64 := rfl
@[simp] theorem State.updSv_stns (k : Nat) (g : SvSt → SvSt) : (s.updSv k g).stns = s.stns := rfl
@[simp] theorem State.updSv_conds (k : Nat) (g : SvSt → SvSt) : (s.updSv k g).conds = s.conds := rfl
@[simp] theorem State.updSv_chains (k : Nat) (g : SvSt → SvSt) : (s.updSv k g).chains = s.chains := rfl
@[simp] theorem State.updSv_chSlots (k : Nat) (g : SvSt → SvSt) : (s.updSv k g).chSlots = s.chSlots := rfl
@[simp] theorem State.updSv_fns (k : Nat) (g : SvSt → SvSt) : (s.updSv k g).fns = s.fns := rfl
@[simp] theorem State.updSv_pcOvr (k : Nat) (g : SvSt → SvSt) : (s.updSv k g).pcOvr = s.pcOvr := rfl
@[simp] theorem State.updSv_pcDeadline (k : Nat) (g : SvSt → SvSt) : (s.updSv k g).pcDeadline = s.pcDeadline := rfl
@[simp] theorem State.updSv_prots (k : Nat) (g : SvSt → SvSt) : (s.updSv k g).prots = s.prots := rfl
@[simp] theorem State.updSv_tos (k : Nat) (g : SvSt → SvSt) : (s.updSv k g).tos = s.tos := rfl
@[simp] theorem State.updSv_gps (k : Nat) (g : SvSt → SvSt) : (s.updSv k g).gps = s.gps := rfl
@[simp] theorem State.updSv_gss (k : Nat) (g : SvSt → SvSt) : (s.updSv k g).gss = s.gss := rfl
@[simp] theorem State.updSv_svPubs (k : Nat) (g : SvSt → SvSt) : (s.updSv k g).svPubs = s.svPubs := rfl
@[simp] theorem State.updSv_cnv (k : Nat) (g : SvSt → SvSt) : (s.updSv k g).cnv = s.cnv := rfl
@[simp] theorem State.updSv_arms (k : Nat) (g : SvSt → SvSt) : (s.updSv k g).arms = s.arms := rfl
@[simp] theorem State.updSv_sms (k : Nat) (g : SvSt → SvSt) : (s.updSv k g).sms = s.sms := rfl
@[simp] theorem State.updSv_engines (k : Nat) (g : SvSt → SvSt) : (s.updSv k g).engines = s.engines := rfl
@[simp] theorem State.updSv_beams (k : Nat) (g : SvSt → SvSt) : (s.updSv k g).beams = s.beams := rfl
@[simp] theorem State.updSv_pwms (k : Nat) (g : SvSt → SvSt) : (s.updSv k g).pwms = s.pwms := rfl
@[simp] theorem State.updSv_tis (k : Nat) (g : SvSt → SvSt) : (s.updSv k g).tis = s.tis := rfl
@[simp] theorem State.updSv_swc (k : Nat) (g : SvSt → SvSt) : (s.updSv k g).swc = s.swc := rfl
@[simp] theorem State.updSv_col (k : Nat) (g : SvSt → SvSt) : (s.updSv k g).col = s.col := rfl
@[simp] theorem State.updSv_fbcs (k : Nat) (g : SvSt → SvSt) : (s.updSv k g).fbcs = s.fbcs := rfl
@[simp] theorem State.updSv_hif (k : Nat) (g : SvSt → SvSt) : (s.updSv k g).hif = s.hif := rfl
@[simp] theorem State.updSv_mlk (k : Nat) (g : SvSt → SvSt) : (s.updSv k g).mlk = s.mlk := rfl
@[simp] theorem State.updSv_recs (k : Nat) (g : SvSt → SvSt) : (s.updSv k g).recs = s.recs := rfl
@[simp] theorem State.updSv_obs (k : Nat) (g : SvSt → SvSt) : (s.updSv k g).obs = s.obs := rfl
@[simp] theorem State.updSv_bst (k : Nat) (g : SvSt → SvSt) : (s.updSv k g).bst = s.bst := rfl
@[simp] theorem State.updSv_hw (k : Nat) (g : SvSt → SvSt) : (s.updSv k g).hw = s.hw := rfl
@[simp] theorem State.updSv_outputs (k : Nat) (g : SvSt → SvSt) : (s.updSv k g).outputs = s.outputs := rfl
@[simp] theorem State.updSv_lastRead (k : Nat) (g : SvSt → SvSt) : (s.updSv k g).lastRead = s.lastRead := rfl
@[simp] theorem State.updSv_pending (k : Nat) (g : SvSt → SvSt) : (s.updSv k g).pending = s.pending := rfl

/-! ### updChain -/
@[simp] theorem State.updChain_chains (l c : Nat) (g : ChainSt → ChainSt) : (s.updChain l c g).chains = s.chains.upd (chainKey l c) g := rfl
@[simp] theorem State.updChain_now (l c : Nat) (g : ChainSt → ChainSt) : (s.updChain l c g).now = s.now := rfl
@[simp] theorem State.updChain_freeIdx (l c : Nat) (g : ChainSt → ChainSt) : (s.updChain l c g).freeIdx = s.freeIdx := rfl
@[simp] theorem State.updChain_glb (l c : Nat) (g : ChainSt → ChainSt) : (s.updChain l c g).glb = s.glb := rfl
@[simp] theorem State.updChain_ka (l c : Nat) (g : ChainSt → ChainSt) : (s.updChain l c g).ka = s.ka := rfl
@[simp] theorem State.updChain_svc (l c : Nat) (g : ChainSt → ChainSt) : (s.updChain l c g).svc = s.svc := rfl
@[simp] theorem State.updChain_units (l c : Nat) (g : ChainSt → ChainSt) : (s.updChain l c g).units = s.units := rfl
@[simp] theorem State.updChain_facets (l c : Nat) (g : ChainSt → ChainSt) : (s.updChain l c g).facets = s.facets := rfl
@[simp] theorem State.updChain_progs (l c : Nat) (g : ChainSt → ChainSt) : (s.updChain l c g).progs = s.progs := rfl
@[simp] theorem State.updChain_lenses (l c : Nat) (g : ChainSt → ChainSt) : (s.updChain l c g).lenses = s.lenses := rfl
@[simp] theorem State.updChain_fencedFlash (l c : Nat) (g : ChainSt → ChainSt) : (s.updChain l c g).fencedFlash = s.fencedFlash := rfl
@[simp] theorem State.updChain_lanes (l c : Nat) (g : ChainSt → ChainSt) : (s.updChain l c g).lanes = s.lanes := rfl
@[simp] theorem State.updChain_logic (l c : Nat) (g : ChainSt → ChainSt) : (s.updChain l c g).logic = s.logic := rfl
@[simp] theorem State.updChain_slots64 (l c : Nat) (g : ChainSt → ChainSt) : (s.updChain l c g).slots64 = s.slots64 := rfl
@[simp] theorem State.updChain_stns (l c : Nat) (g : ChainSt → ChainSt) : (s.updChain l c g).stns = s.stns := rfl
@[simp] theorem State.updChain_conds (l c : Nat) (g : ChainSt → ChainSt) : (s.updChain l c g).conds = s.conds := rfl
@[simp] theorem State.updChain_svs (l c : Nat) (g : ChainSt → ChainSt) : (s.updChain l c g).svs = s.svs := rfl
@[simp] theorem State.updChain_chSlots (l c : Nat) (g : ChainSt → ChainSt) : (s.updChain l c g).chSlots = s.chSlots := rfl
@[simp] theorem State.updChain_fns (l c : Nat) (g : ChainSt → ChainSt) : (s.updChain l c g).fns = s.fns := rfl
@[simp] theorem State.updChain_pcOvr (l c : Nat) (g : ChainSt → ChainSt) : (s.updChain l c g).pcOvr = s.pcOvr := rfl
@[simp] theorem State.updChain_pcDeadline (l c : Nat) (g : ChainSt → ChainSt) : (s.updChain l c g).pcDeadline = s.pcDeadline := rfl
@[simp] theorem State.updChain_prots (l c : Nat) (g : ChainSt → ChainSt) : (s.updChain l c g).prots = s.prots := rfl
@[simp] theorem State.updChain_tos (l c : Nat) (g : ChainSt → ChainSt) : (s.updChain l c g).tos = s.tos := rfl
@[simp] theorem State.updChain_gps (l c : Nat) (g : ChainSt → ChainSt) : (s.updChain l c g).gps = s.gps := rfl
@[simp] theorem State.updChain_gss (l c : Nat) (g : ChainSt → ChainSt) : (s.updChain l c g).gss = s.gss := rfl
@[simp] theorem State.updChain_svPubs (l c : Nat) (g : ChainSt → ChainSt) : (s.updChain l c g).svPubs = s.svPubs := rfl
@[simp] theorem State.updChain_cnv (l c : Nat) (g : ChainSt → ChainSt) : (s.updChain l c g).cnv = s.cnv := rfl
@[simp] theorem State.updChain_arms (l c : Nat) (g : ChainSt → ChainSt) : (s.updChain l c g).arms = s.arms := rfl
@[simp] theorem State.updChain_sms (l c : Nat) (g : ChainSt → ChainSt) : (s.updChain l c g).sms = s.sms := rfl
@[simp] theorem State.updChain_engines (l c : Nat) (g : ChainSt → ChainSt) : (s.updChain l c g).engines = s.engines := rfl
@[simp] theorem State.updChain_beams (l c : Nat) (g : ChainSt → ChainSt) : (s.updChain l c g).beams = s.beams := rfl
@[simp] theorem State.updChain_pwms (l c : Nat) (g : ChainSt → ChainSt) : (s.updChain l c g).pwms = s.pwms := rfl
@[simp] theorem State.updChain_tis (l c : Nat) (g : ChainSt → ChainSt) : (s.updChain l c g).tis = s.tis := rfl
@[simp] theorem State.updChain_swc (l c : Nat) (g : ChainSt → ChainSt) : (s.updChain l c g).swc = s.swc := rfl
@[simp] theorem State.updChain_col (l c : Nat) (g : ChainSt → ChainSt) : (s.updChain l c g).col = s.col := rfl
@[simp] theorem State.updChain_fbcs (l c : Nat) (g : ChainSt → ChainSt) : (s.updChain l c g).fbcs = s.fbcs := rfl
@[simp] theorem State.updChain_hif (l c : Nat) (g : ChainSt → ChainSt) : (s.updChain l c g).hif = s.hif := rfl
@[simp] theorem State.updChain_mlk (l c : Nat) (g : ChainSt → ChainSt) : (s.updChain l c g).mlk = s.mlk := rfl
@[simp] theorem State.updChain_recs (l c : Nat) (g : ChainSt → ChainSt) : (s.updChain l c g).recs = s.recs := rfl
@[simp] theorem State.updChain_obs (l c : Nat) (g : ChainSt → ChainSt) : (s.updChain l c g).obs = s.obs := rfl
@[simp] theorem State.updChain_bst (l c : Nat) (g : ChainSt → ChainSt) : (s.updChain l c g).bst = s.bst := rfl
@[simp] theorem State.updChain_hw (l c : Nat) (g : ChainSt → ChainSt) : (s.updChain l c g).hw = s.hw := rfl
@[simp] theorem State.updChain_outputs (l c : Nat) (g : ChainSt → ChainSt) : (s.updChain l c g).outputs = s.outputs := rfl
@[simp] theorem State.updChain_lastRead (l c : Nat) (g : ChainSt → ChainSt) : (s.updChain l c g).lastRead = s.lastRead := rfl
@[simp] theorem State.updChain_pending (l c : Nat) (g : ChainSt → ChainSt) : (s.updChain l c g).pending = s.pending := rfl

/-! ### updSlot -/
@[simp] theorem State.updSlot_chSlots (l i : Nat) (g : SlotSt → SlotSt) : (s.updSlot l i g).chSlots = s.chSlots.upd (slotKey l i) g := rfl
@[simp] theorem State.updSlot_now (l i : Nat) (g : SlotSt → SlotSt) : (s.updSlot l i g).now = s.now := rfl
@[simp] theorem State.updSlot_freeIdx (l i : Nat) (g : SlotSt → SlotSt) : (s.updSlot l i g).freeIdx = s.freeIdx := rfl
@[simp] theorem State.updSlot_glb (l i : Nat) (g : SlotSt → SlotSt) : (s.updSlot l i g).glb = s.glb := rfl
@[simp] theorem State.updSlot_ka (l i : Nat) (g : SlotSt → SlotSt) : (s.updSlot l i g).ka = s.ka := rfl
@[simp] theorem State.updSlot_svc (l i : Nat) (g : SlotSt → SlotSt) : (s.updSlot l i g).svc = s.svc := rfl
@[simp] theorem State.updSlot_units (l i : Nat) (g : SlotSt → SlotSt) : (s.updSlot l i g).units = s.units := rfl
@[simp] theorem State.updSlot_facets (l i : Nat) (g : SlotSt → SlotSt) : (s.updSlot l i g).facets = s.facets := rfl
@[simp] theorem State.updSlot_progs (l i : Nat) (g : SlotSt → SlotSt) : (s.updSlot l i g).progs = s.progs := rfl
@[simp] theorem State.updSlot_lenses (l i : Nat) (g : SlotSt → SlotSt) : (s.updSlot l i g).lenses = s.lenses := rfl
@[simp] theorem State.updSlot_fencedFlash (l i : Nat) (g : SlotSt → SlotSt) : (s.updSlot l i g).fencedFlash = s.fencedFlash := rfl
@[simp] theorem State.updSlot_lanes (l i : Nat) (g : SlotSt → SlotSt) : (s.updSlot l i g).lanes = s.lanes := rfl
@[simp] theorem State.updSlot_logic (l i : Nat) (g : SlotSt → SlotSt) : (s.updSlot l i g).logic = s.logic := rfl
@[simp] theorem State.updSlot_slots64 (l i : Nat) (g : SlotSt → SlotSt) : (s.updSlot l i g).slots64 = s.slots64 := rfl
@[simp] theorem State.updSlot_stns (l i : Nat) (g : SlotSt → SlotSt) : (s.updSlot l i g).stns = s.stns := rfl
@[simp] theorem State.updSlot_conds (l i : Nat) (g : SlotSt → SlotSt) : (s.updSlot l i g).conds = s.conds := rfl
@[simp] theorem State.updSlot_svs (l i : Nat) (g : SlotSt → SlotSt) : (s.updSlot l i g).svs = s.svs := rfl
@[simp] theorem State.updSlot_chains (l i : Nat) (g : SlotSt → SlotSt) : (s.updSlot l i g).chains = s.chains := rfl
@[simp] theorem State.updSlot_fns (l i : Nat) (g : SlotSt → SlotSt) : (s.updSlot l i g).fns = s.fns := rfl
@[simp] theorem State.updSlot_pcOvr (l i : Nat) (g : SlotSt → SlotSt) : (s.updSlot l i g).pcOvr = s.pcOvr := rfl
@[simp] theorem State.updSlot_pcDeadline (l i : Nat) (g : SlotSt → SlotSt) : (s.updSlot l i g).pcDeadline = s.pcDeadline := rfl
@[simp] theorem State.updSlot_prots (l i : Nat) (g : SlotSt → SlotSt) : (s.updSlot l i g).prots = s.prots := rfl
@[simp] theorem State.updSlot_tos (l i : Nat) (g : SlotSt → SlotSt) : (s.updSlot l i g).tos = s.tos := rfl
@[simp] theorem State.updSlot_gps (l i : Nat) (g : SlotSt → SlotSt) : (s.updSlot l i g).gps = s.gps := rfl
@[simp] theorem State.updSlot_gss (l i : Nat) (g : SlotSt → SlotSt) : (s.updSlot l i g).gss = s.gss := rfl
@[simp] theorem State.updSlot_svPubs (l i : Nat) (g : SlotSt → SlotSt) : (s.updSlot l i g).svPubs = s.svPubs := rfl
@[simp] theorem State.updSlot_cnv (l i : Nat) (g : SlotSt → SlotSt) : (s.updSlot l i g).cnv = s.cnv := rfl
@[simp] theorem State.updSlot_arms (l i : Nat) (g : SlotSt → SlotSt) : (s.updSlot l i g).arms = s.arms := rfl
@[simp] theorem State.updSlot_sms (l i : Nat) (g : SlotSt → SlotSt) : (s.updSlot l i g).sms = s.sms := rfl
@[simp] theorem State.updSlot_engines (l i : Nat) (g : SlotSt → SlotSt) : (s.updSlot l i g).engines = s.engines := rfl
@[simp] theorem State.updSlot_beams (l i : Nat) (g : SlotSt → SlotSt) : (s.updSlot l i g).beams = s.beams := rfl
@[simp] theorem State.updSlot_pwms (l i : Nat) (g : SlotSt → SlotSt) : (s.updSlot l i g).pwms = s.pwms := rfl
@[simp] theorem State.updSlot_tis (l i : Nat) (g : SlotSt → SlotSt) : (s.updSlot l i g).tis = s.tis := rfl
@[simp] theorem State.updSlot_swc (l i : Nat) (g : SlotSt → SlotSt) : (s.updSlot l i g).swc = s.swc := rfl
@[simp] theorem State.updSlot_col (l i : Nat) (g : SlotSt → SlotSt) : (s.updSlot l i g).col = s.col := rfl
@[simp] theorem State.updSlot_fbcs (l i : Nat) (g : SlotSt → SlotSt) : (s.updSlot l i g).fbcs = s.fbcs := rfl
@[simp] theorem State.updSlot_hif (l i : Nat) (g : SlotSt → SlotSt) : (s.updSlot l i g).hif = s.hif := rfl
@[simp] theorem State.updSlot_mlk (l i : Nat) (g : SlotSt → SlotSt) : (s.updSlot l i g).mlk = s.mlk := rfl
@[simp] theorem State.updSlot_recs (l i : Nat) (g : SlotSt → SlotSt) : (s.updSlot l i g).recs = s.recs := rfl
@[simp] theorem State.updSlot_obs (l i : Nat) (g : SlotSt → SlotSt) : (s.updSlot l i g).obs = s.obs := rfl
@[simp] theorem State.updSlot_bst (l i : Nat) (g : SlotSt → SlotSt) : (s.updSlot l i g).bst = s.bst := rfl
@[simp] theorem State.updSlot_hw (l i : Nat) (g : SlotSt → SlotSt) : (s.updSlot l i g).hw = s.hw := rfl
@[simp] theorem State.updSlot_outputs (l i : Nat) (g : SlotSt → SlotSt) : (s.updSlot l i g).outputs = s.outputs := rfl
@[simp] theorem State.updSlot_lastRead (l i : Nat) (g : SlotSt → SlotSt) : (s.updSlot l i g).lastRead = s.lastRead := rfl
@[simp] theorem State.updSlot_pending (l i : Nat) (g : SlotSt → SlotSt) : (s.updSlot l i g).pending = s.pending := rfl

/-! ### updProt -/
@[simp] theorem State.updProt_prots (p : Nat) (g : ProtSt → ProtSt) : (s.updProt p g).prots = s.prots.upd p g := rfl
@[simp] theorem State.updProt_now (p : Nat) (g : ProtSt → ProtSt) : (s.updProt p g).now = s.now := rfl
@[simp] theorem State.updProt_freeIdx (p : Nat) (g : ProtSt → ProtSt) : (s.updProt p g).freeIdx = s.freeIdx := rfl
@[simp] theorem State.updProt_glb (p : Nat) (g : ProtSt → ProtSt) : (s.updProt p g).glb = s.glb := rfl
@[simp] theorem State.updProt_ka (p : Nat) (g : ProtSt → ProtSt) : (s.updProt p g).ka = s.ka := rfl
@[simp] theorem State.updProt_svc (p : Nat) (g : ProtSt → ProtSt) : (s.updProt p g).svc = s.svc := rfl
@[simp] theorem State.updProt_units (p : Nat) (g : ProtSt → ProtSt) : (s.updProt p g).units = s.units := rfl
@[simp] theorem State.updProt_facets (p : Nat) (g : ProtSt → ProtSt) : (s.updProt p g).facets = s.facets := rfl
@[simp] theorem State.updProt_progs (p : Nat) (g : ProtSt → ProtSt) : (s.updProt p g).progs = s.progs := rfl
@[simp] theorem State.updProt_lenses (p : Nat) (g : ProtSt → ProtSt) : (s.updProt p g).lenses = s.lenses := rfl
@[simp] theorem State.updProt_fencedFlash (p : Nat) (g : ProtSt → ProtSt) : (s.updProt p g).fencedFlash = s.fencedFlash := rfl
@[simp] theorem State.updProt_lanes (p : Nat) (g : ProtSt → ProtSt) : (s.updProt p g).lanes = s.lanes := rfl
@[simp] theorem State.updProt_logic (p : Nat) (g : ProtSt → ProtSt) : (s.updProt p g).logic = s.logic := rfl
@[simp] theorem State.updProt_slots64 (p : Nat) (g : ProtSt → ProtSt) : (s.updProt p g).slots64 = s.slots64 := rfl
@[simp] theorem State.updProt_stns (p : Nat) (g : ProtSt → ProtSt) : (s.updProt p g).stns = s.stns := rfl
@[simp] theorem State.updProt_conds (p : Nat) (g : ProtSt → ProtSt) : (s.updProt p g).conds = s.conds := rfl
@[simp] theorem State.updProt_svs (p : Nat) (g : ProtSt → ProtSt) : (s.updProt p g).svs = s.svs := rfl
@[simp] theorem State.updProt_chains (p : Nat) (g : ProtSt → ProtSt) : (s.updProt p g).chains = s.chains := rfl
@[simp] theorem State.updProt_chSlots (p : Nat) (g : ProtSt → ProtSt) : (s.updProt p g).chSlots = s.chSlots := rfl
@[simp] theorem State.updProt_fns (p : Nat) (g : ProtSt → ProtSt) : (s.updProt p g).fns = s.fns := rfl
@[simp] theorem State.updProt_pcOvr (p : Nat) (g : ProtSt → ProtSt) : (s.updProt p g).pcOvr = s.pcOvr := rfl
@[simp] theorem State.updProt_pcDeadline (p : Nat) (g : ProtSt → ProtSt) : (s.updProt p g).pcDeadline = s.pcDeadline := rfl
@[simp] theorem State.updProt_tos (p : Nat) (g : ProtSt → ProtSt) : (s.updProt p g).tos = s.tos := rfl
@[simp] theorem State.updProt_gps (p : Nat) (g : ProtSt → ProtSt) : (s.updProt p g).gps = s.gps := rfl
@[simp] theorem State.updProt_gss (p : Nat) (g : ProtSt → ProtSt) : (s.updProt p g).gss = s.gss := rfl
@[simp] theorem State.updProt_svPubs (p : Nat) (g : ProtSt → ProtSt) : (s.updProt p g).svPubs = s.svPubs := rfl
@[simp] theorem State.updProt_cnv (p : Nat) (g : ProtSt → ProtSt) : (s.updProt p g).cnv = s.cnv := rfl
@[simp] theorem State.updProt_arms (p : Nat) (g : ProtSt → ProtSt) : (s.updProt p g).arms = s.arms := rfl
@[simp] theorem State.updProt_sms (p : Nat) (g : ProtSt → ProtSt) : (s.updProt p g).sms = s.sms := rfl
@[simp] theorem State.updProt_engines (p : Nat) (g : ProtSt → ProtSt) : (s.updProt p g).engines = s.engines := rfl
@[simp] theorem State.updProt_beams (p : Nat) (g : ProtSt → ProtSt) : (s.updProt p g).beams = s.beams := rfl
@[simp] theorem State.updProt_pwms (p : Nat) (g : ProtSt → ProtSt) : (s.updProt p g).pwms = s.pwms := rfl
@[simp] theorem State.updProt_tis (p : Nat) (g : ProtSt → ProtSt) : (s.updProt p g).tis = s.tis := rfl
@[simp] theorem State.updProt_swc (p : Nat) (g : ProtSt → ProtSt) : (s.updProt p g).swc = s.swc := rfl
@[simp] theorem State.updProt_col (p : Nat) (g : ProtSt → ProtSt) : (s.updProt p g).col = s.col := rfl
@[simp] theorem State.updProt_fbcs (p : Nat) (g : ProtSt → ProtSt) : (s.updProt p g).fbcs = s.fbcs := rfl
@[simp] theorem State.updProt_hif (p : Nat) (g : ProtSt → ProtSt) : (s.updProt p g).hif = s.hif := rfl
@[simp] theorem State.updProt_mlk (p : Nat) (g : ProtSt → ProtSt) : (s.updProt p g).mlk = s.mlk := rfl
@[simp] theorem State.updProt_recs (p : Nat) (g : ProtSt → ProtSt) : (s.updProt p g).recs = s.recs := rfl
@[simp] theorem State.updProt_obs (p : Nat) (g : ProtSt → ProtSt) : (s.updProt p g).obs = s.obs := rfl
@[simp] theorem State.updProt_bst (p : Nat) (g : ProtSt → ProtSt) : (s.updProt p g).bst = s.bst := rfl
@[simp] theorem State.updProt_hw (p : Nat) (g : ProtSt → ProtSt) : (s.updProt p g).hw = s.hw := rfl
@[simp] theorem State.updProt_outputs (p : Nat) (g : ProtSt → ProtSt) : (s.updProt p g).outputs = s.outputs := rfl
@[simp] theorem State.updProt_lastRead (p : Nat) (g : ProtSt → ProtSt) : (s.updProt p g).lastRead = s.lastRead := rfl
@[simp] theorem State.updProt_pending (p : Nat) (g : ProtSt → ProtSt) : (s.updProt p g).pending = s.pending := rfl

/-! ### updFn -/
@[simp] theorem State.updFn_fns (k : Nat) (g : FnSt → FnSt) : (s.updFn k g).fns = s.fns.upd k g := rfl
@[simp] theorem State.updFn_now (k : Nat) (g : FnSt → FnSt) : (s.updFn k g).now = s.now := rfl
@[simp] theorem State.updFn_freeIdx (k : Nat) (g : FnSt → FnSt) : (s.updFn k g).freeIdx = s.freeIdx := rfl
@[simp] theorem State.updFn_glb (k : Nat) (g : FnSt → FnSt) : (s.updFn k g).glb = s.glb := rfl
@[simp] theorem State.updFn_ka (k : Nat) (g : FnSt → FnSt) : (s.updFn k g).ka = s.ka := rfl
@[simp] theorem State.updFn_svc (k : Nat) (g : FnSt → FnSt) : (s.updFn k g).svc = s.svc := rfl
@[simp] theorem State.updFn_units (k : Nat) (g : FnSt → FnSt) : (s.updFn k g).units = s.units := rfl
@[simp] theorem State.updFn_facets (k : Nat) (g : FnSt → FnSt) : (s.updFn k g).facets = s.facets := rfl
@[simp] theorem State.updFn_progs (k : Nat) (g : FnSt → FnSt) : (s.updFn k g).progs = s.progs := rfl
@[simp] theorem State.updFn_lenses (k : Nat) (g : FnSt → FnSt) : (s.updFn k g).lenses = s.lenses := rfl
@[simp] theorem State.updFn_fencedFlash (k : Nat) (g : FnSt → FnSt) : (s.updFn k g).fencedFlash = s.fencedFlash := rfl
@[simp] theorem State.updFn_lanes (k : Nat) (g : FnSt → FnSt) : (s.updFn k g).lanes = s.lanes := rfl
@[simp] theorem State.updFn_logic (k : Nat) (g : FnSt → FnSt) : (s.updFn k g).logic = s.logic := rfl
@[simp] theorem State.updFn_slots64 (k : Nat) (g : FnSt → FnSt) : (s.updFn k g).slots64 = s.slots64 := rfl
@[simp] theorem State.updFn_stns (k : Nat) (g : FnSt → FnSt) : (s.updFn k g).stns = s.stns := rfl
@[simp] theorem State.updFn_conds (k : Nat) (g : FnSt → FnSt) : (s.updFn k g).conds = s.conds := rfl
@[simp] theorem State.updFn_svs (k : Nat) (g : FnSt → FnSt) : (s.updFn k g).svs = s.svs := rfl
@[simp] theorem State.updFn_chains (k : Nat) (g : FnSt → FnSt) : (s.updFn k g).chains = s.chains := rfl
@[simp] theorem State.updFn_chSlots (k : Nat) (g : FnSt → FnSt) : (s.updFn k g).chSlots = s.chSlots := rfl
@[simp] theorem State.updFn_pcOvr (k : Nat) (g : FnSt → FnSt) : (s.updFn k g).pcOvr = s.pcOvr := rfl
@[simp] theorem State.updFn_pcDeadline (k : Nat) (g : FnSt → FnSt) : (s.updFn k g).pcDeadline = s.pcDeadline := rfl
@[simp] theorem State.updFn_prots (k : Nat) (g : FnSt → FnSt) : (s.updFn k g).prots = s.prots := rfl
@[simp] theorem State.updFn_tos (k : Nat) (g : FnSt → FnSt) : (s.updFn k g).tos = s.tos := rfl
@[simp] theorem State.updFn_gps (k : Nat) (g : FnSt → FnSt) : (s.updFn k g).gps = s.gps := rfl
@[simp] theorem State.updFn_gss (k : Nat) (g : FnSt → FnSt) : (s.updFn k g).gss = s.gss := rfl
@[simp] theorem State.updFn_svPubs (k : Nat) (g : FnSt → FnSt) : (s.updFn k g).svPubs = s.svPubs := rfl
@[simp] theorem State.updFn_cnv (k : Nat) (g : FnSt → FnSt) : (s.updFn k g).cnv = s.cnv := rfl
@[simp] theorem State.updFn_arms (k : Nat) (g : FnSt → FnSt) : (s.updFn k g).arms = s.arms := rfl
@[simp] theorem State.updFn_sms (k : Nat) (g : FnSt → FnSt) : (s.updFn k g).sms = s.sms := rfl
@[simp] theorem State.updFn_engines (k : Nat) (g : FnSt → FnSt) : (s.updFn k g).engines = s.engines := rfl
@[simp] theorem State.updFn_beams (k : Nat) (g : FnSt → FnSt) : (s.updFn k g).beams = s.beams := rfl
@[simp] theorem State.updFn_pwms (k : Nat) (g : FnSt → FnSt) : (s.updFn k g).pwms = s.pwms := rfl
@[simp] theorem State.updFn_tis (k : Nat) (g : FnSt → FnSt) : (s.updFn k g).tis = s.tis := rfl
@[simp] theorem State.updFn_swc (k : Nat) (g : FnSt → FnSt) : (s.updFn k g).swc = s.swc := rfl
@[simp] theorem State.updFn_col (k : Nat) (g : FnSt → FnSt) : (s.updFn k g).col = s.col := rfl
@[simp] theorem State.updFn_fbcs (k : Nat) (g : FnSt → FnSt) : (s.updFn k g).fbcs = s.fbcs := rfl
@[simp] theorem State.updFn_hif (k : Nat) (g : FnSt → FnSt) : (s.updFn k g).hif = s.hif := rfl
@[simp] theorem State.updFn_mlk (k : Nat) (g : FnSt → FnSt) : (s.updFn k g).mlk = s.mlk := rfl
@[simp] theorem State.updFn_recs (k : Nat) (g : FnSt → FnSt) : (s.updFn k g).recs = s.recs := rfl
@[simp] theorem State.updFn_obs (k : Nat) (g : FnSt → FnSt) : (s.updFn k g).obs = s.obs := rfl
@[simp] theorem State.updFn_bst (k : Nat) (g : FnSt → FnSt) : (s.updFn k g).bst = s.bst := rfl
@[simp] theorem State.updFn_hw (k : Nat) (g : FnSt → FnSt) : (s.updFn k g).hw = s.hw := rfl
@[simp] theorem State.updFn_outputs (k : Nat) (g : FnSt → FnSt) : (s.updFn k g).outputs = s.outputs := rfl
@[simp] theorem State.updFn_lastRead (k : Nat) (g : FnSt → FnSt) : (s.updFn k g).lastRead = s.lastRead := rfl
@[simp] theorem State.updFn_pending (k : Nat) (g : FnSt → FnSt) : (s.updFn k g).pending = s.pending := rfl

/-! ### updFbc -/
@[simp] theorem State.updFbc_fbcs (b : Nat) (g : FbcSt → FbcSt) : (s.updFbc b g).fbcs = s.fbcs.upd b g := rfl
@[simp] theorem State.updFbc_now (b : Nat) (g : FbcSt → FbcSt) : (s.updFbc b g).now = s.now := rfl
@[simp] theorem State.updFbc_freeIdx (b : Nat) (g : FbcSt → FbcSt) : (s.updFbc b g).freeIdx = s.freeIdx := rfl
@[simp] theorem State.updFbc_glb (b : Nat) (g : FbcSt → FbcSt) : (s.updFbc b g).glb = s.glb := rfl
@[simp] theorem State.updFbc_ka (b : Nat) (g : FbcSt → FbcSt) : (s.updFbc b g).ka = s.ka := rfl
@[simp] theorem State.updFbc_svc (b : Nat) (g : FbcSt → FbcSt) : (s.updFbc b g).svc = s.svc := rfl
@[simp] theorem State.updFbc_units (b : Nat) (g : FbcSt → FbcSt) : (s.updFbc b g).units = s.units := rfl
@[simp] theorem State.updFbc_facets (b : Nat) (g : FbcSt → FbcSt) : (s.updFbc b g).facets = s.facets := rfl
@[simp] theorem State.updFbc_progs (b : Nat) (g : FbcSt → FbcSt) : (s.updFbc b g).progs = s.progs := rfl
@[simp] theorem State.updFbc_lenses (b : Nat) (g : FbcSt → FbcSt) : (s.updFbc b g).lenses = s.lenses := rfl
@[simp] theorem State.updFbc_fencedFlash (b : Nat) (g : FbcSt → FbcSt) : (s.updFbc b g).fencedFlash = s.fencedFlash := rfl
@[simp] theorem State.updFbc_lanes (b : Nat) (g : FbcSt → FbcSt) : (s.updFbc b g).lanes = s.lanes := rfl
@[simp] theorem State.updFbc_logic (b : Nat) (g : FbcSt → FbcSt) : (s.updFbc b g).logic = s.logic := rfl
@[simp] theorem State.updFbc_slots64 (b : Nat) (g : FbcSt → FbcSt) : (s.updFbc b g).slots64 = s.slots64 := rfl
@[simp] theorem State.updFbc_stns (b : Nat) (g : FbcSt → FbcSt) : (s.updFbc b g).stns = s.stns := rfl
@[simp] theorem State.updFbc_conds (b : Nat) (g : FbcSt → FbcSt) : (s.updFbc b g).conds = s.conds := rfl
@[simp] theorem State.updFbc_svs (b : Nat) (g : FbcSt → FbcSt) : (s.updFbc b g).svs = s.svs := rfl
@[simp] theorem State.updFbc_chains (b : Nat) (g : FbcSt → FbcSt) : (s.updFbc b g).chains = s.chains := rfl
@[simp] theorem State.updFbc_chSlots (b : Nat) (g : FbcSt → FbcSt) : (s.updFbc b g).chSlots = s.chSlots := rfl
@[simp] theorem State.updFbc_fns (b : Nat) (g : FbcSt → FbcSt) : (s.updFbc b g).fns = s.fns := rfl
@[simp] theorem State.updFbc_pcOvr (b : Nat) (g : FbcSt → FbcSt) : (s.updFbc b g).pcOvr = s.pcOvr := rfl
@[simp] theorem State.updFbc_pcDeadline (b : Nat) (g : FbcSt → FbcSt) : (s.updFbc b g).pcDeadline = s.pcDeadline := rfl
@[simp] theorem State.updFbc_prots (b : Nat) (g : FbcSt → FbcSt) : (s.updFbc b g).prots = s.prots := rfl
@[simp] theorem State.updFbc_tos (b : Nat) (g : FbcSt → FbcSt) : (s.updFbc b g).tos = s.tos := rfl
@[simp] theorem State.updFbc_gps (b : Nat) (g : FbcSt → FbcSt) : (s.updFbc b g).gps = s.gps := rfl
@[simp] theorem State.updFbc_gss (b : Nat) (g : FbcSt → FbcSt) : (s.updFbc b g).gss = s.gss := rfl
@[simp] theorem State.updFbc_svPubs (b : Nat) (g : FbcSt → FbcSt) : (s.updFbc b g).svPubs = s.svPubs := rfl
@[simp] theorem State.updFbc_cnv (b : Nat) (g : FbcSt → FbcSt) : (s.updFbc b g).cnv = s.cnv := rfl
@[simp] theorem State.updFbc_arms (b : Nat) (g : FbcSt → FbcSt) : (s.updFbc b g).arms = s.arms := rfl
@[simp] theorem State.updFbc_sms (b : Nat) (g : FbcSt → FbcSt) : (s.updFbc b g).sms = s.sms := rfl
@[simp] theorem State.updFbc_engines (b : Nat) (g : FbcSt → FbcSt) : (s.updFbc b g).engines = s.engines := rfl
@[simp] theorem State.updFbc_beams (b : Nat) (g : FbcSt → FbcSt) : (s.updFbc b g).beams = s.beams := rfl
@[simp] theorem State.updFbc_pwms (b : Nat) (g : FbcSt → FbcSt) : (s.updFbc b g).pwms = s.pwms := rfl
@[simp] theorem State.updFbc_tis (b : Nat) (g : FbcSt → FbcSt) : (s.updFbc b g).tis = s.tis := rfl
@[simp] theorem State.updFbc_swc (b : Nat) (g : FbcSt → FbcSt) : (s.updFbc b g).swc = s.swc := rfl
@[simp] theorem State.updFbc_col (b : Nat) (g : FbcSt → FbcSt) : (s.updFbc b g).col = s.col := rfl
@[simp] theorem State.updFbc_hif (b : Nat) (g : FbcSt → FbcSt) : (s.updFbc b g).hif = s.hif := rfl
@[simp] theorem State.updFbc_mlk (b : Nat) (g : FbcSt → FbcSt) : (s.updFbc b g).mlk = s.mlk := rfl
@[simp] theorem State.updFbc_recs (b : Nat) (g : FbcSt → FbcSt) : (s.updFbc b g).recs = s.recs := rfl
@[simp] theorem State.updFbc_obs (b : Nat) (g : FbcSt → FbcSt) : (s.updFbc b g).obs = s.obs := rfl
@[simp] theorem State.updFbc_bst (b : Nat) (g : FbcSt → FbcSt) : (s.updFbc b g).bst = s.bst := rfl
@[simp] theorem State.updFbc_hw (b : Nat) (g : FbcSt → FbcSt) : (s.updFbc b g).hw = s.hw := rfl
@[simp] theorem State.updFbc_outputs (b : Nat) (g : FbcSt → FbcSt) : (s.updFbc b g).outputs = s.outputs := rfl
@[simp] theorem State.updFbc_lastRead (b : Nat) (g : FbcSt → FbcSt) : (s.updFbc b g).lastRead = s.lastRead := rfl
@[simp] theorem State.updFbc_pending (b : Nat) (g : FbcSt → FbcSt) : (s.updFbc b g).pending = s.pending := rfl

/-! ### updSwc -/
@[simp] theorem State.updSwc_swc (g : SwcSt → SwcSt) : (s.updSwc g).swc = g s.swc := rfl
@[simp] theorem State.updSwc_now (g : SwcSt → SwcSt) : (s.updSwc g).now = s.now := rfl
@[simp] theorem State.updSwc_freeIdx (g : SwcSt → SwcSt) : (s.updSwc g).freeIdx = s.freeIdx := rfl
@[simp] theorem State.updSwc_glb (g : SwcSt → SwcSt) : (s.updSwc g).glb = s.glb := rfl
@[simp] theorem State.updSwc_ka (g : SwcSt → SwcSt) : (s.updSwc g).ka = s.ka := rfl
@[simp] theorem State.updSwc_svc (g : SwcSt → SwcSt) : (s.updSwc g).svc = s.svc := rfl
@[simp] theorem State.updSwc_units (g : SwcSt → SwcSt) : (s.updSwc g).units = s.units := rfl
@[simp] theorem State.updSwc_facets (g : SwcSt → SwcSt) : (s.updSwc g).facets = s.facets := rfl
@[simp] theorem State.updSwc_progs (g : SwcSt → SwcSt) : (s.updSwc g).progs = s.progs := rfl
@[simp] theorem State.updSwc_lenses (g : SwcSt → SwcSt) : (s.updSwc g).lenses = s.lenses := rfl
@[simp] theorem State.updSwc_fencedFlash (g : SwcSt → SwcSt) : (s.updSwc g).fencedFlash = s.fencedFlash := rfl
@[simp] theorem State.updSwc_lanes (g : SwcSt → SwcSt) : (s.updSwc g).lanes = s.lanes := rfl
@[simp] theorem State.updSwc_logic (g : SwcSt → SwcSt) : (s.updSwc g).logic = s.logic := rfl
@[simp] theorem State.updSwc_slots64 (g : SwcSt → SwcSt) : (s.updSwc g).slots64 = s.slots64 := rfl
@[simp] theorem State.updSwc_stns (g : SwcSt → SwcSt) : (s.updSwc g).stns = s.stns := rfl
@[simp] theorem State.updSwc_conds (g : SwcSt → SwcSt) : (s.updSwc g).conds = s.conds := rfl
@[simp] theorem State.updSwc_svs (g : SwcSt → SwcSt) : (s.updSwc g).svs = s.svs := rfl
@[simp] theorem State.updSwc_chains (g : SwcSt → SwcSt) : (s.updSwc g).chains = s.chains := rfl
@[simp] theorem State.updSwc_chSlots (g : SwcSt → SwcSt) : (s.updSwc g).chSlots = s.chSlots := rfl
@[simp] theorem State.updSwc_fns (g : SwcSt → SwcSt) : (s.updSwc g).fns = s.fns := rfl
@[simp] theorem State.updSwc_pcOvr (g : SwcSt → SwcSt) : (s.updSwc g).pcOvr = s.pcOvr := rfl
@[simp] theorem State.updSwc_pcDeadline (g : SwcSt → SwcSt) : (s.updSwc g).pcDeadline = s.pcDeadline := rfl
@[simp] theorem State.updSwc_prots (g : SwcSt → SwcSt) : (s.updSwc g).prots = s.prots := rfl
@[simp] theorem State.updSwc_tos (g : SwcSt → SwcSt) : (s.updSwc g).tos = s.tos := rfl
@[simp] theorem State.updSwc_gps (g : SwcSt → SwcSt) : (s.updSwc g).gps = s.gps := rfl
@[simp] theorem State.updSwc_gss (g : SwcSt → SwcSt) : (s.updSwc g).gss = s.gss := rfl
@[simp] theorem State.updSwc_svPubs (g : SwcSt → SwcSt) : (s.updSwc g).svPubs = s.svPubs := rfl
@[simp] theorem State.updSwc_cnv (g : SwcSt → SwcSt) : (s.updSwc g).cnv = s.cnv := rfl
@[simp] theorem State.updSwc_arms (g : SwcSt → SwcSt) : (s.updSwc g).arms = s.arms := rfl
@[simp] theorem State.updSwc_sms (g : SwcSt → SwcSt) : (s.updSwc g).sms = s.sms := rfl
@[simp] theorem State.updSwc_engines (g : SwcSt → SwcSt) : (s.updSwc g).engines = s.engines := rfl
@[simp] theorem State.updSwc_beams (g : SwcSt → SwcSt) : (s.updSwc g).beams = s.beams := rfl
@[simp] theorem State.updSwc_pwms (g : SwcSt → SwcSt) : (s.updSwc g).pwms = s.pwms := rfl
@[simp] theorem State.updSwc_tis (g : SwcSt → SwcSt) : (s.updSwc g).tis = s.tis := rfl
@[simp] theorem State.updSwc_col (g : SwcSt → SwcSt) : (s.updSwc g).col = s.col := rfl
@[simp] theorem State.updSwc_fbcs (g : SwcSt → SwcSt) : (s.updSwc g).fbcs = s.fbcs := rfl
@[simp] theorem State.updSwc_hif (g : SwcSt → SwcSt) : (s.updSwc g).hif = s.hif := rfl
@[simp] theorem State.updSwc_mlk (g : SwcSt → SwcSt) : (s.updSwc g).mlk = s.mlk := rfl
@[simp] theorem State.updSwc_recs (g : SwcSt → SwcSt) : (s.updSwc g).recs = s.recs := rfl
@[simp] theorem State.updSwc_obs (g : SwcSt → SwcSt) : (s.updSwc g).obs = s.obs := rfl
@[simp] theorem State.updSwc_bst (g : SwcSt → SwcSt) : (s.updSwc g).bst = s.bst := rfl
@[simp] theorem State.updSwc_hw (g : SwcSt → SwcSt) : (s.updSwc g).hw = s.hw := rfl
@[simp] theorem State.updSwc_outputs (g : SwcSt → SwcSt) : (s.updSwc g).outputs = s.outputs := rfl
@[simp] theorem State.updSwc_lastRead (g : SwcSt → SwcSt) : (s.updSwc g).lastRead = s.lastRead := rfl
@[simp] theorem State.updSwc_pending (g : SwcSt → SwcSt) : (s.updSwc g).pending = s.pending := rfl

/-! ### updCol -/
@[simp] theorem State.updCol_col (g : ColSt → ColSt) : (s.updCol g).col = g s.col := rfl
@[simp] theorem State.updCol_now (g : ColSt → ColSt) : (s.updCol g).now = s.now := rfl
@[simp] theorem State.updCol_freeIdx (g : ColSt → ColSt) : (s.updCol g).freeIdx = s.freeIdx := rfl
@[simp] theorem State.updCol_glb (g : ColSt → ColSt) : (s.updCol g).glb = s.glb := rfl
@[simp] theorem State.updCol_ka (g : ColSt → ColSt) : (s.updCol g).ka = s.ka := rfl
@[simp] theorem State.updCol_svc (g : ColSt → ColSt) : (s.updCol g).svc = s.svc := rfl
@[simp] theorem State.updCol_units (g : ColSt → ColSt) : (s.updCol g).units = s.units := rfl
@[simp] theorem State.updCol_facets (g : ColSt → ColSt) : (s.updCol g).facets = s.facets := rfl
@[simp] theorem State.updCol_progs (g : ColSt → ColSt) : (s.updCol g).progs = s.progs := rfl
@[simp] theorem State.updCol_lenses (g : ColSt → ColSt) : (s.updCol g).lenses = s.lenses := rfl
@[simp] theorem State.updCol_fencedFlash (g : ColSt → ColSt) : (s.updCol g).fencedFlash = s.fencedFlash := rfl
@[simp] theorem State.updCol_lanes (g : ColSt → ColSt) : (s.updCol g).lanes = s.lanes := rfl
@[simp] theorem State.updCol_logic (g : ColSt → ColSt) : (s.updCol g).logic = s.logic := rfl
@[simp] theorem State.updCol_slots64 (g : ColSt → ColSt) : (s.updCol g).slots64 = s.slots64 := rfl
@[simp] theorem State.updCol_stns (g : ColSt → ColSt) : (s.updCol g).stns = s.stns := rfl
@[simp] theorem State.updCol_conds (g : ColSt → ColSt) : (s.updCol g).conds = s.conds := rfl
@[simp] theorem State.updCol_svs (g : ColSt → ColSt) : (s.updCol g).svs = s.svs := rfl
@[simp] theorem State.updCol_chains (g : ColSt → ColSt) : (s.updCol g).chains = s.chains := rfl
@[simp] theorem State.updCol_chSlots (g : ColSt → ColSt) : (s.updCol g).chSlots = s.chSlots := rfl
@[simp] theorem State.updCol_fns (g : ColSt → ColSt) : (s.updCol g).fns = s.fns := rfl
@[simp] theorem State.updCol_pcOvr (g : ColSt → ColSt) : (s.updCol g).pcOvr = s.pcOvr := rfl
@[simp] theorem State.updCol_pcDeadline (g : ColSt → ColSt) : (s.updCol g).pcDeadline = s.pcDeadline := rfl
@[simp] theorem State.updCol_prots (g : ColSt → ColSt) : (s.updCol g).prots = s.prots := rfl
@[simp] theorem State.updCol_tos (g : ColSt → ColSt) : (s.updCol g).tos = s.tos := rfl
@[simp] theorem State.updCol_gps (g : ColSt → ColSt) : (s.updCol g).gps = s.gps := rfl
@[simp] theorem State.updCol_gss (g : ColSt → ColSt) : (s.updCol g).gss = s.gss := rfl
@[simp] theorem State.updCol_svPubs (g : ColSt → ColSt) : (s.updCol g).svPubs = s.svPubs := rfl
@[simp] theorem State.updCol_cnv (g : ColSt → ColSt) : (s.updCol g).cnv = s.cnv := rfl
@[simp] theorem State.updCol_arms (g : ColSt → ColSt) : (s.updCol g).arms = s.arms := rfl
@[simp] theorem State.updCol_sms (g : ColSt → ColSt) : (s.updCol g).sms = s.sms := rfl
@[simp] theorem State.updCol_engines (g : ColSt → ColSt) : (s.updCol g).engines = s.engines := rfl
@[simp] theorem State.updCol_beams (g : ColSt → ColSt) : (s.updCol g).beams = s.beams := rfl
@[simp] theorem State.updCol_pwms (g : ColSt → ColSt) : (s.updCol g).pwms = s.pwms := rfl
@[simp] theorem State.updCol_tis (g : ColSt → ColSt) : (s.updCol g).tis = s.tis := rfl
@[simp] theorem State.updCol_swc (g : ColSt → ColSt) : (s.updCol g).swc = s.swc := rfl
@[simp] theorem State.updCol_fbcs (g : ColSt → ColSt) : (s.updCol g).fbcs = s.fbcs := rfl
@[simp] theorem State.updCol_hif (g : ColSt → ColSt) : (s.updCol g).hif = s.hif := rfl
@[simp] theorem State.updCol_mlk (g : ColSt → ColSt) : (s.updCol g).mlk = s.mlk := rfl
@[simp] theorem State.updCol_recs (g : ColSt → ColSt) : (s.updCol g).recs = s.recs := rfl
@[simp] theorem State.updCol_obs (g : ColSt → ColSt) : (s.updCol g).obs = s.obs := rfl
@[simp] theorem State.updCol_bst (g : ColSt → ColSt) : (s.updCol g).bst = s.bst := rfl
@[simp] theorem State.updCol_hw (g : ColSt → ColSt) : (s.updCol g).hw = s.hw := rfl
@[simp] theorem State.updCol_outputs (g : ColSt → ColSt) : (s.updCol g).outputs = s.outputs := rfl
@[simp] theorem State.updCol_lastRead (g : ColSt → ColSt) : (s.updCol g).lastRead = s.lastRead := rfl
@[simp] theorem State.updCol_pending (g : ColSt → ColSt) : (s.updCol g).pending = s.pending := rfl

/-! ### updTp -/
@[simp] theorem State.updTp_now (t : Nat) (g : TpSt → TpSt) : (s.updTp t g).now = s.now := rfl
@[simp] theorem State.updTp_freeIdx (t : Nat) (g : TpSt → TpSt) : (s.updTp t g).freeIdx = s.freeIdx := rfl
@[simp] theorem State.updTp_glb (t : Nat) (g : TpSt → TpSt) : (s.updTp t g).glb = s.glb := rfl
@[simp] theorem State.updTp_ka (t : Nat) (g : TpSt → TpSt) : (s.updTp t g).ka = s.ka := rfl
@[simp] theorem State.updTp_svc (t : Nat) (g : TpSt → TpSt) : (s.updTp t g).svc = s.svc := rfl
@[simp] theorem State.updTp_units (t : Nat) (g : TpSt → TpSt) : (s.updTp t g).units = s.units := rfl
@[simp] theorem State.updTp_facets (t : Nat) (g : TpSt → TpSt) : (s.updTp t g).facets = s.facets := rfl
@[simp] theorem State.updTp_progs (t : Nat) (g : TpSt → TpSt) : (s.updTp t g).progs = s.progs := rfl
@[simp] theorem State.updTp_lenses (t : Nat) (g : TpSt → TpSt) : (s.updTp t g).lenses = s.lenses := rfl
@[simp] theorem State.updTp_fencedFlash (t : Nat) (g : TpSt → TpSt) : (s.updTp t g).fencedFlash = s.fencedFlash := rfl
@[simp] theorem State.updTp_lanes (t : Nat) (g : TpSt → TpSt) : (s.updTp t g).lanes = s.lanes := rfl
@[simp] theorem State.updTp_logic (t : Nat) (g : TpSt → TpSt) : (s.updTp t g).logic = s.logic := rfl
@[simp] theorem State.updTp_slots64 (t : Nat) (g : TpSt → TpSt) : (s.updTp t g).slots64 = s.slots64 := rfl
@[simp] theorem State.updTp_stns (t : Nat) (g : TpSt → TpSt) : (s.updTp t g).stns = s.stns := rfl
@[simp] theorem State.updTp_conds (t : Nat) (g : TpSt → TpSt) : (s.updTp t g).conds = s.conds := rfl
@[simp] theorem State.updTp_svs (t : Nat) (g : TpSt → TpSt) : (s.updTp t g).svs = s.svs := rfl
@[simp] theorem State.updTp_chains (t : Nat) (g : TpSt → TpSt) : (s.updTp t g).chains = s.chains := rfl
@[simp] theorem State.updTp_chSlots (t : Nat) (g : TpSt → TpSt) : (s.updTp t g).chSlots = s.chSlots := rfl
@[simp] theorem State.updTp_fns (t : Nat) (g : TpSt → TpSt) : (s.updTp t g).fns = s.fns := rfl
@[simp] theorem State.updTp_pcOvr (t : Nat) (g : TpSt → TpSt) : (s.updTp t g).pcOvr = s.pcOvr := rfl
@[simp] theorem State.updTp_pcDeadline (t : Nat) (g : TpSt → TpSt) : (s.updTp t g).pcDeadline = s.pcDeadline := rfl
@[simp] theorem State.updTp_prots (t : Nat) (g : TpSt → TpSt) : (s.updTp t g).prots = s.prots := rfl
@[simp] theorem State.updTp_tos (t : Nat) (g : TpSt → TpSt) : (s.updTp t g).tos = s.tos := rfl
@[simp] theorem State.updTp_gps (t : Nat) (g : TpSt → TpSt) : (s.updTp t g).gps = s.gps := rfl
@[simp] theorem State.updTp_gss (t : Nat) (g : TpSt → TpSt) : (s.updTp t g).gss = s.gss := rfl
@[simp] theorem State.updTp_svPubs (t : Nat) (g : TpSt → TpSt) : (s.updTp t g).svPubs = s.svPubs := rfl
@[simp] theorem State.updTp_cnv (t : Nat) (g : TpSt → TpSt) : (s.updTp t g).cnv = s.cnv := rfl
@[simp] theorem State.updTp_arms (t : Nat) (g : TpSt → TpSt) : (s.updTp t g).arms = s.arms := rfl
@[simp] theorem State.updTp_sms (t : Nat) (g : TpSt → TpSt) : (s.updTp t g).sms = s.sms := rfl
@[simp] theorem State.updTp_engines (t : Nat) (g : TpSt → TpSt) : (s.updTp t g).engines = s.engines := rfl
@[simp] theorem State.updTp_beams (t : Nat) (g : TpSt → TpSt) : (s.updTp t g).beams = s.beams := rfl
@[simp] theorem State.updTp_pwms (t : Nat) (g : TpSt → TpSt) : (s.updTp t g).pwms = s.pwms := rfl
@[simp] theorem State.updTp_tis (t : Nat) (g : TpSt → TpSt) : (s.updTp t g).tis = s.tis := rfl
@[simp] theorem State.updTp_swc (t : Nat) (g : TpSt → TpSt) : (s.updTp t g).swc = s.swc := rfl
@[simp] theorem State.updTp_fbcs (t : Nat) (g : TpSt → TpSt) : (s.updTp t g).fbcs = s.fbcs := rfl
@[simp] theorem State.updTp_hif (t : Nat) (g : TpSt → TpSt) : (s.updTp t g).hif = s.hif := rfl
@[simp] theorem State.updTp_mlk (t : Nat) (g : TpSt → TpSt) : (s.updTp t g).mlk = s.mlk := rfl
@[simp] theorem State.updTp_recs (t : Nat) (g : TpSt → TpSt) : (s.updTp t g).recs = s.recs := rfl
@[simp] theorem State.updTp_obs (t : Nat) (g : TpSt → TpSt) : (s.updTp t g).obs = s.obs := rfl
@[simp] theorem State.updTp_bst (t : Nat) (g : TpSt → TpSt) : (s.updTp t g).bst = s.bst := rfl
@[simp] theorem State.updTp_hw (t : Nat) (g : TpSt → TpSt) : (s.updTp t g).hw = s.hw := rfl
@[simp] theorem State.updTp_outputs (t : Nat) (g : TpSt → TpSt) : (s.updTp t g).outputs = s.outputs := rfl
@[simp] theorem State.updTp_lastRead (t : Nat) (g : TpSt → TpSt) : (s.updTp t g).lastRead = s.lastRead := rfl
@[simp] theorem State.updTp_pending (t : Nat) (g : TpSt → TpSt) : (s.updTp t g).pending = s.pending := rfl

/-! ### updPort -/
@[simp] theorem State.updPort_now (p : Nat) (g : PortSt → PortSt) : (s.updPort p g).now = s.now := rfl
@[simp] theorem State.updPort_freeIdx (p : Nat) (g : PortSt → PortSt) : (s.updPort p g).freeIdx = s.freeIdx := rfl
@[simp] theorem State.updPort_glb (p : Nat) (g : PortSt → PortSt) : (s.updPort p g).glb = s.glb := rfl
@[simp] theorem State.updPort_ka (p : Nat) (g : PortSt → PortSt) : (s.updPort p g).ka = s.ka := rfl
@[simp] theorem State.updPort_svc (p : Nat) (g : PortSt → PortSt) : (s.updPort p g).svc = s.svc := rfl
@[simp] theorem State.updPort_units (p : Nat) (g : PortSt → PortSt) : (s.updPort p g).units = s.units := rfl
@[simp] theorem State.updPort_facets (p : Nat) (g : PortSt → PortSt) : (s.updPort p g).facets = s.facets := rfl
@[simp] theorem State.updPort_progs (p : Nat) (g : PortSt → PortSt) : (s.updPort p g).progs = s.progs := rfl
@[simp] theorem State.updPort_lenses (p : Nat) (g : PortSt → PortSt) : (s.updPort p g).lenses = s.lenses := rfl
@[simp] theorem State.updPort_fencedFlash (p : Nat) (g : PortSt → PortSt) : (s.updPort p g).fencedFlash = s.fencedFlash := rfl
@[simp] theorem State.updPort_lanes (p : Nat) (g : PortSt → PortSt) : (s.updPort p g).lanes = s.lanes := rfl
@[simp] theorem State.updPort_logic (p : Nat) (g : PortSt → PortSt) : (s.updPort p g).logic = s.logic := rfl
@[simp] theorem State.updPort_slots64 (p : Nat) (g : PortSt → PortSt) : (s.updPort p g).slots64 = s.slots64 := rfl
@[simp] theorem State.updPort_stns (p : Nat) (g : PortSt → PortSt) : (s.updPort p g).stns = s.stns := rfl
@[simp] theorem State.updPort_conds (p : Nat) (g : PortSt → PortSt) : (s.updPort p g).conds = s.conds := rfl
@[simp] theorem State.updPort_svs (p : Nat) (g : PortSt → PortSt) : (s.updPort p g).svs = s.svs := rfl
@[simp] theorem State.updPort_chains (p : Nat) (g : PortSt → PortSt) : (s.updPort p g).chains = s.chains := rfl
@[simp] theorem State.updPort_chSlots (p : Nat) (g : PortSt → PortSt) : (s.updPort p g).chSlots = s.chSlots := rfl
@[simp] theorem State.updPort_fns (p : Nat) (g : PortSt → PortSt) : (s.updPort p g).fns = s.fns := rfl
@[simp] theorem State.updPort_pcOvr (p : Nat) (g : PortSt → PortSt) : (s.updPort p g).pcOvr = s.pcOvr := rfl
@[simp] theorem State.updPort_pcDeadline (p : Nat) (g : PortSt → PortSt) : (s.updPort p g).pcDeadline = s.pcDeadline := rfl
@[simp] theorem State.updPort_prots (p : Nat) (g : PortSt → PortSt) : (s.updPort p g).prots = s.prots := rfl
@[simp] theorem State.updPort_tos (p : Nat) (g : PortSt → PortSt) : (s.updPort p g).tos = s.tos := rfl
@[simp] theorem State.updPort_gps (p : Nat) (g : PortSt → PortSt) : (s.updPort p g).gps = s.gps := rfl
@[simp] theorem State.updPort_gss (p : Nat) (g : PortSt → PortSt) : (s.updPort p g).gss = s.gss := rfl
@[simp] theorem State.updPort_svPubs (p : Nat) (g : PortSt → PortSt) : (s.updPort p g).svPubs = s.svPubs := rfl
@[simp] theorem State.updPort_cnv (p : Nat) (g : PortSt → PortSt) : (s.updPort p g).cnv = s.cnv := rfl
@[simp] theorem State.updPort_arms (p : Nat) (g : PortSt → PortSt) : (s.updPort p g).arms = s.arms := rfl
@[simp] theorem State.updPort_sms (p : Nat) (g : PortSt → PortSt) : (s.updPort p g).sms = s.sms := rfl
@[simp] theorem State.updPort_engines (p : Nat) (g : PortSt → PortSt) : (s.updPort p g).engines = s.engines := rfl
@[simp] theorem State.updPort_beams (p : Nat) (g : PortSt → PortSt) : (s.updPort p g).beams = s.beams := rfl
@[simp] theorem State.updPort_pwms (p : Nat) (g : PortSt → PortSt) : (s.updPort p g).pwms = s.pwms := rfl
@[simp] theorem State.updPort_tis (p : Nat) (g : PortSt → PortSt) : (s.updPort p g).tis = s.tis := rfl
@[simp] theorem State.updPort_col (p : Nat) (g : PortSt → PortSt) : (s.updPort p g).col = s.col := rfl
@[simp] theorem State.updPort_fbcs (p : Nat) (g : PortSt → PortSt) : (s.updPort p g).fbcs = s.fbcs := rfl
@[simp] theorem State.updPort_hif (p : Nat) (g : PortSt → PortSt) : (s.updPort p g).hif = s.hif := rfl
@[simp] theorem State.updPort_mlk (p : Nat) (g : PortSt → PortSt) : (s.updPort p g).mlk = s.mlk := rfl
@[simp] theorem State.updPort_recs (p : Nat) (g : PortSt → PortSt) : (s.updPort p g).recs = s.recs := rfl
@[simp] theorem State.updPort_obs (p : Nat) (g : PortSt → PortSt) : (s.updPort p g).obs = s.obs := rfl
@[simp] theorem State.updPort_bst (p : Nat) (g : PortSt → PortSt) : (s.updPort p g).bst = s.bst := rfl
@[simp] theorem State.updPort_hw (p : Nat) (g : PortSt → PortSt) : (s.updPort p g).hw = s.hw := rfl
@[simp] theorem State.updPort_outputs (p : Nat) (g : PortSt → PortSt) : (s.updPort p g).outputs = s.outputs := rfl
@[simp] theorem State.updPort_lastRead (p : Nat) (g : PortSt → PortSt) : (s.updPort p g).lastRead = s.lastRead := rfl
@[simp] theorem State.updPort_pending (p : Nat) (g : PortSt → PortSt) : (s.updPort p g).pending = s.pending := rfl

/-! ### updHif -/
@[simp] theorem State.updHif_hif (g : HifSt → HifSt) : (s.updHif g).hif = g s.hif := rfl
@[simp] theorem State.updHif_now (g : HifSt → HifSt) : (s.updHif g).now = s.now := rfl
@[simp] theorem State.updHif_freeIdx (g : HifSt → HifSt) : (s.updHif g).freeIdx = s.freeIdx := rfl
@[simp] theorem State.updHif_glb (g : HifSt → HifSt) : (s.updHif g).glb = s.glb := rfl
@[simp] theorem State.updHif_ka (g : HifSt → HifSt) : (s.updHif g).ka = s.ka := rfl
@[simp] theorem State.updHif_svc (g : HifSt → HifSt) : (s.updHif g).svc = s.svc := rfl
@[simp] theorem State.updHif_units (g : HifSt → HifSt) : (s.updHif g).units = s.units := rfl
@[simp] theorem State.updHif_facets (g : HifSt → HifSt) : (s.updHif g).facets = s.facets := rfl
@[simp] theorem State.updHif_progs (g : HifSt → HifSt) : (s.updHif g).progs = s.progs := rfl
@[simp] theorem State.updHif_lenses (g : HifSt → HifSt) : (s.updHif g).lenses = s.lenses := rfl
@[simp] theorem State.updHif_fencedFlash (g : HifSt → HifSt) : (s.updHif g).fencedFlash = s.fencedFlash := rfl
@[simp] theorem State.updHif_lanes (g : HifSt → HifSt) : (s.updHif g).lanes = s.lanes := rfl
@[simp] theorem State.updHif_logic (g : HifSt → HifSt) : (s.updHif g).logic = s.logic := rfl
@[simp] theorem State.updHif_slots64 (g : HifSt → HifSt) : (s.updHif g).slots64 = s.slots64 := rfl
@[simp] theorem State.updHif_stns (g : HifSt → HifSt) : (s.updHif g).stns = s.stns := rfl
@[simp] theorem State.updHif_conds (g : HifSt → HifSt) : (s.updHif g).conds = s.conds := rfl
@[simp] theorem State.updHif_svs (g : HifSt → HifSt) : (s.updHif g).svs = s.svs := rfl
@[simp] theorem State.updHif_chains (g : HifSt → HifSt) : (s.updHif g).chains = s.chains := rfl
@[simp] theorem State.updHif_chSlots (g : HifSt → HifSt) : (s.updHif g).chSlots = s.chSlots := rfl
@[simp] theorem State.updHif_fns (g : HifSt → HifSt) : (s.updHif g).fns = s.fns := rfl
@[simp] theorem State.updHif_pcOvr (g : HifSt → HifSt) : (s.updHif g).pcOvr = s.pcOvr := rfl
@[simp] theorem State.updHif_pcDeadline (g : HifSt → HifSt) : (s.updHif g).pcDeadline = s.pcDeadline := rfl
@[simp] theorem State.updHif_prots (g : HifSt → HifSt) : (s.updHif g).prots = s.prots := rfl
@[simp] theorem State.updHif_tos (g : HifSt → HifSt) : (s.updHif g).tos = s.tos := rfl
@[simp] theorem State.updHif_gps (g : HifSt → HifSt) : (s.updHif g).gps = s.gps := rfl
@[simp] theorem State.updHif_gss (g : HifSt → HifSt) : (s.updHif g).gss = s.gss := rfl
@[simp] theorem State.updHif_svPubs (g : HifSt → HifSt) : (s.updHif g).svPubs = s.svPubs := rfl
@[simp] theorem State.updHif_cnv (g : HifSt → HifSt) : (s.updHif g).cnv = s.cnv := rfl
@[simp] theorem State.updHif_arms (g : HifSt → HifSt) : (s.updHif g).arms = s.arms := rfl
@[simp] theorem State.updHif_sms (g : HifSt → HifSt) : (s.updHif g).sms = s.sms := rfl
@[simp] theorem State.updHif_engines (g : HifSt → HifSt) : (s.updHif g).engines = s.engines := rfl
@[simp] theorem State.updHif_beams (g : HifSt → HifSt) : (s.updHif g).beams = s.beams := rfl
@[simp] theorem State.updHif_pwms (g : HifSt → HifSt) : (s.updHif g).pwms = s.pwms := rfl
@[simp] theorem State.updHif_tis (g : HifSt → HifSt) : (s.updHif g).tis = s.tis := rfl
@[simp] theorem State.updHif_swc (g : HifSt → HifSt) : (s.updHif g).swc = s.swc := rfl
@[simp] theorem State.updHif_col (g : HifSt → HifSt) : (s.updHif g).col = s.col := rfl
@[simp] theorem State.updHif_fbcs (g : HifSt → HifSt) : (s.updHif g).fbcs = s.fbcs := rfl
@[simp] theorem State.updHif_mlk (g : HifSt → HifSt) : (s.updHif g).mlk = s.mlk := rfl
@[simp] theorem State.updHif_recs (g : HifSt → HifSt) : (s.updHif g).recs = s.recs := rfl
@[simp] theorem State.updHif_obs (g : HifSt → HifSt) : (s.updHif g).obs = s.obs := rfl
@[simp] theorem State.updHif_bst (g : HifSt → HifSt) : (s.updHif g).bst = s.bst := rfl
@[simp] theorem State.updHif_hw (g : HifSt → HifSt) : (s.updHif g).hw = s.hw := rfl
@[simp] theorem State.updHif_outputs (g : HifSt → HifSt) : (s.updHif g).outputs = s.outputs := rfl
@[simp] theorem State.updHif_lastRead (g : HifSt → HifSt) : (s.updHif g).lastRead = s.lastRead := rfl
@[simp] theorem State.updHif_pending (g : HifSt → HifSt) : (s.updHif g).pending = s.pending := rfl

/-! ### updSlice -/
@[simp] theorem State.updSlice_now (i : Nat) (g : SliceSt → SliceSt) : (s.updSlice i g).now = s.now := rfl
@[simp] theorem State.updSlice_freeIdx (i : Nat) (g : SliceSt → SliceSt) : (s.updSlice i g).freeIdx = s.freeIdx := rfl
@[simp] theorem State.updSlice_glb (i : Nat) (g : SliceSt → SliceSt) : (s.updSlice i g).glb = s.glb := rfl
@[simp] theorem State.updSlice_ka (i : Nat) (g : SliceSt → SliceSt) : (s.updSlice i g).ka = s.ka := rfl
@[simp] theorem State.updSlice_svc (i : Nat) (g : SliceSt → SliceSt) : (s.updSlice i g).svc = s.svc := rfl
@[simp] theorem State.updSlice_units (i : Nat) (g : SliceSt → SliceSt) : (s.updSlice i g).units = s.units := rfl
@[simp] theorem State.updSlice_facets (i : Nat) (g : SliceSt → SliceSt) : (s.updSlice i g).facets = s.facets := rfl
@[simp] theorem State.updSlice_progs (i : Nat) (g : SliceSt → SliceSt) : (s.updSlice i g).progs = s.progs := rfl
@[simp] theorem State.updSlice_lenses (i : Nat) (g : SliceSt → SliceSt) : (s.updSlice i g).lenses = s.lenses := rfl
@[simp] theorem State.updSlice_fencedFlash (i : Nat) (g : SliceSt → SliceSt) : (s.updSlice i g).fencedFlash = s.fencedFlash := rfl
@[simp] theorem State.updSlice_lanes (i : Nat) (g : SliceSt → SliceSt) : (s.updSlice i g).lanes = s.lanes := rfl
@[simp] theorem State.updSlice_logic (i : Nat) (g : SliceSt → SliceSt) : (s.updSlice i g).logic = s.logic := rfl
@[simp] theorem State.updSlice_slots64 (i : Nat) (g : SliceSt → SliceSt) : (s.updSlice i g).slots64 = s.slots64 := rfl
@[simp] theorem State.updSlice_stns (i : Nat) (g : SliceSt → SliceSt) : (s.updSlice i g).stns = s.stns := rfl
@[simp] theorem State.updSlice_conds (i : Nat) (g : SliceSt → SliceSt) : (s.updSlice i g).conds = s.conds := rfl
@[simp] theorem State.updSlice_svs (i : Nat) (g : SliceSt → SliceSt) : (s.updSlice i g).svs = s.svs := rfl
@[simp] theorem State.updSlice_chains (i : Nat) (g : SliceSt → SliceSt) : (s.updSlice i g).chains = s.chains := rfl
@[simp] theorem State.updSlice_chSlots (i : Nat) (g : SliceSt → SliceSt) : (s.updSlice i g).chSlots = s.chSlots := rfl
@[simp] theorem State.updSlice_fns (i : Nat) (g : SliceSt → SliceSt) : (s.updSlice i g).fns = s.fns := rfl
@[simp] theorem State.updSlice_pcOvr (i : Nat) (g : SliceSt → SliceSt) : (s.updSlice i g).pcOvr = s.pcOvr := rfl
@[simp] theorem State.updSlice_pcDeadline (i : Nat) (g : SliceSt → SliceSt) : (s.updSlice i g).pcDeadline = s.pcDeadline := rfl
@[simp] theorem State.updSlice_prots (i : Nat) (g : SliceSt → SliceSt) : (s.updSlice i g).prots = s.prots := rfl
@[simp] theorem State.updSlice_tos (i : Nat) (g : SliceSt → SliceSt) : (s.updSlice i g).tos = s.tos := rfl
@[simp] theorem State.updSlice_gps (i : Nat) (g : SliceSt → SliceSt) : (s.updSlice i g).gps = s.gps := rfl
@[simp] theorem State.updSlice_gss (i : Nat) (g : SliceSt → SliceSt) : (s.updSlice i g).gss = s.gss := rfl
@[simp] theorem State.updSlice_svPubs (i : Nat) (g : SliceSt → SliceSt) : (s.updSlice i g).svPubs = s.svPubs := rfl
@[simp] theorem State.updSlice_cnv (i : Nat) (g : SliceSt → SliceSt) : (s.updSlice i g).cnv = s.cnv := rfl
@[simp] theorem State.updSlice_arms (i : Nat) (g : SliceSt → SliceSt) : (s.updSlice i g).arms = s.arms := rfl
@[simp] theorem State.updSlice_sms (i : Nat) (g : SliceSt → SliceSt) : (s.updSlice i g).sms = s.sms := rfl
@[simp] theorem State.updSlice_engines (i : Nat) (g : SliceSt → SliceSt) : (s.updSlice i g).engines = s.engines := rfl
@[simp] theorem State.updSlice_beams (i : Nat) (g : SliceSt → SliceSt) : (s.updSlice i g).beams = s.beams := rfl
@[simp] theorem State.updSlice_pwms (i : Nat) (g : SliceSt → SliceSt) : (s.updSlice i g).pwms = s.pwms := rfl
@[simp] theorem State.updSlice_tis (i : Nat) (g : SliceSt → SliceSt) : (s.updSlice i g).tis = s.tis := rfl
@[simp] theorem State.updSlice_swc (i : Nat) (g : SliceSt → SliceSt) : (s.updSlice i g).swc = s.swc := rfl
@[simp] theorem State.updSlice_col (i : Nat) (g : SliceSt → SliceSt) : (s.updSlice i g).col = s.col := rfl
@[simp] theorem State.updSlice_fbcs (i : Nat) (g : SliceSt → SliceSt) : (s.updSlice i g).fbcs = s.fbcs := rfl
@[simp] theorem State.updSlice_mlk (i : Nat) (g : SliceSt → SliceSt) : (s.updSlice i g).mlk = s.mlk := rfl
@[simp] theorem State.updSlice_recs (i : Nat) (g : SliceSt → SliceSt) : (s.updSlice i g).recs = s.recs := rfl
@[simp] theorem State.updSlice_obs (i : Nat) (g : SliceSt → SliceSt) : (s.updSlice i g).obs = s.obs := rfl
@[simp] theorem State.updSlice_bst (i : Nat) (g : SliceSt → SliceSt) : (s.updSlice i g).bst = s.bst := rfl
@[simp] theorem State.updSlice_hw (i : Nat) (g : SliceSt → SliceSt) : (s.updSlice i g).hw = s.hw := rfl
@[simp] theorem State.updSlice_outputs (i : Nat) (g : SliceSt → SliceSt) : (s.updSlice i g).outputs = s.outputs := rfl
@[simp] theorem State.updSlice_lastRead (i : Nat) (g : SliceSt → SliceSt) : (s.updSlice i g).lastRead = s.lastRead := rfl
@[simp] theorem State.updSlice_pending (i : Nat) (g : SliceSt → SliceSt) : (s.updSlice i g).pending = s.pending := rfl

/-! ### updHostPort -/
@[simp] theorem State.updHostPort_now (h : Nat) (g : HostPortSt → HostPortSt) : (s.updHostPort h g).now = s.now := rfl
@[simp] theorem State.updHostPort_freeIdx (h : Nat) (g : HostPortSt → HostPortSt) : (s.updHostPort h g).freeIdx = s.freeIdx := rfl
@[simp] theorem State.updHostPort_glb (h : Nat) (g : HostPortSt → HostPortSt) : (s.updHostPort h g).glb = s.glb := rfl
@[simp] theorem State.updHostPort_ka (h : Nat) (g : HostPortSt → HostPortSt) : (s.updHostPort h g).ka = s.ka := rfl
@[simp] theorem State.updHostPort_svc (h : Nat) (g : HostPortSt → HostPortSt) : (s.updHostPort h g).svc = s.svc := rfl
@[simp] theorem State.updHostPort_units (h : Nat) (g : HostPortSt → HostPortSt) : (s.updHostPort h g).units = s.units := rfl
@[simp] theorem State.updHostPort_facets (h : Nat) (g : HostPortSt → HostPortSt) : (s.updHostPort h g).facets = s.facets := rfl
@[simp] theorem State.updHostPort_progs (h : Nat) (g : HostPortSt → HostPortSt) : (s.updHostPort h g).progs = s.progs := rfl
@[simp] theorem State.updHostPort_lenses (h : Nat) (g : HostPortSt → HostPortSt) : (s.updHostPort h g).lenses = s.lenses := rfl
@[simp] theorem State.updHostPort_fencedFlash (h : Nat) (g : HostPortSt → HostPortSt) : (s.updHostPort h g).fencedFlash = s.fencedFlash := rfl
@[simp] theorem State.updHostPort_lanes (h : Nat) (g : HostPortSt → HostPortSt) : (s.updHostPort h g).lanes = s.lanes := rfl
@[simp] theorem State.updHostPort_logic (h : Nat) (g : HostPortSt → HostPortSt) : (s.updHostPort h g).logic = s.logic := rfl
@[simp] theorem State.updHostPort_slots64 (h : Nat) (g : HostPortSt → HostPortSt) : (s.updHostPort h g).slots64 = s.slots64 := rfl
@[simp] theorem State.updHostPort_stns (h : Nat) (g : HostPortSt → HostPortSt) : (s.updHostPort h g).stns = s.stns := rfl
@[simp] theorem State.updHostPort_conds (h : Nat) (g : HostPortSt → HostPortSt) : (s.updHostPort h g).conds = s.conds := rfl
@[simp] theorem State.updHostPort_svs (h : Nat) (g : HostPortSt → HostPortSt) : (s.updHostPort h g).svs = s.svs := rfl
@[simp] theorem State.updHostPort_chains (h : Nat) (g : HostPortSt → HostPortSt) : (s.updHostPort h g).chains = s.chains := rfl
@[simp] theorem State.updHostPort_chSlots (h : Nat) (g : HostPortSt → HostPortSt) : (s.updHostPort h g).chSlots = s.chSlots := rfl
@[simp] theorem State.updHostPort_fns (h : Nat) (g : HostPortSt → HostPortSt) : (s.updHostPort h g).fns = s.fns := rfl
@[simp] theorem State.updHostPort_pcOvr (h : Nat) (g : HostPortSt → HostPortSt) : (s.updHostPort h g).pcOvr = s.pcOvr := rfl
@[simp] theorem State.updHostPort_pcDeadline (h : Nat) (g : HostPortSt → HostPortSt) : (s.updHostPort h g).pcDeadline = s.pcDeadline := rfl
@[simp] theorem State.updHostPort_prots (h : Nat) (g : HostPortSt → HostPortSt) : (s.updHostPort h g).prots = s.prots := rfl
@[simp] theorem State.updHostPort_tos (h : Nat) (g : HostPortSt → HostPortSt) : (s.updHostPort h g).tos = s.tos := rfl
@[simp] theorem State.updHostPort_gps (h : Nat) (g : HostPortSt → HostPortSt) : (s.updHostPort h g).gps = s.gps := rfl
@[simp] theorem State.updHostPort_gss (h : Nat) (g : HostPortSt → HostPortSt) : (s.updHostPort h g).gss = s.gss := rfl
@[simp] theorem State.updHostPort_svPubs (h : Nat) (g : HostPortSt → HostPortSt) : (s.updHostPort h g).svPubs = s.svPubs := rfl
@[simp] theorem State.updHostPort_cnv (h : Nat) (g : HostPortSt → HostPortSt) : (s.updHostPort h g).cnv = s.cnv := rfl
@[simp] theorem State.updHostPort_arms (h : Nat) (g : HostPortSt → HostPortSt) : (s.updHostPort h g).arms = s.arms := rfl
@[simp] theorem State.updHostPort_sms (h : Nat) (g : HostPortSt → HostPortSt) : (s.updHostPort h g).sms = s.sms := rfl
@[simp] theorem State.updHostPort_engines (h : Nat) (g : HostPortSt → HostPortSt) : (s.updHostPort h g).engines = s.engines := rfl
@[simp] theorem State.updHostPort_beams (h : Nat) (g : HostPortSt → HostPortSt) : (s.updHostPort h g).beams = s.beams := rfl
@[simp] theorem State.updHostPort_pwms (h : Nat) (g : HostPortSt → HostPortSt) : (s.updHostPort h g).pwms = s.pwms := rfl
@[simp] theorem State.updHostPort_tis (h : Nat) (g : HostPortSt → HostPortSt) : (s.updHostPort h g).tis = s.tis := rfl
@[simp] theorem State.updHostPort_swc (h : Nat) (g : HostPortSt → HostPortSt) : (s.updHostPort h g).swc = s.swc := rfl
@[simp] theorem State.updHostPort_col (h : Nat) (g : HostPortSt → HostPortSt) : (s.updHostPort h g).col = s.col := rfl
@[simp] theorem State.updHostPort_fbcs (h : Nat) (g : HostPortSt → HostPortSt) : (s.updHostPort h g).fbcs = s.fbcs := rfl
@[simp] theorem State.updHostPort_mlk (h : Nat) (g : HostPortSt → HostPortSt) : (s.updHostPort h g).mlk = s.mlk := rfl
@[simp] theorem State.updHostPort_recs (h : Nat) (g : HostPortSt → HostPortSt) : (s.updHostPort h g).recs = s.recs := rfl
@[simp] theorem State.updHostPort_obs (h : Nat) (g : HostPortSt → HostPortSt) : (s.updHostPort h g).obs = s.obs := rfl
@[simp] theorem State.updHostPort_bst (h : Nat) (g : HostPortSt → HostPortSt) : (s.updHostPort h g).bst = s.bst := rfl
@[simp] theorem State.updHostPort_hw (h : Nat) (g : HostPortSt → HostPortSt) : (s.updHostPort h g).hw = s.hw := rfl
@[simp] theorem State.updHostPort_outputs (h : Nat) (g : HostPortSt → HostPortSt) : (s.updHostPort h g).outputs = s.outputs := rfl
@[simp] theorem State.updHostPort_lastRead (h : Nat) (g : HostPortSt → HostPortSt) : (s.updHostPort h g).lastRead = s.lastRead := rfl
@[simp] theorem State.updHostPort_pending (h : Nat) (g : HostPortSt → HostPortSt) : (s.updHostPort h g).pending = s.pending := rfl

/-! ### updMlk -/
@[simp] theorem State.updMlk_mlk (g : MlkSt → MlkSt) : (s.updMlk g).mlk = g s.mlk := rfl
@[simp] theorem State.updMlk_now (g : MlkSt → MlkSt) : (s.updMlk g).now = s.now := rfl
@[simp] theorem State.updMlk_freeIdx (g : MlkSt → MlkSt) : (s.updMlk g).freeIdx = s.freeIdx := rfl
@[simp] theorem State.updMlk_glb (g : MlkSt → MlkSt) : (s.updMlk g).glb = s.glb := rfl
@[simp] theorem State.updMlk_ka (g : MlkSt → MlkSt) : (s.updMlk g).ka = s.ka := rfl
@[simp] theorem State.updMlk_svc (g : MlkSt → MlkSt) : (s.updMlk g).svc = s.svc := rfl
@[simp] theorem State.updMlk_units (g : MlkSt → MlkSt) : (s.updMlk g).units = s.units := rfl
@[simp] theorem State.updMlk_facets (g : MlkSt → MlkSt) : (s.updMlk g).facets = s.facets := rfl
@[simp] theorem State.updMlk_progs (g : MlkSt → MlkSt) : (s.updMlk g).progs = s.progs := rfl
@[simp] theorem State.updMlk_lenses (g : MlkSt → MlkSt) : (s.updMlk g).lenses = s.lenses := rfl
@[simp] theorem State.updMlk_fencedFlash (g : MlkSt → MlkSt) : (s.updMlk g).fencedFlash = s.fencedFlash := rfl
@[simp] theorem State.updMlk_lanes (g : MlkSt → MlkSt) : (s.updMlk g).lanes = s.lanes := rfl
@[simp] theorem State.updMlk_logic (g : MlkSt → MlkSt) : (s.updMlk g).logic = s.logic := rfl
@[simp] theorem State.updMlk_slots64 (g : MlkSt → MlkSt) : (s.updMlk g).slots64 = s.slots64 := rfl
@[simp] theorem State.updMlk_stns (g : MlkSt → MlkSt) : (s.updMlk g).stns = s.stns := rfl
@[simp] theorem State.updMlk_conds (g : MlkSt → MlkSt) : (s.updMlk g).conds = s.conds := rfl
@[simp] theorem State.updMlk_svs (g : MlkSt → MlkSt) : (s.updMlk g).svs = s.svs := rfl
@[simp] theorem State.updMlk_chains (g : MlkSt → MlkSt) : (s.updMlk g).chains = s.chains := rfl
@[simp] theorem State.updMlk_chSlots (g : MlkSt → MlkSt) : (s.updMlk g).chSlots = s.chSlots := rfl
@[simp] theorem State.updMlk_fns (g : MlkSt → MlkSt) : (s.updMlk g).fns = s.fns := rfl
@[simp] theorem State.updMlk_pcOvr (g : MlkSt → MlkSt) : (s.updMlk g).pcOvr = s.pcOvr := rfl
@[simp] theorem State.updMlk_pcDeadline (g : MlkSt → MlkSt) : (s.updMlk g).pcDeadline = s.pcDeadline := rfl
@[simp] theorem State.updMlk_prots (g : MlkSt → MlkSt) : (s.updMlk g).prots = s.prots := rfl
@[simp] theorem State.updMlk_tos (g : MlkSt → MlkSt) : (s.updMlk g).tos = s.tos := rfl
@[simp] theorem State.updMlk_gps (g : MlkSt → MlkSt) : (s.updMlk g).gps = s.gps := rfl
@[simp] theorem State.updMlk_gss (g : MlkSt → MlkSt) : (s.updMlk g).gss = s.gss := rfl
@[simp] theorem State.updMlk_svPubs (g : MlkSt → MlkSt) : (s.updMlk g).svPubs = s.svPubs := rfl
@[simp] theorem State.updMlk_cnv (g : MlkSt → MlkSt) : (s.updMlk g).cnv = s.cnv := rfl
@[simp] theorem State.updMlk_arms (g : MlkSt → MlkSt) : (s.updMlk g).arms = s.arms := rfl
@[simp] theorem State.updMlk_sms (g : MlkSt → MlkSt) : (s.updMlk g).sms = s.sms := rfl
@[simp] theorem State.updMlk_engines (g : MlkSt → MlkSt) : (s.updMlk g).engines = s.engines := rfl
@[simp] theorem State.updMlk_beams (g : MlkSt → MlkSt) : (s.updMlk g).beams = s.beams := rfl
@[simp] theorem State.updMlk_pwms (g : MlkSt → MlkSt) : (s.updMlk g).pwms = s.pwms := rfl
@[simp] theorem State.updMlk_tis (g : MlkSt → MlkSt) : (s.updMlk g).tis = s.tis := rfl
@[simp] theorem State.updMlk_swc (g : MlkSt → MlkSt) : (s.updMlk g).swc = s.swc := rfl
@[simp] theorem State.updMlk_col (g : MlkSt → MlkSt) : (s.updMlk g).col = s.col := rfl
@[simp] theorem State.updMlk_fbcs (g : MlkSt → MlkSt) : (s.updMlk g).fbcs = s.fbcs := rfl
@[simp] theorem State.updMlk_hif (g : MlkSt → MlkSt) : (s.updMlk g).hif = s.hif := rfl
@[simp] theorem State.updMlk_recs (g : MlkSt → MlkSt) : (s.updMlk g).recs = s.recs := rfl
@[simp] theorem State.updMlk_obs (g : MlkSt → MlkSt) : (s.updMlk g).obs = s.obs := rfl
@[simp] theorem State.updMlk_bst (g : MlkSt → MlkSt) : (s.updMlk g).bst = s.bst := rfl
@[simp] theorem State.updMlk_hw (g : MlkSt → MlkSt) : (s.updMlk g).hw = s.hw := rfl
@[simp] theorem State.updMlk_outputs (g : MlkSt → MlkSt) : (s.updMlk g).outputs = s.outputs := rfl
@[simp] theorem State.updMlk_lastRead (g : MlkSt → MlkSt) : (s.updMlk g).lastRead = s.lastRead := rfl
@[simp] theorem State.updMlk_pending (g : MlkSt → MlkSt) : (s.updMlk g).pending = s.pending := rfl

/-! ### updGrp -/
@[simp] theorem State.updGrp_now (i : Nat) (g : PerGrpSt → PerGrpSt) : (s.updGrp i g).now = s.now := rfl
@[simp] theorem State.updGrp_freeIdx (i : Nat) (g : PerGrpSt → PerGrpSt) : (s.updGrp i g).freeIdx = s.freeIdx := rfl
@[simp] theorem State.updGrp_glb (i : Nat) (g : PerGrpSt → PerGrpSt) : (s.updGrp i g).glb = s.glb := rfl
@[simp] theorem State.updGrp_ka (i : Nat) (g : PerGrpSt → PerGrpSt) : (s.updGrp i g).ka = s.ka := rfl
@[simp] theorem State.updGrp_svc (i : Nat) (g : PerGrpSt → PerGrpSt) : (s.updGrp i g).svc = s.svc := rfl
@[simp] theorem State.updGrp_units (i : Nat) (g : PerGrpSt → PerGrpSt) : (s.updGrp i g).units = s.units := rfl
@[simp] theorem State.updGrp_facets (i : Nat) (g : PerGrpSt → PerGrpSt) : (s.updGrp i g).facets = s.facets := rfl
@[simp] theorem State.updGrp_progs (i : Nat) (g : PerGrpSt → PerGrpSt) : (s.updGrp i g).progs = s.progs := rfl
@[simp] theorem State.updGrp_lenses (i : Nat) (g : PerGrpSt → PerGrpSt) : (s.updGrp i g).lenses = s.lenses := rfl
@[simp] theorem State.updGrp_fencedFlash (i : Nat) (g : PerGrpSt → PerGrpSt) : (s.updGrp i g).fencedFlash = s.fencedFlash := rfl
@[simp] theorem State.updGrp_lanes (i : Nat) (g : PerGrpSt → PerGrpSt) : (s.updGrp i g).lanes = s.lanes := rfl
@[simp] theorem State.updGrp_logic (i : Nat) (g : PerGrpSt → PerGrpSt) : (s.updGrp i g).logic = s.logic := rfl
@[simp] theorem State.updGrp_slots64 (i : Nat) (g : PerGrpSt → PerGrpSt) : (s.updGrp i g).slots64 = s.slots64 := rfl
@[simp] theorem State.updGrp_stns (i : Nat) (g : PerGrpSt → PerGrpSt) : (s.updGrp i g).stns = s.stns := rfl
@[simp] theorem State.updGrp_conds (i : Nat) (g : PerGrpSt → PerGrpSt) : (s.updGrp i g).conds = s.conds := rfl
@[simp] theorem State.updGrp_svs (i : Nat) (g : PerGrpSt → PerGrpSt) : (s.updGrp i g).svs = s.svs := rfl
@[simp] theorem State.updGrp_chains (i : Nat) (g : PerGrpSt → PerGrpSt) : (s.updGrp i g).chains = s.chains := rfl
@[simp] theorem State.updGrp_chSlots (i : Nat) (g : PerGrpSt → PerGrpSt) : (s.updGrp i g).chSlots = s.chSlots := rfl
@[simp] theorem State.updGrp_fns (i : Nat) (g : PerGrpSt → PerGrpSt) : (s.updGrp i g).fns = s.fns := rfl
@[simp] theorem State.updGrp_pcOvr (i : Nat) (g : PerGrpSt → PerGrpSt) : (s.updGrp i g).pcOvr = s.pcOvr := rfl
@[simp] theorem State.updGrp_pcDeadline (i : Nat) (g : PerGrpSt → PerGrpSt) : (s.updGrp i g).pcDeadline = s.pcDeadline := rfl
@[simp] theorem State.updGrp_prots (i : Nat) (g : PerGrpSt → PerGrpSt) : (s.updGrp i g).prots = s.prots := rfl
@[simp] theorem State.updGrp_tos (i : Nat) (g : PerGrpSt → PerGrpSt) : (s.updGrp i g).tos = s.tos := rfl
@[simp] theorem State.updGrp_gps (i : Nat) (g : PerGrpSt → PerGrpSt) : (s.updGrp i g).gps = s.gps := rfl
@[simp] theorem State.updGrp_gss (i : Nat) (g : PerGrpSt → PerGrpSt) : (s.updGrp i g).gss = s.gss := rfl
@[simp] theorem State.updGrp_svPubs (i : Nat) (g : PerGrpSt → PerGrpSt) : (s.updGrp i g).svPubs = s.svPubs := rfl
@[simp] theorem State.updGrp_cnv (i : Nat) (g : PerGrpSt → PerGrpSt) : (s.updGrp i g).cnv = s.cnv := rfl
@[simp] theorem State.updGrp_arms (i : Nat) (g : PerGrpSt → PerGrpSt) : (s.updGrp i g).arms = s.arms := rfl
@[simp] theorem State.updGrp_sms (i : Nat) (g : PerGrpSt → PerGrpSt) : (s.updGrp i g).sms = s.sms := rfl
@[simp] theorem State.updGrp_engines (i : Nat) (g : PerGrpSt → PerGrpSt) : (s.updGrp i g).engines = s.engines := rfl
@[simp] theorem State.updGrp_beams (i : Nat) (g : PerGrpSt → PerGrpSt) : (s.updGrp i g).beams = s.beams := rfl
@[simp] theorem State.updGrp_pwms (i : Nat) (g : PerGrpSt → PerGrpSt) : (s.updGrp i g).pwms = s.pwms := rfl
@[simp] theorem State.updGrp_tis (i : Nat) (g : PerGrpSt → PerGrpSt) : (s.updGrp i g).tis = s.tis := rfl
@[simp] theorem State.updGrp_swc (i : Nat) (g : PerGrpSt → PerGrpSt) : (s.updGrp i g).swc = s.swc := rfl
@[simp] theorem State.updGrp_col (i : Nat) (g : PerGrpSt → PerGrpSt) : (s.updGrp i g).col = s.col := rfl
@[simp] theorem State.updGrp_fbcs (i : Nat) (g : PerGrpSt → PerGrpSt) : (s.updGrp i g).fbcs = s.fbcs := rfl
@[simp] theorem State.updGrp_hif (i : Nat) (g : PerGrpSt → PerGrpSt) : (s.updGrp i g).hif = s.hif := rfl
@[simp] theorem State.updGrp_mlk (i : Nat) (g : PerGrpSt → PerGrpSt) : (s.updGrp i g).mlk = s.mlk := rfl
@[simp] theorem State.updGrp_obs (i : Nat) (g : PerGrpSt → PerGrpSt) : (s.updGrp i g).obs = s.obs := rfl
@[simp] theorem State.updGrp_bst (i : Nat) (g : PerGrpSt → PerGrpSt) : (s.updGrp i g).bst = s.bst := rfl
@[simp] theorem State.updGrp_hw (i : Nat) (g : PerGrpSt → PerGrpSt) : (s.updGrp i g).hw = s.hw := rfl
@[simp] theorem State.updGrp_outputs (i : Nat) (g : PerGrpSt → PerGrpSt) : (s.updGrp i g).outputs = s.outputs := rfl
@[simp] theorem State.updGrp_lastRead (i : Nat) (g : PerGrpSt → PerGrpSt) : (s.updGrp i g).lastRead = s.lastRead := rfl
@[simp] theorem State.updGrp_pending (i : Nat) (g : PerGrpSt → PerGrpSt) : (s.updGrp i g).pending = s.pending := rfl

/-! ### updLoupe -/
@[simp] theorem State.updLoupe_now (l b : Nat) (g : LoupeSt → LoupeSt) : (s.updLoupe l b g).now = s.now := rfl
@[simp] theorem State.updLoupe_freeIdx (l b : Nat) (g : LoupeSt → LoupeSt) : (s.updLoupe l b g).freeIdx = s.freeIdx := rfl
@[simp] theorem State.updLoupe_glb (l b : Nat) (g : LoupeSt → LoupeSt) : (s.updLoupe l b g).glb = s.glb := rfl
@[simp] theorem State.updLoupe_ka (l b : Nat) (g : LoupeSt → LoupeSt) : (s.updLoupe l b g).ka = s.ka := rfl
@[simp] theorem State.updLoupe_svc (l b : Nat) (g : LoupeSt → LoupeSt) : (s.updLoupe l b g).svc = s.svc := rfl
@[simp] theorem State.updLoupe_units (l b : Nat) (g : LoupeSt → LoupeSt) : (s.updLoupe l b g).units = s.units := rfl
@[simp] theorem State.updLoupe_facets (l b : Nat) (g : LoupeSt → LoupeSt) : (s.updLoupe l b g).facets = s.facets := rfl
@[simp] theorem State.updLoupe_progs (l b : Nat) (g : LoupeSt → LoupeSt) : (s.updLoupe l b g).progs = s.progs := rfl
@[simp] theorem State.updLoupe_lenses (l b : Nat) (g : LoupeSt → LoupeSt) : (s.updLoupe l b g).lenses = s.lenses := rfl
@[simp] theorem State.updLoupe_fencedFlash (l b : Nat) (g : LoupeSt → LoupeSt) : (s.updLoupe l b g).fencedFlash = s.fencedFlash := rfl
@[simp] theorem State.updLoupe_lanes (l b : Nat) (g : LoupeSt → LoupeSt) : (s.updLoupe l b g).lanes = s.lanes := rfl
@[simp] theorem State.updLoupe_logic (l b : Nat) (g : LoupeSt → LoupeSt) : (s.updLoupe l b g).logic = s.logic := rfl
@[simp] theorem State.updLoupe_slots64 (l b : Nat) (g : LoupeSt → LoupeSt) : (s.updLoupe l b g).slots64 = s.slots64 := rfl
@[simp] theorem State.updLoupe_stns (l b : Nat) (g : LoupeSt → LoupeSt) : (s.updLoupe l b g).stns = s.stns := rfl
@[simp] theorem State.updLoupe_conds (l b : Nat) (g : LoupeSt → LoupeSt) : (s.updLoupe l b g).conds = s.conds := rfl
@[simp] theorem State.updLoupe_svs (l b : Nat) (g : LoupeSt → LoupeSt) : (s.updLoupe l b g).svs = s.svs := rfl
@[simp] theorem State.updLoupe_chains (l b : Nat) (g : LoupeSt → LoupeSt) : (s.updLoupe l b g).chains = s.chains := rfl
@[simp] theorem State.updLoupe_chSlots (l b : Nat) (g : LoupeSt → LoupeSt) : (s.updLoupe l b g).chSlots = s.chSlots := rfl
@[simp] theorem State.updLoupe_fns (l b : Nat) (g : LoupeSt → LoupeSt) : (s.updLoupe l b g).fns = s.fns := rfl
@[simp] theorem State.updLoupe_pcOvr (l b : Nat) (g : LoupeSt → LoupeSt) : (s.updLoupe l b g).pcOvr = s.pcOvr := rfl
@[simp] theorem State.updLoupe_pcDeadline (l b : Nat) (g : LoupeSt → LoupeSt) : (s.updLoupe l b g).pcDeadline = s.pcDeadline := rfl
@[simp] theorem State.updLoupe_prots (l b : Nat) (g : LoupeSt → LoupeSt) : (s.updLoupe l b g).prots = s.prots := rfl
@[simp] theorem State.updLoupe_tos (l b : Nat) (g : LoupeSt → LoupeSt) : (s.updLoupe l b g).tos = s.tos := rfl
@[simp] theorem State.updLoupe_gps (l b : Nat) (g : LoupeSt → LoupeSt) : (s.updLoupe l b g).gps = s.gps := rfl
@[simp] theorem State.updLoupe_gss (l b : Nat) (g : LoupeSt → LoupeSt) : (s.updLoupe l b g).gss = s.gss := rfl
@[simp] theorem State.updLoupe_svPubs (l b : Nat) (g : LoupeSt → LoupeSt) : (s.updLoupe l b g).svPubs = s.svPubs := rfl
@[simp] theorem State.updLoupe_cnv (l b : Nat) (g : LoupeSt → LoupeSt) : (s.updLoupe l b g).cnv = s.cnv := rfl
@[simp] theorem State.updLoupe_arms (l b : Nat) (g : LoupeSt → LoupeSt) : (s.updLoupe l b g).arms = s.arms := rfl
@[simp] theorem State.updLoupe_sms (l b : Nat) (g : LoupeSt → LoupeSt) : (s.updLoupe l b g).sms = s.sms := rfl
@[simp] theorem State.updLoupe_engines (l b : Nat) (g : LoupeSt → LoupeSt) : (s.updLoupe l b g).engines = s.engines := rfl
@[simp] theorem State.updLoupe_beams (l b : Nat) (g : LoupeSt → LoupeSt) : (s.updLoupe l b g).beams = s.beams := rfl
@[simp] theorem State.updLoupe_pwms (l b : Nat) (g : LoupeSt → LoupeSt) : (s.updLoupe l b g).pwms = s.pwms := rfl
@[simp] theorem State.updLoupe_tis (l b : Nat) (g : LoupeSt → LoupeSt) : (s.updLoupe l b g).tis = s.tis := rfl
@[simp] theorem State.updLoupe_swc (l b : Nat) (g : LoupeSt → LoupeSt) : (s.updLoupe l b g).swc = s.swc := rfl
@[simp] theorem State.updLoupe_col (l b : Nat) (g : LoupeSt → LoupeSt) : (s.updLoupe l b g).col = s.col := rfl
@[simp] theorem State.updLoupe_fbcs (l b : Nat) (g : LoupeSt → LoupeSt) : (s.updLoupe l b g).fbcs = s.fbcs := rfl
@[simp] theorem State.updLoupe_hif (l b : Nat) (g : LoupeSt → LoupeSt) : (s.updLoupe l b g).hif = s.hif := rfl
@[simp] theorem State.updLoupe_mlk (l b : Nat) (g : LoupeSt → LoupeSt) : (s.updLoupe l b g).mlk = s.mlk := rfl
@[simp] theorem State.updLoupe_obs (l b : Nat) (g : LoupeSt → LoupeSt) : (s.updLoupe l b g).obs = s.obs := rfl
@[simp] theorem State.updLoupe_bst (l b : Nat) (g : LoupeSt → LoupeSt) : (s.updLoupe l b g).bst = s.bst := rfl
@[simp] theorem State.updLoupe_hw (l b : Nat) (g : LoupeSt → LoupeSt) : (s.updLoupe l b g).hw = s.hw := rfl
@[simp] theorem State.updLoupe_outputs (l b : Nat) (g : LoupeSt → LoupeSt) : (s.updLoupe l b g).outputs = s.outputs := rfl
@[simp] theorem State.updLoupe_lastRead (l b : Nat) (g : LoupeSt → LoupeSt) : (s.updLoupe l b g).lastRead = s.lastRead := rfl
@[simp] theorem State.updLoupe_pending (l b : Nat) (g : LoupeSt → LoupeSt) : (s.updLoupe l b g).pending = s.pending := rfl

/-! ### updRecs -/
@[simp] theorem State.updRecs_recs (g : RecSt → RecSt) : (s.updRecs g).recs = g s.recs := rfl
@[simp] theorem State.updRecs_now (g : RecSt → RecSt) : (s.updRecs g).now = s.now := rfl
@[simp] theorem State.updRecs_freeIdx (g : RecSt → RecSt) : (s.updRecs g).freeIdx = s.freeIdx := rfl
@[simp] theorem State.updRecs_glb (g : RecSt → RecSt) : (s.updRecs g).glb = s.glb := rfl
@[simp] theorem State.updRecs_ka (g : RecSt → RecSt) : (s.updRecs g).ka = s.ka := rfl
@[simp] theorem State.updRecs_svc (g : RecSt → RecSt) : (s.updRecs g).svc = s.svc := rfl
@[simp] theorem State.updRecs_units (g : RecSt → RecSt) : (s.updRecs g).units = s.units := rfl
@[simp] theorem State.updRecs_facets (g : RecSt → RecSt) : (s.updRecs g).facets = s.facets := rfl
@[simp] theorem State.updRecs_progs (g : RecSt → RecSt) : (s.updRecs g).progs = s.progs := rfl
@[simp] theorem State.updRecs_lenses (g : RecSt → RecSt) : (s.updRecs g).lenses = s.lenses := rfl
@[simp] theorem State.updRecs_fencedFlash (g : RecSt → RecSt) : (s.updRecs g).fencedFlash = s.fencedFlash := rfl
@[simp] theorem State.updRecs_lanes (g : RecSt → RecSt) : (s.updRecs g).lanes = s.lanes := rfl
@[simp] theorem State.updRecs_logic (g : RecSt → RecSt) : (s.updRecs g).logic = s.logic := rfl
@[simp] theorem State.updRecs_slots64 (g : RecSt → RecSt) : (s.updRecs g).slots64 = s.slots64 := rfl
@[simp] theorem State.updRecs_stns (g : RecSt → RecSt) : (s.updRecs g).stns = s.stns := rfl
@[simp] theorem State.updRecs_conds (g : RecSt → RecSt) : (s.updRecs g).conds = s.conds := rfl
@[simp] theorem State.updRecs_svs (g : RecSt → RecSt) : (s.updRecs g).svs = s.svs := rfl
@[simp] theorem State.updRecs_chains (g : RecSt → RecSt) : (s.updRecs g).chains = s.chains := rfl
@[simp] theorem State.updRecs_chSlots (g : RecSt → RecSt) : (s.updRecs g).chSlots = s.chSlots := rfl
@[simp] theorem State.updRecs_fns (g : RecSt → RecSt) : (s.updRecs g).fns = s.fns := rfl
@[simp] theorem State.updRecs_pcOvr (g : RecSt → RecSt) : (s.updRecs g).pcOvr = s.pcOvr := rfl
@[simp] theorem State.updRecs_pcDeadline (g : RecSt → RecSt) : (s.updRecs g).pcDeadline = s.pcDeadline := rfl
@[simp] theorem State.updRecs_prots (g : RecSt → RecSt) : (s.updRecs g).prots = s.prots := rfl
@[simp] theorem State.updRecs_tos (g : RecSt → RecSt) : (s.updRecs g).tos = s.tos := rfl
@[simp] theorem State.updRecs_gps (g : RecSt → RecSt) : (s.updRecs g).gps = s.gps := rfl
@[simp] theorem State.updRecs_gss (g : RecSt → RecSt) : (s.updRecs g).gss = s.gss := rfl
@[simp] theorem State.updRecs_svPubs (g : RecSt → RecSt) : (s.updRecs g).svPubs = s.svPubs := rfl
@[simp] theorem State.updRecs_cnv (g : RecSt → RecSt) : (s.updRecs g).cnv = s.cnv := rfl
@[simp] theorem State.updRecs_arms (g : RecSt → RecSt) : (s.updRecs g).arms = s.arms := rfl
@[simp] theorem State.updRecs_sms (g : RecSt → RecSt) : (s.updRecs g).sms = s.sms := rfl
@[simp] theorem State.updRecs_engines (g : RecSt → RecSt) : (s.updRecs g).engines = s.engines := rfl
@[simp] theorem State.updRecs_beams (g : RecSt → RecSt) : (s.updRecs g).beams = s.beams := rfl
@[simp] theorem State.updRecs_pwms (g : RecSt → RecSt) : (s.updRecs g).pwms = s.pwms := rfl
@[simp] theorem State.updRecs_tis (g : RecSt → RecSt) : (s.updRecs g).tis = s.tis := rfl
@[simp] theorem State.updRecs_swc (g : RecSt → RecSt) : (s.updRecs g).swc = s.swc := rfl
@[simp] theorem State.updRecs_col (g : RecSt → RecSt) : (s.updRecs g).col = s.col := rfl
@[simp] theorem State.updRecs_fbcs (g : RecSt → RecSt) : (s.updRecs g).fbcs = s.fbcs := rfl
@[simp] theorem State.updRecs_hif (g : RecSt → RecSt) : (s.updRecs g).hif = s.hif := rfl
@[simp] theorem State.updRecs_mlk (g : RecSt → RecSt) : (s.updRecs g).mlk = s.mlk := rfl
@[simp] theorem State.updRecs_obs (g : RecSt → RecSt) : (s.updRecs g).obs = s.obs := rfl
@[simp] theorem State.updRecs_bst (g : RecSt → RecSt) : (s.updRecs g).bst = s.bst := rfl
@[simp] theorem State.updRecs_hw (g : RecSt → RecSt) : (s.updRecs g).hw = s.hw := rfl
@[simp] theorem State.updRecs_outputs (g : RecSt → RecSt) : (s.updRecs g).outputs = s.outputs := rfl
@[simp] theorem State.updRecs_lastRead (g : RecSt → RecSt) : (s.updRecs g).lastRead = s.lastRead := rfl
@[simp] theorem State.updRecs_pending (g : RecSt → RecSt) : (s.updRecs g).pending = s.pending := rfl

/-! ### emptySlots -/
@[simp] theorem State.emptySlots_slots64  : (s.emptySlots ).slots64 = ⟨{}, []⟩ := rfl
@[simp] theorem State.emptySlots_now  : (s.emptySlots ).now = s.now := rfl
@[simp] theorem State.emptySlots_freeIdx  : (s.emptySlots ).freeIdx = s.freeIdx := rfl
@[simp] theorem State.emptySlots_glb  : (s.emptySlots ).glb = s.glb := rfl
@[simp] theorem State.emptySlots_ka  : (s.emptySlots ).ka = s.ka := rfl
@[simp] theorem State.emptySlots_svc  : (s.emptySlots ).svc = s.svc := rfl
@[simp] theorem State.emptySlots_units  : (s.emptySlots ).units = s.units := rfl
@[simp] theorem State.emptySlots_facets  : (s.emptySlots ).facets = s.facets := rfl
@[simp] theorem State.emptySlots_progs  : (s.emptySlots ).progs = s.progs := rfl
@[simp] theorem State.emptySlots_lenses  : (s.emptySlots ).lenses = s.lenses := rfl
@[simp] theorem State.emptySlots_fencedFlash  : (s.emptySlots ).fencedFlash = s.fencedFlash := rfl
@[simp] theorem State.emptySlots_lanes  : (s.emptySlots ).lanes = s.lanes := rfl
@[simp] theorem State.emptySlots_logic  : (s.emptySlots ).logic = s.logic := rfl
@[simp] theorem State.emptySlots_stns  : (s.emptySlots ).stns = s.stns := rfl
@[simp] theorem State.emptySlots_conds  : (s.emptySlots ).conds = s.conds := rfl
@[simp] theorem State.emptySlots_svs  : (s.emptySlots ).svs = s.svs := rfl
@[simp] theorem State.emptySlots_chains  : (s.emptySlots ).chains = s.chains := rfl
@[simp] theorem State.emptySlots_chSlots  : (s.emptySlots ).chSlots = s.chSlots := rfl
@[simp] theorem State.emptySlots_fns  : (s.emptySlots ).fns = s.fns := rfl
@[simp] theorem State.emptySlots_pcOvr  : (s.emptySlots ).pcOvr = s.pcOvr := rfl
@[simp] theorem State.emptySlots_pcDeadline  : (s.emptySlots ).pcDeadline = s.pcDeadline := rfl
@[simp] theorem State.emptySlots_prots  : (s.emptySlots ).prots = s.prots := rfl
@[simp] theorem State.emptySlots_tos  : (s.emptySlots ).tos = s.tos := rfl
@[simp] theorem State.emptySlots_gps  : (s.emptySlots ).gps = s.gps := rfl
@[simp] theorem State.emptySlots_gss  : (s.emptySlots ).gss = s.gss := rfl
@[simp] theorem State.emptySlots_svPubs  : (s.emptySlots ).svPubs = s.svPubs := rfl
@[simp] theorem State.emptySlots_cnv  : (s.emptySlots ).cnv = s.cnv := rfl
@[simp] theorem State.emptySlots_arms  : (s.emptySlots ).arms = s.arms := rfl
@[simp] theorem State.emptySlots_sms  : (s.emptySlots ).sms = s.sms := rfl
@[simp] theorem State.emptySlots_engines  : (s.emptySlots ).engines = s.engines := rfl
@[simp] theorem State.emptySlots_beams  : (s.emptySlots ).beams = s.beams := rfl
@[simp] theorem State.emptySlots_pwms  : (s.emptySlots ).pwms = s.pwms := rfl
@[simp] theorem State.emptySlots_tis  : (s.emptySlots ).tis = s.tis := rfl
@[simp] theorem State.emptySlots_swc  : (s.emptySlots ).swc = s.swc := rfl
@[simp] theorem State.emptySlots_col  : (s.emptySlots ).col = s.col := rfl
@[simp] theorem State.emptySlots_fbcs  : (s.emptySlots ).fbcs = s.fbcs := rfl
@[simp] theorem State.emptySlots_hif  : (s.emptySlots ).hif = s.hif := rfl
@[simp] theorem State.emptySlots_mlk  : (s.emptySlots ).mlk = s.mlk := rfl
@[simp] theorem State.emptySlots_recs  : (s.emptySlots ).recs = s.recs := rfl
@[simp] theorem State.emptySlots_obs  : (s.emptySlots ).obs = s.obs := rfl
@[simp] theorem State.emptySlots_bst  : (s.emptySlots ).bst = s.bst := rfl
@[simp] theorem State.emptySlots_hw  : (s.emptySlots ).hw = s.hw := rfl
@[simp] theorem State.emptySlots_outputs  : (s.emptySlots ).outputs = s.outputs := rfl
@[simp] theorem State.emptySlots_lastRead  : (s.emptySlots ).lastRead = s.lastRead := rfl
@[simp] theorem State.emptySlots_pending  : (s.emptySlots ).pending = s.pending := rfl

/-! ### updEvr -/
@[simp] theorem State.updEvr_now (g : EvrSt → EvrSt) : (s.updEvr g).now = s.now := rfl
@[simp] theorem State.updEvr_freeIdx (g : EvrSt → EvrSt) : (s.updEvr g).freeIdx = s.freeIdx := rfl
@[simp] theorem State.updEvr_glb (g : EvrSt → EvrSt) : (s.updEvr g).glb = s.glb := rfl
@[simp] theorem State.updEvr_ka (g : EvrSt → EvrSt) : (s.updEvr g).ka = s.ka := rfl
@[simp] theorem State.updEvr_svc (g : EvrSt → EvrSt) : (s.updEvr g).svc = s.svc := rfl
@[simp] theorem State.updEvr_units (g : EvrSt → EvrSt) : (s.updEvr g).units = s.units := rfl
@[simp] theorem State.updEvr_facets (g : EvrSt → EvrSt) : (s.updEvr g).facets = s.facets := rfl
@[simp] theorem State.updEvr_progs (g : EvrSt → EvrSt) : (s.updEvr g).progs = s.progs := rfl
@[simp] theorem State.updEvr_lenses (g : EvrSt → EvrSt) : (s.updEvr g).lenses = s.lenses := rfl
@[simp] theorem State.updEvr_fencedFlash (g : EvrSt → EvrSt) : (s.updEvr g).fencedFlash = s.fencedFlash := rfl
@[simp] theorem State.updEvr_lanes (g : EvrSt → EvrSt) : (s.updEvr g).lanes = s.lanes := rfl
@[simp] theorem State.updEvr_logic (g : EvrSt → EvrSt) : (s.updEvr g).logic = s.logic := rfl
@[simp] theorem State.updEvr_slots64 (g : EvrSt → EvrSt) : (s.updEvr g).slots64 = s.slots64 := rfl
@[simp] theorem State.updEvr_stns (g : EvrSt → EvrSt) : (s.updEvr g).stns = s.stns := rfl
@[simp] theorem State.updEvr_conds (g : EvrSt → EvrSt) : (s.updEvr g).conds = s.conds := rfl
@[simp] theorem State.updEvr_svs (g : EvrSt → EvrSt) : (s.updEvr g).svs = s.svs := rfl
@[simp] theorem State.updEvr_chains (g : EvrSt → EvrSt) : (s.updEvr g).chains = s.chains := rfl
@[simp] theorem State.updEvr_chSlots (g : EvrSt → EvrSt) : (s.updEvr g).chSlots = s.chSlots := rfl
@[simp] theorem State.updEvr_fns (g : EvrSt → EvrSt) : (s.updEvr g).fns = s.fns := rfl
@[simp] theorem State.updEvr_pcOvr (g : EvrSt → EvrSt) : (s.updEvr g).pcOvr = s.pcOvr := rfl
@[simp] theorem State.updEvr_pcDeadline (g : EvrSt → EvrSt) : (s.updEvr g).pcDeadline = s.pcDeadline := rfl
@[simp] theorem State.updEvr_prots (g : EvrSt → EvrSt) : (s.updEvr g).prots = s.prots := rfl
@[simp] theorem State.updEvr_tos (g : EvrSt → EvrSt) : (s.updEvr g).tos = s.tos := rfl
@[simp] theorem State.updEvr_gps (g : EvrSt → EvrSt) : (s.updEvr g).gps = s.gps := rfl
@[simp] theorem State.updEvr_gss (g : EvrSt → EvrSt) : (s.updEvr g).gss = s.gss := rfl
@[simp] theorem State.updEvr_svPubs (g : EvrSt → EvrSt) : (s.updEvr g).svPubs = s.svPubs := rfl
@[simp] theorem State.updEvr_cnv (g : EvrSt → EvrSt) : (s.updEvr g).cnv = s.cnv := rfl
@[simp] theorem State.updEvr_arms (g : EvrSt → EvrSt) : (s.updEvr g).arms = s.arms := rfl
@[simp] theorem State.updEvr_sms (g : EvrSt → EvrSt) : (s.updEvr g).sms = s.sms := rfl
@[simp] theorem State.updEvr_engines (g : EvrSt → EvrSt) : (s.updEvr g).engines = s.engines := rfl
@[simp] theorem State.updEvr_beams (g : EvrSt → EvrSt) : (s.updEvr g).beams = s.beams := rfl
@[simp] theorem State.updEvr_pwms (g : EvrSt → EvrSt) : (s.updEvr g).pwms = s.pwms := rfl
@[simp] theorem State.updEvr_tis (g : EvrSt → EvrSt) : (s.updEvr g).tis = s.tis := rfl
@[simp] theorem State.updEvr_swc (g : EvrSt → EvrSt) : (s.updEvr g).swc = s.swc := rfl
@[simp] theorem State.updEvr_col (g : EvrSt → EvrSt) : (s.updEvr g).col = s.col := rfl
@[simp] theorem State.updEvr_fbcs (g : EvrSt → EvrSt) : (s.updEvr g).fbcs = s.fbcs := rfl
@[simp] theorem State.updEvr_hif (g : EvrSt → EvrSt) : (s.updEvr g).hif = s.hif := rfl
@[simp] theorem State.updEvr_mlk (g : EvrSt → EvrSt) : (s.updEvr g).mlk = s.mlk := rfl
@[simp] theorem State.updEvr_obs (g : EvrSt → EvrSt) : (s.updEvr g).obs = s.obs := rfl
@[simp] theorem State.updEvr_bst (g : EvrSt → EvrSt) : (s.updEvr g).bst = s.bst := rfl
@[simp] theorem State.updEvr_hw (g : EvrSt → EvrSt) : (s.updEvr g).hw = s.hw := rfl
@[simp] theorem State.updEvr_outputs (g : EvrSt → EvrSt) : (s.updEvr g).outputs = s.outputs := rfl
@[simp] theorem State.updEvr_lastRead (g : EvrSt → EvrSt) : (s.updEvr g).lastRead = s.lastRead := rfl
@[simp] theorem State.updEvr_pending (g : EvrSt → EvrSt) : (s.updEvr g).pending = s.pending := rfl

/-! ### updSvc -/
@[simp] theorem State.updSvc_svc (g : Svc → Svc) : (s.updSvc g).svc = g s.svc := rfl
@[simp] theorem State.updSvc_now (g : Svc → Svc) : (s.updSvc g).now = s.now := rfl
@[simp] theorem State.updSvc_freeIdx (g : Svc → Svc) : (s.updSvc g).freeIdx = s.freeIdx := rfl
@[simp] theorem State.updSvc_glb (g : Svc → Svc) : (s.updSvc g).glb = s.glb := rfl
@[simp] theorem State.updSvc_ka (g : Svc → Svc) : (s.updSvc g).ka = s.ka := rfl
@[simp] theorem State.updSvc_units (g : Svc → Svc) : (s.updSvc g).units = s.units := rfl
@[simp] theorem State.updSvc_facets (g : Svc → Svc) : (s.updSvc g).facets = s.facets := rfl
@[simp] theorem State.updSvc_progs (g : Svc → Svc) : (s.updSvc g).progs = s.progs := rfl
@[simp] theorem State.updSvc_lenses (g : Svc → Svc) : (s.updSvc g).lenses = s.lenses := rfl
@[simp] theorem State.updSvc_fencedFlash (g : Svc → Svc) : (s.updSvc g).fencedFlash = s.fencedFlash := rfl
@[simp] theorem State.updSvc_lanes (g : Svc → Svc) : (s.updSvc g).lanes = s.lanes := rfl
@[simp] theorem State.updSvc_logic (g : Svc → Svc) : (s.updSvc g).logic = s.logic := rfl
@[simp] theorem State.updSvc_slots64 (g : Svc → Svc) : (s.updSvc g).slots64 = s.slots64 := rfl
@[simp] theorem State.updSvc_stns (g : Svc → Svc) : (s.updSvc g).stns = s.stns := rfl
@[simp] theorem State.updSvc_conds (g : Svc → Svc) : (s.updSvc g).conds = s.conds := rfl
@[simp] theorem State.updSvc_svs (g : Svc → Svc) : (s.updSvc g).svs = s.svs := rfl
@[simp] theorem State.updSvc_chains (g : Svc → Svc) : (s.updSvc g).chains = s.chains := rfl
@[simp] theorem State.updSvc_chSlots (g : Svc → Svc) : (s.updSvc g).chSlots = s.chSlots := rfl
@[simp] theorem State.updSvc_fns (g : Svc → Svc) : (s.updSvc g).fns = s.fns := rfl
@[simp] theorem State.updSvc_pcOvr (g : Svc → Svc) : (s.updSvc g).pcOvr = s.pcOvr := rfl
@[simp] theorem State.updSvc_pcDeadline (g : Svc → Svc) : (s.updSvc g).pcDeadline = s.pcDeadline := rfl
@[simp] theorem State.updSvc_prots (g : Svc → Svc) : (s.updSvc g).prots = s.prots := rfl
@[simp] theorem State.updSvc_tos (g : Svc → Svc) : (s.updSvc g).tos = s.tos := rfl
@[simp] theorem State.updSvc_gps (g : Svc → Svc) : (s.updSvc g).gps = s.gps := rfl
@[simp] theorem State.updSvc_gss (g : Svc → Svc) : (s.updSvc g).gss = s.gss := rfl
@[simp] theorem State.updSvc_svPubs (g : Svc → Svc) : (s.updSvc g).svPubs = s.svPubs := rfl
@[simp] theorem State.updSvc_cnv (g : Svc → Svc) : (s.updSvc g).cnv = s.cnv := rfl
@[simp] theorem State.updSvc_arms (g : Svc → Svc) : (s.updSvc g).arms = s.arms := rfl
@[simp] theorem State.updSvc_sms (g : Svc → Svc) : (s.updSvc g).sms = s.sms := rfl
@[simp] theorem State.updSvc_engines (g : Svc → Svc) : (s.updSvc g).engines = s.engines := rfl
@[simp] theorem State.updSvc_beams (g : Svc → Svc) : (s.updSvc g).beams = s.beams := rfl
@[simp] theorem State.updSvc_pwms (g : Svc → Svc) : (s.updSvc g).pwms = s.pwms := rfl
@[simp] theorem State.updSvc_tis (g : Svc → Svc) : (s.updSvc g).tis = s.tis := rfl
@[simp] theorem State.updSvc_swc (g : Svc → Svc) : (s.updSvc g).swc = s.swc := rfl
@[simp] theorem State.updSvc_col (g : Svc → Svc) : (s.updSvc g).col = s.col := rfl
@[simp] theorem State.updSvc_fbcs (g : Svc → Svc) : (s.updSvc g).fbcs = s.fbcs := rfl
@[simp] theorem State.updSvc_hif (g : Svc → Svc) : (s.updSvc g).hif = s.hif := rfl
@[simp] theorem State.updSvc_mlk (g : Svc → Svc) : (s.updSvc g).mlk = s.mlk := rfl
@[simp] theorem State.updSvc_recs (g : Svc → Svc) : (s.updSvc g).recs = s.recs := rfl
@[simp] theorem State.updSvc_obs (g : Svc → Svc) : (s.updSvc g).obs = s.obs := rfl
@[simp] theorem State.updSvc_bst (g : Svc → Svc) : (s.updSvc g).bst = s.bst := rfl
@[simp] theorem State.updSvc_hw (g : Svc → Svc) : (s.updSvc g).hw = s.hw := rfl
@[simp] theorem State.updSvc_outputs (g : Svc → Svc) : (s.updSvc g).outputs = s.outputs := rfl
@[simp] theorem State.updSvc_lastRead (g : Svc → Svc) : (s.updSvc g).lastRead = s.lastRead := rfl
@[simp] theorem State.updSvc_pending (g : Svc → Svc) : (s.updSvc g).pending = s.pending := rfl

/-! ### updGlb -/
@[simp] theorem State.updGlb_glb (g : Glb → Glb) : (s.updGlb g).glb = g s.glb := rfl
@[simp] theorem State.updGlb_now (g : Glb → Glb) : (s.updGlb g).now = s.now := rfl
@[simp] theorem State.updGlb_freeIdx (g : Glb → Glb) : (s.updGlb g).freeIdx = s.freeIdx := rfl
@[simp] theorem State.updGlb_ka (g : Glb → Glb) : (s.updGlb g).ka = s.ka := rfl
@[simp] theorem State.updGlb_svc (g : Glb → Glb) : (s.updGlb g).svc = s.svc := rfl
@[simp] theorem State.updGlb_units (g : Glb → Glb) : (s.updGlb g).units = s.units := rfl
@[simp] theorem State.updGlb_facets (g : Glb → Glb) : (s.updGlb g).facets = s.facets := rfl
@[simp] theorem State.updGlb_progs (g : Glb → Glb) : (s.updGlb g).progs = s.progs := rfl
@[simp] theorem State.updGlb_lenses (g : Glb → Glb) : (s.updGlb g).lenses = s.lenses := rfl
@[simp] theorem State.updGlb_fencedFlash (g : Glb → Glb) : (s.updGlb g).fencedFlash = s.fencedFlash := rfl
@[simp] theorem State.updGlb_lanes (g : Glb → Glb) : (s.updGlb g).lanes = s.lanes := rfl
@[simp] theorem State.updGlb_logic (g : Glb → Glb) : (s.updGlb g).logic = s.logic := rfl
@[simp] theorem State.updGlb_slots64 (g : Glb → Glb) : (s.updGlb g).slots64 = s.slots64 := rfl
@[simp] theorem State.updGlb_stns (g : Glb → Glb) : (s.updGlb g).stns = s.stns := rfl
@[simp] theorem State.updGlb_conds (g : Glb → Glb) : (s.updGlb g).conds = s.conds := rfl
@[simp] theorem State.updGlb_svs (g : Glb → Glb) : (s.updGlb g).svs = s.svs := rfl
@[simp] theorem State.updGlb_chains (g : Glb → Glb) : (s.updGlb g).chains = s.chains := rfl
@[simp] theorem State.updGlb_chSlots (g : Glb → Glb) : (s.updGlb g).chSlots = s.chSlots := rfl
@[simp] theorem State.updGlb_fns (g : Glb → Glb) : (s.updGlb g).fns = s.fns := rfl
@[simp] theorem State.updGlb_pcOvr (g : Glb → Glb) : (s.updGlb g).pcOvr = s.pcOvr := rfl
@[simp] theorem State.updGlb_pcDeadline (g : Glb → Glb) : (s.updGlb g).pcDeadline = s.pcDeadline := rfl
@[simp] theorem State.updGlb_prots (g : Glb → Glb) : (s.updGlb g).prots = s.prots := rfl
@[simp] theorem State.updGlb_tos (g : Glb → Glb) : (s.updGlb g).tos = s.tos := rfl
@[simp] theorem State.updGlb_gps (g : Glb → Glb) : (s.updGlb g).gps = s.gps := rfl
@[simp] theorem State.updGlb_gss (g : Glb → Glb) : (s.updGlb g).gss = s.gss := rfl
@[simp] theorem State.updGlb_svPubs (g : Glb → Glb) : (s.updGlb g).svPubs = s.svPubs := rfl
@[simp] theorem State.updGlb_cnv (g : Glb → Glb) : (s.updGlb g).cnv = s.cnv := rfl
@[simp] theorem State.updGlb_arms (g : Glb → Glb) : (s.updGlb g).arms = s.arms := rfl
@[simp] theorem State.updGlb_sms (g : Glb → Glb) : (s.updGlb g).sms = s.sms := rfl
@[simp] theorem State.updGlb_engines (g : Glb → Glb) : (s.updGlb g).engines = s.engines := rfl
@[simp] theorem State.updGlb_beams (g : Glb → Glb) : (s.updGlb g).beams = s.beams := rfl
@[simp] theorem State.updGlb_pwms (g : Glb → Glb) : (s.updGlb g).pwms = s.pwms := rfl
@[simp] theorem State.updGlb_tis (g : Glb → Glb) : (s.updGlb g).tis = s.tis := rfl
@[simp] theorem State.updGlb_swc (g : Glb → Glb) : (s.updGlb g).swc = s.swc := rfl
@[simp] theorem State.updGlb_col (g : Glb → Glb) : (s.updGlb g).col = s.col := rfl
@[simp] theorem State.updGlb_fbcs (g : Glb → Glb) : (s.updGlb g).fbcs = s.fbcs := rfl
@[simp] theorem State.updGlb_hif (g : Glb → Glb) : (s.updGlb g).hif = s.hif := rfl
@[simp] theorem State.updGlb_mlk (g : Glb → Glb) : (s.updGlb g).mlk = s.mlk := rfl
@[simp] theorem State.updGlb_recs (g : Glb → Glb) : (s.updGlb g).recs = s.recs := rfl
@[simp] theorem State.updGlb_obs (g : Glb → Glb) : (s.updGlb g).obs = s.obs := rfl
@[simp] theorem State.updGlb_bst (g : Glb → Glb) : (s.updGlb g).bst = s.bst := rfl
@[simp] theorem State.updGlb_hw (g : Glb → Glb) : (s.updGlb g).hw = s.hw := rfl
@[simp] theorem State.updGlb_outputs (g : Glb → Glb) : (s.updGlb g).outputs = s.outputs := rfl
@[simp] theorem State.updGlb_lastRead (g : Glb → Glb) : (s.updGlb g).lastRead = s.lastRead := rfl
@[simp] theorem State.updGlb_pending (g : Glb → Glb) : (s.updGlb g).pending = s.pending := rfl

/-! ### updKa -/
@[simp] theorem State.updKa_ka (g : Ka → Ka) : (s.updKa g).ka = g s.ka := rfl
@[simp] theorem State.updKa_now (g : Ka → Ka) : (s.updKa g).now = s.now := rfl
@[simp] theorem State.updKa_freeIdx (g : Ka → Ka) : (s.updKa g).freeIdx = s.freeIdx := rfl
@[simp] theorem State.updKa_glb (g : Ka → Ka) : (s.updKa g).glb = s.glb := rfl
@[simp] theorem State.updKa_svc (g : Ka → Ka) : (s.updKa g).svc = s.svc := rfl
@[simp] theorem State.updKa_units (g : Ka → Ka) : (s.updKa g).units = s.units := rfl
@[simp] theorem State.updKa_facets (g : Ka → Ka) : (s.updKa g).facets = s.facets := rfl
@[simp] theorem State.updKa_progs (g : Ka → Ka) : (s.updKa g).progs = s.progs := rfl
@[simp] theorem State.updKa_lenses (g : Ka → Ka) : (s.updKa g).lenses = s.lenses := rfl
@[simp] theorem State.updKa_fencedFlash (g : Ka → Ka) : (s.updKa g).fencedFlash = s.fencedFlash := rfl
@[simp] theorem State.updKa_lanes (g : Ka → Ka) : (s.updKa g).lanes = s.lanes := rfl
@[simp] theorem State.updKa_logic (g : Ka → Ka) : (s.updKa g).logic = s.logic := rfl
@[simp] theorem State.updKa_slots64 (g : Ka → Ka) : (s.updKa g).slots64 = s.slots64 := rfl
@[simp] theorem State.updKa_stns (g : Ka → Ka) : (s.updKa g).stns = s.stns := rfl
@[simp] theorem State.updKa_conds (g : Ka → Ka) : (s.updKa g).conds = s.conds := rfl
@[simp] theorem State.updKa_svs (g : Ka → Ka) : (s.updKa g).svs = s.svs := rfl
@[simp] theorem State.updKa_chains (g : Ka → Ka) : (s.updKa g).chains = s.chains := rfl
@[simp] theorem State.updKa_chSlots (g : Ka → Ka) : (s.updKa g).chSlots = s.chSlots := rfl
@[simp] theorem State.updKa_fns (g : Ka → Ka) : (s.updKa g).fns = s.fns := rfl
@[simp] theorem State.updKa_pcOvr (g : Ka → Ka) : (s.updKa g).pcOvr = s.pcOvr := rfl
@[simp] theorem State.updKa_pcDeadline (g : Ka → Ka) : (s.updKa g).pcDeadline = s.pcDeadline := rfl
@[simp] theorem State.updKa_prots (g : Ka → Ka) : (s.updKa g).prots = s.prots := rfl
@[simp] theorem State.updKa_tos (g : Ka → Ka) : (s.updKa g).tos = s.tos := rfl
@[simp] theorem State.updKa_gps (g : Ka → Ka) : (s.updKa g).gps = s.gps := rfl
@[simp] theorem State.updKa_gss (g : Ka → Ka) : (s.updKa g).gss = s.gss := rfl
@[simp] theorem State.updKa_svPubs (g : Ka → Ka) : (s.updKa g).svPubs = s.svPubs := rfl
@[simp] theorem State.updKa_cnv (g : Ka → Ka) : (s.updKa g).cnv = s.cnv := rfl
@[simp] theorem State.updKa_arms (g : Ka → Ka) : (s.updKa g).arms = s.arms := rfl
@[simp] theorem State.updKa_sms (g : Ka → Ka) : (s.updKa g).sms = s.sms := rfl
@[simp] theorem State.updKa_engines (g : Ka → Ka) : (s.updKa g).engines = s.engines := rfl
@[simp] theorem State.updKa_beams (g : Ka → Ka) : (s.updKa g).beams = s.beams := rfl
@[simp] theorem State.updKa_pwms (g : Ka → Ka) : (s.updKa g).pwms = s.pwms := rfl
@[simp] theorem State.updKa_tis (g : Ka → Ka) : (s.updKa g).tis = s.tis := rfl
@[simp] theorem State.updKa_swc (g : Ka → Ka) : (s.updKa g).swc = s.swc := rfl
@[simp] theorem State.updKa_col (g : Ka → Ka) : (s.updKa g).col = s.col := rfl
@[simp] theorem State.updKa_fbcs (g : Ka → Ka) : (s.updKa g).fbcs = s.fbcs := rfl
@[simp] theorem State.updKa_hif (g : Ka → Ka) : (s.updKa g).hif = s.hif := rfl
@[simp] theorem State.updKa_mlk (g : Ka → Ka) : (s.updKa g).mlk = s.mlk := rfl
@[simp] theorem State.updKa_recs (g : Ka → Ka) : (s.updKa g).recs = s.recs := rfl
@[simp] theorem State.updKa_obs (g : Ka → Ka) : (s.updKa g).obs = s.obs := rfl
@[simp] theorem State.updKa_bst (g : Ka → Ka) : (s.updKa g).bst = s.bst := rfl
@[simp] theorem State.updKa_hw (g : Ka → Ka) : (s.updKa g).hw = s.hw := rfl
@[simp] theorem State.updKa_outputs (g : Ka → Ka) : (s.updKa g).outputs = s.outputs := rfl
@[simp] theorem State.updKa_lastRead (g : Ka → Ka) : (s.updKa g).lastRead = s.lastRead := rfl
@[simp] theorem State.updKa_pending (g : Ka → Ka) : (s.updKa g).pending = s.pending := rfl

/-! ### updHw -/
@[simp] theorem State.updHw_hw (g : HwSt → HwSt) : (s.updHw g).hw = g s.hw := rfl
@[simp] theorem State.updHw_now (g : HwSt → HwSt) : (s.updHw g).now = s.now := rfl
@[simp] theorem State.updHw_freeIdx (g : HwSt → HwSt) : (s.updHw g).freeIdx = s.freeIdx := rfl
@[simp] theorem State.updHw_glb (g : HwSt → HwSt) : (s.updHw g).glb = s.glb := rfl
@[simp] theorem State.updHw_ka (g : HwSt → HwSt) : (s.updHw g).ka = s.ka := rfl
@[simp] theorem State.updHw_svc (g : HwSt → HwSt) : (s.updHw g).svc = s.svc := rfl
@[simp] theorem State.updHw_units (g : HwSt → HwSt) : (s.updHw g).units = s.units := rfl
@[simp] theorem State.updHw_facets (g : HwSt → HwSt) : (s.updHw g).facets = s.facets := rfl
@[simp] theorem State.updHw_progs (g : HwSt → HwSt) : (s.updHw g).progs = s.progs := rfl
@[simp] theorem State.updHw_lenses (g : HwSt → HwSt) : (s.updHw g).lenses = s.lenses := rfl
@[simp] theorem State.updHw_fencedFlash (g : HwSt → HwSt) : (s.updHw g).fencedFlash = s.fencedFlash := rfl
@[simp] theorem State.updHw_lanes (g : HwSt → HwSt) : (s.updHw g).lanes = s.lanes := rfl
@[simp] theorem State.updHw_logic (g : HwSt → HwSt) : (s.updHw g).logic = s.logic := rfl
@[simp] theorem State.updHw_slots64 (g : HwSt → HwSt) : (s.updHw g).slots64 = s.slots64 := rfl
@[simp] theorem State.updHw_stns (g : HwSt → HwSt) : (s.updHw g).stns = s.stns := rfl
@[simp] theorem State.updHw_conds (g : HwSt → HwSt) : (s.updHw g).conds = s.conds := rfl
@[simp] theorem State.updHw_svs (g : HwSt → HwSt) : (s.updHw g).svs = s.svs := rfl
@[simp] theorem State.updHw_chains (g : HwSt → HwSt) : (s.updHw g).chains = s.chains := rfl
@[simp] theorem State.updHw_chSlots (g : HwSt → HwSt) : (s.updHw g).chSlots = s.chSlots := rfl
@[simp] theorem State.updHw_fns (g : HwSt → HwSt) : (s.updHw g).fns = s.fns := rfl
@[simp] theorem State.updHw_pcOvr (g : HwSt → HwSt) : (s.updHw g).pcOvr = s.pcOvr := rfl
@[simp] theorem State.updHw_pcDeadline (g : HwSt → HwSt) : (s.updHw g).pcDeadline = s.pcDeadline := rfl
@[simp] theorem State.updHw_prots (g : HwSt → HwSt) : (s.updHw g).prots = s.prots := rfl
@[simp] theorem State.updHw_tos (g : HwSt → HwSt) : (s.updHw g).tos = s.tos := rfl
@[simp] theorem State.updHw_gps (g : HwSt → HwSt) : (s.updHw g).gps = s.gps := rfl
@[simp] theorem State.updHw_gss (g : HwSt → HwSt) : (s.updHw g).gss = s.gss := rfl
@[simp] theorem State.updHw_svPubs (g : HwSt → HwSt) : (s.updHw g).svPubs = s.svPubs := rfl
@[simp] theorem State.updHw_cnv (g : HwSt → HwSt) : (s.updHw g).cnv = s.cnv := rfl
@[simp] theorem State.updHw_arms (g : HwSt → HwSt) : (s.updHw g).arms = s.arms := rfl
@[simp] theorem State.updHw_sms (g : HwSt → HwSt) : (s.updHw g).sms = s.sms := rfl
@[simp] theorem State.updHw_engines (g : HwSt → HwSt) : (s.updHw g).engines = s.engines := rfl
@[simp] theorem State.updHw_beams (g : HwSt → HwSt) : (s.updHw g).beams = s.beams := rfl
@[simp] theorem State.updHw_pwms (g : HwSt → HwSt) : (s.updHw g).pwms = s.pwms := rfl
@[simp] theorem State.updHw_tis (g : HwSt → HwSt) : (s.updHw g).tis = s.tis := rfl
@[simp] theorem State.updHw_swc (g : HwSt → HwSt) : (s.updHw g).swc = s.swc := rfl
@[simp] theorem State.updHw_col (g : HwSt → HwSt) : (s.updHw g).col = s.col := rfl
@[simp] theorem State.updHw_fbcs (g : HwSt → HwSt) : (s.updHw g).fbcs = s.fbcs := rfl
@[simp] theorem State.updHw_hif (g : HwSt → HwSt) : (s.updHw g).hif = s.hif := rfl
@[simp] theorem State.updHw_mlk (g : HwSt → HwSt) : (s.updHw g).mlk = s.mlk := rfl
@[simp] theorem State.updHw_recs (g : HwSt → HwSt) : (s.updHw g).recs = s.recs := rfl
@[simp] theorem State.updHw_obs (g : HwSt → HwSt) : (s.updHw g).obs = s.obs := rfl
@[simp] theorem State.updHw_bst (g : HwSt → HwSt) : (s.updHw g).bst = s.bst := rfl
@[simp] theorem State.updHw_outputs (g : HwSt → HwSt) : (s.updHw g).outputs = s.outputs := rfl
@[simp] theorem State.updHw_lastRead (g : HwSt → HwSt) : (s.updHw g).lastRead = s.lastRead := rfl
@[simp] theorem State.updHw_pending (g : HwSt → HwSt) : (s.updHw g).pending = s.pending := rfl

/-! ### updObs -/
@[simp] theorem State.updObs_obs (g : ObsSt → ObsSt) : (s.updObs g).obs = g s.obs := rfl
@[simp] theorem State.updObs_now (g : ObsSt → ObsSt) : (s.updObs g).now = s.now := rfl
@[simp] theorem State.updObs_freeIdx (g : ObsSt → ObsSt) : (s.updObs g).freeIdx = s.freeIdx := rfl
@[simp] theorem State.updObs_glb (g : ObsSt → ObsSt) : (s.updObs g).glb = s.glb := rfl
@[simp] theorem State.updObs_ka (g : ObsSt → ObsSt) : (s.updObs g).ka = s.ka := rfl
@[simp] theorem State.updObs_svc (g : ObsSt → ObsSt) : (s.updObs g).svc = s.svc := rfl
@[simp] theorem State.updObs_units (g : ObsSt → ObsSt) : (s.updObs g).units = s.units := rfl
@[simp] theorem State.updObs_facets (g : ObsSt → ObsSt) : (s.updObs g).facets = s.facets := rfl
@[simp] theorem State.updObs_progs (g : ObsSt → ObsSt) : (s.updObs g).progs = s.progs := rfl
@[simp] theorem State.updObs_lenses (g : ObsSt → ObsSt) : (s.updObs g).lenses = s.lenses := rfl
@[simp] theorem State.updObs_fencedFlash (g : ObsSt → ObsSt) : (s.updObs g).fencedFlash = s.fencedFlash := rfl
@[simp] theorem State.updObs_lanes (g : ObsSt → ObsSt) : (s.updObs g).lanes = s.lanes := rfl
@[simp] theorem State.updObs_logic (g : ObsSt → ObsSt) : (s.updObs g).logic = s.logic := rfl
@[simp] theorem State.updObs_slots64 (g : ObsSt → ObsSt) : (s.updObs g).slots64 = s.slots64 := rfl
@[simp] theorem State.updObs_stns (g : ObsSt → ObsSt) : (s.updObs g).stns = s.stns := rfl
@[simp] theorem State.updObs_conds (g : ObsSt → ObsSt) : (s.updObs g).conds = s.conds := rfl
@[simp] theorem State.updObs_svs (g : ObsSt → ObsSt) : (s.updObs g).svs = s.svs := rfl
@[simp] theorem State.updObs_chains (g : ObsSt → ObsSt) : (s.updObs g).chains = s.chains := rfl
@[simp] theorem State.updObs_chSlots (g : ObsSt → ObsSt) : (s.updObs g).chSlots = s.chSlots := rfl
@[simp] theorem State.updObs_fns (g : ObsSt → ObsSt) : (s.updObs g).fns = s.fns := rfl
@[simp] theorem State.updObs_pcOvr (g : ObsSt → ObsSt) : (s.updObs g).pcOvr = s.pcOvr := rfl
@[simp] theorem State.updObs_pcDeadline (g : ObsSt → ObsSt) : (s.updObs g).pcDeadline = s.pcDeadline := rfl
@[simp] theorem State.updObs_prots (g : ObsSt → ObsSt) : (s.updObs g).prots = s.prots := rfl
@[simp] theorem State.updObs_tos (g : ObsSt → ObsSt) : (s.updObs g).tos = s.tos := rfl
@[simp] theorem State.updObs_gps (g : ObsSt → ObsSt) : (s.updObs g).gps = s.gps := rfl
@[simp] theorem State.updObs_gss (g : ObsSt → ObsSt) : (s.updObs g).gss = s.gss := rfl
@[simp] theorem State.updObs_svPubs (g : ObsSt → ObsSt) : (s.updObs g).svPubs = s.svPubs := rfl
@[simp] theorem State.updObs_cnv (g : ObsSt → ObsSt) : (s.updObs g).cnv = s.cnv := rfl
@[simp] theorem State.updObs_arms (g : ObsSt → ObsSt) : (s.updObs g).arms = s.arms := rfl
@[simp] theorem State.updObs_sms (g : ObsSt → ObsSt) : (s.updObs g).sms = s.sms := rfl
@[simp] theorem State.updObs_engines (g : ObsSt → ObsSt) : (s.updObs g).engines = s.engines := rfl
@[simp] theorem State.updObs_beams (g : ObsSt → ObsSt) : (s.updObs g).beams = s.beams := rfl
@[simp] theorem State.updObs_pwms (g : ObsSt → ObsSt) : (s.updObs g).pwms = s.pwms := rfl
@[simp] theorem State.updObs_tis (g : ObsSt → ObsSt) : (s.updObs g).tis = s.tis := rfl
@[simp] theorem State.updObs_swc (g : ObsSt → ObsSt) : (s.updObs g).swc = s.swc := rfl
@[simp] theorem State.updObs_col (g : ObsSt → ObsSt) : (s.updObs g).col = s.col := rfl
@[simp] theorem State.updObs_fbcs (g : ObsSt → ObsSt) : (s.updObs g).fbcs = s.fbcs := rfl
@[simp] theorem State.updObs_hif (g : ObsSt → ObsSt) : (s.updObs g).hif = s.hif := rfl
@[simp] theorem State.updObs_mlk (g : ObsSt → ObsSt) : (s.updObs g).mlk = s.mlk := rfl
@[simp] theorem State.updObs_recs (g : ObsSt → ObsSt) : (s.updObs g).recs = s.recs := rfl
@[simp] theorem State.updObs_bst (g : ObsSt → ObsSt) : (s.updObs g).bst = s.bst := rfl
@[simp] theorem State.updObs_hw (g : ObsSt → ObsSt) : (s.updObs g).hw = s.hw := rfl
@[simp] theorem State.updObs_outputs (g : ObsSt → ObsSt) : (s.updObs g).outputs = s.outputs := rfl
@[simp] theorem State.updObs_lastRead (g : ObsSt → ObsSt) : (s.updObs g).lastRead = s.lastRead := rfl
@[simp] theorem State.updObs_pending (g : ObsSt → ObsSt) : (s.updObs g).pending = s.pending := rfl

/-! ### updBst -/
@[simp] theorem State.updBst_bst (g : BstSt → BstSt) : (s.updBst g).bst = g s.bst := rfl
@[simp] theorem State.updBst_now (g : BstSt → BstSt) : (s.updBst g).now = s.now := rfl
@[simp] theorem State.updBst_freeIdx (g : BstSt → BstSt) : (s.updBst g).freeIdx = s.freeIdx := rfl
@[simp] theorem State.updBst_glb (g : BstSt → BstSt) : (s.updBst g).glb = s.glb := rfl
@[simp] theorem State.updBst_ka (g : BstSt → BstSt) : (s.updBst g).ka = s.ka := rfl
@[simp] theorem State.updBst_svc (g : BstSt → BstSt) : (s.updBst g).svc = s.svc := rfl
@[simp] theorem State.updBst_units (g : BstSt → BstSt) : (s.updBst g).units = s.units := rfl
@[simp] theorem State.updBst_facets (g : BstSt → BstSt) : (s.updBst g).facets = s.facets := rfl
@[simp] theorem State.updBst_progs (g : BstSt → BstSt) : (s.updBst g).progs = s.progs := rfl
@[simp] theorem State.updBst_lenses (g : BstSt → BstSt) : (s.updBst g).lenses = s.lenses := rfl
@[simp] theorem State.updBst_fencedFlash (g : BstSt → BstSt) : (s.updBst g).fencedFlash = s.fencedFlash := rfl
@[simp] theorem State.updBst_lanes (g : BstSt → BstSt) : (s.updBst g).lanes = s.lanes := rfl
@[simp] theorem State.updBst_logic (g : BstSt → BstSt) : (s.updBst g).logic = s.logic := rfl
@[simp] theorem State.updBst_slots64 (g : BstSt → BstSt) : (s.updBst g).slots64 = s.slots64 := rfl
@[simp] theorem State.updBst_stns (g : BstSt → BstSt) : (s.updBst g).stns = s.stns := rfl
@[simp] theorem State.updBst_conds (g : BstSt → BstSt) : (s.updBst g).conds = s.conds := rfl
@[simp] theorem State.updBst_svs (g : BstSt → BstSt) : (s.updBst g).svs = s.svs := rfl
@[simp] theorem State.updBst_chains (g : BstSt → BstSt) : (s.updBst g).chains = s.chains := rfl
@[simp] theorem State.updBst_chSlots (g : BstSt → BstSt) : (s.updBst g).chSlots = s.chSlots := rfl
@[simp] theorem State.updBst_fns (g : BstSt → BstSt) : (s.updBst g).fns = s.fns := rfl
@[simp] theorem State.updBst_pcOvr (g : BstSt → BstSt) : (s.updBst g).pcOvr = s.pcOvr := rfl
@[simp] theorem State.updBst_pcDeadline (g : BstSt → BstSt) : (s.updBst g).pcDeadline = s.pcDeadline := rfl
@[simp] theorem State.updBst_prots (g : BstSt → BstSt) : (s.updBst g).prots = s.prots := rfl
@[simp] theorem State.updBst_tos (g : BstSt → BstSt) : (s.updBst g).tos = s.tos := rfl
@[simp] theorem State.updBst_gps (g : BstSt → BstSt) : (s.updBst g).gps = s.gps := rfl
@[simp] theorem State.updBst_gss (g : BstSt → BstSt) : (s.updBst g).gss = s.gss := rfl
@[simp] theorem State.updBst_svPubs (g : BstSt → BstSt) : (s.updBst g).svPubs = s.svPubs := rfl
@[simp] theorem State.updBst_cnv (g : BstSt → BstSt) : (s.updBst g).cnv = s.cnv := rfl
@[simp] theorem State.updBst_arms (g : BstSt → BstSt) : (s.updBst g).arms = s.arms := rfl
@[simp] theorem State.updBst_sms (g : BstSt → BstSt) : (s.updBst g).sms = s.sms := rfl
@[simp] theorem State.updBst_engines (g : BstSt → BstSt) : (s.updBst g).engines = s.engines := rfl
@[simp] theorem State.updBst_beams (g : BstSt → BstSt) : (s.updBst g).beams = s.beams := rfl
@[simp] theorem State.updBst_pwms (g : BstSt → BstSt) : (s.updBst g).pwms = s.pwms := rfl
@[simp] theorem State.updBst_tis (g : BstSt → BstSt) : (s.updBst g).tis = s.tis := rfl
@[simp] theorem State.updBst_swc (g : BstSt → BstSt) : (s.updBst g).swc = s.swc := rfl
@[simp] theorem State.updBst_col (g : BstSt → BstSt) : (s.updBst g).col = s.col := rfl
@[simp] theorem State.updBst_fbcs (g : BstSt → BstSt) : (s.updBst g).fbcs = s.fbcs := rfl
@[simp] theorem State.updBst_hif (g : BstSt → BstSt) : (s.updBst g).hif = s.hif := rfl
@[simp] theorem State.updBst_mlk (g : BstSt → BstSt) : (s.updBst g).mlk = s.mlk := rfl
@[simp] theorem State.updBst_recs (g : BstSt → BstSt) : (s.updBst g).recs = s.recs := rfl
@[simp] theorem State.updBst_obs (g : BstSt → BstSt) : (s.updBst g).obs = s.obs := rfl
@[simp] theorem State.updBst_hw (g : BstSt → BstSt) : (s.updBst g).hw = s.hw := rfl
@[simp] theorem State.updBst_outputs (g : BstSt → BstSt) : (s.updBst g).outputs = s.outputs := rfl
@[simp] theorem State.updBst_lastRead (g : BstSt → BstSt) : (s.updBst g).lastRead = s.lastRead := rfl
@[simp] theorem State.updBst_pending (g : BstSt → BstSt) : (s.updBst g).pending = s.pending := rfl

/-! ### updCnv -/
@[simp] theorem State.updCnv_cnv (g : CnvSt → CnvSt) : (s.updCnv g).cnv = g s.cnv := rfl
@[simp] theorem State.updCnv_now (g : CnvSt → CnvSt) : (s.updCnv g).now = s.now := rfl
@[simp] theorem State.updCnv_freeIdx (g : CnvSt → CnvSt) : (s.updCnv g).freeIdx = s.freeIdx := rfl
@[simp] theorem State.updCnv_glb (g : CnvSt → CnvSt) : (s.updCnv g).glb = s.glb := rfl
@[simp] theorem State.updCnv_ka (g : CnvSt → CnvSt) : (s.updCnv g).ka = s.ka := rfl
@[simp] theorem State.updCnv_svc (g : CnvSt → CnvSt) : (s.updCnv g).svc = s.svc := rfl
@[simp] theorem State.updCnv_units (g : CnvSt → CnvSt) : (s.updCnv g).units = s.units := rfl
@[simp] theorem State.updCnv_facets (g : CnvSt → CnvSt) : (s.updCnv g).facets = s.facets := rfl
@[simp] theorem State.updCnv_progs (g : CnvSt → CnvSt) : (s.updCnv g).progs = s.progs := rfl
@[simp] theorem State.updCnv_lenses (g : CnvSt → CnvSt) : (s.updCnv g).lenses = s.lenses := rfl
@[simp] theorem State.updCnv_fencedFlash (g : CnvSt → CnvSt) : (s.updCnv g).fencedFlash = s.fencedFlash := rfl
@[simp] theorem State.updCnv_lanes (g : CnvSt → CnvSt) : (s.updCnv g).lanes = s.lanes := rfl
@[simp] theorem State.updCnv_logic (g : CnvSt → CnvSt) : (s.updCnv g).logic = s.logic := rfl
@[simp] theorem State.updCnv_slots64 (g : CnvSt → CnvSt) : (s.updCnv g).slots64 = s.slots64 := rfl
@[simp] theorem State.updCnv_stns (g : CnvSt → CnvSt) : (s.updCnv g).stns = s.stns := rfl
@[simp] theorem State.updCnv_conds (g : CnvSt → CnvSt) : (s.updCnv g).conds = s.conds := rfl
@[simp] theorem State.updCnv_svs (g : CnvSt → CnvSt) : (s.updCnv g).svs = s.svs := rfl
@[simp] theorem State.updCnv_chains (g : CnvSt → CnvSt) : (s.updCnv g).chains = s.chains := rfl
@[simp] theorem State.updCnv_chSlots (g : CnvSt → CnvSt) : (s.updCnv g).chSlots = s.chSlots := rfl
@[simp] theorem State.updCnv_fns (g : CnvSt → CnvSt) : (s.updCnv g).fns = s.fns := rfl
@[simp] theorem State.updCnv_pcOvr (g : CnvSt → CnvSt) : (s.updCnv g).pcOvr = s.pcOvr := rfl
@[simp] theorem State.updCnv_pcDeadline (g : CnvSt → CnvSt) : (s.updCnv g).pcDeadline = s.pcDeadline := rfl
@[simp] theorem State.updCnv_prots (g : CnvSt → CnvSt) : (s.updCnv g).prots = s.prots := rfl
@[simp] theorem State.updCnv_tos (g : CnvSt → CnvSt) : (s.updCnv g).tos = s.tos := rfl
@[simp] theorem State.updCnv_gps (g : CnvSt → CnvSt) : (s.updCnv g).gps = s.gps := rfl
@[simp] theorem State.updCnv_gss (g : CnvSt → CnvSt) : (s.updCnv g).gss = s.gss := rfl
@[simp] theorem State.updCnv_svPubs (g : CnvSt → CnvSt) : (s.updCnv g).svPubs = s.svPubs := rfl
@[simp] theorem State.updCnv_arms (g : CnvSt → CnvSt) : (s.updCnv g).arms = s.arms := rfl
@[simp] theorem State.updCnv_sms (g : CnvSt → CnvSt) : (s.updCnv g).sms = s.sms := rfl
@[simp] theorem State.updCnv_engines (g : CnvSt → CnvSt) : (s.updCnv g).engines = s.engines := rfl
@[simp] theorem State.updCnv_beams (g : CnvSt → CnvSt) : (s.updCnv g).beams = s.beams := rfl
@[simp] theorem State.updCnv_pwms (g : CnvSt → CnvSt) : (s.updCnv g).pwms = s.pwms := rfl
@[simp] theorem State.updCnv_tis (g : CnvSt → CnvSt) : (s.updCnv g).tis = s.tis := rfl
@[simp] theorem State.updCnv_swc (g : CnvSt → CnvSt) : (s.updCnv g).swc = s.swc := rfl
@[simp] theorem State.updCnv_col (g : CnvSt → CnvSt) : (s.updCnv g).col = s.col := rfl
@[simp] theorem State.updCnv_fbcs (g : CnvSt → CnvSt) : (s.updCnv g).fbcs = s.fbcs := rfl
@[simp] theorem State.updCnv_hif (g : CnvSt → CnvSt) : (s.updCnv g).hif = s.hif := rfl
@[simp] theorem State.updCnv_mlk (g : CnvSt → CnvSt) : (s.updCnv g).mlk = s.mlk := rfl
@[simp] theorem State.updCnv_recs (g : CnvSt → CnvSt) : (s.updCnv g).recs = s.recs := rfl
@[simp] theorem State.updCnv_obs (g : CnvSt → CnvSt) : (s.updCnv g).obs = s.obs := rfl
@[simp] theorem State.updCnv_bst (g : CnvSt → CnvSt) : (s.updCnv g).bst = s.bst := rfl
@[simp] theorem State.updCnv_hw (g : CnvSt → CnvSt) : (s.updCnv g).hw = s.hw := rfl
@[simp] theorem State.updCnv_outputs (g : CnvSt → CnvSt) : (s.updCnv g).outputs = s.outputs := rfl
@[simp] theorem State.updCnv_lastRead (g : CnvSt → CnvSt) : (s.updCnv g).lastRead = s.lastRead := rfl
@[simp] theorem State.updCnv_pending (g : CnvSt → CnvSt) : (s.updCnv g).pending = s.pending := rfl

/-! ### emit -/
@[simp] theorem State.emit_outputs (x : Emission) : (s.emit x).outputs = s.outputs ++ [x] := rfl
@[simp] theorem State.emit_now (x : Emission) : (s.emit x).now = s.now := rfl
@[simp] theorem State.emit_freeIdx (x : Emission) : (s.emit x).freeIdx = s.freeIdx := rfl
@[simp] theorem State.emit_glb (x : Emission) : (s.emit x).glb = s.glb := rfl
@[simp] theorem State.emit_ka (x : Emission) : (s.emit x).ka = s.ka := rfl
@[simp] theorem State.emit_svc (x : Emission) : (s.emit x).svc = s.svc := rfl
@[simp] theorem State.emit_units (x : Emission) : (s.emit x).units = s.units := rfl
@[simp] theorem State.emit_facets (x : Emission) : (s.emit x).facets = s.facets := rfl
@[simp] theorem State.emit_progs (x : Emission) : (s.emit x).progs = s.progs := rfl
@[simp] theorem State.emit_lenses (x : Emission) : (s.emit x).lenses = s.lenses := rfl
@[simp] theorem State.emit_fencedFlash (x : Emission) : (s.emit x).fencedFlash = s.fencedFlash := rfl
@[simp] theorem State.emit_lanes (x : Emission) : (s.emit x).lanes = s.lanes := rfl
@[simp] theorem State.emit_logic (x : Emission) : (s.emit x).logic = s.logic := rfl
@[simp] theorem State.emit_slots64 (x : Emission) : (s.emit x).slots64 = s.slots64 := rfl
@[simp] theorem State.emit_stns (x : Emission) : (s.emit x).stns = s.stns := rfl
@[simp] theorem State.emit_conds (x : Emission) : (s.emit x).conds = s.conds := rfl
@[simp] theorem State.emit_svs (x : Emission) : (s.emit x).svs = s.svs := rfl
@[simp] theorem State.emit_chains (x : Emission) : (s.emit x).chains = s.chains := rfl
@[simp] theorem State.emit_chSlots (x : Emission) : (s.emit x).chSlots = s.chSlots := rfl
@[simp] theorem State.emit_fns (x : Emission) : (s.emit x).fns = s.fns := rfl
@[simp] theorem State.emit_pcOvr (x : Emission) : (s.emit x).pcOvr = s.pcOvr := rfl
@[simp] theorem State.emit_pcDeadline (x : Emission) : (s.emit x).pcDeadline = s.pcDeadline := rfl
@[simp] theorem State.emit_prots (x : Emission) : (s.emit x).prots = s.prots := rfl
@[simp] theorem State.emit_tos (x : Emission) : (s.emit x).tos = s.tos := rfl
@[simp] theorem State.emit_gps (x : Emission) : (s.emit x).gps = s.gps := rfl
@[simp] theorem State.emit_gss (x : Emission) : (s.emit x).gss = s.gss := rfl
@[simp] theorem State.emit_svPubs (x : Emission) : (s.emit x).svPubs = s.svPubs := rfl
@[simp] theorem State.emit_cnv (x : Emission) : (s.emit x).cnv = s.cnv := rfl
@[simp] theorem State.emit_arms (x : Emission) : (s.emit x).arms = s.arms := rfl
@[simp] theorem State.emit_sms (x : Emission) : (s.emit x).sms = s.sms := rfl
@[simp] theorem State.emit_engines (x : Emission) : (s.emit x).engines = s.engines := rfl
@[simp] theorem State.emit_beams (x : Emission) : (s.emit x).beams = s.beams := rfl
@[simp] theorem State.emit_pwms (x : Emission) : (s.emit x).pwms = s.pwms := rfl
@[simp] theorem State.emit_tis (x : Emission) : (s.emit x).tis = s.tis := rfl
@[simp] theorem State.emit_swc (x : Emission) : (s.emit x).swc = s.swc := rfl
@[simp] theorem State.emit_col (x : Emission) : (s.emit x).col = s.col := rfl
@[simp] theorem State.emit_fbcs (x : Emission) : (s.emit x).fbcs = s.fbcs := rfl
@[simp] theorem State.emit_hif (x : Emission) : (s.emit x).hif = s.hif := rfl
@[simp] theorem State.emit_mlk (x : Emission) : (s.emit x).mlk = s.mlk := rfl
@[simp] theorem State.emit_recs (x : Emission) : (s.emit x).recs = s.recs := rfl
@[simp] theorem State.emit_obs (x : Emission) : (s.emit x).obs = s.obs := rfl
@[simp] theorem State.emit_bst (x : Emission) : (s.emit x).bst = s.bst := rfl
@[simp] theorem State.emit_hw (x : Emission) : (s.emit x).hw = s.hw := rfl
@[simp] theorem State.emit_lastRead (x : Emission) : (s.emit x).lastRead = s.lastRead := rfl
@[simp] theorem State.emit_pending (x : Emission) : (s.emit x).pending = s.pending := rfl

/-! ### emits -/
@[simp] theorem State.emits_outputs (xs : List Emission) : (s.emits xs).outputs = s.outputs ++ xs := rfl
@[simp] theorem State.emits_now (xs : List Emission) : (s.emits xs).now = s.now := rfl
@[simp] theorem State.emits_freeIdx (xs : List Emission) : (s.emits xs).freeIdx = s.freeIdx := rfl
@[simp] theorem State.emits_glb (xs : List Emission) : (s.emits xs).glb = s.glb := rfl
@[simp] theorem State.emits_ka (xs : List Emission) : (s.emits xs).ka = s.ka := rfl
@[simp] theorem State.emits_svc (xs : List Emission) : (s.emits xs).svc = s.svc := rfl
@[simp] theorem State.emits_units (xs : List Emission) : (s.emits xs).units = s.units := rfl
@[simp] theorem State.emits_facets (xs : List Emission) : (s.emits xs).facets = s.facets := rfl
@[simp] theorem State.emits_progs (xs : List Emission) : (s.emits xs).progs = s.progs := rfl
@[simp] theorem State.emits_lenses (xs : List Emission) : (s.emits xs).lenses = s.lenses := rfl
@[simp] theorem State.emits_fencedFlash (xs : List Emission) : (s.emits xs).fencedFlash = s.fencedFlash := rfl
@[simp] theorem State.emits_lanes (xs : List Emission) : (s.emits xs).lanes = s.lanes := rfl
@[simp] theorem State.emits_logic (xs : List Emission) : (s.emits xs).logic = s.logic := rfl
@[simp] theorem State.emits_slots64 (xs : List Emission) : (s.emits xs).slots64 = s.slots64 := rfl
@[simp] theorem State.emits_stns (xs : List Emission) : (s.emits xs).stns = s.stns := rfl
@[simp] theorem State.emits_conds (xs : List Emission) : (s.emits xs).conds = s.conds := rfl
@[simp] theorem State.emits_svs (xs : List Emission) : (s.emits xs).svs = s.svs := rfl
@[simp] theorem State.emits_chains (xs : List Emission) : (s.emits xs).chains = s.chains := rfl
@[simp] theorem State.emits_chSlots (xs : List Emission) : (s.emits xs).chSlots = s.chSlots := rfl
@[simp] theorem State.emits_fns (xs : List Emission) : (s.emits xs).fns = s.fns := rfl
@[simp] theorem State.emits_pcOvr (xs : List Emission) : (s.emits xs).pcOvr = s.pcOvr := rfl
@[simp] theorem State.emits_pcDeadline (xs : List Emission) : (s.emits xs).pcDeadline = s.pcDeadline := rfl
@[simp] theorem State.emits_prots (xs : List Emission) : (s.emits xs).prots = s.prots := rfl
@[simp] theorem State.emits_tos (xs : List Emission) : (s.emits xs).tos = s.tos := rfl
@[simp] theorem State.emits_gps (xs : List Emission) : (s.emits xs).gps = s.gps := rfl
@[simp] theorem State.emits_gss (xs : List Emission) : (s.emits xs).gss = s.gss := rfl
@[simp] theorem State.emits_svPubs (xs : List Emission) : (s.emits xs).svPubs = s.svPubs := rfl
@[simp] theorem State.emits_cnv (xs : List Emission) : (s.emits xs).cnv = s.cnv := rfl
@[simp] theorem State.emits_arms (xs : List Emission) : (s.emits xs).arms = s.arms := rfl
@[simp] theorem State.emits_sms (xs : List Emission) : (s.emits xs).sms = s.sms := rfl
@[simp] theorem State.emits_engines (xs : List Emission) : (s.emits xs).engines = s.engines := rfl
@[simp] theorem State.emits_beams (xs : List Emission) : (s.emits xs).beams = s.beams := rfl
@[simp] theorem State.emits_pwms (xs : List Emission) : (s.emits xs).pwms = s.pwms := rfl
@[simp] theorem State.emits_tis (xs : List Emission) : (s.emits xs).tis = s.tis := rfl
@[simp] theorem State.emits_swc (xs : List Emission) : (s.emits xs).swc = s.swc := rfl
@[simp] theorem State.emits_col (xs : List Emission) : (s.emits xs).col = s.col := rfl
@[simp] theorem State.emits_fbcs (xs : List Emission) : (s.emits xs).fbcs = s.fbcs := rfl
@[simp] theorem State.emits_hif (xs : List Emission) : (s.emits xs).hif = s.hif := rfl
@[simp] theorem State.emits_mlk (xs : List Emission) : (s.emits xs).mlk = s.mlk := rfl
@[simp] theorem State.emits_recs (xs : List Emission) : (s.emits xs).recs = s.recs := rfl
@[simp] theorem State.emits_obs (xs : List Emission) : (s.emits xs).obs = s.obs := rfl
@[simp] theorem State.emits_bst (xs : List Emission) : (s.emits xs).bst = s.bst := rfl
@[simp] theorem State.emits_hw (xs : List Emission) : (s.emits xs).hw = s.hw := rfl
@[simp] theorem State.emits_lastRead (xs : List Emission) : (s.emits xs).lastRead = s.lastRead := rfl
@[simp] theorem State.emits_pending (xs : List Emission) : (s.emits xs).pending = s.pending := rfl

/-! ### evrTouch -/
@[simp] theorem State.evrTouch_now (i : Nat) (g : EvrWin → EvrWin) : (s.evrTouch i g).now = s.now := rfl
@[simp] theorem State.evrTouch_freeIdx (i : Nat) (g : EvrWin → EvrWin) : (s.evrTouch i g).freeIdx = s.freeIdx := rfl
@[simp] theorem State.evrTouch_glb (i : Nat) (g : EvrWin → EvrWin) : (s.evrTouch i g).glb = s.glb := rfl
@[simp] theorem State.evrTouch_ka (i : Nat) (g : EvrWin → EvrWin) : (s.evrTouch i g).ka = s.ka := rfl
@[simp] theorem State.evrTouch_svc (i : Nat) (g : EvrWin → EvrWin) : (s.evrTouch i g).svc = s.svc := rfl
@[simp] theorem State.evrTouch_units (i : Nat) (g : EvrWin → EvrWin) : (s.evrTouch i g).units = s.units := rfl
@[simp] theorem State.evrTouch_facets (i : Nat) (g : EvrWin → EvrWin) : (s.evrTouch i g).facets = s.facets := rfl
@[simp] theorem State.evrTouch_progs (i : Nat) (g : EvrWin → EvrWin) : (s.evrTouch i g).progs = s.progs := rfl
@[simp] theorem State.evrTouch_lenses (i : Nat) (g : EvrWin → EvrWin) : (s.evrTouch i g).lenses = s.lenses := rfl
@[simp] theorem State.evrTouch_fencedFlash (i : Nat) (g : EvrWin → EvrWin) : (s.evrTouch i g).fencedFlash = s.fencedFlash := rfl
@[simp] theorem State.evrTouch_lanes (i : Nat) (g : EvrWin → EvrWin) : (s.evrTouch i g).lanes = s.lanes := rfl
@[simp] theorem State.evrTouch_logic (i : Nat) (g : EvrWin → EvrWin) : (s.evrTouch i g).logic = s.logic := rfl
@[simp] theorem State.evrTouch_slots64 (i : Nat) (g : EvrWin → EvrWin) : (s.evrTouch i g).slots64 = s.slots64 := rfl
@[simp] theorem State.evrTouch_stns (i : Nat) (g : EvrWin → EvrWin) : (s.evrTouch i g).stns = s.stns := rfl
@[simp] theorem State.evrTouch_conds (i : Nat) (g : EvrWin → EvrWin) : (s.evrTouch i g).conds = s.conds := rfl
@[simp] theorem State.evrTouch_svs (i : Nat) (g : EvrWin → EvrWin) : (s.evrTouch i g).svs = s.svs := rfl
@[simp] theorem State.evrTouch_chains (i : Nat) (g : EvrWin → EvrWin) : (s.evrTouch i g).chains = s.chains := rfl
@[simp] theorem State.evrTouch_chSlots (i : Nat) (g : EvrWin → EvrWin) : (s.evrTouch i g).chSlots = s.chSlots := rfl
@[simp] theorem State.evrTouch_fns (i : Nat) (g : EvrWin → EvrWin) : (s.evrTouch i g).fns = s.fns := rfl
@[simp] theorem State.evrTouch_pcOvr (i : Nat) (g : EvrWin → EvrWin) : (s.evrTouch i g).pcOvr = s.pcOvr := rfl
@[simp] theorem State.evrTouch_pcDeadline (i : Nat) (g : EvrWin → EvrWin) : (s.evrTouch i g).pcDeadline = s.pcDeadline := rfl
@[simp] theorem State.evrTouch_prots (i : Nat) (g : EvrWin → EvrWin) : (s.evrTouch i g).prots = s.prots := rfl
@[simp] theorem State.evrTouch_tos (i : Nat) (g : EvrWin → EvrWin) : (s.evrTouch i g).tos = s.tos := rfl
@[simp] theorem State.evrTouch_gps (i : Nat) (g : EvrWin → EvrWin) : (s.evrTouch i g).gps = s.gps := rfl
@[simp] theorem State.evrTouch_gss (i : Nat) (g : EvrWin → EvrWin) : (s.evrTouch i g).gss = s.gss := rfl
@[simp] theorem State.evrTouch_svPubs (i : Nat) (g : EvrWin → EvrWin) : (s.evrTouch i g).svPubs = s.svPubs := rfl
@[simp] theorem State.evrTouch_cnv (i : Nat) (g : EvrWin → EvrWin) : (s.evrTouch i g).cnv = s.cnv := rfl
@[simp] theorem State.evrTouch_arms (i : Nat) (g : EvrWin → EvrWin) : (s.evrTouch i g).arms = s.arms := rfl
@[simp] theorem State.evrTouch_sms (i : Nat) (g : EvrWin → EvrWin) : (s.evrTouch i g).sms = s.sms := rfl
@[simp] theorem State.evrTouch_engines (i : Nat) (g : EvrWin → EvrWin) : (s.evrTouch i g).engines = s.engines := rfl
@[simp] theorem State.evrTouch_beams (i : Nat) (g : EvrWin → EvrWin) : (s.evrTouch i g).beams = s.beams := rfl
@[simp] theorem State.evrTouch_pwms (i : Nat) (g : EvrWin → EvrWin) : (s.evrTouch i g).pwms = s.pwms := rfl
@[simp] theorem State.evrTouch_tis (i : Nat) (g : EvrWin → EvrWin) : (s.evrTouch i g).tis = s.tis := rfl
@[simp] theorem State.evrTouch_swc (i : Nat) (g : EvrWin → EvrWin) : (s.evrTouch i g).swc = s.swc := rfl
@[simp] theorem State.evrTouch_col (i : Nat) (g : EvrWin → EvrWin) : (s.evrTouch i g).col = s.col := rfl
@[simp] theorem State.evrTouch_fbcs (i : Nat) (g : EvrWin → EvrWin) : (s.evrTouch i g).fbcs = s.fbcs := rfl
@[simp] theorem State.evrTouch_hif (i : Nat) (g : EvrWin → EvrWin) : (s.evrTouch i g).hif = s.hif := rfl
@[simp] theorem State.evrTouch_mlk (i : Nat) (g : EvrWin → EvrWin) : (s.evrTouch i g).mlk = s.mlk := rfl
@[simp] theorem State.evrTouch_obs (i : Nat) (g : EvrWin → EvrWin) : (s.evrTouch i g).obs = s.obs := rfl
@[simp] theorem State.evrTouch_bst (i : Nat) (g : EvrWin → EvrWin) : (s.evrTouch i g).bst = s.bst := rfl
@[simp] theorem State.evrTouch_hw (i : Nat) (g : EvrWin → EvrWin) : (s.evrTouch i g).hw = s.hw := rfl
@[simp] theorem State.evrTouch_outputs (i : Nat) (g : EvrWin → EvrWin) : (s.evrTouch i g).outputs = s.outputs := rfl
@[simp] theorem State.evrTouch_lastRead (i : Nat) (g : EvrWin → EvrWin) : (s.evrTouch i g).lastRead = s.lastRead := rfl
@[simp] theorem State.evrTouch_pending (i : Nat) (g : EvrWin → EvrWin) : (s.evrTouch i g).pending = s.pending := rfl

/-! ### event -/
@[simp] theorem State.event_now (e : Ev) (d : Nat) : (s.event e d).now = s.now := rfl
@[simp] theorem State.event_freeIdx (e : Ev) (d : Nat) : (s.event e d).freeIdx = s.freeIdx := rfl
@[simp] theorem State.event_glb (e : Ev) (d : Nat) : (s.event e d).glb = s.glb := rfl
@[simp] theorem State.event_ka (e : Ev) (d : Nat) : (s.event e d).ka = s.ka := rfl
@[simp] theorem State.event_svc (e : Ev) (d : Nat) : (s.event e d).svc = s.svc := rfl
@[simp] theorem State.event_units (e : Ev) (d : Nat) : (s.event e d).units = s.units := rfl
@[simp] theorem State.event_facets (e : Ev) (d : Nat) : (s.event e d).facets = s.facets := rfl
@[simp] theorem State.event_progs (e : Ev) (d : Nat) : (s.event e d).progs = s.progs := rfl
@[simp] theorem State.event_lenses (e : Ev) (d : Nat) : (s.event e d).lenses = s.lenses := rfl
@[simp] theorem State.event_fencedFlash (e : Ev) (d : Nat) : (s.event e d).fencedFlash = s.fencedFlash := rfl
@[simp] theorem State.event_lanes (e : Ev) (d : Nat) : (s.event e d).lanes = s.lanes := rfl
@[simp] theorem State.event_logic (e : Ev) (d : Nat) : (s.event e d).logic = s.logic := rfl
@[simp] theorem State.event_slots64 (e : Ev) (d : Nat) : (s.event e d).slots64 = s.slots64 := rfl
@[simp] theorem State.event_stns (e : Ev) (d : Nat) : (s.event e d).stns = s.stns := rfl
@[simp] theorem State.event_conds (e : Ev) (d : Nat) : (s.event e d).conds = s.conds := rfl
@[simp] theorem State.event_svs (e : Ev) (d : Nat) : (s.event e d).svs = s.svs := rfl
@[simp] theorem State.event_chains (e : Ev) (d : Nat) : (s.event e d).chains = s.chains := rfl
@[simp] theorem State.event_chSlots (e : Ev) (d : Nat) : (s.event e d).chSlots = s.chSlots := rfl
@[simp] theorem State.event_fns (e : Ev) (d : Nat) : (s.event e d).fns = s.fns := rfl
@[simp] theorem State.event_pcOvr (e : Ev) (d : Nat) : (s.event e d).pcOvr = s.pcOvr := rfl
@[simp] theorem State.event_pcDeadline (e : Ev) (d : Nat) : (s.event e d).pcDeadline = s.pcDeadline := rfl
@[simp] theorem State.event_prots (e : Ev) (d : Nat) : (s.event e d).prots = s.prots := rfl
@[simp] theorem State.event_tos (e : Ev) (d : Nat) : (s.event e d).tos = s.tos := rfl
@[simp] theorem State.event_gps (e : Ev) (d : Nat) : (s.event e d).gps = s.gps := rfl
@[simp] theorem State.event_gss (e : Ev) (d : Nat) : (s.event e d).gss = s.gss := rfl
@[simp] theorem State.event_svPubs (e : Ev) (d : Nat) : (s.event e d).svPubs = s.svPubs := rfl
@[simp] theorem State.event_cnv (e : Ev) (d : Nat) : (s.event e d).cnv = s.cnv := rfl
@[simp] theorem State.event_arms (e : Ev) (d : Nat) : (s.event e d).arms = s.arms := rfl
@[simp] theorem State.event_sms (e : Ev) (d : Nat) : (s.event e d).sms = s.sms := rfl
@[simp] theorem State.event_engines (e : Ev) (d : Nat) : (s.event e d).engines = s.engines := rfl
@[simp] theorem State.event_beams (e : Ev) (d : Nat) : (s.event e d).beams = s.beams := rfl
@[simp] theorem State.event_pwms (e : Ev) (d : Nat) : (s.event e d).pwms = s.pwms := rfl
@[simp] theorem State.event_tis (e : Ev) (d : Nat) : (s.event e d).tis = s.tis := rfl
@[simp] theorem State.event_swc (e : Ev) (d : Nat) : (s.event e d).swc = s.swc := rfl
@[simp] theorem State.event_col (e : Ev) (d : Nat) : (s.event e d).col = s.col := rfl
@[simp] theorem State.event_fbcs (e : Ev) (d : Nat) : (s.event e d).fbcs = s.fbcs := rfl
@[simp] theorem State.event_hif (e : Ev) (d : Nat) : (s.event e d).hif = s.hif := rfl
@[simp] theorem State.event_mlk (e : Ev) (d : Nat) : (s.event e d).mlk = s.mlk := rfl
@[simp] theorem State.event_obs (e : Ev) (d : Nat) : (s.event e d).obs = s.obs := rfl
@[simp] theorem State.event_bst (e : Ev) (d : Nat) : (s.event e d).bst = s.bst := rfl
@[simp] theorem State.event_hw (e : Ev) (d : Nat) : (s.event e d).hw = s.hw := rfl
@[simp] theorem State.event_outputs (e : Ev) (d : Nat) : (s.event e d).outputs = s.outputs := rfl
@[simp] theorem State.event_lastRead (e : Ev) (d : Nat) : (s.event e d).lastRead = s.lastRead := rfl
@[simp] theorem State.event_pending (e : Ev) (d : Nat) : (s.event e d).pending = s.pending := rfl

/-! ### markAlarm -/
@[simp] theorem State.markAlarm_now (e : Ev) : (s.markAlarm e).now = s.now := rfl
@[simp] theorem State.markAlarm_freeIdx (e : Ev) : (s.markAlarm e).freeIdx = s.freeIdx := rfl
@[simp] theorem State.markAlarm_glb (e : Ev) : (s.markAlarm e).glb = s.glb := rfl
@[simp] theorem State.markAlarm_ka (e : Ev) : (s.markAlarm e).ka = s.ka := rfl
@[simp] theorem State.markAlarm_svc (e : Ev) : (s.markAlarm e).svc = s.svc := rfl
@[simp] theorem State.markAlarm_units (e : Ev) : (s.markAlarm e).units = s.units := rfl
@[simp] theorem State.markAlarm_facets (e : Ev) : (s.markAlarm e).facets = s.facets := rfl
@[simp] theorem State.markAlarm_progs (e : Ev) : (s.markAlarm e).progs = s.progs := rfl
@[simp] theorem State.markAlarm_lenses (e : Ev) : (s.markAlarm e).lenses = s.lenses := rfl
@[simp] theorem State.markAlarm_fencedFlash (e : Ev) : (s.markAlarm e).fencedFlash = s.fencedFlash := rfl
@[simp] theorem State.markAlarm_lanes (e : Ev) : (s.markAlarm e).lanes = s.lanes := rfl
@[simp] theorem State.markAlarm_logic (e : Ev) : (s.markAlarm e).logic = s.logic := rfl
@[simp] theorem State.markAlarm_slots64 (e : Ev) : (s.markAlarm e).slots64 = s.slots64 := rfl
@[simp] theorem State.markAlarm_stns (e : Ev) : (s.markAlarm e).stns = s.stns := rfl
@[simp] theorem State.markAlarm_conds (e : Ev) : (s.markAlarm e).conds = s.conds := rfl
@[simp] theorem State.markAlarm_svs (e : Ev) : (s.markAlarm e).svs = s.svs := rfl
@[simp] theorem State.markAlarm_chains (e : Ev) : (s.markAlarm e).chains = s.chains := rfl
@[simp] theorem State.markAlarm_chSlots (e : Ev) : (s.markAlarm e).chSlots = s.chSlots := rfl
@[simp] theorem State.markAlarm_fns (e : Ev) : (s.markAlarm e).fns = s.fns := rfl
@[simp] theorem State.markAlarm_pcOvr (e : Ev) : (s.markAlarm e).pcOvr = s.pcOvr := rfl
@[simp] theorem State.markAlarm_pcDeadline (e : Ev) : (s.markAlarm e).pcDeadline = s.pcDeadline := rfl
@[simp] theorem State.markAlarm_prots (e : Ev) : (s.markAlarm e).prots = s.prots := rfl
@[simp] theorem State.markAlarm_tos (e : Ev) : (s.markAlarm e).tos = s.tos := rfl
@[simp] theorem State.markAlarm_gps (e : Ev) : (s.markAlarm e).gps = s.gps := rfl
@[simp] theorem State.markAlarm_gss (e : Ev) : (s.markAlarm e).gss = s.gss := rfl
@[simp] theorem State.markAlarm_svPubs (e : Ev) : (s.markAlarm e).svPubs = s.svPubs := rfl
@[simp] theorem State.markAlarm_cnv (e : Ev) : (s.markAlarm e).cnv = s.cnv := rfl
@[simp] theorem State.markAlarm_arms (e : Ev) : (s.markAlarm e).arms = s.arms := rfl
@[simp] theorem State.markAlarm_sms (e : Ev) : (s.markAlarm e).sms = s.sms := rfl
@[simp] theorem State.markAlarm_engines (e : Ev) : (s.markAlarm e).engines = s.engines := rfl
@[simp] theorem State.markAlarm_beams (e : Ev) : (s.markAlarm e).beams = s.beams := rfl
@[simp] theorem State.markAlarm_pwms (e : Ev) : (s.markAlarm e).pwms = s.pwms := rfl
@[simp] theorem State.markAlarm_tis (e : Ev) : (s.markAlarm e).tis = s.tis := rfl
@[simp] theorem State.markAlarm_swc (e : Ev) : (s.markAlarm e).swc = s.swc := rfl
@[simp] theorem State.markAlarm_col (e : Ev) : (s.markAlarm e).col = s.col := rfl
@[simp] theorem State.markAlarm_fbcs (e : Ev) : (s.markAlarm e).fbcs = s.fbcs := rfl
@[simp] theorem State.markAlarm_hif (e : Ev) : (s.markAlarm e).hif = s.hif := rfl
@[simp] theorem State.markAlarm_mlk (e : Ev) : (s.markAlarm e).mlk = s.mlk := rfl
@[simp] theorem State.markAlarm_obs (e : Ev) : (s.markAlarm e).obs = s.obs := rfl
@[simp] theorem State.markAlarm_bst (e : Ev) : (s.markAlarm e).bst = s.bst := rfl
@[simp] theorem State.markAlarm_hw (e : Ev) : (s.markAlarm e).hw = s.hw := rfl
@[simp] theorem State.markAlarm_outputs (e : Ev) : (s.markAlarm e).outputs = s.outputs := rfl
@[simp] theorem State.markAlarm_lastRead (e : Ev) : (s.markAlarm e).lastRead = s.lastRead := rfl
@[simp] theorem State.markAlarm_pending (e : Ev) : (s.markAlarm e).pending = s.pending := rfl

/-! ### alarm -/
@[simp] theorem State.alarm_now (e : Ev) (d : Nat) : (s.alarm e d).now = s.now := by unfold State.alarm; split <;> rfl
@[simp] theorem State.alarm_freeIdx (e : Ev) (d : Nat) : (s.alarm e d).freeIdx = s.freeIdx := by unfold State.alarm; split <;> rfl
@[simp] theorem State.alarm_glb (e : Ev) (d : Nat) : (s.alarm e d).glb = s.glb := by unfold State.alarm; split <;> rfl
@[simp] theorem State.alarm_ka (e : Ev) (d : Nat) : (s.alarm e d).ka = s.ka := by unfold State.alarm; split <;> rfl
@[simp] theorem State.alarm_svc (e : Ev) (d : Nat) : (s.alarm e d).svc = s.svc := by unfold State.alarm; split <;> rfl
@[simp] theorem State.alarm_units (e : Ev) (d : Nat) : (s.alarm e d).units = s.units := by unfold State.alarm; split <;> rfl
@[simp] theorem State.alarm_facets (e : Ev) (d : Nat) : (s.alarm e d).facets = s.facets := by unfold State.alarm; split <;> rfl
@[simp] theorem State.alarm_progs (e : Ev) (d : Nat) : (s.alarm e d).progs = s.progs := by unfold State.alarm; split <;> rfl
@[simp] theorem State.alarm_lenses (e : Ev) (d : Nat) : (s.alarm e d).lenses = s.lenses := by unfold State.alarm; split <;> rfl
@[simp] theorem State.alarm_fencedFlash (e : Ev) (d : Nat) : (s.alarm e d).fencedFlash = s.fencedFlash := by unfold State.alarm; split <;> rfl
@[simp] theorem State.alarm_lanes (e : Ev) (d : Nat) : (s.alarm e d).lanes = s.lanes := by unfold State.alarm; split <;> rfl
@[simp] theorem State.alarm_logic (e : Ev) (d : Nat) : (s.alarm e d).logic = s.logic := by unfold State.alarm; split <;> rfl
@[simp] theorem State.alarm_slots64 (e : Ev) (d : Nat) : (s.alarm e d).slots64 = s.slots64 := by unfold State.alarm; split <;> rfl
@[simp] theorem State.alarm_stns (e : Ev) (d : Nat) : (s.alarm e d).stns = s.stns := by unfold State.alarm; split <;> rfl
@[simp] theorem State.alarm_conds (e : Ev) (d : Nat) : (s.alarm e d).conds = s.conds := by unfold State.alarm; split <;> rfl
@[simp] theorem State.alarm_svs (e : Ev) (d : Nat) : (s.alarm e d).svs = s.svs := by unfold State.alarm; split <;> rfl
@[simp] theorem State.alarm_chains (e : Ev) (d : Nat) : (s.alarm e d).chains = s.chains := by unfold State.alarm; split <;> rfl
@[simp] theorem State.alarm_chSlots (e : Ev) (d : Nat) : (s.alarm e d).chSlots = s.chSlots := by unfold State.alarm; split <;> rfl
@[simp] theorem State.alarm_fns (e : Ev) (d : Nat) : (s.alarm e d).fns = s.fns := by unfold State.alarm; split <;> rfl
@[simp] theorem State.alarm_pcOvr (e : Ev) (d : Nat) : (s.alarm e d).pcOvr = s.pcOvr := by unfold State.alarm; split <;> rfl
@[simp] theorem State.alarm_pcDeadline (e : Ev) (d : Nat) : (s.alarm e d).pcDeadline = s.pcDeadline := by unfold State.alarm; split <;> rfl
@[simp] theorem State.alarm_prots (e : Ev) (d : Nat) : (s.alarm e d).prots = s.prots := by unfold State.alarm; split <;> rfl
@[simp] theorem State.alarm_tos (e : Ev) (d : Nat) : (s.alarm e d).tos = s.tos := by unfold State.alarm; split <;> rfl
@[simp] theorem State.alarm_gps (e : Ev) (d : Nat) : (s.alarm e d).gps = s.gps := by unfold State.alarm; split <;> rfl
@[simp] theorem State.alarm_gss (e : Ev) (d : Nat) : (s.alarm e d).gss = s.gss := by unfold State.alarm; split <;> rfl
@[simp] theorem State.alarm_svPubs (e : Ev) (d : Nat) : (s.alarm e d).svPubs = s.svPubs := by unfold State.alarm; split <;> rfl
@[simp] theorem State.alarm_cnv (e : Ev) (d : Nat) : (s.alarm e d).cnv = s.cnv := by unfold State.alarm; split <;> rfl
@[simp] theorem State.alarm_arms (e : Ev) (d : Nat) : (s.alarm e d).arms = s.arms := by unfold State.alarm; split <;> rfl
@[simp] theorem State.alarm_sms (e : Ev) (d : Nat) : (s.alarm e d).sms = s.sms := by unfold State.alarm; split <;> rfl
@[simp] theorem State.alarm_engines (e : Ev) (d : Nat) : (s.alarm e d).engines = s.engines := by unfold State.alarm; split <;> rfl
@[simp] theorem State.alarm_beams (e : Ev) (d : Nat) : (s.alarm e d).beams = s.beams := by unfold State.alarm; split <;> rfl
@[simp] theorem State.alarm_pwms (e : Ev) (d : Nat) : (s.alarm e d).pwms = s.pwms := by unfold State.alarm; split <;> rfl
@[simp] theorem State.alarm_tis (e : Ev) (d : Nat) : (s.alarm e d).tis = s.tis := by unfold State.alarm; split <;> rfl
@[simp] theorem State.alarm_swc (e : Ev) (d : Nat) : (s.alarm e d).swc = s.swc := by unfold State.alarm; split <;> rfl
@[simp] theorem State.alarm_col (e : Ev) (d : Nat) : (s.alarm e d).col = s.col := by unfold State.alarm; split <;> rfl
@[simp] theorem State.alarm_fbcs (e : Ev) (d : Nat) : (s.alarm e d).fbcs = s.fbcs := by unfold State.alarm; split <;> rfl
@[simp] theorem State.alarm_hif (e : Ev) (d : Nat) : (s.alarm e d).hif = s.hif := by unfold State.alarm; split <;> rfl
@[simp] theorem State.alarm_mlk (e : Ev) (d : Nat) : (s.alarm e d).mlk = s.mlk := by unfold State.alarm; split <;> rfl
@[simp] theorem State.alarm_obs (e : Ev) (d : Nat) : (s.alarm e d).obs = s.obs := by unfold State.alarm; split <;> rfl
@[simp] theorem State.alarm_bst (e : Ev) (d : Nat) : (s.alarm e d).bst = s.bst := by unfold State.alarm; split <;> rfl
@[simp] theorem State.alarm_hw (e : Ev) (d : Nat) : (s.alarm e d).hw = s.hw := by unfold State.alarm; split <;> rfl
@[simp] theorem State.alarm_outputs (e : Ev) (d : Nat) : (s.alarm e d).outputs = s.outputs := by unfold State.alarm; split <;> rfl
@[simp] theorem State.alarm_lastRead (e : Ev) (d : Nat) : (s.alarm e d).lastRead = s.lastRead := by unfold State.alarm; split <;> rfl
@[simp] theorem State.alarm_pending (e : Ev) (d : Nat) : (s.alarm e d).pending = s.pending := by unfold State.alarm; split <;> rfl

/-! ### clearAlarm -/
@[simp] theorem State.clearAlarm_now (e : Ev) (d : Nat) : (s.clearAlarm e d).now = s.now := by unfold State.clearAlarm; split <;> rfl
@[simp] theorem State.clearAlarm_freeIdx (e : Ev) (d : Nat) : (s.clearAlarm e d).freeIdx = s.freeIdx := by unfold State.clearAlarm; split <;> rfl
@[simp] theorem State.clearAlarm_glb (e : Ev) (d : Nat) : (s.clearAlarm e d).glb = s.glb := by unfold State.clearAlarm; split <;> rfl
@[simp] theorem State.clearAlarm_ka (e : Ev) (d : Nat) : (s.clearAlarm e d).ka = s.ka := by unfold State.clearAlarm; split <;> rfl
@[simp] theorem State.clearAlarm_svc (e : Ev) (d : Nat) : (s.clearAlarm e d).svc = s.svc := by unfold State.clearAlarm; split <;> rfl
@[simp] theorem State.clearAlarm_units (e : Ev) (d : Nat) : (s.clearAlarm e d).units = s.units := by unfold State.clearAlarm; split <;> rfl
@[simp] theorem State.clearAlarm_facets (e : Ev) (d : Nat) : (s.clearAlarm e d).facets = s.facets := by unfold State.clearAlarm; split <;> rfl
@[simp] theorem State.clearAlarm_progs (e : Ev) (d : Nat) : (s.clearAlarm e d).progs = s.progs := by unfold State.clearAlarm; split <;> rfl
@[simp] theorem State.clearAlarm_lenses (e : Ev) (d : Nat) : (s.clearAlarm e d).lenses = s.lenses := by unfold State.clearAlarm; split <;> rfl
@[simp] theorem State.clearAlarm_fencedFlash (e : Ev) (d : Nat) : (s.clearAlarm e d).fencedFlash = s.fencedFlash := by unfold State.clearAlarm; split <;> rfl
@[simp] theorem State.clearAlarm_lanes (e : Ev) (d : Nat) : (s.clearAlarm e d).lanes = s.lanes := by unfold State.clearAlarm; split <;> rfl
@[simp] theorem State.clearAlarm_logic (e : Ev) (d : Nat) : (s.clearAlarm e d).logic = s.logic := by unfold State.clearAlarm; split <;> rfl
@[simp] theorem State.clearAlarm_slots64 (e : Ev) (d : Nat) : (s.clearAlarm e d).slots64 = s.slots64 := by unfold State.clearAlarm; split <;> rfl
@[simp] theorem State.clearAlarm_stns (e : Ev) (d : Nat) : (s.clearAlarm e d).stns = s.stns := by unfold State.clearAlarm; split <;> rfl
@[simp] theorem State.clearAlarm_conds (e : Ev) (d : Nat) : (s.clearAlarm e d).conds = s.conds := by unfold State.clearAlarm; split <;> rfl
@[simp] theorem State.clearAlarm_svs (e : Ev) (d : Nat) : (s.clearAlarm e d).svs = s.svs := by unfold State.clearAlarm; split <;> rfl
@[simp] theorem State.clearAlarm_chains (e : Ev) (d : Nat) : (s.clearAlarm e d).chains = s.chains := by unfold State.clearAlarm; split <;> rfl
@[simp] theorem State.clearAlarm_chSlots (e : Ev) (d : Nat) : (s.clearAlarm e d).chSlots = s.chSlots := by unfold State.clearAlarm; split <;> rfl
@[simp] theorem State.clearAlarm_fns (e : Ev) (d : Nat) : (s.clearAlarm e d).fns = s.fns := by unfold State.clearAlarm; split <;> rfl
@[simp] theorem State.clearAlarm_pcOvr (e : Ev) (d : Nat) : (s.clearAlarm e d).pcOvr = s.pcOvr := by unfold State.clearAlarm; split <;> rfl
@[simp] theorem State.clearAlarm_pcDeadline (e : Ev) (d : Nat) : (s.clearAlarm e d).pcDeadline = s.pcDeadline := by unfold State.clearAlarm; split <;> rfl
@[simp] theorem State.clearAlarm_prots (e : Ev) (d : Nat) : (s.clearAlarm e d).prots = s.prots := by unfold State.clearAlarm; split <;> rfl
@[simp] theorem State.clearAlarm_tos (e : Ev) (d : Nat) : (s.clearAlarm e d).tos = s.tos := by unfold State.clearAlarm; split <;> rfl
@[simp] theorem State.clearAlarm_gps (e : Ev) (d : Nat) : (s.clearAlarm e d).gps = s.gps := by unfold State.clearAlarm; split <;> rfl
@[simp] theorem State.clearAlarm_gss (e : Ev) (d : Nat) : (s.clearAlarm e d).gss = s.gss := by unfold State.clearAlarm; split <;> rfl
@[simp] theorem State.clearAlarm_svPubs (e : Ev) (d : Nat) : (s.clearAlarm e d).svPubs = s.svPubs := by unfold State.clearAlarm; split <;> rfl
@[simp] theorem State.clearAlarm_cnv (e : Ev) (d : Nat) : (s.clearAlarm e d).cnv = s.cnv := by unfold State.clearAlarm; split <;> rfl
@[simp] theorem State.clearAlarm_arms (e : Ev) (d : Nat) : (s.clearAlarm e d).arms = s.arms := by unfold State.clearAlarm; split <;> rfl
@[simp] theorem State.clearAlarm_sms (e : Ev) (d : Nat) : (s.clearAlarm e d).sms = s.sms := by unfold State.clearAlarm; split <;> rfl
@[simp] theorem State.clearAlarm_engines (e : Ev) (d : Nat) : (s.clearAlarm e d).engines = s.engines := by unfold State.clearAlarm; split <;> rfl
@[simp] theorem State.clearAlarm_beams (e : Ev) (d : Nat) : (s.clearAlarm e d).beams = s.beams := by unfold State.clearAlarm; split <;> rfl
@[simp] theorem State.clearAlarm_pwms (e : Ev) (d : Nat) : (s.clearAlarm e d).pwms = s.pwms := by unfold State.clearAlarm; split <;> rfl
@[simp] theorem State.clearAlarm_tis (e : Ev) (d : Nat) : (s.clearAlarm e d).tis = s.tis := by unfold State.clearAlarm; split <;> rfl
@[simp] theorem State.clearAlarm_swc (e : Ev) (d : Nat) : (s.clearAlarm e d).swc = s.swc := by unfold State.clearAlarm; split <;> rfl
@[simp] theorem State.clearAlarm_col (e : Ev) (d : Nat) : (s.clearAlarm e d).col = s.col := by unfold State.clearAlarm; split <;> rfl
@[simp] theorem State.clearAlarm_fbcs (e : Ev) (d : Nat) : (s.clearAlarm e d).fbcs = s.fbcs := by unfold State.clearAlarm; split <;> rfl
@[simp] theorem State.clearAlarm_hif (e : Ev) (d : Nat) : (s.clearAlarm e d).hif = s.hif := by unfold State.clearAlarm; split <;> rfl
@[simp] theorem State.clearAlarm_mlk (e : Ev) (d : Nat) : (s.clearAlarm e d).mlk = s.mlk := by unfold State.clearAlarm; split <;> rfl
@[simp] theorem State.clearAlarm_obs (e : Ev) (d : Nat) : (s.clearAlarm e d).obs = s.obs := by unfold State.clearAlarm; split <;> rfl
@[simp] theorem State.clearAlarm_bst (e : Ev) (d : Nat) : (s.clearAlarm e d).bst = s.bst := by unfold State.clearAlarm; split <;> rfl
@[simp] theorem State.clearAlarm_hw (e : Ev) (d : Nat) : (s.clearAlarm e d).hw = s.hw := by unfold State.clearAlarm; split <;> rfl
@[simp] theorem State.clearAlarm_outputs (e : Ev) (d : Nat) : (s.clearAlarm e d).outputs = s.outputs := by unfold State.clearAlarm; split <;> rfl
@[simp] theorem State.clearAlarm_lastRead (e : Ev) (d : Nat) : (s.clearAlarm e d).lastRead = s.lastRead := by unfold State.clearAlarm; split <;> rfl
@[simp] theorem State.clearAlarm_pending (e : Ev) (d : Nat) : (s.clearAlarm e d).pending = s.pending := by unfold State.clearAlarm; split <;> rfl

/-! ### after -/
@[simp] theorem State.after_freeIdx (d : Nat) : (s.after d).freeIdx = s.freeIdx := by unfold State.after; split <;> rfl
@[simp] theorem State.after_glb (d : Nat) : (s.after d).glb = s.glb := by unfold State.after; split <;> rfl
@[simp] theorem State.after_ka (d : Nat) : (s.after d).ka = s.ka := by unfold State.after; split <;> rfl
@[simp] theorem State.after_svc (d : Nat) : (s.after d).svc = s.svc := by unfold State.after; split <;> rfl
@[simp] theorem State.after_units (d : Nat) : (s.after d).units = s.units := by unfold State.after; split <;> rfl
@[simp] theorem State.after_facets (d : Nat) : (s.after d).facets = s.facets := by unfold State.after; split <;> rfl
@[simp] theorem State.after_progs (d : Nat) : (s.after d).progs = s.progs := by unfold State.after; split <;> rfl
@[simp] theorem State.after_lenses (d : Nat) : (s.after d).lenses = s.lenses := by unfold State.after; split <;> rfl
@[simp] theorem State.after_fencedFlash (d : Nat) : (s.after d).fencedFlash = s.fencedFlash := by unfold State.after; split <;> rfl
@[simp] theorem State.after_lanes (d : Nat) : (s.after d).lanes = s.lanes := by unfold State.after; split <;> rfl
@[simp] theorem State.after_logic (d : Nat) : (s.after d).logic = s.logic := by unfold State.after; split <;> rfl
@[simp] theorem State.after_slots64 (d : Nat) : (s.after d).slots64 = s.slots64 := by unfold State.after; split <;> rfl
@[simp] theorem State.after_stns (d : Nat) : (s.after d).stns = s.stns := by unfold State.after; split <;> rfl
@[simp] theorem State.after_conds (d : Nat) : (s.after d).conds = s.conds := by unfold State.after; split <;> rfl
@[simp] theorem State.after_svs (d : Nat) : (s.after d).svs = s.svs := by unfold State.after; split <;> rfl
@[simp] theorem State.after_chains (d : Nat) : (s.after d).chains = s.chains := by unfold State.after; split <;> rfl
@[simp] theorem State.after_chSlots (d : Nat) : (s.after d).chSlots = s.chSlots := by unfold State.after; split <;> rfl
@[simp] theorem State.after_fns (d : Nat) : (s.after d).fns = s.fns := by unfold State.after; split <;> rfl
@[simp] theorem State.after_pcOvr (d : Nat) : (s.after d).pcOvr = s.pcOvr := by unfold State.after; split <;> rfl
@[simp] theorem State.after_pcDeadline (d : Nat) : (s.after d).pcDeadline = s.pcDeadline := by unfold State.after; split <;> rfl
@[simp] theorem State.after_prots (d : Nat) : (s.after d).prots = s.prots := by unfold State.after; split <;> rfl
@[simp] theorem State.after_tos (d : Nat) : (s.after d).tos = s.tos := by unfold State.after; split <;> rfl
@[simp] theorem State.after_gps (d : Nat) : (s.after d).gps = s.gps := by unfold State.after; split <;> rfl
@[simp] theorem State.after_gss (d : Nat) : (s.after d).gss = s.gss := by unfold State.after; split <;> rfl
@[simp] theorem State.after_svPubs (d : Nat) : (s.after d).svPubs = s.svPubs := by unfold State.after; split <;> rfl
@[simp] theorem State.after_cnv (d : Nat) : (s.after d).cnv = s.cnv := by unfold State.after; split <;> rfl
@[simp] theorem State.after_arms (d : Nat) : (s.after d).arms = s.arms := by unfold State.after; split <;> rfl
@[simp] theorem State.after_sms (d : Nat) : (s.after d).sms = s.sms := by unfold State.after; split <;> rfl
@[simp] theorem State.after_engines (d : Nat) : (s.after d).engines = s.engines := by unfold State.after; split <;> rfl
@[simp] theorem State.after_beams (d : Nat) : (s.after d).beams = s.beams := by unfold State.after; split <;> rfl
@[simp] theorem State.after_pwms (d : Nat) : (s.after d).pwms = s.pwms := by unfold State.after; split <;> rfl
@[simp] theorem State.after_tis (d : Nat) : (s.after d).tis = s.tis := by unfold State.after; split <;> rfl
@[simp] theorem State.after_swc (d : Nat) : (s.after d).swc = s.swc := by unfold State.after; split <;> rfl
@[simp] theorem State.after_fbcs (d : Nat) : (s.after d).fbcs = s.fbcs := by unfold State.after; split <;> rfl
@[simp] theorem State.after_hif (d : Nat) : (s.after d).hif = s.hif := by unfold State.after; split <;> rfl
@[simp] theorem State.after_mlk (d : Nat) : (s.after d).mlk = s.mlk := by unfold State.after; split <;> rfl
@[simp] theorem State.after_recs (d : Nat) : (s.after d).recs = s.recs := by unfold State.after; split <;> rfl
@[simp] theorem State.after_obs (d : Nat) : (s.after d).obs = s.obs := by unfold State.after; split <;> rfl
@[simp] theorem State.after_bst (d : Nat) : (s.after d).bst = s.bst := by unfold State.after; split <;> rfl
@[simp] theorem State.after_hw (d : Nat) : (s.after d).hw = s.hw := by unfold State.after; split <;> rfl
@[simp] theorem State.after_outputs (d : Nat) : (s.after d).outputs = s.outputs := by unfold State.after; split <;> rfl
@[simp] theorem State.after_lastRead (d : Nat) : (s.after d).lastRead = s.lastRead := by unfold State.after; split <;> rfl
@[simp] theorem State.after_pending (d : Nat) : (s.after d).pending = s.pending := by unfold State.after; split <;> rfl

/-! ### upTo -/
@[simp] theorem State.upTo_freeIdx (t : Nat) : (s.upTo t).freeIdx = s.freeIdx := by unfold State.upTo State.after; split <;> rfl
@[simp] theorem State.upTo_glb (t : Nat) : (s.upTo t).glb = s.glb := by unfold State.upTo State.after; split <;> rfl
@[simp] theorem State.upTo_ka (t : Nat) : (s.upTo t).ka = s.ka := by unfold State.upTo State.after; split <;> rfl
@[simp] theorem State.upTo_svc (t : Nat) : (s.upTo t).svc = s.svc := by unfold State.upTo State.after; split <;> rfl
@[simp] theorem State.upTo_units (t : Nat) : (s.upTo t).units = s.units := by unfold State.upTo State.after; split <;> rfl
@[simp] theorem State.upTo_facets (t : Nat) : (s.upTo t).facets = s.facets := by unfold State.upTo State.after; split <;> rfl
@[simp] theorem State.upTo_progs (t : Nat) : (s.upTo t).progs = s.progs := by unfold State.upTo State.after; split <;> rfl
@[simp] theorem State.upTo_lenses (t : Nat) : (s.upTo t).lenses = s.lenses := by unfold State.upTo State.after; split <;> rfl
@[simp] theorem State.upTo_fencedFlash (t : Nat) : (s.upTo t).fencedFlash = s.fencedFlash := by unfold State.upTo State.after; split <;> rfl
@[simp] theorem State.upTo_lanes (t : Nat) : (s.upTo t).lanes = s.lanes := by unfold State.upTo State.after; split <;> rfl
@[simp] theorem State.upTo_logic (t : Nat) : (s.upTo t).logic = s.logic := by unfold State.upTo State.after; split <;> rfl
@[simp] theorem State.upTo_slots64 (t : Nat) : (s.upTo t).slots64 = s.slots64 := by unfold State.upTo State.after; split <;> rfl
@[simp] theorem State.upTo_stns (t : Nat) : (s.upTo t).stns = s.stns := by unfold State.upTo State.after; split <;> rfl
@[simp] theorem State.upTo_conds (t : Nat) : (s.upTo t).conds = s.conds := by unfold State.upTo State.after; split <;> rfl
@[simp] theorem State.upTo_svs (t : Nat) : (s.upTo t).svs = s.svs := by unfold State.upTo State.after; split <;> rfl
@[simp] theorem State.upTo_chains (t : Nat) : (s.upTo t).chains = s.chains := by unfold State.upTo State.after; split <;> rfl
@[simp] theorem State.upTo_chSlots (t : Nat) : (s.upTo t).chSlots = s.chSlots := by unfold State.upTo State.after; split <;> rfl
@[simp] theorem State.upTo_fns (t : Nat) : (s.upTo t).fns = s.fns := by unfold State.upTo State.after; split <;> rfl
@[simp] theorem State.upTo_pcOvr (t : Nat) : (s.upTo t).pcOvr = s.pcOvr := by unfold State.upTo State.after; split <;> rfl
@[simp] theorem State.upTo_pcDeadline (t : Nat) : (s.upTo t).pcDeadline = s.pcDeadline := by unfold State.upTo State.after; split <;> rfl
@[simp] theorem State.upTo_prots (t : Nat) : (s.upTo t).prots = s.prots := by unfold State.upTo State.after; split <;> rfl
@[simp] theorem State.upTo_tos (t : Nat) : (s.upTo t).tos = s.tos := by unfold State.upTo State.after; split <;> rfl
@[simp] theorem State.upTo_gps (t : Nat) : (s.upTo t).gps = s.gps := by unfold State.upTo State.after; split <;> rfl
@[simp] theorem State.upTo_gss (t : Nat) : (s.upTo t).gss = s.gss := by unfold State.upTo State.after; split <;> rfl
@[simp] theorem State.upTo_svPubs (t : Nat) : (s.upTo t).svPubs = s.svPubs := by unfold State.upTo State.after; split <;> rfl
@[simp] theorem State.upTo_cnv (t : Nat) : (s.upTo t).cnv = s.cnv := by unfold State.upTo State.after; split <;> rfl
@[simp] theorem State.upTo_arms (t : Nat) : (s.upTo t).arms = s.arms := by unfold State.upTo State.after; split <;> rfl
@[simp] theorem State.upTo_sms (t : Nat) : (s.upTo t).sms = s.sms := by unfold State.upTo State.after; split <;> rfl
@[simp] theorem State.upTo_engines (t : Nat) : (s.upTo t).engines = s.engines := by unfold State.upTo State.after; split <;> rfl
@[simp] theorem State.upTo_beams (t : Nat) : (s.upTo t).beams = s.beams := by unfold State.upTo State.after; split <;> rfl
@[simp] theorem State.upTo_pwms (t : Nat) : (s.upTo t).pwms = s.pwms := by unfold State.upTo State.after; split <;> rfl
@[simp] theorem State.upTo_tis (t : Nat) : (s.upTo t).tis = s.tis := by unfold State.upTo State.after; split <;> rfl
@[simp] theorem State.upTo_swc (t : Nat) : (s.upTo t).swc = s.swc := by unfold State.upTo State.after; split <;> rfl
@[simp] theorem State.upTo_fbcs (t : Nat) : (s.upTo t).fbcs = s.fbcs := by unfold State.upTo State.after; split <;> rfl
@[simp] theorem State.upTo_hif (t : Nat) : (s.upTo t).hif = s.hif := by unfold State.upTo State.after; split <;> rfl
@[simp] theorem State.upTo_mlk (t : Nat) : (s.upTo t).mlk = s.mlk := by unfold State.upTo State.after; split <;> rfl
@[simp] theorem State.upTo_recs (t : Nat) : (s.upTo t).recs = s.recs := by unfold State.upTo State.after; split <;> rfl
@[simp] theorem State.upTo_obs (t : Nat) : (s.upTo t).obs = s.obs := by unfold State.upTo State.after; split <;> rfl
@[simp] theorem State.upTo_bst (t : Nat) : (s.upTo t).bst = s.bst := by unfold State.upTo State.after; split <;> rfl
@[simp] theorem State.upTo_hw (t : Nat) : (s.upTo t).hw = s.hw := by unfold State.upTo State.after; split <;> rfl
@[simp] theorem State.upTo_outputs (t : Nat) : (s.upTo t).outputs = s.outputs := by unfold State.upTo State.after; split <;> rfl
@[simp] theorem State.upTo_lastRead (t : Nat) : (s.upTo t).lastRead = s.lastRead := by unfold State.upTo State.after; split <;> rfl
@[simp] theorem State.upTo_pending (t : Nat) : (s.upTo t).pending = s.pending := by unfold State.upTo State.after; split <;> rfl

/-! ### upToTai -/
@[simp] theorem State.upToTai_freeIdx (t : Nat) : (s.upToTai t).freeIdx = s.freeIdx := by unfold State.upToTai; split <;> rfl
@[simp] theorem State.upToTai_glb (t : Nat) : (s.upToTai t).glb = s.glb := by unfold State.upToTai; split <;> rfl
@[simp] theorem State.upToTai_ka (t : Nat) : (s.upToTai t).ka = s.ka := by unfold State.upToTai; split <;> rfl
@[simp] theorem State.upToTai_svc (t : Nat) : (s.upToTai t).svc = s.svc := by unfold State.upToTai; split <;> rfl
@[simp] theorem State.upToTai_units (t : Nat) : (s.upToTai t).units = s.units := by unfold State.upToTai; split <;> rfl
@[simp] theorem State.upToTai_facets (t : Nat) : (s.upToTai t).facets = s.facets := by unfold State.upToTai; split <;> rfl
@[simp] theorem State.upToTai_progs (t : Nat) : (s.upToTai t).progs = s.progs := by unfold State.upToTai; split <;> rfl
@[simp] theorem State.upToTai_lenses (t : Nat) : (s.upToTai t).lenses = s.lenses := by unfold State.upToTai; split <;> rfl
@[simp] theorem State.upToTai_fencedFlash (t : Nat) : (s.upToTai t).fencedFlash = s.fencedFlash := by unfold State.upToTai; split <;> rfl
@[simp] theorem State.upToTai_lanes (t : Nat) : (s.upToTai t).lanes = s.lanes := by unfold State.upToTai; split <;> rfl
@[simp] theorem State.upToTai_logic (t : Nat) : (s.upToTai t).logic = s.logic := by unfold State.upToTai; split <;> rfl
@[simp] theorem State.upToTai_slots64 (t : Nat) : (s.upToTai t).slots64 = s.slots64 := by unfold State.upToTai; split <;> rfl
@[simp] theorem State.upToTai_stns (t : Nat) : (s.upToTai t).stns = s.stns := by unfold State.upToTai; split <;> rfl
@[simp] theorem State.upToTai_conds (t : Nat) : (s.upToTai t).conds = s.conds := by unfold State.upToTai; split <;> rfl
@[simp] theorem State.upToTai_svs (t : Nat) : (s.upToTai t).svs = s.svs := by unfold State.upToTai; split <;> rfl
@[simp] theorem State.upToTai_chains (t : Nat) : (s.upToTai t).chains = s.chains := by unfold State.upToTai; split <;> rfl
@[simp] theorem State.upToTai_chSlots (t : Nat) : (s.upToTai t).chSlots = s.chSlots := by unfold State.upToTai; split <;> rfl
@[simp] theorem State.upToTai_fns (t : Nat) : (s.upToTai t).fns = s.fns := by unfold State.upToTai; split <;> rfl
@[simp] theorem State.upToTai_pcOvr (t : Nat) : (s.upToTai t).pcOvr = s.pcOvr := by unfold State.upToTai; split <;> rfl
@[simp] theorem State.upToTai_pcDeadline (t : Nat) : (s.upToTai t).pcDeadline = s.pcDeadline := by unfold State.upToTai; split <;> rfl
@[simp] theorem State.upToTai_prots (t : Nat) : (s.upToTai t).prots = s.prots := by unfold State.upToTai; split <;> rfl
@[simp] theorem State.upToTai_tos (t : Nat) : (s.upToTai t).tos = s.tos := by unfold State.upToTai; split <;> rfl
@[simp] theorem State.upToTai_gps (t : Nat) : (s.upToTai t).gps = s.gps := by unfold State.upToTai; split <;> rfl
@[simp] theorem State.upToTai_gss (t : Nat) : (s.upToTai t).gss = s.gss := by unfold State.upToTai; split <;> rfl
@[simp] theorem State.upToTai_svPubs (t : Nat) : (s.upToTai t).svPubs = s.svPubs := by unfold State.upToTai; split <;> rfl
@[simp] theorem State.upToTai_cnv (t : Nat) : (s.upToTai t).cnv = s.cnv := by unfold State.upToTai; split <;> rfl
@[simp] theorem State.upToTai_arms (t : Nat) : (s.upToTai t).arms = s.arms := by unfold State.upToTai; split <;> rfl
@[simp] theorem State.upToTai_sms (t : Nat) : (s.upToTai t).sms = s.sms := by unfold State.upToTai; split <;> rfl
@[simp] theorem State.upToTai_engines (t : Nat) : (s.upToTai t).engines = s.engines := by unfold State.upToTai; split <;> rfl
@[simp] theorem State.upToTai_beams (t : Nat) : (s.upToTai t).beams = s.beams := by unfold State.upToTai; split <;> rfl
@[simp] theorem State.upToTai_pwms (t : Nat) : (s.upToTai t).pwms = s.pwms := by unfold State.upToTai; split <;> rfl
@[simp] theorem State.upToTai_tis (t : Nat) : (s.upToTai t).tis = s.tis := by unfold State.upToTai; split <;> rfl
@[simp] theorem State.upToTai_swc (t : Nat) : (s.upToTai t).swc = s.swc := by unfold State.upToTai; split <;> rfl
@[simp] theorem State.upToTai_fbcs (t : Nat) : (s.upToTai t).fbcs = s.fbcs := by unfold State.upToTai; split <;> rfl
@[simp] theorem State.upToTai_hif (t : Nat) : (s.upToTai t).hif = s.hif := by unfold State.upToTai; split <;> rfl
@[simp] theorem State.upToTai_mlk (t : Nat) : (s.upToTai t).mlk = s.mlk := by unfold State.upToTai; split <;> rfl
@[simp] theorem State.upToTai_recs (t : Nat) : (s.upToTai t).recs = s.recs := by unfold State.upToTai; split <;> rfl
@[simp] theorem State.upToTai_obs (t : Nat) : (s.upToTai t).obs = s.obs := by unfold State.upToTai; split <;> rfl
@[simp] theorem State.upToTai_bst (t : Nat) : (s.upToTai t).bst = s.bst := by unfold State.upToTai; split <;> rfl
@[simp] theorem State.upToTai_hw (t : Nat) : (s.upToTai t).hw = s.hw := by unfold State.upToTai; split <;> rfl
@[simp] theorem State.upToTai_outputs (t : Nat) : (s.upToTai t).outputs = s.outputs := by unfold State.upToTai; split <;> rfl
@[simp] theorem State.upToTai_lastRead (t : Nat) : (s.upToTai t).lastRead = s.lastRead := by unfold State.upToTai; split <;> rfl
@[simp] theorem State.upToTai_pending (t : Nat) : (s.upToTai t).pending = s.pending := by unfold State.upToTai; split <;> rfl

/-! ### mirror -/
@[simp] theorem State.mirror_now (x : Item) : (s.mirror x).now = s.now := by unfold State.mirror; split <;> rfl
@[simp] theorem State.mirror_freeIdx (x : Item) : (s.mirror x).freeIdx = s.freeIdx := by unfold State.mirror; split <;> rfl
@[simp] theorem State.mirror_glb (x : Item) : (s.mirror x).glb = s.glb := by unfold State.mirror; split <;> rfl
@[simp] theorem State.mirror_ka (x : Item) : (s.mirror x).ka = s.ka := by unfold State.mirror; split <;> rfl
@[simp] theorem State.mirror_svc (x : Item) : (s.mirror x).svc = s.svc := by unfold State.mirror; split <;> rfl
@[simp] theorem State.mirror_units (x : Item) : (s.mirror x).units = s.units := by unfold State.mirror; split <;> rfl
@[simp] theorem State.mirror_facets (x : Item) : (s.mirror x).facets = s.facets := by unfold State.mirror; split <;> rfl
@[simp] theorem State.mirror_progs (x : Item) : (s.mirror x).progs = s.progs := by unfold State.mirror; split <;> rfl
@[simp] theorem State.mirror_lenses (x : Item) : (s.mirror x).lenses = s.lenses := by unfold State.mirror; split <;> rfl
@[simp] theorem State.mirror_fencedFlash (x : Item) : (s.mirror x).fencedFlash = s.fencedFlash := by unfold State.mirror; split <;> rfl
@[simp] theorem State.mirror_lanes (x : Item) : (s.mirror x).lanes = s.lanes := by unfold State.mirror; split <;> rfl
@[simp] theorem State.mirror_logic (x : Item) : (s.mirror x).logic = s.logic := by unfold State.mirror; split <;> rfl
@[simp] theorem State.mirror_slots64 (x : Item) : (s.mirror x).slots64 = s.slots64 := by unfold State.mirror; split <;> rfl
@[simp] theorem State.mirror_stns (x : Item) : (s.mirror x).stns = s.stns := by unfold State.mirror; split <;> rfl
@[simp] theorem State.mirror_conds (x : Item) : (s.mirror x).conds = s.conds := by unfold State.mirror; split <;> rfl
@[simp] theorem State.mirror_svs (x : Item) : (s.mirror x).svs = s.svs := by unfold State.mirror; split <;> rfl
@[simp] theorem State.mirror_chains (x : Item) : (s.mirror x).chains = s.chains := by unfold State.mirror; split <;> rfl
@[simp] theorem State.mirror_chSlots (x : Item) : (s.mirror x).chSlots = s.chSlots := by unfold State.mirror; split <;> rfl
@[simp] theorem State.mirror_fns (x : Item) : (s.mirror x).fns = s.fns := by unfold State.mirror; split <;> rfl
@[simp] theorem State.mirror_pcOvr (x : Item) : (s.mirror x).pcOvr = s.pcOvr := by unfold State.mirror; split <;> rfl
@[simp] theorem State.mirror_pcDeadline (x : Item) : (s.mirror x).pcDeadline = s.pcDeadline := by unfold State.mirror; split <;> rfl
@[simp] theorem State.mirror_prots (x : Item) : (s.mirror x).prots = s.prots := by unfold State.mirror; split <;> rfl
@[simp] theorem State.mirror_tos (x : Item) : (s.mirror x).tos = s.tos := by unfold State.mirror; split <;> rfl
@[simp] theorem State.mirror_gps (x : Item) : (s.mirror x).gps = s.gps := by unfold State.mirror; split <;> rfl
@[simp] theorem State.mirror_gss (x : Item) : (s.mirror x).gss = s.gss := by unfold State.mirror; split <;> rfl
@[simp] theorem State.mirror_svPubs (x : Item) : (s.mirror x).svPubs = s.svPubs := by unfold State.mirror; split <;> rfl
@[simp] theorem State.mirror_cnv (x : Item) : (s.mirror x).cnv = s.cnv := by unfold State.mirror; split <;> rfl
@[simp] theorem State.mirror_arms (x : Item) : (s.mirror x).arms = s.arms := by unfold State.mirror; split <;> rfl
@[simp] theorem State.mirror_sms (x : Item) : (s.mirror x).sms = s.sms := by unfold State.mirror; split <;> rfl
@[simp] theorem State.mirror_engines (x : Item) : (s.mirror x).engines = s.engines := by unfold State.mirror; split <;> rfl
@[simp] theorem State.mirror_beams (x : Item) : (s.mirror x).beams = s.beams := by unfold State.mirror; split <;> rfl
@[simp] theorem State.mirror_pwms (x : Item) : (s.mirror x).pwms = s.pwms := by unfold State.mirror; split <;> rfl
@[simp] theorem State.mirror_tis (x : Item) : (s.mirror x).tis = s.tis := by unfold State.mirror; split <;> rfl
@[simp] theorem State.mirror_swc (x : Item) : (s.mirror x).swc = s.swc := by unfold State.mirror; split <;> rfl
@[simp] theorem State.mirror_col (x : Item) : (s.mirror x).col = s.col := by unfold State.mirror; split <;> rfl
@[simp] theorem State.mirror_fbcs (x : Item) : (s.mirror x).fbcs = s.fbcs := by unfold State.mirror; split <;> rfl
@[simp] theorem State.mirror_hif (x : Item) : (s.mirror x).hif = s.hif := by unfold State.mirror; split <;> rfl
@[simp] theorem State.mirror_recs (x : Item) : (s.mirror x).recs = s.recs := by unfold State.mirror; split <;> rfl
@[simp] theorem State.mirror_obs (x : Item) : (s.mirror x).obs = s.obs := by unfold State.mirror; split <;> rfl
@[simp] theorem State.mirror_bst (x : Item) : (s.mirror x).bst = s.bst := by unfold State.mirror; split <;> rfl
@[simp] theorem State.mirror_hw (x : Item) : (s.mirror x).hw = s.hw := by unfold State.mirror; split <;> rfl
@[simp] theorem State.mirror_outputs (x : Item) : (s.mirror x).outputs = s.outputs := by unfold State.mirror; split <;> rfl
@[simp] theorem State.mirror_lastRead (x : Item) : (s.mirror x).lastRead = s.lastRead := by unfold State.mirror; split <;> rfl
@[simp] theorem State.mirror_pending (x : Item) : (s.mirror x).pending = s.pending := by unfold State.mirror; split <;> rfl

end Sys2Proof.Machine
end

