-- ==== Sys2Proof/Laws/Turns.lean ====
section
/-! SUPPORT. The deficit round robin of R323. -/

namespace Sys2Proof.Machine

/-- A slice that alone has work is served at once, whatever the size of its item. -/
theorem drr_alone (gain : Nat → Nat) (i n : Nat) (h : 0 < gain i) : ∃ rd, drr gain [(i, n)] {} = some (i, rd) := by
  have h1 : n ≤ ceilDiv n (gain i) * gain i := by
    unfold ceilDiv
    have := Nat.div_add_mod (n + gain i - 1) (gain i)
    have := Nat.mod_lt (n + gain i - 1) h
    rw [Nat.mul_comm]
    omega
  have h2 : Nat.max 1 (gain i) = gain i := Nat.max_eq_right h
  have h3 : n ≤ Nat.max 1 (ceilDiv n (gain i)) * gain i :=
    Nat.le_trans h1 (Nat.mul_le_mul_right _ (Nat.le_max_right _ _))
  simp [drr, findRow, minList, h2, Nat.not_lt.mpr h3]

end Sys2Proof.Machine
end

