-- ==== Sys2Proof/Tests/Slice0.lean ====
section
/-! SUPPORT. Tests of the model: ill-formed terms that WellFormed refuses, words and register values that the spec
writes out, and for every statement with hypotheses a state and operands that meet them (witness_<name>), for each of
its clauses. The states are the state after reset with the fields named. -/

namespace Sys2Proof.Tests

-- One test after another: run side by side, their threads pass the memory limit of the check.
set_option Elab.async false

open Sys2Proof Sys2Proof.Machine

/-! ## WellFormed: one ill-formed term for each check -/

theorem wf_frames_on_buses :
    wellFormed (.canFrameRx 0 { id := 2047, data := List.replicate 64 1 } 0) = true ∧
    wellFormed (.canFrameRx 0 { id := 2048 } 0) = false ∧
    wellFormed (.canFrameRx 0 { id := 2048, ide := true } 0) = true ∧
    wellFormed (.canFrameRx 0 { data := List.replicate 9 1 } 0) = false ∧
    wellFormed (.canFrameRx 0 { fd := false, data := List.replicate 12 1 } 0) = false ∧
    wellFormed (.svFrameRx { asdus := [{ smpCnt := 65535, channels := [(1, 0)] }] } 0) = true ∧
    wellFormed (.svFrameRx { asdus := [] } 0) = false ∧
    wellFormed (.svFrameRx { asdus := [{ smpCnt := 65536, channels := [(1, 0)] }] } 0) = false ∧
    wellFormed (.svFrameRx { asdus := [{ channels := [] }] } 0) = false ∧
    wellFormed (.gooseRx 0 { members := List.replicate 64 (.int32 0) } 0) = true ∧
    wellFormed (.gooseRx 0 { members := List.replicate 65 (.int32 0) } 0) = false ∧
    wellFormed (.gooseRx 0 { stNum := 2 ^ 32 } 0) = false ∧
    wellFormed (.uplinkFrameRx 0 { lane := 63 } 0) = true ∧ wellFormed (.uplinkFrameRx 0 { lane := 64 } 0) = false ∧
    wellFormed (.uplinkFrameRx 0 { entries := List.replicate 129 {} } 0) = false ∧
    wellFormed (.swcFrameRx 0 { pcp := 7, vlan := some 4095 } 0) = true ∧
    wellFormed (.swcFrameRx 0 { pcp := 8 } 0) = false ∧ wellFormed (.swcFrameRx 0 { vlan := some 4096 } 0) = false ∧
    wellFormed (.frameTx 0 0 (some { pcp := 8 })) = false ∧ wellFormed (.frameTx 0 0 none) = true := by decide +kernel

theorem wf_units_numbers_and_temperatures :
    wellFormed (.unitEnWrite (.port 4) true) = true ∧ wellFormed (.unitEnWrite (.port 5) true) = false ∧
    wellFormed (.unitStartDone (.lens 16)) = false ∧ wellFormed (.unitStopDone (.arm 8)) = false ∧
    wellFormed (.unitStartFailed (.pwm 32)) = false ∧ wellFormed (.unitFenced (.fbc 2)) = false ∧
    wellFormed (.unitFenced (.chain 0 32)) = false ∧ wellFormed (.unitFenced (.beam 64)) = false ∧
    wellFormed (.unitFenced (.slice 64)) = false ∧ wellFormed (.unitFenced (.slice 63)) = true ∧
    wellFormed (.toNoload 0 255) = true ∧ wellFormed (.toNoload 0 256) = false ∧
    wellFormed (.calibrateReplyRx 0 5 (2 ^ 32 - 1)) = true ∧ wellFormed (.calibrateReplyRx 0 5 (2 ^ 32)) = false ∧
    wellFormed (.holdupCharged 65535 4095) = true ∧ wellFormed (.holdupCharged 65536 0) = false ∧
    wellFormed (.holdupCharged 0 4096) = false ∧
    wellFormed (.tempCrit 127) = true ∧ wellFormed (.tempCrit 128) = false ∧
    wellFormed (.tempWarn .core (-128)) = true ∧ wellFormed (.tempWarn .core (-129)) = false ∧
    wellFormed (.evrChannelUpdate 0 (2 ^ 64 - 1)) = true ∧ wellFormed (.evrChannelUpdate 0 (2 ^ 64)) = false ∧
    wellFormed (.perFlashCopyDone (2 ^ 32)) = false ∧ wellFormed (.epochAckTimeout (2 ^ 64)) = false ∧
    wellFormed (.epochAckRx 0 (2 ^ 64) true) = false ∧ wellFormed (.epochNackRx 0 (2 ^ 64) true) = false ∧
    wellFormed (.resyncReqRx 0 (2 ^ 64) true) = false ∧ wellFormed (.resyncReqRx 0 0 true) = true ∧
    wellFormed (.hostLinkUp 0 4 8) = true ∧ wellFormed (.hostLinkUp 0 5 8) = false ∧
    wellFormed (.hostLinkUp 0 4 3) = false ∧
    wellFormed (.registerWrite (.win .h0) 0 0 16) = true ∧ wellFormed (.registerWrite (.win .h0) 0 0 24) = false ∧
    wellFormed (.registerRead (.vec 1) 0xFFFC) = true ∧ wellFormed (.registerRead (.vec 1) 0x10000) = false ∧
    wellFormed (.registerWrite (.vec 0) 2 0 32) = false ∧
    wellFormed (.rollingSelftestDone 0 (.region 65535) true) = true ∧
    wellFormed (.rollingSelftestDone 0 (.region 65536) true) = false := by decide +kernel

theorem wf_blocks_and_messages :
    wellFormed (.ptpAnnounceRx 0 { domain := 255 }) = true ∧ wellFormed (.ptpAnnounceRx 0 { domain := 256 }) = false ∧
    wellFormed (.ptpAnnounceRx 0 { utc := 32768 }) = false ∧
    wellFormed (.ptpPdelayRx 0 (.measured (2 ^ 32 - 1))) = true ∧
    wellFormed (.ptpPdelayRx 0 (.measured (2 ^ 32))) = false ∧
    wellFormed (.doorbellReadDone 0 (some { tail := List.replicate 8 0, cqHead := List.replicate 8 0 })) = true ∧
    wellFormed (.doorbellReadDone 0 (some { tail := List.replicate 7 0, cqHead := List.replicate 8 0 })) = false ∧
    wellFormed (.doorbellReadDone 0 none) = true ∧
    wellFormed (.descriptorReadDone 0 0 (some { opcode := 65535 })) = true ∧
    wellFormed (.descriptorReadDone 0 0 (some { opcode := 65536 })) = false ∧
    wellFormed (.fwCommit false (some { keyId := 255 })) = true ∧
    wellFormed (.fwCommit false (some { keyId := 256 })) = false ∧
    wellFormed (.pkgCommit (some { secver := 65536 })) = false ∧
    wellFormed (.keyWriteWrite (some { subop := 255 })) = true ∧
    wellFormed (.keyWriteWrite (some { subop := 256 })) = false ∧
    wellFormed (.keyWriteDerive (some { ctxLen := 65536 })) = false ∧
    wellFormed (.keyWriteErase (some { slot := 256 })) = false ∧
    wellFormed (.keyWriteExport (some { len := 65536 })) = false ∧
    wellFormed (.keyWriteLock (some { parent := 256 })) = false ∧
    wellFormed (.attest (some (List.replicate 32 0)) true) = true ∧
    wellFormed (.attest (some (List.replicate 31 0)) true) = false ∧ wellFormed (.attest none false) = true ∧
    wellFormed (.bist (some 65535) true true) = true ∧ wellFormed (.bist (some 65536) true true) = false ∧
    wellFormed (.lcTransition (some { count := 2 ^ 32 })) = false ∧ wellFormed (.lcTransition none) = true ∧
    wellFormed (.sliceCreate (some { slice := 255 })) = true ∧
    wellFormed (.sliceCreate (some { slice := 256 })) = false ∧
    wellFormed (.healthReportRx 0 { modnum := 65535 }) = true ∧
    wellFormed (.healthReportRx 0 { modnum := 65536 }) = false ∧
    wellFormed (.epochRx 0 { lens := 255 }) = true ∧ wellFormed (.epochRx 0 { lens := 256 }) = false := by decide +kernel

/-! ## States for the tests -/

/-- RUNNING, as after reset otherwise. -/
def up : State := { State.reset with glb := { phase := .running, run := true } }

/-- What the command leaves satisfies `p`. -/
def leaves (r : Res) (p : State → Bool) : Bool := match r with | .next t => p t | _ => false

/-- Facet 2 of lens 1 executes, as `x`. -/
def facet (x : FacetSt) : State :=
  { up with facets := up.facets.set 66 { x with run := .active }, lenses := up.lenses.set 1 { pstate := .run } }

def withPkg (s : State) (p : Package) : State := { s with svc := { s.svc with pkg := p } }
def withUnit (s : State) (u : UnitId) (x : UnitSt) : State := { s with units := s.units.set (unitKey u) x }
def on (s : State) (u : UnitId) : State := withUnit s u { st := .on, en := true }
def withSlice (s : State) (i : Nat) (x : SliceSt) : State :=
  { s with hif := { s.hif with slices := s.hif.slices.set i x } }
def withJournal (s : State) (es : List JEntry) : State := { s with hif := { s.hif with journal := es } }

/-- A descriptor whose bytes from 32 on are the fields (offset, bytes, value). -/
def desc (op : Nat) (fs : List (Nat × Nat × Nat)) (len : Nat := 0) (buf : Nat := 0) : Desc :=
  { opcode := op, length := len, bufAddr := buf,
    spec := BitVec.ofNat 256 (fs.foldl (fun a f => a + f.2.2 % 2 ^ (8 * f.2.1) * 2 ^ (8 * (f.1 - 32))) 0) }

/-- An accepted journal entry, of ring 1. -/
def entry (i : Nat) (d : Desc) (st : JState := .accepted) (j : Nat := 9) (r : Nat := 1) : JEntry :=
  { jseq := j, slice := i, ring := r, desc := d, accepted := true, state := st }

/-- A slice whose ring `r` completes into completion ring 0. -/
def ringed (r : Nat) (service : Bool) : SliceSt :=
  { st := .active, weight := 1, sqs := (Vector.replicate 8 ({} : SqSt)).setIfInBounds r { st := .running, service := service, tail := 1 },
    cqs := (Vector.replicate 8 ({} : CqSt)).setIfInBounds 0 { on := true, depth := 64 } }

/-- The descriptor `e` is at the front of its ring in `s`. -/
def front (s : State) (e : JEntry) (service : Bool := false) : State :=
  withJournal (withSlice { s with mlk := { s.mlk with grant := true } } e.slice (ringed e.ring service)) [e]

/-! ## The machine -/

theorem witness_steps : ({ up with pending := [.kaStartDone, .runSet] } : State).pending = .kaStartDone :: [.runSet] ∧
    State.reset.pending = [] ∧ ({ up with col := { up.col with ptpAt := 41 } } : State).now + 40 < 41 := ⟨rfl, rfl, by decide⟩

theorem witness_data_memory : (facet { dmem := [(3, 1), (9, 2)] }).MemOk ∧ State.reset.MemOk ∧
    leaves (step (facet { dmem := [(3, 1), (9, 2)] })) (fun _ => true) = true := by
  refine ⟨?_, ?_, ?_⟩ <;> first | decide +kernel | (unfold State.MemOk; decide +kernel)

theorem witness_life_cycle :
    leaves (exec .lcTransitionDone { up with svc := { running := some { op := 5, work := .lcTransition { dest := .service } } } })
      (fun t => t.glb.lcs ≠ up.glb.lcs) = true := by decide +kernel

/-! ## Facet instructions -/

theorem witness_bits : (facet {}).running 1 2 = true ∧
    (bitCheck 511 = none ∧ fArea 511 = 0 ∧ writableBit 511 false = false ∧ writableBit 511 true = false ∧ fNeg 511 = false) ∧
    (bitCheck 0x0800005 = none ∧ fArea 0x0800005 = 1 ∧ writableBit 0x0800005 false = true ∧ fNeg 0x0800005 = false) ∧
    (bitCheck 0x2800002 = none ∧ writableBit 0x2800002 true = true ∧ writableBit 0x2800002 false = false) ∧
    Memory.wf [((0x200 : Nat), (1 : Byte))] = true := by decide +kernel

theorem witness_la_and_nesting : (facet {}).running 1 2 = true ∧
    ((facet {}).facets.get (fKey 1 2)).stack = [] ∧
    ((facet { stack := List.replicate 15 (true, .or) }).facets.get (fKey 1 2)).stack.length < 16 ∧
    ((facet { stack := [(true, .and)] }).facets.get (fKey 1 2)).stack = (true, .and) :: [] ∧
    ((facet { stack := [(true, .or)] }).facets.get (fKey 1 2)).stack = (true, .or) :: [] ∧
    ((facet { stack := [(true, .xor)] }).facets.get (fKey 1 2)).stack = (true, .xor) :: [] ∧
    16 ≤ ((facet { stack := List.replicate 16 (true, .xor) }).facets.get (fKey 1 2)).stack.length ∧
    ((facet { stack := [(true, .xor)] }).facets.get (fKey 1 2)).stack ≠ [] := by decide +kernel

theorem witness_edges_timers_counters : (facet { la := true }).running 1 2 = true ∧
    (fld 511 25 14 = 0 ∧ fIndex 511 < 512) ∧ (fld 255 25 14 = 0 ∧ fIndex 255 < 256) ∧
    (fld 127 25 14 = 0 ∧ fIndex 127 < 128) ∧ Memory.wf [] = true := by decide +kernel

/-- Each row of the timer rules is met by a timer: the four edges of IN, and a running and a resting pulse. -/
theorem witness_timers :
    (∃ t : Timer, t.inPrev = false ∧ t.q = true) ∧ (∃ t : Timer, t.inPrev = true ∧ t.q = true) ∧
    (∃ t : Timer, t.inPrev = false ∧ t.q = false) ∧ (∃ t : Timer, t.inPrev = true ∧ t.q = false) :=
  ⟨⟨⟨5, 3, 1, false, true⟩, rfl, rfl⟩, ⟨⟨5, 3, 1, true, true⟩, rfl, rfl⟩, ⟨⟨5, 3, 1, false, false⟩, rfl, rfl⟩,
    ⟨⟨5, 3, 1, true, false⟩, rfl, rfl⟩⟩

/-- Words of the worked examples of 03 beside their lines: LD I 1, AND(, OR M 10, ), ST Q 5, END, MPY, MAC and STH. -/
theorem test_words_of_the_examples :
    facetInstr 1 2 0x04000001 = .ld 1 2 1 ∧ facetInstr 1 2 0x2C000000 = .andNest 1 2 0 ∧
    facetInstr 1 2 0x0D00000A = .or_ 1 2 0x100000A ∧ facetInstr 1 2 0x38000000 = .nestClose 1 2 0 ∧
    facetInstr 1 2 0x14800005 = .st 1 2 0x800005 ∧ facetInstr 1 2 0xF8000000 = .end_ 1 2 0 ∧
    facetInstr 1 2 0x80100000 = .mpy 1 2 0x100000 ∧ facetInstr 1 2 0x85300000 = .mac 1 2 0x1300000 ∧
    facetInstr 1 2 0xA2010000 = .sth 1 2 0x2010000 ∧ facetInstr 1 2 1 = .nop 1 2 1 ∧
    (fArea 1 = 0 ∧ fIndex 1 = 1) ∧ (fArea 0x100000A = 2 ∧ fIndex 0x100000A = 10) ∧
    (fArea 0x800005 = 1 ∧ fIndex 0x800005 = 5) := by decide +kernel

theorem witness_jumps_and_compare : (facet {}).running 1 2 = true ∧ fld 0x3FFF 25 14 = 0 ∧
    (fCond 0xA000 = 5 ∧ fld 0xA000 12 8 = 0 ∧ fld 0xA000 1 0 = 0) := by decide +kernel

/-- Encodings of format R with their unused fields 0: shift counts 31, 0 and -32, and a pair of even registers. -/
theorem witness_arithmetic : (facet {}).running 1 2 = true ∧
    (rBad 0x3FC0000 true true true false false = false ∧ rBad 0x3040000 true true true false false = false ∧
      fX 0x3040000 % 2 = 0 ∧ fY 0x3040000 % 2 = 0) ∧
    rBad 0x3840000 true false true false false = false ∧
    rBad 0x40000 false false true false false = false ∧
    (rBad 0x4007C false false true true true = false ∧ 0 < fShift 0x4007C) ∧
    (rBad 0x60000 false false true true true = false ∧ fShift 0x60000 = 0 ∧ fRnd 0x60000 = 2) ∧
    (rBad 0x60080 false false true true true = false ∧ fShift 0x60080 = -32) ∧
    (rBad 0x2020080 true false true true true = false ∧ fShift 0x2020080 < 0 ∧ 0 ≤ fShift 0x202007C) ∧
    rBad 0x3F00000 true true false false false = false ∧
    (rBad 0x3F00040 true true false false true = false ∧ fShift 0x3F00040 = 16) ∧
    (fShift 0x3F000C0 = -16 ∧ fShift 0x3F0003C = 15 ∧ fShift 0x3F000C4 = -15) := by decide +kernel

/-- LDW and STW with register 7, 8 and 11, LDP and STP, at the last word of data memory; and each address that R94
refuses. Register P7 is the pointer, without POST. -/
theorem witness_memory_access :
    let s (p : Word) : State := facet { p := (Vector.replicate 8 0).set 7 p }
    let a (p : Word) (w : BitVec 26) : Nat := memAddr ((s p).facets.get (fKey 1 2)) w
    (s 0x17FF8).running 1 2 = true ∧ (s 0x17FF8).MemOk ∧
    (let w : BitVec 26 := 0x1F80000; fReg w = 7 ∧ fld w 17 16 = 0 ∧ badAccess (a 0x17FFE w) 2 true = false ∧
      a 0x18000 w = 0x18000 ∧ a 0x2501 w % 2 = 1 ∧ a 0x1FE w < 0x200 ∧ a 0x2440 w = 0x2440 ∧ a 0x2480 w = 0x2480) ∧
    (let w : BitVec 26 := 0x2F80000; fReg w = 11 ∧ fld w 17 16 = 0 ∧ badAccess (a 0x17FF8 w) 8 true = false ∧
      badAccess (a 0x200 w) 8 true = false ∧ badAccess (a 0 w) 8 false = false ∧ badAccess (a 0x2504 w) 8 true = true ∧
      a 0x24F8 w = 0x24F8) ∧
    (let w : BitVec 26 := 0x3F80000; fReg w = 15 ∧ fld w 17 16 = 0 ∧ fld w 21 16 ≠ 0 ∧ badAccess (a 0x17FFC w) 4 true = false ∧
      badAccess (a 0x247C w) 4 true = true ∧ badAccess (a 0x247C w) 4 false = false) ∧
    (fReg 0x1C0FFFF = 7 ∧ fld 0x1C0FFFF 21 16 = 0) ∧ (fReg 0x200FFFF = 8 ∧ fld 0x200FFFF 21 16 = 0) := by
  refine ⟨by decide +kernel, ?_, by decide +kernel⟩
  unfold State.MemOk
  decide +kernel

/-! ## Waits, windows, messages, faults and lenses -/

/-- A lens with one program in facet 2, as `c` and `x` say. -/
def program (c : FacetCfg) (x : FacetSt) (q : ProgSt := {}) : State :=
  withPkg { facet x with progs := (facet x).progs.set 66 q } { facets := ⟨{}, [(66, c)]⟩ }

theorem witness_waits_and_ends :
    (let s := facet {}; let x := s.facets.get 66
     s.running 1 2 = true ∧ fld 7 25 3 = 0 ∧ (x.qTick || x.qStream || x.qMessage) = false ∧ x.stack = [] ∧
     s.logicAt 1 (s.home 1 2) = none ∧ s.protAt 1 (s.home 1 2) = none ∧ x.testFailed = false) ∧
    (let s := facet { qMessage := true }; let x := s.facets.get 66
     s.running 1 2 = true ∧ (x.qMessage && (BitVec.ofNat 3 (fld 4 2 0)).getLsbD 2) = true ∧ x.stack = [] ∧
     s.logicAt 1 (s.home 1 2) = none ∧ s.protAt 1 (s.home 1 2) = none ∧ x.testFailed = false) ∧
    ((facet { testFailed := true }).facets.get 66).testFailed = true := by decide +kernel

theorem witness_wakes :
    let s (x : FacetSt) (p : PState) : State :=
      { up with facets := up.facets.set 66 x, lenses := up.lenses.set 1 { pstate := p } }
    let x (r : FRun) (g : Gate) : FacetSt := { run := r, gate := g }
    (s (x .gated .ended) .run).host 1 ((s (x .gated .ended) .run).home 1 2) = 2 ∧
    ((x .gated .ended).run = .gated ∧ gateAdmits (x .gated .ended) .message = true ∧
      ((s (x .gated .ended) .run).lenses.get 1).pstate = .run) ∧
    gateAdmits (x .gated (.waiting 1)) .tick = true ∧ gateAdmits (x .gated (.waiting 1)) .stream = false ∧
    ((s (x .gated .ended) .retain).lenses.get 1).pstate = .retain ∧
    ((s (x .active .ended) .run).facets.get 66).run = .active ∧
    (((s (x .fenced .ended) .run).facets.get 66).run = .fenced ∧ WakeCause.message ≠ .tick ∧
      (s (x .fenced .ended) .run).host 1 ((s (x .fenced .ended) .run).home 1 2) = 2) ∧
    ((s (x .stopped .ended) .run).facets.get 66).run = .stopped ∧
    (let y : FacetSt := { x .gated (.waiting 1) with ticked := true, firstCycle := true, replayed := true }
     y.ticked = true ∧ gateAdmits y .tick = true ∧ ({} : FacetSt).ticked = false) ∧
    ((s (x .fenced .ended) .idle).lenses.get 1).pstate = .idle ∧
    ((s (x .fenced .ended) .retain).lenses.get 1).pstate = .retain := by decide +kernel

theorem witness_seals_outputs_and_lanes :
    let c : FacetCfg := { role := .loop, lanes := [0, 63] }
    let old : SealRec := sealClose { cycle := 3 }
    let x : FacetSt := { dmem := memPutNat [] aStatus 8 4 }
    (let s := program c x { cycle := 4, computing := true, seal0 := { record := some old } }
     s.running 1 2 = true ∧ checkpoint (s.progs.get 66) = some old ∧ old.cycle < facetCycle (s.facets.get 66) ∧
     s.inPhase 1 2 = true) ∧
    (let s := program c x { cycle := 4, computing := true }
     checkpoint (s.progs.get 66) = none ∧ s.inPhase 1 2 = true) ∧
    (let s := program c x { cycle := 5, computing := true }
     s.running 1 2 = true ∧ s.inPhase 1 2 = false) ∧
    (let s := program c {}
     (s.fCfg 1 (s.home 1 2)).role = .loop ∧ fld 0x7F 25 7 = 0 ∧ fld 0x7F 5 0 ∈ (s.fCfg 1 2).lanes ∧ fld 0x7F 6 6 = 1 ∧
     fld 0x3F 5 0 ∈ (s.fCfg 1 2).lanes ∧ fld 0x3F 6 6 = 0 ∧ fld 5 5 0 ∉ (s.fCfg 1 2).lanes) := by decide +kernel

theorem witness_messages :
    let x : FacetSt := { p := (Vector.replicate 8 0).set 7 0x17FC0, dmem := [(0x17FC0, 1), (0x17FC1, 2)] }
    let c : FacetCfg := { queues := [3] }
    let a := (pReg x (fld 0x1F 2 0)).toNat
    (fld 0x1F 25 5 = 0 ∧ badSlot a false = false ∧ badSlot a true = false ∧ badSlot (a + 1) false = true) ∧
    (let s := program c x
     s.running 1 2 = true ∧ (memGet x.dmem a).toNat < 16 ∧ (memGet x.dmem (a + 1)).toNat < 64 ∧
     s.queueRoom 1 2 (fld 0x1F 4 3) = true ∧ s.queueRoom 1 2 0 = false ∧
     ((s.progs.get 66).rxq.toList[3]?).getD [] = []) ∧
    (let z : FacetSt := { x with dmem := [(0x17FC1, 2)] }
     let s : State := withPkg { facet z with lenses := ⟨{}, [(0, { pstate := .run }), (1, { pstate := .run })]⟩ }
       { facets := ⟨{}, [(2, c)]⟩ }
     s.running 1 2 = true ∧ (memGet z.dmem a).toNat = 0 ∧ s.queueRoom 0 2 (fld 0x1F 4 3) = true ∧ (s.swc.glint.get 9).dir ≠ 1 ∧
     ({ s with swc := { glint := ⟨{}, [(9, { dir := 1, n := 5 })]⟩ } }.swc.glint.get (8 + (1 : Fin 16))).dir = 1) ∧
    (let s := program c x { rxq := (Vector.replicate 4 []).set 3 [[1], [2]] }
     ((s.progs.get (fKey 1 (s.home 1 2))).rxq.toList[3]?).getD [] = [1] :: [[2]]) := by decide +kernel

theorem witness_program_faults :
    let logic (st : LogicSt) : State :=
      withPkg { facet {} with logic := ⟨{}, [(3, st)]⟩ } { logic := ⟨{}, [(3, { present := true, lens := 1, facet := 2 })]⟩ }
    (facet {}).running 1 2 = true ∧ (wordOp 1 = 0 ∧ (1 : Word) ≠ 0 ∧ wordOp 0x3C000000 = 0x0F ∧ wordOp 0xFFFFFFFF = 0x3F ∧
      ((facet {}).facets.get 66).testFailed = false ∧ ((facet { testFailed := true }).facets.get 66).testFailed = true) ∧
    (facet {}).host 1 ((facet {}).home 1 2) = 2 ∧
    (∀ j, ((facet {}).facets.get (fKey 1 2)).hostOf = some j → j < 64) ∧ (facet {}).logicAt 1 2 = none ∧
    (logic {}).running 1 2 = true ∧ (logic {}).logicAt 1 2 = some 3 ∧ ((logic {}).logic.get 3).removeAsked = false ∧
    ((logic {}).logic.get 3).exchPending = false ∧ ((logic {}).logic.get 3).exchStart = none ∧
    ((logic { committing := true }).logic.get 3).committing = true := by
  refine ⟨by decide +kernel, by decide, by decide +kernel, ?_, by decide +kernel⟩
  intro j h
  cases h

theorem witness_lens_failures :
    let base (x : LensSt) (m : MlkSt) (p : Package) : State :=
      withPkg { State.reset with lenses := ⟨{}, [(1, x)]⟩, mlk := m } p
    let failed : LensSt := { failure := some .steward }
    let loops : Package := { facets := ⟨{}, [(66, { role := .loop })]⟩ }
    (let s := on (base failed {} { lenses := ⟨{}, [(4, { isSpareLens := true })]⟩ }) (.lens 4)
     (s.lenses.get 1).failure ≠ none ∧ s.mlk.mmDown = false ∧
     ((s.lensPrograms 1).any fun h => (s.fCfg 1 h).role = .loop) = false ∧ s.spareLens 1 = some 4) ∧
    (let s := base failed { partner := .inService, role := .active } loops
     (s.lenses.get 1).failure ≠ none ∧ s.spareLens 1 = none ∧ s.mlk.partner = .inService ∧ s.mlk.role = .active) ∧
    (let s := base failed {} {}
     s.spareLens 1 = none ∧ s.mlk.partner ≠ .inService) ∧
    (let s := base { relocTo := some 4 } {} {}
     (s.lenses.get 1).relocTo = some 4 ∧ (4 : Nat) ≠ 1) := by decide +kernel

theorem witness_fences_and_repairs :
    let mk (x : FacetSt) (l : LensSt) (q : ProgSt) : State :=
      { State.reset with facets := ⟨{}, [(66, x)]⟩, lenses := ⟨{}, [(1, l)]⟩, progs := ⟨{}, [(66, q)]⟩ }
    let sealed : ProgSt := { seal0 := { record := some (sealClose { cycle := 3 }) } }
    (let s := mk { role := .loop, run := .active } { free := [6], stewardFailed := true } sealed
     (s.lenses.get 1).stewardFailed = true ∧ betweenCycles (s.facets.get 66) = false) ∧
    (let s := { mk { role := .loop, run := .gated } { free := [6] } sealed with mlk := { mmDown := true } }
     (s.lenses.get 1).stewardFailed = false ∧ s.mlk.mmDown = true ∧ betweenCycles (s.facets.get 66) = true) ∧
    (let s := mk { role := .loop, run := .active } { free := [7, 2, 6] } sealed
     (s.facets.get 66).run ≠ .fenced ∧ (s.facets.get 66).role ≠ .spare ∧ (s.lenses.get 1).repair = none ∧
     ((mk { run := .fenced } {} {}).facets.get (fKey (1 : Fin 16) (2 : Fin 64))).run = .fenced ∧
     minList ((s.lenses.get 1).free.filter (· ≠ 2)) = some 6 ∧ checkpoint (s.progs.get 66) ≠ none ∧
     s.glb.phase ≠ .running) ∧
    (let s := mk { role := .loop, run := .gated } { free := [2] } sealed
     (s.lenses.get 1).free.filter (· ≠ 2) = []) ∧
    (let s := mk { role := .loop, run := .gated } { free := [6] } {}
     checkpoint (s.progs.get 66) = none) ∧
    (let s := mk { role := .loop, run := .gated } { repair := some { failed := 9 } } {}
     (s.lenses.get 1).repair ≠ none) ∧
    (let s := mk { run := .gated } {} {}
     ¬ ((s.facets.get 66).role ≠ .spare ∧ ((s.facets.get 66).run = .active ∨ (s.facets.get 66).run = .gated)) ∧
       (s.lenses.get 1).repair = none) ∧
    (let s := mk {} { repair := some { failed := 2, home := 2, spare := 7, start := 4 } } {}
     (s.lenses.get 1).repair = some { failed := 2, home := 2, spare := 7, start := 4 } ∧
       (s.lenses.get 1).waitRepair = [] ∧ s.glb.halting = false ∧
       ({ s with glb := { halting := true } } : State).glb.halting = true) := by decide +kernel

theorem witness_lens_wakes_and_arrivals :
    let mk (l : LensSt) (q : ProgSt) (x : FacetSt) : State :=
      withPkg { State.reset with lenses := ⟨{}, [(1, l)]⟩, progs := ⟨{}, [(66, q)]⟩, facets := ⟨{}, [(66, x)]⟩ }
        { facets := ⟨{}, [(66, { role := .protection })]⟩ }
    (let s := mk { pstate := .retain } { nextTick := some 50000 } { run := .gated }
     s.nextTick 1 = some 50000 ∧ (s.lenses.get 1).pstate = .retain ∧ (s.lenses.get 1).waking = none) ∧
    (let s := mk { pstate := .idle, waking := some 77 } {} { run := .gated }
     (s.lenses.get 1).waking = some 77 ∧ (s.facets.get 66).run = .gated ∧ (s.facets.get 66).gate = .ended) ∧
    (let s := mk { pstate := .run, inbound := [(2, 3, [1])] } {} { run := .gated }
     (s.fCfg 1 2).role = .protection ∧ (s.lenses.get 1).pstate ≠ .off ∧ (s.lenses.get 1).inbound = (2, 3, [1]) :: [] ∧
     (s.facets.get (fKey 1 (s.host 1 2))).run = .gated ∧ (s.lenses.get 1).pstate = .run) ∧
    (let s := mk { pstate := .run } {} { run := .active }
     (s.facets.get (fKey 1 (s.host 1 2))).run = .active) := by decide +kernel

/-! ## Logic, field bus, sampled values and protection -/

/-- Logic program 2 of facet 3 of lens 1, on a lens that is ON. -/
def logic (x : LogicSt) (c : LogicCfg := {}) : State :=
  on (withPkg { up with logic := ⟨{}, [(2, x)]⟩ } { logic := ⟨{}, [(2, { c with present := true, lens := 1, facet := 3 })]⟩ })
    (.lens 1)

theorem witness_logic_cycles :
    (let s := logic { st := .running }
     s.cycles 2 = true ∧ (s.logic.get 2).phase = .idle ∧ s.inRepair 1 3 = false) ∧
    (let s := logic { st := .exchanging, phase := .ended }
     s.cycles 2 = true ∧ (s.logic.get 2).phase = .ended ∧ (s.logic.get 2).commitDue = false ∧
     (s.logic.get 2).safeDue = none) ∧
    (let s := logic { st := .running, phase := .snapshot, copiedN := 2 } { stations := [1, 2] }
     s.cycles 2 = true ∧ (s.logic.get 2).phase = .snapshot ∧
     (s.logic.get 2).copiedN = (s.pkg.logic.get 2).stations.length ∧ (s.logic.get 2).exchStart = none) ∧
    (let s := logic { st := .running, phase := .restore }
     s.cycles 2 = true ∧ (s.logic.get 2).phase = .restore) ∧
    (let x : LogicSt := { st := .running, commitDue := true }
     x.committing = false ∧ x.commitDue = true ∧ x.stopAsked = false) ∧
    (let x : LogicSt := { safeDue := some .stopped }
     x.committing = false ∧ x.commitDue = false ∧ x.safeDue = some .stopped ∧ x.removeAsked = false ∧
     x.exchPending = false ∧ x.exchStart = none) ∧
    (({ committing := true } : LogicSt).startAsked = false ∧ ((logic {}).pkg.logic.get 2).present = true ∧
     (State.reset.pkg.logic.get 2).present = false) ∧
    (let x : LogicSt := { committing := true, startAsked := true, st := .stopped }
     x.committing = true ∧ x.startAsked = true ∧ x.safeDue = none ∧ x.st ≠ .running) ∧
    (let s := logic { st := .running, phase := .execute, consec := 6 }
     s.cycles 2 = true ∧ (s.logic.get 2).phase = .execute ∧ s.inRepair 1 3 = false ∧ (s.logic.get 2).consec < 7 ∧
     (s.logic.get 2).stopBy = []) ∧
    (let s := logic { st := .running, phase := .snapshot, consec := 7 }
     s.cycles 2 = true ∧ s.inRepair 1 3 = false ∧ 7 ≤ (s.logic.get 2).consec ∧ (s.logic.get 2).removeAsked = false ∧
     (s.logic.get 2).exchPending = false ∧ (s.logic.get 2).exchStart = none) := by
  decide +kernel

theorem witness_exchanges :
    let img : Image := { kind := .package }
    let two : State := logic { st := .exchanging, exchStart := some 5, phase := .ready }
    let s := { logic { st := .exchanging, exchStart := some 5 } with svc := { staged := some img } }
    (s.logic.get 2).exchStart = some 5 ∧ s.svc.staged = some img ∧ s.svc.exchLoops = [] ∧
    (∀ k : Fin 64, k ≠ 2 → let z := s.logic.get k
      z.exchPending = false ∧ z.exchStart = none ∧ z.removeAsked = false ∧
      ((img.body.logic.get k).present = true → (s.pkg.logic.get k).present = true)) ∧
    (two.logic.get 2).phase = .ready ∧ (s.logic.get 2).phase ≠ .ready ∧
    (s.logic.get 2).exchPending = false ∧ (s.logic.get 2).removeAsked = false ∧ (2 : Fin 64).val ∈ s.logic.keys ∧
    (s.logic.get 2).st = .exchanging := by decide +kernel

/-- Controller 1 is ON, with station 67. -/
def bus (x : FbcSt) (c : FbcCfg := {}) (t : StnSt := {}) (k : StnCfg := {}) (p : Package := {}) : State :=
  on (withPkg { up with fbcs := ⟨{}, [(1, x)]⟩, stns := ⟨{}, [(67, t)]⟩ }
    { p with fbcs := ⟨{}, [(1, c)]⟩, stns := ⟨{}, [(67, k)]⟩ }) (.fbc 1)

theorem witness_frames_received :
    let flt : Filter := { action := .station 3, id1 := 5, id2 := 5 }
    let fr (id : BitVec 29) (h : Byte) : CanFrame := { id := id, data := h :: List.replicate 63 7 }
    let s := bus { cell := .window } { filters := [flt] } { group := some { gseq := 3, next := 1, data := List.replicate 63 9 } }
      { en := true, inLen := 100 }
    (s.unitOn (.fbc 1) = true ∧ (s.fbcs.get 1).mode ≠ .busOff ∧ (s.fbcs.get 1).cell ≠ .cell .free) ∧
    ((fr 5 0x93).crcOk = true ∧ (fr 5 0x93).remote = false ∧ (s.fbcs.get 1).mode ≠ .schedule ∧
      ((s.pkg.fbcs.get 1).filters.find? fun y => fltMatch y (fr 5 0x93)) = some flt ∧ flt.action = .station 3 ∧
      (s.stnCfg 67).en = true ∧ (fr 5 0x93).data.length = 64 ∧ 128 ≤ (0x93 : Byte).toNat ∧
      (0x93 : Byte).toNat / 16 % 8 + 1 = stnFrames (s.stnCfg 67).inLen ∧
      (s.stns.get 67).group = some { gseq := (0x93 : Byte).toNat % 16, next := (0x93 : Byte).toNat / 16 % 8,
                                     data := List.replicate 63 9 }) ∧
    (let s := bus { cell := .window } { filters := [flt] } {} { en := true, inLen := 63 }
     (0x8F : Byte).toNat / 16 % 8 = 0 ∧ (0x8F : Byte).toNat / 16 % 8 + 1 = stnFrames (s.stnCfg 67).inLen ∧
     (s.stns.get 67).group = none) ∧
    ((s.pkg.fbcs.get 1).filters.find? fun y => fltMatch y (fr 6 0x93)) = none ∧ (s.fbcs.get 1).recCnt ≤ 127 ∧
    ({ fr 5 0 with crcOk := false }.crcOk = false ∧ { fr 5 0 with remote := true }.remote = true ∧
     ((bus { mode := .listen, recCnt := 128 }).fbcs.get 1).mode = .listen ∧
     ((bus { recCnt := 128 }).fbcs.get 1).mode ≠ .listen ∧ 127 < ((bus { recCnt := 128 }).fbcs.get 1).recCnt) ∧
    (let with_ (a : FltAction) : Option Filter := [{ flt with action := a }, flt].find? fun y => fltMatch y (fr 5 0x93)
     with_ .reject = some { flt with action := .reject } ∧ with_ .mm = some { flt with action := .mm }) ∧
    ((bus { mode := .schedule }).fbcs.get 1).mode = .schedule ∧ (fr 1 0).id.toNat ≤ 1 ∧ (fr 1 0).ide = false := by
  decide +kernel

theorem witness_station_presence :
    let s (got : Bool) : State := bus { mode := .arrival } {} { st := .present, got := got } { en := true, inLen := 63, k := 1 }
    ((s true).fbcs.get 1).mode ≠ .schedule ∧ ((s true).stnCfg 67).en = true ∧ 0 < ((s true).stnCfg 67).inLen ∧
    ((s true).stns.get 67).st = .present ∧ ((s true).stns.get 67).judged < ((s true).fbcs.get 1).supervise + 1000000 ∧
    ((s true).stns.get 67).got = true ∧ ((s false).stns.get 67).got = false ∧ (s false).busStns 1 = [67] := by decide +kernel

theorem witness_schedule :
    let tps : Package := { tps := ⟨{}, [(2, { mode := .periodic, period := 1000000 })]⟩, mlk := { paired := true } }
    let cfg : FbcCfg := { tp := 2, bcCount := 4, cols := [10, 20, 30], refLen := 12 }
    let s (x : FbcSt) : State := bus { x with mode := .schedule } cfg {} {} tps
    (s {}).unitOn (.fbc 1) = true ∧ ((s {}).fbcs.get 1).mode = .schedule ∧
    (s {}).pulseDue 2 ((s {}).fbcs.get 1).lastPulse = some (0, 0) ∧ ((s {}).fbcs.get 1).toArrival = false ∧
    ((s {}).fbcs.get 1).onWire = none ∧ (s {}).mlk.grant = false ∧ (s {}).pkg.mlk.paired = true ∧
    ((s { cell := .window }).fbcs.get 1).cell = .window ∧ ((s { cell := .window }).fbcs.get 1).refSeen = false ∧
    (2 : Fin 64).val < cfg.cols.length ∧ ((s { cell := .cell .free, col := 1 }).fbcs.get 1).col + 1 = (2 : Fin 64).val := by
  decide +kernel

theorem witness_bus_errors :
    let wire : TxItem := { what := .group 3, ident := 5 }
    let sent : TxItem := { what := .send 9 {} false, deadline := some 0 }
    (bus { onWire := some wire }).unitOn (.fbc 1) = true ∧ ((bus { onWire := some wire }).fbcs.get 1).onWire = some wire ∧
    ((bus { tec := 247 }).fbcs.get 1).tec + 8 ≤ 255 ∧ 255 < ((bus { tec := 248 }).fbcs.get 1).tec + 8 ∧
    ((bus {}).fbcs.get 1).mode = .arrival ∧ ((bus { mode := .listen }).fbcs.get 1).mode = .listen ∧
    (let s := bus { mode := .busOff } { autoRecover := false }
     (s.fbcs.get 1).mode = .busOff ∧ (s.pkg.fbcs.get 1).autoRecover = false ∧ (s.fbcs.get 1).recoverAsked = false) ∧
    ((bus { mode := .busOff }).pkg.fbcs.get 1).autoRecover = true ∧
    (let s := bus { queue := [sent] }
     (s.fbcs.get 1).queue = [sent] ∧ sent.attempted = false ∧ sent.deadline = some 0 ∧ s.tai ≤ 0 ∧ s.busStns 1 = [] ∧
     (s.fbcs.get 1).retries = [] ∧ s.col.stopped = false) := by
  decide +kernel

theorem witness_sampled_values :
    let c : SvCfg := { en := true, appid := 9, vlan := 4, svid := 1, confRev := 3, lensMask := 2 }
    let going : SvSt := { real := { st := .receiving, have_ := true, lastSmp := 4798, lastAt := svInstant 0 4798 3000000000 } }
    let keyed : SvSt := { going with keyCur := 5 }
    let mk (c : SvCfg) (x : SvSt) : State :=
      on (withPkg { up with svs := ⟨{}, [(7, x)]⟩, col := { sec := 3 },
                            obs := { slots := ⟨{}, [(5, { attr := 0x204009 })]⟩ } }
        { svs := ⟨{}, [(7, c)]⟩, slots := ⟨{}, [(261, { en := true, chain := 2, stream := 7 })]⟩ }) (.chain 1 2)
    let a (n : Nat) : SvAsdu := { smpCnt := n, channels := [(5, 0)] }
    let fr (n : Nat) : SvFrame := { appid := 9, vlan := 4, svid := 1, confRev := 3, asdus := [a n] }
    let s := mk c going
    let tin (k : Nat) : Nat := svInstant c.rate k s.tai
    ((s.pkg.svs.keys.filter fun j => (s.pkg.svs.get j).en && (s.pkg.svs.get j).appid = 9 && (s.pkg.svs.get j).vlan = 4)
        = [7] ∧ (fr 4799).asdus = [a 4799] ∧ (fr 4799).simulated = false ∧ (1, 5) ∈ s.svTargets 7 false ∧
      ((s.svOwners 7).all fun i => !s.pkg.simSlices.contains i) = true ∧ going.keyCur = 0 ∧ going.keyNext = 0 ∧
      (s.pkg.svs.get 7).appid ≠ 8) ∧
    ((fr 1).svid = c.svid ∧ (fr 1).confRev = c.confRev ∧ { fr 1 with svid := 2 }.svid ≠ c.svid ∧ c.authReq = false ∧
      { c with authReq := true }.authReq = true ∧ (fr 1).tagCur = false ∧ (fr 1).tagNext = false ∧
      keyed.keyCur ≠ 0 ∧ (mk c keyed).keyCheck 5 (algBit c.alg) ((mk c keyed).svOwners 7) = none ∧
      { fr 1 with tagCur := true }.tagCur = true) ∧
    (svCounts c.rate ≤ 4800 ∧ svBack going.real c.rate 4798 (tin 4798) false = true ∧
      svBack going.real c.rate 4797 (tin 4797) false = true ∧ svBack going.real c.rate 4799 (tin 4799) false = false ∧
      ¬ svCounts c.rate ≤ 4799) ∧
    (¬ c.maxAgeUs * 1000 * 65536 < s.tai * 65536 - tin 4799 ∧
      { c with maxAgeUs := 0 }.maxAgeUs * 1000 * 65536 < s.tai * 65536 - tin 4799) := by decide +kernel

theorem witness_streams_and_chains :
    let hist : List SlotIn := [{ value := 70000, smpCnt := 13, tin := 2000, n := 7 },
      { value := 5, quality := 0x10000000, smpCnt := 12, tin := 1000, n := 6 }, { value := 6, smpCnt := 11, n := 5 }]
    let base (v : Nat) : State :=
      on (withPkg { up with chains := ⟨{}, [(34, { taps := [32767, -5] })]⟩,
                            chSlots := ⟨{}, [(261, { hist := hist, doneTo := 5, valid := v })]⟩ }
        { slots := ⟨{}, [(261, { en := true, chain := 2 })]⟩, chains := ⟨{}, [(34, { present := true })]⟩ }) (.chain 1 2)
    (({ nextPass := 16 } : SvSt).nextPass = 16) ∧
    (let x : SvSt := { real := { st := .receiving, missRun := 3 } }
     (svSeq x false).st = .receiving ∧ 3 ≤ (svSeq x false).missRun ∧ (svSeq x true).st ≠ .receiving ∧
     ({ st := .receiving } : SvSeq).missRun < 3 ∧
     ((svSeq x false).lastAt + 4 * 1000000000 * 65536 / svRate 0) / 65536 + 2000 * 1000 + 1 < 2 ^ 64) ∧
    up.reaches (2000 * 1000 + 1) = true ∧
    ((base 0).nextOutput 1 5 = some 6 ∧ (((base 0).chSlots.get 261).hist.dropWhile fun z => z.n ≠ 6) = hist.drop 1) ∧
    (base 0).unitOn (.chain 1 2) = true ∧ ((base 0).lenses.get 1).fenced = false ∧ (base 0).chainSlots 1 2 = [5] ∧
    ((base 0).pkg.slots.get 261).chain = 2 ∧ ((base 0).chSlots.get 261).ready = none ∧
    (0 * svRate 0 % 1000000000 = 0 ∧ ([32767, -5] : List Int).length ≤ (hist.drop 1).length ∧
      firSum [32767, -5] (hist.drop 1) < 2 ^ 47 ∧ -(2 ^ 47) ≤ firSum [32767, -5] (hist.drop 1)) ∧
    ((base 0).chSlots.get 261).valid < (base 0).fillN 1 5 ∧
    (base 9999).fillN 1 5 ≤ ((base 9999).chSlots.get 261).valid := by decide +kernel

theorem witness_protection_ticks :
    let base (a b : SlotSt) : State :=
      withPkg { up with lenses := ⟨{}, [(1, { pstate := .run })]⟩, chSlots := ⟨{}, [(261, a), (262, b)]⟩,
                        prots := ⟨{}, [(2, { chains := [2] })]⟩ }
        { slots := ⟨{}, [(261, { en := true, chain := 2 }), (262, { en := true, chain := 2, chan := 1 })]⟩,
          prots := ⟨{}, [(2, { present := true, lens := 1, facets := [3], chains := [2] })]⟩ }
    (let s := base { ready := some (10, 100) } { ready := some (10, 101) }
     s.protRuns 2 = true ∧ (s.lenses.get 1).relocTo = none ∧ s.protReady 2 = (5, (10, 100)) :: [(6, (10, 101))] ∧
     (s.protReady 2).length = (s.protSlots 2).length ∧ ((s.protReady 2).all fun z => z.2.1 = 10) = true) ∧
    (let s := base { ready := some (10, 100) } {}
     s.protRuns 2 = true ∧ (s.protReady 2).length < (s.protSlots 2).length ∧ 6 ∈ s.protSlots 2 ∧
     (s.chSlots.get 262).ready = none ∧ (s.protCand 2).2 / 65536 + 100000 < 2 ^ 64 ∧
     s.reaches ((s.protCand 2).2 / 65536 + 100000) = true ∧ s.glb.halting = false ∧
     ({ s with glb := { halting := true } } : State).glb.halting = true) := by decide +kernel

theorem witness_goose :
    let base (g : GpCfg) (x : GpSt) (c : GsCfg) (y : GsSt) : State :=
      withPkg { up with gps := ⟨{}, [(2, x)]⟩, gss := ⟨{}, [(3, y)]⟩ } { gps := ⟨{}, [(2, g)]⟩, gss := ⟨{}, [(3, c)]⟩ }
    (let s := base { en := true } { nextSend := some 5, sqNum := 0xFFFFFFFF } { en := true } {}
     (s.gps.get 2).nextSend = some 5 ∧ (s.pkg.gps.get 2).en = true ∧ (s.pkg.gps.get 2).command = false ∧
     (s.pkg.gss.get 3).en = true ∧ (s.gss.get 3).keyCur = 0 ∧ (s.gss.get 3).keyNext = 0 ∧
     (s.pkg.gss.get 3).authReq = false ∧ (s.gss.get 3).expiry = none) ∧
    (let s := base { en := true, command := true } { nextSend := some 5 } { en := true, authReq := true }
       { expiry := some 9, valid := true, stNum := 4, sqNum := 6 }
     (s.pkg.gps.get 2).command = true ∧ s.mlk.grant = false ∧ (s.pkg.gss.get 3).authReq = true ∧
     (s.gss.get 3).expiry = some 9 ∧ (s.gss.get 3).valid = true ∧
     (s.gss.get 3).stNum = ({ stNum := 4, sqNum := 6 } : GooseFrame).stNum ∧
     (s.gss.get 3).sqNum = ({ stNum := 4, sqNum := 6 } : GooseFrame).sqNum ∧
     ({ s with mlk := { grant := true } } : State).mlk.grant = true ∧
     (s.swc.glint.get 8).dir = 0 ∧ ({ s with swc := { glint := ⟨{}, [(8, { dir := 1, n := 3 })]⟩ } }.swc.glint.get (8 + 0)).n ≠ 0) ∧
    (let s := base {} {} {} {}
     (s.pkg.gps.get 2).en = false ∧ s.pkg.simSlices.contains 0 = false ∧ ({ simulated := true } : GooseFrame).simulated = true) :=
  by decide +kernel

theorem witness_trip_outputs_and_inputs :
    let base (c : ToCfg) (x : ToSt) (l : List Nat) : State :=
      withPkg { up with tos := ⟨{}, [(1, x)]⟩, lanes := ⟨[], [(63, l)]⟩, mlk := { grant := true } } { tos := ⟨{}, [(1, c)]⟩ }
    let lane63 : BitVec 64 := BitVec.ofNat 64 (2 ^ 63)
    (let s := base { mask := lane63 } { closed := true } []
     (s.tos.get 1).closed = true ∧ s.maskOn lane63 = false ∧ (s.pkg.tos.get 1).latch = false ∧
     ((s.tos.get 1).closed && s.mlk.grant) = true) ∧
    (base { mask := lane63 } { closed := true } [2048]).maskOn lane63 = true ∧
    (let s := base { latch := true } { closed := true } []
     (s.pkg.tos.get 1).latch = true ∧ (s.tos.get 1).resetDone = false) ∧
    (let s := base {} {} []
     ((s.tos.get 1).closed && s.mlk.grant) = false ∧ (s.tos.get 1).noload = false ∧ (19 : Nat) < 20 ∧ (20 : Nat) ≤ 20) ∧
    (let t : TiSt := { active := true }
     let c : TiCfg := { en := true, darkActive := true, lanes := lane63 }
     t.active = true ∧ t.stuck = false ∧ ({} : TiSt).active = false ∧ c.en = true ∧ c.lanes.getLsbD 63 = true ∧
     ({} : TiCfg).en = false ∧ c.darkActive = true ∧ t.low = false) := by decide +kernel

/-! ## Descriptors of protection, converter, lanes and PWM -/

theorem witness_settings :
    let pc : ProtCfg := { present := true, lens := 1, facets := [4], ranges := [(130, [{ off := 0, len := 2, signed := true, lo := -5, hi := 1000 }])] }
    let pkg : Package := { prots := ⟨{}, [(2, pc)]⟩ }
    let d := desc 0x21 [(32, 1, 1), (33, 1, 4), (34, 1, 2)] 2 100
    let k := fnKey 1 4 2
    let s := front (withPkg up pkg) (entry 0 d)
    s.Runs 0 1 (settingsForm 0 0x21 [(32, 3)] true s) (entry 0 d) ∧
    s.fnNamed d = some 2 ∧ 0 < d.length ∧ d.length ≤ 2048 ∧ (s.fns.get k).pending = none ∧ s.bankHeld 2 k = false ∧
    settingsFit (s.pkg.prots.get 2).ranges (4 * 32 + 2) (bytesAt [0xE8, 3] 0 2) = true ∧
    settingsFit (s.pkg.prots.get 2).ranges (4 * 32 + 2) (bytesAt [0xFB, 0xFF] 0 2) = true ∧
    settingsFit (s.pkg.prots.get 2).ranges (4 * 32 + 2) (bytesAt [0xE9, 3] 0 2) = false ∧
    (let t := withJournal s [entry 0 d .started]
     (t.ringJ 0 1).find? (fun z => z.state = .started && z.desc.opcode = 0x21) = some (entry 0 d .started) ∧
     t.jEntry 9 = some (entry 0 d .started) ∧ (t.fns.get k).refused.contains 9 = false ∧ t.bankHeld 2 k = false) := by
  refine ⟨by constructor <;> decide +kernel, by decide +kernel⟩

theorem witness_settings_switch_and_trip_reset :
    let pkg : Package := { prots := ⟨{}, [(2, { present := true, lens := 1, facets := [4] })]⟩,
                           tos := ⟨{}, [(0, { mask := 1 })]⟩ }
    let d := desc 0x22 [(32, 1, 1), (33, 1, 4), (34, 1, 2), (40, 8, 77)]
    let e := desc 0x23 [(32, 1, 15)]
    let s := front (withPkg up pkg) (entry 0 d)
    let t := { front (withPkg up pkg) (entry 0 e) with lanes := ⟨[], [(0, [66])]⟩ }
    s.Runs 0 1 (settingsForm 0 0x22 [(32, 3), (40, 8)] false s) (entry 0 d) ∧
    t.Runs 0 1 { opcode := 0x23, used := [(32, 1)], may := fun _ => (0 : Fin 64).val = 0 } (entry 0 e) ∧
    s.fnNamed d = some 2 ∧ (s.fns.get (fnKey 1 4 2)).pending = none ∧ 0 < e.num 32 1 ∧ e.num 32 1 < 16 ∧
    ((List.range 4).filter fun m => (e.num 32 1).testBit m && !t.maskOn (t.pkg.tos.get m).mask) = [1, 2, 3] := by
  refine ⟨?_, ?_, ?_⟩ <;> first | decide +kernel | (constructor <;> decide +kernel)

theorem witness_focus_control :
    let ch : ChainCfg := { present := true, ownerSlice := 3 }
    let sl (c : Nat) : SlotCfg := { en := true, chain := c }
    let pkg : Package := { chains := ⟨{}, [(34, ch), (35, ch)]⟩, slots := ⟨{}, [(261, sl 2), (262, sl 3)]⟩,
                           prots := ⟨{}, [(2, { present := true, lens := 1 })]⟩ }
    let filled : Tbl SlotSt := ⟨{}, [(262, { valid := 100000 })]⟩
    let bank := desc 0x20 [(32, 1, 1), (33, 1, 1), (34, 1, 2), (44, 4, 999), (48, 1, 3)] 6 100
    let delay := desc 0x20 [(32, 1, 3), (33, 1, 1), (34, 1, 2), (35, 1, 5), (40, 4, 1001)] 0 0
    let hand := desc 0x20 [(32, 1, 2), (33, 1, 1), (34, 1, 2), (36, 1, 3)] 0 0
    let s (d : Desc) : State := front { withPkg up pkg with prots := ⟨{}, [(2, { chains := [2] })]⟩, chSlots := filled } (entry 3 d)
    (s bank).Runs 3 1 (focusForm 3 1 (s bank)) (entry 3 bank) ∧ (s delay).Runs 3 1 (focusForm 3 3 (s delay)) (entry 3 delay) ∧
    (on (s hand) (.chain 1 3)).Runs 3 1 (focusForm 3 2 (on (s hand) (.chain 1 3))) (entry 3 hand) ∧
    (s bank).chainNamed 1 2 = true ∧ 0 < bank.num 48 1 ∧ bank.num 48 1 ≤ 128 ∧ bank.length = 2 * bank.num 48 1 ∧
    ((s bank).unit (.chain 1 2)).st = .off ∧ (∀ v : Int, v ∈ [1, -0x8000, 0x7FFF] → -0x8000 ≤ v ∧ v < 0x8000) ∧
    ((on (s bank) (.chain 1 2)).unit (.chain 1 2)).st ≠ .off ∧
    ((s delay).pkg.slots.get 261).en = true ∧ ((s delay).pkg.slots.get 261).chain = 2 ∧ delay.num 40 4 ≤ 1000000 ∧
    ((s delay).chSlots.get 261).delay + 1000 < delay.num 40 4 ∧
    ((List.range 64).find? fun j => ((s hand).pkg.prots.get j).present && ((s hand).pkg.prots.get j).lens = 1 &&
      ((s hand).prots.get j).chains.contains 2) = some 2 ∧
    ((s hand).pkg.chains.get 34).rate = ((s hand).pkg.chains.get 35).rate ∧
    ((s hand).pkg.chains.get 34).preset = ((s hand).pkg.chains.get 35).preset ∧
    ((s hand).chainSlots 1 2).length = ((s hand).chainSlots 1 3).length ∧ ((s hand).prots.get 2).switch = [] ∧ (s hand).chainNamed 1 3 = true ∧
    (on (s hand) (.chain 1 3)).unitOn (.chain 1 3) = true ∧ (on (s hand) (.chain 1 3)).chainFilling 1 3 = false := by
  refine ⟨?_, ?_, ?_, ?_⟩ <;> first | decide +kernel | (constructor <;> decide +kernel)

theorem witness_key_rotation :
    let pkg : Package := { svs := ⟨{}, [(9, { en := true })]⟩, gss := ⟨{}, [(9, { en := true, alg := 1 })]⟩,
                           gps := ⟨{}, [(9, { en := true, alg := 2 })]⟩ }
    let d (k : Nat) : Desc := desc 0x24 [(32, 1, k), (34, 2, 9), (36, 1, 5)]
    let s (k : Nat) : State :=
      { front (withPkg up pkg) (entry 0 (d k)) with
        obs := { slots := ⟨{}, [(5, { attr := 32 * 65536 + 1 + 8 + 16384 })]⟩ } }
    let form : DescForm := { opcode := 0x24, used := [(32, 1), (34, 3)], may := fun _ => (0 : Fin 64).val = 0 }
    (s 0).Runs 0 1 form (entry 0 (d 0)) ∧ (s 1).Runs 0 1 form (entry 0 (d 1)) ∧ (s 2).Runs 0 1 form (entry 0 (d 2)) ∧
    4 ≤ (d 0).num 36 1 ∧ (d 0).num 34 2 < 64 ∧ ((s 0).pkg.svs.get 9).en = true ∧
    (s 0).keyCheck 5 (algBit ((s 0).pkg.svs.get 9).alg) ((s 0).svOwners 9) = none ∧
    (s 1).keyCheck 5 (algBit ((s 1).pkg.gss.get 9).alg) [((s 1).pkg.gss.get 9).slice] = none ∧
    (s 2).keyCheck 5 (algBit ((s 2).pkg.gps.get 9).alg) [((s 2).pkg.gps.get 9).slice] = none := by
  refine ⟨?_, ?_, ?_, ?_⟩ <;> first | decide +kernel | (constructor <;> decide +kernel)

/-- A converter whose arm 0 has lane 3. -/
def converter (c : CnvSt) (x : ArmSt) (k : ArmCfg := {}) (b : BeamSt := {}) : State :=
  on (on (withPkg { up with cnv := c, arms := ⟨{}, [(0, x)]⟩, beams := ⟨{}, [(3, b)]⟩ }
    { cnv := { present := true, tp := 2 }, tps := ⟨{}, [(2, { mode := .periodic, period := 100000 })]⟩,
      arms := ⟨{}, [(0, { k with present := true, firstLane := 3, smCount := 2 })]⟩ }) (.arm 0)) (.beam 3)

theorem witness_converter_frames :
    (∀ (c : CnvSt) (x : ArmSt) (a : Nat), ((converter c x).pkg.arms.get a).smCount ≤ 2048) ∧
    (let s := converter {} { op := .deblocked, blockAt := [(9, 0)] }
     s.cnvRuns = true ∧ s.frameDue = some (0, 0) ∧ s.svc.staged = none ∧ 0 ∈ s.armList ∧ (s.arms.get 0).op = .deblocked ∧
     (s.arms.get 0).pend = none ∧ ∃ p, p ∈ (s.arms.get 0).blockAt ∧ p.2 ≤ 0) ∧
    (converter { phase := .gather } {}).cnv.phase = .gather ∧ (converter { phase := .gather } {}).glb.halting = false ∧
    (let s := converter { phase := .compute } { ranking := true, out := some { nOn := 1 } }
     s.cnv.phase = .compute ∧ (s.arms.get 0).ranking = true ∧ (s.arms.get 0).out = some { nOn := 1 } ∧
     3 ∈ s.armLanes 0 ∧ s.unitOn (.beam 3) = true ∧ (s.arms.get 0).op ≠ .deblocked) ∧
    (let s := converter { phase := .compute } {}
     s.cnv.phase = .compute ∧ (s.arms.get 0).out = none ∧ s.unitOn (.arm 0) = true) := by
  refine ⟨?_, by decide +kernel⟩
  intro c x a
  show ((findRow [(0, ({ present := true, firstLane := 3, smCount := 2 } : ArmCfg))] a).getD {}).smCount ≤ 2048
  unfold findRow
  split <;> simp [findRow]

theorem witness_ranking_and_classes :
    (let s := converter { phase := .compute } { ranking := true } { tol := 1 }
     ((0 : Fin 8).val = 0 ∧ (s.engines.get 0).arm = 0) ∧ s.cnv.phase = .compute ∧ (s.arms.get 0).ranking = true ∧ s.engineOf 0 = some 0 ∧
     (s.arms.get 0).rankAfresh = true) ∧
    (let s := converter { phase := .compute } { ranking := true, rankAfresh := false, vmax := 5, vmin := 4 } { tol := 1 }
     s.engineOf 0 = some 0 ∧ (s.pkg.arms.get 0).tol ≤ (s.arms.get 0).vmax - (s.arms.get 0).vmin) ∧
    (let x : SmSt := { fresh := some {}, excluded := true, streak := 16 }
     x.fresh = some {} ∧ ({} : UpEntry).failed = false ∧ ({} : ArmCfg).deblockFrames ≤ x.streak) ∧
    ({ failed := true } : UpEntry).failed = true ∧
    (let x : SmSt := { age := 255, excluded := false }
     x.fresh = none ∧ ({ staleLimit := 254 } : ArmCfg).staleLimit < 255 ∧ x.age ≤ 255 ∧ x.excluded = false) ∧
    (let s := { converter {} { op := .deblocked, heldRun := 3 } with sms := ⟨{}, [(smKey 0 1, {})]⟩ }
     (s.arms.get 0).op = .deblocked ∧ 0 < (s.arms.get 0).heldRun ∧ (s.pkg.arms.get 0).holdLimit ≤ (s.arms.get 0).heldRun ∧
     smKey 0 1 ∈ s.sms.keys ∧ 3 ∈ s.armLanes 0 ∧ s.unitOn (.beam 3) = true ∧ (s.beams.get 3).out = [] ∧
     (s.beams.get 3).busyTo ≤ s.now) := by decide +kernel

theorem witness_arms_and_lanes :
    (let d := entry 0 (desc 0x61 []) .started
     let s := withJournal (converter {} { op := .pending, pend := some (9, 0, 0) }) [d]
     (s.arms.get 0).pend = some (9, 0, 0) ∧ (s.arms.get 0).op = .pending ∧ (0 : Fin 8).val ∈ s.arms.keys ∧
     (minList (((s.deblockSet 9).map s.deblockFail).filter fun z => z ≠ 0)).isSome = true ∧
     s.jEntry 9 = some d ∧ d.state = .started) ∧
    (let s := converter {} { op := .tripped, trip := true }
     (s.arms.get 0).trip = true ∧ s.windowOpen .h0 = true ∧ ({ s with glb := {} } : State).windowOpen .h0 = false ∧
     s.maskOn (s.pkg.arms.get 0).mask = false ∧
     quietAt (s.arms.get 0).maskHist s.qualNs (s.now + 1) = true) ∧
    (let s := { converter {} { trip := true } { mask := 1 } with lanes := ⟨[], [(0, [66])]⟩ }
     s.maskOn (s.pkg.arms.get 0).mask = true) ∧
    (let s := converter { phase := .gather, fnum := 2 ^ 32 + 9 } { op := .deblocked } {} { locked := true }
     let fr : UplinkFrame := { lane := 3, concBlocked := true, cstat := 0x700, fnum := 9, cfEcho := 100, deltaEcho := 2000, entries := [{ vcap := 5 }] }
     cnvPresent = true ∧ (s.beams.get 3).locked = true ∧ calBusy ((s.flushBeam 3).beams.get 3) = false ∧
     (s.unit (.beam 3)).st = .on ∧ { fr with crcOk := false }.crcOk = false ∧ { fr with lane := 4 }.lane ≠ (3 : Fin 64).val ∧
     fr.crcOk = true ∧ fr.syncOk = true ∧ fr.lane = (3 : Fin 64).val ∧ fr.regular = true ∧ fr.concBlocked = true ∧
     (s.arms.get 0).op = .deblocked ∧ (s.arms.get 0).trip = false ∧ (s.beams.get 3).cfault ≠ fr.cstat / 256 % 256 ∧
     (0 : Nat) < (s.pkg.arms.get 0).smCount ∧
     ({ s with cnv := { s.cnv with phase := .compute } } : State).cnv.phase ≠ .gather ∧ s.cnvRuns = true ∧ fr.cfEcho * 100 = s.pkg.cnv.cf ∧ fr.deltaEcho = s.pkg.cnv.delta ∧
     fr.fnum = s.cnv.fnum % 2 ^ 32 ∧ s.now + 400 ≤ s.cnv.tickAt + s.pkg.cnv.cf * 3 / 10 ∧ s.laneArm 3 = some (0, 0) ∧
     fr.entries[0]? = some { vcap := 5 } ∧ ({ vcap := 5 } : UpEntry).fresh = true) ∧
    ((withUnit (converter {} {}) (.beam 3) { st := .starting }).unit (.beam 3)).st = .starting ∧
    (let s := converter { phase := .emit } {} {} { calSent := some 99 }
     ((s.flushBeam 3).beams.get 3).calSent = some 99 ∧ s.now ≤ 99 + 10000000 ∧
     (let t : State := { s with now := 10000100 }
      ((t.flushBeam 3).beams.get 3).calSent = some 99 ∧ 99 + 10000000 < t.now) ∧
     (((s.upTo (lastStart (s.beams.get 3))).flushBeam 3).beams.get 3).calSent = some 99) ∧
    calBusy (((withUnit (converter {} {}) (.beam 3) { st := .starting }).flushBeam 3).beams.get 3) = false ∧
    (withUnit (converter {} {}) (.beam 3) { st := .starting }).cnvRuns = true := by decide +kernel

theorem witness_pwm :
    let s (x : PwmSt) (c : PwmCfg) : State :=
      on (withPkg { up with pwms := ⟨{}, [(31, x)]⟩, mlk := { grant := true } } { pwms := ⟨{}, [(31, { c with present := true })]⟩ })
        (.pwm 31)
    (31 : Fin 32).val < pwmCount ∧ ((s {} {}).pwmCfg 31).present = true ∧
    (s { running := true } {}).pwmNext 31 = some 1000 ∧ (s { running := true } {}).unitOn (.pwm 31) = true ∧
    (s {} {}).maskOn 1 = false ∧ ({ s {} {} with lanes := ⟨[], [(0, [66])]⟩ } : State).maskOn 1 = true ∧
    ({ s {} {} with mlk := {} } : State).mlk.grant = false ∧ ((s {} {}).pwms.get 31).blocked = false ∧
    ((s {} {}).pwms.get 31).gated = false ∧ (s {} {}).mlk.grant = true ∧
    (let x : PwmSt := { cutRun := 100 }
     x.stuck = false ∧ 0 < x.cutRun ∧ ({} : PwmCfg).stuckN ≤ x.cutRun) ∧
    (let x : PwmSt := { running := true }
     x.running = true ∧ 0 < ({} : PwmCfg).period ∧ x.syncLost = false) ∧
    (let x : PwmSt := {}
     x.running = false ∧ x.syncLost = false ∧ x.nextStart = none ∧ { x with nextStart := some 5 }.nextStart ≠ none) ∧
    (s {} {}).windowOpen .h0 = true ∧ State.reset.windowOpen .h0 = false ∧
    ((s { trip := true } {}).pwms.get 31).trip = true ∧
    quietAt ((s { trip := true } {}).pwms.get 31).maskHist (s {} {}).qualNs ((s {} {}).now + 1) = true := by decide +kernel

/-! ## Switch core, time base, host rings -/

/-- Ports 0, 1 and 3 are ON with their links up, and port 6 is the second host port. -/
def switch (w : SwcSt) (p : Package := {}) : State :=
  let up1 (s : State) (k : Nat) : State :=
    on { s with swc := { s.swc with ports := s.swc.ports.set k { s.swc.ports.get k with link := true } } } (.port k)
  withPkg (up1 (up1 (up1 { up with swc := w, hif := { ports := ⟨{ up := true }, []⟩ } } 0) 1) 3)
    { p with ports := ⟨{ configured := true, vlans := [5] }, []⟩ }

theorem witness_frames_at_ports :
    let cam (c : Nat) (ps : BitVec 24) : Package :=
      { cam := ⟨{}, [(1, { en := true, addr := 0x20, anyVlan := true, ports := ps, clsEn := true, cls := c })]⟩ }
    let fr : EthFrame := { dst := 0x20, vlan := some 5 }
    let ports (s : State) (ps : BitVec 24) : List Nat := (List.range portCount).filter fun q => ps.getLsbD q && q ≠ 0 && s.portUp q
    (let s := switch {} (cam 2 2)
     s.portUp 0 = true ∧ fr.fcsOk = true ∧ 64 ≤ fr.len ∧ fr.len ≤ (s.portCfg 0).maxLen ∧ groupAddr fr.src = false ∧
     fr.ethertype ≠ 0x8808 ∧ fr.sTag = none ∧ { fr with sTag := some 5 }.sTag ≠ none ∧ s.vlanMember 0 (vlanOf fr) = true ∧
     (s.camMatch fr.dst (vlanOf fr)).map (·.1) = some 1 ∧ s.frameClass false fr < 5 ∧ ports s 2 = [1] ∧
     s.receives 0 s.now fr = true ∧ s.receives 4 s.now fr = false ∧ (s.swc.waiting.any fun w => w.ingress = 0) = false) ∧
    (let s := on (withSlice (switch {} (cam 2 2)) 3 { st := .active, port := 1, mac := 0x40, vlans := [5] }) (.slice 3)
     let own (f : EthFrame) : Bool := s.hif.slices.rows.any fun r => r.2.port = 6 - 5 && s.unitOn (.slice r.1) &&
       r.2.mac = f.src && (vlanOf f = 0 || r.2.vlans.contains (vlanOf f))
     let f : EthFrame := { fr with src := 0x40 }
     s.receives 6 s.now f = true ∧ own f = true ∧ own { f with vlan := some 6 } = false ∧ own { f with src := 0x42 } = false ∧
     s.vlanMember 6 (vlanOf f) = true ∧ s.frameClass true f < 5 ∧ groupAddr f.src = false) ∧
    (let s := switch {} (cam 6 0xA)
     5 ≤ s.frameClass false fr ∧ ports s 0xA = [1, 3] ∧ s.losslessFits (s.frameClass false fr) (cellsOf fr) [1, 3] = true ∧
     (s.swc.waiting.any fun w => w.ingress = 0 && w.cls = s.frameClass false fr) = false) ∧
    (let w : Waiting := { ingress := 1, cls := 6, cells := 500, ports := [1, 3] }
     let s := switch { queues := ⟨[], [(8 * 3 + 6, [{ cells := 500 }])]⟩, waiting := [w] } (cam 6 0xA)
     s.losslessFits (s.frameClass false fr) (cellsOf fr) (ports s 0xA) = false ∧
     s.heldCells 0 (s.frameClass false fr) + cellsOf fr ≤ 256) ∧
    (groupAddr 1 = true ∧ (1523 : Nat) > ((switch {}).portCfg 0).maxLen) := by decide +kernel

theorem witness_waiting_and_transmission :
    let top (s : State) (p : Nat) : Option (Nat × QEntry) := (s.topCopy p).map fun x => (x.1, x.2.1)
    let w (cells : Nat) : Waiting := { id := 7, ingress := 1, cls := 6, cells := cells, ports := [1, 3] }
    (let s := switch { waiting := [w 2] }
     s.firstWaiting 1 6 = some (w 2) ∧ s.nextAdmit 6 = some (1 : Fin 24).val ∧ (w 2).ports.Nodup) ∧
    (let s := switch { waiting := [w 5000] }
     s.firstWaiting 1 6 = some (w 5000) ∧ s.losslessFits 6 5000 [1, 3] = false ∧ s.swc.mcEvent.get 1 = none) ∧
    (let s := switch { queues := ⟨[], [(8 * 1 + 2, [{ id := 3 }])]⟩ }
     s.portUp 1 = true ∧ top s 1 = some (2, { id := 3 }) ∧ s.queue 1 2 = { id := 3 } :: []) ∧
    (let w : Waiting := { id := 7, since := 5 }
     w.since + 20000 < ({ up with now := 20006 } : State).now) ∧
    (let f : EthFrame := { app := some (.message 2 3 [1]) }
     let s := switch { queues := ⟨[], [(8 * 9 + 4, [{ id := 3 }])]⟩, stored := [{ id := 3, frame := f }] }
     let t := { s with lenses := ⟨{ pstate := .run }, []⟩ }
     let t := on t (.lens 1)
     t.portUp 9 = true ∧ top t 9 = some (4, { id := 3 }) ∧ t.queue 9 4 = [{ id := 3 }] ∧
     (t.storedAt 3).frame.app = some (.message 2 3 [1]) ∧ ({} : EthFrame).app = none) ∧
    (let s := withSlice (switch { queues := ⟨[], [(8 * 6 + 2, [{ id := 3, slice := 4 }])]⟩ }) 4 { weight := 1 }
     s.portUp 6 = true ∧ top s 6 = some (2, { id := 3, slice := 4 }) ∧
     s.recvRing 4 0 = none) ∧
    (let s := switch { learned := [{ addr := 5, seen := 3 }, { addr := 6, seen := 9 }] }
     minList (s.swc.learned.map (·.seen)) = some 3) ∧
    (let s := switch {}
     (s.swc.ports.get 0).link = true ∧ ((s.updPort 0 fun p => { p with link := false }).swc.ports.get 0).link = false ∧
     (s.unit (.port 0)).st = .on ∧ s.hw.xcvrNoPwr.getLsbD 0 = false) := by decide +kernel

theorem witness_servo :
    let s (c : ColSt) : State := withPkg { up with col := c } { col := { gmCapable := true } }
    (s {}).pkg.col.ptpMode ≠ 2 ∧ (s {}).mlk.mmDown = false ∧
    (let c : ColSt := { st := .acquiring, master := some 5, slavePort := 2, smallRun := 15 }
     c.master ≠ none ∧ c.slavePort = (2 : Fin 5).val ∧ c.st = .acquiring ∧ 15 ≤ c.smallRun ∧ (100 : Int).natAbs ≤ 100 ∧
     (s c).glb.phase = .running ∧ (s c).glb.run = true) ∧
    (let c : ColSt := { st := .locked, master := some 5, slavePort := 2, largeRun := 2 }
     c.st = .locked ∧ 1000 < (1001 : Int).natAbs ∧ 2 ≤ c.largeRun) ∧
    (let c : ColSt := { st := .holdover, master := some 5, first := true }
     c.st = .holdover ∧ c.first = true ∧ c.master ≠ none ∧
     10 < ({ s { c with holdTemp := 20 } with hw := { coldTemp := 31 } }.hw.coldTemp - 20).natAbs) ∧
    ({ s {} with glb := { restartWarm := true, phase := .boot } }.warmUnderWay = true ∧ (s {}).warmUnderWay = false) ∧
    (({ passive := true } : Announce).gm = false ∧ ({} : Announce).passive = false) ∧
    ((1 : Nat) ≠ (s {}).pkg.col.domain ∧ ({ gm := true } : Announce).domain = (s {}).pkg.col.domain ∧
     (s {}).pkg.col.gmCapable = true ∧ ({} : Announce).gm = false ∧ ({} : Announce).selected = true) := by decide +kernel

theorem witness_time_pulses_and_settings :
    let s (c : ColSt) (g : Glb) : State :=
      withPkg { State.reset with glb := g, col := c }
        { tps := ⟨{}, [(2, { mode := .periodic, period := 1000 })]⟩, col := { ppsEn := true, ppsTp := 2 } }
    (s {} { phase := .setup }).tpNext 2 = some (1, 1000) ∧ (s {} {}).tpBefore 2 1000 = false ∧
    (let two : State := withPkg State.reset { tps := ⟨{ mode := .periodic, period := 1000 }, []⟩ }
     two.tpNext 2 = some (1, 1000) ∧ two.tpBefore 2 1000 = true) ∧ (s {} {}).pkg.col.ppsEn = true ∧ (s {} {}).pkg.col.ppsTp = (2 : Fin 16).val ∧
    (s {} { phase := .setup }).windowOpen .h0 = true ∧ (s {} {}).windowOpen .h1 = false ∧ (s {} {}).windowOpen .mm = false ∧
    (s {} { phase := .setup }).windowOpen .mm = true ∧
    ((999999999 : Word).toNat % 2 ^ 30 < 1000000000 ∧ 1000000000 ≤ (1000000000 : Word).toNat % 2 ^ 30) ∧
    (s {} { phase := .setup }).glb.run = false ∧ (s {} { phase := .setup }).col.st = .freerun ∧
    (s {} { phase := .setup }).col.setNs < 10 ^ 9 ∧
    (5 ≠ (s {} { run := true, phase := .running }).col.setNs ∧ (s {} { run := true, phase := .running }).glb.run = true) ∧
    (0x80000000 : Word).getLsbD 31 = true ∧ (0x80000000 : Word).setWidth 16 = (s {} {}).col.setShi ∧
    (s { st := .locked } {}).col.st ≠ .freerun := by decide +kernel

/-- Slice 3 is polled on host port 1, with ring 1. -/
def host (x : SliceSt) : State :=
  on (withSlice { up with hif := { ports := ⟨{ up := true }, []⟩ }, mlk := { grant := true } } 3 { x with port := 1 }) (.slice 3)

theorem witness_polls_and_takes :
    let x : SliceSt := { ringed 1 false with unexecLimit := 16 }
    let s := host x
    (s.polls 3 = true ∧ (s.slice 3).pollOut = false ∧ s.pollBehind 3 (max (max (s.pollDue 3) s.now) 0) = false) ∧
    (let s := host { x with pollOut := true }
     (s.slice 3).pollOut = true ∧ (s.sq 3 1).st ≠ .off ∧ (s.sq 3 1).st ≠ .destroying ∧
     ([16] : List Nat)[0]? = some 16 ∧ (16 + 2 ^ 32 - (s.sq 3 1).head) % 2 ^ 32 ≤ (s.sq 3 1).depth) ∧
    (let s := host { st := .active, pollOut := true, empty := 99, curUs := 999 }
     (∀ r, r < 8 → (s.sq 3 r).st = .off) ∧ (s.slice 3).took = false ∧ (s.slice 3).counted = false ∧
     100 ≤ (s.slice 3).empty + 1 ∧ (s.slice 3).curUs < 1000) ∧
    (s.readable 3 1 = true ∧ s.jEntry (s.hif.jseq + 1) = none ∧ (s.sq 3 1).nextSeq = ({} : Desc).seq ∧
     ({ seq := 0 } : Desc).seq < (s.sq 3 1).nextSeq ∧ (s.sq 3 1).nextSeq < ({ seq := 2 } : Desc).seq ∧
     (s.sq 3 1).gapSeen = false) := by decide +kernel

theorem witness_completions :
    let fin : JEntry := { entry 3 {} .completed with sealed := true, status := 5 }
    (let s := withJournal (host (ringed 1 false)) [fin]
     s.resetting 3 = false ∧ s.nextCompletion 3 1 = some fin ∧ (s.sq 3 1).cq < 8 ∧ s.nextStart 3 1 = none ∧
     (s.slice 3).paused = false ∧ (s.slice 3).silent = false ∧ (s.slice 3).dirty.on = false ∧ s.heldAt 3 = none) ∧
    (let s := withJournal (host (ringed 1 false)) [entry 3 (desc 0xEE [])]
     s.nextStart 3 1 = some (entry 3 (desc 0xEE [])) ∧ s.jEntry 9 = some (entry 3 (desc 0xEE [])) ∧
     unassigned (desc 0xEE []) = true) ∧
    (let q : CqSt := { firstAt := some 4, coalT := 1, vector := 7 }
     q.firstAt = some 4 ∧ q.coalT ≠ 0 ∧ q.vector < 8 ∧ ({} : HifSt).maskedVec.get (512 + 31) = true ∧
     ({ maskedVec := ⟨true, [(543, false)]⟩ } : HifSt).maskedVec.get (512 + 31) = false) ∧
    ((15 : Nat) < 16 ∧ (63 : Nat) < 64) ∧
    (let s := host (ringed 1 false)
     s.hif.flushes = [] ∧ (∀ e, e ∈ (s.hif.ports.get 1).held → ∃ k w, e = .host k w ∧ (s.slice k).port = 1) ∧
     (0 : Fin 2).val = (s.slice 0).port ∧ (s.hif.ports.get 1).up = true ∧ (State.reset.hif.ports.get 1).up = false) ∧
    (let d := desc 0x81 [(33, 1, 9)]
     let s := front up (entry 0 d)
     s.badSub 0 d = some { dirtyForm 0 0 with sub := none } ∧ s.Runs 0 1 { dirtyForm 0 0 with sub := none } (entry 0 d)) := by
  refine ⟨?_, ?_, ?_, ?_, ⟨?_, fun e h => (by cases h), ?_⟩, rfl, ?_⟩ <;>
    first | decide +kernel | (constructor <;> decide +kernel)

theorem witness_ring_descriptors :
    let nop := desc 0 []
    let sq := desc 1 [(33, 1, 5), (36, 4, 64), (40, 8, 8192), (48, 8, 5)]
    let cq := desc 1 [(32, 1, 1), (33, 1, 5), (34, 1, 1), (35, 1, 3), (36, 4, 64), (40, 8, 8192), (48, 1, 1), (49, 1, 2)]
    let s (d : Desc) : State := front up (entry 3 d)
    (s nop).Runs 3 1 { opcode := 0 } (entry 3 nop) ∧ (s sq).Runs 3 1 { opcode := 1, used := [(32, 24)] } (entry 3 sq) ∧
    (s cq).Runs 3 1 { opcode := 1, used := [(32, 24)] } (entry 3 cq) ∧
    (sq.num 34 1 ≤ 1 ∧ sq.num 32 1 = 0 ∧
      (sqInRange 3 (sqParams sq) fun c => ((s sq).cq 3 c).on && !((s sq).cq 3 c).receive) = true ∧ ((s sq).sq 3 5).st = .off) ∧
    (cq.num 34 1 ≤ 1 ∧ cq.num 32 1 = 1 ∧ (cqParams cq).receive = true ∧ cq.num 48 1 ≤ 4 ∧ cqInRange (cqParams cq) = true ∧
      ((s cq).cq 3 5).on = false) := by
  refine ⟨?_, ?_, ?_, ?_⟩ <;> first | decide +kernel | (constructor <;> decide +kernel)

theorem witness_ring_destroy_and_unit_control :
    let des (k c : Nat) : Desc := desc 2 [(32, 1, k), (33, 1, c)]
    let ctl (en : Nat) : Desc := desc 4 [(32, 1, 0), (33, 1, 2), (35, 1, en)]
    let s (d : Desc) : State := front up (entry 3 d)
    let c (d : Desc) (x : UnitSt) : State := withPkg (withUnit (front up (entry 0 d)) (.port 2) x) { en := [(.port 2, true)] }
    let ctlForm : DescForm := { s0Form 0 4 none [(32, 4)] with
      present := fun d => match ctrlUnit d with | some u => unitPresent u | none => true }
    (s (des 0 1)).Runs 3 1 { opcode := 2, used := [(32, 2)] } (entry 3 (des 0 1)) ∧
    (s (des 1 0)).Runs 3 1 { opcode := 2, used := [(32, 2)] } (entry 3 (des 1 0)) ∧
    (s (des 1 7)).Runs 3 1 { opcode := 2, used := [(32, 2)] } (entry 3 (des 1 7)) ∧
    (c (ctl 1) {}).Runs 0 1 ctlForm (entry 0 (ctl 1)) ∧ (c (ctl 0) { en := true }).Runs 0 1 ctlForm (entry 0 (ctl 0)) ∧
    ((s (des 0 1)).sq 3 1).st ≠ .off ∧ (s (des 1 0)).cqNamed 3 0 = true ∧ (s (des 1 7)).cqNamed 3 7 = false ∧
    (ctrlUnit (ctl 1) = some (.port 2) ∧ (c (ctl 1) {}).configured (.port 2) = true ∧ (ctl 1).num 35 1 = 1 ∧
      ((c (ctl 1) {}).unit (.port 2)).fenced = false ∧ ((c (ctl 1) {}).unit (.port 2)).st = .off ∧
      ((c (ctl 1) { fenced := true }).unit (.port 2)).fenced = true ∧
      ((c (ctl 0) { en := true, st := .starting }).unit (.port 2)).st = .starting ∧
      ((c (ctl 0) { en := true }).unit (.port 2)).st ≠ .starting ∧ (ctl 0).num 35 1 = 0 ∧
      ((c (ctl 0) { en := true }).unit (.port 2)).st ≠ .on) ∧
    (let x := ringed 1 false
     let s := withJournal (withSlice up 3 { x with sqs := x.sqs.setIfInBounds 1 { st := .destroying, destroyBy := [9] } })
       [entry 3 (des 0 1) .started]
     (s.sq 3 1).st = .destroying ∧ (∀ z, z ∈ s.ringJ 3 1 → z.jseq ∈ (s.sq 3 1).destroyBy) ∧ 9 ∈ (s.sq 3 1).destroyBy ∧
     s.jEntry 9 = some (entry 3 (des 0 1) .started)) := by
  refine ⟨?_, ?_, ?_, ?_, ?_, ?_⟩ <;> first | decide +kernel | (constructor <;> decide +kernel)

theorem witness_service_descriptor :
    let d := desc 3 [(32, 1, 8), (33, 1, 77)]
    let s := front up (entry 0 d .accepted 9 7) true
    let t : State := { s with svc := { running := some {} } }
    let form : DescForm := { opcode := 3, used := [(32, 2), (40, 20)], buf := true, service := true, may := fun _ => (0 : Fin 64).val = 0 }
    s.Runs 0 7 form (entry 0 d .accepted 9 7) ∧ t.Runs 0 7 form (entry 0 d .accepted 9 7) ∧ 0 < d.num 32 1 ∧ d.num 32 1 < 9 ∧
    s.svc.running = none ∧ s.glb.phase ≠ .bootFailed ∧ t.svc.running ≠ none := by
  refine ⟨?_, ?_, ?_⟩ <;> first | decide +kernel | (constructor <;> decide +kernel)

theorem witness_frame_tx_and_glint :
    let tx := desc 0x10 [(32, 2, 7), (34, 1, 6)] 60 4096
    let gl (d : Nat) : Desc := desc 0x11 [(32, 1, 3), (33, 1, d), (34, 2, 9), (36, 1, 3), (37, 1, 4)]
    let s := front (withPkg up { ports := ⟨{ configured := true }, []⟩ }) (entry 3 tx)
    let g (d : Nat) (x : GlintSt) : State :=
      let s := front up (entry 0 (gl d))
      let y : SliceSt := { cqs := (Vector.replicate 8 ({} : CqSt)).setIfInBounds 4 { on := true, receive := true } }
      { withSlice s 3 y with swc := { glint := ⟨{}, [(3, x)]⟩ } }
    let form : DescForm := { opcode := 0x11, used := [(32, 1), (33, 1), (34, 2), (36, 1), (37, 1)],
                             may := fun _ => (0 : Fin 64).val = 0,
                             present := fun d => decide (d.num 32 1 < portCount) || decide (23 < d.num 32 1) }
    let pair := { s with mlk := { s.mlk with partner := .inService } }
    s.Runs 3 1 { opcode := 0x10, used := [(32, 2), (34, 1)], buf := true } (entry 3 tx) ∧
    pair.Runs 3 1 { opcode := 0x10, used := [(32, 2), (34, 1)], buf := true } (entry 3 tx) ∧ pair.paired = true ∧
    (g 0 {}).Runs 0 1 form (entry 0 (gl 0)) ∧ (g 1 {}).Runs 0 1 form (entry 0 (gl 1)) ∧
    (g 2 { dir := 1, slice := 5 }).Runs 0 1 form (entry 0 (gl 2)) ∧
    (60 ≤ tx.length ∧ tx.length + 8 ≤ s.minMaxLen ∧ tx.num 32 2 < 4096 ∧ tx.num 34 1 < 8) ∧
    (let s := withSlice up 3 { mac := 2, vlans := [7] }
     s.paired = false ∧ s.swc.unsealed = [] ∧
     ({ src := 2 } : EthFrame).src = (s.slice 3).mac ∧ (s.slice 3).vlans.contains 7 = true ∧
     ({ src := 4 } : EthFrame).src ≠ (s.slice 3).mac) ∧
    ((gl 1).num 32 1 < 24 ∧ (gl 0).num 33 1 = 0 ∧ 0 < (gl 2).num 33 1 ∧ (gl 2).num 33 1 < 3 ∧
      ((g 0 {}).swc.glint.get 3).toMM = false ∧ ((g 1 {}).swc.glint.get 3).dir = 0 ∧ 0 < (gl 1).num 34 2 ∧
      ((g 1 {}).cq 3 4).on = true ∧ ((g 1 {}).cq 3 4).receive = true ∧
      ((g 2 { dir := 1, slice := 5 }).swc.glint.get 3).slice ≠ (gl 2).num 36 1 ∧ (gl 3).num 33 1 = 3 ∧
      (s.swc.glint.get (5 + 0)).dir ≠ 1) := by
  refine ⟨?_, ?_, ?_, ?_, ?_, ?_, ?_⟩ <;> first | decide +kernel | (constructor <;> decide +kernel)

/-! ## Descriptors of the plant, recorder reads, slices -/

theorem witness_logic_and_converter_descriptors :
    let go (k : Nat) : Desc := desc 0x30 [(32, 1, k), (33, 1, 2)]
    let arm (k : Nat) : Desc := desc 0x40 [(32, 1, k), (33, 1, 1), (40, 8, 99)]
    let pkg : Package := { logic := ⟨{}, [(2, { present := true, lens := 1 })]⟩, arms := ⟨{}, [(0, { present := true })]⟩ }
    let s (d : Desc) (x : LogicSt) : State :=
      on { front (withPkg up pkg) (entry 0 d) with logic := ⟨{}, [(2, x)]⟩ } (.lens 1)
    let a (d : Desc) (x : ArmSt) (g : Bool) : State :=
      let t := { front (withPkg up pkg) (entry 0 d) with arms := ⟨{}, [(0, x)]⟩ }
      { t with mlk := { t.mlk with grant := g }, glb := { t.glb with lcs := .service } }
    let busy : LogicSt := { st := .running, phase := .execute }
    (s (go 1) { st := .stopped }).Runs 0 1 (s0Form 0 0x30 (some (32, 1)) [(32, 2)]) (entry 0 (go 1)) ∧
    (s (go 2) busy).Runs 0 1 (s0Form 0 0x30 (some (32, 2)) [(32, 2)]) (entry 0 (go 2)) ∧
    (a (arm 1) {} false).Runs 0 1 (cnvForm 0 1) (entry 0 (arm 1)) ∧ (a (arm 1) {} true).Runs 0 1 (cnvForm 0 1) (entry 0 (arm 1)) ∧
    (a (arm 2) {} true).Runs 0 1 (cnvForm 0 2) (entry 0 (arm 2)) ∧
    (let t := s (go 1) { st := .stopped }
     t.progNamed 2 = true ∧ t.unitOn (.lens 1) = true ∧ (t.logic.get 2).stopAsked = false ∧ (t.logic.get 2).safeDue = none ∧
     (t.logic.get 2).committing = false ∧ (t.logic.get 2).st = .stopped ∧ (t.logic.get 2).removeAsked = false) ∧
    (let x : LogicSt := { stopAsked := true, removeAsked := true }
     x.removeAsked = true ∧ x.stopBy = [] ∧ { x with stopBy := [9] }.stopBy ≠ []) ∧
    ((s (go 1) { stopAsked := true }).logic.get 2).stopAsked = true ∧
    ((s (go 2) busy).logic.get 2).st = .running ∧ ((s (go 2) busy).logic.get 2).phase = .execute ∧
    (let x : LogicSt := { st := .running, phase := .snapshot }
     x.phase ≠ .execute ∧ x.commitDue = false ∧ x.committing = false ∧ x.removeAsked = false ∧ x.exchPending = false ∧
     x.exchStart = none) ∧
    (let t := a (arm 1) {} true
     t.armsNamed 1 = true ∧ t.mlk.grant = true ∧ (a (arm 1) {} false).mlk.grant = false ∧
     ((armsOf 1).any fun k => (t.arms.get k).op = .tripped || (t.arms.get k).trip || t.maskOn (t.pkg.arms.get k).mask) = false ∧
     ((armsOf 1).all fun k => (t.arms.get k).op = .blocked) = true ∧
     ((a (arm 1) { trip := true } true).arms.get 0).trip = true) ∧
    (a (arm 2) {} true).armsNamed 1 = true ∧
    ((armsOf 1).all fun k => ((a (arm 2) {} true).arms.get k).op = .blocked) = true ∧
    (s (go 2) { st := .stopped }).progNamed 2 = true ∧
    (let x : LogicSt := { commitDue := true, st := .running }
     x.st = .running ∧ x.commitDue = true ∧ ({ st := .stopped } : LogicSt).st = .stopped) ∧
    ((armsOf 1).all fun k => ((a (arm 2) { op := .deblocked } true).arms.get k).op = .blocked ||
      ((a (arm 2) { op := .deblocked } true).arms.get k).op = .tripped) = false := by
  refine ⟨?_, ?_, ?_, ?_, ?_, ?_⟩ <;> first | decide +kernel | (constructor <;> decide +kernel)

theorem witness_bus_control :
    let d (k : Nat) : Desc := desc 0x50 [(32, 1, k), (33, 1, 2)]
    let s (k : Nat) (x : FbcSt) (l : Lcs) : State :=
      let t := on (front (withPkg up { fbcs := ⟨{}, [(1, { schedEn := true })]⟩ }) (entry 0 (d k))) (.fbc 1)
      { t with fbcs := ⟨{}, [(1, x)]⟩, glb := { t.glb with lcs := l }, col := { gm := true } }
    let form (k : Nat) : DescForm := s0Form 0 0x50 (some (32, k)) [(32, 2)]
    (s 1 { mode := .schedule } .service).Runs 0 1 (form 1) (entry 0 (d 1)) ∧
    (s 2 {} .service).Runs 0 1 (form 2) (entry 0 (d 2)) ∧ (s 3 {} .service).Runs 0 1 (form 3) (entry 0 (d 3)) ∧
    (s 3 {} .operational).Runs 0 1 (form 3) (entry 0 (d 3)) ∧
    (s 4 { mode := .busOff } .service).Runs 0 1 (form 4) (entry 0 (d 4)) ∧
    (d 1).num 33 1 = (1 : Fin 2).val + 1 ∧ (s 1 {} .service).unitOn (.fbc 1) = true ∧
    ((s 2 {} .service).pkg.fbcs.get 1).schedEn = true ∧ (s 2 {} .service).fbTimeOk = true ∧
    ((s 2 {} .service).fbcs.get 1).mode = .arrival ∧ (s 3 {} .service).glb.lcs = .service ∧
    ((s 4 { mode := .busOff } .service).fbcs.get 1).seqDone = false ∧
    ((s 4 { mode := .busOff, seqDone := true } .service).fbcs.get 1).seqDone = true ∧
    ((s 1 { mode := .listen } .service).fbcs.get 1).mode = .listen ∧ (s 1 { mode := .listen } .service).unitOn (.fbc 1) = true ∧
    ((s 1 { mode := .busOff } .service).fbcs.get 1).mode = .busOff ∧ ((s 2 { mode := .schedule } .service).fbcs.get 1).mode = .schedule ∧
    (let f := (s 3 {} .service).fbcs.get 1
     f.mode ≠ .busOff ∧ f.retries ++ f.queue ++ f.unsealed = []) ∧
    (s 3 {} .operational).glb.lcs ≠ .service := by
  refine ⟨?_, ?_, ?_, ?_, ?_, ?_⟩ <;> first | decide +kernel | (constructor <;> decide +kernel)

theorem witness_bus_send_calibration_and_arm :
    let snd := desc 0x51 [(32, 4, 2047), (36, 1, 7), (37, 1, 64), (38, 1, 1)] 64 4096
    let cal := desc 0x41 [(32, 8, 2 ^ 63)]
    let arm (t : Nat) : Desc := desc 0x60 [(32, 1, 15), (40, 8, t)]
    let s (d : Desc) (p : Package := {}) : State := front (withPkg up p) (entry 0 d)
    let once : Package := { tps := ⟨{}, [(15, { mode := .once })]⟩ }
    (s snd).Runs 0 1 { s0Form 0 0x51 none [(32, 7)] with buf := true } (entry 0 snd) ∧
    (s cal).Runs 0 1 { s0Form 0 0x41 none [(32, 8)] with present := fun _ => cnvPresent } (entry 0 cal) ∧
    (s (arm 1000) once).Runs 0 1 (s0Form 0 0x60 none [(32, 1), (40, 8)]) (entry 0 (arm 1000)) ∧
    (s (arm 999) once).Runs 0 1 (s0Form 0 0x60 none [(32, 1), (40, 8)]) (entry 0 (arm 999)) ∧
    (snd.num 38 1 = (1 : Fin 2).val ∧ snd.num 36 1 < 8 ∧ canLength ((snd.num 36 1).testBit 0) 64 = true ∧ snd.length = 64 ∧
      (snd.num 32 4).testBit 29 = false ∧ (snd.num 32 4).testBit 30 = false ∧ snd.num 32 4 % 2 ^ 29 < 2 ^ 11 ∧
      (snd.num 36 1).testBit 2 = true ∧ (s snd).mlk.grant = true ∧ (on (s snd) (.fbc 1)).fbDepth 1 < 64) ∧
    (let t := on (s snd) (.fbc 1)
     let full : State := { t with fbcs := ⟨{}, [(1, { queue := List.replicate 64 { what := .send 1 {} false } })]⟩ }
     t.unitOn (.fbc 1) = true ∧ (t.fbcs.get 1).mode = .arrival ∧ t.paired = false ∧ (t.fbcs.get 1).unsealed = [] ∧
     64 ≤ full.fbDepth 1 ∧ ({ t with mlk := { t.mlk with partner := .inService } } : State).paired = true ∧
     ({ t with mlk := {} } : State).mlk.grant = false) ∧
    ((List.range 64).filter fun l => (cal.num 32 8).testBit l) = [63] ∧ (on (s cal) (.beam 63)).unitOn (.beam 63) = true ∧
    (s cal).unitOn (.beam 63) = false ∧
    ((s (arm 1000) once).pkg.tps.get 15).mode = .once ∧ (s (arm 1000) once).tai + 1000 ≤ (arm 1000).num 40 8 ∧
    (arm 999).num 40 8 < (s (arm 999) once).tai + 1000 := by
  refine ⟨?_, ?_, ?_, ?_, ?_⟩ <;> first | decide +kernel | (constructor <;> decide +kernel)

/-- Reads of the recorders by slice 0, on a host port that is up. -/
def read (d : Desc) (x : RecSt := {}) : State :=
  let s := front up (entry 0 d)
  { s with recs := x, hif := { s.hif with ports := ⟨{ up := true }, []⟩ } }

theorem witness_snapshot_reads :
    let live := desc 0x70 [(36, 4, 1), (40, 8, 4095)] 272 4096
    let log := desc 0x70 [(32, 1, 1), (36, 4, 4096), (40, 8, 2)] 1048592 4096
    let loupe := desc 0x70 [(32, 1, 2), (33, 1, 15), (34, 1, 3)] 65552 4096
    let dump := desc 0x70 [(32, 1, 3), (34, 1, 15)] 4096 4096
    (read live).Runs 0 1 (snapForm 0 fun _ => true) (entry 0 live) ∧ (read log).Runs 0 1 (snapForm 1 fun _ => true) (entry 0 log) ∧
    (read loupe).Runs 0 1 { snapForm 2 fun _ => true with
      present := fun d => decide (15 < d.num 33 1 ∨ d.num 33 1 < lensCount) } (entry 0 loupe) ∧
    (read dump).Runs 0 1 (snapForm 3 fun _ => true) (entry 0 dump) ∧
    (live.num 40 8 + live.num 36 4 ≤ 4096 ∧ 16 + 256 * live.num 36 4 ≤ live.length ∧ log.num 36 4 ≤ 4096 ∧
      16 + 256 * (((read log).recs.evr.log.filter fun x => decide (2 ≤ x.rseq)).take 4096).length ≤ log.length ∧ 16 + 65536 ≤ loupe.length ∧ loupe.num 33 1 < 16 ∧ loupe.num 34 1 < 4 ∧
      dump.num 34 1 < 16) ∧
    (((read loupe { loupes := ⟨{}, [(63, { st := .done })]⟩ }).recs.loupes.get 63).st = .done ∧
      ((read loupe).recs.loupes.get 63).st ≠ .done ∧ findRow (read dump).recs.dumpSlots 15 = none ∧
      findRow (read dump { dumpSlots := [(15, {})] }).recs.dumpSlots 15 = some {}) ∧
    ((read live).slice 0).paused = false ∧ ((read live).slice 0).silent = false ∧ (read live).heldAt 0 = none ∧
    ((read live).slice 0).dirty.on = false := by
  refine ⟨?_, ?_, ?_, ?_, ?_⟩ <;> first | decide +kernel | (constructor <;> decide +kernel)

/-- READ_CHANNEL_TABLE with a buffer as long as the firmware's table asks for. -/
theorem witness_channel_table :
    let d := desc 0x70 [(32, 1, 4)] (Config.channelTable.length + 16) 4096
    (read d).Runs 0 1 (snapForm 4 fun _ => true) (entry 0 d) ∧ 16 + Config.channelTable.length ≤ d.length := by
  have next (s : State) (e : JEntry) (h : s.readyStart 0 1 = some e) (h1 : readOut e.desc = none)
      (h2 : ∀ uses, s.waiting 0 (moved e.desc) uses = [(0, moved e.desc)]) (h3 : 0 < (s.slice 0).weight)
      (h4 : s.hif.rounds.get (s.slice 0).port = {}) : s.nextStart 0 1 = some e := by
    obtain ⟨rd, h5⟩ := drr_alone (fun k => (s.slice k).weight * 256) 0 (moved e.desc) (by omega)
    simp only [State.nextStart, h, State.turns, State.dmaTurn, h1, h2, h4, h5]
    split <;> simp_all
  refine ⟨⟨next _ _ rfl rfl (fun _ => rfl) (by decide +kernel) rfl, rfl, rfl, rfl, rfl, rfl, rfl, rfl, rfl⟩, ?_⟩
  show 16 + Config.channelTable.length ≤ Config.channelTable.length + 16
  omega

theorem witness_periscope_reads :
    let rd (k n : Nat) : Desc := desc 0x71 [(32, 1, k), (33, 1, 1), (34, 2, n), (40, 8, 7)] 100 4096
    let rc := desc 0x71 [(32, 1, 1), (40, 8, 7)] 100 4096
    let ix := desc 0x71 [(32, 1, 4), (40, 8, 2), (48, 4, 4096)] 100 4096
    let fl := desc 0x72 []
    (read rc { records := [{ rnum := 7 }] }).Runs 0 1 (perForm 1 fun _ => true) (entry 0 rc) ∧
    (read (rd 2 31)).Runs 0 1 (perForm 2 fun _ => true) (entry 0 (rd 2 31)) ∧
    (read (rd 3 7)).Runs 0 1 (perForm 3 fun _ => true) (entry 0 (rd 3 7)) ∧
    (read ix).Runs 0 1 (perForm 4 fun _ => true) (entry 0 ix) ∧
    (read fl).Runs 0 1 { opcode := 0x72, used := [(32, 1)], may := fun _ => (0 : Fin 64).val = 0 } (entry 0 fl) ∧
    (rc.num 33 1 < 2 ∧ (read rc { records := [{ rnum := 7 }] }).recHeld 7 = some { rnum := 7 } ∧ (read rc).recHeld 7 = none ∧
      (rd 2 31).num 34 2 < 32 ∧ (rd 2 31).num 33 1 = 1 ∧ (rd 3 7).num 34 2 < 8 ∧ 1 ≤ ix.num 48 4 ∧ ix.num 48 4 ≤ 4096 ∧
      fl.num 32 1 = 0 ∧ (read fl).recs.evr.buffer.length = 0 ∧
      (read fl { evr := { buffer := [{}] } }).recs.evr.buffer.length ≠ 0) := by
  refine ⟨?_, ?_, ?_, ?_, ?_, ?_⟩ <;> first | decide +kernel | (constructor <;> decide +kernel)

theorem witness_dirty_logs :
    let lf := desc 0x80 [(32, 1, 63)]
    let op (k : Nat) : Desc := desc 0x81 [(32, 1, 63), (33, 1, k), (36, 4, 1048576), (40, 8, 4096), (48, 8, 8)]
    let s (d : Desc) (b : Bool) : State := on (withSlice (front up (entry 0 d)) 63 { dirty := { on := b, overflow := b } }) (.slice 63)
    (s lf true).Runs 0 1 { opcode := 0x80, used := [(32, 1)], may := fun d => (0 : Fin 64).val = 0 || d.num 32 1 = (0 : Fin 64).val }
      (entry 0 lf) ∧
    (s (op 1) false).Runs 0 1 (dirtyForm 0 1) (entry 0 (op 1)) ∧ (s (op 2) true).Runs 0 1 (dirtyForm 0 2) (entry 0 (op 2)) ∧
    (s (op 3) true).Runs 0 1 (dirtyForm 0 3) (entry 0 (op 3)) ∧
    ((s lf true).recordHeld 63 = false ∧
      (let h := (s lf true).hif
       let rec_ : Emission := .host 0 (.dirty 63 0 false 0)
       ({ s lf true with hif := { h with ports := h.ports.upd 0 fun p => { p with held := [rec_] } } }).recordHeld 63 = true)) ∧
    (lf.num 32 1 < 64 ∧ ((s lf true).slice 63).dirty.on = true ∧ ((s lf false).slice 63).dirty.on = false ∧
      powerOfTwo 1024 1048576 ((op 1).num 36 4) = true ∧ (op 1).num 40 8 % 4096 = 0 ∧ (op 1).num 48 8 % 8 = 0 ∧
      (s (op 1) false).unitOn (.slice 63) = true ∧
      (withSlice (front up (entry 0 (op 1))) 63 {}).unitOn (.slice 63) = false ∧ (op 1).num 32 1 ≠ (0 : Fin 64).val) := by
  refine ⟨?_, ?_, ?_, ?_, ?_⟩ <;> first | decide +kernel | (constructor <;> decide +kernel)

theorem witness_shares :
    let d := desc 0x83 [(32, 1, 3), (33, 1, 15), (34, 1, 3), (36, 4, 1000), (40, 2, 7), (42, 2, 100), (44, 4, 5), (48, 4, 4096)]
    let s := on (withSlice (front up (entry 0 d)) 3 { st := .active }) (.slice 3)
    let full (b : Bucket) : State := withSlice { up with now := 10 } 3
      { descRate := 7, descBurst := 1, descBkt := b, byteRate := 3, byteBurst := 4096, byteBkt := b }
    s.Runs 0 1 (sliceForm 0 0x83 none [(32, 3), (36, 16)]) (entry 0 d) ∧
    (apertureFits d = true ∧ s.unitOn (.slice 3) = true ∧ (s.slice 3).st ≠ .resetting ∧
      s.limitSum 3 + d.num 42 2 ≤ 64512 ∧ (front up (entry 0 d)).unitOn (.slice 3) = false) ∧
    (let t := full { tokens := some (-10 ^ 12), at_ := 10 }
     t.descOpen 3 = false ∧ t.byteOpen 3 = false ∧ (t.slice 3).descBkt.at_ ≤ t.now ∧ 1 ≤ (t.slice 3).descBurst ∧
     (t.slice 3).late = []) ∧ s.descOpen 3 = true ∧ s.byteOpen 3 = true ∧
    (let q : CqSt := { on := true, receive := true, depth := 64, es := 64 }
     let x : RecvItem := { c := 2, ts := 0, source := 2, port := 1, bytes := [1] }
     let t := on (withSlice up 3 { st := .active, late := [x], cqs := (Vector.replicate 8 ({} : CqSt)).setIfInBounds 2 q })
       (.slice 3)
     (t.slice 3).late = [x] ∧ t.takesRecords 3 = true ∧ (t.cq 3 2).on = true ∧ (t.cq 3 2).receive = true ∧
     cqFree (t.cq 3 2) ≠ 0 ∧ (t.slice 3).byteBkt.at_ ≤ t.now) := by
  refine ⟨by constructor <;> decide +kernel, by decide +kernel⟩

theorem witness_slice_resets :
    let d (mode len : Nat) : Desc := desc 0x82 [(32, 1, 3), (33, 1, mode), (34, 2, 9)] len
    let s (mode len : Nat) (x : SliceSt) (es : List JEntry) : State :=
      withJournal (on (withSlice (front up (entry 0 (d mode len))) 3 x) (.slice 3)) ([entry 0 (d mode len)] ++ es)
    let form (mode : Nat) : DescForm := { sliceForm 0 0x82 (some (33, mode)) [(32, 9)] with buf := true }
    let x : SliceSt := { st := .active, unexecLimit := 1 }
    let open_ : JEntry := { entry 3 {} .accepted 5 with accepted := false }
    (s 1 32 x []).Runs 0 1 (form 1) (entry 0 (d 1 32)) ∧ (s 2 32 x [open_]).Runs 0 1 (form 2) (entry 0 (d 2 32)) ∧
    (s 3 32 x []).Runs 0 1 (form 3) (entry 0 (d 3 32)) ∧ (s 4 0 { x with paused := true } []).Runs 0 1 (form 4) (entry 0 (d 4 0)) ∧
    (let t := s 1 32 x []
     resetFits (d 1 32) = true ∧ t.unitOn (.slice 3) = true ∧ (t.slice 3).work = none ∧ (t.slice 3).workQueue = [] ∧
     (∀ z, z ∈ t.sliceJ 3 → z.jseq ≠ 9) ∧ ((t.sliceJ 3).any fun z => !z.accepted) = false ∧
     32 * max (t.slice 3).unexecLimit (t.unexec 3) ≤ (d 1 32).length) ∧
    (((s 2 32 x [open_]).sliceJ 3).any fun z => !z.accepted) = true ∧
    (let t := s 1 31 x [entry 3 {} .accepted 5]
     (d 1 31).length < 32 * max (t.slice 3).unexecLimit (t.unexec 3) ∧ entry 3 {} .accepted 5 ∈ t.sliceJ 3) ∧
    (resetFits (d 4 0) = true ∧ ((s 4 0 { x with paused := true } []).slice 3).paused = true ∧ ((d 4 0).num 36 4).testBit 31 = false ∧
      ((s 4 0 x []).slice 3).paused = false) := by
  refine ⟨?_, ?_, ?_, ?_, ?_⟩ <;> first | decide +kernel | (constructor <;> decide +kernel)

theorem witness_slice_work :
    let w (m : ResetMode) : ResetWork := { jseq := 9, mode := m, step := 2, limitMs := 7 }
    let e := entry 0 {} .started
    let done : JEntry := { entry 3 {} .completed 5 2 with sealed := true }
    let s (m : ResetMode) (es : List JEntry) : State :=
      withJournal (withSlice { up with hif := { ports := ⟨{ up := true }, []⟩ } } 3 { st := .resetting, work := some (w m) }) (e :: es)
    (let t := s .reset [done]
     (t.slice 3).work = some (w .reset) ∧ (t.slice 3).workQueue = [] ∧ t.jEntry 9 = some e ∧ e.state = .started ∧
     (w .reset).mode ≠ .pause ∧ (w .reset).step = 2 ∧ t.paired = false ∧
     (∀ z, z ∈ t.sliceJ 3 → t.jEntry z.jseq = some z ∧ z.jseq ≠ 9 ∧ z.accepted = true ∧ (z.sealed = true ∨ z.state = .started)) ∧
     (t.hif.ports.get 0).up = true) ∧
    (s .remove []).slice 3 = { st := .resetting, work := some (w .remove) } ∧
    ((s .pause []).sliceJ 3 = [] ∧ (w .pause).mode = .pause ∧ (s .pause []).writeHeld 3 = false) := by decide +kernel

/-! ## Units, bring-up, restarts, supply -/

theorem witness_units :
    let s (u : UnitId) (x : UnitSt) (run : Bool) : State :=
      withPkg (withUnit { up with glb := { phase := .setup, run := run } } u x) { en := [(u, true)] }
    let p : UnitId := .port 2
    (let t := s p {} false
     t.windowOpen .h0 = true ∧ unitInRange p = true ∧ unitPresent p = true ∧ (t.unit p).en ≠ true ∧ t.glb.run = false ∧
     (∀ i, p ≠ .slice i) ∧ t.configured p = true ∧ (t.unit p).fenced = false ∧ (t.unit p).st = .off) ∧
    (s p {} true).glb.run = true ∧ ((s p { fenced := true } false).unit p).fenced = true ∧
    (((s p { en := true } false).unit p).en ≠ false ∧ ((s p { en := true } false).unit p).st ≠ .on) ∧
    (let t := s p { st := .starting, en := true } false
     (t.unit p).st = .starting ∧ t.unitsRun = true ∧ t.bistHolds p = false ∧ t.startable p = true ∧ (∀ n, p ≠ .pwm n)) ∧
    ((s (.pwm 1) { st := .starting } false).unit (.pwm 1)).st = .starting ∧
    (s (.slice 3) { st := .starting } false).creating 3 = false ∧
    ((let t := s (.lens 1) { st := .starting, en := true } false
      (t.unit (.lens 1)).st = .starting ∧ (t.unit (.lens 1)).en ≠ false ∧ t.lensLogic 1 = []) ∧ ∀ l, p ≠ .lens l) ∧
    (let t := s p { st := .stopping } false
     (t.unit p).st = .stopping ∧ t.stoppable p = true) ∧
    (let w : ResetWork := { jseq := 9, mode := .remove, step := 7 }
     let e := entry 0 {} .started
     let t := withJournal (withSlice (s (.slice 3) { st := .stopping } false) 3 { work := some w }) [e]
     (t.unit (.slice 3)).en = false ∧ (t.slice 3).work = some w ∧ w.step = 7 ∧ (t.slice 3).workQueue = [] ∧
     t.jEntry 9 = some e ∧ e.state = .started) := by
  simp only [ne_eq, reduceCtorEq, not_false_eq_true, implies_true, true_and]
  decide +kernel

theorem witness_bring_up :
    let s (g : Glb) (k : Ka) : State := { State.reset with glb := g, ka := k }
    let img : Image := { kind := .package }
    State.reset.ka.powerGood = false ∧ parityOk { gaPar := true } = true ∧ parityOk { gaPar := false } = false ∧
    (let t := s {} { powerGood := true }
     t.glb.phase = .kaStart ∧ t.ka.powerGood = true ∧ t.hw.pf ≠ .flushed ∧ t.hw.thermalTrip = false ∧
     t.glb.holdupReady = false) ∧
    (let t := { s { phase := .boot } {} with svc := { bankA := some {} } }
     t.glb.phase = .boot ∧ t.verifyBank false true = .good ∧ t.ka.tryBank = t.ka.nextBank ∧
     t.verifyBank false false ≠ .good ∧ t.bankResult true = .notTried) ∧
    (s { phase := .boot } { resultB := .bad }).bankResult true ≠ .notTried ∧
    (s { phase := .mmStart } {}).glb.phase = .mmStart ∧
    ((s { phase := .selfTest } {}).glb.phase = .selfTest ∧ startupPass {} = true ∧ startupPass { pllPass := false } = false ∧
      startupPass { vrefPass := false } = false ∧ startupPass { lensPass := 0x7FFF } = false ∧
      ((List.range lensCount).find? fun l => !({ lensPass := 0xFFFD } : StartupResult).lensPass.getLsbD l) = some 1) ∧
    (let t := { s { phase := .selfTest, restartWarm := true } {} with svc := { cfg0 := some img } }
     t.glb.restartWarm = true ∧ (t.lenses.rows.all fun r => !r.2.needsTest) = true ∧
     (if t.svc.active then t.svc.cfg1 else t.svc.cfg0) = some img ∧ t.glb.lcs = .operational) ∧
    ((65535 : Nat) ≤ 0xFFFF ∧ (4095 : Nat) ≤ 0xFFF ∧
      8000 ≤ ({ s {} { powerGood := true } with hw := { energy := 8000 } } : State).hw.energy) ∧
    (let t := { s { phase := .setup, holdupReady := true } {} with svc := { committed := true } }
     t.glb.run = false ∧ t.mayRun = true ∧ State.reset.mayRun = false) ∧
    (let t := s { phase := .running, run := true, lcs := .service } {}
     t.glb.run = true ∧ t.glb.lcs = .service ∧ t.glb.phase = .running ∧ t.glb.clearing = false) ∧
    (let t := withJournal (s { phase := .running, run := true, clearing := true } {}) [entry 0 {} .completed]
     let m := if t.glb.halting then t.stopIdle else t.haltWork
     let u := facet {}
     let u : State := { u with glb := { u.glb with clearing := true } }
     t.glb.clearing = true ∧ (t.hif.journal.all fun e => e.state = .completed) = true ∧ m.stillWorks = false ∧
     u.glb.clearing = true ∧ (u.hif.journal.all fun e => e.state = .completed) = true ∧ u.haltWork.stillWorks = true) ∧
    up.mayRun = false := by decide +kernel

theorem witness_restarts :
    let s (g : Glb) (k : Ka) : State := { State.reset with glb := g, ka := { k with powerGood := true } }
    let img : Image := { kind := .package }
    (let t := { s { phase := .running, run := true } {} with svc := { cfg0 := some img } }
     t.restartOpen = true ∧ t.glb.phase = .running ∧ t.ka.warmAllowed = true ∧ t.pkg.ident = t.activeIdent ∧
     t.mmRuns = true ∧ t.glb.phase ≠ .safe ∧ t.svc.staged = none) ∧
    (let t := s { phase := .boot } {}
     t.restartOpen = true ∧ t.ka.retentionValid = false ∧ t.mmRuns = false) ∧
    (let t := { s { phase := .running } {} with mlk := { role := .active, grant := true, partner := .inService }, col := { st := .locked } }
     t.ka.claimDrop = true ∧ t.paired = true ∧ t.mlk.role = .active ∧ t.col.st = .locked) ∧
    ((s { phase := .mmStart } {}).ka.bootRetried = false ∧ (s { phase := .selfTest } { bootRetried := true }).ka.bootRetried = true) ∧
    (let t := { s {} {} with mlk := { mmDown := true }, svc := { bankB := some {} } }
     t.mlk.mmDown = true ∧ t.verifyBank (!t.ka.runningBank) true = .good ∧ (s {} {}).verifyBank true true ≠ .good) ∧
    (let t := { s { phase := .running } {} with recs := { dump := some { stage := 2 }, dumpCopied := false } }
     t.mmRuns = true ∧ t.recs.dump = some { stage := 2 } ∧ t.recs.dumpCopied = false) := by decide +kernel

theorem witness_supply :
    let s (h : HwSt) (m : MlkSt) (g : Glb) : State := { up with ka := { powerGood := true }, hw := h, mlk := m, glb := g }
    let run : Glb := { phase := .running, run := true }
    (s {} {} run).ka.powerGood = true ∧ ((1359 : BitVec 12).toNat < 1360 ∧ 1360 ≤ (1360 : BitVec 12).toNat ∧
      (1399 : BitVec 12).toNat < 1400 ∧ 1400 ≤ (1400 : BitVec 12).toNat ∧ (1319 : BitVec 12).toNat < 1320) ∧
    (s {} {} run).hw.pf = .none ∧ (s { pf := .below } {} run).hw.pf = .below ∧
    ((s { pf := .below } {} {}).glb.phase ≠ .running ∧ (s { pf := .below } {} run).glb.phase = .running) ∧
    (let t := s { pf := .below } { partner := .inService, role := .active, grant := true } run
     t.paired = true ∧ t.mlk.role ≠ .offline) ∧
    (let t := withPkg (s { pf := .qualified } { role := .active, grant := true } run) { arms := ⟨{}, [(0, { present := true })]⟩ }
     t.hw.pf = .qualified ∧ t.paired = false ∧ t.mlk.grant = true ∧ 0 ∈ t.armList ∧ t.svc.staged = none) ∧
    (let t := s { pf := .blocked } {} run
     t.hw.pf = .blocked ∧ t.glb.phase = .running ∧ t.hw.returned = none) ∧
    (let t := s { pf := .blocked, returned := some true } {} run
     t.hw.returned = some true ∧ t.hw.thermalTrip = false ∧ t.hw.slotOpen = false) ∧
    (let t := s { pf := .flushed } {} {}
     t.hw.pf = .flushed ∧ t.hw.pf ≠ .none ∧ t.hw.pf ≠ .below ∧ t.hw.thermalTrip = false ∧ t.hw.slotOpen = false ∧
     t.glb.phase ≠ .safe) := by decide +kernel

theorem witness_latch_and_sensors :
    let s : State := { up with mlk := { role := .active, partner := .inService }, swc := { ports := ⟨{}, [(3, { link := true })]⟩ } }
    s.hw.latchOpen = false ∧ s.mlk.role = .active ∧ s.paired = true ∧ s.mlk.ilkFault = false ∧ up.mlk.role ≠ .active ∧
    ((0 : Fin 6).val < 4 ∧ (3 : Fin 6).val < 4 ∧ (s.swc.ports.get 3).link = true) ∧
    (decide ((115 : Int) ≤ 115) || (s.hw.tempCrit && decide ((112 : Int) < 115))) = true ∧ s.hw.tempCrit = false := by
  decide +kernel

/-! ## Service Channel and registers -/

/-- Operation `k` runs; its block is being read. -/
def serving (k : Nat) (w : SvcWork := .awaiting) (d : Door := .ring) : State :=
  { up with svc := { running := some { op := k, work := w, door := d, jseq := 9 } }, glb := { phase := .setup, lcs := .service } }

theorem witness_service_checks :
    (∀ k, (serving k).svc.running = some { op := k, door := .ring, jseq := 9 }) ∧ (serving 1).mlk.mmDown = false ∧
    (serving 1).ka.warn = false ∧ ({ op := 8 } : SvcOp).work = .awaiting ∧
    ((serving 1).imageCode false false { keyId := 9 } = some cDenied ∧ (serving 1).imageCode false false {} = none ∧
      (withJournal (serving 1) [entry 0 {} .started]).jEntry 9 = some (entry 0 {} .started) ∧
      (entry 0 {} .started).state = .started) ∧
    (keyForm { subop := 0, slot := 5 } = true ∧ keyForm { subop := 1, ctxLen := 257 } = false ∧
      keyForm { subop := 1, ctxLen := 256 } = true ∧ keyForm { subop := 4 } = true ∧ keyForm { subop := 5 } = false ∧
      (serving 2).keyCode { subop := 0, slot := 5, len := 32, attr := 8 } = none ∧
      (serving 2).keyCode { subop := 0, slot := 0 } = some 0x0C00 ∧ (serving 2).keyCode { subop := 4, slot := 5 } = some 0x0C05) ∧
    (let t := { serving 3 with obs := { slots := ⟨{}, [(0, { attr := 0x1D400025 })]⟩ } }
     t.keyCheck 0 5 [] = none ∧ 64 + (2680 + 72 * t.measurements.length + 4627) ≤ 8192 ∧
     7370 < 64 + (2680 + 72 * t.measurements.length + 4627) ∧ (serving 3).keyCheck 0 5 [] = some 0x0C05) ∧
    (regionKnown 0x700 = true ∧ (serving 4).bistPermitted = true ∧ regionPresent 0x700 = true ∧ (serving 4).regionFree 0x700 = true ∧
      regionKnown 0x701 = false ∧ regionKnown 0x10 = false ∧ up.bistPermitted = false ∧
      (on (serving 4) (.port 2)).regionFree 0x202 = false ∧ regionKnown 0x202 = true) ∧
    ((serving 5).tokenCode { wellFormed := false } = some cInvalid) ∧
    (((serving 6).unit (.slice 3)).fenced = false ∧
      (serving 6).sliceCode { slice := 64 } = some cInvalid) := by
  refine ⟨fun _ => rfl, by decide +kernel⟩

theorem witness_service_ends :
    ((serving 7).pkgCode {} = none ∧ (withPkg { serving 7 with arms := ⟨{}, [(0, { op := .tripped })]⟩ }
      { cnv := { present := true }, arms := ⟨{}, [(0, { present := true })]⟩ }).pkgCode { body := { cnv := { cf := 1 } } } = some 0x0600) ∧
    (∀ w, ((serving 1 w).svc.running.map (·.work)) = some w) ∧ (serving 1).mlk.mmDown = false ∧
    (serving 1).glb.phase ≠ .bootFailed ∧ ({ serving 1 with glb := { phase := .bootFailed } } : State).glb.phase = .bootFailed ∧
    (({ up with hif := { ports := ⟨{ up := true }, []⟩ } } : State).hif.ports.get 0).up = true ∧
    ((up.hif.ports.get 0).up = false ∧ Door.mailbox ≠ Door.ring) ∧
    ((({ pass := true, restoreOk := true } : BistOutcome).pass && true) = true ∧ ({ pass := false } : BistOutcome).pass = false ∧
      up.hasRun = true ∧ (serving 4).hasRun = false) ∧
    (({ dest := .service } : Token).dest = .service ∧ ({ dest := .provisioned } : Token).dest ≠ .service ∧
      (serving 5).mlk.grant = false ∧ ({ serving 5 with mlk := { grant := true } } : State).mlk.grant = true) ∧
    (let o (m : Int) (xs : List Int) : BistOutcome := { meas := m, lanes := xs }
     let s : State := withPkg (serving 4) { ports := ⟨{}, [(1, { speed := 1 })]⟩ }
     ((0x100 : Nat) / 256 ≤ 3 ∧ (0x500 : Nat) / 256 = 5 ∧ (0x605 : Nat) % 256 = 5 ∧ 16 ≤ (0x63F : Nat) % 256) ∧
     (s.portCfg 0).speed = 0 ∧ (s.portCfg 1).speed ≠ 0 ∧
     s.bistPasses 0x500 (o 50 []) = true ∧ s.bistPasses 0x500 (o 51 []) = false ∧
     s.bistPasses 0x600 (o 0 [-93]) = true ∧ s.bistPasses 0x601 (o 0 [-90]) = false ∧
     s.bistPasses 0x605 (o 0 [24, 5, -93, 6]) = true ∧ s.bistPasses 0x605 (o 0 [24, 5, -94, 6]) = false ∧
     s.bistPasses 0x610 (o 0 [1]) = false ∧ s.bistPasses 0x610 (o 0 [-130]) = true) ∧
    ((serving 7).repairing = false ∧
      ({ serving 7 with lenses := ⟨{}, [(1, { repair := some { failed := 2, home := 2, spare := 7, start := 4 } })]⟩ } : State).repairing = true) ∧
    (let t := withUnit (serving 6 (.sliceCreate { slice := 3 })) (.slice 3) { st := .starting, en := true }
     (t.unit (.slice 3)).st = .starting ∧ (t.unit (.slice 3)).en = true ∧ t.unitsRun = true) ∧
    ((serving 7).svc.staged = none ∧ (∀ p, ((serving 7).logic.get p).removeAsked = false) ∧ (serving 7).glb.phase ≠ .running ∧
      ({ serving 7 with glb := { phase := .running } } : State).glb.phase = .running) := by
  repeat' apply And.intro
  all_goals first | rfl | exact fun _ => rfl | decide +kernel

theorem witness_registers :
    let s : State := { up with glb := { phase := .setup, modnum := 5 } }
    winUnit (winOf 0xF0000) = false ∧ winUnit (winOf 0x230000) = false ∧ winUnit (winOf 0x22FFFF) = true ∧
    (winUnit (winOf 0x80000) = true ∧ State.reset.winReady .h0 0x80000 true = false ∧ State.reset.winReady .h0 0x80000 false = false ∧
      s.winReady .h0 0x80000 true = true ∧ s.windowOpen .h1 = true) ∧
    ((16 : Nat) < 32 ∧ (4 : Nat) < 5 ∧ (1 : Nat) < 2 ∧ (7 : Nat) < 8) ∧
    ((6 : Word).setWidth 10 ≠ s.glb.modnum ∧ (1029 : Word).setWidth 10 = s.glb.modnum ∧ s.glb.run = false ∧ up.glb.run = true) ∧
    (let t : State := { s with mlk := { role := .claiming, windowEnded := true } }
     t.mlk.role = .claiming ∧ t.mlk.windowEnded = true ∧ t.windowOpen .h0 = true ∧ (1 : Word).getLsbD 0 = true) ∧
    (let t : State := { up with hif := { pendingVec := ⟨false, [(519, true)]⟩, ports := ⟨{ up := true }, []⟩ } }
     let n := 512 * (1 : Fin 2).val + (7 : Fin 512).val
     t.hif.pendingVec.get n = true ∧ (2 : Word).getLsbD 0 = false ∧ t.heldAt (7 / 8) = none ∧
     (t.hif.vecs.get n).addr < 2 ^ 64 ∧ (t.hif.vecs.get n).data < 2 ^ 32 ∧ 0x2000 ≤ (0x2000 : BitVec 24).toNat) ∧
    (s.mlk.role ≠ .claiming ∧ (1 : Word).getLsbD 1 = false ∧ 100 ≤ (100 : Word).toNat ∧ (20000 : Word).toNat ≤ 20000) ∧
    (s.svc.running = none ∧ 0 < (1 : Word).toNat % 256 ∧ (8 : Word).toNat % 256 < 9 ∧ s.glb.phase ≠ .bootFailed) ∧
    State.reset.ka.powerGood = false ∧ s.glb.phase ≠ .kaStart := by decide +kernel

theorem witness_cold_restart_by_register :
    let s : State := { up with ka := { powerGood := true }, hw := { pins := 37 } }
    s.glb.phase ≠ .kaStart ∧ leaves (exec (.registerWrite (.win .mm) 0x00000C 4 32) s) (fun t => t.glb.phase = .kaStart) = true := by
  decide +kernel

/-! ## The pair and the recorders -/

theorem witness_interlock :
    let s (m : MlkSt) (lcs : Lcs := .operational) : State := { up with mlk := m, glb := { phase := .running, run := true, lcs := lcs } }
    ((s { loopB := { claimed := true } }).mlk.loopB.claimed = true ∧ (s {}).mlk.loopB.claimed = false ∧
      ((s { loopA := { claimed := true }, partnerClaiming := true }).loop .a).claimed = true) ∧
    ((s { differSince := some 5 }).mlk.differSince = some 5 ∧ (s {}).mlk.ilkFault = false ∧ (s {}).mlk.role ≠ .claiming ∧
      (let t := s { role := .claiming, windowEnded := true, differSince := some 5 }
       t.mlk.role = .claiming ∧ t.mlk.windowEnded = true ∧ t.mlk.ilkFault = false) ∧
      ({ s {} with lenses := ⟨{}, [(1, { testing := some 9 })]⟩ }.lenses.get 1).testing = some 9 ∧
      (s { agreeSince := some 5, ilkFault := true }).mlk.agreeSince = some 5) ∧
    (let t := s { role := .active, grant := true, loopB := { ownOpen := true } }
     t.mlk.role = .active ∧ t.mlk.grant = true ∧ (t.loop .b).ownOpen = true ∧ (s { role := .active }).mlk.loopB.ownOpen = false ∧
     (s { role := .claiming, windowEnded := true }).mlk.windowEnded = true) ∧
    (let t := { s { role := .standby } with svc := { running := some { op := 4, work := .bist 5 } } }
     t.mlk.role = .standby ∧ t.claimHolds = true ∧ t.claimCase = true ∧ t.mlk.loopA.claimed = false ∧
     t.mlk.loopB.claimed = false ∧ t.svc.running = some { op := 4, work := .bist 5 }) ∧
    (let t := s { role := .claiming, strapPrimary := true }
     t.mlk.role = .claiming ∧ t.mlk.windowEnded = false ∧ t.secondary = false ∧ t.claimHolds = true ∧
     (s { role := .claiming }).secondary = true ∧ (s { role := .claiming } .service).claimHolds = false) := by decide +kernel

theorem witness_grant_boundary :
    let s (m : MlkSt) (i : LoopSt := {}) : State :=
      withPkg { up with mlk := { m with loopA := i }, col := { ns := 5 }, tos := ⟨{}, [(3, { closed := true })]⟩ }
        { mlk := { tp := 3 }, tps := ⟨{}, [(3, { mode := .periodic, period := 1000 })]⟩ }
    (s {}).pulseDue 3 none = some (1, 1000) ∧ (s {}).tai < 1000 ∧
    ((s { role := .claiming, windowEnded := true }).claimHolds = true ∧
      (s { role := .claiming, windowEnded := true } { ownOpen := true }).claimHolds = false ∧
      ((s {}).tos.get 3).closed = true) ∧
    (let t := s { role := .active, yieldAt := true, grant := true }
     t.mlk.role = .active ∧ t.mlk.yieldAt = true ∧ t.mlk.grant = true) ∧
    (let t := s { role := .active, partner := .inService }
     t.windowOpen .h0 = true ∧ t.paired = true ∧ t.mlk.ilkFault = false ∧ (s { role := .active }).paired = false) := by
  decide +kernel

theorem witness_health_and_links :
    let s (m : MlkSt) : State := withPkg { up with mlk := m } { mlk := { partner := 7, paired := true } }
    let l : LinkSt := { up := true }
    (s {}).glb.phase = .running ∧ ((s { link0 := l }).link 0).up = true ∧ (s {}).unitsRun = true ∧
    (({ crcOk := false } : Health).crcOk = false ∧ ({} : Health).modnum ≠ (s {}).pkg.mlk.partner ∧
      ({ modnum := 7 } : Health).modnum = (s {}).pkg.mlk.partner) ∧
    (let t := s { role := .active, link0 := l }
     t.mlk.role = .active ∧ t.mlk.reqEnd = none ∧ t.mlk.sent = [] ∧ ({ modnum := 7, ready := true } : Health).resync = false ∧
     (s { role := .active, reqEnd := some 4 }).mlk.reqEnd ≠ none ∧ { t with ka := { powerGood := true } }.mmRuns = true) ∧
    (let t := s { role := .standby, link0 := l }
     t.mlk.complete = false ∧ t.mlk.resyncing = false ∧ t.mirrorUp = true ∧ t.mlk.role ≠ .claiming) ∧
    (let t := s { partner := .inService, role := .active, lastHealth := some (0, {}), sent := [(4, {})] }
     t.paired = true ∧ t.mlk.lastHealth = some (0, {}) ∧ t.oldestSent = some 4) ∧
    ((s { link0 := l }).link 1).up = false ∧ (s {}).hw.xcvrNoPwr.getLsbD (4 + 1) = false ∧
    (let t := s { role := .standby }
     (t.link 0).up = false ∧ (t.link 1).up = false ∧ t.mlk.role = .standby ∧ t.pkg.mlk.paired = true) := by decide +kernel

theorem witness_epochs :
    let s (m : MlkSt) : State := withPkg { up with mlk := { m with link0 := { up := true } } } { mlk := { partner := 7 } }
    let e (n : Nat) : Epoch := { modnum := 7, num := n }
    (let t := s { role := .active, items := [(4, .journalFree 5)] }
     t.mlk.items = (4, .journalFree 5) :: [] ∧ t.mlk.role = .active) ∧
    (let t := withJournal (s { role := .active, epoch := 10, sent := [(3, e 9)] }) [{ entry 3 {} with epoch := 9 }]
     (t.link 0).up = true ∧ t.mlk.role = .active ∧ 9 ≤ t.mlk.epoch ∧ (t.mlk.sent.find? fun p => p.2.num = 9) = some (3, e 9) ∧
     t.jEntry 9 = some { entry 3 {} with epoch := 9 } ∧
     (let u := s { role := .active, reqCopy := some (1, 9) }
      (u.mlk.reqCopy.any fun c => c.1 ≠ 0 && c.2 = 9) = true ∧ (u.mlk.reqCopy.any fun c => c.1 ≠ 0 && c.2 = 8) = false)) ∧
    (let t := s { role := .standby, epoch := 10 }
     t.mlk.role ≠ .offline ∧ (e 1).modnum = t.pkg.mlk.partner ∧ ({} : Epoch).modnum ≠ t.pkg.mlk.partner ∧
     t.mlk.resyncOut = false ∧ t.mlk.staged = [] ∧ (e 10).num ≤ t.mlk.epoch ∧ (e 11).num = t.mlk.epoch + 1 ∧
     t.mlk.epoch + 1 < (e 12).num ∧ t.mlk.fails = [] ∧ (t.link 1).up = false ∧
     lastOfRing {} = false ∧ ({ state := .completed } : JEntry).place = none ∧ ({ place := some 3 } : JEntry).place ≠ none ∧ (e 11).crcOk = true ∧ { e 11 with crcOk := false }.crcOk = false ∧
     { e 11 with items := [.journal {}] }.items = [.journal {}] ∧ (e 11).resync = false ∧ t.hif.journal = [] ∧
     t.mlk.exchangeCycle = none ∧ t.swc.unsealed = [] ∧ (t.fbcs.get 0).unsealed = [] ∧ (t.fbcs.get 1).unsealed = []) ∧
    (let fs : Tbl FacetSt := ⟨{}, [(66, { run := .gated, role := .logic })]⟩
     let t := { s { role := .standby } with facets := fs, lenses := ⟨{}, [(1, { free := [9, 3] })]⟩ }
     let t := withPkg t { logic := ⟨{}, [(2, { present := true, lens := 1, facet := 2 })]⟩ }
     let held := { t with lenses := ⟨{}, [(1, { free := [9], testing := some 3 })]⟩ }
     let single := { t with mlk := { role := .offline }, lenses := ⟨{}, [(1, {})]⟩ }
     t.glb.phase = .running ∧ (t.facets.get 66).run ≠ .fenced ∧ t.mlk.role = .standby ∧ (t.lenses.get 1).free ≠ [] ∧
     (t.facets.get 66).role ≠ .spare ∧ minList (t.lenses.get 1).free = some 3 ∧ (t.facets.get 67).role = .spare ∧
     t.rollTests 1 2 = true ∧ t.rollTests 1 3 = true ∧ (t.lenses.get 1).testing = none ∧ t.host 1 (t.home 1 2) = 2 ∧
     held.rollTests 1 3 = true ∧ (held.lenses.get 1).testing = some 3 ∧
     ({ t with facets := ⟨{ run := .fenced }, []⟩ }.facets.get 66).run = .fenced ∧
     single.mlk.role ≠ .standby ∧ (single.lenses.get 1).free = [] ∧ (single.lenses.get 1).testing = none ∧
     single.glb.lcs ≠ .service ∧ ({ single with glb := { single.glb with lcs := .service } } : State).glb.lcs = .service ∧
     t.rollRegion 0x700 = true ∧ t.rollRegion 0x701 = false) := by
  decide +kernel

theorem witness_recorders :
    let s (x : PerGrpSt) (r : List PerRec := []) : State :=
      withPkg { up with recs := { groups := ⟨{}, [(2, x)]⟩, records := r } }
        { tps := ⟨{}, [(3, { mode := .periodic, period := 1000 })]⟩, evr := ⟨{}, [(5, { en := true, interval := 4 })]⟩,
          perGrps := ⟨{}, [(2, { present := true, clock := 2, src := 3, channels := [1] })]⟩ }
    perPresent = true ∧ (s { st := .filling }).perTickDue 2 = some (0, 0) ∧ (s {}).reaches 0 = true ∧
    ((s {}).perCfg 2).post < 2 ∧ (2 : Nat) ≤ ({ post := 2 } : PerGrpCfg).post ∧
    (let t := s { st := .armed }
     (t.recs.groups.get 2).st = .armed ∧ (t.perCfg 2).trigs = [] ∧ (t.recs.groups.get 2).events = []) ∧
    (let t := s { st := .recording, cur := some {}, left := 1 }
     (t.recs.groups.get 2).st = .recording ∧ (t.recs.groups.get 2).left = 1 ∧ (t.recs.groups.get 2).cur = some {} ∧
     t.perTickDue 2 = some (0, 0)) ∧
    (evrEvent 5 {} = true ∧ evrEvent 5 { flush := true } = true ∧ evrEvent 1024 { event := false } = false) ∧
    (let t := s { st := .holdoff }
     (t.recs.groups.get 2).st = .holdoff ∧ (t.perCfg 2).holdByEvents = false ∧ t.windowOpen .h0 = true ∧
     (t.recs.groups.get 2).run = false) ∧ ((s { run := true }).recs.groups.get 2).run = true ∧
    (let t := s {} [{ rnum := 7 }]
     (t.recs.records.find? fun z => !z.inFlash && !z.skipped) = some { rnum := 7 } ∧ t.recs.copyPaused = false ∧
     t.recs.records = [{ rnum := 7 }] ∧
     recLength { rnum := 7 } ≤ recPartition) ∧
    (let t := { s {} with ka := { hours := 4 } }
     (t.pkg.evr.get 5).en = true ∧ (t.pkg.evr.get 4095).en = false ∧ 0 < (t.pkg.evr.get 5).interval ∧
     (t.recs.evr.wins.get 5).hoursOpen + (t.pkg.evr.get 5).interval ≤ t.ka.hours.toNat ∧ t.recs.evr.buffer.length < 49151) ∧
    (let t : State := { up with recs := { evr := { flushing := true, flushN := 1, buffer := [{}] } } }
     t.recs.evr.flushing = true ∧ t.hw.pf = .none ∧ t.recs.evr.log.length + t.recs.evr.flushN ≤ evrLogSize) ∧
    (up.windowOpen .h0 = true ∧ (15 : Fin 16).val < lensCount) := by decide +kernel


/-! ## Registers at the values that the spec writes out -/

/-- The value that a read gives to its port. -/
def value (r : Res) : Nat := match r with | .next t => t.lastRead.toNat | _ => 0

/-- GLB_CAP, GLB_STAT, GLB_HWTEMP and GLB_HOLDUP of the worked examples (R4, R59, R475). -/
theorem test_glb_registers :
    value (exec (.registerRead (.win .mm) 0x000008) up) = 0x00402070 ∧
    value (exec (.registerRead (.win .mm) 0x000010) { State.reset with glb := { phase := .setup, lcs := .operational, fwBank := true, fwFallback := true } })
      = 0x00000C24 ∧
    value (exec (.registerRead (.win .mm) 0x000204) { up with hw := { coreTemp := 95, coldTemp := 62, inputTemp := 38 } })
      = 0x00263E5F ∧
    value (exec (.registerRead (.win .mm) 0x000208) { up with hw := { energy := 10560, vstore := 800 } }) = 0x03202940 :=
      by decide +kernel

/-- KA_BOOT, KA_RSTCAUSE and KA_SUPPLY of the worked examples (R62). -/
theorem test_ka_registers :
    value (exec (.registerRead (.win .mm) 0x010008) { up with ka := { runningBank := true, resultA := .bad, resultB := .good } }) = 0x00000062 ∧
    value (exec (.registerRead (.win .mm) 0x010008) { up with ka := { nextBank := true, runningBank := true, resultB := .good } }) = 0x00000043 ∧
    value (exec (.registerRead (.win .mm) 0x01000C) { up with ka := { cause := .cmdCold, count := 2 } }) = 0x00020003 ∧
    value (exec (.registerRead (.win .mm) 0x010010) { up with ka := { vin := 1440, pfail := true } }) = 0x000025A0 :=
      by decide +kernel

/-- LNS3_FSTAT(17) and (62) of a facet fenced and its program on a spare (R107). -/
theorem test_fstat :
    let s := { up with facets := ⟨{}, [(3 * 64 + 17, { role := .logic, run := .fenced, fault := .sramUncorr }),
      (3 * 64 + 62, { role := .logic, run := .gated, hostOf := some 17 })]⟩ }
    value (exec (.registerRead (.win .mm) 0x130144) s) = 0x0011011A ∧
    value (exec (.registerRead (.win .mm) 0x1301F8) s) = 0x00510012 := by decide +kernel

/-- LNS2_LC_STAT(5) and LNS5_LC_STAT(20) (R117). -/
theorem test_lc_stat :
    let s := withPkg { up with logic := ⟨{}, [(3, { st := .running, consec := 1, overrun := true }),
      (7, { st := .running, exchDone := true })]⟩ }
      { logic := ⟨{}, [(3, { present := true, lens := 2, facet := 5 }),
        (7, { present := true, lens := 5, facet := 20, wcetKnown := true })]⟩ }
    value (exec (.registerRead (.win .mm) 0x120314) s) = 0x00030112 ∧
    value (exec (.registerRead (.win .mm) 0x150350) s) = 0x0007020A := by decide +kernel

/-- CNV_ARM_NON(0) and PRM_STAT(0) (R194, R195). -/
theorem test_converter_registers :
    let s := withPkg { up with arms := ⟨{}, [(0, { nOn := 625, frac := 21299 })]⟩,
                               engines := ⟨{}, [(0, { spread := 340, rankTime := 84 })]⟩ }
      { arms := ⟨{}, [(0, { present := true })]⟩ }
    value (exec (.registerRead (.win .mm) 0x200110) s) = 0x53330271 ∧
    value (exec (.registerRead (.win .mm) 0x20800C) s) = 0x54000154 := by decide +kernel

/-- COL_TP_COUNT_LO(0) and COL_TP_CFG(0) at 2.5 s, PER_GRP_STAT(2), OBS_SLOT(20) before and after its lock. -/
theorem test_col_per_obs_registers :
    let s := withPkg { up with col := { tps := ⟨{}, [(0, { count := 250000 })]⟩ },
                               recs := { groups := ⟨{}, [(2, { st := .armed, records := 1 })]⟩ },
                               obs := { slots := ⟨{}, [(20, { attr := 0x00200511 }), (21, { attr := 0x00200515 })]⟩ } }
      { tps := ⟨{}, [(0, { mode := .periodic, period := 10000 })]⟩ }
    value (exec (.registerRead (.win .mm) 0x080414) s) = 0x0003D090 ∧
    value (exec (.registerRead (.win .mm) 0x080400) s) = 0x00000002 ∧
    value (exec (.registerRead (.win .mm) 0x0A0090) s) = 0x00010002 ∧
    value (exec (.registerRead (.win .mm) 0x0C0150) s) = 0x00200511 ∧
    value (exec (.registerRead (.win .mm) 0x0C0154) s) = 0x00200515 := by decide +kernel

/-- A register that does not yet answer reads zero before the set-up phase and sets no value. -/
theorem test_not_ready : value (exec (.registerRead (.win .mm) 0x0C0150) State.reset) = 0 ∧
    value (exec (.registerRead (.win .mm) 0x000008) State.reset) = 0x00402070 := by decide +kernel

/-! ## Bytes that the spec writes out -/

/-- The descriptor in slot 0 and the first two completions of the worked example of 11 (R301, R307, R310). -/
theorem test_ring_bytes :
    let spec : Nat := 0x07 * 2 ^ 8 + 0x01 * 2 ^ 16 + 1 * 2 ^ 32 + 0x100003000 * 2 ^ 64 + 1 * 2 ^ 128
    descBytes { seq := 1, opcode := 1, flags := 1, spec := BitVec.ofNat 256 spec } =
      [1, 0, 0, 0, 0, 0, 0, 0, 1, 0, 1, 0, 0, 0, 0, 0] ++ List.replicate 16 0 ++
      [0, 7, 1, 0, 1, 0, 0, 0, 0, 0x30, 0, 0, 1, 0, 0, 0, 1, 0, 0, 0, 0, 0, 0, 0] ++ List.replicate 8 0 ∧
    cplBytes true 1 0 false 0 0xD4A53AF8 0 =
      [1, 0, 0, 0, 0, 0, 0, 0, 0, 0, 0x01, 0, 0xF8, 0x3A, 0xA5, 0xD4] ++ List.replicate 16 0 ∧
    ((cplBytes true 1 0 false 7 0 0).drop 10).take 2 = [0x1D, 0] := by decide +kernel

/-- Header and slot 5 of lane B7's frame in the worked example of 07 (R213, R214). -/
theorem test_beam_bytes :
    let h : BeamHdr := { lane := 7, active := true, fnum := 250000, tick := 2500000000, modnum := 37 }
    let k : Command := { form := .pulse, a := 3375, b := 6625, carrier := true, dead := 800 }
    let bs := headerBytes h 0 ++ bodyBytes (.regular (List.replicate 5 ({} : Command) ++ [k] ++ List.replicate 122 ({} : Command)))
    bs.take 16 = [0x5A, 0xC3, 0x07, 0x01, 0x90, 0xD0, 0x03, 0x00, 0x00, 0xF9, 0x02, 0x95, 0, 0, 0x25, 0] ∧
    (bs.drop 56).take 8 = [0x03, 0x01, 0x2F, 0x0D, 0xE1, 0x19, 0x20, 0x03] ∧ (bs.drop 48).take 8 = List.replicate 8 0 ∧
    bs.length = 1040 := by decide +kernel

/-! ## No row of the table gives bits -/

theorem test_no_words : decodeTableWord 0 0 = none ∧ decodeTableWord 16 0xFFFF = none ∧
    State.reset.withFetchWord 0 0 = State.reset := ⟨rfl, rfl, rfl⟩

end Sys2Proof.Tests
end

section
/-! SUPPORT. Rules of the shared operations that the proofs of the statements cite: how a frame is read off an effect,
the passing of time, folds over units, the journal, events and alarms. -/

namespace Sys2Proof.Machine

/-! ## Frames -/

/-- The parts of the state, one after another. -/
def Part.all : List Part :=
  [.now, .freeIdx, .glb, .ka, .svc, .units, .facets, .progs, .lenses, .fencedFlash, .lanes, .logic, .slots64,
   .stns, .conds, .svs, .chains, .chSlots, .fns, .pcOvr, .pcDeadline, .prots, .tos, .gps, .gss, .svPubs, .cnv,
   .arms, .sms, .engines, .beams, .pwms, .tis, .swc, .col, .fbcs, .hif, .mlk, .recs, .obs, .bst, .hw,
   .outputs, .lastRead, .pending]

theorem Part.mem_all (p : Part) : p ∈ Part.all := by cases p <;> decide

/-- Every part that the mask `m` of an effect lets change is one of `ps`. -/
def maskWithin (m : Nat) (ps : List Part) : Bool := Part.all.all fun p => !m.testBit p.ctorIdx || decide (p ∈ ps)

theorem Effect.frame {m : Nat} {s t : State} {ps : List Part} (h : Effect m s t) (i : maskWithin m ps = true) :
    s.ChangesOnly ps t := by
  refine h.changesOnly ps fun p hp => ?_
  have := List.all_eq_true.1 i p p.mem_all
  simpa [hp] using this

/-- A command whose next state is known, with its effect: what `Gives` asks for. -/
theorem Effect.gives {m : Nat} {s t : State} {c : Instr} {ps : List Part} {q : State → Prop} (h : Effect m s t)
    (i : maskWithin m ps = true) (e : exec c s = .next t) (k : q t) : s.Gives c ps q := ⟨t, e, h.frame i, k⟩

/-- The effect of a command whose answer is known. -/
theorem Effect.of_ok {m : Nat} {s t : State} {r : Res} (h : Effect.ok m s r) (e : r = .next t) : Effect m s t := by
  obtain ⟨u, hu, k⟩ := h
  rw [e] at hu
  cases hu
  exact k

/-! ## Time -/

@[simp] theorem State.upTo_now (s : State) (t : Nat) : (s.upTo t).now = max s.now t := by
  unfold State.upTo State.after
  split
  · omega
  · show s.now + (t - s.now) = _
    omega

theorem State.upTo_of_le {s : State} {t : Nat} (h : t ≤ s.now) : s.upTo t = s := by
  simp [State.upTo, State.after, Nat.sub_eq_zero_of_le h]

@[simp] theorem State.upTo_self (s : State) : s.upTo s.now = s := State.upTo_of_le (Nat.le_refl _)

/-! ## Folds over units -/

/-- A relation that every turn of a fold keeps holds between its start and its end. -/
theorem State.each_rel {α : Type} {R : State → State → Prop} (refl : ∀ s, R s s) (trans : ∀ s t u, R s t → R t u → R s u)
    {f : State → α → State} (h : ∀ t x, R t (f t x)) (s : State) (xs : List α) : R s (s.each xs f) := by
  unfold State.each
  induction xs generalizing s with
  | nil => exact refl s
  | cons x r ih => exact trans _ _ _ (h s x) (ih (f s x))

/-- What one turn of a fold alone writes is what that turn leaves; `P` holds all the way. -/
theorem State.each_once {α β : Type} {s : State} {xs : List α} {f : State → α → State} {x : α} (g : State → β)
    (P : State → Prop) {v : β} (hx : x ∈ xs) (nd : xs.Nodup) (hs : P s) (keeps : ∀ t y, P t → P (f t y))
    (other : ∀ t y, P t → y ≠ x → g (f t y) = g t) (writes : ∀ t, P t → g t = g s → g (f t x) = v) :
    g (s.each xs f) = v := by
  have rest : ∀ (ys : List α) (t : State), P t → x ∉ ys → g (t.each ys f) = g t := by
    intro ys
    induction ys with
    | nil => intro t _ _; rfl
    | cons y r ih =>
      intro t ht hy
      obtain ⟨hxy, hr⟩ : x ≠ y ∧ x ∉ r := by simpa using hy
      exact (ih _ (keeps t y ht) hr).trans (other t y ht (Ne.symm hxy))
  have main : ∀ (ys : List α) (t : State), P t → g t = g s → x ∈ ys → ys.Nodup → g (t.each ys f) = v := by
    intro ys
    induction ys with
    | nil => intro t _ _ hy; cases hy
    | cons y r ih =>
      intro t ht hg hy hn
      obtain ⟨hyr, hr⟩ := List.nodup_cons.1 hn
      by_cases e : y = x
      · subst e
        exact (rest r _ (keeps t y ht) hyr).trans (writes t ht hg)
      · have hxr : x ∈ r := (List.mem_cons.1 hy).resolve_left fun h => e h.symm
        exact ih _ (keeps t y ht) ((other t y ht e).trans hg) hxr hr
  exact main xs s hs rfl hx nd

/-! ## Tables -/

theorem findRow_map {α : Type} (r : List (Nat × α)) (f : Nat → α → α) (k : Nat) :
    findRow (r.map fun p => (p.1, f p.1 p.2)) k = (findRow r k).map (f k) := by
  induction r with
  | nil => rfl
  | cons c r ih =>
    simp only [List.map_cons, findRow, ih]
    split
    · next h => rw [h]; rfl
    · rfl

theorem findRow_isSome_of_mem {α : Type} {r : List (Nat × α)} {k : Nat} (h : k ∈ r.map (·.1)) :
    ∃ a, findRow r k = some a := by
  induction r with
  | nil => cases h
  | cons c r ih =>
    simp only [findRow]
    split
    · exact ⟨_, rfl⟩
    · next hc =>
      rcases List.mem_cons.1 h with h | h
      · exact absurd h.symm hc
      · exact ih h

/-- A listed unit after a change of every listed unit. -/
theorem Tbl.get_mapRows {α : Type} {t : Tbl α} {k : Nat} (f : Nat → α → α) (h : k ∈ t.keys) :
    (t.mapRows f).get k = f k (t.get k) := by
  obtain ⟨a, ha⟩ := findRow_isSome_of_mem h
  simp [Tbl.get, Tbl.mapRows, findRow_map, ha]

/-! ## The journal (R305) -/

theorem findJ_map {js : List JEntry} {f : JEntry → JEntry} (h : ∀ e, (f e).jseq = e.jseq) (j : Nat) :
    findJ (js.map f) j = (findJ js j).map f := by
  induction js with
  | nil => rfl
  | cons e r ih =>
    simp only [List.map_cons, findJ, h, ih]
    split <;> rfl

theorem findJ_jseq {js : List JEntry} {j : Nat} {e : JEntry} (h : findJ js j = some e) : e.jseq = j := by
  induction js with
  | nil => cases h
  | cons x r ih =>
    simp only [findJ] at h
    split at h
    · next hx => cases h; exact hx
    · exact ih h

theorem State.updJ_hif (s : State) (j : Nat) (f : JEntry → JEntry) {e : JEntry} (h : s.jEntry j = some e) :
    (s.updJ j f).hif = { s.hif with journal := s.hif.journal.map fun (x : JEntry) =>
      if x.jseq = j then { f e with sealed := !s.paired, epoch := 0 } else x } := by
  simp [State.updJ, h]

/-- The entry that a change of entry `j` leaves there. -/
theorem State.jEntry_updJ (s : State) (j : Nat) {f : JEntry → JEntry} {e : JEntry} (h : s.jEntry j = some e)
    (hf : (f e).jseq = e.jseq) : (s.updJ j f).jEntry j = some { f e with sealed := !s.paired, epoch := 0 } := by
  have hj : e.jseq = j := findJ_jseq h
  rw [State.jEntry, s.updJ_hif j f h]
  show findJ (s.hif.journal.map _) j = _
  rw [findJ_map (by intro x; dsimp only; split <;> simp_all)]
  rw [show findJ s.hif.journal j = some e from h]
  simp [hj]

/-- Places are given to completions, and nothing else of an entry changes. -/
theorem State.jEntry_placeRing (s : State) (i r j : Nat) {e : JEntry} (h : s.jEntry j = some e) :
    ∃ p, (s.placeRing i r).jEntry j = some { e with place := p } := by
  unfold State.placeRing
  refine State.each_rel (R := fun s t => ∀ e, s.jEntry j = some e → ∃ p, t.jEntry j = some { e with place := p })
    (fun _ e h => ⟨e.place, h⟩) (fun s t u a b e h => ?_) (fun t x e h => ?_) s _ e h
  · obtain ⟨p, hp⟩ := a e h
    obtain ⟨q, hq⟩ := b _ hp
    exact ⟨q, hq⟩
  · have : findJ t.hif.journal j = some e := h
    show ∃ p, findJ (t.hif.journal.map _) j = some { e with place := p }
    rw [findJ_map (by intro x; split <;> rfl), this, Option.map_some]
    split
    · exact ⟨_, rfl⟩
    · exact ⟨e.place, rfl⟩

/-- The entry of a descriptor that ends now, before it has its place. -/
def JEntry.ending (c : Code) (res ts : Nat) (e : JEntry) : JEntry :=
  { e with state := .completed, status := c, result := BitVec.ofNat 128 res, endTs := ts }

/-- A descriptor that has not ended ends with the status and the result it is given (R299). -/
theorem State.ended_complete (s : State) {j : Nat} {e : JEntry} (h : s.jEntry j = some e) (hs : e.state ≠ .completed)
    (c : Code) (res : Nat) : (s.complete j c res).Ended j c res := by
  have done : s.complete j c res = (s.updJ j (JEntry.ending c res s.ts)).placeRing e.slice e.ring := by
    simp only [State.complete, h, hs, if_false]
    rfl
  obtain ⟨p, hp⟩ := (s.updJ j (JEntry.ending c res s.ts)).jEntry_placeRing e.slice e.ring j (s.jEntry_updJ j h rfl)
  rw [done]
  exact ⟨_, hp, rfl, rfl, rfl⟩

/-! ## Events and alarms (R385) -/

@[simp] theorem State.event_events (s : State) (e : Ev) (d : Nat) :
    (s.event e d).recs.evr.events = s.recs.evr.events ++ [(e, d, s.now)] := rfl

@[simp] theorem State.event_alarms (s : State) (e : Ev) (d : Nat) : (s.event e d).recs.evr.alarms = s.recs.evr.alarms := rfl

@[simp] theorem State.markAlarm_alarms (s : State) (e : Ev) : (s.markAlarm e).recs.evr.alarms = s.recs.evr.alarms := rfl

@[simp] theorem State.markAlarm_events (s : State) (e : Ev) : (s.markAlarm e).recs.evr.events = s.recs.evr.events := rfl

theorem State.mem_alarms_alarm (s : State) (e : Ev) (d : Nat) (x : Ev × Nat) :
    x ∈ (s.alarm e d).recs.evr.alarms ↔ x = (e, d) ∨ x ∈ s.recs.evr.alarms := by
  unfold State.alarm
  split
  · next h => exact ⟨.inr, fun k => k.elim (fun k => k ▸ h) id⟩
  · simp [or_comm]

theorem State.mem_alarms_clearAlarm (s : State) (e : Ev) (d : Nat) (x : Ev × Nat) :
    x ∈ (s.clearAlarm e d).recs.evr.alarms ↔ x ≠ (e, d) ∧ x ∈ s.recs.evr.alarms := by
  unfold State.clearAlarm
  split
  · simp [and_comm]
  · next h => exact ⟨fun k => ⟨fun c => h (c ▸ k), k⟩, And.right⟩

theorem State.mem_events_alarm (s : State) (e : Ev) (d : Nat) {x : Ev × Nat × Nat} (h : x ∈ s.recs.evr.events) :
    x ∈ (s.alarm e d).recs.evr.events := by
  unfold State.alarm
  split
  · exact h
  · simp [h]

@[simp] theorem State.clearAlarm_events (s : State) (e : Ev) (d : Nat) :
    (s.clearAlarm e d).recs.evr.events = s.recs.evr.events := by
  unfold State.clearAlarm
  split <;> rfl

end Sys2Proof.Machine
end

section
/-! PROOF. Arms (O33): a deblock that times out, trip flags, and the lock of a lane. -/

namespace Sys2Proof.Machine

/-! ## A deblock that times out (R187, R188) -/

theorem State.deblockSet_upTo (s : State) (t j : Nat) : (s.upTo t).deblockSet j = s.deblockSet j := by
  unfold State.upTo State.after
  split <;> rfl

theorem State.deblockFail_upTo (s : State) (t a : Nat) : (s.upTo t).deblockFail a = s.deblockFail a := by
  unfold State.upTo State.after
  split <;> rfl

/-- A deblock that waits ends: its descriptor is complete, and a pending arm of it is blocked. -/
theorem State.endDeblock_arm (s : State) {a j t0 n : Nat} (c : Code) (k : Nat) (hk : a ∈ s.arms.keys)
    (hp : (s.arms.get a).pend = some (j, t0, n)) (ho : (s.arms.get a).op = .pending) :
    ((s.endDeblock j c k).arms.get a).op = .blocked ∧ ((s.endDeblock j c k).arms.get a).pend = none := by
  have arms : (s.endDeblock j c k).arms = _ := (State.complete_effect _ j c (cnvResult 0 0 k)).same .arms rfl
  rw [arms, Tbl.get_mapRows _ hk]
  simp [hp, ho]

theorem State.endDeblock_ended (s : State) {j : Nat} {e : JEntry} (h : s.jEntry j = some e) (hs : e.state = .started)
    (c : Code) (k : Nat) : (s.endDeblock j c k).Ended j c (k * 2 ^ 72) := by
  have h0 : cnvResult 0 0 k = k * 2 ^ 72 := by simp [cnvResult]
  rw [← h0]
  refine State.ended_complete _ (e := e) ?_ ?_ c _
  · exact h
  · simp [hs]

/-- What a deblock past its 100 ms does. -/
theorem execDeblockTimeout_fails {s : State} {a : Fin 8} {j t0 n k : Nat} (hp : (s.arms.get a).pend = some (j, t0, n))
    (ho : (s.arms.get a).op = .pending)
    (hk : minList (((s.deblockSet j).map s.deblockFail).filter fun z => z ≠ 0) = some k) :
    execDeblockTimeout a s = .next ((s.upTo (t0 + 100000000)).endDeblock j 0x0601 k) := by
  have hk' : minList ((((s.upTo (t0 + 100000000)).deblockSet j).map fun b =>
      (s.upTo (t0 + 100000000)).deblockFail b).filter fun z => z ≠ 0) = some k := by
    simp only [State.deblockSet_upTo, State.deblockFail_upTo]
    exact hk
  simp only [execDeblockTimeout, hp, ho, ne_eq, not_true_eq_false, if_false, hk']

theorem deblockTimeout_gives {s : State} {a : Fin 8} {j t0 n k : Nat} (hp : (s.arms.get a).pend = some (j, t0, n))
    (ho : (s.arms.get a).op = .pending) (ha : a.val ∈ s.arms.keys)
    (hk : minList (((s.deblockSet j).map s.deblockFail).filter fun z => z ≠ 0) = some k) :
    s.Gives (.deblockTimeout a) [.now, .col, .arms, .hif, .mlk] fun t =>
      t.now = max s.now (t0 + 100000000) ∧ (t.arms.get a).op = .blocked ∧ (t.arms.get a).pend = none ∧
      ∀ e, s.jEntry j = some e → e.state = .started → t.Ended j 0x0601 (k * 2 ^ 72) := by
  have d := (s.upTo (t0 + 100000000)).endDeblock_effect j 0x0601 k
  have now : ((s.upTo (t0 + 100000000)).endDeblock j 0x0601 k).now = _ := d.same .now rfl
  obtain ⟨op, pend⟩ := (s.upTo (t0 + 100000000)).endDeblock_arm (a := a) (j := j) (t0 := t0) (n := n) 0x0601 k
    (by simpa using ha) (by simpa using hp) (by simpa using ho)
  have e := execDeblockTimeout_fails hp ho hk
  refine (Effect.of_ok (execDeblockTimeout_effect a s) e).gives rfl e ⟨?_, op, pend, ?_⟩
  · rw [now, State.upTo_now]
  · intro e he hs
    exact State.endDeblock_ended _ (by simpa [State.jEntry] using he) hs 0x0601 k

/-! ## Trip flags (R201) -/

theorem armTripClear_cases (a : Fin 8) (s : State) (ht : (s.arms.get a).trip = true) :
    (s.windowOpen .h0 = false → exec (.armTripClear a) s = .next s.notReadyWrite) ∧
    (s.windowOpen .h0 = true → cnvPresent = false → exec (.armTripClear a) s = .next s.setAbsent) ∧
    (s.windowOpen .h0 = true → cnvPresent = true →
      let quiet := s.maskOn (s.pkg.arms.get a).mask = false ∧ quietAt (s.arms.get a).maskHist s.qualNs (s.now + 1) = true
      (quiet → exec (.armTripClear a) s = .next (s.updArm a fun y =>
        { y with trip := false, op := if (s.arms.get a).op = .tripped then .blocked else (s.arms.get a).op })) ∧
      (¬ quiet → exec (.armTripClear a) s = .next (s.updArm a fun y => { y with clearRefused := true }))) := by
  have e : exec (.armTripClear a) s = .next (s.unitWrite cnvPresent fun s => s.clearArmTrip a) := rfl
  refine ⟨fun h => ?_, fun h hc => ?_, fun h hc => ⟨fun hq => ?_, fun hq => ?_⟩⟩
  · rw [e]; simp [State.unitWrite, h]
  · rw [e]; simp [State.unitWrite, h, hc]
  · rw [e]
    simp [State.unitWrite, h, hc, State.clearArmTrip, ht, hq.1, hq.2, State.updArm, Tbl.upd]
  · rw [e]
    have hq' : ¬ (¬ s.maskOn (s.pkg.arms.get a).mask = true ∧
        quietAt (s.arms.get a).maskHist s.qualNs (s.now + 1) = true) := by simpa using hq
    simp only [State.unitWrite, h, hc, State.clearArmTrip, ht, if_true, not_true_eq_false, if_false, if_neg hq']

/-! ## The lock of a lane (R222, R225) -/

theorem beamLockLost_gives (l : Fin 64) (s : State) (h : (s.beams.get l).locked = true) :
    s.Gives (.beamLockLost l) [.beams, .recs] fun t =>
      t.beams = s.beams.set l { s.beams.get l with locked := false } ∧ (Ev.beamLink, l.val) ∈ t.recs.evr.alarms := by
  have e : exec (.beamLockLost l) s = .next ((s.updBeam l fun b => { b with locked := false }).alarm .beamLink l) := by
    show execBeamLockLost l s = _
    simp [execBeamLockLost, h]
  refine (((State.updBeam_effect ..).mono rfl).go (State.alarm_effect ..) rfl : Effect 0x4040000000 s _).gives rfl e ⟨?_, ?_⟩
  · rw [State.alarm_beams]; rfl
  · rw [State.mem_alarms_alarm]; exact .inl rfl

theorem beamLockAcquired_gives (l : Fin 64) (s : State) (h : cnvPresent = true) :
    s.Gives (.beamLockAcquired l) [.beams, .recs] fun t =>
      t.beams = s.beams.set l { s.beams.get l with locked := true } ∧ (Ev.beamLink, l.val) ∉ t.recs.evr.alarms := by
  have e : exec (.beamLockAcquired l) s =
      .next ((s.updBeam l fun b => { b with locked := true }).clearAlarm .beamLink l) := by
    show execBeamLockAcquired l s = _
    simp [execBeamLockAcquired, h]
  refine (((State.updBeam_effect ..).mono rfl).go (State.clearAlarm_effect ..) rfl : Effect 0x4040000000 s _).gives rfl e
    ⟨?_, ?_⟩
  · rw [State.clearAlarm_beams]; rfl
  · rw [State.mem_alarms_clearAlarm]; exact fun k => k.1 rfl

end Sys2Proof.Machine
end

section
/-! PROOF. Calibration of the beam lanes (O33). -/

namespace Sys2Proof.Machine

/-! ## Calibration (R219, R220) -/

/-- The lane of `l` in `t` is that in `s` but for its BEAM_CAL descriptors. -/
def State.sameLane (l : Nat) (s t : State) : Prop :=
  t.beams.get l = { s.beams.get l with calJobs := (t.beams.get l).calJobs }

theorem State.sameLane_refl (l : Nat) (s : State) : s.sameLane l s := rfl

theorem State.sameLane_trans {l : Nat} {s t u : State} (h : s.sameLane l t) (k : t.sameLane l u) : s.sameLane l u := by
  unfold State.sameLane at *
  rw [k, h]

theorem State.sameLane_of_beams {l : Nat} {s t : State} (h : t.beams = s.beams) : s.sameLane l t := by
  unfold State.sameLane
  rw [h]

/-- The end of a BEAM_CAL descriptor leaves a lane as it is. -/
theorem State.calJob_sameLane (l : Nat) (s : State) (j : Nat) : s.sameLane l (s.calJob j) := by
  unfold State.calJob
  dsimp only
  split
  · exact s.sameLane_refl l
  · refine State.sameLane_trans (State.each_rel (State.sameLane_refl l) (fun _ _ _ => State.sameLane_trans) ?_ s _)
      (State.sameLane_of_beams ((State.complete_effect ..).same .beams rfl))
    intro t k
    unfold State.sameLane
    rw [State.updBeam_beams, Tbl.get_upd]
    split
    · next h => rw [h]
    · rfl

/-- A calibration that has ended leaves the lane without a frame on its way, and with its values. -/
theorem State.calEnded_lane (s : State) (l : Nat) (ok : Bool) :
    (s.calEnded l ok).beams.get l =
      { s.beams.get l with calSent := none, calJobs := ((s.calEnded l ok).beams.get l).calJobs } := by
  have h : State.sameLane l (s.updBeam l fun b =>
      { b with calSent := none, calJobs := b.calJobs.map fun p => (p.1, some (p.2.getD ok)) }) (s.calEnded l ok) :=
    State.each_rel (State.sameLane_refl l) (fun _ _ _ => State.sameLane_trans) (fun t j => t.calJob_sameLane l j) _ _
  unfold State.sameLane at h
  rw [h]
  simp

theorem State.calEnded_recs (s : State) (l : Nat) (ok : Bool) : (s.calEnded l ok).recs = s.recs :=
  (s.calEnded_effect l ok).same .recs rfl

theorem State.flushBeam_now (s : State) (l : Nat) : (s.flushBeam l).now = s.now := (s.flushBeam_effect l).same .now rfl
theorem State.flushBeam_svc (s : State) (l : Nat) : (s.flushBeam l).svc = s.svc := (s.flushBeam_effect l).same .svc rfl

theorem State.flushBeam_unit (s : State) (l : Nat) (u : UnitId) : (s.flushBeam l).unit u = s.unit u := by
  unfold State.unit
  rw [show (s.flushBeam l).units = s.units from (s.flushBeam_effect l).same .units rfl]

theorem State.flushBeam_cnvRuns (s : State) (l : Nat) : (s.flushBeam l).cnvRuns = s.cnvRuns := by
  unfold State.cnvRuns State.pkg
  rw [s.flushBeam_svc l, show (s.flushBeam l).glb = s.glb from (s.flushBeam_effect l).same .glb rfl]

/-- A lane that starts, with no calibration under way, is due for one at once (R219). -/
theorem beamCalDue_starting {s : State} {l : Fin 64} (hr : s.cnvRuns = true)
    (hb : calBusy ((s.flushBeam l).beams.get l) = false) (hu : (s.unit (.beam l)).st = .starting) :
    s.Gives (.beamCalDue l) [.freeIdx, .beams, .outputs] fun t =>
      t.beams = (s.flushBeam l).beams.set l { (s.flushBeam l).beams.get l with calDue := true, calStart := s.now } := by
  have e : exec (.beamCalDue l) s =
      .next ((s.flushBeam l).updBeam l fun b => { b with calDue := true, calStart := (s.flushBeam l).now }) := by
    show execBeamCalDue l s = _
    simp [execBeamCalDue, s.flushBeam_cnvRuns, hr, hb, s.flushBeam_unit, hu]
  refine (((s.flushBeam_effect l).mono rfl).go (State.updBeam_effect ..) rfl : Effect 0x40040000002 s _).gives rfl e ?_
  rw [s.flushBeam_now]
  rfl

/-- A lane that is ON is due when INTERVAL has passed since its last calibration (R219). -/
theorem beamCalDue_on {s : State} {l : Fin 64} (hr : s.cnvRuns = true)
    (hb : calBusy ((s.flushBeam l).beams.get l) = false) (hu : (s.unit (.beam l)).st = .on) :
    s.Gives (.beamCalDue l) [.now, .col, .freeIdx, .beams, .outputs] fun t =>
      t.now = max s.now (((s.flushBeam l).beams.get l).calStart + s.pkg.cnv.calIntervalS * 1000000000) ∧
      t.beams = (s.flushBeam l).beams.set l { (s.flushBeam l).beams.get l with calDue := true, calStart := t.now } := by
  have pkg : (s.flushBeam l).pkg = s.pkg := congrArg Svc.pkg (s.flushBeam_svc l)
  have e : exec (.beamCalDue l) s = .next (((s.flushBeam l).upTo
      (((s.flushBeam l).beams.get l).calStart + s.pkg.cnv.calIntervalS * 1000000000)).updBeam l fun b =>
        { b with calDue := true, calStart := ((s.flushBeam l).upTo
          (((s.flushBeam l).beams.get l).calStart + s.pkg.cnv.calIntervalS * 1000000000)).now }) := by
    show execBeamCalDue l s = _
    simp only [execBeamCalDue, s.flushBeam_cnvRuns, hr, hb, s.flushBeam_unit, hu, pkg]
    rfl
  refine (Effect.of_ok (execBeamCalDue_effect l s) e).gives rfl e ⟨?_, ?_⟩
  · rw [State.updBeam_now, State.upTo_now, s.flushBeam_now]
  · rw [State.updBeam_now, State.updBeam_beams, State.upTo_beams, Tbl.upd]

/-- A reply that comes more than 10 ms after LAUNCH ends a failed calibration. -/
theorem calibrateReplyRx_late {s : State} {l : Fin 64} {t0 turn : Nat}
    (h : ((s.flushBeam l).beams.get l).calSent = some t0) (ht : t0 + 10000000 < s.now) :
    s.Gives (.calibrateReplyRx l s.now turn) [.freeIdx, .beams, .hif, .mlk, .recs, .outputs] fun t =>
      (Ev.beamCalFail, l.val, s.now) ∈ t.recs.evr.events ∧
      t.beams.get l = { (s.flushBeam l).beams.get l with calSent := none, calJobs := (t.beams.get l).calJobs } := by
  have e : exec (.calibrateReplyRx l s.now turn) s = .next (((s.flushBeam l).event .beamCalFail l).calEnded l false) := by
    show execCalibrateReplyRx l s.now turn s = _
    simp [execCalibrateReplyRx, h, ht]
  refine ((((s.flushBeam_effect l).mono rfl).go (State.event_effect ..) rfl).go (State.calEnded_effect ..) rfl :
    Effect 0x47040000002 s _).gives rfl e ⟨?_, ?_⟩
  · rw [State.calEnded_recs]
    simp [s.flushBeam_now]
  · exact State.calEnded_lane _ l false

theorem halfUp_eq (v : Int) : (halfUp v : Int) = max 0 ((v + 1) / 2) := by
  unfold halfUp
  omega

/-- What a lane takes of a reply in time, before its jobs end (R220). -/
def BeamSt.measured (b : BeamSt) (rtt turn : Nat) (asym : Int) (delta gather : Nat) : BeamSt :=
  let d := halfUp (rtt - turn + asym)
  let u := halfUp (rtt - turn - asym)
  { b with calValid := true, rtt := rtt, turn := turn, dDown := d, dUp := u
           ul := ceilDiv (2450 + u - gather) 10 * 10
           delayMargin := decide (delta < 1000 + d), excess := 1000 + d - delta }

/-- The alarm and the event that follow new delays of lane `l`, which had `b` before: `d` is the delay down. -/
def State.judgeDelay (s : State) (l : Nat) (b : BeamSt) (d : Nat) : State :=
  let s := if decide (s.pkg.cnv.delta < 1000 + d) then s.alarm .delayMargin l else s.clearAlarm .delayMargin l
  if b.calValid ∧ (b.dDown + 50 < d ∨ d + 50 < b.dDown) then s.event .beamDelayStep l else s

theorem State.judgeDelay_effect (s : State) (l : Nat) (b : BeamSt) (d : Nat) :
    Effect 0x4000000000 s (s.judgeDelay l b d) := by
  have h : Effect 0x4000000000 s
      (if decide (s.pkg.cnv.delta < 1000 + d) then s.alarm .delayMargin l else s.clearAlarm .delayMargin l) :=
    .ite (fun _ => State.alarm_effect ..) fun _ => State.clearAlarm_effect ..
  exact .ite (fun _ => h.go (State.event_effect ..) rfl) fun _ => h

/-- What a reply in time does: the lane takes its delays, they are judged, and the calibration has ended. -/
theorem execCalibrateReplyRx_inTime {s : State} {l : Fin 64} {t0 turn : Nat}
    (h : ((s.flushBeam l).beams.get l).calSent = some t0) (ht : s.now ≤ t0 + 10000000) :
    execCalibrateReplyRx l s.now turn s = .next ((((s.flushBeam l).updBeam l fun b =>
      b.measured (s.now - t0) turn (s.pkg.beamAsym.get l) s.pkg.cnv.delta (gatherEnd s.cf)).judgeDelay l
        ((s.flushBeam l).beams.get l) (halfUp ((s.now - t0 : Nat) - turn + s.pkg.beamAsym.get l))).calEnded l true) := by
  have pkg : (s.flushBeam l).pkg = s.pkg := congrArg Svc.pkg (s.flushBeam_svc l)
  have cf : (s.flushBeam l).cf = s.cf := by rw [State.cf, State.cf, pkg]
  have pkg' (f : BeamSt → BeamSt) : ((s.flushBeam l).updBeam l f).pkg = s.pkg := pkg
  simp only [execCalibrateReplyRx, State.upTo_self, h, if_neg (Nat.not_lt.2 ht), pkg, cf, State.judgeDelay, pkg',
    BeamSt.measured]

theorem calibrateReplyRx_inTime {s : State} {l : Fin 64} {t0 turn : Nat}
    (h : ((s.flushBeam l).beams.get l).calSent = some t0) (ht : s.now ≤ t0 + 10000000) :
    s.Gives (.calibrateReplyRx l s.now turn) [.freeIdx, .beams, .hif, .mlk, .recs, .outputs] fun t =>
      let y := t.beams.get l
      let asym := s.pkg.beamAsym.get l
      let rtt := s.now - t0
      y.calValid = true ∧ y.rtt = rtt ∧ y.turn = turn ∧ y.calSent = none ∧
      (y.dDown : Int) = max 0 (((rtt : Int) - turn + asym + 1) / 2) ∧
      (y.dUp : Int) = max 0 (((rtt : Int) - turn - asym + 1) / 2) ∧
      y.delayMargin = decide (s.pkg.cnv.delta < 1000 + y.dDown) := by
  have e := execCalibrateReplyRx_inTime (turn := turn) h ht
  have j := ((s.flushBeam l).updBeam l fun b =>
      b.measured (s.now - t0) turn (s.pkg.beamAsym.get l) s.pkg.cnv.delta (gatherEnd s.cf)).judgeDelay_effect l
        ((s.flushBeam l).beams.get l) (halfUp ((s.now - t0 : Nat) - turn + s.pkg.beamAsym.get l))
  refine (((((s.flushBeam_effect l).mono rfl).go (State.updBeam_effect ..) rfl).go j rfl).go (State.calEnded_effect ..) rfl :
    Effect 0x47040000002 s _).gives rfl e ?_
  have lane := State.calEnded_lane (State.judgeDelay ((s.flushBeam l).updBeam l fun b =>
      b.measured (s.now - t0) turn (s.pkg.beamAsym.get l) s.pkg.cnv.delta (gatherEnd s.cf)) l
        ((s.flushBeam l).beams.get l) (halfUp ((s.now - t0 : Nat) - turn + s.pkg.beamAsym.get l))) l true
  rw [show (State.judgeDelay _ _ _ _).beams = _ from j.same .beams rfl, State.updBeam_beams, Tbl.get_upd_same] at lane
  dsimp only
  rw [lane]
  exact ⟨rfl, rfl, rfl, rfl, halfUp_eq _, halfUp_eq _, rfl⟩

/-- Without a reply the calibration ends 10 ms after LAUNCH, and the lane keeps its values (R219). -/
theorem beamCalFail_gives {s : State} {l : Fin 64} {t0 : Nat}
    (h : (((s.upTo (lastStart (s.beams.get l))).flushBeam l).beams.get l).calSent = some t0) :
    let u := (s.upTo (lastStart (s.beams.get l))).flushBeam l
    s.Gives (.beamCalFail l) [.now, .col, .freeIdx, .beams, .hif, .mlk, .recs, .outputs] fun t =>
      t.now = max u.now (t0 + 10000000) ∧ (Ev.beamCalFail, l.val, t.now) ∈ t.recs.evr.events ∧
      t.beams.get l = { u.beams.get l with calSent := none, calJobs := (t.beams.get l).calJobs } := by
  intro u
  have e : exec (.beamCalFail l) s = .next (((u.upTo (t0 + 10000000)).event .beamCalFail l).calEnded l false) := by
    show execBeamCalFail l s = _
    simp only [execBeamCalFail, h, u]
  have now : (((u.upTo (t0 + 10000000)).event .beamCalFail l).calEnded l false).now = max u.now (t0 + 10000000) := by
    rw [show (State.calEnded _ _ _).now = _ from (State.calEnded_effect ..).same .now rfl, State.event_now, State.upTo_now]
  refine (Effect.of_ok (execBeamCalFail_effect l s) e).gives rfl e ⟨now, ?_, ?_⟩
  · rw [now, State.calEnded_recs, State.event_events, State.upTo_now]
    simp
  · have lane := State.calEnded_lane ((u.upTo (t0 + 10000000)).event .beamCalFail l) l false
    rw [State.event_beams, State.upTo_beams] at lane
    exact lane

end Sys2Proof.Machine
end

section
/-! PROOF. Uplink frames (O33): the checks of a frame, and the entries of one complete in time. -/

namespace Sys2Proof.Machine

/-! ## Uplinks (R218, R222) -/

/-- The header of an uplink frame names the lane and its kind (R218). -/
def uplinkKnown (fr : UplinkFrame) (l : Nat) : Bool := fr.syncOk && fr.lane = l && fr.regular

/-- The frame echoes the parameters in force (R220). -/
def State.echoes (s : State) (fr : UplinkFrame) : Bool := fr.cfEcho * 100 = s.pkg.cnv.cf && fr.deltaEcho = s.pkg.cnv.delta

/-- The header checks that a good frame passes (R218). -/
def State.goodUplink (s : State) (l : Nat) (fr : UplinkFrame) : Prop :=
  fr.syncOk = true ∧ fr.lane = l ∧ fr.regular = true ∧ fr.fnum = s.cnv.fnum % 2 ^ 32 ∧
    (fr.cfEcho * 100 = s.pkg.cnv.cf ∧ fr.deltaEcho = s.pkg.cnv.delta)

/-- The module is in GATHER, and the frame has come in time (R172). -/
def State.gatherTime (s : State) : Prop := s.cnv.phase = .gather ∧ s.now + 400 ≤ s.cnv.tickAt + s.pkg.cnv.cf * 3 / 10

/-- What the lane takes of a frame whose CRC holds: its status, and whether it echoes the parameters. -/
def State.hearUplink (s : State) (l : Nat) (fr : UplinkFrame) : State :=
  if uplinkKnown fr l then
    if s.echoes fr then ((s.laneStatus l fr).updBeam l fun b => { b with paramOk := true }).clearAlarm .beamParam l
    else ((s.laneStatus l fr).updBeam l fun b =>
      { b with paramOk := false, calDue := true
               calFrom := if b.calDue then b.calFrom else (s.laneStatus l fr).cnv.fnum + 1 }).alarm .beamParam l
  else s

/-- The sub-module of entry `i` of a frame on the `k`-th lane of arm `a` takes the entry. -/
def State.takeEntry (l : Nat) (fr : UplinkFrame) (a k : Nat) (s : State) (i : Nat) : State :=
  match fr.entries[i]? with
  | some e =>
    let e := if s.concHolds l fr then { e with applied := formCode .block } else e
    if e.fresh then s.updSm a (k * 128 + i) fun x => { x with fresh := some e } else s
  | none => s

/-- What a frame complete in time on the first lane of arm `a` does before its entries are taken. -/
def State.useUplink (s : State) (l : Nat) (fr : UplinkFrame) (a : Nat) : State :=
  ((s.hearUplink l fr).updBeam l fun b => { b with used := true }).updArm a fun x => { x with iarmUp := some fr.iarm }

theorem State.hearUplink_effect (s : State) (l : Nat) (fr : UplinkFrame) : Effect 0x4040000000 s (s.hearUplink l fr) := by
  unfold State.hearUplink
  have h := s.laneStatus_effect l fr
  refine .ite (fun _ => .ite (fun _ => ?_) fun _ => ?_) fun _ => .refl _ _
  · exact (h.go (State.updBeam_effect ..) rfl).go (State.clearAlarm_effect ..) rfl
  · exact (h.go (State.updBeam_effect ..) rfl).go (State.alarm_effect ..) rfl

theorem State.laneStatus_beam (s : State) (l : Nat) (fr : UplinkFrame) :
    (s.laneStatus l fr).beams.get l = { s.beams.get l with
      concBlocked := fr.concBlocked, timeOk := fr.timeOk, cfault := fr.cstat / 256 % 256 } := by
  unfold State.laneStatus
  dsimp only
  split <;> split <;> simp

/-- The counters of a lane are the same after a frame has been heard. -/
theorem State.hearUplink_counters (s : State) (l : Nat) (fr : UplinkFrame) :
    ((s.hearUplink l fr).beams.get l).hdrErr = (s.beams.get l).hdrErr ∧
    ((s.hearUplink l fr).beams.get l).late = (s.beams.get l).late := by
  unfold State.hearUplink
  split
  · split <;> simp [s.laneStatus_beam l fr]
  · exact ⟨rfl, rfl⟩

theorem State.goodUplink_iff (s : State) (l : Nat) (fr : UplinkFrame) :
    s.goodUplink l fr ↔
      (!fr.syncOk || fr.lane ≠ l || !fr.regular || fr.fnum ≠ s.cnv.fnum % 2 ^ 32 || !s.echoes fr) = false := by
  simp [State.goodUplink, State.echoes, and_assoc]

/-- A good frame is heard: its status stands in the lane, whose parameters are right. -/
theorem State.hearUplink_good {s : State} {l : Nat} {fr : UplinkFrame} (h : s.goodUplink l fr) :
    s.hearUplink l fr = ((s.laneStatus l fr).updBeam l fun b => { b with paramOk := true }).clearAlarm .beamParam l := by
  obtain ⟨h1, h2, h3, _, h5, h6⟩ := h
  simp [State.hearUplink, uplinkKnown, State.echoes, h1, h2, h3, h5, h6]

theorem uplinkFrameRx_crcErr {s : State} {l : Fin 64} {fr : UplinkFrame} (hr : s.cnvRuns = true)
    (hl : (s.beams.get l).locked = true) (hc : fr.crcOk = false) :
    s.Gives (.uplinkFrameRx l fr s.now) [.beams] fun t =>
      t.beams = s.beams.set l { s.beams.get l with crcErr := min ((s.beams.get l).crcErr + 1) 0xFFFFFFFF } := by
  have e : exec (.uplinkFrameRx l fr s.now) s = .next (s.updBeam l fun b => { b with crcErr := sat32 b.crcErr 1 }) := by
    show execUplinkFrameRx l fr s.now s = _
    simp [execUplinkFrameRx, hr, hl, hc]
  exact (s.updBeam_effect l _).gives rfl e rfl

/-- What a frame whose CRC holds does, by its header and its time. -/
theorem execUplinkFrameRx_crcOk {s : State} {l : Fin 64} {fr : UplinkFrame} (hr : s.cnvRuns = true)
    (hl : (s.beams.get l).locked = true) (hc : fr.crcOk = true) :
    (¬ s.goodUplink l fr → execUplinkFrameRx l fr s.now s =
      .next ((s.hearUplink l fr).updBeam l fun b => { b with hdrErr := sat32 b.hdrErr 1 })) ∧
    (s.goodUplink l fr → ¬ s.gatherTime → execUplinkFrameRx l fr s.now s =
      .next ((s.hearUplink l fr).updBeam l fun b => { b with late := sat32 b.late 1 })) ∧
    (∀ a, s.goodUplink l fr → s.gatherTime → s.laneArm l = some (a, 0) → execUplinkFrameRx l fr s.now s =
      .next ((s.useUplink l fr a).each ((List.range 128).filter fun i => decide (0 * 128 + i < (s.pkg.arms.get a).smCount))
        (State.takeEntry l fr a 0))) := by
  have keep := s.hearUplink_effect l fr
  have hcnv : (s.hearUplink l fr).cnv = s.cnv := keep.same .cnv rfl
  have hsvc : (s.hearUplink l fr).svc = s.svc := keep.same .svc rfl
  have hpkg : (s.hearUplink l fr).pkg = s.pkg := congrArg Svc.pkg hsvc
  have hcf : (s.hearUplink l fr).cf = s.pkg.cnv.cf := congrArg (·.cnv.cf) hpkg
  have harm : (s.hearUplink l fr).laneArm l = s.laneArm l := by
    simp only [State.laneArm, State.armList, State.armLanes, hpkg]
  have e : execUplinkFrameRx l fr s.now s = .next (
      if (!fr.syncOk || fr.lane ≠ l.val || !fr.regular || fr.fnum ≠ s.cnv.fnum % 2 ^ 32 || !s.echoes fr) = true then
        (s.hearUplink l fr).updBeam l fun b => { b with hdrErr := sat32 b.hdrErr 1 }
      else if (s.hearUplink l fr).cnv.phase ≠ .gather ∨
          (s.hearUplink l fr).cnv.tickAt + gatherEnd (s.hearUplink l fr).cf < s.now + 400 then
        (s.hearUplink l fr).updBeam l fun b => { b with late := sat32 b.late 1 }
      else match (s.hearUplink l fr).laneArm l with
        | none => s.hearUplink l fr
        | some (a, k) =>
          let s := (s.hearUplink l fr).updBeam l fun b => { b with used := true }
          let s := if k = 0 then s.updArm a fun x => { x with iarmUp := some fr.iarm } else s
          s.each ((List.range 128).filter fun i => decide (k * 128 + i < (s.pkg.arms.get a).smCount))
            (State.takeEntry l fr a k)) := by
    unfold execUplinkFrameRx
    simp only [State.upTo_self]
    rw [if_neg (by simp [hr, hl]), if_neg (by simp [hc])]
    rfl
  rw [e, hcnv, hcf, harm]
  refine ⟨fun hg => ?_, fun hg ht => ?_, fun a hg ht ha => ?_⟩
  · rw [if_pos (by simpa only [s.goodUplink_iff l fr, Bool.not_eq_false] using hg)]
  · rw [if_neg (Bool.eq_false_iff.1 ((s.goodUplink_iff l fr).1 hg)), if_pos]
    by_contra hn
    obtain ⟨hp, hd⟩ := not_or.1 hn
    refine ht ⟨not_not.1 hp, ?_⟩
    unfold gatherEnd at hd
    omega
  · rw [if_neg (Bool.eq_false_iff.1 ((s.goodUplink_iff l fr).1 hg)), if_neg]
    · rw [ha, show s.pkg = (s.useUplink l fr a).pkg from hpkg.symm]
      rfl
    · obtain ⟨hp, hd⟩ := ht
      unfold gatherEnd
      rintro (h | h)
      · exact h hp
      · omega

theorem uplinkFrameRx_hdrErr {s : State} {l : Fin 64} {fr : UplinkFrame} (hr : s.cnvRuns = true)
    (hl : (s.beams.get l).locked = true) (hc : fr.crcOk = true) (hg : ¬ s.goodUplink l fr) :
    s.Gives (.uplinkFrameRx l fr s.now) [.beams, .recs] fun t =>
      (t.beams.get l).hdrErr = min ((s.beams.get l).hdrErr + 1) 0xFFFFFFFF := by
  obtain ⟨e, _, _⟩ := execUplinkFrameRx_crcOk hr hl hc
  refine ((s.hearUplink_effect l fr).go (State.updBeam_effect ..) rfl).gives rfl (e hg) ?_
  rw [State.updBeam_beams, Tbl.get_upd_same, ← (s.hearUplink_counters l fr).1]
  rfl

theorem uplinkFrameRx_late {s : State} {l : Fin 64} {fr : UplinkFrame} (hr : s.cnvRuns = true)
    (hl : (s.beams.get l).locked = true) (hc : fr.crcOk = true) (hg : s.goodUplink l fr) (ht : ¬ s.gatherTime) :
    s.Gives (.uplinkFrameRx l fr s.now) [.beams, .recs] fun t =>
      (t.beams.get l).late = min ((s.beams.get l).late + 1) 0xFFFFFFFF ∧ (t.beams.get l).paramOk = true := by
  obtain ⟨_, e, _⟩ := execUplinkFrameRx_crcOk hr hl hc
  refine ((s.hearUplink_effect l fr).go (State.updBeam_effect ..) rfl).gives rfl (e hg ht) ⟨?_, ?_⟩
  · rw [State.updBeam_beams, Tbl.get_upd_same, ← (s.hearUplink_counters l fr).2]
    rfl
  · rw [State.updBeam_beams, Tbl.get_upd_same, State.hearUplink_good hg]
    simp

/-! ### A frame complete in time -/

theorem State.takeEntry_effect (l : Nat) (fr : UplinkFrame) (a k : Nat) (s : State) (i : Nat) :
    Effect 0x10000000 s (s.takeEntry l fr a k i) := by
  unfold State.takeEntry
  split
  · exact .ite (fun _ => State.updSm_effect ..) fun _ => .refl _ _
  · exact .refl _ _

/-- Whether a frame holds its arm is the same once the arm's lane and operating state are. -/
theorem State.concHolds_congr {s t : State} (l : Nat) (fr : UplinkFrame) (hsvc : t.svc = s.svc)
    (ha : ∀ a, (t.arms.get a).op = (s.arms.get a).op ∧ (t.arms.get a).trip = (s.arms.get a).trip) :
    t.concHolds l fr = s.concHolds l fr := by
  have hl : t.laneArm l = s.laneArm l := by
    simp only [State.laneArm, State.armList, State.armLanes, State.pkg, hsvc]
  unfold State.concHolds
  rw [hl]
  cases s.laneArm l with
  | none => rfl
  | some p => simp only [(ha p.1).1, (ha p.1).2]

/-- The concentrator blocks its arm while that is DEBLOCKED and no trip is latched (R222). -/
theorem State.concHolds_iff {s : State} {l a : Nat} {fr : UplinkFrame} (ha : s.laneArm l = some (a, 0)) :
    s.concHolds l fr = true ↔
      fr.concBlocked = true ∧ (s.arms.get a).op = .deblocked ∧ (s.arms.get a).trip = false := by
  simp [State.concHolds, ha]

/-- An entry that is there and fresh is what its sub-module has of the frame. -/
theorem State.takeEntry_sm (s : State) {l : Nat} {fr : UplinkFrame} {a i : Nat} {e : UpEntry} (he : fr.entries[i]? = some e)
    (hf : e.fresh = true) : (s.takeEntry l fr a 0 i).sm a i =
      { s.sm a i with fresh := some (if s.concHolds l fr then { e with applied := 0 } else e) } := by
  unfold State.takeEntry State.sm
  rw [he]
  dsimp only
  rw [if_pos (by split <;> exact hf)]
  simp [formCode]

theorem State.updSm_sm_other (s : State) (a : Nat) {i j : Nat} (h : j ≠ i) (g : SmSt → SmSt) :
    (s.updSm a j g).sm a i = s.sm a i := by
  have hk : smKey a j ≠ smKey a i := by unfold smKey; omega
  rw [State.sm, State.updSm_sms, Tbl.get_upd_other _ _ hk, State.sm]

theorem State.takeEntry_sm_other (s : State) {l : Nat} {fr : UplinkFrame} {a i j : Nat} (h : j ≠ i) :
    (s.takeEntry l fr a 0 j).sm a i = s.sm a i := by
  unfold State.takeEntry
  split
  · next e _ =>
    generalize (if s.concHolds l fr then { e with applied := formCode .block } else e) = e'
    dsimp only
    split
    · exact s.updSm_sm_other a (by omega) _
    · rfl
  · rfl

/-- The entries of a frame reach their sub-modules (R172, R222). -/
theorem State.takeEntries_sm (s : State) {l : Nat} {fr : UplinkFrame} {a n i : Nat} {e : UpEntry} (hi : i < 128) (hn : i < n)
    (he : fr.entries[i]? = some e) (hf : e.fresh = true) :
    (s.each ((List.range 128).filter fun i => decide (0 * 128 + i < n)) (State.takeEntry l fr a 0)).sm a i =
      { s.sm a i with fresh := some (if s.concHolds l fr then { e with applied := 0 } else e) } := by
  refine State.each_once (x := i) (fun t => t.sm a i) (Effect 0x10000000 s) ?_ (List.nodup_range.filter _) (.refl _ _)
    (fun t j ht => ht.trans (t.takeEntry_effect l fr a 0 j)) (fun t j _ h => t.takeEntry_sm_other h) fun t ht hg => ?_
  · simp [hi, hn]
  · have arms : t.arms = s.arms := ht.same .arms rfl
    dsimp only at hg ⊢
    rw [t.takeEntry_sm he hf, hg, State.concHolds_congr l fr (ht.same .svc rfl) fun b => by rw [arms]; exact ⟨rfl, rfl⟩]

/-- A lane whose concentrator reports another fault code has its event (R225). -/
theorem State.laneStatus_event {s : State} {l : Nat} {fr : UplinkFrame} (h : (s.beams.get l).cfault ≠ fr.cstat / 256 % 256) :
    (Ev.concStatus, fr.cstat / 256 % 256 * 64 + l, s.now) ∈ (s.laneStatus l fr).recs.evr.events := by
  unfold State.laneStatus
  dsimp only
  rw [if_neg h]
  split
  · exact State.mem_events_alarm _ _ _ (by simp)
  · simp

/-- An arm that the concentrator blocks has its alarm (R222). -/
theorem State.laneStatus_alarm {s : State} {l : Nat} {fr : UplinkFrame} (h : s.concHolds l fr = true) :
    (Ev.beamConcBlocked, l) ∈ (s.laneStatus l fr).recs.evr.alarms := by
  unfold State.laneStatus
  dsimp only
  rw [if_pos, State.mem_alarms_alarm]
  · exact .inl rfl
  · rw [State.concHolds_congr l fr ?_ ?_, h]
    · split <;> rfl
    · intro a
      split <;> exact ⟨rfl, rfl⟩

theorem uplinkFrameRx_used {s : State} {l : Fin 64} {fr : UplinkFrame} {a : Nat} (hr : s.cnvRuns = true)
    (hl : (s.beams.get l).locked = true) (hc : fr.crcOk = true) (hg : s.goodUplink l fr) (ht : s.gatherTime)
    (ha : s.laneArm l = some (a, 0)) :
    s.Gives (.uplinkFrameRx l fr s.now) [.arms, .sms, .beams, .recs] fun t =>
      (t.beams.get l).used = true ∧ (t.beams.get l).concBlocked = fr.concBlocked ∧
      (t.beams.get l).timeOk = fr.timeOk ∧ (t.arms.get a).iarmUp = some fr.iarm ∧
      (t.beams.get l).cfault = fr.cstat / 256 % 256 ∧
      ((s.beams.get l).cfault ≠ fr.cstat / 256 % 256 →
        (Ev.concStatus, fr.cstat / 256 % 256 * 64 + l.val, s.now) ∈ t.recs.evr.events) ∧
      (s.concHolds l fr = true → (Ev.beamConcBlocked, l.val) ∈ t.recs.evr.alarms) ∧
      ∀ i e, i < 128 → i < (s.pkg.arms.get a).smCount → fr.entries[i]? = some e → e.fresh = true →
        t.sm a i = { s.sm a i with fresh := some (if s.concHolds l fr then { e with applied := 0 } else e) } := by
  obtain ⟨_, _, e⟩ := execUplinkFrameRx_crcOk hr hl hc
  have heard := s.hearUplink_effect l fr
  have used : Effect 0x4048000000 s (s.useUplink l fr a) :=
    ((heard.mono rfl).go (State.updBeam_effect ..) rfl).go (State.updArm_effect ..) rfl
  have taken : Effect 0x10000000 (s.useUplink l fr a) ((s.useUplink l fr a).each
      ((List.range 128).filter fun i => decide (0 * 128 + i < (s.pkg.arms.get a).smCount)) (State.takeEntry l fr a 0)) :=
    (Effect.refl _ _).each fun t i k => k.trans (t.takeEntry_effect l fr a 0 i)
  refine ((used.mono rfl).go taken rfl : Effect 0x4058000000 s _).gives rfl (e a hg ht ha) ?_
  have beams : State.beams (State.each _ _ _) = _ := taken.same .beams rfl
  have recs : State.recs (State.each _ _ _) = _ := taken.same .recs rfl
  have arms : State.arms (State.each _ _ _) = _ := taken.same .arms rfl
  have lane : (s.useUplink l fr a).beams.get l = { s.beams.get l with
      concBlocked := fr.concBlocked, timeOk := fr.timeOk, cfault := fr.cstat / 256 % 256, paramOk := true,
      used := true } := by
    simp [State.useUplink, State.hearUplink_good hg, s.laneStatus_beam l fr]
  have evr : (s.useUplink l fr a).recs = (s.hearUplink l fr).recs := rfl
  rw [beams, recs, arms, lane, evr, State.hearUplink_good hg]
  refine ⟨rfl, rfl, rfl, ?_, rfl, fun h => ?_, fun h => ?_, fun i e hi hn he hf => ?_⟩
  · simp [State.useUplink]
  · rw [State.clearAlarm_events]
    exact State.laneStatus_event h
  · rw [State.mem_alarms_clearAlarm]
    exact ⟨by simp, State.laneStatus_alarm h⟩
  · have sms : (s.useUplink l fr a).sm a i = s.sm a i := by
      rw [State.sm, show (s.useUplink l fr a).sms = s.sms from used.same .sms rfl, State.sm]
    have holds : (s.useUplink l fr a).concHolds l fr = s.concHolds l fr := by
      have harms : (s.hearUplink l fr).arms = s.arms := heard.same .arms rfl
      refine State.concHolds_congr l fr (used.same .svc rfl) fun b => ?_
      simp only [State.useUplink, State.updArm_arms, State.updBeam_arms, harms, Tbl.get_upd]
      split
      · next hb => subst hb; exact ⟨rfl, rfl⟩
      · exact ⟨rfl, rfl⟩
    rw [State.takeEntries_sm _ hi hn he hf, sms, holds]

end Sys2Proof.Machine
end

section
/-! PROOF. Arm trips and beam lanes (O33). -/

namespace Sys2Proof.Machine

/-- Settles O33, clause by clause from the rules of the commands above. -/
theorem armTripsAndBeamLanes : Obligations.ArmTripsAndBeamLanes := by
  intro s
  refine ⟨fun a j t0 n k hp ho ha hk => deblockTimeout_gives hp ho ha hk, fun a ht => armTripClear_cases a s ht, fun l => ?_⟩
  refine ⟨fun h => beamLockLost_gives l s h, fun h => beamLockAcquired_gives l s h,
    fun hr hb => ⟨fun hu => beamCalDue_starting hr hb hu, fun hu => beamCalDue_on hr hb hu⟩,
    fun t0 turn h ht => calibrateReplyRx_late h ht, fun t0 turn h ht => calibrateReplyRx_inTime h ht,
    fun t0 h => beamCalFail_gives h, fun fr hr hl => ?_⟩
  refine ⟨fun hc => uplinkFrameRx_crcErr hr hl hc, fun hc hg => uplinkFrameRx_hdrErr hr hl hc hg,
    fun hc hg ht => uplinkFrameRx_late hr hl hc hg ht, fun a hc hg ht ha => ?_⟩
  obtain ⟨t, e, frame, used, blocked, time, iarm, fault, event, alarm, entries⟩ := uplinkFrameRx_used hr hl hc hg ht ha
  refine ⟨t, e, frame, used, blocked, time, iarm, fault, event, fun h => alarm ((State.concHolds_iff ha).2 h), ?_⟩
  intro i x hi hn hx hf
  rw [entries i x hi hn hx hf]
  simp only [State.concHolds_iff ha]

end Sys2Proof.Machine
end

section
/-! SUPPORT. The grant (R341, R342): what a loss of the grant leaves of it, of the role, of the claim and of the host
interface's fetching. -/

namespace Sys2Proof.Machine

/-! ## What leaves the grant and the fetching as they are -/

/-- The grant, and whether the module fetches, are the same in two states. -/
def State.sameGates (s t : State) : Prop :=
  t.mlk.grant = s.mlk.grant ∧ t.hif.fetchStopped = s.hif.fetchStopped

theorem State.sameGates_refl (s : State) : s.sameGates s := ⟨rfl, rfl⟩

theorem State.sameGates_trans (s t u : State) (h : s.sameGates t) (k : t.sameGates u) : s.sameGates u :=
  ⟨k.1.trans h.1, k.2.trans h.2⟩

theorem State.sameGates_of_effect {m : Nat} {s t : State} (h : Effect m s t) (hm : m.testBit Part.mlk.ctorIdx = false)
    (hh : m.testBit Part.hif.ctorIdx = false) : s.sameGates t :=
  ⟨congrArg MlkSt.grant (h.same .mlk hm), congrArg HifSt.fetchStopped (h.same .hif hh)⟩

theorem State.each_sameGates {α : Type} {f : State → α → State} (h : ∀ (t : State) (x : α), t.sameGates (f t x)) (s : State)
    (xs : List α) : s.sameGates (s.each xs f) := State.each_rel State.sameGates_refl State.sameGates_trans h s xs

theorem State.mirror_sameGates (s : State) (x : Item) : s.sameGates (s.mirror x) := by
  unfold State.mirror
  split <;> exact ⟨rfl, rfl⟩

theorem State.updJ_sameGates (s : State) (j : Nat) (f : JEntry → JEntry) : s.sameGates (s.updJ j f) := by
  unfold State.updJ
  split
  · exact s.sameGates_refl
  · exact State.mirror_sameGates _ _

theorem State.placeRing_sameGates (s : State) (i r : Nat) : s.sameGates (s.placeRing i r) :=
  State.each_sameGates (by intro t e; exact ⟨rfl, rfl⟩) s _

theorem State.complete_sameGates (s : State) (j : Nat) (c : Code) (r : Nat) : s.sameGates (s.complete j c r) := by
  unfold State.complete
  split
  · exact s.sameGates_refl
  · split
    · exact s.sameGates_refl
    · exact State.sameGates_trans _ _ _ (State.updJ_sameGates ..) (State.placeRing_sameGates ..)

theorem State.fbGrantLost_sameGates (s : State) (b : Nat) : s.sameGates (s.fbGrantLost b) := by
  refine State.each_sameGates (fun t x => ?_) _ _
  split
  · exact State.complete_sameGates ..
  · exact t.sameGates_refl

theorem State.endDeblock_sameGates (s : State) (j : Nat) (c : Code) (k : Nat) : s.sameGates (s.endDeblock j c k) :=
  State.complete_sameGates ..

theorem State.dropDeblocks_sameGates (s : State) : s.sameGates s.dropDeblocks := by
  refine State.each_sameGates (fun t a => ?_) s _
  split
  · exact State.endDeblock_sameGates ..
  · exact t.sameGates_refl

theorem State.suspendLogic_sameGates (s : State) (p : Nat) : s.sameGates (s.suspendLogic p) := ⟨rfl, rfl⟩

/-! ## The loss of the grant -/

/-- The grant is gone, and the module fetches as before. -/
def State.grantGone (s t : State) : Prop := t.mlk.grant = false ∧ t.hif.fetchStopped = s.hif.fetchStopped

theorem State.grantGone_trans {s t u : State} (h : s.grantGone t) (k : t.sameGates u) : s.grantGone u :=
  ⟨k.1.trans h.1, k.2.trans h.2⟩

theorem State.blockOutputs_grantGone (s : State) : s.grantGone s.blockOutputs := by
  unfold State.blockOutputs
  refine State.grantGone_trans ?_ (State.dropDeblocks_sameGates _)
  refine State.grantGone_trans ?_ (State.fbGrantLost_sameGates _ _)
  refine State.grantGone_trans ?_ (State.fbGrantLost_sameGates _ _)
  refine State.grantGone_trans ?_ (State.sameGates_of_effect (State.gatePwm_effect _) rfl rfl)
  refine State.grantGone_trans ?_ (State.sameGates_of_effect (State.emits_effect _ _) rfl rfl)
  refine State.grantGone_trans ?_ (State.sameGates_of_effect (State.dropCommands_effect _) rfl rfl)
  exact ⟨rfl, congrArg HifSt.fetchStopped (s.flushBeams_effect.same .hif rfl)⟩

/-- The claim stops, where one stands. -/
def State.stopClaim (s : State) : State :=
  if (decide (s.mlk.role = .claiming) || decide (s.mlk.role = .active)) = true then s.emit (.claim false) else s

/-- Frames that wait for the partner's seal are let go. -/
def State.letUnsealedGo (s : State) : State :=
  (s.updSwc fun w => { w with unsealed := [] }).each [0, 1] fun s b => s.updFbc b fun f => { f with unsealed := [] }

/-- Descriptors that were never accepted are forgotten, and no poll is out. -/
def State.forgetUnaccepted (s : State) : State :=
  s.recover.updHif fun h => { h with journal := h.journal.filter fun e => e.sealed || e.accepted
                                     slices := h.slices.mapRows fun _ x => { x with pollOut := false } }

/-- What the grant's loss does in its clock, before the role changes (R342, R350). -/
def State.loseGrant (s : State) : State :=
  (s.blockOutputs.each s.blockOutputs.logicList fun s p => s.suspendLogic p).letUnsealedGo.forgetUnaccepted

theorem State.dropGrant_eq (s : State) (r : MlkRole) :
    s.dropGrant r = (if s.stopClaim.mlk.grant then s.stopClaim.loseGrant else s.stopClaim).updMlk fun m =>
      { m with role := r, windowEnded := false, yieldAt := false, partner := .none, items := [],
               sent := [], resyncOut := false, reqEnd := none, reqCopy := none } := rfl

theorem State.letUnsealedGo_effect (s : State) : Effect 0xA00000000 s s.letUnsealedGo :=
  Effect.each ((s.updSwc_effect _).mono rfl) fun _ _ h => h.go (State.updFbc_effect ..) rfl

theorem State.forgetUnaccepted_effect (s : State) : Effect 0x1000000000 s s.forgetUnaccepted :=
  s.recover_effect.go (State.updHif_effect ..) rfl

theorem State.forgetUnaccepted_sameGates (s : State) : s.sameGates s.forgetUnaccepted := ⟨rfl, rfl⟩

theorem State.loseGrant_effect (s : State) : Effect 0x43AC80008C2 s s.loseGrant :=
  ((Effect.each (s.blockOutputs_effect.mono rfl) fun t p h => h.go (t.suspendLogic_effect p) rfl).go
    (State.letUnsealedGo_effect _) rfl).go (State.forgetUnaccepted_effect _) rfl

theorem State.loseGrant_grantGone (s : State) : s.grantGone s.loseGrant := by
  refine State.grantGone_trans ?_ (State.forgetUnaccepted_sameGates _)
  refine State.grantGone_trans ?_ (State.sameGates_of_effect (State.letUnsealedGo_effect _) rfl rfl)
  exact State.grantGone_trans s.blockOutputs_grantGone (State.each_sameGates State.suspendLogic_sameGates _ _)

/-- After a loss of the grant the module has none (R342). -/
theorem State.dropGrant_grantGone (s : State) (r : MlkRole) : s.grantGone (s.dropGrant r) := by
  have claim : s.sameGates s.stopClaim := by
    unfold State.stopClaim
    split <;> exact ⟨rfl, rfl⟩
  rw [State.dropGrant_eq]
  refine State.grantGone_trans (t := if s.stopClaim.mlk.grant then s.stopClaim.loseGrant else s.stopClaim) ?_ ⟨rfl, rfl⟩
  split
  · obtain ⟨grant, fetch⟩ := s.stopClaim.loseGrant_grantGone
    exact ⟨grant, fetch.trans claim.2⟩
  · next h => exact ⟨by simpa using h, claim.2⟩

theorem State.dropGrant_role (s : State) (r : MlkRole) : (s.dropGrant r).mlk.role = r := rfl

/-- The claim stops with the grant (R342). -/
theorem State.dropGrant_claim {s : State} (r : MlkRole) (h : s.mlk.role = .claiming ∨ s.mlk.role = .active) :
    Emission.claim false ∈ (s.dropGrant r).outputs := by
  have stopped : Emission.claim false ∈ s.stopClaim.outputs := by
    rw [State.stopClaim, if_pos (by simpa using h)]
    simp [State.emit]
  rw [State.dropGrant_eq, State.updMlk_outputs]
  split
  · exact s.stopClaim.loseGrant_effect.follows.sent.subset stopped
  · exact stopped

/-- A module that leaves RUNNING is OFFLINE (R350). -/
theorem State.toOffline_role (s : State) : s.toOffline.mlk.role = .offline := by
  unfold State.toOffline
  split
  · assumption
  · rfl

theorem State.toOffline_grantGone {s : State} (h : s.mlk.role ≠ .offline) : s.grantGone s.toOffline := by
  unfold State.toOffline
  rw [if_neg h]
  exact s.dropGrant_grantGone .offline

theorem State.toOffline_fetchStopped (s : State) : s.toOffline.hif.fetchStopped = s.hif.fetchStopped := by
  by_cases h : s.mlk.role = .offline
  · rw [State.toOffline, if_pos h]
  · exact (State.toOffline_grantGone h).2

end Sys2Proof.Machine
end

section
/-! SUPPORT. The supply and its failing (R438, R439, R454, R473): the warnings, and what the qualification of power-fail
leaves. -/

namespace Sys2Proof.Machine

/-! ## Supply warnings (R438, R439, R454) -/

theorem supplyWarn_gives (s : State) (v : BitVec 12) (hp : s.ka.powerGood = true) :
    s.Gives (.supplyWarn v) [.ka, .recs] fun t =>
      (v.toNat < 1360 → t.ka = { s.ka with vin := v, warn := true } ∧ t.recs = { s.recs with copyPaused := true }) ∧
      (1360 ≤ v.toNat → t.ka = { s.ka with vin := v } ∧ t.recs = s.recs) := by
  by_cases h : v.toNat < 1360
  · have e : exec (.supplyWarn v) s =
        .next { (s.setVin v).updKa fun k => { k with warn := true } with recs.copyPaused := true } := by
      show execSupplyWarn v s = _
      simp [execSupplyWarn, hp, vWarn, h]
    exact Effect.gives (Effect.of_ok (execSupplyWarn_effect v s) e) rfl e
      ⟨fun _ => ⟨rfl, rfl⟩, fun k => absurd h (Nat.not_lt.2 k)⟩
  · have e : exec (.supplyWarn v) s = .next (s.setVin v) := by
      show execSupplyWarn v s = _
      simp [execSupplyWarn, hp, vWarn, h]
    exact Effect.gives (Effect.of_ok (execSupplyWarn_effect v s) e) rfl e ⟨fun k => absurd k h, fun _ => ⟨rfl, rfl⟩⟩

theorem supplyWarnClear_gives (s : State) (v : BitVec 12) (hp : s.ka.powerGood = true) :
    s.Gives (.supplyWarnClear v) [.ka, .recs, .hw] fun t =>
      (1400 ≤ v.toNat → t.ka = { s.ka with vin := v, warn := false } ∧
        t.recs = { s.recs with copyPaused := false } ∧ t.hw.pf = (if s.hw.pf = .below then .none else s.hw.pf)) ∧
      (v.toNat < 1400 → t.ka = { s.ka with vin := v } ∧ t.recs = s.recs ∧ t.hw = s.hw) := by
  by_cases h : 1400 ≤ v.toNat
  · have e : exec (.supplyWarnClear v) s =
        .next { ((s.setVin v).updHw fun h => { h with pf := if h.pf = .below then .none else h.pf }).updKa fun k =>
          { k with warn := false } with recs.copyPaused := false } := by
      show execSupplyWarnClear v s = _
      simp [execSupplyWarnClear, hp, vReturn, h]
    exact Effect.gives (Effect.of_ok (execSupplyWarnClear_effect v s) e) rfl e
      ⟨fun _ => ⟨rfl, rfl, rfl⟩, fun k => absurd k (Nat.not_lt.2 h)⟩
  · have e : exec (.supplyWarnClear v) s = .next (s.setVin v) := by
      show execSupplyWarnClear v s = _
      simp [execSupplyWarnClear, hp, vReturn, h]
    exact Effect.gives (Effect.of_ok (execSupplyWarnClear_effect v s) e) rfl e
      ⟨fun k => absurd k h, fun _ => ⟨rfl, rfl, rfl⟩⟩

/-- Below 33 V the warning stands, and a thermal trip ends (R438, R442, R454). -/
def State.belowFail (s : State) (v : BitVec 12) : State :=
  { ((s.setVin v).updKa fun k => { k with warn := true }).updHw fun h => { h with thermalTrip := false } with
    recs.copyPaused := true }

theorem supplyBelowPfail_gives (s : State) (v : BitVec 12) (hp : s.ka.powerGood = true) (hv : v.toNat < 1320) :
    s.Gives (.supplyBelowPfail v) [.ka, .recs, .hw] fun t =>
      t.ka = { s.ka with vin := v, warn := true } ∧ t.recs = { s.recs with copyPaused := true } ∧
      (s.hw.pf = .none → t.hw = { s.hw with thermalTrip := false, pf := .below, belowAt := s.now }) := by
  have body : exec (.supplyBelowPfail v) s = .next (if (s.belowFail v).hw.pf = .none then
      (s.belowFail v).updHw fun h => { h with pf := .below, belowAt := s.now } else s.belowFail v) := by
    show execSupplyBelowPfail v s = _
    unfold execSupplyBelowPfail
    rw [if_neg (by simpa [hp, vFail] using hv)]
    rfl
  refine Effect.gives (Effect.of_ok (execSupplyBelowPfail_effect v s) body) rfl body ?_
  split
  · exact ⟨rfl, rfl, fun _ => rfl⟩
  · next h => exact ⟨rfl, rfl, fun k => absurd k h⟩

/-! ## The qualification of power-fail (R373, R438, R473) -/

/-- Power-fail is noted in hardware and in the keep-alive domain. -/
def State.beginPfail (s : State) : State :=
  (s.updHw fun h => { h with pf := .qualified, qualAt := s.now }).updKa fun k => { k with pfail := true }

/-- Nothing more is fetched, and the recorder's open intervals close. -/
def State.stopWork (s : State) : State :=
  (s.updHif fun h =>
    { h with fetchStopped := true, slices := h.slices.mapRows fun _ x => { x with pollOut := false } }).evrCloseAll true

/-- An arm's commands carry BLOCK from the next frame on. -/
def State.blockArm (s : State) (a : Nat) : State := s.updArm a fun x => { x with blockAt := x.blockAt ++ [(0, 0)] }

/-- What power-fail does with the grant: a pair gives it up, a single module blocks its arms. -/
def State.yieldPower (s : State) : State :=
  if s.paired then s.toOffline else if s.mlk.grant then s.each s.armList State.blockArm else s

theorem State.qualify_eq (s : State) : s.qualify =
    if s.glb.phase ≠ .running then s.beginPfail.updKa fun k => { k with retentionValid := false }
    else s.beginPfail.stopWork.yieldPower := rfl

theorem State.stopWork_effect (s : State) : Effect 0x5000000000 s s.stopWork :=
  ((s.updHif_effect _).mono rfl).go (State.evrCloseAll_effect _ _) rfl

theorem State.blockArms_effect (s : State) (l : List Nat) : Effect 0x8000000 s (s.each l State.blockArm) :=
  Effect.each (Effect.refl _ s) fun t a h => h.go (t.updArm_effect a _) rfl

theorem State.yieldPower_effect (s : State) : Effect 0x43AC80008C2 s s.yieldPower := by
  unfold State.yieldPower
  split
  · exact s.toOffline_effect
  · split
    · exact (s.blockArms_effect _).mono rfl
    · exact Effect.refl _ s

/-- Every arm of the list that is blocked carries the block. -/
theorem State.blockAt_blockArms (s : State) {l : List Nat} {a : Nat} (h : a ∈ l) :
    (0, 0) ∈ ((s.each l State.blockArm).arms.get a).blockAt := by
  have keeps (t : State) (b : Nat) (k : (0, 0) ∈ (t.arms.get a).blockAt) : (0, 0) ∈ ((t.blockArm b).arms.get a).blockAt := by
    by_cases e : b = a
    · subst e; simp [State.blockArm, State.updArm]
    · simpa [State.blockArm, State.updArm, Tbl.get_upd_other, e] using k
  have rest (t : State) (l : List Nat) : (0, 0) ∈ (t.arms.get a).blockAt →
      (0, 0) ∈ ((t.each l State.blockArm).arms.get a).blockAt :=
    State.each_rel (R := fun s t => (0, 0) ∈ (s.arms.get a).blockAt → (0, 0) ∈ (t.arms.get a).blockAt)
      (fun _ => id) (fun _ _ _ p q => q ∘ p) keeps t l
  induction l generalizing s with
  | nil => cases h
  | cons b l ih =>
    rcases List.mem_cons.1 h with rfl | h
    · exact rest (s.blockArm a) l (by simp [State.blockArm, State.updArm])
    · exact ih (s.blockArm b) h

/-- What power-fail leaves of a module that was `s` when it was qualified. -/
def State.Qualified (s t : State) : Prop :=
  t.hw.pf = .qualified ∧ t.ka.pfail = true ∧ (s.glb.phase ≠ .running → t.ka.retentionValid = false) ∧
  (s.glb.phase = .running → t.hif.fetchStopped = true ∧
    (s.paired = true → t.mlk.role = .offline ∧ (s.mlk.role ≠ .offline → t.mlk.grant = false)) ∧
    (s.paired = false → s.mlk.grant = true → t.mlk.grant = true ∧ ∀ a, a ∈ s.armList → (0, 0) ∈ (t.arms.get a).blockAt))

/-- The grant and the fetching once power-fail has been qualified in RUNNING. -/
theorem State.yieldPower_gates (s : State) : s.yieldPower.hif.fetchStopped = s.hif.fetchStopped ∧
    (s.paired = true → s.yieldPower.mlk.role = .offline ∧ (s.mlk.role ≠ .offline → s.yieldPower.mlk.grant = false)) ∧
    (s.paired = false → s.mlk.grant = true → s.yieldPower.mlk.grant = true ∧
      ∀ a, a ∈ s.armList → (0, 0) ∈ (s.yieldPower.arms.get a).blockAt) := by
  unfold State.yieldPower
  by_cases hp : s.paired = true
  · rw [if_pos hp]
    exact ⟨s.toOffline_fetchStopped, fun _ => ⟨s.toOffline_role, fun h => (State.toOffline_grantGone h).1⟩,
      fun h => absurd hp (by simp [h])⟩
  · rw [if_neg hp]
    by_cases hg : s.mlk.grant = true
    · rw [if_pos hg]
      have gates := State.sameGates_of_effect (s.blockArms_effect s.armList) rfl rfl
      exact ⟨gates.2, fun h => absurd h hp, fun _ _ => ⟨gates.1.trans hg, fun a => s.blockAt_blockArms⟩⟩
    · rw [if_neg hg]
      exact ⟨rfl, fun h => absurd h hp, fun _ h => absurd h hg⟩

theorem State.stopWork_fetchStopped (s : State) : s.stopWork.hif.fetchStopped = true :=
  congrArg HifSt.fetchStopped ((State.evrCloseAll_effect _ true).same .hif rfl)

theorem State.qualify_hw (s : State) : s.qualify.hw = { s.hw with pf := .qualified, qualAt := s.now } := by
  rw [State.qualify_eq]
  split
  · rfl
  · exact ((s.beginPfail.stopWork_effect.mono rfl).go (State.yieldPower_effect _) rfl :
      Effect 0x47AC80008C2 s.beginPfail _).same .hw rfl

theorem State.qualify_qualified (s : State) : s.Qualified s.qualify := by
  have hw : s.qualify.hw.pf = .qualified := congrArg HwSt.pf s.qualify_hw
  by_cases h : s.glb.phase = .running
  · have work := s.beginPfail.stopWork_effect
    have whole : Effect 0x47AC80008C2 s.beginPfail s.beginPfail.stopWork.yieldPower :=
      (work.mono rfl).go (State.yieldPower_effect _) rfl
    have eq : s.qualify = s.beginPfail.stopWork.yieldPower := by rw [State.qualify_eq, if_neg (not_not.2 h)]
    obtain ⟨fetch, pair, single⟩ := s.beginPfail.stopWork.yieldPower_gates
    have mlk : s.beginPfail.stopWork.mlk = s.mlk := work.same .mlk rfl
    have arms : s.beginPfail.stopWork.armList = s.armList :=
      congrArg (fun v : Svc => (List.range 8).filter fun a => (v.pkg.arms.get a).present) (work.same .svc rfl)
    have ka : s.beginPfail.stopWork.yieldPower.ka = s.beginPfail.ka := whole.same .ka rfl
    rw [State.paired, arms, mlk] at single
    rw [State.paired, mlk] at pair
    refine ⟨hw, ?_, fun k => absurd h k, fun _ => ?_⟩
    · rw [eq, ka]; rfl
    · rw [eq]
      exact ⟨fetch.trans s.beginPfail.stopWork_fetchStopped, pair, single⟩
  · have eq : s.qualify = s.beginPfail.updKa fun k => { k with retentionValid := false } := by
      rw [State.qualify_eq, if_pos h]
    rw [eq]
    exact ⟨rfl, rfl, fun _ => rfl, fun k => absurd k h⟩

/-- Of the state in which power-fail is qualified its time does not matter. -/
theorem State.qualified_upTo {s t : State} {n : Nat} (h : (s.upTo n).Qualified t) : s.Qualified t := by
  unfold State.upTo State.after at h
  split at h <;> exact h

theorem pfailQualified_gives (s : State) (h : s.hw.pf = .below) :
    s.Gives .pfailQualified [.now, .freeIdx, .ka, .facets, .progs, .logic, .arms, .beams, .pwms,
      .swc, .col, .fbcs, .hif, .mlk, .recs, .hw, .outputs] fun t =>
        t.now = max s.now (s.hw.belowAt + 200000) ∧ t.hw.qualAt = t.now ∧ s.Qualified t := by
  let u := s.upTo (s.hw.belowAt + 200000)
  have e : exec .pfailQualified s = .next u.qualify := by
    show execPfailQualified s = _
    simp [execPfailQualified, h, u]
  have now : u.qualify.now = u.now := u.qualify_effect.same .now rfl
  refine Effect.gives (Effect.of_ok (execPfailQualified_effect s) e) rfl e ⟨?_, ?_, State.qualified_upTo u.qualify_qualified⟩
  · rw [now, State.upTo_now]
  · rw [now, u.qualify_hw]

theorem slotPresentOpen_gives (s : State) (hp : s.ka.powerGood = true) (h : s.hw.pf = .none ∨ s.hw.pf = .below) :
    s.Gives .slotPresentOpen [.freeIdx, .ka, .facets, .progs, .logic, .arms, .beams, .pwms, .swc, .fbcs, .hif, .mlk, .recs,
      .hw, .outputs] fun t => t.hw.slotOpen = true ∧ s.Qualified t := by
  let u := s.updHw fun h => { h with slotOpen := true }
  have e : exec .slotPresentOpen s = .next u.qualify := by
    show execSlotPresentOpen s = _
    unfold execSlotPresentOpen
    exact congrArg Host.Outcome.next (if_pos ⟨hp, h⟩)
  refine Effect.gives (Effect.of_ok (execSlotPresentOpen_effect s) e) rfl e ⟨?_, u.qualify_qualified⟩
  rw [u.qualify_hw]
  rfl

theorem thermalTrip_gives (s : State) (hp : s.ka.powerGood = true) (h : s.hw.pf = .none ∨ s.hw.pf = .below) :
    s.Gives .thermalTrip [.freeIdx, .ka, .facets, .progs, .logic, .arms, .beams, .pwms, .swc, .fbcs, .hif, .mlk, .recs,
      .hw, .outputs] fun t => t.hw.thermalTrip = true ∧ s.Qualified t := by
  let u := s.updHw fun h =>
    { h with thermalTrip := h.pf = .none || h.pf = .below || h.returned.isSome || h.thermalTrip }
  have e : exec .thermalTrip s = .next u.qualify := by
    show execThermalTrip s = _
    unfold execThermalTrip
    rw [if_neg (not_not.2 hp)]
    exact congrArg Host.Outcome.next (if_pos h)
  refine Effect.gives (Effect.of_ok (execThermalTrip_effect s) e) rfl e ⟨?_, u.qualify_qualified⟩
  rw [u.qualify_hw]
  show (decide (s.hw.pf = .none) || decide (s.hw.pf = .below) || s.hw.returned.isSome || s.hw.thermalTrip) = true
  rcases h with h | h <;> simp [h]

theorem pfailBlockFramesSent_gives (s : State) (h : s.hw.pf = .qualified) (hg : s.mlk.grant = true) :
    s.Gives .pfailBlockFramesSent [.now, .col, .hw] fun t =>
      t.now = max s.now (s.hw.qualAt + 2 * s.pkg.cnv.cf + 1000) ∧ t.hw = { s.hw with pf := .blocked } := by
  let n := s.hw.qualAt + 2 * s.pkg.cnv.cf + 1000
  have e : exec .pfailBlockFramesSent s = .next ((s.upTo n).updHw fun h => { h with pf := .blocked }) := by
    show execPfailBlockFramesSent s = _
    simp [execPfailBlockFramesSent, h, hg, n]
  have hw : (s.upTo n).hw = s.hw := (s.upTo_effect n).same .hw rfl
  refine Effect.gives (Effect.of_ok (execPfailBlockFramesSent_effect s) e) rfl e ⟨s.upTo_now n, ?_⟩
  show { (s.upTo n).hw with pf := .blocked } = _
  rw [hw]

end Sys2Proof.Machine
end

section
/-! SUPPORT. The loss of the supply and its return (R63 to R65, R438, R439): what the flush, the power-down and the restart
with POWER_RETURN leave. -/

namespace Sys2Proof.Machine

/-! ## What is cut before a power-down or a restart -/

/-- A running operation of the Service Channel is undone (R72, R74). -/
def State.undoWork (s : State) (o : SvcOp) : State :=
  match o.work with
  | .sliceCreate b => (s.updSlice b.slice noSlice).updUnit (.slice b.slice) fun u =>
    { u with st := .off, en := false, startFailed := false }
  | .pkgCommit _ => if s.svc.staged.isSome then s.exchUndo else s
  | .hashRekey => s.updSwc fun w => { w with rekeying := false }
  | _ => s

theorem State.cutSvc_of_running {s : State} {o : SvcOp} (h : s.svc.running = some o) :
    s.cutSvc = (((s.undoWork o).updSvc fun v => { v with running := none, waiting := none, code := 0 }).updKa fun k =>
      { k with svcCut := true }).updBst fun b => { b with busy := false } := by
  unfold State.cutSvc
  rw [h]
  rfl

theorem State.cutSvc_of_idle {s : State} (h : s.svc.running = none) : s.cutSvc = s := by
  unfold State.cutSvc
  rw [h]

theorem State.undoWork_ka (s : State) (o : SvcOp) : (s.undoWork o).ka = s.ka := by
  unfold State.undoWork
  split
  · rfl
  · split
    · exact s.exchUndo_effect.same .ka rfl
    · rfl
  · rfl
  · rfl

/-- Without a package exchange under way the retention slots stay. -/
theorem State.undoWork_slots64 {s : State} (o : SvcOp) (h : s.svc.staged = none) : (s.undoWork o).slots64 = s.slots64 := by
  unfold State.undoWork
  split
  · rfl
  · rw [if_neg (by simp [h])]
  · rfl
  · rfl

theorem State.cutSvc_ka (s : State) : s.cutSvc.ka = { s.ka with svcCut := s.cutSvc.ka.svcCut } := by
  cases h : s.svc.running with
  | none => rw [State.cutSvc_of_idle h]
  | some o =>
    rw [State.cutSvc_of_running h]
    show { (s.undoWork o).ka with svcCut := true } = _
    rw [s.undoWork_ka o]
    rfl

theorem State.cutSvc_slots64 {s : State} (hs : s.svc.staged = none) : s.cutSvc.slots64 = s.slots64 := by
  cases h : s.svc.running with
  | none => rw [State.cutSvc_of_idle h]
  | some o =>
    rw [State.cutSvc_of_running h]
    exact State.undoWork_slots64 o hs

/-- Beams are quiet, the grant is gone and the Service Channel's work is cut. -/
def State.cutPower (s : State) : State := s.flushBeams.toOffline.cutSvc

theorem State.offline_effect (s : State) : Effect 0x43AC80008C2 s s.flushBeams.toOffline :=
  (s.flushBeams_effect.mono rfl).go (State.toOffline_effect _) rfl

theorem State.cutPower_effect (s : State) : Effect 0x5FAD8C01FFA s s.cutPower :=
  (s.offline_effect.mono rfl).go (State.cutSvc_effect _) rfl

theorem State.cutPower_ka (s : State) : s.cutPower.ka = { s.ka with svcCut := s.cutPower.ka.svcCut } := by
  rw [State.cutPower, State.cutSvc_ka, show s.flushBeams.toOffline.ka = s.ka from s.offline_effect.same .ka rfl]

theorem State.cutPower_slots64 {s : State} (h : s.svc.staged = none) : s.cutPower.slots64 = s.slots64 := by
  have svc : s.flushBeams.toOffline.svc = s.svc := s.offline_effect.same .svc rfl
  have slots : s.flushBeams.toOffline.slots64 = s.slots64 := s.offline_effect.same .slots64 rfl
  exact (State.cutSvc_slots64 (by rw [svc, h])).trans slots

theorem State.cutPower_hw (s : State) : s.cutPower.hw = s.hw := s.cutPower_effect.same .hw rfl

/-! ## The power-down (R438) -/

theorem State.powerDown_ka (s : State) : s.powerDown.ka = s.cutPower.ka := by
  unfold State.powerDown
  dsimp only
  split <;> rfl

/-- Whether data is retained, and whether a flush has failed, stay known. -/
theorem State.powerDown_ka_flags (s : State) : s.powerDown.ka.retentionValid = s.ka.retentionValid ∧
    s.powerDown.ka.flushFailed = s.ka.flushFailed := by
  rw [State.powerDown_ka, State.cutPower_ka]
  exact ⟨rfl, rfl⟩

theorem State.powerDown_hw (s : State) : s.powerDown.hw = { s.hw with pf := .flushed } := by
  rw [← s.cutPower_hw]
  unfold State.powerDown
  dsimp only
  split <;> rfl

theorem State.powerDown_phase (s : State) : s.powerDown.glb.phase = .kaStart := by
  unfold State.powerDown
  dsimp only
  split <;> rfl

theorem State.powerDown_grant (s : State) : s.powerDown.mlk.grant = false := by
  unfold State.powerDown
  dsimp only
  split <;> rfl

/-- The retention slots outlast a power-down whose data is retained. -/
theorem State.powerDown_slots64 {s : State} (hr : s.ka.retentionValid = true) (hs : s.svc.staged = none) :
    s.powerDown.slots64 = s.slots64 := by
  have kept : s.flushBeams.toOffline.cutSvc.ka.retentionValid = true := by
    rw [← State.cutPower, s.cutPower_ka]
    exact hr
  rw [← State.cutPower_slots64 hs]
  unfold State.powerDown
  dsimp only
  rw [if_pos kept]
  rfl

/-! ## The return (R63, R65, R439) -/

/-- What a restart keeps, warm or cold. -/
def State.reborn (s : State) (warm : Bool) : State := if warm then s.survive.keepWarm s else s.survive.newHashKey

theorem State.restart_powerReturn {s : State} (ok : Bool) (h : s.glb.phase ≠ .safe) :
    s.restart .powerReturn ok = ((s.cutPower.reborn (s.flushBeams.warmHolds .powerReturn ok)).freshTime.updKa fun k =>
        { k with cause := .powerReturn, count := Nat.min 0xFFFF (k.count + 1),
                 journalSealOk := s.flushBeams.ka.retentionValid && ok,
                 retentionValid := k.retentionValid && s.flushBeams.warmHolds .powerReturn ok,
                 bootRetried := false }).updGlb fun g =>
      { g with restartWarm := s.flushBeams.warmHolds .powerReturn ok } := by
  have retain : s.retain .powerReturn = s := if_neg (by simp)
  have phase : s.flushBeams.toOffline.glb.phase ≠ .safe := by
    rw [show s.flushBeams.toOffline.glb = s.glb from s.offline_effect.same .glb rfl]
    exact h
  unfold State.restart
  rw [retain]
  dsimp only
  rw [if_neg phase]
  simp only [State.flushFor, ite_self, true_or, if_true]
  rfl

theorem State.reborn_ka (s : State) (warm : Bool) : (s.reborn warm).ka = s.ka := by
  cases warm <;> rfl

theorem State.reborn_phase (s : State) (warm : Bool) : (s.reborn warm).glb.phase = .kaStart := by
  cases warm <;> rfl

theorem State.reborn_pf (s : State) (warm : Bool) : (s.reborn warm).hw.pf = .none := by
  cases warm <;> rfl

/-- The supply is back: the module is at the start of the keep-alive domain, for a return of power (R439). -/
theorem State.comeBack_facts {s : State} (ok : Bool) (ht : s.hw.thermalTrip = false) (ho : s.hw.slotOpen = false)
    (hp : s.glb.phase ≠ .safe) :
    (s.comeBack ok).glb.phase = .kaStart ∧ (s.comeBack ok).ka.cause = .powerReturn ∧
    (s.comeBack ok).ka.vin = s.ka.vin ∧ (s.comeBack ok).ka.warn = false ∧
    (s.comeBack ok).recs.copyPaused = false ∧ (s.comeBack ok).hw.pf = .none := by
  unfold State.comeBack
  rw [if_neg (by simp [ht, ho]), State.restart_powerReturn ok hp]
  generalize s.flushBeams.warmHolds .powerReturn ok = w
  have vin : (s.cutPower.reborn w).ka.vin = s.ka.vin := by rw [State.reborn_ka, s.cutPower_ka]
  exact ⟨s.cutPower.reborn_phase w, rfl, vin, rfl, rfl, s.cutPower.reborn_pf w⟩

/-! ## The flush (R438) -/

/-- What every step of a fold carries from two states to the next two. -/
theorem State.each_sim {α : Type} {R : State → State → Prop} {f : State → α → State}
    (h : ∀ s t x, R s t → R (f s x) (f t x)) (xs : List α) : ∀ s t, R s t → R (s.each xs f) (t.each xs f) := by
  unfold State.each
  induction xs with
  | nil => exact fun _ _ r => r
  | cons x xs ih => exact fun s t r => ih _ _ (h s t x r)

/-- The same but for the time and the time base. -/
def State.sameButTime (s t : State) : Prop := ∃ n c, t = { s with now := n, col := c }

theorem State.sameButTime_upTo (s : State) (n : Nat) : s.sameButTime (s.upTo n) := by
  unfold State.upTo State.after
  split
  · exact ⟨_, _, rfl⟩
  · exact ⟨_, _, rfl⟩

/-- What the slots are filled with does not depend on the time. -/
theorem State.fillSlots_upTo (s : State) (n : Nat) : (s.upTo n).fillSlots.slots64 = s.fillSlots.slots64 := by
  have list : (s.upTo n).logicList = s.logicList := by
    obtain ⟨m, c, e⟩ := s.sameButTime_upTo n
    rw [e]
    rfl
  have sim : s.fillSlots.sameButTime (s.upTo n).fillSlots := by
    unfold State.fillSlots
    rw [list]
    refine State.each_sim ?_ _ _ _ (s.sameButTime_upTo n)
    rintro a b p ⟨m, c, rfl⟩
    exact ⟨m, c, rfl⟩
  obtain ⟨m, c, e⟩ := sim
  rw [e]

/-- The slots and the recorder's buffer are in their places. -/
def State.flushSlots (s : State) : State :=
  let u := (s.upTo (s.hw.qualAt + 74700000)).fillSlots
  u.evrFlushEnd u.recs.evr.buffer.length

/-- The package, the journal and the validity of what is kept are noted (R438). -/
def State.noteFlush (s : State) : State :=
  ((s.updSvc fun v => { v with retainedPkg := s.pkg.ident }).updHif fun h =>
    { h with journalFlash := h.journal }).updKa fun k =>
      { k with retentionValid := true, retSrc := true, flushFailed := false }

/-- What a warm restart needs is kept (R438). -/
def State.flushAll (s : State) : State := s.flushSlots.noteFlush

/-- The stamps of the operating hours are saved (R62). -/
def State.saveHours (s : State) : State :=
  if s.mmRuns then s.updKa fun k => { k with hoursFlash := k.hours, pwrcycFlash := k.pwrcyc } else s

theorem State.flushSlots_effect (s : State) : Effect 0x7400001001 s s.flushSlots :=
  (((s.upTo_effect _).mono rfl).go (State.fillSlots_effect _) rfl).go (State.evrFlushEnd_effect _ _) rfl

theorem State.noteFlush_effect (s : State) : Effect 0x1000000018 s s.noteFlush :=
  (((s.updSvc_effect _).mono rfl).go (State.updHif_effect _ _) rfl).go (State.updKa_effect _ _) rfl

theorem State.flushAll_effect (s : State) : Effect 0x7400001019 s s.flushAll :=
  (s.flushSlots_effect.mono rfl).go (State.noteFlush_effect _) rfl

theorem State.saveHours_effect (s : State) : Effect 8 s s.saveHours := by
  unfold State.saveHours
  split
  · exact s.updKa_effect _
  · exact Effect.refl _ s

theorem State.flushSlots_slots64 (s : State) : s.flushSlots.slots64 = s.fillSlots.slots64 :=
  ((State.evrFlushEnd_effect _ _).same .slots64 rfl).trans (s.fillSlots_upTo _)

theorem State.noteFlush_ka (s : State) : s.noteFlush.ka.retentionValid = true ∧ s.noteFlush.ka.flushFailed = false :=
  ⟨rfl, rfl⟩

theorem State.noteFlush_staged (s : State) : s.noteFlush.svc.staged = s.svc.staged := rfl

theorem State.saveHours_ka (s : State) : s.saveHours.ka.retentionValid = s.ka.retentionValid ∧
    s.saveHours.ka.flushFailed = s.ka.flushFailed := by
  unfold State.saveHours
  split <;> exact ⟨rfl, rfl⟩

/-- What a flush keeps, with the stamps, before the power goes. -/
def State.kept (s : State) : State := s.flushAll.saveHours

theorem State.kept_effect (s : State) : Effect 0x7400001019 s s.kept :=
  (s.flushAll_effect.mono rfl).go (State.saveHours_effect _) rfl

theorem State.kept_ka (s : State) : s.kept.ka.retentionValid = true ∧ s.kept.ka.flushFailed = false := by
  obtain ⟨valid, failed⟩ := s.flushAll.saveHours_ka
  obtain ⟨validNoted, failedNoted⟩ := s.flushSlots.noteFlush_ka
  exact ⟨valid.trans validNoted, failed.trans failedNoted⟩

theorem State.kept_staged (s : State) : s.kept.svc.staged = s.svc.staged := by
  have hours : s.flushAll.saveHours.svc = s.flushAll.svc := (State.saveHours_effect _).same .svc rfl
  rw [State.kept, hours, State.flushAll, State.noteFlush_staged,
    show s.flushSlots.svc = s.svc from s.flushSlots_effect.same .svc rfl]

theorem State.kept_slots64 (s : State) : s.kept.slots64 = s.fillSlots.slots64 := by
  have hours : s.flushAll.saveHours.slots64 = s.flushAll.slots64 := (State.saveHours_effect _).same .slots64 rfl
  have noted : s.flushAll.slots64 = s.flushSlots.slots64 := (State.noteFlush_effect _).same .slots64 rfl
  rw [State.kept, hours, noted, State.flushSlots_slots64]

/-- The module after the flush, before a supply that has returned already restarts it. -/
def State.flushed (s : State) : State := s.kept.powerDown

theorem State.flushed_hw (s : State) : s.flushed.hw = { s.hw with pf := .flushed } := by
  rw [State.flushed, State.powerDown_hw, show s.kept.hw = s.hw from s.kept_effect.same .hw rfl]

theorem State.flushed_ka (s : State) : s.flushed.ka.retentionValid = true ∧ s.flushed.ka.flushFailed = false := by
  obtain ⟨valid, failed⟩ := s.kept.powerDown_ka_flags
  obtain ⟨validKept, failedKept⟩ := s.kept_ka
  exact ⟨valid.trans validKept, failed.trans failedKept⟩

theorem State.flushed_slots64 {s : State} (h : s.svc.staged = none) : s.flushed.slots64 = s.fillSlots.slots64 := by
  rw [State.flushed, State.powerDown_slots64 s.kept_ka.1 (s.kept_staged.trans h), State.kept_slots64]

/-- A supply that has returned during the flush restarts the module. -/
def State.endFlush (s : State) : State := match s.hw.returned with | some ok => s.comeBack ok | none => s

theorem execPfailFlushDone_eq (s : State) : execPfailFlushDone s =
    .next (if ¬ (s.hw.pf = .blocked ∨ (s.hw.pf = .qualified ∧ ¬ s.mlk.grant)) then s
      else (if s.glb.phase = .running then s.flushAll else s).saveHours.powerDown.endFlush) := by
  unfold execPfailFlushDone State.flushAll State.noteFlush State.flushSlots State.saveHours State.endFlush
  rfl

theorem exec_pfailFlushDone {s : State} (hb : s.hw.pf = .blocked) (hp : s.glb.phase = .running) :
    exec .pfailFlushDone s = .next s.flushed.endFlush := by
  have blocked : ¬ ¬ (s.hw.pf = .blocked ∨ (s.hw.pf = .qualified ∧ ¬ s.mlk.grant)) := not_not.2 (.inl hb)
  show execPfailFlushDone s = _
  rw [execPfailFlushDone_eq, if_neg blocked, if_pos hp, State.flushed, State.kept]

theorem State.endFlush_of_away {s : State} (h : s.hw.returned = none) : s.endFlush = s := by
  unfold State.endFlush
  rw [h]

theorem State.endFlush_of_returned {s : State} {ok : Bool} (h : s.hw.returned = some ok) : s.endFlush = s.comeBack ok := by
  unfold State.endFlush
  rw [h]

/-! ## The store (R439) -/

/-- The flush has failed where the store runs out before its end. -/
def State.lapseFlush (s : State) : State :=
  s.updKa fun k =>
    { k with retentionValid := false,
             flushFailed := k.flushFailed || (decide (s.hw.pf ≠ .flushed) && decide (s.glb.phase = .running)) }

/-- The store is empty, and the keep-alive domain has no power. -/
def State.exhausted (s : State) : State :=
  (((s.lapseFlush.powerDown.updHw fun h => { h with pf := .none, returned := none, energy := 0, vstore := 0 }).updKa fun k =>
    { k with powerGood := false }).updGlb fun g => { g with holdupReady := false }).emptySlots

theorem exec_storeExhausted {s : State} (hn : s.hw.pf ≠ .none) (hb : s.hw.pf ≠ .below) :
    exec .storeExhausted s = .next s.exhausted := by
  show execStoreExhausted s = _
  unfold execStoreExhausted
  split
  · next h => exact absurd h hn
  · next h => exact absurd h hb
  · rfl

theorem State.exhausted_ka (s : State) : s.exhausted.ka.retentionValid = false ∧ s.exhausted.ka.flushFailed =
    (s.ka.flushFailed || (decide (s.hw.pf ≠ .flushed) && decide (s.glb.phase = .running))) := by
  show s.lapseFlush.powerDown.ka.retentionValid = _ ∧ s.lapseFlush.powerDown.ka.flushFailed = _
  exact s.lapseFlush.powerDown_ka_flags

end Sys2Proof.Machine
end

section
/-! The supply warning, the power-fail sequence and the supply's return (R52, R438, R439, R442, R454, R473). -/

namespace Sys2Proof.Machine

theorem pfailFlushDone_away {s : State} (hb : s.hw.pf = .blocked) (hp : s.glb.phase = .running)
    (hr : s.hw.returned = none) :
    ∃ t, exec .pfailFlushDone s = .next t ∧ t.hw.pf = .flushed ∧ t.ka.retentionValid = true ∧ t.ka.flushFailed = false ∧
      (s.svc.staged = none → t.slots64 = s.fillSlots.slots64) ∧ t.mlk.grant = false ∧ t.glb.phase = .kaStart := by
  have away : s.flushed.hw.returned = none := by rw [s.flushed_hw]; exact hr
  obtain ⟨valid, failed⟩ := s.flushed_ka
  refine ⟨s.flushed, ?_, ?_, valid, failed, State.flushed_slots64, State.powerDown_grant _, State.powerDown_phase _⟩
  · rw [exec_pfailFlushDone hb hp, State.endFlush_of_away away]
  · rw [s.flushed_hw]

theorem pfailFlushDone_returned {s : State} {ok : Bool} (hb : s.hw.pf = .blocked) (hp : s.glb.phase = .running)
    (hr : s.hw.returned = some ok) (ht : s.hw.thermalTrip = false) (ho : s.hw.slotOpen = false) :
    ∃ t, exec .pfailFlushDone s = .next t ∧ t.glb.phase = .kaStart ∧ t.ka.cause = .powerReturn ∧ t.hw.pf = .none := by
  have back : s.flushed.hw.returned = some ok := by rw [s.flushed_hw]; exact hr
  have trip : s.flushed.hw.thermalTrip = false := by rw [s.flushed_hw]; exact ht
  have slot : s.flushed.hw.slotOpen = false := by rw [s.flushed_hw]; exact ho
  have phase : s.flushed.glb.phase ≠ .safe := by rw [State.flushed, State.powerDown_phase]; decide
  obtain ⟨start, cause, -, -, -, pf⟩ := State.comeBack_facts ok trip slot phase
  exact ⟨_, by rw [exec_pfailFlushDone hb hp, State.endFlush_of_returned back], start, cause, pf⟩

theorem supplyReturn_noted {s : State} (v : BitVec 12) (ok : Bool) (hp : s.ka.powerGood = true) (hv : 1400 ≤ v.toNat)
    (h : s.hw.pf = .qualified ∨ s.hw.pf = .blocked) :
    s.Gives (.supplyReturn v ok) [.ka, .hw] fun t =>
      t.ka = { s.ka with vin := v } ∧ t.hw = { s.hw with returned := some ok } := by
  have up : ¬ (¬ s.ka.powerGood ∨ v.toNat < vReturn) := by simpa [hp, vReturn] using hv
  have e : exec (.supplyReturn v ok) s = .next ((s.setVin v).updHw fun h => { h with returned := some ok }) := by
    show execSupplyReturn v ok s = _
    unfold execSupplyReturn
    rw [if_neg up]
    rcases h with h | h <;> simp [State.setVin, h]
  exact Effect.gives (((s.updKa_effect _).mono rfl).go (State.updHw_effect _ _) rfl : Effect 0x20000000008 s _) rfl e
    ⟨rfl, rfl⟩

theorem supplyReturn_restarts {s : State} (v : BitVec 12) (ok : Bool) (hp : s.ka.powerGood = true) (hv : 1400 ≤ v.toNat)
    (hf : s.hw.pf = .flushed) (ht : s.hw.thermalTrip = false) (ho : s.hw.slotOpen = false) (hs : s.glb.phase ≠ .safe) :
    ∃ t, exec (.supplyReturn v ok) s = .next t ∧ t.glb.phase = .kaStart ∧ t.ka.cause = .powerReturn ∧
      t.ka.vin = v ∧ t.ka.warn = false ∧ t.recs.copyPaused = false ∧ t.hw.pf = .none := by
  have up : ¬ (¬ s.ka.powerGood ∨ v.toNat < vReturn) := by simpa [hp, vReturn] using hv
  have e : exec (.supplyReturn v ok) s = .next ((s.setVin v).comeBack ok) := by
    show execSupplyReturn v ok s = _
    unfold execSupplyReturn
    rw [if_neg up]
    simp [State.setVin, hf]
  exact ⟨_, e, State.comeBack_facts (s := s.setVin v) ok ht ho hs⟩

theorem storeExhausted_drops {s : State} (hn : s.hw.pf ≠ .none) (hb : s.hw.pf ≠ .below) :
    ∃ t, exec .storeExhausted s = .next t ∧ t.ka.powerGood = false ∧ t.ka.retentionValid = false ∧ t.hw.pf = .none ∧
      t.hw.energy = 0 ∧ t.glb.holdupReady = false ∧ t.mlk.grant = false ∧
      t.ka.flushFailed = (s.ka.flushFailed || (decide (s.hw.pf ≠ .flushed) && decide (s.glb.phase = .running))) := by
  obtain ⟨valid, failed⟩ := s.exhausted_ka
  exact ⟨s.exhausted, exec_storeExhausted hn hb, rfl, valid, rfl, rfl, rfl, s.lapseFlush.powerDown_grant, failed⟩

/-- Settles O50, one lemma per command: the qualification (`State.qualify_qualified`) is the same for the supply, an open
slot and a thermal trip, and every return is one restart (`State.comeBack_facts`). -/
theorem theSupplyFailsAndReturns : Obligations.TheSupplyFailsAndReturns := by
  unfold Obligations.TheSupplyFailsAndReturns
  intro s qualified hp
  refine ⟨fun v => supplyWarn_gives s v hp, fun v => supplyWarnClear_gives s v hp,
    fun v hv => supplyBelowPfail_gives s v hp hv, fun h => pfailQualified_gives s h,
    fun h => ⟨slotPresentOpen_gives s hp h, thermalTrip_gives s hp h⟩,
    fun h hg => pfailBlockFramesSent_gives s h hg, fun hb hr => ⟨pfailFlushDone_away hb hr, fun ok back ht ho =>
      pfailFlushDone_returned hb hr back ht ho⟩, storeExhausted_drops, fun v ok hv => ⟨supplyReturn_noted v ok hp hv,
      supplyReturn_restarts v ok hp hv⟩⟩

end Sys2Proof.Machine
end

section
/-! SUPPORT. Register reads (R3, R4, R6, R46, R50): how an access finds its register, and what a word packed from fields
holds. -/

namespace Sys2Proof.Machine

/-! ## Packed words (R6) -/

theorem packed_nil : packed [] = 0 := rfl

theorem packed_cons_of_lt {lo w v : Nat} (r : List (Nat × Nat × Nat)) (h : v < 2 ^ w) :
    packed ((lo, w, v) :: r) = v * 2 ^ lo + packed r := by
  rw [packed, Nat.mod_eq_of_lt h]

theorem packed_flag (n : Nat) (b : Bool) (r : List (Nat × Nat × Nat)) :
    packed (flag n b :: r) = b.toNat * 2 ^ n + packed r := packed_cons_of_lt r (Bool.toNat_lt b)

theorem packed_append (l r : List (Nat × Nat × Nat)) : packed (l ++ r) = packed l + packed r := by
  induction l with
  | nil => simp [packed]
  | cons x l ih => simp [packed, ih, Nat.add_assoc]

/-- A word of flags side by side: it fits, and its bits are the flags. -/
theorem packed_flags (f : Nat → Bool) (n : Nat) : packed ((List.range n).map fun k => flag k (f k)) < 2 ^ n ∧
    ∀ b, b < n → (packed ((List.range n).map fun k => flag k (f k))).testBit b = f b := by
  induction n with
  | zero => exact ⟨by simp [packed], fun b hb => absurd hb (Nat.not_lt_zero b)⟩
  | succ n ih =>
    obtain ⟨fits, bits⟩ := ih
    have eq : packed ((List.range (n + 1)).map fun k => flag k (f k)) =
        2 ^ n * (f n).toNat + packed ((List.range n).map fun k => flag k (f k)) := by
      rw [List.range_succ, List.map_append, packed_append, List.map_singleton, packed_flag, packed_nil, Nat.add_zero,
        Nat.mul_comm, Nat.add_comm]
    have top : (f n).toNat ≤ 1 := Bool.toNat_le _
    refine ⟨?_, fun b hb => ?_⟩
    · rw [eq, Nat.pow_succ]
      nlinarith
    · rw [eq, Nat.testBit_two_pow_mul_add _ fits]
      split
      · next h => exact bits b h
      · next h =>
        obtain rfl : b = n := by omega
        cases f b <;> simp

theorem phaseCode_lt (p : Phase) : phaseCode p < 2 ^ 4 := by cases p <;> decide
theorem lcsCode_lt (l : Lcs) : lcsCode l < 2 ^ 3 := by cases l <;> decide
theorem bankCode_lt (r : BankResult) : bankCode r < 2 ^ 2 := by cases r <;> decide
theorem ustateCode_lt (u : UState) : ustateCode u < 2 ^ 2 := by cases u <;> decide

/-! ## The way of an access (R3, R46, R50) -/

/-- A read through a port returns a number and does nothing else. -/
def State.readsWin (s : State) (p : TimePort) (a : BitVec 24) (v : Nat) : Prop :=
  exec (.registerRead (.win p) a) s = .next { s with lastRead := BitVec.ofNat 32 v }

theorem exec_registerRead {s t : State} {p : TimePort} {a : BitVec 24} {v : Nat} (h : s.busRead p a = (v, t)) :
    exec (.registerRead (.win p) a) s = .next { t with lastRead := BitVec.ofNat 32 v } := by
  show execRegisterRead (.win p) a s = _
  simp [execRegisterRead, h]

theorem exec_registerWrite_narrow (s : State) (p : TimePort) (a : BitVec 24) (v : Word) {width : Nat} (h : width < 32) :
    exec (.registerWrite (.win p) a v width) s = .next s.lockedWrite := by
  show execRegisterWrite (.win p) a v width s = _
  simp [execRegisterWrite, h]

theorem State.busRead_noUnit (s : State) (p : TimePort) {a : BitVec 24} (h : winUnit (winOf a) = false) :
    s.busRead p a = (0, s) := by
  simp [State.busRead, h]

theorem State.busWrite_noUnit (s : State) (p : TimePort) {a : BitVec 24} (v : Word) (h : winUnit (winOf a) = false) :
    s.busWrite p a v = s := by
  simp [State.busWrite, h]

theorem State.busRead_notReady {s : State} {p : TimePort} {a : BitVec 24} (h : winUnit (winOf a) = true)
    (hr : s.winReady p a false = false) : s.busRead p a = (0, s.notReadyWrite) := by
  simp [State.busRead, h, hr]

theorem State.busWrite_notReady {s : State} {p : TimePort} {a : BitVec 24} (v : Word) (h : winUnit (winOf a) = true)
    (hr : s.winReady p a true = false) : s.busWrite p a v = s.notReadyWrite := by
  simp [State.busWrite, h, hr]

/-- An address answers a port: some unit is there, and its window is open. -/
def State.answers (s : State) (p : TimePort) (a : BitVec 24) : Prop :=
  winUnit (winOf a) = true ∧ addrAbsent a = false ∧ ∀ w, s.winReady p a w = true

/-- GLB and KA always answer. -/
theorem State.answers_low (s : State) (p : TimePort) {a : BitVec 24} (h : winOf a ≤ 1) : s.answers p a := by
  refine ⟨?_, ?_, fun w => ?_⟩
  · rw [winUnit, decide_eq_true (by omega : winOf a ≤ 0xE), Bool.true_or]
  · rcases (by omega : winOf a = 0 ∨ winOf a = 1) with e | e <;> simp [addrAbsent, e]
  · simp [State.winReady, h]

/-- The other units that every variant has answer once the window is open. -/
theorem State.answers_open {s : State} {p : TimePort} {a : BitVec 24} (ho : s.windowOpen p = true)
    (h : winOf a ≤ 0xE) (hp : winOf a ≠ 0xA) : s.answers p a := by
  refine ⟨?_, ?_, fun w => ?_⟩
  · rw [winUnit, decide_eq_true h, Bool.true_or]
  · have d (n : Nat) (hn : 0xE < n) : winOf a ≠ n := by omega
    have lens : ¬ 16 ≤ winOf a := by omega
    simp [addrAbsent, hp, d, lens]
  · simp [State.winReady, ho]

theorem State.answers.busRead {s : State} {p : TimePort} {a : BitVec 24} (h : s.answers p a) :
    s.busRead p a = s.readReg p a := by
  obtain ⟨unit, there, ready⟩ := h
  simp [State.busRead, unit, there, ready]

theorem State.answers.busWrite {s : State} {p : TimePort} {a : BitVec 24} (h : s.answers p a) (v : Word) :
    s.busWrite p a v = s.writeReg p a v := by
  obtain ⟨unit, there, ready⟩ := h
  simp [State.busWrite, unit, there, ready]

theorem State.answers.reads {s : State} {p : TimePort} {a : BitVec 24} {v : Nat} (h : s.answers p a)
    (e : s.readReg p a = (v, s)) : s.readsWin p a v := exec_registerRead (h.busRead.trans e)

/-- The part and the offset of an address that is a number. -/
theorem winOf_ofNat {n : Nat} (h : n < 2 ^ 24) : winOf (BitVec.ofNat 24 n) = n / 65536 := by
  rw [winOf, BitVec.toNat_ofNat, Nat.mod_eq_of_lt h]

/-! ## Access that finds no register, and narrow writes -/

theorem reads_noUnit (s : State) (p : TimePort) {a : BitVec 24} (h : winUnit (winOf a) = false) :
    s.readsWin p a 0 ∧ ∀ v, exec (.registerWrite (.win p) a v 32) s = .next s :=
  ⟨exec_registerRead (s.busRead_noUnit p h), fun v => congrArg Host.Outcome.next (s.busWrite_noUnit p v h)⟩

theorem write_notReady {s : State} {p : TimePort} {a : BitVec 24} (v : Word) (h : winUnit (winOf a) = true)
    (hr : s.winReady p a true = false) :
    s.Gives (.registerWrite (.win p) a v 32) [.glb] fun t => t.glb = { s.glb with notReady := true } :=
  Effect.gives s.notReadyWrite_effect rfl (congrArg Host.Outcome.next (State.busWrite_notReady v h hr)) rfl

theorem read_notReady {s : State} {p : TimePort} {a : BitVec 24} (h : winUnit (winOf a) = true)
    (hr : s.winReady p a false = false) : s.Gives (.registerRead (.win p) a) [.glb, .lastRead] fun t =>
      t.glb = { s.glb with notReady := true } ∧ t.lastRead = 0 := by
  refine ⟨_, exec_registerRead (State.busRead_notReady h hr), fun q hq => ?_, rfl, rfl⟩
  cases q <;> first | rfl | exact absurd hq (by decide)

theorem write_narrow (s : State) (p : TimePort) (a : BitVec 24) (v : Word) {width : Nat} (h : width < 32) :
    s.Gives (.registerWrite (.win p) a v width) [.glb] fun t => t.glb = { s.glb with lockedWrite := true } :=
  Effect.gives s.lockedWrite_effect rfl (exec_registerWrite_narrow s p a v h) rfl

/-! ## What registers read as -/

theorem readGlb_stat (s : State) : s.readGlb 0x10 =
    phaseCode s.glb.phase + 16 * lcsCode s.glb.lcs + 256 * s.glb.restartWarm.toNat + 512 * s.glb.holdupReady.toNat +
      1024 * s.glb.fwBank.toNat + 2048 * s.glb.fwFallback.toNat := by
  simp only [State.readGlb, packed_cons_of_lt _ (phaseCode_lt _), packed_cons_of_lt _ (lcsCode_lt _), packed_flag,
    packed_nil]
  omega

theorem readKa_banks (s : State) : s.readKa 0x8 =
    s.ka.nextBank.toNat + 2 * s.ka.runningBank.toNat + 16 * bankCode s.ka.resultA + 64 * bankCode s.ka.resultB := by
  simp only [State.readKa, packed_cons_of_lt _ (bankCode_lt _), packed_flag, packed_nil]
  omega

theorem unitWord_eq (u : UnitSt) : unitWord u =
    ustateCode u.st + 4 * (decide (u.st = .stopping) && u.en).toNat + 8 * (decide (u.st = .starting) && !u.en).toNat +
      16 * u.startFailed.toNat + 32 * u.fenced.toNat + 256 * u.en.toNat := by
  simp only [unitWord, packed_cons_of_lt _ (ustateCode_lt _), packed_flag, packed_nil]
  omega

theorem reads_low (s : State) (p : TimePort) :
    s.readsWin p 0x000000 glbId ∧ s.readsWin p 0x000004 0 ∧ s.readsWin p 0x000008 glbCap ∧
    s.readsWin p 0x000018 s.glb.modnum.toNat ∧ s.readsWin p 0x010014 s.ka.hours.toNat ∧
    s.readsWin p 0x010018 s.ka.pwrcyc.toNat ∧
    s.readsWin p 0x000010 (phaseCode s.glb.phase + 16 * lcsCode s.glb.lcs + 256 * s.glb.restartWarm.toNat +
      512 * s.glb.holdupReady.toNat + 1024 * s.glb.fwBank.toNat + 2048 * s.glb.fwFallback.toNat) ∧
    s.readsWin p 0x010008 (s.ka.nextBank.toNat + 2 * s.ka.runningBank.toNat + 16 * bankCode s.ka.resultA +
      64 * bankCode s.ka.resultB) := by
  have low (a : BitVec 24) (h : winOf a ≤ 1) : s.answers p a := s.answers_low p h
  refine ⟨(low _ (by decide)).reads rfl, (low _ (by decide)).reads rfl, (low _ (by decide)).reads rfl,
    (low _ (by decide)).reads rfl, (low _ (by decide)).reads rfl, (low _ (by decide)).reads rfl, ?_, ?_⟩
  · rw [← readGlb_stat]
    exact (low _ (by decide)).reads rfl
  · rw [← readKa_banks]
    exact (low _ (by decide)).reads rfl

/-- A read of COL_TIME_NS latches the seconds. -/
theorem State.latchTime_seconds (s : State) (p : TimePort) : ((s.latchTime p).latchOf p).s = s.col.sec := by
  cases p <;> rfl

theorem readReg_portUnit (s : State) (p : TimePort) {h : Nat} (hh : h < 5) :
    s.readReg p (BitVec.ofNat 24 (0x60000 + 0x100 * h)) = (unitWord (s.unit (.port h)), s) := by
  interval_cases h <;> rfl

theorem reads_open {s : State} {p : TimePort} (ho : s.windowOpen p = true) :
    s.readsWin p 0x08000C (s.latchOf p).s ∧ s.readsWin p 0x0C000C s.obs.deny ∧
    s.readsWin p 0x0C0008 (s.obs.lcCount % 2 ^ 16) ∧
    (∀ h, h < 5 → s.readsWin p (BitVec.ofNat 24 (0x60000 + 0x100 * h)) (unitWord (s.unit (.port h)))) ∧
    ∃ t, exec (.registerRead (.win p) 0x080008) s = .next t ∧ t.lastRead = BitVec.ofNat 32 s.col.ns ∧
      (t.latchOf p).s = s.col.sec := by
  have open_ (a : BitVec 24) (h : winOf a ≤ 0xE) (hp : winOf a ≠ 0xA) : s.answers p a := State.answers_open ho h hp
  refine ⟨?_, (open_ _ (by decide) (by decide)).reads rfl, ?_, fun h hh => ?_, ?_⟩
  · have e : s.readsWin p 0x08000C (lo32 (s.latchOf p).s) := (open_ _ (by decide) (by decide)).reads rfl
    rw [State.readsWin] at e ⊢
    rw [e]
    congr 2
    apply BitVec.eq_of_toNat_eq
    simp [lo32]
  · have e : s.readReg p 0x0C0008 = (s.obs.lcCount % 2 ^ 16, s) := by
      show (packed [(0, 16, s.obs.lcCount)], s) = _
      simp [packed]
    exact (open_ _ (by decide) (by decide)).reads e
  · have win : winOf (BitVec.ofNat 24 (0x60000 + 0x100 * h)) = 6 := by rw [winOf_ofNat (by omega)]; omega
    exact (open_ _ (by omega) (by omega)).reads (readReg_portUnit s p hh)
  · exact ⟨_, exec_registerRead ((open_ _ (by decide) (by decide)).busRead.trans rfl), rfl, s.latchTime_seconds p⟩

end Sys2Proof.Machine
end

section
/-! SUPPORT. Register writes of the set-up window (R7, R47, R48, R58, R70, R71, R74, R349): a write acts field by field. -/

namespace Sys2Proof.Machine

/-- A write to an address that answers, whose effect on the register is known. -/
theorem State.answers.write {s t : State} {p : TimePort} {a : BitVec 24} {v : Word} {m : Nat} {ps : List Part}
    {q : State → Prop} (h : s.answers p a) (e : s.writeReg p a v = t) (f : Effect m s t) (i : maskWithin m ps = true)
    (k : q t) : s.Gives (.registerWrite (.win p) a v 32) ps q :=
  f.gives i (congrArg Host.Outcome.next ((h.busWrite v).trans e)) k

theorem State.answers.exec_write {s t : State} {p : TimePort} {a : BitVec 24} {v : Word} (h : s.answers p a)
    (e : s.writeReg p a v = t) : exec (.registerWrite (.win p) a v 32) s = .next t :=
  congrArg Host.Outcome.next ((h.busWrite v).trans e)

/-! ## GLB and KA (R47, R48, R58, R62) -/

theorem write_modnum (s : State) (p : TimePort) {v : Word} (h : v.setWidth 10 ≠ s.glb.modnum) :
    s.Gives (.registerWrite (.win p) 0x000018 v 32) [.glb] fun t =>
      t.glb = if s.glb.run then { s.glb with lockedWrite := true } else { s.glb with modnum := v.setWidth 10 } := by
  have low : s.answers p 0x000018 := s.answers_low p (by decide)
  by_cases hr : s.glb.run = true
  · have e : s.writeReg p 0x000018 v = s.lockedWrite := (if_neg h).trans (if_pos hr)
    exact low.write e s.lockedWrite_effect rfl (by rw [if_pos hr]; rfl)
  · have e : s.writeReg p 0x000018 v = s.updGlb fun g => { g with modnum := v.setWidth 10 } := (if_neg h).trans (if_neg hr)
    exact low.write e (s.updGlb_effect _ fun _ => rfl) rfl (by rw [if_neg hr]; rfl)

/-- A flag that is not locked takes the value written. -/
theorem State.writeFlag_free {s : State} {a b : Bool} {f : State → State} (h : s.glb.run = false)
    (same : a = b → f s = s) : s.writeFlag a b f = f s := by
  unfold State.writeFlag State.rwlLocked
  rw [h]
  split
  · next e => exact (same e).symm
  · rfl

/-- KA_CTRL before RUN: both flags take the values written. -/
theorem State.writeKa_ctrl {s : State} (v : Word) (h : s.glb.run = false) :
    s.writeKa 0x4 v = s.updKa fun k => { k with warmAllowed := v.getLsbD 0, claimDrop := v.getLsbD 1 } := by
  have warm : s.writeFlag s.ka.warmAllowed (v.getLsbD 0) (fun s => s.updKa fun k => { k with warmAllowed := v.getLsbD 0 }) =
      s.updKa fun k => { k with warmAllowed := v.getLsbD 0 } :=
    State.writeFlag_free h fun e => by rw [← e]; rfl
  simp only [State.writeKa, warm]
  exact State.writeFlag_free (s := s.updKa fun k => { k with warmAllowed := v.getLsbD 0 }) h fun e => by rw [← e]; rfl

theorem write_kaCtrl {s : State} (p : TimePort) (v : Word) (h : s.glb.run = false) :
    s.Gives (.registerWrite (.win p) 0x010004 v 32) [.ka] fun t =>
      t.ka = { s.ka with warmAllowed := v.getLsbD 0, claimDrop := v.getLsbD 1 } :=
  (s.answers_low p (by decide)).write (State.writeKa_ctrl v h) (s.updKa_effect _) rfl rfl

/-- GLB_FLAGS: what is written as 1 is cleared. -/
def Glb.clearFlags (v : Word) (g : Glb) : Glb :=
  { g with absent := g.absent && !v.getLsbD 0, lockedWrite := g.lockedWrite && !v.getLsbD 1,
           notReady := g.notReady && !v.getLsbD 2, runRefused := g.runRefused && !v.getLsbD 3 }

theorem writes_low (s : State) (p : TimePort) (v : Word) :
    exec (.registerWrite (.win p) 0x000000 v 32) s = .next s ∧
    (s.Gives (.registerWrite (.win p) 0x000014 v 32) [.glb] fun t => t.glb =
      { s.glb with absent := s.glb.absent && !v.getLsbD 0, lockedWrite := s.glb.lockedWrite && !v.getLsbD 1,
                   notReady := s.glb.notReady && !v.getLsbD 2, runRefused := s.glb.runRefused && !v.getLsbD 3 }) ∧
    (v.setWidth 10 ≠ s.glb.modnum → s.Gives (.registerWrite (.win p) 0x000018 v 32) [.glb] fun t =>
      t.glb = if s.glb.run then { s.glb with lockedWrite := true } else { s.glb with modnum := v.setWidth 10 }) ∧
    (s.Gives (.registerWrite (.win p) 0x010010 v 32) [.ka] fun t =>
      t.ka = { s.ka with pfail := s.ka.pfail && !v.getLsbD 13 }) ∧
    (s.glb.run = false → s.Gives (.registerWrite (.win p) 0x010004 v 32) [.ka] fun t =>
      t.ka = { s.ka with warmAllowed := v.getLsbD 0, claimDrop := v.getLsbD 1 }) ∧
    exec (.registerWrite (.win p) 0x00000C 1 32) s = exec .runSet s ∧
    exec (.registerWrite (.win p) 0x00000C 0 32) s = exec .runClear s := by
  have low (a : BitVec 24) (h : winOf a ≤ 1) : s.answers p a := s.answers_low p h
  exact ⟨(low _ (by decide)).exec_write rfl,
    (low _ (by decide)).write rfl (s.updGlb_effect (Glb.clearFlags v) fun _ => rfl) rfl rfl, write_modnum s p,
    (low _ (by decide)).write rfl (s.updKa_effect fun k => { k with pfail := k.pfail && !v.getLsbD 13 }) rfl rfl,
    write_kaCtrl p v, (low _ (by decide)).exec_write rfl, (low _ (by decide)).exec_write rfl⟩

/-! ## The mailbox and the host interface (R70, R71, R74, R315) -/

theorem write_winSel {s : State} {p : TimePort} (v : Word) (ho : s.windowOpen p = true) :
    s.Gives (.registerWrite (.win p) 0x0B0040 v 32) [.recs] fun t =>
      t.recs = { s.recs with evr := { s.recs.evr with winSel := v.toNat % 4096 } } :=
  (State.answers_open ho (by decide) (by decide)).write rfl
    (s.updEvr_effect fun e => { e with winSel := v.toNat % 4096 }) rfl rfl

/-- HIF_POLLCAP before RUN takes a value in its range. -/
theorem State.writeCap_hif {s : State} {h : Nat} {v : Word} (hr : s.glb.run = false) (lo : 100 ≤ v.toNat)
    (hi : v.toNat ≤ 20000) : Effect 0x1000000000 s (s.writeCap h v) ∧
      ((s.writeCap h v).hif.ports.get h).pollCap = v.toNat := by
  have small : v.toNat % 2 ^ 15 = v.toNat := Nat.mod_eq_of_lt (by omega)
  simp only [State.writeCap, small, State.rwlLocked, hr]
  by_cases e : v.toNat = (s.hif.ports.get h).pollCap
  · rw [if_pos (.inr (.inr e))]
    exact ⟨Effect.refl _ s, e.symm⟩
  · rw [if_neg (by omega), if_neg Bool.false_ne_true]
    exact ⟨s.updHostPort_effect h _, by simp [State.updHostPort]⟩

theorem write_pollCap {s : State} {p : TimePort} {h : Nat} {v : Word} (ho : s.windowOpen p = true) (hh : h < 2)
    (hr : s.glb.run = false) (lo : 100 ≤ v.toNat) (hi : v.toNat ≤ 20000) :
    s.Gives (.registerWrite (.win p) (BitVec.ofNat 24 (0x20004 + 0x40 * h)) v 32) [.hif] fun t =>
      (t.hif.ports.get h).pollCap = v.toNat := by
  have win : winOf (BitVec.ofNat 24 (0x20004 + 0x40 * h)) = 2 := by rw [winOf_ofNat (by omega)]; omega
  have e : s.writeReg p (BitVec.ofNat 24 (0x20004 + 0x40 * h)) v = s.writeCap h v := by
    interval_cases h <;> rfl
  obtain ⟨effect, cap⟩ := State.writeCap_hif hr lo hi
  exact (State.answers_open ho (by omega) (by omega)).write e effect rfl cap

/-- The mailbox takes a write before RUN while no operation runs. -/
theorem State.mailWrite_free {s : State} (f : State → State) (hr : s.glb.run = false) (hs : s.svc.running = none) :
    s.mailWrite f = f s := by
  simp [State.mailWrite, hr, hs]

theorem write_svcArg {s : State} {p : TimePort} {i : Nat} (v : Word) (ho : s.windowOpen p = true) (hi : i < 8)
    (hr : s.glb.run = false) (hs : s.svc.running = none) :
    s.Gives (.registerWrite (.win p) (BitVec.ofNat 24 (0x2F004 + 4 * i)) v 32) [.svc] fun t =>
      t.svc.args.toList[i]? = some v := by
  have win : winOf (BitVec.ofNat 24 (0x2F004 + 4 * i)) = 2 := by rw [winOf_ofNat (by omega)]; omega
  have e : s.writeReg p (BitVec.ofNat 24 (0x2F004 + 4 * i)) v =
      s.mailWrite fun s => s.updSvc fun x => { x with args := x.args.setIfInBounds i v } := by
    interval_cases i <;> rfl
  refine (State.answers_open ho (by omega) (by omega)).write (e.trans (State.mailWrite_free _ hr hs)) (s.updSvc_effect _) rfl
    ?_
  show (s.svc.args.setIfInBounds i v).toList[i]? = some v
  simp [hi]

theorem write_svcCmd_locked {s : State} {p : TimePort} (v : Word) (ho : s.windowOpen p = true) (hr : s.glb.run = true) :
    s.Gives (.registerWrite (.win p) 0x02F000 v 32) [.glb, .svc] fun t =>
      t.svc = { s.svc with ignored := min (s.svc.ignored + 1) 0xFFFFFFFF } ∧ t.glb = { s.glb with lockedWrite := true } := by
  have e : s.writeReg p 0x02F000 v = (s.updSvc fun v => { v with ignored := sat32 v.ignored 1 }).lockedWrite := if_pos hr
  exact (State.answers_open ho (by decide) (by decide)).write e
    (((s.updSvc_effect _).mono rfl).go (State.lockedWrite_effect _) rfl : Effect 0x14 s _) rfl ⟨rfl, rfl⟩

/-- An operation that the Service Channel has takes its place, and nothing else of the channel changes. -/
theorem State.svcStart_svc {s : State} {o : SvcOp} (lo : 0 < o.op) (hi : o.op < 9) (hb : s.glb.phase ≠ .bootFailed) :
    (s.svcStart o).svc = { s.svc with running := some o } := by
  unfold State.svcStart
  dsimp only
  rw [if_neg (by omega), if_neg fun h => hb h.1]
  exact (State.syncSlice_effect _ 0).same .svc rfl

theorem write_svcCmd {s : State} {p : TimePort} {v : Word} (ho : s.windowOpen p = true) (hr : s.glb.run = false)
    (hs : s.svc.running = none) (lo : 0 < v.toNat % 256) (hi : v.toNat % 256 < 9) (hb : s.glb.phase ≠ .bootFailed) :
    ∃ t, exec (.registerWrite (.win p) 0x02F000 v 32) s = .next t ∧
      t.svc = { s.svc with op := v.setWidth 8, cmdTag := (v >>> 8).setWidth 8,
                           running := some { op := v.toNat % 256, tag := (v >>> 8).setWidth 8, door := .mailbox,
                                             host := portNo p, since := s.now } } := by
  have op : (v.setWidth 8 : Byte).toNat = v.toNat % 256 := BitVec.toNat_setWidth 8 v
  have e : s.writeReg p 0x02F000 v = s.mailWrite fun s => s.mailStart (portNo p) v := rfl
  refine ⟨_, (State.answers_open ho (by decide) (by decide)).exec_write (e.trans (State.mailWrite_free _ hr hs)), ?_⟩
  unfold State.mailStart
  dsimp only
  rw [op]
  exact State.svcStart_svc (s := s.updSvc _) lo hi hb

/-! ## MLK_CTRL (R349, R352) -/

/-- INHIBIT set, and a yield asked for where bit 1 is written. -/
theorem State.writeMlk_ctrl (s : State) (v : Word) : s.writeMlk 0x8 v =
    if v.getLsbD 1 then (s.updMlk fun m => { m with inhibit := v.getLsbD 0 }).claimLapse.askYield
    else (s.updMlk fun m => { m with inhibit := v.getLsbD 0 }).claimLapse := rfl

/-- A claim that waits for its boundary stops where INHIBIT forbids it. -/
theorem State.claimLapse_inhibited {s : State} (hc : s.mlk.role = .claiming) (hw : s.mlk.windowEnded = true)
    (hi : s.mlk.inhibit = true) : s.claimLapse = s.dropGrant .standby := by
  have lapsed : s.claimHolds = false := by simp [State.claimHolds, hi]
  unfold State.claimLapse
  rw [if_pos ⟨hc, hw, by simp [lapsed]⟩]

theorem State.askYield_standby {s : State} (h : s.mlk.role = .standby) :
    s.askYield = s.updMlk fun m => { m with yieldRefused := true } := by
  unfold State.askYield
  rw [if_neg (by simp [h])]

theorem write_inhibit_claiming {s : State} {p : TimePort} {v : Word} (ho : s.windowOpen p = true)
    (hc : s.mlk.role = .claiming) (hw : s.mlk.windowEnded = true) (hv : v.getLsbD 0 = true) :
    ∃ t, exec (.registerWrite (.win p) 0x0E0008 v 32) s = .next t ∧ t.mlk.role = .standby ∧ t.mlk.grant = false ∧
      Emission.claim false ∈ t.outputs := by
  let u := s.updMlk fun m => { m with inhibit := v.getLsbD 0 }
  have lapse : u.claimLapse = u.dropGrant .standby := State.claimLapse_inhibited hc hw hv
  have grant : (u.dropGrant .standby).mlk.grant = false := (u.dropGrant_grantGone .standby).1
  have claim : Emission.claim false ∈ (u.dropGrant .standby).outputs := State.dropGrant_claim .standby (.inl hc)
  refine ⟨_, (State.answers_open ho (by decide) (by decide)).exec_write (s.writeMlk_ctrl v), ?_⟩
  rw [lapse]
  split
  · rw [State.askYield_standby (u.dropGrant_role .standby)]
    exact ⟨rfl, grant, claim⟩
  · exact ⟨rfl, grant, claim⟩

theorem write_inhibit {s : State} {p : TimePort} {v : Word} (ho : s.windowOpen p = true) (hc : s.mlk.role ≠ .claiming)
    (hv : v.getLsbD 1 = false) : s.Gives (.registerWrite (.win p) 0x0E0008 v 32) [.mlk] fun t =>
      t.mlk = { s.mlk with inhibit := v.getLsbD 0 } := by
  have stays : (s.updMlk fun m => { m with inhibit := v.getLsbD 0 }).claimLapse =
      s.updMlk fun m => { m with inhibit := v.getLsbD 0 } := if_neg fun h => hc h.1
  have e : s.writeMlk 0x8 v = s.updMlk fun m => { m with inhibit := v.getLsbD 0 } := by
    rw [State.writeMlk_ctrl, hv, stays]
    rfl
  exact (State.answers_open ho (by decide) (by decide)).write e (s.updMlk_effect _) rfl rfl

end Sys2Proof.Machine
end

section
/-! Register reads and writes of the set-up window, and the MSI-X table of a host port (R291, R313). -/

namespace Sys2Proof.Machine

/-! ## The words of an MSI-X table -/

/-- Word `j` of entry `k` of a table of entries of four words. -/
theorem entryWord_toNat {k j : Nat} (hk : k < 512) (hj : j < 4) :
    (BitVec.ofNat 24 (16 * k + 4 * j)).toNat = 16 * k + 4 * j := by
  rw [BitVec.toNat_ofNat, Nat.mod_eq_of_lt (by omega)]

/-- The words of an entry. -/
def State.entryWord (s : State) (n j : Nat) : Nat :=
  match j with
  | 0 => lo32 (s.hif.vecs.get n).addr
  | 1 => hi32 (s.hif.vecs.get n).addr
  | 2 => (s.hif.vecs.get n).data
  | _ => (s.hif.maskedVec.get n).toNat

theorem State.readVec_entry (s : State) (h : Nat) {k j : Nat} (hk : k < 512) (hj : j < 4) :
    s.readVec h (BitVec.ofNat 24 (16 * k + 4 * j)) = s.entryWord (512 * h + k) j := by
  have entry : (16 * k + 4 * j) / 16 = k := by omega
  have word : (16 * k + 4 * j) / 4 % 4 = j := by omega
  have table : 16 * k + 4 * j < 0x2000 := by omega
  unfold State.readVec
  dsimp only
  rw [entryWord_toNat hk hj, entry, word, if_pos table]
  rfl

/-- The pending bits of vectors `32 j` on. -/
theorem State.readVec_pending (s : State) (h : Nat) {j : Nat} (hj : j < 16) :
    s.readVec h (BitVec.ofNat 24 (0x8000 + 4 * j)) =
      packed ((List.range 32).map fun b => flag b (s.hif.pendingVec.get (512 * h + 32 * j + b))) := by
  have off : (BitVec.ofNat 24 (0x8000 + 4 * j)).toNat = 0x8000 + 4 * j := by
    rw [BitVec.toNat_ofNat, Nat.mod_eq_of_lt (by omega)]
  have first : 512 * h + 8 * ((0x8000 + 4 * j) / 4 * 4 - 0x8000) = 512 * h + 32 * j := by omega
  unfold State.readVec
  dsimp only
  rw [off, if_neg (by omega), if_pos (by omega), first]

/-- What a write of a word changes of an entry's address and data. -/
def MsixEntry.setWord (v : Word) (j : Nat) (e : MsixEntry) : MsixEntry :=
  match j with
  | 0 => { e with addr := hi32 e.addr * 2 ^ 32 + v.toNat / 4 * 4 }
  | 1 => { e with addr := v.toNat * 2 ^ 32 + lo32 e.addr }
  | _ => { e with data := v.toNat }

theorem State.writeVec_eq (s : State) (h : Nat) {k j : Nat} (v : Word) (hk : k < 512) (hj : j < 4) :
    s.writeVec h (BitVec.ofNat 24 (16 * k + 4 * j)) v =
      match j with
      | 3 => s.setMask h k (v.getLsbD 0)
      | j => s.updHif fun x => { x with vecs := x.vecs.upd (512 * h + k) (MsixEntry.setWord v j) } := by
  have entry : (16 * k + 4 * j) / 16 = k := by omega
  have word : (16 * k + 4 * j) / 4 % 4 = j := by omega
  unfold State.writeVec
  dsimp only
  rw [entryWord_toNat hk hj, entry, word, if_neg (by omega)]
  interval_cases j <;> rfl

/-- The address and the data of an entry after a write of one of its words. -/
theorem MsixEntry.setWord_fields (v : Word) (j : Nat) (e : MsixEntry) (he : e.addr < 2 ^ 64) :
    (j = 0 → (e.setWord v j).addr = e.addr / 2 ^ 32 * 2 ^ 32 + v.toNat / 4 * 4 ∧ (e.setWord v j).data = e.data) ∧
    (j = 1 → (e.setWord v j).addr = v.toNat * 2 ^ 32 + e.addr % 2 ^ 32 ∧ (e.setWord v j).data = e.data) ∧
    (j = 2 → (e.setWord v j).addr = e.addr ∧ (e.setWord v j).data = v.toNat) := by
  have high : hi32 e.addr = e.addr / 2 ^ 32 := Nat.mod_eq_of_lt (by omega)
  refine ⟨?_, ?_, ?_⟩
  · rintro rfl
    exact ⟨by rw [MsixEntry.setWord, high], rfl⟩
  · rintro rfl
    exact ⟨rfl, rfl⟩
  · rintro rfl
    exact ⟨rfl, rfl⟩

/-! ## A vector is sent (R313) -/

theorem State.vecSend_tables (s : State) (h k : Nat) : (s.vecSend h k).hif.vecs = s.hif.vecs ∧
    (s.vecSend h k).hif.maskedVec = s.hif.maskedVec ∧ (s.vecSend h k).hif.pendingVec = s.hif.pendingVec := by
  unfold State.vecSend State.hostEmit
  dsimp only
  split <;> exact ⟨rfl, rfl, rfl⟩

theorem State.vecSend_outputs {s : State} (h k : Nat) (free : s.heldAt (k / 8) = none) :
    (s.vecSend h k).outputs =
      s.outputs ++ [.msix h k (s.hif.vecs.get (512 * h + k)).addr (s.hif.vecs.get (512 * h + k)).data] := by
  unfold State.vecSend State.hostEmit
  dsimp only
  rw [free]
  rfl

/-- The mask bit alone. -/
def State.maskVec (s : State) (n : Nat) (m : Bool) : State := s.updHif fun x => { x with maskedVec := x.maskedVec.set n m }

/-- The pending bit of a vector is cleared. -/
def State.clearPending (s : State) (n : Nat) : State := s.updHif fun x => { x with pendingVec := x.pendingVec.set n false }

theorem State.setMask_eq (s : State) (h k : Nat) (m : Bool) : s.setMask h k m =
    if !m && s.hif.pendingVec.get (512 * h + k) then ((s.maskVec (512 * h + k) m).clearPending (512 * h + k)).vecSend h k
    else s.maskVec (512 * h + k) m := rfl

/-- A vector is sent, and its pending bit falls, where it is unmasked with that bit set. -/
theorem State.setMask_facts (s : State) (h k : Nat) (m : Bool) :
    (s.setMask h k m).hif.vecs = s.hif.vecs ∧ (s.setMask h k m).hif.maskedVec = s.hif.maskedVec.set (512 * h + k) m ∧
    (∀ i, i ≠ 512 * h + k → (s.setMask h k m).hif.pendingVec.get i = s.hif.pendingVec.get i) ∧
    (s.setMask h k m).hif.pendingVec.get (512 * h + k) = (s.hif.pendingVec.get (512 * h + k) && m) := by
  rw [State.setMask_eq]
  split
  · next c =>
    obtain ⟨hm, hp⟩ : m = false ∧ s.hif.pendingVec.get (512 * h + k) = true := by simpa using c
    obtain ⟨vecs, masked, pending⟩ := ((s.maskVec (512 * h + k) m).clearPending (512 * h + k)).vecSend_tables h k
    rw [vecs, masked, pending]
    exact ⟨rfl, rfl, fun i hi => Tbl.get_set_other _ _ (Ne.symm hi), (Tbl.get_set_same _ _ _).trans (by simp [hm])⟩
  · next c =>
    refine ⟨rfl, rfl, fun _ _ => rfl, ?_⟩
    show s.hif.pendingVec.get (512 * h + k) = _
    cases m <;> simp_all

theorem State.setMask_sends {s : State} {h k : Nat} (hp : s.hif.pendingVec.get (512 * h + k) = true)
    (free : s.heldAt (k / 8) = none) : (s.setMask h k false).outputs =
      s.outputs ++ [.msix h k (s.hif.vecs.get (512 * h + k)).addr (s.hif.vecs.get (512 * h + k)).data] := by
  rw [State.setMask_eq, if_pos (by simp [hp])]
  exact State.vecSend_outputs (s := (s.maskVec (512 * h + k) false).clearPending (512 * h + k)) h k free

/-! ## Accesses to the table -/

theorem exec_readVec (s : State) (h : Fin 2) (a : BitVec 24) :
    exec (.registerRead (.vec h) a) s = .next { s with lastRead := BitVec.ofNat 32 (s.readVec h.val a) } := rfl

theorem vecReads (h : Fin 2) (k : Fin 512) (s : State) :
    let x := s.hif.vecs.get (512 * h.val + k.val)
    let reads (j v : Nat) : Prop := exec (.registerRead (.vec h) (BitVec.ofNat 24 (16 * k.val + 4 * j))) s =
      .next { s with lastRead := BitVec.ofNat 32 v }
    x.addr < 2 ^ 64 → x.data < 2 ^ 32 → reads 0 (x.addr % 2 ^ 32) ∧ reads 1 (x.addr / 2 ^ 32) ∧ reads 2 x.data ∧
      reads 3 (s.hif.maskedVec.get (512 * h.val + k.val)).toNat := by
  intro x reads hx _
  have word (j : Nat) (hj : j < 4) : reads j (s.entryWord (512 * h.val + k.val) j) :=
    (exec_readVec s h _).trans (by rw [s.readVec_entry h.val k.isLt hj])
  have high : hi32 x.addr = x.addr / 2 ^ 32 := Nat.mod_eq_of_lt (by omega)
  have one : reads 1 (hi32 x.addr) := word 1 (by decide)
  rw [high] at one
  exact ⟨word 0 (by decide), one, word 2 (by decide), word 3 (by decide)⟩

theorem pendingReads (h : Fin 2) (s : State) (j : Fin 16) :
    ∃ t, exec (.registerRead (.vec h) (BitVec.ofNat 24 (0x8000 + 4 * j.val))) s = .next t ∧ s.ChangesOnly [.lastRead] t ∧
      ∀ b, b < 32 → t.lastRead.getLsbD b = s.hif.pendingVec.get (512 * h.val + 32 * j.val + b) := by
  refine ⟨_, rfl, fun q hq => ?_, fun b hb => ?_⟩
  · cases q <;> first | rfl | exact absurd hq (by decide)
  · show (BitVec.ofNat 32 (s.readVec h.val _)).getLsbD b = _
    obtain ⟨-, bits⟩ := packed_flags (fun b => s.hif.pendingVec.get (512 * h.val + 32 * j.val + b)) 32
    rw [s.readVec_pending h.val j.isLt, BitVec.getLsbD_ofNat, bits b hb, decide_eq_true hb, Bool.true_and]

theorem exec_writeVec (s : State) (h : Fin 2) (a : BitVec 24) (v : Word) :
    exec (.registerWrite (.vec h) a v 32) s = .next (s.writeVec h.val a v) := rfl

theorem vecWrite_narrow (s : State) (h : Fin 2) (a : BitVec 24) (v : Word) {width : Nat} (hw : width < 32) :
    exec (.registerWrite (.vec h) a v width) s = .next s := by
  show execRegisterWrite (.vec h) a v width s = _
  simp [execRegisterWrite, hw]

/-- The table ends at 0x2000. -/
theorem vecWrite_outside (s : State) (h : Fin 2) {a : BitVec 24} (v : Word) (ha : 0x2000 ≤ a.toNat) :
    exec (.registerWrite (.vec h) a v 32) s = .next s := by
  rw [exec_writeVec, State.writeVec, if_pos (by omega)]

theorem vecWrite_entry (s : State) (h : Fin 2) (k : Fin 512) (v : Word) {j : Nat} (hj : j < 3) :
    let n := 512 * h.val + k.val
    let x := s.hif.vecs.get n
    s.Gives (.registerWrite (.vec h) (BitVec.ofNat 24 (16 * k.val + 4 * j)) v 32) [.hif] fun t =>
      t.hif.maskedVec = s.hif.maskedVec ∧ t.hif.pendingVec = s.hif.pendingVec ∧
      (∀ m, m ≠ n → t.hif.vecs.get m = s.hif.vecs.get m) ∧
      (x.addr < 2 ^ 64 → let y := t.hif.vecs.get n
        (j = 0 → y.addr = x.addr / 2 ^ 32 * 2 ^ 32 + v.toNat / 4 * 4 ∧ y.data = x.data) ∧
        (j = 1 → y.addr = v.toNat * 2 ^ 32 + x.addr % 2 ^ 32 ∧ y.data = x.data) ∧
        (j = 2 → y.addr = x.addr ∧ y.data = v.toNat)) := by
  intro n x
  have e : s.writeVec h.val (BitVec.ofNat 24 (16 * k.val + 4 * j)) v =
      s.updHif fun x => { x with vecs := x.vecs.upd n (MsixEntry.setWord v j) } := by
    rw [s.writeVec_eq h.val v k.isLt (by omega)]
    interval_cases j <;> rfl
  refine Effect.gives (s.updHif_effect _) rfl (congrArg Host.Outcome.next e) ⟨rfl, rfl,
    fun m hm => Tbl.get_upd_other _ _ (Ne.symm hm), fun hx => ?_⟩
  have entry : (s.hif.vecs.upd n (MsixEntry.setWord v j)).get n = x.setWord v j := Tbl.get_upd_same _ _ _
  have fields := x.setWord_fields v j hx
  rw [← entry] at fields
  exact fields

theorem vecWrite_mask (s : State) (h : Fin 2) (k : Fin 512) (v : Word) :
    let n := 512 * h.val + k.val
    let x := s.hif.vecs.get n
    s.Gives (.registerWrite (.vec h) (BitVec.ofNat 24 (16 * k.val + 4 * 3)) v 32) [.hif, .outputs] fun t =>
      t.hif.vecs = s.hif.vecs ∧ t.hif.maskedVec.get n = v.getLsbD 0 ∧
      (∀ m, m ≠ n → t.hif.maskedVec.get m = s.hif.maskedVec.get m ∧ t.hif.pendingVec.get m = s.hif.pendingVec.get m) ∧
      t.hif.pendingVec.get n = (s.hif.pendingVec.get n && v.getLsbD 0) ∧
      (s.hif.pendingVec.get n = true → v.getLsbD 0 = false → s.heldAt (k.val / 8) = none →
        t.outputs = s.outputs ++ [.msix h.val k.val x.addr x.data]) := by
  intro n x
  have e : s.writeVec h.val (BitVec.ofNat 24 (16 * k.val + 4 * 3)) v = s.setMask h.val k.val (v.getLsbD 0) :=
    s.writeVec_eq h.val v k.isLt (by decide)
  obtain ⟨vecs, masked, others, pending⟩ := s.setMask_facts h.val k.val (v.getLsbD 0)
  refine Effect.gives (s.setMask_effect h.val k.val (v.getLsbD 0)) rfl (congrArg Host.Outcome.next e)
    ⟨vecs, ?_, fun m hm => ⟨?_, others m hm⟩, pending, fun hp hv free => ?_⟩
  · rw [masked, Tbl.get_set_same]
  · rw [masked, Tbl.get_set_other _ _ (Ne.symm hm)]
  · rw [hv]
    exact State.setMask_sends hp free

/-! ## The obligation -/

theorem writes_open {s : State} (p : TimePort) (v : Word) (ho : s.windowOpen p = true) :
    (s.Gives (.registerWrite (.win p) 0x0B0040 v 32) [.recs] fun t =>
      t.recs = { s.recs with evr := { s.recs.evr with winSel := v.toNat % 4096 } }) ∧
    (s.mlk.role = .claiming → s.mlk.windowEnded = true → v.getLsbD 0 = true →
      ∃ t, exec (.registerWrite (.win p) 0x0E0008 v 32) s = .next t ∧ t.mlk.role = .standby ∧ t.mlk.grant = false ∧
        Emission.claim false ∈ t.outputs) ∧
    (s.mlk.role ≠ .claiming → v.getLsbD 1 = false → s.Gives (.registerWrite (.win p) 0x0E0008 v 32) [.mlk] fun t =>
      t.mlk = { s.mlk with inhibit := v.getLsbD 0 }) ∧
    (∀ h, h < 2 → s.glb.run = false → 100 ≤ v.toNat → v.toNat ≤ 20000 →
      s.Gives (.registerWrite (.win p) (BitVec.ofNat 24 (0x20004 + 0x40 * h)) v 32) [.hif] fun t =>
        (t.hif.ports.get h).pollCap = v.toNat) ∧
    (∀ i, i < 8 → s.glb.run = false → s.svc.running = none →
      s.Gives (.registerWrite (.win p) (BitVec.ofNat 24 (0x2F004 + 4 * i)) v 32) [.svc] fun t =>
        t.svc.args.toList[i]? = some v) ∧
    (s.glb.run = true → s.Gives (.registerWrite (.win p) 0x02F000 v 32) [.glb, .svc] fun t =>
      t.svc = { s.svc with ignored := min (s.svc.ignored + 1) 0xFFFFFFFF } ∧
      t.glb = { s.glb with lockedWrite := true }) ∧
    (s.glb.run = false → s.svc.running = none → 0 < v.toNat % 256 → v.toNat % 256 < 9 →
      s.glb.phase ≠ .bootFailed → ∃ t, exec (.registerWrite (.win p) 0x02F000 v 32) s = .next t ∧
        t.svc = { s.svc with op := v.setWidth 8, cmdTag := (v >>> 8).setWidth 8,
                             running := some { op := v.toNat % 256, tag := (v >>> 8).setWidth 8, door := .mailbox,
                                               host := portNo p, since := s.now } }) :=
  ⟨write_winSel v ho, write_inhibit_claiming ho, write_inhibit ho, fun _ => write_pollCap ho,
    fun _ => write_svcArg v ho, write_svcCmd_locked v ho, write_svcCmd ho⟩

/-- Settles O55: an access is first led to its register (`State.answers`), and the registers are then read and written one
by one; the MSI-X table by its words. -/
theorem registersAreReadAndWritten : Obligations.RegistersAreReadAndWritten := by
  unfold Obligations.RegistersAreReadAndWritten
  refine ⟨fun p s => ⟨fun a h => reads_noUnit s p h, fun a w hu hr => ?_, fun a v width hw => write_narrow s p a v hw,
    reads_low s p, fun ho => ?_, fun v => ?_⟩, fun h k s => ⟨vecReads h k s, pendingReads h s, fun v =>
      ⟨fun width j hw => vecWrite_narrow s h _ v hw, fun j hj => vecWrite_entry s h k v hj, vecWrite_mask s h k v,
        fun a ha => vecWrite_outside s h v ha⟩⟩⟩
  · cases w with
    | false => exact read_notReady hu hr
    | true => exact fun v => write_notReady v hu hr
  · obtain ⟨seconds, deny, count, ports, time⟩ := reads_open ho
    refine ⟨seconds, deny, count, fun h hh => ?_, time⟩
    exact unitWord_eq (s.unit (.port h)) ▸ ports h hh
  · obtain ⟨id, flags, modnum, pfail, ctrl, run, clear⟩ := writes_low s p v
    exact ⟨id, flags, modnum, pfail, ctrl, run, clear, writes_open p v⟩

end Sys2Proof.Machine
end

section
/-! SUPPORT. Trip lanes and their drivers (R16, R17): who asserts a lane after a change of one driver. -/

namespace Sys2Proof.Machine

theorem State.pkg_upTo (s : State) (t : Nat) : (s.upTo t).pkg = s.pkg := by simp [State.pkg]

theorem State.maskOn_upTo (s : State) (t : Nat) (m : BitVec 64) : (s.upTo t).maskOn m = s.maskOn m := by
  simp [State.maskOn, State.laneOn]

/-- Driver `d` no longer asserts the lanes `ns`. -/
def releaseLanes (d : Nat) (ns : List Nat) (t : Lanes) : Lanes :=
  ns.foldl (fun (t : Lanes) n => t.set n ((t.get n).filter (· ≠ d))) t

/-- Driver `d` asserts the lanes `ns` besides. -/
def assertLanes (d : Nat) (ns : List Nat) (t : Lanes) : Lanes :=
  ns.foldl (fun (t : Lanes) n => if d ∈ t.get n then t else t.set n (t.get n ++ [d])) t

theorem mem_releaseLanes (d e : Nat) (ns : List Nat) (t : Lanes) (j : Nat) :
    e ∈ (releaseLanes d ns t).get j ↔ e ∈ t.get j ∧ ¬ (e = d ∧ j ∈ ns) := by
  induction ns generalizing t with
  | nil => simp [releaseLanes]
  | cons n r ih =>
    rw [releaseLanes, List.foldl_cons, ← releaseLanes, ih, Tbl.get_set]
    by_cases h : n = j
    · subst h
      simp
      tauto
    · simp [h, Ne.symm h]

theorem mem_assertLanes (d e : Nat) (ns : List Nat) (t : Lanes) (j : Nat) :
    e ∈ (assertLanes d ns t).get j ↔ e ∈ t.get j ∨ (e = d ∧ j ∈ ns) := by
  induction ns generalizing t with
  | nil => simp [assertLanes]
  | cons n r ih =>
    have turn : e ∈ (if d ∈ t.get n then t else t.set n (t.get n ++ [d])).get j ↔ e ∈ t.get j ∨ (e = d ∧ j = n) := by
      split
      · next h => exact ⟨.inl, fun k => k.elim id fun ⟨a, b⟩ => a ▸ b ▸ h⟩
      · rw [Tbl.get_set]
        split
        · next h => simp [h]
        · next h => simp [Ne.symm h]
    rw [assertLanes, List.foldl_cons, ← assertLanes, ih, turn, List.mem_cons]
    tauto

theorem releaseLanes_other (d : Nat) {ns : List Nat} (t : Lanes) {j : Nat} (h : j ∉ ns) :
    (releaseLanes d ns t).get j = t.get j := by
  induction ns generalizing t with
  | nil => rfl
  | cons n r ih =>
    obtain ⟨hn, hr⟩ : j ≠ n ∧ j ∉ r := by simpa using h
    rw [releaseLanes, List.foldl_cons, ← releaseLanes, ih _ hr, Tbl.get_set_other _ _ (Ne.symm hn)]

theorem assertLanes_other (d : Nat) {ns : List Nat} (t : Lanes) {j : Nat} (h : j ∉ ns) :
    (assertLanes d ns t).get j = t.get j := by
  induction ns generalizing t with
  | nil => rfl
  | cons n r ih =>
    obtain ⟨hn, hr⟩ : j ≠ n ∧ j ∉ r := by simpa using h
    rw [assertLanes, List.foldl_cons, ← assertLanes, ih _ hr]
    split
    · rfl
    · exact Tbl.get_set_other _ _ (Ne.symm hn)

/-- The targets that react to a change of the lanes change no lane. -/
theorem State.drive_lanes (s : State) (d : Nat) (on off : List Nat) :
    (s.drive d on off).lanes = assertLanes d on (releaseLanes d off s.lanes) := by
  let u : State := { s with lanes := assertLanes d on (releaseLanes d off s.lanes) }
  have h : Effect 0x4F2D8C00002 u (s.drive d on off) :=
    Effect.each (((u.noteMasks_effect).mono rfl).go (State.lanesRise_effect ..) rfl)
      fun t m h => h.go (t.toOpen_effect m) rfl
  exact h.same .lanes rfl

theorem State.mem_lanes_drive (s : State) (d : Nat) (on off : List Nat) (e n : Nat) :
    e ∈ (s.drive d on off).lanes.get n ↔ (e ∈ s.lanes.get n ∧ ¬ (e = d ∧ n ∈ off)) ∨ (e = d ∧ n ∈ on) := by
  rw [State.drive_lanes, mem_assertLanes, mem_releaseLanes]

theorem State.drive_lanes_other (s : State) (d : Nat) {on off : List Nat} {n : Nat} (hon : n ∉ on) (hoff : n ∉ off) :
    (s.drive d on off).lanes.get n = s.lanes.get n := by
  rw [State.drive_lanes, assertLanes_other _ _ hon, releaseLanes_other _ _ hoff]

theorem State.laneOn_of_mem {s : State} {n d : Nat} (h : d ∈ s.lanes.get n) : s.laneOn n = true := by
  simp [State.laneOn, List.ne_nil_of_mem h]

/-- A driver that releases all it drives drives none of the 64 lanes, and every other driver keeps its own (R17). -/
theorem State.mem_lanes_releaseAll (s : State) (d e n : Nat) :
    e ∈ (s.releaseAll d).lanes.get n ↔ e ∈ s.lanes.get n ∧ ¬ (e = d ∧ n < 64) := by
  rw [State.releaseAll, State.mem_lanes_drive]
  simp only [List.mem_filter, List.mem_range, decide_eq_true_eq, List.not_mem_nil, and_false, or_false]
  constructor
  · rintro ⟨h, k⟩
    exact ⟨h, fun ⟨a, b⟩ => k ⟨a, b, a ▸ h⟩⟩
  · rintro ⟨h, k⟩
    exact ⟨h, fun ⟨a, b, _⟩ => k ⟨a, b⟩⟩

end Sys2Proof.Machine
end

section
/-! PROOF. Trip outputs and optical trip inputs (O29). -/

namespace Sys2Proof.Machine

/-! ## Trip outputs (R158, R466) -/

theorem State.setTo_tos (s : State) (m : Nat) (f : ToSt → ToSt) : (s.setTo m f).tos = s.tos.upd m f := by
  unfold State.setTo
  dsimp only
  split <;> rfl

/-- The pin of an output that was driven follows when it opens. -/
theorem State.setTo_opens {s : State} {m : Nat} {f : ToSt → ToSt} (hc : (s.tos.get m).closed = true)
    (hf : ∀ x, (f x).closed = false) :
    (s.setTo m f).outputs = s.outputs ++ (if s.mlk.grant then [.tripOut m false] else []) := by
  unfold State.setTo
  simp only [hc, hf, State.updTo_tos, Tbl.get_upd_same, State.updTo_mlk, Bool.true_and, Bool.false_and]
  cases s.mlk.grant <;> simp [State.emit]

/-- MINON has elapsed, and the output may open. -/
theorem toMinonExpiry_opens {s : State} {m : Fin 4} (hc : (s.tos.get m).closed = true)
    (hm : s.maskOn (s.pkg.tos.get m).mask = false)
    (hl : (s.pkg.tos.get m).latch = false ∨ (s.tos.get m).resetDone = true) :
    s.Gives (.toMinonExpiry m) [.now, .col, .tos, .outputs] fun t =>
      t.now = max s.now ((s.tos.get m).lastEdge + (s.pkg.tos.get m).minonMs * 1000000) ∧
      t.tos = s.tos.set m { s.tos.get m with closed := false, latched := false } ∧
      t.outputs = s.outputs ++ (if s.mlk.grant then [.tripOut m false] else []) := by
  have e : exec (.toMinonExpiry m) s = .next ((s.upTo ((s.tos.get m).lastEdge +
      (s.pkg.tos.get m).minonMs * 1000000)).setTo m fun t => { t with closed := false, latched := false }) := by
    show execToMinonExpiry m s = _
    rw [execToMinonExpiry, if_pos hc, State.toOpen, if_pos]
    simp only [State.pkg_upTo, State.maskOn_upTo, State.upTo_tos, State.upTo_now]
    exact ⟨hc, by simp [hm], by omega, hl⟩
  refine ((State.upTo_effect ..).mono rfl |>.go (State.setTo_effect ..) rfl : Effect 0x40400400001 _ _).gives rfl e ⟨?_, ?_, ?_⟩
  · rw [(State.setTo_effect ..).same .now rfl, State.upTo_now]
  · rw [State.setTo_tos, State.upTo_tos, Tbl.upd]
  · rw [State.setTo_opens (by simpa using hc) (fun _ => rfl), State.upTo_outputs, State.upTo_mlk]

/-- MINON has elapsed, and a mapped lane or the latch keeps the output closed. -/
theorem toMinonExpiry_stays {s : State} {m : Fin 4} (hc : (s.tos.get m).closed = true)
    (hk : s.maskOn (s.pkg.tos.get m).mask = true ∨
      ((s.pkg.tos.get m).latch = true ∧ (s.tos.get m).resetDone = false)) :
    s.Gives (.toMinonExpiry m) [.now, .col] fun t =>
      t.now = max s.now ((s.tos.get m).lastEdge + (s.pkg.tos.get m).minonMs * 1000000) := by
  have e : exec (.toMinonExpiry m) s = .next (s.upTo ((s.tos.get m).lastEdge +
      (s.pkg.tos.get m).minonMs * 1000000)) := by
    show execToMinonExpiry m s = _
    rw [execToMinonExpiry, if_pos hc, State.toOpen, if_neg]
    simp only [State.pkg_upTo, State.maskOn_upTo, State.upTo_tos]
    rintro ⟨-, hoff, -, hl⟩
    rcases hk with hk | ⟨hk, hr⟩
    · exact hoff hk
    · simp [hk, hr] at hl
  exact (State.upTo_effect ..).gives rfl e (State.upTo_now ..)

theorem toOverload_flags {s : State} {m : Fin 4} (hd : s.driven m = true) :
    s.Gives (.toOverload m) [.tos, .recs] fun t =>
      t.tos = s.tos.set m { s.tos.get m with overload := true } ∧ (Ev.toOverload, m.val, s.now) ∈ t.recs.evr.events := by
  have e : exec (.toOverload m) s =
      .next ((s.updTo m fun t => { t with overload := true }).event .toOverload m) := by
    show execToOverload m s = _
    rw [execToOverload, if_pos hd]
  exact (Effect.of_ok (execToOverload_effect m s) e).gives rfl e ⟨rfl, by simp⟩

/-- The terminal voltage of an output that is not driven (R466). -/
theorem toNoload_judges {s : State} {m : Fin 4} (v : Nat) (hd : s.driven m = false) :
    s.Gives (.toNoload m v) [.tos, .recs, .hw] fun t =>
      t.hw = { s.hw with toOffv := s.hw.toOffv.set m (min v 255) } ∧
      (t.tos.get m) = { s.tos.get m with
        noload := if v < 20 then true else if 30 < v then false else (s.tos.get m).noload } ∧
      (v < 20 → (s.tos.get m).noload = false → (Ev.toNoload, m.val, s.now) ∈ t.recs.evr.events) ∧
      (20 ≤ v → t.recs = s.recs) := by
  let u : State := { s with hw.toOffv := s.hw.toOffv.set m (Nat.min v 255) }
  have e : exec (.toNoload m v) s = .next (if v < 20 ∧ ¬ (s.tos.get m).noload then
      (u.updTo m fun t => { t with noload := true }).event .toNoload m
      else if 30 < v then u.updTo m fun t => { t with noload := false } else u) := by
    show execToNoload m v s = _
    rw [execToNoload, if_neg (by simp [hd])]
  refine (Effect.of_ok (execToNoload_effect m v s) e).gives rfl e ?_
  by_cases low : v < 20
  · by_cases flagged : (s.tos.get m).noload = true
    · rw [if_neg (by simp [flagged]), if_neg (by omega)]
      refine ⟨rfl, ?_, by simp [flagged], by omega⟩
      rw [if_pos low, ← flagged]
    · rw [if_pos ⟨low, flagged⟩]
      exact ⟨rfl, by simp [low, u], fun _ _ => by simp [u], by omega⟩
  · rw [if_neg (by omega)]
    refine ⟨?_, ?_, fun h => absurd h low, fun _ => ?_⟩
    · split <;> rfl
    · rw [if_neg low]
      split <;> simp [u]
    · split <;> rfl

/-! ## Trip inputs (R204, R205, R461) -/

/-- Judging TOGGLING leaves what an activation has set. -/
theorem State.tiToggle_tis (s : State) (i : Nat) : ∃ a b,
    (s.tiToggle i).tis = s.tis.set i { s.tis.get i with toggling := a, toggleEvent := b } ∨ (s.tiToggle i).tis = s.tis := by
  let u := s.updTi i fun x => { x with toggling := true }
  have judged : ∀ quiet : Bool, ∃ a b,
      (if quiet then u else (u.updTi i fun x => { x with toggleEvent := some u.now }).event .tiToggling i).tis =
        s.tis.set i { s.tis.get i with toggling := a, toggleEvent := b } := by
    intro quiet
    cases quiet
    · exact ⟨true, some s.now, by simp [u, State.event, State.evrTouch, Tbl.upd]⟩
    · exact ⟨true, (s.tis.get i).toggleEvent, rfl⟩
  unfold State.tiToggle
  dsimp only
  split
  · exact ⟨false, none, .inr rfl⟩
  · obtain ⟨a, b, h⟩ := judged _
    exact ⟨a, b, .inl h⟩

theorem State.mem_tiLanes (s : State) (i n : Nat) :
    n ∈ s.tiLanes i ↔ n < 64 ∧ (s.pkg.tis.get i).lanes.getLsbD n = true := by simp [State.tiLanes]

/-- The input as an activation at this instant leaves it, before TOGGLING is judged (R205). -/
def TiSt.activated (now : Nat) (x : TiSt) : TiSt :=
  { x with active := true, activeSince := now, acts := sat16 x.acts 1,
           actTimes := (x.actTimes.filter fun u => decide (now < u + 1000000000)) ++ [now] }

theorem tiFilterChange_activates {s : State} {i : Fin 8} (ha : (s.tis.get i).active = false) :
    s.Gives (.tiFilterChange i true s.now)
      [.freeIdx, .lanes, .tos, .gps, .arms, .sms, .beams, .pwms, .tis, .swc, .hif, .mlk, .recs, .obs, .outputs] fun t =>
        (t.tis.get i).active = true ∧ (t.tis.get i).activeSince = s.now ∧
        (t.tis.get i).acts = min ((s.tis.get i).acts + 1) 0xFFFF ∧
        ((s.pkg.tis.get i).en = true → ∀ n, n < 64 → (s.pkg.tis.get i).lanes.getLsbD n = true → t.laneOn n = true) ∧
        ((s.pkg.tis.get i).en = false → t.lanes = s.lanes) ∧ ∀ j, j ≠ i.val → t.tis.get j = s.tis.get j := by
  let u := (s.updTi i (TiSt.activated s.now)).tiToggle i
  let t := if (s.pkg.tis.get i).en then u.drive (tiDriver i) (u.tiLanes i) [] else u
  have e : exec (.tiFilterChange i true s.now) s = .next t := by
    show execTiFilterChange i true s.now s = _
    simp only [execTiFilterChange, State.upTo_self, ha, Bool.false_eq_true, if_false, if_true]
    rfl
  have hu : Effect 0x4100000000 s u := ((State.updTi_effect ..).mono rfl).go (State.tiToggle_effect ..) rfl
  have pkg : u.pkg = s.pkg := congrArg Svc.pkg (hu.same .svc rfl)
  have lanes : u.lanes = s.lanes := hu.same .lanes rfl
  have ht : Effect 0x4F3D8C00402 s t := by
    refine Effect.ite (fun _ => (hu.mono rfl).go (State.drive_effect ..) rfl) fun _ => hu.mono rfl
  have tis : t.tis = u.tis := by
    show (if _ then _ else _ : State).tis = _
    split
    · exact (State.drive_effect ..).same .tis rfl
    · rfl
  have own : ∃ a b, t.tis = s.tis.set i { (s.tis.get i).activated s.now with toggling := a, toggleEvent := b } := by
    rw [tis]
    obtain ⟨a, b, h | h⟩ := (s.updTi i (TiSt.activated s.now)).tiToggle_tis i
    · exact ⟨a, b, h.trans (by simp [Tbl.upd])⟩
    · exact ⟨_, _, h⟩
  obtain ⟨a, b, own⟩ := own
  refine ht.gives rfl e ⟨?_, ?_, ?_, fun en n hn hb => ?_, fun en => ?_, fun j hj => ?_⟩
  · rw [own, Tbl.get_set_same]; rfl
  · rw [own, Tbl.get_set_same]; rfl
  · rw [own, Tbl.get_set_same]; rfl
  · have : n ∈ u.tiLanes i := by rw [State.mem_tiLanes, pkg]; exact ⟨hn, hb⟩
    have td : t = u.drive (tiDriver i) (u.tiLanes i) [] := if_pos en
    rw [td]
    exact State.laneOn_of_mem ((State.mem_lanes_drive ..).2 (.inr ⟨rfl, this⟩))
  · have td : t = u := if_neg (by simp [en])
    rw [td, lanes]
  · rw [own, Tbl.get_set_other _ _ (Ne.symm hj)]

theorem tiFilterChange_releases {s : State} {i : Fin 8} (ha : (s.tis.get i).active = true) :
    s.Gives (.tiFilterChange i false s.now)
      [.freeIdx, .lanes, .tos, .gps, .arms, .sms, .beams, .pwms, .tis, .swc, .hif, .mlk, .recs, .obs, .outputs] fun t =>
        t.tis = s.tis.set i { s.tis.get i with active := false, stuck := false } ∧
        (∀ n, n < 64 → tiDriver i ∉ t.lanes.get n) ∧
        ∀ n e, e ≠ tiDriver i → (e ∈ t.lanes.get n ↔ e ∈ s.lanes.get n) := by
  have e : exec (.tiFilterChange i false s.now) s =
      .next ((s.updTi i fun x => { x with active := false, stuck := false }).releaseAll (tiDriver i)) := by
    show execTiFilterChange i false s.now s = _
    simp [execTiFilterChange, ha]
  refine (((State.updTi_effect ..).mono rfl).go (State.releaseAll_effect ..) rfl : Effect 0x4F3D8C00402 _ _).gives rfl e
    ⟨?_, fun n hn => ?_, fun n e he => ?_⟩
  · exact (State.releaseAll_effect ..).same .tis rfl
  · simp [State.mem_lanes_releaseAll, hn]
  · simp [State.mem_lanes_releaseAll, he]

theorem exec_tiStuck {s : State} {i : Fin 8} (ha : (s.tis.get i).active = true) (hs : (s.tis.get i).stuck = false) :
    exec (.tiStuck i) s = .next (((s.upTo ((s.tis.get i).activeSince + (s.pkg.tis.get i).stuckLim * 100000000 + 1)).updTi
      i fun x => { x with stuck := true }).event .tiStuck i) := by
  show execTiStuck i s = _
  rw [execTiStuck, if_pos ⟨ha, hs⟩]

theorem tiStuck_flags {s : State} {i : Fin 8} {due : Nat} (e : exec (.tiStuck i) s =
      .next (((s.upTo due).updTi i fun x => { x with stuck := true }).event .tiStuck i)) :
    s.Gives (.tiStuck i) [.now, .col, .tis, .recs] fun t =>
      t.now = max s.now due ∧ t.tis = s.tis.set i { s.tis.get i with stuck := true } ∧
      (Ev.tiStuck, i.val, t.now) ∈ t.recs.evr.events :=
  (Effect.of_ok (execTiStuck_effect i s) e).gives rfl e ⟨by simp, by simp [Tbl.upd], by simp⟩

theorem tiLow_follows {s : State} {i : Fin 8} (low : Bool) (hd : (s.pkg.tis.get i).darkActive = true) :
    s.Gives (.tiLow i low) [.tis, .recs] fun t =>
      t.tis = s.tis.set i { s.tis.get i with low := low } ∧
      (low = true → (s.tis.get i).low = false → (Ev.tiLow, i.val, s.now) ∈ t.recs.evr.events) ∧
      (low = false → t.recs = s.recs) := by
  have e : exec (.tiLow i low) s = .next (if low ∧ (s.tis.get i).low = false then
      (s.updTi i fun x => { x with low := true }).event .tiLow i else s.updTi i fun x => { x with low := low }) := by
    show execTiLow i low s = _
    rw [execTiLow, if_neg (by simp [hd])]
  refine (Effect.of_ok (execTiLow_effect i low s) e).gives rfl e ?_
  split
  · next h =>
    obtain ⟨rfl, hx⟩ := h
    exact ⟨rfl, fun _ _ => by simp, nofun⟩
  · next h => exact ⟨rfl, fun hl hx => absurd ⟨hl, hx⟩ h, fun _ => rfl⟩

/-- Settles O29, command by command. -/
theorem tripOutputsAndInputs : Obligations.TripOutputsAndInputs := by
  unfold Obligations.TripOutputsAndInputs
  refine ⟨fun m s => ⟨fun hc => ⟨toMinonExpiry_opens hc, toMinonExpiry_stays hc⟩, toOverload_flags, toNoload_judges⟩,
    fun i s => ⟨tiFilterChange_activates, tiFilterChange_releases, fun ha hs => tiStuck_flags (exec_tiStuck ha hs),
      tiLow_follows⟩⟩

end Sys2Proof.Machine
end

section
/-! SUPPORT. A facet that goes on at the next word (R82), and the checkpoint after a SEAL (R98, R99). -/

namespace Sys2Proof.Machine

/-! ## The next word (R82) -/

/-- The facet goes on at the next word. -/
def State.advance (s : State) (l f : Nat) : State := s.updFacet l f fun x => { x with pc := x.pc + 1 }

theorem State.facetSys_advances {s : State} {l f : Nat} (h : s.running l f = true) (g : State → State) :
    s.facetSys l f none g = g (s.advance l f) := by
  rw [State.facetSys, if_pos h]
  rfl

theorem State.advance_effect (s : State) (l f : Nat) : Effect 0x40 s (s.advance l f) :=
  s.updFacet_effect l f _ fun _ h => h

@[simp] theorem State.advance_progs (s : State) (l f : Nat) : (s.advance l f).progs = s.progs := rfl
@[simp] theorem State.advance_lenses (s : State) (l f : Nat) : (s.advance l f).lenses = s.lenses := rfl
@[simp] theorem State.advance_lanes (s : State) (l f : Nat) : (s.advance l f).lanes = s.lanes := rfl
@[simp] theorem State.advance_fCfg (s : State) (l f k h : Nat) : (s.advance l f).fCfg k h = s.fCfg k h := rfl

@[simp] theorem State.advance_facet (s : State) (l f : Nat) :
    (s.advance l f).facets.get (fKey l f) = { s.facets.get (fKey l f) with pc := (s.facets.get (fKey l f)).pc + 1 } :=
  Tbl.get_upd_same ..

@[simp] theorem State.advance_home (s : State) (l f : Nat) : (s.advance l f).home l f = s.home l f := by
  simp [State.home]

@[simp] theorem State.advance_inPhase (s : State) (l f : Nat) : (s.advance l f).inPhase l f = s.inPhase l f := by
  have cycle : facetCycle ((s.advance l f).facets.get (fKey l f)) = facetCycle (s.facets.get (fKey l f)) := by
    rw [State.advance_facet]
    rfl
  rw [State.inPhase, State.advance_home, State.advance_progs, cycle]
  rfl

@[simp] theorem State.advance_sealRec (s : State) (l f : Nat) : (s.advance l f).sealRec l f = s.sealRec l f := by
  simp [State.sealRec, facetCycle]

/-! ## The checkpoint (R99) -/

theorem SealBuf.record_of_valid {b : SealBuf} {r : SealRec} (h : b.valid = some r) : b.record = some r :=
  (Option.filter_eq_some_iff.1 h).1

theorem SealBuf.valid_good {r : SealRec} (h : sealGood r = true) :
    SealBuf.valid { record := some r, invalid := false } = some r := by simp [SealBuf.valid, h]

theorem SealBuf.valid_bad {r : SealRec} (h : sealGood r = false) :
    SealBuf.valid { record := some r, invalid := false } = none := by simp [SealBuf.valid, h]

theorem sealGood_sealClose (r : SealRec) : sealGood (sealClose r) = true := by simp [sealGood, sealClose, sealBytes]

theorem checkpoint_eq_none {q : ProgSt} (h : checkpoint q = none) : q.seal0.valid = none ∧ q.seal1.valid = none := by
  unfold checkpoint at h
  split at h
  · split at h <;> cases h
  · cases h
  · exact ⟨‹_›, h⟩

theorem valid_of_checkpoint {q : ProgSt} {r : SealRec} (h : checkpoint q = some r) :
    q.seal0.valid = some r ∨ q.seal1.valid = some r := by
  unfold checkpoint at h
  split at h
  · next h0 h1 =>
    split at h
    · exact .inr (h1.trans h)
    · exact .inl (h0.trans h)
  · next h0 _ => exact .inl (h0.trans h)
  · exact .inr h

/-- A seal record goes into the buffer that does not hold the checkpoint: the other one keeps it (R99). -/
theorem putSeal_cases (q : ProgSt) (r : SealRec) :
    (putSeal q r = { q with seal0 := { record := some r, invalid := false } } ∧ q.seal1.valid = checkpoint q) ∨
    (putSeal q r = { q with seal1 := { record := some r, invalid := false } } ∧ q.seal0.valid = checkpoint q) := by
  unfold putSeal
  dsimp only
  split
  · next hc =>
    obtain ⟨h0, h1⟩ := checkpoint_eq_none hc
    split
    · exact .inl ⟨rfl, h1.trans hc.symm⟩
    · exact .inr ⟨rfl, h0.trans hc.symm⟩
  · next hc =>
    obtain ⟨old, ho⟩ := Option.ne_none_iff_exists'.1 hc
    split
    · next h => exact .inl ⟨rfl, ho ▸ (valid_of_checkpoint ho).resolve_left (ho ▸ h)⟩
    · next h => exact .inr ⟨rfl, not_not.1 h⟩

/-- A good record of a later cycle, or where there was none, is the checkpoint; the old one stays in its buffer. -/
theorem checkpoint_putSeal_good {q : ProgSt} {r : SealRec} (g : sealGood r = true) :
    (∀ old, checkpoint q = some old → old.cycle < r.cycle → checkpoint (putSeal q r) = some r ∧
      ((putSeal q r).seal0.record = some old ∨ (putSeal q r).seal1.record = some old)) ∧
    (checkpoint q = none → checkpoint (putSeal q r) = some r) := by
  have good := SealBuf.valid_good g
  rcases putSeal_cases q r with ⟨e, h⟩ | ⟨e, h⟩ <;> rw [e]
  · refine ⟨fun old ho hlt => ⟨?_, .inr (SealBuf.record_of_valid (h.trans ho))⟩, fun hn => ?_⟩
    · simp [checkpoint, good, h.trans ho, Nat.not_lt.2 (Nat.le_of_lt hlt)]
    · simp [checkpoint, good, h.trans hn]
  · refine ⟨fun old ho hlt => ⟨?_, .inl (SealBuf.record_of_valid (h.trans ho))⟩, fun hn => ?_⟩
    · simp [checkpoint, good, h.trans ho, hlt]
    · simp [checkpoint, good, h.trans hn]

/-- A record without a good CRC leaves the checkpoint as it is (R105). -/
theorem checkpoint_putSeal_bad {q : ProgSt} {r : SealRec} (b : sealGood r = false) :
    checkpoint (putSeal q r) = checkpoint q := by
  have bad := SealBuf.valid_bad b
  rcases putSeal_cases q r with ⟨e, h⟩ | ⟨e, h⟩ <;> rw [e, ← h]
  · simp only [checkpoint, bad]
  · cases hc : q.seal0.valid <;> simp [checkpoint, bad, hc]

end Sys2Proof.Machine
end

section
/-! PROOF. SEAL, OUTW and LANE (O17). -/

namespace Sys2Proof.Machine

/-! ## SEAL (R23, R98, R99) -/

theorem exec_seal {s : State} {l : Fin 16} {f : Fin 64} (h : s.running l f = true) :
    exec (.seal_ l f 0) s = .next ((s.advance l f).sealNow l f) :=
  congrArg Host.Outcome.next (State.facetSys_advances h fun s => s.sealNow l f)

theorem exec_outw {s : State} {l : Fin 16} {f : Fin 64} (h : s.running l f = true) :
    exec (.outw l f 0) s = .next ((s.advance l f).outwNow l f) :=
  congrArg Host.Outcome.next (State.facetSys_advances h fun s => s.outwNow l f)

/-- What a SEAL in the computing phase writes. -/
theorem seal_inPhase {s : State} {l : Fin 16} {f : Fin 64} (h : s.running l f = true) (hp : s.inPhase l f = true) :
    s.Gives (.seal_ l f 0) [.facets, .progs] fun t =>
      t.facets = s.facets.set (fKey l f) { s.facets.get (fKey l f) with
        pc := (s.facets.get (fKey l f)).pc + 1,
        dmem := memPutNat (s.facets.get (fKey l f)).dmem (aStatus + 0x14) 4 ((s.sealRec l f).cycle % 2 ^ 32) } ∧
      t.progs.get (fKey l (s.home l f)) =
        { putSeal (s.progs.get (fKey l (s.home l f))) (sealClose (s.sealRec l f)) with sealed := true } := by
  have sealed : (s.advance l f).sealNow l f = ((s.advance l f).updProg l (s.home l f) fun p =>
      { putSeal p (sealClose (s.sealRec l f)) with sealed := true }).updFacet l f fun x =>
        { x with dmem := memPutNat x.dmem (aStatus + 0x14) 4 ((s.sealRec l f).cycle % 2 ^ 32) } := by
    rw [State.sealNow, State.advance_inPhase, if_pos hp, State.advance_home, State.advance_sealRec]
    rfl
  have frame : Effect 0xC0 s ((s.advance l f).sealNow l f) := by
    rw [sealed]
    exact (((s.advance_effect l f).mono rfl).go (State.updProg_effect ..) rfl).go
      (State.updFacet_effect _ _ _ _ fun _ h => memPutNat_wf h _ _ _) rfl
  refine frame.gives rfl (exec_seal h) ⟨?_, ?_⟩ <;> rw [sealed]
  · simp [State.advance, Tbl.upd]
  · simp

theorem seal_outOfPhase {s : State} {l : Fin 16} {f : Fin 64} (h : s.running l f = true) (hp : s.inPhase l f = false) :
    s.Gives (.seal_ l f 0) [.facets, .lenses] fun t =>
      (t.lenses.get l).fltWriter = min ((s.lenses.get l).fltWriter + 1) 0xFFFFFFFF := by
  have counted : (s.advance l f).sealNow l f =
      (s.advance l f).updLens l fun y => { y with fltWriter := sat32 y.fltWriter 1 } := by
    rw [State.sealNow, State.advance_inPhase, if_neg (by simp [hp])]
  refine (((s.advance_effect l f).mono rfl).go (State.updLens_effect ..) rfl : Effect 0x140 _ _).gives rfl
    ((exec_seal h).trans (congrArg _ counted)) ?_
  simp [sat32]

/-- The record and the buffers, from what is written. -/
theorem seal_writes_checkpoint {s : State} {l : Fin 16} {f : Fin 64} (h : s.running l f = true)
    (hp : s.inPhase l f = true) :
    let q := s.progs.get (fKey l (s.home l f))
    let x := s.facets.get (fKey l f)
    let r := sealClose (s.sealRec l f)
    s.Gives (.seal_ l f 0) [.facets, .progs] fun t =>
      let y := t.progs.get (fKey l (s.home l f))
      t.facets = s.facets.set (fKey l f)
        { x with pc := x.pc + 1, dmem := memPutNat x.dmem (aStatus + 0x14) 4 (r.cycle % 2 ^ 32) } ∧
      y = { q with seal0 := y.seal0, seal1 := y.seal1, sealed := true } ∧
      ((y.seal0 = { record := some r, invalid := false } ∧ y.seal1 = q.seal1) ∨
        (y.seal1 = { record := some r, invalid := false } ∧ y.seal0 = q.seal0)) ∧
      (∀ old, checkpoint q = some old → old.cycle < r.cycle →
        checkpoint y = some r ∧ (y.seal0.record = some old ∨ y.seal1.record = some old)) ∧
      (checkpoint q = none → checkpoint y = some r) := by
  intro q x r
  obtain ⟨t, e, frame, facets, prog⟩ := seal_inPhase h hp
  obtain ⟨later, first⟩ := checkpoint_putSeal_good (q := q) (sealGood_sealClose (s.sealRec l f))
  refine ⟨t, e, frame, facets, ?_⟩
  rw [prog]
  refine ⟨?_, ?_, later, first⟩
  · rcases putSeal_cases q r with ⟨e, -⟩ | ⟨e, -⟩ <;> rw [e]
  · rcases putSeal_cases q r with ⟨e, -⟩ | ⟨e, -⟩ <;> rw [e]
    · exact .inl ⟨rfl, rfl⟩
    · exact .inr ⟨rfl, rfl⟩

/-! ## OUTW (R80) -/

/-- What hardware takes from an output window is no part of it. -/
theorem State.outwInTime_progs (s : State) (l f : Nat) :
    let q := s.progs.get (fKey l (s.home l f))
    let w := outputBytes (s.fCfg l (s.home l f)) (s.facets.get (fKey l f))
    (s.outwInTime l f).progs = s.progs.set (fKey l (s.home l f)) (if q.cycle % 2 = 0
      then { q with outWin0 := some (q.cycle, w), outDone := true }
      else { q with outWin1 := some (q.cycle, w), outDone := true }) := by
  intro q w
  let u := s.updProg l (s.home l f) fun p =>
    if q.cycle % 2 = 0 then { p with outWin0 := some (q.cycle, w), outDone := true }
    else { p with outWin1 := some (q.cycle, w), outDone := true }
  have taken : Effect 0x88000000 u (s.outwInTime l f) :=
    Effect.each (Effect.each (Effect.refl ..) fun _ _ h => h.go (State.updArm_effect ..) rfl)
      fun _ _ h => h.go (State.updPwm_effect ..) rfl
  exact taken.same .progs rfl

theorem outw_inPhase {s : State} {l : Fin 16} {f : Fin 64} (h : s.running l f = true) (hp : s.inPhase l f = true) :
    let q := s.progs.get (fKey l (s.home l f))
    let w := outputBytes (s.fCfg l (s.home l f)) (s.facets.get (fKey l f))
    s.Gives (.outw l f 0) [.facets, .progs, .arms, .pwms] fun t =>
      t.progs = s.progs.set (fKey l (s.home l f)) (if q.cycle % 2 = 0
        then { q with outWin0 := some (q.cycle, w), outDone := true }
        else { q with outWin1 := some (q.cycle, w), outDone := true }) := by
  intro q w
  have inTime : (s.advance l f).outwNow l f = (s.advance l f).outwInTime l f := by
    rw [State.outwNow, State.advance_inPhase, if_pos hp]
  refine (((s.advance_effect l f).mono rfl).go (State.outwInTime_effect ..) rfl : Effect 0x880000C0 _ _).gives rfl
    ((exec_outw h).trans (congrArg _ inTime)) ?_
  simp [State.outwInTime_progs, outputBytes, q, w]

theorem outw_outOfPhase {s : State} {l : Fin 16} {f : Fin 64} (h : s.running l f = true) (hp : s.inPhase l f = false) :
    s.Gives (.outw l f 0) [.facets, .lenses] fun t =>
      (t.lenses.get l).lateOut = min ((s.lenses.get l).lateOut + 1) 0xFFFFFFFF := by
  have counted : (s.advance l f).outwNow l f =
      (s.advance l f).updLens l fun y => { y with lateOut := sat32 y.lateOut 1 } := by
    rw [State.outwNow, State.advance_inPhase, if_neg (by simp [hp])]
  refine (((s.advance_effect l f).mono rfl).go (State.updLens_effect ..) rfl : Effect 0x140 _ _).gives rfl
    ((exec_outw h).trans (congrArg _ counted)) ?_
  simp [sat32]

/-! ## LANE (R16, R95) -/

/-- The program of facet `f` may drive the lane that a LANE instruction names. -/
def State.drivesLane (s : State) (l f : Nat) (w : BitVec 26) : Prop :=
  let c := s.fCfg l (s.home l f)
  (c.role = .protection ∨ c.role = .loop) ∧ fld w 5 0 ∈ c.lanes

theorem exec_lane_driver {s : State} {l : Fin 16} {f : Fin 64} {w : BitVec 26} (h : s.running l f = true)
    (hw : fld w 25 7 = 0) (hd : s.drivesLane l f w) :
    exec (.lane l f w) s = .next (if fld w 6 6 = 1 then (s.advance l f).drive (fKey l (s.home l f)) [fld w 5 0] []
      else (s.advance l f).drive (fKey l (s.home l f)) [] [fld w 5 0]) := by
  show execLane l f w s = _
  rw [execLane, if_neg (by simp [hw]), State.facetSys_advances h]
  simp only [State.advance_home, State.advance_fCfg, List.contains_iff_mem]
  exact congrArg _ (if_pos hd)

theorem exec_lane_other {s : State} {l : Fin 16} {f : Fin 64} {w : BitVec 26} (h : s.running l f = true)
    (hw : fld w 25 7 = 0) (hd : ¬ s.drivesLane l f w) :
    exec (.lane l f w) s = .next ((s.advance l f).updLens l fun y => { y with fltLane := sat32 y.fltLane 1 }) := by
  show execLane l f w s = _
  rw [execLane, if_neg (by simp [hw]), State.facetSys_advances h]
  simp only [State.advance_home, State.advance_fCfg, List.contains_iff_mem]
  exact congrArg _ (if_neg hd)

theorem lane_asserts {s : State} {l : Fin 16} {f : Fin 64} {w : BitVec 26} (h : s.running l f = true)
    (hw : fld w 25 7 = 0) (hd : s.drivesLane l f w) (on : fld w 6 6 = 1) :
    let n := fld w 5 0
    let d := fKey l (s.home l f)
    ∃ t, exec (.lane l f w) s = .next t ∧ t.laneOn n = true ∧ d ∈ t.lanes.get n ∧
      (∀ e, e ≠ d → (e ∈ t.lanes.get n ↔ e ∈ s.lanes.get n)) ∧ (∀ j, j ≠ n → t.lanes.get j = s.lanes.get j) := by
  intro n d
  have mine : d ∈ ((s.advance l f).drive d [n] []).lanes.get n := by simp [State.mem_lanes_drive]
  refine ⟨_, (exec_lane_driver h hw hd).trans (congrArg _ (if_pos on)), State.laneOn_of_mem mine, mine, fun e he => ?_,
    fun j hj => ?_⟩
  · simp [State.mem_lanes_drive, show e ≠ fKey l (s.home l f) from he]
  · exact State.drive_lanes_other _ _ (by simpa using hj) (by simp)

theorem lane_releases {s : State} {l : Fin 16} {f : Fin 64} {w : BitVec 26} (h : s.running l f = true)
    (hw : fld w 25 7 = 0) (hd : s.drivesLane l f w) (off : fld w 6 6 = 0) :
    let n := fld w 5 0
    let d := fKey l (s.home l f)
    ∃ t, exec (.lane l f w) s = .next t ∧ d ∉ t.lanes.get n ∧
      (∀ e, e ≠ d → (e ∈ t.lanes.get n ↔ e ∈ s.lanes.get n)) ∧ (∀ j, j ≠ n → t.lanes.get j = s.lanes.get j) := by
  intro n d
  refine ⟨_, (exec_lane_driver h hw hd).trans (congrArg _ (if_neg (by simp [off]))), by simp [State.mem_lanes_drive, n, d],
    fun e he => ?_, fun j hj => ?_⟩
  · simp [State.mem_lanes_drive, show e ≠ fKey l (s.home l f) from he]
  · exact State.drive_lanes_other _ _ (by simp) (by simpa using hj)

theorem lane_ignored {s : State} {l : Fin 16} {f : Fin 64} {w : BitVec 26} (h : s.running l f = true)
    (hw : fld w 25 7 = 0) (hd : ¬ s.drivesLane l f w) :
    s.Gives (.lane l f w) [.facets, .lenses] fun t =>
      t.facets = s.facets.upd (fKey l f) (fun x => { x with pc := x.pc + 1 }) ∧
      t.lenses = s.lenses.upd l fun y => { y with fltLane := min (y.fltLane + 1) 0xFFFFFFFF } :=
  (((s.advance_effect l f).mono rfl).go (State.updLens_effect ..) rfl : Effect 0x140 _ _).gives rfl
    (exec_lane_other h hw hd) ⟨rfl, rfl⟩

/-- Settles O17, instruction by instruction. -/
theorem outputWindowsAndLaneDrives : Obligations.OutputWindowsAndLaneDrives := by
  unfold Obligations.OutputWindowsAndLaneDrives
  exact ⟨fun l f s h => ⟨seal_writes_checkpoint h, seal_outOfPhase h, outw_inPhase h, outw_outOfPhase h⟩,
    fun l f w s h hw => ⟨lane_asserts h hw, lane_releases h hw, lane_ignored h hw⟩⟩

end Sys2Proof.Machine
end

section
/-! SUPPORT. Wakes of a facet (R78 to R81): what a wake writes in its facet and its program, and which facets an event
or the end of a lens wake reaches. -/

namespace Sys2Proof.Machine

theorem fKey_inj {l f g : Nat} : fKey l f = fKey l g ↔ f = g := by unfold fKey; omega

/-! ## Records consumed (R79, log 60) -/

theorem State.consume_facet (s : State) (l f : Nat) :
    (s.consume l f).facets.get (fKey l f) = { s.facets.get (fKey l f) with loaded := 0 } := by
  unfold State.consume
  dsimp only
  split
  · next h => rw [← h]
  · simp

theorem State.consume_set (s : State) (l f : Nat) (y : FacetSt) :
    (s.consume l f).facets.set (fKey l f) y = s.facets.set (fKey l f) y := by
  unfold State.consume
  dsimp only
  split
  · rfl
  · simp [Tbl.upd]

theorem State.consume_home (s : State) (l f : Nat) : (s.consume l f).home l f = s.home l f := by
  simp [State.home, State.consume_facet]

theorem State.consume_progs (s : State) (l f : Nat) (j : Nat) :
    (s.consume l f).progs.get j = { s.progs.get j with
      stream := if j = fKey l (s.home l f) then (s.progs.get j).stream.drop (s.facets.get (fKey l f)).loaded
        else (s.progs.get j).stream } := by
  unfold State.consume
  dsimp only
  split
  · next h => rw [h]; simp
  · rw [State.updFacet_progs, State.updProg_progs, Tbl.get_upd]
    split
    · next h => subst h; simp
    · next h => rw [if_neg (Ne.symm h)]

/-! ## The facet that wakes (R78, R81) -/

/-- Facet `x` has woken as `y` by an event of cause `c`. -/
structure FacetSt.WokenBy (c : WakeCause) (x y : FacetSt) : Prop where
  run : y.run = .active
  pc : x.gate = .ended → y.pc = causeEntry c
  firstCycle : y.firstCycle = (x.firstCycle && !(c = .tick && x.ticked))
  restored : y.restored = (x.restored && !(c = .tick && x.ticked))
  role : y.role = x.role
  hostOf : y.hostOf = x.hostOf
  imem : y.imem = x.imem

theorem State.wakeNow_facets (s : State) (l f : Nat) (c : WakeCause) (tai : Nat) :
    ∃ y, (s.wakeNow l f c tai).facets = s.facets.set (fKey l f) y ∧ (s.facets.get (fKey l f)).WokenBy c y := by
  have last (b : Prop) [Decidable b] (u : State) (h : Nat) (g : ProgSt → ProgSt) :
      (if b then u.updProg l h g else u).facets = u.facets := by split <;> rfl
  unfold State.wakeNow
  dsimp only
  rw [last, State.updFacet_facets, Tbl.upd]
  cases c with
  | tick => exact ⟨_, rfl, ⟨rfl, fun h => if_pos (decide_eq_true h), rfl, rfl, rfl, rfl, rfl⟩⟩
  | message => exact ⟨_, rfl, ⟨rfl, fun h => if_pos (decide_eq_true h), rfl, rfl, rfl, rfl, rfl⟩⟩
  | stream =>
    rw [if_pos rfl, State.consume_set, State.consume_facet]
    exact ⟨_, rfl, ⟨rfl, fun h => if_pos (decide_eq_true h), rfl, rfl, rfl, rfl, rfl⟩⟩

/-- What a wake leaves of the programs: only a stream event consumes records. -/
theorem State.wakeNow_prog (s : State) (l f : Nat) (c : WakeCause) (tai j : Nat) :
    ((s.wakeNow l f c tai).progs.get j).writeIndex = (s.progs.get j).writeIndex ∧
    ((s.wakeNow l f c tai).progs.get j).rxq = (s.progs.get j).rxq ∧
    ((s.wakeNow l f c tai).progs.get j).stream = if c = .stream ∧ j = fKey l (s.home l f)
      then (s.progs.get j).stream.drop (s.facets.get (fKey l f)).loaded else (s.progs.get j).stream := by
  have last {β : Type} (π : ProgSt → β) (hπ : ∀ p : ProgSt, π { p with computing := true, outDone := false } = π p)
      (b : Prop) [Decidable b] (u : State) (h : Nat) :
      π ((if b then u.updProg l h fun p => { p with computing := true, outDone := false } else u).progs.get j) =
        π (u.progs.get j) := by
    split
    · rw [State.updProg_progs, Tbl.get_upd]
      split
      · next h => rw [← h]; exact hπ _
      · rfl
    · rfl
  unfold State.wakeNow
  dsimp only
  rw [last ProgSt.writeIndex fun _ => rfl, last ProgSt.rxq fun _ => rfl, last ProgSt.stream fun _ => rfl,
    State.updFacet_progs]
  by_cases hc : c = .stream
  · rw [if_pos hc, State.consume_progs]
    exact ⟨rfl, rfl, by simp [hc]⟩
  · rw [if_neg hc, if_neg (by simp [hc])]
    exact ⟨rfl, rfl, rfl⟩

/-! ## A lens that starts to wake (R34) -/

theorem State.wakeLens_lens (s : State) (l j : Nat) :
    ∃ w, (s.wakeLens l).lenses.get j = { s.lenses.get j with waking := w } := by
  rw [State.wakeLens, State.updLens_lenses, Tbl.get_upd]
  split
  · next h =>
    subst h
    split
    · exact ⟨_, rfl⟩
    · exact ⟨(s.lenses.get l).waking, rfl⟩
  · exact ⟨(s.lenses.get j).waking, rfl⟩

/-! ## An event reaches a program (R81, R105) -/

/-- An event for the program of home facet `h` wakes the facet that holds it at once. -/
def State.wakesAtOnce (s : State) (l h : Nat) (c : WakeCause) : Prop :=
  let x := s.facets.get (fKey l (s.host l h))
  x.run = .gated ∧ (s.lenses.get l).pstate = .run ∧ gateAdmits x c = true

theorem State.raise_wakes {s : State} {l h : Nat} {c : WakeCause} (w : s.wakesAtOnce l h c) :
    s.raise l h c = s.wakeNow l (s.host l h) c s.tai := by
  obtain ⟨gated, inRun, admits⟩ := w
  simp only [State.raise, gated, inRun, admits, and_self, if_true]

/-- An event that does not wake the facet at once is queued or lost; nothing of a program changes, and of the facet only
what is queued. -/
theorem State.raise_queues {s : State} {l h : Nat} {c : WakeCause} (w : ¬ s.wakesAtOnce l h c) :
    (s.raise l h c).progs = s.progs ∧ ((s.raise l h c).facets = s.facets ∨
      (s.raise l h c).facets = s.facets.upd (fKey l (s.host l h)) fun x => queueEvent x c s.tai) := by
  unfold State.raise
  dsimp only
  split
  · next gated =>
    rw [if_neg fun ⟨inRun, admits⟩ => w ⟨gated, inRun, admits⟩]
    exact ⟨rfl, .inr rfl⟩
  · exact ⟨rfl, .inr rfl⟩
  · split
    · exact ⟨rfl, .inl rfl⟩
    · exact ⟨rfl, .inr rfl⟩
  · exact ⟨rfl, .inl rfl⟩

theorem State.raise_active {s : State} {l h : Nat} {c : WakeCause}
    (active : (s.facets.get (fKey l (s.host l h))).run = .active) :
    s.raise l h c = s.updFacet l (s.host l h) fun x => queueEvent x c s.tai := by
  simp only [State.raise, active]

/-- Of a lens an event changes at most that it starts to wake. -/
theorem State.raise_lens (s : State) (l h : Nat) (c : WakeCause) (j : Nat) :
    ∃ w, (s.raise l h c).lenses.get j = { s.lenses.get j with waking := w } := by
  unfold State.raise
  dsimp only
  split
  · split
    · rw [(State.wakeNow_effect ..).same .lenses rfl]
      exact ⟨_, rfl⟩
    · exact State.wakeLens_lens ..
  · exact ⟨_, rfl⟩
  · split
    · exact ⟨_, rfl⟩
    · exact State.wakeLens_lens ..
  · exact ⟨_, rfl⟩

/-- A queued event takes effect, or there is none that the gate admits, or the facet cannot take it (R81). -/
theorem State.takeQueued_cases (s : State) (l f : Nat) :
    s.takeQueued l f = s ∨ ∃ c tai, isQueued (s.facets.get (fKey l f)) c = true ∧
      (s.facets.get (fKey l f)).run = .gated ∧ s.takeQueued l f = s.wakeNow l f c tai := by
  unfold State.takeQueued
  dsimp only
  split
  · next c hc =>
    split
    · next h =>
      have queued := List.find?_some hc
      simp only [Bool.and_eq_true] at queued
      exact .inr ⟨c, _, queued.1, h.1, rfl⟩
    · exact .inl rfl
  · exact .inl rfl

/-- A facet other than `f` takes nothing when `f` does. -/
theorem State.takeQueued_other (s : State) {l f j : Nat} (h : j ≠ fKey l f) :
    (s.takeQueued l f).facets.get j = s.facets.get j := by
  rcases s.takeQueued_cases l f with e | ⟨c, tai, -, -, e⟩ <;> rw [e]
  obtain ⟨y, hy, -⟩ := s.wakeNow_facets l f c tai
  rw [hy, Tbl.get_set_other _ _ (Ne.symm h)]

end Sys2Proof.Machine
end

section
/-! PROOF. Lens wakes, stream records and messages (O21). -/

namespace Sys2Proof.Machine

/-! ## Wakes of a lens (R33, R34) -/

theorem State.nextTick_upTo (s : State) (t l : Nat) : (s.upTo t).nextTick l = s.nextTick l := by
  simp [State.nextTick]

theorem lensPretickWake_starts {s : State} {l : Fin 16} {t0 : Nat} (ht : s.nextTick l = some t0)
    (hp : (s.lenses.get l).pstate = .idle ∨ (s.lenses.get l).pstate = .retain) (hw : (s.lenses.get l).waking = none) :
    s.Gives (.lensPretickWake l) [.now, .col, .lenses] fun t =>
      t.now = max s.now (t0 - if (s.lenses.get l).pstate = .retain then 40000 else 200) ∧
      t.lenses = s.lenses.set l { s.lenses.get l with waking := some t.now } := by
  have e : exec (.lensPretickWake l) s = .next ((s.upTo (t0 - wakeTime (s.lenses.get l).pstate)).wakeLens l) := by
    show execLensPretickWake l s = _
    simp only [execLensPretickWake, ht]
    rw [if_pos ⟨hp, hw⟩]
  refine (Effect.of_ok (execLensPretickWake_effect l s) e).gives rfl e ⟨State.upTo_now .., ?_⟩
  simp [State.wakeLens, hp, hw, Tbl.upd]

theorem lensWakeTimeout_fails {s : State} {l : Fin 16} {t0 : Nat} (hw : (s.lenses.get l).waking = some t0) :
    s.Gives (.lensWakeTimeout l) [.now, .col, .lenses, .recs] fun t =>
      t.now = max s.now (t0 + if (s.lenses.get l).pstate = .retain then 40000 else 200) ∧
      t.lenses = s.lenses.set l { s.lenses.get l with failure := some ((s.lenses.get l).failure.getD .wakeTime) } ∧
      (Ev.lensFailure, l.val + 256 * 5, t.now) ∈ t.recs.evr.events := by
  have e : exec (.lensWakeTimeout l) s =
      .next ((s.upTo (t0 + wakeTime (s.lenses.get l).pstate)).lensFail l .wakeTime) := by
    show execLensWakeTimeout l s = _
    simp only [execLensWakeTimeout, hw]
  refine (Effect.of_ok (execLensWakeTimeout_effect l s) e).gives rfl e ⟨State.upTo_now .., ?_, ?_⟩
  · simp [State.lensFail, Tbl.upd]
  · simp [State.lensFail, lensCase]

/-- An event is queued for the facet (R81). -/
def FacetSt.hasEvent (x : FacetSt) : Bool := x.qTick || x.qStream || x.qMessage

theorem FacetSt.hasEvent_iff (x : FacetSt) : x.hasEvent = true ↔ ∃ c, isQueued x c = true := by
  rw [FacetSt.hasEvent, Bool.or_eq_true, Bool.or_eq_true]
  constructor
  · rintro ((h | h) | h)
    · exact ⟨.tick, h⟩
    · exact ⟨.stream, h⟩
    · exact ⟨.message, h⟩
  · rintro ⟨c, h⟩
    cases c
    · exact .inl (.inl h)
    · exact .inl (.inr h)
    · exact .inr h

theorem State.takeQueued_idle {s : State} {l f : Nat} (h : (s.facets.get (fKey l f)).hasEvent = false) :
    s.takeQueued l f = s := by
  rcases s.takeQueued_cases l f with e | ⟨c, tai, queued, -, -⟩
  · exact e
  · rw [(FacetSt.hasEvent_iff _).2 ⟨c, queued⟩] at h
    cases h

/-- A facet that waits after END in a lens in RUN wakes for an event that has come. -/
theorem State.takeQueued_wakes {s : State} {l f : Nat} (inRun : (s.lenses.get l).pstate = .run)
    (gated : (s.facets.get (fKey l f)).run = .gated) (ended : (s.facets.get (fKey l f)).gate = .ended)
    (h : (s.facets.get (fKey l f)).hasEvent = true) : ∃ c tai, s.takeQueued l f = s.wakeNow l f c tai := by
  obtain ⟨c, queued⟩ := (FacetSt.hasEvent_iff _).1 h
  unfold State.takeQueued
  dsimp only
  split
  · exact ⟨_, _, if_pos ⟨gated, inRun⟩⟩
  · next none_ =>
    have : (isQueued (s.facets.get (fKey l f)) c && gateAdmits (s.facets.get (fKey l f)) c) = true := by
      simp [queued, gateAdmits, ended]
    exact absurd this (List.find?_eq_none.1 none_ c (by cases c <;> decide))

/-- RUN of a facet that waits after END, once it has taken what has come for it. -/
theorem State.takeQueued_run {s : State} {l f : Nat} (inRun : (s.lenses.get l).pstate = .run)
    (gated : (s.facets.get (fKey l f)).run = .gated) (ended : (s.facets.get (fKey l f)).gate = .ended)
    (h : (s.facets.get (fKey l f)).hasEvent = true) : ((s.takeQueued l f).facets.get (fKey l f)).run = .active := by
  obtain ⟨c, tai, e⟩ := State.takeQueued_wakes inRun gated ended h
  obtain ⟨y, hy, w⟩ := s.wakeNow_facets l f c tai
  rw [e, hy, Tbl.get_set_same, w.run]

/-- A facet that executes takes nothing. -/
theorem State.takeQueued_active {s : State} {l f : Nat} (h : (s.facets.get (fKey l f)).run = .active) :
    s.takeQueued l f = s := by
  rcases s.takeQueued_cases l f with e | ⟨c, tai, -, gated, -⟩
  · exact e
  · rw [h] at gated; cases gated

theorem State.lensRest_facets (s : State) (l : Nat) : (s.lensRest l).facets = s.facets :=
  (s.lensRest_effect l).same .facets rfl

/-- Every facet of a lens in RUN takes what has come for it. On the way a facet has not had its turn, or it executes for an
event that had come. -/
theorem State.takeAll_run {s : State} {l : Nat} {f : Fin 64} (inRun : (s.lenses.get l).pstate = .run)
    (gated : (s.facets.get (fKey l f)).run = .gated) (ended : (s.facets.get (fKey l f)).gate = .ended) :
    ((s.each (List.range 64) fun s f => s.takeQueued l f).facets.get (fKey l f)).run =
      if (s.facets.get (fKey l f)).hasEvent then .active else .gated := by
  let x := s.facets.get (fKey l f)
  let taken (t : State) : Prop := t.lenses = s.lenses ∧
    (t.facets.get (fKey l f) = x ∨ (t.facets.get (fKey l f)).run = .active ∧ x.hasEvent = true)
  have own (t : State) (ht : taken t) : taken (t.takeQueued l f) ∧
      ((t.takeQueued l f).facets.get (fKey l f)).run = if x.hasEvent then .active else .gated := by
    obtain ⟨lenses, same | ⟨active, event⟩⟩ := ht
    · cases event : x.hasEvent with
      | true =>
        have run := State.takeQueued_run (s := t) (l := l) (f := f) (by rw [lenses]; exact inRun)
          (by rw [same]; exact gated) (by rw [same]; exact ended) (by rw [same]; exact event)
        exact ⟨⟨((State.takeQueued_effect ..).same .lenses rfl).trans lenses, .inr ⟨run, event⟩⟩, run⟩
      | false =>
        rw [State.takeQueued_idle (by rw [same]; exact event), same]
        exact ⟨⟨lenses, .inl same⟩, gated⟩
    · rw [State.takeQueued_active active, if_pos event]
      exact ⟨⟨lenses, .inr ⟨active, event⟩⟩, active⟩
  have other (t : State) (g : Nat) (h : g ≠ f) :
      (t.takeQueued l g).facets.get (fKey l f) = t.facets.get (fKey l f) :=
    t.takeQueued_other (by rw [Ne, fKey_inj]; exact Ne.symm h)
  refine State.each_once (x := f.val) (fun t => (t.facets.get (fKey l f)).run) taken (List.mem_range.2 f.isLt)
    List.nodup_range ⟨rfl, .inl rfl⟩ (fun t g ht => ?_) (fun t g _ hg => congrArg _ (other t g hg))
    fun t ht _ => (own t ht).2
  by_cases hg : g = f
  · subst hg; exact (own t ht).1
  · refine ⟨((State.takeQueued_effect ..).same .lenses rfl).trans ht.1, ?_⟩
    rw [other t g hg]
    exact ht.2

theorem lensWakeDone_takes {s : State} {l : Fin 16} {t0 : Nat} (hw : (s.lenses.get l).waking = some t0) :
    s.Gives (.lensWakeDone l) [.facets, .progs, .lenses] fun t =>
      (∃ u : State, t = u.lensRest l ∧
        u.lenses = s.lenses.set l { s.lenses.get l with pstate := .run, waking := none } ∧ t.facets = u.facets) ∧
      ∀ f : Fin 64, (s.facets.get (fKey l f)).run = .gated → (s.facets.get (fKey l f)).gate = .ended →
        (t.facets.get (fKey l f)).run = (if (s.facets.get (fKey l f)).qTick || (s.facets.get (fKey l f)).qStream ||
          (s.facets.get (fKey l f)).qMessage then .active else .gated) := by
  let u := s.updLens l fun x => { x with pstate := .run, waking := none }
  let v := u.each (List.range 64) fun s f => s.takeQueued l f
  have e : exec (.lensWakeDone l) s = .next (v.lensRest l) := by
    show execLensWakeDone l s = _
    rw [execLensWakeDone, if_neg (by simp [hw])]
  have lenses : v.lenses = u.lenses :=
    (Effect.each (Effect.refl 0xC0 u) fun t f h => h.go (t.takeQueued_effect l f) rfl).same .lenses rfl
  refine (Effect.of_ok (execLensWakeDone_effect l s) e).gives rfl e
    ⟨⟨v, rfl, lenses, v.lensRest_facets l⟩, fun f gated ended => ?_⟩
  rw [State.lensRest_facets]
  exact State.takeAll_run (s := u) (by simp [u]) gated ended

/-! ## Arrivals (R79, R81, R97) -/

/-- An event raises its cause in the facet that holds the program: one that executes finds it queued, one that waits
after END in a lens in RUN starts at the entry of the cause. -/
theorem State.raise_reaches (s : State) (l h : Nat) (c : WakeCause) :
    let k := fKey l (s.host l h)
    ((s.facets.get k).run = .active → isQueued ((s.raise l h c).facets.get k) c = true) ∧
    ((s.facets.get k).run = .gated → (s.facets.get k).gate = .ended → (s.lenses.get l).pstate = .run →
      ((s.raise l h c).facets.get k).run = .active ∧ ((s.raise l h c).facets.get k).pc = causeEntry c) := by
  intro k
  refine ⟨fun active => ?_, fun gated ended inRun => ?_⟩
  · rw [State.raise_active active, State.updFacet_facets, Tbl.get_upd_same]
    cases c <;> rfl
  · rw [State.raise_wakes ⟨gated, inRun, by simp only [gateAdmits]; rw [ended]⟩]
    obtain ⟨y, hy, w⟩ := s.wakeNow_facets l (s.host l h) c s.tai
    rw [hy, Tbl.get_set_same]
    exact ⟨w.run, w.pc ended⟩

/-- What an event leaves of the program it reaches. -/
theorem State.raise_prog (s : State) (l h : Nat) (c : WakeCause) (j : Nat) :
    ((s.raise l h c).progs.get j).writeIndex = (s.progs.get j).writeIndex ∧
    ((s.raise l h c).progs.get j).rxq = (s.progs.get j).rxq := by
  by_cases w : s.wakesAtOnce l h c
  · obtain ⟨index, queues, -⟩ := s.wakeNow_prog l (s.host l h) c s.tai j
    rw [State.raise_wakes w]
    exact ⟨index, queues⟩
  · rw [(State.raise_queues w).1]
    exact ⟨rfl, rfl⟩

/-- A stream event that wakes the facet at once consumes the records it had loaded (log 60). -/
theorem State.raise_stream {s : State} {l h : Nat} (home : s.home l (s.host l h) = h) :
    ((s.raise l h .stream).progs.get (fKey l h)).stream = (s.progs.get (fKey l h)).stream.drop
      (let x := s.facets.get (fKey l (s.host l h))
       if x.run = .gated ∧ (s.lenses.get l).pstate = .run ∧ gateAdmits x .stream = true then x.loaded else 0) := by
  by_cases w : s.wakesAtOnce l h .stream
  · obtain ⟨-, -, stream⟩ := s.wakeNow_prog l (s.host l h) .stream s.tai (fKey l h)
    rw [State.raise_wakes w, stream, if_pos ⟨rfl, by rw [home]⟩]
    exact congrArg (List.drop · _) (if_pos w).symm
  · rw [(State.raise_queues w).1]
    exact (List.drop_zero ..).symm.trans (congrArg (List.drop · _) (if_neg w).symm)

theorem streamRecordArrival_joins {s : State} {l : Fin 16} {f : Fin 64} (bytes : List Byte)
    (role : (s.fCfg l f).role = .protection ∨ (s.fCfg l f).role = .focusAssist)
    (notOff : (s.lenses.get l).pstate ≠ .off) (home : s.home l (s.host l f) = f) :
    let y := s.facets.get (fKey l (s.host l f))
    s.Gives (.streamRecordArrival l f bytes) [.facets, .progs, .lenses] fun t =>
      (t.progs.get (fKey l f)).stream = ((s.progs.get (fKey l f)).stream ++ [bytes]).drop
        (if y.run = .gated ∧ (s.lenses.get l).pstate = .run ∧ gateAdmits y .stream = true then y.loaded else 0) ∧
      (t.progs.get (fKey l f)).writeIndex = (s.progs.get (fKey l f)).writeIndex + 1 ∧
      (y.run = .active → (t.facets.get (fKey l (s.host l f))).qStream = true) ∧
      (y.run = .gated → y.gate = .ended → (s.lenses.get l).pstate = .run →
        (t.facets.get (fKey l (s.host l f))).run = .active ∧ (t.facets.get (fKey l (s.host l f))).pc = 1) := by
  let u := s.updProg l f fun q => { q with stream := q.stream ++ [bytes], writeIndex := q.writeIndex + 1 }
  have e : exec (.streamRecordArrival l f bytes) s = .next (u.raise l f .stream) := by
    show execStreamRecordArrival l f bytes s = _
    rw [execStreamRecordArrival, if_pos ⟨role, notOff⟩]
  obtain ⟨queued, woken⟩ := u.raise_reaches l f .stream
  refine (Effect.of_ok (execStreamRecordArrival_effect l f bytes s) e).gives rfl e ⟨?_, ?_, queued, woken⟩
  · rw [State.raise_stream (s := u) home, State.updProg_progs, Tbl.get_upd_same]
    rfl
  · rw [(u.raise_prog l f .stream _).1, State.updProg_progs, Tbl.get_upd_same]

theorem messageArrival_enters {s : State} {l : Fin 16} {h q : Nat} {m : List Byte} {r : List (Nat × Nat × List Byte)}
    (hi : (s.lenses.get l).inbound = (h, q, m) :: r) (hq : q < 4) :
    let g := s.host l h
    s.Gives (.messageArrival l) [.facets, .progs, .lenses] fun t =>
      (t.lenses.get l).inbound = r ∧
      (t.progs.get (fKey l h)).rxq.toList[q]? = some (((s.progs.get (fKey l h)).rxq.toList[q]?).getD [] ++ [m]) ∧
      ((s.facets.get (fKey l g)).run = .active → (t.facets.get (fKey l g)).qMessage = true) ∧
      ((s.facets.get (fKey l g)).run = .gated → (s.facets.get (fKey l g)).gate = .ended →
        (s.lenses.get l).pstate = .run → (t.facets.get (fKey l g)).run = .active ∧ (t.facets.get (fKey l g)).pc = 2) := by
  let u := (s.updLens l fun x => { x with inbound := r }).updProg l h fun p =>
    { p with rxq := p.rxq.setIfInBounds q (((p.rxq.toList[q]?).getD []) ++ [m]) }
  have e : exec (.messageArrival l) s = .next (u.raise l h .message) := by
    show execMessageArrival l s = _
    simp only [execMessageArrival, hi]
    rfl
  obtain ⟨queued, woken⟩ := u.raise_reaches l h .message
  refine (Effect.of_ok (execMessageArrival_effect l s) e).gives rfl e
    ⟨?_, ?_, queued, fun gated ended inRun => woken gated ended (by simpa [u] using inRun)⟩
  · obtain ⟨w, hw⟩ := u.raise_lens l h .message l
    rw [hw]
    simp [u]
  · rw [(u.raise_prog l h .message _).2, State.updProg_progs, Tbl.get_upd_same]
    simp [hq]

/-- Settles O21, command by command. -/
theorem lensWakesAndArrivals : Obligations.LensWakesAndArrivals := by
  unfold Obligations.LensWakesAndArrivals
  exact ⟨fun l s => ⟨fun t0 => lensPretickWake_starts, fun t0 hw => ⟨lensWakeDone_takes hw, lensWakeTimeout_fails hw⟩⟩,
    fun l s => ⟨fun f bytes role notOff => streamRecordArrival_joins bytes role notOff,
      fun h q m r => messageArrival_enters⟩⟩

end Sys2Proof.Machine
end

section
/-! SUPPORT. Hardware faults of a facet and the repair they ask for (R101 to R105): what each step leaves in the facets
and in the lens. -/

namespace Sys2Proof.Machine

/-! ## Asking for a repair (R102, R104) -/

@[simp] theorem State.lensFail_lens (s : State) (l : Nat) (c : LensFault) :
    (s.lensFail l c).lenses.get l = { s.lenses.get l with failure := some ((s.lenses.get l).failure.getD c) } := by
  simp [State.lensFail]

/-- What a repair that begins leaves of its lens. -/
theorem State.beginRepair_lens (s : State) (l : Nat) (r : Repair) :
    let z := s.lenses.get l
    let y := (s.beginRepair l r).lenses.get l
    (minList z.free = none → y = { z with failure := some (z.failure.getD .noSpare) }) ∧
    (∀ sp, minList z.free = some sp → checkpoint (s.progs.get (fKey l r.home)) = none →
      y = { z with failure := some (z.failure.getD .noCheckpoint) }) ∧
    (∀ sp, minList z.free = some sp → checkpoint (s.progs.get (fKey l r.home)) ≠ none →
      y = { z with repair := some { r with spare := sp }, free := z.free.filter (· ≠ sp) }) := by
  refine ⟨fun none_ => ?_, fun sp some_ none_ => ?_, fun sp some_ sealed => ?_⟩
  · simp [State.beginRepair, none_]
  · simp [State.beginRepair, some_, none_]
  · simp [State.beginRepair, some_, sealed]

/-- What a repair that is asked for leaves of its lens: nothing happens, it waits, or it begins. -/
theorem State.askRepair_lens (s : State) (l : Nat) (r : Repair) :
    let z := s.lenses.get l
    let y := (s.askRepair l r).lenses.get l
    (z.stewardFailed = true → y = z) ∧
    (z.stewardFailed = false → z.repair ≠ none ∨ s.mlk.mmDown = true →
      ∃ b, y = { z with waitRepair := z.waitRepair ++ [{ r with behind := b }] }) ∧
    (z.stewardFailed = false → z.repair = none → s.mlk.mmDown = false → y = (s.beginRepair l r).lenses.get l) := by
  refine ⟨fun failed => ?_, fun works busy => ?_, fun works idle up => ?_⟩
  · simp [State.askRepair, failed]
  · have busy : (s.lenses.get l).repair.isSome = true ∨ s.mlk.mmDown = true := busy.imp Option.isSome_iff_ne_none.2 id
    simp [State.askRepair, works, busy]
  · simp [State.askRepair, works, idle, up]

/-- What a repair that is asked for keeps of its lens: its counts, and the free spares but for those it takes. -/
structure LensSt.KeptByRepair (z y : LensSt) : Prop where
  repairs : y.repairs = z.repairs
  eccUncorr : y.eccUncorr = z.eccUncorr
  free : ∀ f, f ∈ y.free → f ∈ z.free

theorem LensSt.KeptByRepair.refl (z : LensSt) : z.KeptByRepair z := ⟨rfl, rfl, fun _ h => h⟩

theorem LensSt.KeptByRepair.trans {z y x : LensSt} (h : z.KeptByRepair y) (k : y.KeptByRepair x) : z.KeptByRepair x :=
  ⟨k.repairs.trans h.repairs, k.eccUncorr.trans h.eccUncorr, fun f hf => h.free f (k.free f hf)⟩

theorem State.beginRepair_kept (s : State) (l : Nat) (r : Repair) :
    (s.lenses.get l).KeptByRepair ((s.beginRepair l r).lenses.get l) := by
  obtain ⟨noSpare, noCheckpoint, begins⟩ := s.beginRepair_lens l r
  cases spare : minList (s.lenses.get l).free with
  | none => rw [noSpare spare]; exact ⟨rfl, rfl, fun _ h => h⟩
  | some sp =>
    by_cases sealed : checkpoint (s.progs.get (fKey l r.home)) = none
    · rw [noCheckpoint sp spare sealed]; exact ⟨rfl, rfl, fun _ h => h⟩
    · rw [begins sp spare sealed]; exact ⟨rfl, rfl, fun _ h => List.mem_of_mem_filter h⟩

theorem State.askRepair_kept (s : State) (l : Nat) (r : Repair) :
    (s.lenses.get l).KeptByRepair ((s.askRepair l r).lenses.get l) := by
  obtain ⟨failed, waits, begins⟩ := s.askRepair_lens l r
  by_cases steward : (s.lenses.get l).stewardFailed = true
  · rw [failed steward]; exact .refl _
  · have works : (s.lenses.get l).stewardFailed = false := by simpa using steward
    by_cases busy : (s.lenses.get l).repair ≠ none ∨ s.mlk.mmDown = true
    · obtain ⟨b, hy⟩ := waits works busy
      rw [hy]
      exact ⟨rfl, rfl, fun _ h => h⟩
    · obtain ⟨idle, up⟩ := not_or.1 busy
      rw [begins works (not_not.1 idle) (by simpa using up)]
      exact s.beginRepair_kept l r

theorem State.nextRepair_kept (s : State) (l : Nat) :
    (s.lenses.get l).KeptByRepair ((s.nextRepair l).lenses.get l) := by
  have begun : (s.lenses.get l).KeptByRepair ((s.updLens l fun x => { x with waitRepair := [] }).lenses.get l) := by
    rw [State.updLens_lenses, Tbl.get_upd_same]
    exact ⟨rfl, rfl, fun _ h => h⟩
  exact begun.trans (State.each_rel (R := fun s t => (s.lenses.get l).KeptByRepair (t.lenses.get l))
    (fun s => .refl _) (fun _ _ _ h k => h.trans k) (fun t r => t.askRepair_kept l _) _ _)

theorem State.respare_kept (s : State) (l : Nat) (r : Repair) :
    (s.lenses.get l).KeptByRepair ((s.respare l r).lenses.get l) := by
  let u := s.updLens l fun x => { x with repair := none }
  have begun : (s.lenses.get l).KeptByRepair ((u.beginRepair l r).lenses.get l) := by
    refine .trans ?_ (u.beginRepair_kept l r)
    rw [State.updLens_lenses, Tbl.get_upd_same]
    exact ⟨rfl, rfl, fun _ h => h⟩
  unfold State.respare
  dsimp only
  split
  · exact begun
  · exact begun.trans (State.nextRepair_kept ..)

/-! ## A hardware fault (R101) -/

/-- The facet holds a program that runs. -/
def FacetSt.runsProgram (x : FacetSt) : Bool := x.role ≠ .spare && (x.run = .active || x.run = .gated)

theorem FacetSt.runsProgram_iff (x : FacetSt) :
    x.runsProgram = true ↔ x.role ≠ .spare ∧ (x.run = .active ∨ x.run = .gated) := by simp [FacetSt.runsProgram]

/-- A fenced facet is recorded in flash (R101). -/
def State.recordFence (s : State) (k : Nat) : State :=
  { s with fencedFlash := if s.fencedFlash.contains k then s.fencedFlash else s.fencedFlash ++ [k] }

/-- The facet is fenced with its cause and leaves the free spares (R101). -/
def State.fenceOnly (s : State) (l f : Nat) (c : FFault) : State :=
  ((s.updFacet l f fun x => { x with run := .fenced, fault := c, testFailed := false }).recordFence (fKey l f)).updLens l
    fun y => { y with free := y.free.filter (· ≠ f) }

/-- The facet is fenced, and a loop frame without a result is counted (R101, R103). -/
def State.fenceFacet (s : State) (l f : Nat) (c : FFault) : State :=
  let x := s.facets.get (fKey l f)
  let q := s.progs.get (fKey l (s.home l f))
  if x.runsProgram = true ∧ x.role = .loop ∧ q.computing ∧ ¬ q.outDone
  then (s.fenceOnly l f c).updLens l fun y => { y with repairGap := sat32 y.repairGap 1 } else s.fenceOnly l f c

/-- The repair that the fault of facet `f` asks for. -/
def State.repairOf (s : State) (l f : Nat) : Repair :=
  let q := s.progs.get (fKey l (s.home l f))
  { failed := f, home := s.home l f, start := s.now, cycle := q.cycle, opened := q.computing }

theorem State.hwFault_fenced {s : State} {l f : Nat} (h : (s.facets.get (fKey l f)).run = .fenced) (c : FFault) :
    s.hwFault l f c = s := by
  rw [State.hwFault, if_pos h]

theorem State.hwFault_runs {s : State} {l f : Nat} (h : (s.facets.get (fKey l f)).run ≠ .fenced) (c : FFault)
    (runs : (s.facets.get (fKey l f)).runsProgram = true) :
    s.hwFault l f c = (s.fenceFacet l f c).askRepair l (s.repairOf l f) := by
  have gap : s.hwFault l f c = (if (s.facets.get (fKey l f)).runsProgram then _ else _) := if_neg h
  have now : (s.fenceFacet l f c).now = s.now := by unfold State.fenceFacet; dsimp only; split <;> rfl
  rw [gap, if_pos runs]
  simp only [State.repairOf, ← now, State.fenceFacet, runs, true_and]
  rfl

theorem State.hwFault_idle {s : State} {l f : Nat} (h : (s.facets.get (fKey l f)).run ≠ .fenced) (c : FFault)
    (idle : (s.facets.get (fKey l f)).runsProgram = false) :
    s.hwFault l f c = match ((s.fenceFacet l f c).lenses.get l).repair with
      | some r => if r.spare = f then (s.fenceFacet l f c).respare l r else s.fenceFacet l f c
      | none => s.fenceFacet l f c := by
  have gap : s.hwFault l f c = (if (s.facets.get (fKey l f)).runsProgram then _ else _) := if_neg h
  rw [gap, if_neg (by simp [idle])]
  simp only [State.fenceFacet, idle, Bool.false_eq_true, false_and, if_false]
  rfl

theorem State.fenceFacet_facets (s : State) (l f : Nat) (c : FFault) :
    (s.fenceFacet l f c).facets = s.facets.set (fKey l f)
      { s.facets.get (fKey l f) with run := .fenced, fault := c, testFailed := false } := by
  unfold State.fenceFacet
  dsimp only
  split <;> rfl

theorem State.fenceFacet_flash (s : State) (l f : Nat) (c : FFault) : fKey l f ∈ (s.fenceFacet l f c).fencedFlash := by
  have flash : (s.fenceFacet l f c).fencedFlash =
      if s.fencedFlash.contains (fKey l f) then s.fencedFlash else s.fencedFlash ++ [fKey l f] := by
    unfold State.fenceFacet
    dsimp only
    split <;> rfl
  rw [flash]
  split
  · next h => simpa using h
  · simp

theorem State.fenceFacet_lens (s : State) (l f : Nat) (c : FFault) : ∃ n, (s.fenceFacet l f c).lenses.get l =
    { s.lenses.get l with free := (s.lenses.get l).free.filter (· ≠ f), repairGap := n } := by
  have fenced : (s.fenceOnly l f c).lenses.get l =
      { s.lenses.get l with free := (s.lenses.get l).free.filter (· ≠ f) } := Tbl.get_upd_same ..
  unfold State.fenceFacet
  dsimp only
  split
  · rw [State.updLens_lenses, Tbl.get_upd_same, fenced]
    exact ⟨_, rfl⟩
  · exact ⟨(s.lenses.get l).repairGap, fenced⟩

theorem State.recordFence_effect (s : State) (k : Nat) : Effect 0x200 s (s.recordFence k) :=
  Effect.upd s (.refl ..) rfl fun p hp => by cases p <;> first | rfl | exact absurd hp (by decide)

theorem State.fenceFacet_effect (s : State) (l f : Nat) (c : FFault) : Effect 0x340 s (s.fenceFacet l f c) := by
  have halted := s.updFacet_effect l f (fun x => { x with run := .fenced, fault := c, testFailed := false }) fun _ h => h
  have fenced : Effect 0x340 s (s.fenceOnly l f c) :=
    ((halted.mono rfl).go (State.recordFence_effect ..) rfl).go (State.updLens_effect ..) rfl
  exact Effect.ite (fun _ => fenced.go (State.updLens_effect ..) rfl) fun _ => fenced

/-- After the fence a fault changes its lens and reports a lens failure; of the facets it changes nothing more. -/
theorem State.hwFault_repairs {s : State} {l f : Nat} (h : (s.facets.get (fKey l f)).run ≠ .fenced) (c : FFault) :
    Effect 0x4000000100 (s.fenceFacet l f c) (s.hwFault l f c) ∧
    ((s.fenceFacet l f c).lenses.get l).KeptByRepair ((s.hwFault l f c).lenses.get l) := by
  cases runs : (s.facets.get (fKey l f)).runsProgram with
  | true =>
    rw [State.hwFault_runs h c runs]
    exact ⟨State.askRepair_effect .., State.askRepair_kept ..⟩
  | false =>
    rw [State.hwFault_idle h c runs]
    split
    · split
      · exact ⟨State.respare_effect .., State.respare_kept ..⟩
      · exact ⟨.refl .., .refl _⟩
    · exact ⟨.refl .., .refl _⟩

theorem State.hwFault_facets {s : State} {l f : Nat} (h : (s.facets.get (fKey l f)).run ≠ .fenced) (c : FFault) :
    (s.hwFault l f c).facets = s.facets.set (fKey l f)
      { s.facets.get (fKey l f) with run := .fenced, fault := c, testFailed := false } :=
  ((State.hwFault_repairs h c).1.same .facets rfl).trans (s.fenceFacet_facets l f c)

theorem State.hwFault_kept (s : State) (l f : Nat) (c : FFault) :
    (s.lenses.get l).KeptByRepair ((s.hwFault l f c).lenses.get l) := by
  by_cases h : (s.facets.get (fKey l f)).run = .fenced
  · rw [State.hwFault_fenced h]; exact .refl _
  · obtain ⟨n, lens⟩ := s.fenceFacet_lens l f c
    refine .trans ?_ (State.hwFault_repairs h c).2
    rw [lens]
    exact ⟨rfl, rfl, fun _ hf => List.mem_of_mem_filter hf⟩

end Sys2Proof.Machine
end

section
/-! PROOF. Facets that are fenced (O20): a fault, whatever finds it. -/

namespace Sys2Proof.Machine

/-! ## What a fault leaves (R17, R101, R102, R104) -/

/-- `t` is what a fault of facet `f` in state `s` leaves, with the cause `e`: the fence, and the repair. -/
def State.FencedAs (s : State) (l f : Nat) (e : FFault) (t : State) : Prop :=
  let k := fKey l f
  let x := s.facets.get k
  let lens := s.lenses.get l
  let h := s.home l f
  let q := s.progs.get (fKey l h)
  let runs := x.role ≠ .spare ∧ (x.run = .active ∨ x.run = .gated)
  let left := lens.free.filter (· ≠ f)
  let y := t.lenses.get l
  let begins := lens.stewardFailed = false ∧ lens.repair = none ∧ s.mlk.mmDown = false
  t.facets = s.facets.set k { x with run := .fenced, fault := e, testFailed := false } ∧ k ∈ t.fencedFlash ∧
  f ∉ y.free ∧
  (runs → begins → ∀ sp, minList left = some sp → checkpoint q ≠ none →
    ∃ r, y.repair = some r ∧ r.failed = f ∧ r.home = h ∧ r.spare = sp ∧ r.start = s.now ∧ sp ∉ y.free) ∧
  (runs → begins → left = [] → y.failure.isSome ∧ y.repair = none) ∧
  (runs → begins → checkpoint q = none → y.failure.isSome ∧ y.repair = none) ∧
  (runs → lens.stewardFailed = true → y.repair = lens.repair ∧ y.waitRepair = lens.waitRepair) ∧
  (runs → lens.stewardFailed = false → lens.repair ≠ none ∨ s.mlk.mmDown = true → y.repair = lens.repair ∧
    ∃ r, y.waitRepair = lens.waitRepair ++ [r] ∧ r.failed = f ∧ r.home = h) ∧
  (¬ runs → lens.repair = none → y.repair = none ∧ y.waitRepair = lens.waitRepair ∧ y.failure = lens.failure)

theorem State.hwFault_fences {s : State} {l f : Nat} (notFenced : (s.facets.get (fKey l f)).run ≠ .fenced) (e : FFault) :
    s.FencedAs l f e (s.hwFault l f e) := by
  let u := s.fenceFacet l f e
  let r := s.repairOf l f
  have hu : Effect 0x340 s u := s.fenceFacet_effect l f e
  have progs : u.progs = s.progs := hu.same .progs rfl
  have mlk : u.mlk = s.mlk := hu.same .mlk rfl
  obtain ⟨n, lens⟩ : ∃ n, u.lenses.get l = _ := s.fenceFacet_lens l f e
  obtain ⟨after, kept⟩ := State.hwFault_repairs notFenced e
  have asked (runs : (s.facets.get (fKey l f)).runsProgram = true) := State.hwFault_runs notFenced e runs
  obtain ⟨failed, waits, starts⟩ := u.askRepair_lens l r
  obtain ⟨noSpare, noCheckpoint, begins⟩ := u.beginRepair_lens l r
  rw [lens] at failed waits starts noSpare noCheckpoint begins
  rw [progs] at noCheckpoint begins
  rw [mlk] at waits starts
  unfold State.FencedAs
  refine ⟨State.hwFault_facets notFenced e, ?_, fun hf => ?_, fun runs ⟨works, idle, up⟩ sp least sealed => ?_,
    fun runs ⟨works, idle, up⟩ none_ => ?_, fun runs ⟨works, idle, up⟩ unsealed => ?_, fun runs steward => ?_,
    fun runs works busy => ?_, fun idle none_ => ?_⟩
  · rw [after.same .fencedFlash rfl]
    exact s.fenceFacet_flash l f e
  · have := kept.free f hf
    rw [show (s.fenceFacet l f e).lenses.get l = _ from lens] at this
    simp at this
  · rw [asked ((FacetSt.runsProgram_iff _).2 runs), starts works idle up, begins sp least sealed]
    exact ⟨_, rfl, rfl, rfl, rfl, rfl, by simp⟩
  · rw [asked ((FacetSt.runsProgram_iff _).2 runs), starts works idle up, noSpare (by dsimp only; rw [none_]; rfl)]
    exact ⟨rfl, idle⟩
  · rw [asked ((FacetSt.runsProgram_iff _).2 runs), starts works idle up]
    cases least : minList ((s.lenses.get l).free.filter (· ≠ f)) with
    | none => rw [noSpare least]; exact ⟨rfl, idle⟩
    | some sp => rw [noCheckpoint sp least unsealed]; exact ⟨rfl, idle⟩
  · rw [asked ((FacetSt.runsProgram_iff _).2 runs), failed steward]
    exact ⟨rfl, rfl⟩
  · obtain ⟨b, hy⟩ := waits works busy
    rw [asked ((FacetSt.runsProgram_iff _).2 runs), hy]
    exact ⟨rfl, _, rfl, rfl, rfl⟩
  · have idle : (s.facets.get (fKey l f)).runsProgram = false := by
      rw [← Bool.not_eq_true, FacetSt.runsProgram_iff]; exact idle
    have still : s.hwFault l f e = u := by
      rw [State.hwFault_idle notFenced e idle]
      show (match (u.lenses.get l).repair with | some _ => _ | none => _) = u
      rw [lens]
      simp only [none_]
      rfl
    rw [still, lens]
    exact ⟨none_, rfl, rfl⟩

/-- Two states between which nothing changes that a fault in lens `l` looks at. -/
structure State.SameForFault (s : State) (l : Nat) (u : State) : Prop where
  facets : u.facets = s.facets
  mlk : u.mlk = s.mlk
  now : u.now = s.now
  checkpoints : ∀ j, checkpoint (u.progs.get j) = checkpoint (s.progs.get j)
  free : (u.lenses.get l).free = (s.lenses.get l).free
  repair : (u.lenses.get l).repair = (s.lenses.get l).repair
  waitRepair : (u.lenses.get l).waitRepair = (s.lenses.get l).waitRepair
  failure : (u.lenses.get l).failure = (s.lenses.get l).failure
  stewardFailed : (u.lenses.get l).stewardFailed = (s.lenses.get l).stewardFailed

theorem State.FencedAs.before {s u t : State} {l f : Nat} {e : FFault} (h : u.FencedAs l f e t)
    (same : s.SameForFault l u) : s.FencedAs l f e t := by
  have home : u.home l f = s.home l f := by simp [State.home, same.facets]
  unfold State.FencedAs at h ⊢
  simp only [home, same.facets, same.mlk, same.now, same.checkpoints, same.free, same.repair, same.waitRepair,
    same.failure, same.stewardFailed] at h
  exact h

theorem State.FencedAs.after {s u t : State} {l f : Nat} {e : FFault} (h : s.FencedAs l f e u)
    (facets : t.facets = u.facets) (flash : t.fencedFlash = u.fencedFlash) (lenses : t.lenses = u.lenses) :
    s.FencedAs l f e t := by
  unfold State.FencedAs at h ⊢
  rw [facets, flash, lenses]
  exact h

/-! ## The commands that report a fault -/

/-- An uncorrectable error of a facet of lens `l` is counted (R106). -/
def State.countUncorr (s : State) (l : Nat) : State := s.updLens l fun x => { x with eccUncorr := sat16 x.eccUncorr 1 }

theorem State.countUncorr_same (s : State) (l : Nat) : s.SameForFault l (s.countUncorr l) := by
  constructor <;> simp [State.countUncorr]

/-- A SEAL that its facet's failure cuts leaves every checkpoint (R105). -/
theorem State.sealCut_checkpoint (s : State) (l f j : Nat) :
    checkpoint ((s.sealCut l f).progs.get j) = checkpoint (s.progs.get j) := by
  have bad : sealGood (s.sealRec l f) = false := by simp [sealGood, State.sealRec]
  unfold State.sealCut
  split
  · rw [State.updProg_progs, Tbl.get_upd]
    split
    · next h => rw [← h, checkpoint_putSeal_bad bad]
    · rfl
  · rfl

theorem State.sealCut_same (s : State) (l f : Nat) : s.SameForFault l ((s.sealCut l f).countUncorr l) := by
  have cut := s.sealCut_effect l f
  have lenses : (s.sealCut l f).lenses = s.lenses := cut.same .lenses rfl
  refine ⟨cut.same .facets rfl, cut.same .mlk rfl, cut.same .now rfl, s.sealCut_checkpoint l f, ?_, ?_, ?_, ?_, ?_⟩ <;>
    simp [State.countUncorr, lenses]

/-- A command that ends in a fault counts it in the lens where it has just counted an error. -/
theorem State.hwFault_counted {s u : State} (l f : Nat) (c : FFault) (lens : (u.lenses.get l) = s.lenses.get l) :
    (((u.countUncorr l).hwFault l f c).lenses.get l).eccUncorr = min ((s.lenses.get l).eccUncorr + 1) 0xFFFF := by
  rw [((u.countUncorr l).hwFault_kept l f c).eccUncorr]
  simp [State.countUncorr, lens, sat16]

theorem sramUncorr_fences {s : State} {l : Fin 16} {f : Fin 64} (h : (s.facets.get (fKey l f)).run ≠ .fenced) :
    s.Gives (.sramUncorr l ⟨f, .uncorrectable⟩) [.facets, .progs, .lenses, .fencedFlash, .recs]
      (s.FencedAs l f .sramUncorr) ∧
    ∃ t, exec (.sramUncorr l ⟨f, .uncorrectable⟩) s = .next t ∧
      (t.lenses.get l).eccUncorr = min ((s.lenses.get l).eccUncorr + 1) 0xFFFF := by
  have e : exec (.sramUncorr l ⟨f, .uncorrectable⟩) s = .next ((s.countUncorr l).hwFault l f .sramUncorr) := rfl
  exact ⟨(Effect.of_ok (execSramUncorr_effect l ⟨f, .uncorrectable⟩ s) e).gives rfl e
    ((State.hwFault_fences (s := s.countUncorr l) h _).before (s.countUncorr_same l)), _, e, State.hwFault_counted _ _ _ rfl⟩

theorem sramInSeal_fences {s : State} {l : Fin 16} {f : Fin 64} (h : (s.facets.get (fKey l f)).run ≠ .fenced) :
    s.Gives (.sramUncorr l ⟨f, .inSeal⟩) [.facets, .progs, .lenses, .fencedFlash, .recs] (s.FencedAs l f .sramUncorr) ∧
    ∃ t, exec (.sramUncorr l ⟨f, .inSeal⟩) s = .next t ∧
      (t.lenses.get l).eccUncorr = min ((s.lenses.get l).eccUncorr + 1) 0xFFFF := by
  have e : exec (.sramUncorr l ⟨f, .inSeal⟩) s =
      .next (((s.sealCut l f).countUncorr l).hwFault l f .sramUncorr) := by
    show execSramUncorr l ⟨f, .inSeal⟩ s = _
    simp only [execSramUncorr, h, if_false]
    rfl
  have same := s.sealCut_same l f
  have lenses : (s.sealCut l f).lenses = s.lenses := (s.sealCut_effect l f).same .lenses rfl
  exact ⟨(Effect.of_ok (execSramUncorr_effect l ⟨f, .inSeal⟩ s) e).gives rfl e
    ((State.hwFault_fences (by rw [same.facets]; exact h) _).before same), _, e,
    State.hwFault_counted _ _ _ (by rw [lenses])⟩

theorem sramCorrected_counts (s : State) (l : Fin 16) (f : Fin 64) :
    s.Gives (.sramUncorr l ⟨f, .corrected⟩) [.lenses] fun t =>
      t.lenses = s.lenses.set l { s.lenses.get l with eccCorr := min ((s.lenses.get l).eccCorr + 1) 0xFFFF } :=
  (s.updLens_effect ..).gives rfl rfl rfl

theorem fetchParity_fences {s : State} {l : Fin 16} {f : Fin 64} (h : (s.facets.get (fKey l f)).run ≠ .fenced) :
    s.Gives (.fetchParity l f) [.facets, .progs, .lenses, .fencedFlash, .recs] (s.FencedAs l f .fetchParity) :=
  (s.hwFault_effect ..).gives rfl rfl (State.hwFault_fences h _)

theorem wakeFail_fences {s : State} {l : Fin 16} {f : Fin 64} (h : (s.facets.get (fKey l f)).run ≠ .fenced) :
    s.Gives (.wakeFail l f) [.facets, .progs, .lenses, .fencedFlash, .recs] (s.FencedAs l f .wakeFail) :=
  (s.hwFault_effect ..).gives rfl rfl (State.hwFault_fences h _)

/-! ## Self-tests (R101, R419, R481) -/

/-- The lens has had a failed test (R66). -/
def State.testAgain (s : State) (l : Nat) : State := s.updLens l fun y => { y with needsTest := true }

theorem State.testAgain_same (s : State) (l : Nat) : s.SameForFault l (s.testAgain l) := by
  constructor <;> simp [State.testAgain]

/-- A failed self-test where no rolling one is under way: the facet waits for its cycle boundary or is fenced, and
BIST_FAIL is reported. -/
theorem exec_selftestFail {s : State} {l : Fin 16} {f : Fin 64} (h : (s.facets.get (fKey l f)).run ≠ .fenced)
    (hp : s.glb.phase ≠ .running ∨ s.mlk.role = .active) {u : State}
    (hu : u = if (s.facets.get (fKey l f)).runsProgram && !betweenCycles (s.facets.get (fKey l f))
      then (s.testAgain l).updFacet l f fun x => { x with testFailed := true }
      else (s.testAgain l).hwFault l f .selftestFail) :
    exec (.selftestFail l f) s = .next ((u.bistFailed l).event .bistFail l) := by
  have tested : Effect 0x4000000340 s u := by
    have again : Effect 0x4000000340 s (s.testAgain l) := (s.updLens_effect ..).mono rfl
    rw [hu]
    exact Effect.ite (fun _ => again.go (State.updFacet_effect _ _ _ _ fun _ h => h) rfl)
      fun _ => again.go (State.hwFault_effect ..) rfl
  have quiet : ¬ (u.glb.phase = .running ∧ u.mlk.role ≠ .active) := by
    rw [show u.glb = s.glb from tested.same .glb rfl, show u.mlk = s.mlk from tested.same .mlk rfl]
    rintro ⟨running, other⟩
    exact hp.elim (· running) other
  show execSelftestFail l f s = _
  rw [execSelftestFail]
  dsimp only
  rw [if_neg h]
  subst hu
  exact congrArg _ (if_neg quiet)

theorem State.bistFailed_fails (s : State) (k : Nat) : (s.bistFailed k).bst.fails = sat32 s.bst.fails 1 := rfl

theorem State.bistFailed_now (s : State) (k : Nat) : (s.bistFailed k).now = s.now := rfl

theorem selftestFail_waits {s : State} {l : Fin 16} {f : Fin 64} (h : (s.facets.get (fKey l f)).run ≠ .fenced)
    (hp : s.glb.phase ≠ .running ∨ s.mlk.role = .active)
    (runs : (s.facets.get (fKey l f)).role ≠ .spare ∧
      ((s.facets.get (fKey l f)).run = .active ∨ (s.facets.get (fKey l f)).run = .gated))
    (inside : betweenCycles (s.facets.get (fKey l f)) = false) :
    s.Gives (.selftestFail l f) [.facets, .lenses, .recs, .bst, .freeIdx] fun t =>
      t.facets = s.facets.set (fKey l f) { s.facets.get (fKey l f) with testFailed := true } ∧
      (t.lenses.get l).needsTest = true ∧ t.bst.fails = min (s.bst.fails + 1) 0xFFFFFFFF ∧
      (Ev.bistFail, l.val, s.now) ∈ t.recs.evr.events := by
  let u := (s.testAgain l).updFacet l f fun x => { x with testFailed := true }
  have runs := (FacetSt.runsProgram_iff _).2 runs
  have e := exec_selftestFail h hp (u := u) (by rw [if_pos (by simp [runs, inside])])
  have hu : Effect 0x140 s u :=
    ((s.updLens_effect ..).mono rfl).go (State.updFacet_effect _ _ _ _ fun _ h => h) rfl
  refine (((hu.mono rfl).go (State.bistFailed_effect ..) rfl).go (State.event_effect ..) rfl :
    Effect 0x14000000142 _ _).gives rfl e ⟨rfl, ?_, rfl, ?_⟩
  · show (u.lenses.get l).needsTest = true
    simp [u, State.testAgain]
  · rw [State.event_events]
    exact List.mem_append_right _ (List.mem_singleton.2 rfl)

theorem selftestFail_fences {s : State} {l : Fin 16} {f : Fin 64} (h : (s.facets.get (fKey l f)).run ≠ .fenced)
    (hp : s.glb.phase ≠ .running ∨ s.mlk.role = .active)
    (idle : ¬ ((s.facets.get (fKey l f)).role ≠ .spare ∧
      ((s.facets.get (fKey l f)).run = .active ∨ (s.facets.get (fKey l f)).run = .gated)) ∨
        betweenCycles (s.facets.get (fKey l f)) = true) :
    s.Gives (.selftestFail l f) ([.facets, .progs, .lenses, .fencedFlash, .recs] ++ [.bst, .freeIdx])
      (s.FencedAs l f .selftestFail) := by
  have idle : ((s.facets.get (fKey l f)).runsProgram && !betweenCycles (s.facets.get (fKey l f))) = false := by
    rw [← FacetSt.runsProgram_iff, Bool.not_eq_true] at idle
    rcases idle with idle | idle <;> simp [idle]
  let u := (s.testAgain l).hwFault l f .selftestFail
  have e := exec_selftestFail h hp (u := u) (by rw [if_neg (by simp [idle])])
  have hu : Effect 0x4000000340 s u := ((s.updLens_effect ..).mono rfl).go (State.hwFault_effect ..) rfl
  have reported : Effect 0x14000000002 u ((u.bistFailed l).event .bistFail l) :=
    ((State.bistFailed_effect ..).mono rfl).go (State.event_effect ..) rfl
  have fenced := (State.hwFault_fences (s := s.testAgain l) (l := l) (f := f) h .selftestFail).before (s.testAgain_same l)
  exact ((hu.mono rfl).go reported rfl : Effect 0x14000000342 _ _).gives rfl e
    (fenced.after (reported.same .facets rfl) (reported.same .fencedFlash rfl) (reported.same .lenses rfl))

end Sys2Proof.Machine
end

section
/-! PROOF. The end of a repair (O20): what the spare holds, and what is left of the repair in its lens. -/

namespace Sys2Proof.Machine

/-! ## A program that stops (R17, R101) -/

/-- The program of facet `x` has stopped, as `y`: what the facet holds stays. -/
structure FacetSt.StoppedAs (x y : FacetSt) : Prop where
  gated : y.run ≠ .gated
  active : y.run ≠ .active
  role : y.role = x.role
  hostOf : y.hostOf = x.hostOf
  imem : y.imem = x.imem
  firstCycle : y.firstCycle = x.firstCycle
  restored : y.restored = x.restored

/-- The facet has stopped, and it has not been judged yet whether a self-test found it bad. -/
def State.stopAndRelease (s : State) (l f : Nat) : State :=
  ((s.updFacet l f fun x =>
    { x with run := if x.run = .fenced then .fenced else .stopped, stack := [], qTick := false, qStream := false,
             qMessage := false, ticked := false, began := false }).updProg l (s.home l f) fun q =>
    { q with computing := false, nextTick := none, catchUp := false }).releaseAll (fKey l (s.home l f))

theorem State.stopFacet_eq (s : State) (l f : Nat) : s.stopFacet l f = (s.stopAndRelease l f).atBoundary l f := rfl

theorem State.stopAndRelease_lenses (s : State) (l f : Nat) : (s.stopAndRelease l f).lenses = s.lenses :=
  (State.releaseAll_effect ..).same .lenses rfl

theorem State.stopAndRelease_facets (s : State) (l f : Nat) : ∃ y, (s.stopAndRelease l f).facets = s.facets.set (fKey l f) y ∧
    (s.facets.get (fKey l f)).StoppedAs y := by
  refine ⟨_, (State.releaseAll_effect ..).same .facets rfl, ?_, ?_, rfl, rfl, rfl, rfl, rfl⟩ <;>
    · dsimp only
      split <;> nofun

theorem State.stopFacet_facets (s : State) (l f : Nat) : ∃ y, (s.stopFacet l f).facets = s.facets.set (fKey l f) y ∧
    (s.facets.get (fKey l f)).StoppedAs y := by
  obtain ⟨y, facets, stopped⟩ := s.stopAndRelease_facets l f
  rw [State.stopFacet_eq, State.atBoundary]
  split
  · by_cases fenced : ((s.stopAndRelease l f).facets.get (fKey l f)).run = .fenced
    · rw [State.hwFault_fenced fenced]
      exact ⟨y, facets, stopped⟩
    · rw [State.hwFault_facets fenced, facets, Tbl.get_set_same, Tbl.set_set]
      exact ⟨_, rfl, nofun, nofun, stopped.role, stopped.hostOf, stopped.imem, stopped.firstCycle, stopped.restored⟩
  · exact ⟨y, facets, stopped⟩

/-- What is under way in a lens, and what has been repaired, are the same. -/
structure LensSt.SameRepairs (z y : LensSt) : Prop where
  repair : y.repair = z.repair
  waitRepair : y.waitRepair = z.waitRepair
  repairs : y.repairs = z.repairs

/-- A program that stops asks for no repair, and no repair under way is started anew. -/
theorem State.stopFacet_lens {s : State} {l : Nat} (f : Nat) (idle : (s.lenses.get l).repair = none) :
    (s.lenses.get l).SameRepairs ((s.stopFacet l f).lenses.get l) := by
  let u := s.stopAndRelease l f
  obtain ⟨y, facets, stopped⟩ : ∃ y, u.facets = _ ∧ _ := s.stopAndRelease_facets l f
  have lenses : u.lenses = s.lenses := s.stopAndRelease_lenses l f
  have halted : (u.facets.get (fKey l f)).runsProgram = false := by
    rw [facets, Tbl.get_set_same]
    simp [FacetSt.runsProgram, stopped.gated, stopped.active]
  rw [State.stopFacet_eq, State.atBoundary]
  split
  · by_cases fenced : (u.facets.get (fKey l f)).run = .fenced
    · rw [State.hwFault_fenced fenced, lenses]
      exact ⟨rfl, rfl, rfl⟩
    · obtain ⟨n, lens⟩ := u.fenceFacet_lens l f .selftestFail
      have still : u.hwFault l f .selftestFail = u.fenceFacet l f .selftestFail := by
        rw [State.hwFault_idle fenced _ halted, lens, lenses, idle]
      rw [show (s.stopAndRelease l f).hwFault l f .selftestFail = _ from still, lens, lenses]
      exact ⟨rfl, rfl, rfl⟩
  · rw [lenses]
    exact ⟨rfl, rfl, rfl⟩

/-! ## The spare is loaded (R102) -/

/-- The spare holds the image and the checkpoint's data, and the repair is counted (R102 steps 3 to 5). -/
def State.loadSpare (s : State) (l : Nat) (r : Repair) : State :=
  let old := s.facets.get (fKey l r.failed)
  let s' := s.loadFacet l r.spare r.home
  (s'.updFacet l r.spare fun x =>
    let x := match checkpoint (s'.progs.get (fKey l r.home)) with
      | some k => restoreArea (s.fCfg l r.home) k x
      | none => x
    { x with dmem := memPutNat x.dmem aStatus 8 (s'.progs.get (fKey l r.home)).cycle, role := old.role, run := .gated,
             restored := true, firstCycle := false, qStream := old.qStream, streamAt := old.streamAt,
             qMessage := old.qMessage, messageAt := old.messageAt }).updLens l fun x =>
    { x with repair := none, repairs := sat8 x.repairs 1 }

/-- The repaired program runs as R103 states. -/
def State.replay (s : State) (l : Nat) (r : Repair) : State :=
  match s.logicAt l r.home with
  | some p => s.replayLogic p r
  | none => match s.protAt l r.home with
    | some i => s.replayProt l i r
    | none => s

theorem exec_repairLoadDone {s : State} {l : Fin 16} {r : Repair} (h : (s.lenses.get l).repair = some r) :
    exec (.repairLoadDone l) s =
      .next ((((s.loadSpare l r).replay l r).takeQueued l r.spare).nextRepair l) := by
  show execRepairLoadDone l s = _
  simp only [execRepairLoadDone, h]
  rfl

/-- Facet `y` holds what the repair `r` has loaded into it, restored (R102); it has taken no tick while it waits. -/
structure State.Repaired (s : State) (l : Nat) (r : Repair) (y : FacetSt) : Prop where
  role : y.role = (s.facets.get (fKey l r.failed)).role
  restored : y.restored = true
  firstCycle : y.firstCycle = false
  hostOf : y.hostOf = if r.spare = r.home then none else some r.home
  imem : y.imem = (s.fCfg l r.home).code
  ticked : y.run = .gated → y.ticked = false

theorem State.loadSpare_repaired (s : State) (l : Nat) (r : Repair) :
    s.Repaired l r ((s.loadSpare l r).facets.get (fKey l r.spare)) ∧
    ((s.loadSpare l r).facets.get (fKey l r.spare)).run = .gated := by
  simp only [State.loadSpare, State.loadFacet, State.updLens_facets, State.updFacet_facets, Tbl.get_upd_same]
  cases checkpoint _ <;> exact ⟨⟨rfl, rfl, rfl, rfl, rfl, fun _ => rfl⟩, trivial⟩

theorem State.loadSpare_lens (s : State) (l : Nat) (r : Repair) :
    ((s.loadSpare l r).lenses.get l).repair = none ∧
    ((s.loadSpare l r).lenses.get l).waitRepair = (s.lenses.get l).waitRepair ∧
    ((s.loadSpare l r).lenses.get l).repairs = min ((s.lenses.get l).repairs + 1) 255 := by
  simp [State.loadSpare, State.loadFacet, sat8]

theorem State.loadSpare_effect (s : State) (l : Nat) (r : Repair) : Effect 0x140 s (s.loadSpare l r) := by
  refine ((s.loadFacet_effect l r.spare r.home).updFacet (fun x hx => ?_) rfl).go (State.updLens_effect ..) rfl
  refine memPutNat_wf ?_ _ _ _
  split
  · exact restoreArea_wf _ _ _ hx
  · exact hx

/-! ## What the replay keeps (R103) -/

/-- The first cycle of a repaired protection program: none is missed, it begins now, or the missed ones are counted. -/
theorem State.replayProt_cases (s : State) (l i : Nat) (r : Repair) : s.replayProt l i r = s ∨
    (∃ n, s.replayProt l i r = ((s.updFacet l r.spare fun x => { x with replayed := r.opened }).protBegin l r.home n).updProg
      l r.home fun q => { q with catchUp := q.computing }) ∨
    (∃ m n, s.replayProt l i r = (s.updProg l r.home fun q => { q with cycle := m, computing := false }).updLens l
      fun x => { x with repairGap := sat32 x.repairGap n }) := by
  unfold State.replayProt
  dsimp only
  generalize (if r.opened = true then r.cycle else r.cycle + 1) = n
  split
  · exact .inl rfl
  · split
    · exact .inr (.inl ⟨n, rfl⟩)
    · exact .inr (.inr ⟨_, _, rfl⟩)

/-- A property of a facet that events and the start of a replay keep; and the stop of its program, where RUN is being
cleared (R58). -/
structure KeptByReplay (halting : Bool) (P : FacetSt → Prop) : Prop where
  woken : ∀ c x y, x.run = .gated → x.WokenBy c y → P x → P y
  queued : ∀ c tai x, P x → P (queueEvent x c tai)
  replayed : ∀ b x, P x → P { x with replayed := b }
  stopped : halting = true → ∀ x y, x.StoppedAs y → P x → P y

section
variable {halting : Bool} {P : FacetSt → Prop} (kept : KeptByReplay halting P)
include kept

theorem KeptByReplay.updReplayed {s : State} {j : Nat} (l f : Nat) (b : Bool) (h : P (s.facets.get j)) :
    P ((s.updFacet l f fun x => { x with replayed := b }).facets.get j) := by
  rw [State.updFacet_facets, Tbl.get_upd]
  split
  · next e => subst e; exact kept.replayed b _ h
  · exact h

theorem KeptByReplay.wakeNow {s : State} {l f j : Nat} (c : WakeCause) (tai : Nat)
    (gated : (s.facets.get (fKey l f)).run = .gated) (h : P (s.facets.get j)) :
    P ((s.wakeNow l f c tai).facets.get j) := by
  obtain ⟨y, facets, woken⟩ := s.wakeNow_facets l f c tai
  rw [facets, Tbl.get_set]
  split
  · next e => subst e; exact kept.woken c _ y gated woken h
  · exact h

theorem KeptByReplay.raise {s : State} {j : Nat} (l h : Nat) (c : WakeCause) (hP : P (s.facets.get j)) :
    P ((s.raise l h c).facets.get j) := by
  by_cases w : s.wakesAtOnce l h c
  · rw [State.raise_wakes w]
    exact kept.wakeNow c s.tai w.1 hP
  · rcases (State.raise_queues w).2 with e | e <;> rw [e]
    · exact hP
    · rw [Tbl.get_upd]
      split
      · next e => subst e; exact kept.queued c _ _ hP
      · exact hP

theorem KeptByReplay.takeQueued {s : State} {j : Nat} (l f : Nat) (h : P (s.facets.get j)) :
    P ((s.takeQueued l f).facets.get j) := by
  rcases s.takeQueued_cases l f with e | ⟨c, tai, -, gated, e⟩ <;> rw [e]
  · exact h
  · exact kept.wakeNow c tai gated h

theorem KeptByReplay.protBegin {s : State} {j : Nat} (l h n : Nat) (hh : s.glb.halting = halting)
    (hP : P (s.facets.get j)) : P ((s.protBegin l h n).facets.get j) := by
  unfold State.protBegin
  split
  · next halts =>
    obtain ⟨y, facets, stopped⟩ := s.stopFacet_facets l (s.host l h)
    rw [State.updProg_facets, facets, Tbl.get_set]
    split
    · next e => subst e; exact kept.stopped (hh.symm.trans halts) _ y stopped hP
    · exact hP
  · exact kept.raise l h .tick hP

theorem KeptByReplay.replay {s : State} {j : Nat} (l : Nat) (r : Repair) (hh : s.glb.halting = halting)
    (hP : P (s.facets.get j)) : P ((s.replay l r).facets.get j) := by
  unfold State.replay
  split
  · unfold State.replayLogic
    dsimp only
    split
    · exact kept.raise _ _ .tick (kept.updReplayed _ _ _ hP)
    · exact hP
  · split
    · next i _ =>
      rcases s.replayProt_cases l i r with e | ⟨n, e⟩ | ⟨m, n, e⟩ <;> rw [e]
      · exact hP
      · exact kept.protBegin l r.home n hh (kept.updReplayed l r.spare r.opened hP)
      · exact hP
    · exact hP

end

theorem State.repaired_kept (s : State) (l : Nat) (r : Repair) (b : Bool) : KeptByReplay b (s.Repaired l r) where
  woken c x y gated w h :=
    { role := w.role.trans h.role
      restored := by rw [w.restored, h.restored, h.ticked gated]; simp
      firstCycle := by rw [w.firstCycle, h.firstCycle]; rfl
      hostOf := w.hostOf.trans h.hostOf
      imem := w.imem.trans h.imem
      ticked := fun g => by rw [w.run] at g; cases g }
  queued c tai x h := by cases c <;> exact ⟨h.role, h.restored, h.firstCycle, h.hostOf, h.imem, h.ticked⟩
  replayed b x h := ⟨h.role, h.restored, h.firstCycle, h.hostOf, h.imem, h.ticked⟩
  stopped _ x y w h :=
    { role := w.role.trans h.role
      restored := w.restored.trans h.restored
      firstCycle := w.firstCycle.trans h.firstCycle
      hostOf := w.hostOf.trans h.hostOf
      imem := w.imem.trans h.imem
      ticked := fun g => absurd g w.gated }

theorem runs_kept : KeptByReplay false fun y => y.run = .gated ∨ y.run = .active where
  woken _ _ _ _ w _ := .inr w.run
  queued c _ _ h := by cases c <;> exact h
  replayed _ _ h := h
  stopped := nofun

/-! ## What the replay leaves of the lens -/

theorem LensSt.SameRepairs.refl (z : LensSt) : z.SameRepairs z := ⟨rfl, rfl, rfl⟩

theorem State.raise_sameRepairs {s u : State} (same : u.lenses = s.lenses) (l h : Nat) (c : WakeCause) (j : Nat) :
    (s.lenses.get j).SameRepairs ((u.raise l h c).lenses.get j) := by
  obtain ⟨w, lens⟩ := u.raise_lens l h c j
  rw [lens, same]
  exact ⟨rfl, rfl, rfl⟩

theorem State.replay_sameRepairs {s : State} {l : Nat} (r : Repair) (idle : (s.lenses.get l).repair = none) :
    (s.lenses.get l).SameRepairs ((s.replay l r).lenses.get l) := by
  unfold State.replay
  split
  · unfold State.replayLogic
    dsimp only
    split
    · exact State.raise_sameRepairs (s := s) (by rfl) _ _ .tick l
    · exact .refl _
  · split
    · next i _ =>
      rcases s.replayProt_cases l i r with e | ⟨n, e⟩ | ⟨m, n, e⟩ <;> rw [e]
      · exact .refl _
      · rw [State.updProg_lenses, State.protBegin]
        split
        · exact State.stopFacet_lens (s := s.updFacet l r.spare _) _ idle
        · exact State.raise_sameRepairs (s := s) (by rfl) l r.home .tick l
      · rw [State.updLens_lenses, Tbl.get_upd_same]
        exact ⟨rfl, rfl, rfl⟩
    · exact .refl _

/-- With none waiting, no repair begins (R102). -/
theorem State.nextRepair_none {s : State} {l : Nat} (h : (s.lenses.get l).waitRepair = []) :
    ((s.nextRepair l).lenses.get l).repair = (s.lenses.get l).repair := by
  simp [State.nextRepair, h, State.each]

/-! ## The end of the load, and the time limit (R102, R104) -/

/-- A replay outside a clearing of RUN touches facets, programs, lenses and logic programs only. -/
theorem State.replay_effect_open {s : State} (l : Nat) (r : Repair) (running : s.glb.halting = false) :
    Effect 0x9C0 s (s.replay l r) := by
  have replayed (b : Bool) : Effect 0x9C0 s (s.updFacet l r.spare fun x => { x with replayed := b }) :=
    (s.updFacet_effect l r.spare (fun x => { x with replayed := b }) fun _ h => h).mono rfl
  unfold State.replay
  split
  · exact State.replayLogic_effect ..
  · split
    · next i _ =>
      rcases s.replayProt_cases l i r with e | ⟨n, e⟩ | ⟨m, n, e⟩ <;> rw [e]
      · exact .refl ..
      · rw [State.protBegin, if_neg (by simp [running])]
        exact (((replayed _).go (State.updProg_effect ..) rfl).go (State.raise_effect ..) rfl).go
          (State.updProg_effect ..) rfl
      · exact ((s.updProg_effect ..).mono rfl).go (State.updLens_effect ..) rfl
    · exact .refl ..

theorem State.repairDone_effect_open {s : State} (l : Nat) (r : Repair) (running : s.glb.halting = false) :
    Effect 0x40000009C0 s ((((s.loadSpare l r).replay l r).takeQueued l r.spare).nextRepair l) := by
  have loaded := s.loadSpare_effect l r
  have running : (s.loadSpare l r).glb.halting = false := by rw [loaded.same .glb rfl]; exact running
  exact (((loaded.mono rfl).go (State.replay_effect_open l r running) rfl).go (State.takeQueued_effect ..) rfl).go
    (State.nextRepair_effect ..) rfl

theorem repairLoadDone_ends {s : State} {l : Fin 16} {r : Repair} (h : (s.lenses.get l).repair = some r) :
    let ends : List Part := if s.glb.halting
      then [.freeIdx, .facets, .progs, .lenses, .fencedFlash, .lanes, .logic, .tos, .gps, .arms, .sms, .beams, .pwms, .swc,
            .hif, .mlk, .recs, .obs, .outputs]
      else [.facets, .progs, .lenses, .logic, .recs]
    s.Gives (.repairLoadDone l) ends fun t =>
      let y := t.facets.get (fKey l r.spare)
      y.role = (s.facets.get (fKey l r.failed)).role ∧ y.restored = true ∧ y.firstCycle = false ∧
      y.hostOf = (if r.spare = r.home then none else some r.home) ∧ y.imem = (s.fCfg l r.home).code ∧
      (s.glb.halting = false → y.run = .gated ∨ y.run = .active) ∧
      (t.lenses.get l).repairs = min ((s.lenses.get l).repairs + 1) 255 ∧
      ((s.lenses.get l).waitRepair = [] → (t.lenses.get l).repair = none) := by
  intro ends
  let a := s.loadSpare l r
  let b := (a.replay l r).takeQueued l r.spare
  let t := b.nextRepair l
  have e : exec (.repairLoadDone l) s = .next t := exec_repairLoadDone h
  have glb : a.glb = s.glb := (s.loadSpare_effect l r).same .glb rfl
  have facets : t.facets = b.facets := (b.nextRepair_effect l).same .facets rfl
  obtain ⟨loaded, gated⟩ := s.loadSpare_repaired l r
  obtain ⟨none_, waiting, counted⟩ := s.loadSpare_lens l r
  have repaired : s.Repaired l r (b.facets.get (fKey l r.spare)) :=
    let kept := s.repaired_kept l r a.glb.halting
    kept.takeQueued _ _ (kept.replay l r rfl loaded)
  have runs (running : s.glb.halting = false) :
      (b.facets.get (fKey l r.spare)).run = .gated ∨ (b.facets.get (fKey l r.spare)).run = .active :=
    runs_kept.takeQueued _ _ (runs_kept.replay l r (by rw [← running]; exact congrArg Glb.halting glb) (.inl gated))
  have same : (a.lenses.get l).SameRepairs (b.lenses.get l) := by
    rw [show b.lenses = (a.replay l r).lenses from (State.takeQueued_effect ..).same .lenses rfl]
    exact State.replay_sameRepairs r none_
  refine ⟨t, e, ?_, ?_⟩
  · cases running : s.glb.halting with
    | true => rw [show ends = _ from if_pos running]; exact (Effect.of_ok (execRepairLoadDone_effect l s) e).frame rfl
    | false =>
      rw [show ends = _ from if_neg (by simp [running])]
      exact (State.repairDone_effect_open l r running).frame rfl
  · dsimp only
    rw [facets]
    refine ⟨repaired.role, repaired.restored, repaired.firstCycle, repaired.hostOf, repaired.imem, runs, ?_, fun none_ => ?_⟩
    · exact (b.nextRepair_kept l).repairs.trans (same.repairs.trans counted)
    · exact (State.nextRepair_none (same.waitRepair.trans (waiting.trans none_))).trans (same.repair.trans ‹_›)

theorem exec_repairTimeout {s : State} {l : Fin 16} {r : Repair} (h : (s.lenses.get l).repair = some r) :
    exec (.repairTimeout l) s =
      .next ((s.upTo (r.start + repairLimit (s.fCfg l r.home).role)).lensFail l .repairTime) := by
  show execRepairTimeout l s = _
  simp only [execRepairTimeout, h]

theorem repairTimeout_fails {s : State} {l : Fin 16} {r : Repair} (h : (s.lenses.get l).repair = some r) :
    s.Gives (.repairTimeout l) [.now, .col, .lenses, .recs] fun t =>
      t.now = max s.now (r.start + if (s.fCfg l r.home).role = .loop then 6000 else 40000) ∧
      (t.lenses.get l).failure = some ((s.lenses.get l).failure.getD .repairTime) ∧
      (Ev.lensFailure, l.val + 256 * 3, t.now) ∈ t.recs.evr.events := by
  refine (Effect.of_ok (execRepairTimeout_effect l s) (exec_repairTimeout h)).gives rfl (exec_repairTimeout h)
    ⟨State.upTo_now .., ?_, ?_⟩
  · simp
  · simp [State.lensFail, lensCase]

/-! ## The obligation -/

/-- In a facet that is fenced already an error is only counted, and its self-test is left out (R101, R481). -/
theorem fenced_faults {s : State} {l : Fin 16} {f : Fin 64} (h : (s.facets.get (fKey l f)).run = .fenced) :
    exec (.fetchParity l f) s = .next s ∧ exec (.wakeFail l f) s = .next s ∧ exec (.selftestFail l f) s = .next s ∧
    s.Gives (.sramUncorr l ⟨f, .uncorrectable⟩) [.lenses] (fun t => t.lenses = s.lenses.set l
      { s.lenses.get l with eccUncorr := min ((s.lenses.get l).eccUncorr + 1) 0xFFFF }) ∧
    s.Gives (.sramUncorr l ⟨f, .inSeal⟩) [.lenses] (fun t => t.lenses = s.lenses.set l
      { s.lenses.get l with eccUncorr := min ((s.lenses.get l).eccUncorr + 1) 0xFFFF }) := by
  have counted : Effect 0x100 s (s.countUncorr l) := s.updLens_effect ..
  have still (e : FFault) : (s.countUncorr l).hwFault l f e = s.countUncorr l :=
    State.hwFault_fenced (s := s.countUncorr l) h e
  have found : exec (.sramUncorr l ⟨f, .uncorrectable⟩) s = .next (s.countUncorr l) := congrArg _ (still .sramUncorr)
  have inSeal : exec (.sramUncorr l ⟨f, .inSeal⟩) s = .next (s.countUncorr l) := by
    show execSramUncorr l ⟨f, .inSeal⟩ s = _
    simp only [execSramUncorr, h, if_true]
    exact congrArg _ (still .sramUncorr)
  refine ⟨congrArg _ (State.hwFault_fenced h _), congrArg _ (State.hwFault_fenced h _), ?_,
    counted.gives rfl found rfl, counted.gives rfl inSeal rfl⟩
  show execSelftestFail l f s = _
  rw [execSelftestFail]
  exact if_pos h

/-- Settles O20: whatever finds a fault leaves what `State.FencedAs` says, and the spare of a repair holds what
`State.Repaired` says through the replay. -/
theorem facetsAreFencedAndRepaired : Obligations.FacetsAreFencedAndRepaired := by
  unfold Obligations.FacetsAreFencedAndRepaired
  refine ⟨fun l f s => ⟨fun h => ?_, fenced_faults⟩, fun l r s h => ⟨repairLoadDone_ends h, repairTimeout_fails h⟩⟩
  obtain ⟨found, foundCount⟩ := sramUncorr_fences h
  obtain ⟨inSeal, inSealCount⟩ := sramInSeal_fences h
  exact ⟨found, foundCount, inSeal, inSealCount, sramCorrected_counts s l f, fetchParity_fences h, wakeFail_fences h,
    fun hp => ⟨selftestFail_waits h hp, selftestFail_fences h hp⟩⟩

end Sys2Proof.Machine
end

section
/-! PROOF. Program faults (O19): the fence of a facet that a self-test has found bad can be lost in the same step. -/

namespace Sys2Proof.Machine

/-- Facet 2 of lens 1, which a self-test has found bad, executes logic program 0. The staged package moves that program
to facet 0 of lens 0, which is fenced, and the one spare listed as free in lens 0 has the number 66 = 64 + 2: the key of
facet 2 of lens 1. -/
def strayFreeSpare : State :=
  { State.reset with
    facets := ⟨{}, [(0, { run := .fenced }), (66, { run := .active, testFailed := true })]⟩
    lenses := ⟨{}, [(0, { free := [66] }), (1, { pstate := .run })]⟩
    logic := ⟨{}, [(0, { exchPending := true })]⟩
    units := ⟨{}, [(unitKey (.lens 0), { st := .on })]⟩
    svc := { pkg := { logic := ⟨{}, [(0, { present := true, lens := 1, facet := 2 })]⟩ }
             staged := some { body := { logic := ⟨{}, [(0, { present := true, lens := 0, facet := 0 })]⟩ } } } }

/-- The facet is fenced for its failed test, and the exchange then loads the program onto spare 66 of lens 0, which is
the same facet: it is no longer fenced. -/
theorem strayFreeSpare_unfences :
    ((strayFreeSpare.programFault 1 2 .illegalOp).facets.get (fKey 1 2)).run = .stopped := by decide +kernel

/-- Refutes O19: its clause on a facet that a self-test has found bad puts no bound on the numbers that a lens lists as
free spares. Where one of them lies past the 64 facets, the exchange that waits for the stop loads a program over the facet
just fenced, which then is not FENCED. -/
theorem not_programAndLensFaultsAreHandled : ¬ Obligations.ProgramAndLensFaultsAreHandled := by
  unfold Obligations.ProgramAndLensFaultsAreHandled
  intro holds
  obtain ⟨faults, -⟩ := holds
  obtain ⟨fenced, -⟩ := faults 1 2 1 strayFreeSpare (by decide +kernel) (.inl (by decide)) (by decide +kernel)
    (by decide +kernel)
  obtain ⟨t, -, rfl, run, -⟩ := fenced (by decide +kernel)
  exact absurd (strayFreeSpare_unfences.symm.trans run) nofun

end Sys2Proof.Machine
end

section
/-! PROOF. The state after reset (O60). -/

namespace Sys2Proof.Machine

/-- A ring of a slice that no table lists is OFF (R75). -/
theorem reset_sq_off (i r : Nat) : (State.reset.sq i r).st = .off := by
  have rings : ((State.reset.slice i).sqs.toList).all (fun q => q.st = .off) = true := rfl
  show (((State.reset.slice i).sqs.toList[r]?).getD {}).st = .off
  cases h : (State.reset.slice i).sqs.toList[r]? with
  | none => rfl
  | some q => simpa using List.all_eq_true.1 rings q (List.mem_of_getElem? h)

/-- Settles O60: every unit table is empty, so each unit reads as its default. -/
theorem resetLeavesTheModuleUnpowered : Obligations.ResetLeavesTheModuleUnpowered := by
  unfold Obligations.ResetLeavesTheModuleUnpowered
  exact ⟨rfl, rfl, rfl, rfl, rfl, rfl, rfl, rfl, rfl, rfl, rfl, rfl, rfl, rfl, rfl, rfl, rfl, reset_memOk,
    fun _ => ⟨rfl, rfl⟩, fun _ => rfl, reset_sq_off, fun _ => rfl, fun _ => rfl, fun _ _ => rfl⟩

end Sys2Proof.Machine
end

section
/-! PROOF. The life-cycle state (O5): the dispatch, row by row, and the end of a transition. -/

namespace Sys2Proof.Machine

/-- Every command but the end of LC_TRANSITION answers a next state within an effect, its own one of Laws/Eff*.lean. -/
theorem exec_effect (c : Instr) (s : State) (other : c ≠ .lcTransitionDone) : ∃ m, Effect.ok m s (exec c s) := by
  cases c with
  | nop l f w => exact ⟨_, execNop_effect l f w s⟩
  | ld l f w => exact ⟨_, execLd_effect l f w s⟩
  | and_ l f w => exact ⟨_, execAnd_effect l f w s⟩
  | or_ l f w => exact ⟨_, execOr_effect l f w s⟩
  | xor_ l f w => exact ⟨_, execXor_effect l f w s⟩
  | st l f w => exact ⟨_, execSt_effect l f w s⟩
  | set_ l f w => exact ⟨_, execSet_effect l f w s⟩
  | rst l f w => exact ⟨_, execRst_effect l f w s⟩
  | not_ l f w => exact ⟨_, execNot_effect l f w s⟩
  | la1 l f w => exact ⟨_, execLa1_effect l f w s⟩
  | la0 l f w => exact ⟨_, execLa0_effect l f w s⟩
  | andNest l f w => exact ⟨_, execAndNest_effect l f w s⟩
  | orNest l f w => exact ⟨_, execOrNest_effect l f w s⟩
  | xorNest l f w => exact ⟨_, execXorNest_effect l f w s⟩
  | nestClose l f w => exact ⟨_, execNestClose_effect l f w s⟩
  | fp l f w => exact ⟨_, execFp_effect l f w s⟩
  | fn l f w => exact ⟨_, execFn_effect l f w s⟩
  | ton l f w => exact ⟨_, execTon_effect l f w s⟩
  | tof l f w => exact ⟨_, execTof_effect l f w s⟩
  | tp l f w => exact ⟨_, execTp_effect l f w s⟩
  | ctu l f w => exact ⟨_, execCtu_effect l f w s⟩
  | ctd l f w => exact ⟨_, execCtd_effect l f w s⟩
  | crs l f w => exact ⟨_, execCrs_effect l f w s⟩
  | cld l f w => exact ⟨_, execCld_effect l f w s⟩
  | ju l f w => exact ⟨_, execJu_effect l f w s⟩
  | jc l f w => exact ⟨_, execJc_effect l f w s⟩
  | jcn l f w => exact ⟨_, execJcn_effect l f w s⟩
  | cmp l f w => exact ⟨_, execCmp_effect l f w s⟩
  | mpy l f w => exact ⟨_, execMpy_effect l f w s⟩
  | mac l f w => exact ⟨_, execMac_effect l f w s⟩
  | msu l f w => exact ⟨_, execMsu_effect l f w s⟩
  | mac2 l f w => exact ⟨_, execMac2_effect l f w s⟩
  | adda l f w => exact ⟨_, execAdda_effect l f w s⟩
  | suba l f w => exact ⟨_, execSuba_effect l f w s⟩
  | clra l f w => exact ⟨_, execClra_effect l f w s⟩
  | ash l f w => exact ⟨_, execAsh_effect l f w s⟩
  | sth l f w => exact ⟨_, execSth_effect l f w s⟩
  | add l f w => exact ⟨_, execAdd_effect l f w s⟩
  | sub l f w => exact ⟨_, execSub_effect l f w s⟩
  | neg l f w => exact ⟨_, execNeg_effect l f w s⟩
  | abs l f w => exact ⟨_, execAbs_effect l f w s⟩
  | min l f w => exact ⟨_, execMin_effect l f w s⟩
  | max l f w => exact ⟨_, execMax_effect l f w s⟩
  | lsh l f w => exact ⟨_, execLsh_effect l f w s⟩
  | ldw l f w ecc => exact ⟨_, execLdw_effect l f w ecc s⟩
  | stw l f w => exact ⟨_, execStw_effect l f w s⟩
  | ldi l f w => exact ⟨_, execLdi_effect l f w s⟩
  | addp l f w => exact ⟨_, execAddp_effect l f w s⟩
  | ldp l f w => exact ⟨_, execLdp_effect l f w s⟩
  | stp l f w => exact ⟨_, execStp_effect l f w s⟩
  | ldih l f w => exact ⟨_, execLdih_effect l f w s⟩
  | wait_ l f w => exact ⟨_, execWait_effect l f w s⟩
  | seal_ l f w => exact ⟨_, execSeal_effect l f w s⟩
  | send l f w => exact ⟨_, execSend_effect l f w s⟩
  | recv l f w => exact ⟨_, execRecv_effect l f w s⟩
  | lane l f w => exact ⟨_, execLane_effect l f w s⟩
  | outw l f w => exact ⟨_, execOutw_effect l f w s⟩
  | end_ l f w => exact ⟨_, execEnd_effect l f w s⟩
  | facetWake l f cause => exact ⟨_, execFacetWake_effect l f cause s⟩
  | sramUncorr l f => exact ⟨_, execSramUncorr_effect l f s⟩
  | fetchParity l f => exact ⟨_, execFetchParity_effect l f s⟩
  | wakeFail l f => exact ⟨_, execWakeFail_effect l f s⟩
  | selftestFail l f => exact ⟨_, execSelftestFail_effect l f s⟩
  | repairLoadDone l => exact ⟨_, execRepairLoadDone_effect l s⟩
  | repairTimeout l => exact ⟨_, execRepairTimeout_effect l s⟩
  | lensFailure l => exact ⟨_, execLensFailure_effect l s⟩
  | lensRelocationDone l readable => exact ⟨_, execLensRelocationDone_effect l readable s⟩
  | lensMemUncorr l => exact ⟨_, execLensMemUncorr_effect l s⟩
  | lensStewardFail l => exact ⟨_, execLensStewardFail_effect l s⟩
  | lensPretickWake l => exact ⟨_, execLensPretickWake_effect l s⟩
  | lensWakeTimeout l => exact ⟨_, execLensWakeTimeout_effect l s⟩
  | streamRecordArrival l f bytes => exact ⟨_, execStreamRecordArrival_effect l f bytes s⟩
  | messageArrival l => exact ⟨_, execMessageArrival_effect l s⟩
  | logicSnapshotStart p => exact ⟨_, execLogicSnapshotStart_effect p s⟩
  | logicSnapshotDone p => exact ⟨_, execLogicSnapshotDone_effect p s⟩
  | logicCommitStart p => exact ⟨_, execLogicCommitStart_effect p s⟩
  | logicCommitDone p => exact ⟨_, execLogicCommitDone_effect p s⟩
  | logicWatchdogExpiry p => exact ⟨_, execLogicWatchdogExpiry_effect p s⟩
  | logicRestoreDone p => exact ⟨_, execLogicRestoreDone_effect p s⟩
  | logicExchangeDone p => exact ⟨_, execLogicExchangeDone_effect p s⟩
  | logicExchangeTimeout p => exact ⟨_, execLogicExchangeTimeout_effect p s⟩
  | canFrameRx b fr t => exact ⟨_, execCanFrameRx_effect b fr t s⟩
  | stationPresenceCheck n => exact ⟨_, execStationPresenceCheck_effect n s⟩
  | fbBasicCycleStart b => exact ⟨_, execFbBasicCycleStart_effect b s⟩
  | fbRefTimeout b => exact ⟨_, execFbRefTimeout_effect b s⟩
  | fbCellStart b c => exact ⟨_, execFbCellStart_effect b c s⟩
  | fbFrameTxDone b res => exact ⟨_, execFbFrameTxDone_effect b res s⟩
  | fbErrorFrame b e => exact ⟨_, execFbErrorFrame_effect b e s⟩
  | fbRecoveryDone b => exact ⟨_, execFbRecoveryDone_effect b s⟩
  | fbSupervisionTick b => exact ⟨_, execFbSupervisionTick_effect b s⟩
  | fbcSendExpiry b => exact ⟨_, execFbcSendExpiry_effect b s⟩
  | svFrameRx fr t => exact ⟨_, execSvFrameRx_effect fr t s⟩
  | svKeySwitch k => exact ⟨_, execSvKeySwitch_effect k s⟩
  | focusChainOutput l c => exact ⟨_, execFocusChainOutput_effect l c s⟩
  | protCycleTick sl => exact ⟨_, execProtCycleTick_effect sl s⟩
  | protDeadline sl => exact ⟨_, execProtDeadline_effect sl s⟩
  | settingsLoadDeferred sl r buf => exact ⟨_, execSettingsLoadDeferred_effect sl r buf s⟩
  | toMinonExpiry m => exact ⟨_, execToMinonExpiry_effect m s⟩
  | toOverload m => exact ⟨_, execToOverload_effect m s⟩
  | toNoload m offv => exact ⟨_, execToNoload_effect m offv s⟩
  | gooseRetransmit g => exact ⟨_, execGooseRetransmit_effect g s⟩
  | gooseRx k fr t => exact ⟨_, execGooseRx_effect k fr t s⟩
  | gooseTalExpiry k => exact ⟨_, execGooseTalExpiry_effect k s⟩
  | tiFilterChange n active t => exact ⟨_, execTiFilterChange_effect n active t s⟩
  | tiStuck n => exact ⟨_, execTiStuck_effect n s⟩
  | tiLow n low => exact ⟨_, execTiLow_effect n low s⟩
  | cfFrameTick => exact ⟨_, execCfFrameTick_effect s⟩
  | cfTickMissing => exact ⟨_, execCfTickMissing_effect s⟩
  | cfComputeStart => exact ⟨_, execCfComputeStart_effect s⟩
  | prismRankDone e => exact ⟨_, execPrismRankDone_effect e s⟩
  | cfEmitStart => exact ⟨_, execCfEmitStart_effect s⟩
  | armHoldLimit a => exact ⟨_, execArmHoldLimit_effect a s⟩
  | uplinkFrameRx l fr t => exact ⟨_, execUplinkFrameRx_effect l fr t s⟩
  | beamLockLost l => exact ⟨_, execBeamLockLost_effect l s⟩
  | beamCalDue l => exact ⟨_, execBeamCalDue_effect l s⟩
  | calibrateReplyRx l t turn => exact ⟨_, execCalibrateReplyRx_effect l t turn s⟩
  | beamCalFail l => exact ⟨_, execBeamCalFail_effect l s⟩
  | deblockTimeout a => exact ⟨_, execDeblockTimeout_effect a s⟩
  | pwmPeriodStart n => exact ⟨_, execPwmPeriodStart_effect n s⟩
  | pwmStuck n => exact ⟨_, execPwmStuck_effect n s⟩
  | pwmSyncPulse n t => exact ⟨_, execPwmSyncPulse_effect n t s⟩
  | pwmSyncLost n => exact ⟨_, execPwmSyncLost_effect n s⟩
  | pwmTripClear n => exact ⟨_, execPwmTripClear_effect n s⟩
  | armTripClear a => exact ⟨_, execArmTripClear_effect a s⟩
  | swcFrameRx p fr t => exact ⟨_, execSwcFrameRx_effect p fr t s⟩
  | losslessAdmit p c => exact ⟨_, execLosslessAdmit_effect p c s⟩
  | mcRefused p c => exact ⟨_, execMcRefused_effect p c s⟩
  | swcFrameTx p => exact ⟨_, execSwcFrameTx_effect p s⟩
  | addressAgeOut => exact ⟨_, execAddressAgeOut_effect s⟩
  | linkDown p => exact ⟨_, execLinkDown_effect p s⟩
  | linkUp p => exact ⟨_, execLinkUp_effect p s⟩
  | ptpSyncRx p offset => exact ⟨_, execPtpSyncRx_effect p offset s⟩
  | ptpAnnounceRx p ann => exact ⟨_, execPtpAnnounceRx_effect p ann s⟩
  | ptpPdelayRx p m => exact ⟨_, execPtpPdelayRx_effect p m s⟩
  | announceTimeout => exact ⟨_, execAnnounceTimeout_effect s⟩
  | holdoverEnd byTemp => exact ⟨_, execHoldoverEnd_effect byTemp s⟩
  | refFault => exact ⟨_, execRefFault_effect s⟩
  | tpPulse t => exact ⟨_, execTpPulse_effect t s⟩
  | colTimeRead port => exact ⟨_, execColTimeRead_effect port s⟩
  | colSetGo v => exact ⟨_, execColSetGo_effect v s⟩
  | colSetNsWrite v => exact ⟨_, execColSetNsWrite_effect v s⟩
  | doorbellPoll sl => exact ⟨_, execDoorbellPoll_effect sl s⟩
  | doorbellReadDone sl rc => exact ⟨_, execDoorbellReadDone_effect sl rc s⟩
  | descriptorReadDone sl r d => exact ⟨_, execDescriptorReadDone_effect sl r d s⟩
  | completionWrite sl r => exact ⟨_, execCompletionWrite_effect sl r s⟩
  | msixCoalTimeout sl c => exact ⟨_, execMsixCoalTimeout_effect sl c s⟩
  | hostLinkDown h => exact ⟨_, execHostLinkDown_effect h s⟩
  | hostLinkUp h speed width => exact ⟨_, execHostLinkUp_effect h speed width s⟩
  | nopDesc sl r => exact ⟨_, execNopDesc_effect sl r s⟩
  | ringCreate sl r => exact ⟨_, execRingCreate_effect sl r s⟩
  | ringDestroy sl r => exact ⟨_, execRingDestroy_effect sl r s⟩
  | ringDestroyDone sl r => exact ⟨_, execRingDestroyDone_effect sl r s⟩
  | svc sl r => exact ⟨_, execSvc_effect sl r s⟩
  | unitCtrl sl r => exact ⟨_, execUnitCtrl_effect sl r s⟩
  | frameTx sl r buf => exact ⟨_, execFrameTx_effect sl r buf s⟩
  | glintSub sl r => exact ⟨_, execGlintSub_effect sl r s⟩
  | loadBank sl r buf => exact ⟨_, execLoadBank_effect sl r buf s⟩
  | switchConsumers sl r => exact ⟨_, execSwitchConsumers_effect sl r s⟩
  | setDelay sl r => exact ⟨_, execSetDelay_effect sl r s⟩
  | settingsLoad sl r buf => exact ⟨_, execSettingsLoad_effect sl r buf s⟩
  | settingsSwitch sl r => exact ⟨_, execSettingsSwitch_effect sl r s⟩
  | tripReset sl r => exact ⟨_, execTripReset_effect sl r s⟩
  | keyRotate sl r => exact ⟨_, execKeyRotate_effect sl r s⟩
  | logicStart sl r => exact ⟨_, execLogicStart_effect sl r s⟩
  | logicStop sl r => exact ⟨_, execLogicStop_effect sl r s⟩
  | deblock sl r => exact ⟨_, execDeblock_effect sl r s⟩
  | block sl r => exact ⟨_, execBlock_effect sl r s⟩
  | beamCal sl r => exact ⟨_, execBeamCal_effect sl r s⟩
  | fbcArrival sl r => exact ⟨_, execFbcArrival_effect sl r s⟩
  | fbcSchedule sl r => exact ⟨_, execFbcSchedule_effect sl r s⟩
  | fbcListen sl r => exact ⟨_, execFbcListen_effect sl r s⟩
  | fbcRecover sl r => exact ⟨_, execFbcRecover_effect sl r s⟩
  | fbcSend sl r buf => exact ⟨_, execFbcSend_effect sl r buf s⟩
  | tpArm sl r => exact ⟨_, execTpArm_effect sl r s⟩
  | readEvrLive sl r => exact ⟨_, execReadEvrLive_effect sl r s⟩
  | readEvrLog sl r => exact ⟨_, execReadEvrLog_effect sl r s⟩
  | readLoupe sl r => exact ⟨_, execReadLoupe_effect sl r s⟩
  | readDump sl r => exact ⟨_, execReadDump_effect sl r s⟩
  | readChannelTable sl r => exact ⟨_, execReadChannelTable_effect sl r s⟩
  | perReadRecord sl r => exact ⟨_, execPerReadRecord_effect sl r s⟩
  | perReadHist sl r => exact ⟨_, execPerReadHist_effect sl r s⟩
  | perReadPmap sl r => exact ⟨_, execPerReadPmap_effect sl r s⟩
  | perReadIndex sl r => exact ⟨_, execPerReadIndex_effect sl r s⟩
  | evrFlush sl r => exact ⟨_, execEvrFlush_effect sl r s⟩
  | logFlush sl r => exact ⟨_, execLogFlush_effect sl r s⟩
  | dirtyLogStart sl r => exact ⟨_, execDirtyLogStart_effect sl r s⟩
  | dirtyLogStop sl r => exact ⟨_, execDirtyLogStop_effect sl r s⟩
  | clearFilter sl r => exact ⟨_, execClearFilter_effect sl r s⟩
  | sliceResetReset sl r => exact ⟨_, execSliceResetReset_effect sl r s⟩
  | sliceRemove sl r => exact ⟨_, execSliceRemove_effect sl r s⟩
  | slicePause sl r => exact ⟨_, execSlicePause_effect sl r s⟩
  | sliceResume sl r => exact ⟨_, execSliceResume_effect sl r s⟩
  | resetDone sl => exact ⟨_, execResetDone_effect sl s⟩
  | pauseEffect sl => exact ⟨_, execPauseEffect_effect sl s⟩
  | pauseTimeout sl => exact ⟨_, execPauseTimeout_effect sl s⟩
  | apertureSet sl r => exact ⟨_, execApertureSet_effect sl r s⟩
  | unitEnWrite u en => exact ⟨_, execUnitEnWrite_effect u en s⟩
  | unitStartDone u => exact ⟨_, execUnitStartDone_effect u s⟩
  | unitStopDone u => exact ⟨_, execUnitStopDone_effect u s⟩
  | unitStartFailed u => exact ⟨_, execUnitStartFailed_effect u s⟩
  | unitFenced u => exact ⟨_, execUnitFenced_effect u s⟩
  | powerGood st => exact ⟨_, execPowerGood_effect st s⟩
  | kaStartDone => exact ⟨_, execKaStartDone_effect s⟩
  | bootVerifyDone readOk => exact ⟨_, execBootVerifyDone_effect readOk s⟩
  | mmStartDone => exact ⟨_, execMmStartDone_effect s⟩
  | startupBistDone res => exact ⟨_, execStartupBistDone_effect res s⟩
  | warmRestartDone => exact ⟨_, execWarmRestartDone_effect s⟩
  | holdupCharged energy vstore => exact ⟨_, execHoldupCharged_effect energy vstore s⟩
  | holdupTimeout => exact ⟨_, execHoldupTimeout_effect s⟩
  | runSet => exact ⟨_, execRunSet_effect s⟩
  | runClear => exact ⟨_, execRunClear_effect s⟩
  | runClearDone => exact ⟨_, execRunClearDone_effect s⟩
  | restartWarm sealOk => exact ⟨_, execRestartWarm_effect sealOk s⟩
  | restartCold => exact ⟨_, execRestartCold_effect s⟩
  | mmWatchdogExpiry => exact ⟨_, execMmWatchdogExpiry_effect s⟩
  | mmLockstepFail => exact ⟨_, execMmLockstepFail_effect s⟩
  | mmRestartDone => exact ⟨_, execMmRestartDone_effect s⟩
  | firmwareFatal => exact ⟨_, execFirmwareFatal_effect s⟩
  | dumpFlashCopyDone => exact ⟨_, execDumpFlashCopyDone_effect s⟩
  | kaWatchdog => exact ⟨_, execKaWatchdog_effect s⟩
  | supplyWarn vin => exact ⟨_, execSupplyWarn_effect vin s⟩
  | supplyBelowPfail vin => exact ⟨_, execSupplyBelowPfail_effect vin s⟩
  | pfailQualified => exact ⟨_, execPfailQualified_effect s⟩
  | pfailBlockFramesSent => exact ⟨_, execPfailBlockFramesSent_effect s⟩
  | pfailFlushDone => exact ⟨_, execPfailFlushDone_effect s⟩
  | storeExhausted => exact ⟨_, execStoreExhausted_effect s⟩
  | supplyReturn vin sealOk => exact ⟨_, execSupplyReturn_effect vin sealOk s⟩
  | slotPresentOpen => exact ⟨_, execSlotPresentOpen_effect s⟩
  | latchOpen => exact ⟨_, execLatchOpen_effect s⟩
  | latchClose => exact ⟨_, execLatchClose_effect s⟩
  | xcvrInsert k powerOk qualified => exact ⟨_, execXcvrInsert_effect k powerOk qualified s⟩
  | xcvrRemove k => exact ⟨_, execXcvrRemove_effect k s⟩
  | tempWarn sensor temp => exact ⟨_, execTempWarn_effect sensor temp s⟩
  | tempCrit temp => exact ⟨_, execTempCrit_effect temp s⟩
  | thermalTrip => exact ⟨_, execThermalTrip_effect s⟩
  | fwCommit bank img => exact ⟨_, execFwCommit_effect bank img s⟩
  | fwCommitDone flashOk => exact ⟨_, execFwCommitDone_effect flashOk s⟩
  | keyWriteWrite blk => exact ⟨_, execKeyWriteWrite_effect blk s⟩
  | keyWriteDerive blk => exact ⟨_, execKeyWriteDerive_effect blk s⟩
  | keyWriteErase blk => exact ⟨_, execKeyWriteErase_effect blk s⟩
  | keyWriteExport blk => exact ⟨_, execKeyWriteExport_effect blk s⟩
  | keyWriteLock blk => exact ⟨_, execKeyWriteLock_effect blk s⟩
  | keyWriteDone => exact ⟨_, execKeyWriteDone_effect s⟩
  | attest nonce hostOk => exact ⟨_, execAttest_effect nonce hostOk s⟩
  | attestDone => exact ⟨_, execAttestDone_effect s⟩
  | bist region reservedZero goldenKnown => exact ⟨_, execBist_effect region reservedZero goldenKnown s⟩
  | bistDone o => exact ⟨_, execBistDone_effect o s⟩
  | lcTransition tok => exact ⟨_, execLcTransition_effect tok s⟩
  | sliceCreate blk => exact ⟨_, execSliceCreate_effect blk s⟩
  | pkgCommit img => exact ⟨_, execPkgCommit_effect img s⟩
  | pkgCommitDone flashOk => exact ⟨_, execPkgCommitDone_effect flashOk s⟩
  | hashRekey => exact ⟨_, execHashRekey_effect s⟩
  | hashRekeyDone => exact ⟨_, execHashRekeyDone_effect s⟩
  | registerWrite port addr v width => exact ⟨_, execRegisterWrite_effect port addr v width s⟩
  | ilkLoopReleased x noCur => exact ⟨_, execIlkLoopReleased_effect x noCur s⟩
  | ilkDisagree => exact ⟨_, execIlkDisagree_effect s⟩
  | ilkAgreeRestored => exact ⟨_, execIlkAgreeRestored_effect s⟩
  | ownOpen x => exact ⟨_, execOwnOpen_effect x s⟩
  | claimStart => exact ⟨_, execClaimStart_effect s⟩
  | claimCollision => exact ⟨_, execClaimCollision_effect s⟩
  | claimWindowEnd => exact ⟨_, execClaimWindowEnd_effect s⟩
  | takeoverBoundary => exact ⟨_, execTakeoverBoundary_effect s⟩
  | yield => exact ⟨_, execYield_effect s⟩
  | soloWaitExpiry => exact ⟨_, execSoloWaitExpiry_effect s⟩
  | orphanWaitExpiry => exact ⟨_, execOrphanWaitExpiry_effect s⟩
  | healthReportSend => exact ⟨_, execHealthReportSend_effect s⟩
  | healthReportRx k h => exact ⟨_, execHealthReportRx_effect k h s⟩
  | partnerServiceTimeout => exact ⟨_, execPartnerServiceTimeout_effect s⟩
  | recordEpochClose => exact ⟨_, execRecordEpochClose_effect s⟩
  | epochRx k e => exact ⟨_, execEpochRx_effect k e s⟩
  | epochAckRx k epoch crcOk => exact ⟨_, execEpochAckRx_effect k epoch crcOk s⟩
  | epochNackRx k epoch crcOk => exact ⟨_, execEpochNackRx_effect k epoch crcOk s⟩
  | epochAckTimeout epoch => exact ⟨_, execEpochAckTimeout_effect epoch s⟩
  | resyncReqRx k epoch crcOk => exact ⟨_, execResyncReqRx_effect k epoch crcOk s⟩
  | mirrorLinkDown k => exact ⟨_, execMirrorLinkDown_effect k s⟩
  | mirrorLinkUp k => exact ⟨_, execMirrorLinkUp_effect k s⟩
  | rollingSelftestDone l f pass => exact ⟨_, execRollingSelftestDone_effect l f pass s⟩
  | perGroupTick g => exact ⟨_, execPerGroupTick_effect g s⟩
  | perRecordComplete g => exact ⟨_, execPerRecordComplete_effect g s⟩
  | holdoffEnd g => exact ⟨_, execHoldoffEnd_effect g s⟩
  | perFlashCopyDone rnum => exact ⟨_, execPerFlashCopyDone_effect rnum s⟩
  | perRunWrite g run => exact ⟨_, execPerRunWrite_effect g run s⟩
  | perForce g => exact ⟨_, execPerForce_effect g s⟩
  | evrChannelUpdate n v => exact ⟨_, execEvrChannelUpdate_effect n v s⟩
  | evrIntervalClose n => exact ⟨_, execEvrIntervalClose_effect n s⟩
  | evrFlashFlushDone => exact ⟨_, execEvrFlashFlushDone_effect s⟩
  | loupeArm l b => exact ⟨_, execLoupeArm_effect l b s⟩
  | loupeForce l b => exact ⟨_, execLoupeForce_effect l b s⟩
  | registerRead port addr => exact ⟨_, execRegisterRead_effect port addr s⟩
  | lcTransitionDone => exact absurd rfl other
  | beamLockAcquired l => exact ⟨_, execBeamLockAcquired_effect l s⟩
  | ilkLoopClaimed x => exact ⟨_, execIlkLoopClaimed_effect x s⟩
  | ownOpenClear x => exact ⟨_, execOwnOpenClear_effect x s⟩
  | supplyWarnClear vin => exact ⟨_, execSupplyWarnClear_effect vin s⟩
  | descBucketRefill sl => exact ⟨_, execDescBucketRefill_effect sl s⟩
  | byteBucketRefill sl => exact ⟨_, execByteBucketRefill_effect sl s⟩
  | kaHoursTick => exact ⟨_, execKaHoursTick_effect s⟩
  | svSampleTimeout k => exact ⟨_, execSvSampleTimeout_effect k s⟩
  | lensWakeDone l => exact ⟨_, execLensWakeDone_effect l s⟩

theorem exec_lcs {c : Instr} {s t : State} (other : c ≠ .lcTransitionDone) (e : exec c s = .next t) :
    t.glb.lcs = s.glb.lcs := by
  obtain ⟨m, k⟩ := exec_effect c s other
  exact (Effect.of_ok k e).lcs

/-! ## The end of a transition (R69) -/

theorem State.svcDoing_of_running {s : State} {o : SvcOp} (h : s.svc.running = some o) : s.svcDoing = o.work := by
  unfold State.svcDoing
  rw [h]

/-- A transition to SERVICE, which is no restart. -/
def State.enterService (s : State) (k : Token) : State := (s.lcAction k).toOffline.svcEnd cOk 0

/-- Another transition, up to the restart in which it ends. -/
def State.commitLcs (s : State) (k : Token) : State :=
  (s.lcAction k).updSvc fun v => { v with running := none, waiting := none }

theorem exec_lcTransitionDone {s : State} {k : Token} (h : s.svcDoing = .lcTransition k) (up : s.mlk.mmDown = false) :
    exec .lcTransitionDone s = .next
      (if k.dest = .service then if s.mlk.grant then s.svcEnd cDenied 0 else s.enterService k
       else (s.commitLcs k).restart .lcTransition false) := by
  show execLcTransitionDone s = _
  rw [execLcTransitionDone, h]
  dsimp only
  rw [if_neg (by simp [up])]
  rfl

theorem exec_lcTransitionDone_idle {s : State} (h : (∀ k, s.svcDoing ≠ .lcTransition k) ∨ s.mlk.mmDown = true) :
    exec .lcTransitionDone s = .next s := by
  show execLcTransitionDone s = _
  rw [execLcTransitionDone]
  split
  · next k hk =>
    obtain h | h := h
    · exact absurd hk (h k)
    · rw [if_pos h]
  · rfl

theorem State.enterService_lcs (s : State) (k : Token) : (s.enterService k).glb.lcs = k.dest :=
  ((((State.toOffline_effect _).mono rfl).go (State.svcEnd_effect ..) rfl :
    Effect 0x47AC80008D2 (s.lcAction k) _).lcs).trans (s.lcAction_lcs k)

theorem State.restarted_lcs (s : State) (k : Token) :
    ((s.commitLcs k).restart .lcTransition false).glb.lcs = k.dest :=
  ((State.restart_effect _ _ _).lcs).trans (s.lcAction_lcs k)

/-- A transition that runs has its token in the channel (R69, R412). -/
theorem State.running_of_svcDoing {s : State} {k : Token} (h : s.svcDoing = .lcTransition k) :
    ∃ o : SvcOp, s.svc.running = some o ∧ o.work = .lcTransition k := by
  unfold State.svcDoing at h
  split at h
  · next o ho => exact ⟨o, ho, h⟩
  · cases h

/-- A transition that ends leaves the life-cycle state as it was, or in the destination of its token. -/
theorem lcTransitionDone_lcs {s t : State} {k : Token} (h : s.svcDoing = .lcTransition k) (up : s.mlk.mmDown = false)
    (e : exec .lcTransitionDone s = .next t) : t.glb.lcs = s.glb.lcs ∨ t.glb.lcs = k.dest := by
  rw [exec_lcTransitionDone h up] at e
  cases e
  split
  · split
    · exact .inl (State.svcEnd_effect ..).lcs
    · exact .inr (s.enterService_lcs k)
  · exact .inr (s.restarted_lcs k)

/-- Settles O5: a command within an effect keeps the life-cycle state (`exec_lcs`), and the end of a transition takes it from
the token. -/
theorem lifeCycleChangesOnlyByTransition : Obligations.LifeCycleChangesOnlyByTransition := by
  unfold Obligations.LifeCycleChangesOnlyByTransition
  intro c s t e changed
  by_cases hc : c = .lcTransitionDone
  · subst hc
    refine ⟨rfl, ?_⟩
    by_cases idle : (∀ k, s.svcDoing ≠ .lcTransition k) ∨ s.mlk.mmDown = true
    · rw [exec_lcTransitionDone_idle idle] at e
      cases e
      exact absurd rfl changed
    · obtain ⟨⟨k, hk⟩, up⟩ : (∃ k, s.svcDoing = .lcTransition k) ∧ s.mlk.mmDown = false := by simpa using idle
      obtain ⟨o, running, work⟩ := State.running_of_svcDoing hk
      exact ⟨o, k, running, work, (lcTransitionDone_lcs hk up e).resolve_left changed⟩
  · exact absurd (exec_lcs hc e) changed

end Sys2Proof.Machine
end

section
/-! SUPPORT. Restarts (R63 to R67): a restart as what is cut before it and what is kept over it, and what it leaves of the
registers whatever its cause. -/

namespace Sys2Proof.Machine

/-! ## The two halves of a restart -/

/-- The cause that KA_RST shows: a failed self-test is not forgotten (R62, R419). -/
def State.restartCause (s : State) (c : RstCause) : RstCause := if s.glb.phase = .safe then .bistSafe else c

/-- The restart finds what a warm one needs. -/
def State.restartsWarm (s : State) (c : RstCause) (ok : Bool) : Bool := (s.retain c).flushBeams.warmHolds c ok

/-- What is done before the module starts again: data is retained, the claim dropped, the recorder flushed, and the Service
Channel's work cut. -/
def State.beforeRestart (s : State) (c : RstCause) (warm : Bool) : State :=
  let o := (s.retain c).flushBeams.toOffline
  (if warm then o else o.flushFor (s.restartCause c)).cutSvc

/-- The time base starts again from 0 where its reference has lost its power (R65). -/
def State.retimed (s : State) (c : RstCause) (stopped : Bool) : State :=
  if c = .powerReturn ∨ stopped = true then s.freshTime else s

theorem State.retained_effect (s : State) (c : RstCause) : Effect 0x43AC80018DA s (s.retain c).flushBeams.toOffline :=
  ((s.retain_effect c).mono rfl).go (State.offline_effect _) rfl

theorem State.beforeRestart_effect (s : State) (c : RstCause) (warm : Bool) :
    Effect 0x5FAD8C01FFA s (s.beforeRestart c warm) := by
  have retained := s.retained_effect c
  unfold State.beforeRestart
  cases warm
  · exact ((retained.mono rfl).go (State.flushFor_effect ..) rfl).go (State.cutSvc_effect _) rfl
  · exact (retained.mono rfl).go (State.cutSvc_effect _) rfl

theorem State.restart_eq (s : State) (c : RstCause) (ok : Bool) :
    let w := s.restartsWarm c ok
    let u := s.beforeRestart c w
    s.restart c ok = ((((u.reborn w).retimed c u.col.stopped).updKa fun k =>
      { k with cause := s.restartCause c, count := Nat.min 0xFFFF (k.count + 1),
               journalSealOk := asksWarm c && (s.retain c).flushBeams.ka.retentionValid && ok,
               retentionValid := k.retentionValid && w, bootRetried := false }).updGlb fun g =>
      { g with restartWarm := w }) := by
  have why : (if (s.retain c).flushBeams.toOffline.glb.phase = .safe then RstCause.bistSafe else c) = s.restartCause c := by
    rw [show (s.retain c).flushBeams.toOffline.glb = s.glb from (s.retained_effect c).same .glb rfl]
    rfl
  unfold State.restart
  dsimp only
  rw [why]
  rfl

theorem State.retimed_ka (s : State) (c : RstCause) (stopped : Bool) : (s.retimed c stopped).ka = s.ka := by
  unfold State.retimed
  split <;> rfl

/-- The time base alone may change. -/
theorem State.retimed_effect (s : State) (c : RstCause) (stopped : Bool) : Effect 0x400000000 s (s.retimed c stopped) := by
  unfold State.retimed
  split
  · exact s.freshTime_effect
  · exact .refl _ s

/-! ## What a restart leaves -/

theorem State.restart_glb (s : State) (c : RstCause) (ok : Bool) : (s.restart c ok).glb =
    { ((s.beforeRestart c (s.restartsWarm c ok)).reborn (s.restartsWarm c ok)).glb with
      restartWarm := s.restartsWarm c ok } := by
  rw [s.restart_eq c ok]
  exact congrArg (fun g : Glb => { g with restartWarm := s.restartsWarm c ok }) ((State.retimed_effect ..).same .glb rfl)

/-- A part that neither the clock nor the keep-alive domain's stamps write is as `reborn` leaves it. -/
theorem State.restart_kept (s : State) (c : RstCause) (ok : Bool) :
    Effect 0x40000000C ((s.beforeRestart c (s.restartsWarm c ok)).reborn (s.restartsWarm c ok)) (s.restart c ok) := by
  rw [s.restart_eq c ok]
  exact (((State.retimed_effect ..).mono rfl).go (State.updKa_effect ..) rfl).updGlb (fun _ => rfl) rfl

theorem State.restart_phase (s : State) (c : RstCause) (ok : Bool) : (s.restart c ok).glb.phase = .kaStart := by
  rw [State.restart_glb]
  exact State.reborn_phase ..

/-- A restart that is not warm takes the module number from the pins (R61). -/
theorem State.restart_modnum {s : State} {c : RstCause} {ok : Bool} (cold : s.restartsWarm c ok = false) :
    (s.restart c ok).glb.modnum = s.hw.pins := by
  rw [State.restart_glb, cold]
  exact congrArg HwSt.pins ((s.beforeRestart_effect c false).same .hw rfl)

theorem State.restartsWarm_unsealed (s : State) (c : RstCause) : s.restartsWarm c false = false := by
  simp [State.restartsWarm, State.warmHolds]

end Sys2Proof.Machine
end

section
/-! PROOF. The module number (O54). -/

namespace Sys2Proof.Machine

/-- Ten bits of a word of 32 (R61). -/
theorem read_modnum (p : TimePort) (s : State) :
    exec (.registerRead (.win p) 0x000018) s = .next { s with lastRead := s.glb.modnum.setWidth 32 } := by
  obtain ⟨-, -, -, reads, -⟩ := reads_low s p
  rw [State.readsWin] at reads
  rw [reads]
  congr 2
  exact BitVec.eq_of_toNat_eq (by simp)

theorem write_modnum_same (p : TimePort) {s : State} {v : Word} (h : v.setWidth 10 = s.glb.modnum) :
    exec (.registerWrite (.win p) 0x000018 v 32) s = .next s :=
  (s.answers_low p (by decide)).exec_write (if_pos h)

/-- Before RUN the register takes what is written, changed or not (RWL, R48). -/
theorem write_modnum_open (p : TimePort) {s : State} (v : Word) (h : s.glb.run = false) :
    s.Gives (.registerWrite (.win p) 0x000018 v 32) [.glb] fun t =>
      t.glb = { s.glb with modnum := v.setWidth 10 } := by
  by_cases same : v.setWidth 10 = s.glb.modnum
  · exact (Effect.refl 0 s).gives rfl (write_modnum_same p same) (by rw [same])
  · have written := write_modnum s p same
    simpa [h] using written

theorem write_modnum_locked (p : TimePort) {s : State} {v : Word} (h : s.glb.run = true)
    (other : v.setWidth 10 ≠ s.glb.modnum) :
    s.Gives (.registerWrite (.win p) 0x000018 v 32) [.glb] fun t => t.glb = { s.glb with lockedWrite := true } := by
  simpa [h] using write_modnum s p other

theorem powerGood_pins (st : Straps) {s : State} (h : s.ka.powerGood = false) :
    ∃ t, exec (.powerGood st) s = .next t ∧ t.glb.modnum = st.ga ∧ t.hw.pins = st.ga := by
  refine ⟨s.powerOn st, congrArg Host.Outcome.next (if_neg (by simp [h])), ?_⟩
  unfold State.powerOn
  dsimp only
  split <;> exact ⟨by simp, by simp⟩

theorem State.clearRun_phase (s : State) : s.clearRun.glb.phase = s.glb.phase := by
  unfold State.clearRun
  split <;> rfl

/-- RESTART written as 0b10: a cold restart, where the module takes one (R57, R63). -/
theorem write_restartCold (p : TimePort) (s : State) : exec (.registerWrite (.win p) 0x00000C 4 32) s =
    .next (if s.clearRun.restartOpen then s.clearRun.restart .cmdCold false else s.clearRun) :=
  (s.answers_low p (by decide)).exec_write rfl

/-- A write that takes the module to KA_START has restarted it cold. -/
theorem write_restartCold_modnum {p : TimePort} {s t : State} (h : s.glb.phase ≠ .kaStart)
    (e : exec (.registerWrite (.win p) 0x00000C 4 32) s = .next t) (starts : t.glb.phase = .kaStart) :
    t.glb.modnum = s.hw.pins := by
  rw [write_restartCold] at e
  cases e
  by_cases open_ : s.clearRun.restartOpen = true
  · rw [if_pos open_] at starts ⊢
    rw [State.restart_modnum (State.restartsWarm_unsealed ..)]
    exact congrArg HwSt.pins (s.clearRun_effect.same .hw rfl)
  · rw [if_neg open_, s.clearRun_phase] at starts
    exact absurd starts h

/-- Settles O54. -/
theorem moduleNumberRegister : Obligations.ModuleNumberRegister := by
  unfold Obligations.ModuleNumberRegister
  exact fun p s => ⟨read_modnum p s, write_modnum_open p, fun _ _ => write_modnum_same p,
    fun _ => write_modnum_locked p, fun st => powerGood_pins st, fun _ => write_restartCold_modnum⟩

end Sys2Proof.Machine
end

section
/-! PROOF. Time pulses, time reads and steps of the time base (O37). -/

namespace Sys2Proof.Machine

/-! ## What leaves in between -/

/-- What leaves after `s` and before `t` is among what has left since `s`. -/
theorem mem_sent_of_emit {s a t : State} {x : Emission} (before : s.outputs <+: a.outputs)
    (after : (a.emit x).outputs <+: t.outputs) : x ∈ t.outputs.drop s.outputs.length := by
  obtain ⟨l, hl⟩ := before
  obtain ⟨r, hr⟩ := after
  have sent : (a.emit x).outputs = s.outputs ++ (l ++ [x]) := by
    show a.outputs ++ [x] = _
    rw [← hl, List.append_assoc]
  rw [← hr, sent]
  simp

/-! ## Pulses (R263 to R266) -/

theorem State.upToTai_tai {s : State} {t : Nat} (runs : s.col.stopped = false) (h : t < 2 ^ 64) :
    (s.upToTai t).tai = max s.tai t := by
  unfold State.upToTai
  split
  · next k =>
    obtain k | k := k
    · omega
    · exact absurd (k.symm.trans runs) nofun
  · next k =>
    have below : ¬ t ≤ s.tai := fun c => k (.inl c)
    show t / 1000000000 % 2 ^ 48 * 1000000000 + t % 1000000000 = _
    omega

theorem State.upToTai_tps (s : State) (t : Nat) : (s.upToTai t).col.tps = s.col.tps := by
  unfold State.upToTai
  split <;> rfl

/-- A stopped time base has no next pulse. -/
theorem State.runs_of_tpNext {s : State} {g : Nat} {x : Nat × Nat} (h : s.tpNext g = some x) : s.col.stopped = false := by
  unfold State.tpNext at h
  dsimp only at h
  split at h
  · cases h
  · next k => simpa using k

/-- A generator after its pulse `n` at instant `t`. -/
def TpSt.fires (x : TpSt) (once : Bool) (n t : Nat) : TpSt :=
  { x with count := Nat.max x.top (n % 2 ^ 64), doneTo := Nat.max x.doneTo t, armed := x.armed && !once }

/-- The time base has reached the pulse, and the generator has counted it. -/
def State.pulsed (s : State) (g n t : Nat) : State :=
  (s.upToTai t).updTp g fun x => x.fires (decide ((s.pkg.tps.get g).mode = .once)) n t

theorem exec_tpPulse_waits {s : State} {g : Fin 16} {n t : Nat} (h : s.tpNext g = some (n, t))
    (first : s.tpBefore g t = true) : exec (.tpPulse g) s = .next s := by
  show execTpPulse g s = _
  simp only [execTpPulse, h, first, if_true]

theorem exec_tpPulse {s : State} {g : Fin 16} {n t : Nat} (h : s.tpNext g = some (n, t))
    (first : s.tpBefore g t = false) : exec (.tpPulse g) s = .next ((s.pulsed g n t).pulseOut g t) := by
  have pkg : (s.upToTai t).pkg = s.pkg := congrArg Svc.pkg ((s.upToTai_effect t).same .svc rfl)
  show execTpPulse g s = _
  rw [execTpPulse, h]
  dsimp only
  rw [if_neg (by simp [first]), pkg]
  rfl

theorem State.pulsed_effect (s : State) (g n t : Nat) : Effect 0x400000001 s (s.pulsed g n t) :=
  ((s.upToTai_effect t).mono rfl).go (State.updTp_effect ..) rfl

theorem State.pulsed_tps (s : State) (g n t : Nat) : (s.pulsed g n t).col.tps =
    s.col.tps.upd g fun x => x.fires (decide ((s.pkg.tps.get g).mode = .once)) n t :=
  congrArg (fun z : Tbl TpSt => z.upd g fun x => x.fires (decide ((s.pkg.tps.get g).mode = .once)) n t)
    (s.upToTai_tps t)

/-- The pulse reaches the consumers inside the module: local PWM, published values, Periscope and Loupe (R264). -/
def State.pulseInside (s : State) (g t : Nat) : State :=
  let a := s.each (s.pkg.pwms.keys.filter fun n =>
    decide (n < pwmCount) && (s.pwmCfg n).present && (s.pwmCfg n).sync = 1 && (s.pwmCfg n).tp = g) fun u n =>
      u.pwmSync n (s.now - (s.tai - t))
  let b := a.each (a.pkg.svPubs.keys.filter fun k => (a.pkg.svPubs.get k).en && (a.pkg.svPubs.get k).tp = g) fun u k =>
    u.publish k t
  (b.perEvent 6 g 0).loupeEvent 3 g

/-- The pulse leaves at TPO0 to TPO3 (R467). -/
def State.pulseTpo (s : State) (g at_ wide : Nat) : State :=
  s.each (s.pkg.col.tpo.zipIdx.filter fun x => x.1.2 && x.1.1 = g) fun u x => u.emit (.tpo x.2 at_ wide)

theorem State.pulseInside_effect (s : State) (g t : Nat) : Effect 0x4D282000002 s (s.pulseInside g t) :=
  ((Effect.each (Effect.each (.refl _ s) fun _ _ h => h.go (State.pwmSync_effect ..) rfl) fun _ _ h =>
    h.go (State.publish_effect ..) rfl).go (State.perEvent_effect ..) rfl).go (State.loupeEvent_effect ..) rfl

theorem State.pulseTpo_effect (s : State) (g at_ wide : Nat) : Effect (2 ^ 42) s (s.pulseTpo g at_ wide) :=
  Effect.each (.refl _ s) fun _ _ h => h.go (State.emit_effect ..) rfl

theorem State.pulseOut_eq (s : State) (g t : Nat) : s.pulseOut g t =
    (if (s.pulseInside g t).pkg.col.ppsEn ∧ (s.pulseInside g t).pkg.col.ppsTp = g then
        (s.pulseInside g t).emit (.pps (s.now - (s.tai - t)) (((s.pulseInside g t).pkg.tps.get g).width * 10))
      else s.pulseInside g t).pulseTpo g (s.now - (s.tai - t)) (((s.pulseInside g t).pkg.tps.get g).width * 10) := by
  unfold State.pulseOut State.pulseTpo State.pulseInside
  dsimp only

/-- PPS_OUT gives the pulse of the generator that the package names, at the pulse's own instant (R467). -/
theorem State.pulseOut_pps {s : State} {g t : Nat} (en : s.pkg.col.ppsEn = true) (tp : s.pkg.col.ppsTp = g) :
    Emission.pps (s.now - (s.tai - t)) ((s.pkg.tps.get g).width * 10) ∈ (s.pulseOut g t).outputs.drop s.outputs.length := by
  have inside := s.pulseInside_effect g t
  have pkg : (s.pulseInside g t).pkg = s.pkg := congrArg Svc.pkg (inside.same .svc rfl)
  rw [s.pulseOut_eq g t, pkg, if_pos ⟨en, tp⟩]
  exact mem_sent_of_emit inside.follows.sent (State.pulseTpo_effect ..).follows.sent

theorem tpPulse_fires {s : State} {g : Fin 16} {n t0 : Nat} (h : s.tpNext g = some (n, t0))
    (first : s.tpBefore g t0 = false) (small : t0 < 2 ^ 64) :
    s.Gives (.tpPulse g) [.now, .freeIdx, .svPubs, .pwms, .swc, .col, .hif, .recs, .obs, .outputs] fun t =>
      let x := s.col.tps.get g
      t.tai = max s.tai t0 ∧ t.col.tps.get g = { x with count := max x.top (n % 2 ^ 64), doneTo := max x.doneTo t0,
                                                        armed := x.armed && decide ((s.pkg.tps.get g).mode ≠ .once) } ∧
      (∀ j, j ≠ g.val → t.col.tps.get j = s.col.tps.get j) ∧
      (s.pkg.col.ppsEn = true → s.pkg.col.ppsTp = g.val →
        Emission.pps (t.now - (t.tai - t0)) ((s.pkg.tps.get g).width * 10) ∈ t.outputs.drop s.outputs.length) := by
  let u := s.pulsed g n t0
  have pulsed := s.pulsed_effect g n t0
  have out : Effect 0x4D282000002 u (u.pulseOut g t0) := State.pulseOut_effect ..
  have now : (u.pulseOut g t0).now = u.now := out.same .now rfl
  have col : (u.pulseOut g t0).col = u.col := out.same .col rfl
  have tai : (u.pulseOut g t0).tai = u.tai := by unfold State.tai; rw [col]
  have pkg : u.pkg = s.pkg := congrArg Svc.pkg (pulsed.same .svc rfl)
  have sent : u.outputs = s.outputs := pulsed.same .outputs rfl
  refine ((pulsed.mono rfl).go out rfl : Effect 0x4D682000003 s _).gives rfl (exec_tpPulse h first) ⟨?_, ?_, ?_, ?_⟩
  · rw [tai]
    exact State.upToTai_tai (State.runs_of_tpNext h) small
  · rw [col, State.pulsed_tps, Tbl.get_upd_same]
    simp [TpSt.fires]
  · intro j hj
    rw [col, State.pulsed_tps, Tbl.get_upd_other _ _ (Ne.symm hj)]
  · intro en tp
    have pps := State.pulseOut_pps (s := u) (g := g) (t := t0) (by rw [pkg]; exact en) (by rw [pkg]; exact tp)
    rwa [pkg, sent, ← now, ← tai] at pps

/-! ## Reads of the time (R50, R255) -/

theorem colTimeRead_latches {p : TimePort} {s : State} (ready : s.windowOpen p = true) :
    s.Gives (.colTimeRead p) [.col, .lastRead] fun t =>
      let l : TimeLatch := { s := s.col.sec, frac := s.col.frac / 2 ^ 32 }
      t.lastRead = BitVec.ofNat 32 s.col.ns ∧
      t.col = { s.col with latchH0 := if p = .h0 then l else s.col.latchH0,
                           latchH1 := if p = .h1 then l else s.col.latchH1,
                           latchMM := if p = .mm then l else s.col.latchMM } := by
  have e : exec (.colTimeRead p) s = .next { s.latchTime p with lastRead := BitVec.ofNat 32 s.col.ns } :=
    congrArg Host.Outcome.next (if_pos ready)
  refine ⟨_, e, fun q hq => ?_, rfl, by cases p <;> rfl⟩
  cases q
  case col | lastRead => exact absurd hq (by decide)
  all_goals rfl

theorem colTimeRead_notReady {p : TimePort} {s : State} (ready : s.windowOpen p = false) :
    exec (.colTimeRead p) s = .next { s with glb := { s.glb with notReady := true }, lastRead := 0 } :=
  congrArg Host.Outcome.next (if_neg (by simp [ready]))

/-! ## Settings of the time (R266) -/

theorem exec_colSetNsWrite {s : State} (v : Word) (ready : s.windowOpen .h0 = true) :
    exec (.colSetNsWrite v) s = .next (s.setNs v) := congrArg Host.Outcome.next (if_pos ready)

theorem exec_colSetGo {s : State} (v : Word) (ready : s.windowOpen .h0 = true) :
    exec (.colSetGo v) s = .next (s.setGo v) := congrArg Host.Outcome.next (if_pos ready)

theorem colSet_notReady {s : State} (v : Word) (ready : s.windowOpen .h0 = false) :
    exec (.colSetNsWrite v) s = .next s.notReadyWrite ∧ exec (.colSetGo v) s = .next s.notReadyWrite :=
  ⟨congrArg Host.Outcome.next (if_neg (by simp [ready])), congrArg Host.Outcome.next (if_neg (by simp [ready]))⟩

theorem State.setNs_ignored {s : State} {v : Word} (h : 1000000000 ≤ v.toNat % 2 ^ 30) : s.setNs v = s := if_pos (.inl h)

theorem State.setNs_locked {s : State} {v : Word} (ok : v.toNat % 2 ^ 30 < 1000000000)
    (other : v.toNat % 2 ^ 30 ≠ s.col.setNs) (run : s.glb.run = true) : s.setNs v = s.lockedWrite := by
  unfold State.setNs
  dsimp only
  rw [if_neg (by omega)]
  exact if_pos run

theorem State.setNs_taken {s : State} {v : Word} (ok : v.toNat % 2 ^ 30 < 1000000000) (run : s.glb.run = false) :
    s.setNs v = s.updCol fun c => { c with setNs := v.toNat % 2 ^ 30 } := by
  unfold State.setNs State.rwlLocked
  dsimp only
  split
  · next h =>
    obtain h | h := h
    · omega
    · rw [h]; rfl
  · rw [if_neg (by simp [run])]

/-- The time base shows the same time, in the same state, with the same upper seconds to set. -/
structure ColSt.SameTime (c d : ColSt) : Prop where
  sec : d.sec = c.sec
  ns : d.ns = c.ns
  frac : d.frac = c.frac
  setShi : d.setShi = c.setShi
  st : d.st = c.st

theorem ColSt.SameTime.refl (c : ColSt) : c.SameTime c := ⟨rfl, rfl, rfl, rfl, rfl⟩

theorem ColSt.SameTime.trans {c d e : ColSt} (h : c.SameTime d) (k : d.SameTime e) : c.SameTime e :=
  ⟨k.sec.trans h.sec, k.ns.trans h.ns, k.frac.trans h.frac, k.setShi.trans h.setShi, k.st.trans h.st⟩

theorem State.updTp_sameTime (s : State) (g : Nat) (f : TpSt → TpSt) : s.col.SameTime (s.updTp g f).col :=
  ⟨rfl, rfl, rfl, rfl, rfl⟩

/-- What takes its next pulse after a step: the frames, the basic cycles and the sampled groups (R265). -/
def State.passPulses (s : State) (old t : Nat) : State :=
  let a := s.updCnv fun c => { c with lastPulse := s.pulsePassed old t s.pkg.cnv.tp c.lastPulse }
  let b := a.each [0, 1] fun u k =>
    u.updFbc k fun f => { f with lastPulse := u.pulsePassed old t (u.pkg.fbcs.get k).tp f.lastPulse }
  b.each ((List.range 16).filter fun g => 1 < (b.pkg.perGrps.get g).clock) fun u g =>
    u.updGrp g fun r => { r with lastTick := u.pulsePassed old t (u.pkg.perGrps.get g).src r.lastTick }

theorem State.passPulses_effect (s : State) (old t : Nat) : Effect 0x4804000000 s (s.passPulses old t) :=
  Effect.each (Effect.each ((State.updCnv_effect ..).mono rfl) fun _ _ h => h.go (State.updFbc_effect ..) rfl)
    fun _ _ h => h.go (State.updGrp_effect ..) rfl

theorem State.stepTime_eq (s : State) (t : Nat) : s.stepTime t = ((s.setTai t).passPulses s.tai t).each (List.range 16)
    fun u i => u.updTp i fun x => tpStepped s.tai t (u.onceStart i) x := by
  unfold State.stepTime State.passPulses
  dsimp only

theorem State.setTai_col (s : State) (t : Nat) : (s.setTai t).col = { s.col with
    sec := t / 1000000000 % 2 ^ 48, ns := t % 1000000000, frac := 0, tpSkip := (s.setTai t).col.tpSkip } := rfl

/-- After a step the time base reads the time given, whatever takes its next pulse after it. -/
theorem State.stepTime_sameTime (s : State) (t : Nat) : (s.setTai t).col.SameTime (s.stepTime t).col := by
  have passed : ((s.setTai t).passPulses s.tai t).col = (s.setTai t).col := (State.passPulses_effect ..).same .col rfl
  rw [State.stepTime_eq, ← passed]
  exact State.each_rel (R := fun a b => a.col.SameTime b.col) (fun a => .refl a.col) (fun _ _ _ => .trans)
    (fun u i => u.updTp_sameTime i _) _ _

theorem State.setGo_steps {s : State} {v : Word} (go : v.getLsbD 31 = true) (run : s.glb.run = false)
    (below : s.glb.phase ≠ .running) (free : s.col.st = .freerun) :
    s.setGo v = (s.updCol fun c => { c with setShi := v.setWidth 16 }).stepTime
      (((v.setWidth 16 : Half).toNat * 2 ^ 32 + s.col.setSlo.toNat) * 1000000000 + s.col.setNs) := by
  have taken : (if v.setWidth 16 = s.col.setShi then s
      else if s.rwlLocked then s.lockedWrite else s.updCol fun c => { c with setShi := v.setWidth 16 }) =
      s.updCol fun c => { c with setShi := v.setWidth 16 } := by
    split
    · next h => rw [h]; rfl
    · exact if_neg (by simp [State.rwlLocked, run])
  unfold State.setGo
  dsimp only
  rw [taken, if_pos go]
  exact if_neg (by simp [below, free])

theorem colSetGo_steps {s : State} {v : Word} (ready : s.windowOpen .h0 = true) (go : v.getLsbD 31 = true)
    (run : s.glb.run = false) (below : s.glb.phase ≠ .running) (free : s.col.st = .freerun) (ok : s.col.setNs < 10 ^ 9) :
    s.Gives (.colSetGo v) [.cnv, .col, .fbcs, .recs] fun t =>
      t.col.sec = v.toNat % 2 ^ 16 * 2 ^ 32 + s.col.setSlo.toNat ∧ t.col.ns = s.col.setNs ∧ t.col.frac = 0 ∧
      t.col.setShi = v.setWidth 16 ∧ t.col.st = .freerun := by
  have e := exec_colSetGo v ready
  rw [State.setGo_steps go run below free] at e
  have slo : s.col.setSlo.toNat < 2 ^ 32 := s.col.setSlo.isLt
  have shi : (v.setWidth 16 : Half).toNat = v.toNat % 2 ^ 16 := BitVec.toNat_setWidth ..
  refine (((State.updCol_effect ..).mono rfl).go (State.stepTime_effect ..) rfl : Effect 0x4C04000000 s _).gives rfl e ?_
  obtain ⟨sec, ns, frac, high, st⟩ := State.stepTime_sameTime (s.updCol fun c => { c with setShi := v.setWidth 16 })
    (((v.setWidth 16 : Half).toNat * 2 ^ 32 + s.col.setSlo.toNat) * 1000000000 + s.col.setNs)
  rw [State.setTai_col] at sec ns frac high st
  dsimp only at sec ns frac high st
  refine ⟨?_, ?_, frac, high, st.trans free⟩
  · rw [sec]; omega
  · rw [ns]; omega

theorem colSetGo_locked {s : State} {v : Word} (ready : s.windowOpen .h0 = true) (go : v.getLsbD 31 = true)
    (same : v.setWidth 16 = s.col.setShi) (h : s.glb.phase = .running ∨ s.col.st ≠ .freerun) :
    exec (.colSetGo v) s = .next { s with glb := { s.glb with lockedWrite := true } } := by
  rw [exec_colSetGo v ready]
  unfold State.setGo
  dsimp only
  rw [if_pos same, if_pos go, if_pos h]
  rfl

/-- Settles O37. -/
theorem timePulsesReadsAndSteps : Obligations.TimePulsesReadsAndSteps := by
  unfold Obligations.TimePulsesReadsAndSteps
  refine fun s => ⟨fun _ _ _ => exec_tpPulse_waits, fun _ _ _ => tpPulse_fires, fun _ => colTimeRead_latches,
    fun _ => colTimeRead_notReady, colSet_notReady, fun v ready => ⟨fun ok run => ?_, fun h => ?_, fun ok other run => ?_,
      fun go run below free => colSetGo_steps ready go run below free, colSetGo_locked ready⟩⟩
  · have e := (exec_colSetNsWrite v ready).trans (congrArg _ (State.setNs_taken ok run))
    exact (State.updCol_effect ..).gives rfl e rfl
  · rw [exec_colSetNsWrite v ready, State.setNs_ignored h]
  · rw [exec_colSetNsWrite v ready, State.setNs_locked ok other run]
    rfl

end Sys2Proof.Machine
end

section
/-! SUPPORT. Rings and writes to host memory: what bringing ring states up to date leaves of the journal, of every ring and
of every slice (R295, R298, R303, R313). -/

namespace Sys2Proof.Machine

/-! ## One ring of a slice -/

theorem getD_setIfInBounds {α : Type} {n : Nat} (v : Vector α n) (r k : Nat) (a d : α) :
    ((v.setIfInBounds r a).toList[k]?).getD d = if r = k ∧ r < n then a else (v.toList[k]?).getD d := by
  simp only [Vector.toList, Vector.toArray_setIfInBounds, Array.toList_setIfInBounds, List.getElem?_set]
  by_cases h : r = k
  · subst h
    by_cases hr : r < n <;> simp [hr]
  · simp [h]

theorem State.slice_updSlice (s : State) (i j : Nat) (f : SliceSt → SliceSt) :
    (s.updSlice i f).slice j = if i = j then f (s.slice i) else s.slice j := Tbl.get_upd ..

theorem State.sq_updSq (s : State) (i r j k : Nat) (f : SqSt → SqSt) :
    (s.updSq i r f).sq j k = if i = j ∧ r = k ∧ r < 8 then f (s.sq i r) else s.sq j k := by
  unfold State.sq State.updSq
  rw [State.slice_updSlice]
  by_cases h : i = j
  · subst h
    simp only [if_true, true_and]
    exact getD_setIfInBounds ..
  · simp [h]

theorem State.cq_updCq (s : State) (i c j k : Nat) (f : CqSt → CqSt) :
    (s.updCq i c f).cq j k = if i = j ∧ c = k ∧ c < 8 then f (s.cq i c) else s.cq j k := by
  unfold State.cq State.updCq
  rw [State.slice_updSlice]
  by_cases h : i = j
  · subst h
    simp only [if_true, true_and]
    exact getD_setIfInBounds ..
  · simp [h]

/-- A slice without its rings, its dirty log and its polling: what a change of a ring state leaves alone. -/
def SliceSt.core (x : SliceSt) : SliceSt :=
  { x with sqs := .replicate 8 {}, cqs := .replicate 8 {}, curUs := 0, empty := 0, pollNow := none, limited := 0, dirty := {} }

theorem SliceSt.core_with (x : SliceSt) (sqs : Vector SqSt 8) (cqs : Vector CqSt 8) (us n k : Nat) (p : Option Nat)
    (d : DirtySt) :
    ({ x with sqs := sqs, cqs := cqs, curUs := us, empty := n, pollNow := p, limited := k, dirty := d } : SliceSt).core =
      x.core := rfl

theorem State.core_updSlice {s : State} {i : Nat} {f : SliceSt → SliceSt} (h : ∀ x, (f x).core = x.core) (j : Nat) :
    ((s.updSlice i f).slice j).core = (s.slice j).core := by
  rw [State.slice_updSlice]
  split
  · next e => rw [h, e]
  · rfl

theorem State.sq_updSlice {s : State} {i : Nat} {f : SliceSt → SliceSt} (h : ∀ x, (f x).sqs = x.sqs) (j r : Nat) :
    (s.updSlice i f).sq j r = s.sq j r := by
  unfold State.sq
  rw [State.slice_updSlice]
  split
  · next e => rw [h, e]
  · rfl

theorem State.cq_updSlice {s : State} {i : Nat} {f : SliceSt → SliceSt} (h : ∀ x, (f x).cqs = x.cqs) (j c : Nat) :
    (s.updSlice i f).cq j c = s.cq j c := by
  unfold State.cq
  rw [State.slice_updSlice]
  split
  · next e => rw [h, e]
  · rfl

/-! ## What ring states and host writes leave -/

/-- FULL of a completion ring as it is now (R301). -/
def CqSt.isFull (q : CqSt) : Bool := q.on && cqFree q = 0

/-- A ring is OFF or DESTROYING in both states of it, or in neither. -/
def SqSt.SameShut (q : SqSt) (x : SqState) : Prop := (x = .off ↔ q.st = .off) ∧ (x = .destroying ↔ q.st = .destroying)

/-- A submission ring after a change of the state it shows. -/
def SqSt.Shown (q p : SqSt) : Prop := ∃ x, p = { q with st := x } ∧ q.SameShut x

/-- A completion ring after a change of the FULL that it shows. -/
def CqSt.Shown (q p : CqSt) : Prop := p = q ∨ p = { q with full := q.isFull }

theorem SqSt.Shown.of_eq {q p : SqSt} (h : p = q) : q.Shown p := ⟨q.st, h, .rfl, .rfl⟩

theorem SqSt.Shown.trans {q p o : SqSt} (h : q.Shown p) (k : p.Shown o) : q.Shown o := by
  obtain ⟨x, rfl, off, des⟩ := h
  obtain ⟨y, rfl, off', des'⟩ := k
  exact ⟨y, rfl, off'.trans off, des'.trans des⟩

theorem CqSt.Shown.trans {q p o : CqSt} (h : q.Shown p) (k : p.Shown o) : q.Shown o := by
  obtain rfl | rfl := h
  · exact k
  · obtain rfl | rfl := k
    · exact .inr rfl
    · exact .inr rfl

/-- `t` is `s` after writes to host memory and changes of ring states: the journal, the rings but for their shown states,
and the slices but for their polling and their dirty logs are the same. -/
structure State.Synced (s t : State) : Prop where
  now : t.now = s.now
  journal : t.hif.journal = s.hif.journal
  fetch : t.hif.fetchStopped = s.hif.fetchStopped
  up : ∀ h, (t.hif.ports.get h).up = (s.hif.ports.get h).up
  core : ∀ i, (t.slice i).core = (s.slice i).core
  sq : ∀ i r, (s.sq i r).Shown (t.sq i r)
  cq : ∀ i c, (s.cq i c).Shown (t.cq i c)
  due : ∀ i, (s.slice i).pollNow = some s.now → (t.slice i).pollNow = some s.now
  dump : t.recs.dump = s.recs.dump ∧ t.recs.dumpNo = s.recs.dumpNo

namespace State.Synced

theorem refl (s : State) : s.Synced s where
  now := rfl
  journal := rfl
  fetch := rfl
  up _ := rfl
  core _ := rfl
  sq _ _ := SqSt.Shown.of_eq rfl
  cq _ _ := .inl rfl
  due _ h := h
  dump := ⟨rfl, rfl⟩

theorem trans {s t u : State} (h : s.Synced t) (k : t.Synced u) : s.Synced u where
  now := k.now.trans h.now
  journal := k.journal.trans h.journal
  fetch := k.fetch.trans h.fetch
  up p := (k.up p).trans (h.up p)
  core i := (k.core i).trans (h.core i)
  sq i r := (h.sq i r).trans (k.sq i r)
  cq i c := (h.cq i c).trans (k.cq i c)
  due i hi := by
    rw [← h.now]
    exact k.due i (by rw [h.now]; exact h.due i hi)
  dump := ⟨k.dump.1.trans h.dump.1, k.dump.2.trans h.dump.2⟩

/-- What writes nothing of the host interface and no dump. -/
theorem of_hif {s t : State} (h : t.hif = s.hif) (n : t.now = s.now) (d : t.recs.dump = s.recs.dump)
    (m : t.recs.dumpNo = s.recs.dumpNo) : s.Synced t := by
  have slice (i : Nat) : t.slice i = s.slice i := by unfold State.slice; rw [h]
  exact {
    now := n
    journal := by rw [h]
    fetch := by rw [h]
    up := fun p => by rw [h]
    core := fun i => by rw [slice]
    sq := fun i r => SqSt.Shown.of_eq (by unfold State.sq; rw [slice])
    cq := fun i c => .inl (by unfold State.cq; rw [slice])
    due := fun i hi => by rw [slice]; exact hi
    dump := ⟨d, m⟩ }

/-- A change of a slice outside its core and its rings. -/
theorem updSlice (s : State) (i : Nat) {f : SliceSt → SliceSt} (hc : ∀ x, (f x).core = x.core) (hs : ∀ x, (f x).sqs = x.sqs)
    (hq : ∀ x, (f x).cqs = x.cqs) (hp : ∀ x : SliceSt, x.pollNow = some s.now → (f x).pollNow = some s.now) :
    s.Synced (s.updSlice i f) where
  now := rfl
  journal := rfl
  fetch := rfl
  up _ := rfl
  core := State.core_updSlice hc
  sq j r := SqSt.Shown.of_eq (State.sq_updSlice hs j r)
  cq j c := .inl (State.cq_updSlice hq j c)
  due j hj := by
    rw [State.slice_updSlice]
    split
    · next e => exact hp _ (by rw [e]; exact hj)
    · exact hj
  dump := ⟨rfl, rfl⟩

theorem each {α : Type} {f : State → α → State} (h : ∀ (t : State) (x : α), t.Synced (f t x)) (s : State) (xs : List α) :
    s.Synced (s.each xs f) := State.each_rel refl (fun _ _ _ => trans) h s xs

end State.Synced

/-! ## The writes -/

theorem State.updHostPort_held (s : State) (h : Nat) (e : Emission) :
    s.Synced (s.updHostPort h fun p => { p with held := p.held ++ [e] }) where
  now := rfl
  journal := rfl
  fetch := rfl
  up k := by
    rw [State.updHostPort]
    show ((s.hif.ports.upd h _).get k).up = _
    rw [Tbl.get_upd]
    split
    · next e => rw [e]
    · rfl
  core _ := rfl
  sq _ _ := SqSt.Shown.of_eq rfl
  cq _ _ := .inl rfl
  due _ h := h
  dump := ⟨rfl, rfl⟩

theorem State.hostEmit_synced (s : State) (i : Nat) (e : Emission) : s.Synced (s.hostEmit i e) := by
  unfold State.hostEmit
  split
  · exact .of_hif rfl rfl rfl rfl
  · exact s.updHostPort_held _ e

theorem State.updDirty_synced (s : State) (i : Nat) (f : SliceSt → DirtySt) :
    s.Synced (s.updSlice i fun x => { x with dirty := f x }) :=
  .updSlice s i (fun x => x.core_with x.sqs x.cqs x.curUs x.empty x.limited x.pollNow (f x)) (fun _ => rfl) (fun _ => rfl)
    fun _ h => h

theorem State.event_synced (s : State) (e : Ev) (d : Nat) : s.Synced (s.event e d) := .of_hif rfl rfl rfl rfl

/-- CONSUMED is read where the ring looks full (R335). -/
def State.readConsumed (s : State) (d : DirtySt) : State × DirtySt :=
  if d.depth ≤ d.produced - d.consumed then
    let (v, s) := s.free
    (s, { d with consumed := d.consumed + v.toNat % (d.produced - d.consumed + 1) })
  else (s, d)

theorem State.readConsumed_synced (s : State) (d : DirtySt) : s.Synced (s.readConsumed d).1 := by
  unfold State.readConsumed
  split
  · exact .of_hif rfl rfl rfl rfl
  · exact .refl s

/-- A page is recorded, or the log overflows (R334, R336). -/
def State.logPage (s : State) (i p : Nat) (d : DirtySt) : State :=
  let s := s.updSlice i fun x => { x with dirty := d }
  if d.depth ≤ d.produced - d.consumed then
    (s.updSlice i fun x => { x with dirty.overflow := true }).event .dirtyLogOverflow i
  else
    let s := s.updSlice i fun x =>
      { x with dirty := { d with produced := d.produced + 1, filter := putRow d.filter (p % 4096) p } }
    s.hostEmit 0 (.host 0 (.dirty i (d.produced % d.depth) (d.produced / d.depth % 2 = 0) p))

theorem State.logPage_synced (s : State) (i p : Nat) (d : DirtySt) : s.Synced (s.logPage i p d) := by
  have put := s.updDirty_synced i fun _ => d
  unfold State.logPage
  dsimp only
  split
  · exact (put.trans (State.updDirty_synced _ i _)).trans (State.event_synced ..)
  · exact (put.trans (State.updDirty_synced _ i _)).trans (State.hostEmit_synced ..)

theorem State.dirtyPage_eq (s : State) (i p : Nat) : s.dirtyPage i p =
    let d := (s.slice i).dirty
    if findRow d.filter (p % 4096) = some p then
      s.updSlice i fun x => { x with dirty.filtered := sat32 x.dirty.filtered 1 }
    else if d.overflow then s else (s.readConsumed d).1.logPage i p (s.readConsumed d).2 := rfl

theorem State.dirtyPage_synced (s : State) (i p : Nat) : s.Synced (s.dirtyPage i p) := by
  rw [State.dirtyPage_eq]
  dsimp only
  split
  · exact s.updDirty_synced i _
  · split
    · exact .refl s
    · exact (s.readConsumed_synced _).trans (State.logPage_synced ..)

theorem State.hostWrite_synced (s : State) (i : Nat) (w : HostWrite) : s.Synced (s.hostWrite i w) := by
  unfold State.hostWrite
  dsimp only
  split
  · exact .refl s
  · refine State.Synced.trans ?_ (State.hostEmit_synced ..)
    split
    · exact .each (fun t p => t.dirtyPage_synced i p) s _
    · exact .refl s

theorem State.msix_synced (s : State) (i v : Nat) : s.Synced (s.msix i v) := by
  unfold State.msix
  dsimp only
  split
  · exact { State.Synced.refl s with }
  · exact State.hostEmit_synced ..

theorem State.stateIrq_synced (s : State) (i : Nat) : s.Synced (s.stateIrq i) := s.msix_synced ..

theorem State.setPoll_synced (s : State) (i us : Nat) : s.Synced (s.setPoll i us) := by
  have set : s.Synced (s.updSlice i fun x => { x with curUs := us, empty := 0 }) :=
    .updSlice s i (fun x => x.core_with x.sqs x.cqs us 0 x.limited x.pollNow x.dirty) (fun _ => rfl) (fun _ => rfl)
      fun _ h => h
  unfold State.setPoll
  dsimp only
  split
  · exact set
  · exact set.trans (State.hostWrite_synced ..)

/-- A slice whose poll is due now stays so. -/
theorem State.pollAtOnce_synced (s : State) (i : Nat) : s.Synced (s.pollAtOnce i) := by
  unfold State.pollAtOnce
  dsimp only
  generalize hn : (if s.polls i ∧ ¬ (s.slice i).pollOut then Nat.min s.now (s.pollDue i) else s.now) = n
  have due (h : (s.slice i).pollNow = some s.now) : n = s.now := by
    have at_ : s.pollDue i = s.now := by
      simp only [State.pollDue, h]
    rw [← hn, at_]
    split
    · exact Nat.min_self _
    · rfl
  exact {
    now := rfl
    journal := rfl
    fetch := rfl
    up := fun _ => rfl
    core := State.core_updSlice fun x => x.core_with x.sqs x.cqs x.curUs x.empty x.limited (some n) x.dirty
    sq := fun j r => SqSt.Shown.of_eq (State.sq_updSlice (by intro _; rfl) j r)
    cq := fun j c => .inl (State.cq_updSlice (by intro _; rfl) j c)
    due := fun j hj => by
      rw [State.slice_updSlice]
      split
      · next e =>
        subst e
        exact congrArg some (due hj)
      · exact hj
    dump := ⟨rfl, rfl⟩ }

/-! ## The states -/

/-- A ring shows OFF and DESTROYING when it is, whatever it waits for. -/
theorem State.ringState_shut (s : State) (i r : Nat) : (s.sq i r).SameShut (s.ringState i r) := by
  unfold State.ringState SqSt.SameShut
  dsimp only
  split
  · next h => simp [h]
  · next h =>
    split
    · next k => simp [k]
    · next k =>
      refine ⟨⟨fun c => ?_, fun c => absurd c h⟩, ⟨fun c => ?_, fun c => absurd c k⟩⟩ <;> (split_ifs at c)

theorem State.core_updSq (s : State) (i r : Nat) (f : SqSt → SqSt) (j : Nat) :
    ((s.updSq i r f).slice j).core = (s.slice j).core :=
  State.core_updSlice (fun x => x.core_with _ x.cqs x.curUs x.empty x.limited x.pollNow x.dirty) j

theorem State.core_updCq (s : State) (i c : Nat) (f : CqSt → CqSt) (j : Nat) :
    ((s.updCq i c f).slice j).core = (s.slice j).core :=
  State.core_updSlice (fun x => x.core_with x.sqs _ x.curUs x.empty x.limited x.pollNow x.dirty) j

theorem State.pollNow_updSlice {s : State} {i : Nat} {f : SliceSt → SliceSt} (h : ∀ x, (f x).pollNow = x.pollNow)
    (j : Nat) : ((s.updSlice i f).slice j).pollNow = (s.slice j).pollNow := by
  rw [State.slice_updSlice]
  split
  · next e => rw [h, e]
  · rfl

theorem State.updSq_st_synced {s : State} {i r : Nat} {x : SqState} (h : (s.sq i r).SameShut x) :
    s.Synced (s.updSq i r fun q => { q with st := x }) where
  now := rfl
  journal := rfl
  fetch := rfl
  up _ := rfl
  core := s.core_updSq i r _
  sq j k := by
    rw [State.sq_updSq]
    split
    · next e =>
      obtain ⟨rfl, rfl, -⟩ := e
      exact ⟨x, rfl, h⟩
    · exact SqSt.Shown.of_eq rfl
  cq j c := .inl (State.cq_updSlice (by intro _; rfl) j c)
  due j hj := (State.pollNow_updSlice (by intro _; rfl) j).trans hj
  dump := ⟨rfl, rfl⟩

theorem State.updCq_full_synced {s : State} {i c : Nat} {b : Bool} (h : b = (s.cq i c).isFull) :
    s.Synced (s.updCq i c fun q => { q with full := b }) where
  now := rfl
  journal := rfl
  fetch := rfl
  up _ := rfl
  core := s.core_updCq i c _
  sq j k := SqSt.Shown.of_eq (State.sq_updSlice (by intro _; rfl) j k)
  cq j k := by
    rw [State.cq_updCq]
    split
    · next e =>
      obtain ⟨rfl, rfl, -⟩ := e
      exact .inr (by rw [h])
    · exact .inl rfl
  due j hj := (State.pollNow_updSlice (by intro _; rfl) j).trans hj
  dump := ⟨rfl, rfl⟩

theorem State.syncCq_synced (s : State) (i c : Nat) : s.Synced (s.syncCq i c) := by
  unfold State.syncCq
  dsimp only
  split
  · exact .refl s
  · exact ((State.updCq_full_synced (by rfl)).trans (State.hostWrite_synced ..)).trans (State.stateIrq_synced ..)

theorem State.syncRing_synced (s : State) (i r : Nat) : s.Synced (s.syncRing i r) := by
  unfold State.syncRing
  dsimp only
  split
  · exact .refl s
  · have shown := ((State.updSq_st_synced (s.ringState_shut i r)).trans
      (State.hostWrite_synced _ i (.ringState r (s.ringState i r)))).trans (State.stateIrq_synced _ i)
    split
    · exact (shown.trans (State.pollAtOnce_synced ..)).trans (State.setPoll_synced ..)
    · exact shown

theorem State.syncSlice_synced (s : State) (i : Nat) : s.Synced (s.syncSlice i) := by
  have shown := (State.Synced.each (fun t c => t.syncCq_synced i c) s (List.range 8)).trans
    (State.Synced.each (fun t r => t.syncRing_synced i r) _ (List.range 8))
  unfold State.syncSlice
  dsimp only
  split
  · exact shown.trans (.updSlice _ i (fun x => x.core_with x.sqs x.cqs x.curUs x.empty _ x.pollNow x.dirty) (fun _ => rfl)
      (fun _ => rfl) fun _ h => h)
  · exact shown

/-! ## The journal through writes -/

theorem State.Synced.jEntry {s t : State} (h : s.Synced t) (j : Nat) : t.jEntry j = s.jEntry j := by
  unfold State.jEntry
  rw [h.journal]

theorem State.Synced.ended {s t : State} (h : s.Synced t) {j : Nat} {c : Code} {n : Nat} (e : s.Ended j c n) :
    t.Ended j c n := by
  unfold State.Ended
  rw [h.jEntry]
  exact e

end Sys2Proof.Machine
end

section
/-! SUPPORT. The Service Channel (R70, R73, R74, R314): what reading a block, going on with its work and ending leave. -/

namespace Sys2Proof.Machine

/-! ## The start -/

/-- The operation `o` runs and its block has still to be read, while the Module Manager runs and no supply warning is
active (R15, R438). -/
structure State.Begins (s : State) (o : SvcOp) : Prop where
  running : s.svc.running = some o
  awaiting : o.work = .awaiting
  up : s.mlk.mmDown = false
  quiet : s.ka.warn = false

theorem State.Begins.ready {s : State} {o : SvcOp} (h : s.Begins o) : s.svcReady o.op = true := by
  simp [State.svcReady, h.running, h.awaiting, h.up, h.quiet]

theorem State.svcBlock_some {α : Type} {s : State} {op : Nat} (h : s.svcReady op = true) (b : α) (f : State → α → State) :
    s.svcBlock op (some b) f = f s b := by
  unfold State.svcBlock
  rw [if_neg (not_not_intro h)]

theorem State.svcBlock_none {α : Type} {s : State} {op : Nat} (h : s.svcReady op = true) (f : State → α → State) :
    s.svcBlock op none f = s.svcEnd 0x0102 0 := by
  unfold State.svcBlock
  rw [if_neg (not_not_intro h)]

/-- The operation `o` of `s` goes on with the work `w`. -/
def State.OpGoes (s : State) (o : SvcOp) (w : SvcWork) (t : State) : Prop :=
  t.svc = { s.svc with running := some { o with work := w } }

theorem State.svcWork_goes {s u : State} {o : SvcOp} (run : s.svc.running = some o) (same : u.svc = s.svc) (w : SvcWork) :
    s.OpGoes o w (u.svcWork w) := by
  simp [State.OpGoes, State.svcWork, State.updSvc, same, run]

/-! ## The end -/

/-- The operation `o` of `s` has ended with this code and data: the channel is free for the one that waits, and a descriptor
of the service ring has ended (R74, R314). -/
def State.OpEnds (s : State) (o : SvcOp) (c : Code) (data : Nat) (t : State) : Prop :=
  t.svc = { s.svc with running := s.svc.waiting, waiting := none, tag := o.tag, code := c,
                       done := s.svc.done || decide (o.door = .mailbox) } ∧
  (o.door = .ring → ∀ e, s.jEntry o.jseq = some e → e.state = .started →
    t.Ended o.jseq c (o.tag.toNat + data * 2 ^ 32))

/-- The channel passes to the operation that waits (R74). -/
def State.passChannel (s : State) (o : SvcOp) (c : Code) : State :=
  s.updSvc fun v => { v with running := v.waiting, waiting := none, tag := o.tag, code := c,
                             done := v.done || decide (o.door = .mailbox) }

theorem State.svcEnd_of_running {s : State} {o : SvcOp} (h : s.svc.running = some o) (c : Code) (data : Nat) :
    s.svcEnd c data = (if o.door = .ring then (s.passChannel o c).complete o.jseq c (o.tag.toNat + data * 2 ^ 32)
      else s.passChannel o c).syncSlice 0 := by
  unfold State.svcEnd
  rw [h]
  rfl

theorem State.svcEnd_svc {s : State} {o : SvcOp} (h : s.svc.running = some o) (c : Code) (data : Nat) :
    (s.svcEnd c data).svc = { s.svc with running := s.svc.waiting, waiting := none, tag := o.tag, code := c,
                                         done := s.svc.done || decide (o.door = .mailbox) } := by
  rw [State.svcEnd_of_running h, (State.syncSlice_effect ..).same .svc rfl]
  split
  · exact (State.complete_effect ..).same .svc rfl
  · rfl

theorem State.svcEnd_ended {s : State} {o : SvcOp} (h : s.svc.running = some o) (ring : o.door = .ring) {e : JEntry}
    (he : s.jEntry o.jseq = some e) (started : e.state = .started) (c : Code) (data : Nat) :
    (s.svcEnd c data).Ended o.jseq c (o.tag.toNat + data * 2 ^ 32) := by
  rw [State.svcEnd_of_running h, if_pos ring]
  exact (State.syncSlice_synced ..).ended (State.ended_complete (s.passChannel o c) he (by simp [started]) c _)

/-- An operation ends where neither the channel nor the journal has changed since its start. -/
theorem State.svcEnd_ends {s : State} {o : SvcOp} (run : s.svc.running = some o) (u : State) (same : u.svc = s.svc)
    (journal : u.hif.journal = s.hif.journal) (c : Code) (data : Nat) : s.OpEnds o c data (u.svcEnd c data) := by
  have run' : u.svc.running = some o := by rw [same, run]
  refine ⟨by rw [State.svcEnd_svc run', same], fun ring e he started => State.svcEnd_ended run' ring (e := e) ?_ started c data⟩
  unfold State.jEntry
  rw [journal]
  exact he

/-! ## Writes to the parameter block -/

/-- The host takes what the channel writes to the block of `o` (R71, R73). -/
def State.hears (s : State) (o : SvcOp) : Bool := decide (o.door = .ring) || (s.hif.ports.get o.host).up

theorem State.svcOut_heard {s : State} {o : SvcOp} (run : s.svc.running = some o) (off : Nat) (bytes : List Byte) :
    (s.svcOut off bytes).1 = s.hears o := by
  unfold State.svcOut State.hears
  rw [run]
  cases hd : o.door with
  | ring => simp [hd]
  | mailbox =>
    simp only [hd]
    split
    · next up => simp [up]
    · next down => simp [down]

theorem State.svcOut_synced (s : State) (off : Nat) (bytes : List Byte) : s.Synced (s.svcOut off bytes).2 := by
  unfold State.svcOut
  split
  · exact .refl s
  · split
    · dsimp only
      exact s.hostWrite_synced 0 _
    · split
      · exact .of_hif rfl rfl rfl rfl
      · exact .refl s

theorem State.svcOut_svc (s : State) (off : Nat) (bytes : List Byte) : (s.svcOut off bytes).2.svc = s.svc :=
  (State.svcOut_effect ..).same .svc rfl

end Sys2Proof.Machine
end

section
/-! The checks of Service Channel operations: one rule for each operation whose block has been read. -/

namespace Sys2Proof.Machine

/-! ## FW_COMMIT and PKG_COMMIT (R53, R55, R56, R404) -/

/-- A refused use of a key counts, and the operation ends all the same. -/
theorem State.svcEnd_denied_ends {s : State} {o : SvcOp} (run : s.svc.running = some o) (p : Prop) [Decidable p] (c : Code)
    (data : Nat) : s.OpEnds o c data ((if p then s.denyUse else s).svcEnd c data) := by
  split
  · exact State.svcEnd_ends run s.denyUse rfl rfl c data
  · exact State.svcEnd_ends run s rfl rfl c data

theorem State.imageFail_ends {s : State} {o : SvcOp} (run : s.svc.running = some o) (i : Image) (c : Code) :
    s.OpEnds o c 0 (s.imageFail i c) := State.svcEnd_denied_ends run _ c 0

section
variable {o : SvcOp} {s : State} (b : s.Begins o)
include b

theorem fwCommit_unread (op : o.op = 1) (bank : Bool) :
    s.Gives (.fwCommit bank none) [.freeIdx, .svc, .hif, .mlk, .recs, .obs, .outputs] (s.OpEnds o 0x0102 0) := by
  have e : exec (.fwCommit bank none) s = .next (s.svcEnd 0x0102 0) := congrArg Host.Outcome.next (State.svcBlock_none (op ▸ b.ready) _)
  exact Effect.gives (Effect.of_ok (execFwCommit_effect bank none s) e) rfl e (State.svcEnd_ends b.running s rfl rfl _ _)

theorem fwCommit_checked (op : o.op = 1) (bank : Bool) (i : Image) :
    s.Gives (.fwCommit bank (some i)) [.freeIdx, .svc, .hif, .mlk, .recs, .obs, .outputs] fun t =>
      match s.imageCode false false i with
      | some c => s.OpEnds o c 0 t
      | none => s.OpGoes o (.fwCommit (s.fwTarget bank) i) t := by
  have e : exec (.fwCommit bank (some i)) s = .next _ := congrArg Host.Outcome.next (State.svcBlock_some (op ▸ b.ready) i _)
  refine Effect.gives (Effect.of_ok (execFwCommit_effect bank (some i) s) e) rfl e ?_
  cases s.imageCode false false i with
  | some c => exact State.imageFail_ends b.running i c
  | none => exact State.svcWork_goes b.running rfl _

theorem pkgCommit_checked (op : o.op = 7) (i : Image) :
    s.Gives (.pkgCommit (some i)) [.freeIdx, .svc, .hif, .mlk, .recs, .obs, .outputs] fun t =>
      match s.imageCode true false i with
      | some c => s.OpEnds o c 0 t
      | none => match s.pkgCode i with
        | some c => s.OpEnds o c 0 t
        | none => s.OpGoes o (.pkgCommit i) t := by
  have e : exec (.pkgCommit (some i)) s = .next _ := congrArg Host.Outcome.next (State.svcBlock_some (op ▸ b.ready) i _)
  refine Effect.gives (Effect.of_ok (execPkgCommit_effect (some i) s) e) rfl e ?_
  cases s.imageCode true false i with
  | some c => exact State.imageFail_ends b.running i c
  | none =>
    cases s.pkgCode i with
    | some c => exact State.svcEnd_ends b.running s rfl rfl c 0
    | none => exact State.svcWork_goes b.running rfl _

/-! ## KEY_WRITE (R405, R406) -/

end

/-- The command that carries a KEY_WRITE of this SUBOP. -/
def IsKeyWrite (b : KeyBlock) (c : Instr) : Prop :=
  (c = .keyWriteWrite (some b) ∧ b.subop = 0) ∨ (c = .keyWriteDerive (some b) ∧ b.subop = 1) ∨
    (c = .keyWriteErase (some b) ∧ b.subop = 2) ∨ (c = .keyWriteExport (some b) ∧ b.subop = 3) ∨
    (c = .keyWriteLock (some b) ∧ b.subop = 4)

/-- The five commands of KEY_WRITE are one operation on its block. -/
theorem exec_keyWrite {b : KeyBlock} {c : Instr} (h : IsKeyWrite b c) (s : State) :
    exec c s = .next (s.keyWrite b.subop (some b)) ∧ Effect.ok 0x4F000000012 s (exec c s) := by
  obtain ⟨rfl, h⟩ | ⟨rfl, h⟩ | ⟨rfl, h⟩ | ⟨rfl, h⟩ | ⟨rfl, h⟩ := h <;> rw [h]
  · exact ⟨rfl, execKeyWriteWrite_effect _ s⟩
  · exact ⟨rfl, execKeyWriteDerive_effect _ s⟩
  · exact ⟨rfl, execKeyWriteErase_effect _ s⟩
  · exact ⟨rfl, execKeyWriteExport_effect _ s⟩
  · exact ⟨rfl, execKeyWriteLock_effect _ s⟩

/-- The key that a WRITE or DERIVE prepares (R407). -/
def State.preparedKey (s : State) (b : KeyBlock) : List Byte :=
  if b.subop = 1 then Config.kmac (s.obs.slots.get b.parent).key b.data b.len else b.data.take b.len

theorem State.keyWrite_eq {s : State} (h : s.svcReady 2 = true) (b : KeyBlock) : s.keyWrite b.subop (some b) =
    if ¬ keyForm b then s.svcEnd cInvalid 0
    else match s.keyCode b with
    | some c => (if s.keyRefused b c then s.denyUse else s).svcEnd c 0
    | none => s.svcWork (.keyWrite b (s.preparedKey b)) := by
  unfold State.keyWrite
  rw [State.svcBlock_some h]
  exact if_neg (fun k => k.2 rfl)

theorem keyWrite_checked {o : SvcOp} {s : State} (h : s.Begins o) (op : o.op = 2) {b : KeyBlock} {c : Instr}
    (hc : IsKeyWrite b c) :
    (keyForm b = false → s.Gives c [.freeIdx, .svc, .hif, .mlk, .recs, .obs, .outputs] (s.OpEnds o 0x0004 0)) ∧
    (keyForm b = true → s.Gives c [.freeIdx, .svc, .hif, .mlk, .recs, .obs, .outputs] fun t =>
      match s.keyCode b with
      | some c => s.OpEnds o c 0 t
      | none => s.OpGoes o (.keyWrite b (s.preparedKey b)) t) := by
  obtain ⟨e, eff⟩ := exec_keyWrite hc s
  rw [State.keyWrite_eq (op ▸ h.ready)] at e
  refine ⟨fun bad => Effect.gives (Effect.of_ok eff e) rfl e ?_, fun good => Effect.gives (Effect.of_ok eff e) rfl e ?_⟩
  · rw [if_pos (by simp [bad])]
    exact State.svcEnd_ends h.running s rfl rfl _ _
  · rw [if_neg (by simp [good])]
    cases s.keyCode b with
    | some c => exact State.svcEnd_denied_ends h.running _ c 0
    | none => exact State.svcWork_goes h.running rfl _

/-! ## ATTEST (R413, R414) -/

section
variable {o : SvcOp} {s : State} (b : s.Begins o)
include b

theorem exec_attest (op : o.op = 3) (nonce : List Byte) (hostOk : Bool) : exec (.attest (some nonce) hostOk) s = .next (
    match s.keyCheck 0 5 [] with
    | some c => s.denyUse.svcEnd c 0
    | none =>
      let n := s.measurements.length
      let total := 2680 + 72 * n + 4627
      if s.svcLen < 64 + total then
        let (ok, s) := s.svcOut 32 (leBytes 4 total ++ leBytes 2 n)
        s.svcEnd (if ok && hostOk then cInvalid else 0x0102) (total + n * 2 ^ 32)
      else s.svcWork (.attest (s.statement nonce) n)) :=
  congrArg Host.Outcome.next (State.svcBlock_some (op ▸ b.ready) nonce _)

theorem attest_checked (op : o.op = 3) (nonce : List Byte) (hostOk : Bool) :
    let n := s.measurements.length
    let total := 2680 + 72 * n + 4627
    let ps : List Part := [.freeIdx, .svc, .hif, .mlk, .recs, .obs, .outputs]
    (s.keyCheck 0 5 [] = none → 64 + total ≤ s.svcLen → s.Gives (.attest (some nonce) hostOk) ps
      (s.OpGoes o (.attest (s.statement nonce) n))) ∧
    (s.keyCheck 0 5 [] = none → s.svcLen < 64 + total → s.Gives (.attest (some nonce) hostOk) ps
      (s.OpEnds o (if s.hears o && hostOk then 0x0004 else 0x0102) (total + n * 2 ^ 32))) ∧
    (∀ c, s.keyCheck 0 5 [] = some c → s.Gives (.attest (some nonce) hostOk) ps fun t =>
      s.OpEnds o c 0 t ∧ t.obs.deny = min (s.obs.deny + 1) 0xFFFFFFFF) := by
  dsimp only
  have e := exec_attest b op nonce hostOk
  have eff := execAttest_effect (some nonce) hostOk s
  refine ⟨fun key long => ?_, fun key short => ?_, fun c key => ?_⟩ <;> rw [key] at e
  · refine Effect.gives (Effect.of_ok eff e) rfl e ?_
    dsimp only
    rw [if_neg (Nat.not_lt.2 long)]
    exact State.svcWork_goes b.running rfl _
  · refine Effect.gives (Effect.of_ok eff e) rfl e ?_
    dsimp only
    rw [if_pos short, State.svcOut_heard b.running]
    exact State.svcEnd_ends b.running _ (s.svcOut_svc ..) (s.svcOut_synced ..).journal _ _
  · refine Effect.gives (Effect.of_ok eff e) rfl e ⟨State.svcEnd_ends b.running s.denyUse rfl rfl c 0, ?_⟩
    exact congrArg ObsSt.deny ((State.svcEnd_effect s.denyUse c 0).same .obs rfl)

/-! ## BIST (R415, R416) -/

end

/-- What refuses a test of region `r` (R416, log 50). -/
def State.bistCode (s : State) (r : Nat) (zero known : Bool) : Option Code :=
  if zero = false ∨ regionKnown r = false then some 0x0004
  else if s.bistPermitted = false then some 0x0005
  else if regionPresent r = false then some 0x0003
  else if s.regionFree r = false then some 0x0D02
  else if known = false then some 0x0D03
  else none

/-- The test of region `r` begins (R415). -/
def State.beginBist (s : State) (r : Nat) : State :=
  let s := (s.svcWork (.bist r)).updBst fun b => { b with busy := true, region := r }
  if r = 0x700 then s.updGlb fun g => { g with holdupReady := false } else s

theorem exec_bist {o : SvcOp} {s : State} (b : s.Begins o) (op : o.op = 4) (r : Nat) (zero known : Bool) :
    exec (.bist (some r) zero known) s = .next (match s.bistCode r zero known with
      | some c => s.svcEnd c 0
      | none => s.beginBist r) := by
  refine congrArg Host.Outcome.next ((State.svcBlock_some (op ▸ b.ready) r _).trans ?_)
  change (if ¬ zero ∨ ¬ regionKnown r then s.svcEnd cInvalid 0
    else if ¬ s.bistPermitted then s.svcEnd cDenied 0
    else if ¬ regionPresent r then s.svcEnd cUnsupported 0
    else if ¬ s.regionFree r then s.svcEnd 0x0D02 0
    else if ¬ known then s.svcEnd 0x0D03 0
    else s.beginBist r) = _
  unfold State.bistCode
  simp only [Bool.not_eq_true]
  split_ifs <;> rfl

theorem State.beginBist_facts {s : State} {o : SvcOp} (run : s.svc.running = some o) (r : Nat) :
    s.OpGoes o (.bist r) (s.beginBist r) ∧ (s.beginBist r).bst = { s.bst with busy := true, region := r } := by
  have goes := State.svcWork_goes run rfl (.bist r)
  unfold State.beginBist
  dsimp only
  split <;> exact ⟨goes, rfl⟩

theorem bist_checked {o : SvcOp} {s : State} (b : s.Begins o) (op : o.op = 4) (r : Nat) (zero known : Bool) :
    s.Gives (.bist (some r) zero known) [.freeIdx, .glb, .svc, .hif, .mlk, .recs, .bst, .outputs] fun t =>
      match s.bistCode r zero known with
      | some c => s.OpEnds o c 0 t ∧ t.bst = s.bst
      | none => s.OpGoes o (.bist r) t ∧ t.bst = { s.bst with busy := true, region := r } := by
  have e := exec_bist b op r zero known
  refine Effect.gives (Effect.of_ok (execBist_effect (some r) zero known s) e) rfl e ?_
  cases s.bistCode r zero known with
  | some c => exact ⟨State.svcEnd_ends b.running s rfl rfl c 0, (s.svcEnd_effect c 0).same .bst rfl⟩
  | none => exact State.beginBist_facts b.running r

/-! ## LC_TRANSITION, SLICE_CREATE and HASH_REKEY (R69, R320, R412, R244) -/

theorem lcTransition_checked {o : SvcOp} {s : State} (b : s.Begins o) (op : o.op = 5) (k : Token) :
    s.Gives (.lcTransition (some k)) [.freeIdx, .svc, .hif, .mlk, .recs, .obs, .outputs] fun t =>
      match (if s.svcLen = 4691 then s.tokenCode k else some 0x0004) with
      | some c => s.OpEnds o c 0 t
      | none => s.OpGoes o (.lcTransition k) t := by
  have e : exec (.lcTransition (some k)) s = .next _ := congrArg Host.Outcome.next (State.svcBlock_some (op ▸ b.ready) k _)
  refine Effect.gives (Effect.of_ok (execLcTransition_effect (some k) s) e) rfl e ?_
  change match (if s.svcLen = 4691 then s.tokenCode k else some cInvalid) with
      | some c => s.OpEnds o c 0 _
      | none => s.OpGoes o (.lcTransition k) _
  cases (if s.svcLen = 4691 then s.tokenCode k else some cInvalid) with
  | some c => exact State.svcEnd_denied_ends b.running _ c 0
  | none => exact State.svcWork_goes b.running rfl _

/-- A slice comes into being and starts (R320, R321). -/
def State.createSlice (s : State) (b : SliceBlock) : State :=
  (((s.updSlice b.slice (newSliceOf b)).updUnit (.slice b.slice) fun u => { u with en := true }).unitBegin
    (.slice b.slice)).svcWork (.sliceCreate b)

theorem State.unit_updUnit (s : State) (u : UnitId) (f : UnitSt → UnitSt) : (s.updUnit u f).unit u = f (s.unit u) :=
  Tbl.get_upd_same ..

theorem State.createSlice_effect (s : State) (b : SliceBlock) : Effect 0x1000000030 s (s.createSlice b) :=
  have put : Effect 0x1000000030 s (s.updSlice b.slice (newSliceOf b)) := (State.updSlice_effect ..).mono rfl
  have on := put.go (State.updUnit_effect _ (.slice b.slice) fun u => { u with en := true }) rfl
  have starts := on.go (State.updUnit_effect _ (.slice b.slice) fun x => { x with st := .starting, since := s.now }) rfl
  starts.go (State.svcWork_effect _ (.sliceCreate b)) rfl

theorem exec_sliceCreate {o : SvcOp} {s : State} (h : s.Begins o) (op : o.op = 6) {b : SliceBlock}
    (open_ : (s.unit (.slice b.slice)).fenced = false) : exec (.sliceCreate (some b)) s = .next (match s.sliceCode b with
      | some c => s.svcEnd c 0
      | none => s.createSlice b) := by
  refine congrArg Host.Outcome.next ((State.svcBlock_some (op ▸ h.ready) b _).trans ?_)
  dsimp only
  rw [open_]
  rfl

theorem State.createSlice_facts {s : State} {o : SvcOp} (run : s.svc.running = some o) (b : SliceBlock) :
    let t := s.createSlice b
    s.OpGoes o (.sliceCreate b) t ∧ t.slice b.slice = newSliceOf b (s.slice b.slice) ∧
      (t.slice b.slice).limited = (s.slice b.slice).limited ∧
      (t.unit (.slice b.slice)).st = .starting ∧ (t.unit (.slice b.slice)).en = true := by
  have new : (s.createSlice b).slice b.slice = newSliceOf b (s.slice b.slice) := Tbl.get_upd_same ..
  refine ⟨State.svcWork_goes run rfl _, new, by rw [new]; rfl, ?_⟩
  have unit : (s.createSlice b).unit (.slice b.slice) = _ := State.unit_updUnit _ (.slice b.slice) _
  rw [unit]
  exact ⟨rfl, congrArg UnitSt.en (State.unit_updUnit ..)⟩

theorem sliceCreate_checked {o : SvcOp} {s : State} (h : s.Begins o) (op : o.op = 6) {b : SliceBlock}
    (open_ : (s.unit (.slice b.slice)).fenced = false) :
    s.Gives (.sliceCreate (some b)) [.freeIdx, .svc, .units, .hif, .mlk, .recs, .outputs] fun t =>
      match s.sliceCode b with
      | some c => s.OpEnds o c 0 t ∧ t.units = s.units
      | none => s.OpGoes o (.sliceCreate b) t ∧ t.slice b.slice = newSliceOf b (s.slice b.slice) ∧
          (t.slice b.slice).limited = (s.slice b.slice).limited ∧
          (t.unit (.slice b.slice)).st = .starting ∧ (t.unit (.slice b.slice)).en = true := by
  have e := exec_sliceCreate h op open_
  cases hc : s.sliceCode b with
  | some c =>
    rw [hc] at e
    exact Effect.gives (s.svcEnd_effect c 0) rfl e
      ⟨State.svcEnd_ends h.running s rfl rfl c 0, (s.svcEnd_effect c 0).same .units rfl⟩
  | none =>
    rw [hc] at e
    exact Effect.gives (s.createSlice_effect b) rfl e (State.createSlice_facts h.running b)

theorem hashRekey_begins {o : SvcOp} {s : State} (b : s.Begins o) (op : o.op = 8) :
    s.Gives .hashRekey [.svc, .swc] fun t => s.OpGoes o .hashRekey t ∧ t.swc = { s.swc with rekeying := true } := by
  have e : exec .hashRekey s = .next _ := congrArg Host.Outcome.next (if_pos (op ▸ b.ready))
  exact Effect.gives (Effect.of_ok (execHashRekey_effect s) e) rfl e ⟨State.svcWork_goes b.running rfl _, rfl⟩

/-- Settles O52: each command finds its operation ready, so it runs on the block that was read. -/
theorem serviceOperationsAreChecked : Obligations.ServiceOperationsAreChecked := by
  unfold Obligations.ServiceOperationsAreChecked
  intro o s run aw up quiet
  have b : s.Begins o := ⟨run, aw, up, quiet⟩
  exact ⟨fun op => ⟨fwCommit_unread b op, fwCommit_checked b op⟩, fun op _ _ hc => keyWrite_checked b op hc,
    fun op nonce hostOk => attest_checked b op nonce hostOk, fun op r zero known => bist_checked b op r zero known,
    fun op k => lcTransition_checked b op k, fun op _ open_ => sliceCreate_checked b op open_,
    fun op i => pkgCommit_checked b op i, fun op => hashRekey_begins b op⟩

end Sys2Proof.Machine
end

section
/-! SUPPORT. What programs, lanes, rings and exchanges never change: the key slots, the banks, the taking of descriptors, the
Module Manager's failure, the role, the active package's bank, the dump and the fenced units' alarms (R55, R56, R76, R303,
R350, R371, R403). -/

namespace Sys2Proof.Machine

/-- What is held of a state while programs run, lanes rise, frames go and descriptors end. -/
structure Held where
  slots : Tbl KeySlot
  banks : Option Image × Option Image × Option Image × Option Image
  fetchStopped : Bool
  mmDown : Bool
  role : MlkRole
  active : Bool
  dump : Option Dump
  dumpNo : Nat
  fenced : List (Ev × Nat)

/-- The alarms of fenced units among those that are on. -/
def fencedAlarms (as : List (Ev × Nat)) : List (Ev × Nat) := as.filter fun a => a.1 = .unitFenced

def State.held (s : State) : Held :=
  { slots := s.obs.slots, banks := (s.svc.bankA, s.svc.bankB, s.svc.cfg0, s.svc.cfg1), fetchStopped := s.hif.fetchStopped
    mmDown := s.mlk.mmDown, role := s.mlk.role, active := s.svc.active, dump := s.recs.dump, dumpNo := s.recs.dumpNo
    fenced := fencedAlarms s.recs.evr.alarms }

/-! ## Updates -/

theorem State.held_congr {s t : State} (svc : t.svc = s.svc) (hif : t.hif = s.hif) (mlk : t.mlk = s.mlk) (recs : t.recs = s.recs)
    (obs : t.obs = s.obs) : t.held = s.held := by
  unfold State.held
  rw [svc, hif, mlk, recs, obs]

/-- An effect that leaves the channel, the host interface, the mirror link, the recorder and the key store alone. -/
theorem State.held_of_effect {m : Nat} {s t : State} (h : Effect m s t) (svc : m.testBit Part.svc.ctorIdx = false)
    (hif : m.testBit Part.hif.ctorIdx = false) (mlk : m.testBit Part.mlk.ctorIdx = false)
    (recs : m.testBit Part.recs.ctorIdx = false) (obs : m.testBit Part.obs.ctorIdx = false) : t.held = s.held :=
  State.held_congr (h.same .svc svc) (h.same .hif hif) (h.same .mlk mlk) (h.same .recs recs) (h.same .obs obs)

@[simp] theorem State.held_updSvc (s : State) (f : Svc → Svc) (a : ∀ v, (f v).bankA = v.bankA)
    (b : ∀ v, (f v).bankB = v.bankB) (c : ∀ v, (f v).cfg0 = v.cfg0) (d : ∀ v, (f v).cfg1 = v.cfg1)
    (e : ∀ v, (f v).active = v.active) : (s.updSvc f).held = s.held := by
  simp only [State.held, State.updSvc, a, b, c, d, e]

@[simp] theorem State.held_updHif (s : State) (f : HifSt → HifSt) (h : ∀ x, (f x).fetchStopped = x.fetchStopped) :
    (s.updHif f).held = s.held := by
  simp only [State.held, State.updHif, h]

@[simp] theorem State.held_updMlk (s : State) (f : MlkSt → MlkSt) (h : ∀ x, (f x).mmDown = x.mmDown)
    (k : ∀ x, (f x).role = x.role) : (s.updMlk f).held = s.held := by
  simp only [State.held, State.updMlk, h, k]

@[simp] theorem State.held_updObs (s : State) (f : ObsSt → ObsSt) (h : ∀ x, (f x).slots = x.slots) :
    (s.updObs f).held = s.held := by
  simp only [State.held, State.updObs, h]

@[simp] theorem State.held_updSlice (s : State) (i : Nat) (f : SliceSt → SliceSt) : (s.updSlice i f).held = s.held := rfl
@[simp] theorem State.held_updHostPort (s : State) (i : Nat) (f : HostPortSt → HostPortSt) :
    (s.updHostPort i f).held = s.held := rfl
@[simp] theorem State.held_updGrp (s : State) (i : Nat) (f : PerGrpSt → PerGrpSt) : (s.updGrp i f).held = s.held := rfl
@[simp] theorem State.held_updSwc (s : State) (f : SwcSt → SwcSt) : (s.updSwc f).held = s.held := rfl
@[simp] theorem State.held_updFacet (s : State) (l f : Nat) (g : FacetSt → FacetSt) : (s.updFacet l f g).held = s.held := rfl
@[simp] theorem State.held_updProg (s : State) (l f : Nat) (g : ProgSt → ProgSt) : (s.updProg l f g).held = s.held := rfl
@[simp] theorem State.held_updLens (s : State) (l : Nat) (g : LensSt → LensSt) : (s.updLens l g).held = s.held := rfl
@[simp] theorem State.held_updLogic (s : State) (p : Nat) (g : LogicSt → LogicSt) : (s.updLogic p g).held = s.held := rfl
@[simp] theorem State.held_updArm (s : State) (a : Nat) (g : ArmSt → ArmSt) : (s.updArm a g).held = s.held := rfl
@[simp] theorem State.held_updGp (s : State) (a : Nat) (g : GpSt → GpSt) : (s.updGp a g).held = s.held := rfl
@[simp] theorem State.held_updFbc (s : State) (a : Nat) (g : FbcSt → FbcSt) : (s.updFbc a g).held = s.held := rfl
@[simp] theorem State.held_emit (s : State) (e : Emission) : (s.emit e).held = s.held := rfl
@[simp] theorem State.held_free (s : State) : s.free.2.held = s.held := rfl

/-- A fold keeps what each of its turns keeps. -/
@[simp] theorem State.held_each {α : Type} (s : State) (xs : List α) (f : State → α → State)
    (h : ∀ t x, (f t x).held = t.held) : (s.each xs f).held = s.held :=
  State.each_rel (R := fun s t => t.held = s.held) (fun _ => rfl) (fun _ _ _ a b => b.trans a) h s xs

@[simp] theorem State.held_ite (c : Prop) [Decidable c] (s t : State) :
    (if c then s else t).held = if c then s.held else t.held := apply_ite State.held c s t

@[simp] theorem State.held_updEvr (s : State) (f : EvrSt → EvrSt)
    (h : ∀ x, (f x).alarms = x.alarms) : (s.updEvr f).held = s.held := by
  simp only [State.held, State.updEvr, h]

theorem State.held_each_mem {α : Type} (s : State) (xs : List α) (f : State → α → State)
    (h : ∀ t, ∀ x ∈ xs, (f t x).held = t.held) : (s.each xs f).held = s.held := by
  unfold State.each
  induction xs generalizing s with
  | nil => rfl
  | cons x xs ih =>
    exact (ih (f s x) fun t y hy => h t y (List.mem_cons_of_mem x hy)).trans (h s x List.mem_cons_self)

@[simp] theorem State.held_updGlb (s : State) (f : Glb → Glb) : (s.updGlb f).held = s.held := rfl

theorem State.held_progs (s : State) (x : Tbl ProgSt) : ({ s with progs := x } : State).held = s.held := rfl
theorem State.held_prots (s : State) (x : Tbl ProtSt) : ({ s with prots := x } : State).held = s.held := rfl
theorem State.held_memory (s : State) (x : Tbl FacetSt) (y : Tbl ProgSt) :
    ({ s with facets := x, progs := y } : State).held = s.held := rfl

/-! ## Events and alarms -/

@[simp] theorem State.event_held (s : State) (e : Ev) (d : Nat) : (s.event e d).held = s.held := rfl

@[simp] theorem State.markAlarm_held (s : State) (e : Ev) : (s.markAlarm e).held = s.held := rfl

@[simp] theorem State.alarm_held (s : State) (e : Ev) (d : Nat) (h : e ≠ .unitFenced) : (s.alarm e d).held = s.held := by
  have add : fencedAlarms (s.recs.evr.alarms ++ [(e, d)]) = fencedAlarms s.recs.evr.alarms := by
    simp [fencedAlarms, h]
  unfold State.alarm
  split
  · rfl
  · rw [State.markAlarm_held, State.event_held]
    simp only [State.held, add]

@[simp] theorem State.clearAlarm_held (s : State) (e : Ev) (d : Nat) (h : e ≠ .unitFenced) :
    (s.clearAlarm e d).held = s.held := by
  have drop : fencedAlarms (s.recs.evr.alarms.filter (· ≠ (e, d))) = fencedAlarms s.recs.evr.alarms := by
    unfold fencedAlarms
    rw [List.filter_filter]
    refine List.filter_congr fun a _ => ?_
    by_cases k : a.1 = .unitFenced
    · have : a ≠ (e, d) := fun he => h (by rw [← k, he])
      simp [k, this]
    · simp [k]
  unfold State.clearAlarm
  split
  · rw [State.markAlarm_held]
    simp only [State.held, drop]
  · rfl

@[simp] theorem State.updUnit_held (s : State) (u : UnitId) (f : UnitSt → UnitSt) : (s.updUnit u f).held = s.held :=
  State.held_of_effect (State.updUnit_effect ..) rfl rfl rfl rfl rfl

@[simp] theorem State.updStn_held (s : State) (i : Nat) (g : StnSt → StnSt) : (s.updStn i g).held = s.held :=
  State.held_of_effect (State.updStn_effect ..) rfl rfl rfl rfl rfl

@[simp] theorem State.updPort_held (s : State) (p : Nat) (g : PortSt → PortSt) : (s.updPort p g).held = s.held :=
  State.held_of_effect (State.updPort_effect ..) rfl rfl rfl rfl rfl

@[simp] theorem State.updKa_held (s : State) (g : Ka → Ka) : (s.updKa g).held = s.held :=
  State.held_of_effect (State.updKa_effect ..) rfl rfl rfl rfl rfl

@[simp] theorem State.updBst_held (s : State) (g : BstSt → BstSt) : (s.updBst g).held = s.held :=
  State.held_of_effect (State.updBst_effect ..) rfl rfl rfl rfl rfl

/-! ## The journal, keys and writes to host memory -/

@[simp] theorem State.mirror_held (s : State) (it : Item) : (s.mirror it).held = s.held := by
  unfold State.mirror
  simp

@[simp] theorem State.updJ_held (s : State) (j : Nat) (f : JEntry → JEntry) : (s.updJ j f).held = s.held := by
  unfold State.updJ
  split
  · rfl
  · exact State.mirror_held ..

@[simp] theorem State.placeRing_held (s : State) (i r : Nat) : (s.placeRing i r).held = s.held := by
  unfold State.placeRing
  simp

@[simp] theorem State.complete_held (s : State) (j : Nat) (st : Code) (res : Nat) : (s.complete j st res).held = s.held := by
  unfold State.complete
  split <;> simp

@[simp] theorem State.useKey_held (s : State) (slot alg : Nat) (owners : List Nat) (good : Bool) :
    (s.useKey slot alg owners good).2.held = s.held := by
  unfold State.useKey
  repeat' split
  all_goals simp

@[simp] theorem State.qdrop_held (s : State) (p c : Nat) : (s.qdrop p c).held = s.held :=
  State.held_of_effect (State.qdrop_effect ..) rfl rfl rfl rfl rfl

@[simp] theorem State.admitCopies_held (s : State) (p c : Nat) (fr : EthFrame) (command : Bool) (ps : List Nat) (f : Fate) :
    (s.admitCopies p c fr command ps f).1.held = s.held :=
  State.held_of_effect (State.admitCopies_effect ..) rfl rfl rfl rfl rfl

@[simp] theorem State.dropLens_held (s : State) (l : Nat) : (s.dropLens l).held = s.held :=
  State.held_of_effect (State.dropLens_effect ..) rfl rfl rfl rfl rfl

@[simp] theorem State.payBytes_held (s : State) (i n : Nat) : (s.payBytes i n).held = s.held := by
  unfold State.payBytes
  simp

@[simp] theorem State.hostEmit_held (s : State) (i : Nat) (e : Emission) : (s.hostEmit i e).held = s.held := by
  unfold State.hostEmit
  split <;> simp

@[simp] theorem State.dirtyPage_held (s : State) (i p : Nat) : (s.dirtyPage i p).held = s.held := by
  unfold State.dirtyPage
  dsimp only
  repeat' split
  all_goals simp

@[simp] theorem State.hostWrite_held (s : State) (i : Nat) (w : HostWrite) : (s.hostWrite i w).held = s.held := by
  unfold State.hostWrite
  simp

@[simp] theorem State.updSq_held (s : State) (i r : Nat) (f : SqSt → SqSt) : (s.updSq i r f).held = s.held := rfl

@[simp] theorem State.updCq_held (s : State) (i c : Nat) (f : CqSt → CqSt) : (s.updCq i c f).held = s.held := rfl

@[simp] theorem State.vecSend_held (s : State) (h k : Nat) : (s.vecSend h k).held = s.held := by
  unfold State.vecSend
  simp

@[simp] theorem State.msix_held (s : State) (i v : Nat) : (s.msix i v).held = s.held := by
  unfold State.msix
  simp

@[simp] theorem State.stateIrq_held (s : State) (i : Nat) : (s.stateIrq i).held = s.held := by
  unfold State.stateIrq
  simp

@[simp] theorem State.ringMsg_held (s : State) (i c : Nat) (now_ : Bool) : (s.ringMsg i c now_).held = s.held := by
  unfold State.ringMsg
  simp

@[simp] theorem State.setPoll_held (s : State) (i us : Nat) : (s.setPoll i us).held = s.held := by
  unfold State.setPoll
  simp

@[simp] theorem State.pollAtOnce_held (s : State) (i : Nat) : (s.pollAtOnce i).held = s.held := rfl

@[simp] theorem State.syncRing_held (s : State) (i r : Nat) : (s.syncRing i r).held = s.held := by
  unfold State.syncRing
  simp

@[simp] theorem State.syncCq_held (s : State) (i c : Nat) : (s.syncCq i c).held = s.held := by
  unfold State.syncCq
  simp

@[simp] theorem State.syncSlice_held (s : State) (i : Nat) : (s.syncSlice i).held = s.held := by
  unfold State.syncSlice
  simp

@[simp] theorem State.syncRings_held (s : State) : s.syncRings.held = s.held := by
  unfold State.syncRings
  simp

@[simp] theorem State.syncFree_held (s : State) (was i : Nat) : (s.syncFree was i).held = s.held := by
  unfold State.syncFree
  simp

@[simp] theorem State.putRecord_held (s : State) (i c ts source port : Nat) (bytes : List Byte) :
    (s.putRecord i c ts source port bytes).1.held = s.held := by
  unfold State.putRecord
  dsimp only
  repeat' split
  all_goals simp

@[simp] theorem State.acceptSealed_held (s : State) : s.acceptSealed.held = s.held := by
  unfold State.acceptSealed
  simp

@[simp] theorem State.mirrorRing_held (s : State) (i : Nat) : (s.mirrorRing i).held = s.held := by
  unfold State.mirrorRing
  simp

@[simp] theorem State.svcEnd_held (s : State) (c : Code) (data : Nat) : (s.svcEnd c data).held = s.held := by
  unfold State.svcEnd
  split <;> simp

/-! ## The switch core -/

@[simp] theorem State.learnFail_held (s : State) : s.learnFail.held = s.held := by
  unfold State.learnFail
  simp

@[simp] theorem State.learn_held (s : State) (p : Nat) (a : BitVec 48) (v : Nat) : (s.learn p a v).held = s.held := by
  unfold State.learn
  repeat' split
  all_goals simp

@[simp] theorem State.police_held (s : State) (i p : Nat) (c : CamEntry) : (s.police i p c).1.held = s.held := by
  unfold State.police
  dsimp only
  repeat' split
  all_goals simp

@[simp] theorem State.glintSee_held (s : State) (p dir : Nat) (fr : EthFrame) (f : Fate) :
    (s.glintSee p dir fr f).held = s.held := by
  unfold State.glintSee
  dsimp only
  repeat' split
  all_goals simp

@[simp] theorem State.sendBuilt_held (s : State) (l c : Nat) (ports : BitVec 24) (command : Bool) (fr : EthFrame) :
    (s.sendBuilt l c ports command fr).held = s.held := by
  unfold State.sendBuilt
  simp

@[simp] theorem State.forwardAs_held (s : State) (p c : Nat) (fr : EthFrame) : (s.forwardAs p c fr).1.held = s.held := by
  unfold State.forwardAs
  dsimp only
  repeat' split
  all_goals simp

/-! ## Lanes -/

@[simp] theorem State.perEvent_held (s : State) (type sel bit : Nat) : (s.perEvent type sel bit).held = s.held := by
  unfold State.perEvent
  simp

@[simp] theorem State.loupeEvent_held (s : State) (type sel : Nat) : (s.loupeEvent type sel).held = s.held := rfl

@[simp] theorem State.tripFrames_held (s : State) (a : Nat) : (s.tripFrames a).held = s.held :=
  State.held_of_effect (State.tripFrames_effect ..) rfl rfl rfl rfl rfl

@[simp] theorem State.endDeblock_held (s : State) (j : Nat) (st : Code) (failed : Nat) :
    (s.endDeblock j st failed).held = s.held := State.complete_held ..

@[simp] theorem State.tripArm_held (s : State) (a : Nat) (c : ArmCause) : (s.tripArm a c).held = s.held := by
  unfold State.tripArm
  dsimp only
  split <;> simp

@[simp] theorem State.armEdge_held (s : State) (a : Nat) : (s.armEdge a).held = s.held := by
  unfold State.armEdge
  split <;> simp

@[simp] theorem State.pwmOff_held (s : State) (n : Nat) : (s.pwmOff n).held = s.held :=
  State.held_of_effect (State.pwmOff_effect ..) rfl rfl rfl rfl rfl

@[simp] theorem State.pwmEdge_held (s : State) (n : Nat) : (s.pwmEdge n).held = s.held :=
  State.held_of_effect (State.pwmEdge_effect ..) rfl rfl rfl rfl rfl

@[simp] theorem State.toEdge_held (s : State) (m : Nat) : (s.toEdge m).held = s.held :=
  State.held_of_effect (State.toEdge_effect ..) rfl rfl rfl rfl rfl

@[simp] theorem State.toOpen_held (s : State) (m : Nat) : (s.toOpen m).held = s.held :=
  State.held_of_effect (State.toOpen_effect ..) rfl rfl rfl rfl rfl

@[simp] theorem State.pubTag_held (s : State) (key alg slice : Nat) : (s.pubTag key alg slice).2.held = s.held := by
  unfold State.pubTag
  split <;> simp

@[simp] theorem State.gpSend_held (s : State) (g st sq iv : Nat) (d : List GooseVal) :
    (s.gpSend g st sq iv d).held = s.held := by
  unfold State.gpSend
  simp

@[simp] theorem State.gpChange_held (s : State) (g : Nat) : (s.gpChange g).held = s.held := by
  unfold State.gpChange
  simp

@[simp] theorem State.noteMasks_held (s : State) : s.noteMasks.held = s.held :=
  State.held_of_effect (State.noteMasks_effect ..) rfl rfl rfl rfl rfl

@[simp] theorem State.lanesRise_held (s : State) (rs : List Nat) : (s.lanesRise rs).held = s.held := by
  unfold State.lanesRise
  simp

@[simp] theorem State.drive_held (s : State) (d : Nat) (on off : List Nat) : (s.drive d on off).held = s.held := by
  unfold State.drive
  rw [State.held_each _ _ _ (by simp), State.lanesRise_held, State.noteMasks_held]
  rfl

@[simp] theorem State.releaseAll_held (s : State) (d : Nat) : (s.releaseAll d).held = s.held := by
  unfold State.releaseAll
  simp

/-! ## Field bus -/

@[simp] theorem State.endSends_held (s : State) (xs : List TxItem) (c : Code) : (s.endSends xs c).held = s.held :=
  State.held_each _ _ _ fun t x => by
    split <;> simp

@[simp] theorem State.fbLost_held (s : State) (b n : Nat) : (s.fbLost b n).held = s.held :=
  State.held_of_effect (State.fbLost_effect ..) rfl rfl rfl rfl rfl

@[simp] theorem State.fbDiscard_held (s : State) (b : Nat) (p : TxItem → Bool) (c : Code) :
    (s.fbDiscard b p c).held = s.held := by
  unfold State.fbDiscard
  simp

@[simp] theorem State.fbCut_held (s : State) (b : Nat) : (s.fbCut b).held = s.held := by
  unfold State.fbCut
  simp

@[simp] theorem State.silentStns_held (s : State) (b : Nat) : (s.silentStns b).held = s.held :=
  State.held_of_effect (State.silentStns_effect ..) rfl rfl rfl rfl rfl

/-! ## Facets, repairs and exchanges -/

@[simp] theorem State.lensRest_held (s : State) (l : Nat) : (s.lensRest l).held = s.held :=
  State.held_of_effect (State.lensRest_effect ..) rfl rfl rfl rfl rfl

@[simp] theorem State.lensFail_held (s : State) (l : Nat) (c : LensFault) : (s.lensFail l c).held = s.held := rfl

@[simp] theorem State.loadFacet_held (s : State) (l f : Nat) (h : Nat) : (s.loadFacet l f h).held = s.held :=
  State.held_of_effect (State.loadFacet_effect ..) rfl rfl rfl rfl rfl

@[simp] theorem State.loadAt_held (s : State) (l : Nat) (h : Nat) : (s.loadAt l h).held = s.held := by
  unfold State.loadAt
  split <;> simp

@[simp] theorem State.fillFree_held (s : State) (l : Nat) : (s.fillFree l).held = s.held :=
  State.held_of_effect (State.fillFree_effect ..) rfl rfl rfl rfl rfl

@[simp] theorem State.resetProg_held (s : State) (l : Nat) (h : Nat) (img : List Byte) :
    (s.resetProg l h img).held = s.held :=
  State.held_of_effect (State.resetProg_effect ..) rfl rfl rfl rfl rfl

@[simp] theorem State.beginRepair_held (s : State) (l : Nat) (r : Repair) : (s.beginRepair l r).held = s.held := by
  unfold State.beginRepair
  split <;> simp

@[simp] theorem State.askRepair_held (s : State) (l : Nat) (r : Repair) : (s.askRepair l r).held = s.held := by
  unfold State.askRepair
  simp

@[simp] theorem State.nextRepair_held (s : State) (l : Nat) : (s.nextRepair l).held = s.held := by
  unfold State.nextRepair
  simp

@[simp] theorem State.respare_held (s : State) (l : Nat) (r : Repair) : (s.respare l r).held = s.held := by
  unfold State.respare
  simp

@[simp] theorem State.hwFault_held (s : State) (l f : Nat) (c : FFault) : (s.hwFault l f c).held = s.held := by
  unfold State.hwFault
  dsimp only
  split
  · rfl
  · split
    · rw [State.askRepair_held, State.held_ite, State.held_updLens, State.held_updLens, ite_self]
      rfl
    · split
      · split
        · exact State.respare_held ..
        · rfl
      · rfl

@[simp] theorem State.atBoundary_held (s : State) (l f : Nat) : (s.atBoundary l f).held = s.held := by
  unfold State.atBoundary
  simp

@[simp] theorem State.stopFacet_held (s : State) (l f : Nat) : (s.stopFacet l f).held = s.held := by
  unfold State.stopFacet
  simp

@[simp] theorem State.clearFacet_held (s : State) (l : Nat) (h : Nat) : (s.clearFacet l h).held = s.held := by
  unfold State.clearFacet
  simp

@[simp] theorem State.raisePkgFloor_held (s : State) (i : Image) : (s.raisePkgFloor i).held = s.held := by
  unfold State.raisePkgFloor
  simp

@[simp] theorem State.exchFinish_held (s : State) : s.exchFinish.held = s.held := by
  unfold State.exchFinish
  split
  · rfl
  · simp

@[simp] theorem State.swapLogic_held (s : State) (p : Nat) : (s.swapLogic p).held = s.held := by
  unfold State.swapLogic
  split <;> simp

@[simp] theorem State.logicColdStart_held (s : State) (p : Nat) : (s.logicColdStart p).held = s.held := by
  unfold State.logicColdStart
  dsimp only
  generalize hu : State.clearAlarm _ .logicStopped p = u
  have first : u.held = s.held := by
    rw [← hu, State.clearAlarm_held _ _ _ (by decide)]
    rfl
  have rest (f : Nat) : (u.each (u.recs.evr.alarms.filter fun a => a.1 = Ev.programFault ∧ a.2 % 65536 = f)
      fun s a => s.clearAlarm a.1 a.2).held = s.held :=
    (State.held_each_mem _ _ _ fun t a ha => State.clearAlarm_held _ _ _ (by simp_all)).trans first
  rw [State.held_updLogic, State.held_each _ _ _ (by simp), State.held_updProg, State.held_updFacet, State.resetProg_held,
    State.loadAt_held]
  exact rest _

@[simp] theorem State.startAdded_held (s : State) (p : Nat) : (s.startAdded p).held = s.held := by
  unfold State.startAdded
  simp

@[simp] theorem State.settle_held (s : State) (l : Nat) (h : Nat) : (s.settle l h).held = s.held := by
  unfold State.settle
  dsimp only
  repeat' split
  all_goals simp

@[simp] theorem State.leaveHome_held (s : State) (p : Nat) : (s.leaveHome p).held = s.held := by
  unfold State.leaveHome
  rw [State.held_updSvc _ _ (by simp) (by simp) (by simp) (by simp) (by simp)]
  exact (State.held_progs _ _).trans (State.clearFacet_held ..)

@[simp] theorem State.dropLogic_held (s : State) (p : Nat) : (s.dropLogic p).held = s.held := by
  unfold State.dropLogic
  simp

@[simp] theorem State.replaceStopped_held (s : State) (p : Nat) : (s.replaceStopped p).held = s.held := by
  unfold State.replaceStopped
  simp

@[simp] theorem State.execBegin_held (s : State) (p : Nat) : (s.execBegin p).held = s.held :=
  State.held_of_effect (State.execBegin_effect ..) rfl rfl rfl rfl rfl

/-! ## Recorders -/

@[simp] theorem State.perStart_held (s : State) (g : Nat) : (s.perStart g).held = s.held := rfl

/-! ## Slices and lenses -/

@[simp] theorem State.updWork_held (s : State) (i : Nat) (f : ResetWork → ResetWork) : (s.updWork i f).held = s.held := rfl

@[simp] theorem State.resumePolls_held (s : State) (i : Nat) : (s.resumePolls i).held = s.held := by
  unfold State.resumePolls
  simp

@[simp] theorem State.emptyLens_held (s : State) (l : Nat) : (s.emptyLens l).held = s.held := by
  unfold State.emptyLens
  simp only [State.dropLens_held, State.fillFree_held, State.held_updLens]
  refine (State.held_prots _ _).trans ?_
  rw [State.held_each _ _ _ (by simp)]
  refine (State.held_memory _ _ _).trans ?_
  exact State.held_each _ _ _ (by simp)

@[simp] theorem State.loadHome_held (s : State) (l : Nat) (h : Nat) : (s.loadHome l h).held = s.held := by
  unfold State.loadHome
  simp

@[simp] theorem State.loadLens_held (s : State) (l : Nat) : (s.loadLens l).held = s.held := by
  unfold State.loadLens
  simp

@[simp] theorem State.haltFacet_held (s : State) (l : Nat) (h : Nat) : (s.haltFacet l h).held = s.held := by
  unfold State.haltFacet
  simp

@[simp] theorem State.logicWarmStart_held (s : State) (p : Nat) : (s.logicWarmStart p).held = s.held := by
  unfold State.logicWarmStart
  simp

@[simp] theorem State.logicStart_held (s : State) (p : Nat) : (s.logicStart p).held = s.held := by
  unfold State.logicStart
  simp

@[simp] theorem State.lensOn_held (s : State) (l : Nat) : (s.lensOn l).held = s.held := by
  unfold State.lensOn
  simp

@[simp] theorem State.lensOff_held (s : State) (l : Nat) : (s.lensOff l).held = s.held := by
  unfold State.lensOff
  simp

@[simp] theorem State.stageProgram_held (s : State) (i : Image) (p : Nat) : (s.stageProgram i p).held = s.held := by
  unfold State.stageProgram
  simp

@[simp] theorem State.stageLoop_held (s : State) (i : Image) (k : Nat) : (s.stageLoop i k).held = s.held := by
  unfold State.stageLoop
  simp

@[simp] theorem State.beginExchange_held (s : State) : s.beginExchange.held = s.held := by
  unfold State.beginExchange
  split <;> simp

@[simp] theorem State.exchCancel_held (s : State) : s.exchCancel.held = s.held :=
  State.held_of_effect (State.exchCancel_effect ..) rfl rfl rfl rfl rfl

/-- The channel once its staged package is given up (R136). -/
def Svc.giveUp (v : Svc) : Svc :=
  { v with staged := none, exchLoops := [], exchAt := 0, sharing := false, active := !v.active, undoing := false }

/-- The banks stay, but the pointer goes back. -/
theorem State.exchUndo_held (s : State) : s.exchUndo.held = { s.held with active := !s.held.active } := by
  have given : (s.exchCancel.updSvc Svc.giveUp).held = { s.held with active := !s.held.active } := by
    rw [← State.exchCancel_held]
    rfl
  unfold State.exchUndo
  dsimp only
  split <;> simp [← given] <;> rfl

/-! ## Packages and units -/

@[simp] theorem State.ptpPort_held (s : State) (p : Nat) (on : Bool) : (s.ptpPort p on).held = s.held :=
  State.held_of_effect (State.ptpPort_effect ..) rfl rfl rfl rfl rfl

@[simp] theorem State.unitLost_held (s : State) (a : UnitId) : (s.unitLost a).held = s.held := by
  unfold State.unitLost
  split <;> simp

/-! ## Removals -/

@[simp] theorem State.recordLost_held (s : State) (source port : Nat) : (s.recordLost source port).held = s.held :=
  State.held_of_effect (State.recordLost_effect ..) rfl rfl rfl rfl rfl

@[simp] theorem State.lateRecords_held (s : State) (i : Nat) : (s.lateRecords i).held = s.held := by
  unfold State.lateRecords
  simp

@[simp] theorem State.setSliceState_held (s : State) (i : Nat) (st : SliceState) : (s.setSliceState i st).held = s.held := by
  unfold State.setSliceState
  simp

@[simp] theorem State.cancelAccepted_held (s : State) (i : Nat) : (s.cancelAccepted i).held = s.held := by
  unfold State.cancelAccepted
  simp

@[simp] theorem State.resetCheck_held (s : State) (i : Nat) : (s.resetCheck i).held = s.held := by
  unfold State.resetCheck
  split <;> simp

@[simp] theorem State.dropHeld_held (s : State) (i : Nat) (f : State → State) (h : ∀ t, (f t).held = t.held) :
    (s.dropHeld i f).held = s.held := by
  unfold State.dropHeld State.dropHost
  simp [h]

@[simp] theorem State.beginReset_held (s : State) (i j : Nat) (m : ResetMode) : (s.beginReset i j m).held = s.held := by
  unfold State.beginReset
  simp

@[simp] theorem State.resumeSlice_held (s : State) (i j : Nat) (d : Desc) : (s.resumeSlice i j d).held = s.held := by
  unfold State.resumeSlice
  simp

@[simp] theorem State.sliceAct_held (s : State) (i j : Nat) (d : Desc) : (s.sliceAct i j d).held = s.held := by
  unfold State.sliceAct
  repeat' split
  all_goals simp

@[simp] theorem State.nextResets_held (s : State) (i n : Nat) : (s.nextResets i n).held = s.held := by
  induction n generalizing s with
  | zero => rfl
  | succ n ih =>
    unfold State.nextResets
    split
    · dsimp only
      split <;> simp [ih]
    · rfl

@[simp] theorem State.removed_held (s : State) (i : Nat) (c : Code) : (s.removed i c).held = s.held := by
  unfold State.removed
  split <;> simp

/-! ## Restarts and RUN -/

@[simp] theorem State.startResync_held (s : State) : s.startResync.held = s.held := by
  have cleared (f g : MlkSt → MlkSt) (hf : ∀ x, (f x).mmDown = x.mmDown) (hf' : ∀ x, (f x).role = x.role)
      (hg : ∀ x, (g x).mmDown = x.mmDown) (hg' : ∀ x, (g x).role = x.role) : ((s.updMlk f).updMlk g).held = s.held :=
    (State.held_updMlk _ g hg hg').trans (State.held_updMlk s f hf hf')
  unfold State.startResync
  dsimp only
  split
  · exact cleared _ _ (by intro _; rfl) (by intro _; rfl) (by intro _; rfl) (by intro _; rfl)
  · exact State.held_updMlk _ _ (by intro _; rfl) (by intro _; rfl)

@[simp] theorem State.sendHealth_held (s : State) : s.sendHealth.held = s.held := by
  unfold State.sendHealth
  simp

/-- A module that reaches RUNNING in OPERATIONAL is a standby (R350). -/
theorem State.enterRunning_held (s : State) : s.enterRunning.held =
    if s.glb.lcs = .operational then { s.held with role := .standby } else s.held := by
  unfold State.enterRunning
  rw [State.sendHealth_held, State.held_ite, State.startResync_held]
  rfl

@[simp] theorem State.resumeSlices_held (s : State) (lost : Bool) : (s.resumeSlices lost).held = s.held := by
  unfold State.resumeSlices
  simp

@[simp] theorem State.fillSlots_held (s : State) : s.fillSlots.held = s.held :=
  State.held_of_effect (State.fillSlots_effect ..) rfl rfl rfl rfl rfl

@[simp] theorem State.raiseFloors_held (s : State) : s.raiseFloors.held = s.held := by
  unfold State.raiseFloors
  dsimp only
  split
  all_goals split
  all_goals simp

@[simp] theorem State.resumeKept_held (s : State) : s.resumeKept.held = s.held := by
  unfold State.resumeKept
  simp

@[simp] theorem State.runGroups_held (s : State) :
    s.runGroups.held = s.held := State.held_each _ _ _ fun t g => t.perStart_held g

@[simp] theorem State.retain_held (s : State) (cause : RstCause) : (s.retain cause).held = s.held := by
  unfold State.retain
  simp

/-- The banks stay; the pointer goes back where an exchange is given up. -/
theorem State.cutSvc_held (s : State) : s.cutSvc.held = { s.held with active := s.cutSvc.held.active } := by
  unfold State.cutSvc
  repeat' split
  all_goals simp [State.exchUndo_held]

end Sys2Proof.Machine
end

section
/-! SUPPORT. Switchable units (R75, R76): what writes of one unit leave of the others, and the equations of EN, STARTING and
STOPPING. -/

namespace Sys2Proof.Machine

/-! ## One unit -/

theorem State.unit_updUnit_other (s : State) {u v : UnitId} (h : unitKey v ≠ unitKey u) (f : UnitSt → UnitSt) :
    (s.updUnit u f).unit v = s.unit v := Tbl.get_upd_other _ _ (Ne.symm h)

theorem State.unit_of_units {s t : State} (h : t.units = s.units) (u : UnitId) : t.unit u = s.unit u := by
  unfold State.unit
  rw [h]

/-- `t` is `s` in every unit but `u`. -/
def State.OtherUnits (s : State) (u : UnitId) (t : State) : Prop := ∀ v, unitKey v ≠ unitKey u → t.unit v = s.unit v

theorem State.unit_of_upd {s t : State} {u : UnitId} {f : UnitSt → UnitSt} (h : t.units = s.units.upd (unitKey u) f) :
    t.unit u = f (s.unit u) := (State.unit_of_units (s := s.updUnit u f) h u).trans (s.unit_updUnit u f)

theorem State.OtherUnits.of_upd {s t : State} {u : UnitId} {f : UnitSt → UnitSt} (h : t.units = s.units.upd (unitKey u) f) :
    s.OtherUnits u t := fun v hv => (State.unit_of_units (s := s.updUnit u f) h v).trans (s.unit_updUnit_other hv f)

theorem State.OtherUnits.trans {s t r : State} {u : UnitId} (h : s.OtherUnits u t) (k : t.OtherUnits u r) :
    s.OtherUnits u r := fun v hv => (k v hv).trans (h v hv)

/-- Two changes that agree on what a unit is leave the same table. -/
theorem Tbl.upd_congr {α : Type} (t : Tbl α) (k : Nat) {f g : α → α} (h : f (t.get k) = g (t.get k)) : t.upd k f = t.upd k g := by
  unfold Tbl.upd
  rw [h]

theorem State.updUnit_units_eq (s : State) (u : UnitId) {f g : UnitSt → UnitSt} (h : f (s.unit u) = g (s.unit u)) :
    (s.updUnit u f).units = s.units.upd (unitKey u) g := Tbl.upd_congr _ _ h

/-! ## STARTING and STOPPING -/

theorem State.unitBegin_units (s : State) (u : UnitId) :
    (s.unitBegin u).units = s.units.upd (unitKey u) fun x => { x with st := .starting, since := s.now } := by
  have fresh : (s.startFresh u).units = s.units := (s.startFresh_effect u).same .units rfl
  have now : (s.startFresh u).now = s.now := (s.startFresh_effect u).same .now rfl
  unfold State.unitBegin State.updUnit
  rw [fresh, now]

theorem State.unitStarted_units {s : State} {u : UnitId} (h : (s.unit u).st = .starting) :
    (s.unitStarted u).units = s.units.upd (unitKey u) fun y =>
      { y with st := if y.en then .on else .stopping, since := s.now } := by
  unfold State.unitStarted State.unitHalt
  rw [if_pos h]
  split
  · next en => exact s.updUnit_units_eq u (by simp only [en, if_true])
  · next en => exact s.updUnit_units_eq u (by simp only [en, if_false, Bool.false_eq_true])

theorem State.unitStopped_units {s : State} {u : UnitId} (h : (s.unit u).st = .stopping) :
    (s.unitStopped u).units = s.units.upd (unitKey u) fun y =>
      { y with st := if y.en then .starting else .off, since := s.now } := by
  unfold State.unitStopped
  rw [if_pos h]
  split
  · next en =>
    refine (s.unitBegin_units u).trans (Tbl.upd_congr _ _ ?_)
    simp only [show (s.units.get (unitKey u)).en = true from en, if_true]
  · next en => exact s.updUnit_units_eq u (by simp only [en, if_false, Bool.false_eq_true])

/-! ## EN -/

theorem State.enable_off {s : State} {u : UnitId} (open_ : (s.unit u).fenced = false) (off : (s.unit u).st = .off) :
    s.enable u = (s.updUnit u fun x => { x with en := true }).unitBegin u := by
  have off' : ((s.updUnit u fun x => { x with en := true }).unit u).st = .off := by
    rw [State.unit_updUnit]
    exact off
  unfold State.enable
  rw [if_neg (by simp [open_])]
  exact if_pos off'

theorem State.disable_of_not_on {s : State} {u : UnitId} (h : (s.unit u).st ≠ .on)
    (other : (s.unit u).st ≠ .starting ∨ ∀ l, u ≠ .lens l) : s.disable u = s.updUnit u fun x => { x with en := false } := by
  have st : ((s.updUnit u fun x => { x with en := false }).unit u).st = (s.unit u).st := by rw [State.unit_updUnit]
  unfold State.disable
  rw [if_neg h]
  cases u with
  | lens l =>
    have ne : (s.unit (.lens l)).st ≠ .starting := other.resolve_right fun k => k l rfl
    exact if_neg (by rw [st]; exact ne)
  | port | arm | pwm | fbc | chain | beam | slice => rfl

theorem State.disable_starting_lens {s : State} {l : Nat} (h : (s.unit (.lens l)).st = .starting) :
    s.disable (.lens l) = (s.updUnit (.lens l) fun x => { x with en := false }).stopUnstarted l := by
  have st : ((s.updUnit (.lens l) fun x => { x with en := false }).unit (.lens l)).st = .starting := by
    rw [State.unit_updUnit]
    exact h
  unfold State.disable
  rw [if_neg (by rw [h]; decide)]
  exact if_pos st

theorem State.writeEn_locked {s : State} {u : UnitId} {en : Bool} (differs : (s.unit u).en ≠ en)
    (h : s.glb.run = true ∨ ∃ i, u = .slice i) : s.writeEn u en = s.lockedWrite := by
  unfold State.writeEn
  rw [if_neg differs]
  cases u with
  | slice i => rfl
  | port | lens | arm | pwm | fbc | chain | beam => exact if_pos (h.resolve_right (by simp))

theorem State.writeEn_open {s : State} {u : UnitId} {en : Bool} (differs : (s.unit u).en ≠ en) (run : s.glb.run = false)
    (other : ∀ i, u ≠ .slice i) (cfg : s.configured u = true) :
    s.writeEn u en = if en then s.enable u else s.disable u := by
  have set : s.setEn u en = if en then s.enable u else s.disable u := if_neg differs
  have locked : ¬ s.rwlLocked = true := by simp [State.rwlLocked, run]
  have bad : ¬ ¬ s.configured u = true := not_not_intro cfg
  unfold State.writeEn
  rw [if_neg differs, ← set]
  cases u with
  | slice i => exact absurd rfl (other i)
  | port | lens | arm | pwm | fbc | chain | beam => exact (if_neg locked).trans (if_neg bad)

theorem exec_unitEnWrite {s : State} {u : UnitId} (en : Bool) (ready : s.windowOpen .h0 = true) (range : unitInRange u = true)
    (present : unitPresent u = true) : exec (.unitEnWrite u en) s = .next (s.writeEn u en) := by
  refine congrArg Host.Outcome.next ?_
  rw [if_neg (not_not_intro ready), if_neg (not_not_intro range), if_neg (not_not_intro present)]

/-! ## Programs of a lens that is not warm -/

/-- No program waits for its warm start that did not. -/
def State.Cools (s t : State) : Prop := ∀ p, (s.logic.get p).warm = false → (t.logic.get p).warm = false

theorem State.Cools.refl (s : State) : s.Cools s := fun _ h => h

theorem State.Cools.trans {s t u : State} (h : s.Cools t) (k : t.Cools u) : s.Cools u := fun p hp => k p (h p hp)

theorem State.Cools.of_logic {s t : State} (h : t.logic = s.logic) : s.Cools t := fun p hp => by rw [h]; exact hp

theorem State.Cools.each {α : Type} {f : State → α → State} (h : ∀ (t : State) (x : α), t.Cools (f t x)) (s : State)
    (xs : List α) : s.Cools (s.each xs f) := State.each_rel .refl (fun _ _ _ => .trans) h s xs

theorem State.updLogic_cools (s : State) (p : Nat) {f : LogicSt → LogicSt} (h : ∀ x, x.warm = false → (f x).warm = false) :
    s.Cools (s.updLogic p f) := fun q hq => by
  show ((s.logic.upd p f).get q).warm = false
  rw [Tbl.get_upd]
  split
  · next e => exact h _ (by rw [e]; exact hq)
  · exact hq

theorem State.Cools.of_upd {s t : State} {p : Nat} {f : LogicSt → LogicSt} (e : t.logic = (s.updLogic p f).logic)
    (h : ∀ x, (f x).warm = x.warm) : s.Cools t :=
  (s.updLogic_cools p fun x hx => (h x).trans hx).trans (.of_logic e)

end Sys2Proof.Machine
end

section
/-! SUPPORT. The end and the start of a descriptor: what they leave of the slices and of their rings (R299). -/

namespace Sys2Proof.Machine

theorem State.updJ_slice (s : State) (j : Nat) (f : JEntry → JEntry) (i : Nat) : (s.updJ j f).slice i = s.slice i := by
  unfold State.updJ
  split
  · rfl
  · unfold State.slice
    rw [State.mirror_hif]

theorem State.updJ_ports (s : State) (j : Nat) (f : JEntry → JEntry) : (s.updJ j f).hif.ports = s.hif.ports := by
  unfold State.updJ
  split
  · rfl
  · rw [State.mirror_hif]

theorem SliceSt.of_core {β : Type} (g : SliceSt → β) (kept : ∀ x, g x.core = g x) {x y : SliceSt} (h : x.core = y.core) :
    g x = g y := by
  rw [← kept x, h, kept]

/-- A completion ring after places have been given in it. -/
def CqSt.Placed (q p : CqSt) : Prop := ∃ n, p = { q with placed := n }

/-- `t` is `s` after descriptors have started or ended: the slices and their rings are the same but for the places given. -/
structure State.SameRings (s t : State) : Prop where
  now : t.now = s.now
  col : t.col = s.col
  ports : t.hif.ports = s.hif.ports
  core : ∀ i, (t.slice i).core = (s.slice i).core
  poll : ∀ i, (t.slice i).pollNow = (s.slice i).pollNow
  sq : ∀ i r, t.sq i r = s.sq i r
  cq : ∀ i c, (s.cq i c).Placed (t.cq i c)

namespace State.SameRings

theorem of_slices {s t : State} (now : t.now = s.now) (col : t.col = s.col) (ports : t.hif.ports = s.hif.ports)
    (slice : ∀ i, t.slice i = s.slice i) : s.SameRings t where
  now := now
  col := col
  ports := ports
  core i := by rw [slice]
  poll i := by rw [slice]
  sq i r := by unfold State.sq; rw [slice]
  cq i c := ⟨(s.cq i c).placed, by unfold State.cq; rw [slice]⟩

theorem refl (s : State) : s.SameRings s := .of_slices rfl rfl rfl fun _ => rfl

theorem trans {s t u : State} (h : s.SameRings t) (k : t.SameRings u) : s.SameRings u where
  now := k.now.trans h.now
  col := k.col.trans h.col
  ports := k.ports.trans h.ports
  core i := (k.core i).trans (h.core i)
  poll i := (k.poll i).trans (h.poll i)
  sq i r := (k.sq i r).trans (h.sq i r)
  cq i c := by
    obtain ⟨n, hn⟩ := h.cq i c
    obtain ⟨m, hm⟩ := k.cq i c
    exact ⟨m, by rw [hm, hn]⟩

end State.SameRings

theorem State.updJ_sameRings (s : State) (j : Nat) (f : JEntry → JEntry) : s.SameRings (s.updJ j f) :=
  .of_slices ((s.updJ_effect j f).same .now rfl) ((s.updJ_effect j f).same .col rfl) (s.updJ_ports j f) (s.updJ_slice j f)

/-- A completion gets its place. -/
def State.placeEntry (s : State) (i c : Nat) (e : JEntry) : State :=
  let n := (s.cq i c).placed
  let s := s.updHif fun h => { h with journal := h.journal.map fun (x : JEntry) =>
    if x.jseq = e.jseq then { x with place := some n } else x }
  s.updCq i c fun q => { q with placed := n + 1 }

theorem State.placeEntry_sameRings (s : State) (i c : Nat) (e : JEntry) : s.SameRings (s.placeEntry i c e) where
  now := rfl
  col := rfl
  ports := rfl
  core k := State.core_updCq _ i c _ k
  poll k := by
    unfold State.placeEntry State.updCq
    dsimp only
    rw [State.slice_updSlice]
    split
    · next e =>
      subst e
      rfl
    · rfl
  sq k r := State.sq_updSlice (by intro _; rfl) k r
  cq k d := by
    unfold State.placeEntry
    dsimp only
    rw [State.cq_updCq]
    split
    · next h =>
      obtain ⟨rfl, rfl, -⟩ := h
      exact ⟨(s.cq i c).placed + 1, rfl⟩
    · exact ⟨(s.cq k d).placed, rfl⟩

theorem State.placeRing_sameRings (s : State) (i r : Nat) : s.SameRings (s.placeRing i r) :=
  State.each_rel .refl (fun _ _ _ => .trans) (f := fun s e => s.placeEntry i _ e) (fun t e => t.placeEntry_sameRings i _ e) s _

theorem State.complete_sameRings (s : State) (j : Nat) (c : Code) (n : Nat) : s.SameRings (s.complete j c n) := by
  unfold State.complete
  split
  · exact .refl s
  · split
    · exact .refl s
    · exact (s.updJ_sameRings j _).trans (State.placeRing_sameRings ..)

theorem State.start_sameRings (s : State) (j : Nat) : s.SameRings (s.start j) := s.updJ_sameRings j _

end Sys2Proof.Machine
end

section
/-! Switchable units: EN, STARTING and STOPPING of every kind of unit. -/

namespace Sys2Proof.Machine

/-! ## Which operations leave the logic programs alone -/

@[simp] theorem State.clearFacet_logic (s : State) (l h : Nat) : (s.clearFacet l h).logic = s.logic :=
  (s.clearFacet_effect l h).same .logic rfl
@[simp] theorem State.stopFacet_logic (s : State) (l f : Nat) : (s.stopFacet l f).logic = s.logic :=
  (s.stopFacet_effect l f).same .logic rfl
@[simp] theorem State.swapLogic_logic (s : State) (p : Nat) : (s.swapLogic p).logic = s.logic :=
  (s.swapLogic_effect p).same .logic rfl
@[simp] theorem State.loadAt_logic (s : State) (l h : Nat) : (s.loadAt l h).logic = s.logic :=
  (s.loadAt_effect l h).same .logic rfl
@[simp] theorem State.resetProg_logic (s : State) (l h : Nat) (img : List Byte) : (s.resetProg l h img).logic = s.logic :=
  (s.resetProg_effect l h img).same .logic rfl
@[simp] theorem State.leaveHome_logic (s : State) (p : Nat) : (s.leaveHome p).logic = s.logic :=
  (s.leaveHome_effect p).same .logic rfl
@[simp] theorem State.lensRest_logic (s : State) (l : Nat) : (s.lensRest l).logic = s.logic :=
  (s.lensRest_effect l).same .logic rfl
@[simp] theorem State.exchFinish_logic (s : State) : s.exchFinish.logic = s.logic := s.exchFinish_effect.same .logic rfl
@[simp] theorem State.complete_logic (s : State) (j : Nat) (c : Code) (n : Nat) : (s.complete j c n).logic = s.logic :=
  (s.complete_effect j c n).same .logic rfl
@[simp] theorem State.perEvent_logic (s : State) (t n b : Nat) : (s.perEvent t n b).logic = s.logic :=
  (s.perEvent_effect t n b).same .logic rfl
@[simp] theorem State.placeOutput_logic (s : State) (i : Nat) (b : List Byte) : (s.placeOutput i b).logic = s.logic :=
  (s.placeOutput_effect i b).same .logic rfl

theorem State.each_logic {α : Type} (s : State) (xs : List α) (f : State → α → State) (h : ∀ t x, (f t x).logic = t.logic) :
    (s.each xs f).logic = s.logic :=
  State.each_rel (R := fun s t => t.logic = s.logic) (fun _ => rfl) (fun _ _ _ a b => b.trans a) h s xs

/-! ## What the stop of a lens's programs leaves cold -/

theorem State.logicColdStart_cools (s : State) (p : Nat) : s.Cools (s.logicColdStart p) := by
  unfold State.logicColdStart
  refine State.Cools.trans (.of_logic ?_) (State.updLogic_cools _ p (by intro _ _; rfl))
  rw [State.each_logic _ _ _ (by simp)]
  simp only [State.updProg_logic, State.updFacet_logic, State.resetProg_logic, State.loadAt_logic]
  rw [State.each_logic _ _ _ (by simp), State.clearAlarm_logic]

theorem State.startAdded_cools (s : State) (p : Nat) : s.Cools (s.startAdded p) := by
  unfold State.startAdded
  dsimp only
  split
  · exact .of_logic (by simp)
  · split
    · exact State.Cools.trans (.of_logic (by simp)) (State.logicColdStart_cools _ p)
    · exact State.Cools.trans (.of_logic (by simp)) (State.updLogic_cools _ p (by intro _ h; exact h))

theorem State.settle_cools (s : State) (l h : Nat) : s.Cools (s.settle l h) := by
  unfold State.settle
  dsimp only
  split
  · exact .refl s
  · split
    · exact s.startAdded_cools _
    · split
      · refine .of_logic ?_
        split <;> simp
      · exact .refl s

theorem State.dropLogic_cools (s : State) (p : Nat) : s.Cools (s.dropLogic p) :=
  State.Cools.trans (.of_logic (s.leaveHome_logic p)) (State.settle_cools _ _ _)

theorem State.replaceStopped_cools (s : State) (p : Nat) : s.Cools (s.replaceStopped p) := by
  unfold State.replaceStopped
  dsimp only
  split
  · refine .of_logic ?_
    split <;> simp
  · split
    · exact (s.dropLogic_cools p).trans (State.startAdded_cools _ p)
    · exact s.dropLogic_cools p

theorem State.commitImage_cools (s : State) (p : Nat) (img : List Byte) : s.Cools (s.commitImage p img) := by
  refine State.Cools.of_upd (p := p) (f := fun x => { x with image := img, committing := true, commitStart := s.now }) ?_
    (by intro _; rfl)
  unfold State.commitImage
  dsimp only
  rw [State.each_logic _ _ _ (by intro u b; exact u.perEvent_logic ..),
    State.each_logic _ _ _ (by intro u o; exact u.placeOutput_logic ..)]

/-- The final COMMIT itself: the safe image, the answers to those who asked for the stop, and the alarm (R115, R116). -/
def State.safeCommit (s : State) (p : Nat) (st : LState) : State :=
  let old := s.logic.get p
  let s := s.updLogic p fun x =>
    { x with st := if x.removeAsked then .none else st, phase := .idle, safeDue := none, commitDue := false,
             stopAsked := false, removeAsked := false, exchPending := false, exchStart := none }
  let s := s.commitImage p (s.pkg.logic.get p).safeImage
  let s := s.each old.stopBy fun s j => s.complete j cOk (lstateCode (s.logic.get p).st)
  let s := s.updLogic p fun x => { x with stopBy := [] }
  if st = .stopped then s else s.alarm .logicStopped p

/-- The removal of a program whose final COMMIT has been made (R136). -/
def State.endRemoval (s : State) (p : Nat) (asked : List Nat) : State :=
  let s := s.each asked fun s j => s.complete j cInvalid 0
  let s := s.updLogic p fun x => { x with startBy := [], startAsked := false }
  (s.dropLogic p).exchFinish

theorem State.finalCommit_eq (s : State) (p : Nat) (st : LState) : s.finalCommit p st =
    if (s.logic.get p).removeAsked then (s.safeCommit p st).endRemoval p (s.logic.get p).startBy
    else if (s.logic.get p).exchPending ∨ (s.logic.get p).exchStart.isSome then
      ((s.safeCommit p st).replaceStopped p).exchFinish
    else s.safeCommit p st := rfl

theorem State.safeCommit_cools (s : State) (p : Nat) (st : LState) : s.Cools (s.safeCommit p st) := by
  have answered (u : State) (js : List Nat) (f : State → Code × Nat) :
      u.Cools (u.each js fun s j => s.complete j (f s).1 (f s).2) :=
    .of_logic (State.each_logic _ _ _ fun t j => t.complete_logic ..)
  have stopped (u : State) (f g : LogicSt → LogicSt) (img : List Byte) (js : List Nat) (a : State → Code × Nat)
      (hf : ∀ x, (f x).warm = x.warm) (hg : ∀ x, (g x).warm = x.warm) :
      u.Cools ((((u.updLogic p f).commitImage p img).each js fun s j => s.complete j (a s).1 (a s).2).updLogic p g) :=
    (((State.Cools.of_upd rfl hf).trans (State.commitImage_cools _ p img)).trans (answered _ js a)).trans (.of_upd rfl hg)
  unfold State.safeCommit
  dsimp only
  split
  · exact stopped s _ _ _ _ (fun s => (cOk, lstateCode (s.logic.get p).st)) (by intro _; rfl) (by intro _; rfl)
  · exact (stopped s _ _ _ _ (fun s => (cOk, lstateCode (s.logic.get p).st)) (by intro _; rfl) (by intro _; rfl)).trans
      (.of_logic (State.alarm_logic ..))

theorem State.endRemoval_cools (s : State) (p : Nat) (asked : List Nat) : s.Cools (s.endRemoval p asked) := by
  have answered : s.Cools (s.each asked fun s j => s.complete j cInvalid 0) :=
    .of_logic (State.each_logic _ _ _ fun t j => t.complete_logic ..)
  exact ((answered.trans (.of_upd rfl (by intro _; rfl))).trans (State.dropLogic_cools _ p)).trans
    (.of_logic (State.exchFinish_logic _))

theorem State.finalCommit_cools (s : State) (p : Nat) (st : LState) : s.Cools (s.finalCommit p st) := by
  have safe := s.safeCommit_cools p st
  rw [State.finalCommit_eq]
  split
  · exact safe.trans (State.endRemoval_cools _ _ _)
  · split
    · exact (safe.trans (State.replaceStopped_cools _ p)).trans (.of_logic (State.exchFinish_logic _))
    · exact safe

theorem State.logicStop_cools (s : State) (p : Nat) (st : LState) : s.Cools (s.logicStop p st) := by
  have halted (l f : Nat) : s.Cools (s.stopFacet l f) := .of_logic (s.stopFacet_logic l f)
  unfold State.logicStop
  dsimp only
  refine State.Cools.trans ?_ (.of_logic (State.lensRest_logic ..))
  split
  · exact (halted _ _).trans (State.updLogic_cools _ p (by intro _ h; exact h))
  · exact (halted _ _).trans (State.finalCommit_cools _ p st)

/-- A program of a lens that stops before it has started: cold from now on, and stopped where it is not yet (log 93). -/
def State.chill (s : State) (p : Nat) : State :=
  let st := (s.logic.get p).st
  let s := s.updLogic p fun x => { x with warm := false }
  if st = .none ∨ st = .running ∨ st = .exchanging then s.logicStop p .stopped else s

theorem State.chill_cools (s : State) (p : Nat) : s.Cools (s.chill p) := by
  have cold : s.Cools (s.updLogic p fun x => { x with warm := false }) := s.updLogic_cools p (by intro _ _; rfl)
  unfold State.chill
  dsimp only
  split
  · exact cold.trans (State.logicStop_cools _ p _)
  · exact cold

theorem State.chill_cold (s : State) (p : Nat) : ((s.chill p).logic.get p).warm = false := by
  have cold : ((s.updLogic p fun x => { x with warm := false }).logic.get p).warm = false := by simp
  unfold State.chill
  dsimp only
  split
  · exact State.logicStop_cools _ p _ p cold
  · exact cold

/-- A fold that keeps a fact about every program and brings it about for its own brings it about for all. -/
theorem State.each_cold {ps : List Nat} {p : Nat} (h : p ∈ ps) (s : State) :
    ((s.each ps State.chill).logic.get p).warm = false := by
  induction ps generalizing s with
  | nil => cases h
  | cons q r ih =>
    by_cases hr : p ∈ r
    · exact ih hr (s.chill q)
    · have e : p = q := (List.mem_cons.1 h).resolve_right hr
      exact State.Cools.each (fun t x => t.chill_cools x) (s.chill q) r p (by rw [e]; exact s.chill_cold q)

theorem State.stopUnstarted_cold {s : State} {l p : Nat} (h : p ∈ s.lensLogic l) :
    ((s.stopUnstarted l).logic.get p).warm = false := State.each_cold h s

/-! ## EN is written (R48, R75, R76) -/

section
variable {u : UnitId} {s : State} {en : Bool} (ready : s.windowOpen .h0 = true) (range : unitInRange u = true)
  (present : unitPresent u = true) (differs : (s.unit u).en ≠ en)
include ready range present differs

theorem unitEnWrite_locked (h : s.glb.run = true ∨ ∃ i, u = .slice i) :
    s.Gives (.unitEnWrite u en) [.glb] fun t => t.glb = { s.glb with lockedWrite := true } := by
  have e := exec_unitEnWrite en ready range present
  rw [State.writeEn_locked differs h] at e
  exact Effect.gives s.lockedWrite_effect rfl e rfl

theorem unitEnWrite_fenced (run : s.glb.run = false) (other : ∀ i, u ≠ .slice i) (cfg : s.configured u = true) (on : en = true)
    (fenced : (s.unit u).fenced = true) : exec (.unitEnWrite u en) s = .next s := by
  have e := exec_unitEnWrite en ready range present
  rw [State.writeEn_open differs run other cfg, if_pos on] at e
  rw [e]
  unfold State.enable
  rw [if_pos fenced]

theorem unitEnWrite_starts (run : s.glb.run = false) (other : ∀ i, u ≠ .slice i) (cfg : s.configured u = true) (on : en = true)
    (open_ : (s.unit u).fenced = false) (off : (s.unit u).st = .off) : ∃ t, exec (.unitEnWrite u en) s = .next t ∧
      t.unit u = { s.unit u with en := true, st := .starting, since := s.now } ∧ s.OtherUnits u t := by
  have e := exec_unitEnWrite en ready range present
  rw [State.writeEn_open differs run other cfg, if_pos on, State.enable_off open_ off] at e
  have units := (s.updUnit u fun x => { x with en := true }).unitBegin_units u
  refine ⟨_, e, ?_, .trans (.of_upd (f := fun x => { x with en := true }) rfl) (.of_upd units)⟩
  rw [State.unit_of_upd units, State.unit_updUnit]
  rfl

theorem unitEnWrite_waits (run : s.glb.run = false) (other : ∀ i, u ≠ .slice i) (cfg : s.configured u = true) (off : en = false)
    (notOn : (s.unit u).st ≠ .on) (h : (s.unit u).st ≠ .starting ∨ ∀ l, u ≠ .lens l) :
    s.Gives (.unitEnWrite u en) [.units] fun t => t.units = s.units.upd (unitKey u) fun y => { y with en := false } := by
  have e := exec_unitEnWrite en ready range present
  rw [State.writeEn_open differs run other cfg, if_neg (by simp [off]), State.disable_of_not_on notOn h] at e
  exact Effect.gives (s.updUnit_effect u _) rfl e rfl

/-- A lens that loses EN in STARTING stops its programs (log 93). -/
theorem unitEnWrite_chills (run : s.glb.run = false) (cfg : s.configured u = true) {l : Nat} (off : en = false)
    (starting : (s.unit u).st = .starting) (lens : u = .lens l) :
    s.Gives (.unitEnWrite u en) [.freeIdx, .svc, .units, .facets, .progs, .lenses, .fencedFlash, .lanes, .logic, .slots64,
        .stns, .tos, .gps, .arms, .sms, .beams, .pwms, .swc, .fbcs, .hif, .mlk, .recs, .obs, .outputs] fun t =>
      t.units = (s.units.upd (unitKey u) fun y => { y with en := false }) ∧
      ∀ p, p ∈ s.lensLogic l → (t.logic.get p).warm = false := by
  subst lens
  have e := exec_unitEnWrite en ready range present
  rw [State.writeEn_open differs run (fun _ => nofun) cfg, if_neg (by simp [off]), State.disable_starting_lens starting] at e
  have stop := State.stopUnstarted_effect (s.updUnit (.lens l) fun x => { x with en := false }) l
  have all : Effect 0x4FAD8C03FF2 s _ := ((s.updUnit_effect (.lens l) fun x => { x with en := false }).mono rfl).go stop rfl
  exact Effect.gives all rfl e ⟨stop.same .units rfl, fun p hp => State.stopUnstarted_cold hp⟩

end

/-! ## STARTING ends (R76, R208) -/

theorem exec_unitStartDone {u : UnitId} {s : State} (starting : (s.unit u).st = .starting) (runs : s.unitsRun = true)
    (free : s.bistHolds u = false) (can : s.startable u = true) : exec (.unitStartDone u) s = .next (s.startDone u) :=
  congrArg Host.Outcome.next (if_pos ⟨starting, runs, by simp [free], can⟩)

theorem State.startDone_other {s : State} {u : UnitId} (slice : ∀ i, u ≠ .slice i) (pwm : ∀ n, u ≠ .pwm n) :
    s.startDone u = if (s.unitStarted u).unitOn u then (s.unitStarted u).unitWork u else s.unitStarted u := by
  cases u with
  | slice i => exact absurd rfl (slice i)
  | pwm n => exact absurd rfl (pwm n)
  | port | lens | arm | fbc | chain | beam => rfl

theorem State.sliceBack_units (s : State) (i : Nat) : (s.sliceBack i).units = (s.unitStarted (.slice i)).units := by
  unfold State.sliceBack
  dsimp only
  split
  · rfl
  · exact (State.resumePolls_effect ..).same .units rfl

theorem State.startDone_units {s : State} {u : UnitId} (starting : (s.unit u).st = .starting) (pwm : ∀ n, u ≠ .pwm n)
    (back : ∀ i, u = .slice i → s.creating i = false) : (s.startDone u).units = s.units.upd (unitKey u) fun y =>
      { y with st := if y.en then .on else .stopping, since := s.now } := by
  rw [← State.unitStarted_units starting]
  by_cases h : ∃ i, u = .slice i
  · obtain ⟨i, rfl⟩ := h
    have e : s.startDone (.slice i) = s.sliceBack i := if_neg (by simp [back i rfl])
    rw [e, State.sliceBack_units]
  · rw [State.startDone_other (fun i hi => h ⟨i, hi⟩) pwm]
    split
    · exact (State.unitWork_effect ..).same .units rfl
    · rfl

theorem unitStartDone_ends {u : UnitId} {s : State} (starting : (s.unit u).st = .starting) (runs : s.unitsRun = true)
    (free : s.bistHolds u = false) (can : s.startable u = true) (pwm : ∀ n, u ≠ .pwm n)
    (back : ∀ i, u = .slice i → s.creating i = false) : ∃ t, exec (.unitStartDone u) s = .next t ∧
      t.units = s.units.upd (unitKey u) fun y => { y with st := if y.en then .on else .stopping, since := s.now } :=
  ⟨_, exec_unitStartDone starting runs free can, State.startDone_units starting pwm back⟩

theorem unitStartDone_pwm {u : UnitId} {s : State} (starting : (s.unit u).st = .starting) (runs : s.unitsRun = true)
    (free : s.bistHolds u = false) {n : Nat} (h : u = .pwm n) : s.Gives (.unitStartDone u) [.pwms] fun t =>
      t.pwms = s.pwms.upd n fun p => { p with startReady := true } := by
  subst h
  exact Effect.gives (s.updPwm_effect n _) rfl (exec_unitStartDone starting runs free rfl) rfl

/-- The unit is OFF, with EN 0, since the end of its start or stop. -/
def State.dropUnit (s : State) (u : UnitId) (f : UnitSt → UnitSt) : State :=
  s.updUnit u fun x => { f x with st := .off, en := false, since := s.now }

theorem exec_unitStartFailed {u : UnitId} {s : State} (starting : (s.unit u).st = .starting) (runs : s.unitsRun = true)
    (free : s.bistHolds u = false) (back : ∀ i, u = .slice i → s.creating i = false) :
    exec (.unitStartFailed u) s = .next (((s.upTo ((s.unit u).since + startLimit u + 1)).dropUnit u fun x =>
      { x with startFailed := true }).event .unitStartFailed (unitKey u)) := by
  refine congrArg Host.Outcome.next ?_
  rw [if_neg (by simp [starting, runs, free])]
  cases u with
  | slice i =>
    have idle : (((s.upTo ((s.unit (.slice i)).since + startLimit (.slice i) + 1)).dropUnit (.slice i) fun x =>
        { x with startFailed := true }).event .unitStartFailed (unitKey (.slice i))).creating i = false := by
      have same (t : State) (e : t.svc = s.svc) : t.creating i = s.creating i := by
        unfold State.creating
        rw [e]
      rw [same _ (by simp [State.dropUnit])]
      exact back i rfl
    exact if_neg (by rw [Bool.not_eq_true]; exact idle)
  | port | lens | arm | pwm | fbc | chain | beam => rfl

theorem unitStartFailed_fails {u : UnitId} {s : State} (starting : (s.unit u).st = .starting) (runs : s.unitsRun = true)
    (free : s.bistHolds u = false) (back : ∀ i, u = .slice i → s.creating i = false) :
    s.Gives (.unitStartFailed u) [.now, .freeIdx, .units, .col, .recs] fun t =>
      t.now = max s.now ((s.unit u).since + startLimit u + 1) ∧
      t.unit u = { s.unit u with st := .off, startFailed := true, en := false, since := t.now } ∧
      (Ev.unitStartFailed, unitKey u, t.now) ∈ t.recs.evr.events := by
  have time := s.upTo_effect ((s.unit u).since + startLimit u + 1)
  have drop : Effect 0x400000021 s _ := (time.mono rfl).go
    (State.updUnit_effect _ u fun x => { x with st := .off, startFailed := true, en := false,
                                                since := (s.upTo ((s.unit u).since + startLimit u + 1)).now }) rfl
  have all : Effect 0x4400000021 s _ := (drop.mono rfl).go (State.event_effect _ .unitStartFailed (unitKey u)) rfl
  refine Effect.gives all rfl (exec_unitStartFailed starting runs free back) ⟨s.upTo_now _, ?_, ?_⟩
  · have same := State.unit_of_units (time.same .units rfl) u
    refine (State.unit_updUnit ..).trans ?_
    rw [same]
    rfl
  · rw [State.event_events]
    exact List.mem_append_right _ (List.mem_singleton.2 rfl)

/-! ## STOPPING ends (R76, R330) -/

theorem exec_unitStopDone {u : UnitId} {s : State} (stopping : (s.unit u).st = .stopping) (can : s.stoppable u = true) :
    exec (.unitStopDone u) s = .next (s.stopDone u) := congrArg Host.Outcome.next (if_pos ⟨stopping, can⟩)

theorem State.stopDone_other {s : State} {u : UnitId} (slice : ∀ i, u ≠ .slice i) (pwm : ∀ n, u ≠ .pwm n) :
    s.stopDone u = (s.unitLost u).unitStopped u := by
  cases u with
  | slice i => exact absurd rfl (slice i)
  | pwm n => exact absurd rfl (pwm n)
  | port | lens | arm | fbc | chain | beam => rfl

theorem State.unitLost_now (s : State) (u : UnitId) : (s.unitLost u).now = s.now := (s.unitLost_effect u).same .now rfl

theorem State.unitLost_units (s : State) (u : UnitId) : (s.unitLost u).units = s.units := (s.unitLost_effect u).same .units rfl

theorem State.stopDone_units {s : State} {u : UnitId} (stopping : (s.unit u).st = .stopping) (pwm : ∀ n, u ≠ .pwm n) :
    (s.stopDone u).units = s.units.upd (unitKey u) fun y =>
      { y with st := if y.en then .starting else .off, since := s.now } := by
  by_cases h : ∃ i, u = .slice i
  · obtain ⟨i, rfl⟩ := h
    rw [← State.unitStopped_units stopping]
    exact (State.removed_effect ..).same .units rfl
  · have same := State.unit_of_units (s.unitLost_units u) u
    rw [State.stopDone_other (fun i hi => h ⟨i, hi⟩) pwm, State.unitStopped_units (by rw [same]; exact stopping),
      State.unitLost_units, State.unitLost_now]

theorem unitStopDone_ends {u : UnitId} {s : State} (stopping : (s.unit u).st = .stopping) (can : s.stoppable u = true)
    (pwm : ∀ n, u ≠ .pwm n) : ∃ t, exec (.unitStopDone u) s = .next t ∧
      (t.unit u).st = (if (s.unit u).en then .starting else .off) ∧ (t.unit u).en = (s.unit u).en ∧
      (t.unit u).since = s.now ∧ s.OtherUnits u t := by
  have units := State.stopDone_units stopping pwm
  have unit := State.unit_of_upd units
  refine ⟨_, exec_unitStopDone stopping can, ?_, ?_, ?_, .of_upd units⟩ <;> rw [unit]

/-- The slice is gone (R330). -/
def State.dropSlice (s : State) (i : Nat) : State :=
  s.updSlice i fun x => { x with st := .off, work := none, stopped := false, silent := true }

theorem State.dropSlice_slice (s : State) (i : Nat) : (s.dropSlice i).slice i =
    { s.slice i with st := .off, work := none, stopped := false, silent := true } := Tbl.get_upd_same ..

theorem State.removed_eq {s : State} {i : Nat} {w : ResetWork} (work : (s.slice i).work = some w) (c : Code) :
    s.removed i c = (let t := (s.dropSlice i).complete w.jseq c (resetResult w (s.dropSlice i).ts)
      (t.nextResets i (t.slice i).workQueue.length).syncSlice 0) := by
  unfold State.removed
  rw [work]
  rfl

/-- The removal of a slice whose work has come to its last step answers and leaves the slice OFF (R330, log 36). -/
theorem State.removed_ends {s : State} {i : Nat} {w : ResetWork} {e : JEntry} (work : (s.slice i).work = some w)
    (queue : (s.slice i).workQueue = []) (entry : s.jEntry w.jseq = some e) (started : e.state = .started) (c : Code) :
    ((s.removed i c).slice i).work = none ∧ ((s.removed i c).slice i).st = .off ∧
      (s.removed i c).Ended w.jseq c (resetResult w s.ts) := by
  have off := s.dropSlice_slice i
  have ended := State.ended_complete (s.dropSlice i) (e := e) entry (by simp [started]) c (resetResult w (s.dropSlice i).ts)
  have rings := State.complete_sameRings (s.dropSlice i) w.jseq c (resetResult w (s.dropSlice i).ts)
  rw [State.removed_eq work c]
  dsimp only
  generalize (s.dropSlice i).complete w.jseq c (resetResult w (s.dropSlice i).ts) = t at ended rings ⊢
  have same := rings.core i
  have none_waits : (t.slice i).workQueue = [] := by
    rw [SliceSt.of_core SliceSt.workQueue (fun _ => rfl) same, off]
    exact queue
  rw [none_waits]
  have shown := State.syncSlice_synced t 0
  have all := (shown.core i).trans same
  refine ⟨?_, ?_, shown.ended ended⟩
  · exact (SliceSt.of_core SliceSt.work (fun _ => rfl) all).trans (by rw [off])
  · exact (SliceSt.of_core SliceSt.st (fun _ => rfl) all).trans (by rw [off])

theorem State.stopDone_slice {s : State} {i : Nat} {w : ResetWork} (work : (s.slice i).work = some w) :
    s.stopDone (.slice i) = (s.unitStopped (.slice i)).removed i (if s.hostLost i w then 0x0308 else cOk) := by
  unfold State.stopDone
  dsimp only
  rw [work]

theorem unitStopDone_removed {u : UnitId} {s : State} (stopping : (s.unit u).st = .stopping) {i : Nat} {w : ResetWork}
    {e : JEntry} (slice : u = .slice i) (work : (s.slice i).work = some w) (last : w.step = 7)
    (queue : (s.slice i).workQueue = []) (entry : s.jEntry w.jseq = some e) (started : e.state = .started) :
    ∃ t, exec (.unitStopDone u) s = .next t ∧ (t.slice i).work = none ∧ (t.slice i).st = .off ∧
      t.Ended w.jseq (if (s.hif.ports.get (s.slice i).port).up && !w.noHost then cOk else 0x0308) (resetResult w s.ts) := by
  subst slice
  have can : s.stoppable (.slice i) = true := by simp [State.stoppable, work, last]
  have stopped := s.unitStopped_effect (.slice i)
  have hif : (s.unitStopped (.slice i)).hif = s.hif := stopped.same .hif rfl
  have slice : (s.unitStopped (.slice i)).slice i = s.slice i := by
    unfold State.slice
    rw [hif]
  have code : (if s.hostLost i w then 0x0308 else cOk : Code) =
      if (s.hif.ports.get (s.slice i).port).up && !w.noHost then cOk else 0x0308 := by
    unfold State.hostLost
    cases w.noHost <;> cases (s.hif.ports.get (s.slice i).port).up <;> rfl
  have ts : (s.unitStopped (.slice i)).ts = s.ts := by
    unfold State.ts State.tai
    rw [stopped.same .col rfl]
  have ends := State.removed_ends (s := s.unitStopped (.slice i)) (i := i) (w := w) (e := e) (by rw [slice]; exact work)
    (by rw [slice]; exact queue) (by unfold State.jEntry; rw [hif]; exact entry) started (if s.hostLost i w then 0x0308 else cOk)
  refine ⟨_, exec_unitStopDone stopping can, ?_⟩
  rw [State.stopDone_slice work, ← code, ← ts]
  exact ends

/-! ## STOPPING takes too long (R76, R333) -/

/-- What follows the isolation of a unit. -/
def State.isolated (s : State) : UnitId → State
  | .slice i => s.removed i cAbortedReset
  | u => s.unitLost u

theorem State.isolated_units (s : State) (u : UnitId) : (s.isolated u).units = s.units := by
  unfold State.isolated
  split
  · exact (State.removed_effect ..).same .units rfl
  · exact State.unitLost_units ..

theorem State.isolated_now (s : State) (u : UnitId) : (s.isolated u).now = s.now := by
  unfold State.isolated
  split
  · exact (State.removed_effect ..).same .now rfl
  · exact State.unitLost_now ..

theorem State.isolated_held (s : State) (u : UnitId) : (s.isolated u).held = s.held := by
  unfold State.isolated
  split <;> simp

theorem mem_fencedAlarms {as : List (Ev × Nat)} {k : Nat} : (Ev.unitFenced, k) ∈ fencedAlarms as ↔ (Ev.unitFenced, k) ∈ as := by
  simp [fencedAlarms]

/-- The alarm of a fenced unit stays on through all that is held. -/
theorem State.fenced_of_held {s t : State} (h : t.held = s.held) {k : Nat} (on : (Ev.unitFenced, k) ∈ s.recs.evr.alarms) :
    (Ev.unitFenced, k) ∈ t.recs.evr.alarms := by
  have same : fencedAlarms t.recs.evr.alarms = fencedAlarms s.recs.evr.alarms := congrArg Held.fenced h
  rw [← mem_fencedAlarms, same, mem_fencedAlarms]
  exact on

theorem exec_unitFenced {u : UnitId} {s : State} (stopping : (s.unit u).st = .stopping) :
    exec (.unitFenced u) s = .next ((((s.upTo ((s.unit u).since + stopLimit u + 1)).dropUnit u fun x =>
      { x with fenced := true }).alarm .unitFenced (unitKey u)).isolated u) := by
  refine congrArg Host.Outcome.next ?_
  rw [if_neg (not_not_intro stopping)]
  cases u <;> rfl

theorem unitFenced_fences {u : UnitId} {s : State} (stopping : (s.unit u).st = .stopping) :
    ∃ t, exec (.unitFenced u) s = .next t ∧ t.now = max s.now ((s.unit u).since + stopLimit u + 1) ∧
      t.unit u = { s.unit u with st := .off, fenced := true, en := false, since := t.now } ∧
      (Ev.unitFenced, unitKey u) ∈ t.recs.evr.alarms := by
  refine ⟨_, exec_unitFenced stopping, ?_, ?_, ?_⟩
  · rw [State.isolated_now, (State.alarm_effect ..).same .now rfl]
    exact s.upTo_now _
  · rw [State.unit_of_units (State.isolated_units ..), State.isolated_now,
      State.unit_of_units ((State.alarm_effect ..).same .units rfl), (State.alarm_effect ..).same .now rfl]
    have same := State.unit_of_units ((s.upTo_effect ((s.unit u).since + stopLimit u + 1)).same .units rfl) u
    refine (State.unit_updUnit ..).trans ?_
    rw [same]
    rfl
  · refine State.fenced_of_held (State.isolated_held ..) ?_
    rw [State.mem_alarms_alarm]
    exact .inl rfl

/-- Settles O47: a change of EN is what the unit's state makes of it; STARTING and STOPPING end in one write of the unit, and
nothing that follows writes another. -/
theorem unitsStartStopAndFence : Obligations.UnitsStartStopAndFence := by
  unfold Obligations.UnitsStartStopAndFence
  intro u s
  refine ⟨fun en ready range present differs => ⟨unitEnWrite_locked ready range present differs, fun run other cfg =>
      ⟨unitEnWrite_fenced ready range present differs run other cfg, unitEnWrite_starts ready range present differs run other cfg,
        unitEnWrite_waits ready range present differs run other cfg,
        fun l => unitEnWrite_chills ready range present differs run cfg⟩⟩,
    fun starting runs free => ⟨fun can pwm back => unitStartDone_ends starting runs free can pwm back,
      fun n h => unitStartDone_pwm starting runs free h, fun back => unitStartFailed_fails starting runs free back⟩,
    fun stopping => ⟨fun can pwm => unitStopDone_ends stopping can pwm,
      fun i w e slice _ work last queue entry started =>
        unitStopDone_removed stopping slice work last queue entry started, unitFenced_fences stopping⟩⟩

end Sys2Proof.Machine
end

section
/-! SUPPORT. What a restart leaves of the keep-alive domain, the banks, the key slots, the Service Channel and the mirror link
(R62 to R65, R403). -/

namespace Sys2Proof.Machine

/-! ## Before the module starts again -/

/-- What is retained, dropped and flushed before the Service Channel's work is cut. -/
def State.quietened (s : State) (c : RstCause) (warm : Bool) : State :=
  let o := (s.retain c).flushBeams.toOffline
  if warm then o else o.flushFor (s.restartCause c)

theorem State.beforeRestart_eq (s : State) (c : RstCause) (warm : Bool) :
    s.beforeRestart c warm = (s.quietened c warm).cutSvc := rfl

theorem State.quietened_effect (s : State) (c : RstCause) (warm : Bool) :
    Effect 0x47AC80008C2 (s.retain c) (s.quietened c warm) := by
  have off := State.offline_effect (s.retain c)
  unfold State.quietened
  dsimp only
  cases warm
  · exact (off.mono rfl).go (State.flushFor_effect ..) rfl
  · exact off.mono rfl

theorem State.retain_other (s : State) {c : RstCause} (h : c ≠ .cmdWarm) : s.retain c = s := if_neg fun k => h k.1

/-- A commanded warm restart retains the slots and the package that they are of (R64, R119). -/
theorem State.retain_asked {s : State} (runs : s.mmRuns = true) :
    (s.retain .cmdWarm).ka = { s.ka with retentionValid := true, retSrc := false } ∧
      (s.retain .cmdWarm).svc = { s.svc with retainedPkg := s.pkg.ident } ∧
      (s.retain .cmdWarm).slots64 = s.fillSlots.slots64 := by
  have e : s.retain .cmdWarm = (s.fillSlots.updSvc fun v => { v with retainedPkg := s.pkg.ident }).updKa fun k =>
      { k with retentionValid := true, retSrc := false } := if_pos ⟨rfl, runs⟩
  have ka : s.fillSlots.ka = s.ka := s.fillSlots_effect.same .ka rfl
  have svc : s.fillSlots.svc = s.svc := s.fillSlots_effect.same .svc rfl
  rw [e, ← ka, ← svc]
  exact ⟨rfl, rfl, rfl⟩

/-- What is retained changes two bits of the keep-alive domain and one word of the channel. -/
theorem State.retain_kept (s : State) (c : RstCause) :
    (s.retain c).ka = { s.ka with retentionValid := (s.retain c).ka.retentionValid, retSrc := (s.retain c).ka.retSrc } ∧
      (s.retain c).svc = { s.svc with retainedPkg := (s.retain c).svc.retainedPkg } := by
  by_cases h : c = .cmdWarm ∧ s.mmRuns = true
  · obtain ⟨rfl, runs⟩ := h
    obtain ⟨ka, svc, -⟩ := State.retain_asked runs
    rw [ka, svc]
    exact ⟨rfl, rfl⟩
  · have e : s.retain c = s := if_neg h
    rw [e]
    exact ⟨rfl, rfl⟩

/-- The banks and the key slots as they were. -/
structure State.SameStore (s t : State) : Prop where
  slots : t.obs.slots = s.obs.slots
  bankA : t.svc.bankA = s.svc.bankA
  bankB : t.svc.bankB = s.svc.bankB
  cfg0 : t.svc.cfg0 = s.svc.cfg0
  cfg1 : t.svc.cfg1 = s.svc.cfg1

theorem State.SameStore.of_held {s t : State} (h : t.held = s.held) : s.SameStore t where
  slots := congrArg Held.slots h
  bankA := congrArg (fun x => x.banks.1) h
  bankB := congrArg (fun x => x.banks.2.1) h
  cfg0 := congrArg (fun x => x.banks.2.2.1) h
  cfg1 := congrArg (fun x => x.banks.2.2.2) h

theorem State.SameStore.of_parts {s t : State} (obs : t.obs = s.obs) (svc : t.svc = s.svc) : s.SameStore t := by
  exact ⟨congrArg _ obs, congrArg _ svc, congrArg _ svc, congrArg _ svc, congrArg _ svc⟩

theorem State.SameStore.trans {s t u : State} (h : s.SameStore t) (k : t.SameStore u) : s.SameStore u where
  slots := k.slots.trans h.slots
  bankA := k.bankA.trans h.bankA
  bankB := k.bankB.trans h.bankB
  cfg0 := k.cfg0.trans h.cfg0
  cfg1 := k.cfg1.trans h.cfg1

theorem State.cutSvc_store (s : State) : s.SameStore s.cutSvc where
  slots := congrArg Held.slots s.cutSvc_held
  bankA := congrArg (fun x => x.banks.1) s.cutSvc_held
  bankB := congrArg (fun x => x.banks.2.1) s.cutSvc_held
  cfg0 := congrArg (fun x => x.banks.2.2.1) s.cutSvc_held
  cfg1 := congrArg (fun x => x.banks.2.2.2) s.cutSvc_held

theorem State.beforeRestart_store (s : State) (c : RstCause) (warm : Bool) : s.SameStore (s.beforeRestart c warm) :=
  have quiet := s.quietened_effect c warm
  ((State.SameStore.of_held (s.retain_held c)).trans (.of_parts (quiet.same .obs rfl) (quiet.same .svc rfl))).trans
    (State.cutSvc_store _)

theorem State.quietened_running (s : State) (c : RstCause) (warm : Bool) : (s.quietened c warm).svc.running = s.svc.running := by
  rw [(s.quietened_effect c warm).same .svc rfl, (s.retain_kept c).2]

/-- Nothing runs on the channel: nothing of it is cut. -/
theorem State.beforeRestart_idle {s : State} {c : RstCause} (warm : Bool) (other : c ≠ .cmdWarm) (idle : s.svc.running = none) :
    Effect 0x47AC80008C2 s (s.beforeRestart c warm) := by
  have quiet := s.quietened_effect c warm
  rw [State.beforeRestart_eq, State.cutSvc_of_idle (by rw [State.quietened_running, idle])]
  rw [s.retain_other other] at quiet
  exact quiet

/-! ## What is reborn -/

/-- What any restart keeps, with the hash key of the next start. -/
theorem State.reborn_cold (s : State) : Effect 0x200000002 s.survive (s.reborn false) := s.survive.newHashKey_effect

theorem State.reborn_obs (s : State) (warm : Bool) : (s.reborn warm).obs.slots = s.obs.slots := by
  cases warm
  · rw [s.reborn_cold.same .obs rfl]
    rfl
  · rfl

theorem State.reborn_store (s : State) (warm : Bool) : s.SameStore (s.reborn warm) := by
  have svc : (s.reborn warm).svc.bankA = s.svc.bankA ∧ (s.reborn warm).svc.bankB = s.svc.bankB ∧
      (s.reborn warm).svc.cfg0 = s.svc.cfg0 ∧ (s.reborn warm).svc.cfg1 = s.svc.cfg1 := by
    cases warm
    · rw [s.reborn_cold.same .svc rfl]
      exact ⟨rfl, rfl, rfl, rfl⟩
    · exact ⟨rfl, rfl, rfl, rfl⟩
  obtain ⟨a, b, c, d⟩ := svc
  exact ⟨s.reborn_obs warm, a, b, c, d⟩

theorem State.reborn_running (s : State) (warm : Bool) : (s.reborn warm).svc.running = none := by
  cases warm
  · rw [s.reborn_cold.same .svc rfl]
    rfl
  · rfl

theorem State.reborn_mlk (s : State) (warm : Bool) :
    (s.reborn warm).mlk.grant = false ∧ (s.reborn warm).mlk.role = .offline := by
  cases warm
  · rw [s.reborn_cold.same .mlk rfl]
    exact ⟨rfl, rfl⟩
  · exact ⟨rfl, rfl⟩

/-! ## What a restart leaves -/

theorem State.restart_store (s : State) (c : RstCause) (ok : Bool) : s.SameStore (s.restart c ok) :=
  have kept := s.restart_kept c ok
  ((s.beforeRestart_store c _).trans (State.reborn_store _ _)).trans (.of_parts (kept.same .obs rfl) (kept.same .svc rfl))

theorem State.restart_running (s : State) (c : RstCause) (ok : Bool) : (s.restart c ok).svc.running = none := by
  rw [(s.restart_kept c ok).same .svc rfl]
  exact State.reborn_running ..

theorem State.restart_mlk (s : State) (c : RstCause) (ok : Bool) :
    (s.restart c ok).mlk.grant = false ∧ (s.restart c ok).mlk.role = .offline := by
  rw [(s.restart_kept c ok).same .mlk rfl]
  exact State.reborn_mlk ..

theorem State.restart_ka (s : State) (c : RstCause) (ok : Bool) :
    let k := (s.beforeRestart c (s.restartsWarm c ok)).ka
    (s.restart c ok).ka = { k with
      cause := s.restartCause c, count := Nat.min 0xFFFF (k.count + 1)
      journalSealOk := asksWarm c && (s.retain c).flushBeams.ka.retentionValid && ok
      retentionValid := k.retentionValid && s.restartsWarm c ok, bootRetried := false } := by
  have ka : ∀ u : State, ∀ w b, ((u.reborn w).retimed c b).ka = u.ka :=
    fun u w b => (State.retimed_ka ..).trans (u.reborn_ka w)
  rw [s.restart_eq c ok]
  dsimp only
  exact congrArg (fun k : Ka => ({ k with
    cause := s.restartCause c, count := Nat.min 0xFFFF (k.count + 1)
    journalSealOk := asksWarm c && (s.retain c).flushBeams.ka.retentionValid && ok
    retentionValid := k.retentionValid && s.restartsWarm c ok, bootRetried := false } : Ka)) (ka _ _ _)

/-- The keep-alive domain before a restart: a commanded warm one retains data, and a cut operation is noted. -/
theorem State.beforeRestart_ka (s : State) (c : RstCause) (warm : Bool) : (s.beforeRestart c warm).ka =
    { (s.retain c).ka with svcCut := s.ka.svcCut || s.svc.running.isSome } := by
  have quiet : (s.quietened c warm).ka = (s.retain c).ka := (s.quietened_effect c warm).same .ka rfl
  have cut : (s.retain c).ka.svcCut = s.ka.svcCut := by rw [(s.retain_kept c).1]
  rw [State.beforeRestart_eq]
  cases h : s.svc.running with
  | none =>
    rw [State.cutSvc_of_idle (by rw [State.quietened_running, h]), quiet, ← cut]
    simp
  | some o =>
    rw [State.cutSvc_of_running (o := o) (by rw [State.quietened_running, h])]
    show { ((s.quietened c warm).undoWork o).ka with svcCut := true } = _
    rw [State.undoWork_ka, quiet]
    simp

theorem State.restart_cause (s : State) (c : RstCause) (ok : Bool) : (s.restart c ok).ka.cause = s.restartCause c := by
  rw [s.restart_ka c ok]

theorem State.restart_nextBank (s : State) (c : RstCause) (ok : Bool) : (s.restart c ok).ka.nextBank = s.ka.nextBank := by
  rw [s.restart_ka c ok]
  dsimp only
  rw [State.beforeRestart_ka, (s.retain_kept c).1]

theorem State.restart_fwImage (s : State) (c : RstCause) (ok b : Bool) : (s.restart c ok).fwImage b = s.fwImage b := by
  have store := s.restart_store c ok
  unfold State.fwImage
  rw [store.bankA, store.bankB]

end Sys2Proof.Machine
end

section
/-! PROOF. The effects of Service Channel operations (O53): one rule for each operation that ends. -/

namespace Sys2Proof.Machine

/-! ## The channel is free again (R74) -/

/-- The operation `o` of `s` has ended with this code, and the channel is free for the one that waits. -/
def State.Frees (s : State) (o : SvcOp) (c : Code) (t : State) : Prop :=
  t.svc.running = s.svc.waiting ∧ t.svc.waiting = none ∧ t.svc.tag = o.tag ∧ t.svc.code = c ∧
    (o.door = .mailbox → t.svc.done = true)

/-- An operation ends in a state that has the same operation and the same one waiting. -/
theorem State.svcEnd_frees {s u : State} {o : SvcOp} (run : u.svc.running = some o) (wait : u.svc.waiting = s.svc.waiting)
    (c : Code) (data : Nat) : s.Frees o c (u.svcEnd c data) := by
  unfold State.Frees
  rw [State.svcEnd_svc run, wait]
  exact ⟨rfl, rfl, rfl, rfl, fun mail => by simp [mail]⟩

theorem State.svcEnd_frees_of_svc {s u : State} {o : SvcOp} (run : s.svc.running = some o) (same : u.svc = s.svc)
    (c : Code) (data : Nat) : s.Frees o c (u.svcEnd c data) :=
  State.svcEnd_frees (by rw [same, run]) (by rw [same]) c data

/-- Whether the host takes a write does not depend on the write before it. -/
theorem State.svcOut_hears {s : State} {o : SvcOp} (run : s.svc.running = some o) (off : Nat) (bytes : List Byte) :
    (s.svcOut off bytes).2.hears o = s.hears o := by
  unfold State.svcOut State.hears
  rw [run]
  cases hd : o.door with
  | ring => simp
  | mailbox =>
    dsimp only
    simp only [hd]
    split <;> rfl

/-- The host takes what the operation `o` writes: it came from a ring, or its port is up. -/
def State.Heard (s : State) (o : SvcOp) : Prop := o.door = .ring ∨ (s.hif.ports.get o.host).up = true

theorem State.hears_iff (s : State) (o : SvcOp) : s.hears o = true ↔ s.Heard o := by
  simp [State.hears, State.Heard]

/-- The end of an operation leaves the banks. -/
theorem State.svcEnd_fwImage (s : State) (c : Code) (data : Nat) (b : Bool) : (s.svcEnd c data).fwImage b = s.fwImage b := by
  have h := State.SameStore.of_held (s.svcEnd_held c data)
  unfold State.fwImage
  rw [h.bankA, h.bankB]

/-- The new key is set, and the learned table is empty (R244). -/
def State.rekeyed (s : State) : State :=
  s.newHashKey.updSwc fun w => { w with learned := [], learnBlocked := false, rekeying := false }

theorem State.rekeyed_svc (s : State) : s.rekeyed.svc = s.svc := s.newHashKey_effect.same .svc rfl

theorem State.rekeyed_swc (s : State) : s.rekeyed.swc = { s.swc with
    learned := [], learnBlocked := false, rekeying := false, hashKey := s.rekeyed.swc.hashKey
    hashEpoch := min 0xFFFF (s.swc.hashEpoch + 1) } := by
  obtain ⟨k, hk⟩ : ∃ k, s.newHashKey.swc = { s.swc with hashKey := k, hashEpoch := min 0xFFFF (s.swc.hashEpoch + 1) } :=
    ⟨_, rfl⟩
  unfold State.rekeyed
  rw [State.updSwc_swc, hk]

/-- The image lies in its bank, and NEXT_BANK names it (R53). -/
def State.writeImage (s : State) (b : Bool) (i : Image) : State :=
  (s.updSvc fun v => if b then { v with bankB := some i } else { v with bankA := some i }).updKa fun k => { k with nextBank := b }

theorem State.writeImage_fwImage (s : State) (b : Bool) (i : Image) :
    (s.writeImage b i).fwImage b = some i ∧ (s.writeImage b i).fwImage (!b) = s.fwImage (!b) := by
  cases b <;> exact ⟨rfl, rfl⟩

/-- What a KEY_WRITE leaves once it has ended (R405). -/
def State.keyWritten (s : State) (b : KeyBlock) (key : List Byte) : State :=
  let old := s.obs.slots.get b.slot
  match b.subop with
  | 0 => (s.setSlot b.slot { attr := newAttr b ||| (if attrLocked old.attr then 4 else 0), key := key }).svcEnd cOk 0
  | 1 => (s.setSlot b.slot { attr := newAttr b, key := key }).svcEnd cOk 0
  | 2 => (s.setSlot b.slot {}).svcEnd cOk 0
  | 3 =>
    let (ok, s) := s.svcOut 64 old.key
    s.svcEnd (if ok then cOk else 0x0102) 0
  | _ => (s.setSlot b.slot { old with attr := old.attr ||| 4 }).svcEnd cOk 0

section
variable {o : SvcOp} {s : State} (run : s.svc.running = some o)
include run

theorem State.writeImage_frees (b : Bool) (i : Image) (c : Code) (data : Nat) :
    s.Frees o c ((s.writeImage b i).svcEnd c data) :=
  State.svcEnd_frees (u := s.writeImage b i) (by cases b <;> exact run) (by cases b <;> rfl) c data

/-- A slot has taken its value, and the operation has ended. -/
theorem State.setSlot_ended (k : Nat) (x : KeySlot) : s.Frees o cOk ((s.setSlot k x).svcEnd cOk 0) ∧
    ((s.setSlot k x).svcEnd cOk 0).obs = { s.obs with slots := s.obs.slots.set k x } :=
  ⟨State.svcEnd_frees_of_svc (u := s.setSlot k x) run rfl _ _, (State.svcEnd_effect ..).same .obs rfl⟩

/-- What the host reads of a statement: its length and number of entries, and the signed text (R414). -/
theorem State.svcOut_twice (u : State) (same : u.svc = s.svc) (ports : u.hif.ports = s.hif.ports) (p q : Nat) (a b : List Byte) :
    (u.svcOut p a).1 = s.hears o ∧ ((u.svcOut p a).2.svcOut q b).1 = s.hears o := by
  have run' : u.svc.running = some o := by rw [same, run]
  have hears : u.hears o = s.hears o := by simp [State.hears, ports]
  exact ⟨by rw [State.svcOut_heard run', hears],
    by rw [State.svcOut_heard (by rw [State.svcOut_svc, run']), State.svcOut_hears run', hears]⟩

variable (up : s.mlk.mmDown = false)
include up

/-! ## FW_COMMIT (R53, R55) -/

theorem fwCommit_ended {b : Bool} {i : Image} (w : o.work = .fwCommit b i) :
    (∃ t, exec (.fwCommitDone false) s = .next t ∧ s.Frees o 0x0103 t ∧ t.ka = s.ka) ∧
    (s.glb.phase ≠ .bootFailed → ∃ t, exec (.fwCommitDone true) s = .next t ∧ s.Frees o cOk t ∧
      t.fwImage b = some i ∧ t.fwImage (!b) = s.fwImage (!b) ∧ t.ka = { s.ka with nextBank := b }) ∧
    (s.glb.phase = .bootFailed → ∃ t, exec (.fwCommitDone true) s = .next t ∧ t.fwImage b = some i ∧
      t.ka.nextBank = b ∧ t.glb.phase = .kaStart ∧ t.ka.cause = .cmdCold) := by
  have bad : exec (.fwCommitDone false) s = .next (s.svcEnd 0x0103 0) := by
    show execFwCommitDone false s = _
    unfold execFwCommitDone
    rw [State.svcDoing_of_running run, w]
    simp [up]
  let u := (s.writeImage b i).svcEnd cOk 0
  have ka : u.ka = { s.ka with nextBank := b } := (State.svcEnd_effect ..).same .ka rfl
  have glb : u.glb = s.glb := (State.svcEnd_effect ..).same .glb rfl
  have good : exec (.fwCommitDone true) s = .next (if u.glb.phase = .bootFailed then u.restart .cmdCold false else u) := by
    show execFwCommitDone true s = _
    unfold execFwCommitDone
    rw [State.svcDoing_of_running run, w]
    dsimp only
    rw [if_neg (by simp [up])]
    rfl
  obtain ⟨image, other⟩ := s.writeImage_fwImage b i
  refine ⟨⟨_, bad, State.svcEnd_frees_of_svc run rfl _ _, (State.svcEnd_effect ..).same .ka rfl⟩, fun ok => ?_,
    fun failed => ?_⟩
  · rw [if_neg (by rw [glb]; exact ok)] at good
    exact ⟨u, good, State.writeImage_frees run .., by rw [State.svcEnd_fwImage, image],
      by rw [State.svcEnd_fwImage, other], ka⟩
  · rw [if_pos (by rw [glb]; exact failed)] at good
    refine ⟨_, good, ?_, ?_, State.restart_phase .., ?_⟩
    · rw [State.restart_fwImage, State.svcEnd_fwImage, image]
    · rw [State.restart_nextBank, ka]
    · rw [State.restart_cause, State.restartCause, if_neg (by rw [glb, failed]; decide)]

/-! ## KEY_WRITE, ATTEST and HASH_REKEY (R244, R403, R405, R414) -/

theorem keyWrite_ended {b : KeyBlock} {key : List Byte} (w : o.work = .keyWrite b key) :
    s.Gives .keyWriteDone [.freeIdx, .svc, .hif, .mlk, .recs, .obs, .outputs] fun t =>
      let old := s.obs.slots.get b.slot
      let kept : Word := if attrLocked old.attr then 4 else 0
      (b.subop = 0 → s.Frees o cOk t ∧
        t.obs = { s.obs with slots := s.obs.slots.set b.slot { attr := newAttr b ||| kept, key := key } }) ∧
      (b.subop = 1 → s.Frees o cOk t ∧
        t.obs = { s.obs with slots := s.obs.slots.set b.slot { attr := newAttr b, key := key } }) ∧
      (b.subop = 2 → s.Frees o cOk t ∧ t.obs = { s.obs with slots := s.obs.slots.set b.slot {} }) ∧
      (b.subop = 3 → t.obs = s.obs ∧ (s.Heard o → s.Frees o cOk t)) ∧
      (b.subop = 4 → s.Frees o cOk t ∧
        t.obs = { s.obs with slots := s.obs.slots.set b.slot { old with attr := old.attr ||| 4 } }) := by
  have e : exec .keyWriteDone s = .next (s.keyWritten b key) := by
    show execKeyWriteDone s = _
    unfold execKeyWriteDone
    rw [State.svcDoing_of_running run, w]
    dsimp only
    rw [if_neg (by simp [up])]
    rfl
  refine Effect.gives (Effect.of_ok (execKeyWriteDone_effect s) e) rfl e
    ⟨fun h => ?_, fun h => ?_, fun h => ?_, fun h => ?_, fun h => ?_⟩
  all_goals unfold State.keyWritten; rw [h]; dsimp only
  · exact State.setSlot_ended run ..
  · exact State.setSlot_ended run ..
  · exact State.setSlot_ended run ..
  · refine ⟨((State.svcEnd_effect ..).same .obs rfl).trans ((State.svcOut_effect ..).same .obs rfl), fun heard => ?_⟩
    rw [State.svcOut_heard run, if_pos ((s.hears_iff o).2 heard)]
    exact State.svcEnd_frees_of_svc run (State.svcOut_svc ..) _ _
  · exact State.setSlot_ended run ..

theorem attest_ended {ims : List Byte} {n : Nat} (w : o.work = .attest ims n) :
    s.Gives .attestDone [.freeIdx, .svc, .hif, .mlk, .recs, .obs, .outputs] fun t =>
      (s.Heard o → s.Frees o cOk t ∧ t.obs = { s.obs with attestNo := (s.obs.attestNo + 1) % 2 ^ 64 }) ∧
      (¬ s.Heard o → s.Frees o 0x0102 t ∧ t.obs = s.obs) := by
  let total := 2680 + 72 * n + 4627
  let v := (s.free.2.svcOut 32 (leBytes 4 total ++ leBytes 2 n)).2
  let all := ims ++ Config.sign (s.obs.slots.get 0).key ims s.free.1
  have e : exec .attestDone s = .next
      (if (s.free.2.svcOut 32 (leBytes 4 total ++ leBytes 2 n)).1 && (v.svcOut 64 all).1 then
        ((v.svcOut 64 all).2.updObs fun o => { o with attestNo := (o.attestNo + 1) % 2 ^ 64 }).svcEnd cOk (total + n * 2 ^ 32)
      else (v.svcOut 64 all).2.svcEnd 0x0102 0) := by
    show execAttestDone s = _
    unfold execAttestDone
    rw [State.svcDoing_of_running run, w]
    dsimp only
    rw [if_neg (by simp [up])]
    rfl
  obtain ⟨first, second⟩ := State.svcOut_twice run s.free.2 rfl rfl 32 64 (leBytes 4 total ++ leBytes 2 n) all
  rw [first, second, Bool.and_self] at e
  have svc : (v.svcOut 64 all).2.svc = s.svc := (State.svcOut_svc ..).trans (State.svcOut_svc ..)
  have obs : (v.svcOut 64 all).2.obs = s.obs :=
    ((State.svcOut_effect ..).same .obs rfl).trans ((State.svcOut_effect ..).same .obs rfl)
  refine Effect.gives (Effect.of_ok (execAttestDone_effect s) e) rfl e ⟨fun heard => ?_, fun deaf => ?_⟩
  · rw [if_pos ((s.hears_iff o).2 heard)]
    refine ⟨State.svcEnd_frees_of_svc (u := (v.svcOut 64 all).2.updObs _) run svc _ _,
      ((State.svcEnd_effect ..).same .obs rfl).trans ?_⟩
    rw [State.updObs_obs, obs]
  · rw [if_neg fun h => deaf ((s.hears_iff o).1 h)]
    exact ⟨State.svcEnd_frees_of_svc run svc _ _, ((State.svcEnd_effect ..).same .obs rfl).trans obs⟩

theorem hashRekey_ended (w : o.work = .hashRekey) :
    s.Gives .hashRekeyDone [.freeIdx, .svc, .swc, .hif, .mlk, .recs, .outputs] fun t =>
      s.Frees o cOk t ∧ t.swc = { s.swc with learned := [], learnBlocked := false, rekeying := false, hashKey := t.swc.hashKey,
                                             hashEpoch := min 0xFFFF (s.swc.hashEpoch + 1) } := by
  have e : exec .hashRekeyDone s = .next (s.rekeyed.svcEnd cOk 0) := by
    show execHashRekeyDone s = _
    unfold execHashRekeyDone
    rw [State.svcDoing_of_running run, w]
    dsimp only
    rw [if_neg (by simp [up])]
    rfl
  refine Effect.gives (Effect.of_ok (execHashRekeyDone_effect s) e) rfl e
    ⟨State.svcEnd_frees_of_svc run s.rekeyed_svc _ _, ?_⟩
  rw [(State.svcEnd_effect ..).same .swc rfl]
  exact s.rekeyed_swc


end

end Sys2Proof.Machine
end

section
/-! SUPPORT. The safe state (R419, R420): a module whose self-test failed is OFFLINE. -/

namespace Sys2Proof.Machine

@[simp] theorem State.freeEntry_held (s : State) (j : Nat) : (s.freeEntry j).held = s.held := by
  unfold State.freeEntry
  simp

@[simp] theorem State.writeCompletion_held (s : State) (e : JEntry) : (s.writeCompletion e).held = s.held := by
  unfold State.writeCompletion
  simp

@[simp] theorem State.anyPort_held (s : State) : s.anyPort.held = s.held := rfl

@[simp] theorem State.abortJournal_held (s : State) : s.abortJournal.held = s.held := by
  unfold State.abortJournal
  rw [State.held_each _ _ _ ?_, State.anyPort_held]
  intro t e
  dsimp only
  split <;> simp

theorem State.safeState_held (s : State) (k : Nat) : (s.safeState k).held = { s.toOffline.held with fetchStopped := true } := by
  have closed : ∀ t : State, (t.updHif fun h => { h with fetchStopped := true }).held = { t.held with fetchStopped := true } :=
    fun _ => rfl
  unfold State.safeState
  dsimp only
  rw [State.held_updEvr _ _ (by intro _; rfl), State.alarm_held _ _ _ (by decide), State.held_updGlb, State.held_ite,
    State.abortJournal_held, ite_self, State.held_each _ _ _ (by intro t x; exact t.stopFacet_held ..), closed,
    State.held_each _ _ _ (by intro t x; rfl)]

theorem State.safeState_role (s : State) (k : Nat) : (s.safeState k).mlk.role = .offline :=
  (congrArg Held.role (s.safeState_held k)).trans s.toOffline_role

theorem State.safeState_phase (s : State) (k : Nat) : (s.safeState k).glb.phase = .safe := by
  unfold State.safeState
  dsimp only
  rw [State.updEvr_glb, State.alarm_glb]
  rfl

end Sys2Proof.Machine
end

section
/-! PROOF. The end of a BIST operation (O53; R415, R417 to R420, R460). -/

namespace Sys2Proof.Machine

/-! ## Judging a result (R415, R460) -/

theorem State.bistPasses_logic (s : State) {r : Nat} (h : r / 256 ≤ 3) (b : BistOutcome) :
    s.bistPasses r b = decide (resultValue r b = 0) := by
  have cases : r / 256 = 0 ∨ r / 256 = 1 ∨ r / 256 = 2 ∨ r / 256 = 3 := by omega
  unfold State.bistPasses
  obtain k | k | k | k := cases <;> (rw [k]; rfl)

theorem State.bistPasses_reference (s : State) {r : Nat} (h : r / 256 = 5) (b : BistOutcome) :
    s.bistPasses r b = (decide (-50 ≤ resultValue r b) && decide (resultValue r b ≤ 50)) := by
  unfold State.bistPasses
  rw [h]
  exact Bool.decide_and ..

theorem State.bistPasses_optical (s : State) {r : Nat} (h : r / 256 = 6) (b : BistOutcome) {lo hi : Int}
    (range : s.opticalRange (r % 256) = (lo, hi)) :
    s.bistPasses r b = (decide (lo ≤ resultValue r b) && decide (resultValue r b ≤ hi)) := by
  unfold State.bistPasses
  rw [h, range]
  exact Bool.decide_and ..

theorem resultValue_optical {r : Nat} (h : r / 256 = 6) {b : BistOutcome} {x : Int} {xs : List Int} (lanes : b.lanes = x :: xs) :
    resultValue r b = xs.foldl min x := by
  unfold resultValue
  rw [h, lanes]
  rfl

theorem State.opticalRange_port (s : State) {k : Nat} (h : k < 4) :
    s.opticalRange k = if (s.portCfg k).speed = 0 then (-93, 24) else (-89, -10) := if_pos h

theorem State.opticalRange_link (s : State) {k : Nat} (h : 4 ≤ k) (h' : k < 16) : s.opticalRange k = (-93, 24) := by
  unfold State.opticalRange
  rw [if_neg (by omega), if_pos h']

theorem State.opticalRange_beam (s : State) {k : Nat} (h : 16 ≤ k) : s.opticalRange k = (-130, 0) := by
  unfold State.opticalRange
  rw [if_neg (by omega), if_neg (by omega)]

/-! ## What the test leaves -/

/-- The registers of the test show its result (R417). -/
def State.bistShown (s : State) (r : Nat) (b : BistOutcome) : State :=
  let good := s.bistPasses r b && b.restoreOk
  s.updBst fun x =>
    { x with busy := false, result := if good then .pass else .fail, region := r, sig := b.sig, gold := b.gold
             meas := resultValue r b, runs := sat32 x.runs 1, fails := if good then x.fails else sat32 x.fails 1 }

/-- Starts that waited for the test go on, and the known answers are judged. -/
def State.bistKnown (s : State) (r : Nat) (b : BistOutcome) : State :=
  let u := (s.bistShown r b).countStarts r
  if r = 0x800 then u.updObs fun x => { x with katOk := s.bistPasses r b } else u

/-- Fenced facets that the test has found good return (R481). -/
def State.bistJudged (s : State) (r : Nat) (b : BistOutcome) : State :=
  let u := s.bistKnown r b
  if r < 16 ∧ u.glb.lcs = .service then u.unfence r b.facets else u

/-- The bytes and the number that the host reads of a result. -/
def bistBytes (r : Nat) (b : BistOutcome) : List Byte := leBytes 8 b.sig.toNat ++ leBytes 4 (unsigned 32 (resultValue r b))

/-- The operation has ended with the result. -/
def State.bistEnded (s : State) (r : Nat) (b : BistOutcome) : State :=
  let w := (s.bistJudged r b).svcOut 16 (bistBytes r b)
  let c : Code := if ¬ w.1 then 0x0102 else if ¬ b.restoreOk then 0x0D04 else if s.bistPasses r b then cOk else 0x0D00
  w.2.svcEnd c (b.sig.toNat + unsigned 32 (resultValue r b) * 2 ^ 64)

theorem exec_bistDone {o : SvcOp} {s : State} {r : Nat} (run : s.svc.running = some o) (up : s.mlk.mmDown = false)
    (w : o.work = .bist r) (b : BistOutcome) : exec (.bistDone b) s = .next
      (if s.bistPasses r b && b.restoreOk then s.bistEnded r b
       else if (s.bistEnded r b).hasRun then (s.bistEnded r b).safeState r else (s.bistEnded r b).event .bistFail r) := by
  show execBistDone b s = _
  unfold execBistDone
  rw [State.svcDoing_of_running run, w]
  dsimp only
  rw [if_neg (by simp [up])]
  rfl

/-- Past the registers of the test, only starts, the known-answer flag and fenced facets change. -/
theorem State.bistJudged_effect (s : State) (r : Nat) (b : BistOutcome) :
    Effect 0x8000000360 (s.bistShown r b) (s.bistJudged r b) := by
  have started : Effect 0x8000000360 (s.bistShown r b) ((s.bistShown r b).countStarts r) :=
    (State.countStarts_effect ..).mono rfl
  have known : Effect 0x8000000360 (s.bistShown r b) (s.bistKnown r b) := by
    unfold State.bistKnown
    dsimp only
    split
    · exact started.go (State.updObs_effect ..) rfl
    · exact started
  unfold State.bistJudged
  dsimp only
  split
  · exact known.go (State.unfence_effect ..) rfl
  · exact known

/-- The end of the operation leaves what the result left of the other parts. -/
theorem State.bistEnded_effect (s : State) (r : Nat) (b : BistOutcome) :
    Effect 0x4F000000372 (s.bistShown r b) (s.bistEnded r b) :=
  (((s.bistJudged_effect r b).mono rfl).go (State.svcOut_effect ..) rfl).go (State.svcEnd_effect ..) rfl

theorem State.bistEnded_glb (s : State) (r : Nat) (b : BistOutcome) : (s.bistEnded r b).glb = s.glb :=
  (s.bistEnded_effect r b).same .glb rfl

theorem State.bistEnded_bst (s : State) (r : Nat) (b : BistOutcome) : (s.bistEnded r b).bst = (s.bistShown r b).bst :=
  (s.bistEnded_effect r b).same .bst rfl

section
variable {o : SvcOp} {s : State} (run : s.svc.running = some o)
include run

theorem State.bistEnded_heard (r : Nat) (b : BistOutcome) (good : (s.bistPasses r b && b.restoreOk) = true)
    (heard : s.hears o = true) : s.Frees o cOk (s.bistEnded r b) := by
  have svc : (s.bistJudged r b).svc = s.svc := (s.bistJudged_effect r b).same .svc rfl
  have hif : (s.bistJudged r b).hif = s.hif := (s.bistJudged_effect r b).same .hif rfl
  have took : ((s.bistJudged r b).svcOut 16 (bistBytes r b)).1 = true := by
    rw [State.svcOut_heard (by rw [svc, run]), State.hears, hif]
    exact heard
  obtain ⟨pass, restored⟩ := Bool.and_eq_true_iff.mp good
  unfold State.bistEnded
  dsimp only
  rw [took, pass, restored]
  exact State.svcEnd_frees_of_svc run ((State.svcOut_svc ..).trans svc) _ _

variable (up : s.mlk.mmDown = false)
include up

theorem bist_passed {r : Nat} (w : o.work = .bist r) {b : BistOutcome} (good : (s.bistPasses r b && b.restoreOk) = true)
    (heard : s.Heard o) : ∃ t, exec (.bistDone b) s = .next t ∧ s.Frees o cOk t ∧ t.glb = s.glb ∧
      t.bst = { s.bst with busy := false, result := .pass, region := r, sig := b.sig, gold := b.gold, meas := resultValue r b,
                           runs := min (s.bst.runs + 1) 0xFFFFFFFF } := by
  refine ⟨_, (exec_bistDone run up w b).trans (congrArg _ (if_pos good)),
    State.bistEnded_heard run r b good ((s.hears_iff o).2 heard),
    s.bistEnded_glb r b, ?_⟩
  rw [s.bistEnded_bst]
  unfold State.bistShown
  rw [good]
  rfl

theorem bist_failed {r : Nat} (w : o.work = .bist r) {b : BistOutcome} (bad : (s.bistPasses r b && b.restoreOk) = false) :
    ∃ t, exec (.bistDone b) s = .next t ∧ t.bst.result = .fail ∧ t.bst.region = r ∧
      t.bst.fails = min (s.bst.fails + 1) 0xFFFFFFFF ∧
      (s.hasRun = true → t.glb.phase = .safe ∧ t.mlk.role = .offline) ∧
      (s.hasRun = false → t.glb = s.glb ∧ (Ev.bistFail, r, s.now) ∈ t.recs.evr.events) := by
  have bst : (s.bistEnded r b).bst.result = .fail ∧ (s.bistEnded r b).bst.region = r ∧
      (s.bistEnded r b).bst.fails = min (s.bst.fails + 1) 0xFFFFFFFF := by
    rw [s.bistEnded_bst]
    unfold State.bistShown
    rw [bad]
    exact ⟨rfl, rfl, rfl⟩
  have ran : (s.bistEnded r b).hasRun = s.hasRun := by
    have fetch : (s.bistEnded r b).hif.fetchStopped = s.hif.fetchStopped := by
      refine (congrArg Held.fetchStopped (State.svcEnd_held ..)).trans ((State.svcOut_synced ..).fetch.trans ?_)
      exact congrArg HifSt.fetchStopped ((s.bistJudged_effect r b).same .hif rfl)
    simp only [State.hasRun, s.bistEnded_glb, fetch]
  have now : (s.bistEnded r b).now = s.now := (s.bistEnded_effect r b).same .now rfl
  have e := (exec_bistDone run up w b).trans (congrArg _ (if_neg (by simp [bad])))
  rw [ran] at e
  cases h : s.hasRun with
  | true =>
    rw [h, if_pos rfl] at e
    refine ⟨_, e, ?_⟩
    rw [(State.safeState_effect ..).same .bst rfl]
    obtain ⟨result, region, fails⟩ := bst
    exact ⟨result, region, fails, fun _ => ⟨State.safeState_phase .., State.safeState_role ..⟩, fun no => by simp at no⟩
  | false =>
    rw [h, if_neg (by simp)] at e
    obtain ⟨result, region, fails⟩ := bst
    refine ⟨_, e, result, region, fails, fun no => by simp at no, fun _ => ⟨s.bistEnded_glb r b, ?_⟩⟩
    rw [State.event_events, now]
    exact List.mem_append_right _ List.mem_cons_self

end

end Sys2Proof.Machine
end

section
/-! PROOF. The end of an LC_TRANSITION operation (O53; R69, R412). -/

namespace Sys2Proof.Machine

/-! ## What the transition does -/

theorem State.lcAction_lcCount (s : State) (k : Token) : (s.lcAction k).obs.lcCount = min 0xFFFF (s.obs.lcCount + 1) := by
  unfold State.lcAction
  dsimp only
  split <;> rfl

/-- A transition to SERVICE writes its count and its state (R69). -/
theorem State.lcAction_service (s : State) {k : Token} (h : k.dest = .service) : s.lcAction k =
    (s.updObs fun o => { o with lcCount := Nat.min 0xFFFF (o.lcCount + 1) }).updGlb fun g => { g with lcs := k.dest } := by
  unfold State.lcAction
  rw [h]

theorem State.lcAction_spreads (s : State) {k : Token} (h : k.dest = .operational) : (s.lcAction k).hw.spreadOff = [] := by
  unfold State.lcAction
  rw [h]
  rfl

theorem State.lcAction_banks (s : State) {k : Token} (h : k.dest = .decommissioned) :
    (s.lcAction k).svc.cfg0 = none ∧ (s.lcAction k).svc.cfg1 = none := by
  unfold State.lcAction
  rw [h]
  exact ⟨rfl, rfl⟩

theorem State.lcAction_slot (s : State) {k : Token} (h : k.dest = .provisioned) :
    ((s.lcAction k).obs.slots.get 0).attr = 0x1D400025 := by
  unfold State.lcAction
  rw [h]
  dsimp only
  unfold State.setSlot
  rw [State.updObs_obs]
  dsimp only
  rw [Tbl.get_set_same]

/-! ## Its end -/

/-- Nothing runs on the channel any more: the restart of a transition keeps what the transition wrote. -/
theorem State.commitLcs_restarted (s : State) (k : Token) :
    let t := (s.commitLcs k).restart .lcTransition false
    t.glb.restartWarm = false ∧ t.obs.lcCount = min 0xFFFF (s.obs.lcCount + 1) ∧
      t.hw.spreadOff = (s.lcAction k).hw.spreadOff := by
  intro t
  have kept := (s.commitLcs k).restart_kept .lcTransition false
  have glb := (s.commitLcs k).restart_glb .lcTransition false
  rw [State.restartsWarm_unsealed] at kept glb
  have cut : Effect 0x47AC80008C2 (s.commitLcs k) ((s.commitLcs k).beforeRestart .lcTransition false) :=
    State.beforeRestart_idle false (by decide) rfl
  refine ⟨congrArg Glb.restartWarm glb, ?_, ?_⟩
  · rw [kept.same .obs rfl, (State.reborn_cold _).same .obs rfl, ← s.lcAction_lcCount k]
    have obs : ((s.commitLcs k).beforeRestart .lcTransition false).obs = (s.lcAction k).obs := cut.same .obs rfl
    show ((s.commitLcs k).beforeRestart .lcTransition false).obs.lcCount = _
    rw [obs]
  · rw [kept.same .hw rfl, (State.reborn_cold _).same .hw rfl]
    have hw : ((s.commitLcs k).beforeRestart .lcTransition false).hw = (s.lcAction k).hw := cut.same .hw rfl
    show ((s.commitLcs k).beforeRestart .lcTransition false).hw.spreadOff = _
    rw [hw]

section
variable {o : SvcOp} {s : State} (run : s.svc.running = some o) (up : s.mlk.mmDown = false) {k : Token}
  (w : o.work = .lcTransition k)
include run up w

theorem lcTransition_service (dest : k.dest = .service) (free : s.mlk.grant = false) :
    ∃ t, exec .lcTransitionDone s = .next t ∧ s.Frees o cOk t ∧ t.glb = { s.glb with lcs := .service } ∧
      t.obs = { s.obs with lcCount := min 0xFFFF (s.obs.lcCount + 1) } ∧ t.mlk.role = .offline := by
  have e := exec_lcTransitionDone ((State.svcDoing_of_running run).trans w) up
  rw [if_pos dest, if_neg (by simp [free])] at e
  have off : Effect 0x43AC80008C2 (s.lcAction k) (s.lcAction k).toOffline := State.toOffline_effect _
  have ended : Effect 0x47AC80008D2 (s.lcAction k) (s.enterService k) := (off.mono rfl).go (State.svcEnd_effect ..) rfl
  refine ⟨_, e, State.svcEnd_frees_of_svc run ((off.same .svc rfl).trans ?_) _ _, (ended.same .glb rfl).trans ?_,
    (ended.same .obs rfl).trans ?_, (congrArg Held.role (State.svcEnd_held ..)).trans (State.toOffline_role _)⟩
  all_goals rw [s.lcAction_service dest]
  · rfl
  · rw [dest]
    rfl
  · rfl

theorem lcTransition_denied (dest : k.dest = .service) (granted : s.mlk.grant = true) :
    ∃ t, exec .lcTransitionDone s = .next t ∧ s.Frees o 0x0005 t ∧ t.glb = s.glb ∧ t.obs = s.obs := by
  have e := exec_lcTransitionDone ((State.svcDoing_of_running run).trans w) up
  rw [if_pos dest, if_pos granted] at e
  exact ⟨_, e, State.svcEnd_frees_of_svc run rfl _ _, (State.svcEnd_effect ..).same .glb rfl,
    (State.svcEnd_effect ..).same .obs rfl⟩

theorem lcTransition_restarts (dest : k.dest ≠ .service) :
    ∃ t, exec .lcTransitionDone s = .next t ∧ t.glb.lcs = k.dest ∧ t.glb.phase = .kaStart ∧
      t.glb.restartWarm = false ∧ t.obs.lcCount = min 0xFFFF (s.obs.lcCount + 1) ∧
      t.svc.running = none ∧ t.mlk.grant = false ∧
      (s.glb.phase ≠ .safe → t.ka.cause = .lcTransition) ∧
      (k.dest = .operational → t.hw.spreadOff = []) ∧
      (k.dest = .decommissioned → t.svc.cfg0 = none ∧ t.svc.cfg1 = none) ∧
      (k.dest = .provisioned → (t.obs.slots.get 0).attr = 0x1D400025) := by
  have e := exec_lcTransitionDone ((State.svcDoing_of_running run).trans w) up
  rw [if_neg dest] at e
  obtain ⟨cold, count, spreads⟩ := s.commitLcs_restarted k
  have store := (s.commitLcs k).restart_store .lcTransition false
  refine ⟨_, e, s.restarted_lcs k, State.restart_phase .., cold, count, State.restart_running .., (State.restart_mlk ..).1,
    fun ok => ?_, fun d => spreads.trans (s.lcAction_spreads d), fun d => ?_, fun d => ?_⟩
  · have glb : (s.commitLcs k).glb = { s.glb with lcs := k.dest } := (s.lcAction_effect k).same .glb rfl
    have phase : (s.commitLcs k).glb.phase = s.glb.phase := by rw [glb]
    rw [State.restart_cause, State.restartCause, if_neg (by rw [phase]; exact ok)]
  · rw [store.cfg0, store.cfg1]
    exact s.lcAction_banks d
  · rw [store.slots]
    exact s.lcAction_slot d

end

end Sys2Proof.Machine
end

section
/-! PROOF. The end of a SLICE_CREATE operation (O53; R321). -/

namespace Sys2Proof.Machine

/-- The end of an operation leaves the slices but for their rings and their polls. -/
theorem State.svcEnd_core (s : State) (c : Code) (data i : Nat) :
    (((s.svcEnd c data).slice i).core = (s.slice i).core) ∧
      ((s.slice i).pollNow = some s.now → ((s.svcEnd c data).slice i).pollNow = some s.now) := by
  cases run : s.svc.running with
  | none => simp [State.svcEnd, run]
  | some o =>
    rw [State.svcEnd_of_running run]
    have ended : (s.passChannel o c).SameRings (if o.door = .ring then
        (s.passChannel o c).complete o.jseq c (o.tag.toNat + data * 2 ^ 32) else s.passChannel o c) := by
      split
      · exact State.complete_sameRings ..
      · exact .refl _
    have synced := State.syncSlice_synced (if o.door = .ring then
        (s.passChannel o c).complete o.jseq c (o.tag.toNat + data * 2 ^ 32) else s.passChannel o c) 0
    refine ⟨(synced.core i).trans (ended.core i), fun due => ?_⟩
    have now := ended.now
    exact now ▸ synced.due i (now ▸ (ended.poll i).trans due)

/-- A slice that is ACTIVE with a poll that is due at once. -/
def State.Fresh (s : State) (i : Nat) : Prop := (s.slice i).st = .active ∧ (s.slice i).pollNow = some s.now

theorem State.Fresh.synced {s t : State} {i : Nat} (h : s.Fresh i) (k : s.Synced t) : t.Fresh i :=
  ⟨(SliceSt.of_core SliceSt.st (fun _ => rfl) (k.core i)).trans h.1, k.now ▸ k.due i h.2⟩

theorem State.Fresh.mirror {s : State} {i : Nat} (h : s.Fresh i) (it : Item) : (s.mirror it).Fresh i := by
  unfold State.Fresh State.slice
  rw [State.mirror_hif, State.mirror_now]
  exact h

theorem State.Fresh.svcEnd {s : State} {i : Nat} (h : s.Fresh i) (c : Code) (data : Nat) : (s.svcEnd c data).Fresh i := by
  obtain ⟨core, due⟩ := s.svcEnd_core c data i
  refine ⟨(SliceSt.of_core SliceSt.st (fun _ => rfl) core).trans h.1, ?_⟩
  rw [(State.svcEnd_effect ..).same .now rfl]
  exact due h.2

theorem State.stateIrq_st (s : State) (i : Nat) (st : SliceState) : ((s.setSliceState i st).slice i).st = st := by
  have synced := (State.hostWrite_synced (s.updSlice i fun x => { x with st := st }) i (.sliceState st)).trans
    (State.stateIrq_synced _ i)
  refine (SliceSt.of_core SliceSt.st (fun _ => rfl) (synced.core i)).trans ?_
  rw [State.slice_updSlice, if_pos rfl]

theorem State.resumePolls_fresh {s : State} {i : Nat} (h : (s.slice i).st = .active) : (s.resumePolls i).Fresh i := by
  refine State.Fresh.synced (s := s.updSlice i fun x => { x with stopped := false, pollOut := false, pollNow := some s.now })
    ?_ (State.setPoll_synced ..)
  unfold State.Fresh
  rw [State.slice_updSlice, if_pos rfl]
  exact ⟨h, rfl⟩

/-- The slice's first rings exist, and its polling begins (R321). -/
def State.sliceBorn (s : State) (b : SliceBlock) : State :=
  let i := b.slice
  let s := ((s.unitStarted (.slice i)).makeCq i b.cq0).makeSq i b.sq0
  let s := (s.setSliceState i .active).resumePolls i
  (s.hostWrite i (.pollUs (s.slice i).minUs)).mirror (.newSlice b)

theorem State.sliceBorn_effect (s : State) (b : SliceBlock) :
    Effect 0x47000000002 (s.unitStarted (.slice b.slice)) (s.sliceBorn b) :=
  (((((State.makeCq_effect ..).mono rfl).go (State.makeSq_effect ..) rfl).go (State.setSliceState_effect ..) rfl).go
    (State.resumePolls_effect ..) rfl).go (State.hostWrite_effect ..) rfl |>.go (State.mirror_effect ..) rfl

theorem State.sliceBorn_fresh (s : State) (b : SliceBlock) : (s.sliceBorn b).Fresh b.slice :=
  ((State.resumePolls_fresh (State.stateIrq_st ..)).synced (State.hostWrite_synced ..)).mirror _

theorem State.sliceOn_creates {s : State} {o : SvcOp} {b : SliceBlock} (run : s.svc.running = some o)
    (w : o.work = .sliceCreate b) : s.sliceOn b.slice = (s.sliceBorn b).svcEnd cOk 0 := by
  unfold State.sliceOn
  rw [run]
  dsimp only
  rw [w]
  dsimp only
  rw [if_neg (by simp)]
  rfl

theorem sliceCreate_ended {o : SvcOp} {s : State} (run : s.svc.running = some o) {b : SliceBlock} (w : o.work = .sliceCreate b)
    (starting : (s.unit (.slice b.slice)).st = .starting) (en : (s.unit (.slice b.slice)).en = true) (runs : s.unitsRun = true) :
    s.Gives (.unitStartDone (.slice b.slice)) [.freeIdx, .svc, .units, .hif, .mlk, .recs, .outputs] fun t =>
      s.Frees o cOk t ∧ (t.unit (.slice b.slice)).st = .on ∧ (t.slice b.slice).st = .active ∧
        (t.slice b.slice).pollNow = some s.now := by
  have creating : s.creating b.slice = true := by simp [State.creating, run, w]
  have e : exec (.unitStartDone (.slice b.slice)) s = .next ((s.sliceBorn b).svcEnd cOk 0) := by
    rw [exec_unitStartDone starting runs (by simp [State.bistHolds]) rfl, ← State.sliceOn_creates run w]
    exact congrArg Host.Outcome.next (if_pos creating)
  have started : Effect 0x20 s (s.unitStarted (.slice b.slice)) := State.unitStarted_effect ..
  have born := s.sliceBorn_effect b
  have ended : Effect 0x47000000012 (s.unitStarted (.slice b.slice)) ((s.sliceBorn b).svcEnd cOk 0) :=
    (born.mono rfl).go (State.svcEnd_effect ..) rfl
  have fresh := (s.sliceBorn_fresh b).svcEnd cOk 0
  have svc : (s.sliceBorn b).svc = s.svc := (born.same .svc rfl).trans (started.same .svc rfl)
  have now : ((s.sliceBorn b).svcEnd cOk 0).now = s.now := (ended.same .now rfl).trans (started.same .now rfl)
  refine Effect.gives ((started.mono rfl).go ended rfl : Effect 0x47000000032 ..) rfl e
    ⟨State.svcEnd_frees_of_svc run svc _ _, ?_, fresh.1, now ▸ fresh.2⟩
  rw [State.unit_of_units (ended.same .units rfl), State.unit_of_upd (State.unitStarted_units starting)]
  simp [en]

end Sys2Proof.Machine
end

section
/-! SUPPORT. Units that stop while no package is staged leave the Service Channel alone (R56, R116, R136). -/

namespace Sys2Proof.Machine

/-- No package is staged, and no program is about to be removed. -/
def State.Unstaged (s : State) : Prop := s.svc.staged = none ∧ ∀ p, (s.logic.get p).removeAsked = false

/-- Where no package is staged, `t` has the channel of `s`, and still nothing staged. -/
structure State.Calm (s t : State) : Prop where
  keeps : s.Unstaged → t.svc = s.svc ∧ t.Unstaged

namespace State.Calm

theorem of_same {s t : State} (svc : t.svc = s.svc) (logic : t.logic = s.logic) : s.Calm t where
  keeps h := ⟨svc, by rw [State.Unstaged, svc, logic]; exact h⟩

theorem refl (s : State) : s.Calm s := .of_same rfl rfl

theorem trans {s t u : State} (h : s.Calm t) (k : t.Calm u) : s.Calm u where
  keeps hs :=
    have ⟨svc, ht⟩ := h.keeps hs
    have ⟨svc', hu⟩ := k.keeps ht
    ⟨svc'.trans svc, hu⟩

theorem of_effect {m : Nat} {s t : State} (h : Effect m s t) (svc : m.testBit Part.svc.ctorIdx = false)
    (logic : m.testBit Part.logic.ctorIdx = false) : s.Calm t := .of_same (h.same .svc svc) (h.same .logic logic)

theorem each {α : Type} {f : State → α → State} (h : ∀ (t : State) (x : α), t.Calm (f t x)) (s : State) (xs : List α) :
    s.Calm (s.each xs f) := State.each_rel refl (fun _ _ _ => trans) h s xs

theorem ite {s t u : State} {c : Prop} [Decidable c] (h : s.Calm t) (k : s.Calm u) : s.Calm (if c then t else u) := by
  split
  · exact h
  · exact k

theorem of_upd {s t : State} {p : Nat} {f : LogicSt → LogicSt} (svc : t.svc = s.svc) (e : t.logic = (s.updLogic p f).logic)
    (h : ∀ x, x.removeAsked = false → (f x).removeAsked = false) : s.Calm t := by
  refine ⟨fun ⟨staged, kept⟩ => ⟨svc, by rw [svc]; exact staged, fun q => ?_⟩⟩
  rw [e]
  show ((s.logic.upd p f).get q).removeAsked = false
  rw [Tbl.get_upd]
  split
  · exact h _ (kept p)
  · exact kept q

end State.Calm

theorem State.updLogic_calm (s : State) (p : Nat) {f : LogicSt → LogicSt}
    (h : ∀ x, x.removeAsked = false → (f x).removeAsked = false) : s.Calm (s.updLogic p f) := .of_upd rfl rfl h

/-! ## The end of a logic program -/

theorem State.complete_calm (s : State) (j : Nat) (c : Code) (n : Nat) : s.Calm (s.complete j c n) :=
  .of_effect (State.complete_effect ..) rfl rfl

theorem State.commitImage_calm (s : State) (p : Nat) (img : List Byte) : s.Calm (s.commitImage p img) := by
  refine State.Calm.of_upd (p := p) (f := fun x => { x with image := img, committing := true, commitStart := s.now })
    ((s.commitImage_effect p img).same .svc rfl) ?_ (by intro _ h; exact h)
  unfold State.commitImage
  dsimp only
  rw [State.each_logic _ _ _ (by intro u b; exact u.perEvent_logic ..),
    State.each_logic _ _ _ (by intro u o; exact u.placeOutput_logic ..)]

theorem State.safeCommit_calm (s : State) (p : Nat) (st : LState) : s.Calm (s.safeCommit p st) := by
  have stopped (u : State) (f g : LogicSt → LogicSt) (img : List Byte) (js : List Nat) (a : State → Code × Nat)
      (hf : ∀ x, (f x).removeAsked = false) (hg : ∀ x, (g x).removeAsked = x.removeAsked) :
      u.Calm ((((u.updLogic p f).commitImage p img).each js fun s j => s.complete j (a s).1 (a s).2).updLogic p g) :=
    (((State.updLogic_calm u p fun x _ => hf x).trans (State.commitImage_calm _ p img)).trans
      (.each (f := fun s j => s.complete j (a s).1 (a s).2) (fun t j => t.complete_calm ..) _ js)).trans
      (State.updLogic_calm _ p fun x hx => (hg x).trans hx)
  unfold State.safeCommit
  dsimp only
  split
  · exact stopped s _ _ _ _ (fun s => (cOk, lstateCode (s.logic.get p).st)) (by intro _; rfl) (by intro _; rfl)
  · exact (stopped s _ _ _ _ (fun s => (cOk, lstateCode (s.logic.get p).st)) (by intro _; rfl) (by intro _; rfl)).trans
      (.of_effect (State.alarm_effect ..) rfl rfl)

theorem State.swapLogic_unstaged {s : State} (h : s.svc.staged = none) (p : Nat) : s.swapLogic p = s := by
  unfold State.swapLogic
  rw [h]

theorem State.exchFinish_unstaged {s : State} (h : s.svc.staged = none) : s.exchFinish = s := by
  unfold State.exchFinish
  rw [h]

/-- A program that is not exchanged lies where it lay. -/
theorem State.replaceStopped_calm (s : State) (p : Nat) : s.Calm (s.replaceStopped p) := by
  refine ⟨fun h => ?_⟩
  have same : s.stagedLogic p = s.pkg.logic.get p := by
    unfold State.stagedLogic
    rw [h.1]
  unfold State.replaceStopped
  dsimp only
  rw [same, if_pos ⟨rfl, rfl⟩, State.swapLogic_unstaged h.1]
  split
  · exact ⟨rfl, h⟩
  · have loaded (t : State) (l k f : Nat) : t.Calm ((t.loadAt l k).stopFacet l f) :=
      .trans (.of_effect (State.loadAt_effect ..) rfl rfl) (.of_effect (State.stopFacet_effect ..) rfl rfl)
    exact (loaded ..).keeps h

theorem State.finalCommit_calm (s : State) (p : Nat) (st : LState) : s.Calm (s.finalCommit p st) := by
  refine ⟨fun h => ?_⟩
  have safe := s.safeCommit_calm p st
  rw [State.finalCommit_eq, h.2 p, if_neg (by simp)]
  split
  · obtain ⟨svc, un⟩ := (safe.trans (State.replaceStopped_calm _ p)).keeps h
    rw [State.exchFinish_unstaged un.1]
    exact ⟨svc, un⟩
  · exact safe.keeps h

theorem State.logicStop_calm (s : State) (p : Nat) (st : LState) : s.Calm (s.logicStop p st) := by
  have halted (l f : Nat) : s.Calm (s.stopFacet l f) := .of_effect (s.stopFacet_effect l f) rfl rfl
  have rests (u : State) (l : Nat) : u.Calm (u.lensRest l) := .of_effect (u.lensRest_effect l) rfl rfl
  unfold State.logicStop
  dsimp only
  split
  · exact ((halted ..).trans (State.updLogic_calm _ p (by intro _ k; exact k))).trans (rests ..)
  · exact ((halted ..).trans (State.finalCommit_calm ..)).trans (rests ..)

/-! ## Units that stop -/

theorem State.stopLens_calm (s : State) (l : Nat) : s.Calm (s.stopLens l) := by
  unfold State.stopLens
  dsimp only
  refine ((State.Calm.each (fun t h => ?_) s _).trans (.each (fun t h => ?_) _ _)).trans
    (.of_effect (State.updLens_effect ..) rfl rfl)
  · split
    · split
      · exact State.logicStop_calm ..
      · exact .refl t
    · exact .refl t
  · exact (State.Calm.of_effect (State.stopFacet_effect ..) rfl rfl).trans (.of_effect (State.releaseAll_effect ..) rfl rfl)

theorem State.stopUnstarted_calm (s : State) (l : Nat) : s.Calm (s.stopUnstarted l) := by
  unfold State.stopUnstarted
  refine State.Calm.each (fun t p => ?_) s _
  have cold : t.Calm (t.updLogic p fun x => { x with warm := false }) :=
    t.updLogic_calm p (by intro _ h; exact h)
  dsimp only
  split
  · exact cold.trans (State.logicStop_calm ..)
  · exact cold

theorem State.halt_calm (s : State) (u : UnitId) : s.Calm (s.halt u) := by
  have en : s.Calm (s.updUnit u fun x => { x with en := false }) := .of_effect (State.updUnit_effect ..) rfl rfl
  have off : s.Calm ((s.updUnit u fun x => { x with en := false }).unitHalt u) :=
    en.trans (.of_effect (State.unitHalt_effect ..) rfl rfl)
  unfold State.halt
  dsimp only
  cases u with
  | beam l => exact .ite (.of_effect (State.event_effect ..) rfl rfl) off
  | arm a => exact .ite en off
  | lens l => exact off.trans (State.stopLens_calm ..)
  | fbc b =>
    have cut (t : State) : t.Calm (t.fbDiscard b (fun _ => true) cNotActive) := .of_effect (t.fbDiscard_effect b _ _) rfl rfl
    exact (off.trans (cut _)).trans (.of_effect (State.silentStns_effect ..) rfl rfl)
  | port p =>
    have flushed (t : State) : t.Calm (t.flushPort p) := .of_effect (t.flushPort_effect p) rfl rfl
    exact off.trans (flushed _)
  | slice | pwm | chain => exact off

theorem State.disable_calm (s : State) (u : UnitId) : s.Calm (s.disable u) := by
  have off (f : UnitSt → UnitSt) : s.Calm (s.updUnit u f) := .of_effect (State.updUnit_effect ..) rfl rfl
  unfold State.disable
  split
  · exact s.halt_calm u
  · cases u with
    | lens l =>
      dsimp only
      split
      · exact (off _).trans (State.stopUnstarted_calm ..)
      · exact off _
    | slice | port | arm | pwm | fbc | chain | beam => exact off _

/-- A declared unit takes its EN (R479). -/
def State.declaredUnit (s : State) (p : UnitId × Bool) : State :=
  match p.1 with
  | .slice _ => s
  | u =>
    if ¬ unitInRange u ∨ ¬ unitPresent u ∨ (s.unit u).fenced then s
    else if p.2 then
      let s := s.updUnit u fun x => { x with en := true }
      let s := if (s.unit u).st = .off ∨ (s.unit u).st = .on then s.unitBegin u else s
      match u with | .fbc b => s.silentStns b | _ => s
    else s.disable u

theorem State.startUnit_effect (s : State) (u : UnitId) : Effect 0xC0020020 s
    (if (s.unit u).st = .off ∨ (s.unit u).st = .on then s.unitBegin u else s) := by
  split
  · exact State.unitBegin_effect ..
  · exact .refl _ s

theorem State.declaredUnit_calm (s : State) (p : UnitId × Bool) : s.Calm (s.declaredUnit p) := by
  obtain ⟨u, b⟩ := p
  have begins (f : UnitSt → UnitSt) : s.Calm (if ((s.updUnit u f).unit u).st = .off ∨ ((s.updUnit u f).unit u).st = .on then
      (s.updUnit u f).unitBegin u else s.updUnit u f) :=
    State.Calm.trans (.of_effect (State.updUnit_effect ..) rfl rfl) (.of_effect (State.startUnit_effect ..) rfl rfl)
  unfold State.declaredUnit
  cases u with
  | slice => exact .refl s
  | fbc n =>
    dsimp only
    split
    · exact .refl s
    · split
      · exact (begins _).trans (.of_effect (State.silentStns_effect ..) rfl rfl)
      · exact s.disable_calm _
  | port | lens | arm | pwm | chain | beam =>
    dsimp only
    split
    · exact .refl s
    · split
      · exact begins _
      · exact s.disable_calm _

theorem State.unitsFromPackage_calm (s : State) : s.Calm s.unitsFromPackage :=
  State.Calm.trans (.each (f := State.declaredUnit) (fun t p => t.declaredUnit_calm p) s s.pkg.en)
    (.each (fun t u => t.disable_calm u) _ _)

end Sys2Proof.Machine
end

section
/-! PROOF. The end of a PKG_COMMIT operation (O53; R56, R171, R429), and the effects of all operations. -/

namespace Sys2Proof.Machine

/-! ## The banks (R56) -/

/-- The bank of the active package holds this image. -/
def Svc.Holds (v : Svc) (i : Image) : Prop := (if v.active then v.cfg1 else v.cfg0) = some i

theorem State.active_of_held {s t : State} (h : t.held = s.held) : t.svc.active = s.svc.active := congrArg Held.active h

theorem State.holds_of_held {s t : State} (h : t.held = s.held) {i : Image} : t.svc.Holds i ↔ s.svc.Holds i := by
  have store := State.SameStore.of_held h
  unfold Svc.Holds
  rw [State.active_of_held h, store.cfg0, store.cfg1]

theorem State.switchPkg_active (s : State) (i : Image) : (s.switchPkg i).svc.active = !s.svc.active := by
  unfold State.switchPkg
  rw [State.updSvc_svc]
  cases h : s.svc.active <;> rfl

theorem State.switchPkg_holds (s : State) (i : Image) : (s.switchPkg i).svc.Holds i := by
  unfold State.switchPkg Svc.Holds
  rw [State.updSvc_svc]
  cases h : s.svc.active <;> simp

theorem State.switchPkg_channel (s : State) (i : Image) : (s.switchPkg i).svc.running = s.svc.running ∧
    (s.switchPkg i).svc.waiting = s.svc.waiting := by
  unfold State.switchPkg
  rw [State.updSvc_svc]
  cases h : s.svc.active <;> exact ⟨rfl, rfl⟩

/-- The package lies in its bank, and the lenses that it changes are marked. -/
def State.switched (s : State) (i : Image) : State := (s.switchPkg i).markChanged i.body

theorem State.switched_svc (s : State) (i : Image) : (s.switched i).svc = (s.switchPkg i).svc :=
  (State.markChanged_effect ..).same .svc rfl

theorem State.switched_logic (s : State) (i : Image) : (s.switched i).logic = s.logic :=
  ((State.markChanged_effect ..).same .logic rfl).trans ((State.switchPkg_effect ..).same .logic rfl)

/-! ## A package comes into force in SETUP -/

/-- A package comes into force: past its place in the channel, nothing is written there. -/
theorem State.configure_rest (s : State) (p : Package) :
    Effect 0x4FEDDE3E502 (s.updSvc fun v => { v with pkg := p, staged := none, exchLoops := [] }) (s.configure p) := by
  have stns := State.setStns_effect (s.updSvc fun v => { v with pkg := p, staged := none, exchLoops := [] })
  unfold State.configure
  exact ((((((stns.mono rfl).go (State.setChains_effect _) rfl).go (State.setTables_effect _) rfl).go
    (State.freshPulses_effect _ _) rfl).go (State.setLanes_effect _ _) rfl).go (State.setInputs_effect _) rfl).each
      fun t l h => h.go (t.fillFree_effect l) rfl

theorem State.configure_svc (s : State) (p : Package) :
    (s.configure p).svc = { s.svc with pkg := p, staged := none, exchLoops := [] } :=
  (s.configure_rest p).same .svc rfl

/-- The package's units start and stop without a word on the channel. -/
theorem State.setUp_svc {s : State} (i : Image) (kept : ∀ p, (s.logic.get p).removeAsked = false) :
    ((s.switched i).configure i.body).unitsFromPackage.svc =
      { (s.switchPkg i).svc with pkg := i.body, staged := none, exchLoops := [] } := by
  have svc := (s.switched i).configure_svc i.body
  have logic : ((s.switched i).configure i.body).logic = s.logic :=
    ((State.configure_effect ..).same .logic rfl).trans (s.switched_logic i)
  have still : ((s.switched i).configure i.body).Unstaged := ⟨by rw [svc], by rw [logic]; exact kept⟩
  rw [((State.unitsFromPackage_calm _).keeps still).1, svc, s.switched_svc]

@[simp] theorem State.sharePkg_held (s : State) (i : Image) : (s.sharePkg i).held = s.held := by
  unfold State.sharePkg
  simp

/-- An exchange that begins leaves the banks and their pointer. -/
theorem State.exchanged_held (s : State) (i : Image) :
    ((((s.switched i).sharePkg i).updSvc fun v => { v with staged := some i }).beginExchange).held = (s.switched i).held := by
  rw [State.beginExchange_held, State.held_updSvc _ _ (by intro _; rfl) (by intro _; rfl) (by intro _; rfl) (by intro _; rfl)
    (by intro _; rfl), State.sharePkg_held]

/-! ## PKG_COMMIT ends -/

section
variable {o : SvcOp} {s : State} (run : s.svc.running = some o) (up : s.mlk.mmDown = false) {i : Image}
  (w : o.work = .pkgCommit i)
include run w

theorem pkgCommit_waits (repairs : s.repairing = true) (flashOk : Bool) : exec (.pkgCommitDone flashOk) s = .next s := by
  show execPkgCommitDone flashOk s = _
  unfold execPkgCommitDone
  rw [State.svcDoing_of_running run, w]
  simp [repairs]

include up

theorem exec_pkgCommitDone (none_ : s.svc.staged = none) (ready : s.repairing = false) (flashOk : Bool) :
    exec (.pkgCommitDone flashOk) s = .next
      (if ¬ flashOk then s.svcEnd 0x0103 0
       else match s.pkgCode i with
       | some c => s.svcEnd c 0
       | none =>
         if (s.switched i).glb.phase = .running then
           (((s.switched i).sharePkg i).updSvc fun v => { v with staged := some i }).beginExchange
         else ((((s.switched i).configure i.body).unitsFromPackage).updSvc fun v =>
           { v with committed := true }).svcEnd cOk 0) := by
  show execPkgCommitDone flashOk s = _
  unfold execPkgCommitDone
  rw [State.svcDoing_of_running run, w]
  dsimp only
  rw [if_neg (by simp [up, none_, ready])]
  rfl

end

/-- An operation that ends at once leaves the package and its bank's pointer. -/
theorem State.svcEnd_package {s : State} {o : SvcOp} (run : s.svc.running = some o) (c : Code) :
    (s.svcEnd c 0).svc.active = s.svc.active ∧ (s.svcEnd c 0).svc.pkg = s.svc.pkg := by
  rw [State.svcEnd_svc run]
  exact ⟨rfl, rfl⟩

section
variable {o : SvcOp} {s : State} (run : s.svc.running = some o) (up : s.mlk.mmDown = false) {i : Image}
  (w : o.work = .pkgCommit i) (none_ : s.svc.staged = none) (ready : s.repairing = false)
include run up w none_ ready

theorem pkgCommit_unwritten :
    ∃ t, exec (.pkgCommitDone false) s = .next t ∧ s.Frees o 0x0103 t ∧ t.svc.active = s.svc.active :=
  ⟨_, exec_pkgCommitDone run up w none_ ready false, State.svcEnd_frees_of_svc run rfl _ _, (State.svcEnd_package run _).1⟩

theorem pkgCommit_refused {c : Code} (code : s.pkgCode i = some c) : ∃ t, exec (.pkgCommitDone true) s = .next t ∧
    s.Frees o c t ∧ t.svc.active = s.svc.active ∧ t.svc.pkg = s.svc.pkg := by
  have e := exec_pkgCommitDone run up w none_ ready true
  rw [if_neg (by simp), code] at e
  exact ⟨_, e, State.svcEnd_frees_of_svc run rfl _ _, State.svcEnd_package run _⟩

theorem pkgCommit_setup (kept : ∀ p, (s.logic.get p).removeAsked = false) (code : s.pkgCode i = none)
    (phase : s.glb.phase ≠ .running) :
    ∃ t, exec (.pkgCommitDone true) s = .next t ∧ s.Frees o cOk t ∧ t.svc.pkg = i.body ∧
      t.svc.committed = true ∧ t.svc.active = (!s.svc.active) ∧ t.svc.Holds i := by
  have e := exec_pkgCommitDone run up w none_ ready true
  rw [if_neg (by simp), code] at e
  dsimp only at e
  have glb : (s.switched i).glb = s.glb :=
    ((State.markChanged_effect ..).same .glb rfl).trans ((State.switchPkg_effect ..).same .glb rfl)
  rw [if_neg (by rw [glb]; exact phase)] at e
  obtain ⟨running, waiting⟩ := s.switchPkg_channel i
  let v := (((s.switched i).configure i.body).unitsFromPackage).updSvc fun v => { v with committed := true }
  have svc : v.svc = { (s.switchPkg i).svc with pkg := i.body, staged := none, exchLoops := [], committed := true } := by
    show { ((s.switched i).configure i.body).unitsFromPackage.svc with committed := true } = _
    rw [State.setUp_svc i kept]
  have run' : v.svc.running = some o := by rw [svc]; exact running.trans run
  refine ⟨_, e, State.svcEnd_frees run' (by rw [svc]; exact waiting) _ _, ?_⟩
  rw [State.svcEnd_svc run', svc]
  exact ⟨rfl, rfl, s.switchPkg_active i, s.switchPkg_holds i⟩

theorem pkgCommit_exchange (code : s.pkgCode i = none) (phase : s.glb.phase = .running) :
    ∃ t, exec (.pkgCommitDone true) s = .next t ∧ t.svc.active = (!s.svc.active) ∧ t.svc.Holds i := by
  have e := exec_pkgCommitDone run up w none_ ready true
  rw [if_neg (by simp), code] at e
  dsimp only at e
  have glb : (s.switched i).glb = s.glb :=
    ((State.markChanged_effect ..).same .glb rfl).trans ((State.switchPkg_effect ..).same .glb rfl)
  rw [if_pos (by rw [glb]; exact phase)] at e
  have held := s.exchanged_held i
  have svc := s.switched_svc i
  refine ⟨_, e, (State.active_of_held held).trans ?_, (State.holds_of_held held).2 ?_⟩
  · rw [svc]
    exact s.switchPkg_active i
  · rw [svc]
    exact s.switchPkg_holds i

end

/-! ## All operations -/

/-- The judgement of a result, region by region (R415, R460). -/
theorem State.bistPasses_regions (s : State) (r : Nat) (b : BistOutcome) :
    let v := resultValue r b
    let within (lo hi : Int) : Prop := s.bistPasses r b = (decide (lo ≤ v) && decide (v ≤ hi))
    (r / 256 ≤ 3 → s.bistPasses r b = decide (v = 0)) ∧ (r / 256 = 5 → within (-50) 50) ∧
    (∀ x xs, r / 256 = 6 → b.lanes = x :: xs → v = xs.foldl min x ∧
      (r % 256 < 4 → (s.portCfg (r % 256)).speed = 0 → within (-93) 24) ∧
      (r % 256 < 4 → (s.portCfg (r % 256)).speed ≠ 0 → within (-89) (-10)) ∧
      (r % 256 = 5 ∨ r % 256 = 6 → within (-93) 24) ∧ (16 ≤ r % 256 → within (-130) 0)) := by
  refine ⟨fun h => s.bistPasses_logic h b, fun h => s.bistPasses_reference h b, fun x xs h lanes =>
    ⟨resultValue_optical h lanes, fun port slow => ?_, fun port fast => ?_, fun link => ?_, fun beam => ?_⟩⟩
  · exact s.bistPasses_optical h b ((s.opticalRange_port port).trans (if_pos slow))
  · exact s.bistPasses_optical h b ((s.opticalRange_port port).trans (if_neg fast))
  · exact s.bistPasses_optical h b (s.opticalRange_link (by omega) (by omega))
  · exact s.bistPasses_optical h b (s.opticalRange_beam beam)

/-- Settles O53: one rule for each operation that ends. -/
theorem serviceOperationsTakeEffect : Obligations.ServiceOperationsTakeEffect := by
  unfold Obligations.ServiceOperationsTakeEffect
  intro o s run up
  refine ⟨fun b i w => fwCommit_ended run up w, fun b key w => keyWrite_ended run up w, fun ims n w => attest_ended run up w,
    fun r b w => ?_, fun k w => ?_, fun b w starting en runs => sliceCreate_ended run w starting en runs,
    fun i flashOk w repairs => pkgCommit_waits run w repairs flashOk, fun i w none_ ready kept => ?_,
    fun w => hashRekey_ended run up w⟩
  · obtain ⟨logic, reference, optical⟩ := s.bistPasses_regions r b
    exact ⟨logic, reference, optical, fun good heard => bist_passed run up w good heard, fun bad => bist_failed run up w bad⟩
  · exact ⟨lcTransition_service run up w, lcTransition_denied run up w, lcTransition_restarts run up w⟩
  · exact ⟨pkgCommit_unwritten run up w none_ ready, fun c code => pkgCommit_refused run up w none_ ready code,
      fun code phase => pkgCommit_setup run up w none_ ready kept code phase,
      fun code phase => pkgCommit_exchange run up w none_ ready code phase⟩

end Sys2Proof.Machine
end

section
/-! SUPPORT. A descriptor that runs: the state in which its body runs, and what is left of its entry (R299, R305, R308,
R323). -/

namespace Sys2Proof.Machine

/-! ## The start -/

/-- The state in which the body of a descriptor runs: its turn is taken, its bytes are paid, and it has started. -/
def State.beginDesc (s : State) (i : Nat) (e : JEntry) : State :=
  (((s.turns i e.desc).getD s).payBytes i (moved e.desc)).start e.jseq

theorem State.Runs.runDesc {s : State} {i r : Nat} {f : DescForm} {e : JEntry} (h : s.Runs i r f e)
    (body : State → Nat → Desc → State) :
    s.runDesc i r f body = (body (s.beginDesc i e) e.jseq e.desc).syncSlice i := by
  unfold State.runDesc
  rw [h.front]
  dsimp only
  rw [if_neg (by simp [h.means]), if_neg (by simp [h.zeros]), if_neg (by simp [h.ring]), if_neg (by simp [h.may]),
    if_neg (by simp [h.present]), if_neg (by rw [h.inTime]; decide)]
  rfl

/-- A turn moves the rounds of the ports, and nothing else. -/
theorem State.turns_rounds (s : State) (i : Nat) (d : Desc) :
    ∃ rd, (s.turns i d).getD s = s.updHif fun x => { x with rounds := rd } := by
  unfold State.turns
  dsimp only
  split
  · exact ⟨s.hif.rounds, rfl⟩
  · split
    · exact ⟨s.hif.rounds, rfl⟩
    · split
      · exact ⟨_, rfl⟩
      · next g _ =>
        cases s.readTurn g i (moved d) with
        | none => exact ⟨s.hif.rounds, rfl⟩
        | some rg => exact ⟨_, rfl⟩

/-- Bytes are paid from the bucket of the slice. -/
theorem State.payBytes_bucket (s : State) (i n : Nat) : ∃ b, s.payBytes i n = s ∨
    s.payBytes i n = s.updSlice i fun x => { x with byteBkt := b } := by
  unfold State.payBytes
  split
  · exact ⟨(s.slice i).byteBkt, .inl rfl⟩
  · exact ⟨_, .inr rfl⟩

theorem State.payBytes_sq (s : State) (i n j r : Nat) : (s.payBytes i n).sq j r = s.sq j r := by
  obtain ⟨b, e | e⟩ := s.payBytes_bucket i n
  · rw [e]
  · rw [e]
    exact State.sq_updSlice (by intro _; rfl) j r

theorem State.payBytes_cq (s : State) (i n j c : Nat) : (s.payBytes i n).cq j c = s.cq j c := by
  obtain ⟨b, e | e⟩ := s.payBytes_bucket i n
  · rw [e]
  · rw [e]
    exact State.cq_updSlice (by intro _; rfl) j c

theorem State.payBytes_jEntry (s : State) (i n j : Nat) : (s.payBytes i n).jEntry j = s.jEntry j := by
  obtain ⟨b, e | e⟩ := s.payBytes_bucket i n
  · rw [e]
  · rw [e]
    rfl

theorem State.beginDesc_effect (s : State) (i : Nat) (e : JEntry) : Effect 0x3000000000 s (s.beginDesc i e) := by
  obtain ⟨rd, turn⟩ := s.turns_rounds i e.desc
  unfold State.beginDesc
  rw [turn]
  exact (((State.updHif_effect ..).mono rfl).go (State.payBytes_effect ..) rfl).go (State.start_effect ..) rfl

theorem State.beginDesc_sq (s : State) (i : Nat) (e : JEntry) (j r : Nat) : (s.beginDesc i e).sq j r = s.sq j r := by
  obtain ⟨rd, turn⟩ := s.turns_rounds i e.desc
  unfold State.beginDesc
  rw [(State.start_sameRings _ _).sq, State.payBytes_sq, turn]
  rfl

theorem State.beginDesc_cq (s : State) (i : Nat) (e : JEntry) (j c : Nat) : (s.beginDesc i e).cq j c = s.cq j c := by
  obtain ⟨rd, turn⟩ := s.turns_rounds i e.desc
  unfold State.beginDesc State.start State.cq
  rw [State.updJ_slice]
  show (((s.turns i e.desc).getD s).payBytes i (moved e.desc)).cq j c = _
  rw [State.payBytes_cq, turn]
  rfl

theorem State.beginDesc_waits {s : State} {e : JEntry} (h : s.jEntry e.jseq = some e) (i : Nat) :
    (s.beginDesc i e).Waits e.jseq := by
  obtain ⟨rd, turn⟩ := s.turns_rounds i e.desc
  have entry : (((s.turns i e.desc).getD s).payBytes i (moved e.desc)).jEntry e.jseq = some e := by
    rw [State.payBytes_jEntry, turn]
    exact h
  exact ⟨_, State.jEntry_updJ _ e.jseq entry rfl, rfl⟩

/-! ## The end -/

/-- A started descriptor ends with the code and the result that it is given. -/
theorem State.Waits.complete {s : State} {j : Nat} (h : s.Waits j) (c : Code) (n : Nat) : (s.complete j c n).Ended j c n := by
  obtain ⟨e, entry, started⟩ := h
  exact State.ended_complete s entry (by simp [started]) c n

theorem State.Waits.of_journal {s t : State} {j : Nat} (h : s.Waits j) (same : t.hif.journal = s.hif.journal) : t.Waits j := by
  unfold State.Waits State.jEntry
  rw [same]
  exact h

theorem State.mirror_waits {s : State} {j : Nat} (h : s.Waits j) (it : Item) : (s.mirror it).Waits j :=
  h.of_journal (by rw [State.mirror_hif])

theorem State.mirror_sq (s : State) (it : Item) (j r : Nat) : (s.mirror it).sq j r = s.sq j r := by
  unfold State.sq State.slice
  rw [State.mirror_hif]

theorem State.mirror_cq (s : State) (it : Item) (j c : Nat) : (s.mirror it).cq j c = s.cq j c := by
  unfold State.cq State.slice
  rw [State.mirror_hif]

/-- A command that runs a descriptor whose body ends it at once. -/
theorem State.Waits.completes {s : State} {j : Nat} (h : s.Waits j) (c : Code) (n i : Nat) :
    ((s.complete j c n).syncSlice i).Ended j c n := (State.syncSlice_synced ..).ended (h.complete c n)

/-- A change of another entry leaves this one. -/
theorem State.jEntry_updJ_other (s : State) {j k : Nat} (other : j ≠ k) {f : JEntry → JEntry}
    (hf : ∀ e, (f e).jseq = e.jseq) : (s.updJ k f).jEntry j = s.jEntry j := by
  cases hk : s.jEntry k with
  | none => simp only [State.updJ, hk]
  | some e =>
    have named : e.jseq = k := findJ_jseq hk
    have keeps : ∀ x : JEntry, (if x.jseq = k then { f e with sealed := !s.paired, epoch := 0 } else x).jseq = x.jseq := by
      intro x
      split
      · next h => exact (hf e).trans (named.trans h.symm)
      · rfl
    unfold State.jEntry
    rw [s.updJ_hif k f hk]
    show findJ (s.hif.journal.map _) j = _
    rw [findJ_map keeps]
    cases hj : findJ s.hif.journal j with
    | none => rfl
    | some x => exact congrArg some (if_neg (by rw [findJ_jseq hj]; exact other))

/-- The end of another descriptor gives this one its place at most. -/
theorem State.jEntry_complete_other (s : State) {j k : Nat} (other : j ≠ k) {e : JEntry} (h : s.jEntry j = some e) (c : Code)
    (n : Nat) : ∃ p, (s.complete k c n).jEntry j = some { e with place := p } := by
  unfold State.complete
  split
  · exact ⟨e.place, h⟩
  · next x hx =>
    split
    · exact ⟨e.place, h⟩
    · exact State.jEntry_placeRing _ x.slice x.ring j
        ((s.jEntry_updJ_other other (f := JEntry.ending c n s.ts) (by intro _; rfl)).trans h)

/-- A descriptor that has ended stays so. -/
theorem State.Ended.complete_any {s : State} {j : Nat} {c : Code} {n : Nat} (h : s.Ended j c n) (k : Nat) (d : Code) (m : Nat) :
    (s.complete k d m).Ended j c n := by
  obtain ⟨e, entry, ended, status, result⟩ := h
  by_cases same : j = k
  · subst same
    have done : s.complete j d m = s := by
      unfold State.complete
      rw [entry]
      exact if_pos ended
    rw [done]
    exact ⟨e, entry, ended, status, result⟩
  · obtain ⟨p, hp⟩ := s.jEntry_complete_other same entry d m
    exact ⟨_, hp, ended, status, result⟩

/-- A descriptor that has started goes on while another one ends. -/
theorem State.Waits.complete_other {s : State} {j k : Nat} (h : s.Waits j) (other : j ≠ k) (c : Code) (n : Nat) :
    (s.complete k c n).Waits j := by
  obtain ⟨e, entry, started⟩ := h
  obtain ⟨p, hp⟩ := s.jEntry_complete_other other entry c n
  exact ⟨_, hp, started⟩

/-- Descriptors that have started end, each of a list that ends with the same code. -/
theorem State.ended_each {s : State} {j : Nat} {js : List Nat} (mem : j ∈ js) (h : s.Waits j) (c : Code) (n : Nat) :
    (s.each js fun s k => s.complete k c n).Ended j c n := by
  have stays : ∀ (l : List Nat) (t : State), t.Ended j c n → (t.each l fun s k => s.complete k c n).Ended j c n := by
    intro l
    induction l with
    | nil => exact fun _ h => h
    | cons k l ih => exact fun t h => ih _ (h.complete_any k c n)
  induction js generalizing s with
  | nil => cases mem
  | cons k l ih =>
    by_cases same : j = k
    · subst same
      exact stays l _ (h.complete c n)
    · exact ih ((List.mem_cons.1 mem).resolve_left same) (h.complete_other same c n)

end Sys2Proof.Machine
end

section
/-! PROOF. NOP, RING_CREATE, RING_DESTROY, UNIT_CTRL and SVC (O40). -/

namespace Sys2Proof.Machine

/-! ## NOP -/

theorem nop_ends {i : Fin 64} {r : Fin 8} {s : State} {e : JEntry} (h : s.Runs i r { opcode := 0 } e) :
    s.Gives (.nopDesc i r) [.freeIdx, .hif, .mlk, .recs, .outputs] fun t => t.Ended e.jseq cOk 0 := by
  have x : exec (.nopDesc i r) s = .next (((s.beginDesc i e).complete e.jseq cOk 0).syncSlice i) :=
    congrArg Host.Outcome.next (h.runDesc _)
  exact Effect.gives (Effect.of_ok (execNopDesc_effect i r s) x) rfl x ((State.beginDesc_waits h.entry i).completes ..)

/-! ## A ring comes into being (R310) -/

/-- A ring in its range is one of the eight of its slice. -/
theorem sqInRange_ring {i : Nat} {p : SqParams} {f : Nat → Bool} (h : sqInRange i p f = true) : p.ring < 8 := by
  simp only [sqInRange, Bool.and_eq_true, decide_eq_true_eq] at h
  exact h.1.1.1

theorem cqInRange_ring {p : CqParams} (h : cqInRange p = true) : p.ring < 8 := by
  simp only [cqInRange, Bool.and_eq_true, decide_eq_true_eq] at h
  exact h.1.1.1.1

theorem cqInRange_depth {p : CqParams} (h : cqInRange p = true) : 16 ≤ p.depth := by
  simp only [cqInRange, powerOfTwo, Bool.and_eq_true, decide_eq_true_eq] at h
  exact h.1.1.2.1.1

theorem State.makeSq_synced (s : State) (i : Nat) (p : SqParams) : (s.updSq i p.ring fun _ => sqOf p).Synced (s.makeSq i p) :=
  (((State.hostWrite_synced ..).trans (State.hostWrite_synced ..)).trans (State.hostWrite_synced ..)).trans
    (State.stateIrq_synced ..)

theorem State.makeCq_synced (s : State) (i : Nat) (p : CqParams) : (s.updCq i p.ring fun _ => cqOf p).Synced (s.makeCq i p) :=
  (State.hostWrite_synced ..).trans (State.stateIrq_synced ..)

/-- A new completion ring is not full, whatever places are given in it. -/
theorem cqOf_notFull {p : CqParams} (h : cqInRange p = true) (n : Nat) : ({ cqOf p with placed := n } : CqSt).isFull = false := by
  have depth := cqInRange_depth h
  simp [CqSt.isFull, cqFree, cqOf]
  omega

/-- Showing that a ring is not full, as it shows already, changes nothing. -/
theorem CqSt.Placed.shown {q p o : CqSt} (h : q.Placed p) (k : p.Shown o)
    (open_ : ∀ n, ({ q with placed := n } : CqSt).isFull = q.full) :
    q.Placed o := by
  obtain ⟨n, rfl⟩ := h
  obtain rfl | rfl := k
  · exact ⟨n, rfl⟩
  · exact ⟨n, by rw [open_ n]⟩

/-- The end of a descriptor that has changed a ring of its slice. -/
theorem State.ended_sq {s : State} {i k : Nat} {q : SqSt} (h : q.Shown (s.sq i k)) (it : Item) (j : Nat) (c : Code) (n m : Nat) :
    q.Shown ((((s.mirror it).complete j c n).syncSlice m).sq i k) := by
  refine SqSt.Shown.trans ?_ ((State.syncSlice_synced ..).sq i k)
  rw [(State.complete_sameRings ..).sq, State.mirror_sq]
  exact h

theorem State.ended_cq (s : State) (i k : Nat) (it : Item) (j : Nat) (c : Code) (n m : Nat) :
    ∃ p, (s.cq i k).Placed p ∧ p.Shown ((((s.mirror it).complete j c n).syncSlice m).cq i k) := by
  have placed := (State.complete_sameRings (s.mirror it) j c n).cq i k
  rw [State.mirror_cq] at placed
  exact ⟨_, placed, (State.syncSlice_synced ..).cq i k⟩

theorem CqSt.Shown.on {q p : CqSt} (h : q.Shown p) : p.on = q.on := by
  obtain rfl | rfl := h <;> rfl

/-- The end of a descriptor leaves every completion ring ON or OFF. -/
theorem State.ended_on (s : State) (j : Nat) (c : Code) (n m i k : Nat) :
    (((s.complete j c n).syncSlice m).cq i k).on = (s.cq i k).on := by
  obtain ⟨p, hp⟩ := (s.complete_sameRings j c n).cq i k
  rw [CqSt.Shown.on ((State.syncSlice_synced ..).cq i k), hp]

section
variable {i : Fin 64} {r : Fin 8} {s : State} {e : JEntry} (h : s.Runs i r { opcode := 1, used := [(32, 24)] } e)
  (kind : e.desc.num 34 1 ≤ 1)
include h kind

theorem ringCreate_sq (sub : e.desc.num 32 1 = 0)
    (range : (sqInRange i (sqParams e.desc) fun c => (s.cq i c).on && !(s.cq i c).receive) = true) :
    s.Gives (.ringCreate i r) [.freeIdx, .hif, .mlk, .recs, .outputs] fun t =>
      ((s.sq i (sqParams e.desc).ring).st = .off → t.Ended e.jseq cOk 0 ∧
        { t.sq i (sqParams e.desc).ring with st := .running } = sqOf (sqParams e.desc)) ∧
      ((s.sq i (sqParams e.desc).ring).st ≠ .off → t.Ended e.jseq 0x0201 0) := by
  let b := s.beginDesc i e
  let p := sqParams e.desc
  have waits : b.Waits e.jseq := State.beginDesc_waits h.entry i
  have range' : (sqInRange i p fun c => (b.cq i c).on && !(b.cq i c).receive) = true := by
    rw [show (fun c => (b.cq i c).on && !(b.cq i c).receive) = fun c => (s.cq i c).on && !(s.cq i c).receive from
      funext fun c => by rw [s.beginDesc_cq]]
    exact range
  have x : exec (.ringCreate i r) s = .next ((if (b.sq i p.ring).st ≠ .off then b.complete e.jseq 0x0201 0
      else ((b.makeSq i p).mirror (.effect 1 i e.desc.spec.toNat)).complete e.jseq cOk 0).syncSlice i) := by
    refine (congrArg Host.Outcome.next (h.runDesc _)).trans ?_
    rw [sub]
    dsimp only
    rw [if_neg (by rintro (k | k); exacts [absurd k (by omega), k range'])]
    rfl
  rw [s.beginDesc_sq] at x
  refine Effect.gives (Effect.of_ok (execRingCreate_effect i r s) x) rfl x ⟨fun off => ?_, fun on => ?_⟩
  · rw [if_neg (not_not_intro off)]
    have made := b.makeSq_synced i p
    refine ⟨(State.mirror_waits (waits.of_journal made.journal) _).completes .., ?_⟩
    have new : (sqOf p).Shown ((b.makeSq i p).sq i p.ring) := by
      refine SqSt.Shown.trans (.of_eq ?_) (made.sq i p.ring)
      rw [State.sq_updSq, if_pos ⟨rfl, rfl, sqInRange_ring range⟩]
    obtain ⟨y, hy, -⟩ := State.ended_sq new (.effect 1 i e.desc.spec.toNat) e.jseq cOk 0 i
    rw [hy]
    rfl
  · rw [if_pos on]
    exact waits.completes ..

theorem ringCreate_cq (sub : e.desc.num 32 1 = 1) (es : (cqParams e.desc).receive = true → e.desc.num 48 1 ≤ 4)
    (range : cqInRange (cqParams e.desc) = true) :
    s.Gives (.ringCreate i r) [.freeIdx, .hif, .mlk, .recs, .outputs] fun t =>
      ((s.cq i (cqParams e.desc).ring).on = false → t.Ended e.jseq cOk 0 ∧
        t.cq i (cqParams e.desc).ring = { cqOf (cqParams e.desc) with placed := (t.cq i (cqParams e.desc).ring).placed }) ∧
      ((s.cq i (cqParams e.desc).ring).on = true → t.Ended e.jseq 0x0201 0) := by
  let b := s.beginDesc i e
  let p := cqParams e.desc
  have waits : b.Waits e.jseq := State.beginDesc_waits h.entry i
  have x : exec (.ringCreate i r) s = .next ((if (b.cq i p.ring).on then b.complete e.jseq 0x0201 0
      else ((b.makeCq i p).mirror (.effect 1 i e.desc.spec.toNat)).complete e.jseq cOk 0).syncSlice i) := by
    refine (congrArg Host.Outcome.next (h.runDesc _)).trans ?_
    rw [sub]
    dsimp only
    have fits : ¬ (1 < e.desc.num 34 1 ∨ (p.receive = true ∧ 4 < e.desc.num 48 1) ∨ ¬ cqInRange p = true) := by
      rintro (k | ⟨k, l⟩ | k)
      exacts [absurd k (by omega), absurd (es k) (by omega), k range]
    rw [if_neg fits]
    rfl
  rw [s.beginDesc_cq] at x
  refine Effect.gives (Effect.of_ok (execRingCreate_effect i r s) x) rfl x ⟨fun off => ?_, fun on => ?_⟩
  · rw [if_neg (by rw [off]; decide)]
    have made := b.makeCq_synced i p
    refine ⟨(State.mirror_waits (waits.of_journal made.journal) _).completes .., ?_⟩
    have new : (cqOf p).Placed ((b.makeCq i p).cq i p.ring) := by
      refine CqSt.Placed.shown ⟨(cqOf p).placed, rfl⟩ ?_ (cqOf_notFull range)
      have shown := made.cq i p.ring
      rw [State.cq_updCq, if_pos ⟨rfl, rfl, cqInRange_ring range⟩] at shown
      exact shown
    obtain ⟨o, placed, shown⟩ := (b.makeCq i p).ended_cq i p.ring (.effect 1 i e.desc.spec.toNat) e.jseq cOk 0 i
    obtain ⟨n, hn⟩ := new
    obtain ⟨m, hm⟩ := placed
    obtain ⟨k, hk⟩ := CqSt.Placed.shown (q := cqOf p) ⟨m, by rw [hm, hn]⟩ shown (cqOf_notFull range)
    rw [hk]
  · rw [if_pos on]
    exact waits.completes ..

end

/-! ## A ring is destroyed (R310) -/

theorem State.cqNamed_congr {s t : State} {i c : Nat} (sq : ∀ r, t.sq i r = s.sq i r) (swc : t.swc = s.swc) :
    t.cqNamed i c = s.cqNamed i c := by
  unfold State.cqNamed
  rw [swc]
  simp only [sq]

section
variable {i : Fin 64} {r : Fin 8} {s : State} {e : JEntry} (h : s.Runs i r { opcode := 2, used := [(32, 2)] } e)
  (range : e.desc.num 33 1 < 8)
include h range

theorem ringDestroy_sq (sub : e.desc.num 32 1 = 0) (on : (s.sq i (e.desc.num 33 1)).st ≠ .off) :
    s.Gives (.ringDestroy i r) [.freeIdx, .hif, .mlk, .recs, .outputs] fun t => t.Waits e.jseq ∧
      t.sq i (e.desc.num 33 1) = { s.sq i (e.desc.num 33 1) with
        st := .destroying, destroyBy := (s.sq i (e.desc.num 33 1)).destroyBy ++ [e.jseq] } := by
  let b := s.beginDesc i e
  let k := e.desc.num 33 1
  let u := b.updSq i k fun q => { q with st := .destroying, destroyBy := q.destroyBy ++ [e.jseq] }
  have waits : b.Waits e.jseq := State.beginDesc_waits h.entry i
  have x : exec (.ringDestroy i r) s = .next (((u.hostWrite i (.ringState k .destroying)).stateIrq i).syncSlice i) := by
    refine (congrArg Host.Outcome.next (h.runDesc _)).trans ?_
    dsimp only
    rw [if_neg (by omega), if_pos sub, if_neg (by rw [s.beginDesc_sq]; exact on)]
  have synced : u.Synced (((u.hostWrite i (.ringState k .destroying)).stateIrq i).syncSlice i) :=
    ((State.hostWrite_synced ..).trans (State.stateIrq_synced ..)).trans (State.syncSlice_synced ..)
  refine Effect.gives (Effect.of_ok (execRingDestroy_effect i r s) x) rfl x ⟨waits.of_journal synced.journal, ?_⟩
  obtain ⟨y, hy, -, destroying⟩ := synced.sq i k
  have set : u.sq i k = { s.sq i k with st := .destroying, destroyBy := (s.sq i k).destroyBy ++ [e.jseq] } := by
    rw [State.sq_updSq, if_pos ⟨rfl, rfl, range⟩, s.beginDesc_sq]
  rw [set] at hy destroying
  rw [hy, destroying.2 rfl]

theorem ringDestroy_named (sub : e.desc.num 32 1 = 1) (named : s.cqNamed i (e.desc.num 33 1) = true) :
    s.Gives (.ringDestroy i r) [.freeIdx, .hif, .mlk, .recs, .outputs] fun t => t.Ended e.jseq 0x0201 0 ∧
      (t.cq i (e.desc.num 33 1)).on = (s.cq i (e.desc.num 33 1)).on := by
  let b := s.beginDesc i e
  have waits : b.Waits e.jseq := State.beginDesc_waits h.entry i
  have named' : b.cqNamed i (e.desc.num 33 1) = true := by
    rw [State.cqNamed_congr (fun r => s.beginDesc_sq i e i r) ((s.beginDesc_effect i e).same .swc rfl), named]
  have x : exec (.ringDestroy i r) s = .next ((b.complete e.jseq 0x0201 0).syncSlice i) := by
    refine (congrArg Host.Outcome.next (h.runDesc _)).trans ?_
    dsimp only
    rw [if_neg (by omega), if_neg (by omega), if_pos named']
  refine Effect.gives (Effect.of_ok (execRingDestroy_effect i r s) x) rfl x ⟨waits.completes .., ?_⟩
  rw [State.ended_on, s.beginDesc_cq]

theorem ringDestroy_cq (sub : e.desc.num 32 1 = 1) (free : s.cqNamed i (e.desc.num 33 1) = false) :
    s.Gives (.ringDestroy i r) [.freeIdx, .hif, .mlk, .recs, .outputs] fun t => t.Ended e.jseq cOk 0 ∧
      (t.cq i (e.desc.num 33 1)).on = false := by
  let b := s.beginDesc i e
  let k := e.desc.num 33 1
  let u := ((b.updCq i k fun _ => {}).hostWrite i (.cqState k false false)).stateIrq i
  have waits : b.Waits e.jseq := State.beginDesc_waits h.entry i
  have free' : ¬ b.cqNamed i k = true := by
    rw [State.cqNamed_congr (fun r => s.beginDesc_sq i e i r) ((s.beginDesc_effect i e).same .swc rfl), free]
    decide
  have x : exec (.ringDestroy i r) s = .next ((if (b.cq i k).on then
      (u.mirror (.effect 2 i (1 + 256 * k))).complete e.jseq cOk 0 else b.complete e.jseq cOk 0).syncSlice i) := by
    refine (congrArg Host.Outcome.next (h.runDesc _)).trans ?_
    dsimp only
    rw [if_neg (by omega), if_neg (by omega), if_neg free']
  refine Effect.gives (Effect.of_ok (execRingDestroy_effect i r s) x) rfl x ?_
  by_cases on : (b.cq i k).on = true
  · rw [if_pos on]
    have synced : (b.updCq i k fun _ => {}).Synced u := (State.hostWrite_synced ..).trans (State.stateIrq_synced ..)
    refine ⟨(State.mirror_waits (waits.of_journal synced.journal) _).completes .., ?_⟩
    rw [State.ended_on, State.mirror_cq, CqSt.Shown.on (synced.cq i k), State.cq_updCq, if_pos ⟨rfl, rfl, range⟩]
  · rw [if_neg on]
    refine ⟨waits.completes .., ?_⟩
    rw [State.ended_on]
    exact Bool.not_eq_true _ ▸ on

end

theorem ringDestroy_done {i : Fin 64} {r : Fin 8} {s : State} (st : (s.sq i r).st = .destroying)
    (own : ∀ z, z ∈ s.ringJ i r → z.jseq ∈ (s.sq i r).destroyBy) :
    s.Gives (.ringDestroyDone i r) [.freeIdx, .hif, .mlk, .recs, .outputs] fun t =>
      t.sq i r = { s.sq i r with st := .off, destroyBy := [] } ∧
      ∀ j z, j ∈ (s.sq i r).destroyBy → s.jEntry j = some z → z.state = .started → t.Ended j cOk 0 := by
  let u := s.updSq i r fun q => { q with st := .off, destroyBy := [] }
  let v := (((u.hostWrite i (.ringState r .off)).stateIrq i).mirror (.effect 2 i (256 * r.val))).forgetRing i r
  have x : exec (.ringDestroyDone i r) s = .next (v.each (s.sq i r).destroyBy fun s j => s.complete j cOk 0) := by
    refine congrArg Host.Outcome.next (if_neg ?_)
    simp only [st, ne_eq, not_true_eq_false, false_or, List.any_eq_true, not_exists, not_and]
    intro z hz
    simp [own z hz]
  have synced : u.Synced ((u.hostWrite i (.ringState r .off)).stateIrq i) :=
    (State.hostWrite_synced ..).trans (State.stateIrq_synced ..)
  refine Effect.gives (Effect.of_ok (execRingDestroyDone_effect i r s) x) rfl x ⟨?_, fun j z mem entry started => ?_⟩
  · have ends := State.each_rel State.SameRings.refl (fun _ _ _ => State.SameRings.trans)
      (fun (t : State) (j : Nat) => t.complete_sameRings j cOk 0) v (s.sq i r).destroyBy
    rw [ends.sq]
    show (((u.hostWrite i (.ringState r .off)).stateIrq i).mirror (.effect 2 i (256 * r.val))).sq i r = _
    rw [State.mirror_sq]
    obtain ⟨y, hy, off, -⟩ := synced.sq i r
    rw [State.sq_updSq, if_pos ⟨rfl, rfl, r.isLt⟩] at hy off
    rw [hy, off.2 rfl]
  · have waits : s.Waits j := ⟨z, entry, started⟩
    have before : v.Waits j :=
      (State.mirror_waits (waits.of_journal (t := (u.hostWrite i (.ringState r .off)).stateIrq i) synced.journal)
        (.effect 2 i (256 * r.val))).of_journal rfl
    exact State.ended_each mem before cOk 0

/-! ## SVC (R74, R314) -/

section
variable {i : Fin 64} {r : Fin 8} {s : State} {e : JEntry}
  (h : s.Runs i r { opcode := 3, used := [(32, 2), (40, 20)], buf := true, service := true, may := fun _ => i.val = 0 } e)
  (known : 0 < e.desc.num 32 1) (given : e.desc.num 32 1 < 9)
include h known given

/-- The operation that an entry of the service ring asks for. -/
def svcAsked (e : JEntry) (now : Nat) : SvcOp :=
  { op := e.desc.num 32 1, tag := BitVec.ofNat 8 (e.desc.num 33 1), door := .ring, jseq := e.jseq, since := now }

theorem svc_starts (free : s.svc.running = none) (booted : s.glb.phase ≠ .bootFailed) :
    s.Gives (.svc i r) [.freeIdx, .svc, .hif, .mlk, .recs, .outputs] fun t =>
      t.Waits e.jseq ∧ t.svc = { s.svc with running := some (svcAsked e s.now) } := by
  let b := s.beginDesc i e
  let u := b.updSvc fun v => { v with running := some (svcAsked e b.now) }
  have began := s.beginDesc_effect i e
  have now : b.now = s.now := began.same .now rfl
  have glb : b.glb = s.glb := began.same .glb rfl
  have svc : b.svc = s.svc := began.same .svc rfl
  have starts : b.svcStart (svcAsked e b.now) = u.syncSlice 0 := by
    have bad : ¬ ((svcAsked e b.now).op = 0 ∨ 8 < (svcAsked e b.now).op) := by
      show ¬ (e.desc.num 32 1 = 0 ∨ 8 < e.desc.num 32 1)
      omega
    unfold State.svcStart
    dsimp only
    rw [if_neg bad, if_neg fun k => booted (glb ▸ k.1)]
  have x : exec (.svc i r) s = .next ((u.syncSlice 0).syncSlice i) := by
    refine (congrArg Host.Outcome.next (h.runDesc _)).trans ?_
    dsimp only
    rw [show b.svc.running = none by rw [svc, free], ← starts]
    rfl
  have synced := (u.syncSlice_synced 0).trans (State.syncSlice_synced _ i)
  refine Effect.gives (Effect.of_ok (execSvc_effect i r s) x) rfl x
    ⟨(State.beginDesc_waits h.entry i).of_journal synced.journal, ?_⟩
  rw [(State.syncSlice_effect ..).same .svc rfl, (State.syncSlice_effect ..).same .svc rfl, State.updSvc_svc, svc, now]

theorem svc_waits (busy : s.svc.running ≠ none) :
    s.Gives (.svc i r) [.freeIdx, .svc, .hif, .mlk, .recs, .outputs] fun t =>
      t.Waits e.jseq ∧ t.svc = { s.svc with waiting := some (svcAsked e s.now) } := by
  let b := s.beginDesc i e
  let u := b.updSvc fun v => { v with waiting := some (svcAsked e b.now) }
  have began := s.beginDesc_effect i e
  have now : b.now = s.now := began.same .now rfl
  have svc : b.svc = s.svc := began.same .svc rfl
  obtain ⟨o, run⟩ := Option.ne_none_iff_exists'.1 busy
  have x : exec (.svc i r) s = .next (u.syncSlice i) := by
    refine (congrArg Host.Outcome.next (h.runDesc _)).trans ?_
    dsimp only
    rw [show b.svc.running = some o by rw [svc, run]]
    dsimp only
    rw [if_neg (by omega)]
    rfl
  refine Effect.gives (Effect.of_ok (execSvc_effect i r s) x) rfl x
    ⟨(State.beginDesc_waits h.entry i).of_journal (State.syncSlice_synced ..).journal, ?_⟩
  rw [(State.syncSlice_effect ..).same .svc rfl, State.updSvc_svc, svc, now]

end

end Sys2Proof.Machine
end

section
/-! PROOF. UNIT_CTRL (O40; R75, R76, R310), and all of the descriptors of O40. -/

namespace Sys2Proof.Machine

/-! ## EN of a unit -/

/-- A unit that may start has EN 1, and one that is OFF starts (R76). -/
theorem State.enable_units {s : State} {u : UnitId} (open_ : (s.unit u).fenced = false) :
    (s.enable u).units = s.units.upd (unitKey u) fun x =>
      if x.st = .off then { x with en := true, st := .starting, since := s.now } else { x with en := true } := by
  by_cases off : (s.unit u).st = .off
  · rw [State.enable_off open_ off, State.unitBegin_units, State.updUnit_units, Tbl.upd_upd]
    refine Tbl.upd_congr _ _ ?_
    rw [if_pos (show (s.units.get (unitKey u)).st = .off from off)]
    rfl
  · have off' : ¬ ((s.updUnit u fun x => { x with en := true }).unit u).st = .off := by
      rw [State.unit_updUnit]
      exact off
    unfold State.enable
    rw [if_neg (by simp [open_])]
    dsimp only
    rw [if_neg off', State.updUnit_units]
    refine Tbl.upd_congr _ _ ?_
    rw [if_neg (show ¬ (s.units.get (unitKey u)).st = .off from off)]

theorem State.setEn_raise {s : State} {u : UnitId} (open_ : (s.unit u).fenced = false) :
    ((s.setEn u true).unit u).en = true ∧
      ((s.unit u).en = false → (s.unit u).st = .off → ((s.setEn u true).unit u).st = .starting) := by
  by_cases en : (s.unit u).en = true
  · have same : s.setEn u true = s := if_pos en
    rw [same]
    exact ⟨en, fun no => absurd en (by simp [no])⟩
  · have on : s.setEn u true = s.enable u := if_neg en
    rw [on, State.unit_of_upd (State.enable_units open_)]
    by_cases off : (s.unit u).st = .off
    · rw [if_pos off]
      exact ⟨rfl, fun _ _ => rfl⟩
    · rw [if_neg off]
      exact ⟨rfl, fun _ k => absurd k off⟩

theorem State.setEn_raise_effect (s : State) (u : UnitId) : Effect 0xC0020020 s (s.setEn u true) := by
  unfold State.setEn
  split
  · exact .refl _ s
  · exact (State.enable_effect ..).mono rfl

theorem State.setEn_drop {s : State} {u : UnitId} (en : (s.unit u).en = true) : s.setEn u false = s.disable u :=
  if_neg (by simp [en])

/-- EN falls on a unit that is not ON: its state stays (R76). -/
theorem State.disable_units {s : State} {u : UnitId} (off : (s.unit u).st ≠ .on) :
    (s.disable u).units = s.units.upd (unitKey u) fun x => { x with en := false } := by
  by_cases lens : (s.unit u).st = .starting ∧ ∃ l, u = .lens l
  · obtain ⟨starting, l, rfl⟩ := lens
    rw [State.disable_starting_lens starting, (State.stopUnstarted_effect ..).same .units rfl]
    rfl
  · rw [State.disable_of_not_on off]
    · rfl
    · by_cases starting : (s.unit u).st = .starting
      · exact .inr fun l hl => lens ⟨starting, l, hl⟩
      · exact .inl starting

/-! ## The descriptor -/

/-- EN has been written: the descriptor ends with the unit's state, with OK where EN is as asked. -/
def State.ctrlEnds (s : State) (u : UnitId) (en : Bool) (j : Nat) : State :=
  let s := s.mirror (.effect 4 (unitKey u) (if en then 1 else 0))
  let st := ustateCode (s.unit u).st
  if (s.unit u).en = en then s.complete j cOk st
  else
    let (c, s) := s.freeCode
    s.complete j c st

theorem State.mirror_unit (s : State) (it : Item) (u : UnitId) : (s.mirror it).unit u = s.unit u :=
  State.unit_of_units (by rw [State.mirror_units]) u

theorem State.ctrlEnds_effect (s : State) (u : UnitId) (en : Bool) (j : Nat) : Effect 0x3000000002 s (s.ctrlEnds u en j) := by
  unfold State.ctrlEnds
  generalize Item.effect 4 (unitKey u) (if en then 1 else 0) = it
  have sent : Effect 0x3000000002 s (s.mirror it) := (s.mirror_effect it).mono rfl
  dsimp only
  split
  · exact sent.go (State.complete_effect ..) rfl
  · exact (sent.go (State.freeCode_effect ..) rfl).go (State.complete_effect ..) rfl

/-- EN is as asked: the descriptor ends with OK and with the unit's state. -/
theorem State.ctrlEnds_ok {s : State} {u : UnitId} {en : Bool} {j : Nat} (as : (s.unit u).en = en) (h : s.Waits j) :
    (s.ctrlEnds u en j).Ended j cOk (ustateCode (s.unit u).st) := by
  unfold State.ctrlEnds
  dsimp only
  rw [State.mirror_unit, if_pos as]
  exact (State.mirror_waits h _).complete ..

section
variable {i : Fin 64} {r : Fin 8} {s : State} {e : JEntry} {u : UnitId}
  (h : s.Runs i r { s0Form i 4 none [(32, 4)] with
    present := fun d => match ctrlUnit d with | some u => unitPresent u | none => true } e)
  (named : ctrlUnit e.desc = some u) (cfg : s.configured u = true)
include h named cfg

/-- The descriptor's answer, past the checks of its bytes. -/
theorem exec_unitCtrl (en : Bool) (asked : e.desc.num 35 1 = if en then 1 else 0) : exec (.unitCtrl i r) s = .next
    ((if en = true ∧ (s.unit u).fenced = true then (s.beginDesc i e).complete e.jseq cNotActive 0
      else ((s.beginDesc i e).setEn u en).ctrlEnds u en e.jseq).syncSlice i) := by
  have began := s.beginDesc_effect i e
  have cfg' : (s.beginDesc i e).configured u = true := by
    unfold State.configured State.pkg
    rw [began.same .svc rfl]
    exact cfg
  have unit : (s.beginDesc i e).unit u = s.unit u := State.unit_of_units (began.same .units rfl) u
  refine (congrArg Host.Outcome.next (h.runDesc _)).trans ?_
  rw [named]
  dsimp only
  rw [if_neg (by rw [asked, cfg']; cases en <;> decide), asked, unit]
  cases en <;> rfl

theorem unitCtrl_start (asked : e.desc.num 35 1 = 1) (open_ : (s.unit u).fenced = false) :
    ∃ t, exec (.unitCtrl i r) s = .next t ∧
    (t.unit u).en = true ∧ t.Ended e.jseq cOk (ustateCode (t.unit u).st) ∧
    ((s.unit u).en = false → (s.unit u).st = .off → (t.unit u).st = .starting) := by
  have x := exec_unitCtrl h named cfg true asked
  rw [if_neg (by simp [open_])] at x
  let b := s.beginDesc i e
  have unit : b.unit u = s.unit u := State.unit_of_units ((s.beginDesc_effect i e).same .units rfl) u
  have raised := State.setEn_raise (s := b) (u := u) (by rw [unit, open_])
  rw [unit] at raised
  obtain ⟨en, starts⟩ := raised
  have waits : (b.setEn u true).Waits e.jseq :=
    (State.beginDesc_waits h.entry i).of_journal (by rw [(b.setEn_raise_effect u).same .hif rfl])
  have units : (((b.setEn u true).ctrlEnds u true e.jseq).syncSlice i).unit u = (b.setEn u true).unit u :=
    State.unit_of_units (((State.syncSlice_effect ..).same .units rfl).trans ((State.ctrlEnds_effect ..).same .units rfl)) u
  refine ⟨_, x, ?_⟩
  rw [units]
  exact ⟨en, (State.syncSlice_synced ..).ended (State.ctrlEnds_ok en waits), starts⟩

theorem unitCtrl_fenced (asked : e.desc.num 35 1 = 1) (fenced : (s.unit u).fenced = true) :
    ∃ t, exec (.unitCtrl i r) s = .next t ∧ t.Ended e.jseq 0x0007 0 ∧ t.units = s.units := by
  have x := exec_unitCtrl h named cfg true asked
  rw [if_pos ⟨rfl, fenced⟩] at x
  refine ⟨_, x, (State.beginDesc_waits h.entry i).completes .., ?_⟩
  rw [(State.syncSlice_effect ..).same .units rfl, (State.complete_effect ..).same .units rfl]
  exact (s.beginDesc_effect i e).same .units rfl

/-- EN falls on a unit that is not ON. -/
theorem unitCtrl_stop (asked : e.desc.num 35 1 = 0) (en : (s.unit u).en = true) (off : (s.unit u).st ≠ .on) :
    ∃ t, exec (.unitCtrl i r) s = .next t ∧ t.units = s.units.upd (unitKey u) (fun x => { x with en := false }) ∧
      ((s.unit u).st ≠ .starting → t.Ended e.jseq cOk (ustateCode (s.unit u).st)) := by
  have x := exec_unitCtrl h named cfg false asked
  rw [if_neg (by simp)] at x
  let b := s.beginDesc i e
  have began : b.units = s.units := (s.beginDesc_effect i e).same .units rfl
  have unit : b.unit u = s.unit u := State.unit_of_units began u
  have drop : b.setEn u false = b.disable u := State.setEn_drop (by rw [unit, en])
  have units : (b.disable u).units = s.units.upd (unitKey u) fun x => { x with en := false } := by
    rw [State.disable_units (by rw [unit]; exact off), began]
  rw [show (s.beginDesc i e).setEn u false = b.disable u from drop] at x
  refine ⟨_, x, ?_, fun still => (State.syncSlice_synced ..).ended ?_⟩
  · rw [(State.syncSlice_effect ..).same .units rfl, (State.ctrlEnds_effect ..).same .units rfl, units]
  · have now : (b.disable u).unit u = { s.unit u with en := false } := State.unit_of_upd units
    have same : b.disable u = b.updUnit u fun x => { x with en := false } :=
      State.disable_of_not_on (by rw [unit]; exact off) (.inl (by rw [unit]; exact still))
    have waits : (b.disable u).Waits e.jseq := by
      rw [same]
      exact (State.beginDesc_waits h.entry i).of_journal rfl
    have ends := State.ctrlEnds_ok (en := false) (by rw [now]) waits
    rw [now] at ends
    exact ends

end

/-- Settles O40: one rule for each descriptor, past the checks of R308 (`State.Runs.runDesc`). -/
theorem ringUnitAndServiceDescriptors : Obligations.RingUnitAndServiceDescriptors := by
  unfold Obligations.RingUnitAndServiceDescriptors
  intro i r s
  refine ⟨fun e h => nop_ends h, fun e h kind => ⟨ringCreate_sq h kind, ringCreate_cq h kind⟩,
    fun e h range => ⟨ringDestroy_sq h range, ringDestroy_named h range, ringDestroy_cq h range⟩, ringDestroy_done,
    fun e u h named cfg => ⟨unitCtrl_start h named cfg, unitCtrl_fenced h named cfg, fun asked en st => ?_,
      fun asked en on still => ?_⟩,
    fun e h known given => ⟨svc_starts h known given, svc_waits h known given⟩⟩
  · obtain ⟨t, x, units, -⟩ := unitCtrl_stop h named cfg asked en (by simp [st])
    exact ⟨t, x, units⟩
  · obtain ⟨t, x, units, ends⟩ := unitCtrl_stop h named cfg asked en on
    exact ⟨t, x, units, ends still⟩

end Sys2Proof.Machine
end

section
/-! SUPPORT. What the loss of the grant leaves (R342, R350): the key slots, the banks and the Module Manager's failure. -/

namespace Sys2Proof.Machine

theorem State.mmDown_of_held {s t : State} (h : t.held = s.held) : t.mlk.mmDown = s.mlk.mmDown := congrArg Held.mmDown h

theorem State.dump_of_held {s t : State} (h : t.held = s.held) : t.recs.dump = s.recs.dump := congrArg Held.dump h

theorem State.flushBeams_held (s : State) : s.flushBeams.held = s.held :=
  State.held_of_effect (State.flushBeams_effect ..) rfl rfl rfl rfl rfl

theorem State.dropCommands_held (s : State) : s.dropCommands.held = s.held :=
  State.held_of_effect (State.dropCommands_effect ..) rfl rfl rfl rfl rfl

theorem State.gatePwm_held (s : State) : s.gatePwm.held = s.held :=
  State.held_of_effect (State.gatePwm_effect ..) rfl rfl rfl rfl rfl

theorem State.letUnsealedGo_held (s : State) : s.letUnsealedGo.held = s.held :=
  State.held_of_effect (State.letUnsealedGo_effect ..) rfl rfl rfl rfl rfl

theorem State.fbGrantLost_held (s : State) (b : Nat) : (s.fbGrantLost b).held = s.held := by
  unfold State.fbGrantLost
  simp

theorem State.dropDeblocks_held (s : State) : s.dropDeblocks.held = s.held := by
  unfold State.dropDeblocks
  refine State.held_each _ _ _ fun t a => ?_
  split
  · exact State.endDeblock_held ..
  · rfl

theorem State.blockOutputs_held (s : State) : s.blockOutputs.held = s.held := by
  have emits (t : State) (xs : List Emission) : (t.emits xs).held = t.held := rfl
  unfold State.blockOutputs
  dsimp only
  rw [State.dropDeblocks_held, State.fbGrantLost_held, State.fbGrantLost_held, State.gatePwm_held, emits,
    State.dropCommands_held, State.held_updMlk _ _ (by intro _; rfl) (by intro _; rfl), State.flushBeams_held]

theorem State.suspendLogic_held (s : State) (p : Nat) : (s.suspendLogic p).held = s.held := by
  unfold State.suspendLogic
  simp

theorem State.forgetUnaccepted_held (s : State) : s.forgetUnaccepted.held = s.held := rfl

theorem State.loseGrant_held (s : State) : s.loseGrant.held = s.held := by
  unfold State.loseGrant
  rw [State.forgetUnaccepted_held, State.letUnsealedGo_held, State.held_each _ _ _ (by intro t p; exact t.suspendLogic_held p),
    State.blockOutputs_held]

theorem State.stopClaim_held (s : State) : s.stopClaim.held = s.held := by
  unfold State.stopClaim
  split <;> rfl

/-- The loss of the grant changes the role, and nothing else that is held. -/
theorem State.dropGrant_held (s : State) (r : MlkRole) : (s.dropGrant r).held = { s.held with role := r } := by
  have lost : (if s.stopClaim.mlk.grant then s.stopClaim.loseGrant else s.stopClaim).held = s.held := by
    split
    · rw [State.loseGrant_held, State.stopClaim_held]
    · exact s.stopClaim_held
  rw [State.dropGrant_eq, ← lost]
  rfl

/-! ## A cut operation (R72, R74) -/

theorem State.cutSvc_running (s : State) : s.cutSvc.svc.running = none := by
  cases h : s.svc.running with
  | none => rw [State.cutSvc_of_idle h, h]
  | some o => rw [State.cutSvc_of_running h]; rfl

theorem State.cutSvc_svcCut (s : State) : s.cutSvc.ka.svcCut = (s.ka.svcCut || s.svc.running.isSome) := by
  cases h : s.svc.running with
  | none => simp [State.cutSvc_of_idle h]
  | some o => simp [State.cutSvc_of_running h]

end Sys2Proof.Machine
end

section
/-! PROOF. Restarts and failures of the Module Manager (O49). -/

namespace Sys2Proof.Machine

/-! ## Every restart (R62 to R65) -/

/-- `t` is `s` after a restart of this cause: it shows its cause and count, and the claim and the operation are gone. -/
def State.Again (s t : State) (c : RstCause) : Prop :=
  t.glb.phase = .kaStart ∧ t.glb.lcs = s.glb.lcs ∧ t.ka.cause = (if s.glb.phase = .safe then .bistSafe else c) ∧
  t.ka.count = min 0xFFFF (s.ka.count + 1) ∧ t.ka.svcCut = (s.ka.svcCut || s.svc.running.isSome) ∧
  t.svc.running = none ∧ t.mlk.grant = false ∧ t.mlk.role = .offline

/-- `t` is `s` after a cold restart of this cause: keys and banks are kept, and the journal is not. -/
def State.AgainCold (s t : State) (c : RstCause) : Prop :=
  s.Again t c ∧ t.glb.restartWarm = false ∧ t.ka.retentionValid = false ∧ t.hif.journal = [] ∧
  t.obs.slots = s.obs.slots ∧ t.svc.bankA = s.svc.bankA ∧ t.svc.bankB = s.svc.bankB ∧ t.svc.cfg0 = s.svc.cfg0 ∧
  t.svc.cfg1 = s.svc.cfg1

theorem State.restart_count (s : State) (c : RstCause) (ok : Bool) : (s.restart c ok).ka.count = min 0xFFFF (s.ka.count + 1) := by
  have count : (s.retain c).ka.count = s.ka.count := by rw [(s.retain_kept c).1]
  rw [s.restart_ka c ok]
  dsimp only
  rw [State.beforeRestart_ka]
  dsimp only
  rw [count]

theorem State.restart_svcCut (s : State) (c : RstCause) (ok : Bool) :
    (s.restart c ok).ka.svcCut = (s.ka.svcCut || s.svc.running.isSome) := by
  rw [s.restart_ka c ok]
  dsimp only
  rw [State.beforeRestart_ka]

theorem State.restart_again (s : State) (c : RstCause) (ok : Bool) : s.Again (s.restart c ok) c :=
  have ⟨grant, role⟩ := s.restart_mlk c ok
  ⟨s.restart_phase c ok, (s.restart_effect c ok).lcs, s.restart_cause c ok, s.restart_count c ok, s.restart_svcCut c ok,
    s.restart_running c ok, grant, role⟩

theorem State.restart_again_cold {s : State} {c : RstCause} {ok : Bool} (cold : s.restartsWarm c ok = false) :
    s.AgainCold (s.restart c ok) c := by
  have store := s.restart_store c ok
  refine ⟨s.restart_again c ok, ?_, ?_, ?_, store.slots, store.bankA, store.bankB, store.cfg0, store.cfg1⟩
  · rw [State.restart_glb, cold]
  · rw [State.restart_ka, cold]
    exact Bool.and_false _
  · rw [(s.restart_kept c ok).same .hif rfl, cold, (State.reborn_cold _).same .hif rfl]
    rfl

/-! ## A warm restart (R63, R64, R119) -/

/-- A commanded restart that retains its data, and may be warm, is warm. -/
theorem State.restartsWarm_asked {s : State} (runs : s.mmRuns = true) (sound : s.glb.phase ≠ .safe)
    (allowed : s.ka.warmAllowed = true) (package : s.pkg.ident = s.activeIdent) : s.restartsWarm .cmdWarm true = true := by
  obtain ⟨ka, svc, -⟩ := State.retain_asked runs
  have quiet := (s.retain .cmdWarm).flushBeams_effect
  have glb : (s.retain .cmdWarm).flushBeams.glb = s.glb := (quiet.same .glb rfl).trans ((s.retain_effect _).same .glb rfl)
  have ka' : (s.retain .cmdWarm).flushBeams.ka = _ := (quiet.same .ka rfl).trans ka
  have svc' : (s.retain .cmdWarm).flushBeams.svc = _ := (quiet.same .svc rfl).trans svc
  have active : (s.retain .cmdWarm).flushBeams.activeIdent = s.activeIdent := by
    unfold State.activeIdent
    rw [svc']
  unfold State.restartsWarm State.warmHolds
  rw [glb, ka', svc', active, ← package]
  simp [asksWarm, sound, allowed]

/-- Without retained data no restart is warm. -/
theorem State.restartsWarm_lost {s : State} (lost : s.ka.retentionValid = false) (down : s.mmRuns = false)
    (c : RstCause) (ok : Bool) : s.restartsWarm c ok = false := by
  have same : s.retain c = s := if_neg (by simp [down])
  have ka : s.flushBeams.ka = s.ka := s.flushBeams_effect.same .ka rfl
  unfold State.restartsWarm State.warmHolds
  rw [same, ka, lost]
  simp

/-- A warm restart keeps the slots as they were filled, where no exchange is cut (R119, R120). -/
theorem State.restart_slots64 {s : State} (runs : s.mmRuns = true) (warm : s.restartsWarm .cmdWarm true = true)
    (none_ : s.svc.staged = none) : (s.restart .cmdWarm true).slots64 = s.fillSlots.slots64 := by
  obtain ⟨-, svc, slots⟩ := State.retain_asked runs
  have quiet := s.quietened_effect .cmdWarm true
  have staged : (s.quietened .cmdWarm true).svc.staged = none := by
    rw [quiet.same .svc rfl, svc]
    exact none_
  have before : (s.beforeRestart .cmdWarm true).slots64 = s.fillSlots.slots64 := by
    rw [State.beforeRestart_eq, State.cutSvc_slots64 staged, quiet.same .slots64 rfl, slots]
  rw [(s.restart_kept .cmdWarm true).same .slots64 rfl, warm, ← before]
  rfl

theorem restartWarm_keeps {s : State} (runs : s.mmRuns = true) (sound : s.glb.phase ≠ .safe)
    (allowed : s.ka.warmAllowed = true) (package : s.pkg.ident = s.activeIdent) :
    (s.restart .cmdWarm true).glb.restartWarm = true ∧ (s.restart .cmdWarm true).ka.retentionValid = true ∧
      (s.svc.staged = none → (s.restart .cmdWarm true).slots64 = s.fillSlots.slots64) := by
  have warm := State.restartsWarm_asked runs sound allowed package
  refine ⟨by rw [State.restart_glb, warm], ?_, State.restart_slots64 runs warm⟩
  rw [State.restart_ka, warm]
  dsimp only
  rw [State.beforeRestart_ka, (State.retain_asked runs).1]
  rfl

/-! ## The Module Manager fails (R52, R371) -/

/-- The Module Manager has failed: its operation is cut, and nothing is polled any more. -/
def State.mmStops (s : State) : State :=
  (s.cutSvc.updMlk fun m => { m with mmDown := true }).updHif fun h =>
    { h with slices := h.slices.mapRows fun _ x => { x with pollOut := false } }

/-- The time base of a failed manager goes on in holdover. -/
def State.mmHolds (s : State) : State := if s.mmStops.col.st = .locked then s.mmStops.toHoldover else s.mmStops

/-- An active module that drops its claim then is a standby. -/
def State.mmYields (s : State) : State :=
  if s.ka.claimDrop && s.paired && s.mlk.role = .active then
    (s.mmHolds.dropGrant .standby).updMlk fun m => { m with complete := false }
  else s.mmHolds

theorem State.mmFail_running {s : State} (h : s.glb.phase = .running) (n : Nat) : s.mmFail n = s.mmYields.newDump 1 n := by
  unfold State.mmFail
  rw [h]
  rfl

theorem State.mmStops_effect (s : State) : Effect 0x5F2D8C01FFA s s.mmStops :=
  ((s.cutSvc_effect.mono rfl).go (State.updMlk_effect ..) rfl).go (State.updHif_effect ..) rfl

theorem State.mmHolds_effect (s : State) : Effect 0x400000000 s.mmStops s.mmHolds := by
  unfold State.mmHolds
  split
  · exact State.toHoldover_effect _
  · exact .refl _ _

theorem State.mmYields_effect (s : State) : Effect 0x43AC80008C2 s.mmHolds s.mmYields := by
  unfold State.mmYields
  split
  · exact (State.dropGrant_effect ..).go (State.updMlk_effect ..) rfl
  · exact .refl _ _

theorem State.mmYields_mmDown (s : State) : s.mmYields.mlk.mmDown = true := by
  have down : s.mmHolds.mlk.mmDown = true := by
    rw [s.mmHolds_effect.same .mlk rfl]
    rfl
  unfold State.mmYields
  split
  · exact (congrArg Held.mmDown (s.mmHolds.dropGrant_held .standby)).trans down
  · exact down

theorem State.mmYields_svc (s : State) : s.mmYields.svc = s.cutSvc.svc :=
  (s.mmYields_effect.same .svc rfl).trans (s.mmHolds_effect.same .svc rfl)

theorem State.mmYields_ka (s : State) : s.mmYields.ka = s.cutSvc.ka :=
  (s.mmYields_effect.same .ka rfl).trans (s.mmHolds_effect.same .ka rfl)

theorem State.mmYields_glb (s : State) : s.mmYields.glb = s.glb :=
  ((s.mmYields_effect.same .glb rfl).trans (s.mmHolds_effect.same .glb rfl)).trans (s.mmStops_effect.same .glb rfl)

theorem State.mmYields_recs (s : State) : s.mmYields.recs = s.cutSvc.recs :=
  (s.mmYields_effect.same .recs rfl).trans (s.mmHolds_effect.same .recs rfl)

/-- A locked time base goes on in holdover (R371). -/
theorem State.mmYields_holdover {s : State} (h : s.col.st = .locked) : s.mmYields.col.st = .holdover := by
  have col : s.mmStops.col = s.col := s.mmStops_effect.same .col rfl
  have held : s.mmHolds = s.mmStops.toHoldover := if_pos (by rw [col, h])
  rw [s.mmYields_effect.same .col rfl, held]
  rfl

theorem State.mmYields_standby {s : State} (drop : s.ka.claimDrop = true) (pair : s.paired = true)
    (active : s.mlk.role = .active) :
    s.mmYields.mlk.role = .standby ∧ s.mmYields.mlk.grant = false := by
  have e : s.mmYields = (s.mmHolds.dropGrant .standby).updMlk fun m => { m with complete := false } :=
    if_pos (by simp [drop, pair, active])
  rw [e]
  exact ⟨s.mmHolds.dropGrant_role .standby, (s.mmHolds.dropGrant_grantGone .standby).1⟩

/-- The Module Manager's failure in RUNNING. -/
theorem mmFail_running_leaves {s : State} (h : s.glb.phase = .running) (n : Nat) :
    let t := s.mmFail n
    t.mlk.mmDown = true ∧ t.svc.running = none ∧ t.ka.svcCut = (s.ka.svcCut || s.svc.running.isSome) ∧ t.glb = s.glb ∧
      (s.col.st = .locked → t.col.st = .holdover) ∧
      (s.ka.claimDrop = true → s.paired = true → s.mlk.role = .active → t.mlk.role = .standby ∧ t.mlk.grant = false) ∧
      ∃ d, t.recs.dump = some d ∧ d.stage = 1 ∧ d.cause = n ∧ d.dumpNo = s.recs.dumpNo + 1 := by
  intro t
  have e : t = s.mmYields.newDump 1 n := State.mmFail_running h n
  rw [e]
  have no : s.mmYields.recs.dumpNo = s.recs.dumpNo := by
    rw [s.mmYields_recs]
    exact congrArg Held.dumpNo s.cutSvc_held
  refine ⟨s.mmYields_mmDown, (congrArg Svc.running s.mmYields_svc).trans s.cutSvc_running,
    (congrArg Ka.svcCut s.mmYields_ka).trans s.cutSvc_svcCut, s.mmYields_glb, State.mmYields_holdover, State.mmYields_standby,
    _, rfl, rfl, rfl, ?_⟩
  show s.mmYields.recs.dumpNo + 1 = _
  rw [no]

/-- In start-up the other bank is booted, once (R52). -/
theorem mmFail_startup {s : State} (h : s.glb.phase = .mmStart ∨ s.glb.phase = .selfTest) (n : Nat) :
    Effect 0xC s (s.mmFail n) ∧
      (s.ka.bootRetried = false → (s.mmFail n).glb.phase = .boot ∧ (s.mmFail n).ka.tryBank = (!s.ka.runningBank) ∧
        (s.mmFail n).ka.bootRetried = true) ∧
      (s.ka.bootRetried = true → (s.mmFail n).glb = { s.glb with phase := .bootFailed } ∧ (s.mmFail n).ka = s.ka) := by
  have e : s.mmFail n = if s.ka.bootRetried then s.updGlb fun g => { g with phase := .bootFailed }
      else (s.updKa fun k => { k with bootRetried := true }).beginBoot (!s.ka.runningBank) := by
    unfold State.mmFail
    obtain h | h := h <;> rw [h]
  rw [e]
  cases s.ka.bootRetried with
  | false =>
    rw [if_neg (by decide)]
    exact ⟨((State.updKa_effect ..).mono rfl).go (State.beginBoot_effect ..) rfl,
      fun _ => ⟨rfl, rfl, rfl⟩, fun no => by cases no⟩
  | true =>
    rw [if_pos rfl]
    exact ⟨Effect.updGlb (Effect.refl _ s) (fun _ => rfl) rfl, fun no => (by cases no), fun _ => ⟨rfl, rfl⟩⟩

theorem mmFail_gives {c : Instr} {s : State} {n : Nat} (x : exec c s = .next (s.mmFail n))
    (h : s.glb.phase = .mmStart ∨ s.glb.phase = .selfTest) : s.Gives c [.glb, .ka] fun t =>
      (s.ka.bootRetried = false → t.glb.phase = .boot ∧ t.ka.tryBank = (!s.ka.runningBank) ∧ t.ka.bootRetried = true) ∧
      (s.ka.bootRetried = true → t.glb = { s.glb with phase := .bootFailed } ∧ t.ka = s.ka) :=
  have ⟨effect, first, again⟩ := mmFail_startup h n
  Effect.gives effect rfl x ⟨first, again⟩

/-! ## Its restart (R371, R395) -/

/-- The other bank has been judged, and runs where it verifies. -/
def State.mmBank (s : State) (r : BankResult) : State :=
  let b := !s.ka.runningBank
  let s := s.setResult b r
  if r = .good then (s.updKa fun k => { k with runningBank := b }).updGlb fun g => { g with fwBank := b } else s

/-- The firmware runs again, and completes the dump. -/
def State.mmBack (s : State) : State :=
  let s := s.mmBank (s.verifyBank (!s.ka.runningBank) true)
  let dump := s.recs.dump.map fun (d : Dump) => { d with stage := 2 }
  let s : State := { s with recs.dump := dump }
  s.updMlk fun m => { m with mmDown := false }

/-- Repairs that waited begin, and fetching or a resynchronisation goes on. -/
def State.mmGoesOn (s : State) : State :=
  let s := s.each (List.range 16) fun s l => s.nextRepair l
  if s.mlk.role = .standby then (if s.mlk.complete then s else s.startResync) else s.resumeKept

theorem exec_mmRestartDone {s : State} (down : s.mlk.mmDown = true) : exec .mmRestartDone s = .next s.mmBack.mmGoesOn := by
  show execMmRestartDone s = _
  unfold execMmRestartDone State.mmGoesOn State.mmBack State.mmBank
  dsimp only
  rw [if_neg (not_not_intro down)]

theorem State.mmGoesOn_held (s : State) : s.mmGoesOn.held = s.held := by
  have repairs := State.held_each s (List.range 16) (fun s l => s.nextRepair l) fun t l => t.nextRepair_held l
  unfold State.mmGoesOn
  dsimp only
  split
  · split
    · exact repairs
    · rw [State.startResync_held, repairs]
  · rw [State.resumeKept_held, repairs]

theorem State.mmGoesOn_effect (s : State) : Effect 0x47000000102 s s.mmGoesOn := by
  have repairs : Effect 0x47000000102 s (s.each (List.range 16) fun s l => s.nextRepair l) :=
    (Effect.refl _ s).each fun t l h => h.go (t.nextRepair_effect l) rfl
  unfold State.mmGoesOn
  dsimp only
  split
  · split
    · exact repairs
    · exact repairs.go (State.startResync_effect _) rfl
  · exact repairs.go (State.resumeKept_effect _) rfl

theorem State.setResult_running (s : State) (b : Bool) (r : BankResult) :
    (s.setResult b r).ka.runningBank = s.ka.runningBank := by
  cases b <;> rfl

theorem State.mmBack_good {s : State} (good : s.verifyBank (!s.ka.runningBank) true = .good) :
    s.mmBack.ka.runningBank = (!s.ka.runningBank) ∧ s.mmBack.glb.fwBank = (!s.ka.runningBank) := by
  unfold State.mmBack
  rw [good]
  exact ⟨rfl, rfl⟩

theorem State.mmBank_other (s : State) {r : BankResult} (bad : r ≠ .good) : s.mmBank r = s.setResult (!s.ka.runningBank) r :=
  if_neg bad

theorem State.mmBack_other {s : State} (bad : s.verifyBank (!s.ka.runningBank) true ≠ .good) :
    s.mmBack.ka.runningBank = s.ka.runningBank ∧ s.mmBack.glb = s.glb := by
  unfold State.mmBack
  rw [s.mmBank_other bad]
  exact ⟨s.setResult_running .., rfl⟩

theorem State.mmBank_recs (s : State) (r : BankResult) : (s.mmBank r).recs = s.recs := by
  unfold State.mmBank
  dsimp only
  split <;> rfl

theorem State.mmBack_dump (s : State) : s.mmBack.recs.dump = s.recs.dump.map fun d => { d with stage := 2 } := by
  unfold State.mmBack
  dsimp only
  rw [State.updMlk_recs]
  dsimp only
  rw [s.mmBank_recs]

theorem State.mmBack_runs (s : State) : s.mmBack.mlk.mmDown = false := by
  unfold State.mmBack
  dsimp only
  rw [State.updMlk_mlk]

theorem mmRestart_done {s : State} (down : s.mlk.mmDown = true) :
    s.Gives .mmRestartDone [.freeIdx, .glb, .ka, .lenses, .hif, .mlk, .recs, .outputs] fun t =>
      t.mlk.mmDown = false ∧
      (s.verifyBank (!s.ka.runningBank) true = .good →
        t.ka.runningBank = (!s.ka.runningBank) ∧ t.glb.fwBank = (!s.ka.runningBank)) ∧
      (s.verifyBank (!s.ka.runningBank) true ≠ .good → t.ka.runningBank = s.ka.runningBank ∧ t.glb = s.glb) ∧
      t.recs.dump = s.recs.dump.map fun d => { d with stage := 2 } := by
  have x := exec_mmRestartDone down
  have goes := s.mmBack.mmGoesOn_effect
  have held := s.mmBack.mmGoesOn_held
  have ka : s.mmBack.mmGoesOn.ka = s.mmBack.ka := goes.same .ka rfl
  have glb : s.mmBack.mmGoesOn.glb = s.mmBack.glb := goes.same .glb rfl
  have runs : s.mmBack.mmGoesOn.mlk.mmDown = s.mmBack.mlk.mmDown := State.mmDown_of_held held
  have dump : s.mmBack.mmGoesOn.recs.dump = s.mmBack.recs.dump := State.dump_of_held held
  refine Effect.gives (Effect.of_ok (execMmRestartDone_effect s) x) rfl x
    ⟨runs.trans s.mmBack_runs, fun good => ?_, fun bad => ?_, dump.trans s.mmBack_dump⟩
  · rw [ka, glb]
    exact State.mmBack_good good
  · rw [ka, glb]
    exact State.mmBack_other bad

/-! ## Dumps and hours (R62, R389, R395) -/

theorem firmwareFatal_dumps {s : State} (runs : s.mmRuns = true) : s.Gives .firmwareFatal [.recs] fun t =>
    t.recs.evr.flushing = true ∧
      ∃ d, t.recs.dump = some d ∧ d.stage = 2 ∧ d.cause = 3 ∧ d.dumpNo = s.recs.dumpNo + 1 := by
  have x : exec .firmwareFatal s = .next ((s.newDump 2 3).updEvr fun e => evrAskFlush true e) :=
    congrArg Host.Outcome.next (if_pos runs)
  refine Effect.gives (Effect.of_ok (execFirmwareFatal_effect s) x) rfl x ⟨?_, _, rfl, rfl, rfl, rfl⟩
  exact Bool.or_true _

theorem dumpFlashCopy_done {s : State} {d : Dump} (runs : s.mmRuns = true) (dump : s.recs.dump = some d) (stage : d.stage = 2)
    (fresh : s.recs.dumpCopied = false) : s.Gives .dumpFlashCopyDone [.recs] fun t =>
      t.recs = { s.recs with dumpSlots := putRow s.recs.dumpSlots s.recs.nextDumpSlot d, dumpCopied := true,
                             nextDumpSlot := (s.recs.nextDumpSlot + 1) % 16 } := by
  have x : exec .dumpFlashCopyDone s = .next { s with
      recs.dumpSlots := putRow s.recs.dumpSlots s.recs.nextDumpSlot d, recs.dumpCopied := true
      recs.nextDumpSlot := (s.recs.nextDumpSlot + 1) % 16 } := by
    show execDumpFlashCopyDone s = _
    unfold execDumpFlashCopyDone
    rw [dump]
    dsimp only
    rw [if_pos ⟨runs, by simp [fresh], stage⟩]
  exact Effect.gives (Effect.of_ok (execDumpFlashCopyDone_effect s) x) rfl x rfl

/-- A hundredth of an hour has passed by the instant `n` (R62). -/
def State.hourPassed (s : State) (n : Nat) : State :=
  let s := (s.upTo n).updKa fun k => { k with hours := k.hours + 1, hoursAt := n }
  if s.mmRuns then s.updKa fun k => { k with hoursFlash := k.hours, pwrcycFlash := k.pwrcyc } else s

theorem State.hourPassed_facts (s : State) (n : Nat) : (s.hourPassed n).now = max s.now n ∧
    (s.hourPassed n).ka.hours = s.ka.hours + 1 ∧ (s.hourPassed n).ka.hoursAt = n ∧
    (s.mmRuns = true → (s.hourPassed n).ka.hoursFlash = s.ka.hours + 1) := by
  let u := (s.upTo n).updKa fun k => { k with hours := k.hours + 1, hoursAt := n }
  have now : u.now = max s.now n := s.upTo_now _
  have ka : u.ka = { s.ka with hours := s.ka.hours + 1, hoursAt := n } := by rw [State.updKa_ka, State.upTo_ka]
  have runs : u.mmRuns = s.mmRuns := by
    unfold State.mmRuns
    rw [ka, show u.mlk = s.mlk from s.upTo_mlk _, show u.glb = s.glb from s.upTo_glb _]
  have e : s.hourPassed n = if s.mmRuns then
      u.updKa fun k => { k with hoursFlash := k.hours, pwrcycFlash := k.pwrcyc } else u := by
    rw [← runs]
    rfl
  rw [e]
  split
  · rw [State.updKa_now, State.updKa_ka, ka]
    exact ⟨now, rfl, rfl, fun _ => rfl⟩
  · next no =>
    rw [ka]
    exact ⟨now, rfl, rfl, fun yes => absurd yes no⟩

theorem kaHours_tick {s : State} (power : s.ka.powerGood = true) : s.Gives .kaHoursTick [.now, .ka, .col] fun t =>
    t.now = max s.now (s.ka.hoursAt + 36000000000) ∧ t.ka.hours = s.ka.hours + 1 ∧
    t.ka.hoursAt = s.ka.hoursAt + 36000000000 ∧ (s.mmRuns = true → t.ka.hoursFlash = s.ka.hours + 1) := by
  have x : exec .kaHoursTick s = .next (s.hourPassed (s.ka.hoursAt + 36000000000)) :=
    congrArg Host.Outcome.next (if_neg (not_not_intro power))
  exact Effect.gives (Effect.of_ok (execKaHoursTick_effect s) x) rfl x (s.hourPassed_facts _)

/-- Settles O49: what every restart leaves (`State.restart_again`), and one rule for each failure of the Module Manager. -/
theorem restartsAndManagerFailures : Obligations.RestartsAndManagerFailures := by
  unfold Obligations.RestartsAndManagerFailures
  intro s
  refine ⟨fun open_ => ⟨_, congrArg Host.Outcome.next (if_pos open_), State.restart_again_cold (s.restartsWarm_unsealed _)⟩,
    fun open_ => ⟨_, congrArg Host.Outcome.next (if_pos open_), s.restart_again .cmdWarm true, restartWarm_keeps⟩,
    fun open_ lost down => ⟨_, congrArg Host.Outcome.next (if_pos open_),
      State.restart_again_cold (State.restartsWarm_lost lost down _ _)⟩,
    fun power => ⟨_, congrArg Host.Outcome.next (if_pos power), State.restart_again_cold (s.restartsWarm_unsealed _)⟩,
    fun c n which => ?_, mmRestart_done, firmwareFatal_dumps, fun d => dumpFlashCopy_done, kaHours_tick⟩
  have x : exec c s = .next (s.mmFail n) := by
    obtain ⟨rfl, rfl⟩ | ⟨rfl, rfl⟩ := which <;> rfl
  exact ⟨fun running => ⟨_, x, mmFail_running_leaves running n⟩, mmFail_gives x⟩

end Sys2Proof.Machine
end

section
/-! PROOF. (O48) Bring-up phase by phase, hold-up, and RUN set and cleared (R49 to R54, R58, R410, R417, R455). -/

namespace Sys2Proof.Machine

/-! ## Power good, BOOT and the firmware's start (R49, R54, R410, R451) -/

/-- The keep-alive domain as it starts. -/
def State.kaStarts (s : State) : Ka :=
  { powerGood := true, powerGoodAt := s.now
    nextBank := s.ka.nextBank, flushFailed := s.ka.flushFailed, vin := s.ka.vin, hours := s.ka.hoursFlash
    pwrcyc := s.ka.pwrcycFlash + 1, hoursFlash := s.ka.hoursFlash, pwrcycFlash := s.ka.pwrcycFlash, hoursAt := s.now }

/-- The module with power, before its address pins are judged. -/
def State.powered (s : State) (st : Straps) : State :=
  let t := (s.survive.freshTime.updSwc fun w => { w with hashEpoch := 0 }).newHashKey
  { t with
    ka := s.kaStarts
    glb := { lcs := s.glb.lcs, modnum := st.ga }
    hw := { t.hw with pins := st.ga, gaParErr := !parityOk st, energy := 0, vstore := 0, charging := true, slotOpen := false,
                      thermalTrip := false, hotCore := false, hotPlate := false, tempCrit := false }
    hif := { journalFlash := s.hif.journalFlash }
    mlk.strapPrimary := st.primary
    recs.evr.alarms := t.recs.evr.alarms.filter fun a => a.1 = Ev.latchOpen }

theorem State.powerOn_eq (s : State) (st : Straps) :
    s.powerOn st = if !parityOk st then (s.powered st).alarm .gaParity 0 else s.powered st := rfl

theorem State.powered_mlk (s : State) (st : Straps) :
    (s.powered st).mlk.grant = false ∧ (s.powered st).mlk.role = .offline := ⟨rfl, rfl⟩

theorem powerGood_starts {s : State} (st : Straps) (dark : s.ka.powerGood = false) : ∃ t, exec (.powerGood st) s = .next t ∧
    t.glb.phase = .kaStart ∧ t.glb.lcs = s.glb.lcs ∧ t.glb.modnum = st.ga ∧ t.ka.powerGood = true ∧
    t.ka.powerGoodAt = s.now ∧ t.ka.nextBank = s.ka.nextBank ∧ t.ka.hours = s.ka.hoursFlash ∧
    t.ka.pwrcyc = s.ka.pwrcycFlash + 1 ∧ t.mlk.grant = false ∧ t.mlk.role = .offline ∧
    t.hw.gaParErr = !parityOk st ∧ (parityOk st = false → (Ev.gaParity, 0) ∈ t.recs.evr.alarms) := by
  have x : exec (.powerGood st) s = .next (s.powerOn st) := congrArg Host.Outcome.next (if_neg (by rw [dark]; nofun))
  obtain ⟨grant, role⟩ := s.powered_mlk st
  refine ⟨_, x, ?_⟩
  rw [State.powerOn_eq]
  cases parity : parityOk st with
  | true => exact ⟨rfl, rfl, rfl, rfl, rfl, rfl, rfl, rfl, grant, role, congrArg (!·) parity, nofun⟩
  | false =>
    rw [if_pos (by rfl), State.alarm_glb, State.alarm_ka, State.alarm_mlk, State.alarm_hw]
    exact ⟨rfl, rfl, rfl, rfl, rfl, rfl, rfl, rfl, grant, role, congrArg (!·) parity,
      fun _ => (State.mem_alarms_alarm ..).mpr (.inl rfl)⟩

theorem kaStart_done {s : State} (phase : s.glb.phase = .kaStart) (power : s.ka.powerGood = true) (store : s.hw.pf ≠ .flushed)
    (cool : s.hw.thermalTrip = false) : s.Gives .kaStartDone [.glb, .ka, .col] fun t =>
      t.glb = { s.glb with phase := .boot } ∧
      t.ka = { s.ka with resultA := .notTried, resultB := .notTried, tryBank := s.ka.nextBank } ∧
      t.col = { s.col with refOk := true } := by
  have x : exec .kaStartDone s = .next ((s.updCol fun c => { c with refOk := true }).beginBoot s.ka.nextBank) :=
    congrArg Host.Outcome.next (if_pos ⟨phase, power, store, by simp [cool]⟩)
  exact Effect.gives (Effect.of_ok (execKaStartDone_effect s) x) rfl x ⟨rfl, rfl, rfl⟩

/-- The bank that verified boots (R54). -/
def State.boots (s : State) (b back : Bool) : State :=
  (s.updKa fun k => { k with runningBank := b }).updGlb fun g => { g with phase := .mmStart, fwBank := b, fwFallback := back }

/-- The results of BOOT with that of the bank `b`. -/
def Ka.withResult (k : Ka) (b : Bool) (v : BankResult) : Ka :=
  if b then { k with resultB := v } else { k with resultA := v }

theorem State.setResult_ka (s : State) (b : Bool) (v : BankResult) : (s.setResult b v).ka = s.ka.withResult b v := rfl

theorem State.boots_ka (s : State) (b back : Bool) : (s.boots b back).ka = { s.ka with runningBank := b } := rfl

theorem State.setResult_other (s : State) (b : Bool) (v : BankResult) :
    (s.setResult b v).bankResult (!b) = s.bankResult (!b) := by
  cases b <;> rfl

/-- What is left to try when a bank did not verify (R54). -/
def State.bootsOther (s : State) (b : Bool) : State :=
  if s.bankResult (!b) = .notTried then s.updKa fun k => { k with tryBank := !b }
  else s.updGlb fun g => { g with phase := .bootFailed }

/-- The bank `b` fell back from NEXT_BANK, which did not verify. -/
def State.fellBack (s : State) (b : Bool) : Bool :=
  b ≠ s.ka.nextBank && (s.bankResult s.ka.nextBank = .bad || s.bankResult s.ka.nextBank = .rollback)

theorem execBootVerifyDone_eq {s : State} (phase : s.glb.phase = .boot) (readOk : Bool) :
    let b := s.ka.tryBank
    let u := s.setResult b (s.verifyBank b readOk)
    exec (.bootVerifyDone readOk) s = .next (
      if s.verifyBank b readOk = .good then
        if u.fellBack b then (u.boots b (u.fellBack b)).alarm .fwFallback 0 else u.boots b (u.fellBack b)
      else u.bootsOther b) := congrArg Host.Outcome.next (if_neg (not_not_intro phase))

theorem State.setResult_nextBank (s : State) (b : Bool) (v : BankResult) : (s.setResult b v).ka.nextBank = s.ka.nextBank := by
  cases b <;> rfl

theorem bootVerify_done {s : State} (readOk : Bool) (phase : s.glb.phase = .boot) :
    let b := s.ka.tryBank
    let v := s.verifyBank b readOk
    let k := s.ka.withResult b v
    s.Gives (.bootVerifyDone readOk) [.glb, .ka, .recs] fun t =>
      (v = .good → t.ka = { k with runningBank := b } ∧ t.glb.phase = .mmStart ∧ t.glb.fwBank = b ∧
        (b = s.ka.nextBank → t.glb.fwFallback = false)) ∧
      (v ≠ .good → s.bankResult (!b) = .notTried → t.ka = { k with tryBank := !b } ∧ t.glb = s.glb) ∧
      (v ≠ .good → s.bankResult (!b) ≠ .notTried → t.ka = k ∧ t.glb = { s.glb with phase := .bootFailed }) := by
  have x := execBootVerifyDone_eq phase readOk
  dsimp only at x ⊢
  generalize s.ka.tryBank = b at x ⊢
  refine Effect.gives (Effect.of_ok (execBootVerifyDone_effect readOk s) x) rfl x ?_
  generalize s.verifyBank b readOk = v
  refine ⟨fun good => ?_, fun bad untried => ?_, fun bad tried => ?_⟩
  · rw [if_pos good]
    have first (h : b = s.ka.nextBank) : (s.setResult b v).fellBack b = false := by
      simp [State.fellBack, State.setResult_nextBank, h]
    have ka (back : Bool) : ((s.setResult b v).boots b back).ka = { s.ka.withResult b v with runningBank := b } := by
      rw [State.boots_ka, State.setResult_ka]
    split
    · rw [State.alarm_ka, State.alarm_glb]
      exact ⟨ka _, rfl, rfl, first⟩
    · exact ⟨ka _, rfl, rfl, first⟩
  · rw [if_neg bad, State.bootsOther, State.setResult_other, if_pos untried, State.updKa_ka, State.setResult_ka]
    exact ⟨rfl, rfl⟩
  · rw [if_neg bad, State.bootsOther, State.setResult_other, if_neg tried]
    exact ⟨rfl, rfl⟩

theorem mmStart_done {s : State} (phase : s.glb.phase = .mmStart) : s.Gives .mmStartDone [.glb, .obs] fun t =>
    t.glb = { s.glb with phase := .selfTest } ∧
    t.obs = { s.obs with scramble := (s.obs.scramble + 1) % 65536 } := by
  have x : exec .mmStartDone s = .next ((s.updObs fun o => { o with scramble := (o.scramble + 1) % 65536 }).updGlb fun g =>
      { g with phase := .selfTest }) := congrArg Host.Outcome.next (if_neg (not_not_intro phase))
  exact Effect.gives (Effect.of_ok (execMmStartDone_effect s) x) rfl x ⟨rfl, rfl⟩

/-! ## Hold-up (R52, R455) -/

/-- The store's energy and voltage, and HOLDUP_READY. -/
def State.charged (s : State) (energy vstore : Nat) (ready : Bool) : State :=
  (s.updHw fun h => { h with energy := Nat.min energy 0xFFFF, vstore := Nat.min vstore 0xFFF
                             charging := decide (vstore < 800) }).updGlb fun g => { g with holdupReady := ready }

theorem State.charged_hw (s : State) {energy vstore : Nat} (he : energy ≤ 0xFFFF) (hv : vstore ≤ 0xFFF) (ready : Bool) :
    (s.charged energy vstore ready).hw =
      { s.hw with energy := energy, vstore := vstore, charging := decide (vstore < 800) } := by
  have e : Nat.min energy 0xFFFF = energy := Nat.min_eq_left he
  have v : Nat.min vstore 0xFFF = vstore := Nat.min_eq_left hv
  show { s.hw with energy := Nat.min energy 0xFFFF, vstore := Nat.min vstore 0xFFF, charging := decide (vstore < 800) } = _
  rw [e, v]

theorem holdup_charged {s : State} (energy vstore : Nat) (power : s.ka.powerGood = true) (he : energy ≤ 0xFFFF)
    (hv : vstore ≤ 0xFFF) : s.Gives (.holdupCharged energy vstore) [.glb, .recs, .hw] fun t =>
      t.hw = { s.hw with energy := energy, vstore := vstore, charging := decide (vstore < 800) } ∧
      t.glb = { s.glb with holdupReady := decide (8000 ≤ energy) && !(s.bst.busy && s.bst.region = 0x700) } ∧
      (8000 ≤ s.hw.energy → energy < 8000 → (Ev.holdup, 0) ∈ t.recs.evr.alarms) := by
  let ready : Bool := decide (8000 ≤ energy) && !(s.bst.busy && s.bst.region = 0x700)
  let u := s.charged energy vstore ready
  have x : exec (.holdupCharged energy vstore) s = .next (
      if decide (8000 ≤ s.hw.energy ∧ energy < 8000) then u.alarm .holdup 0
      else if ready then u.clearAlarm .holdup 0 else u) :=
    congrArg Host.Outcome.next (if_neg (not_not_intro power))
  have hw : u.hw = _ := s.charged_hw he hv ready
  refine Effect.gives (Effect.of_ok (execHoldupCharged_effect energy vstore s) x) rfl x ?_
  by_cases fell : 8000 ≤ s.hw.energy ∧ energy < 8000
  · rw [if_pos (decide_eq_true fell), State.alarm_hw, State.alarm_glb]
    exact ⟨hw, rfl, fun _ _ => (State.mem_alarms_alarm ..).mpr (.inl rfl)⟩
  · rw [if_neg (by simpa using fell)]
    have cleared : Effect 0x4000000000 u (if ready then u.clearAlarm .holdup 0 else u) :=
      .ite (fun _ => u.clearAlarm_effect ..) fun _ => .refl ..
    rw [cleared.same .hw rfl, cleared.same .glb rfl]
    exact ⟨hw, rfl, fun a b => absurd ⟨a, b⟩ fell⟩

theorem holdup_timeout {s : State} (power : s.ka.powerGood = true) (empty : s.glb.holdupReady = false) :
    s.Gives .holdupTimeout [.now, .col, .recs] fun t =>
      t.now = max s.now (s.ka.powerGoodAt + 3000000000) ∧ (Ev.holdup, 0) ∈ t.recs.evr.alarms := by
  have x : exec .holdupTimeout s = .next ((s.upTo (s.ka.powerGoodAt + 3000000000)).alarm .holdup 0) :=
    congrArg Host.Outcome.next (if_pos ⟨power, by simp [empty]⟩)
  refine Effect.gives (Effect.of_ok (execHoldupTimeout_effect s) x) rfl x ⟨?_, (State.mem_alarms_alarm ..).mpr (.inl rfl)⟩
  rw [State.alarm_now]
  exact s.upTo_now _

end Sys2Proof.Machine
end

section
/-! PROOF. (O48) The self-test, RUNNING and the clearing of RUN (R49, R51, R58, R66, R417). -/

namespace Sys2Proof.Machine

/-! ## The self-test (R49, R417) -/

theorem State.failedRegion_pll (s : State) {r : StartupResult} (h : r.pllPass = false) : (s.failedRegion r).1 = 0x400 := by
  rw [State.failedRegion, h]
  rfl

theorem State.failedRegion_vref (s : State) {r : StartupResult} (pll : r.pllPass = true) (h : r.vrefPass = false) :
    (s.failedRegion r).1 = 0x500 := by
  rw [State.failedRegion, pll, h]
  rfl

theorem State.failedRegion_lens (s : State) {r : StartupResult} (pll : r.pllPass = true) (vref : r.vrefPass = true) {l : Nat}
    (first : ((List.range lensCount).find? fun l => !r.lensPass.getLsbD l) = some l) : (s.failedRegion r).1 = l := by
  rw [State.failedRegion, pll, vref, first]
  rfl

/-- The start-up self-test as it failed, told before PHASE is HELD. -/
def State.failTold (s : State) (r : StartupResult) : State :=
  ((s.failedRegion r).2.bistFailed (s.failedRegion r).1).event .bistFail (s.failedRegion r).1

theorem State.startupFail_eq (s : State) (r : StartupResult) :
    s.startupFail r = (s.failTold r).updGlb fun g => { g with phase := .held } := rfl

theorem State.failTold_effect (s : State) (r : StartupResult) : Effect 0x14000000002 s (s.failTold r) :=
  (((s.failedRegion_effect r).mono rfl).go (State.bistFailed_effect _ _) rfl).go (State.event_effect _ _ _) rfl

theorem State.failTold_bst (s : State) (r : StartupResult) : ∃ a b n, (s.failTold r).bst =
    { s.bst with result := .fail, region := (s.failedRegion r).1, sig := a, gold := b, fails := n } := by
  have same : (s.failedRegion r).2.bst = s.bst := (s.failedRegion_effect r).same .bst rfl
  rw [← same]
  exact ⟨_, _, _, rfl⟩

theorem State.failTold_event (s : State) (r : StartupResult) :
    (Ev.bistFail, (s.failTold r).bst.region, s.now) ∈ (s.failTold r).recs.evr.events := by
  have now : s.now = ((s.failedRegion r).2.bistFailed (s.failedRegion r).1).now :=
    (((s.failedRegion_effect r).mono rfl).go (State.bistFailed_effect _ _) rfl : Effect 0x10000000002 s _).same .now rfl |>.symm
  rw [now]
  exact List.mem_append_right _ (List.mem_singleton.mpr rfl)

/-- The results of the start-up self-test, as BST_STARTUP holds them (R417). -/
def State.startupRead (s : State) (r : StartupResult) : State :=
  s.updBst fun x => { x with lensPass := r.lensPass, serdesPass := r.serdesPass, pllPass := r.pllPass, vrefPass := r.vrefPass }

/-- Every lens has passed its self-test. -/
def State.lensesTested (s : State) : State :=
  { s with lenses := s.lenses.mapRows fun _ x => { x with needsTest := false } }

/-- The self-test has passed: a warm restart goes on with its own work, a cold one reaches SETUP. -/
def State.testPassed (s : State) : State :=
  if s.glb.restartWarm then s.lensesTested else (s.lensesTested.updGlb fun g => { g with phase := .setup }).loadPackage

theorem execStartupBistDone_eq {s : State} (phase : s.glb.phase = .selfTest) (r : StartupResult) :
    exec (.startupBistDone r) s = .next (
      if ¬ startupPass r then (s.startupRead r).startupFail r else (s.startupRead r).testPassed) :=
  congrArg Host.Outcome.next (if_neg (not_not_intro phase))

theorem State.testPassed_glb (s : State) :
    s.testPassed.glb = if s.glb.restartWarm then s.glb else { s.glb with phase := .setup } := by
  unfold State.testPassed
  split
  · rfl
  · exact (State.loadPackage_effect _).same .glb rfl

theorem State.testPassed_bst (s : State) : s.testPassed.bst = s.bst := by
  unfold State.testPassed
  split
  · rfl
  · exact (State.loadPackage_effect _).same .bst rfl

theorem startupBist_done {s : State} (r : StartupResult) (phase : s.glb.phase = .selfTest) :
    ∃ t, exec (.startupBistDone r) s = .next t ∧
      t.bst.lensPass = r.lensPass ∧ t.bst.pllPass = r.pllPass ∧ t.bst.vrefPass = r.vrefPass ∧
      t.bst.serdesPass = r.serdesPass ∧
      (startupPass r = true → t.glb = if s.glb.restartWarm then s.glb else { s.glb with phase := .setup }) ∧
      (startupPass r = false → t.glb = { s.glb with phase := .held } ∧ t.bst.result = .fail ∧
        (r.pllPass = false → t.bst.region = 0x400) ∧
        (r.pllPass = true → r.vrefPass = false → t.bst.region = 0x500) ∧
        (∀ l, r.pllPass = true → r.vrefPass = true →
          ((List.range lensCount).find? fun l => !r.lensPass.getLsbD l) = some l → t.bst.region = l) ∧
        (Ev.bistFail, t.bst.region, s.now) ∈ t.recs.evr.events) := by
  refine ⟨_, execStartupBistDone_eq phase r, ?_⟩
  cases pass : startupPass r with
  | true =>
    rw [if_neg (by simp), State.testPassed_bst, State.testPassed_glb]
    exact ⟨rfl, rfl, rfl, rfl, fun _ => rfl, nofun⟩
  | false =>
    rw [if_pos (by simp), State.startupFail_eq]
    have glb : ((s.startupRead r).failTold r).glb = s.glb := ((s.startupRead r).failTold_effect r).same .glb rfl
    have told := (s.startupRead r).failTold_event r
    obtain ⟨a, b, n, bst⟩ := (s.startupRead r).failTold_bst r
    rw [State.updGlb_bst, State.updGlb_glb, State.updGlb_recs, glb]
    rw [bst] at told ⊢
    exact ⟨rfl, rfl, rfl, rfl, nofun, fun _ => ⟨rfl, rfl, State.failedRegion_pll _, State.failedRegion_vref _,
      fun l pll vref => State.failedRegion_lens _ pll vref, told⟩⟩

/-! ## RUNNING (R51, R58, R66) -/

theorem State.enterRunning_rest (s : State) :
    Effect 0x47200000002 (s.updGlb fun g => { g with phase := .running }) s.enterRunning := by
  have since := State.updMlk_effect (s.updGlb fun g => { g with phase := .running }) fun m =>
    { m with runningSince := s.now, soloPassed := false, partnerGoodSeen := false, healthSeen := false }
  unfold State.enterRunning
  refine Effect.go (Effect.ite (fun _ => ?_) fun _ => since.mono rfl) (State.sendHealth_effect _) rfl
  exact ((since.mono rfl).go (State.updMlk_effect ..) rfl).go (State.startResync_effect _) rfl

/-- RUNNING begins: floors rise, and groups with RUN sample again. -/
def State.entered (s : State) : State := ((s.enterRunning).raiseFloors).runGroups

theorem State.entered_rest (s : State) :
    Effect 0x4F200000002 (s.updGlb fun g => { g with phase := .running }) s.entered :=
  ((s.enterRunning_rest.mono rfl).go (State.raiseFloors_effect _) rfl).go (State.runGroups_effect _) rfl

theorem State.entered_glb (s : State) : s.entered.glb = { s.glb with phase := .running } := s.entered_rest.same .glb rfl

theorem State.entered_held (s : State) : s.entered.held =
    if s.glb.lcs = .operational then { s.held with role := .standby } else s.held := by
  unfold State.entered
  rw [State.runGroups_held, State.raiseFloors_held, State.enterRunning_held]

theorem State.role_of_held {s t : State} (h : t.held = s.held) : t.mlk.role = s.mlk.role := congrArg Held.role h

theorem State.fetchStopped_of_held {s t : State} (h : t.held = s.held) : t.hif.fetchStopped = s.hif.fetchStopped :=
  congrArg Held.fetchStopped h

/-- A module in service begins as a standby (R350). -/
theorem State.entered_role {s : State} (h : s.glb.lcs = .operational) : s.entered.mlk.role = .standby := by
  have held := s.entered_held
  rw [if_pos h] at held
  exact congrArg Held.role held

theorem State.entered_fetchStopped (s : State) : s.entered.hif.fetchStopped = s.hif.fetchStopped := by
  have held := s.entered_held
  split at held
  · exact congrArg Held.fetchStopped held
  · exact State.fetchStopped_of_held held

/-- Programs of lenses with EN 1 start from their retained slots, unless the partner claims (R66, R121). -/
def State.startsWarm (s : State) : State :=
  if s.pkg.mlk.paired ∧ s.mlk.partnerClaiming then s
  else s.each (s.logicList.filter fun p => (s.unit (.lens (s.pkg.logic.get p).lens)).en) fun s p =>
    s.updLogic p fun x => { x with warm := true }

/-- A warm restart on the package `p`, before RUNNING begins. -/
def State.warmed (s : State) (p : Package) : State :=
  ((((s.configure p).startsWarm.updGlb fun g => { g with run := true, phase := .setup }).updSvc fun v =>
    { v with committed := true }).restartUnits).resumeOwn

theorem State.startsWarm_effect (s : State) : Effect 0x800 s s.startsWarm :=
  .ite (fun _ => .refl ..) fun _ => (Effect.refl _ s).each fun t p h => h.go (t.updLogic_effect p _) rfl

theorem State.warmed_facts (s : State) (p : Package) :
    (s.warmed p).glb = { s.glb with run := true, phase := .setup } ∧ (s.warmed p).svc.pkg = p := by
  let u := (s.configure p).startsWarm
  let v := (u.updGlb fun g => { g with run := true, phase := .setup }).updSvc fun v => { v with committed := true }
  have rest : Effect 0x450C0020022 v (s.warmed p) :=
    ((State.restartUnits_effect _).mono rfl).go (State.resumeOwn_effect _) rfl
  have glb : u.glb = s.glb := ((State.startsWarm_effect _).same .glb rfl).trans ((s.configure_effect p).same .glb rfl)
  have svc : u.svc = (s.configure p).svc := (State.startsWarm_effect _).same .svc rfl
  rw [rest.same .glb rfl, rest.same .svc rfl, ← glb]
  exact ⟨rfl, by rw [State.updSvc_svc, State.updGlb_svc, svc, s.configure_svc]⟩

theorem execWarmRestartDone_eq {s : State} {i : Image} (phase : s.glb.phase = .selfTest) (warm : s.glb.restartWarm = true)
    (tested : (s.lenses.rows.all fun r => !r.2.needsTest) = true)
    (bank : (if s.svc.active then s.svc.cfg1 else s.svc.cfg0) = some i) :
    exec .warmRestartDone s = .next (s.warmed i.body).entered := by
  have passed : (s.lenses.rows.any fun r => r.2.needsTest) = false := by
    simpa using tested
  show execWarmRestartDone s = _
  unfold execWarmRestartDone
  rw [if_neg (by simp [phase, warm, passed]), bank]
  rfl

theorem warmRestart_done {s : State} {i : Image} (phase : s.glb.phase = .selfTest) (warm : s.glb.restartWarm = true)
    (tested : (s.lenses.rows.all fun r => !r.2.needsTest) = true)
    (bank : (if s.svc.active then s.svc.cfg1 else s.svc.cfg0) = some i) : ∃ t, exec .warmRestartDone s = .next t ∧
      t.glb = { s.glb with run := true, phase := .running } ∧ t.svc.pkg = i.body ∧
      (s.glb.lcs = .operational → t.mlk.role = .standby) := by
  obtain ⟨glb, pkg⟩ := s.warmed_facts i.body
  refine ⟨_, execWarmRestartDone_eq phase warm tested bank, ?_, ?_, fun op => State.entered_role (by rw [glb]; exact op)⟩
  · rw [State.entered_glb, glb]
  · rw [(State.entered_rest _).same .svc rfl, State.updGlb_svc]
    exact pkg

/-- Slices that are on poll from MIN_US again. -/
def State.pollAgain (s : State) : State :=
  s.each ((List.range 64).filter fun i => s.unitOn (.slice i)) fun s i =>
    if (s.slice i).paused ∨ (s.slice i).work.isSome then s else s.resumePolls i

theorem State.pollAgain_effect (s : State) : Effect 0x45000000002 s s.pollAgain :=
  (Effect.refl _ s).each fun t i h => h.trans (.ite (fun _ => .refl ..) fun _ => t.resumePolls_effect i)

theorem State.pollAgain_held (s : State) : s.pollAgain.held = s.held := by
  unfold State.pollAgain
  refine State.held_each _ _ _ fun t i => ?_
  split
  · rfl
  · exact t.resumePolls_held i

/-- Programs start cold after RUN was cleared, and fetching goes on (R58). -/
theorem State.relaunch_fetches (s : State) : s.relaunch.hif.fetchStopped = false := by
  unfold State.relaunch
  split
  · rw [State.fetchStopped_of_held (State.held_each _ _ _ fun t l => t.lensOn_held l)]
    rfl
  · next h => simpa using h

theorem State.runOn_eq (s : State) : s.runOn = (s.updGlb fun g => { g with run := true }).relaunch.entered.pollAgain := rfl

theorem runSet_runs {s : State} (may : s.mayRun = true) : ∃ t, exec .runSet s = .next t ∧
    t.glb = { s.glb with run := true, phase := .running } ∧ t.hif.fetchStopped = false ∧
    (s.glb.lcs = .operational → t.mlk.role = .standby) := by
  have x : exec .runSet s = .next s.runOn := congrArg Host.Outcome.next (if_pos may)
  let u := (s.updGlb fun g => { g with run := true }).relaunch
  have glb : u.glb = { s.glb with run := true } := (State.relaunch_effect _).same .glb rfl
  have polled := u.entered.pollAgain_held
  refine ⟨_, x, ?_, ?_, fun op => ?_⟩
  · rw [State.runOn_eq, (State.pollAgain_effect _).same .glb rfl, State.entered_glb, glb]
  · rw [State.runOn_eq, State.fetchStopped_of_held polled, State.entered_fetchStopped, State.relaunch_fetches]
  · rw [State.runOn_eq, State.role_of_held polled]
    exact State.entered_role (by rw [glb]; exact op)

theorem runSet_refused {s : State} (no : s.mayRun = false) :
    s.Gives .runSet [.glb] fun t => t.glb = { s.glb with runRefused := true } := by
  have x : exec .runSet s = .next (s.updGlb fun g => { g with runRefused := true }) :=
    congrArg Host.Outcome.next (if_neg (by simp [no]))
  exact Effect.gives (s.updGlb_effect (fun g => { g with runRefused := true }) fun _ => rfl) rfl x rfl

/-! ## RUN cleared in SERVICE (R58) -/

theorem runClear_stops {s : State} (run : s.glb.run = true) (service : s.glb.lcs = .service) (phase : s.glb.phase = .running)
    (first : s.glb.clearing = false) : s.Gives .runClear [.glb, .hif] fun t =>
      t.glb = { s.glb with clearing := true } ∧ t.hif.fetchStopped = true ∧ t.hif.journal = s.hif.journal := by
  have x : exec .runClear s = .next ((s.updGlb fun g => { g with clearing := true }).updHif fun h =>
      { h with fetchStopped := true, slices := h.slices.mapRows fun _ x => { x with pollOut := false } }) :=
    congrArg Host.Outcome.next (if_pos ⟨run, service, phase, by simp [first]⟩)
  exact Effect.gives (Effect.of_ok (execRunClear_effect s) x) rfl x ⟨rfl, rfl, rfl⟩

theorem State.haltWork_rest (s : State) : Effect 0x4FAD8C03FD2 (s.updGlb fun g => { g with halting := true }) s.haltWork := by
  unfold State.haltWork
  refine Effect.go (Effect.go (Effect.each (Effect.go ?_ (State.stopIdle_effect _) rfl) ?_) (State.stopGroups_effect _) rfl)
    (State.idleLoupes_effect _) rfl
  · exact (Effect.refl _ _).each fun t p h => h.go (t.logicHalt_effect p) rfl
  · exact fun t a h => h.go (t.updArm_effect a _) rfl

/-- Programs stop as far as their cycles let them. -/
def State.windsDown (s : State) : State := if s.glb.halting then s.stopIdle else s.haltWork

theorem State.windsDown_glb (s : State) : s.windsDown.glb = { s.glb with halting := true } := by
  unfold State.windsDown
  split
  · next h => rw [s.stopIdle_effect.same .glb rfl, ← h]
  · exact s.haltWork_rest.same .glb rfl

theorem execRunClearDone_eq {s : State} (clearing : s.glb.clearing = true)
    (done : (s.hif.journal.all fun e => e.state = .completed) = true) :
    exec .runClearDone s = .next (if s.windsDown.stillWorks then s.windsDown
      else s.windsDown.toOffline.updGlb fun g =>
        { g with run := false, clearing := false, halting := false, phase := .setup }) := by
  have accepted : ¬ (s.hif.journal.any fun e => e.state ≠ .completed) = true := by
    simpa using done
  exact congrArg Host.Outcome.next (if_neg (not_or_intro (not_not_intro clearing) accepted))

theorem runClear_done {s : State} (clearing : s.glb.clearing = true)
    (done : (s.hif.journal.all fun e => e.state = .completed) = true) :
    (s.windsDown.stillWorks = false → ∃ t, exec .runClearDone s = .next t ∧ t.mlk.role = .offline ∧
      t.glb = { s.glb with run := false, clearing := false, halting := false, phase := .setup }) ∧
    (s.windsDown.stillWorks = true → ∃ t, exec .runClearDone s = .next t ∧ t.glb = { s.glb with halting := true }) := by
  have x := execRunClearDone_eq clearing done
  refine ⟨fun rests => ⟨_, x, ?_⟩, fun works => ⟨_, x, ?_⟩⟩
  · rw [if_neg (by simp [rests]), State.updGlb_mlk, State.updGlb_glb, (State.toOffline_effect _).same .glb rfl,
      State.windsDown_glb]
    exact ⟨State.toOffline_role _, rfl⟩
  · rw [if_pos works, State.windsDown_glb]

/-- Settles O48: one rule for each step of bring-up, and for RUN set and cleared. -/
theorem theModuleComesUpPhaseByPhase : Obligations.TheModuleComesUpPhaseByPhase := by
  unfold Obligations.TheModuleComesUpPhaseByPhase
  intro s
  exact ⟨powerGood_starts, kaStart_done, bootVerify_done, mmStart_done, startupBist_done, fun i => warmRestart_done,
    holdup_charged, holdup_timeout, runSet_runs, runSet_refused, runClear_stops, runClear_done⟩

end Sys2Proof.Machine
end

section
/-! PROOF. (O28) The tick of a protection cycle, stage by stage (R152 to R154, R58). -/

namespace Sys2Proof.Machine

/-! ## What one of a fold's turns makes -/

/-- One turn makes `P`, and every later one keeps it; `Q` holds all the way. -/
theorem State.each_makes {α : Type} {f : State → α → State} {x : α} {P Q : State → Prop}
    (makes : ∀ t, Q t → P (f t x)) (stays : ∀ t y, P t → P (f t y)) (keeps : ∀ t y, Q t → Q (f t y)) {xs : List α}
    (mem : x ∈ xs) {s : State} (hs : Q s) : P (s.each xs f) := by
  have rest (ys : List α) : ∀ t, P t → P (t.each ys f) := by
    unfold State.each
    induction ys with
    | nil => exact fun _ h => h
    | cons y ys ih => exact fun t h => ih (f t y) (stays t y h)
  induction xs generalizing s with
  | nil => cases mem
  | cons y ys ih =>
    obtain rfl | later := List.mem_cons.mp mem
    · exact rest ys _ (makes s hs)
    · exact ih later (keeps s y hs)

/-! ## The lens keeps its spare -/

/-- The same lenses are being relocated. -/
structure State.SameReloc (s t : State) : Prop where
  same : ∀ l, (t.lenses.get l).relocTo = (s.lenses.get l).relocTo

namespace State.SameReloc

theorem of_lenses {s t : State} (h : t.lenses = s.lenses) : s.SameReloc t := ⟨fun l => by rw [h]⟩

theorem refl (s : State) : s.SameReloc s := of_lenses rfl

theorem of_effect {m : Nat} {s t : State} (h : Effect m s t) (k : m.testBit Part.lenses.ctorIdx = false) : s.SameReloc t :=
  of_lenses (h.same .lenses k)

theorem after {s t u : State} (k : t.SameReloc u) (h : s.SameReloc t) : s.SameReloc u :=
  ⟨fun l => (k.same l).trans (h.same l)⟩

theorem each {α : Type} {f : State → α → State} (h : ∀ t x, SameReloc t (f t x)) (s : State) (xs : List α) :
    s.SameReloc (s.each xs f) := State.each_rel refl (fun _ _ _ h k => k.after h) h s xs

theorem updLens (s : State) (l : Nat) {f : LensSt → LensSt} (h : ∀ x, (f x).relocTo = x.relocTo) :
    s.SameReloc (s.updLens l f) := by
  refine ⟨fun j => ?_⟩
  rw [State.updLens_lenses, Tbl.get_upd]
  split
  · next e => rw [h, e]
  · rfl

end State.SameReloc

theorem State.lensFail_sameReloc (s : State) (l : Nat) (c : LensFault) : s.SameReloc (s.lensFail l c) :=
  .after (.of_effect (State.event_effect ..) rfl) (.updLens s l fun _ => rfl)

theorem State.beginRepair_sameReloc (s : State) (l : Nat) (r : Repair) : s.SameReloc (s.beginRepair l r) := by
  unfold State.beginRepair
  split
  · exact s.lensFail_sameReloc ..
  · split
    · exact s.lensFail_sameReloc ..
    · exact .updLens s l fun _ => rfl

theorem State.askRepair_sameReloc (s : State) (l : Nat) (r : Repair) : s.SameReloc (s.askRepair l r) := by
  unfold State.askRepair
  dsimp only
  split
  · exact .refl s
  · split
    · exact .updLens s l fun _ => rfl
    · exact s.beginRepair_sameReloc l r

theorem State.nextRepair_sameReloc (s : State) (l : Nat) : s.SameReloc (s.nextRepair l) := by
  unfold State.nextRepair
  exact .after (.each (fun t r => t.askRepair_sameReloc ..) _ _) (.updLens s l fun _ => rfl)

theorem State.respare_sameReloc (s : State) (l : Nat) (r : Repair) : s.SameReloc (s.respare l r) := by
  have begun : s.SameReloc ((s.updLens l fun x => { x with repair := none }).beginRepair l r) :=
    (State.beginRepair_sameReloc ..).after (.updLens s l fun _ => rfl)
  unfold State.respare
  dsimp only
  split
  · exact begun
  · exact (State.nextRepair_sameReloc ..).after begun

theorem State.hwFault_sameReloc (s : State) (l f : Nat) (c : FFault) : s.SameReloc (s.hwFault l f c) := by
  have fenced {t : State} (h : t.lenses = s.lenses) :
      s.SameReloc (t.updLens l fun y => { y with free := y.free.filter (· ≠ f) }) :=
    .after (.updLens t l fun _ => rfl) (.of_lenses h)
  unfold State.hwFault
  dsimp only
  split
  · exact .refl s
  · split
    · refine (State.askRepair_sameReloc ..).after ?_
      split
      · exact .after (.updLens _ l fun _ => rfl) (fenced rfl)
      · exact fenced rfl
    · split
      · split
        · exact (State.respare_sameReloc ..).after (fenced rfl)
        · exact fenced rfl
      · exact fenced rfl

theorem State.atBoundary_sameReloc (s : State) (l f : Nat) : s.SameReloc (s.atBoundary l f) := by
  unfold State.atBoundary
  split
  · exact s.hwFault_sameReloc ..
  · exact .refl s

/-- A facet that overran goes back to its last seal. -/
theorem State.protOverrun_sameReloc (s : State) (l h n : Nat) : s.SameReloc (s.protOverrun l h n) := by
  unfold State.protOverrun
  dsimp only
  have counted (t : State) (o : Tbl Nat) : t.SameReloc { t with pcOvr := o } := .of_lenses rfl
  refine .after (.of_effect (State.event_effect ..) rfl) (.after (counted _ _) (.after (State.atBoundary_sameReloc ..)
    (.of_lenses ?_)))
  exact (State.loseSeal_effect s l h n).same .lenses rfl

theorem State.protEndCycle_sameReloc (s : State) (p : Nat) : s.SameReloc (s.protEndCycle p) := by
  unfold State.protEndCycle
  dsimp only
  split
  · exact .refl s
  · have told (c : Prop) [Decidable c] (t : State) : t.SameReloc (if c then t.alarm .protDegraded p else t) := by
      split
      · exact .of_effect (State.alarm_effect ..) rfl
      · exact .refl t
    exact (told _ _).after (.after (.of_effect (State.updProt_effect ..) rfl) (.after
      (.each (fun t h => t.protOverrun_sameReloc ..) _ _) (.each (fun t h => .of_effect (t.loseSeal_effect ..) rfl) _ _)))

/-! ## The input buffers stay -/

/-- The same input buffers. -/
structure State.SameWins (s t : State) : Prop where
  win0 : ∀ j, (t.progs.get j).inWin0 = (s.progs.get j).inWin0
  win1 : ∀ j, (t.progs.get j).inWin1 = (s.progs.get j).inWin1

namespace State.SameWins

theorem of_progs {s t : State} (h : t.progs = s.progs) : s.SameWins t := ⟨fun j => by rw [h], fun j => by rw [h]⟩

theorem refl (s : State) : s.SameWins s := of_progs rfl

theorem of_effect {m : Nat} {s t : State} (h : Effect m s t) (k : m.testBit Part.progs.ctorIdx = false) : s.SameWins t :=
  of_progs (h.same .progs k)

theorem after {s t u : State} (k : t.SameWins u) (h : s.SameWins t) : s.SameWins u :=
  ⟨fun j => (k.win0 j).trans (h.win0 j), fun j => (k.win1 j).trans (h.win1 j)⟩

theorem updProg (s : State) (l f : Nat) {g : ProgSt → ProgSt} (h0 : ∀ x, (g x).inWin0 = x.inWin0)
    (h1 : ∀ x, (g x).inWin1 = x.inWin1) : s.SameWins (s.updProg l f g) := by
  constructor
  all_goals
    intro j
    rw [State.updProg_progs, Tbl.get_upd]
    split
    · next e => subst e; simp only [h0, h1]
    · rfl

end State.SameWins

theorem State.wakeNow_sameWins (s : State) (l f tai : Nat) : s.SameWins (s.wakeNow l f .tick tai) := by
  have still : (if WakeCause.tick = .stream then s.consume l f else s) = s := if_neg nofun
  have last (u : State) (h : Nat) (b : Prop) (_ : Decidable b) (same : u.progs = s.progs) :
      s.SameWins (if b then u.updProg l h fun p => { p with computing := true, outDone := false } else u) := by
    split
    · exact .after (.updProg u l h (fun _ => rfl) fun _ => rfl) (.of_progs same)
    · exact .of_progs same
  unfold State.wakeNow
  rw [still]
  exact last _ _ _ _ rfl

theorem State.raise_sameWins (s : State) (l h : Nat) : s.SameWins (s.raise l h .tick) := by
  by_cases w : s.wakesAtOnce l h .tick
  · rw [State.raise_wakes w]
    exact s.wakeNow_sameWins ..
  · exact .of_progs (State.raise_queues w).1

theorem State.stopFacet_sameWins (s : State) (l f : Nat) : s.SameWins (s.stopFacet l f) :=
  .after (.of_effect (State.atBoundary_effect ..) rfl) (.after (.of_effect (State.releaseAll_effect ..) rfl)
    (.after (.updProg _ l (s.home l f) (fun _ => rfl) fun _ => rfl) (.of_progs rfl)))

theorem State.protBegin_sameWins (s : State) (l h n : Nat) : s.SameWins (s.protBegin l h n) := by
  unfold State.protBegin
  split
  · exact .after (.updProg _ _ _ (fun _ => rfl) fun _ => rfl) (s.stopFacet_sameWins ..)
  · exact (State.raise_sameWins ..).after (.updProg s l h (fun _ => rfl) fun _ => rfl)

theorem State.protStart_sameWins (s : State) (l h n : Nat) : s.SameWins (s.protStart l h n) := by
  unfold State.protStart
  split
  · exact .updProg s l h (fun _ => rfl) fun _ => rfl
  · split
    · exact .refl s
    · split
      · exact (State.protBegin_sameWins ..).after (.after (.of_effect (State.adoptSeal_effect ..) rfl)
          (.of_effect (s.rollMove_effect l h) rfl))
      · exact .updProg s l h (fun _ => rfl) fun _ => rfl

/-! ## EVALUATE outside a clearing of RUN -/

theorem State.protStart_effect_open {s : State} (l h n : Nat) (running : s.glb.halting = false) :
    Effect 0x20000001C0 s (s.protStart l h n) := by
  have prog (g : ProgSt → ProgSt) : Effect 0x20000001C0 s (s.updProg l h g) := (s.updProg_effect l h g).mono rfl
  have sealed : Effect 0x20000001C0 s ((s.rollMove l h).adoptSeal l h n) :=
    ((s.rollMove_effect l h).mono rfl).go (State.adoptSeal_effect ..) rfl
  have goes : ((s.rollMove l h).adoptSeal l h n).glb.halting = false := by rw [sealed.same .glb rfl]; exact running
  unfold State.protStart
  split
  · exact prog _
  · split
    · exact .refl ..
    · split
      · rw [State.protBegin, if_neg (by rw [goes]; nofun)]
        exact (sealed.go (State.updProg_effect ..) rfl).go (State.raise_effect ..) rfl
      · exact prog _

/-! ## The stages of the tick -/

/-- The cycle before ends, and switches take effect. -/
def State.tickSwitched (s : State) (p : Nat) : State :=
  let c := s.pkg.prots.get p
  let n := (s.prots.get p).cycle + 1
  (((s.protEndCycle p).dropReady p).consumerSwitch p n).each c.facets fun s h => s.settingsSwitch c.lens h n

/-- The slot's record at the tick, with its chain's delay. -/
def State.recordAt (s : State) (l : Nat) (k : Nat × Nat) (i : Nat) : SlotRec :=
  tickRecord (s.chSlots.get (slotKey l i)) k (s.chains.get (chainKey l (s.pkg.slots.get (slotKey l i)).chain)).gd

/-- How many slots have no output at the tick. -/
def State.missingAt (s : State) (p l : Nat) (k : Nat × Nat) : Nat :=
  ((s.protSlots p).filter fun i => !hasOutput k (s.chSlots.get (slotKey l i))).length

/-- Every slot after the tick. -/
def State.slotsTicked (s : State) (p l : Nat) (k : Nat × Nat) : State :=
  let recs := (s.protSlots p).map (s.recordAt l k)
  s.each ((s.protSlots p).zip recs) fun s x => s.updSlot l x.1 (slotAfter k x.2)

/-- Missing outputs are counted, and the cycle's number, input and next tick are noted. -/
def State.cycleNoted (s : State) (p n missing : Nat) (c : ProtCfg) (k : Nat × Nat) : State :=
  let s := if missing = 0 then s
    else s.each c.facets fun s h => { s with pcDeadline := s.pcDeadline.upd (fKey c.lens h) fun x => sat32 x 1 }
  let s := s.updProt p fun x => { x with cycle := n, last := some k, evaluating := true, evalStart := s.now, evalTai := s.tai }
  let next := s.protNext p k
  s.each c.facets fun s h => s.updProg c.lens h fun q => { q with nextTick := some next }

/-- A facet has its input buffer. -/
def State.filled (s : State) (l n missing : Nat) (recs : List SlotRec) (h : Nat) : State :=
  let b := s.protBuffer l h n missing recs
  s.updProg l h fun q => if n % 2 = 0 then { q with inWin0 := b } else { q with inWin1 := b }

/-- EVALUATE begins on every facet, each with its buffer. -/
def State.evaluates (s : State) (c : ProtCfg) (n missing : Nat) (recs : List SlotRec) : State :=
  (s.each c.facets fun s h => s.filled c.lens n missing recs h).each c.facets fun s h => s.protStart c.lens h n

/-- The slice just before EVALUATE. -/
def State.tickAligned (s : State) (p : Nat) (k : Nat × Nat) : State :=
  let c := s.pkg.prots.get p
  let u := s.tickSwitched p
  (u.slotsTicked p c.lens k).cycleNoted p ((s.prots.get p).cycle + 1) (u.missingAt p c.lens k) c k

theorem State.protTick_eq {s : State} {p : Nat} {k : Nat × Nat}
    (stays : ((s.tickAligned p k).lenses.get (s.pkg.prots.get p).lens).relocTo = none) :
    s.protTick p k = (s.tickAligned p k).evaluates (s.pkg.prots.get p) ((s.prots.get p).cycle + 1)
      ((s.tickSwitched p).missingAt p (s.pkg.prots.get p).lens k)
      (((s.tickSwitched p).protSlots p).map ((s.tickSwitched p).recordAt (s.pkg.prots.get p).lens k)) := by
  have e : s.protTick p k = match ((s.tickAligned p k).lenses.get (s.pkg.prots.get p).lens).relocTo with
    | some z => (s.tickAligned p k).updLens z fun x =>
        { x with repairGap := sat32 x.repairGap (s.pkg.prots.get p).facets.length }
    | none => (s.tickAligned p k).evaluates (s.pkg.prots.get p) ((s.prots.get p).cycle + 1)
      ((s.tickSwitched p).missingAt p (s.pkg.prots.get p).lens k)
      (((s.tickSwitched p).protSlots p).map ((s.tickSwitched p).recordAt (s.pkg.prots.get p).lens k)) := by
    unfold State.protTick
    dsimp only
    rfl
  rw [e, stays]

end Sys2Proof.Machine
end

section
/-! PROOF. (O28) What the tick of a protection cycle leaves (R152 to R154). -/

namespace Sys2Proof.Machine

/-! ## The stages, one by one -/

theorem State.settled_effect (s : State) (l n : Nat) (hs : List Nat) :
    Effect 0x3000040000 s (s.each hs fun s h => s.settingsSwitch l h n) :=
  (Effect.refl _ s).each fun t h k => k.go (t.settingsSwitch_effect l h n) rfl

theorem State.tickSwitched_effect (s : State) (p : Nat) : Effect 0x70002F03C0 s (s.tickSwitched p) :=
  ((((s.protEndCycle_effect p).mono rfl).go (State.dropReady_effect _ p) rfl).go (State.consumerSwitch_effect ..) rfl).go
    (State.settled_effect ..) rfl

theorem State.slotsTicked_effect (s : State) (p l : Nat) (k : Nat × Nat) : Effect 0x20000 s (s.slotsTicked p l k) :=
  (Effect.refl _ s).each fun t x h => h.go (t.updSlot_effect l x.1 _) rfl

theorem State.missCounted_effect (s : State) (k : Nat) (f : Nat → Nat) :
    Effect 0x100000 s { s with pcDeadline := s.pcDeadline.upd k f } := by
  refine Effect.upd s (Effect.refl ..) rfl fun p hp => ?_
  cases p
  case pcDeadline => exact absurd hp (by decide)
  all_goals rfl

theorem State.cycleNoted_effect (s : State) (p n missing : Nat) (c : ProtCfg) (k : Nat × Nat) :
    Effect 0x300080 s (s.cycleNoted p n missing c k) := by
  have counted := (Effect.refl 0x300080 s).each (xs := c.facets) fun t h e =>
    e.go (t.missCounted_effect (fKey c.lens h) fun x => sat32 x 1) rfl
  unfold State.cycleNoted
  refine Effect.each (Effect.go (Effect.ite (fun _ => .refl ..) fun _ => counted) (State.updProt_effect _ p _) rfl)
    fun t h e => e.go (t.updProg_effect c.lens h _) rfl

theorem State.tickAligned_effect (s : State) (p : Nat) (k : Nat × Nat) : Effect 0x70003F03C0 s (s.tickAligned p k) :=
  (((s.tickSwitched_effect p).mono rfl).go (State.slotsTicked_effect ..) rfl).go (State.cycleNoted_effect ..) rfl

theorem State.filled_effect (s : State) (l n missing : Nat) (recs : List SlotRec) (h : Nat) :
    Effect 0x80 s (s.filled l n missing recs h) := s.updProg_effect ..

theorem State.evaluates_effect (s : State) (c : ProtCfg) (n missing : Nat) (recs : List SlotRec) :
    Effect 0x4F2D8C007C2 s (s.evaluates c n missing recs) :=
  ((Effect.refl _ s).each fun t h e => e.go (t.filled_effect c.lens n missing recs h) rfl).each
    fun t h e => e.go (t.protStart_effect c.lens h n) rfl

theorem State.evaluates_effect_open {s : State} (c : ProtCfg) (n missing : Nat) (recs : List SlotRec)
    (running : s.glb.halting = false) : Effect 0x20000001C0 s (s.evaluates c n missing recs) :=
  ((Effect.refl _ s).each fun t h e => e.go (t.filled_effect c.lens n missing recs h) rfl).each
    fun t h e => e.trans (t.protStart_effect_open c.lens h n (by rw [e.same .glb rfl]; exact running))

theorem State.tickAligned_sameReloc (s : State) (p : Nat) (k : Nat × Nat) : s.SameReloc (s.tickAligned p k) :=
  .after (.of_effect (State.cycleNoted_effect ..) rfl) (.after (.of_effect (State.slotsTicked_effect ..) rfl)
    (.after (.of_effect (State.settled_effect ..) rfl) (.after (.of_effect (State.consumerSwitch_effect ..) rfl)
      (.after (.of_effect (State.dropReady_effect ..) rfl) (s.protEndCycle_sameReloc p)))))

/-! ## The cycle that begins -/

/-- Cycle `n` after input `k` is under way. -/
structure ProtSt.InCycle (x : ProtSt) (n : Nat) (k : Nat × Nat) (now : Nat) : Prop where
  cycle : x.cycle = n
  last : x.last = some k
  evaluating : x.evaluating = true
  evalStart : x.evalStart = now

theorem State.cycleNoted_prot (s : State) (p n missing : Nat) (c : ProtCfg) (k : Nat × Nat) :
    ((s.cycleNoted p n missing c k).prots.get p).InCycle n k s.now := by
  have counted := (Effect.refl 0x100000 s).each (xs := c.facets) fun t h e =>
    e.trans (t.missCounted_effect (fKey c.lens h) fun x => sat32 x 1)
  have now : (if missing = 0 then s
      else s.each c.facets fun s h => { s with pcDeadline := s.pcDeadline.upd (fKey c.lens h) fun x => sat32 x 1 }).now = s.now :=
    (Effect.ite (fun _ => .refl ..) fun _ => counted : Effect 0x100000 s _).same .now rfl
  have prots (u : State) (g : ProgSt → ProgSt) : (u.each c.facets fun s h => s.updProg c.lens h g).prots = u.prots :=
    ((Effect.refl 0x80 u).each fun t h e => e.go (t.updProg_effect c.lens h g) rfl).same .prots rfl
  unfold State.cycleNoted
  dsimp only
  rw [prots, State.updProt_prots, Tbl.get_upd_same]
  exact ⟨rfl, rfl, rfl, now⟩

theorem State.tickAligned_prot (s : State) (p : Nat) (k : Nat × Nat) :
    ((s.tickAligned p k).prots.get p).InCycle ((s.prots.get p).cycle + 1) k (s.tickAligned p k).now := by
  have before : Effect 0x70002F03C0 s ((s.tickSwitched p).slotsTicked p (s.pkg.prots.get p).lens k) :=
    (s.tickSwitched_effect p).go (State.slotsTicked_effect ..) rfl
  rw [(s.tickAligned_effect p k).same .now rfl, ← before.same .now rfl]
  exact State.cycleNoted_prot ..

/-! ## The slots (R153) -/

theorem State.each_zip (s : State) (xs : List Nat) (r : Nat → SlotRec) (f : State → Nat → SlotRec → State) :
    s.each (xs.zip (xs.map r)) (fun s x => f s x.1 x.2) = s.each xs fun s i => f s i (r i) := by
  have pairs : xs.zip (xs.map r) = xs.map fun i => (i, r i) := by
    simpa using List.zip_map' (f := id) (g := r) (l := xs)
  unfold State.each
  rw [pairs, List.foldl_map]

theorem slotKey_inj {l i j : Nat} : slotKey l i = slotKey l j ↔ i = j := by
  unfold slotKey
  omega

/-- A slot without an output takes its last value, MISSING (R153). -/
theorem slotAfter_missing {k : Nat × Nat} {r : SlotRec} {y : SlotSt} (h : y.ready = none) :
    (slotAfter k r y).ready = none ∧ (slotAfter k r y).out = r := by
  have after : slotAfter k r y = { y with out := r, prev := y.out } := by
    simp [slotAfter, hasOutput, h]
  rw [after]
  exact ⟨h, rfl⟩

theorem State.slotsTicked_missing {s : State} {p l i : Nat} (k : Nat × Nat) (mem : i ∈ s.protSlots p)
    (none_ : (s.chSlots.get (slotKey l i)).ready = none) :
    ((s.slotsTicked p l k).chSlots.get (slotKey l i)).out = s.recordAt l k i := by
  have turn (t : State) (j : Nat) (h : (t.chSlots.get (slotKey l i)).ready = none) :
      (((t.updSlot l j (slotAfter k (s.recordAt l k j))).chSlots.get (slotKey l i)).ready = none) ∧
      (((t.updSlot l j (slotAfter k (s.recordAt l k j))).chSlots.get (slotKey l i)).out =
        if j = i then s.recordAt l k i else (t.chSlots.get (slotKey l i)).out) := by
    rw [State.updSlot_chSlots, Tbl.get_upd]
    by_cases e : j = i
    · subst e
      rw [if_pos rfl, if_pos rfl]
      exact slotAfter_missing h
    · rw [if_neg fun c => e (slotKey_inj.mp c), if_neg e]
      exact ⟨h, rfl⟩
  have done : ((s.slotsTicked p l k).chSlots.get (slotKey l i)).ready = none ∧
      ((s.slotsTicked p l k).chSlots.get (slotKey l i)).out = s.recordAt l k i := by
    unfold State.slotsTicked
    rw [s.each_zip _ _ fun t j r => t.updSlot l j (slotAfter k r)]
    refine State.each_makes (P := fun t => (t.chSlots.get (slotKey l i)).ready = none ∧
        (t.chSlots.get (slotKey l i)).out = s.recordAt l k i) (Q := fun t => (t.chSlots.get (slotKey l i)).ready = none)
      (fun t h => ?_) (fun t j h => ?_) (fun t j h => (turn t j h).1) mem none_
    · obtain ⟨rests, out⟩ := turn t i h
      exact ⟨rests, out.trans (if_pos rfl)⟩
    · obtain ⟨rests, out⟩ := turn t j h.1
      refine ⟨rests, out.trans ?_⟩
      split
      · rfl
      · exact h.2
  exact done.2

/-- What is left at the tick of a slot that waits for none. -/
theorem State.dropReady_missing {s : State} {l i : Nat} (p : Nat) (none_ : (s.chSlots.get (slotKey l i)).ready = none) :
    ((s.dropReady p).chSlots.get (slotKey l i)).ready = none ∧
      ((s.dropReady p).chSlots.get (slotKey l i)).out = (s.chSlots.get (slotKey l i)).out := by
  unfold State.dropReady
  refine State.each_rel
    (R := fun s t => (s.chSlots.get (slotKey l i)).ready = none → (t.chSlots.get (slotKey l i)).ready = none ∧
      (t.chSlots.get (slotKey l i)).out = (s.chSlots.get (slotKey l i)).out)
    (fun _ h => ⟨h, rfl⟩) (fun s t u a b h => ⟨(b (a h).1).1, (b (a h).1).2.trans (a h).2⟩) (fun t j h => ?_) s _ none_
  rw [State.updSlot_chSlots, Tbl.get_upd]
  split
  · next e => rw [e]; exact ⟨rfl, rfl⟩
  · exact ⟨h, rfl⟩

theorem State.tickSwitched_missing {s : State} {p l i : Nat} (none_ : (s.chSlots.get (slotKey l i)).ready = none) :
    ((s.tickSwitched p).chSlots.get (slotKey l i)).ready = none ∧
      ((s.tickSwitched p).chSlots.get (slotKey l i)).out = (s.chSlots.get (slotKey l i)).out := by
  have ended : (s.protEndCycle p).chSlots = s.chSlots := (s.protEndCycle_effect p).same .chSlots rfl
  have switched : (s.tickSwitched p).chSlots = ((s.protEndCycle p).dropReady p).chSlots :=
    (((State.consumerSwitch_effect ..).mono rfl).go (State.settled_effect ..) rfl : Effect 0x3000250000 _ _).same .chSlots rfl
  rw [switched, ← ended]
  exact State.dropReady_missing p (by rw [ended]; exact none_)

/-! ## Switches leave the slice's slots -/

theorem State.protEndCycle_chains (s : State) (p : Nat) :
    tickChains ((s.protEndCycle p).prots.get p) = tickChains (s.prots.get p) := by
  have same {u : State} (h : u.prots = s.prots) (n : Nat) : tickChains ((u.updProt p fun x =>
      { x with consecOvr := n, evaluating := false }).prots.get p) = tickChains (s.prots.get p) := by
    rw [State.updProt_prots, Tbl.get_upd_same, h]
    rfl
  have told (c : Prop) [Decidable c] (t : State) : (if c then t.alarm .protDegraded p else t).prots = t.prots := by
    split
    · exact State.alarm_prots ..
    · rfl
  unfold State.protEndCycle
  dsimp only
  split
  · rfl
  · rw [told]
    refine same (Effect.same (m := 0x40000803C0) ?_ .prots rfl) _
    exact ((Effect.refl _ s).each fun t h e => e.go (t.loseSeal_effect _ h _) rfl).each
      fun t h e => e.go (t.protOverrun_effect _ h _) rfl

theorem State.consumerSwitch_chains (s : State) (p n : Nat) :
    tickChains ((s.consumerSwitch p n).prots.get p) = tickChains (s.prots.get p) := by
  have settled (u : State) (h : u.prots = s.prots) : tickChains ((u.updProt p fun y =>
      { y with chains := tickChains y, switch := [] }).prots.get p) = tickChains (s.prots.get p) := by
    rw [State.updProt_prots, Tbl.get_upd_same, h]
    simp [tickChains]
  unfold State.consumerSwitch
  refine settled _ (Effect.same (m := 0x3000010000) ?_ .prots rfl)
  exact (Effect.refl _ s).each fun t w e => (((e.go (State.updChain_effect ..) rfl).go (State.updChain_effect ..) rfl).go
    (State.mirror_effect ..) rfl).go (State.complete_effect ..) rfl

theorem State.tickSwitched_slots (s : State) (p : Nat) : (s.tickSwitched p).protSlots p = s.protSlots p := by
  have pkg : (s.tickSwitched p).pkg = s.pkg := congrArg Svc.pkg ((s.tickSwitched_effect p).same .svc rfl)
  have last : (s.tickSwitched p).prots = (((s.protEndCycle p).dropReady p).consumerSwitch p
      ((s.prots.get p).cycle + 1)).prots := (State.settled_effect ..).same .prots rfl
  have dropped : ((s.protEndCycle p).dropReady p).prots = (s.protEndCycle p).prots :=
    (State.dropReady_effect ..).same .prots rfl
  unfold State.protSlots
  rw [pkg, last, State.consumerSwitch_chains, dropped, State.protEndCycle_chains]

/-! ## The input buffers (R154) -/

/-- The facet's buffer of cycle `n` starts with the cycle number. -/
def State.BufferOf (s : State) (l n h : Nat) : Prop :=
  ∃ w, (if n % 2 = 0 then (s.progs.get (fKey l h)).inWin0 else (s.progs.get (fKey l h)).inWin1) = leBytes 8 n ++ w

theorem State.filled_buffer (s : State) (l n missing : Nat) (recs : List SlotRec) (h : Nat) :
    (s.filled l n missing recs h).BufferOf l n h := by
  unfold State.BufferOf State.filled
  dsimp only
  rw [State.updProg_progs, Tbl.get_upd_same]
  unfold State.protBuffer
  simp only [List.append_assoc]
  split <;> exact ⟨_, rfl⟩

theorem State.filled_other {s : State} {l n h : Nat} (done : s.BufferOf l n h) (missing : Nat) (recs : List SlotRec) (j : Nat) :
    (s.filled l n missing recs j).BufferOf l n h := by
  by_cases e : j = h
  · subst e
    exact s.filled_buffer ..
  · unfold State.BufferOf State.filled
    rw [State.updProg_progs, Tbl.get_upd_other _ _ fun c => e (fKey_inj.mp c)]
    exact done

theorem State.SameWins.buffer {s t : State} (same : s.SameWins t) {l n h : Nat} (done : s.BufferOf l n h) :
    t.BufferOf l n h := by
  unfold State.BufferOf
  rw [same.win0, same.win1]
  exact done

theorem State.evaluates_buffer (s : State) (c : ProtCfg) (n missing : Nat) (recs : List SlotRec) {h : Nat}
    (mem : h ∈ c.facets) : (s.evaluates c n missing recs).BufferOf c.lens n h := by
  have filled := State.each_makes (s := s) (f := fun s h => s.filled c.lens n missing recs h) (x := h)
    (P := fun t => t.BufferOf c.lens n h) (Q := fun _ => True) (fun t _ => t.filled_buffer ..)
    (fun t j d => State.filled_other d missing recs j) (fun _ _ _ => trivial) mem trivial
  have starts : State.SameWins (s.each c.facets fun s h => s.filled c.lens n missing recs h)
      (s.evaluates c n missing recs) :=
    State.each_rel .refl (fun _ _ _ h k => k.after h) (fun t h => t.protStart_sameWins c.lens h n) _ _
  exact starts.buffer filled

/-! ## The tick (R152 to R154) -/

/-- The cycle after input `k` has begun in `t`. -/
def State.Begun (s : State) (p : Nat) (k : Nat × Nat) (t : State) : Prop :=
  let c := s.pkg.prots.get p
  let n := (s.prots.get p).cycle + 1
  (t.prots.get p).cycle = n ∧ (t.prots.get p).last = some k ∧ (t.prots.get p).evaluating = true ∧
  (t.prots.get p).evalStart = t.now ∧
  (∀ h, h ∈ c.facets → ∃ w, (if n % 2 = 0 then (t.progs.get (fKey c.lens h)).inWin0
    else (t.progs.get (fKey c.lens h)).inWin1) = leBytes 8 n ++ w) ∧
  (∀ i, i ∈ s.protSlots p → (s.chSlots.get (slotKey c.lens i)).ready = none →
    let y := s.chSlots.get (slotKey c.lens i)
    let z := t.chSlots.get (slotKey c.lens i)
    z.out.value = y.out.value ∧ z.out.quality = 0x80000001 ∧ z.out.smpCnt = k.1)

/-- The parts that the tick touches. -/
def State.tickParts (s : State) : List Part :=
  [.facets, .progs, .lenses, .fencedFlash, .chains, .chSlots, .fns, .pcOvr, .pcDeadline, .prots, .hif, .mlk, .recs] ++
    (if s.glb.halting then [.freeIdx, .lanes, .tos, .gps, .arms, .sms, .beams, .pwms, .swc, .obs, .outputs] else [])

section
variable {s : State} {p : Nat} (stays : (s.lenses.get (s.pkg.prots.get p).lens).relocTo = none)
include stays

theorem State.protTick_evaluates (k : Nat × Nat) : ∃ missing recs,
    s.protTick p k = (s.tickAligned p k).evaluates (s.pkg.prots.get p) ((s.prots.get p).cycle + 1) missing recs :=
  ⟨_, _, State.protTick_eq (((s.tickAligned_sameReloc p k).same _).trans stays)⟩

theorem State.protTick_effect_open (k : Nat × Nat) (running : s.glb.halting = false) :
    Effect 0x70003F03C0 s (s.protTick p k) := by
  obtain ⟨missing, recs, e⟩ := State.protTick_evaluates stays k
  have aligned := s.tickAligned_effect p k
  rw [e]
  exact aligned.go (State.evaluates_effect_open _ _ _ _ (by rw [aligned.same .glb rfl]; exact running)) rfl

theorem State.protTick_changes (k : Nat × Nat) : s.ChangesOnly s.tickParts (s.protTick p k) := by
  unfold State.tickParts
  cases running : s.glb.halting with
  | true => exact (s.protTick_effect p k).frame rfl
  | false => exact (State.protTick_effect_open stays k running).frame rfl

theorem State.protTick_slot (k : Nat × Nat) {i : Nat} (mem : i ∈ s.protSlots p)
    (none_ : (s.chSlots.get (slotKey (s.pkg.prots.get p).lens i)).ready = none) :
    let y := s.chSlots.get (slotKey (s.pkg.prots.get p).lens i)
    let z := (s.protTick p k).chSlots.get (slotKey (s.pkg.prots.get p).lens i)
    z.out.value = y.out.value ∧ z.out.quality = 0x80000001 ∧ z.out.smpCnt = k.1 := by
  obtain ⟨missing, recs, e⟩ := State.protTick_evaluates stays k
  obtain ⟨none_, out⟩ := State.tickSwitched_missing (p := p) none_
  have after : (s.protTick p k).chSlots = ((s.tickSwitched p).slotsTicked p (s.pkg.prots.get p).lens k).chSlots := by
    rw [e]
    exact ((State.evaluates_effect ..).same .chSlots rfl).trans ((State.cycleNoted_effect ..).same .chSlots rfl)
  have slot := State.slotsTicked_missing k (by rw [s.tickSwitched_slots]; exact mem) none_
  dsimp only
  rw [after, slot, ← out]
  unfold State.recordAt tickRecord
  rw [if_neg (by simp [hasOutput, none_]), none_]
  exact ⟨rfl, rfl, rfl⟩

theorem State.protTick_begun (k : Nat × Nat) : s.Begun p k (s.protTick p k) := by
  obtain ⟨missing, recs, e⟩ := State.protTick_evaluates stays k
  have evaluates := (s.tickAligned p k).evaluates_effect (s.pkg.prots.get p) ((s.prots.get p).cycle + 1) missing recs
  have cycle := s.tickAligned_prot p k
  rw [← evaluates.same .now rfl, ← evaluates.same .prots rfl, ← e] at cycle
  refine ⟨cycle.cycle, cycle.last, cycle.evaluating, cycle.evalStart, fun h mem => ?_, fun i => State.protTick_slot stays k⟩
  rw [e]
  exact State.evaluates_buffer _ _ _ _ _ mem

end

theorem protCycle_tick {s : State} {p : Fin 64} (runs : s.protRuns p = true)
    (stays : (s.lenses.get (s.pkg.prots.get p).lens).relocTo = none) {i : Nat} {k : Nat × Nat} {rest : List (Nat × Nat × Nat)}
    (ready : s.protReady p = (i, k) :: rest) (every : (s.protReady p).length = (s.protSlots p).length)
    (one : (s.protReady p).all (fun z => z.2.1 = k.1) = true) :
    s.Gives (.protCycleTick p) s.tickParts fun t => t.now = s.now ∧ s.Begun p k t := by
  have x : exec (.protCycleTick p) s = .next (s.protTick p k) := by
    show execProtCycleTick p s = _
    unfold execProtCycleTick
    have cond : s.protRuns p ∧ (s.protReady p).length = (s.protSlots p).length ∧
        (s.protReady p).all fun x => x.2.1 = k.1 := ⟨runs, every, one⟩
    rw [ready] at cond ⊢
    exact congrArg Host.Outcome.next (if_pos cond)
  exact ⟨_, x, State.protTick_changes stays k, (s.protTick_effect p k).same .now rfl, State.protTick_begun stays k⟩

theorem State.upToTai_reached {s : State} {t : Nat} (reached : s.reaches t = true) (small : t < 2 ^ 64) :
    (s.upToTai t).tai = max s.tai t := by
  cases stopped : s.col.stopped with
  | false => exact State.upToTai_tai stopped small
  | true =>
    have passed : t ≤ s.tai := by simpa [State.reaches, stopped] using reached
    unfold State.upToTai
    rw [if_pos (.inl passed)]
    omega

theorem State.upToTai_cases (s : State) (t : Nat) : ∃ n c, s.upToTai t = { s with now := n, col := c } := by
  unfold State.upToTai
  split <;> exact ⟨_, _, rfl⟩

theorem State.Begun.of_upToTai {s t : State} {d p : Nat} {k : Nat × Nat} (h : (s.upToTai d).Begun p k t) : s.Begun p k t := by
  obtain ⟨n, c, e⟩ := s.upToTai_cases d
  rw [e] at h
  exact h

theorem protDeadline_tick {s : State} {p : Fin 64} (runs : s.protRuns p = true)
    (stays : (s.lenses.get (s.pkg.prots.get p).lens).relocTo = none)
    (late : (s.protReady p).length < (s.protSlots p).length) :
    let k := s.protCand p
    let due := k.2 / 65536 + (s.pkg.prots.get p).svLatUs * 1000
    due < 2 ^ 64 → s.reaches due = true → s.Gives (.protDeadline p) (.now :: .col :: s.tickParts) fun t =>
      t.tai = max s.tai due ∧ s.Begun p k t := by
  intro k due small reached
  let u := s.upToTai due
  have x : exec (.protDeadline p) s = .next (u.protTick p k) :=
    congrArg Host.Outcome.next (if_pos ⟨runs, by simp [Nat.ne_of_lt late], reached⟩)
  have time := s.upToTai_effect due
  have pkg : u.pkg = s.pkg := congrArg Svc.pkg (time.same .svc rfl)
  have stays : (u.lenses.get (u.pkg.prots.get p).lens).relocTo = none := by
    rw [pkg, time.same .lenses rfl]
    exact stays
  have tick := u.protTick_effect p k
  refine ⟨_, x, ?_, ?_, (State.protTick_begun stays k).of_upToTai⟩
  · unfold State.tickParts
    cases running : s.glb.halting with
    | true => exact ((time.mono rfl).go tick rfl : Effect 0x4F6D8FF07C3 s _).frame rfl
    | false =>
      have open_ := State.protTick_effect_open stays k (by rw [time.same .glb rfl]; exact running)
      exact ((time.mono rfl).go open_ rfl : Effect 0x74003F03C1 s _).frame rfl
  · have tai : (u.protTick p k).tai = u.tai := by
      unfold State.tai
      rw [tick.same .col rfl]
    rw [tai]
    exact State.upToTai_reached reached small

end Sys2Proof.Machine
end

section
/-! PROOF. (O28) GOOSE frames (R160 to R163, R246). -/

namespace Sys2Proof.Machine

/-! ## Admission leaves the samplers -/

/-- The same samplers of mirrored frames. -/
structure State.SameGlint (s t : State) : Prop where
  same : t.swc.glint = s.swc.glint

namespace State.SameGlint

theorem refl (s : State) : s.SameGlint s := ⟨rfl⟩

theorem after {s t u : State} (k : t.SameGlint u) (h : s.SameGlint t) : s.SameGlint u := ⟨k.same.trans h.same⟩

theorem each {α : Type} {f : State → α → State} (h : ∀ t x, SameGlint t (f t x)) (s : State) (xs : List α) :
    s.SameGlint (s.each xs f) := State.each_rel refl (fun _ _ _ h k => k.after h) h s xs

end State.SameGlint

theorem State.qdrop_sameGlint (s : State) (p c : Nat) : s.SameGlint (s.qdrop p c) := ⟨rfl⟩

theorem State.pushes_sameGlint (s : State) (p c : Nat) (es : List QEntry) : s.SameGlint (s.each es fun s x => s.push p c x) :=
  .each (fun t x => (⟨rfl⟩ : t.SameGlint (t.push p c x))) s es

theorem State.admitBest_sameGlint (c : Nat) (fr : EthFrame) (e : QEntry) (ps : List Nat) (s : State) (n : Nat) :
    s.SameGlint (s.admitBest c fr e ps n).1 := by
  induction ps generalizing s n with
  | nil => exact .refl s
  | cons p ps ih =>
    unfold State.admitBest
    dsimp only
    split
    · exact (ih _ _).after (s.pushes_sameGlint ..)
    · split
      · exact (ih _ _).after (s.pushes_sameGlint ..)
      · exact (ih _ _).after (s.qdrop_sameGlint ..)

theorem State.lossless_sameGlint (s : State) (p c : Nat) (e : QEntry) (ps : List Nat) (f : Fate) :
    s.SameGlint (s.lossless p c e ps f).1 := by
  unfold State.lossless
  split
  · exact .refl s
  · split
    · exact .each (fun t k => (⟨rfl⟩ : t.SameGlint (t.push k c e))) s ps
    · split <;> exact ⟨rfl⟩

theorem State.admitCopies_sameGlint (s : State) (p c : Nat) (fr : EthFrame) (command : Bool) (ps : List Nat) (f : Fate) :
    s.SameGlint (s.admitCopies p c fr command ps f).1 := by
  have drops (xs : List Nat) : s.SameGlint (s.each xs fun s k => s.qdrop k c) := .each (fun t k => t.qdrop_sameGlint k c) s xs
  have swept (t : State) : t.SameGlint t.sweep := ⟨rfl⟩
  have stored (t : State) (x : Stored) : t.SameGlint (t.store x).1 := ⟨rfl⟩
  unfold State.admitCopies
  dsimp only
  refine (swept _).after ?_
  split
  · exact (State.admitBest_sameGlint ..).after ((stored _ _).after (drops _))
  · exact (State.lossless_sameGlint ..).after ((State.admitBest_sameGlint ..).after ((stored _ _).after (drops _)))

/-! ## Publishers (R160, R161) -/

/-- The parts that a sampler of frames received at lens port `8 + l` adds (R246). -/
def State.sampledParts (s : State) (l : Nat) : List Part :=
  if (s.swc.glint.get (8 + l)).dir = 1 ∧ (s.swc.glint.get (8 + l)).n ≠ 0 then [.freeIdx, .hif, .recs, .outputs] else []

theorem State.glintSee_idle {s : State} {p : Nat} (h : ¬ ((s.swc.glint.get p).dir = 1 ∧ (s.swc.glint.get p).n ≠ 0))
    (fr : EthFrame) (f : Fate) : s.glintSee p 0 fr f = s :=
  if_pos (by omega)

theorem State.sendBuilt_unsampled {s : State} {l : Nat}
    (h : ¬ ((s.swc.glint.get (8 + l)).dir = 1 ∧ (s.swc.glint.get (8 + l)).n ≠ 0)) (c : Nat) (ports : BitVec 24)
    (command : Bool) (fr : EthFrame) : Effect 0x200000000 s (s.sendBuilt l c ports command fr) := by
  have same := (s.admitCopies_sameGlint (8 + l) c fr command ((List.range portCount).filter fun k => ports.getLsbD k)
    { cls := c }).same
  unfold State.sendBuilt
  dsimp only
  rw [State.glintSee_idle (by rw [same]; exact h)]
  exact s.admitCopies_effect ..

/-- A command publisher's record, kept at the partner too (R161). -/
def State.gpRecorded (s : State) (g st sq : Nat) (d : List GooseVal) : State :=
  ((s.mirror (.publisher g st sq (dataDigest d))).updGp g fun p =>
    { p with record := some (st, sq, dataDigest d) }).updMlk fun m => { m with pubs := putRow m.pubs g (st, sq, dataDigest d) }

/-- A publisher's state for its next frame. -/
def State.gpStamped (s : State) (g st sq iv : Nat) (d : List GooseVal) : State :=
  let s := if (s.pkg.gps.get g).command then s.gpRecorded g st sq d else s
  s.updGp g fun p => { p with stNum := st, sqNum := sq, interval := iv, nextSend := some (s.now + iv), data := d }

/-- The frame of a publisher. -/
def State.gpFrame (s : State) (g st sq iv : Nat) (d : List GooseVal) (tag : Option (Nat × Nat)) : EthFrame :=
  let c := s.pkg.gps.get g
  let sim := s.pkg.simSlices.contains c.slice
  { len := c.len, dst := c.dst, ethertype := 0x88B8, vlan := c.vlan, pcp := c.pcp
    app := some (.goose { pub := g, stNum := st, sqNum := sq, talMs := talMs iv, test := sim, simulated := sim,
                          tag := tag, members := d }) }

theorem State.gpRecorded_effect (s : State) (g st sq : Nat) (d : List GooseVal) :
    Effect 0x2000800000 s (s.gpRecorded g st sq d) :=
  (((s.mirror_effect _).mono rfl).go (State.updGp_effect ..) rfl).go (State.updMlk_effect ..) rfl

theorem State.gpStamped_effect (s : State) (g st sq iv : Nat) (d : List GooseVal) :
    Effect 0x2000800000 s (s.gpStamped g st sq iv d) :=
  (Effect.ite (fun _ => s.gpRecorded_effect ..) fun _ => .refl ..).go (State.updGp_effect ..) rfl

/-- What holds of a publisher whose next frame has left. -/
structure GpSt.Sent (x y : GpSt) (st sq iv next : Nat) (d : List GooseVal) : Prop where
  stNum : y.stNum = st
  sqNum : y.sqNum = sq
  interval : y.interval = iv
  nextSend : y.nextSend = some next
  data : y.data = d
  keyCur : y.keyCur = x.keyCur

theorem State.gpRecorded_gp (s : State) (g st sq : Nat) (d : List GooseVal) :
    (s.gpRecorded g st sq d).gps.get g = { s.gps.get g with record := some (st, sq, dataDigest d) } := by
  have same (it : Item) : (s.mirror it).gps = s.gps := (s.mirror_effect it).same .gps rfl
  unfold State.gpRecorded
  rw [State.updMlk_gps, State.updGp_gps, Tbl.get_upd_same, same]

theorem State.gpStamped_gp (s : State) (g st sq iv : Nat) (d : List GooseVal) :
    (s.gps.get g).Sent ((s.gpStamped g st sq iv d).gps.get g) st sq iv (s.now + iv) d ∧
      ((s.pkg.gps.get g).command = true →
        ((s.gpStamped g st sq iv d).gps.get g).record = some (st, sq, dataDigest d)) := by
  have now : (s.gpRecorded g st sq d).now = s.now := (s.gpRecorded_effect ..).same .now rfl
  unfold State.gpStamped
  dsimp only
  rw [State.updGp_gps, Tbl.get_upd_same]
  cases command : (s.pkg.gps.get g).command with
  | true =>
    rw [if_pos rfl, s.gpRecorded_gp, now]
    exact ⟨⟨rfl, rfl, rfl, rfl, rfl, rfl⟩, fun _ => rfl⟩
  | false =>
    rw [if_neg nofun]
    exact ⟨⟨rfl, rfl, rfl, rfl, rfl, rfl⟩, nofun⟩

theorem State.gpSend_eq {s : State} {g : Nat} (en : (s.pkg.gps.get g).en = true)
    (granted : (s.pkg.gps.get g).command = false ∨ s.mlk.grant = true) (st sq iv : Nat) (d : List GooseVal) :
    ∃ (u : State) (tag : Option (Nat × Nat)), Effect 0x8000000000 (s.gpStamped g st sq iv d) u ∧
      ((s.gps.get g).keyCur = 0 → tag = none) ∧
      s.gpSend g st sq iv d = u.sendBuilt (s.pkg.gps.get g).lens (if (s.pkg.gps.get g).lanes = 0 then 3 else 7)
        (s.pkg.gps.get g).ports (s.pkg.gps.get g).command (s.gpFrame g st sq iv d tag) := by
  have sends : ¬ (!(s.pkg.gps.get g).en || ((s.pkg.gps.get g).command && !s.mlk.grant)) = true := by
    rcases granted with h | h <;> simp [en, h]
  let v := s.gpStamped g st sq iv d
  let tagged := v.pubTag (v.gps.get g).keyCur (s.pkg.gps.get g).alg (s.pkg.gps.get g).slice
  have obs : Effect 0x8000000000 v tagged.2 := v.pubTag_effect ..
  have pkg : tagged.2.pkg = s.pkg :=
    congrArg Svc.pkg ((obs.same .svc rfl).trans ((s.gpStamped_effect ..).same .svc rfl))
  refine ⟨tagged.2, tagged.1, obs, fun none_ => ?_, ?_⟩
  · have key : (v.gps.get g).keyCur = 0 := (s.gpStamped_gp g st sq iv d).1.keyCur.trans none_
    exact congrArg Prod.fst (if_pos key)
  · have e : s.gpSend g st sq iv d = tagged.2.sendBuilt (s.pkg.gps.get g).lens (if (s.pkg.gps.get g).lanes = 0 then 3 else 7)
        (s.pkg.gps.get g).ports (s.pkg.gps.get g).command
        { len := (s.pkg.gps.get g).len, dst := (s.pkg.gps.get g).dst, ethertype := 0x88B8, vlan := (s.pkg.gps.get g).vlan
          pcp := (s.pkg.gps.get g).pcp
          app := some (.goose { pub := g, stNum := st, sqNum := sq, talMs := talMs iv
                                test := tagged.2.pkg.simSlices.contains (s.pkg.gps.get g).slice
                                simulated := tagged.2.pkg.simSlices.contains (s.pkg.gps.get g).slice
                                tag := tagged.1, members := d }) } := by
      unfold State.gpSend
      dsimp only
      rw [if_neg sends]
      rfl
    rw [e, pkg]
    rfl

theorem State.gpSend_silent {s : State} {g : Nat}
    (h : (s.pkg.gps.get g).en = false ∨ ((s.pkg.gps.get g).command = true ∧ s.mlk.grant = false)) (st sq iv : Nat)
    (d : List GooseVal) : s.gpSend g st sq iv d = s :=
  if_pos (by rcases h with h | ⟨h, k⟩ <;> simp [*])

/-- The lifetime that a frame tells is twice its interval, in milliseconds rounded up (R160). -/
theorem talMs_bounds (iv : Nat) : 2 * iv ≤ talMs iv * 1000000 ∧ talMs iv * 1000000 < 2 * iv + 1000000 := by
  unfold talMs ceilDiv
  omega

/-- What a publisher's frame touches, with what came before it. -/
theorem State.sendBuilt_frame {s u : State} (before : Effect 0xA400800001 s u) (same : u.swc = s.swc) (l c : Nat)
    (ports : BitVec 24) (command : Bool) (fr : EthFrame) :
    s.ChangesOnly ([.now, .col, .gps, .mlk, .obs, .swc] ++ s.sampledParts l) (u.sendBuilt l c ports command fr) := by
  unfold State.sampledParts
  split
  · exact ((before.mono rfl).go (u.sendBuilt_effect ..) rfl : Effect 0x4F600800003 s _).frame rfl
  · next idle =>
    rw [← same] at idle
    exact ((before.mono rfl).go (State.sendBuilt_unsampled idle ..) rfl : Effect 0xA600800001 s _).frame rfl

theorem exec_gooseRetransmit {s : State} {g : Fin 64} {n : Nat} (next : (s.gps.get g).nextSend = some n) :
    exec (.gooseRetransmit g) s = .next ((s.upTo n).gpSend g (s.gps.get g).stNum
      (if 0xFFFFFFFF ≤ (s.gps.get g).sqNum then 1 else (s.gps.get g).sqNum + 1)
      (min (2 * (s.gps.get g).interval) ((s.pkg.gps.get g).t0 * 10000000)) (s.gps.get g).data) := by
  have t0 : (s.upTo n).gpT0 g = (s.pkg.gps.get g).t0 * 10000000 := by
    unfold State.gpT0
    rw [State.pkg_upTo]
  show execGooseRetransmit g s = _
  unfold execGooseRetransmit
  rw [← t0]
  simp only [next]
  rfl

end Sys2Proof.Machine
end

section
/-! PROOF. (O28) Publishers and subscriptions of GOOSE (R160 to R163), and the obligation itself. -/

namespace Sys2Proof.Machine

/-! ## Retransmission (R160, R161, R246) -/

section
variable {s : State} {g : Fin 64} {at_ : Nat}

theorem gooseRetransmit_sends (next : (s.gps.get g).nextSend = some at_) (en : (s.pkg.gps.get g).en = true)
    (granted : (s.pkg.gps.get g).command = false ∨ s.mlk.grant = true) :
    let c := s.pkg.gps.get g
    let x := s.gps.get g
    let iv := min (2 * x.interval) (c.t0 * 10000000)
    let sq := if 0xFFFFFFFF ≤ x.sqNum then 1 else x.sqNum + 1
    let sim := s.pkg.simSlices.contains c.slice
    s.Gives (.gooseRetransmit g) ([.now, .col, .gps, .mlk, .obs, .swc] ++ s.sampledParts c.lens) fun t =>
      let y := t.gps.get g
      t.now = max s.now at_ ∧ y.stNum = x.stNum ∧ y.sqNum = sq ∧ y.interval = iv ∧ y.nextSend = some (t.now + iv) ∧
      y.data = x.data ∧ (c.command = true → y.record = some (x.stNum, sq, dataDigest x.data)) ∧
      ∃ (u : State) (tal : Nat) (tag : Option (Nat × Nat)),
        u.swc = s.swc ∧ 2 * iv ≤ tal * 1000000 ∧ tal * 1000000 < 2 * iv + 1000000 ∧ (x.keyCur = 0 → tag = none) ∧
        t = u.sendBuilt c.lens (if c.lanes = 0 then 3 else 7) c.ports c.command
          { len := c.len, dst := c.dst, ethertype := 0x88B8, vlan := c.vlan, pcp := c.pcp
            app := some (.goose { pub := g, stNum := x.stNum, sqNum := sq, talMs := tal, test := sim,
                                  simulated := sim, tag := tag, members := x.data }) } := by
  intro c x iv sq sim
  let a := s.upTo at_
  have pkg : a.pkg = s.pkg := s.pkg_upTo at_
  have mine : a.gps.get g = x := by rw [State.upTo_gps]
  obtain ⟨u, tag, obs, untagged, sent⟩ := State.gpSend_eq (s := a) (g := g) (by rw [pkg]; exact en)
    (by rw [pkg, State.upTo_mlk]; exact granted) x.stNum sq iv x.data
  obtain ⟨stamped, recorded⟩ := a.gpStamped_gp g x.stNum sq iv x.data
  rw [State.gpFrame, pkg] at sent
  rw [mine] at stamped untagged
  rw [pkg] at recorded
  have before : Effect 0xA400800001 s u :=
    (((s.upTo_effect at_).mono rfl).go (State.gpStamped_effect ..) rfl).go obs rfl
  have swc : u.swc = s.swc :=
    (obs.same .swc rfl).trans (((State.gpStamped_effect ..).same .swc rfl).trans (State.upTo_swc ..))
  have changes := State.sendBuilt_frame before swc c.lens (if c.lanes = 0 then 3 else 7) c.ports c.command
    (a.gpFrame g x.stNum sq iv x.data tag)
  have after := a.gpSend_effect g x.stNum sq iv x.data
  have now : (a.gpSend g x.stNum sq iv x.data).now = a.now := after.same .now rfl
  have gps : (a.gpSend g x.stNum sq iv x.data).gps = (a.gpStamped g x.stNum sq iv x.data).gps := by
    rw [sent, (State.sendBuilt_effect ..).same .gps rfl, obs.same .gps rfl]
  rw [State.gpFrame, pkg, ← sent] at changes
  refine ⟨_, exec_gooseRetransmit next, changes, ?_⟩
  dsimp only
  rw [gps, now]
  exact ⟨s.upTo_now at_, stamped.stNum, stamped.sqNum, stamped.interval, stamped.nextSend, stamped.data, recorded, u, talMs iv,
    tag, swc, (talMs_bounds iv).1, (talMs_bounds iv).2, untagged, sent⟩

theorem gooseRetransmit_silent (next : (s.gps.get g).nextSend = some at_)
    (silent : (s.pkg.gps.get g).en = false ∨ ((s.pkg.gps.get g).command = true ∧ s.mlk.grant = false)) :
    s.Gives (.gooseRetransmit g) [.now, .col] fun t => t.now = max s.now at_ := by
  have x := exec_gooseRetransmit next
  rw [State.gpSend_silent (s := s.upTo at_) (by rw [State.pkg_upTo, State.upTo_mlk]; exact silent)] at x
  exact (s.upTo_effect at_).gives rfl x (s.upTo_now at_)

end

/-! ## Subscriptions (R160, R163) -/

section
variable {s : State} {k : Fin 256} {fr : GooseFrame}

/-- A frame with the simulation flag outside simulation mode, or with numbers already seen, is ignored. -/
def State.Ignored (s : State) (k : Nat) (fr : GooseFrame) : Prop :=
  (fr.simulated = true ∧ s.pkg.simSlices.contains (s.pkg.gss.get k).slice = false) ∨
    ((s.gss.get k).expiry ≠ none ∧ fr.stNum = (s.gss.get k).stNum ∧ fr.sqNum = (s.gss.get k).sqNum)

/-- A frame becomes the subscription's record. -/
def State.heardGoose (s : State) (k : Nat) (fr : GooseFrame) : State :=
  s.updGs k fun x => { x with stNum := fr.stNum, sqNum := fr.sqNum, valid := true, members := fr.members,
                              expiry := some (s.now + fr.talMs * 1000000) }

theorem execGooseRx_eq (en : (s.pkg.gss.get k).en = true) : exec (.gooseRx k fr s.now) s = .next (
    let u := (s.gsAuth k fr).2
    let x := u.gss.get k
    if ¬ (s.gsAuth k fr).1 ∨ (fr.simulated ∧ ¬ u.pkg.simSlices.contains (s.pkg.gss.get k).slice) ∨
        (x.expiry.isSome ∧ fr.stNum = x.stNum ∧ fr.sqNum = x.sqNum) then u
    else u.updGs k fun x => { x with stNum := fr.stNum, sqNum := fr.sqNum, valid := true, members := fr.members,
                                     expiry := some (s.now + fr.talMs * 1000000) }) := by
  show execGooseRx k fr s.now s = _
  unfold execGooseRx
  rw [State.upTo_self]
  dsimp only
  rw [if_neg (not_not_intro en)]

section
variable (en : (s.pkg.gss.get k).en = true) (cur : (s.gss.get k).keyCur = 0) (nxt : (s.gss.get k).keyNext = 0)
include en cur nxt

theorem gooseRx_untagged (tagged : (s.pkg.gss.get k).authReq = true) : s.Gives (.gooseRx k fr s.now) [.gss] fun t =>
    t.gss = s.gss.set k { s.gss.get k with authfail := min ((s.gss.get k).authfail + 1) 0xFFFFFFFF, nextPass := 0 } := by
  have auth : s.gsAuth k fr =
      (false, s.updGs k fun x => { x with authfail := sat32 x.authfail 1, nextPass := 0 }) := by
    unfold State.gsAuth
    dsimp only
    rw [if_pos ⟨cur, nxt⟩, tagged]
    rfl
  have x := execGooseRx_eq (fr := fr) en
  rw [auth] at x
  exact (s.updGs_effect k _).gives rfl (x.trans (congrArg Host.Outcome.next (if_pos (.inl nofun)))) rfl

theorem execGooseRx_open (free : (s.pkg.gss.get k).authReq = false) [Decidable (s.Ignored k fr)] :
    exec (.gooseRx k fr s.now) s = .next (if s.Ignored k fr then s else s.heardGoose k fr) := by
  have auth : s.gsAuth k fr = (true, s) := by
    unfold State.gsAuth
    dsimp only
    rw [if_pos ⟨cur, nxt⟩, free]
    rfl
  rw [execGooseRx_eq en, auth]
  dsimp only
  congr 1
  refine if_congr ?_ rfl rfl
  simp [State.Ignored, Option.isSome_iff_ne_none]

theorem gooseRx_heard (free : (s.pkg.gss.get k).authReq = false) (new : ¬ s.Ignored k fr) :
    s.Gives (.gooseRx k fr s.now) [.gss] fun t => t.gss = s.gss.set k
      { s.gss.get k with stNum := fr.stNum, sqNum := fr.sqNum, valid := true, members := fr.members,
                         expiry := some (s.now + fr.talMs * 1000000) } := by
  classical
  have x := execGooseRx_open (fr := fr) en cur nxt free
  rw [if_neg new] at x
  exact (s.updGs_effect k _).gives rfl x rfl

theorem gooseRx_ignored (free : (s.pkg.gss.get k).authReq = false) (old : s.Ignored k fr) :
    exec (.gooseRx k fr s.now) s = .next s := by
  classical
  have x := execGooseRx_open (fr := fr) en cur nxt free
  rwa [if_pos old] at x

end

theorem gooseTal_expires {at_ : Nat} (expiry : (s.gss.get k).expiry = some at_) (valid : (s.gss.get k).valid = true) :
    s.Gives (.gooseTalExpiry k) [.now, .col, .gss] fun t =>
      t.now = max s.now at_ ∧ t.gss = s.gss.set k { s.gss.get k with valid := false } := by
  have x : exec (.gooseTalExpiry k) s = .next ((s.upTo at_).updGs k fun x => { x with valid := false }) := by
    show execGooseTalExpiry k s = _
    unfold execGooseTalExpiry
    rw [expiry]
    dsimp only
    rw [if_pos valid]
  refine (Effect.of_ok (execGooseTalExpiry_effect k s) x).gives rfl x ⟨s.upTo_now at_, ?_⟩
  rw [State.updGs_gss, State.upTo_gss]
  rfl

end

/-- Settles O28: the tick's stages, and one rule for each thing that a publisher or a subscription does. -/
theorem protectionTicksAndGooseFrames : Obligations.ProtectionTicksAndGooseFrames := by
  unfold Obligations.ProtectionTicksAndGooseFrames
  refine ⟨fun p s => ?_, fun s => ⟨fun g at_ => ?_, fun k fr => ?_, fun k at_ => gooseTal_expires⟩⟩
  · intro c x ready n stops parts begun runs stays
    exact ⟨fun i k rest => protCycle_tick runs stays, protDeadline_tick runs stays⟩
  · intro c x iv sq sim glint sampled next
    exact ⟨gooseRetransmit_sends next, gooseRetransmit_silent next⟩
  · intro c x seen en cur nxt
    exact ⟨gooseRx_untagged en cur nxt, fun free =>
      ⟨fun inside new => gooseRx_heard en cur nxt free (not_or_intro inside new), gooseRx_ignored en cur nxt free⟩⟩

end Sys2Proof.Machine
end

section
/-! PROOF. Data memory stays in its canonical form (O4): what every command keeps, the end of LC_TRANSITION among them. -/

namespace Sys2Proof.Machine

theorem exec_follows (c : Instr) (s : State) : ∃ t, exec c s = .next t ∧ s.Follows t := by
  by_cases transition : c = .lcTransitionDone
  · subst transition
    exact execLcTransitionDone_follows s
  · obtain ⟨m, t, e, k⟩ := exec_effect c s transition
    exact ⟨t, e, k.follows⟩

theorem idleStep_follows (s : State) : s.Follows (s.after 40).ptpTick :=
  (s.after_effect 40).follows.trans (State.ptpTick_effect _).follows

/-- Settles O4: the queue is no data memory, and past it every command and the idle step follow the state they find. -/
theorem everyStepKeepsDataMemoryCanonical : Obligations.EveryStepKeepsDataMemoryCanonical := by
  unfold Obligations.EveryStepKeepsDataMemoryCanonical
  intro s t ok e
  unfold step at e
  split at e
  · cases e
    exact (idleStep_follows s).memory ok
  · next c r _ =>
    obtain ⟨u, run, kept⟩ := exec_follows c { s with pending := r }
    rw [run] at e
    cases e
    exact kept.memory ok

end Sys2Proof.Machine
end

section
/-! SUPPORT. One rule for each shared form of facet instruction (R82 to R95): what it leaves of its facet where its operands
are allowed, or the fault it raises. -/

namespace Sys2Proof.Machine

/-! ## An instruction of a facet that executes (R82) -/

section
variable {c : Instr} {s : State} {l f : Nat} {g : FacetSt → FRes} (run : s.running l f = true)
include run

theorem exec_facetOp {y : FacetSt} (e : exec c s = .next (s.facetOp l f g)) (ok : g (s.facets.get (fKey l f)) = .ok y) :
    exec c s = .next (s.facetNext l f y) := by
  rw [e, State.facetOp, if_pos run, ok]
  rfl

theorem exec_facetOp_fault {e : FFault} (h : exec c s = .next (s.facetOp l f g))
    (fault : g (s.facets.get (fKey l f)) = .error e) : exec c s = .next (s.programFault l f e) := by
  rw [h, State.facetOp, if_pos run, fault]

theorem exec_facetJump {y : FacetSt} (e : exec c s = .next (s.facetJump l f g))
    (ok : g (s.facets.get (fKey l f)) = .ok y) : exec c s = .next (s.updFacet l f fun _ => y) := by
  rw [e, State.facetJump, if_pos run, ok]

theorem State.facetSys_faults (e : FFault) (g : State → State) : s.facetSys l f (some e) g = s.programFault l f e := by
  rw [State.facetSys, if_pos run]

end

/-! ## Formats L and S (R84, R86, R87) -/

section
variable {w : BitVec 26} {x : FacetSt}

theorem bitRead_ok (h : bitCheck w = none) (g : Bool → Bool → Bool) :
    bitRead w g x = .ok { x with la := g x.la (readBit x (fArea w) (fIndex w) != fNeg w) } := by
  rw [bitRead, h]
  rfl

theorem bitWrite_ok {isRst negOk : Bool} (h : bitCheck w = none) (neg : (fNeg w && !negOk) = false)
    (area : writableBit w isRst = true) (g : FacetSt → Option Bool) :
    bitWrite w isRst negOk g x = .ok ((g x).elim x fun v => writeBit x (fArea w) (fIndex w) v) := by
  rw [bitWrite, h]
  simp only [neg, area]
  cases g x <;> rfl

theorem bitWrite_addrRange {isRst negOk : Bool} (h : bitCheck w = none) (neg : (fNeg w && !negOk) = false)
    (area : writableBit w isRst = false) (g : FacetSt → Option Bool) :
    bitWrite w isRst negOk g x = .error .addrRange := by
  rw [bitWrite, h]
  simp only [neg, area]
  rfl

/-- With the operand bits 0 an instruction without operands passes its check. -/
theorem sPlain_zero (g : FacetSt → FRes) : sPlain 0 g x = g x := rfl

theorem push_ok (room : x.stack.length < 16) (c : Comb) (neutral : Bool) :
    push c neutral x = .ok { x with stack := (x.la, c) :: x.stack, la := neutral } := if_neg (Nat.not_le.2 room)

theorem push_full (full : 16 ≤ x.stack.length) (c : Comb) (neutral : Bool) : push c neutral x = .error .nestFault :=
  if_pos full

/-- What a pop does with the saved LA and LA (R86). -/
def Comb.combine : Comb → Bool → Bool → Bool
  | .and, v, a => v && a
  | .or, v, a => v || a
  | .xor, v, a => v != a

theorem pop_ok {v : Bool} {c : Comb} {r : List (Bool × Comb)} (h : x.stack = (v, c) :: r) :
    pop x = .ok { x with stack := r, la := c.combine v x.la } := by
  unfold pop
  rw [h]
  cases c <;> rfl

theorem pop_empty (h : x.stack = []) : pop x = .error .nestFault := by
  unfold pop
  rw [h]

end

/-! ## Format K (R84, R88, R89) -/

section
variable {w : BitVec 26} {x : FacetSt} (zero : fld w 25 14 = 0)
include zero

theorem instCheck_ok {n : Nat} (h : fIndex w < n) : instCheck w n = none := by
  rw [instCheck, if_neg (not_not.2 zero), if_neg (Nat.not_le.2 h)]

theorem edge_ok (h : fIndex w < 512) (g : Bool → Bool → Bool) :
    edge w g x = .ok { x with la := g x.la (memBit x.dmem aEdge (fIndex w)),
                              dmem := memSetBit x.dmem aEdge (fIndex w) x.la } := by
  rw [edge, instCheck_ok zero h]

theorem timer_ok (h : fIndex w < 256) (k : TimerKind) :
    let t := timerStep k (facetUs x) x.la (readTimer x.dmem (fIndex w))
    timer k w x = .ok { x with la := t.q, dmem := writeTimer x.dmem (fIndex w) t } := by
  rw [timer, instCheck_ok zero h]

theorem counter_ok (h : fIndex w < 128) (down : Bool) :
    let r := countStep x.dmem (fIndex w) down x.la
    counter down w x = .ok { x with la := if down then r.2.2 else r.2.1, dmem := r.1 } := by
  rw [counter, instCheck_ok zero h]

theorem countSet_ok (h : fIndex w < 128) (g : Counter → Int) :
    countSet w g x = .ok (if x.la
      then { x with dmem := writeCount x.dmem (fIndex w) (g (readCounter x.dmem (fIndex w))) } else x) := by
  rw [countSet, instCheck_ok zero h]

theorem jump_ok (taken : FacetSt → Bool) : jump w taken x = .ok { x with
    pc := if taken x then x.pc + BitVec.ofInt 13 (signed 14 (fld w 13 0)) else x.pc + 1 } := if_neg (not_not.2 zero)

end

/-! ## Formats R, M and I (R82, R83, R93, R94) -/

section
variable {w : BitVec 26} {x : FacetSt}

theorem rOp_ok {bad : Bool} (h : bad = false) (g : FacetSt → FacetSt) : rOp bad g x = .ok (g x) := by
  rw [rOp, h]
  rfl

theorem iOp_ok {regOk : Bool} (reg : regOk = true) (zero : fld w 21 16 = 0) (g : FacetSt → FacetSt) :
    iOp w regOk g x = .ok (g x) := by
  simp [iOp, reg, zero]

section
variable {regOk : Bool} {n : Nat} (reg : regOk = true) (zero : fld w 17 16 = 0)
include reg zero

theorem mLoad_ok (h : badAccess (memAddr x w) n false = false) (put : Nat → FacetSt → FacetSt) :
    mLoad w regOk n put x = .ok (put (memNat x.dmem (memAddr x w) n) (postInc x w)) := by
  simp [mLoad, reg, zero, h]

theorem mLoad_addrRange (h : badAccess (memAddr x w) n false = true) (put : Nat → FacetSt → FacetSt) :
    mLoad w regOk n put x = .error .addrRange := by
  simp [mLoad, reg, zero, h]

theorem mStore_ok (h : badAccess (memAddr x w) n true = false) (val : FacetSt → Nat) :
    mStore w regOk n val x =
      .ok (postInc { x with dmem := memStore x.dmem (memAddr x w) (leBytes n (val x)) } w) := by
  simp [mStore, reg, zero, h]

theorem mStore_addrRange (h : badAccess (memAddr x w) n true = true) (val : FacetSt → Nat) :
    mStore w regOk n val x = .error .addrRange := by
  simp [mStore, reg, zero, h]

end

/-- The move of a pointer and a store do not meet. -/
theorem postInc_withMem (m : List Host.Cell) : postInc { x with dmem := m } w = { postInc x w with dmem := m } := by
  unfold postInc
  split <;> rfl

end

end Sys2Proof.Machine
end

section
/-! SUPPORT. Bits and little-endian numbers of data memory (R77): each reads back as written, and reads that a write does
not reach stay. -/

namespace Sys2Proof.Machine

variable {m : List Host.Cell}

/-! ## Bits -/

theorem getLsbD_setBit (b : Byte) (i : Nat) {j : Nat} (hj : j < 8) (v : Bool) :
    (if v then b ||| BitVec.ofNat 8 (2 ^ i) else b &&& ~~~BitVec.ofNat 8 (2 ^ i)).getLsbD j =
      if j = i then v else b.getLsbD j := by
  have mask : (BitVec.ofNat 8 (2 ^ i)).getLsbD j = decide (i = j) := by
    rw [BitVec.getLsbD_ofNat, Nat.testBit_two_pow]
    simp [hj]
  generalize BitVec.ofNat 8 (2 ^ i) = k at mask
  cases v
  · rw [if_neg Bool.false_ne_true, BitVec.getLsbD_and, BitVec.getLsbD_not, mask]
    by_cases h : i = j <;> simp [h, eq_comm (a := j), hj]
  · rw [if_pos rfl, BitVec.getLsbD_or, mask]
    by_cases h : i = j <;> simp [h, eq_comm (a := j)]

theorem memGet_memSetBit_other (w : Memory.wf m = true) {base n b : Nat} (v : Bool) (h : b ≠ base + n / 8) :
    memGet (memSetBit m base n v) b = memGet m b := by
  rw [memSetBit, memGet_memSet w, if_neg (Ne.symm h)]

theorem memBit_memSetBit (w : Memory.wf m = true) (base n k : Nat) (v : Bool) :
    memBit (memSetBit m base n v) base k = if k = n then v else memBit m base k := by
  unfold memBit
  by_cases byte : base + k / 8 = base + n / 8
  · have same : (k % 8 = n % 8) = (k = n) := propext (by omega)
    rw [memSetBit, memGet_memSet w, if_pos byte.symm, getLsbD_setBit _ _ (Nat.mod_lt _ (by decide)), byte]
    simp only [same]
  · rw [memGet_memSetBit_other w v byte, if_neg (fun h => byte (by rw [h]))]

theorem memBit_congr {a b : List Host.Cell} {base n : Nat} (h : memGet a (base + n / 8) = memGet b (base + n / 8)) :
    memBit a base n = memBit b base n := by rw [memBit, memBit, h]

/-! ## Numbers -/

theorem memBytes_congr {a b : List Host.Cell} {i n : Nat} (h : ∀ k, i ≤ k → k < i + n → memGet a k = memGet b k) :
    memBytes a i n = memBytes b i n := by
  induction n generalizing i with
  | zero => rfl
  | succ n ih =>
    rw [memBytes, memBytes, h i (Nat.le_refl _) (by omega), ih fun k lo hi => h k (by omega) (by omega)]

theorem memNat_congr {a b : List Host.Cell} {i n : Nat} (h : ∀ k, i ≤ k → k < i + n → memGet a k = memGet b k) :
    memNat a i n = memNat b i n := congrArg leNat (memBytes_congr h)

theorem memBytes_memPut_same (w : Memory.wf m = true) (a : Nat) (bs : List Byte) :
    memBytes (memPut m a bs) a bs.length = bs := by
  induction bs generalizing m a with
  | nil => rfl
  | cons b r ih =>
    have first : memGet (memPut (memSet m a b) (a + 1) r) a = b := by
      rw [memGet_memPut_other (memSet_wf w a b) _ _ _ (.inl (Nat.lt_succ_self a)), memGet_memSet w, if_pos rfl]
    rw [List.length_cons, memBytes, memPut, ih (memSet_wf w a b), first]

theorem leNat_leBytes (n v : Nat) : leNat (leBytes n v) = v % 256 ^ n := by
  induction n generalizing v with
  | zero => simp [leBytes, leNat, Nat.mod_one]
  | succ n ih =>
    rw [leBytes, leNat, ih, Nat.pow_succ', Nat.mod_mul]
    simp

theorem leNat_lt (bs : List Byte) : leNat bs < 256 ^ bs.length := by
  induction bs with
  | nil => simp [leNat]
  | cons b r ih =>
    rw [leNat, List.length_cons, Nat.pow_succ']
    have := b.isLt
    omega

theorem length_memBytes (a n : Nat) : (memBytes m a n).length = n := by
  induction n generalizing a with
  | zero => rfl
  | succ n ih => rw [memBytes, List.length_cons, ih]

theorem memNat_lt (a n : Nat) : memNat m a n < 256 ^ n := by
  have h := leNat_lt (memBytes m a n)
  rwa [length_memBytes] at h

theorem memNat_memPut_same (w : Memory.wf m = true) (a n v : Nat) :
    memNat (memPut m a (leBytes n v)) a n = v % 256 ^ n := by
  have bytes := memBytes_memPut_same w a (leBytes n v)
  rw [leBytes_length] at bytes
  rw [memNat, bytes, leNat_leBytes]

theorem memGet_memPutNat_other (w : Memory.wf m = true) {a n b : Nat} (v : Nat) (h : b < a ∨ a + n ≤ b) :
    memGet (memPutNat m a n v) b = memGet m b :=
  memGet_memPut_other w _ _ _ (by rwa [leBytes_length])

/-! ## Signed numbers -/

theorem signed_unsigned {v : Int} (lo : -0x80000000 ≤ v) (hi : v ≤ 0x7FFFFFFF) :
    signed 32 (unsigned 32 v % 256 ^ 4) = v := by
  unfold signed unsigned
  norm_num
  split <;> omega

theorem signed_bounds {v : Nat} (h : v < 256 ^ 4) : -0x80000000 ≤ signed 32 v ∧ signed 32 v ≤ 0x7FFFFFFF := by
  unfold signed
  norm_num at *
  split <;> omega

end Sys2Proof.Machine
end

section
/-! PROOF. Bit instructions (O6), and LA and the brackets (O7). -/

namespace Sys2Proof.Machine

/-! ## Bit instructions (R84, R86) -/

section
variable {s : State} {l : Fin 16} {f : Fin 64} {w : BitVec 26} (run : s.running l f = true) (ok : bitCheck w = none)
include run ok

theorem bitReads_combine :
    let x := s.facets.get (fKey l f)
    let v := readBit x (fArea w) (fIndex w) != fNeg w
    exec (.ld l f w) s = .next (s.facetNext l f { x with la := v }) ∧
    exec (.and_ l f w) s = .next (s.facetNext l f { x with la := x.la && v }) ∧
    exec (.or_ l f w) s = .next (s.facetNext l f { x with la := x.la || v }) ∧
    exec (.xor_ l f w) s = .next (s.facetNext l f { x with la := x.la != v }) :=
  ⟨exec_facetOp run rfl (bitRead_ok ok _), exec_facetOp run rfl (bitRead_ok ok _), exec_facetOp run rfl (bitRead_ok ok _),
    exec_facetOp run rfl (bitRead_ok ok _)⟩

theorem st_writes (area : writableBit w false = true) :
    let x := s.facets.get (fKey l f)
    exec (.st l f w) s = .next (s.facetNext l f (writeBit x (fArea w) (fIndex w) (x.la != fNeg w))) :=
  exec_facetOp run rfl (bitWrite_ok ok (by simp) area _)

theorem set_writes (area : writableBit w false = true) (neg : fNeg w = false) :
    let x := s.facets.get (fKey l f)
    exec (.set_ l f w) s = .next (s.facetNext l f (if x.la then writeBit x (fArea w) (fIndex w) true else x)) := by
  intro x
  refine exec_facetOp run rfl ((bitWrite_ok ok (by simp [neg]) area _).trans ?_)
  cases (s.facets.get (fKey l f)).la <;> simp [x]

theorem rst_writes (area : writableBit w true = true) (neg : fNeg w = false) :
    let x := s.facets.get (fKey l f)
    exec (.rst l f w) s = .next (s.facetNext l f (if x.la then writeBit x (fArea w) (fIndex w) false else x)) := by
  intro x
  refine exec_facetOp run rfl ((bitWrite_ok ok (by simp [neg]) area _).trans ?_)
  cases (s.facets.get (fKey l f)).la <;> simp [x]

theorem bitWrites_fault :
    (writableBit w false = false → exec (.st l f w) s = .next (s.programFault l f .addrRange)) ∧
    (writableBit w false = false → fNeg w = false → exec (.set_ l f w) s = .next (s.programFault l f .addrRange)) ∧
    (writableBit w true = false → fNeg w = false → exec (.rst l f w) s = .next (s.programFault l f .addrRange)) :=
  ⟨fun area => exec_facetOp_fault run rfl (bitWrite_addrRange ok (by simp) area _),
    fun area neg => exec_facetOp_fault run rfl (bitWrite_addrRange ok (by simp [neg]) area _),
    fun area neg => exec_facetOp_fault run rfl (bitWrite_addrRange ok (by simp [neg]) area _)⟩

end

/-- A write of a status bit leaves data memory alone (R84, R85). -/
theorem writeBit_status_dmem (x : FacetSt) (n : Nat) (v : Bool) : (writeBit x 5 n v).dmem = x.dmem := by
  simp only [writeBit]
  repeat' split
  all_goals rfl

/-- A bit of Q or M reads back as written, and no other bit of the area and no other byte changes (R77, R84). -/
theorem writeBit_reads_back {x : FacetSt} {a : Nat} (n : Nat) (v : Bool) (ok : Memory.wf x.dmem = true)
    (area : a = 1 ∨ a = 2) :
    let base := if a = 1 then aQ else aM
    readBit (writeBit x a n v) a n = v ∧
    (∀ k, k ≠ n → readBit (writeBit x a n v) a k = readBit x a k) ∧
    (∀ b, b ≠ base + n / 8 → memGet (writeBit x a n v).dmem b = memGet x.dmem b) := by
  have inArea (base : Nat) : memBit (memSetBit x.dmem base n v) base n = v ∧
      (∀ k, k ≠ n → memBit (memSetBit x.dmem base n v) base k = memBit x.dmem base k) ∧
      (∀ b, b ≠ base + n / 8 → memGet (memSetBit x.dmem base n v) b = memGet x.dmem b) :=
    ⟨by rw [memBit_memSetBit ok, if_pos rfl], fun k h => by rw [memBit_memSetBit ok, if_neg h],
      fun b h => memGet_memSetBit_other ok v h⟩
  rcases area with rfl | rfl
  · exact inArea aQ
  · exact inArea aM

/-- Settles O6: the instructions by the two shared forms of R84, and what they write by the bits of data memory. -/
theorem bitInstructionsFollowLa : Obligations.BitInstructionsFollowLa := by
  unfold Obligations.BitInstructionsFollowLa
  refine ⟨fun l f w s run ok => bitReads_combine run ok,
    fun l f w s run ok => ⟨st_writes run ok, set_writes run ok, rst_writes run ok, bitWrites_fault run ok⟩,
    fun x a n v ok area => ?_⟩
  obtain ⟨same, others, bytes⟩ := writeBit_reads_back n v ok area
  exact ⟨same, others, bytes, fun k => congrArg memGet (writeBit_status_dmem x k v)⟩

/-! ## LA and the brackets (R86, R87) -/

section
variable {s : State} {l : Fin 16} {f : Fin 64} (run : s.running l f = true)
include run

theorem laInstructions_act :
    let x := s.facets.get (fKey l f)
    exec (.nop l f 0) s = .next (s.facetNext l f x) ∧
    exec (.not_ l f 0) s = .next (s.facetNext l f { x with la := !x.la }) ∧
    exec (.la1 l f 0) s = .next (s.facetNext l f { x with la := true }) ∧
    exec (.la0 l f 0) s = .next (s.facetNext l f { x with la := false }) :=
  ⟨exec_facetOp run rfl rfl, exec_facetOp run rfl (sPlain_zero _), exec_facetOp run rfl (sPlain_zero _),
    exec_facetOp run rfl (sPlain_zero _)⟩

theorem brackets_push (room : (s.facets.get (fKey l f)).stack.length < 16) :
    let x := s.facets.get (fKey l f)
    exec (.andNest l f 0) s = .next (s.facetNext l f { x with stack := (x.la, .and) :: x.stack, la := true }) ∧
    exec (.orNest l f 0) s = .next (s.facetNext l f { x with stack := (x.la, .or) :: x.stack, la := false }) ∧
    exec (.xorNest l f 0) s = .next (s.facetNext l f { x with stack := (x.la, .xor) :: x.stack, la := false }) :=
  ⟨exec_facetOp run rfl (push_ok room _ _), exec_facetOp run rfl (push_ok room _ _),
    exec_facetOp run rfl (push_ok room _ _)⟩

theorem brackets_overflow (full : 16 ≤ (s.facets.get (fKey l f)).stack.length) :
    exec (.andNest l f 0) s = .next (s.programFault l f .nestFault) ∧
    exec (.orNest l f 0) s = .next (s.programFault l f .nestFault) ∧
    exec (.xorNest l f 0) s = .next (s.programFault l f .nestFault) :=
  ⟨exec_facetOp_fault run rfl (push_full full _ _), exec_facetOp_fault run rfl (push_full full _ _),
    exec_facetOp_fault run rfl (push_full full _ _)⟩

theorem bracket_pops {v : Bool} {c : Comb} {r : List (Bool × Comb)}
    (h : (s.facets.get (fKey l f)).stack = (v, c) :: r) :
    let x := s.facets.get (fKey l f)
    exec (.nestClose l f 0) s = .next (s.facetNext l f { x with stack := r, la := c.combine v x.la }) :=
  exec_facetOp run rfl (pop_ok h)

theorem end_nestFault (open_ : (s.facets.get (fKey l f)).stack ≠ []) :
    exec (.end_ l f 0) s = .next (s.programFault l f .nestFault) := by
  show execEnd l f 0 s = _
  rw [execEnd, if_neg (not_not.2 rfl), if_pos open_, State.facetSys_faults run]

end

/-- Settles O7, instruction by instruction. -/
theorem laAndNestingInstructions : Obligations.LaAndNestingInstructions := by
  unfold Obligations.LaAndNestingInstructions
  refine ⟨fun l f s run => ?_, fun l f s run => ⟨brackets_overflow run,
    fun empty => exec_facetOp_fault run rfl (pop_empty empty), end_nestFault run⟩⟩
  obtain ⟨nop, not_, la1, la0⟩ := laInstructions_act run
  exact ⟨nop, not_, la1, la0, brackets_push run, fun _ _ h => bracket_pops run h, fun _ _ h => bracket_pops run h,
    fun _ _ h => bracket_pops run h⟩

end Sys2Proof.Machine
end

section
/-! PROOF. Edge, timer and counter instructions (O8), and one update of a timer and of a counter (O9). -/

namespace Sys2Proof.Machine

/-! ## The instructions (R84, R86, R88, R89) -/

/-- Settles O8: each instruction by the shared form of its kind. -/
theorem edgeTimerAndCounterInstructions : Obligations.EdgeTimerAndCounterInstructions := by
  unfold Obligations.EdgeTimerAndCounterInstructions
  intro l f w s run zero
  refine ⟨fun h => ⟨?_, ?_⟩, fun h => ⟨?_, ?_, ?_⟩, fun h => ⟨?_, ?_, ?_, ?_⟩⟩
  · exact exec_facetOp run rfl (edge_ok zero h _)
  · exact exec_facetOp run rfl (edge_ok zero h _)
  · exact exec_facetOp run rfl (timer_ok zero h .ton)
  · exact exec_facetOp run rfl (timer_ok zero h .tof)
  · exact exec_facetOp run rfl (timer_ok zero h .tp)
  · exact exec_facetOp run rfl (counter_ok zero h false)
  · exact exec_facetOp run rfl (counter_ok zero h true)
  · exact exec_facetOp run rfl (countSet_ok zero h _)
  · exact exec_facetOp run rfl (countSet_ok zero h _)

/-! ## Timers (R88) -/

section
variable (us : Nat) (la : Bool) (t : Timer)

/-- The time to add, at most 2^31 us, and no further than PRESET. -/
def timerAdd : Nat := Nat.min (t.elapsed + Nat.min ((us + 2 ^ 32 - t.last) % 2 ^ 32) (2 ^ 31)) t.preset

theorem timerStep_ton : timerStep .ton us la t = { t with
    last := us, inPrev := la
    elapsed := if la && t.inPrev then timerAdd us t else 0
    q := la && decide (t.preset ≤ if t.inPrev then timerAdd us t else 0) } := by
  cases la <;> cases h : t.inPrev <;> simp [timerStep, timerAdd, h]

theorem timerStep_tof : timerStep .tof us la t = { t with
    last := us, inPrev := la
    elapsed := if la || t.inPrev then 0 else timerAdd us t
    q := la || (t.q && decide ((if t.inPrev then 0 else timerAdd us t) < t.preset)) } := by
  cases la <;> cases h : t.inPrev <;> simp [timerStep, timerAdd, h]

theorem timerStep_tp : timerStep .tp us la t = { t with
    last := us, inPrev := la
    elapsed := if t.q then timerAdd us t else if la && t.inPrev then t.elapsed else 0
    q := if t.q then decide (timerAdd us t < t.preset) else la && !t.inPrev && decide (0 < t.preset) } := by
  cases la <;> cases hq : t.q <;> cases h : t.inPrev <;> simp [timerStep, timerAdd, h, hq]

end

/-! ## Counters (R89) -/

/-- COUNT after an update: a rising LA moves it by 1 and not past its limit. -/
def Counter.next (c : Counter) (down la : Bool) : Int :=
  if la && !(if down then c.cdPrev else c.cuPrev)
  then (if down then max (c.count - 1) (-0x80000000) else min (c.count + 1) 0x7FFFFFFF) else c.count

/-- The flag bits of a counter after an update, from bit 0: CU_PREV, CD_PREV, QU, QD, DOWN. -/
def countFlags (m : List Host.Cell) (a : Nat) (down la qu qd : Bool) : List Host.Cell :=
  memSetBit (memSetBit (memSetBit (memSetBit m a (if down then 1 else 0) la) a 2 qu) a 3 qd) a 4 down

theorem countStep_eq (m : List Host.Cell) (i : Nat) (down la : Bool) :
    let c := readCounter m i
    let v := c.next down la
    countStep m i down la = (countFlags (writeCount m i v) (aCounter + 16 * i + 8) down la (c.preset ≤ v) (v ≤ 0),
      decide (c.preset ≤ v), decide (v ≤ 0)) := by
  cases down <;> rfl

/-- COUNT stays in 32 bits. -/
theorem counter_next_bounds (m : List Host.Cell) (i : Nat) (down la : Bool) :
    -0x80000000 ≤ (readCounter m i).next down la ∧ (readCounter m i).next down la ≤ 0x7FFFFFFF := by
  obtain ⟨lo, hi⟩ : -0x80000000 ≤ (readCounter m i).count ∧ (readCounter m i).count ≤ 0x7FFFFFFF :=
    signed_bounds (memNat_lt _ _)
  cases down <;> simp only [Counter.next, Bool.false_eq_true, if_false, if_true] <;> split <;> omega

section
variable {m : List Host.Cell} (ok : Memory.wf m = true)
include ok

theorem countFlags_bit (a k : Nat) (down la qu qd : Bool) :
    memBit (countFlags m a down la qu qd) a k = if k = 4 then down else if k = 3 then qd else if k = 2 then qu
      else if k = (if down then 1 else 0) then la else memBit m a k := by
  unfold countFlags
  rw [memBit_memSetBit (memSetBit_wf (memSetBit_wf (memSetBit_wf ok ..) ..) ..),
    memBit_memSetBit (memSetBit_wf (memSetBit_wf ok ..) ..), memBit_memSetBit (memSetBit_wf ok ..),
    memBit_memSetBit ok]

theorem countFlags_other {a b : Nat} (h : b ≠ a) (down la qu qd : Bool) :
    memGet (countFlags m a down la qu qd) b = memGet m b := by
  have byte (n : Nat) (hn : n < 8) : b ≠ a + n / 8 := by omega
  unfold countFlags
  rw [memGet_memSetBit_other (memSetBit_wf (memSetBit_wf (memSetBit_wf ok ..) ..) ..) _ (byte 4 (by decide)),
    memGet_memSetBit_other (memSetBit_wf (memSetBit_wf ok ..) ..) _ (byte 3 (by decide)),
    memGet_memSetBit_other (memSetBit_wf ok ..) _ (byte 2 (by decide)),
    memGet_memSetBit_other ok _ (byte _ (by split <;> decide))]

/-- A counter read back after its update (R89). -/
theorem readCounter_countStep (i : Nat) (down la : Bool) :
    let c := readCounter m i
    readCounter (countStep m i down la).1 i =
      { c with count := c.next down la, cuPrev := if down then c.cuPrev else la,
               cdPrev := if down then la else c.cdPrev } := by
  intro c
  let v := c.next down la
  have written : Memory.wf (writeCount m i v) = true := memPutNat_wf ok ..
  have flags (k : Nat) := countFlags_bit written (aCounter + 16 * i + 8) k down la (c.preset ≤ v) (v ≤ 0)
  have bytes (b : Nat) (h : b ≠ aCounter + 16 * i + 8) :=
    countFlags_other written h down la (decide (c.preset ≤ v)) (decide (v ≤ 0))
  have old (k : Nat) :
      memBit (writeCount m i v) (aCounter + 16 * i + 8) (k % 8) = memBit m (aCounter + 16 * i + 8) (k % 8) :=
    memBit_congr (memGet_memPutNat_other ok _ (.inr (by omega)))
  have count : memNat (countStep m i down la).1 (aCounter + 16 * i) 4 = unsigned 32 v % 256 ^ 4 := by
    rw [countStep_eq, memNat_congr fun k _ hi => bytes k (by omega)]
    exact memNat_memPut_same ok ..
  have preset : memNat (countStep m i down la).1 (aCounter + 16 * i + 4) 4 = memNat m (aCounter + 16 * i + 4) 4 := by
    rw [countStep_eq, memNat_congr fun k _ hi => bytes k (by omega)]
    exact memNat_congr fun k lo _ => memGet_memPutNat_other ok _ (.inr lo)
  obtain ⟨lo, hi⟩ := counter_next_bounds m i down la
  have cu : memBit (countStep m i down la).1 (aCounter + 16 * i + 8) 0 = if down then c.cuPrev else la := by
    rw [countStep_eq, flags]
    cases down
    · rfl
    · exact old 0
  have cd : memBit (countStep m i down la).1 (aCounter + 16 * i + 8) 1 = if down then la else c.cdPrev := by
    rw [countStep_eq, flags]
    cases down
    · exact old 1
    · rfl
  show Counter.mk (signed 32 (memNat _ _ _)) (signed 32 (memNat _ _ _)) (memBit _ _ _) (memBit _ _ _) = _
  rw [count, preset, cu, cd, signed_unsigned lo hi]
  rfl

/-- The flags that a counter shows after its update, and what area C reads of them (R84, R89). -/
theorem countStep_flags (i : Nat) (down la : Bool) :
    let r := countStep m i down la
    let a := aCounter + 16 * i + 8
    memBit r.1 a 2 = r.2.1 ∧ memBit r.1 a 3 = r.2.2 ∧ memBit r.1 a 4 = down := by
  have flags (k : Nat) := countFlags_bit (memPutNat_wf ok (aCounter + 16 * i) 4
    (unsigned 32 ((readCounter m i).next down la))) (aCounter + 16 * i + 8) k down la
    (decide ((readCounter m i).preset ≤ (readCounter m i).next down la)) (decide ((readCounter m i).next down la ≤ 0))
  rw [countStep_eq]
  exact ⟨flags 2, flags 3, flags 4⟩

end

/-- Settles O9: each kind of timer by its equation, and a counter by what is read back after its update. -/
theorem timersAndCountersFollowTheirRules : Obligations.TimersAndCountersFollowTheirRules := by
  unfold Obligations.TimersAndCountersFollowTheirRules
  refine ⟨fun us la t => ?_, fun x i down la ok _ => ?_⟩
  · refine ⟨fun k => ?_, ?_⟩
    · cases k
      · rw [timerStep_ton]; exact ⟨rfl, rfl, rfl⟩
      · rw [timerStep_tof]; exact ⟨rfl, rfl, rfl⟩
      · rw [timerStep_tp]; exact ⟨rfl, rfl, rfl⟩
    · rw [timerStep_ton, timerStep_tof, timerStep_tp]
      refine ⟨fun on fresh => ?_, fun on old => ?_, fun on => ?_, fun off => ?_, fun on => ?_, fun off old => ?_,
        fun off old => ?_, fun off => ?_, fun q => ?_, fun q on fresh => ?_, fun q on old => ?_, fun q off => ?_⟩
      · simp [on, fresh]
      · simp [on, old, timerAdd]
      · simp [on]
      · simp [off]
      · simp [on]
      · simp [off, old]
      · simp [off, old, timerAdd]
      · simp [off]
      · simp [q, timerAdd]
      · simp [q, on, fresh]
      · simp [q, on, old]
      · simp [q, off]
  · obtain ⟨qu, qd, dir⟩ := countStep_flags ok i down la
    have step := countStep_eq x.dmem i down la
    intro c r c' rising
    have back : c' = { c with count := c.next down la, cuPrev := if down then c.cuPrev else la,
                              cdPrev := if down then la else c.cdPrev } := readCounter_countStep ok i down la
    rw [back]
    refine ⟨rfl, rfl, rfl, rfl, congrArg (·.2.1) step, congrArg (·.2.2) step, qu, qd, dir, ?_⟩
    show memBit r.1 _ (if memBit r.1 _ 4 then 3 else 2) = _
    rw [dir]
    cases down
    · exact qu
    · exact qd

end Sys2Proof.Machine
end

section
/-! PROOF. Jumps and CMP (O10), and whole words (O15). -/

namespace Sys2Proof.Machine

/-! ## Jumps and CMP (R82, R83, R86) -/

section
variable {s : State} {l : Fin 16} {f : Fin 64} {w : BitVec 26} (run : s.running l f = true)
include run

theorem jumps_go (zero : fld w 25 14 = 0) :
    let x := s.facets.get (fKey l f)
    let target := x.pc + BitVec.ofInt 13 (signed 14 (fld w 13 0))
    let go (p : BitVec 13) : Res := .next (s.updFacet l f fun _ => { x with pc := p })
    exec (.ju l f w) s = go target ∧
    exec (.jc l f w) s = go (if x.la then target else x.pc + 1) ∧
    exec (.jcn l f w) s = go (if x.la then x.pc + 1 else target) := by
  refine ⟨exec_facetJump run rfl (jump_ok zero _), exec_facetJump run rfl (jump_ok zero _), ?_⟩
  refine (exec_facetJump run rfl (jump_ok zero _)).trans ?_
  cases (s.facets.get (fKey l f)).la <;> rfl

theorem cmp_compares (cond : fCond w < 6) (used : fld w 12 8 = 0) (low : fld w 1 0 = 0) :
    let x := s.facets.get (fKey l f)
    exec (.cmp l f w) s = .next (s.facetNext l f
      { x with la := cmpHolds (dReg x (fX w)).toInt (dReg x (fY w)).toInt (fCond w) }) :=
  exec_facetOp run rfl (rOp_ok (by simp [cond, used, low]) _)

end

/-- The six conditions of CMP (R86). -/
theorem cmpHolds_iff {c : Nat} (h : c < 6) (a b : Int) :
    cmpHolds a b c = true ↔ (c = 0 ∧ a = b) ∨ (c = 1 ∧ a ≠ b) ∨ (c = 2 ∧ a < b) ∨ (c = 3 ∧ a ≤ b) ∨ (c = 4 ∧ b < a) ∨
      (c = 5 ∧ b ≤ a) := by
  obtain rfl | rfl | rfl | rfl | rfl | rfl : c = 0 ∨ c = 1 ∨ c = 2 ∨ c = 3 ∨ c = 4 ∨ c = 5 := by omega
  all_goals simp [cmpHolds]

/-- Settles O10. -/
theorem jumpsAndCompare : Obligations.JumpsAndCompare := by
  unfold Obligations.JumpsAndCompare
  intro l f w s run
  exact ⟨jumps_go run, fun cond used low => ⟨_, cmp_compares run cond used low, cmpHolds_iff cond _ _⟩⟩

/-! ## Whole words (R82) -/

theorem wordOp_append {op : Nat} (h : op < 64) (r : BitVec 26) : wordOp (BitVec.ofNat 6 op ++ r) = op := by
  have high : (BitVec.ofNat 6 op ++ r).toNat = op * 2 ^ 26 + r.toNat := by
    rw [BitVec.toNat_append, BitVec.toNat_ofNat, Nat.mod_eq_of_lt h, Nat.shiftLeft_eq,
      ← Nat.shiftLeft_eq, ← Nat.shiftLeft_add_eq_or_of_lt r.isLt]
  rw [wordOp, BitVec.toNat_ushiftRight, high, Nat.shiftRight_eq_div_pow]
  have := r.isLt
  omega

theorem wordRest_append (op : BitVec 6) (r : BitVec 26) : wordRest (op ++ r) = r := by
  rw [wordRest, BitVec.setWidth_append]
  simp

/-- Settles O15: row by row, from the opcode and the operands of a word put together. -/
theorem wordsRunTheInstructionTheyEncode : Obligations.WordsRunTheInstructionTheyEncode := by
  unfold Obligations.WordsRunTheInstructionTheyEncode
  intro l f r s word
  have row {op : Nat} {e : Res} (h : op < 64) (k : ∀ w, wordOp w = op → wordRest w = r → facetWord l f w s = e) :
      exec (word op) s = e := k _ (wordOp_append h r) (wordRest_append _ r)
  repeat' apply And.intro
  all_goals
    refine row (by decide) fun w op rest => ?_
    rw [facetWord, op, rest]
    rfl

end Sys2Proof.Machine
end

section
/-! SUPPORT. Registers of a facet (R83): each reads back as written, and a write leaves the others; and values saturated to
the width of a register (R91, R93). -/

namespace Sys2Proof.Machine

theorem fld_lt (w : BitVec 26) (hi lo : Nat) : fld w hi lo < 2 ^ (hi + 1 - lo) := Nat.mod_lt _ (Nat.two_pow_pos _)

theorem fX_lt (w : BitVec 26) : fX w < 8 := fld_lt w 25 23
theorem fAcc_lt (w : BitVec 26) : fAcc w < 4 := fld_lt w 19 18

theorem getD_toList_setIfInBounds {α : Type} {n : Nat} (v : Vector α n) {i : Nat} (h : i < n) (k : Nat) (a b : α) :
    ((v.setIfInBounds i a).toList[k]?).getD b = if k = i then a else (v.toList[k]?).getD b := by
  by_cases hk : k = i
  · subst hk
    simp [h]
  · simp [hk, Ne.symm hk]

theorem dReg_setD (x : FacetSt) {i : Nat} (h : i < 8) (k : Nat) (v : Half) :
    dReg (setD x i v) k = if k = i then v else dReg x k := getD_toList_setIfInBounds _ h ..

theorem aReg_setA (x : FacetSt) {i : Nat} (h : i < 4) (k : Nat) (v : Acc) :
    aReg (setA x i v) k = if k = i then v else aReg x k := getD_toList_setIfInBounds _ h ..

theorem toInt_ofInt_satInt {w : Nat} (h : 0 < w) (v : Int) : (BitVec.ofInt w (satInt w v)).toInt = satInt w v := by
  have pos : (0 : Int) < 2 ^ (w - 1) := by positivity
  apply BitVec.toInt_ofInt_eq_self h <;> unfold satInt <;> omega

end Sys2Proof.Machine
end

section
/-! PROOF. Results of the accumulators and of the data registers (O11). -/

namespace Sys2Proof.Machine

/-! ## Accumulators (R90, R91) -/

/-- `y` is `x` with the exact value `v` in accumulator `n`: saturated, AOVF noted where it saturates, PSAT where the product
`ps` did, and no other field written. -/
def AccResult (x y : FacetSt) (n : Nat) (v : Int) (ps : Bool) : Prop :=
  let r := max (-0x8000000000) (min v 0x7FFFFFFFFF)
  (aReg y n).toInt = r ∧ (∀ k, k ≠ n → aReg y k = aReg x k) ∧ y.aovf = (x.aovf || decide (r ≠ v)) ∧
    y.psat = (x.psat || ps) ∧ y = { x with a := y.a, aovf := y.aovf, psat := y.psat }

theorem accResult_notePsat (x : FacetSt) {n : Nat} (h : n < 4) (v : Int) (ps : Bool) :
    AccResult x (putAcc (notePsat x ps) n v) n v ps := by
  have written (k : Nat) : aReg (putAcc (notePsat x ps) n v) k =
      if k = n then BitVec.ofInt 40 (satInt 40 v) else aReg x k := aReg_setA _ h ..
  refine ⟨?_, fun k hk => (written k).trans (if_neg hk), rfl, rfl, rfl⟩
  rw [written, if_pos rfl]
  exact toInt_ofInt_satInt (by decide) v

theorem accResult_putAcc (x : FacetSt) {n : Nat} (h : n < 4) (v : Int) : AccResult x (putAcc x n v) n v false := by
  have same : notePsat x false = x := by simp [notePsat]
  have r := accResult_notePsat x h v false
  rwa [same] at r

theorem accResult_clear (x : FacetSt) {n : Nat} (h : n < 4) : AccResult x (setA x n 0) n 0 false := by
  have zero : putAcc x n 0 = setA x n 0 := by simp [putAcc, satInt, setA]
  exact zero ▸ accResult_putAcc x h 0

/-- The one product that saturates is that of the two least values (R90). -/
theorem product_eq (a b : Half) :
    product a b = (if decide (a.toInt = -0x8000 ∧ b.toInt = -0x8000) then 0x7FFFFFFF else 2 * (a.toInt * b.toInt),
      decide (a.toInt = -0x8000 ∧ b.toInt = -0x8000)) := by
  have least (c : Half) : c = 0x8000 ↔ c.toInt = -0x8000 := by
    rw [← BitVec.toInt_inj]
    rfl
  simp only [product, least]
  by_cases h : a.toInt = -0x8000 ∧ b.toInt = -0x8000 <;> simp [h]

theorem ashValue_left (a : Int) {sh : Int} (h : 0 ≤ sh) (rnd : Nat) : ashValue a sh rnd = a * 2 ^ sh.toNat := if_pos h
theorem ashValue_right (a : Int) {sh : Int} (h : sh < 0) (rnd : Nat) : ashValue a sh rnd = roundAt a (-sh).toNat rnd :=
  if_neg (Int.not_le.2 h)
theorem sthValue_left (a : Int) {sh : Int} (h : 0 ≤ sh) (rnd : Nat) :
    sthValue a sh rnd = roundAt (a * 2 ^ sh.toNat) 16 rnd := if_pos h
theorem sthValue_right (a : Int) {sh : Int} (h : sh < 0) (rnd : Nat) :
    sthValue a sh rnd = roundAt a (16 + (-sh).toNat) rnd := if_neg (Int.not_le.2 h)

section
variable {s : State} {l : Fin 16} {f : Fin 64} {w : BitVec 26} (run : s.running l f = true)
include run

/-- MPY, MAC and MSU: the weights of the old accumulator and of the product. -/
theorem mulAcc_leaves {c : Instr} {keep sign p v : Int} {ps : Bool} (ok : rBad w true true true false false = false)
    (e : exec c s = .next (s.facetOp l f (rOp (rBad w true true true false false) (mulAcc w keep sign))))
    (hp : product (dReg (s.facets.get (fKey l f)) (fX w)) (dReg (s.facets.get (fKey l f)) (fY w)) = (p, ps))
    (hv : keep * (aReg (s.facets.get (fKey l f)) (fAcc w)).toInt + sign * p = v) :
    ∃ y, exec c s = .next (s.facetNext l f y) ∧ AccResult (s.facets.get (fKey l f)) y (fAcc w) v ps := by
  refine ⟨_, exec_facetOp run e (rOp_ok ok _), ?_⟩
  rw [mulAcc, hp]
  exact hv ▸ accResult_notePsat _ (fAcc_lt w) _ _

end

/-! ## Data registers (R92, R93) -/

/-- `y` is `x` with the exact value `v` in data register `n`: saturated, SSAT noted where it saturates, and no other field
written. -/
def HalfResult (x y : FacetSt) (n : Nat) (v : Int) : Prop :=
  let r := max (-0x8000) (min v 0x7FFF)
  (dReg y n).toInt = r ∧ (∀ k, k ≠ n → dReg y k = dReg x k) ∧ y.ssat = (x.ssat || decide (r ≠ v)) ∧
    y = { x with d := y.d, ssat := y.ssat }

theorem halfResult_putD (x : FacetSt) {n : Nat} (h : n < 8) (v : Int) : HalfResult x (putD x n v) n v := by
  have written (k : Nat) : dReg (putD x n v) k = if k = n then BitVec.ofInt 16 (satInt 16 v) else dReg x k :=
    dReg_setD _ h ..
  refine ⟨?_, fun k hk => (written k).trans (if_neg hk), rfl, rfl⟩
  rw [written, if_pos rfl]
  exact toInt_ofInt_satInt (by decide) v

section
variable {s : State} {l : Fin 16} {f : Fin 64} {w : BitVec 26} (run : s.running l f = true)
include run

/-- ADD, SUB, NEG, ABS, MIN and MAX: the function of Dx and Dy. -/
theorem half2_leaves {c : Instr} {g : Int → Int → Int} {v : Int} (ok : rBad w true true false false false = false)
    (e : exec c s = .next (s.facetOp l f (rOp (rBad w true true false false false) (half2 w g))))
    (hv : g (dReg (s.facets.get (fKey l f)) (fX w)).toInt (dReg (s.facets.get (fKey l f)) (fY w)).toInt = v) :
    ∃ y, exec c s = .next (s.facetNext l f y) ∧ HalfResult (s.facets.get (fKey l f)) y (fX w) v :=
  ⟨_, exec_facetOp run e (rOp_ok ok _), hv ▸ halfResult_putD _ (fX_lt w) _⟩

theorem lsh_shifts (ok : rBad w true true false false true = false) :
    let x := s.facets.get (fKey l f)
    ∃ y : FacetSt, exec (.lsh l f w) s = .next (s.facetNext l f y) ∧ y = { x with d := y.d } ∧
      (∀ k, k ≠ fX w → dReg y k = dReg x k) ∧ dReg y (fX w) = lshValue (dReg x (fY w)) (fShift w) :=
  ⟨_, exec_facetOp run rfl (rOp_ok ok _), rfl, fun _ hk => (dReg_setD _ (fX_lt w) ..).trans (if_neg hk),
    (dReg_setD _ (fX_lt w) ..).trans (if_pos rfl)⟩

end

/-! ## Rounding (R92) -/

/-- RNE is within one half of the exact value, and even where two whole numbers are as near. -/
theorem nearest_even {v u t low : Int} (pos : 0 < u) (parts : v = u * t + low) (nonneg : 0 ≤ low) (lt : low < u) :
    let r := if 2 * low > u then t + 1 else if 2 * low < u then t else if t % 2 = 0 then t else t + 1
    (2 * (v - u * r) ≤ u ∧ -u ≤ 2 * (v - u * r)) ∧ ((2 * (v - u * r) = u ∨ 2 * (v - u * r) = -u) → r % 2 = 0) := by
  intro r
  have up : u * (t + 1) = u * t + u := by ring
  simp only [r]
  split_ifs
  · rw [up]
    omega
  · omega
  · omega
  · rw [up]
    omega

theorem roundAt_rne (v : Int) (k : Nat) :
    let u : Int := 2 ^ k
    (2 * (v - u * roundAt v k 2) ≤ u ∧ -u ≤ 2 * (v - u * roundAt v k 2)) ∧
    ((2 * (v - u * roundAt v k 2) = u ∨ 2 * (v - u * roundAt v k 2) = -u) → roundAt v k 2 % 2 = 0) := by
  intro u
  have pos : 0 < u := by positivity
  exact nearest_even pos (Int.mul_ediv_add_emod v u).symm (Int.emod_nonneg _ pos.ne') (Int.emod_lt_of_pos _ pos)

/-! ## The instructions -/

section
variable {s : State} {l : Fin 16} {f : Fin 64} {w : BitVec 26} (run : s.running l f = true)
include run

/-- MAC2: the two products of a pair of registers each. -/
theorem mac2_leaves {p q : Int} {a b : Bool} (ok : rBad w true true true false false = false) (ex : fX w % 2 = 0)
    (ey : fY w % 2 = 0)
    (hp : product (dReg (s.facets.get (fKey l f)) (fX w)) (dReg (s.facets.get (fKey l f)) (fY w)) = (p, a))
    (hq : product (dReg (s.facets.get (fKey l f)) (fX w + 1)) (dReg (s.facets.get (fKey l f)) (fY w + 1)) = (q, b)) :
    let x := s.facets.get (fKey l f)
    ∃ y, exec (.mac2 l f w) s = .next (s.facetNext l f y) ∧
      AccResult x y (fAcc w) ((aReg x (fAcc w)).toInt + p + q) (a || b) := by
  refine ⟨_, exec_facetOp run rfl (rOp_ok (by simp [ok, ex, ey]) _), ?_⟩
  rw [hp, hq]
  exact accResult_notePsat _ (fAcc_lt w) _ _

theorem ash_leaves (ok : rBad w false false true true true = false) :
    let x := s.facets.get (fKey l f)
    ∃ y, exec (.ash l f w) s = .next (s.facetNext l f y) ∧
      AccResult x y (fAcc w) (ashValue (aReg x (fAcc w)).toInt (fShift w) (fRnd w)) false :=
  ⟨_, exec_facetOp run rfl (rOp_ok ok _), accResult_putAcc _ (fAcc_lt w) _⟩

theorem sth_leaves (ok : rBad w true false true true true = false) :
    let x := s.facets.get (fKey l f)
    ∃ y, exec (.sth l f w) s = .next (s.facetNext l f y) ∧
      HalfResult x y (fX w) (sthValue (aReg x (fAcc w)).toInt (fShift w) (fRnd w)) :=
  ⟨_, exec_facetOp run rfl (rOp_ok ok _), halfResult_putD _ (fX_lt w) _⟩

end

/-- Settles O11: a result by its register's rule (`AccResult`, `HalfResult`), and its exact value by the instruction. -/
theorem accumulatorAndDataRegisterResults : Obligations.AccumulatorAndDataRegisterResults := by
  unfold Obligations.AccumulatorAndDataRegisterResults
  refine ⟨fun l f w s run => ?_, fun l f w s run => ?_, fun v k => ⟨rfl, rfl, roundAt_rne v k⟩⟩
  · intro x n d corner p old sat leaves
    have value (i j : Nat) : product (dReg x i) (dReg x j) = (p i j, corner i j) := product_eq _ _
    refine ⟨fun ok => ⟨?_, ?_, ?_, fun ex ey => ?_⟩, fun ok => ⟨?_, ?_⟩, fun ok => ?_, fun ok => ?_⟩
    · exact mulAcc_leaves run ok rfl (value _ _) (by rw [Int.zero_mul, Int.zero_add, Int.one_mul])
    · exact mulAcc_leaves run ok rfl (value _ _) (by rw [Int.one_mul, Int.one_mul])
    · exact mulAcc_leaves run ok rfl (value _ _) (by rw [Int.one_mul, Int.neg_one_mul]; rfl)
    · exact mac2_leaves run ok ex ey (value _ _) (value _ _)
    · exact ⟨_, exec_facetOp run rfl (rOp_ok ok _), accResult_putAcc _ (fAcc_lt w) _⟩
    · exact ⟨_, exec_facetOp run rfl (rOp_ok ok _), accResult_putAcc _ (fAcc_lt w) _⟩
    · exact ⟨_, exec_facetOp run rfl (rOp_ok ok _), accResult_clear _ (fAcc_lt w)⟩
    · refine ⟨fun h => ?_, fun h => ?_, fun h => ?_⟩
      · exact ashValue_left old (Int.le_of_lt h) (fRnd w) ▸ ash_leaves run ok
      · have same : ashValue old (fShift w) (fRnd w) = old := by rw [ashValue_left old (Int.le_of_eq h.symm), h]; simp
        exact same ▸ ash_leaves run ok
      · exact ashValue_right old h (fRnd w) ▸ ash_leaves run ok
  · intro x a b acc sat leaves
    refine ⟨fun ok => ⟨fun h => ?_, fun h => ?_⟩, fun ok => ⟨?_, ?_, ?_, ?_, ?_, ?_⟩, fun ok => ?_⟩
    · exact sthValue_left acc h (fRnd w) ▸ sth_leaves run ok
    · exact sthValue_right acc h (fRnd w) ▸ sth_leaves run ok
    · exact half2_leaves run ok rfl rfl
    · exact half2_leaves run ok rfl rfl
    · exact half2_leaves run ok rfl rfl
    · exact half2_leaves run ok rfl (by show (if b < 0 then -b else b) = _; split <;> omega)
    · exact half2_leaves run ok rfl (by show (if a < b then a else b) = _; split <;> omega)
    · exact half2_leaves run ok rfl (by show (if a < b then b else a) = _; split <;> omega)
    · obtain ⟨y, e, frame, others, shifted⟩ := lsh_shifts run ok
      refine ⟨y, e, frame, others, fun h => ?_, fun lo hi => ?_, fun hi lo => ?_⟩ <;> rw [shifted]
      · exact if_pos h
      · rw [lshValue, if_neg (by omega), if_pos lo]
      · rw [lshValue, if_neg (by omega), if_neg (by omega)]

end Sys2Proof.Machine
end

section
/-! PROOF. Loads and immediates (O12), stores (O13), and the accesses that raise ADDR_RANGE (O14). -/

namespace Sys2Proof.Machine

/-! ## LDW and STW by the size of their register (R93) -/

theorem exec_ldw_eq (l : Fin 16) (f : Fin 64) (w : BitVec 26) (s : State) :
    (fReg w < 8 → exec (.ldw l f w false) s = .next (s.facetOp l f (mLoad w (decide (fReg w < 12)) 2 fun v x =>
      setD x (fReg w) (BitVec.ofNat 16 v)))) ∧
    (8 ≤ fReg w → exec (.ldw l f w false) s = .next (s.facetOp l f (mLoad w (decide (fReg w < 12)) 8 fun v x =>
      setA x (fReg w - 8) (BitVec.ofNat 40 v)))) := by
  refine ⟨fun h => ?_, fun h => ?_⟩ <;> show execLdw l f w false s = _ <;> unfold execLdw
  · simp only [h, if_true]
    rfl
  · simp only [Nat.not_lt.2 h, if_false]
    rfl

theorem exec_stw_eq (l : Fin 16) (f : Fin 64) (w : BitVec 26) (s : State) :
    (fReg w < 8 → exec (.stw l f w) s =
      .next (s.facetOp l f (mStore w (decide (fReg w < 12)) 2 fun x => (dReg x (fReg w)).toNat))) ∧
    (8 ≤ fReg w → exec (.stw l f w) s = .next (s.facetOp l f (mStore w (decide (fReg w < 12)) 8 fun x =>
      ((aReg x (fReg w - 8)).signExtend 64).toNat))) := by
  refine ⟨fun h => ?_, fun h => ?_⟩ <;> show execStw l f w s = _ <;> unfold execStw
  · simp only [h, if_true]
  · simp only [Nat.not_lt.2 h, if_false]

/-! ## Loads and immediates (R83, R93, R94) -/

section
variable {s : State} {l : Fin 16} {f : Fin 64} {w : BitVec 26} (run : s.running l f = true)
include run

section
variable (zero : fld w 17 16 = 0)
include zero

theorem ldw_data (reg : fReg w < 8) :
    let x := s.facets.get (fKey l f)
    badAccess (memAddr x w) 2 false = false → exec (.ldw l f w false) s =
      .next (s.facetNext l f (setD (postInc x w) (fReg w) (BitVec.ofNat 16 (memNat x.dmem (memAddr x w) 2)))) :=
  fun ok => exec_facetOp run ((exec_ldw_eq l f w s).1 reg)
    (mLoad_ok (decide_eq_true (Nat.lt_trans reg (by decide))) zero ok _)

theorem ldw_acc (acc : 8 ≤ fReg w) (reg : fReg w < 12) :
    let x := s.facets.get (fKey l f)
    badAccess (memAddr x w) 8 false = false → exec (.ldw l f w false) s =
      .next (s.facetNext l f (setA (postInc x w) (fReg w - 8) (BitVec.ofNat 40 (memNat x.dmem (memAddr x w) 8)))) :=
  fun ok => exec_facetOp run ((exec_ldw_eq l f w s).2 acc) (mLoad_ok (decide_eq_true reg) zero ok _)

theorem ldp_pointer (reg : 8 ≤ fReg w) :
    let x := s.facets.get (fKey l f)
    badAccess (memAddr x w) 4 false = false → exec (.ldp l f w) s =
      .next (s.facetNext l f (setP (postInc x w) (fReg w - 8) (BitVec.ofNat 32 (memNat x.dmem (memAddr x w) 4)))) :=
  fun ok => exec_facetOp run rfl (mLoad_ok (decide_eq_true reg) zero ok _)

end

/-- A single-bit error that the read met is counted before the load (R101). -/
theorem ldw_counts_error :
    exec (.ldw l f w true) s =
      exec (.ldw l f w false) (s.updLens l fun y => { y with eccCorr := Nat.min (y.eccCorr + 1) 0xFFFF }) := by
  show execLdw l f w true s = execLdw l f w false _
  rw [execLdw, run]
  rfl

section
variable (zero : fld w 21 16 = 0)
include zero

theorem ldi_data (reg : fReg w < 8) :
    let x := s.facets.get (fKey l f)
    exec (.ldi l f w) s = .next (s.facetNext l f (setD x (fReg w) (BitVec.ofNat 16 (fld w 15 0)))) :=
  (exec_facetOp run rfl (iOp_ok rfl zero _)).trans (by simp only [reg, if_true]; rfl)

theorem ldi_pointer (reg : 8 ≤ fReg w) :
    let x := s.facets.get (fKey l f)
    exec (.ldi l f w) s = .next (s.facetNext l f (setP x (fReg w - 8) (BitVec.ofNat 32 (fld w 15 0)))) :=
  (exec_facetOp run rfl (iOp_ok rfl zero _)).trans (by simp only [Nat.not_lt.2 reg, if_false]; rfl)

theorem addp_adds (reg : 8 ≤ fReg w) :
    let x := s.facets.get (fKey l f)
    exec (.addp l f w) s = .next (s.facetNext l f
      (setP x (fReg w - 8) (pReg x (fReg w - 8) + BitVec.ofInt 32 (signed 16 (fld w 15 0))))) :=
  exec_facetOp run rfl (iOp_ok (decide_eq_true reg) zero _)

/-- LDIH writes the upper half of P. -/
theorem ldih_upper (reg : 8 ≤ fReg w) :
    let x := s.facets.get (fKey l f)
    ∃ v : Word, exec (.ldih l f w) s = .next (s.facetNext l f (setP x (fReg w - 8) v)) ∧
      v.toNat / 65536 = fld w 15 0 ∧ v.toNat % 65536 = (pReg x (fReg w - 8)).toNat % 65536 := by
  refine ⟨_, exec_facetOp run rfl (iOp_ok (decide_eq_true reg) zero _), ?_⟩
  have imm : fImm w < 65536 := fld_lt w 15 0
  rw [BitVec.toNat_ofNat, Nat.mod_eq_of_lt (by omega)]
  exact ⟨by show _ = fImm w; omega, by omega⟩

end

end

/-- Settles O12. -/
theorem loadsAndImmediates : Obligations.LoadsAndImmediates := by
  unfold Obligations.LoadsAndImmediates
  intro l f w s run
  exact ⟨ldw_data run, ldw_acc run, ldw_counts_error run, ldp_pointer run, ldi_data run,
    fun zero reg => ⟨ldi_pointer run zero reg, addp_adds run zero reg, ldih_upper run zero reg⟩⟩

/-! ## Stores (R77, R94) -/

/-- A store writes its bytes and no other; into the reserved area it writes none. -/
theorem memStore_bytes {m : List Host.Cell} (ok : Memory.wf m = true) (a n v : Nat) :
    (∀ b, b < a ∨ a + n ≤ b → memGet (memStore m a (leBytes n v)) b = memGet m b) ∧
    (¬ (aReserved ≤ a ∧ a < aPackage) → memNat (memStore m a (leBytes n v)) a n = v % 256 ^ n) ∧
    (aReserved ≤ a → a < aPackage → memStore m a (leBytes n v) = m) := by
  by_cases reserved : aReserved ≤ a ∧ a < aPackage
  · have same : memStore m a (leBytes n v) = m := if_pos reserved
    rw [same]
    exact ⟨fun _ _ => rfl, fun h => absurd reserved h, fun _ _ => rfl⟩
  · have put : memStore m a (leBytes n v) = memPutNat m a n v := if_neg reserved
    rw [put]
    exact ⟨fun b hb => memGet_memPutNat_other ok v hb, fun _ => memNat_memPut_same ok a n v,
      fun lo hi => absurd ⟨lo, hi⟩ reserved⟩

/-- A store instruction of `n` bytes, from the bytes it stores. -/
theorem exec_mStore {c : Instr} {s : State} {l : Fin 16} {f : Fin 64} {w : BitVec 26} {regOk : Bool} {n : Nat}
    {val : FacetSt → Nat} (run : s.running l f = true) (zero : fld w 17 16 = 0) (reg : regOk = true)
    (e : exec c s = .next (s.facetOp l f (mStore w regOk n val)))
    (ok : badAccess (memAddr (s.facets.get (fKey l f)) w) n true = false) :
    let x := s.facets.get (fKey l f)
    exec c s = .next (s.facetNext l f
      { postInc x w with dmem := memStore x.dmem (memAddr x w) (leBytes n (val x)) }) :=
  (exec_facetOp run e (mStore_ok reg zero ok val)).trans (by rw [postInc_withMem])

/-- Settles O13: the three stores by the bytes that a store writes. -/
theorem storesWriteTheirBytesAndNoOther : Obligations.StoresWriteTheirBytesAndNoOther := by
  unfold Obligations.StoresWriteTheirBytesAndNoOther
  intro l f w s run canon zero x a stored
  obtain ⟨stwD, stwA⟩ := exec_stw_eq l f w s
  have mem (n v : Nat) := memStore_bytes (canon.facet (fKey l f)) a n v
  refine ⟨fun reg ok => ?_, fun acc reg ok => ?_, fun reg ok => ?_⟩
  · exact ⟨_, exec_mStore run zero (decide_eq_true (Nat.lt_trans reg (by decide))) (stwD reg) ok, rfl, mem 2 _⟩
  · exact ⟨_, exec_mStore run zero (decide_eq_true reg) (stwA acc) ok, rfl, mem 8 _⟩
  · exact ⟨_, exec_mStore run zero (decide_eq_true reg) rfl ok, rfl, mem 4 _⟩

/-! ## ADDR_RANGE (R94) -/

theorem badAccess_far {a n : Nat} (h : 0x18000 ≤ a ∨ a % n ≠ 0) (write : Bool) : badAccess a n write = true := by
  rcases h with h | h <;> simp [badAccess, memEnd, h]

theorem badAccess_readOnly {a : Nat} (h : a < 0x200 ∨ (0x2440 ≤ a ∧ a < 0x2480)) (n : Nat) :
    badAccess a n true = true := by
  rcases h with h | ⟨lo, hi⟩ <;> simp [badAccess, aQ, aStatus, aReserved, *]

theorem badAccess_reserved {a n : Nat} (lo : 0x2480 ≤ a) (hi : a < 0x2500) (aligned : a % n = 0) :
    badAccess a n true = false := by
  have inMemory : ¬ 0x18000 ≤ a := by omega
  have pastImage : ¬ a < 0x200 := by omega
  have pastStatus : ¬ a < 0x2480 := Nat.not_lt.2 lo
  simp [badAccess, memEnd, aQ, aStatus, aReserved, aligned, inMemory, pastImage, pastStatus]

/-- A store into the reserved area moves the pointer of POST and changes nothing else (R77). -/
theorem memStore_reserved {x : FacetSt} {a : Nat} (lo : 0x2480 ≤ a) (hi : a < 0x2500) (w : BitVec 26) (bs : List Byte) :
    { postInc x w with dmem := memStore x.dmem a bs } = postInc x w := by
  rw [memStore, if_pos ⟨lo, hi⟩, ← postInc_withMem]

/-- Settles O14: which accesses are bad, and the forms of load and store that look at it. -/
theorem memoryAccessRaisesAddrRange : Obligations.MemoryAccessRaisesAddrRange := by
  unfold Obligations.MemoryAccessRaisesAddrRange
  intro l f w s run zero x a trap far readOnly
  obtain ⟨stwD, stwA⟩ := exec_stw_eq l f w s
  obtain ⟨ldwD, ldwA⟩ := exec_ldw_eq l f w s
  have d (reg : fReg w < 8) : decide (fReg w < 12) = true := decide_eq_true (Nat.lt_trans reg (by decide))
  have load {c : Instr} {regOk : Bool} {n : Nat} {put : Nat → FacetSt → FacetSt} (reg : regOk = true)
      (e : exec c s = .next (s.facetOp l f (mLoad w regOk n put))) (h : far n) : exec c s = trap :=
    exec_facetOp_fault run e (mLoad_addrRange reg zero (badAccess_far h _) put)
  have store {c : Instr} {regOk : Bool} {n : Nat} {val : FacetSt → Nat} (reg : regOk = true)
      (e : exec c s = .next (s.facetOp l f (mStore w regOk n val))) (bad : badAccess a n true = true) : exec c s = trap :=
    exec_facetOp_fault run e (mStore_addrRange reg zero bad val)
  have kept {c : Instr} {regOk : Bool} {n : Nat} {val : FacetSt → Nat} (lo : 0x2480 ≤ a) (hi : a < 0x2500)
      (reg : regOk = true) (aligned : a % n = 0) (e : exec c s = .next (s.facetOp l f (mStore w regOk n val))) :
      exec c s = .next (s.facetNext l f (postInc x w)) :=
    (exec_mStore run zero reg e (badAccess_reserved lo hi aligned)).trans (by rw [memStore_reserved lo hi])
  refine ⟨fun reg h => ⟨load (d reg) (ldwD reg) h, store (d reg) (stwD reg) (badAccess_far h _)⟩,
    fun acc reg h =>
      ⟨load (decide_eq_true reg) (ldwA acc) h, store (decide_eq_true reg) (stwA acc) (badAccess_far h _)⟩,
    fun reg h => ⟨load (decide_eq_true reg) rfl h, store (decide_eq_true reg) rfl (badAccess_far h _)⟩, fun reg h => ?_,
    fun reg h => store (decide_eq_true reg) rfl (badAccess_readOnly h _),
    fun lo hi => ⟨fun reg aligned => kept lo hi (d reg) aligned (stwD reg),
      fun acc reg aligned => kept lo hi (decide_eq_true reg) aligned (stwA acc),
      fun reg aligned => kept lo hi (decide_eq_true reg) aligned rfl⟩⟩
  by_cases data : fReg w < 8
  · exact store (d data) (stwD data) (badAccess_readOnly h _)
  · exact store (decide_eq_true reg) (stwA (Nat.not_lt.1 data)) (badAccess_readOnly h _)

end Sys2Proof.Machine
end

section
/-! SUPPORT. Wakes in full (R78, R81, R85): which queued event a facet takes, and all that a wake leaves of its facet. -/

namespace Sys2Proof.Machine

/-! ## The facet that wakes -/

/-- The facet after a wake by cause `c`, but for what the wake loads into its data memory. A tick that resumes a work item
which has had its own begins the next cycle. -/
def FacetSt.woken (x : FacetSt) (c : WakeCause) : FacetSt :=
  let fresh : Bool := x.gate = .ended
  let next : Bool := c = .tick && x.ticked
  { setQueued x c false with
    run := .active, gate := .ended, pc := if fresh then causeEntry c else x.pc
    firstCycle := x.firstCycle && !next, replayed := x.replayed && !next, restored := x.restored && !next
    ticked := c = .tick || (!fresh && x.ticked), began := if fresh then c = .tick else x.began }

theorem State.wakeNow_woken (s : State) (l f : Nat) (c : WakeCause) (tai : Nat) :
    ∃ m n, (s.wakeNow l f c tai).facets =
      s.facets.set (fKey l f) { (s.facets.get (fKey l f)).woken c with dmem := m, loaded := n } := by
  have last (b : Prop) [Decidable b] (u : State) (h : Nat) (g : ProgSt → ProgSt) :
      (if b then u.updProg l h g else u).facets = u.facets := by split <;> rfl
  unfold State.wakeNow
  dsimp only
  rw [last, State.updFacet_facets, Tbl.upd]
  cases c with
  | tick => exact ⟨_, _, rfl⟩
  | message => exact ⟨_, _, rfl⟩
  | stream =>
    rw [if_pos rfl, State.consume_set, State.consume_facet]
    exact ⟨_, _, rfl⟩

/-! ## The event that a gated facet takes -/

/-- A queued event of this cause may end the facet's wait. -/
def FacetSt.admits (x : FacetSt) (c : WakeCause) : Bool := isQueued x c && gateAdmits x c

/-- The event that a gated facet takes: a tick, else a stream arrival, else a message (R81). -/
def FacetSt.cause (x : FacetSt) : Option WakeCause := [WakeCause.tick, .stream, .message].find? x.admits

theorem FacetSt.cause_eq (x : FacetSt) : x.cause = if x.admits .tick then some .tick
    else if x.admits .stream then some .stream else if x.admits .message then some .message else none := by
  unfold FacetSt.cause
  simp only [List.find?]
  cases x.admits .tick with
  | true => rfl
  | false =>
    cases x.admits .stream with
    | true => rfl
    | false => cases x.admits .message <;> rfl

theorem State.takeQueued_none {s : State} {l f : Nat} (h : (s.facets.get (fKey l f)).cause = none) :
    s.takeQueued l f = s := by
  unfold State.takeQueued
  dsimp only
  unfold FacetSt.cause FacetSt.admits at h
  rw [h]

theorem State.takeQueued_takes {s : State} {l f : Nat} {c : WakeCause} (inRun : (s.lenses.get l).pstate = .run)
    (gated : (s.facets.get (fKey l f)).run = .gated) (h : (s.facets.get (fKey l f)).cause = some c) :
    s.takeQueued l f = s.wakeNow l f c (queuedAt (s.facets.get (fKey l f)) c) := by
  unfold State.takeQueued
  dsimp only
  unfold FacetSt.cause FacetSt.admits at h
  rw [h]
  exact if_pos ⟨gated, inRun⟩

/-- A facet that takes an event after END or WAIT has woken by it. -/
theorem State.takeQueued_woken {s : State} {l f : Nat} {c : WakeCause} (inRun : (s.lenses.get l).pstate = .run)
    (gated : (s.facets.get (fKey l f)).run = .gated) (h : (s.facets.get (fKey l f)).cause = some c) :
    ∃ m n, (s.takeQueued l f).facets =
      s.facets.set (fKey l f) { (s.facets.get (fKey l f)).woken c with dmem := m, loaded := n } := by
  rw [State.takeQueued_takes inRun gated h]
  exact s.wakeNow_woken l f c _

/-! ## An event that waits (R34, R105) -/

/-- An event that the facet cannot take yet is queued with its instant, and a sleeping lens wakes. -/
def State.queueWake (s : State) (l f : Nat) (c : WakeCause) : State :=
  (s.updFacet l f fun x => queueEvent x c s.tai).wakeLens l

theorem State.queueWake_facets (s : State) (l f : Nat) (c : WakeCause) :
    (s.queueWake l f c).facets = s.facets.set (fKey l f) (queueEvent (s.facets.get (fKey l f)) c s.tai) := rfl

theorem State.queueWake_wakes {s : State} {l f : Nat} {c : WakeCause}
    (asleep : (s.lenses.get l).pstate = .idle ∨ (s.lenses.get l).pstate = .retain) :
    ((s.queueWake l f c).lenses.get l).waking = some ((s.lenses.get l).waking.getD s.now) := by
  rw [State.queueWake, State.wakeLens, State.updLens_lenses, Tbl.get_upd_same, State.updFacet_lenses]
  cases waking : (s.lenses.get l).waking with
  | none => rw [if_pos ⟨asleep, rfl⟩]; rfl
  | some t => rw [if_neg (fun h => nomatch h.2)]; exact waking

theorem State.queueWake_effect (s : State) (l f : Nat) (c : WakeCause) : Effect 0x140 s (s.queueWake l f c) :=
  ((State.updFacet_effect s l f (fun x => queueEvent x c s.tai) fun x h => by rwa [queueEvent_dmem]).mono rfl).go
    (State.updLens_effect ..) rfl

theorem State.raise_gated {s : State} {l h : Nat} {c : WakeCause}
    (gated : (s.facets.get (fKey l (s.host l h))).run = .gated) (w : ¬ s.wakesAtOnce l h c) :
    s.raise l h c = s.queueWake l (s.host l h) c := by
  have waits : ¬ ((s.lenses.get l).pstate = .run ∧ gateAdmits (s.facets.get (fKey l (s.host l h))) c = true) :=
    fun k => w ⟨gated, k⟩
  simp only [State.raise, gated, if_neg waits]
  rfl

theorem State.raise_fenced {s : State} {l h : Nat} {c : WakeCause}
    (fenced : (s.facets.get (fKey l (s.host l h))).run = .fenced) :
    s.raise l h c = if c = .tick then s else s.queueWake l (s.host l h) c := by
  simp only [State.raise, fenced]
  rfl

theorem State.raise_stopped {s : State} {l h : Nat} {c : WakeCause}
    (stopped : (s.facets.get (fKey l (s.host l h))).run = .stopped) : s.raise l h c = s := by
  simp only [State.raise, stopped]

end Sys2Proof.Machine
end

section
/-! PROOF. WAIT, END and FACET_WAKE (O16). -/

namespace Sys2Proof.Machine

/-! ## WAIT (R81, R95) -/

/-- The facet waits at the next word for an event of the mask. -/
def State.waitAt (s : State) (l f : Nat) (m : BitVec 3) : State :=
  (s.advance l f).updFacet l f fun x => { x with run := .gated, gate := .waiting m }

/-- The facet that waits. -/
def FacetSt.waitAt (x : FacetSt) (m : BitVec 3) : FacetSt := { x with pc := x.pc + 1, run := .gated, gate := .waiting m }

theorem State.waitAt_facets (s : State) (l f : Nat) (m : BitVec 3) :
    (s.waitAt l f m).facets = s.facets.set (fKey l f) ((s.facets.get (fKey l f)).waitAt m) := by
  simp [State.waitAt, State.advance, Tbl.upd, FacetSt.waitAt]

theorem State.waitAt_facet (s : State) (l f : Nat) (m : BitVec 3) :
    (s.waitAt l f m).facets.get (fKey l f) = (s.facets.get (fKey l f)).waitAt m := by
  rw [State.waitAt_facets, Tbl.get_set_same]

theorem State.waitAt_effect (s : State) (l f : Nat) (m : BitVec 3) : Effect 0x40 s (s.waitAt l f m) :=
  (s.advance_effect l f).go (State.updFacet_effect _ _ _ _ fun _ h => h) rfl

theorem State.inRun_of_running {s : State} {l f : Nat} (run : s.running l f = true) : (s.lenses.get l).pstate = .run := by
  simp only [State.running, Bool.and_eq_true, decide_eq_true_eq] at run
  exact run.2

section
variable {s : State} {l : Fin 16} {f : Fin 64} {w : BitVec 26} (run : s.running l f = true)
include run

theorem exec_wait (zero : fld w 25 3 = 0) :
    exec (.wait_ l f w) s =
      .next (((s.waitAt l f (BitVec.ofNat 3 (fld w 2 0))).takeQueued l f).lensRest l) := by
  show execWait l f w s = _
  rw [execWait, if_neg (not_not.2 zero), State.facetSys_advances run]
  rfl

theorem wait_gates (zero : fld w 25 3 = 0)
    (idle : ((s.facets.get (fKey l f)).waitAt (BitVec.ofNat 3 (fld w 2 0))).cause = none) :
    s.Gives (.wait_ l f w) [.facets, .lenses] fun t => t.facets = s.facets.set (fKey l f)
      ((s.facets.get (fKey l f)).waitAt (BitVec.ofNat 3 (fld w 2 0))) := by
  have e := exec_wait run zero
  rw [State.takeQueued_none (by rw [State.waitAt_facet]; exact idle)] at e
  refine (((s.waitAt_effect ..).mono rfl).go (State.lensRest_effect ..) rfl : Effect 0x140 s _).gives rfl e ?_
  rw [State.lensRest_facets, State.waitAt_facets]

theorem wait_takes (zero : fld w 25 3 = 0) {c : WakeCause}
    (queued : ((s.facets.get (fKey l f)).waitAt (BitVec.ofNat 3 (fld w 2 0))).cause = some c) :
    s.Gives (.wait_ l f w) [.facets, .progs, .lenses] fun t => ∃ m n, t.facets = s.facets.set (fKey l f)
      { ((s.facets.get (fKey l f)).waitAt (BitVec.ofNat 3 (fld w 2 0))).woken c with dmem := m, loaded := n } := by
  have waits := s.waitAt_facet l f (BitVec.ofNat 3 (fld w 2 0))
  have inRun : (s.lenses.get l).pstate = .run := State.inRun_of_running run
  obtain ⟨m, n, woken⟩ := State.takeQueued_woken (s := s.waitAt l f (BitVec.ofNat 3 (fld w 2 0))) (l := l) (f := f)
    (c := c) inRun (by rw [waits]; rfl) (by rw [waits]; exact queued)
  refine ((((s.waitAt_effect ..).mono rfl).go (State.takeQueued_effect ..) rfl).go (State.lensRest_effect ..) rfl :
    Effect 0x1C0 s _).gives rfl (exec_wait run zero) ⟨m, n, ?_⟩
  rw [State.lensRest_facets, woken, State.waitAt_facets, Tbl.get_set_same, Tbl.set_set]

end

/-! ## END (R81, R85, R95) -/

/-- The facet after END: it waits for any event, and a work item that took its tick ends its cycle's status bits. -/
def FacetSt.endItem (x : FacetSt) : FacetSt :=
  let last := x.ticked || decide (x.role = .focusAssist)
  { x with run := .gated, gate := .ended, ticked := false, began := false, loaded := 0
           firstCycle := x.firstCycle && !last, replayed := x.replayed && !last, restored := x.restored && !last }

/-- The work item ends: Loupe samples it, its stream records are consumed, and the facet waits. -/
def State.endItem (s : State) (l f : Nat) : State :=
  let x := s.facets.get (fKey l f)
  let last := x.ticked || decide (x.role = .focusAssist)
  ((if x.began then s.loupeSample l f (s.home l f) else s).consume l f).updFacet l f fun x =>
    { x with run := .gated, gate := .ended, ticked := false, began := false
             firstCycle := x.firstCycle && !last, replayed := x.replayed && !last, restored := x.restored && !last }

theorem State.sampled_effect (s : State) (l f : Nat) (b : Bool) :
    Effect 0x4000000000 s (if b then s.loupeSample l f (s.home l f) else s) :=
  Effect.ite (fun _ => s.loupeSample_effect ..) fun _ => .refl ..

theorem State.endItem_effect (s : State) (l f : Nat) : Effect 0x40000000C0 s (s.endItem l f) :=
  (((s.sampled_effect ..).mono rfl).go (State.consume_effect ..) rfl).go (State.updFacet_effect _ _ _ _ fun _ h => h) rfl

theorem State.endItem_facets (s : State) (l f : Nat) :
    (s.endItem l f).facets = s.facets.set (fKey l f) (s.facets.get (fKey l f)).endItem := by
  have sampled := (s.sampled_effect l f (s.facets.get (fKey l f)).began).same .facets rfl
  unfold State.endItem
  dsimp only
  rw [State.updFacet_facets, Tbl.upd, State.consume_set, State.consume_facet, sampled]
  rfl

/-- The slices and programs that a package names. -/
theorem State.logicAt_congr {s t : State} (h : t.svc = s.svc) (l k : Nat) :
    t.logicAt l k = s.logicAt l k ∧ t.protAt l k = s.protAt l k := by
  unfold State.logicAt State.protAt State.pkg
  rw [h]
  exact ⟨rfl, rfl⟩

/-- END of a program that is neither a logic nor a protection program. -/
theorem State.endNow_plain {s : State} {l f : Nat} (logic : s.logicAt l (s.home l f) = none)
    (prot : s.protAt l (s.home l f) = none) :
    s.endNow l f = (((s.endItem l f).atBoundary l f).takeQueued l f).lensRest l := by
  obtain ⟨noLogic, noProt⟩ := State.logicAt_congr ((s.endItem_effect l f).same .svc rfl) l (s.home l f)
  rw [logic] at noLogic
  rw [prot] at noProt
  have phase : (if (s.facets.get (fKey l f)).ticked then
      match (s.endItem l f).logicAt l (s.home l f) with
      | some p => (s.endItem l f).logicEnd p
      | none => match (s.endItem l f).protAt l (s.home l f) with
        | some i => (s.endItem l f).protEnd i (s.home l f)
        | none => s.endItem l f
      else s.endItem l f) = s.endItem l f := by
    rw [noLogic, noProt]
    exact ite_self _
  exact congrArg (fun t : State => ((t.atBoundary l f).takeQueued l f).lensRest l) phase

/-- The facet when its work item has ended. -/
def FacetSt.ended (x : FacetSt) : FacetSt := { x.endItem with pc := x.pc + 1 }

theorem State.ended_facets (s : State) (l f : Nat) :
    ((s.advance l f).endItem l f).facets = s.facets.set (fKey l f) (s.facets.get (fKey l f)).ended := by
  rw [State.endItem_facets, State.advance_facet, State.advance, State.updFacet_facets, Tbl.upd, Tbl.set_set]
  rfl

theorem State.ended_effect (s : State) (l f : Nat) : Effect 0x40000000C0 s ((s.advance l f).endItem l f) :=
  ((s.advance_effect l f).mono rfl).go (State.endItem_effect ..) rfl

theorem State.ended_boundary {s : State} {l f : Nat} (good : (s.facets.get (fKey l f)).testFailed = false) :
    ((s.advance l f).endItem l f).atBoundary l f = (s.advance l f).endItem l f := by
  refine if_neg ?_
  rw [State.ended_facets, Tbl.get_set_same]
  exact Bool.eq_false_iff.1 good

section
variable {s : State} {l : Fin 16} {f : Fin 64} (run : s.running l f = true)
  (flat : (s.facets.get (fKey l f)).stack = []) (logic : s.logicAt l (s.home l f) = none)
  (prot : s.protAt l (s.home l f) = none)
include run flat logic prot

theorem exec_end_plain : exec (.end_ l f 0) s =
    .next (((((s.advance l f).endItem l f).atBoundary l f).takeQueued l f).lensRest l) := by
  show execEnd l f 0 s = _
  have same := State.logicAt_congr (s := s) (t := s.advance l f) rfl l (s.home l f)
  rw [execEnd, if_neg (not_not.2 rfl), if_neg (not_not.2 flat), State.facetSys_advances run,
    State.endNow_plain (by rw [State.advance_home, same.1, logic]) (by rw [State.advance_home, same.2, prot])]

/-- A facet whose rolling self-test has failed is fenced at the end of its work item (R101). -/
theorem end_fences (failed : (s.facets.get (fKey l f)).testFailed = true) :
    s.Gives (.end_ l f 0) [.facets, .progs, .lenses, .recs, .fencedFlash] fun t =>
      (t.facets.get (fKey l f)).run = .fenced ∧ (t.facets.get (fKey l f)).fault = .selftestFail := by
  let u := (s.advance l f).endItem l f
  have facet : u.facets.get (fKey l f) = (s.facets.get (fKey l f)).ended := by rw [State.ended_facets, Tbl.get_set_same]
  have boundary : u.atBoundary l f = u.hwFault l f .selftestFail := if_pos (by rw [facet]; exact failed)
  have gated : (u.facets.get (fKey l f)).run ≠ .fenced := by rw [facet]; nofun
  have fenced := State.hwFault_facets gated .selftestFail
  have takes : (u.atBoundary l f).takeQueued l f = u.atBoundary l f := by
    rcases (u.atBoundary l f).takeQueued_cases l f with e | ⟨_, _, _, h, _⟩
    · exact e
    · rw [boundary, fenced, Tbl.get_set_same] at h
      cases h
  have e := exec_end_plain run flat logic prot
  rw [show ((s.advance l f).endItem l f).atBoundary l f = u.atBoundary l f from rfl, takes] at e
  refine ((((s.ended_effect ..).mono rfl).go (State.atBoundary_effect ..) rfl).go (State.lensRest_effect ..) rfl :
    Effect 0x40000003C0 s _).gives rfl e ?_
  rw [State.lensRest_facets, boundary, fenced, Tbl.get_set_same]
  exact ⟨rfl, rfl⟩

theorem end_gates (good : (s.facets.get (fKey l f)).testFailed = false)
    (idle : (s.facets.get (fKey l f)).hasEvent = false) :
    s.Gives (.end_ l f 0) [.facets, .progs, .lenses, .recs] fun t =>
      t.facets.get (fKey l f) = (s.facets.get (fKey l f)).ended := by
  have e := exec_end_plain run flat logic prot
  rw [State.ended_boundary good, State.takeQueued_idle (by rw [State.ended_facets, Tbl.get_set_same]; exact idle)] at e
  refine (((s.ended_effect ..).mono rfl).go (State.lensRest_effect ..) rfl : Effect 0x40000001C0 s _).gives rfl e ?_
  rw [State.lensRest_facets, State.ended_facets, Tbl.get_set_same]

/-- A queued event wakes the facet at the entry word of its cause. -/
theorem end_wakes (good : (s.facets.get (fKey l f)).testFailed = false) {c : WakeCause}
    (queued : (s.facets.get (fKey l f)).ended.cause = some c) :
    s.Gives (.end_ l f 0) [.facets, .progs, .lenses, .recs] fun t =>
      (t.facets.get (fKey l f)).run = .active ∧ (t.facets.get (fKey l f)).pc = causeEntry c := by
  have facet : ((s.advance l f).endItem l f).facets.get (fKey l f) = (s.facets.get (fKey l f)).ended := by
    rw [State.ended_facets, Tbl.get_set_same]
  have e := exec_end_plain run flat logic prot
  rw [State.ended_boundary good] at e
  have inRun : (((s.advance l f).endItem l f).lenses.get l).pstate = .run := by
    rw [(s.ended_effect l f).same .lenses rfl]
    exact State.inRun_of_running run
  obtain ⟨m, n, woken⟩ := State.takeQueued_woken inRun (by rw [facet]; rfl) (by rw [facet]; exact queued)
  refine ((((s.ended_effect ..).mono rfl).go (State.takeQueued_effect ..) rfl).go (State.lensRest_effect ..) rfl :
    Effect 0x40000001C0 s _).gives rfl e ?_
  rw [State.lensRest_facets, woken, Tbl.get_set_same, facet]
  exact ⟨rfl, rfl⟩

end

/-- After END the queued event with the first entry word is taken (R81). -/
theorem FacetSt.ended_cause {x : FacetSt} (h : x.hasEvent = true) :
    ∃ c, x.ended.cause = some c ∧ causeEntry c = if x.qTick then 0 else if x.qStream then 1 else 2 := by
  have admits (c : WakeCause) : x.ended.admits c = isQueued x c := by
    cases c <;> simp [FacetSt.admits, isQueued, gateAdmits, FacetSt.ended, FacetSt.endItem]
  rw [FacetSt.cause_eq, admits, admits, admits]
  simp only [isQueued]
  by_cases tick : x.qTick = true
  · exact ⟨.tick, if_pos tick, (if_pos tick).symm⟩
  · by_cases stream : x.qStream = true
    · exact ⟨.stream, (if_neg tick).trans (if_pos stream), ((if_neg tick).trans (if_pos stream)).symm⟩
    · have message : x.qMessage = true := by simpa [FacetSt.hasEvent, tick, stream] using h
      exact ⟨.message, (if_neg tick).trans ((if_neg stream).trans (if_pos message)),
        ((if_neg tick).trans (if_neg stream)).symm⟩

/-! ## FACET_WAKE (R78, R81, R105) -/

section
variable {l : Fin 16} {f : Fin 64} {c : WakeCause} {s : State} (here : s.host l (s.home l f) = f)
include here

/-- A gated facet of a lens in RUN that admits the cause becomes ACTIVE. -/
theorem facetWake_wakes (gated : (s.facets.get (fKey l f)).run = .gated) (inRun : (s.lenses.get l).pstate = .run)
    (admits : gateAdmits (s.facets.get (fKey l f)) c = true) :
    s.Gives (.facetWake l f c) [.facets, .progs] fun t => ∃ m n, t.facets = s.facets.set (fKey l f)
      { (s.facets.get (fKey l f)).woken c with dmem := m, loaded := n } := by
  have woken : exec (.facetWake l f c) s = .next (s.wakeNow l f c s.tai) := by
    show Host.Outcome.next (s.raise l (s.home l f) c) = _
    rw [State.raise_wakes ⟨by rw [here]; exact gated, inRun, by rw [here]; exact admits⟩, here]
  exact (s.wakeNow_effect l f c s.tai).gives rfl woken (s.wakeNow_woken l f c s.tai)

/-- An event that waits: its cause is queued with its instant, and a sleeping lens wakes. -/
theorem facetWake_queues (waits : s.raise l (s.home l f) c = s.queueWake l (s.host l (s.home l f)) c) :
    s.Gives (.facetWake l f c) [.facets, .lenses] fun t =>
      t.facets = s.facets.set (fKey l f) (queueEvent (s.facets.get (fKey l f)) c s.tai) ∧
      ((s.lenses.get l).pstate = .idle ∨ (s.lenses.get l).pstate = .retain →
        (t.lenses.get l).waking = some ((s.lenses.get l).waking.getD s.now)) := by
  rw [here] at waits
  exact (s.queueWake_effect l f c).gives rfl (congrArg Host.Outcome.next waits)
    ⟨s.queueWake_facets l f c, State.queueWake_wakes⟩

end

/-- What a wake shows of its facet: it executes, its event is taken, and a tick that resumes a work item which has had its
own ends the status bits of the cycle before (R85). -/
theorem FacetSt.woken_shows (x : FacetSt) (c : WakeCause) (m : List Host.Cell) (n : Nat) :
    let y := { x.woken c with dmem := m, loaded := n }
    let kept := !(x.ticked && decide (c = .tick))
    y.run = .active ∧ isQueued y c = false ∧
    (y.firstCycle = (x.firstCycle && kept) ∧ y.replayed = (x.replayed && kept) ∧ y.restored = (x.restored && kept)) ∧
    y.pc = (match x.gate with
      | .ended => match c with | .tick => 0 | .stream => 1 | .message => 2
      | .waiting _ => x.pc) := by
  intro y kept
  have same : kept = !(decide (c = .tick) && x.ticked) := congrArg (!·) (Bool.and_comm ..)
  refine ⟨rfl, by cases c <;> rfl, ?_, ?_⟩
  · rw [same]
    exact ⟨rfl, rfl, rfl⟩
  · show (if decide (x.gate = .ended) = true then causeEntry c else x.pc) = _
    cases x.gate with
    | ended => cases c <;> rfl
    | waiting => rfl

/-- A wake after WAIT goes on at the next word with LA and the stack, and takes the first event of its mask. -/
theorem FacetSt.waitAt_takes (x : FacetSt) (m : BitVec 3) :
    let tick := x.qTick && m.getLsbD 0
    let stream := x.qStream && m.getLsbD 1
    let msg := x.qMessage && m.getLsbD 2
    (tick = false → stream = false → msg = false → (x.waitAt m).cause = none) ∧
    ((tick || stream || msg) = true → ∃ c, (x.waitAt m).cause = some c ∧ ∀ (d : List Host.Cell) (n : Nat),
      let y := { (x.waitAt m).woken c with dmem := d, loaded := n }
      y.run = .active ∧ y.pc = x.pc + 1 ∧ y.la = x.la ∧ y.stack = x.stack ∧ y.qTick = (x.qTick && !tick) ∧
        y.qStream = (x.qStream && (tick || !stream)) ∧ y.qMessage = (x.qMessage && (tick || stream || !msg))) := by
  intro tick stream msg
  have cause : (x.waitAt m).cause = if tick then some .tick else if stream then some .stream
    else if msg then some .message else none := FacetSt.cause_eq _
  rw [cause]
  refine ⟨fun ht hs hm => by simp [ht, hs, hm], fun taken => ?_⟩
  cases ht : tick with
  | true => exact ⟨.tick, rfl, fun d n => ⟨rfl, rfl, rfl, rfl, (Bool.and_false _).symm, (Bool.and_true _).symm,
      (Bool.and_true _).symm⟩⟩
  | false =>
    cases hs : stream with
    | true => exact ⟨.stream, rfl, fun d n => ⟨rfl, rfl, rfl, rfl, (Bool.and_true _).symm, (Bool.and_false _).symm,
        (Bool.and_true _).symm⟩⟩
    | false =>
      have hm : msg = true := by simpa [ht, hs] using taken
      rw [hm]
      exact ⟨.message, rfl, fun d n => ⟨rfl, rfl, rfl, rfl, (Bool.and_true _).symm, (Bool.and_true _).symm,
        (Bool.and_false _).symm⟩⟩

/-- Settles O16: WAIT and END by the event that the facet takes (`FacetSt.cause`), FACET_WAKE by what an event does to the
facet that holds the program. -/
theorem waitsEndsAndWakes : Obligations.WaitsEndsAndWakes := by
  unfold Obligations.WaitsEndsAndWakes
  refine ⟨fun l f w s run => ?_, fun l f c s => ?_⟩
  · intro k x m tick stream msg
    obtain ⟨idle, takes⟩ := x.waitAt_takes m
    refine ⟨fun zero ht hs hm => wait_gates run zero (idle ht hs hm), fun zero queued => ?_,
      fun flat logic prot => ⟨end_fences run flat logic prot, end_gates run flat logic prot, fun good queued => ?_⟩⟩
    · obtain ⟨c, cause, shows⟩ := takes queued
      obtain ⟨t, e, frame, d, n, facets⟩ := wait_takes run zero cause
      have own : t.facets.get k = { (x.waitAt m).woken c with dmem := d, loaded := n } := by
        rw [facets, Tbl.get_set_same]
      refine ⟨t, e, frame, fun j hj => by rw [facets, Tbl.get_set_other _ _ (Ne.symm hj)], ?_⟩
      rw [own]
      exact shows d n
    · obtain ⟨c, cause, entry⟩ := FacetSt.ended_cause queued
      exact entry ▸ end_wakes run flat logic prot good cause
  · intro x here inRun
    refine ⟨fun gated lens admits => ?_, fun gated waits => ?_, fun active => ?_, fun lost => ?_, fun fenced other => ?_⟩
    · obtain ⟨t, e, frame, d, n, facets⟩ := facetWake_wakes here gated lens admits
      have own : t.facets.get (fKey l f) = { x.woken c with dmem := d, loaded := n } := by rw [facets, Tbl.get_set_same]
      obtain ⟨run, taken, status, pc⟩ := x.woken_shows c d n
      refine ⟨t, e, frame, ?_⟩
      dsimp only
      rw [own]
      exact ⟨run, taken, status, pc, fun j hj => by rw [facets, Tbl.get_set_other _ _ (Ne.symm hj)]⟩
    · exact facetWake_queues here (State.raise_gated (by rw [here]; exact gated) fun w => waits (by
        obtain ⟨-, lens, admits⟩ := w
        rw [here] at admits
        exact ⟨lens, admits⟩))
    · refine congrArg Host.Outcome.next ((State.raise_active (by rw [here]; exact active)).trans ?_)
      rw [here]
    · refine congrArg Host.Outcome.next ?_
      obtain stopped | ⟨fenced, tick⟩ := lost
      · exact State.raise_stopped (by rw [here]; exact stopped)
      · rw [State.raise_fenced (by rw [here]; exact fenced), if_pos tick]
    · exact facetWake_queues here ((State.raise_fenced (by rw [here]; exact fenced)).trans (if_neg other))

end Sys2Proof.Machine
end

section
/-! SUPPORT. Messages (R96, R239): the bytes of a message as they leave, and its way through the switch core. -/

namespace Sys2Proof.Machine

/-! ## The bytes of a message (R96) -/

/-- The message that leaves: the slot at `a` with the queue, the sender and the sequence number filled in. -/
def outgoing (m : List Host.Cell) (a q sender n : Nat) : List Byte :=
  overlay (overlay (memBytes m a 64) 2 (leBytes 1 q)) 4 (leBytes 2 sender ++ leBytes 2 n)

theorem memBytes_slot (m : List Host.Cell) (a : Nat) : memBytes m a 64 =
    [memGet m a, memGet m (a + 1), memGet m (a + 2), memGet m (a + 3), memGet m (a + 4), memGet m (a + 5),
      memGet m (a + 6), memGet m (a + 7)] ++ memBytes m (a + 8) 56 := rfl

theorem slot_lens (m : List Host.Cell) (a : Nat) : leNat (bytesAt (memBytes m a 64) 0 1) = (memGet m a).toNat := by
  simp [memBytes_slot, bytesAt, leNat]

theorem slot_facet (m : List Host.Cell) (a : Nat) : leNat (bytesAt (memBytes m a 64) 1 1) = (memGet m (a + 1)).toNat := by
  simp [memBytes_slot, bytesAt, leNat]

theorem outgoing_eq (m : List Host.Cell) (a q sender n : Nat) : outgoing m a q sender n =
    [memGet m a, memGet m (a + 1), BitVec.ofNat 8 q, memGet m (a + 3)] ++ (leBytes 2 sender ++ leBytes 2 n) ++
      memBytes m (a + 8) 56 := by
  simp [outgoing, memBytes_slot, overlay, bytesAt, leBytes]

theorem outgoing_fields (m : List Host.Cell) (a q sender n : Nat) :
    let r := outgoing m a q sender n
    r.length = 64 ∧ r.take 2 = memBytes m a 2 ∧ r[2]? = some (BitVec.ofNat 8 q) ∧ r.drop 8 = memBytes m (a + 8) 56 ∧
      (r.drop 4).take 4 = leBytes 2 sender ++ leBytes 2 n := by
  intro r
  have e : r = _ := outgoing_eq m a q sender n
  rw [e]
  simp [leBytes, memBytes]

/-! ## The way to another lens (R239, R246) -/

/-- A sampler changes nothing of the switch core but its own counts (R246). -/
theorem State.glintSee_swc (s : State) (p dir : Nat) (fr : EthFrame) (f : Fate) :
    ∃ g r, (s.glintSee p dir fr f).swc = { s.swc with glint := g, glintRate := r } := by
  unfold State.glintSee
  dsimp only
  split
  · exact ⟨s.swc.glint, s.swc.glintRate, rfl⟩
  · split
    · exact ⟨_, s.swc.glintRate, rfl⟩
    · have written := (s.putRecord_effect (s.swc.glint.get p).slice (s.swc.glint.get p).ring s.ts 2 p
        (glintRecord s.ts p dir fr f (((s.swc.glint.get p).sampleNo + 1) % 2 ^ 32) (s.swc.glint.get p).skipped)).same
        .swc rfl
      split
      · exact ⟨_, _, rfl⟩
      · split
        · split <;> exact ⟨_, _, rfl⟩
        · exact ⟨_, _, by rw [State.updSwc_swc, written]⟩

/-- The message joins the TC4 queue of the destination's lens port, behind what waits there. -/
theorem State.sendLens_queue (s : State) (l dl df q : Nat) (slot : List Byte) :
    ∃ e, (s.sendLens l dl df q slot).queue (8 + dl) 4 = s.queue (8 + dl) 4 ++ [e] ∧
      ∃ z ∈ (s.sendLens l dl df q slot).swc.stored, z.id = e.id ∧ z.frame.app = some (.message df q slot) := by
  unfold State.sendLens
  dsimp only
  obtain ⟨g, r, swc⟩ := State.glintSee_swc (((s.store _).1).push (8 + dl) 4 _) (8 + l) 0 _ { cls := 4, admitted := 1 }
  rw [State.queue, swc]
  refine ⟨_, Tbl.get_upd_same .., _, List.mem_append_right _ (List.mem_singleton_self _), rfl, rfl⟩

theorem State.sendLens_unsampled {s : State} {l : Nat}
    (h : ¬ ((s.swc.glint.get (8 + l)).dir = 1 ∧ (s.swc.glint.get (8 + l)).n ≠ 0)) (dl df q : Nat) (slot : List Byte) :
    Effect 0x200000000 s (s.sendLens l dl df q slot) := by
  unfold State.sendLens
  dsimp only
  refine (congrArg (Effect 0x200000000 s) (State.glintSee_idle ?_ _ _)).mpr ?_
  · exact h
  · exact (s.store_effect _).go (State.push_effect ..) rfl

end Sys2Proof.Machine
end

section
/-! PROOF. SEND and RECV (O18). -/

namespace Sys2Proof.Machine

/-! ## SEND (R95 to R97, R239) -/

/-- The sequence number of the sender's next message to a queue (R96). -/
def State.txNext (s : State) (l f key : Nat) : Nat := (findRow (s.progs.get (fKey l (s.home l f))).txSeq key).getD 0

/-- The sender goes on to the next sequence number. -/
def State.countSent (s : State) (l f key : Nat) : State :=
  s.updProg l (s.home l f) fun p => { p with txSeq := putRow p.txSeq key ((s.txNext l f key + 1) % 65536) }

theorem State.countSent_txSeq (s : State) (l f key : Nat) :
    findRow ((s.countSent l f key).progs.get (fKey l (s.home l f))).txSeq key =
      some ((s.txNext l f key + 1) % 65536) := by
  rw [State.countSent, State.updProg_progs, Tbl.get_upd_same]
  exact (findRow_putRow ..).trans (if_pos rfl)

/-- LA says whether a message was sent or received. -/
def State.setLa (s : State) (l f : Nat) (v : Bool) : State := s.updFacet l f fun x => { x with la := v }

theorem State.setLa_effect (s : State) (l f : Nat) (v : Bool) : Effect 0x40 s (s.setLa l f v) :=
  s.updFacet_effect l f _ fun _ h => h

section
variable (s : State) (l f q a : Nat)

/-- The destination that the slot at `a` names has room in queue `q`. -/
def State.hasRoom : Prop :=
  let m := (s.facets.get (fKey l f)).dmem
  (memGet m a).toNat < 16 ∧ (memGet m (a + 1)).toNat < 64 ∧
    s.queueRoom (memGet m a).toNat (memGet m (a + 1)).toNat q = true

/-- The message of the slot at `a` as it leaves. -/
def State.outgoing (key : Nat) : List Byte :=
  Machine.outgoing (s.facets.get (fKey l f)).dmem a q (fKey l (s.home l f)) (s.txNext l f key)

theorem State.sendMsg_sends (room : s.hasRoom l f q a) :
    let m := (s.facets.get (fKey l f)).dmem
    let dl := (memGet m a).toNat
    let df := (memGet m (a + 1)).toNat
    let key := fKey dl df * 4 + q
    s.sendMsg l f q a = ((if dl = l
      then (s.countSent l f key).updLens dl fun y => { y with inbound := y.inbound ++ [(df, q, s.outgoing l f q a key)] }
      else (s.countSent l f key).sendLens l dl df q (s.outgoing l f q a key)).setLa l f true) := by
  unfold State.sendMsg
  dsimp only
  rw [slot_lens, slot_facet]
  exact if_pos room

theorem State.sendMsg_full (full : ¬ s.hasRoom l f q a) :
    s.sendMsg l f q a = (s.updLens l fun y => { y with fltMsgFull := sat32 y.fltMsgFull 1 }).setLa l f false := by
  unfold State.sendMsg
  dsimp only
  rw [slot_lens, slot_facet]
  exact if_neg full

end

theorem msgCheck_ok {x : FacetSt} {w : BitVec 26} {write : Bool} (zero : fld w 25 5 = 0)
    (slot : badSlot (pReg x (fld w 2 0)).toNat write = false) : msgCheck x w write = none := by
  rw [msgCheck, if_neg (not_not.2 zero), slot]
  rfl

section
variable {s : State} {l : Fin 16} {f : Fin 64} {w : BitVec 26} (run : s.running l f = true) (zero : fld w 25 5 = 0)
include run zero

theorem exec_send (slot : badSlot (pReg (s.facets.get (fKey l f)) (fld w 2 0)).toNat false = false) :
    exec (.send l f w) s = .next ((s.advance l f).sendMsg l f (fld w 4 3)
      (pReg (s.facets.get (fKey l f)) (fld w 2 0)).toNat) := by
  show execSend l f w s = _
  rw [execSend, msgCheck_ok zero slot, State.facetSys_advances run]

theorem exec_recv (slot : badSlot (pReg (s.facets.get (fKey l f)) (fld w 2 0)).toNat true = false) :
    exec (.recv l f w) s = .next ((s.advance l f).recvMsg l f (fld w 4 3)
      (pReg (s.facets.get (fKey l f)) (fld w 2 0)).toNat) := by
  show execRecv l f w s = _
  rw [execRecv, msgCheck_ok zero slot, State.facetSys_advances run]

end

/-! ## What SEND leaves -/

/-- The parts that a SEND to lens `dl` may change: those of a message inside the lens, or those of the switch core and, where
a sampler looks at the frame, of its record (R246). -/
def State.sendParts (s : State) (l dl : Nat) : List Part :=
  let g := s.swc.glint.get (8 + l)
  if dl = l then [.facets, .progs, .lenses]
  else if g.dir = 1 ∧ g.n ≠ 0 then [.facets, .progs, .swc, .freeIdx, .hif, .recs, .outputs]
  else [.facets, .progs, .swc]

/-- The message is on its way: queued at the destination where it stays in its lens, else in the TC4 queue of that lens's
port. -/
def State.onItsWay (s t : State) (l dl df q : Nat) (m : List Byte) : Prop :=
  (dl = l → (t.lenses.get dl).inbound = (s.lenses.get dl).inbound ++ [(df, q, m)]) ∧
  (dl ≠ l → ∃ e, t.queue (8 + dl) 4 = s.queue (8 + dl) 4 ++ [e] ∧
    ∃ z ∈ t.swc.stored, z.id = e.id ∧ z.frame.app = some (.message df q m))

/-- The message is put on its way: inside its lens, or to another one. -/
def State.dispatch (s : State) (l dl df q : Nat) (m : List Byte) : State :=
  if dl = l then s.updLens dl fun y => { y with inbound := y.inbound ++ [(df, q, m)] } else s.sendLens l dl df q m

theorem State.dispatch_onItsWay (s : State) (l dl df q : Nat) (m : List Byte) :
    s.onItsWay (s.dispatch l dl df q m) l dl df q m := by
  refine ⟨fun local_ => ?_, fun remote => ?_⟩
  · rw [State.dispatch, if_pos local_, State.updLens_lenses, Tbl.get_upd_same]
  · rw [State.dispatch, if_neg remote]
    exact s.sendLens_queue ..

/-- A message on its way changes no facet and no program. -/
theorem State.dispatch_effect (s : State) (l dl df q : Nat) (m : List Byte) :
    Effect 0x45200000102 s (s.dispatch l dl df q m) :=
  Effect.ite (fun _ => (State.updLens_effect ..).mono rfl) fun _ => (State.sendLens_effect ..).mono rfl

theorem State.dispatch_frame {s t u : State} {l dl df q : Nat} {m : List Byte} (sent : Effect 0xC0 s t)
    (answered : Effect 0x40 (t.dispatch l dl df q m) u) : s.ChangesOnly (s.sendParts l dl) u := by
  have glint : t.swc = s.swc := sent.same .swc rfl
  unfold State.dispatch at answered
  unfold State.sendParts
  dsimp only
  split
  · next local_ =>
    rw [if_pos local_] at answered
    exact (((sent.mono rfl).go (State.updLens_effect ..) rfl).go answered rfl : Effect 0x1C0 s u).frame rfl
  · next remote =>
    rw [if_neg remote] at answered
    split
    · exact (((sent.mono rfl).go (State.sendLens_effect ..) rfl).go answered rfl : Effect 0x452000000C2 s u).frame rfl
    · next unseen =>
      rw [← glint] at unseen
      exact (((sent.mono rfl).go (State.sendLens_unsampled unseen ..) rfl).go answered rfl :
        Effect 0x2000000C0 s u).frame rfl

section
variable {s : State} {l : Fin 16} {f : Fin 64} {w : BitVec 26} (run : s.running l f = true) (zero : fld w 25 5 = 0)
include run zero

theorem send_sends (slot : badSlot (pReg (s.facets.get (fKey l f)) (fld w 2 0)).toNat false = false)
    (room : s.hasRoom l f (fld w 4 3) (pReg (s.facets.get (fKey l f)) (fld w 2 0)).toNat) :
    let x := s.facets.get (fKey l f)
    let q := fld w 4 3
    let a := (pReg x (fld w 2 0)).toNat
    let dl := (memGet x.dmem a).toNat
    let df := (memGet x.dmem (a + 1)).toNat
    let key := fKey dl df * 4 + q
    s.Gives (.send l f w) (s.sendParts l dl) fun t =>
      t.facets.get (fKey l f) = { x with pc := x.pc + 1, la := true } ∧
      s.onItsWay t l dl df q (s.outgoing l f q a key) ∧
      findRow (t.progs.get (fKey l (s.home l f))).txSeq key = some ((s.txNext l f key + 1) % 65536) := by
  intro x q a dl df key
  let u := (s.advance l f).countSent l f key
  let m := s.outgoing l f q a key
  let v := u.dispatch l dl df q m
  have dmem : ((s.advance l f).facets.get (fKey l f)).dmem = x.dmem := by rw [State.advance_facet]
  have home : (s.advance l f).home l f = s.home l f := s.advance_home l f
  have next (k : Nat) : (s.advance l f).txNext l f k = s.txNext l f k := by simp [State.txNext]
  have same : (s.advance l f).outgoing l f q a key = m := by simp only [State.outgoing, dmem, home, next, m, x]
  have roomy : (s.advance l f).hasRoom l f q a := by
    unfold State.hasRoom
    rw [dmem]
    exact room
  have e : exec (.send l f w) s = .next (v.setLa l f true) := by
    rw [exec_send run zero slot]
    have sends := State.sendMsg_sends (s.advance l f) l f q a roomy
    dsimp only at sends
    rw [dmem, same] at sends
    exact congrArg _ sends
  have counted : Effect 0xC0 s u :=
    ((s.advance_effect l f).mono rfl).go (State.updProg_effect ..) rfl
  have kept : Effect 0x45200000102 u v := u.dispatch_effect ..
  refine ⟨_, e, State.dispatch_frame counted (v.setLa_effect l f true), ?_, ?_, ?_⟩
  · rw [State.setLa, State.updFacet_facets, Tbl.get_upd_same, kept.same .facets rfl]
    exact congrArg (fun y : FacetSt => { y with la := true }) (s.advance_facet l f)
  · exact u.dispatch_onItsWay l dl df q m
  · rw [show (v.setLa l f true).progs = u.progs from kept.same .progs rfl, ← home, ← next]
    exact State.countSent_txSeq ..

theorem send_full (slot : badSlot (pReg (s.facets.get (fKey l f)) (fld w 2 0)).toNat false = false)
    (full : ¬ s.hasRoom l f (fld w 4 3) (pReg (s.facets.get (fKey l f)) (fld w 2 0)).toNat) :
    let x := s.facets.get (fKey l f)
    s.Gives (.send l f w) [.facets, .lenses] fun t =>
      t.facets.get (fKey l f) = { x with pc := x.pc + 1, la := false } ∧
      t.lenses = s.lenses.upd l fun z => { z with fltMsgFull := min (z.fltMsgFull + 1) 0xFFFFFFFF } := by
  intro x
  have still : ¬ (s.advance l f).hasRoom l f (fld w 4 3) (pReg x (fld w 2 0)).toNat := by
    unfold State.hasRoom
    rw [State.advance_facet]
    exact full
  have e := exec_send run zero slot
  rw [State.sendMsg_full _ _ _ _ _ still] at e
  refine ((((s.advance_effect l f).mono rfl).go (State.updLens_effect ..) rfl).go (State.setLa_effect ..) rfl :
    Effect 0x140 s _).gives rfl e ⟨?_, rfl⟩
  rw [State.setLa, State.updFacet_facets, Tbl.get_upd_same, State.updLens_facets, State.advance_facet]

/-! ## RECV (R95) -/

theorem recv_empty (slot : badSlot (pReg (s.facets.get (fKey l f)) (fld w 2 0)).toNat true = false)
    (empty : ((s.progs.get (fKey l (s.home l f))).rxq.toList[fld w 4 3]?).getD [] = []) :
    let x := s.facets.get (fKey l f)
    s.Gives (.recv l f w) [.facets] fun t => t.facets.get (fKey l f) = { x with pc := x.pc + 1, la := false } := by
  intro x
  have e := exec_recv run zero slot
  simp only [State.recvMsg, State.advance_home, State.advance_progs, empty] at e
  refine ((s.advance_effect l f).go (State.setLa_effect _ l f false) rfl : Effect 0x40 s _).gives rfl e ?_
  rw [State.setLa, State.updFacet_facets, Tbl.get_upd_same, State.advance_facet]

theorem recv_takes (slot : badSlot (pReg (s.facets.get (fKey l f)) (fld w 2 0)).toNat true = false) {m : List Byte}
    {r : List (List Byte)} (queue : ((s.progs.get (fKey l (s.home l f))).rxq.toList[fld w 4 3]?).getD [] = m :: r) :
    let x := s.facets.get (fKey l f)
    s.Gives (.recv l f w) [.facets, .progs] fun t =>
      t.facets.get (fKey l f) =
        { x with pc := x.pc + 1, la := true, dmem := memPutSlot x.dmem (pReg x (fld w 2 0)).toNat m } ∧
      t.progs = s.progs.upd (fKey l (s.home l f)) fun p => { p with rxq := p.rxq.setIfInBounds (fld w 4 3) r } := by
  intro x
  have e := exec_recv run zero slot
  simp only [State.recvMsg, State.advance_home, State.advance_progs, queue] at e
  refine ((((s.advance_effect l f).mono rfl).go (State.updProg_effect ..) rfl).go
    (State.updFacet_effect _ _ _ _ fun _ h => memPutSlot_wf _ _ h) rfl : Effect 0xC0 s _).gives rfl e ⟨?_, rfl⟩
  rw [State.updFacet_facets, Tbl.get_upd_same, State.updProg_facets, State.advance_facet]

end

/-- Settles O18: SEND by the room at its destination, RECV by its queue. -/
theorem sendAndReceiveMessages : Obligations.SendAndReceiveMessages := by
  unfold Obligations.SendAndReceiveMessages
  intro l f w s run zero k h x q a dl df key n room y sent g parts
  refine ⟨fun slot has => ?_, fun slot full => send_full run zero slot full, fun slot =>
    ⟨recv_empty run zero slot, fun m r => recv_takes run zero slot⟩⟩
  obtain ⟨t, e, frame, facet, way, seq⟩ := send_sends run zero slot has
  obtain ⟨inside, across⟩ := way
  exact ⟨t, e, frame, facet, ⟨_, outgoing_fields x.dmem a q (fKey l h) n, inside, across⟩, seq⟩

end Sys2Proof.Machine
end

section
/-! SUPPORT. The state of a logic program (R109 to R116): what SNAPSHOT, COMMIT, a stop, a restore and a cold start leave of
it, each as one change of the program. -/

namespace Sys2Proof.Machine

theorem State.pkg_of_svc {s t : State} (h : t.svc = s.svc) : t.pkg = s.pkg := congrArg Svc.pkg h

/-! ## SNAPSHOT (R109, R124) -/

/-- Copying a station changes only what the cycle's snapshot holds. -/
theorem State.copyStn_logic (s : State) (p i : Nat) : ∃ r im q n, (s.copyStn p i).logic = s.logic.upd p fun x =>
    { x with copied := x.copied ++ r, copiedImgs := x.copiedImgs ++ im, copiedQual := x.copiedQual ++ q
             copiedN := x.copiedN + n } := by
  refine ⟨(s.stnAge i).2.stnRecord i (s.stnAge i).1, (s.stnAge i).2.stnImage i, (s.stnAge i).2.stnQuality i, 1, ?_⟩
  unfold State.copyStn
  dsimp only
  rw [State.updLogic_logic, (s.stnAge_effect i).same .logic rfl]

/-- SNAPSHOT of the cycle after `n` has started at this instant. -/
structure LogicSt.Snapping (now n : Nat) (y : LogicSt) : Prop where
  phase : y.phase = .snapshot
  cycle : y.cycle = n + 1
  start : y.snapStart = now

theorem State.snapStart_snapping (s : State) (p : Nat) :
    ((s.snapStart p).logic.get p).Snapping s.now (s.logic.get p).cycle := by
  unfold State.snapStart
  dsimp only
  split
  · obtain ⟨r, im, q, n, copied⟩ := State.copyStn_logic (s.updLogic p fun x =>
      { x with phase := .snapshot, cycle := x.cycle + 1, snapStart := s.now, copied := [], copiedImgs := [],
               copiedQual := [], copiedN := 0 }) p (by assumption)
    rw [copied, Tbl.get_upd_same, State.updLogic_logic, Tbl.get_upd_same]
    exact ⟨rfl, rfl, rfl⟩
  · rw [State.updLogic_logic, Tbl.get_upd_same]
    exact ⟨rfl, rfl, rfl⟩

/-! ## EXECUTE (R109, R120) -/

theorem State.retimeTimers_logic (s : State) (p : Nat) :
    (s.retimeTimers p).logic.get p = { s.logic.get p with retime := false } := by
  unfold State.retimeTimers
  dsimp only
  split
  · rw [State.updLogic_logic, Tbl.get_upd_same, State.updFacet_logic]
  · next h => rw [← (Bool.not_eq_true _).mp h]

/-- A tick that wakes a Focus assistant opens its computing phase; no other program changes (log 62). -/
theorem State.raise_tick_prog (s : State) (l h j : Nat) : (s.raise l h .tick).progs.get j = s.progs.get j ∨
    (s.raise l h .tick).progs.get j = { s.progs.get j with computing := true, outDone := false } := by
  by_cases w : s.wakesAtOnce l h .tick
  · rw [State.raise_wakes w]
    unfold State.wakeNow
    dsimp only
    rw [if_neg (show ¬ WakeCause.tick = .stream by decide)]
    split
    · rw [State.updProg_progs, Tbl.get_upd]
      split
      · next same => subst same; exact .inr rfl
      · exact .inl rfl
    · exact .inl rfl
  · rw [(State.raise_queues w).1]
    exact .inl rfl

theorem State.execBegin_logic (s : State) (p : Nat) : ∃ ts, (s.execBegin p).logic.get p =
    { s.logic.get p with retime := false, phase := .execute, tickTs := ts } := by
  unfold State.execBegin
  dsimp only
  rw [(State.raise_effect ..).same .logic rfl, State.updProg_logic, State.updLogic_logic, Tbl.get_upd_same,
    State.retimeTimers_logic]
  exact ⟨_, rfl⟩

/-- The program's cycle opens at EXECUTE: its computing phase, with no output and no seal yet. -/
theorem State.execBegin_prog (s : State) (p : Nat) :
    let k := fKey (s.pkg.logic.get p).lens (s.pkg.logic.get p).facet
    (s.execBegin p).progs.get k = { s.progs.get k with
      cycle := (s.logic.get p).cycle, computing := true, outDone := false, sealed := false } := by
  intro k
  have timed := s.retimeTimers_effect p
  unfold State.execBegin
  dsimp only
  rw [State.updLogic_logic, Tbl.get_upd_same, State.retimeTimers_logic]
  generalize hu : State.updProg _ _ _ _ = u
  have opened : u.progs.get k = { s.progs.get k with
      cycle := (s.logic.get p).cycle, computing := true, outDone := false, sealed := false } := by
    rw [← hu, State.updProg_progs, Tbl.get_upd_same, State.updLogic_progs, timed.same .progs rfl]
  rcases u.raise_tick_prog (s.pkg.logic.get p).lens (s.pkg.logic.get p).facet k with e | e <;> rw [e, opened]

/-! ## COMMIT (R109, R112) -/

theorem State.commitImage_logic (s : State) (p : Nat) (img : List Byte) : (s.commitImage p img).logic = s.logic.upd p
    fun x => { x with image := img, committing := true, commitStart := s.now } := by
  unfold State.commitImage
  dsimp only
  rw [State.each_logic _ _ _ (by intro u b; exact u.perEvent_logic ..),
    State.each_logic _ _ _ (by intro u o; exact u.placeOutput_logic ..), State.updLogic_logic]

/-- COMMIT of a program that nobody has asked to stop freezes its image and takes its checkpoint. -/
theorem State.commitCycle_logic {s : State} {p : Nat} (goes : (s.logic.get p).stopAsked = false) :
    let c := s.pkg.logic.get p
    let q := s.progs.get (fKey c.lens c.facet)
    (s.commitCycle p).logic = s.logic.upd p fun x =>
      { x with commitDue := false, consec := 0, commitSeal := checkpoint q, image := outWindow q (s.logic.get p).cycle
               committing := true, commitStart := s.now } := by
  intro c q
  have closed (b : Bool) (u : State) (k : EpochKind) (l n ts source : Nat) (its : List Item) :
      (if b then u.closeEpoch k l n ts source its else u).logic = u.logic := by
    split
    · exact (State.closeEpoch_effect ..).same .logic rfl
    · rfl
  unfold State.commitCycle
  dsimp only
  generalize hu : State.commitImage _ _ _ = u
  have image : u.logic = s.logic.upd p fun x =>
      { x with commitDue := false, consec := 0, commitSeal := checkpoint q, image := outWindow q (s.logic.get p).cycle
               committing := true, commitStart := s.now } := by
    rw [← hu, State.commitImage_logic, State.updLogic_logic, Tbl.upd_upd]
    rfl
  rw [closed, image, Tbl.get_upd_same, if_neg (by rw [goes]; decide), closed, image]

/-- Two folds agree whose turns agree in all that they pass through. -/
theorem State.each_congr {α : Type} {P : State → Prop} {f g : State → α → State} (same : ∀ t x, P t → f t x = g t x)
    (keeps : ∀ t x, P t → P (g t x)) {s : State} (hs : P s) (xs : List α) : s.each xs f = s.each xs g := by
  unfold State.each
  induction xs generalizing s with
  | nil => rfl
  | cons x r ih => rw [List.foldl_cons, List.foldl_cons, same s x hs, ih (keeps s x hs)]

/-- The final COMMIT leaves the program in the state it is given, with the safe image. -/
theorem State.safeCommit_logic (s : State) (p : Nat) (st : LState) : (s.safeCommit p st).logic = s.logic.upd p fun x =>
    { x with st := if x.removeAsked then .none else st, phase := .idle, safeDue := none, commitDue := false
             stopAsked := false, removeAsked := false, exchPending := false, exchStart := none
             image := (s.pkg.logic.get p).safeImage, committing := true, commitStart := s.now, stopBy := [] } := by
  have told (b : Prop) [Decidable b] (u : State) : (if b then u else u.alarm .logicStopped p).logic = u.logic := by
    split
    · rfl
    · exact State.alarm_logic ..
  unfold State.safeCommit
  dsimp only
  rw [told, State.updLogic_logic, State.each_logic _ _ _ (by intro t j; exact State.complete_logic ..),
    State.commitImage_logic, State.updLogic_logic, Tbl.upd_upd, Tbl.upd_upd]
  rfl

/-- A program that is neither removed nor exchanged stops with its final COMMIT. -/
theorem State.finalCommit_plain {s : State} {p : Nat} (kept : (s.logic.get p).removeAsked = false)
    (pending : (s.logic.get p).exchPending = false) (start : (s.logic.get p).exchStart = none) (st : LState) :
    s.finalCommit p st = s.safeCommit p st := by
  rw [State.finalCommit_eq, if_neg (by simp [kept]), if_neg (by simp [pending, start])]

/-- A stop during a COMMIT: the safe image waits for its end (R112). -/
theorem State.logicStop_waits {s : State} {p : Nat} (busy : (s.logic.get p).committing = true) (st : LState) :
    (s.logicStop p st).logic = s.logic.upd p fun x =>
      { x with safeDue := some st, phase := .ended, commitDue := false } := by
  unfold State.logicStop
  dsimp only
  rw [State.lensRest_logic, State.stopFacet_logic, if_pos busy, State.updLogic_logic, State.stopFacet_logic]

/-- A stop outside a COMMIT commits the safe image at once (R112, R115). -/
theorem State.logicStop_commits {s : State} {p : Nat} (free : (s.logic.get p).committing = false)
    (kept : (s.logic.get p).removeAsked = false) (pending : (s.logic.get p).exchPending = false)
    (start : (s.logic.get p).exchStart = none) (st : LState) :
    let c := s.pkg.logic.get p
    s.logicStop p st = ((s.stopFacet c.lens (s.host c.lens c.facet)).safeCommit p st).lensRest c.lens := by
  intro c
  have same := s.stopFacet_logic c.lens (s.host c.lens c.facet)
  unfold State.logicStop
  dsimp only
  rw [same, if_neg (by rw [free]; decide),
    State.finalCommit_plain (by rw [same]; exact kept) (by rw [same]; exact pending) (by rw [same]; exact start)]

theorem State.logicStop_safe {s : State} {p : Nat} (free : (s.logic.get p).committing = false)
    (kept : (s.logic.get p).removeAsked = false) (pending : (s.logic.get p).exchPending = false)
    (start : (s.logic.get p).exchStart = none) (st : LState) :
    ((s.logicStop p st).logic.get p).st = st ∧
      ((s.logicStop p st).logic.get p).image = (s.pkg.logic.get p).safeImage := by
  have halted := s.stopFacet_effect (s.pkg.logic.get p).lens (s.host (s.pkg.logic.get p).lens (s.pkg.logic.get p).facet)
  rw [State.logicStop_commits free kept pending start, State.lensRest_logic, State.safeCommit_logic, Tbl.get_upd_same,
    State.stopFacet_logic, State.pkg_of_svc (halted.same .svc rfl)]
  exact ⟨if_neg (by simp [kept]), rfl⟩

/-! ## A cold start (R115, R121) -/

theorem State.logicColdStart_logic (s : State) (p : Nat) : (s.logicColdStart p).logic = s.logic.upd p fun x =>
    { x with startBy := [], st := .running, phase := .idle, consec := 0, commitSeal := none, startAsked := false
             stopAsked := false, safeDue := none, warm := false, commitDue := false, wdogExt := 0
             image := (s.pkg.logic.get p).initialImage } := by
  unfold State.logicColdStart
  dsimp only
  rw [State.updLogic_logic, State.each_logic _ _ _ (by simp)]
  simp only [State.updProg_logic, State.updFacet_logic, State.resetProg_logic, State.loadAt_logic]
  rw [State.each_logic _ _ _ (by simp), State.clearAlarm_logic]

/-! ## The restore (R114) -/

theorem State.logicRestore_logic (s : State) (p : Nat) : (s.logicRestore p).logic = s.logic.upd p fun x =>
    { x with phase := .restore, commitDue := false } := by
  unfold State.logicRestore
  dsimp only
  rw [(State.atBoundary_effect ..).same .logic rfl, State.updLogic_logic, State.updFacet_logic, State.updProg_logic,
    (State.loseSeal_effect ..).same .logic rfl]

theorem State.logicRestore_prog (s : State) (p : Nat) :
    ((s.logicRestore p).progs.get (fKey (s.pkg.logic.get p).lens (s.pkg.logic.get p).facet)).computing = false := by
  unfold State.logicRestore
  dsimp only
  rw [(State.atBoundary_effect ..).same .progs rfl, State.updLogic_progs, State.updFacet_progs, State.updProg_progs,
    Tbl.get_upd_same]

/-- A facet that does not execute executes no more once a failed self-test has been judged. -/
theorem State.atBoundary_idle {s : State} {l f : Nat} (h : (s.facets.get (fKey l f)).run ≠ .active) :
    ((s.atBoundary l f).facets.get (fKey l f)).run ≠ .active := by
  unfold State.atBoundary
  split
  · by_cases fenced : (s.facets.get (fKey l f)).run = .fenced
    · rw [State.hwFault_fenced fenced]
      exact h
    · rw [State.hwFault_facets fenced, Tbl.get_set_same]
      nofun
  · exact h

/-- The facet of a program that is restored is halted. -/
theorem State.logicRestore_facet (s : State) (p : Nat) :
    let c := s.pkg.logic.get p
    ((s.logicRestore p).facets.get (fKey c.lens (s.host c.lens c.facet))).run ≠ .active := by
  intro c
  unfold State.logicRestore
  dsimp only
  refine State.atBoundary_idle ?_
  rw [State.updLogic_facets, State.updFacet_facets, Tbl.get_upd_same]
  have halted (r : FRun) : (if r = .active then FRun.gated else r) ≠ .active := by
    split
    · nofun
    · assumption
  split <;> exact halted _

end Sys2Proof.Machine
end

section
/-! PROOF. The cycle of a logic program and its watchdog (O22). -/

namespace Sys2Proof.Machine

section
variable {p : Fin 64} {s : State}

/-! ## SNAPSHOT and EXECUTE (R109, R110) -/

theorem logicSnapshotStart_snapping (cycles : s.cycles p = true) (due : (s.logic.get p).phase = .idle ∨
      ((s.logic.get p).phase = .ended ∧ (s.logic.get p).commitDue = false ∧ (s.logic.get p).safeDue = none)) :
    s.Gives (.logicSnapshotStart p) [.now, .col, .freeIdx, .logic] fun t =>
      t.now = (if (s.logic.get p).phase = .idle then s.now
        else max s.now ((s.logic.get p).snapStart + (s.pkg.logic.get p).minPeriodUs * 1000)) ∧
      (t.logic.get p).phase = .snapshot ∧ (t.logic.get p).cycle = (s.logic.get p).cycle + 1 ∧
      (t.logic.get p).snapStart = t.now := by
  have starts (u : State) (same : u.logic = s.logic) (e : exec (.logicSnapshotStart p) s = .next (u.snapStart p)) :
      s.Gives (.logicSnapshotStart p) [.now, .col, .freeIdx, .logic] fun t => t.now = u.now ∧
        (t.logic.get p).phase = .snapshot ∧ (t.logic.get p).cycle = (s.logic.get p).cycle + 1 ∧
        (t.logic.get p).snapStart = t.now := by
    have now : (u.snapStart p).now = u.now := (u.snapStart_effect p).same .now rfl
    obtain ⟨phase, cycle, start⟩ := u.snapStart_snapping p
    exact (Effect.of_ok (execLogicSnapshotStart_effect p s) e).gives rfl e
      ⟨now, phase, by rw [cycle, same], start.trans now.symm⟩
  rcases due with idle | ⟨ended, free, safe⟩
  · rw [if_pos idle]
    refine starts s rfl ?_
    show execLogicSnapshotStart p s = _
    simp only [execLogicSnapshotStart, cycles, idle, not_true_eq_false, if_false]
  · rw [if_neg (by rw [ended]; nofun), ← State.upTo_now]
    refine starts _ (State.upTo_logic ..) ?_
    show execLogicSnapshotStart p s = _
    simp [execLogicSnapshotStart, cycles, ended, free, safe]

/-- The input buffer of cycle `n` takes what SNAPSHOT has copied. -/
def ProgSt.takeInput (n : Nat) (w : List Byte) (q : ProgSt) : ProgSt :=
  if n % 2 = 0 then { q with inWin0 := w } else { q with inWin1 := w }

theorem logicSnapshotDone_executes (cycles : s.cycles p = true) (snap : (s.logic.get p).phase = .snapshot)
    (all : (s.logic.get p).copiedN = (s.pkg.logic.get p).stations.length) (still : (s.logic.get p).exchStart = none) :
    let x := s.logic.get p
    s.Gives (.logicSnapshotDone p) [.facets, .progs, .lenses, .logic] fun t =>
      let r := t.progs.get (fKey (s.pkg.logic.get p).lens (s.pkg.logic.get p).facet)
      (if x.cycle % 2 = 0 then r.inWin0 else r.inWin1) = x.copied ++ x.copiedImgs ++ x.copiedQual ∧
      r.cycle = x.cycle ∧ r.computing = true ∧ r.outDone = false ∧ (t.logic.get p).phase = .execute := by
  intro x
  let u := s.updProg (s.pkg.logic.get p).lens (s.pkg.logic.get p).facet
    (ProgSt.takeInput x.cycle (x.copied ++ x.copiedImgs ++ x.copiedQual))
  have e : exec (.logicSnapshotDone p) s = .next (u.execBegin p) := by
    have none_left : (s.pkg.logic.get p).stations.drop (s.logic.get p).copiedN = [] := by rw [all, List.drop_length]
    have copied (f : State → Nat → State) : s.each ((s.pkg.logic.get p).stations.drop (s.logic.get p).copiedN) f = s := by
      rw [none_left]
      rfl
    show execLogicSnapshotDone p s = _
    unfold execLogicSnapshotDone
    dsimp only
    rw [if_neg (by simp [snap, cycles]), copied, if_neg (by simp [still])]
    rfl
  obtain ⟨ts, begun⟩ := u.execBegin_logic p
  let k := fKey (s.pkg.logic.get p).lens (s.pkg.logic.get p).facet
  have input : u.progs.get k = ProgSt.takeInput x.cycle (x.copied ++ x.copiedImgs ++ x.copiedQual) (s.progs.get k) :=
    Tbl.get_upd_same ..
  have opened : (u.execBegin p).progs.get k =
      { u.progs.get k with cycle := x.cycle, computing := true, outDone := false, sealed := false } := u.execBegin_prog p
  rw [input] at opened
  refine (((State.updProg_effect ..).mono rfl).go (u.execBegin_effect p) rfl : Effect 0x9C0 s _).gives rfl e
    ⟨?_, ?_, ?_, ?_, by rw [begun]⟩ <;> rw [opened]
  dsimp only [ProgSt.takeInput]
  split <;> rfl

theorem logicRestoreDone_snapping (cycles : s.cycles p = true) (restore : (s.logic.get p).phase = .restore) :
    s.Gives (.logicRestoreDone p) [.freeIdx, .logic] fun t => (t.logic.get p).phase = .snapshot ∧
      (t.logic.get p).cycle = (s.logic.get p).cycle + 1 ∧ (t.logic.get p).snapStart = s.now := by
  have e : exec (.logicRestoreDone p) s = .next ((s.startExch p).snapStart p) := by
    show execLogicRestoreDone p s = _
    rw [execLogicRestoreDone, if_neg (by simp [restore, cycles])]
  have cycle : ((s.startExch p).logic.get p).cycle = (s.logic.get p).cycle := by
    unfold State.startExch
    dsimp only
    split
    · rw [State.updLogic_logic, Tbl.get_upd_same]
    · rfl
  obtain ⟨phase, next, start⟩ := (s.startExch p).snapStart_snapping p
  exact (Effect.of_ok (execLogicRestoreDone_effect p s) e).gives rfl e
    ⟨phase, by rw [next, cycle], start.trans ((s.startExch_effect p).same .now rfl)⟩

/-! ## COMMIT (R109, R112, R116) -/

theorem logicCommitStart_commits (free : (s.logic.get p).committing = false) (due : (s.logic.get p).commitDue = true)
    (goes : (s.logic.get p).stopAsked = false) : ∃ t, exec (.logicCommitStart p) s = .next t ∧
      let x := s.logic.get p
      let y := t.logic.get p
      let q := s.progs.get (fKey (s.pkg.logic.get p).lens (s.pkg.logic.get p).facet)
      y.committing = true ∧ y.commitDue = false ∧ y.commitStart = s.now ∧ y.consec = 0 ∧
      y.image = outWindow q x.cycle ∧ y.commitSeal = checkpoint q ∧ y.phase = x.phase := by
  refine ⟨s.commitCycle p, ?_, ?_⟩
  · show execLogicCommitStart p s = _
    rw [execLogicCommitStart, if_neg (by simp [free]), if_pos due]
  · dsimp only
    rw [State.commitCycle_logic goes, Tbl.get_upd_same]
    exact ⟨rfl, rfl, rfl, rfl, rfl, rfl, rfl⟩

theorem logicCommitStart_safe {st : LState} (free : (s.logic.get p).committing = false)
    (done : (s.logic.get p).commitDue = false) (safe : (s.logic.get p).safeDue = some st)
    (kept : (s.logic.get p).removeAsked = false) (pending : (s.logic.get p).exchPending = false)
    (start : (s.logic.get p).exchStart = none) : ∃ t, exec (.logicCommitStart p) s = .next t ∧
      (t.logic.get p).committing = true ∧ (t.logic.get p).image = (s.pkg.logic.get p).safeImage ∧
      (t.logic.get p).st = st := by
  refine ⟨s.finalCommit p st, ?_, ?_⟩
  · show execLogicCommitStart p s = _
    simp only [execLogicCommitStart, free, done, safe, Bool.false_eq_true, if_false]
  · rw [State.finalCommit_plain kept pending start, State.safeCommit_logic, Tbl.get_upd_same]
    exact ⟨rfl, rfl, if_neg (by simp [kept])⟩

theorem logicCommitDone_ends (busy : (s.logic.get p).committing = true)
    (stays : (s.logic.get p).startAsked = false ∨ (s.pkg.logic.get p).present = false) :
    exec (.logicCommitDone p) s = .next (s.updLogic p fun y => { y with committing := false }) := by
  show execLogicCommitDone p s = _
  rw [execLogicCommitDone, if_neg (by simp [busy])]
  dsimp only
  rw [if_neg]
  rw [State.updLogic_logic, Tbl.get_upd_same]
  rintro ⟨asked, -, -, present⟩
  rcases stays with no | gone
  · exact absurd (no.symm.trans asked) (by decide)
  · exact absurd (gone.symm.trans present) (by decide)

theorem logicCommitDone_starts (busy : (s.logic.get p).committing = true) (asked : (s.logic.get p).startAsked = true)
    (safe : (s.logic.get p).safeDue = none) (stopped : (s.logic.get p).st ≠ .running)
    (present : (s.pkg.logic.get p).present = true) : ∃ t, exec (.logicCommitDone p) s = .next t ∧
      (t.logic.get p).committing = false ∧ (t.logic.get p).st = .running ∧
      (t.logic.get p).image = (s.pkg.logic.get p).initialImage := by
  refine ⟨(s.updLogic p fun y => { y with committing := false }).logicColdStart p, ?_, ?_⟩
  · show execLogicCommitDone p s = _
    rw [execLogicCommitDone, if_neg (by simp [busy])]
    dsimp only
    rw [if_pos]
    rw [State.updLogic_logic, Tbl.get_upd_same]
    exact ⟨asked, safe, stopped, present⟩
  · rw [State.logicColdStart_logic, State.updLogic_logic, Tbl.upd_upd, Tbl.get_upd_same]
    exact ⟨rfl, rfl, rfl⟩

/-! ## The watchdog (R113 to R117) -/

/-- The cycle has overrun: its program is restored, and the overrun is counted and reported (R114, R115, R117). -/
def State.overrun (s : State) (p : Nat) : State :=
  let c := s.pkg.logic.get p
  let x := s.logic.get p
  let s := (s.upTo (x.snapStart + c.watchdogUs * 1000 + x.wdogExt)).logicRestore p
  (s.updLogic p fun x => { x with overrun := true, consec := x.consec + 1, ovr := sat32 x.ovr 1, last := c.watchdogUs * 10
                                  max := Nat.max x.max (c.watchdogUs * 10), wdogExt := 0, execEnd := s.now }).event .overrun p

theorem State.overrun_effect (s : State) (p : Nat) : Effect 0x4400000BC1 s (s.overrun p) :=
  ((((s.upTo_effect _).mono rfl).go (State.logicRestore_effect ..) rfl).go (State.updLogic_effect ..) rfl).go
    (State.event_effect ..) rfl

theorem State.overrun_now (s : State) (p : Nat) : (s.overrun p).now = max s.now
    ((s.logic.get p).snapStart + (s.pkg.logic.get p).watchdogUs * 1000 + (s.logic.get p).wdogExt) := by
  unfold State.overrun
  dsimp only
  rw [State.event_now, State.updLogic_now, (State.logicRestore_effect ..).same .now rfl, State.upTo_now]

theorem State.overrun_logic (s : State) (p : Nat) : ∃ n, (s.overrun p).logic = s.logic.upd p fun x =>
    { x with phase := .restore, commitDue := false, overrun := true, consec := x.consec + 1, ovr := sat32 x.ovr 1
             last := (s.pkg.logic.get p).watchdogUs * 10, max := Nat.max x.max ((s.pkg.logic.get p).watchdogUs * 10)
             wdogExt := 0, execEnd := n } := by
  unfold State.overrun
  dsimp only
  rw [State.event_logic, State.updLogic_logic, State.logicRestore_logic, State.upTo_logic, Tbl.upd_upd]
  exact ⟨_, rfl⟩

theorem State.overrun_event (s : State) (p : Nat) : (Ev.overrun, p, (s.overrun p).now) ∈ (s.overrun p).recs.evr.events := by
  unfold State.overrun
  dsimp only
  rw [State.event_events, State.event_now]
  exact List.mem_append_right _ List.mem_cons_self

/-- The facet of a program that overruns is halted, and the computing phase of its cycle is closed. -/
theorem State.overrun_halts (s : State) (p : Nat) :
    let c := s.pkg.logic.get p
    ((s.overrun p).facets.get (fKey c.lens (s.host c.lens c.facet))).run ≠ .active ∧
      ((s.overrun p).progs.get (fKey c.lens c.facet)).computing = false := by
  have host (u : Nat) (l h : Nat) : (s.upTo u).host l h = s.host l h := by simp [State.host]
  unfold State.overrun
  dsimp only
  generalize (s.logic.get p).snapStart + _ + _ = due
  have halted := (s.upTo due).logicRestore_facet p
  have closed := (s.upTo due).logicRestore_prog p
  dsimp only at halted
  rw [State.pkg_upTo, host] at halted
  rw [State.pkg_upTo] at closed
  rw [State.event_facets, State.updLogic_facets, State.event_progs, State.updLogic_progs]
  exact ⟨halted, closed⟩

theorem exec_logicWatchdogExpiry (cycles : s.cycles p = true)
    (runs : (s.logic.get p).phase = .snapshot ∨ (s.logic.get p).phase = .execute)
    (sound : s.inRepair (s.pkg.logic.get p).lens (s.pkg.logic.get p).facet = false) :
    exec (.logicWatchdogExpiry p) s = .next (
      if 8 ≤ (s.logic.get p).consec + 1 then (s.overrun p).logicStop p .stoppedOverrun
      else if (s.logic.get p).stopBy ≠ [] then (s.overrun p).logicStop p .stopped
      else (s.overrun p).lensRest (s.pkg.logic.get p).lens) := by
  show execLogicWatchdogExpiry p s = _
  unfold execLogicWatchdogExpiry
  dsimp only
  rw [if_neg]
  · rfl
  · rintro (idle | other | repair | ⟨ready, -⟩)
    · exact idle cycles
    · exact other (runs.imp id .inr)
    · exact absurd (sound.symm.trans repair) (by decide)
    · rcases runs with snap | execute
      · exact absurd (snap.symm.trans ready) (by decide)
      · exact absurd (execute.symm.trans ready) (by decide)

theorem logicWatchdogExpiry_skips (cycles : s.cycles p = true)
    (runs : (s.logic.get p).phase = .snapshot ∨ (s.logic.get p).phase = .execute)
    (sound : s.inRepair (s.pkg.logic.get p).lens (s.pkg.logic.get p).facet = false)
    (few : (s.logic.get p).consec < 7) (goes : (s.logic.get p).stopBy = []) :
    let c := s.pkg.logic.get p
    let x := s.logic.get p
    s.Gives (.logicWatchdogExpiry p) [.now, .col, .facets, .progs, .lenses, .fencedFlash, .logic, .recs] fun t =>
      let y := t.logic.get p
      t.now = max s.now (x.snapStart + c.watchdogUs * 1000 + x.wdogExt) ∧ y.phase = .restore ∧ y.overrun = true ∧
      y.consec = x.consec + 1 ∧ y.ovr = min (x.ovr + 1) 0xFFFFFFFF ∧ y.last = c.watchdogUs * 10 ∧
      y.image = x.image ∧ y.st = x.st ∧ y.commitDue = false ∧
      (Ev.overrun, p.val, t.now) ∈ t.recs.evr.events ∧ (t.facets.get (fKey c.lens (s.host c.lens c.facet))).run ≠ .active ∧
      (t.progs.get (fKey c.lens c.facet)).computing = false := by
  intro c x
  have e : exec (.logicWatchdogExpiry p) s = .next ((s.overrun p).lensRest c.lens) := by
    rw [exec_logicWatchdogExpiry cycles runs sound, if_neg (by omega), if_neg (by simp [goes])]
  have rest := (s.overrun p).lensRest_effect c.lens
  obtain ⟨n, logic⟩ := s.overrun_logic p
  refine ((s.overrun_effect p).go rest rfl).gives rfl e ?_
  dsimp only
  rw [rest.same .now rfl, rest.same .recs rfl, rest.same .facets rfl, rest.same .progs rfl, State.lensRest_logic, logic,
    Tbl.get_upd_same]
  exact ⟨s.overrun_now p, rfl, rfl, rfl, rfl, rfl, rfl, rfl, rfl, s.overrun_event p, s.overrun_halts p⟩

/-- The eighth overrun in a row (R115). -/
theorem logicWatchdogExpiry_stops (cycles : s.cycles p = true)
    (runs : (s.logic.get p).phase = .snapshot ∨ (s.logic.get p).phase = .execute)
    (sound : s.inRepair (s.pkg.logic.get p).lens (s.pkg.logic.get p).facet = false)
    (many : 7 ≤ (s.logic.get p).consec) (kept : (s.logic.get p).removeAsked = false)
    (pending : (s.logic.get p).exchPending = false) (start : (s.logic.get p).exchStart = none) :
    ∃ t, exec (.logicWatchdogExpiry p) s = .next t ∧
      if (s.logic.get p).committing then (t.logic.get p).safeDue = some .stoppedOverrun
      else (t.logic.get p).st = .stoppedOverrun ∧ (t.logic.get p).image = (s.pkg.logic.get p).safeImage := by
  have e := exec_logicWatchdogExpiry cycles runs sound
  rw [if_pos (by omega)] at e
  obtain ⟨n, logic⟩ := s.overrun_logic p
  have x : (s.overrun p).logic.get p = _ := (congrArg (Tbl.get · p) logic).trans (Tbl.get_upd_same ..)
  refine ⟨_, e, ?_⟩
  split
  · next busy =>
    rw [State.logicStop_waits (by rw [x]; exact busy), Tbl.get_upd_same]
  · next free =>
    have safe := State.logicStop_safe (s := s.overrun p) (by rw [x]; exact (Bool.not_eq_true _).mp free)
      (by rw [x]; exact kept) (by rw [x]; exact pending) (by rw [x]; exact start) .stoppedOverrun
    rw [State.pkg_of_svc ((s.overrun_effect p).same .svc rfl)] at safe
    exact safe

end

/-- Settles O22, step by step of the cycle; the watchdog skips it, or stops the program. -/
theorem logicCyclesRunAndAreSupervised : Obligations.LogicCyclesRunAndAreSupervised := by
  unfold Obligations.LogicCyclesRunAndAreSupervised
  exact ⟨fun p s => ⟨logicSnapshotStart_snapping, logicSnapshotDone_executes, logicRestoreDone_snapping,
      logicCommitStart_commits, fun st => logicCommitStart_safe, logicCommitDone_ends, logicCommitDone_starts⟩,
    fun p s cycles runs sound => ⟨logicWatchdogExpiry_skips cycles runs sound, logicWatchdogExpiry_stops cycles runs sound⟩⟩

end Sys2Proof.Machine
end

section
/-! SUPPORT. Descriptors that end at once or wait (R299, R305), and the stop of a program that LOGIC_CTRL asks for: what it
may change, and whom it answers (R17, R115, R116). -/

namespace Sys2Proof.Machine

/-! ## Descriptors that end at once, and those that wait -/

section
variable {i r : Nat} {s : State} {f : DescForm} {e : JEntry} {c : Instr} (h : s.Runs i r f e)
include h

theorem State.Runs.gives_end {code : Code} {n : Nat}
    (x : exec c s = .next (((s.beginDesc i e).complete e.jseq code n).syncSlice i)) :
    s.Gives c [.freeIdx, .hif, .mlk, .recs, .outputs] fun t => t.Ended e.jseq code n :=
  ((((s.beginDesc_effect i e).mono rfl).go (State.complete_effect ..) rfl).go (State.syncSlice_effect ..) rfl :
    Effect 0x47000000002 s _).gives rfl x ((State.beginDesc_waits h.entry i).completes ..)

/-- A descriptor whose body leaves the journal alone goes on. -/
theorem State.Runs.gives_wait {u : State} {m : Nat} {ps : List Part} {q : State → Prop}
    (x : exec c s = .next (u.syncSlice i)) (begun : Effect m s u) (sync : 0x45000000002 &&& m = 0x45000000002)
    (within : maskWithin m ps = true) (journal : u.hif.journal = (s.beginDesc i e).hif.journal) (k : q (u.syncSlice i)) :
    s.Gives c ps fun t => t.Waits e.jseq ∧ q t :=
  (begun.go (State.syncSlice_effect ..) sync).gives within x
    ⟨(State.beginDesc_waits h.entry i).of_journal ((State.syncSlice_synced ..).journal.trans journal), k⟩

end

theorem State.Ended.of_journal {s t : State} {j : Nat} {c : Code} {n : Nat} (h : s.Ended j c n)
    (same : t.hif.journal = s.hif.journal) : t.Ended j c n := by
  unfold State.Ended State.jEntry
  rw [same]
  exact h

/-- Of descriptors that end alike, a started one has ended or goes on. -/
theorem State.Waits.each_complete {s : State} {j : Nat} (h : s.Waits j) (js : List Nat) (c : Code) (n : Nat) :
    (s.each js fun s k => s.complete k c n).Waits j ∨ (s.each js fun s k => s.complete k c n).Ended j c n := by
  by_cases asked : j ∈ js
  · exact .inr (State.ended_each asked h c n)
  · refine .inl ?_
    unfold State.each
    induction js generalizing s with
    | nil => exact h
    | cons k l ih =>
      obtain ⟨other, rest⟩ : j ≠ k ∧ j ∉ l := by simpa using asked
      exact ih (h.complete_other other c n) rest

/-! ## The stop of a program (R17, R115) -/

theorem State.lanesRise_nil (s : State) : s.lanesRise [] = s := by
  simp [State.lanesRise, hitsMask, State.each]

/-- A driver that releases its lanes lets none rise: no arm trips, no frame goes. -/
theorem State.releaseAll_effect_quiet (s : State) (d : Nat) : Effect 0x40088400400 s (s.releaseAll d) := by
  have quiet (ls : Lanes) : Effect 0x40088400400 s ({ s with lanes := ls }.noteMasks.lanesRise []) := by
    rw [State.lanesRise_nil]
    exact Effect.go (Effect.upd s (.refl ..) rfl fun p hp => by cases p <;> first | rfl | exact absurd hp (by decide))
      (State.noteMasks_effect _) rfl
  exact Effect.each (quiet _) fun t m ht => ht.go (t.toOpen_effect m) rfl

theorem State.stopFacet_effect_quiet (s : State) (l f : Nat) : Effect 0x440884007C0 s (s.stopFacet l f) := by
  have halted := s.updFacet_effect l f (fun x =>
    { x with run := if x.run = .fenced then .fenced else .stopped, stack := [], qTick := false, qStream := false
             qMessage := false, ticked := false, began := false }) fun _ h => h
  exact (((halted.mono rfl).go (State.updProg_effect ..) rfl).go (State.releaseAll_effect_quiet ..) rfl).go
    (State.atBoundary_effect ..) rfl

theorem State.safeCommit_effect (s : State) (p : Nat) (st : LState) : Effect 0x7800002800 s (s.safeCommit p st) := by
  unfold State.safeCommit
  dsimp only
  have answered (f g : LogicSt → LogicSt) (img : List Byte) (js : List Nat) : Effect 0x7800002800 s
      ((((s.updLogic p f).commitImage p img).each js fun s j => s.complete j cOk (lstateCode (s.logic.get p).st)).updLogic
        p g) :=
    (Effect.each (((s.updLogic_effect ..).mono rfl).go (State.commitImage_effect ..) rfl) fun t j ht =>
      ht.go (State.complete_effect ..) rfl).go (State.updLogic_effect ..) rfl
  exact Effect.ite (fun _ => answered ..) fun _ => (answered ..).go (State.alarm_effect ..) rfl

/-- Whoever has asked for the stop learns the state that the final COMMIT leaves (R116). -/
theorem State.safeCommit_answers {s : State} {p j : Nat} (asked : j ∈ (s.logic.get p).stopBy) (h : s.Waits j)
    (kept : (s.logic.get p).removeAsked = false) (st : LState) : (s.safeCommit p st).Ended j cOk (lstateCode st) := by
  unfold State.safeCommit
  dsimp only
  generalize hu : State.commitImage _ _ _ = u
  have waits : u.Waits j := h.of_journal (by rw [← hu, (State.commitImage_effect ..).same .hif rfl, State.updLogic_hif])
  have state : (u.logic.get p).st = st := by
    rw [← hu, State.commitImage_logic, State.updLogic_logic, Tbl.upd_upd, Tbl.get_upd_same]
    exact if_neg (by simp [kept])
  have answered : (u.each (s.logic.get p).stopBy fun s j => s.complete j cOk (lstateCode (s.logic.get p).st)).Ended j cOk
      (lstateCode st) := by
    rw [State.each_congr (P := fun t => (t.logic.get p).st = st) (g := fun t j => t.complete j cOk (lstateCode st))
      (fun t k ht => by rw [ht]) (fun t k ht => by rw [State.complete_logic]; exact ht) state]
    exact State.ended_each asked waits cOk _
  split
  · exact answered.of_journal rfl
  · exact answered.of_journal (by rw [State.alarm_hif, State.updLogic_hif])

/-- What the stop of a program that is neither removed nor exchanged may change. -/
theorem State.logicStop_effect_plain {s : State} {p : Nat} (free : (s.logic.get p).committing = false)
    (kept : (s.logic.get p).removeAsked = false) (pending : (s.logic.get p).exchPending = false)
    (start : (s.logic.get p).exchStart = none) (st : LState) : Effect 0x47888402FC0 s (s.logicStop p st) := by
  rw [State.logicStop_commits free kept pending start]
  exact (((State.stopFacet_effect_quiet ..).mono rfl).go (State.safeCommit_effect ..) rfl).go (State.lensRest_effect ..) rfl

theorem State.logicStop_answers {s : State} {p j : Nat} (asked : j ∈ (s.logic.get p).stopBy) (h : s.Waits j)
    (free : (s.logic.get p).committing = false) (kept : (s.logic.get p).removeAsked = false)
    (pending : (s.logic.get p).exchPending = false) (start : (s.logic.get p).exchStart = none) (st : LState) :
    (s.logicStop p st).Ended j cOk (lstateCode st) := by
  rw [State.logicStop_commits free kept pending start]
  have waits (l f : Nat) : (s.stopFacet l f).Waits j :=
    h.of_journal (by rw [(State.stopFacet_effect_quiet ..).same .hif rfl])
  refine State.Ended.of_journal ?_ (congrArg HifSt.journal ((State.lensRest_effect ..).same .hif rfl))
  exact State.safeCommit_answers (by rw [State.stopFacet_logic]; exact asked) (waits ..)
    (by rw [State.stopFacet_logic]; exact kept) st

/-- Whoever has asked for the start learns that the program runs (R115). -/
theorem State.logicColdStart_answers {s : State} {j : Nat} (h : s.Waits j) (p : Nat) :
    (s.logicColdStart p).Waits j ∨ (s.logicColdStart p).Ended j cOk (lstateCode .running) := by
  have cleared (u : State) (as : List (Ev × Nat)) : Effect 0x4000000000 u (u.each as fun s a => s.clearAlarm a.1 a.2) :=
    .each (.refl ..) fun t a ht => ht.go (t.clearAlarm_effect ..) rfl
  unfold State.logicColdStart
  dsimp only
  generalize hu : State.updProg _ _ _ _ = u
  have waits : u.Waits j := h.of_journal (by
    rw [← hu, State.updProg_hif, State.updFacet_hif, (State.resetProg_effect ..).same .hif rfl,
      (State.loadAt_effect ..).same .hif rfl, (cleared ..).same .hif rfl, State.clearAlarm_hif])
  exact (waits.each_complete (u.logic.get p).startBy cOk _).imp (·.of_journal rfl) (·.of_journal rfl)

end Sys2Proof.Machine
end

section
/-! PROOF. LOGIC_CTRL and CNV_CTRL (O42). -/

namespace Sys2Proof.Machine

/-! ## LOGIC_START (R115, R136) -/

/-- The cold start that LOGIC_START asks for answers its descriptor (R115). -/
theorem State.beginDesc_coldStarts {s : State} {i : Nat} {e : JEntry} (waits : (s.beginDesc i e).Waits e.jseq) (p : Nat) :
    let t := ((((s.beginDesc i e).logicColdStart p).mirror (.effect 0x3001 p 0)).complete e.jseq cOk
      (lstateCode .running)).syncSlice i
    Effect 0x470000019C2 s t ∧ t.Ended e.jseq cOk 2 ∧ (t.logic.get p).st = .running ∧ (t.logic.get p).phase = .idle ∧
      (t.logic.get p).image = (s.pkg.logic.get p).initialImage ∧ (t.logic.get p).consec = 0 := by
  have begun := s.beginDesc_effect i e
  have pkg := State.pkg_of_svc (begun.same .svc rfl)
  generalize s.beginDesc i e = b at begun pkg waits ⊢
  have cold := b.logicColdStart_effect p
  have answers := State.logicColdStart_answers waits p
  have started : ((b.logicColdStart p).logic.get p).st = .running ∧ ((b.logicColdStart p).logic.get p).phase = .idle ∧
      ((b.logicColdStart p).logic.get p).image = (s.pkg.logic.get p).initialImage ∧
      ((b.logicColdStart p).logic.get p).consec = 0 := by
    rw [State.logicColdStart_logic, Tbl.get_upd_same, pkg]
    exact ⟨rfl, rfl, rfl, rfl⟩
  generalize b.logicColdStart p = u at cold answers started ⊢
  have ended : ((u.mirror (.effect 0x3001 p 0)).complete e.jseq cOk 2).Ended e.jseq cOk 2 := by
    have journal : (u.mirror (.effect 0x3001 p 0)).hif.journal = u.hif.journal := by rw [State.mirror_hif]
    rcases answers with waits | ended
    · exact (waits.of_journal journal).complete cOk 2
    · exact (ended.of_journal journal).complete_any ..
  refine ⟨((((begun.mono rfl).go cold rfl).go (State.mirror_effect ..) rfl).go (State.complete_effect ..) rfl).go
    (State.syncSlice_effect ..) rfl, (State.syncSlice_synced ..).ended ended, ?_⟩
  rw [(State.syncSlice_effect ..).same .logic rfl, State.complete_logic, State.mirror_logic]
  exact started

section
variable {i : Fin 64} {r : Fin 8} {s : State} {e : JEntry} (h : s.Runs i r (s0Form i 0x30 (some (32, 1)) [(32, 2)]) e)
  (named : s.progNamed (e.desc.num 33 1) = true)
  (on : s.unitOn (.lens (s.pkg.logic.get (e.desc.num 33 1)).lens) = true)
include h named on

/-- What LOGIC_START does to a program that is there, in a lens that is ON. -/
theorem exec_logicStart :
    let p := e.desc.num 33 1
    let x := s.logic.get p
    let b := s.beginDesc i e
    exec (.logicStart i r) s = .next (
      (if x.removeAsked ∧ x.stopBy = [] then b.complete e.jseq cOk (lstateCode x.st)
       else if x.stopAsked ∨ x.safeDue.isSome ∨ (x.committing ∧ x.st ≠ .running ∧ x.st ≠ .exchanging) then
         b.updLogic p fun x => { x with startAsked := true, startBy := x.startBy ++ [e.jseq] }
       else if x.st = .running ∨ x.st = .exchanging then b.complete e.jseq cOk (lstateCode x.st)
       else ((b.logicColdStart p).mirror (.effect 0x3001 p 0)).complete e.jseq cOk (lstateCode .running)).syncSlice i) := by
  intro p x b
  have began := s.beginDesc_effect i e
  have pkg : b.pkg = s.pkg := State.pkg_of_svc (began.same .svc rfl)
  have logic : b.logic = s.logic := began.same .logic rfl
  have named' : b.progNamed p = true := by
    unfold State.progNamed
    rw [pkg]
    exact named
  have on' : b.unitOn (.lens (b.pkg.logic.get p).lens) = true := by
    unfold State.unitOn State.unit
    rw [pkg, began.same .units rfl]
    exact on
  refine (congrArg Host.Outcome.next (h.runDesc _)).trans ?_
  dsimp only
  rw [if_neg (not_not.2 named'), if_neg (not_not.2 on'), logic]

theorem logicStart_runs (goes : (s.logic.get (e.desc.num 33 1)).stopAsked = false)
    (safe : (s.logic.get (e.desc.num 33 1)).safeDue = none) (free : (s.logic.get (e.desc.num 33 1)).committing = false)
    (idle : (s.logic.get (e.desc.num 33 1)).st ≠ .running) (whole : (s.logic.get (e.desc.num 33 1)).st ≠ .exchanging)
    (kept : (s.logic.get (e.desc.num 33 1)).removeAsked = false) :
    s.Gives (.logicStart i r) [.freeIdx, .facets, .progs, .lenses, .logic, .slots64, .hif, .mlk, .recs, .outputs] fun t =>
      let y := t.logic.get (e.desc.num 33 1)
      t.Ended e.jseq cOk 2 ∧ y.st = .running ∧ y.phase = .idle ∧
      y.image = (s.pkg.logic.get (e.desc.num 33 1)).initialImage ∧ y.consec = 0 := by
  have x := exec_logicStart h named on
  dsimp only at x
  rw [if_neg (by simp [kept]), if_neg (by simp [goes, safe, free]), if_neg (by simp [idle, whole])] at x
  obtain ⟨effect, ended, started⟩ := State.beginDesc_coldStarts (State.beginDesc_waits h.entry i) (e.desc.num 33 1)
  exact effect.gives rfl x ⟨ended, started⟩

theorem logicStart_leaves (gone : (s.logic.get (e.desc.num 33 1)).removeAsked = true)
    (unasked : (s.logic.get (e.desc.num 33 1)).stopBy = []) :
    s.Gives (.logicStart i r) [.freeIdx, .hif, .mlk, .recs, .outputs] fun t =>
      t.Ended e.jseq cOk (lstateCode (s.logic.get (e.desc.num 33 1)).st) := by
  have x := exec_logicStart h named on
  dsimp only at x
  rw [if_pos ⟨gone, unasked⟩] at x
  exact h.gives_end x

theorem logicStart_waits (stops : (s.logic.get (e.desc.num 33 1)).stopAsked = true)
    (stays : (s.logic.get (e.desc.num 33 1)).removeAsked = false ∨ (s.logic.get (e.desc.num 33 1)).stopBy ≠ []) :
    s.Gives (.logicStart i r) [.freeIdx, .logic, .hif, .mlk, .recs, .outputs] fun t => t.Waits e.jseq ∧
      t.logic = s.logic.upd (e.desc.num 33 1) fun y => { y with startAsked := true, startBy := y.startBy ++ [e.jseq] } := by
  have x := exec_logicStart h named on
  dsimp only at x
  rw [if_neg (fun k => stays.elim (fun n => absurd (n.symm.trans k.1) (by decide)) (· k.2)), if_pos (.inl stops)] at x
  have began := s.beginDesc_effect i e
  refine h.gives_wait (m := 0x47000000802) x ((began.mono rfl).go (State.updLogic_effect ..) rfl) rfl rfl rfl ?_
  rw [(State.syncSlice_effect ..).same .logic rfl, State.updLogic_logic, began.same .logic rfl]

end

/-! ## LOGIC_STOP (R115, R116) -/

section
variable {i : Fin 64} {r : Fin 8} {s : State} {e : JEntry} (h : s.Runs i r (s0Form i 0x30 (some (32, 2)) [(32, 2)]) e)
  (named : s.progNamed (e.desc.num 33 1) = true)
include h named

/-- The state in which LOGIC_STOP has noted that its descriptor asks program `p` to stop. -/
def State.stopNoted (s : State) (i : Nat) (e : JEntry) (p : Nat) : State :=
  ((s.beginDesc i e).mirror (.effect 0x3002 p 0)).updLogic p fun x =>
    { x with stopBy := x.stopBy ++ [e.jseq], startAsked := false }

omit h named in
theorem State.stopNoted_effect (s : State) (i : Nat) (e : JEntry) (p : Nat) :
    Effect 0x3000000800 s (s.stopNoted i e p) :=
  (((s.beginDesc_effect i e).mono rfl).go (State.mirror_effect ..) rfl).go (State.updLogic_effect ..) rfl

omit h named in
theorem State.stopNoted_logic (s : State) (i : Nat) (e : JEntry) (p : Nat) : (s.stopNoted i e p).logic = s.logic.upd p
    fun x => { x with stopBy := x.stopBy ++ [e.jseq], startAsked := false } := by
  unfold State.stopNoted
  rw [State.updLogic_logic, State.mirror_logic, (s.beginDesc_effect i e).same .logic rfl]

omit h named in
theorem State.stopNoted_journal (s : State) (i : Nat) (e : JEntry) (p : Nat) :
    (s.stopNoted i e p).hif.journal = (s.beginDesc i e).hif.journal := by
  unfold State.stopNoted
  rw [State.updLogic_hif, State.mirror_hif]

omit h named in
/-- The stop that LOGIC_STOP asks for and that nothing holds up answers its descriptor (R115, R116). -/
theorem State.stopNoted_stops {i p : Nat} (waits : (s.beginDesc i e).Waits e.jseq) (free : (s.logic.get p).committing = false)
    (kept : (s.logic.get p).removeAsked = false) (pending : (s.logic.get p).exchPending = false)
    (start : (s.logic.get p).exchStart = none) :
    Effect 0x47888402FC2 s (((s.stopNoted i e p).logicStop p .stopped).syncSlice i) ∧
      (((s.stopNoted i e p).logicStop p .stopped).syncSlice i).Ended e.jseq cOk 1 ∧
      ((((s.stopNoted i e p).logicStop p .stopped).syncSlice i).logic.get p).st = .stopped ∧
      ((((s.stopNoted i e p).logicStop p .stopped).syncSlice i).logic.get p).image = (s.pkg.logic.get p).safeImage := by
  have begun := s.stopNoted_effect i e p
  have noted : (s.stopNoted i e p).logic.get p = { s.logic.get p with
      stopBy := (s.logic.get p).stopBy ++ [e.jseq], startAsked := false } := by
    rw [s.stopNoted_logic i e p, Tbl.get_upd_same]
  have pkg := State.pkg_of_svc (begun.same .svc rfl)
  have waits' := waits.of_journal (s.stopNoted_journal i e p)
  generalize s.stopNoted i e p = u at begun noted pkg waits' ⊢
  have free' : (u.logic.get p).committing = false := by rw [noted]; exact free
  have kept' : (u.logic.get p).removeAsked = false := by rw [noted]; exact kept
  have pending' : (u.logic.get p).exchPending = false := by rw [noted]; exact pending
  have start' : (u.logic.get p).exchStart = none := by rw [noted]; exact start
  have stop := State.logicStop_effect_plain free' kept' pending' start' .stopped
  have safe := State.logicStop_safe free' kept' pending' start' .stopped
  have ended := State.logicStop_answers (j := e.jseq) (by rw [noted]; simp) waits' free' kept' pending' start' .stopped
  generalize u.logicStop p .stopped = v at stop safe ended ⊢
  refine ⟨((begun.mono rfl).go stop rfl).go (State.syncSlice_effect ..) rfl, (State.syncSlice_synced ..).ended ended, ?_⟩
  rw [(State.syncSlice_effect ..).same .logic rfl, ← pkg]
  exact safe

theorem exec_logicStop :
    let p := e.desc.num 33 1
    let x := s.logic.get p
    exec (.logicStop i r) s = .next (
      (if x.st ≠ .running ∧ x.st ≠ .exchanging then (s.beginDesc i e).complete e.jseq cOk (lstateCode x.st)
       else if x.phase = .execute ∨ x.commitDue then
         (s.stopNoted i e p).updLogic p fun x => { x with stopAsked := true }
       else (s.stopNoted i e p).logicStop p .stopped).syncSlice i) := by
  intro p x
  have began := s.beginDesc_effect i e
  have named' : (s.beginDesc i e).progNamed p = true := by
    unfold State.progNamed
    rw [State.pkg_of_svc (began.same .svc rfl)]
    exact named
  refine (congrArg Host.Outcome.next (h.runDesc _)).trans ?_
  dsimp only
  rw [if_neg (not_not.2 named'), began.same .logic rfl]
  rfl

theorem logicStop_waits (runs : (s.logic.get (e.desc.num 33 1)).st = .running)
    (inside : (s.logic.get (e.desc.num 33 1)).phase = .execute ∨ (s.logic.get (e.desc.num 33 1)).commitDue = true) :
    s.Gives (.logicStop i r) [.freeIdx, .logic, .hif, .mlk, .recs, .outputs] fun t => t.Waits e.jseq ∧
      t.logic = s.logic.upd (e.desc.num 33 1) fun y =>
        { y with stopBy := y.stopBy ++ [e.jseq], startAsked := false, stopAsked := true } := by
  have x := exec_logicStop h named
  dsimp only at x
  rw [if_neg (by simp [runs]), if_pos inside] at x
  refine h.gives_wait (m := 0x47000000802) x (((s.stopNoted_effect ..).mono rfl).go (State.updLogic_effect ..) rfl) rfl rfl
    (by rw [State.updLogic_hif, State.stopNoted_journal]) ?_
  rw [(State.syncSlice_effect ..).same .logic rfl, State.updLogic_logic, State.stopNoted_logic, Tbl.upd_upd]

theorem logicStop_stops (runs : (s.logic.get (e.desc.num 33 1)).st = .running)
    (outside : (s.logic.get (e.desc.num 33 1)).phase ≠ .execute) (done : (s.logic.get (e.desc.num 33 1)).commitDue = false)
    (free : (s.logic.get (e.desc.num 33 1)).committing = false)
    (kept : (s.logic.get (e.desc.num 33 1)).removeAsked = false)
    (pending : (s.logic.get (e.desc.num 33 1)).exchPending = false)
    (start : (s.logic.get (e.desc.num 33 1)).exchStart = none) :
    s.Gives (.logicStop i r) [.freeIdx, .facets, .progs, .lenses, .fencedFlash, .lanes, .logic, .stns, .tos, .arms, .pwms,
      .fbcs, .hif, .mlk, .recs, .outputs] fun t =>
      t.Ended e.jseq cOk 1 ∧ (t.logic.get (e.desc.num 33 1)).st = .stopped ∧
      (t.logic.get (e.desc.num 33 1)).image = (s.pkg.logic.get (e.desc.num 33 1)).safeImage := by
  have x := exec_logicStop h named
  dsimp only at x
  rw [if_neg (by simp [runs]), if_neg (by simp [outside, done])] at x
  obtain ⟨effect, ended, stopped⟩ :=
    State.stopNoted_stops (State.beginDesc_waits h.entry i) free kept pending start
  exact effect.gives rfl x ⟨ended, stopped⟩

theorem logicStop_still (stopped : (s.logic.get (e.desc.num 33 1)).st = .stopped) :
    s.Gives (.logicStop i r) [.freeIdx, .hif, .mlk, .recs, .outputs] fun t => t.Ended e.jseq cOk 1 := by
  have x := exec_logicStop h named
  dsimp only at x
  rw [if_pos (by simp [stopped]), stopped] at x
  exact h.gives_end x

end

/-! ## CNV_CTRL (R186 to R188) -/

theorem State.beginDesc_grant (s : State) (i : Nat) (e : JEntry) : (s.beginDesc i e).mlk.grant = s.mlk.grant := by
  have turn : ((s.turns i e.desc).getD s).mlk = s.mlk := by
    obtain ⟨rd, hrd⟩ := s.turns_rounds i e.desc
    rw [hrd, State.updHif_mlk]
  have started : (s.beginDesc i e).mlk.grant = (((s.turns i e.desc).getD s).payBytes i (moved e.desc)).mlk.grant :=
    (State.updJ_sameGates ..).1
  exact started.trans (congrArg MlkSt.grant (((State.payBytes_effect ..).same .mlk rfl).trans turn))

theorem State.armsNamed_of_svc {s t : State} (h : t.svc = s.svc) (m : Nat) : t.armsNamed m = s.armsNamed m := by
  unfold State.armsNamed
  rw [State.pkg_of_svc h]

theorem armsOf_nodup (m : Nat) : (armsOf m).Nodup := List.nodup_range.filter _

/-- Arms of a list change alike, and no other does. -/
theorem State.each_updArm (s : State) {as : List Nat} (nd : as.Nodup) (g : ArmSt → ArmSt) (a : Nat) :
    (s.each as fun t b => t.updArm b g).arms.get a = if a ∈ as then g (s.arms.get a) else s.arms.get a := by
  unfold State.each
  induction as generalizing s with
  | nil => rfl
  | cons b l ih =>
    obtain ⟨new, rest⟩ := List.nodup_cons.1 nd
    rw [List.foldl_cons, ih _ rest, State.updArm_arms, Tbl.get_upd]
    by_cases same : b = a
    · subst same
      simp [new]
    · simp [same, Ne.symm same]

theorem State.each_updArm_effect (s : State) (as : List Nat) (g : ArmSt → ArmSt) :
    Effect 0x8000000 s (s.each as fun t a => t.updArm a g) :=
  .each (.refl ..) fun t _ ht => ht.go (t.updArm_effect ..) rfl

/-- An arm of the mask is tripped, or a lane of its mask is asserted: DEBLOCK is refused (R187). -/
def State.armsHeld (s : State) (m : Nat) : Bool :=
  (armsOf m).any fun a => (s.arms.get a).op = .tripped || (s.arms.get a).trip || s.maskOn (s.pkg.arms.get a).mask

theorem State.armsHeld_of_effect {s t : State} {m : Nat} (h : Effect 0x3000000000 s t) : t.armsHeld m = s.armsHeld m := by
  unfold State.armsHeld State.maskOn State.laneOn
  rw [h.same .arms rfl, h.same .lanes rfl, State.pkg_of_svc (h.same .svc rfl)]

section
variable {i : Fin 64} {r : Fin 8} {s : State} {e : JEntry}

/-- What DEBLOCK does to arms that are there. -/
theorem exec_deblock (h : s.Runs i r (cnvForm i 1) e) (named : s.armsNamed (e.desc.num 33 1) = true) :
    let m := e.desc.num 33 1
    let b := s.beginDesc i e
    exec (.deblock i r) s = .next (
      (if ¬ s.mlk.grant then b.complete e.jseq 0x0602 0
       else if s.armsHeld m then b.complete e.jseq 0x0603 0
       else if (armsOf m).any fun a => (s.arms.get a).op ≠ .blocked then b.complete e.jseq 0x0601 0
       else b.each (armsOf m) fun t a => t.updArm a fun x =>
         { x with op := .pending, pend := some (e.jseq, s.now, e.desc.num 40 8) }).syncSlice i) := by
  intro m b
  have began := s.beginDesc_effect i e
  have named' : b.armsNamed m = true := (State.armsNamed_of_svc (began.same .svc rfl) m).trans named
  have held : b.armsHeld m = s.armsHeld m := State.armsHeld_of_effect began
  have pend : (b.each (armsOf m) fun t a => t.updArm a fun x =>
      { x with op := .pending, pend := some (e.jseq, t.now, e.desc.num 40 8) }) = b.each (armsOf m) fun t a =>
        t.updArm a fun x => { x with op := .pending, pend := some (e.jseq, s.now, e.desc.num 40 8) } :=
    State.each_congr (P := fun t => t.now = s.now) (fun _ _ ht => by rw [ht])
      (fun t a ht => (t.updArm_now a _).trans ht) (began.same .now rfl) _
  unfold State.armsHeld at held
  refine (congrArg Host.Outcome.next (h.runDesc _)).trans ?_
  dsimp only
  rw [if_neg (not_not.2 named'), pend, s.beginDesc_grant, held, began.same .arms rfl]
  rfl

/-- What BLOCK does to arms that are there. -/
theorem exec_block (h : s.Runs i r (cnvForm i 2) e) (named : s.armsNamed (e.desc.num 33 1) = true) :
    let m := e.desc.num 33 1
    let b := s.beginDesc i e
    exec (.block i r) s = .next (
      (if (armsOf m).all fun a => (s.arms.get a).op = .blocked || (s.arms.get a).op = .tripped then
         b.complete e.jseq cOk (cnvResult s.cnv.fnum m 0)
       else b.each (armsOf m) fun t a => t.updArm a fun x =>
         { x with blockAt := x.blockAt ++ [(e.jseq, e.desc.num 40 8)] }).syncSlice i) := by
  intro m b
  have began := s.beginDesc_effect i e
  have named' : b.armsNamed m = true := (State.armsNamed_of_svc (began.same .svc rfl) m).trans named
  refine (congrArg Host.Outcome.next (h.runDesc _)).trans ?_
  dsimp only
  rw [if_neg (not_not.2 named'), began.same .arms rfl, began.same .cnv rfl]

/-- A turn that lays a change on every arm of the mask, and answers nobody, leaves its descriptor waiting. -/
theorem State.Runs.gives_arms {f : DescForm} {c : Instr} {m : Nat} {g : ArmSt → ArmSt} (h : s.Runs i r f e)
    (x : exec c s = .next (((s.beginDesc i e).each (armsOf m) fun t a => t.updArm a g).syncSlice i)) :
    s.Gives c [.freeIdx, .arms, .hif, .mlk, .recs, .outputs] fun t => t.Waits e.jseq ∧
      ∀ a, t.arms.get a = if a ∈ armsOf m then g (s.arms.get a) else s.arms.get a := by
  have laid := State.each_updArm_effect (s.beginDesc i e) (armsOf m) g
  refine h.gives_wait (m := 0x47008000002) x (((s.beginDesc_effect i e).mono rfl).trans (laid.mono rfl)) rfl rfl
    (congrArg HifSt.journal (laid.same .hif rfl)) fun a => ?_
  rw [(State.syncSlice_effect ..).same .arms rfl, State.each_updArm _ (armsOf_nodup m),
    (s.beginDesc_effect i e).same .arms rfl]

section
variable (h : s.Runs i r (cnvForm i 1) e) (named : s.armsNamed (e.desc.num 33 1) = true)
include h named

theorem deblock_ungranted (grant : s.mlk.grant = false) : s.Gives (.deblock i r) [.freeIdx, .hif, .mlk, .recs, .outputs]
    fun t => t.Ended e.jseq 0x0602 0 := by
  have x := exec_deblock h named
  dsimp only at x
  rw [if_pos (by simp [grant])] at x
  exact h.gives_end x

theorem deblock_tripped (grant : s.mlk.grant = true) (held : s.armsHeld (e.desc.num 33 1) = true) :
    s.Gives (.deblock i r) [.freeIdx, .hif, .mlk, .recs, .outputs] fun t => t.Ended e.jseq 0x0603 0 := by
  have x := exec_deblock h named
  dsimp only at x
  rw [if_neg (by simp [grant]), if_pos held] at x
  exact h.gives_end x

theorem deblock_waits (grant : s.mlk.grant = true) (free : s.armsHeld (e.desc.num 33 1) = false)
    (blocked : ((armsOf (e.desc.num 33 1)).all fun a => (s.arms.get a).op = .blocked) = true) :
    s.Gives (.deblock i r) [.freeIdx, .arms, .hif, .mlk, .recs, .outputs] fun t => t.Waits e.jseq ∧
      ∀ a, t.arms.get a = if a ∈ armsOf (e.desc.num 33 1) then
          { s.arms.get a with op := .pending, pend := some (e.jseq, s.now, e.desc.num 40 8) }
        else s.arms.get a := by
  have x := exec_deblock h named
  dsimp only at x
  rw [if_neg (by simp [grant]), if_neg (by simp [free]), if_neg (by simpa using blocked)] at x
  exact h.gives_arms x

end

section
variable (h : s.Runs i r (cnvForm i 2) e) (named : s.armsNamed (e.desc.num 33 1) = true)
include h named

theorem block_idle
    (idle : ((armsOf (e.desc.num 33 1)).all fun a => (s.arms.get a).op = .blocked || (s.arms.get a).op = .tripped) = true) :
    s.Gives (.block i r) [.freeIdx, .hif, .mlk, .recs, .outputs] fun t =>
      t.Ended e.jseq cOk (cnvResult s.cnv.fnum (e.desc.num 33 1) 0) := by
  have x := exec_block h named
  dsimp only at x
  rw [if_pos idle] at x
  exact h.gives_end x

theorem block_waits
    (some_goes : ((armsOf (e.desc.num 33 1)).all fun a => (s.arms.get a).op = .blocked || (s.arms.get a).op = .tripped) = false) :
    s.Gives (.block i r) [.freeIdx, .arms, .hif, .mlk, .recs, .outputs] fun t => t.Waits e.jseq ∧
      ∀ a, t.arms.get a = if a ∈ armsOf (e.desc.num 33 1) then
          { s.arms.get a with blockAt := (s.arms.get a).blockAt ++ [(e.jseq, e.desc.num 40 8)] }
        else s.arms.get a := by
  have x := exec_block h named
  dsimp only at x
  rw [if_neg (by rw [some_goes]; decide)] at x
  exact h.gives_arms x

end

end

/-- Settles O42: a descriptor either ends in its turn or leaves its program or arms asked; whoever a final COMMIT or a cold
start answers is among those that asked. -/
theorem logicAndConverterDescriptors : Obligations.LogicAndConverterDescriptors := fun _ _ _ _ =>
  ⟨fun h named on => ⟨logicStart_runs h named on, logicStart_leaves h named on, logicStart_waits h named on⟩,
   fun h named => ⟨logicStop_waits h named, logicStop_stops h named, logicStop_still h named⟩,
   fun h named => ⟨deblock_ungranted h named, deblock_tripped h named, deblock_waits h named⟩,
   fun h named => ⟨block_idle h named, block_waits h named⟩⟩

end Sys2Proof.Machine
end

section
/-! PROOF. Received field bus frames (O24): in LISTEN a frame that a filter rejects leaves the table of the controllers
without the row that the statement asks for. -/

namespace Sys2Proof.Machine

/-- Controller 0 is ON in LISTEN, by the value that the table gives every controller it does not list, and its one filter
entry rejects the standard frame of identifier 0. -/
def unlistedListener : State :=
  { State.reset with
    units := ⟨{}, [(unitKey (.fbc 0), { st := .on })]⟩
    fbcs := ⟨{ mode := .listen }, []⟩
    svc := { pkg := { fbcs := ⟨{}, [(0, { filters := [{ en := true }] })]⟩ } } }

/-- The frame arrives without an error, is not acknowledged, and is rejected: nothing changes. -/
theorem unlistedListener_rejects : exec (.canFrameRx 0 {} unlistedListener.now) unlistedListener = .next unlistedListener := by
  rfl

/-- Refutes O24: for a frame that a filter rejects it gives the controllers as `s.fbcs.set b seen`, which lists controller
`b` in any case. In LISTEN the model writes no row for such a frame, and where the table does not list `b`, nor does the
next state's. -/
theorem not_fieldBusFramesAndPresence : ¬ Obligations.FieldBusFramesAndPresence := by
  unfold Obligations.FieldBusFramesAndPresence
  intro holds
  obtain ⟨frames, -⟩ := holds
  obtain ⟨-, -, filtered⟩ := frames 0 {} unlistedListener (by decide +kernel) (by decide) (by decide)
  obtain ⟨-, -, rejected, -⟩ := filtered (.inl rfl)
  obtain ⟨t, next, -, -, fbcs⟩ := rejected { en := true } ⟨rfl, rfl⟩ (by decide +kernel) (.inl rfl)
  obtain rfl := Host.Outcome.next.inj (unlistedListener_rejects.symm.trans next)
  exact absurd (congrArg Tbl.rows fbcs) nofun

end Sys2Proof.Machine
end

section
/-! SUPPORT. The staged package (R134, R136): what begins and ends its exchanges, what a move to another home leaves of the
plan, and what a tick leaves of a facet. -/

namespace Sys2Proof.Machine

/-! ## What an exchange looks at of a program -/

/-- Of a program nothing has changed that an exchange looks at. -/
structure LogicSt.SameExch (x y : LogicSt) : Prop where
  st : y.st = x.st
  image : y.image = x.image
  exchPending : y.exchPending = x.exchPending
  exchStart : y.exchStart = x.exchStart
  exchDone : y.exchDone = x.exchDone
  removeAsked : y.removeAsked = x.removeAsked

theorem LogicSt.SameExch.refl (x : LogicSt) : x.SameExch x := ⟨rfl, rfl, rfl, rfl, rfl, rfl⟩

theorem LogicSt.SameExch.trans {x y z : LogicSt} (h : x.SameExch y) (k : y.SameExch z) : x.SameExch z :=
  ⟨k.st.trans h.st, k.image.trans h.image, k.exchPending.trans h.exchPending, k.exchStart.trans h.exchStart,
    k.exchDone.trans h.exchDone, k.removeAsked.trans h.removeAsked⟩

/-- A change of one program that leaves it as an exchange sees it leaves every program so. -/
theorem LogicSt.SameExch.of_upd {t : Tbl LogicSt} {p : Nat} {f : LogicSt → LogicSt} (h : (t.get p).SameExch (f (t.get p)))
    (k : Nat) : (t.get k).SameExch ((t.upd p f).get k) := by
  rw [Tbl.get_upd]
  split
  · next same => subst same; exact h
  · exact .refl _

theorem State.retimeTimers_sameExch (s : State) (p k : Nat) :
    (s.logic.get k).SameExch ((s.retimeTimers p).logic.get k) := by
  unfold State.retimeTimers
  dsimp only
  split
  · rw [State.updLogic_logic, State.updFacet_logic]
    exact .of_upd ⟨rfl, rfl, rfl, rfl, rfl, rfl⟩ k
  · exact .refl _

/-- EXECUTE begins: programs stay as an exchange sees them. -/
theorem State.execBegin_sameExch (s : State) (p k : Nat) : (s.logic.get k).SameExch ((s.execBegin p).logic.get k) := by
  unfold State.execBegin
  dsimp only
  rw [(State.raise_effect ..).same .logic rfl, State.updProg_logic, State.updLogic_logic]
  exact (s.retimeTimers_sameExch p k).trans (.of_upd ⟨rfl, rfl, rfl, rfl, rfl, rfl⟩ k)

/-- The cycles that waited for an exchange begin; programs stay as an exchange sees them. -/
theorem State.beginReady_sameExch (s : State) (ks : List Nat) (k : Nat) : (s.logic.get k).SameExch
    ((s.each ks fun s j => if (s.logic.get j).phase = LPhase.ready then s.execBegin j else s).logic.get k) :=
  State.each_rel (R := fun s t => (s.logic.get k).SameExch (t.logic.get k)) (fun _ => .refl _) (fun _ _ _ => .trans)
    (fun t j => by split; exacts [t.execBegin_sameExch j k, .refl _]) s ks

/-! ## What a tick leaves of a facet -/

/-- A facet holds the program it held, is fenced or not as before, and has the instructions it had. -/
structure FacetSt.SameProgram (x y : FacetSt) : Prop where
  hostOf : y.hostOf = x.hostOf
  fenced : y.run = .fenced ↔ x.run = .fenced
  imem : y.imem = x.imem

theorem FacetSt.SameProgram.refl (x : FacetSt) : x.SameProgram x := ⟨rfl, .rfl, rfl⟩

theorem FacetSt.SameProgram.trans {x y z : FacetSt} (h : x.SameProgram y) (k : y.SameProgram z) : x.SameProgram z :=
  ⟨k.hostOf.trans h.hostOf, k.fenced.trans h.fenced, k.imem.trans h.imem⟩

theorem queueEvent_sameProgram (x : FacetSt) (c : WakeCause) (tai : Nat) : x.SameProgram (queueEvent x c tai) := by
  cases c <;> exact ⟨rfl, .rfl, rfl⟩

/-- The facet that holds the program of home facet `h` is the same where the facets hold what they held. -/
theorem State.host_of_hosts {s t : State} (hosts : ∀ j, (t.facets.get j).hostOf = (s.facets.get j).hostOf)
    (fenced : ∀ j, (t.facets.get j).run = .fenced ↔ (s.facets.get j).run = .fenced) (l h : Nat) :
    t.host l h = s.host l h := by
  unfold State.host
  simp only [hosts, ne_eq, fenced]

theorem State.raise_sameProgram (s : State) (l h : Nat) (c : WakeCause) (j : Nat) :
    (s.facets.get j).SameProgram ((s.raise l h c).facets.get j) := by
  by_cases w : s.wakesAtOnce l h c
  · obtain ⟨y, facets, woken⟩ := s.wakeNow_facets l (s.host l h) c s.tai
    rw [State.raise_wakes w, facets, Tbl.get_set]
    split
    · next same =>
      subst same
      exact ⟨woken.hostOf, by simp [woken.run, w.1], woken.imem⟩
    · exact .refl _
  · rcases (State.raise_queues w).2 with e | e <;> rw [e]
    · exact .refl _
    · rw [Tbl.get_upd]
      split
      · next same => subst same; exact queueEvent_sameProgram ..
      · exact .refl _

theorem State.retimeTimers_sameProgram (s : State) (p j : Nat) :
    (s.facets.get j).SameProgram ((s.retimeTimers p).facets.get j) := by
  unfold State.retimeTimers
  dsimp only
  split
  · rw [State.updLogic_facets, State.updFacet_facets, Tbl.get_upd]
    split
    · next same => subst same; exact ⟨rfl, .rfl, rfl⟩
    · exact .refl _
  · exact .refl _

theorem State.execBegin_sameProgram (s : State) (p j : Nat) :
    (s.facets.get j).SameProgram ((s.execBegin p).facets.get j) := by
  unfold State.execBegin
  dsimp only
  refine (s.retimeTimers_sameProgram p j).trans ((?_ : FacetSt.SameProgram _ _).trans (State.raise_sameProgram ..))
  rw [State.updProg_facets, State.updLogic_facets]
  exact .refl _

/-! ## Lists and tables -/

/-- A fold whose turns change nothing changes nothing. -/
theorem State.each_fixed {α : Type} {s : State} {f : State → α → State} (h : ∀ x, f s x = s) (xs : List α) :
    s.each xs f = s := by
  unfold State.each
  induction xs with
  | nil => rfl
  | cons x r ih => rw [List.foldl_cons, h, ih]

/-- A unit that the table does not list stays as it is where every listed one changes. -/
theorem Tbl.get_mapRows_unlisted {α : Type} {t : Tbl α} {k : Nat} (f : Nat → α → α) (h : k ∉ t.keys) :
    (t.mapRows f).get k = t.get k := by
  have none : findRow t.rows k = none := by
    cases row : findRow t.rows k with
    | none => rfl
    | some a => exact absurd (List.mem_map.2 ⟨_, mem_of_findRow row, rfl⟩) h
  simp [Tbl.get, Tbl.mapRows, findRow_map, none]

/-! ## The end of the staged package (R134, R136) -/

/-- A program of the staged package still waits for its exchange, its removal or its start. -/
def State.exchBusy (s : State) (i : Image) : Bool := (List.range 64).any fun p =>
  let x := s.logic.get p
  x.exchPending || x.exchStart.isSome || x.removeAsked || ((i.body.logic.get p).present && !(s.pkg.logic.get p).present)

theorem State.exchBusy_false {s : State} {i : Image} (h : ∀ p < 64, (s.logic.get p).exchPending = false ∧
    (s.logic.get p).exchStart = none ∧ (s.logic.get p).removeAsked = false ∧
    ((i.body.logic.get p).present = true → (s.pkg.logic.get p).present = true)) : s.exchBusy i = false := by
  refine List.any_eq_false.2 fun p hp => ?_
  obtain ⟨pending, start, remove, there⟩ := h p (List.mem_range.1 hp)
  dsimp only
  rw [pending, start, remove]
  simpa using there

/-- The channel has the packages it had. -/
structure Svc.SamePlan (v w : Svc) : Prop where
  pkg : w.pkg = v.pkg
  staged : w.staged = v.staged
  active : w.active = v.active
  cfg0 : w.cfg0 = v.cfg0
  cfg1 : w.cfg1 = v.cfg1

theorem Svc.SamePlan.refl (v : Svc) : v.SamePlan v := ⟨rfl, rfl, rfl, rfl, rfl⟩

theorem State.svcEnd_samePlan (s : State) (c : Code) (data : Nat) : s.svc.SamePlan (s.svcEnd c data).svc := by
  cases run : s.svc.running with
  | none =>
    have still : s.svcEnd c data = s := by
      unfold State.svcEnd
      rw [run]
    rw [still]
    exact ⟨rfl, rfl, rfl, rfl, rfl⟩
  | some o =>
    rw [State.svcEnd_svc run]
    exact ⟨rfl, rfl, rfl, rfl, rfl⟩

/-- Where nothing waits, the staged package is in force; else nothing changes. -/
theorem State.exchFinish_package {s : State} {i : Image} (staged : s.svc.staged = some i) :
    if s.exchBusy i ∨ s.svc.exchLoops ≠ [] then s.exchFinish = s
    else s.exchFinish.svc.pkg = i.body ∧ s.exchFinish.svc.staged = none := by
  unfold State.exchFinish
  rw [staged]
  dsimp only
  change if s.exchBusy i ∨ s.svc.exchLoops ≠ [] then (if s.exchBusy i ∨ s.svc.exchLoops ≠ [] then s else _) = s else _
  by_cases waits : s.exchBusy i = true ∨ s.svc.exchLoops ≠ []
  · rw [if_pos waits, if_pos waits]
  · rw [if_neg waits, show (List.range 64).any _ = s.exchBusy i from rfl, if_neg waits]
    generalize hu : State.each _ _ _ = u
    have filled : u.svc = { s.svc with pkg := i.body, staged := none } := by
      rw [← hu, (Effect.each (.refl 0x100 _) fun t l ht => ht.go (t.fillFree_effect l) rfl).same .svc rfl]
      rfl
    have ended := (u.raisePkgFloor i).svcEnd_samePlan cOk 0
    split
    · rw [State.updSvc_svc, filled]
      exact ⟨rfl, rfl⟩
    · rw [ended.pkg, ended.staged, (u.raisePkgFloor_effect i).same .svc rfl, filled]
      exact ⟨rfl, rfl⟩

/-! ## A move to the home that the staged package gives (R10, R136, log 91) -/

/-- The plan of an exchange is as it was: the programs, what is staged, and which logic programs the package has. -/
structure State.SameStage (s t : State) : Prop where
  logic : t.logic = s.logic
  staged : t.svc.staged = s.svc.staged
  loops : t.svc.exchLoops = s.svc.exchLoops
  programs : t.pkg.logic = s.pkg.logic

theorem State.SameStage.of_effect {m : Nat} {s t : State} (h : Effect m s t)
    (logic : m.testBit Part.logic.ctorIdx = false) (svc : m.testBit Part.svc.ctorIdx = false) : s.SameStage t :=
  ⟨h.same .logic logic, congrArg Svc.staged (h.same .svc svc), congrArg Svc.exchLoops (h.same .svc svc),
    congrArg (·.pkg.logic) (h.same .svc svc)⟩

theorem State.SameStage.trans {s t u : State} (h : s.SameStage t) (k : t.SameStage u) : s.SameStage u :=
  ⟨k.logic.trans h.logic, k.staged.trans h.staged, k.loops.trans h.loops, k.programs.trans h.programs⟩

/-- Program `p` has the package entry `c`; else the plan of an exchange is as it was. -/
structure State.Replans (p : Nat) (c : LogicCfg) (s t : State) : Prop where
  logic : t.logic = s.logic
  staged : t.svc.staged = s.svc.staged
  loops : t.svc.exchLoops = s.svc.exchLoops
  programs : t.pkg.logic = s.pkg.logic.set p c

theorem State.Replans.trans_sameStage {p : Nat} {c : LogicCfg} {s t u : State} (h : s.Replans p c t) (k : t.SameStage u) :
    s.Replans p c u :=
  ⟨k.logic.trans h.logic, k.staged.trans h.staged, k.loops.trans h.loops, k.programs.trans h.programs⟩

theorem State.Replans.trans {p : Nat} {c d : LogicCfg} {s t u : State} (h : s.Replans p c t) (k : t.Replans p d u) :
    s.Replans p d u :=
  ⟨k.logic.trans h.logic, k.staged.trans h.staged, k.loops.trans h.loops, by rw [k.programs, h.programs, Tbl.set_set]⟩

theorem State.SameStage.refl (s : State) : s.SameStage s := ⟨rfl, rfl, rfl, rfl⟩

theorem State.swapLogic_replans {s : State} {i : Image} (staged : s.svc.staged = some i) (p : Nat) :
    s.Replans p (i.body.logic.get p) (s.swapLogic p) := by
  unfold State.swapLogic
  rw [staged]
  exact ⟨rfl, rfl, rfl, rfl⟩

theorem State.leaveHome_replans (s : State) (p : Nat) : s.Replans p {} (s.leaveHome p) := by
  have cleared := State.SameStage.of_effect (s.clearFacet_effect (s.pkg.logic.get p).lens (s.pkg.logic.get p).facet) rfl rfl
  unfold State.leaveHome
  dsimp only
  generalize s.clearFacet _ _ = u at cleared ⊢
  exact ⟨cleared.logic, cleared.staged, cleared.loops, by rw [← cleared.programs]; rfl⟩

/-- Where the staged package adds no logic program, a facet that loses its program takes at most a loop program. -/
theorem State.settle_sameStage {s : State} {i : Image} (staged : s.svc.staged = some i)
    (there : ∀ q < 64, (i.body.logic.get q).present = true → (s.pkg.logic.get q).present = true) (l h : Nat) :
    s.SameStage (s.settle l h) := by
  have added : ((List.range 64).find? fun q =>
      (i.body.logic.get q).present && (i.body.logic.get q).lens = l && (i.body.logic.get q).facet = h &&
        !(s.pkg.logic.get q).present) = none := by
    refine List.find?_eq_none.2 fun q hq => ?_
    have := there q (List.mem_range.1 hq)
    simp only [Bool.and_eq_true, Bool.not_eq_true', decide_eq_true_eq, not_and, Bool.not_eq_false, and_imp]
    exact fun present _ _ => this present
  unfold State.settle
  rw [staged]
  dsimp only
  rw [added]
  dsimp only
  split
  · have planned (u : State) (f : Tbl FacetCfg) : u.SameStage
        (u.updSvc fun v => { v with pkg := { v.pkg with facets := f } }) := ⟨rfl, rfl, rfl, rfl⟩
    split
    · have loaded (u : State) : Effect 0x40000001C0 u ((u.resetProg l h []).loadAt l h) :=
        ((u.resetProg_effect ..).mono rfl).go (State.loadAt_effect ..) rfl
      exact (planned ..).trans (.of_effect (loaded _) rfl rfl)
    · exact planned ..
  · exact .refl s

/-- The home that a program leaves takes no added program, and its entry is the staged one. -/
theorem State.moveHome_replans {s : State} {i : Image} (staged : s.svc.staged = some i) {p : Nat}
    (there : ∀ q < 64, q ≠ p → (i.body.logic.get q).present = true → (s.pkg.logic.get q).present = true) :
    s.Replans p (i.body.logic.get p) (s.moveHome p) := by
  have left := s.leaveHome_replans p
  unfold State.moveHome
  dsimp only
  generalize s.leaveHome p = u at left ⊢
  have cleared := left.trans_sameStage (.of_effect (u.clearFacet_effect (s.stagedLogic p).lens (s.stagedLogic p).facet) rfl rfl)
  generalize u.clearFacet _ _ = v at cleared ⊢
  have swapped := cleared.trans (State.swapLogic_replans (cleared.staged.trans staged) p)
  generalize v.swapLogic p = w at swapped ⊢
  have settled := swapped.trans_sameStage (State.settle_sameStage (swapped.staged.trans staged) (fun q hq present => by
    rw [swapped.programs, Tbl.get_set]
    split
    · next same => subst same; exact present
    · next other => exact there q hq (Ne.symm other) present) (s.pkg.logic.get p).lens (s.pkg.logic.get p).facet)
  generalize w.settle _ _ = x at settled ⊢
  split
  · exact settled
  · have placed (l f h : Nat) (a : FacetSt → FacetSt) (b : LensSt → LensSt) (c : ProgSt → ProgSt)
        (whole : ∀ y : FacetSt, Memory.wf y.dmem = true → Memory.wf (a y).dmem = true) :
        Effect 0x40000001C0 x ((((x.loadAt l h).updFacet l f a).updLens l b).updProg l h c) :=
      (((x.loadAt_effect l h).mono rfl).go (State.updFacet_effect _ l f a whole) rfl).go
        (State.updLens_effect ..) rfl |>.go (State.updProg_effect ..) rfl
    exact settled.trans_sameStage (.of_effect (placed _ _ _ _ _ _ fun _ h => h) rfl rfl)

end Sys2Proof.Machine
end

section
/-! PROOF. The end of an on-line exchange, or its undoing (O23). -/

namespace Sys2Proof.Machine

/-! ## The exchange ends (R134, R135) -/

/-- The state in which the package entries of the program are those of the staged package. -/
def State.exchPlaced (s : State) (p : Nat) (nc : LogicCfg) : State :=
  let oc := s.pkg.logic.get p
  if oc.lens = nc.lens ∧ oc.facet = nc.facet then s.swapLogic p else s.moveHome p

theorem State.exchPlaced_replans {s : State} {img : Image} (staged : s.svc.staged = some img) {p : Nat}
    (there : ∀ q < 64, q ≠ p → (img.body.logic.get q).present = true → (s.pkg.logic.get q).present = true) :
    s.Replans p (img.body.logic.get p) (s.exchPlaced p (img.body.logic.get p)) := by
  unfold State.exchPlaced
  dsimp only
  split
  · exact State.swapLogic_replans staged p
  · exact State.moveHome_replans staged there

/-- The state in which the facet of the program has the instructions and the data of the staged package, and the program
runs (R134, R135). -/
def State.exchLoaded (s : State) (p : Nat) (img : Image) (t : Nat) : State :=
  let oc := s.pkg.logic.get p
  let nc := img.body.logic.get p
  let fc := img.body.facets.get (fKey nc.lens nc.facet)
  let old := (s.facets.get (fKey oc.lens (s.host oc.lens oc.facet))).dmem
  let s := s.exchPlaced p nc
  let f := s.host nc.lens nc.facet
  let s := s.updLens nc.lens fun y => { y with staging := some { home := nc.facet, code := fc.code, data := fc.data } }
  let s := s.updFacet nc.lens f fun y => { y with dmem := exchangeData old oc nc fc, imem := fc.code, firstCycle := true }
  let area := memBytes (s.facets.get (fKey nc.lens f)).dmem fc.sealArea.off (Nat.min fc.sealArea.len 4096)
  let fresh (r : SealRec) : SealRec := sealClose { r with data := area, progId := fc.progId }
  let s := s.updProg nc.lens nc.facet fun q =>
    { q with seal0 := { q.seal0 with record := q.seal0.record.map fresh }
             seal1 := { q.seal1 with record := q.seal1.record.map fresh } }
  let s := s.updLogic p fun y =>
    { y with exchStart := none, exchDone := true, st := .running, commitSeal := y.commitSeal.map fresh
             wdogExt := y.wdogExt + (s.now - t) }
  s.updLens nc.lens fun y => { y with needsTest := true }

/-- The state in which a cycle that waited for the exchange has begun. -/
def State.exchBegun (s : State) (p : Nat) (img : Image) (t : Nat) : State :=
  if (s.logic.get p).phase = .ready then (s.exchLoaded p img t).execBegin p else s.exchLoaded p img t

theorem exec_logicExchangeDone {p : Fin 64} {img : Image} {t0 : Nat} {s : State}
    (started : (s.logic.get p).exchStart = some t0) (staged : s.svc.staged = some img) :
    exec (.logicExchangeDone p) s = .next (s.exchBegun p img t0).exchFinish := by
  show execLogicExchangeDone p s = _
  unfold execLogicExchangeDone
  rw [started, staged]
  rfl

section
variable (s : State) (p : Nat) (img : Image) (t : Nat)

theorem State.exchLoaded_svc : (s.exchLoaded p img t).svc = (s.exchPlaced p (img.body.logic.get p)).svc := by
  unfold State.exchLoaded
  dsimp only
  rw [State.updLens_svc, State.updLogic_svc, State.updProg_svc, State.updFacet_svc, State.updLens_svc]

theorem State.exchLoaded_logic : ∃ g w, (s.exchLoaded p img t).logic = (s.exchPlaced p (img.body.logic.get p)).logic.upd p
    fun y => { y with exchStart := none, exchDone := true, st := .running, commitSeal := y.commitSeal.map g
                      wdogExt := y.wdogExt + w } := by
  unfold State.exchLoaded
  dsimp only
  rw [State.updLens_logic, State.updLogic_logic]
  exact ⟨_, _, rfl⟩

theorem State.exchLoaded_facets :
    let nc := img.body.logic.get p
    let w := s.exchPlaced p nc
    ∃ d, (s.exchLoaded p img t).facets = w.facets.upd (fKey nc.lens (w.host nc.lens nc.facet)) fun y =>
      { y with dmem := d, imem := (img.body.facets.get (fKey nc.lens nc.facet)).code, firstCycle := true } := ⟨_, rfl⟩

theorem State.exchLoaded_host (l h : Nat) :
    (s.exchLoaded p img t).host l h = (s.exchPlaced p (img.body.logic.get p)).host l h := by
  obtain ⟨d, facets⟩ := s.exchLoaded_facets p img t
  refine State.host_of_hosts (fun j => ?_) (fun j => ?_) l h <;> rw [facets, Tbl.get_upd] <;> split
  · next same => rw [same]
  · rfl
  · next same => rw [same]
  · rfl

/-- A cycle that waited begins in a facet that holds what it held. -/
theorem State.exchBegun_sameProgram (j : Nat) :
    ((s.exchLoaded p img t).facets.get j).SameProgram ((s.exchBegun p img t).facets.get j) := by
  unfold State.exchBegun
  split
  · exact State.execBegin_sameProgram ..
  · exact .refl _

theorem State.exchBegun_sameExch (k : Nat) :
    ((s.exchLoaded p img t).logic.get k).SameExch ((s.exchBegun p img t).logic.get k) := by
  unfold State.exchBegun
  split
  · exact State.execBegin_sameExch ..
  · exact .refl _

theorem State.exchBegun_svc : (s.exchBegun p img t).svc = (s.exchPlaced p (img.body.logic.get p)).svc := by
  unfold State.exchBegun
  split
  · exact ((State.execBegin_effect ..).same .svc rfl).trans (s.exchLoaded_svc p img t)
  · exact s.exchLoaded_svc p img t

/-- The program runs, and its exchange has ended. -/
theorem State.exchBegun_ended : let y := (s.exchBegun p img t).logic.get p
    y.exchStart = none ∧ y.exchDone = true ∧ y.st = .running := by
  intro y
  obtain ⟨g, w, loaded⟩ := s.exchLoaded_logic p img t
  have begun := s.exchBegun_sameExch p img t p
  rw [loaded, Tbl.get_upd_same] at begun
  exact ⟨begun.exchStart, begun.exchDone, begun.st⟩

/-- Another program stays as an exchange sees it. -/
theorem State.exchBegun_other {k : Nat} (h : k ≠ p) :
    ((s.exchPlaced p (img.body.logic.get p)).logic.get k).SameExch ((s.exchBegun p img t).logic.get k) := by
  obtain ⟨g, w, loaded⟩ := s.exchLoaded_logic p img t
  have begun := s.exchBegun_sameExch p img t k
  rwa [loaded, Tbl.get_upd_other _ _ (Ne.symm h)] at begun

/-- A further exchange or a removal of the program that waits still waits. -/
theorem State.exchBegun_waits : let x := (s.exchPlaced p (img.body.logic.get p)).logic.get p
    let y := (s.exchBegun p img t).logic.get p
    y.exchPending = x.exchPending ∧ y.removeAsked = x.removeAsked := by
  intro x y
  obtain ⟨g, w, loaded⟩ := s.exchLoaded_logic p img t
  have begun := s.exchBegun_sameExch p img t p
  rw [loaded, Tbl.get_upd_same] at begun
  exact ⟨begun.exchPending, begun.removeAsked⟩

/-- The facet that holds the program has the new instructions, and FIRST_CYCLE until a tick has begun its cycle. -/
theorem State.exchBegun_facet : let nc := img.body.logic.get p
    let z := (s.exchBegun p img t).facets.get (fKey nc.lens ((s.exchBegun p img t).host nc.lens nc.facet))
    z.imem = (img.body.facets.get (fKey nc.lens nc.facet)).code ∧
      ((s.logic.get p).phase ≠ .ready → z.firstCycle = true) := by
  intro nc z
  have begun := s.exchBegun_sameProgram p img t
  have host := State.host_of_hosts (fun j => (begun j).hostOf) (fun j => (begun j).fenced) nc.lens nc.facet
  rw [s.exchLoaded_host] at host
  obtain ⟨d, loaded⟩ := s.exchLoaded_facets p img t
  have facet : let x := (s.exchLoaded p img t).facets.get (fKey nc.lens ((s.exchPlaced p nc).host nc.lens nc.facet))
      x.imem = (img.body.facets.get (fKey nc.lens nc.facet)).code ∧ x.firstCycle = true := by
    rw [loaded, Tbl.get_upd_same]
    exact ⟨rfl, rfl⟩
  obtain ⟨code, first⟩ := facet
  dsimp only [z]
  rw [host]
  refine ⟨(begun _).imem.trans code, fun other => ?_⟩
  have still : s.exchBegun p img t = s.exchLoaded p img t := if_neg other
  rw [still]
  exact first

end

/-- Where no other program waits, and none is added, the exchange that ends is the last one. -/
theorem State.exchBegun_last {p : Fin 64} {img : Image} {s : State} (t : Nat) (staged : s.svc.staged = some img)
    (others : ∀ k : Fin 64, k ≠ p → (s.logic.get k).exchPending = false ∧ (s.logic.get k).exchStart = none ∧
      (s.logic.get k).removeAsked = false ∧ ((img.body.logic.get k).present = true → (s.pkg.logic.get k).present = true))
    (pending : (s.logic.get p).exchPending = false) (remove : (s.logic.get p).removeAsked = false)
    (loops : s.svc.exchLoops = []) :
    (s.exchBegun p img t).exchFinish.svc.pkg = img.body ∧ (s.exchBegun p img t).exchFinish.svc.staged = none := by
  have other (k : Nat) (hk : k < 64) (ne : k ≠ p) := others ⟨k, hk⟩ fun same => ne (congrArg Fin.val same)
  have placed := State.exchPlaced_replans staged (p := p) fun q hq ne => by
    obtain ⟨-, -, -, there⟩ := other q hq ne
    exact there
  have svc := s.exchBegun_svc p img t
  have pkg := State.pkg_of_svc svc
  have idle : (s.exchBegun p img t).exchBusy img = false := State.exchBusy_false fun k hk => by
    rw [pkg, placed.programs]
    by_cases same : k = p
    · obtain ⟨start, -, -⟩ := s.exchBegun_ended p img t
      obtain ⟨pending', remove'⟩ := s.exchBegun_waits p img t
      rw [placed.logic] at pending' remove'
      rw [same, Tbl.get_set_same]
      exact ⟨pending'.trans pending, start, remove'.trans remove, id⟩
    · obtain ⟨pendingK, startK, removeK, there⟩ := other k hk same
      have stays := s.exchBegun_other p img t same
      rw [placed.logic] at stays
      rw [Tbl.get_set_other _ _ (Ne.symm same)]
      exact ⟨stays.exchPending.trans pendingK, stays.exchStart.trans startK, stays.removeAsked.trans removeK, there⟩
  have ends := State.exchFinish_package (s := s.exchBegun p img t) (by rw [svc, placed.staged, staged])
  rwa [if_neg (by rw [idle, svc, placed.loops, loops]; simp)] at ends

theorem logicExchangeDone_ends {p : Fin 64} {img : Image} {t0 : Nat} {s : State}
    (started : (s.logic.get p).exchStart = some t0) (staged : s.svc.staged = some img) :
    let nc := img.body.logic.get p
    ∃ t, exec (.logicExchangeDone p) s = .next t ∧
      let y := t.logic.get p
      let z := t.facets.get (fKey nc.lens (t.host nc.lens nc.facet))
      y.exchStart = none ∧ y.exchDone = true ∧ y.st = .running ∧
      z.imem = (img.body.facets.get (fKey nc.lens nc.facet)).code ∧ ((s.logic.get p).phase ≠ .ready → z.firstCycle = true) ∧
      ((∀ k : Fin 64, k ≠ p → let z := s.logic.get k
          z.exchPending = false ∧ z.exchStart = none ∧ z.removeAsked = false ∧
          ((img.body.logic.get k).present = true → (s.pkg.logic.get k).present = true)) →
        (s.logic.get p).exchPending = false → (s.logic.get p).removeAsked = false → s.svc.exchLoops = [] →
        t.svc.pkg = img.body ∧ t.svc.staged = none) := by
  intro nc
  refine ⟨_, exec_logicExchangeDone started staged, ?_⟩
  dsimp only
  obtain ⟨start, done, runs⟩ := s.exchBegun_ended p img t0
  obtain ⟨code, first⟩ := s.exchBegun_facet p img t0
  have finished := (s.exchBegun p img t0).exchFinish_effect
  have host : (s.exchBegun p img t0).exchFinish.host nc.lens nc.facet = (s.exchBegun p img t0).host nc.lens nc.facet :=
    State.host_of_hosts (fun j => by rw [finished.same .facets rfl]) (fun j => by rw [finished.same .facets rfl]) _ _
  rw [finished.same .logic rfl, finished.same .facets rfl, host]
  refine ⟨start, done, runs, code, first, fun others pending remove loops => ?_⟩
  exact State.exchBegun_last t0 staged others pending remove loops

/-! ## The exchange is undone (R136, log 74) -/

/-- The state in which the staged package is given up, before what an exchange back begins. -/
def State.givenUp (s : State) : State :=
  ((s.exchCancel.updSvc Svc.giveUp).updMlk fun m => { m with exchangeCycle := none, exchangeOf := none }).each (List.range 64)
    fun s k => if (s.logic.get k).phase = LPhase.ready then s.execBegin k else s

theorem State.exchUndo_eq (s : State) : s.exchUndo =
    match if s.svc.active then s.svc.cfg0 else s.svc.cfg1 with
    | some i => (s.givenUp.updSvc fun v => { v with staged := some i, undoing := true }).beginExchange
    | none => s.givenUp := rfl

theorem State.givenUp_svc (s : State) : s.givenUp.svc = s.svc.giveUp := by
  have begun (u : State) (ks : List Nat) : Effect 0x9C0 u
      (u.each ks fun s k => if (s.logic.get k).phase = LPhase.ready then s.execBegin k else s) :=
    .each (.refl ..) fun t k ht => .ite (fun _ => ht.go (t.execBegin_effect k) rfl) fun _ => ht
  unfold State.givenUp
  rw [(begun ..).same .svc rfl, State.updMlk_svc, State.updSvc_svc, s.exchCancel_effect.same .svc rfl]

theorem State.givenUp_sameExch (s : State) (k : Nat) :
    (s.exchCancel.logic.get k).SameExch (s.givenUp.logic.get k) := by
  have ready := State.beginReady_sameExch ((s.exchCancel.updSvc Svc.giveUp).updMlk fun m =>
    { m with exchangeCycle := none, exchangeOf := none }) (List.range 64) k
  rwa [State.updMlk_logic, State.updSvc_logic] at ready

/-- A program that waited goes on with its state. -/
theorem State.exchCancel_listed {s : State} {p : Nat} (listed : p ∈ s.logic.keys) :
    let y := s.exchCancel.logic.get p
    y.exchStart = none ∧ y.exchPending = false ∧ y.removeAsked = false ∧ y.image = (s.logic.get p).image ∧
      ((s.logic.get p).st = .exchanging → y.st = .running) := by
  intro y
  have cancelled : y = _ := Tbl.get_mapRows _ listed
  rw [cancelled]
  exact ⟨rfl, rfl, rfl, rfl, fun exchanging => if_pos exchanging⟩

/-- What does not wait, listed or not, does not wait. -/
theorem State.exchCancel_idle {s : State} {k : Nat} (pending : (s.logic.get k).exchPending = false)
    (start : (s.logic.get k).exchStart = none) (remove : (s.logic.get k).removeAsked = false) :
    let y := s.exchCancel.logic.get k
    y.exchPending = false ∧ y.exchStart = none ∧ y.removeAsked = false := by
  intro y
  by_cases listed : k ∈ s.logic.keys
  · obtain ⟨start', pending', remove', -⟩ := State.exchCancel_listed listed
    exact ⟨pending', start', remove'⟩
  · have unlisted : y = s.logic.get k := Tbl.get_mapRows_unlisted _ listed
    rw [unlisted]
    exact ⟨pending, start, remove⟩

/-- A package that is in force stages no program and no loop program. -/
theorem State.beginExchange_inForce {s : State} {i : Image} (staged : s.svc.staged = some i) (same : i.body = s.svc.pkg) :
    s.beginExchange = s.exchFinish := by
  have program (p : Nat) : s.stageProgram i p = s := by
    unfold State.stageProgram State.pkg
    dsimp only
    rw [same, if_pos (.inr (by simp))]
  have loop (k : Nat) : s.stageLoop i k = s := by
    unfold State.stageLoop State.pkg
    dsimp only
    rw [same, if_pos (.inl rfl)]
  unfold State.beginExchange
  rw [staged]
  dsimp only
  rw [State.each_fixed (f := fun s p => s.stageProgram i p) program, State.each_fixed (f := fun s k => s.stageLoop i k) loop]

/-- Where the other bank holds the package in force, what an exchange back finds is in force at once. -/
theorem State.exchUndo_undone {s : State}
    (known : ∀ old, (if s.svc.active then s.svc.cfg0 else s.svc.cfg1) = some old → old.body = s.svc.pkg) :
    s.exchUndo.svc.pkg = s.svc.pkg ∧ s.exchUndo.logic = s.givenUp.logic ∧
      ((∀ k < 64, (s.givenUp.logic.get k).exchPending = false ∧ (s.givenUp.logic.get k).exchStart = none ∧
        (s.givenUp.logic.get k).removeAsked = false) → s.exchUndo.svc.staged = none) := by
  rw [s.exchUndo_eq]
  have given := s.givenUp_svc
  generalize (if s.svc.active then s.svc.cfg0 else s.svc.cfg1) = old at known ⊢
  generalize s.givenUp = u at given ⊢
  cases old with
  | none =>
    dsimp only
    rw [given]
    exact ⟨rfl, rfl, fun _ => rfl⟩
  | some i =>
    have same := known i rfl
    dsimp only
    have svc := State.updSvc_svc (s := u) fun v => { v with staged := some i, undoing := true }
    have logic := State.updSvc_logic (s := u) fun v => { v with staged := some i, undoing := true }
    rw [given] at svc
    generalize u.updSvc _ = w at svc logic ⊢
    have staged : w.svc.staged = some i := by rw [svc]
    have pkg : w.svc.pkg = s.svc.pkg := by rw [svc]; rfl
    rw [State.beginExchange_inForce staged (same.trans pkg.symm), State.exchFinish_logic, logic]
    have ends := State.exchFinish_package staged
    split at ends
    · next waits =>
      rw [ends]
      refine ⟨pkg, rfl, fun idle => ?_⟩
      have rest : w.exchBusy i = false := State.exchBusy_false fun k hk => by
        obtain ⟨pending, start, remove⟩ := idle k hk
        rw [logic]
        exact ⟨pending, start, remove, fun present => by rwa [State.pkg, pkg, ← same]⟩
      rw [rest, svc] at waits
      exact absurd waits (by simp [Svc.giveUp])
    · obtain ⟨new, none⟩ := ends
      exact ⟨new.trans same, rfl, fun _ => none⟩

/-- The state 10 us after the start, in which the operation that staged the package has ended (R136). -/
def State.exchExpired (s : State) (t : Nat) : State :=
  let s := s.upTo (t + 10000)
  if s.svc.undoing then s else s.svcEnd cInvalid 0

theorem State.exchExpired_rest (s : State) (t : Nat) : (s.exchExpired t).now = max s.now (t + 10000) ∧
    s.svc.SamePlan (s.exchExpired t).svc ∧ (s.exchExpired t).logic = s.logic := by
  unfold State.exchExpired
  dsimp only
  split
  · exact ⟨s.upTo_now _, by rw [State.upTo_svc]; exact .refl _, State.upTo_logic ..⟩
  · have ended := (s.upTo (t + 10000)).svcEnd_effect cInvalid 0
    have plan := (s.upTo (t + 10000)).svcEnd_samePlan cInvalid 0
    rw [State.upTo_svc] at plan
    exact ⟨(ended.same .now rfl).trans (s.upTo_now _), plan, (ended.same .logic rfl).trans (State.upTo_logic ..)⟩

theorem exec_logicExchangeTimeout {p : Fin 64} {t0 : Nat} {s : State} (started : (s.logic.get p).exchStart = some t0) :
    exec (.logicExchangeTimeout p) s = .next (s.exchExpired t0).exchUndo := by
  show execLogicExchangeTimeout p s = _
  unfold execLogicExchangeTimeout
  rw [started]
  rfl

theorem logicExchangeTimeout_undoes {p : Fin 64} {t0 : Nat} {s : State} (started : (s.logic.get p).exchStart = some t0)
    (listed : p.val ∈ s.logic.keys)
    (known : ∀ old, (if s.svc.active then s.svc.cfg0 else s.svc.cfg1) = some old → old.body = s.svc.pkg) :
    ∃ t, exec (.logicExchangeTimeout p) s = .next t ∧
      t.now = max s.now (t0 + 10000) ∧ t.svc.pkg = s.svc.pkg ∧ t.svc.active = !s.svc.active ∧
      (t.logic.get p).exchStart = none ∧ (t.logic.get p).image = (s.logic.get p).image ∧
      ((s.logic.get p).st = .exchanging → (t.logic.get p).st = .running) ∧
      ((∀ k : Fin 64, k ≠ p → let z := s.logic.get k
          z.exchPending = false ∧ z.exchStart = none ∧ z.removeAsked = false) → t.svc.staged = none) := by
  refine ⟨_, exec_logicExchangeTimeout started, ?_⟩
  obtain ⟨now, plan, logic⟩ := s.exchExpired_rest t0
  generalize s.exchExpired t0 = u at now plan logic ⊢
  obtain ⟨pkg, programs, staged⟩ := State.exchUndo_undone (s := u) (by
    rw [plan.active, plan.cfg0, plan.cfg1, plan.pkg]
    exact known)
  have active : u.exchUndo.svc.active = !u.svc.active := congrArg Held.active u.exchUndo_held
  obtain ⟨start, pending, remove, image, running⟩ := State.exchCancel_listed (s := u) (p := p) (by rw [logic]; exact listed)
  rw [logic] at image running
  have kept := u.givenUp_sameExch
  refine ⟨(u.exchUndo_effect.same .now rfl).trans now, pkg.trans plan.pkg, active.trans (congrArg not plan.active), ?_⟩
  rw [programs]
  refine ⟨(kept p).exchStart.trans start, (kept p).image.trans image, fun k => (kept p).st.trans (running k), fun others => ?_⟩
  refine staged fun k hk => ?_
  by_cases same : k = p
  · subst same
    exact ⟨(kept p).exchPending.trans pending, (kept p).exchStart.trans start, (kept p).removeAsked.trans remove⟩
  · obtain ⟨pendingK, startK, removeK⟩ := others ⟨k, hk⟩ fun h => same (congrArg Fin.val h)
    obtain ⟨pending', start', remove'⟩ := State.exchCancel_idle (s := u) (k := k) (by rw [logic]; exact pendingK)
      (by rw [logic]; exact startK) (by rw [logic]; exact removeK)
    exact ⟨(kept k).exchPending.trans pending', (kept k).exchStart.trans start', (kept k).removeAsked.trans remove'⟩

/-- Settles O23: an exchange that ends loads the home that the staged package gives, and with nothing else waiting it is
the last one; an exchange that is undone finds the package in force staged, so nothing waits. -/
theorem logicExchangesEndOrAreUndone : Obligations.LogicExchangesEndOrAreUndone := fun _ _ _ _ started staged =>
  ⟨logicExchangeDone_ends started staged, fun listed known => logicExchangeTimeout_undoes started listed known⟩

end Sys2Proof.Machine
end
